-- ==== Sys2Proof/Word.lean ====
section
/-! DEFINITION. The register word (R9) and the byte of the frame store and of protocol messages (R7). -/

namespace Sys2Proof

/-- A register, descriptor or manifest word: 64 bits (R9). -/
abbrev Word := BitVec 64

/-- A byte. -/
abbrev Byte := BitVec 8

end Sys2Proof
end

