-- ==== Sys2Proof/Syntax.lean ====
section
/-! DEFINITION. The commands of the block: one constructor per row of the opcode table, and the messages that some of them carry. Every command carries `t`, the instant of the model's clock in ns at which it comes (log entry 5). -/

namespace Sys2Proof

/-- A management source: the purser, the Ethernet port or the fabric tunnel (R9, R83, R177). -/
inductive Src where
  | purser | eth | tunnel
deriving DecidableEq, Repr

/-- A SEAM packet (R302, R303): the port it arrives on, SIDE, SLOT, DEPTH, the sender's exposure start, and its records, each a pixel row with 64 samples. -/
structure SeamMsg where
  port : Fin 8
  side : Fin 2
  slot : Fin 2
  depth : Fin 4
  start : Word
  recs : List (Nat × List Nat)
  crcOk : Bool
deriving DecidableEq, Repr

/-- A row slot start (R91): its instant, and the light on the pixels that the slot reads during their hold (R38), listed by 2 × pixel key, plus one for store B. -/
structure SlotLight where
  t : Nat
  light : List (Nat × Nat)
deriving DecidableEq, Repr

/-- How the store answers the reads of a line's processing (R184, R182): whether its history came late, and the stored words that took an error. -/
structure LineReads where
  late : Bool
  upsets : List (Nat × Bool)
deriving DecidableEq, Repr

/-- An edge of a direct trigger pin (R60, R61): its direction and how many ticks the pin has held its level since. -/
structure TriggerEdge where
  rise : Bool
  held : Nat
deriving DecidableEq, Repr

/-- A turn of one bundle's unloader (R190) and the stored words that took an error before its reads (R182). -/
structure UnloaderTurn where
  bundle : Fin 8
  upsets : List (Nat × Bool)
deriving DecidableEq, Repr

/-- A turn of the recall queue (R198): its instant and the stored words that took an error before its reads (R182). -/
structure RecallTurn where
  t : Nat
  upsets : List (Nat × Bool)
deriving DecidableEq, Repr

/-- One line of a ferry (R209) and the stored words that took an error before its read (R182). -/
structure FerryTurn where
  ferry : Fin 32
  upsets : List (Nat × Bool)
deriving DecidableEq, Repr

/-- What a RETURN block says (R246). -/
structure ReturnMsg where
  expect : BitVec 16
  nak : Bool
  lanesOk : BitVec 7
  req : Fin 4
  reqLane : Fin 8
  credN : BitVec 32
  credB : BitVec 32
deriving DecidableEq, Repr

/-- What a receiver CAP block says (R247). -/
structure CapMsg where
  dirRx : Bool
  version : BitVec 8
  pSink : Bool
  deskew : Fin 32
  initN : BitVec 16
  initB : BitVec 16
  resN : BitVec 8
  resB : BitVec 8
deriving DecidableEq, Repr

/-- A lane: lane `l` of bundle `b`, or fabric port `p` (R229, R281). -/
inductive LaneId where
  | lane (b : Fin 8) (l : Fin 7)
  | port (p : Fin 8)
deriving DecidableEq, Repr

/-- What trains together: a bundle or a fabric port (R265, R283). -/
inductive GroupId where
  | bundle (b : Fin 8)
  | port (p : Fin 8)
deriving DecidableEq, Repr

/-- A received training frame (R263, R283): its 32-bit control field, and for a fabric port whether the port's own receiver has bit lock and needs no further coefficient change. -/
structure TrainMsg where
  field : BitVec 32
  ownReady : Bool
deriving DecidableEq, Repr

/-- What the cryptographic checks 3 to 6 of R373 find for a slot. -/
structure SlotVerdict where
  keyOk : Bool
  sigOk : Bool
  bodyOk : Bool
  fwOk : Bool
deriving DecidableEq, Repr

/-- A Witrig request (R355): its header, the body between header and tag, the host it came from, and what the cryptographic checks find: the tag under the session's key, and for OPEN the hash of PUB, the signature and the point QH (R386). -/
structure WitrigMsg where
  magic : BitVec 16
  version : BitVec 8
  opcode : BitVec 8
  flags : BitVec 8
  target : BitVec 16
  reqId : BitVec 32
  session : BitVec 32
  ctr : Word
  expect : Word
  body : List Byte
  ip : BitVec 32
  port : BitVec 16
  tagOk : Bool
  keyOk : Bool
  sigOk : Bool
  pointOk : Bool
deriving DecidableEq, Repr

/-- A Witrig response (R355): the fields that the spec gives it. -/
structure WitrigResp where
  opcode : Nat
  status : Nat
  mac : Bool
  reqId : BitVec 32
  ctr : Word
  body : List Byte
deriving DecidableEq, Repr
/-- A HELLO block (R286). -/
structure HelloMsg where
  port : Fin 8
  adj : Bool
  addr : Fin 4096
  addrValid : Bool
  hseq : Fin 65536
  devid : Word
  lsaSeq : Fin 4294967296
  crcOk : Bool
deriving DecidableEq, Repr

/-- One link of an LSA: local port, neighbour port, delay in ps, neighbour (R288). -/
structure LsaLink where
  port : Fin 8
  peerPort : Fin 8
  delay : Nat
  peer : Word
deriving DecidableEq, Repr

/-- An LSA packet (R284, R288). -/
structure LsaMsg where
  src : Fin 4096
  devid : Word
  seq : Nat
  ptpLock : Bool
  hintEn : Bool
  hintX : Fin 64
  hintY : Fin 64
  links : List LsaLink
  hops : Nat
  crcOk : Bool
deriving DecidableEq, Repr

/-- An ASSIGN packet (R290): the sender's address, its number and the address of each device. -/
structure AssignMsg where
  src : Fin 4096
  seq : Nat
  entries : List (Word × Nat)
  hops : Nat
  crcOk : Bool
deriving DecidableEq, Repr

/-- A TIME block (R293); `rxFine` is its arrival in the receiver's fabric time and `txFine`, `echoFine` the carried times, all in units of 2⁻¹⁶ ns. -/
structure TimeMsg where
  tseq : Fin 65536
  echoSeq : Fin 65536
  txFine : Nat
  echoFine : Nat
  rxFine : Nat
  crcOk : Bool
deriving DecidableEq, Repr

/-- A TRIG block (R297). -/
structure TrigMsg where
  origin : Fin 4096
  ch : Fin 4
  hops : Fin 16
  tnum : Fin 65536
  instant : Word
  share : Fin 65536
  shareValid : Bool
  crcOk : Bool
deriving DecidableEq, Repr

/-- A SHARE packet (R300): its number K, the instant c and the ten shadow values. -/
structure ShareMsg where
  src : Fin 4096
  k : Fin 65536
  c : Word
  words : List Word
  hops : Nat
  crcOk : Bool
deriving DecidableEq, Repr

/-- A MGMT packet (R284, R305). -/
structure MgmtMsg where
  src : Fin 4096
  dst : Fin 4096
  hops : Fin 16
  handle : BitVec 32
  req : Option WitrigMsg
  resp : Option WitrigResp
  crcOk : Bool
deriving DecidableEq, Repr

/-- A DHCPv4 message from a server (RFC 2131): 0 offer, 1 acknowledgement, 2 refusal, 3 any other; and the options that R347 uses. -/
structure DhcpMsg where
  kind : Fin 4
  xid : BitVec 32
  ip : BitVec 32
  prefixLen : Fin 33
  gw : BitVec 32
  server : BitVec 32
  lease : Nat
  t1 : Option Nat
  t2 : Option Nat
deriving DecidableEq, Repr

/-- An ARP message (RFC 826): request or reply, sender and target addresses. -/
structure ArpMsg where
  reply : Bool
  senderIp : BitVec 32
  senderMac : BitVec 48
  targetIp : BitVec 32
deriving DecidableEq, Repr

/-- A received ICMP message (RFC 792): whether it is an echo request, its sender, identifier and sequence number, and payload. -/
structure IcmpMsg where
  echo : Bool
  ip : BitVec 32
  ident : BitVec 32
  payload : List Byte
deriving DecidableEq, Repr

/-- A received IEEE 1588 message (R351): domain, sender, sequenceId, twoStepFlag, logMessageInterval; its arrival `rxFine`, the time it carries and its correction, in units of 2⁻¹⁶ ns; whether requestingPortIdentity names this device; and the fields of an Announce. -/
structure PtpMsg where
  domain : BitVec 8
  source : Word
  sourcePort : BitVec 16
  seq : BitVec 16
  twoStep : Bool
  logInterval : Int
  rxFine : Nat
  origin : Nat
  correction : Int
  forUs : Bool
  priority1 : BitVec 8
  clockClass : BitVec 8
  accuracy : BitVec 8
  variance : BitVec 16
  priority2 : BitVec 8
  gm : Word
  steps : BitVec 16
  utcOffset : BitVec 16
  utcValid : Bool
deriving DecidableEq, Repr


/-- The commands (spec/opcode_table.json), in the table's order. -/
inductive Instr where
  /-- REGISTER_WRITE (R12). A management write to a register that has no row of its own takes effect according to each field's access type. -/
  | registerWrite (t : Nat) (src : Src) (addr : Nat) (val : Word)
  /-- SHADOW_WRITE (R142). A write to an RWS field is stamped on its arrival in the timetable island and stored in the shadow. -/
  | shadowWrite (t : Nat) (src : Src) (addr : Nat) (val : Word)
  /-- COMMIT (R143). A write of CFG_GW_COMMIT.COMMIT = 1 is stamped and stays pending until a gangway installs it or refuses it. -/
  | commit (t : Nat) (src : Src)
  /-- FORCE (R146). A write of CFG_GW_COMMIT.FORCE = 1 commits and requests an idle gangway at the stamp plus 8 ns, or acts as COMMIT. -/
  | force (t : Nat) (src : Src)
  /-- GANGWAY_SWAP (R147). At a frame's gangway close or swap instant, the timetable installs pending shadow writes with one settings-pointer flip. -/
  | gangwaySwap (t : Nat)
  /-- IDLE_GANGWAY (R145). An idle gangway at a commit's stamp plus 8 ns installs the commit without opening a frame and raises the generation. -/
  | idleGangway (t : Nat)
  /-- GRID_INSTANT (R55). A free-run grid instant schedules a frame or burst, or is skipped. -/
  | gridInstant (t : Nat)
  /-- EXPOSURE_START (R69). Each shutter group releases its drain gate at its stagger offset, and exposure starts. -/
  | exposureStart (t : Nat)
  /-- EXPOSURE_TRANSFER (R37). A cluster's transfer gate moves the photodiode charge into the selected store, and the drain gate turns on again 2 ns later. -/
  | exposureTransfer (t : Nat) (conv : Fin 33024) (charges : List (Nat × Nat))
  /-- MANIFEST_COMPLETION (R151). 128 ns after exposure end, the manifest receives its stamps, temperature and drop list, and the frame-start packet is queued. -/
  | manifestCompletion (t : Nat)
  /-- CONVERSION_PASS_START (R90). The 2,400 ns conversion overhead begins: the references leave hold and the row list is loaded. -/
  | conversionPassStart (t : Nat)
  /-- SLICE_ROTATION (R94). At 700 ns into the overhead, a converter that is due rotates its spare into position ROT_COUNT mod 4. -/
  | sliceRotation (t : Nat)
  /-- TAP_STEP (R115). At 750 ns into the overhead, each slice moves one tap by one step toward its target. -/
  | tapStep (t : Nat)
  /-- ROW_SLOT_START (R91). Each converter begins converting the next covered row of its row list. -/
  | rowSlotStart (slot : SlotLight)
  /-- SAMPLE_DELIVERY (R92). A converted, tagged sample reaches its stripe island within 50 ns of its bit decisions. -/
  | sampleDelivery (t : Nat)
  /-- CONVERSION_END (R51). The frame's last row slot ends at k_N, the converters return to hold, and the frame end is logged. -/
  | conversionEnd (t : Nat)
  /-- LINE_RELEASE (R139). A stripe releases a line once every row it needs has been converted, and processes it through the stages. -/
  | lineRelease (t : Nat) (ctx : Fin 3072) (line : Nat) (reads : LineReads)
  /-- LINE_ENTER_LANDING (R159). A processed line or line part enters its landing, the ford or a berth. -/
  | lineEnterLanding (t : Nat)
  /-- STATS_SNAPSHOT (R176). The per-context statistics records and the mean maps of a frame become complete and are published. -/
  | statsSnapshot (t : Nat)
  /-- MAP_DERIVATION_DONE (R75). The automatic exposure-map derivation completes within 8 µs of the snapshot. -/
  | mapDerivationDone (t : Nat)
  /-- SEAM_SEND (R304). The SEAM packets of a row slot are sent to the cabled neighbour. -/
  | seamSend (t : Nat) (right : Bool) (slot : Fin 2) (rslot : Fin 64) (half : Fin 2)
  /-- SEAM_RX (R302). A received SEAM packet supplies seam columns, or is discarded. -/
  | seamRx (t : Nat) (msg : SeamMsg)
  /-- SEAM_WAIT_TIMEOUT (R304). 3,000 ns after a line's release, missing seam rows are treated as unavailable. -/
  | seamWaitTimeout (t : Nat)
  /-- SW_TRIG_FIRE (R59). A write of 1 to TT_SW_TRIG.FIRE is a software trigger. -/
  | swTrigFire (t : Nat) (src : Src)
  /-- TRIGGER_PIN_EDGE (R60). A filtered edge on the direct trigger pin leaves the synchroniser at acceptance tick a; `held` is the number of further ticks for which the pin has held its new level (R61). -/
  | triggerPinEdge (t : Nat) (pin : Fin 64) (edge : TriggerEdge) (bcast : Bool)
  /-- SCHED_ARM (R64). A write of TT_SCHED_CTL.ARM = 1 arms the scheduled trigger. -/
  | schedArm (t : Nat) (src : Src)
  /-- SCHEDULED_FIRE (R64). The scheduled trigger fires on the first tick at or after its target and clears ARM. -/
  | scheduledFire (t : Nat)
  /-- DEFERRED_START (R63). A held overrun starts its frame on the first legal tick. -/
  | deferredStart (t : Nat)
  /-- ENCODER_COUNT (R65). A count event from the named engine updates TT_ENC_POS. -/
  | encoderCount (t : Nat) (engine : Fin 16) (up : Bool)
  /-- ENCODER_ZERO (R66). A write of 1 to TT_ENC_CTL.ZERO sets the position to 0 and TT_ENC_NEXT to PITCH forward. -/
  | encoderZero (t : Nat) (src : Src)
  /-- FABRIC_TRIGGER_ARRIVAL (R67). A trigger broadcast reaches the timetable island and starts exposure at its carried instant. -/
  | fabricTriggerArrival (t : Nat)
  /-- SUB_EXPOSURE_START (R79). A sub-exposure of an accumulation frame starts on its sub-period or its sub-trigger. -/
  | subExposureStart (t : Nat)
  /-- SUB_TIMEOUT (R79). With no sub-trigger within SUB_TIMEOUT, the accumulation frame closes with the sub-exposures it holds. -/
  | subTimeout (t : Nat)
  /-- STRIP_START (R80). A pacing event starts a strip, which may open an output frame. -/
  | stripStart (t : Nat)
  /-- PART_DETECT_EDGE (R80). A part-detect assertion or deassertion is stamped and governs strip grouping. -/
  | partDetectEdge (t : Nat) (level : Bool)
  /-- EVLOG_POP (R83). A write of 1 to TT_EVLOG_POP.POP removes the oldest event-log entry. -/
  | evlogPop (t : Nat) (src : Src)
  /-- EXPOSURE_MAP_WRITE (R77). A write to the shadow exposure map is stored, or is ignored while AUTO is 1. -/
  | exposureMapWrite (t : Nat) (src : Src) (word : Fin 8192) (val : Word)
  /-- INJ_REQ (R97). A write to CC_INJ_REQ requests an injected conversion for the named bands. -/
  | injReq (t : Nat) (src : Src) (bands : BitVec 32) (refsel : Fin 4)
  /-- INJECTED_CONVERSION_START (R97). The spare starts the injected conversion at the next column-step boundary of position 0. -/
  | injectedConversionStart (t : Nat) (band : Fin 32)
  /-- INJECTED_RESULT (R97). The injected result reaches the black-level tracker and is kept in CC_CONV. -/
  | injectedResult (t : Nat) (band : Fin 32) (code : Fin 4096) (others : List (Nat × Nat))
  /-- HK_ENTRY_DONE (R102). A housekeeping sequence entry completes, and its averaged result is written to HK_RES. -/
  | hkEntryDone (t : Nat) (value : Fin 65536)
  /-- HK_INJ (R103). A write to HK_INJ requests one conversion of a channel under a tag, or is rejected. -/
  | hkInj (t : Nat) (src : Src) (channel : Fin 16) (tag : Fin 4)
  /-- HK_INJ_DONE (R103). An injected housekeeping conversion completes, and its result is written to HK_INJ_RES. -/
  | hkInjDone (t : Nat) (code : Fin 4096)
  /-- HK_CALIBRATION (R104). Every CAL_PERIOD ms, the housekeeping converter calibrates its offset and gain. -/
  | hkCalibration (t : Nat) (ok : Bool)
  /-- CAL_BATCH_DONE (R110). A calibration batch on the spare completes and yields its mean. -/
  | calBatchDone (t : Nat) (conv : Fin 33024) (mean : Int)
  /-- CAL_TAP_WRITE (R123). A write to a CAL_TAP word sets its write fields and PEND, and sets RESTORE_PEND. -/
  | calTapWrite (t : Nat) (src : Src) (conv : Fin 33024) (slice : Fin 5) (val : Word)
  /-- UNLOADER_SEND (R190). A bundle's unloader sends berthed lines in sequence order when credit exists. -/
  | unloaderSend (t : Nat) (turn : UnloaderTurn)
  /-- MIRROR_WRITE_TIMEOUT (R184). A mirror write not served within 20 µs abandons the mirror copy. -/
  | mirrorWriteTimeout (t : Nat) (berth : Fin 1024)
  /-- BERTH_TABLE_WRITE (R185). A write to an FS_BERTH entry takes effect, or is ignored if that berth is not free. -/
  | berthTableWrite (t : Nat) (src : Src) (berth : Fin 1024) (val : Word)
  /-- RECALL_GO (R197). A write of 1 to FS_RC_GO submits the source's recall request, or sets RC_FULL. -/
  | recallGo (t : Nat) (src : Src)
  /-- RECALL_RUN (R198). A queued recall request locks its berth and sends the region as B-class traffic. -/
  | recallRun (turn : RecallTurn)
  /-- RECALL_POP (R199). A write of 1 to FS_RC_POP removes the oldest recall result. -/
  | recallPop (t : Nat) (src : Src)
  /-- STATS_RECORD_LATCH (R177). A read of word 0 of a statistics record latches that record for the reading source. -/
  | statsRecordLatch (t : Nat) (src : Src) (ctx : Fin 3072)
  /-- MEAN_MAP_LATCH (R177). A read of PIPE_MEAN_HDR latches the slot's mean map for the reading source. -/
  | meanMapLatch (t : Nat) (src : Src) (slot : Fin 2)
  /-- FERRY_KICK (R219). A write to FY_KICK starts a ferry's fetch, is held, or is ignored. -/
  | ferryKick (t : Nat) (src : Src) (ferry : Fin 32) (index : Fin 16384) (setPos : Bool)
  /-- FERRY_STOP (R220). Writing FY_CTL.EN = 0 stops the ferry and writes back its descriptor with ABORT. -/
  | ferryStop (t : Nat) (src : Src) (ferry : Fin 32)
  /-- FERRY_ENABLE (R220). Writing FY_CTL.EN = 1 returns a stopped ferry to idle at its position. -/
  | ferryEnable (t : Nat) (src : Src) (ferry : Fin 32)
  /-- DESCRIPTOR_FETCH (R206). A ferry fetches the descriptor at its position and runs it, or goes idle or starved. -/
  | descriptorFetch (t : Nat) (ferry : Fin 32)
  /-- PACING_WAIT_END (R213). A ferry's pacing wait ends after the named events, timer or completions. -/
  | pacingWaitEnd (t : Nat) (ferry : Fin 32)
  /-- SOURCE_LINE_MOVE (R209). A ferry reads a source line whole and writes it to its destination. -/
  | sourceLineMove (t : Nat) (turn : FerryTurn)
  /-- DESCRIPTOR_WRITEBACK (R216). The ferry writes back the descriptor's status, clears OWN and updates its registers. -/
  | descriptorWriteback (t : Nat) (ferry : Fin 32)
  /-- DELIVERY_REPORT (R218). A descriptor's delivery, or its discard, is reported in FY_DLV in descriptor order. -/
  | deliveryReport (t : Nat) (ferry : Fin 32)
  /-- FERRY_POLL (R219). An idle or starved ferry fetches again when its polling interval expires. -/
  | ferryPoll (t : Nat) (ferry : Fin 32)
  /-- CHAIN_HANDOVER (R222). A frame that has ended and is wholly berthed is handed to its ferry chain. -/
  | chainHandover (t : Nat) (ferry : Fin 32)
  /-- CHAIN_RUN_ABORT (R227). A dropped frame's chain run ends early, and each remaining descriptor is written back with ABORT. -/
  | chainRunAbort (t : Nat) (ferry : Fin 32)
  /-- PACKET_TRANSMIT (R241). At a packet boundary a bundle selects and sends the next P, replay, N, B or IDLE packet. -/
  | packetTransmit (t : Nat) (bundle : Fin 8)
  /-- ALIGN_ROUND (R234). Every 1,024th round carries ALIGN blocks with their trim on every forward lane; `stuffed` says, lane by lane, how many bits R233 inserted in the IDLE blocks of the rounds before it for which no command came (log entry 82). -/
  | alignRound (t : Nat) (bundle : Fin 8) (stuffed : List Nat)
  /-- RETURN_RX (R246). A valid RETURN block updates credit, acknowledgement, NAK and lane requests; `bits` are the bits of one block as they arrive on the L6 return, header and stuffed bits among them (R231 to R233). -/
  | returnRx (t : Nat) (bundle : Fin 8) (bits : List Bool)
  /-- ACK_TIMEOUT (R251). With no advance of EXPECT within ACK_TO, the device replays from its oldest buffered packet. -/
  | ackTimeout (t : Nat) (bundle : Fin 8)
  /-- CAP_SEND (R247). In the capability step the device sends a CAP on L6 every 1 µs. -/
  | capSend (t : Nat) (bundle : Fin 8)
  /-- CAP_RX (R247). A receiver CAP is accepted, which makes the bundle active, or is refused with CAP_BAD; `bits` are the bits of one block as they arrive on the L6 return. -/
  | capRx (t : Nat) (bundle : Fin 8) (bits : List Bool)
  /-- SHED_ROUND (R252). A SHED block is sent with the new mask, and dealing continues over the remaining lanes. -/
  | shedRound (t : Nat) (bundle : Fin 8)
  /-- BUNDLE_SHED_CMD (R252). A write of 1 to EG_BCTL.SHED sheds EG_BCTL.LANE. -/
  | bundleShedCmd (t : Nat) (src : Src) (bundle : Fin 8) (lane : Fin 8)
  /-- REJOIN_ROUND (R253). A REJOIN block is sent with the new mask, and the lane returns to the stream. -/
  | rejoinRound (t : Nat) (bundle : Fin 8)
  /-- BUNDLE_REJOIN_CMD (R253). A write of 1 to EG_BCTL.REJOIN rejoins the lane when its LANES_OK bit is 1. -/
  | bundleRejoinCmd (t : Nat) (src : Src) (bundle : Fin 8) (lane : Fin 8)
  /-- BLIND_TIMEOUT (R254). No valid RETURN for BLIND_TO makes the bundle blind. -/
  | blindTimeout (t : Nat) (bundle : Fin 8)
  /-- CREDIT_STALL_TIMEOUT (R248). A class that waits for credit for more than 10 µs sets CREDIT_STALL. -/
  | creditStallTimeout (t : Nat) (bundle : Fin 8) (isB : Bool)
  /-- BUNDLE_STOP (R256). Writing EG_BCTL.STOP = 1 stops the bundle at the next packet boundary and discards its queued lines. -/
  | bundleStop (t : Nat) (src : Src) (bundle : Fin 8)
  /-- BUNDLE_STOP_CLEAR (R271). Writing STOP = 0 resumes the bundle, through a burst if its lanes are moored. -/
  | bundleStopClear (t : Nat) (src : Src) (bundle : Fin 8)
  /-- BUNDLE_ENABLE (R273). Writing EG_BCTL.EN = 1 starts bring-up from DETECT, or a burst from a moored state. -/
  | bundleEnable (t : Nat) (src : Src) (bundle : Fin 8)
  /-- BUNDLE_DISABLE (R273). Writing EG_BCTL.EN = 0 ends transmission, and the lanes go to OFF or MOORED. -/
  | bundleDisable (t : Nat) (src : Src) (bundle : Fin 8)
  /-- DETECT_STEP (R260). Every DET_RETRY, a transmitter drives a common-mode step to detect a receiver. -/
  | detectStep (t : Nat) (lane : LaneId) (present : Bool)
  /-- TRAINING_FRAME_RX (R264). A valid return training frame carries coefficient requests and READY/CLOSE status. -/
  | trainingFrameRx (t : Nat) (bundle : Fin 8) (msg : TrainMsg)
  /-- COUNTDOWN_END (R265). After the frame with COUNTDOWN = 0, block-coded data begins, and the lanes enter LOCK. -/
  | countdownEnd (t : Nat) (group : GroupId)
  /-- TRAIN_TIMEOUT (R259). TRAIN lasting longer than TRAIN_TO returns all lanes to DETECT. -/
  | trainTimeout (t : Nat) (bundle : Fin 8)
  /-- LOCK_TIMEOUT (R267). No return block lock within LOCK_TO returns the bundle to DETECT. -/
  | lockTimeout (t : Nat) (bundle : Fin 8)
  /-- CAP_TIMEOUT (R267). No accepted receiver CAP within CAP_TO returns the bundle to DETECT. -/
  | capTimeout (t : Nat) (bundle : Fin 8)
  /-- FRAME_LOCK_GAIN (R261). Four correctly spaced markers with valid CHK give frame lock. -/
  | frameLockGain (t : Nat) (lane : LaneId)
  /-- FRAME_LOCK_LOSS (R261). Four consecutive bad frames lose frame lock. -/
  | frameLockLoss (t : Nat) (lane : LaneId)
  /-- BLOCK_LOCK_GAIN (R266). 64 consecutive valid headers give block lock. -/
  | blockLockGain (t : Nat) (lane : LaneId)
  /-- BLOCK_LOCK_LOSS (R266). 16 invalid headers out of the last 64 lose block lock. -/
  | blockLockLoss (t : Nat) (lane : LaneId)
  /-- RETRAIN_BURST (R269). A lane in OUT sends a 432-block burst that ends before an ALIGN round. -/
  | retrainBurst (t : Nat) (bundle : Fin 8) (lane : Fin 7)
  /-- REJOIN_RETRY_TIMEOUT (R269). No rejoin within REJOIN_RETRY of a burst causes another burst. -/
  | rejoinRetryTimeout (t : Nat) (bundle : Fin 8) (lane : Fin 7)
  /-- LANE_MOOR (R270). A lane enters electrical idle at its mooring instant. -/
  | laneMoor (t : Nat) (bundle : Fin 8)
  /-- MOOR_EXIT (R271). An exit cause starts a burst of 27 training frames on a moored lane. -/
  | moorExit (t : Nat) (bundle : Fin 8)
  /-- BURST_END (R271). A burst completes, and the lanes go to LOCK or OUT. -/
  | burstEnd (t : Nat) (bundle : Fin 8)
  /-- TXEQ_WRITE (R273). A write to LN_LTXEQ changes the coefficients at the next block or frame boundary. -/
  | txeqWrite (t : Nat) (src : Src) (bundle : Fin 8) (lane : Fin 7) (val : Word)
  /-- ERROR_INJECT (R276). A write to LN_LINJ injects pattern, payload or header errors. -/
  | errorInject (t : Nat) (src : Src) (lane : LaneId) (val : Word)
  /-- CHECKER_LOCK (R275). 64 matching bits lock the pattern checker. -/
  | checkerLock (t : Nat) (lane : LaneId)
  /-- CHECKER_LOCK_LOSS (R275). 64 errors within 1,024 bits lose checker lock, and the checker reseeds. -/
  | checkerLockLoss (t : Nat) (lane : LaneId) (errors : Nat)
  /-- PORT_TRAINING_FRAME_RX (R283). A fabric training frame carries the peer's requests, status and CLOSE. -/
  | portTrainingFrameRx (t : Nat) (port : Fin 8) (msg : TrainMsg)
  /-- PORT_TRAIN_TIMEOUT (R282). A fabric port in TRAIN for 50 ms returns to DETECT. -/
  | portTrainTimeout (t : Nat) (port : Fin 8)
  /-- PORT_LOCK_TIMEOUT (R282). A fabric port in LOCK for 10 ms returns to DETECT. -/
  | portLockTimeout (t : Nat) (port : Fin 8)
  /-- HELLO_SEND (R286). Every 1 ms, each port in LOCK or UP sends a HELLO. -/
  | helloSend (t : Nat) (port : Fin 8)
  /-- HELLO_RX (R287). A valid HELLO brings the port UP and forms or ends an adjacency. -/
  | helloRx (t : Nat) (port : Fin 8) (msg : HelloMsg)
  /-- ADJACENCY_TIMEOUT (R287). 3 ms without a valid HELLO ends the adjacency. -/
  | adjacencyTimeout (t : Nat) (port : Fin 8)
  /-- LSA_SEND (R288). A device floods its LSA on adjacency change and every 100 ms. -/
  | lsaSend (t : Nat)
  /-- LSA_RX (R288). A newer LSA updates the link database and is forwarded. -/
  | lsaRx (t : Nat) (port : Fin 8) (msg : LsaMsg)
  /-- LSA_EXPIRY (R288). An LSA not renewed within 400 ms is deleted. -/
  | lsaExpiry (t : Nat) (devid : Word)
  /-- ASSIGN_SEND (R290). The root floods address assignments every 100 ms and on change. -/
  | assignSend (t : Nat)
  /-- ASSIGN_RX (R290). A device takes its fabric address from the newest ASSIGN. -/
  | assignRx (t : Nat) (port : Fin 8) (msg : AssignMsg)
  /-- TIME_SEND (R293). Every 100 µs, each UP port sends a TIME block. -/
  | timeSend (t : Nat) (port : Fin 8)
  /-- TIME_RX (R293). A TIME exchange yields the offset and link delay, and the offset is slewed or a step is scheduled. -/
  | timeRx (t : Nat) (port : Fin 8) (msg : TimeMsg)
  /-- TRIG_FIRE (R297). A write of FB_GO.TRIG_FIRE = 1 fires a software trigger broadcast. -/
  | trigFire (t : Nat) (src : Src)
  /-- TRIG_RX (R298). The first valid copy of a TRIG is acted on and forwarded, and duplicates are counted. -/
  | trigRx (t : Nat) (port : Fin 8) (msg : TrigMsg)
  /-- SHARE_SEND (R300). A write of FB_GO.TTS_SEND = 1 sends a SHARE packet with the next share number. -/
  | shareSend (t : Nat) (src : Src)
  /-- SHARE_RX (R300). A SHARE packet is written into the shadows where RECV = 1, and is forwarded. -/
  | shareRx (t : Nat) (port : Fin 8) (msg : ShareMsg)
  /-- SHARE_COMMIT (R301). A share is committed at its share instant c. -/
  | shareCommit (t : Nat)
  /-- MGMT_RX (R305). A tunnelled management packet is executed, forwarded, returned as a response or dropped. -/
  | mgmtRx (t : Nat) (port : Fin 8) (msg : MgmtMsg)
  /-- REFERENCE_LOSS (R308). 160 ns without a reference edge sets the loss flag, and the loops enter holdover. -/
  | referenceLoss (t : Nat) (lane : Bool)
  /-- REFERENCE_RETURN (R308). 1,024 edges without a gap restore REF_OK, and the loops reacquire hitlessly. -/
  | referenceReturn (t : Nat) (lane : Bool)
  /-- PLL_CONFIG_WRITE (R313). Any write to CK_PLL restarts acquisition of that loop and stops its outputs. -/
  | pllConfigWrite (t : Nat) (src : Src) (loop : Fin 12) (val : Word)
  /-- BAND_TRY_TIMEOUT (R312). A band-table entry that does not pass within 200 µs moves acquisition to the next entry. -/
  | bandTryTimeout (t : Nat) (loop : Fin 12)
  /-- ACQUISITION_CHECK_PASS (R314). Two good counter windows end acquisition and start the loop's outputs. -/
  | acquisitionCheckPass (t : Nat) (loop : Fin 12) (diff : Fin 65536)
  /-- LOCK_WINDOW_END (R314). A lock-detect counter window ends and sets or clears LOCKED. -/
  | lockWindowEnd (t : Nat) (loop : Fin 12) (diff : Fin 65536)
  /-- LOCKDET_CROSSING (R315). The LOCKDET_RC land crossing 0.60 V or 0.30 V clears or sets LOCKED of loop 0. -/
  | lockdetCrossing (t : Nat) (high : Bool)
  /-- PLL_FLAG_AUTO_CLEAR (R318). After 10 ms of regained lock, the purser clears the loop's loss flag. -/
  | pllFlagAutoClear (t : Nat) (loop : Fin 12)
  /-- REF_FLAG_AUTO_CLEAR (R318). After 10 ms of a present reference with its loops locked, the purser clears the reference loss flag. -/
  | refFlagAutoClear (t : Nat) (lane : Bool)
  /-- PLL_AUTO_RESTART (R318). After 10 ms unlocked, the purser restarts the loop, up to 3 times, then gives up. -/
  | pllAutoRestart (t : Nat) (loop : Fin 12)
  /-- CLOCK_OUTPUT_WRITE (R321). A write to CK_OUT changes enable, divider, delay or source glitch-free at its edge. -/
  | clockOutputWrite (t : Nat) (src : Src) (out : Fin 6) (val : Word)
  /-- SYNCIN_EDGE (R322). A rising SYNCIN edge syncs the clock-output dividers. -/
  | syncinEdge (t : Nat)
  /-- CK_SYNC (R322). A write of CK_GO.SYNC = 1 syncs the outputs at once. -/
  | ckSync (t : Nat) (src : Src)
  /-- CK_ARM (R322). A write of CK_GO.ARM = 1 arms a sync at CK_SYNC_AT. -/
  | ckArm (t : Nat) (src : Src)
  /-- ARMED_SYNC_FIRE (R322). The armed sync fires on the first tick at or after CK_SYNC_AT, and ARM clears. -/
  | armedSyncFire (t : Nat)
  /-- NOP (R330). An engine executes NOP for 1 + DLY cycles. -/
  | nop (t : Nat) (engine : Fin 16)
  /-- JMP (R331). An engine jumps to TARGET when COND holds. -/
  | jmp (t : Nat) (engine : Fin 16) (lands : BitVec 64)
  /-- WAIT_PIN (R330). An engine completes WAIT pin when the pin reads POL. -/
  | waitPin (t : Nat) (engine : Fin 16) (lands : BitVec 64)
  /-- WAIT_FLAG (R335). An engine completes WAIT flag when the flag equals POL, clearing it with CLR. -/
  | waitFlag (t : Nat) (engine : Fin 16)
  /-- WAIT_EVENT (R330). An engine completes WAIT event when the event latch is set, and consumes it. -/
  | waitEvent (t : Nat) (engine : Fin 16)
  /-- SET_PIN (R330). SET pin writes a pin latch. -/
  | setPin (t : Nat) (engine : Fin 16)
  /-- SET_LC (R330). SET LC loads the loop counter. -/
  | setLc (t : Nat) (engine : Fin 16)
  /-- SET_SR_CLEAR (R330). SET SR clear zeroes SR and SC. -/
  | setSrClear (t : Nat) (engine : Fin 16)
  /-- SET_EVENT_CLEAR (R330). SET event clear clears the selected event latches. -/
  | setEventClear (t : Nat) (engine : Fin 16)
  /-- IN_PINS (R330). IN pins shifts pin levels into SR. -/
  | inPins (t : Nat) (engine : Fin 16) (lands : BitVec 64)
  /-- IN_DIN (R330). IN DIN shifts the DIN mailbox into SR once DIN is full, and empties DIN. -/
  | inDin (t : Nat) (engine : Fin 16)
  /-- IN_SERIAL (R332). IN serial shifts N bits in from a data pin under an internal or external clock. -/
  | inSerial (t : Nat) (engine : Fin 16) (bits : List Bool)
  /-- OUT_PINS (R330). OUT pins drives SR bits onto pins. -/
  | outPins (t : Nat) (engine : Fin 16)
  /-- OUT_DOUT (R330). OUT DOUT places SR bits in the DOUT mailbox once DOUT is empty. -/
  | outDout (t : Nat) (engine : Fin 16)
  /-- OUT_LC (R330). OUT LC loads LC from SR. -/
  | outLc (t : Nat) (engine : Fin 16)
  /-- OUT_SERIAL (R332). OUT serial shifts N bits out to a data pin. -/
  | outSerial (t : Nat) (engine : Fin 16) (edges : Nat)
  /-- PULSE (R330). PULSE holds a pin at POL for P cycles. -/
  | pulse (t : Nat) (engine : Fin 16)
  /-- IRQ_SET_FLAG (R335). IRQ with KIND 0 sets a shared flag. -/
  | irqSetFlag (t : Nat) (engine : Fin 16)
  /-- IRQ_CLEAR_FLAG (R335). IRQ with KIND 1 clears a shared flag. -/
  | irqClearFlag (t : Nat) (engine : Fin 16)
  /-- IRQ_HOST (R330). IRQ with KIND 2 sets a bit of PIO_HOSTIRQ. -/
  | irqHost (t : Nat) (engine : Fin 16)
  /-- IRQ_TIMETABLE (R333). IRQ with KIND 3 sends a trigger, count or part-detect event to the timetable. -/
  | irqTimetable (t : Nat) (engine : Fin 16)
  /-- ILLEGAL_INSTRUCTION (R337). Fetching an illegal instruction puts the engine in FAULT. -/
  | illegalInstruction (t : Nat) (engine : Fin 16)
  /-- ENGINE_RESTART (R340). A write of PIO_ECMD.RESTART = 1 restarts the engine at START. -/
  | engineRestart (t : Nat) (src : Src) (engine : Fin 16)
  /-- ENGINE_KICK (R334). A write of PIO_ECMD.KICK = 1 raises event 6 in the engine. -/
  | engineKick (t : Nat) (src : Src) (engine : Fin 16)
  /-- DOUT_ACK (R336). A write of PIO_ECMD.DOUT_ACK = 1 empties DOUT. -/
  | doutAck (t : Nat) (src : Src) (engine : Fin 16)
  /-- DIN_DROP (R336). A write of PIO_ECMD.DIN_DROP = 1 empties DIN. -/
  | dinDrop (t : Nat) (src : Src) (engine : Fin 16)
  /-- PIO_DIN_WRITE (R336). A write to PIO_DIN fills the mailbox, or is ignored when DIN is full. -/
  | pioDinWrite (t : Nat) (src : Src) (engine : Fin 16) (val : Word)
  /-- PIO_INJ_WRITE (R339). A write to PIO_INJ offers an instruction to the engine, or is lost. -/
  | pioInjWrite (t : Nat) (src : Src) (engine : Fin 16) (val : Word)
  /-- INJECTION_EXECUTE (R339). The engine executes or refuses an injected instruction at its next allowed boundary. -/
  | injectionExecute (t : Nat) (engine : Fin 16) (lands : BitVec 64) (bits : List Bool)
  /-- FLAG_SET (R335). A write to PIO_FLAG_SET sets flags. -/
  | flagSet (t : Nat) (src : Src) (val : Word)
  /-- FLAG_CLR (R335). A write to PIO_FLAG_CLR clears flags. -/
  | flagClr (t : Nat) (src : Src) (val : Word)
  /-- ENGINE_RUN (R340). Setting PIO_ECTL.RUN from 0 to 1 continues the engine at PC. -/
  | engineRun (t : Nat) (src : Src) (engine : Fin 16)
  /-- ENGINE_STOP (R340). Setting RUN from 1 to 0 stops the engine at its next allowed boundary. -/
  | engineStop (t : Nat) (src : Src) (engine : Fin 16)
  /-- PIO_PROG_WRITE (R338). A write to a program slot takes effect at the next fetch of that slot. -/
  | pioProgWrite (t : Nat) (src : Src) (engine : Fin 16) (slot : Fin 32) (val : Word)
  /-- BANK_SUPPLY_LOSS (R394). A PIO bank supply below 1.0 V makes its pins read 0 and turns its outputs off. -/
  | bankSupplyLoss (t : Nat) (bank : Fin 2)
  /-- LINK_UP (R344). The Ethernet link comes up on PCS block lock with RX_LOS low. -/
  | linkUp (t : Nat) (modAbs : Bool) (rxLos : Bool) (txFault : Bool)
  /-- LINK_DOWN (R344). A fall of the link sets LINK_DOWN and discards admitted preview frames. -/
  | linkDown (t : Nat) (modAbs : Bool) (rxLos : Bool) (txFault : Bool)
  /-- WITRIG_REQUEST_RX (R354). A Witrig datagram is queued, dropped, tunnelled or executed locally. -/
  | witrigRequestRx (t : Nat) (msg : WitrigMsg) (short : Bool)
  /-- READ (R356). Witrig READ returns COUNT consecutive registers. -/
  | read (t : Nat) (src : Src) (lands : BitVec 64)
  /-- WRITE (R357). Witrig WRITE performs authenticated register writes in order until the first failure. -/
  | write (t : Nat) (src : Src)
  /-- NODES (R356). Witrig NODES returns the target's node table. -/
  | nodes (t : Nat) (src : Src)
  /-- CHALLENGE (R386). SESSION CHALLENGE returns a fresh nonce under a challenge identifier. -/
  | challenge (t : Nat) (src : Src)
  /-- OPEN (R386). SESSION OPEN verifies the host key and signature and opens a session. -/
  | openSession (t : Nat) (src : Src)
  /-- CLOSE (R388). SESSION CLOSE closes the session after the response is sent. -/
  | closeSession (t : Nat) (src : Src)
  /-- ATTEST (R384). SESSION ATTEST returns the boot state signed with the identity key. -/
  | attest (t : Nat) (src : Src)
  /-- SESSION_IDLE_TIMEOUT (R388). A session closes after 300 s without an accepted authenticated request. -/
  | sessionIdleTimeout (t : Nat) (session : Fin 4)
  /-- DHCP_RX (R347). A DHCPv4 message advances the client, binding or renewing a lease. -/
  | dhcpRx (t : Nat) (msg : DhcpMsg)
  /-- DHCP_FALLBACK_TIMEOUT (R347). With no lease 30 s after link up in IP_MODE 2, the static address is used. -/
  | dhcpFallbackTimeout (t : Nat)
  /-- DHCP_LEASE_EXPIRY (R347). An expired lease withdraws the address, and discovery restarts. -/
  | dhcpLeaseExpiry (t : Nat)
  /-- ETH_ADDRESS_WRITE (R347). A write to ETH_IP, ETH_GW or IP_MODE takes effect at the next datagram boundary and clears the ARP cache. -/
  | ethAddressWrite (t : Nat) (src : Src) (addr : Nat) (val : Word)
  /-- ARP_RX (R348). An ARP request or reply is answered or cached, and a conflict is flagged. -/
  | arpRx (t : Nat) (msg : ArpMsg)
  /-- ARP_RETRY_TIMEOUT (R348). An unanswered ARP request is repeated 1 s later, up to 3 times. -/
  | arpRetryTimeout (t : Nat) (ip : Nat)
  /-- ARP_ANNOUNCE (R348). Two announcements 2 s apart are sent on every new address. -/
  | arpAnnounce (t : Nat)
  /-- ARP_ENTRY_AGEOUT (R348). An ARP cache entry is aged out after 300 s. -/
  | arpEntryAgeout (t : Nat) (ip : Nat)
  /-- ICMP_ECHO_REQUEST (R349). An ICMP echo request is answered when ICMP_EN = 1. -/
  | icmpEchoRequest (t : Nat) (msg : IcmpMsg)
  /-- PTP_ANNOUNCE_RX (R351). An Announce message feeds the best master clock algorithm. -/
  | ptpAnnounceRx (t : Nat) (msg : PtpMsg)
  /-- PTP_SYNC_RX (R351). A two-step Sync is timestamped. -/
  | ptpSyncRx (t : Nat) (msg : PtpMsg)
  /-- PTP_FOLLOW_UP_RX (R353). A Follow_Up completes an offset measurement, which the root applies. -/
  | ptpFollowUpRx (t : Nat) (msg : PtpMsg)
  /-- PTP_DELAY_REQ_SEND (R352). Delay_Req is sent at the interval the master requests. -/
  | ptpDelayReqSend (t : Nat)
  /-- PTP_DELAY_RESP_RX (R352). A Delay_Resp completes the path-delay measurement. -/
  | ptpDelayRespRx (t : Nat) (msg : PtpMsg)
  /-- PTP_ANNOUNCE_TIMEOUT (R353). No completed Sync within announceReceiptTimeout loses 1588 lock. -/
  | ptpAnnounceTimeout (t : Nat)
  /-- ETH_FRAME_TRANSMIT (R350). At a frame boundary the transmitter sends the highest-priority ready frame. -/
  | ethFrameTransmit (t : Nat)
  /-- PREVIEW_DATAGRAM_SEND (R364). A preview start, line or end datagram is sent within the rate limit. -/
  | previewDatagramSend (t : Nat)
  /-- POWER_ON (R394). All core rails have been above their brown-out thresholds for 5 ms with RESET_N high, and the device leaves reset. -/
  | powerOn (t : Nat)
  /-- BROWN_OUT (R394). A core rail below its threshold for more than 2 µs resets the device with cause 0. -/
  | brownOut (t : Nat)
  /-- RESET_N_LOW (R405). RESET_N held low for at least 1 µs resets the device with cause 1. -/
  | resetNLow (t : Nat) (held : Nat)
  /-- WATCHDOG_TIMEOUT (R366). A purser watchdog not serviced for 1 s resets the device with cause 3. -/
  | watchdogTimeout (t : Nat)
  /-- ROM_STAGE (R367). After reset, the ROM reads OTP, and loops 0 and 1 acquire. -/
  | romStage (t : Nat)
  /-- IMAGE_SELECTION (R374). The purser reads the slot headers and selects and verifies the highest valid image. -/
  | imageSelection (t : Nat) (sfdpOk : Bool) (density : Nat) (mhz : Nat) (verdicts : List SlotVerdict)
  /-- STAGED_START_EVENT (R368). A block is powered at its fixed offset from the start of staged start. -/
  | stagedStartEvent (t : Nat)
  /-- APPLY_IMAGE (R378). The purser applies the body records, commits and sets boot lock. -/
  | applyImage (t : Nat) (secondOk : Bool)
  /-- PORT_RELEASE (R369). After boot lock, bundles and fabric port groups are released 200 µs apart. -/
  | portRelease (t : Nat)
  /-- RESET (R366). A write of CFG_BOOT_CTL.RESET = 1 resets the device with cause 2. -/
  | resetCmd (t : Nat) (src : Src)
  /-- ROLLBACK (R376). A write of CFG_BOOT_CTL.ROLLBACK = 1 rejects the booted slot and resets, or is refused. -/
  | rollback (t : Nat) (src : Src)
  /-- CONFIRM (R375). A write of CFG_BOOT_CTL.CONFIRM = 1 confirms the boot and programs GOOD. -/
  | confirm (t : Nat) (src : Src)
  /-- CONFIRM_TIMEOUT (R375). No host confirmation within CONFIRM_TO × 10 s resets the device with cause 5. -/
  | confirmTimeout (t : Nat)
  /-- THERMAL_RECOVERY_BOOT (R389). After a thermal trip, the boot starts once the logic sensors read 10 °C below TRIP. -/
  | thermalRecoveryBoot (t : Nat)
  /-- FLASH_ERASE (R381). CFG_FL_CMD OP 1 erases a 64 KiB block, or is refused. -/
  | flashErase (t : Nat) (src : Src)
  /-- FLASH_PROGRAM (R381). CFG_FL_CMD OP 2 programs 4 KiB from the buffer, or is refused. -/
  | flashProgram (t : Nat) (src : Src)
  /-- FLASH_READ (R381). CFG_FL_CMD OP 3 reads 4 KiB into the buffer. -/
  | flashRead (t : Nat) (src : Src)
  /-- FLASH_CHECK (R381). CFG_FL_CMD OP 4 checks a slot under R373. -/
  | flashCheck (t : Nat) (src : Src) (slot : Fin 4) (verdict : SlotVerdict)
  /-- FLASH_COMMAND_DONE (R381). A flash command finishes, clears BUSY and reports ERR. -/
  | flashCommandDone (t : Nat) (failed : Bool)
  /-- KEY_ADD (R382). SEC_KEY_CTL.ADD = 1 programs SEC_KEY_NEW into the lowest free OTP entry, or sets FULL. -/
  | keyAdd (t : Nat) (src : Src)
  /-- KEY_REVOKE (R382). SEC_KEY_CTL.REVOKE = 1 revokes an entry and closes its sessions, or is refused. -/
  | keyRevoke (t : Nat) (src : Src) (entry : Fin 4)
  /-- OTP_PROGRAM_DONE (R382). OTP programming completes within 10 ms, and BUSY clears. -/
  | otpProgramDone (t : Nat)
  /-- EXTEST (R408). The TAP instruction EXTEST drives the boundary register onto the lands while RESET_N is low. -/
  | extest (t : Nat) (resetLow : Bool)
  /-- IDCODE (R408). The TAP instruction IDCODE selects the device identification register. -/
  | idcode (t : Nat)
  /-- SAMPLE_PRELOAD (R408). The TAP instruction SAMPLE/PRELOAD captures or preloads the boundary register. -/
  | samplePreload (t : Nat) (bsr : List Bool)
  /-- CLAMP (R409). The TAP instruction CLAMP holds the lands from the boundary register while RESET_N is low. -/
  | clamp (t : Nat) (resetLow : Bool)
  /-- HIGHZ (R409). The TAP instruction HIGHZ sets the lands to high impedance while RESET_N is low. -/
  | highz (t : Nat) (resetLow : Bool)
  /-- BYPASS (R408). The TAP instruction BYPASS, and every unlisted code, selects the bypass register. -/
  | bypass (t : Nat)
  /-- BANK_SUPPLY_RETURN (R394). A PIO bank supply that rises back above 1.0 V makes its pins read their levels again, turns its outputs back on, and lets its triggers, counts and part-detect edges arrive again. -/
  | bankSupplyReturn (t : Nat) (bank : Fin 2)
  /-- DHCP_CLIENT_TIMER (R347). A DHCPv4 client timer (discovery retransmission, renewal T1 or rebinding T2 from options 58 and 59) expires and the client sends its next message. -/
  | dhcpClientTimer (t : Nat)
  /-- TEST_LOGIC_RESET (R409). The TAP enters Test-Logic-Reset, through TRST_N low or TMS held high, which selects IDCODE and releases lands held by EXTEST, CLAMP or HIGHZ so that a device held in reset can boot. -/
  | testLogicReset (t : Nat)
deriving DecidableEq, Repr

end Sys2Proof
end

