-- ==== Sys2Proof/Config.lean ====
section
/-! DEFINITION. The free values: constants without a body, so that nothing in Lean can evaluate them. A statement about one holds whatever it is. The state's counter `free` is the argument, so every use takes a fresh value (log entry 4). -/

namespace Sys2Proof.Config

/-- A value the spec leaves open, as a natural number. -/
opaque freeNat : Nat → Nat

/-- A 64-bit value the spec leaves open: nonces, session identifiers, keys, signatures. -/
opaque freeWord : Nat → Word

/-- A choice the spec leaves open. -/
opaque freeBool : Nat → Bool

/-- Phase of the rising edges of REFCLK, and of LREFCLK (`true`), against the model's clock, in units of 1/7 ns. -/
opaque refPhase : Bool → Nat

/-- The 4 × 4 ordered dither of R162 at a pixel position, of which the spec gives only the range. -/
opaque dither : Nat → Nat → Nat

/-- The merge of R169 where GAIN_RATIO = 0 would have to be inverted, for the values of slots A and B. -/
opaque mergeRatio : Int → Int → Int

end Sys2Proof.Config
end

