-- ==== Sys2Proof/Machine/RegMap.lean ====
section
/-! DEFINITION. The register map: every register of the spec, its addresses, access masks, reset word (R9 to R12, R15 and the register tables of each chapter) and its named bit fields. The table is written out from the register and bit tables of spec/. -/

namespace Sys2Proof.Machine

/-- One bit field of a 64-bit register (R6). -/
structure Field where
  lo : Nat
  width : Nat
deriving DecidableEq, Repr

/-- How the reset word of a register block is found: one word for all, or by the index (PWR_LIM R390, CTX_CTL R127, PIPE_CURVE R181, FS_BERTH R186). -/
inductive ResetRule where
  | const | pwrLim | ctxCtl | curve | berth
deriving DecidableEq, Repr

/-- A register block: base address, array dimensions (count, stride) and the bits of each access type (R12). Bits in no mask are reserved (R10). -/
structure RegDef where
  name : String
  base : Nat
  dims : List (Nat × Nat)
  rw : Nat
  w1c : Nat
  rws : Nat
  rwl : Nat
  reset : Nat
  rule : ResetRule
deriving DecidableEq, Repr

/-- Part 0 of the register table. -/
def regTable0 : List RegDef := [
  ⟨"ID_PART", 0, [], 0, 0, 0, 0, 0x4c53134200000100, .const⟩,
  ⟨"ID_DEVID", 0x8, [], 0, 0, 0, 0, 0, .const⟩,
  ⟨"ID_SCRATCH", 0x10, [], 0xffffffffffffffff, 0, 0, 0, 0, .const⟩,
  ⟨"PWR_STAT", 0x10000, [], 0, 0xffff00, 0, 0, 0, .const⟩,
  ⟨"PWR_SUP", 0x10008, [], 0x1fff, 0, 0, 0, 0x1ac0, .const⟩,
  ⟨"PWR_LIM", 0x10100, [(16, 0x8)], 0xffffffff, 0, 0, 0, 0, .pwrLim⟩,
  ⟨"HK_CFG", 0x18000, [], 0x1fffff, 0, 0, 0, 0x100649, .const⟩,
  ⟨"HK_SEQ", 0x18008, [], 0xffffffffffffffff, 0, 0, 0, 0xfedcba9876543210, .const⟩,
  ⟨"HK_INJ", 0x18010, [], 0, 0, 0, 0, 0, .const⟩,
  ⟨"HK_STATUS", 0x18018, [], 0, 0x50f, 0, 0, 0, .const⟩,
  ⟨"HK_INJ_RES", 0x18020, [(4, 0x8)], 0, 0, 0, 0, 0, .const⟩,
  ⟨"HK_RES", 0x18040, [(16, 0x8)], 0, 0, 0, 0, 0, .const⟩,
  ⟨"CK_STATUS", 0x20000, [], 0, 0x7fff, 0, 0, 0, .const⟩,
  ⟨"CK_POLICY", 0x20008, [], 0x3, 0xfff0000, 0, 0, 0x3, .const⟩,
  ⟨"CK_GO", 0x20010, [], 0, 0, 0, 0, 0, .const⟩,
  ⟨"CK_SYNC_AT", 0x20018, [], 0xffffffffffffffff, 0, 0, 0, 0, .const⟩,
  ⟨"CK_SYNC_TIME", 0x20020, [], 0, 0, 0, 0, 0, .const⟩,
  ⟨"CK_PLL", 0x20100, [(12, 0x10)], 0x3ff, 0, 0, 0, 0xa0, .const⟩,
  ⟨"CK_PSTAT", 0x20108, [(12, 0x10)], 0, 0, 0, 0, 0x2, .const⟩,
  ⟨"CK_BAND", 0x20400, [(64, 0x8)], 0, 0, 0, 0xfffffffffff, 0, .const⟩,
  ⟨"CK_OUT", 0x20800, [(6, 0x8)], 0xffffff, 0, 0, 0, 0x800000, .const⟩,
  ⟨"TT_MODE", 0x40000, [], 0, 0, 0x1ff, 0, 0, .const⟩,
  ⟨"TT_EXP_A", 0x40008, [], 0, 0, 0x1fffffff, 0, 0xc350, .const⟩,
  ⟨"TT_EXP_B", 0x40010, [], 0, 0, 0x1fffffff, 0, 0x186a, .const⟩]

/-- Part 1 of the register table. -/
def regTable1 : List RegDef := [
  ⟨"TT_PERIOD", 0x40018, [], 0, 0, 0xffffffff, 0, 0x14585, .const⟩,
  ⟨"TT_ANCHOR", 0x40020, [], 0, 0, 0xffffffffffffffff, 0, 0, .const⟩,
  ⟨"TT_TRIG_CFG", 0x40028, [], 0, 0, 0x3ffff, 0, 0, .const⟩,
  ⟨"TT_TRIG_DELAY", 0x40030, [], 0, 0, 0x1fffffff, 0, 0, .const⟩,
  ⟨"TT_SW_TRIG", 0x40038, [], 0, 0, 0, 0, 0, .const⟩,
  ⟨"TT_SCHED_TIME", 0x40040, [], 0xffffffffffffffff, 0, 0, 0, 0, .const⟩,
  ⟨"TT_SCHED_CTL", 0x40048, [], 0x1, 0, 0, 0, 0, .const⟩,
  ⟨"TT_ENC_CFG", 0x40050, [], 0, 0, 0x1fffffff, 0, 0x20, .const⟩,
  ⟨"TT_ENC_POS", 0x40058, [], 0, 0, 0, 0, 0, .const⟩,
  ⟨"TT_ENC_NEXT", 0x40060, [], 0, 0, 0, 0, 0x1, .const⟩,
  ⟨"TT_ENC_CTL", 0x40068, [], 0, 0, 0, 0, 0, .const⟩,
  ⟨"TT_ACCUM", 0x40070, [], 0, 0, 0x7fffffffffffffff, 0, 0, .const⟩,
  ⟨"TT_BURST", 0x40078, [], 0, 0, 0xffffffffffff, 0, 0x145850001, .const⟩,
  ⟨"TT_STRIP", 0x40080, [], 0, 0, 0x3ffffffffff, 0, 0x4000400, .const⟩,
  ⟨"TT_MAP_CFG", 0x40088, [], 0, 0, 0x3fffffffffff, 0, 0x3fe001404006, .const⟩,
  ⟨"TT_MAP_SRC", 0x40090, [], 0, 0, 0, 0, 0, .const⟩,
  ⟨"TT_STATUS", 0x40098, [], 0, 0x7f, 0, 0, 0, .const⟩,
  ⟨"TT_CNT_TRIG", 0x400a0, [], 0, 0, 0, 0, 0, .const⟩,
  ⟨"TT_CNT_FRAME", 0x400a8, [], 0, 0, 0, 0, 0, .const⟩,
  ⟨"TT_EVLOG_TIME", 0x400b0, [], 0, 0, 0, 0, 0, .const⟩,
  ⟨"TT_EVLOG_INFO", 0x400b8, [], 0, 0, 0, 0, 0, .const⟩,
  ⟨"TT_EVLOG_POP", 0x400c0, [], 0, 0, 0, 0, 0, .const⟩,
  ⟨"TT_PIX_CFG", 0x70000, [], 0, 0, 0x3, 0, 0, .const⟩,
  ⟨"TT_MAP", 0x80000, [(8192, 0x8)], 0, 0, 0x1ff01ff01ff01ff, 0, 0, .const⟩]

/-- Part 2 of the register table. -/
def regTable2 : List RegDef := [
  ⟨"TT_MAP_USE", 0x90000, [(8192, 0x8)], 0, 0, 0, 0, 0, .const⟩,
  ⟨"CC_CFG", 0x100000, [], 0, 0, 0x7ff, 0, 0x400, .const⟩,
  ⟨"CC_ROT_CFG", 0x100008, [], 0x1ff, 0, 0, 0, 0x3, .const⟩,
  ⟨"CC_INJ_CFG", 0x100010, [], 0, 0, 0xfff, 0, 0x40, .const⟩,
  ⟨"CC_INJ_REQ", 0x100018, [], 0, 0, 0, 0, 0, .const⟩,
  ⟨"CC_STATUS", 0x100020, [], 0, 0x3, 0, 0, 0x27100004, .const⟩,
  ⟨"CC_CNT", 0x100028, [], 0, 0, 0, 0, 0, .const⟩,
  ⟨"CC_CONV", 0x110000, [(33024, 0x8)], 0, 0, 0, 0, 0x3444, .const⟩,
  ⟨"CAL_CFG", 0x200000, [], 0, 0, 0x1fff, 0, 0x10d, .const⟩,
  ⟨"CAL_STATUS", 0x200008, [], 0, 0xc, 0, 0, 0, .const⟩,
  ⟨"CAL_EPOCH", 0x200010, [], 0, 0, 0, 0, 0, .const⟩,
  ⟨"CAL_CNT", 0x200018, [], 0, 0, 0, 0, 0, .const⟩,
  ⟨"CAL_TAP", 0x220000, [(33024, 0x40), (5, 0x8)], 0, 0, 0xfffff0000000000, 0, 0x2800008000080000, .const⟩,
  ⟨"CAL_REC", 0x220028, [(33024, 0x40)], 0, 0, 0, 0, 0, .const⟩,
  ⟨"CAL_TIME", 0x220030, [(33024, 0x40)], 0, 0, 0, 0, 0, .const⟩,
  ⟨"CTX_CTL", 0x800000, [(3072, 0x100)], 0, 0, 0x3ffff, 0, 0x38400, .ctxCtl⟩,
  ⟨"CTX_WIN", 0x800008, [(3072, 0x100)], 0, 0, 0x3fff7fff1fff3fff, 0, 0x2000400000000000, .const⟩,
  ⟨"CTX_DEST", 0x800010, [(3072, 0x100)], 0, 0, 0xffff03, 0, 0x4ff02, .const⟩,
  ⟨"CTX_CHAIN", 0x800018, [(3072, 0x100)], 0, 0, 0xfffff, 0, 0, .const⟩,
  ⟨"CTX_ST0", 0x800080, [(3072, 0x100)], 0, 0, 0, 0, 0, .const⟩,
  ⟨"CTX_ST1", 0x800088, [(3072, 0x100)], 0, 0, 0, 0, 0, .const⟩,
  ⟨"PIPE_CFG", 0x1000000, [], 0, 0, 0xf, 0, 0x1, .const⟩,
  ⟨"PIPE_NR", 0x1000008, [], 0, 0, 0x7ffffffff, 0, 0x202800200, .const⟩,
  ⟨"PIPE_CLAMP", 0x1000010, [], 0, 0, 0x7ffffff, 0, 0x200191, .const⟩]

/-- Part 3 of the register table. -/
def regTable3 : List RegDef := [
  ⟨"PIPE_HDR", 0x1000018, [], 0, 0, 0xffffffffffff, 0, 0x8000ea60bb80, .const⟩,
  ⟨"PIPE_STATUS", 0x1000020, [], 0, 0x5f, 0, 0, 0, .const⟩,
  ⟨"PIPE_CNT", 0x1000028, [], 0, 0, 0, 0, 0, .const⟩,
  ⟨"PIPE_LOAD", 0x1000030, [], 0, 0, 0, 0, 0, .const⟩,
  ⟨"PIPE_BLACK", 0x1001000, [(32, 0x10), (2, 0x8)], 0, 0, 0, 0, 0, .const⟩,
  ⟨"PIPE_CURVE", 0x1002000, [(4, 0x200), (33, 0x8)], 0, 0, 0xffffffffff, 0, 0, .curve⟩,
  ⟨"PIPE_CURVE_OFS", 0x1002108, [(4, 0x200)], 0, 0, 0xffffff, 0, 0, .const⟩,
  ⟨"PIPE_DEFECT", 0x1004000, [(4096, 0x8)], 0, 0, 0xc00000001fff3fff, 0, 0, .const⟩,
  ⟨"PIPE_FPN", 0x1100000, [(32768, 0x8)], 0, 0, 0xffffffffffffffff, 0, 0x4000000040000000, .const⟩,
  ⟨"PIPE_STATS", 0x1400000, [(3072, 0x800), (256, 0x8)], 0, 0, 0, 0, 0, .const⟩,
  ⟨"PIPE_MEAN_HDR", 0x1a00000, [(2, 0x8)], 0, 0, 0, 0, 0, .const⟩,
  ⟨"PIPE_MEAN", 0x1a10000, [(2, 0x20000), (8256, 0x8)], 0, 0, 0, 0, 0xffffffffffffffff, .const⟩,
  ⟨"FS_CFG", 0x2000000, [], 0x1, 0, 0, 0, 0x1, .const⟩,
  ⟨"FS_STATUS", 0x2000008, [], 0, 0x1f, 0, 0, 0x290000, .const⟩,
  ⟨"FS_CNT", 0x2000010, [], 0, 0, 0, 0, 0, .const⟩,
  ⟨"FS_MIRROR", 0x2000100, [(48, 0x8)], 0, 0, 0xffffffffffffffff, 0, 0, .const⟩,
  ⟨"FS_RC_KEY", 0x2000400, [], 0xfffffffffffffff, 0, 0, 0, 0, .const⟩,
  ⟨"FS_RC_LINES", 0x2000408, [], 0xffffffffffffffff, 0, 0, 0, 0, .const⟩,
  ⟨"FS_RC_COLS", 0x2000410, [], 0xff077fff7fff, 0, 0, 0, 0, .const⟩,
  ⟨"FS_RC_GO", 0x2000418, [], 0, 0, 0, 0, 0, .const⟩,
  ⟨"FS_RC_RES", 0x2000420, [], 0, 0, 0, 0, 0, .const⟩,
  ⟨"FS_RC_POP", 0x2000428, [], 0, 0, 0, 0, 0, .const⟩,
  ⟨"FS_BERTH", 0x2010000, [(1024, 0x10)], 0xfffff0001ffff, 0, 0, 0, 0, .berth⟩,
  ⟨"FS_BSTATE", 0x2010008, [(1024, 0x10)], 0, 0, 0, 0, 0, .const⟩]

/-- Part 4 of the register table. -/
def regTable4 : List RegDef := [
  ⟨"FY_DONE", 0x3000000, [], 0, 0xffffffff, 0, 0, 0, .const⟩,
  ⟨"FY_ERR", 0x3000008, [], 0, 0xffffffff, 0, 0, 0, .const⟩,
  ⟨"FY_BUSY", 0x3000010, [], 0, 0, 0, 0, 0, .const⟩,
  ⟨"FY_CTL", 0x3001000, [(32, 0x40)], 0x1fff, 0, 0, 0, 0x51, .const⟩,
  ⟨"FY_KICK", 0x3001008, [(32, 0x40)], 0, 0, 0, 0, 0, .const⟩,
  ⟨"FY_STAT", 0x3001010, [(32, 0x40)], 0, 0x40000000000, 0, 0, 0, .const⟩,
  ⟨"FY_LAST", 0x3001018, [(32, 0x40)], 0, 0, 0, 0, 0, .const⟩,
  ⟨"FY_TIME", 0x3001020, [(32, 0x40)], 0, 0, 0, 0, 0, .const⟩,
  ⟨"FY_CNT", 0x3001028, [(32, 0x40)], 0, 0, 0, 0, 0, .const⟩,
  ⟨"FY_DLV", 0x3001030, [(32, 0x40)], 0, 0, 0, 0, 0, .const⟩,
  ⟨"FY_DLVT", 0x3001038, [(32, 0x40)], 0, 0, 0, 0, 0, .const⟩,
  ⟨"FY_DESC0", 0x3100000, [(16384, 0x40)], 0x9fffffffffffff0f, 0, 0, 0, 0, .const⟩,
  ⟨"FY_DESC1", 0x3100008, [(16384, 0x40)], 0xffffffffffff, 0, 0, 0, 0, .const⟩,
  ⟨"FY_DESC2", 0x3100010, [(16384, 0x40)], 0xffffffffffffffff, 0, 0, 0, 0, .const⟩,
  ⟨"FY_DESC3", 0x3100018, [(16384, 0x40)], 0xffffffffffff, 0, 0, 0, 0, .const⟩,
  ⟨"FY_DESC4", 0x3100020, [(16384, 0x40)], 0xffffffffffffffff, 0, 0, 0, 0, .const⟩,
  ⟨"FY_DESC5", 0x3100028, [(16384, 0x40)], 0x3fffffffffffff, 0, 0, 0, 0, .const⟩,
  ⟨"FY_DESC6", 0x3100030, [(16384, 0x40)], 0xffffffffffffffff, 0, 0, 0, 0, .const⟩,
  ⟨"FY_DESC7", 0x3100038, [(16384, 0x40)], 0xffffffff0fffffff, 0, 0, 0, 0, .const⟩,
  ⟨"EG_CFG", 0x4000000, [], 0xfffffffff, 0, 0, 0, 0x1428f4020, .const⟩,
  ⟨"EG_STATUS", 0x4000008, [], 0, 0x7f, 0, 0, 0, .const⟩,
  ⟨"EG_BCTL", 0x4001000, [(8, 0x100)], 0x73, 0, 0, 0, 0x1, .const⟩,
  ⟨"EG_BSTAT", 0x4001008, [(8, 0x100)], 0, 0, 0, 0, 0, .const⟩,
  ⟨"EG_BCAP", 0x4001010, [(8, 0x100)], 0, 0, 0, 0, 0, .const⟩]

/-- Part 5 of the register table. -/
def regTable5 : List RegDef := [
  ⟨"EG_BCNT0", 0x4001018, [(8, 0x100)], 0, 0, 0, 0, 0, .const⟩,
  ⟨"EG_BCNT1", 0x4001020, [(8, 0x100)], 0, 0, 0, 0, 0, .const⟩,
  ⟨"EG_BCRED", 0x4001028, [(8, 0x100)], 0, 0, 0, 0, 0, .const⟩,
  ⟨"EG_BTIME", 0x4001030, [(8, 0x100)], 0, 0, 0, 0, 0, .const⟩,
  ⟨"LN_CFG", 0x5000000, [], 0xffffffffff, 0, 0, 0, 0xa640a6432, .const⟩,
  ⟨"LN_STATUS", 0x5000008, [], 0, 0x3f, 0, 0, 0, .const⟩,
  ⟨"LN_BCTL", 0x5001000, [(8, 0x400)], 0x7, 0, 0, 0, 0x1, .const⟩,
  ⟨"LN_BSTAT", 0x5001008, [(8, 0x400)], 0, 0, 0, 0, 0, .const⟩,
  ⟨"LN_LCTL", 0x5001100, [(8, 0x400), (7, 0x40)], 0x3, 0, 0, 0, 0, .const⟩,
  ⟨"LN_LSTAT", 0x5001108, [(8, 0x400), (7, 0x40)], 0, 0, 0, 0, 0, .const⟩,
  ⟨"LN_LTXEQ", 0x5001110, [(8, 0x400), (7, 0x40)], 0xfff01ff, 0, 0, 0, 0xac400c4, .const⟩,
  ⟨"LN_LTEST", 0x5001118, [(8, 0x400), (7, 0x40)], 0xffffffff0000003f, 0, 0, 0, 0xff00ff00000002, .const⟩,
  ⟨"LN_LINJ", 0x5001120, [(8, 0x400), (7, 0x40)], 0, 0, 0, 0, 0, .const⟩,
  ⟨"LN_LPERR", 0x5001128, [(8, 0x400), (7, 0x40)], 0, 0, 0, 0, 0, .const⟩,
  ⟨"LN_LPBITS", 0x5001130, [(8, 0x400), (7, 0x40)], 0, 0, 0, 0, 0, .const⟩,
  ⟨"LN_LCNT", 0x5001138, [(8, 0x400), (7, 0x40)], 0, 0, 0, 0, 0, .const⟩,
  ⟨"FB_CFG", 0x6000000, [], 0x1fffffff, 0, 0, 0, 0x20000ff, .const⟩,
  ⟨"FB_STATUS", 0x6000008, [], 0, 0xfe00000, 0, 0, 0x7ffd, .const⟩,
  ⟨"FB_ROOT", 0x6000010, [], 0, 0, 0, 0, 0, .const⟩,
  ⟨"FB_TIME", 0x6000018, [], 0, 0, 0, 0, 0, .const⟩,
  ⟨"FB_TSTAT", 0x6000020, [], 0, 0, 0, 0, 0, .const⟩,
  ⟨"FB_TRIG_CFG", 0x6000028, [], 0x3ffffffffffff, 0, 0, 0, 0x1f400000, .const⟩,
  ⟨"FB_TRIG_CNT", 0x6000030, [], 0, 0, 0, 0, 0, .const⟩,
  ⟨"FB_TTS_CFG", 0x6000038, [], 0x3, 0, 0, 0, 0, .const⟩]

/-- Part 6 of the register table. -/
def regTable6 : List RegDef := [
  ⟨"FB_GO", 0x6000040, [], 0, 0, 0, 0, 0, .const⟩,
  ⟨"FB_TTS_STAT", 0x6000048, [], 0, 0, 0, 0, 0, .const⟩,
  ⟨"FB_TUN_CNT", 0x6000050, [], 0, 0, 0, 0, 0, .const⟩,
  ⟨"FB_PCTL", 0x6001000, [(8, 0x80)], 0x3, 0, 0, 0, 0, .const⟩,
  ⟨"FB_PSTAT", 0x6001008, [(8, 0x80)], 0, 0, 0, 0, 0x1880, .const⟩,
  ⟨"FB_PDELAY", 0x6001010, [(8, 0x80)], 0xffffffff00000000, 0, 0, 0, 0, .const⟩,
  ⟨"FB_PCNT", 0x6001018, [(8, 0x80)], 0, 0, 0, 0, 0, .const⟩,
  ⟨"FB_PTEST", 0x6001020, [(8, 0x80)], 0xffffffff0000003f, 0, 0, 0, 0xff00ff00000002, .const⟩,
  ⟨"FB_PINJ", 0x6001028, [(8, 0x80)], 0, 0, 0, 0, 0, .const⟩,
  ⟨"FB_PPERR", 0x6001030, [(8, 0x80)], 0, 0, 0, 0, 0, .const⟩,
  ⟨"FB_PPBITS", 0x6001038, [(8, 0x80)], 0, 0, 0, 0, 0, .const⟩,
  ⟨"FB_NODE_ID", 0x6002000, [(64, 0x10)], 0, 0, 0, 0, 0, .const⟩,
  ⟨"FB_NODE_INFO", 0x6002008, [(64, 0x10)], 0, 0, 0, 0, 0, .const⟩,
  ⟨"PIO_STATUS", 0x7000000, [], 0, 0, 0, 0, 0, .const⟩,
  ⟨"PIO_IN", 0x7000008, [], 0, 0, 0, 0, 0, .const⟩,
  ⟨"PIO_OUT", 0x7000010, [], 0xffffffffffffffff, 0, 0, 0, 0, .const⟩,
  ⟨"PIO_FLAGS", 0x7000018, [], 0, 0, 0, 0, 0, .const⟩,
  ⟨"PIO_FLAG_SET", 0x7000020, [], 0, 0, 0, 0, 0, .const⟩,
  ⟨"PIO_FLAG_CLR", 0x7000028, [], 0, 0, 0, 0, 0, .const⟩,
  ⟨"PIO_HOSTIRQ", 0x7000030, [], 0, 0xffff, 0, 0, 0, .const⟩,
  ⟨"PIO_PIN", 0x7001000, [(64, 0x8)], 0x7ff, 0, 0, 0, 0x180, .const⟩,
  ⟨"PIO_ECTL", 0x7002000, [(16, 0x200)], 0xffffff, 0, 0, 0, 0, .const⟩,
  ⟨"PIO_ECMD", 0x7002008, [(16, 0x200)], 0, 0, 0, 0, 0, .const⟩,
  ⟨"PIO_ESTAT", 0x7002010, [(16, 0x200)], 0, 0xf800000000, 0, 0, 0, .const⟩]

/-- Part 7 of the register table. -/
def regTable7 : List RegDef := [
  ⟨"PIO_ESR", 0x7002018, [(16, 0x200)], 0, 0, 0, 0, 0, .const⟩,
  ⟨"PIO_ELC", 0x7002020, [(16, 0x200)], 0, 0, 0, 0, 0, .const⟩,
  ⟨"PIO_DIN", 0x7002028, [(16, 0x200)], 0xffffffffffffffff, 0, 0, 0, 0, .const⟩,
  ⟨"PIO_DOUT", 0x7002030, [(16, 0x200)], 0, 0, 0, 0, 0, .const⟩,
  ⟨"PIO_INJ", 0x7002038, [(16, 0x200)], 0, 0, 0, 0, 0, .const⟩,
  ⟨"PIO_PROG", 0x7002080, [(16, 0x200), (32, 0x8)], 0xffff, 0, 0, 0, 0, .const⟩,
  ⟨"ETH_CFG", 0x8000000, [], 0x1f, 0, 0, 0, 0x19, .const⟩,
  ⟨"ETH_STATUS", 0x8000008, [], 0, 0x3c0, 0, 0, 0x6, .const⟩,
  ⟨"ETH_MAC", 0x8000010, [], 0, 0, 0, 0xffffffffffff, 0, .const⟩,
  ⟨"ETH_IP", 0x8000018, [], 0x3fffffffff, 0, 0, 0, 0x1800000000, .const⟩,
  ⟨"ETH_GW", 0x8000020, [], 0xffffffff, 0, 0, 0, 0, .const⟩,
  ⟨"ETH_IP_ACT", 0x8000028, [], 0, 0, 0, 0, 0, .const⟩,
  ⟨"ETH_PTP_CFG", 0x8000030, [], 0x1ff, 0, 0, 0, 0x1, .const⟩,
  ⟨"ETH_PTP_STAT", 0x8000038, [], 0, 0, 0, 0, 0, .const⟩,
  ⟨"ETH_PTP_GM", 0x8000040, [], 0, 0, 0, 0, 0, .const⟩,
  ⟨"ETH_PTP_OFS", 0x8000048, [], 0, 0, 0, 0, 0, .const⟩,
  ⟨"ETH_PREV_CFG", 0x8000050, [], 0xffff, 0, 0, 0, 0x21e3, .const⟩,
  ⟨"ETH_PREV_DST", 0x8000058, [], 0xffffffffffff, 0, 0, 0, 0x439500000000, .const⟩,
  ⟨"ETH_PREV_STAT", 0x8000060, [], 0, 0, 0, 0, 0x40000000000000, .const⟩,
  ⟨"ETH_PREV_CNT", 0x8000068, [], 0, 0, 0, 0, 0, .const⟩,
  ⟨"ETH_WT_CNT", 0x8000070, [], 0, 0, 0, 0, 0, .const⟩,
  ⟨"CFG_BOOT_STAT", 0x9000000, [], 0, 0x20, 0, 0, 0, .const⟩,
  ⟨"CFG_BOOT_CTL", 0x9000008, [], 0, 0, 0, 0, 0, .const⟩,
  ⟨"CFG_SLOT", 0x9000010, [(4, 0x8)], 0, 0, 0, 0, 0, .const⟩]

/-- Part 8 of the register table. -/
def regTable8 : List RegDef := [
  ⟨"CFG_FL_INFO", 0x9000030, [], 0, 0, 0, 0, 0, .const⟩,
  ⟨"CFG_FL_ADDR", 0x9000038, [], 0xfffffff, 0, 0, 0, 0, .const⟩,
  ⟨"CFG_FL_CMD", 0x9000040, [], 0, 0, 0, 0, 0, .const⟩,
  ⟨"CFG_FL_STAT", 0x9000048, [], 0, 0x10, 0, 0, 0, .const⟩,
  ⟨"CFG_FL_BUF", 0x9001000, [(512, 0x8)], 0xffffffffffffffff, 0, 0, 0, 0, .const⟩,
  ⟨"SEC_KEY", 0x9002000, [(4, 0x40), (4, 0x8)], 0, 0, 0, 0, 0, .const⟩,
  ⟨"SEC_KEY_ST", 0x9002020, [(4, 0x40)], 0, 0, 0, 0, 0, .const⟩,
  ⟨"SEC_KEY_NEW", 0x9002100, [(4, 0x8)], 0xffffffffffffffff, 0, 0, 0, 0, .const⟩,
  ⟨"SEC_KEY_CTL", 0x9002120, [], 0, 0, 0, 0, 0, .const⟩,
  ⟨"SEC_KEY_STAT", 0x9002128, [], 0, 0x6, 0, 0, 0, .const⟩,
  ⟨"SEC_ID_PUB", 0x9003000, [(8, 0x8)], 0, 0, 0, 0, 0, .const⟩,
  ⟨"SEC_ID_CERT_LEN", 0x9003100, [], 0, 0, 0, 0, 0, .const⟩,
  ⟨"SEC_ID_CERT", 0x9003108, [(128, 0x8)], 0, 0, 0, 0, 0, .const⟩,
  ⟨"SEC_SESS", 0x9004000, [(4, 0x10)], 0, 0, 0, 0, 0, .const⟩,
  ⟨"SEC_SESS_CTR", 0x9004008, [(4, 0x10)], 0, 0, 0, 0, 0, .const⟩,
  ⟨"CFG_GW_COMMIT", 0x9800000, [], 0, 0, 0, 0, 0, .const⟩,
  ⟨"CFG_GW_STATUS", 0x9800008, [], 0, 0xe, 0, 0, 0x10, .const⟩,
  ⟨"CFG_GW_GEN", 0x9800010, [], 0, 0, 0, 0, 0, .const⟩,
  ⟨"CFG_GW_CTIME", 0x9800018, [], 0, 0, 0, 0, 0, .const⟩,
  ⟨"CFG_GW_ITIME", 0x9800020, [], 0, 0, 0, 0, 0, .const⟩,
  ⟨"CFG_MAN_HEAD", 0x9800028, [], 0, 0, 0, 0, 0, .const⟩,
  ⟨"CFG_MAN", 0x9804000, [(64, 0x100), (32, 0x8)], 0, 0, 0, 0, 0, .const⟩]

/-- Every register block of the spec. -/
def regTable : List RegDef := regTable0 ++ regTable1 ++ regTable2 ++ regTable3 ++ regTable4 ++ regTable5 ++ regTable6 ++ regTable7 ++ regTable8

/-- Whether an offset from a block's base is one of its registers. -/
def offsetIn : List (Nat × Nat) → Nat → Bool
  | [], off => off == 0
  | (n, st) :: ds, off => decide (off / st < n) && offsetIn ds (off % st)

/-- The register block that holds address `a`; none where the offset holds no register (R11). -/
def regAt (a : Nat) : Option RegDef :=
  regTable.find? (fun d => decide (d.base ≤ a) && offsetIn d.dims (a - d.base))

/-- Inside some decode window of R15; the two ranges of R11 lie outside. -/
def inWindow (a : Nat) : Bool :=
  decide (a < 0x3200000) || (decide (0x4000000 ≤ a) && decide (a < 0xA000000))

/-- The reset word of a register block that is indexed. -/
def indexedReset (d : RegDef) (a : Nat) : Nat :=
  match d.rule with
  | .const => d.reset
  | .pwrLim => let c := (a - d.base) / 8; if c < 4 then 0x6D000000 else if c < 8 then 0xA4000000 else 0xFFFF0000
  | .ctxCtl => if a = d.base then d.reset + 1 else d.reset
  | .curve => let k := (a - d.base) % 0x200 / 8; let x := if k = 32 then 65535 else 2048 * k; x + x * 2 ^ 24
  | .berth => let n := (a - d.base) / 16; if n ≤ 41 then 3073 * n + 3073 * 2 ^ 32 + (if n = 0 then 2 ^ 50 else 0) + 2 ^ 51 else 0

/-- The reset word of the register at `a`, 0 where there is none (R11). Registers whose reset value comes from fuses or one-time-programmable memory (ID_, ETH_MAC, CK_BAND, SEC_) count 0 here and are loaded by the device reset. -/
def resetWord (a : Nat) : Word :=
  match regAt a with
  | none => 0
  | some d => BitVec.ofNat 64 (indexedReset d a)

/-- Bits of the register at `a` that a management write can store. -/
def RegDef.storeMask (d : RegDef) : Nat := d.rw ||| d.rws ||| d.rwl

/-- The register holds an RWL field (R14). -/
def RegDef.locked (d : RegDef) : Bool := d.rwl != 0

/-- The register holds RWS fields: its writes go to the shadow (R12, R142). -/
def RegDef.shadowed (d : RegDef) : Bool := d.rws != 0

/-! Addresses of registers. The number of a register wraps within its block, so an address of one block is never that of another. -/

namespace Reg

/-- R16. -/ def ID_PART : Nat := 0
/-- R16. -/ def ID_DEVID : Nat := 0x8
/-- R16. -/ def ID_SCRATCH : Nat := 0x10
/-- R390. -/ def PWR_STAT : Nat := 0x10000
/-- R390. -/ def PWR_SUP : Nat := 0x10008
/-- R390. -/ def PWR_LIM (i : Nat) : Nat := 0x10100 + 0x8 * (i % 16)
/-- R106. -/ def HK_CFG : Nat := 0x18000
/-- R106. -/ def HK_SEQ : Nat := 0x18008
/-- R106. -/ def HK_INJ : Nat := 0x18010
/-- R106. -/ def HK_STATUS : Nat := 0x18018
/-- R106. -/ def HK_INJ_RES (i : Nat) : Nat := 0x18020 + 0x8 * (i % 4)
/-- R106. -/ def HK_RES (i : Nat) : Nat := 0x18040 + 0x8 * (i % 16)
/-- R323. -/ def CK_STATUS : Nat := 0x20000
/-- R323. -/ def CK_POLICY : Nat := 0x20008
/-- R323. -/ def CK_GO : Nat := 0x20010
/-- R323. -/ def CK_SYNC_AT : Nat := 0x20018
/-- R323. -/ def CK_SYNC_TIME : Nat := 0x20020
/-- R323. -/ def CK_PLL (i : Nat) : Nat := 0x20100 + 0x10 * (i % 12)
/-- R323. -/ def CK_PSTAT (i : Nat) : Nat := 0x20108 + 0x10 * (i % 12)
/-- R323. -/ def CK_BAND (i : Nat) : Nat := 0x20400 + 0x8 * (i % 64)
/-- R323. -/ def CK_OUT (i : Nat) : Nat := 0x20800 + 0x8 * (i % 6)
/-- R84. -/ def TT_MODE : Nat := 0x40000
/-- R84. -/ def TT_EXP_A : Nat := 0x40008
/-- R84. -/ def TT_EXP_B : Nat := 0x40010
/-- R84. -/ def TT_PERIOD : Nat := 0x40018
/-- R84. -/ def TT_ANCHOR : Nat := 0x40020
/-- R84. -/ def TT_TRIG_CFG : Nat := 0x40028
/-- R84. -/ def TT_TRIG_DELAY : Nat := 0x40030
/-- R84. -/ def TT_SW_TRIG : Nat := 0x40038
/-- R84. -/ def TT_SCHED_TIME : Nat := 0x40040
/-- R84. -/ def TT_SCHED_CTL : Nat := 0x40048
/-- R84. -/ def TT_ENC_CFG : Nat := 0x40050
/-- R84. -/ def TT_ENC_POS : Nat := 0x40058
/-- R84. -/ def TT_ENC_NEXT : Nat := 0x40060
/-- R84. -/ def TT_ENC_CTL : Nat := 0x40068
/-- R84. -/ def TT_ACCUM : Nat := 0x40070
/-- R84. -/ def TT_BURST : Nat := 0x40078
/-- R84. -/ def TT_STRIP : Nat := 0x40080
/-- R84. -/ def TT_MAP_CFG : Nat := 0x40088
/-- R84. -/ def TT_MAP_SRC : Nat := 0x40090
/-- R84. -/ def TT_STATUS : Nat := 0x40098
/-- R84. -/ def TT_CNT_TRIG : Nat := 0x400a0
/-- R84. -/ def TT_CNT_FRAME : Nat := 0x400a8
/-- R84. -/ def TT_EVLOG_TIME : Nat := 0x400b0
/-- R84. -/ def TT_EVLOG_INFO : Nat := 0x400b8
/-- R84. -/ def TT_EVLOG_POP : Nat := 0x400c0
/-- R41. -/ def TT_PIX_CFG : Nat := 0x70000
/-- R74. -/ def TT_MAP (i : Nat) : Nat := 0x80000 + 0x8 * (i % 8192)
/-- R74. -/ def TT_MAP_USE (i : Nat) : Nat := 0x90000 + 0x8 * (i % 8192)
/-- R100. -/ def CC_CFG : Nat := 0x100000
/-- R100. -/ def CC_ROT_CFG : Nat := 0x100008
/-- R100. -/ def CC_INJ_CFG : Nat := 0x100010
/-- R100. -/ def CC_INJ_REQ : Nat := 0x100018
/-- R100. -/ def CC_STATUS : Nat := 0x100020
/-- R100. -/ def CC_CNT : Nat := 0x100028
/-- R100. -/ def CC_CONV (i : Nat) : Nat := 0x110000 + 0x8 * (i % 33024)
/-- R126. -/ def CAL_CFG : Nat := 0x200000
/-- R126. -/ def CAL_STATUS : Nat := 0x200008
/-- R126. -/ def CAL_EPOCH : Nat := 0x200010
/-- R126. -/ def CAL_CNT : Nat := 0x200018
/-- R126. -/ def CAL_TAP (i j : Nat) : Nat := 0x220000 + 0x40 * (i % 33024) + 0x8 * (j % 5)
/-- R126. -/ def CAL_REC (i : Nat) : Nat := 0x220028 + 0x40 * (i % 33024)
/-- R126. -/ def CAL_TIME (i : Nat) : Nat := 0x220030 + 0x40 * (i % 33024)
/-- R127. -/ def CTX_CTL (i : Nat) : Nat := 0x800000 + 0x100 * (i % 3072)
/-- R127. -/ def CTX_WIN (i : Nat) : Nat := 0x800008 + 0x100 * (i % 3072)
/-- R127. -/ def CTX_DEST (i : Nat) : Nat := 0x800010 + 0x100 * (i % 3072)
/-- R127. -/ def CTX_CHAIN (i : Nat) : Nat := 0x800018 + 0x100 * (i % 3072)
/-- R127. -/ def CTX_ST0 (i : Nat) : Nat := 0x800080 + 0x100 * (i % 3072)
/-- R127. -/ def CTX_ST1 (i : Nat) : Nat := 0x800088 + 0x100 * (i % 3072)
/-- R181. -/ def PIPE_CFG : Nat := 0x1000000
/-- R181. -/ def PIPE_NR : Nat := 0x1000008
/-- R181. -/ def PIPE_CLAMP : Nat := 0x1000010
/-- R181. -/ def PIPE_HDR : Nat := 0x1000018
/-- R181. -/ def PIPE_STATUS : Nat := 0x1000020
/-- R181. -/ def PIPE_CNT : Nat := 0x1000028
/-- R181. -/ def PIPE_LOAD : Nat := 0x1000030
/-- R181. -/ def PIPE_BLACK (i j : Nat) : Nat := 0x1001000 + 0x10 * (i % 32) + 0x8 * (j % 2)
/-- R181. -/ def PIPE_CURVE (i j : Nat) : Nat := 0x1002000 + 0x200 * (i % 4) + 0x8 * (j % 33)
/-- R181. -/ def PIPE_CURVE_OFS (i : Nat) : Nat := 0x1002108 + 0x200 * (i % 4)
/-- R181. -/ def PIPE_DEFECT (i : Nat) : Nat := 0x1004000 + 0x8 * (i % 4096)
/-- R181. -/ def PIPE_FPN (i : Nat) : Nat := 0x1100000 + 0x8 * (i % 32768)
/-- R181. -/ def PIPE_STATS (i j : Nat) : Nat := 0x1400000 + 0x800 * (i % 3072) + 0x8 * (j % 256)
/-- R181. -/ def PIPE_MEAN_HDR (i : Nat) : Nat := 0x1a00000 + 0x8 * (i % 2)
/-- R181. -/ def PIPE_MEAN (i j : Nat) : Nat := 0x1a10000 + 0x20000 * (i % 2) + 0x8 * (j % 8256)
/-- R200. -/ def FS_CFG : Nat := 0x2000000
/-- R200. -/ def FS_STATUS : Nat := 0x2000008
/-- R200. -/ def FS_CNT : Nat := 0x2000010
/-- R200. -/ def FS_MIRROR (i : Nat) : Nat := 0x2000100 + 0x8 * (i % 48)
/-- R200. -/ def FS_RC_KEY : Nat := 0x2000400
/-- R200. -/ def FS_RC_LINES : Nat := 0x2000408
/-- R200. -/ def FS_RC_COLS : Nat := 0x2000410
/-- R200. -/ def FS_RC_GO : Nat := 0x2000418
/-- R200. -/ def FS_RC_RES : Nat := 0x2000420
/-- R200. -/ def FS_RC_POP : Nat := 0x2000428
/-- R200. -/ def FS_BERTH (i : Nat) : Nat := 0x2010000 + 0x10 * (i % 1024)
/-- R200. -/ def FS_BSTATE (i : Nat) : Nat := 0x2010008 + 0x10 * (i % 1024)
/-- R228. -/ def FY_DONE : Nat := 0x3000000
/-- R228. -/ def FY_ERR : Nat := 0x3000008
/-- R228. -/ def FY_BUSY : Nat := 0x3000010
/-- R228. -/ def FY_CTL (i : Nat) : Nat := 0x3001000 + 0x40 * (i % 32)
/-- R228. -/ def FY_KICK (i : Nat) : Nat := 0x3001008 + 0x40 * (i % 32)
/-- R228. -/ def FY_STAT (i : Nat) : Nat := 0x3001010 + 0x40 * (i % 32)
/-- R228. -/ def FY_LAST (i : Nat) : Nat := 0x3001018 + 0x40 * (i % 32)
/-- R228. -/ def FY_TIME (i : Nat) : Nat := 0x3001020 + 0x40 * (i % 32)
/-- R228. -/ def FY_CNT (i : Nat) : Nat := 0x3001028 + 0x40 * (i % 32)
/-- R228. -/ def FY_DLV (i : Nat) : Nat := 0x3001030 + 0x40 * (i % 32)
/-- R228. -/ def FY_DLVT (i : Nat) : Nat := 0x3001038 + 0x40 * (i % 32)
/-- R204. -/ def FY_DESC (i j : Nat) : Nat := 0x3100000 + 0x40 * (i % 16384) + 0x8 * (j % 8)
/-- R258. -/ def EG_CFG : Nat := 0x4000000
/-- R258. -/ def EG_STATUS : Nat := 0x4000008
/-- R258. -/ def EG_BCTL (i : Nat) : Nat := 0x4001000 + 0x100 * (i % 8)
/-- R258. -/ def EG_BSTAT (i : Nat) : Nat := 0x4001008 + 0x100 * (i % 8)
/-- R258. -/ def EG_BCAP (i : Nat) : Nat := 0x4001010 + 0x100 * (i % 8)
/-- R258. -/ def EG_BCNT0 (i : Nat) : Nat := 0x4001018 + 0x100 * (i % 8)
/-- R258. -/ def EG_BCNT1 (i : Nat) : Nat := 0x4001020 + 0x100 * (i % 8)
/-- R258. -/ def EG_BCRED (i : Nat) : Nat := 0x4001028 + 0x100 * (i % 8)
/-- R258. -/ def EG_BTIME (i : Nat) : Nat := 0x4001030 + 0x100 * (i % 8)
/-- R280. -/ def LN_CFG : Nat := 0x5000000
/-- R280. -/ def LN_STATUS : Nat := 0x5000008
/-- R280. -/ def LN_BCTL (i : Nat) : Nat := 0x5001000 + 0x400 * (i % 8)
/-- R280. -/ def LN_BSTAT (i : Nat) : Nat := 0x5001008 + 0x400 * (i % 8)
/-- R280. -/ def LN_LCTL (i j : Nat) : Nat := 0x5001100 + 0x400 * (i % 8) + 0x40 * (j % 7)
/-- R280. -/ def LN_LSTAT (i j : Nat) : Nat := 0x5001108 + 0x400 * (i % 8) + 0x40 * (j % 7)
/-- R280. -/ def LN_LTXEQ (i j : Nat) : Nat := 0x5001110 + 0x400 * (i % 8) + 0x40 * (j % 7)
/-- R280. -/ def LN_LTEST (i j : Nat) : Nat := 0x5001118 + 0x400 * (i % 8) + 0x40 * (j % 7)
/-- R280. -/ def LN_LINJ (i j : Nat) : Nat := 0x5001120 + 0x400 * (i % 8) + 0x40 * (j % 7)
/-- R280. -/ def LN_LPERR (i j : Nat) : Nat := 0x5001128 + 0x400 * (i % 8) + 0x40 * (j % 7)
/-- R280. -/ def LN_LPBITS (i j : Nat) : Nat := 0x5001130 + 0x400 * (i % 8) + 0x40 * (j % 7)
/-- R280. -/ def LN_LCNT (i j : Nat) : Nat := 0x5001138 + 0x400 * (i % 8) + 0x40 * (j % 7)
/-- R306. -/ def FB_CFG : Nat := 0x6000000
/-- R306. -/ def FB_STATUS : Nat := 0x6000008
/-- R306. -/ def FB_ROOT : Nat := 0x6000010
/-- R306. -/ def FB_TIME : Nat := 0x6000018
/-- R306. -/ def FB_TSTAT : Nat := 0x6000020
/-- R306. -/ def FB_TRIG_CFG : Nat := 0x6000028
/-- R306. -/ def FB_TRIG_CNT : Nat := 0x6000030
/-- R306. -/ def FB_TTS_CFG : Nat := 0x6000038
/-- R306. -/ def FB_GO : Nat := 0x6000040
/-- R306. -/ def FB_TTS_STAT : Nat := 0x6000048
/-- R306. -/ def FB_TUN_CNT : Nat := 0x6000050
/-- R306. -/ def FB_PCTL (i : Nat) : Nat := 0x6001000 + 0x80 * (i % 8)
/-- R306. -/ def FB_PSTAT (i : Nat) : Nat := 0x6001008 + 0x80 * (i % 8)
/-- R306. -/ def FB_PDELAY (i : Nat) : Nat := 0x6001010 + 0x80 * (i % 8)
/-- R306. -/ def FB_PCNT (i : Nat) : Nat := 0x6001018 + 0x80 * (i % 8)
/-- R306. -/ def FB_PTEST (i : Nat) : Nat := 0x6001020 + 0x80 * (i % 8)
/-- R306. -/ def FB_PINJ (i : Nat) : Nat := 0x6001028 + 0x80 * (i % 8)
/-- R306. -/ def FB_PPERR (i : Nat) : Nat := 0x6001030 + 0x80 * (i % 8)
/-- R306. -/ def FB_PPBITS (i : Nat) : Nat := 0x6001038 + 0x80 * (i % 8)
/-- R306. -/ def FB_NODE_ID (i : Nat) : Nat := 0x6002000 + 0x10 * (i % 64)
/-- R306. -/ def FB_NODE_INFO (i : Nat) : Nat := 0x6002008 + 0x10 * (i % 64)
/-- R342. -/ def PIO_STATUS : Nat := 0x7000000
/-- R342. -/ def PIO_IN : Nat := 0x7000008
/-- R342. -/ def PIO_OUT : Nat := 0x7000010
/-- R342. -/ def PIO_FLAGS : Nat := 0x7000018
/-- R342. -/ def PIO_FLAG_SET : Nat := 0x7000020
/-- R342. -/ def PIO_FLAG_CLR : Nat := 0x7000028
/-- R342. -/ def PIO_HOSTIRQ : Nat := 0x7000030
/-- R342. -/ def PIO_PIN (i : Nat) : Nat := 0x7001000 + 0x8 * (i % 64)
/-- R342. -/ def PIO_ECTL (i : Nat) : Nat := 0x7002000 + 0x200 * (i % 16)
/-- R342. -/ def PIO_ECMD (i : Nat) : Nat := 0x7002008 + 0x200 * (i % 16)
/-- R342. -/ def PIO_ESTAT (i : Nat) : Nat := 0x7002010 + 0x200 * (i % 16)
/-- R342. -/ def PIO_ESR (i : Nat) : Nat := 0x7002018 + 0x200 * (i % 16)
/-- R342. -/ def PIO_ELC (i : Nat) : Nat := 0x7002020 + 0x200 * (i % 16)
/-- R342. -/ def PIO_DIN (i : Nat) : Nat := 0x7002028 + 0x200 * (i % 16)
/-- R342. -/ def PIO_DOUT (i : Nat) : Nat := 0x7002030 + 0x200 * (i % 16)
/-- R342. -/ def PIO_INJ (i : Nat) : Nat := 0x7002038 + 0x200 * (i % 16)
/-- R342. -/ def PIO_PROG (i j : Nat) : Nat := 0x7002080 + 0x200 * (i % 16) + 0x8 * (j % 32)
/-- R365. -/ def ETH_CFG : Nat := 0x8000000
/-- R365. -/ def ETH_STATUS : Nat := 0x8000008
/-- R365. -/ def ETH_MAC : Nat := 0x8000010
/-- R365. -/ def ETH_IP : Nat := 0x8000018
/-- R365. -/ def ETH_GW : Nat := 0x8000020
/-- R365. -/ def ETH_IP_ACT : Nat := 0x8000028
/-- R365. -/ def ETH_PTP_CFG : Nat := 0x8000030
/-- R365. -/ def ETH_PTP_STAT : Nat := 0x8000038
/-- R365. -/ def ETH_PTP_GM : Nat := 0x8000040
/-- R365. -/ def ETH_PTP_OFS : Nat := 0x8000048
/-- R365. -/ def ETH_PREV_CFG : Nat := 0x8000050
/-- R365. -/ def ETH_PREV_DST : Nat := 0x8000058
/-- R365. -/ def ETH_PREV_STAT : Nat := 0x8000060
/-- R365. -/ def ETH_PREV_CNT : Nat := 0x8000068
/-- R365. -/ def ETH_WT_CNT : Nat := 0x8000070
/-- R391. -/ def CFG_BOOT_STAT : Nat := 0x9000000
/-- R391. -/ def CFG_BOOT_CTL : Nat := 0x9000008
/-- R391. -/ def CFG_SLOT (i : Nat) : Nat := 0x9000010 + 0x8 * (i % 4)
/-- R391. -/ def CFG_FL_INFO : Nat := 0x9000030
/-- R391. -/ def CFG_FL_ADDR : Nat := 0x9000038
/-- R391. -/ def CFG_FL_CMD : Nat := 0x9000040
/-- R391. -/ def CFG_FL_STAT : Nat := 0x9000048
/-- R391. -/ def CFG_FL_BUF (i : Nat) : Nat := 0x9001000 + 0x8 * (i % 512)
/-- R391. -/ def SEC_KEY (i j : Nat) : Nat := 0x9002000 + 0x40 * (i % 4) + 0x8 * (j % 4)
/-- R391. -/ def SEC_KEY_ST (i : Nat) : Nat := 0x9002020 + 0x40 * (i % 4)
/-- R391. -/ def SEC_KEY_NEW (i : Nat) : Nat := 0x9002100 + 0x8 * (i % 4)
/-- R391. -/ def SEC_KEY_CTL : Nat := 0x9002120
/-- R391. -/ def SEC_KEY_STAT : Nat := 0x9002128
/-- R391. -/ def SEC_ID_PUB (i : Nat) : Nat := 0x9003000 + 0x8 * (i % 8)
/-- R391. -/ def SEC_ID_CERT_LEN : Nat := 0x9003100
/-- R391. -/ def SEC_ID_CERT (i : Nat) : Nat := 0x9003108 + 0x8 * (i % 128)
/-- R391. -/ def SEC_SESS (i : Nat) : Nat := 0x9004000 + 0x10 * (i % 4)
/-- R391. -/ def SEC_SESS_CTR (i : Nat) : Nat := 0x9004008 + 0x10 * (i % 4)
/-- R154. -/ def CFG_GW_COMMIT : Nat := 0x9800000
/-- R154. -/ def CFG_GW_STATUS : Nat := 0x9800008
/-- R154. -/ def CFG_GW_GEN : Nat := 0x9800010
/-- R154. -/ def CFG_GW_CTIME : Nat := 0x9800018
/-- R154. -/ def CFG_GW_ITIME : Nat := 0x9800020
/-- R154. -/ def CFG_MAN_HEAD : Nat := 0x9800028
/-- R154. -/ def CFG_MAN (i j : Nat) : Nat := 0x9804000 + 0x100 * (i % 64) + 0x8 * (j % 32)

end Reg

namespace Fld

/-- R16 RO. -/ def ID_PART_VENDOR : Field := ⟨48, 16⟩
/-- R16 RO. -/ def ID_PART_PART : Field := ⟨32, 16⟩
/-- R16 RO. -/ def ID_PART_VARIANT : Field := ⟨24, 8⟩
/-- R16 RO. -/ def ID_PART_STEP_MAJOR : Field := ⟨20, 4⟩
/-- R16 RO. -/ def ID_PART_STEP_MINOR : Field := ⟨16, 4⟩
/-- R16 RO. -/ def ID_PART_PACKAGE : Field := ⟨8, 8⟩
/-- R16 RO. -/ def ID_DEVID_DEVID : Field := ⟨0, 64⟩
/-- R16 RW. -/ def ID_SCRATCH_SCRATCH : Field := ⟨0, 64⟩
/-- R390 RO. -/ def PWR_STAT_STAGE : Field := ⟨0, 3⟩
/-- R390 RO. -/ def PWR_STAT_CAUSE : Field := ⟨3, 3⟩
/-- R390 W1C. -/ def PWR_STAT_LIM_HIT : Field := ⟨8, 16⟩
/-- R390 RO. -/ def PWR_STAT_LIM_NOW : Field := ⟨24, 16⟩
/-- R390 RW. -/ def PWR_SUP_TRIP : Field := ⟨0, 12⟩
/-- R390 RW. -/ def PWR_SUP_TRIP_EN : Field := ⟨12, 1⟩
/-- R390 RW. -/ def PWR_LIM_LOW : Field := ⟨0, 16⟩
/-- R390 RW. -/ def PWR_LIM_HIGH : Field := ⟨16, 16⟩
/-- R106 RW. -/ def HK_CFG_RUN : Field := ⟨0, 1⟩
/-- R106 RW. -/ def HK_CFG_AVG : Field := ⟨1, 3⟩
/-- R106 RW. -/ def HK_CFG_CAL_PERIOD : Field := ⟨4, 12⟩
/-- R106 RW. -/ def HK_CFG_LEN : Field := ⟨16, 5⟩
/-- R106 RW. -/ def HK_SEQ_ENTRIES : Field := ⟨0, 64⟩
/-- R106 WO. -/ def HK_INJ_CHANNEL : Field := ⟨0, 4⟩
/-- R106 WO. -/ def HK_INJ_TAG : Field := ⟨4, 2⟩
/-- R106 W1C. -/ def HK_STATUS_INJ_DONE : Field := ⟨0, 4⟩
/-- R106 RO. -/ def HK_STATUS_INJ_PENDING : Field := ⟨4, 4⟩
/-- R106 W1C. -/ def HK_STATUS_INJ_REJECT : Field := ⟨8, 1⟩
/-- R106 RO. -/ def HK_STATUS_CAL_BUSY : Field := ⟨9, 1⟩
/-- R106 W1C. -/ def HK_STATUS_CAL_FAIL : Field := ⟨10, 1⟩
/-- R106 RO. -/ def HK_INJ_RES_CODE : Field := ⟨0, 12⟩
/-- R106 RO. -/ def HK_INJ_RES_CHANNEL : Field := ⟨12, 4⟩
/-- R106 RO. -/ def HK_INJ_RES_VALID : Field := ⟨16, 1⟩
/-- R106 RO. -/ def HK_RES_VALUE : Field := ⟨0, 16⟩
/-- R106 RO. -/ def HK_RES_VALID : Field := ⟨16, 1⟩
/-- R106 RO. -/ def HK_RES_UPDATES : Field := ⟨32, 32⟩
/-- R323 W1C. -/ def CK_STATUS_LOL : Field := ⟨0, 12⟩
/-- R323 W1C. -/ def CK_STATUS_REF_LOS : Field := ⟨12, 1⟩
/-- R323 W1C. -/ def CK_STATUS_LREF_LOS : Field := ⟨13, 1⟩
/-- R323 W1C. -/ def CK_STATUS_CKOUT_FAST : Field := ⟨14, 1⟩
/-- R323 RO. -/ def CK_STATUS_LOCKED : Field := ⟨16, 12⟩
/-- R323 RO. -/ def CK_STATUS_REF_OK : Field := ⟨28, 1⟩
/-- R323 RO. -/ def CK_STATUS_LREF_OK : Field := ⟨29, 1⟩
/-- R323 RW. -/ def CK_POLICY_AUTO_CLEAR : Field := ⟨0, 1⟩
/-- R323 RW. -/ def CK_POLICY_AUTO_RESTART : Field := ⟨1, 1⟩
/-- R323 W1C. -/ def CK_POLICY_GAVE_UP : Field := ⟨16, 12⟩
/-- R323 WO. -/ def CK_GO_SYNC : Field := ⟨0, 1⟩
/-- R323 WO. -/ def CK_GO_ARM : Field := ⟨1, 1⟩
/-- R323 RW. -/ def CK_SYNC_AT_TARGET : Field := ⟨0, 64⟩
/-- R323 RO. -/ def CK_SYNC_TIME_TIME : Field := ⟨0, 62⟩
/-- R323 RO. -/ def CK_SYNC_TIME_ARMED : Field := ⟨62, 1⟩
/-- R323 RO. -/ def CK_SYNC_TIME_VALID : Field := ⟨63, 1⟩
/-- R323 RW. -/ def CK_PLL_REF_MODE : Field := ⟨0, 2⟩
/-- R323 RW. -/ def CK_PLL_LD_MODE : Field := ⟨2, 1⟩
/-- R323 RW. -/ def CK_PLL_LD_WIN : Field := ⟨3, 3⟩
/-- R323 RW. -/ def CK_PLL_LD_TOL : Field := ⟨6, 4⟩
/-- R323 RO. -/ def CK_PSTAT_LOCKED : Field := ⟨0, 1⟩
/-- R323 RO. -/ def CK_PSTAT_ACQ : Field := ⟨1, 1⟩
/-- R323 RO. -/ def CK_PSTAT_BAND : Field := ⟨2, 6⟩
/-- R323 RO. -/ def CK_PSTAT_DIFF : Field := ⟨16, 16⟩
/-- R323 RO. -/ def CK_PSTAT_LOSSES : Field := ⟨32, 16⟩
/-- R323 RO. -/ def CK_PSTAT_RESTARTS : Field := ⟨48, 16⟩
/-- R323 RWL. -/ def CK_BAND_LOOP : Field := ⟨0, 4⟩
/-- R323 RWL. -/ def CK_BAND_CODE : Field := ⟨4, 8⟩
/-- R323 RWL. -/ def CK_BAND_FMIN : Field := ⟨12, 16⟩
/-- R323 RWL. -/ def CK_BAND_FMAX : Field := ⟨28, 16⟩
/-- R323 RW. -/ def CK_OUT_EN : Field := ⟨0, 1⟩
/-- R323 RW. -/ def CK_OUT_SRC : Field := ⟨1, 2⟩
/-- R323 RW. -/ def CK_OUT_DIV : Field := ⟨3, 12⟩
/-- R323 RW. -/ def CK_OUT_DELAY : Field := ⟨15, 8⟩
/-- R323 RW. -/ def CK_OUT_SYNC_EN : Field := ⟨23, 1⟩
/-- R84 RWS. -/ def TT_MODE_PACE : Field := ⟨0, 2⟩
/-- R84 RWS. -/ def TT_MODE_STORE : Field := ⟨2, 2⟩
/-- R84 RWS. -/ def TT_MODE_FORM : Field := ⟨4, 2⟩
/-- R84 RWS. -/ def TT_MODE_STAGGER_DESC : Field := ⟨6, 1⟩
/-- R84 RWS. -/ def TT_MODE_ANCHOR_EN : Field := ⟨7, 1⟩
/-- R84 RWS. -/ def TT_MODE_RUN : Field := ⟨8, 1⟩
/-- R84 RWS. -/ def TT_EXP_A_EXP : Field := ⟨0, 29⟩
/-- R84 RWS. -/ def TT_EXP_B_EXP : Field := ⟨0, 29⟩
/-- R84 RWS. -/ def TT_PERIOD_PERIOD : Field := ⟨0, 32⟩
/-- R84 RWS. -/ def TT_ANCHOR_ANCHOR : Field := ⟨0, 64⟩
/-- R84 RWS. -/ def TT_TRIG_CFG_SRC : Field := ⟨0, 2⟩
/-- R84 RWS. -/ def TT_TRIG_CFG_SEL : Field := ⟨2, 6⟩
/-- R84 RWS. -/ def TT_TRIG_CFG_POL : Field := ⟨8, 1⟩
/-- R84 RWS. -/ def TT_TRIG_CFG_FILT : Field := ⟨9, 4⟩
/-- R84 RWS. -/ def TT_TRIG_CFG_QDEPTH : Field := ⟨13, 4⟩
/-- R84 RWS. -/ def TT_TRIG_CFG_OVR_DEFER : Field := ⟨17, 1⟩
/-- R84 RWS. -/ def TT_TRIG_DELAY_DELAY : Field := ⟨0, 29⟩
/-- R84 WO. -/ def TT_SW_TRIG_FIRE : Field := ⟨0, 1⟩
/-- R84 RW. -/ def TT_SCHED_TIME_TARGET : Field := ⟨0, 64⟩
/-- R84 RW. -/ def TT_SCHED_CTL_ARM : Field := ⟨0, 1⟩
/-- R84 RWS. -/ def TT_ENC_CFG_ENGINE : Field := ⟨0, 4⟩
/-- R84 RWS. -/ def TT_ENC_CFG_FWD_NEG : Field := ⟨4, 1⟩
/-- R84 RWS. -/ def TT_ENC_CFG_PITCH : Field := ⟨5, 24⟩
/-- R84 RO. -/ def TT_ENC_POS_POS : Field := ⟨0, 48⟩
/-- R84 RO. -/ def TT_ENC_NEXT_NEXT : Field := ⟨0, 48⟩
/-- R84 WO. -/ def TT_ENC_CTL_ZERO : Field := ⟨0, 1⟩
/-- R84 RWS. -/ def TT_ACCUM_COUNT : Field := ⟨0, 6⟩
/-- R84 RWS. -/ def TT_ACCUM_SUB_TRIG : Field := ⟨6, 1⟩
/-- R84 RWS. -/ def TT_ACCUM_SUB_PERIOD : Field := ⟨7, 32⟩
/-- R84 RWS. -/ def TT_ACCUM_SUB_TIMEOUT : Field := ⟨39, 24⟩
/-- R84 RWS. -/ def TT_BURST_COUNT : Field := ⟨0, 16⟩
/-- R84 RWS. -/ def TT_BURST_PERIOD : Field := ⟨16, 32⟩
/-- R84 RWS. -/ def TT_STRIP_HEIGHT : Field := ⟨0, 16⟩
/-- R84 RWS. -/ def TT_STRIP_LIMIT : Field := ⟨16, 16⟩
/-- R84 RWS. -/ def TT_STRIP_PD_MODE : Field := ⟨32, 2⟩
/-- R84 RWS. -/ def TT_STRIP_PD_SEL : Field := ⟨34, 6⟩
/-- R84 RWS. -/ def TT_STRIP_PD_ENG : Field := ⟨40, 1⟩
/-- R84 RWS. -/ def TT_STRIP_PD_POL : Field := ⟨41, 1⟩
/-- R84 RWS. -/ def TT_MAP_CFG_AUTO : Field := ⟨0, 1⟩
/-- R84 RWS. -/ def TT_MAP_CFG_APPLY_A : Field := ⟨1, 1⟩
/-- R84 RWS. -/ def TT_MAP_CFG_APPLY_B : Field := ⟨2, 1⟩
/-- R84 RWS. -/ def TT_MAP_CFG_SRC_SLOT : Field := ⟨3, 1⟩
/-- R84 RWS. -/ def TT_MAP_CFG_TARGET : Field := ⟨4, 12⟩
/-- R84 RWS. -/ def TT_MAP_CFG_STEP_MAX : Field := ⟨16, 7⟩
/-- R84 RWS. -/ def TT_MAP_CFG_DEADBAND : Field := ⟨23, 5⟩
/-- R84 RWS. -/ def TT_MAP_CFG_CODE_MIN : Field := ⟨28, 9⟩
/-- R84 RWS. -/ def TT_MAP_CFG_CODE_MAX : Field := ⟨37, 9⟩
/-- R84 RO. -/ def TT_MAP_SRC_SEQ : Field := ⟨0, 32⟩
/-- R84 RO. -/ def TT_MAP_SRC_DERIVED : Field := ⟨32, 1⟩
/-- R84 W1C. -/ def TT_STATUS_COMMIT_REFUSED : Field := ⟨0, 1⟩
/-- R84 W1C. -/ def TT_STATUS_OVERRUN : Field := ⟨1, 1⟩
/-- R84 W1C. -/ def TT_STATUS_LATE : Field := ⟨2, 1⟩
/-- R84 W1C. -/ def TT_STATUS_MAP_CLAMP : Field := ⟨3, 1⟩
/-- R84 W1C. -/ def TT_STATUS_MAP_WR_IGNORED : Field := ⟨4, 1⟩
/-- R84 W1C. -/ def TT_STATUS_SCHED_LATE : Field := ⟨5, 1⟩
/-- R84 W1C. -/ def TT_STATUS_EVLOG_LOST : Field := ⟨6, 1⟩
/-- R84 RO. -/ def TT_STATUS_THROTTLED : Field := ⟨7, 1⟩
/-- R84 RO. -/ def TT_STATUS_REFUSE_CODE : Field := ⟨8, 4⟩
/-- R84 RO. -/ def TT_STATUS_PENDING : Field := ⟨12, 5⟩
/-- R84 RO. -/ def TT_STATUS_RUNNING : Field := ⟨17, 1⟩
/-- R84 RO. -/ def TT_CNT_TRIG_ACCEPTED : Field := ⟨0, 32⟩
/-- R84 RO. -/ def TT_CNT_TRIG_OVERRUN : Field := ⟨32, 32⟩
/-- R84 RO. -/ def TT_CNT_FRAME_LATE : Field := ⟨0, 32⟩
/-- R84 RO. -/ def TT_CNT_FRAME_CLAMPED : Field := ⟨32, 16⟩
/-- R84 RO. -/ def TT_EVLOG_TIME_TIME : Field := ⟨0, 64⟩
/-- R84 RO. -/ def TT_EVLOG_INFO_SEQ : Field := ⟨0, 32⟩
/-- R84 RO. -/ def TT_EVLOG_INFO_TYPE : Field := ⟨32, 4⟩
/-- R84 RO. -/ def TT_EVLOG_INFO_BOUNDARY : Field := ⟨36, 1⟩
/-- R84 RO. -/ def TT_EVLOG_INFO_VALID : Field := ⟨37, 1⟩
/-- R84 RO. -/ def TT_EVLOG_INFO_SOURCE : Field := ⟨38, 6⟩
/-- R84 RO. -/ def TT_EVLOG_INFO_DETAIL : Field := ⟨44, 10⟩
/-- R84 RO. -/ def TT_EVLOG_INFO_LOST : Field := ⟨54, 10⟩
/-- R84 WO. -/ def TT_EVLOG_POP_POP : Field := ⟨0, 1⟩
/-- R41 RWS. -/ def TT_PIX_CFG_GAIN_A : Field := ⟨0, 1⟩
/-- R41 RWS. -/ def TT_PIX_CFG_GAIN_B : Field := ⟨1, 1⟩
/-- R74 RWS. -/ def TT_MAP_C0 : Field := ⟨0, 9⟩
/-- R74 RWS. -/ def TT_MAP_C1 : Field := ⟨16, 9⟩
/-- R74 RWS. -/ def TT_MAP_C2 : Field := ⟨32, 9⟩
/-- R74 RWS. -/ def TT_MAP_C3 : Field := ⟨48, 9⟩
/-- R74 RO. -/ def TT_MAP_USE_C0 : Field := ⟨0, 9⟩
/-- R74 RO. -/ def TT_MAP_USE_C1 : Field := ⟨16, 9⟩
/-- R74 RO. -/ def TT_MAP_USE_C2 : Field := ⟨32, 9⟩
/-- R74 RO. -/ def TT_MAP_USE_C3 : Field := ⟨48, 9⟩
/-- R100 RWS. -/ def CC_CFG_DEPTH : Field := ⟨0, 2⟩
/-- R100 RWS. -/ def CC_CFG_PEDESTAL : Field := ⟨2, 8⟩
/-- R100 RWS. -/ def CC_CFG_INJ_EN : Field := ⟨10, 1⟩
/-- R100 RW. -/ def CC_ROT_CFG_ROT_EN : Field := ⟨0, 1⟩
/-- R100 RW. -/ def CC_ROT_CFG_FRAMES : Field := ⟨1, 8⟩
/-- R100 RWS. -/ def CC_INJ_CFG_LEVEL : Field := ⟨0, 12⟩
/-- R100 WO. -/ def CC_INJ_REQ_BANDS : Field := ⟨0, 32⟩
/-- R100 WO. -/ def CC_INJ_REQ_REFSEL : Field := ⟨32, 2⟩
/-- R100 W1C. -/ def CC_STATUS_ROT_DEFERRED : Field := ⟨0, 1⟩
/-- R100 W1C. -/ def CC_STATUS_INJ_REJECTED : Field := ⟨1, 1⟩
/-- R100 RO. -/ def CC_STATUS_DEPTH_ACT : Field := ⟨2, 2⟩
/-- R100 RO. -/ def CC_STATUS_BUSY : Field := ⟨4, 1⟩
/-- R100 RO. -/ def CC_STATUS_ROW_SLOT_NS : Field := ⟨16, 14⟩
/-- R100 RO. -/ def CC_CNT_ROTATIONS : Field := ⟨0, 32⟩
/-- R100 RO. -/ def CC_CNT_DEFERRED : Field := ⟨32, 16⟩
/-- R100 RO. -/ def CC_CNT_INJ_REJECTED : Field := ⟨48, 16⟩
/-- R100 RO. -/ def CC_CONV_SPARE : Field := ⟨0, 3⟩
/-- R100 RO. -/ def CC_CONV_POS0 : Field := ⟨3, 3⟩
/-- R100 RO. -/ def CC_CONV_POS1 : Field := ⟨6, 3⟩
/-- R100 RO. -/ def CC_CONV_POS2 : Field := ⟨9, 3⟩
/-- R100 RO. -/ def CC_CONV_POS3 : Field := ⟨12, 3⟩
/-- R100 RO. -/ def CC_CONV_INJ_PENDING : Field := ⟨15, 1⟩
/-- R100 RO. -/ def CC_CONV_ROT_COUNT : Field := ⟨16, 32⟩
/-- R100 RO. -/ def CC_CONV_LAST_INJ : Field := ⟨48, 12⟩
/-- R100 RO. -/ def CC_CONV_LAST_REFSEL : Field := ⟨60, 2⟩
/-- R126 RWS. -/ def CAL_CFG_EN : Field := ⟨0, 1⟩
/-- R126 RWS. -/ def CAL_CFG_AVG : Field := ⟨1, 3⟩
/-- R126 RWS. -/ def CAL_CFG_RESTORE : Field := ⟨4, 1⟩
/-- R126 RWS. -/ def CAL_CFG_REJ_LIMIT : Field := ⟨5, 8⟩
/-- R126 RO. -/ def CAL_STATUS_ACQ_DONE : Field := ⟨0, 1⟩
/-- R126 RO. -/ def CAL_STATUS_ALL_CONV : Field := ⟨1, 1⟩
/-- R126 W1C. -/ def CAL_STATUS_UNSTABLE : Field := ⟨2, 1⟩
/-- R126 W1C. -/ def CAL_STATUS_RANGE : Field := ⟨3, 1⟩
/-- R126 RO. -/ def CAL_STATUS_RESTORE_PEND : Field := ⟨4, 1⟩
/-- R126 RO. -/ def CAL_EPOCH_EPOCH : Field := ⟨0, 16⟩
/-- R126 RO. -/ def CAL_EPOCH_SEQ : Field := ⟨16, 32⟩
/-- R126 RO. -/ def CAL_EPOCH_ACQ : Field := ⟨48, 1⟩
/-- R126 RO. -/ def CAL_EPOCH_RESTORE : Field := ⟨49, 1⟩
/-- R126 RO. -/ def CAL_EPOCH_ENABLE : Field := ⟨50, 1⟩
/-- R126 RO. -/ def CAL_CNT_ACCEPTED : Field := ⟨0, 32⟩
/-- R126 RO. -/ def CAL_CNT_REJECTED : Field := ⟨32, 16⟩
/-- R126 RO. -/ def CAL_CNT_ABANDONED : Field := ⟨48, 16⟩
/-- R126 RO. -/ def CAL_TAP_OFS : Field := ⟨0, 7⟩
/-- R126 RO. -/ def CAL_TAP_GAIN : Field := ⟨7, 7⟩
/-- R126 RO. -/ def CAL_TAP_DLY : Field := ⟨14, 6⟩
/-- R126 RO. -/ def CAL_TAP_OFS_T : Field := ⟨20, 7⟩
/-- R126 RO. -/ def CAL_TAP_GAIN_T : Field := ⟨27, 7⟩
/-- R126 RO. -/ def CAL_TAP_DLY_T : Field := ⟨34, 6⟩
/-- R126 RWS. -/ def CAL_TAP_OFS_W : Field := ⟨40, 7⟩
/-- R126 RWS. -/ def CAL_TAP_GAIN_W : Field := ⟨47, 7⟩
/-- R126 RWS. -/ def CAL_TAP_DLY_W : Field := ⟨54, 6⟩
/-- R126 RO. -/ def CAL_TAP_PEND : Field := ⟨60, 1⟩
/-- R126 RO. -/ def CAL_TAP_CONV : Field := ⟨61, 1⟩
/-- R126 RO. -/ def CAL_TAP_ACQ : Field := ⟨62, 1⟩
/-- R126 RO. -/ def CAL_REC_COUNT : Field := ⟨0, 32⟩
/-- R126 RO. -/ def CAL_REC_LAST_SLICE : Field := ⟨32, 3⟩
/-- R126 RO. -/ def CAL_REC_UNSTABLE : Field := ⟨35, 1⟩
/-- R126 RO. -/ def CAL_REC_RANGE : Field := ⟨36, 1⟩
/-- R126 RO. -/ def CAL_REC_ACQ : Field := ⟨37, 1⟩
/-- R126 RO. -/ def CAL_REC_REJ_RUN : Field := ⟨38, 8⟩
/-- R126 RO. -/ def CAL_TIME_TIME : Field := ⟨0, 64⟩
/-- R127 RWS. -/ def CTX_CTL_ACTIVE : Field := ⟨0, 1⟩
/-- R127 RWS. -/ def CTX_CTL_CLASS : Field := ⟨1, 2⟩
/-- R127 RWS. -/ def CTX_CTL_DROP : Field := ⟨3, 2⟩
/-- R127 RWS. -/ def CTX_CTL_SLOT : Field := ⟨5, 2⟩
/-- R127 RWS. -/ def CTX_CTL_BIN : Field := ⟨7, 2⟩
/-- R127 RWS. -/ def CTX_CTL_DEPTH : Field := ⟨9, 2⟩
/-- R127 RWS. -/ def CTX_CTL_NR_S : Field := ⟨11, 1⟩
/-- R127 RWS. -/ def CTX_CTL_NR_T : Field := ⟨12, 1⟩
/-- R127 RWS. -/ def CTX_CTL_CURVE : Field := ⟨13, 2⟩
/-- R127 RWS. -/ def CTX_CTL_STATS : Field := ⟨15, 3⟩
/-- R127 RWS. -/ def CTX_WIN_X0 : Field := ⟨0, 14⟩
/-- R127 RWS. -/ def CTX_WIN_Y0 : Field := ⟨16, 13⟩
/-- R127 RWS. -/ def CTX_WIN_W : Field := ⟨32, 15⟩
/-- R127 RWS. -/ def CTX_WIN_H : Field := ⟨48, 14⟩
/-- R127 RWS. -/ def CTX_DEST_KIND : Field := ⟨0, 1⟩
/-- R127 RWS. -/ def CTX_DEST_SPLIT : Field := ⟨1, 1⟩
/-- R127 RWS. -/ def CTX_DEST_BUNDLES : Field := ⟨8, 8⟩
/-- R127 RWS. -/ def CTX_DEST_BERTH_MAX : Field := ⟨16, 8⟩
/-- R127 RWS. -/ def CTX_CHAIN_HEAD : Field := ⟨0, 14⟩
/-- R127 RWS. -/ def CTX_CHAIN_FERRY : Field := ⟨14, 5⟩
/-- R127 RWS. -/ def CTX_CHAIN_CHAIN_EN : Field := ⟨19, 1⟩
/-- R127 RO. -/ def CTX_ST0_LAST_SEQ : Field := ⟨0, 32⟩
/-- R127 RO. -/ def CTX_ST0_GEN : Field := ⟨32, 16⟩
/-- R127 RO. -/ def CTX_ST0_IN_USE : Field := ⟨48, 1⟩
/-- R127 RO. -/ def CTX_ST1_SENT : Field := ⟨0, 32⟩
/-- R127 RO. -/ def CTX_ST1_DROPPED : Field := ⟨32, 32⟩
/-- R181 RWS. -/ def PIPE_CFG_NORM_EN : Field := ⟨0, 1⟩
/-- R181 RWS. -/ def PIPE_CFG_BIN_SUM : Field := ⟨1, 1⟩
/-- R181 RWS. -/ def PIPE_CFG_SEAM_L : Field := ⟨2, 1⟩
/-- R181 RWS. -/ def PIPE_CFG_SEAM_R : Field := ⟨3, 1⟩
/-- R181 RWS. -/ def PIPE_NR_S_THR : Field := ⟨0, 16⟩
/-- R181 RWS. -/ def PIPE_NR_M_THR : Field := ⟨16, 16⟩
/-- R181 RWS. -/ def PIPE_NR_K_SHIFT : Field := ⟨32, 3⟩
/-- R181 RWS. -/ def PIPE_CLAMP_TRACK : Field := ⟨0, 1⟩
/-- R181 RWS. -/ def PIPE_CLAMP_TRACK_SLOTS : Field := ⟨1, 6⟩
/-- R181 RWS. -/ def PIPE_CLAMP_TC : Field := ⟨7, 4⟩
/-- R181 RWS. -/ def PIPE_CLAMP_REJ : Field := ⟨11, 16⟩
/-- R181 RWS. -/ def PIPE_HDR_KNEE_LO : Field := ⟨0, 16⟩
/-- R181 RWS. -/ def PIPE_HDR_KNEE_HI : Field := ⟨16, 16⟩
/-- R181 RWS. -/ def PIPE_HDR_GAIN_RATIO : Field := ⟨32, 16⟩
/-- R181 W1C. -/ def PIPE_STATUS_OVERLOAD : Field := ⟨0, 1⟩
/-- R181 W1C. -/ def PIPE_STATUS_HIST_MISS : Field := ⟨1, 1⟩
/-- R181 W1C. -/ def PIPE_STATUS_HIST_NOSPACE : Field := ⟨2, 1⟩
/-- R181 W1C. -/ def PIPE_STATUS_SEAM_MISS : Field := ⟨3, 1⟩
/-- R181 W1C. -/ def PIPE_STATUS_UNREPAIRED : Field := ⟨4, 1⟩
/-- R181 RO. -/ def PIPE_STATUS_BACKLOG : Field := ⟨5, 1⟩
/-- R181 W1C. -/ def PIPE_STATUS_TRACK_MISS : Field := ⟨6, 1⟩
/-- R181 RO. -/ def PIPE_CNT_OVERLOAD : Field := ⟨0, 16⟩
/-- R181 RO. -/ def PIPE_CNT_HIST_MISS : Field := ⟨16, 16⟩
/-- R181 RO. -/ def PIPE_CNT_SEAM_MISS : Field := ⟨32, 16⟩
/-- R181 RO. -/ def PIPE_CNT_UNREPAIRED : Field := ⟨48, 16⟩
/-- R181 RO. -/ def PIPE_LOAD_PEAK : Field := ⟨0, 21⟩
/-- R181 RO. -/ def PIPE_LOAD_STRIPE : Field := ⟨21, 4⟩
/-- R181 RO. -/ def PIPE_LOAD_SEQ : Field := ⟨25, 32⟩
/-- R181 RO. -/ def PIPE_BLACK_B0 : Field := ⟨0, 16⟩
/-- R181 RO. -/ def PIPE_BLACK_B1 : Field := ⟨16, 16⟩
/-- R181 RO. -/ def PIPE_BLACK_B2 : Field := ⟨32, 16⟩
/-- R181 RO. -/ def PIPE_BLACK_B3 : Field := ⟨48, 16⟩
/-- R181 RWS. -/ def PIPE_CURVE_X : Field := ⟨0, 24⟩
/-- R181 RWS. -/ def PIPE_CURVE_Y : Field := ⟨24, 16⟩
/-- R181 RWS. -/ def PIPE_CURVE_OFS_OFFSET : Field := ⟨0, 24⟩
/-- R181 RWS. -/ def PIPE_DEFECT_X : Field := ⟨0, 14⟩
/-- R181 RWS. -/ def PIPE_DEFECT_Y : Field := ⟨16, 13⟩
/-- R181 RWS. -/ def PIPE_DEFECT_FACTORY : Field := ⟨62, 1⟩
/-- R181 RWS. -/ def PIPE_DEFECT_VALID : Field := ⟨63, 1⟩
/-- R181 RWS. -/ def PIPE_FPN_OFS_HG : Field := ⟨0, 16⟩
/-- R181 RWS. -/ def PIPE_FPN_GAIN_HG : Field := ⟨16, 16⟩
/-- R181 RWS. -/ def PIPE_FPN_OFS_LG : Field := ⟨32, 16⟩
/-- R181 RWS. -/ def PIPE_FPN_GAIN_LG : Field := ⟨48, 16⟩
/-- R181 RO. -/ def PIPE_STATS_WORD : Field := ⟨0, 64⟩
/-- R181 RO. -/ def PIPE_MEAN_HDR_SEQ : Field := ⟨0, 32⟩
/-- R181 RO. -/ def PIPE_MEAN_HDR_GEN : Field := ⟨32, 16⟩
/-- R181 RO. -/ def PIPE_MEAN_HDR_CONT : Field := ⟨48, 16⟩
/-- R181 RO. -/ def PIPE_MEAN_M0 : Field := ⟨0, 16⟩
/-- R181 RO. -/ def PIPE_MEAN_M1 : Field := ⟨16, 16⟩
/-- R181 RO. -/ def PIPE_MEAN_M2 : Field := ⟨32, 16⟩
/-- R181 RO. -/ def PIPE_MEAN_M3 : Field := ⟨48, 16⟩
/-- R200 RW. -/ def FS_CFG_RETAIN : Field := ⟨0, 1⟩
/-- R200 W1C. -/ def FS_STATUS_CLAIM_FAIL : Field := ⟨0, 1⟩
/-- R200 W1C. -/ def FS_STATUS_MIRROR_SKIP : Field := ⟨1, 1⟩
/-- R200 W1C. -/ def FS_STATUS_ECC_UE : Field := ⟨2, 1⟩
/-- R200 W1C. -/ def FS_STATUS_BTAB_BUSY : Field := ⟨3, 1⟩
/-- R200 W1C. -/ def FS_STATUS_RC_FULL : Field := ⟨4, 1⟩
/-- R200 RO. -/ def FS_STATUS_FREE : Field := ⟨16, 11⟩
/-- R200 RO. -/ def FS_STATUS_HELD : Field := ⟨32, 11⟩
/-- R200 RO. -/ def FS_CNT_ECC_CE : Field := ⟨0, 32⟩
/-- R200 RO. -/ def FS_CNT_ECC_UE : Field := ⟨32, 16⟩
/-- R200 RO. -/ def FS_CNT_MIRROR_SKIP : Field := ⟨48, 16⟩
/-- R200 RWS. -/ def FS_MIRROR_MIRROR : Field := ⟨0, 64⟩
/-- R200 RW. -/ def FS_RC_KEY_SEQ : Field := ⟨0, 32⟩
/-- R200 RW. -/ def FS_RC_KEY_CONT : Field := ⟨32, 16⟩
/-- R200 RW. -/ def FS_RC_KEY_CTX : Field := ⟨48, 12⟩
/-- R200 RW. -/ def FS_RC_LINES_FIRST : Field := ⟨0, 32⟩
/-- R200 RW. -/ def FS_RC_LINES_COUNT : Field := ⟨32, 32⟩
/-- R200 RW. -/ def FS_RC_COLS_X0 : Field := ⟨0, 15⟩
/-- R200 RW. -/ def FS_RC_COLS_W : Field := ⟨16, 15⟩
/-- R200 RW. -/ def FS_RC_COLS_BUNDLE : Field := ⟨32, 3⟩
/-- R200 RW. -/ def FS_RC_COLS_TAG : Field := ⟨40, 8⟩
/-- R200 WO. -/ def FS_RC_GO_GO : Field := ⟨0, 1⟩
/-- R200 RO. -/ def FS_RC_RES_TAG : Field := ⟨0, 8⟩
/-- R200 RO. -/ def FS_RC_RES_CODE : Field := ⟨8, 3⟩
/-- R200 RO. -/ def FS_RC_RES_VALID : Field := ⟨11, 1⟩
/-- R200 RO. -/ def FS_RC_RES_LINES : Field := ⟨32, 32⟩
/-- R200 WO. -/ def FS_RC_POP_POP : Field := ⟨0, 1⟩
/-- R200 RW. -/ def FS_BERTH_BASE : Field := ⟨0, 17⟩
/-- R200 RW. -/ def FS_BERTH_SIZE : Field := ⟨32, 18⟩
/-- R200 RW. -/ def FS_BERTH_KIND : Field := ⟨50, 1⟩
/-- R200 RW. -/ def FS_BERTH_EN : Field := ⟨51, 1⟩
/-- R200 RO. -/ def FS_BSTATE_STATE : Field := ⟨0, 3⟩
/-- R200 RO. -/ def FS_BSTATE_LOCK : Field := ⟨3, 1⟩
/-- R200 RO. -/ def FS_BSTATE_CTX : Field := ⟨4, 12⟩
/-- R200 RO. -/ def FS_BSTATE_SEQ : Field := ⟨16, 32⟩
/-- R200 RO. -/ def FS_BSTATE_PEND : Field := ⟨48, 8⟩
/-- R228 W1C. -/ def FY_DONE_DONE : Field := ⟨0, 32⟩
/-- R228 W1C. -/ def FY_ERR_ERR : Field := ⟨0, 32⟩
/-- R228 RO. -/ def FY_BUSY_BUSY : Field := ⟨0, 32⟩
/-- R228 RW. -/ def FY_CTL_EN : Field := ⟨0, 1⟩
/-- R228 RW. -/ def FY_CTL_HALT_ON_ERR : Field := ⟨1, 1⟩
/-- R228 RW. -/ def FY_CTL_POLL_EN : Field := ⟨2, 1⟩
/-- R228 RW. -/ def FY_CTL_POLL_US : Field := ⟨3, 10⟩
/-- R228 WO. -/ def FY_KICK_INDEX : Field := ⟨0, 14⟩
/-- R228 WO. -/ def FY_KICK_SET_POS : Field := ⟨14, 1⟩
/-- R228 RO. -/ def FY_STAT_STATE : Field := ⟨0, 3⟩
/-- R228 RO. -/ def FY_STAT_POS : Field := ⟨3, 14⟩
/-- R228 RO. -/ def FY_STAT_LINES : Field := ⟨17, 24⟩
/-- R228 RO. -/ def FY_STAT_CHAIN : Field := ⟨41, 1⟩
/-- R228 W1C. -/ def FY_STAT_KICK_IGN : Field := ⟨42, 1⟩
/-- R228 RO. -/ def FY_STAT_KICK_HELD : Field := ⟨43, 1⟩
/-- R228 RO. -/ def FY_LAST_INDEX : Field := ⟨0, 14⟩
/-- R228 RO. -/ def FY_LAST_STATUS : Field := ⟨14, 4⟩
/-- R228 RO. -/ def FY_LAST_LINES_DONE : Field := ⟨18, 24⟩
/-- R228 RO. -/ def FY_LAST_VALID : Field := ⟨42, 1⟩
/-- R228 RO. -/ def FY_TIME_TIME : Field := ⟨0, 64⟩
/-- R228 RO. -/ def FY_CNT_DESC : Field := ⟨0, 32⟩
/-- R228 RO. -/ def FY_CNT_ERR : Field := ⟨32, 16⟩
/-- R228 RO. -/ def FY_CNT_STARVE : Field := ⟨48, 16⟩
/-- R228 RO. -/ def FY_DLV_COUNT : Field := ⟨0, 32⟩
/-- R228 RO. -/ def FY_DLV_INDEX : Field := ⟨32, 14⟩
/-- R228 RO. -/ def FY_DLV_DISCARDED : Field := ⟨46, 1⟩
/-- R228 RO. -/ def FY_DLV_VALID : Field := ⟨47, 1⟩
/-- R228 RO. -/ def FY_DLV_PENDING : Field := ⟨48, 7⟩
/-- R228 RO. -/ def FY_DLVT_TIME : Field := ⟨0, 64⟩
/-- R258 RW. -/ def EG_CFG_PRES : Field := ⟨0, 8⟩
/-- R258 RW. -/ def EG_CFG_PDEPTH : Field := ⟨8, 8⟩
/-- R258 RW. -/ def EG_CFG_B_RATIO : Field := ⟨16, 4⟩
/-- R258 RW. -/ def EG_CFG_ACK_TO : Field := ⟨20, 8⟩
/-- R258 RW. -/ def EG_CFG_BLIND_TO : Field := ⟨28, 8⟩
/-- R258 W1C. -/ def EG_STATUS_NAK : Field := ⟨0, 1⟩
/-- R258 W1C. -/ def EG_STATUS_SHED : Field := ⟨1, 1⟩
/-- R258 W1C. -/ def EG_STATUS_REJOIN : Field := ⟨2, 1⟩
/-- R258 W1C. -/ def EG_STATUS_BLIND : Field := ⟨3, 1⟩
/-- R258 W1C. -/ def EG_STATUS_CREDIT_STALL : Field := ⟨4, 1⟩
/-- R258 W1C. -/ def EG_STATUS_CAP_BAD : Field := ⟨5, 1⟩
/-- R258 W1C. -/ def EG_STATUS_P_DISCARD : Field := ⟨6, 1⟩
/-- R258 RO. -/ def EG_STATUS_ACTIVE : Field := ⟨16, 8⟩
/-- R258 RO. -/ def EG_STATUS_DEGRADED : Field := ⟨24, 8⟩
/-- R258 RW. -/ def EG_BCTL_EN : Field := ⟨0, 1⟩
/-- R258 RW. -/ def EG_BCTL_STOP : Field := ⟨1, 1⟩
/-- R258 WO. -/ def EG_BCTL_SHED : Field := ⟨2, 1⟩
/-- R258 WO. -/ def EG_BCTL_REJOIN : Field := ⟨3, 1⟩
/-- R258 RW. -/ def EG_BCTL_LANE : Field := ⟨4, 3⟩
/-- R258 RO. -/ def EG_BSTAT_STATE : Field := ⟨0, 3⟩
/-- R258 RO. -/ def EG_BSTAT_LANES : Field := ⟨3, 7⟩
/-- R258 RO. -/ def EG_BSTAT_P_SINK : Field := ⟨10, 1⟩
/-- R258 RO. -/ def EG_BSTAT_REPLAY : Field := ⟨11, 12⟩
/-- R258 RO. -/ def EG_BSTAT_NEXT_LSN : Field := ⟨23, 16⟩
/-- R258 RO. -/ def EG_BSTAT_EXPECT : Field := ⟨39, 16⟩
/-- R258 RO. -/ def EG_BCAP_INIT_N : Field := ⟨0, 16⟩
/-- R258 RO. -/ def EG_BCAP_INIT_B : Field := ⟨16, 16⟩
/-- R258 RO. -/ def EG_BCAP_RES_N : Field := ⟨32, 8⟩
/-- R258 RO. -/ def EG_BCAP_RES_B : Field := ⟨40, 8⟩
/-- R258 RO. -/ def EG_BCAP_DESKEW : Field := ⟨48, 5⟩
/-- R258 RO. -/ def EG_BCAP_VALID : Field := ⟨53, 1⟩
/-- R258 RO. -/ def EG_BCNT0_REPLAYS : Field := ⟨0, 32⟩
/-- R258 RO. -/ def EG_BCNT0_PKTS_RESENT : Field := ⟨32, 32⟩
/-- R258 RO. -/ def EG_BCNT1_SHEDS : Field := ⟨0, 16⟩
/-- R258 RO. -/ def EG_BCNT1_REJOINS : Field := ⟨16, 16⟩
/-- R258 RO. -/ def EG_BCNT1_BLINDS_REL : Field := ⟨32, 16⟩
/-- R258 RO. -/ def EG_BCNT1_P_DISCARD : Field := ⟨48, 16⟩
/-- R258 RO. -/ def EG_BCRED_AVAIL_N : Field := ⟨0, 16⟩
/-- R258 RO. -/ def EG_BCRED_AVAIL_B : Field := ⟨16, 16⟩
/-- R258 RO. -/ def EG_BCRED_P_TOKENS : Field := ⟨32, 32⟩
/-- R258 RO. -/ def EG_BTIME_TIME : Field := ⟨0, 64⟩
/-- R280 RW. -/ def LN_CFG_TRAIN_TO : Field := ⟨0, 8⟩
/-- R280 RW. -/ def LN_CFG_LOCK_TO : Field := ⟨8, 8⟩
/-- R280 RW. -/ def LN_CFG_CAP_TO : Field := ⟨16, 8⟩
/-- R280 RW. -/ def LN_CFG_DET_RETRY : Field := ⟨24, 8⟩
/-- R280 RW. -/ def LN_CFG_REJOIN_RETRY : Field := ⟨32, 8⟩
/-- R280 W1C. -/ def LN_STATUS_TRAIN_TO : Field := ⟨0, 1⟩
/-- R280 W1C. -/ def LN_STATUS_LOCK_TO : Field := ⟨1, 1⟩
/-- R280 W1C. -/ def LN_STATUS_CAP_TO : Field := ⟨2, 1⟩
/-- R280 W1C. -/ def LN_STATUS_LOCK_LOSS : Field := ⟨3, 1⟩
/-- R280 W1C. -/ def LN_STATUS_PRBS_ERR : Field := ⟨4, 1⟩
/-- R280 W1C. -/ def LN_STATUS_TXEQ_LIMIT : Field := ⟨5, 1⟩
/-- R280 RO. -/ def LN_STATUS_MOORED : Field := ⟨16, 8⟩
/-- R280 RW. -/ def LN_BCTL_MOOR_DOWN : Field := ⟨0, 1⟩
/-- R280 RW. -/ def LN_BCTL_MOOR_STOP : Field := ⟨1, 1⟩
/-- R280 RW. -/ def LN_BCTL_TEST : Field := ⟨2, 1⟩
/-- R280 RO. -/ def LN_BSTAT_TRAINS : Field := ⟨0, 16⟩
/-- R280 RO. -/ def LN_BSTAT_EXITS : Field := ⟨16, 16⟩
/-- R280 RO. -/ def LN_BSTAT_TIMEOUTS : Field := ⟨32, 16⟩
/-- R280 RW. -/ def LN_LCTL_HOLD : Field := ⟨0, 1⟩
/-- R280 RW. -/ def LN_LCTL_DET_SKIP : Field := ⟨1, 1⟩
/-- R280 RO. -/ def LN_LSTAT_STATE : Field := ⟨0, 4⟩
/-- R280 RO. -/ def LN_LSTAT_DETECTED : Field := ⟨4, 1⟩
/-- R280 RO. -/ def LN_LSTAT_READY : Field := ⟨5, 1⟩
/-- R280 RO. -/ def LN_LSTAT_FROZEN : Field := ⟨6, 1⟩
/-- R280 RO. -/ def LN_LSTAT_RX_LOCK : Field := ⟨7, 1⟩
/-- R280 RO. -/ def LN_LSTAT_RETRAINS : Field := ⟨16, 16⟩
/-- R280 RW. -/ def LN_LTXEQ_PRE : Field := ⟨0, 4⟩
/-- R280 RW. -/ def LN_LTXEQ_POST : Field := ⟨4, 5⟩
/-- R280 RW. -/ def LN_LTXEQ_PRE_PRESET : Field := ⟨16, 4⟩
/-- R280 RW. -/ def LN_LTXEQ_POST_PRESET : Field := ⟨20, 5⟩
/-- R280 RW. -/ def LN_LTXEQ_SWING : Field := ⟨25, 3⟩
/-- R280 RW. -/ def LN_LTEST_PATTERN : Field := ⟨0, 2⟩
/-- R280 RW. -/ def LN_LTEST_GEN_EN : Field := ⟨2, 1⟩
/-- R280 RW. -/ def LN_LTEST_CHK_EN : Field := ⟨3, 1⟩
/-- R280 RW. -/ def LN_LTEST_CHK_SRC : Field := ⟨4, 1⟩
/-- R280 RW. -/ def LN_LTEST_INV : Field := ⟨5, 1⟩
/-- R280 RW. -/ def LN_LTEST_FIXED : Field := ⟨32, 32⟩
/-- R280 WO. -/ def LN_LINJ_KIND : Field := ⟨0, 2⟩
/-- R280 WO. -/ def LN_LINJ_COUNT : Field := ⟨2, 7⟩
/-- R280 RO. -/ def LN_LPERR_ERRORS : Field := ⟨0, 32⟩
/-- R280 RO. -/ def LN_LPERR_LOCKED : Field := ⟨32, 1⟩
/-- R280 RO. -/ def LN_LPBITS_BITS : Field := ⟨0, 64⟩
/-- R280 RO. -/ def LN_LCNT_INVALID_HDR : Field := ⟨0, 16⟩
/-- R280 RO. -/ def LN_LCNT_STUFF_ERR : Field := ⟨16, 16⟩
/-- R280 RO. -/ def LN_LCNT_LOCK_LOSS : Field := ⟨32, 16⟩
/-- R280 RO. -/ def LN_LCNT_CRC_ERR : Field := ⟨48, 16⟩
/-- R306 RW. -/ def FB_CFG_PORT_EN : Field := ⟨0, 8⟩
/-- R306 RW. -/ def FB_CFG_HINT_EN : Field := ⟨8, 1⟩
/-- R306 RW. -/ def FB_CFG_HINT_X : Field := ⟨9, 6⟩
/-- R306 RW. -/ def FB_CFG_HINT_Y : Field := ⟨15, 6⟩
/-- R306 RW. -/ def FB_CFG_SEAM_PORT_L : Field := ⟨21, 3⟩
/-- R306 RW. -/ def FB_CFG_SEAM_TX_L : Field := ⟨24, 1⟩
/-- R306 RW. -/ def FB_CFG_SEAM_PORT_R : Field := ⟨25, 3⟩
/-- R306 RW. -/ def FB_CFG_SEAM_TX_R : Field := ⟨28, 1⟩
/-- R306 RO. -/ def FB_STATUS_ROOT : Field := ⟨0, 1⟩
/-- R306 RO. -/ def FB_STATUS_ADDR_VALID : Field := ⟨1, 1⟩
/-- R306 RO. -/ def FB_STATUS_ADDR : Field := ⟨2, 12⟩
/-- R306 RO. -/ def FB_STATUS_NODES : Field := ⟨14, 7⟩
/-- R306 W1C. -/ def FB_STATUS_TOPO_CHG : Field := ⟨21, 1⟩
/-- R306 W1C. -/ def FB_STATUS_HINT_DUP : Field := ⟨22, 1⟩
/-- R306 W1C. -/ def FB_STATUS_DIAM : Field := ⟨23, 1⟩
/-- R306 W1C. -/ def FB_STATUS_OVERSIZE : Field := ⟨24, 1⟩
/-- R306 W1C. -/ def FB_STATUS_TTS_MISS : Field := ⟨25, 1⟩
/-- R306 W1C. -/ def FB_STATUS_SEAM_BAD : Field := ⟨26, 1⟩
/-- R306 W1C. -/ def FB_STATUS_TUN_DROP : Field := ⟨27, 1⟩
/-- R306 RO. -/ def FB_ROOT_ROOT_ID : Field := ⟨0, 64⟩
/-- R306 RO. -/ def FB_TIME_NOW : Field := ⟨0, 64⟩
/-- R306 RO. -/ def FB_TSTAT_STATE : Field := ⟨0, 2⟩
/-- R306 RO. -/ def FB_TSTAT_PTP_LOCK : Field := ⟨2, 1⟩
/-- R306 RO. -/ def FB_TSTAT_PARENT : Field := ⟨3, 3⟩
/-- R306 RO. -/ def FB_TSTAT_PARENT_VALID : Field := ⟨6, 1⟩
/-- R306 RO. -/ def FB_TSTAT_ROOT_DIST : Field := ⟨7, 4⟩
/-- R306 RO. -/ def FB_TSTAT_STEPS : Field := ⟨11, 16⟩
/-- R306 RO. -/ def FB_TSTAT_OFFSET : Field := ⟨32, 32⟩
/-- R306 RW. -/ def FB_TRIG_CFG_ORIGIN : Field := ⟨0, 1⟩
/-- R306 RW. -/ def FB_TRIG_CFG_SRC : Field := ⟨1, 2⟩
/-- R306 RW. -/ def FB_TRIG_CFG_SEL : Field := ⟨3, 6⟩
/-- R306 RW. -/ def FB_TRIG_CFG_POL : Field := ⟨9, 1⟩
/-- R306 RW. -/ def FB_TRIG_CFG_FILT : Field := ⟨10, 4⟩
/-- R306 RW. -/ def FB_TRIG_CFG_TX_CH : Field := ⟨14, 2⟩
/-- R306 RW. -/ def FB_TRIG_CFG_RX_CH : Field := ⟨16, 2⟩
/-- R306 RW. -/ def FB_TRIG_CFG_LEAD : Field := ⟨18, 32⟩
/-- R306 RO. -/ def FB_TRIG_CNT_SENT : Field := ⟨0, 16⟩
/-- R306 RO. -/ def FB_TRIG_CNT_RECEIVED : Field := ⟨16, 16⟩
/-- R306 RO. -/ def FB_TRIG_CNT_DUP : Field := ⟨32, 16⟩
/-- R306 RO. -/ def FB_TRIG_CNT_TNUM : Field := ⟨48, 16⟩
/-- R306 RW. -/ def FB_TTS_CFG_SEND : Field := ⟨0, 1⟩
/-- R306 RW. -/ def FB_TTS_CFG_RECV : Field := ⟨1, 1⟩
/-- R306 WO. -/ def FB_GO_TRIG_FIRE : Field := ⟨0, 1⟩
/-- R306 WO. -/ def FB_GO_TTS_SEND : Field := ⟨1, 1⟩
/-- R306 RO. -/ def FB_TTS_STAT_SENT_K : Field := ⟨0, 16⟩
/-- R306 RO. -/ def FB_TTS_STAT_INST_K : Field := ⟨16, 16⟩
/-- R306 RO. -/ def FB_TUN_CNT_FORWARDED : Field := ⟨0, 32⟩
/-- R306 RO. -/ def FB_TUN_CNT_DROPPED : Field := ⟨32, 16⟩
/-- R306 RO. -/ def FB_TUN_CNT_INFLIGHT : Field := ⟨48, 5⟩
/-- R306 RW. -/ def FB_PCTL_TEST : Field := ⟨0, 1⟩
/-- R306 RW. -/ def FB_PCTL_DET_SKIP : Field := ⟨1, 1⟩
/-- R306 RO. -/ def FB_PSTAT_STATE : Field := ⟨0, 3⟩
/-- R306 RO. -/ def FB_PSTAT_ADJ : Field := ⟨3, 1⟩
/-- R306 RO. -/ def FB_PSTAT_TREE : Field := ⟨4, 1⟩
/-- R306 RO. -/ def FB_PSTAT_PRE : Field := ⟨5, 4⟩
/-- R306 RO. -/ def FB_PSTAT_POST : Field := ⟨9, 5⟩
/-- R306 RO. -/ def FB_PSTAT_PEER_PORT : Field := ⟨14, 3⟩
/-- R306 RO. -/ def FB_PDELAY_DELAY : Field := ⟨0, 32⟩
/-- R306 RW. -/ def FB_PDELAY_ASYM : Field := ⟨32, 32⟩
/-- R306 RO. -/ def FB_PCNT_CRC_ERR : Field := ⟨0, 16⟩
/-- R306 RO. -/ def FB_PCNT_LOCK_LOSS : Field := ⟨16, 16⟩
/-- R306 RO. -/ def FB_PCNT_TRAINS : Field := ⟨32, 16⟩
/-- R306 RO. -/ def FB_PCNT_INVALID_HDR : Field := ⟨48, 16⟩
/-- R306 RW. -/ def FB_PTEST_PATTERN : Field := ⟨0, 2⟩
/-- R306 RW. -/ def FB_PTEST_GEN_EN : Field := ⟨2, 1⟩
/-- R306 RW. -/ def FB_PTEST_CHK_EN : Field := ⟨3, 1⟩
/-- R306 RW. -/ def FB_PTEST_CHK_SRC : Field := ⟨4, 1⟩
/-- R306 RW. -/ def FB_PTEST_INV : Field := ⟨5, 1⟩
/-- R306 RW. -/ def FB_PTEST_FIXED : Field := ⟨32, 32⟩
/-- R306 WO. -/ def FB_PINJ_KIND : Field := ⟨0, 2⟩
/-- R306 WO. -/ def FB_PINJ_COUNT : Field := ⟨2, 7⟩
/-- R306 RO. -/ def FB_PPERR_ERRORS : Field := ⟨0, 32⟩
/-- R306 RO. -/ def FB_PPERR_LOCKED : Field := ⟨32, 1⟩
/-- R306 RO. -/ def FB_PPBITS_BITS : Field := ⟨0, 64⟩
/-- R306 RO. -/ def FB_NODE_ID_DEVID : Field := ⟨0, 64⟩
/-- R306 RO. -/ def FB_NODE_INFO_ADDR : Field := ⟨0, 12⟩
/-- R306 RO. -/ def FB_NODE_INFO_VALID : Field := ⟨12, 1⟩
/-- R306 RO. -/ def FB_NODE_INFO_HOPS : Field := ⟨13, 4⟩
/-- R306 RO. -/ def FB_NODE_INFO_PORT : Field := ⟨17, 3⟩
/-- R306 RO. -/ def FB_NODE_INFO_SELF : Field := ⟨20, 1⟩
/-- R342 RO. -/ def PIO_STATUS_FAULT : Field := ⟨0, 16⟩
/-- R342 RO. -/ def PIO_STATUS_STALLED : Field := ⟨16, 16⟩
/-- R342 RO. -/ def PIO_STATUS_RUNNING : Field := ⟨32, 16⟩
/-- R342 RO. -/ def PIO_IN_IN : Field := ⟨0, 64⟩
/-- R342 RW. -/ def PIO_OUT_OUT : Field := ⟨0, 64⟩
/-- R342 RO. -/ def PIO_FLAGS_FLAGS : Field := ⟨0, 16⟩
/-- R342 WO. -/ def PIO_FLAG_SET_SET : Field := ⟨0, 16⟩
/-- R342 WO. -/ def PIO_FLAG_CLR_CLR : Field := ⟨0, 16⟩
/-- R342 W1C. -/ def PIO_HOSTIRQ_HOST : Field := ⟨0, 16⟩
/-- R342 RW. -/ def PIO_PIN_MODE : Field := ⟨0, 2⟩
/-- R342 RW. -/ def PIO_PIN_OWNER : Field := ⟨2, 4⟩
/-- R342 RW. -/ def PIO_PIN_PULL : Field := ⟨6, 2⟩
/-- R342 RW. -/ def PIO_PIN_DRIVE : Field := ⟨8, 2⟩
/-- R342 RW. -/ def PIO_PIN_INV : Field := ⟨10, 1⟩
/-- R342 RO. -/ def PIO_PIN_LATCH : Field := ⟨11, 1⟩
/-- R342 RW. -/ def PIO_ECTL_RUN : Field := ⟨0, 1⟩
/-- R342 RW. -/ def PIO_ECTL_PINBASE : Field := ⟨1, 6⟩
/-- R342 RW. -/ def PIO_ECTL_START : Field := ⟨7, 5⟩
/-- R342 RW. -/ def PIO_ECTL_CLKDIV : Field := ⟨12, 12⟩
/-- R342 WO. -/ def PIO_ECMD_RESTART : Field := ⟨0, 1⟩
/-- R342 WO. -/ def PIO_ECMD_KICK : Field := ⟨1, 1⟩
/-- R342 WO. -/ def PIO_ECMD_DOUT_ACK : Field := ⟨2, 1⟩
/-- R342 WO. -/ def PIO_ECMD_DIN_DROP : Field := ⟨3, 1⟩
/-- R342 RO. -/ def PIO_ESTAT_STATE : Field := ⟨0, 2⟩
/-- R342 RO. -/ def PIO_ESTAT_PC : Field := ⟨2, 5⟩
/-- R342 RO. -/ def PIO_ESTAT_CAUSE : Field := ⟨7, 3⟩
/-- R342 RO. -/ def PIO_ESTAT_SC : Field := ⟨10, 7⟩
/-- R342 RO. -/ def PIO_ESTAT_BITS_DONE : Field := ⟨17, 7⟩
/-- R342 RO. -/ def PIO_ESTAT_DIN_FULL : Field := ⟨24, 1⟩
/-- R342 RO. -/ def PIO_ESTAT_DOUT_FULL : Field := ⟨25, 1⟩
/-- R342 RO. -/ def PIO_ESTAT_INJ_PEND : Field := ⟨26, 1⟩
/-- R342 RO. -/ def PIO_ESTAT_LATCH : Field := ⟨27, 7⟩
/-- R342 RO. -/ def PIO_ESTAT_FAULT : Field := ⟨34, 1⟩
/-- R342 W1C. -/ def PIO_ESTAT_EV_LOST : Field := ⟨35, 1⟩
/-- R342 W1C. -/ def PIO_ESTAT_INJ_REFUSED : Field := ⟨36, 1⟩
/-- R342 W1C. -/ def PIO_ESTAT_INJ_LOST : Field := ⟨37, 1⟩
/-- R342 W1C. -/ def PIO_ESTAT_OWN_ERR : Field := ⟨38, 1⟩
/-- R342 W1C. -/ def PIO_ESTAT_DIN_OVR : Field := ⟨39, 1⟩
/-- R342 RO. -/ def PIO_ESR_SR : Field := ⟨0, 64⟩
/-- R342 RO. -/ def PIO_ELC_LC : Field := ⟨0, 32⟩
/-- R342 RW. -/ def PIO_DIN_DIN : Field := ⟨0, 64⟩
/-- R342 RO. -/ def PIO_DOUT_DOUT : Field := ⟨0, 64⟩
/-- R342 WO. -/ def PIO_INJ_INSTR : Field := ⟨0, 16⟩
/-- R342 RW. -/ def PIO_PROG_INSTR : Field := ⟨0, 16⟩
/-- R365 RW. -/ def ETH_CFG_LINK_EN : Field := ⟨0, 1⟩
/-- R365 RW. -/ def ETH_CFG_JUMBO : Field := ⟨1, 1⟩
/-- R365 RW. -/ def ETH_CFG_IP_MODE : Field := ⟨2, 2⟩
/-- R365 RW. -/ def ETH_CFG_ICMP_EN : Field := ⟨4, 1⟩
/-- R365 RO. -/ def ETH_STATUS_LINK_UP : Field := ⟨0, 1⟩
/-- R365 RO. -/ def ETH_STATUS_MOD_ABS : Field := ⟨1, 1⟩
/-- R365 RO. -/ def ETH_STATUS_RX_LOS : Field := ⟨2, 1⟩
/-- R365 RO. -/ def ETH_STATUS_TX_FAULT : Field := ⟨3, 1⟩
/-- R365 RO. -/ def ETH_STATUS_IP_VALID : Field := ⟨4, 1⟩
/-- R365 RO. -/ def ETH_STATUS_IP_DHCP : Field := ⟨5, 1⟩
/-- R365 W1C. -/ def ETH_STATUS_LINK_DOWN : Field := ⟨6, 1⟩
/-- R365 W1C. -/ def ETH_STATUS_ARP_CONFLICT : Field := ⟨7, 1⟩
/-- R365 W1C. -/ def ETH_STATUS_DHCP_FAIL : Field := ⟨8, 1⟩
/-- R365 W1C. -/ def ETH_STATUS_RX_DROP : Field := ⟨9, 1⟩
/-- R365 RWL. -/ def ETH_MAC_MAC : Field := ⟨0, 48⟩
/-- R365 RW. -/ def ETH_IP_ADDR : Field := ⟨0, 32⟩
/-- R365 RW. -/ def ETH_IP_PREFIX : Field := ⟨32, 6⟩
/-- R365 RW. -/ def ETH_GW_GATEWAY : Field := ⟨0, 32⟩
/-- R365 RO. -/ def ETH_IP_ACT_ADDR : Field := ⟨0, 32⟩
/-- R365 RO. -/ def ETH_IP_ACT_PREFIX : Field := ⟨32, 6⟩
/-- R365 RW. -/ def ETH_PTP_CFG_EN : Field := ⟨0, 1⟩
/-- R365 RW. -/ def ETH_PTP_CFG_DOMAIN : Field := ⟨1, 8⟩
/-- R365 RO. -/ def ETH_PTP_STAT_STATE : Field := ⟨0, 2⟩
/-- R365 RO. -/ def ETH_PTP_STAT_APPLIED : Field := ⟨2, 1⟩
/-- R365 RO. -/ def ETH_PTP_STAT_UTC_OFFSET : Field := ⟨3, 16⟩
/-- R365 RO. -/ def ETH_PTP_STAT_UTC_VALID : Field := ⟨19, 1⟩
/-- R365 RO. -/ def ETH_PTP_STAT_IGNORED : Field := ⟨20, 16⟩
/-- R365 RO. -/ def ETH_PTP_GM_GM_ID : Field := ⟨0, 64⟩
/-- R365 RO. -/ def ETH_PTP_OFS_OFFSET : Field := ⟨0, 32⟩
/-- R365 RO. -/ def ETH_PTP_OFS_DELAY : Field := ⟨32, 32⟩
/-- R365 RW. -/ def ETH_PREV_CFG_EN : Field := ⟨0, 1⟩
/-- R365 RW. -/ def ETH_PREV_CFG_SCALE : Field := ⟨1, 2⟩
/-- R365 RW. -/ def ETH_PREV_CFG_FPS_MAX : Field := ⟨3, 8⟩
/-- R365 RW. -/ def ETH_PREV_CFG_RATE : Field := ⟨11, 5⟩
/-- R365 RW. -/ def ETH_PREV_DST_ADDR : Field := ⟨0, 32⟩
/-- R365 RW. -/ def ETH_PREV_DST_PORT : Field := ⟨32, 16⟩
/-- R365 RO. -/ def ETH_PREV_STAT_FRAMES : Field := ⟨0, 32⟩
/-- R365 RO. -/ def ETH_PREV_STAT_FREE : Field := ⟨32, 23⟩
/-- R365 RO. -/ def ETH_PREV_CNT_SKIPPED : Field := ⟨0, 32⟩
/-- R365 RO. -/ def ETH_PREV_CNT_DROPPED : Field := ⟨32, 16⟩
/-- R365 RO. -/ def ETH_PREV_CNT_UNRESOLVED : Field := ⟨48, 16⟩
/-- R365 RO. -/ def ETH_WT_CNT_REQUESTS : Field := ⟨0, 32⟩
/-- R365 RO. -/ def ETH_WT_CNT_ERRORS : Field := ⟨32, 16⟩
/-- R365 RO. -/ def ETH_WT_CNT_RX_DROP : Field := ⟨48, 16⟩
/-- R391 RO. -/ def CFG_BOOT_STAT_SLOT : Field := ⟨0, 2⟩
/-- R391 RO. -/ def CFG_BOOT_STAT_RECOVERY : Field := ⟨2, 1⟩
/-- R391 RO. -/ def CFG_BOOT_STAT_BOOT_LOCK : Field := ⟨3, 1⟩
/-- R391 RO. -/ def CFG_BOOT_STAT_CONFIRM_WAIT : Field := ⟨4, 1⟩
/-- R391 W1C. -/ def CFG_BOOT_STAT_RB_REFUSED : Field := ⟨5, 1⟩
/-- R391 RO. -/ def CFG_BOOT_STAT_VERSION : Field := ⟨32, 32⟩
/-- R391 WO. -/ def CFG_BOOT_CTL_RESET : Field := ⟨0, 1⟩
/-- R391 WO. -/ def CFG_BOOT_CTL_ROLLBACK : Field := ⟨1, 1⟩
/-- R391 WO. -/ def CFG_BOOT_CTL_CONFIRM : Field := ⟨2, 1⟩
/-- R391 RO. -/ def CFG_SLOT_VERSION : Field := ⟨0, 32⟩
/-- R391 RO. -/ def CFG_SLOT_KEY_IDX : Field := ⟨32, 2⟩
/-- R391 RO. -/ def CFG_SLOT_VALID : Field := ⟨34, 1⟩
/-- R391 RO. -/ def CFG_SLOT_ATTEMPTS : Field := ⟨35, 2⟩
/-- R391 RO. -/ def CFG_SLOT_GOOD : Field := ⟨37, 1⟩
/-- R391 RO. -/ def CFG_SLOT_REJECT : Field := ⟨38, 1⟩
/-- R391 RO. -/ def CFG_SLOT_FAIL : Field := ⟨39, 4⟩
/-- R391 RO. -/ def CFG_FL_INFO_DENSITY_MIB : Field := ⟨0, 16⟩
/-- R391 RO. -/ def CFG_FL_INFO_SLOT_MIB : Field := ⟨16, 8⟩
/-- R391 RO. -/ def CFG_FL_INFO_SFDP_OK : Field := ⟨24, 1⟩
/-- R391 RO. -/ def CFG_FL_INFO_SCK_MHZ : Field := ⟨25, 7⟩
/-- R391 RW. -/ def CFG_FL_ADDR_ADDR : Field := ⟨0, 28⟩
/-- R391 WO. -/ def CFG_FL_CMD_OP : Field := ⟨0, 3⟩
/-- R391 WO. -/ def CFG_FL_CMD_SLOT : Field := ⟨4, 2⟩
/-- R391 RO. -/ def CFG_FL_STAT_BUSY : Field := ⟨0, 1⟩
/-- R391 RO. -/ def CFG_FL_STAT_ERR : Field := ⟨1, 3⟩
/-- R391 W1C. -/ def CFG_FL_STAT_ERR_FLAG : Field := ⟨4, 1⟩
/-- R391 RW. -/ def CFG_FL_BUF_DATA : Field := ⟨0, 64⟩
/-- R391 RO. -/ def SEC_KEY_HASH : Field := ⟨0, 64⟩
/-- R391 RO. -/ def SEC_KEY_ST_PROGRAMMED : Field := ⟨0, 1⟩
/-- R391 RO. -/ def SEC_KEY_ST_REVOKED : Field := ⟨1, 1⟩
/-- R391 RW. -/ def SEC_KEY_NEW_HASH : Field := ⟨0, 64⟩
/-- R391 WO. -/ def SEC_KEY_CTL_ADD : Field := ⟨0, 1⟩
/-- R391 WO. -/ def SEC_KEY_CTL_REVOKE : Field := ⟨1, 1⟩
/-- R391 WO. -/ def SEC_KEY_CTL_INDEX : Field := ⟨2, 2⟩
/-- R391 RO. -/ def SEC_KEY_STAT_BUSY : Field := ⟨0, 1⟩
/-- R391 W1C. -/ def SEC_KEY_STAT_FULL : Field := ⟨1, 1⟩
/-- R391 W1C. -/ def SEC_KEY_STAT_REFUSED : Field := ⟨2, 1⟩
/-- R391 RO. -/ def SEC_ID_PUB_KEY : Field := ⟨0, 64⟩
/-- R391 RO. -/ def SEC_ID_CERT_LEN_LEN : Field := ⟨0, 11⟩
/-- R391 RO. -/ def SEC_ID_CERT_CERT : Field := ⟨0, 64⟩
/-- R391 RO. -/ def SEC_SESS_SESSION : Field := ⟨0, 32⟩
/-- R391 RO. -/ def SEC_SESS_KEY_IDX : Field := ⟨32, 2⟩
/-- R391 RO. -/ def SEC_SESS_OPEN : Field := ⟨34, 1⟩
/-- R391 RO. -/ def SEC_SESS_IDLE_S : Field := ⟨35, 9⟩
/-- R391 RO. -/ def SEC_SESS_CTR_LAST_CTR : Field := ⟨0, 64⟩
/-- R154 WO. -/ def CFG_GW_COMMIT_COMMIT : Field := ⟨0, 1⟩
/-- R154 WO. -/ def CFG_GW_COMMIT_FORCE : Field := ⟨1, 1⟩
/-- R154 RO. -/ def CFG_GW_STATUS_PENDING : Field := ⟨0, 1⟩
/-- R154 W1C. -/ def CFG_GW_STATUS_MERGED : Field := ⟨1, 1⟩
/-- R154 W1C. -/ def CFG_GW_STATUS_BANK_WAIT : Field := ⟨2, 1⟩
/-- R154 W1C. -/ def CFG_GW_STATUS_FORCED_OVR : Field := ⟨3, 1⟩
/-- R154 RO. -/ def CFG_GW_STATUS_BANKS_BUSY : Field := ⟨4, 3⟩
/-- R154 RO. -/ def CFG_GW_STATUS_REFUSE_CTX : Field := ⟨8, 12⟩
/-- R154 RO. -/ def CFG_GW_STATUS_REFUSE_BY_CTX : Field := ⟨20, 1⟩
/-- R154 RO. -/ def CFG_GW_GEN_GEN : Field := ⟨0, 16⟩
/-- R154 RO. -/ def CFG_GW_GEN_SEQ : Field := ⟨16, 32⟩
/-- R154 RO. -/ def CFG_GW_GEN_IDLE : Field := ⟨48, 1⟩
/-- R154 RO. -/ def CFG_GW_GEN_DERIVED : Field := ⟨49, 1⟩
/-- R154 RO. -/ def CFG_GW_GEN_HOST : Field := ⟨50, 1⟩
/-- R154 RO. -/ def CFG_GW_CTIME_TIME : Field := ⟨0, 64⟩
/-- R154 RO. -/ def CFG_GW_ITIME_TIME : Field := ⟨0, 64⟩
/-- R154 RO. -/ def CFG_MAN_HEAD_COUNT : Field := ⟨0, 32⟩
/-- R154 RO. -/ def CFG_MAN_WORD : Field := ⟨0, 64⟩
/-- R204, descriptor word 0. -/ def DESC0_LAST : Field := ⟨0, 1⟩
/-- R204, descriptor word 0. -/ def DESC0_NOTIFY : Field := ⟨1, 1⟩
/-- R204, descriptor word 0. -/ def DESC0_DLV_REQ : Field := ⟨2, 1⟩
/-- R204, descriptor word 0. -/ def DESC0_FRAME : Field := ⟨3, 1⟩
/-- R204, descriptor word 0. -/ def DESC0_TAG : Field := ⟨8, 8⟩
/-- R204, descriptor word 0. -/ def DESC0_LINE0 : Field := ⟨16, 24⟩
/-- R204, descriptor word 0. -/ def DESC0_COL0 : Field := ⟨40, 10⟩
/-- R204, descriptor word 0. -/ def DESC0_PIX : Field := ⟨50, 11⟩
/-- R204, descriptor word 0. -/ def DESC0_OWN : Field := ⟨63, 1⟩
/-- R204, descriptor word 2. -/ def DESC2_LEN : Field := ⟨0, 9⟩
/-- R204, descriptor word 2. -/ def DESC2_COUNT : Field := ⟨9, 24⟩
/-- R204, descriptor word 2. -/ def DESC2_STRIDE : Field := ⟨33, 31⟩
/-- R204, descriptor word 5. -/ def DESC5_NEXT : Field := ⟨0, 14⟩
/-- R204, descriptor word 5. -/ def DESC5_PACE_KIND : Field := ⟨14, 2⟩
/-- R204, descriptor word 5. -/ def DESC5_PACE_UNIT : Field := ⟨16, 1⟩
/-- R204, descriptor word 5. -/ def DESC5_PACE_SEL : Field := ⟨17, 5⟩
/-- R204, descriptor word 5. -/ def DESC5_PACE_ARG : Field := ⟨22, 32⟩
/-- R204, descriptor word 6. -/ def DESC6_SEQ : Field := ⟨0, 32⟩
/-- R204, descriptor word 6. -/ def DESC6_CONT : Field := ⟨32, 16⟩
/-- R204, descriptor word 6. -/ def DESC6_CTX : Field := ⟨48, 12⟩
/-- R204, descriptor word 6. -/ def DESC6_CLASS : Field := ⟨60, 2⟩
/-- R204, descriptor word 6. -/ def DESC6_DEPTH : Field := ⟨62, 2⟩
/-- R204, descriptor word 7. -/ def DESC7_LINES_DONE : Field := ⟨0, 24⟩
/-- R204, descriptor word 7. -/ def DESC7_STATUS : Field := ⟨24, 4⟩
/-- R204, descriptor word 7. -/ def DESC7_TIME_LO : Field := ⟨32, 32⟩
/-- R204, descriptor words 1 and 3. -/ def DESC_ADDR : Field := ⟨0, 48⟩

end Fld

end Sys2Proof.Machine
end

