-- ==== Sys2Proof/Machine/State.lean ====
section
/-! DEFINITION. The state of the TQ1342 as plain data: the register file, the setting banks, and for each block the state that the spec gives it besides its registers; the fault and refusal reasons; the state right after reset. -/

namespace Sys2Proof.Machine

/-- A register file or any other sparse map from addresses to words: addresses strictly rising, no entry equal to what an unlisted address reads as. -/
abbrev RegFile := List (Nat × Word)

/-- A sparse map from keys to natural numbers, 0 where unlisted. -/
abbrev NatMap := List (Nat × Nat)

/-- A stretch of the timetable's clock in which fabric time moved against it (R48, R294): from instant `a` to instant `b` the offset went evenly from `o` to `o'`; with `a = b`, a step. -/
structure Drift where
  a : Nat
  b : Nat
  o : Int
  o' : Int
deriving DecidableEq, Repr

/-- Time. `now` counts ns since the model's start; `tt` counts ns of the timetable's own 500 MHz clock from tick 0, two per tick (R48); fabric time is `tt` plus `off`, in units of 2⁻¹⁶ ns (R8, R293), and `past` holds the stretches in which the offset has moved, oldest first, so that an earlier instant keeps its fabric time (R24, R50); `slew` is the offset still to be removed and `step` a step waiting for its gangway (R294). -/
structure Clock where
  now : Nat := 0
  tt : Nat := 0
  running : Bool := false
  off : Int := 0
  past : List Drift := []
  slew : Int := 0
  step : Option Int := none
deriving DecidableEq, Repr

/-- A shadow write with its stamp (R142): `tick` on the timetable's clock, `addr` and the stored word. -/
structure ShadowWrite where
  tick : Nat
  addr : Nat
  val : Word
deriving DecidableEq, Repr

/-- A pending host commit (R142, R143, R146): its tick, its fabric-time stamp, its source, whether it asks for a forced idle gangway, whether it lies within one tick of a gangway's close (R24), and whether it has waited for a bank at an idle gangway and takes the next gangway (R148). -/
structure Commit where
  tick : Nat
  stamp : Word
  src : Src
  force : Bool
  bound : Bool := false
  waits : Bool := false
deriving DecidableEq, Repr

/-- A derived exposure map that is committed and not yet installed (R76, R414): its commit's tick and stamp, the frame it comes from, the first number whose gangway may install it, its codes, and the marks of R24 and R148 as a host commit has them. -/
structure DerivedMap where
  tick : Nat
  stamp : Word
  seq : Nat
  limit : Nat
  codes : RegFile
  bound : Bool := false
  waits : Bool := false
deriving DecidableEq, Repr

/-- The gangway (R142 to R149): pending shadow writes, commits and derived map, the four setting banks, the bank in use, the tick of the last forced idle gangway, whether acquisition has occurred since the last gangway (R121), the drop counts last reported (R152), the close of the last gangway (R24), the exposure map of the frame most recently past its gangway (R74), and the number from which on a frame's derivation counts, set at each gangway that installs AUTO = 0 (R414). -/
structure Gateway where
  writes : List ShadowWrite := []
  commits : List Commit := []
  derived : Option DerivedMap := none
  banks : List RegFile := [[], [], [], []]
  cur : Nat := 0
  forcedAt : Option Nat := none
  acqEvent : Bool := false
  lastDrops : NatMap := []
  lastClose : Option Nat := none
  mapUsed : RegFile := []
  autoFrom : Nat := 0
deriving DecidableEq, Repr

/-- One exposure and its conversion as the legality rules see it (R51, R52): start, end of the last exposure, conversion time, store mode and, for an accumulation with sub-triggers, the closing tick. -/
structure Shot where
  s : Nat
  e : Nat
  tc : Nat
  mode : Nat
  closed : Nat := 0
  isOpen : Bool := false
deriving DecidableEq, Repr

/-- What R52 needs of the frames before: e_N, k_N, k_(N-1), the store mode of frame N, and whether there was one. -/
structure Chain where
  e : Nat := 0
  k : Nat := 0
  kPrev : Nat := 0
  mode : Nat := 0
  seen : Bool := false
deriving DecidableEq, Repr

/-- A frame from its scheduling to the end of its pipeline pass (R51, R148). `meanA` and `meanB` are its mean maps under way, a sum and a count by converter (R174), and `mapped` says that they have been published (R176). `burstOf` is the number of the first frame of its burst (R78); `waited` says that a throttled context has held back its start (R82). -/
structure Frame where
  seq : Nat := 0
  gen : Nat := 0
  bank : Nat := 0
  gated : Bool := false
  close : Nat := 0
  swapAt : Nat := 0
  sched : Nat := 0
  trig : Option Nat := none
  bound : Bool := false
  held : Bool := false
  late : Bool := false
  burst : Bool := false
  burstIdx : Nat := 0
  burstOf : Nat := 0
  notBefore : Nat := 0
  waited : Bool := false
  started : Bool := false
  firstStore : Nat := 0
  depth : Nat := 1
  rmax : Nat := 1
  shot : Shot
  subs : Nat := 0
  lastSub : Nat := 0
  subDue : List Nat := []
  subStarts : List Nat := []
  cont : Nat := 0
  strips : Nat := 0
  clamped : List Nat := []
  complete : Bool := false
  reserved : Bool := false
  man : List Word := []
  meanA : List (Int × Nat) := []
  meanB : List (Int × Nat) := []
  mapped : Bool := false
deriving DecidableEq, Repr

/-- One completed tracker request of a pass (R165): band, row slot, and the sum of the band's 1,032 results in 12-bit codes. -/
structure DriftMean where
  band : Nat
  slot : Nat
  sum : Nat
deriving DecidableEq, Repr

/-- A conversion pass (R51, R90, R91): the exposure it converts and, once the overhead has begun, its start and next row slot. `strip` is the strip number in strip-stack, `black` the black levels of its frame (R164), `drift` the tracker's results (R165), `seams` the seam packets sent (R303), `backs` the backlog of the stripes at the end of each row slot (R159), and `peak` the largest backlog of a stripe in the pass with the stripe where it stood (R157). -/
structure Pass where
  seq : Nat
  cont : Nat
  strip : Nat
  bank : Nat
  store : Nat
  dual : Bool
  depth : Nat
  rmax : Nat
  shot : Shot
  began : Option Nat := none
  slot : Nat := 0
  black : List (Nat × Int) := []
  drift : List DriftMean := []
  seams : List Nat := []
  backs : List NatMap := []
  peak : Nat := 0
  peakStripe : Nat := 0
  rotDone : Bool := false
  tapDone : Bool := false
  ended : Bool := false
deriving DecidableEq, Repr

/-- A strip whose pacing event has come and whose start has not (R80); `notBefore` is the first tick at which a strip held back by a throttled context may try again (R82). -/
structure StripDue where
  shot : Shot
  close : Nat
  trig : Option Nat
  bound : Bool
  notBefore : Nat := 0
  waited : Bool := false
deriving DecidableEq, Repr

/-- The open strip-stack output frame or segment (R80, R81): strips done, continuation index, first start and last end, the store of its last strip (R44), whether the segment closed at LIMIT and waits for MORE, and SHORT and MORE once it has closed. -/
structure StripFrame where
  frame : Frame
  strips : Nat
  cont : Nat
  first : Nat
  last : Nat
  store : Option Nat := none
  waiting : Bool
  short : Bool := false
  more : Bool := false
deriving DecidableEq, Repr

/-- A burst under way (R78): the number of its first frame, frames still to schedule, index of the next, period in ns and the pacing it began under. -/
structure Burst where
  opener : Nat
  left : Nat
  idx : Nat
  period : Nat
  pace : Nat
deriving DecidableEq, Repr

/-- An event-log entry (R83). -/
structure LogEntry where
  time : Word
  info : Word
deriving DecidableEq, Repr

/-- An event that a PIO engine has sent and that reaches the timetable at tick `at'` (R333). -/
structure EngineEvent where
  at' : Nat
  engine : Nat
  index : Nat
deriving DecidableEq, Repr

/-- The timetable (R48 to R84, R412 to R414). `recent` holds the pacing events of the present tick: kind, code and stamp (R214). -/
structure Timetable where
  grid : Option Nat := none
  nextSeq : Nat := 0
  frames : List Frame := []
  passes : List Pass := []
  strips : List StripDue := []
  seg : Option StripFrame := none
  closing : List StripFrame := []
  burst : Option Burst := none
  chain : Chain := {}
  lastStore : Option Nat := none
  lastStart : Option Nat := none
  lastDepth : Nat := 1
  log : List LogEntry := []
  logLost : Nat := 0
  pd : Bool := false
  pdRise : Option Nat := none
  pdFall : Option Nat := none
  schedFrom : Nat := 0
  inbox : List EngineEvent := []
  recent : List (Nat × Nat × Nat) := []
deriving DecidableEq, Repr

/-- The pixel array (R36 to R39): charge in e⁻ held in store A and store B by pixel key; the instant of the last transfer of each converter. -/
structure Pixels where
  storeA : NatMap := []
  storeB : NatMap := []
  done : NatMap := []
deriving DecidableEq, Repr

/-- A sample on the bridge (R92): pixel key, store, depth code, sample code, the pass it belongs to, and in units of 1/64 ns the instant at which its bit decisions end (R86). -/
structure Sample where
  key : Nat
  inB : Bool
  depth : Nat
  code : Nat
  seq : Nat
  cont : Nat
  strip : Nat
  at' : Nat
deriving DecidableEq, Repr

/-- The samples of a pass that have reached the stripes (R92): delivered codes plus one by 2 × pixel key (plus one for store B). -/
structure PassSamples where
  seq : Nat
  cont : Nat
  strip : Nat
  vals : NatMap
deriving DecidableEq, Repr

/-- An injected conversion (R97): band, reference, request tick, whether the tracker asked and in which row slot, the instants in 1/16 ns at which it starts and at which its slice period ends once it has started, and whether its result is out; `brk` is the instant from which it holds up calibration, the start of the conversion that it interrupts (R99, R119). -/
structure Injection where
  band : Nat
  refsel : Nat
  reqAt : Nat
  tracker : Bool
  slot : Nat
  brk : Nat
  startAt : Option Nat := none
  doneAt : Nat := 0
  got : Bool := false
deriving DecidableEq, Repr

/-- The last injected result of a band (R97, R100): the result of its converters, the reference, and the converters whose result differs. -/
structure InjResult where
  band : Nat
  code : Nat
  refsel : Nat
  others : List (Nat × Nat)
deriving DecidableEq, Repr

/-- The converters (R85 to R99) beyond their registers: samples on the bridge, injected conversions, the column-step grid of position 0 (anchor and period in 1/16 ns of the timetable's clock), for each band the rotations done and the passes since the last one (all converters of a band share injections and so rotate alike), the last injected result of each band, and the end of the last pass. -/
structure Converters where
  link : List Sample := []
  inj : List Injection := []
  gridAt : Nat := 0
  gridStep : Nat := 10000
  rot : List (Nat × Nat) := List.replicate 32 (0, 0)
  lastInj : List InjResult := []
  lastEnd : Nat := 0
deriving DecidableEq, Repr

/-- A measured triple of desired taps (R110). -/
structure Triple where
  ofs : Int
  gain : Int
  dly : Int
deriving DecidableEq, Repr

/-- A calibration cycle under way on the spare of one converter (R110): batch 0 to 5, the mean of the shorted-input batch of the measurement in hand in units of 2⁻⁸ code, that measurement's desired taps so far, the first measurement, whether a tap was clamped, and in units of 1/16 ns the start of the batch with the time that injected conversions and restarts of the grid had cost its band by then (R111, R119). -/
structure CalCycle where
  conv : Nat
  batch : Nat
  m0 : Int
  cur : Triple
  first : Triple
  clamped : Bool
  startAt : Nat
  lostAt : Nat
deriving DecidableEq, Repr

/-- An immediate restore of a slice that waits for the step instant of its frame's pass (R124): the frame's number and the word written. -/
structure ImmRestore where
  slice : Nat
  seq : Nat
  val : Word
deriving DecidableEq, Repr

/-- Calibration on the spares of a band (R110, R111, R119), in units of 1/16 ns: from when a cycle runs on a converter that is not listed, the time that injected conversions and restarts of the grid have cost, and what it was at `start`. -/
structure CalBand where
  start : Nat := 0
  lost : Nat := 0
  lostAt : Nat := 0
deriving DecidableEq, Repr

/-- Background calibration beyond its registers (R110 to R124): the bands, cycles under way, immediate restores that wait, slices whose targets are applied in full at the next step instant, step instants held back by a batch, slices whose last accepted result was clamped, and slices at the rejection limit. A slice is numbered 5 × converter + slice. -/
structure Calib where
  bands : List CalBand := List.replicate 32 {}
  cycles : List CalCycle := []
  imm : List ImmRestore := []
  full : List Nat := []
  heldStep : List Nat := []
  clamped : List Nat := []
  unstable : List Nat := []
deriving DecidableEq, Repr

/-- An injected housekeeping request (R103): its tag, its channel, and when its conversion starts. -/
structure HkInj where
  tag : Nat
  channel : Nat
  start : Nat
deriving DecidableEq, Repr

/-- The housekeeping converter (R101 to R104): the settings of the sequence pass under way, the entry in it and the instant from which its conversions count (what interrupted it taken off), pending injected requests in arrival order, from when the next calibration period counts, how long injections have held up the calibration under way, and when HK_RES0 was last written. -/
structure Housekeeping where
  cfg : Word := 0x100649
  seq : Word := 0xFEDCBA9876543210
  entry : Nat := 0
  entryAt : Nat := 0
  inj : List HkInj := []
  calAt : Nat := 0
  calLate : Nat := 0
  res0At : Nat := 0
deriving DecidableEq, Repr

/-- A line that has left the stages of a context (R139, R159). `parts` lists what of it has still to enter: a bundle, or 8 for the whole line, with the instant at which its stripes have processed their share. -/
structure Line where
  ctx : Nat
  seq : Nat
  cont : Nat
  idx : Nat
  depth : Nat
  codes : List Nat
  parts : List (Nat × Nat) := []
  outAt : Nat
deriving DecidableEq, Repr

/-- Where a context stands in a frame or segment (R139, R158, R238): the settings bank, the lines released, the lines that have entered a landing, whether the pipeline cut it or the frame store dropped it, and whether its packets have all been queued; `fixed` holds the context's words that a gangway fixes for the frame (R134), `fsMan` the manifest that its FS carries, once it is complete, `fsDone` whether the FS has been queued (R238), `man` the final manifest, `mirrorTried` whether its mirror copy has claimed a berth (R192), and `shown` whether its statistics record has been published (R176). -/
structure Progress where
  ctx : Nat
  seq : Nat
  cont : Nat
  bank : Nat
  fixed : RegFile := []
  fsMan : List Word := []
  fsDone : Bool := false
  man : List Word := []
  mirrorTried : Bool := false
  shown : Bool := false
  burst : Bool := false
  strips : Nat := 1
  released : List Nat := []
  entered : Nat := 0
  cut : Bool := false
  dropped : Bool := false
  segDone : Bool := true
  short : Bool := false
  more : Bool := false
  ended : Bool := false
  restart : Bool := false
  histMiss : Bool := false
  seamMiss : Bool := false
deriving DecidableEq, Repr

/-- Statistics under way for a context's frame or segment (R175). -/
structure StatAcc where
  ctx : Nat
  seq : Nat
  cont : Nat
  count : Nat := 0
  lo : Nat := 65535
  hi : Nat := 0
  sum : Nat := 0
  sumsq : Nat := 0
  sat : Nat := 0
  hist : NatMap := []
deriving DecidableEq, Repr

/-- Temporal history of one context and slot (R162): its berth and depth, whether it holds values yet, the settings of the frame it holds, the store that frame exposed into and its black levels, and the old codes of the lines that the frame under way has overwritten. `since` is the frame whose gangway reserved it; `until'` the one whose gangway freed it, which frames before that still read; `last` and `gain` are the settings and the gain of the context's last gangway; `spoiled` says that the frame before was cut (R163). -/
structure History where
  ctx : Nat
  slot : Nat
  berth : Nat
  bits : Nat
  valid : Bool
  settings : RegFile
  inB : Bool := false
  black : List (Nat × Int)
  prior : List (Nat × List Nat) := []
  since : Nat := 0
  until' : Option Nat := none
  last : RegFile := []
  gain : Nat := 0
  spoiled : Bool := false
deriving DecidableEq, Repr

/-- A latched copy of statistics registers for one management source (R177). -/
structure ReadLatch where
  src : Src
  base : Nat
  words : RegFile
deriving DecidableEq, Repr

/-- A seam row received from a neighbour (R302): side, slot, the neighbour's exposure start, row, and the 64 values in raw units. -/
structure SeamRow where
  right : Bool
  slot : Nat
  start : Nat
  row : Nat
  vals : List Int
deriving DecidableEq, Repr

/-- A line whose seam rows have not come (R304): context, frame, continuation, line and the instant of its release. -/
structure SeamWait where
  ctx : Nat
  seq : Nat
  cont : Nat
  line : Nat
  at' : Nat
deriving DecidableEq, Repr

/-- A published snapshot whose map derivation is due (R75): the frame, its settings and the mean map of the slot that SRC_SLOT selects. -/
structure Snapshot where
  seq : Nat
  st : RegFile
  means : List Nat
deriving DecidableEq, Repr

/-- The image pipeline beyond its registers (R155 to R179). `samples` holds the samples of the passes whose lines are in the stripes; `black` the black levels of the last frame in units of 2⁻¹⁶ raw by 8 × band + 4 × slot + phase, and `blackKey` for each slot the gain, depth and epoch they belong to; `backlog` context-pixels by stripe, context and conversion rate and `backAt` the instant up to which it has been served; `snapshot` the snapshot whose map derivation is due. -/
structure Pipeline where
  samples : List PassSamples := []
  black : List (Nat × Int) := []
  blackKey : List (Nat × List Nat) := []
  lines : List Line := []
  progress : List Progress := []
  stats : List StatAcc := []
  history : List History := []
  latches : List ReadLatch := []
  seams : List SeamRow := []
  waits : List SeamWait := []
  backlog : NatMap := []
  backAt : Nat := 0
  snapshot : Option Snapshot := none
deriving DecidableEq, Repr

/-- What occupies a berth (R185 to R199), beside FS_BSTATE: bundles of the frame, lines waiting per bundle, framing packets the unloader still owes, line indices written, chain and release order, and in `fixed` the context's words that the frame's gangway fixed (R134). `spill` holds the bundles for which every further line is berthed (R189), `reserved` says that the berth was reserved (R194), and `gone` that its frame has been dropped or its release has come while a recall or a chain run still holds it (R198, R227). -/
structure Occupant where
  berth : Nat
  ctx : Nat
  seq : Nat
  cont : Nat
  fixed : RegFile := []
  mirror : Bool := false
  cls : Nat := 0
  depth : Nat := 0
  width : Nat := 0
  todo : List (Nat × Nat) := []
  fsOwed : Nat := 0
  feOwed : Nat := 0
  feFlags : Nat := 0
  written : List Nat := []
  height : Nat := 0
  ended : Bool := false
  chain : Option (Nat × Nat) := none
  handed : Bool := false
  chainDone : Bool := false
  relAt : Nat := 0
  fsMan : List Word := []
  man : List Word := []
  spill : Nat := 0
  reserved : Bool := false
  gone : Bool := false
deriving DecidableEq, Repr

/-- A recall request (R197), and once it runs its berth, the lines looked at, the lines sent and whether one was missing. -/
structure Recall where
  ctx : Nat
  seq : Nat
  cont : Nat
  first : Nat
  count : Nat
  x0 : Nat
  w : Nat
  bundle : Nat
  tag : Nat
  berth : Option Nat := none
  pos : Nat := 0
  sent : Nat := 0
  missed : Bool := false
deriving DecidableEq, Repr

/-- A packet of the egress link (R236, R237); `twin` names the other bundle of a P copy, `desc` the ferry and descriptor whose last line it carries. -/
structure Packet where
  ptype : Nat
  cls : Nat
  ctx : Nat
  seq : Nat
  cont : Nat
  word2 : Nat := 0
  tag : Nat := 0
  origin : Nat := 0
  damaged : Bool := false
  depth : Nat := 0
  flags : Nat := 0
  lsn : Nat := 0
  twin : Option Nat := none
  desc : Option (Nat × Nat) := none
  payload : List Byte := []
deriving DecidableEq, Repr

/-- A gap notice that waits on a bundle behind earlier berthed frames of its context (R190, R238). -/
structure GapOwed where
  bundle : Nat
  packet : Packet
deriving DecidableEq, Repr

/-- The frame store beyond its registers: occupants, recall requests and results, the per-source copies of the recall registers, the release counter, words known to hold an uncorrectable or a correctable error (R182), the contexts that the unloaders served last, the instant at which a frame berth was first freed since a new frame last found none (R82), and gap notices that wait behind earlier berthed frames (R190). -/
structure FrameStore where
  occ : List Occupant := []
  recalls : List Recall := []
  results : List Word := []
  recallRegs : List (Nat × Word) := []
  relCount : Nat := 0
  badWords : List Nat := []
  softWords : List Nat := []
  rr : List (Nat × Nat) := []
  freedAt : Option Nat := none
  gaps : List GapOwed := []
deriving DecidableEq, Repr

/-- A descriptor that awaits delivery (R218): its index, its serial number on the ferry, and whether the egress has discarded lines of it. -/
structure Awaiting where
  index : Nat
  id : Nat
  discarded : Bool
deriving DecidableEq, Repr

/-- A ferry beyond its registers (R204 to R227): the words of the descriptor in hand, its serial number, the status it will be written back with once that is known, the source line reached, the bytes of a line read and not yet written, when its pacing wait opened and what it still waits for, the instants of the fetch, of the last read and of the next poll; the frame being run as context, number, continuation and berth, the bundles its descriptors name, HEAD of this and of the last run and where that one ended, whether the run is being aborted or shall be, the bundles that have its FS, the descriptors awaiting delivery, and the descriptor in hand if lines of it were discarded. `why` is the gap reason of a run to be aborted (R237), `cfg` the control word in force since the last write-back (R220), and `stopping` says that a stop waits for its write-back. -/
structure Ferry where
  desc : List Word := []
  id : Nat := 0
  outcome : Option Nat := none
  srcLine : Nat := 0
  buf : List Byte := []
  waitFrom : Option Nat := none
  waitLeft : Nat := 0
  fetchAt : Nat := 0
  readAt : Nat := 0
  pollAt : Nat := 0
  run : Option (Nat × Nat × Nat × Nat) := none
  runMask : Nat := 0
  runHead : Nat := 0
  lastHead : Option Nat := none
  lastNext : Nat := 0
  aborting : Bool := false
  abortReq : Bool := false
  sentTo : List Nat := []
  awaiting : List Awaiting := []
  lost : Nat := 0
  why : Nat := 2
  cfg : Word := 0x51
  stopping : Bool := false
deriving DecidableEq, Repr

/-- What a bundle has carried of a frame (R237, R238): the line index of each LINE packet queued or sent, FS queued, FE queued. -/
structure OnBundle where
  ctx : Nat
  seq : Nat
  cont : Nat
  sent : List Nat := []
  fs : Bool := false
  fe : Bool := false
deriving DecidableEq, Repr

/-- A 260-bit block before coding (R231): whether it is a data block, and its 256 payload bits in transmission order. -/
structure Block where
  data : Bool
  bits : List Bool
deriving DecidableEq, Repr

/-- The pattern generator of a lane in TEST (R274): since when it runs, PATTERN, INV, FIXED, and the positions of bits that an injection inverts (R276). -/
structure PatternGen where
  since : Nat
  pattern : Nat
  inv : Bool
  fixed : Nat
  flips : List Nat := []
deriving DecidableEq, Repr

/-- The serialiser of a lane: the last 61 scrambled payload bits, the newest in bit 0 (R232), the run of identical bits that it ends with (R233), stuffed bits not yet trimmed (R234), the last bits of PRBS11 (R261), an injection under way as KIND and blocks left (R276), the generator of TEST (R274), and every bit sent, the oldest first. -/
structure LaneTx where
  scr : Nat := 0
  runBit : Bool := false
  runLen : Nat := 0
  stuffed : Nat := 0
  prbs : Nat := 2047
  injKind : Nat := 0
  injLeft : Nat := 0
  gen : Option PatternGen := none
  sent : List Bool := []
deriving DecidableEq, Repr

/-- The deserialiser of a return (R231 to R233): the last 61 received payload bits, and the run of identical bits. -/
structure LaneRx where
  scr : Nat := 0
  runBit : Bool := false
  runLen : Nat := 0
deriving DecidableEq, Repr

/-- A lane of a bundle beyond its registers (R259 to R276): consecutive positive detections and the next detection step, the statuses of the last requests (R264), when the burst that is wanted starts and when one under way ends, when REJOIN_RETRY runs out, since when its checker is locked, and its coding in both directions. -/
structure LaneAux where
  detCount : Nat := 0
  detAt : Nat := 0
  preSt : Nat := 0
  postSt : Nat := 0
  burstFrom : Option Nat := none
  burstEnd : Option Nat := none
  retryAt : Option Nat := none
  chkAt : Option Nat := none
  tx : LaneTx := {}
  rx : LaneRx := {}
deriving DecidableEq, Repr

/-- A bundle beyond its registers: queues, credit, replay and rounds (R229 to R257), and its bring-up (R259 to R273). `tokens` is in units of 1/17,920 bit; `freeAt` is the start in 1/14 ns of the round in which the stream's next block goes, `turn` how many lanes of that round have theirs, and `stream` holds the blocks of a started packet that an ALIGN round keeps waiting (R230, R234); `round` is the next ALIGN round; `shedDue` and `rejoinDue` list lanes with the instant from which their round may come; `since` the instant of entry into the present lane state; `initMask` the initial mask (R265, R271); `exitDue` an exit cause that has come (R271); `moorRound` the ALIGN round after which MOOR_STOP takes effect. -/
structure Bundle where
  landing : List Packet := []
  ford : List Packet := []
  replay : List Packet := []
  due : List Packet := []
  frames : List OnBundle := []
  credN : Nat := 0
  credB : Nat := 0
  consN : Nat := 0
  consB : Nat := 0
  tokens : Nat := 0
  tokensAt : Nat := 0
  bTurn : Nat := 0
  freeAt : Nat := 0
  turn : Nat := 0
  stream : List Block := []
  activeAt : Nat := 0
  round : Nat := 0
  lastReturn : Nat := 0
  lastAdvance : Nat := 0
  lastReplay : Option (Nat × Nat) := none
  lanesOk : Nat := 0
  badSince : List (Nat × Nat) := []
  shedDue : List (Nat × Nat) := []
  rejoinDue : List (Nat × Nat) := []
  stallN : Option Nat := none
  stallB : Option Nat := none
  feBlind : Bool := false
  capAt : Nat := 0
  capStep : Bool := false
  capLsn : Option Nat := none
  lanes : List LaneAux := List.replicate 7 {}
  since : Nat := 0
  closes : Nat := 0
  initMask : Nat := 0
  countEnd : Option Nat := none
  frameLock : Bool := false
  lockAt : Option Nat := none
  exitDue : Bool := false
  moorRound : Option Nat := none
deriving DecidableEq, Repr

/-- A frame admitted to the preview queue (R361 to R364): scale factor, destination, scaled size, manifest, lines held until their block is whole, lines scaled, and bytes still reserved. -/
structure PreviewFrame where
  ctx : Nat
  seq : Nat
  cont : Nat
  scale : Nat
  dst : Word
  w : Nat
  h : Nat
  colour : Bool
  held : List (Nat × List Nat) := []
  lines : Nat := 0
  dgram : Nat := 0
  reserved : Nat
deriving DecidableEq, Repr

/-- A preview datagram waiting to be sent (R363); `hold` is the queue space it frees. -/
structure PreviewItem where
  kind : Nat
  ctx : Nat
  seq : Nat
  cont : Nat
  line : Nat
  col : Nat
  pix : Nat
  origin : Nat
  tag : Nat
  dgram : Nat := 0
  dst : Word
  bytes : List Byte
  hold : Nat
  desc : Option (Nat × Nat) := none
deriving DecidableEq, Repr

/-- The preview queue (R361): the due time of the next admission, the frames admitted, the datagrams waiting, and the instant before which RATE lets nothing go. -/
structure Preview where
  due : Nat := 0
  frames : List PreviewFrame := []
  queue : List PreviewItem := []
  clearAt : Nat := 0
deriving DecidableEq, Repr

/-- A PIO engine beyond its registers (R328 to R340): the instruction latched and whether one is, the tick of a fetch that is still to come, the tick from which it can execute again, its part-detect level, the cycle in which DIN was written, a pending injection and whether a shift under an external clock has presented its bit. -/
structure Engine where
  ir : Nat := 0
  latched : Bool := false
  fetchAt : Option Nat := none
  readyAt : Nat := 0
  pd : Bool := false
  dinAt : Nat := 0
  inj : Option Nat := none
  shown : Bool := false
deriving DecidableEq, Repr

/-- A pin-latch write still to come: its tick, engine, pin and level; `last` marks the end of a PULSE. -/
structure PinEdge where
  at' : Nat
  engine : Nat
  pin : Nat
  level : Bool
  last : Bool
deriving DecidableEq, Repr

/-- A timetable event on its way to an engine, or to every engine (R334): the tick of the engine cycle for which it sets the latch, and its INDEX. -/
structure PioEvent where
  at' : Nat
  engine : Option Nat
  index : Nat
deriving DecidableEq, Repr

/-- The PIO block beyond its registers (R324 to R341): engines, latch writes to come, timetable events to come, the levels last seen at the lands, unpowered banks (R394), and for the engine cycle in hand its tick, the flags at its start, the flags set in it and those that a WAIT with CLR consumed in it (R335). -/
structure Pio where
  engines : List Engine := List.replicate 16 {}
  edges : List PinEdge := []
  events : List PioEvent := []
  lands : Nat := 0
  dead : List Nat := []
  flagCycle : Nat := 0
  flagStart : Nat := 0
  flagSet : Nat := 0
  flagTook : Nat := 0
deriving DecidableEq, Repr

/-- A fabric port beyond its registers (R281 to R293): when its state was entered, detection, training (R283), the instants of the last two valid HELLOs, the neighbour, TIME blocks sent and the last one received, since when its checker is locked, and its serialiser (R284). Fabric times are in units of 2⁻¹⁶ ns. -/
structure FabPort where
  since : Nat := 0
  detCount : Nat := 0
  detAt : Nat := 0
  frameLock : Bool := false
  preSt : Nat := 0
  postSt : Nat := 0
  closes : Nat := 0
  ready : Bool := false
  countEnd : Option Nat := none
  locked : Bool := false
  hellos : List Nat := []
  peer : Option Word := none
  hseq : Nat := 0
  helloAt : Nat := 0
  gotHello : Bool := false
  tseq : Nat := 0
  timeAt : Nat := 0
  sent : List (Nat × Nat) := []
  lastRx : Option (Nat × Nat) := none
  chkAt : Option Nat := none
  tx : LaneTx := {}
deriving DecidableEq, Repr

/-- An LSA of the link database with the instant of its arrival (R288). -/
structure LsaEntry where
  msg : LsaMsg
  at' : Nat
deriving DecidableEq, Repr

/-- A trigger broadcast on its way to the timetable island (R297, R298). -/
structure TrigArrival where
  at' : Nat
  ch : Nat
  instant : Word
  share : Option Nat
deriving DecidableEq, Repr

/-- A share that this device has received or sent to itself (R300, R301): its number, instant, values, and whether it has been committed. -/
structure Share where
  k : Nat
  c : Word
  words : List Word
  used : Bool
deriving DecidableEq, Repr

/-- A tunnelled request in flight at its entry point (R305): handle and the host it came from. -/
structure Flight where
  handle : Nat
  ip : Nat
  port : Nat
deriving DecidableEq, Repr

/-- A tunnelled request that awaits execution here (R305): the entry device, its handle and the request. -/
structure TunReq where
  entry : Nat
  handle : Nat
  msg : WitrigMsg
deriving DecidableEq, Repr

/-- The Kornik fabric beyond its registers (R281 to R306); `hint` is FB_CFG as the newest own LSA carries it (R290). -/
structure Fabric where
  ports : List FabPort := List.replicate 8 {}
  db : List LsaEntry := []
  lsaSeq : Nat := 0
  lsaDue : Bool := false
  lsaAt : Nat := 0
  hint : Word := 0
  assignSeq : Nat := 0
  assignAt : Nat := 0
  assignDue : Bool := false
  gotAssign : Option (Word × Nat) := none
  addrs : List (Word × Nat) := []
  seen : List (Nat × Nat × Nat × Nat) := []
  arrivals : List TrigArrival := []
  shares : List Share := []
  shareOut : Option (Nat × Nat) := none
  nearRun : Nat := 0
  lastRoot : Option Word := none
  flights : List Flight := []
  tunReqs : List TunReq := []
  handle : Nat := 0
deriving DecidableEq, Repr

/-- A phase-locked loop beyond its registers (R312 to R318): acquisition started, the band entry tried and since when, instant of the last window's end, consecutive good windows since LOCKED fell, since when LOCKED has held or has been 0, and the restarts made for this loss with the instant of the next. -/
structure Loop where
  started : Bool := false
  entry : Option Nat := none
  tryAt : Nat := 0
  winAt : Nat := 0
  good : Nat := 0
  since : Nat := 0
  tries : Nat := 0
  tryNext : Nat := 0
deriving DecidableEq, Repr

/-- A clock output (R319 to R321): the instant at which its divider's phase was last set, in units of 1/7 ns, and the register word in force from there on. -/
structure CkOut where
  anchor : Nat := 0
  word : Word := 0x800000
deriving DecidableEq, Repr

/-- Clock synthesis beyond its registers (R307 to R322): the loops, the outputs, since when each reference is present, and whether each is lost; which threshold the LOCKDET_RC land crossed last (R314); the first tick on which an armed sync may fire (R322). -/
structure Clocks where
  loops : List Loop := List.replicate 12 {}
  outs : List CkOut := List.replicate 6 {}
  refSince : Nat := 0
  lrefSince : Nat := 0
  refGone : Bool := false
  lrefGone : Bool := false
  landHigh : Bool := true
  armFrom : Nat := 0
deriving DecidableEq, Repr

/-- An ARP cache entry (R348): the address, its MAC address once it is known, when it was learned or last asked for, and the requests sent. -/
structure ArpEntry where
  ip : Nat
  mac : Option Nat
  at' : Nat
  tries : Nat
deriving DecidableEq, Repr

/-- The DHCPv4 client (R347): 0 off, 1 selecting, 2 requesting, 3 bound, 4 renewing, 5 rebinding; the transaction, the server, the address offered or leased with its prefix and gateway, the instant of binding, and lease, T1 and T2 in s; the next timer. -/
structure Dhcp where
  state : Nat := 0
  xid : Nat := 0
  server : Nat := 0
  ip : Nat := 0
  prefixLen : Nat := 0
  gw : Nat := 0
  boundAt : Nat := 0
  lease : Nat := 0
  t1 : Nat := 0
  t2 : Nat := 0
  timerAt : Nat := 0
  tries : Nat := 0
deriving DecidableEq, Repr

/-- An Ethernet frame ready for transmission (R350): its class, kind, the IPv4 address that must be resolved first (0 for none), and its content; a Witrig response with the port it goes to. -/
structure EthTx where
  cls : Nat
  kind : Nat
  ip : Nat
  words : List Nat
  bytes : List Byte := []
  resp : Option (Nat × WitrigResp) := none
deriving DecidableEq, Repr

/-- A foreign master (R351): its last Announce, when it came, and Announce messages counted. -/
structure Foreign where
  msg : PtpMsg
  at' : Nat
  count : Nat
deriving DecidableEq, Repr

/-- IEEE 1588 beyond its registers (R351 to R353): foreign masters, the selected one, the Sync that awaits its Follow_Up, the last Sync times as t2 − t1 less corrections, the Delay_Req that awaits its response, the next one, the interval asked for, mean path delay, consecutive offsets within 100 ns, and when the last pair completed. Times are in units of 2⁻¹⁶ ns. -/
structure Ptp where
  foreign : List Foreign := []
  master : Option PtpMsg := none
  sync : Option (Nat × Nat × Int) := none
  ms : Option Int := none
  req : Option (Nat × Nat) := none
  reqSeq : Nat := 0
  reqAt : Nat := 0
  reqLog : Int := 0
  delay : Int := 0
  good : Nat := 0
  pairAt : Nat := 0
deriving DecidableEq, Repr

/-- The Ethernet port beyond its registers (R343 to R360): Witrig requests queued, the ARP cache, announcements still to send and when, the DHCP client, since when the link is up and whether the static address has been taken, frames ready to send, and IEEE 1588. -/
structure Ethernet where
  reqs : List WitrigMsg := []
  arp : List ArpEntry := []
  announces : Nat := 0
  announceAt : Nat := 0
  dhcp : Dhcp := {}
  upAt : Nat := 0
  fellBack : Bool := false
  txq : List EthTx := []
  ptp : Ptp := {}
deriving DecidableEq, Repr

/-- An open write session (R386 to R388): SEC_SESS holds its identifier and key; here when its last request was accepted, that request, and the response. -/
structure Session where
  slot : Nat
  lastAt : Nat
  lastReq : Option WitrigMsg := none
  lastResp : Option WitrigResp := none
deriving DecidableEq, Repr

/-- A challenge (R386): identifier, nonce, and when it was given. -/
structure Challenge where
  id : Nat
  nonce : List Word
  at' : Nat
deriving DecidableEq, Repr

/-- A flash command under way (R381). -/
structure FlashOp where
  op : Nat
  addr : Nat
  slot : Nat
  verdict : SlotVerdict
deriving DecidableEq, Repr

/-- An image-key entry of one-time-programmable memory (R382). -/
structure OtpKey where
  hash : List Word
  programmed : Bool
  revoked : Bool
deriving DecidableEq, Repr

/-- Fuses and one-time-programmable memory (R3, R17, R43, R312, R345, R382, R383), kept over every reset. -/
structure Otp where
  variant : Nat
  devid : Word
  mac : Nat
  bands : List Word
  keys : List OtpKey
  pub : List Word
  certLen : Nat
  cert : List Word
  defects : List Word
deriving DecidableEq, Repr

/-- Boot, security and the TAP beyond their registers (R366 to R389, R405 to R409): held in reset, and by a rail; waiting after a thermal trip; the start of staged start and the next of its events; whether the timetable island is on; the instant of boot lock and the releases made; the booted slot and its verdict; when the confirmation runs out; the flash command under way with the buffer writes held back, each the number of a CFG_FL_BUF word and its value, and the cause of a reset that waits for it; the key operation under way; sessions and challenges; the TAP's instruction, boundary register and hold on the lands. -/
structure Boot where
  inReset : Bool := false
  powerOff : Bool := false
  thermal : Bool := false
  stagedAt : Nat := 0
  stagedNext : Nat := 0
  ttOn : Bool := false
  lockAt : Nat := 0
  released : Nat := 0
  booted : Option Nat := none
  confirmBy : Nat := 0
  flashOp : Option FlashOp := none
  bufHeld : List (Nat × Word) := []
  resetWaits : Option Nat := none
  keyOp : Option (Nat × List Word) := none
  sessions : List Session := []
  challenges : List Challenge := []
  chalId : Nat := 0
  tapIr : Nat := 1
  tapBsr : List Bool := []
  tapHolds : Bool := false
deriving DecidableEq, Repr

/-- Something the device drives out of its lands, newest last in the log `wire` (the model's own field, log entry 7). -/
inductive Wire where
  | packet (bundle : Nat) (p : Packet)
  | block (bundle : Nat) (kind : Nat) (lanes : Nat) (words : List Nat)
  | burst (bundle : Nat) (lane : Nat) (frames : Nat)
  | fabric (port : Nat) (kind : Nat) (words : List Nat)
  | eth (kind : Nat) (words : List Nat) (bytes : List Byte)
  | detect (lane : LaneId)
  | train (lane : LaneId) (field : Nat)
  | inject (lane : LaneId) (kind : Nat) (count : Nat)
  | ckout (out : Nat) (fld : Nat) (seventh : Nat) (val : Nat)
  | witrig (ip : Nat) (port : Nat) (resp : WitrigResp)
  | tunnel (port : Nat) (src : Nat) (dst : Nat) (hops : Nat) (handle : Nat) (req : Option WitrigMsg) (resp : Option WitrigResp)
  | tap (ir : Nat) (bsr : List Bool)
deriving DecidableEq, Repr

/-- A fault: the machine stops. No command of this block stops the machine, so nothing raises one; safe. -/
inductive Fault where
  /-- Raised by no command; safe. -/
  | none
deriving DecidableEq, Repr

/-- A refusal: the model gives a command no meaning. -/
inductive Refusal where
  /-- The command has no meaning in the model yet; raised by an arm of exec only. Safe: nothing is claimed about it. -/
  | notModelled (mnemonic : String)
deriving DecidableEq, Repr

/-- The TQ1342. `fresh` lists the register bits that the hardware has written as 1 at the present instant, by address (R13). -/
structure State where
  regs : RegFile
  clock : Clock
  gw : Gateway
  tt : Timetable
  px : Pixels
  cc : Converters
  cal : Calib
  hk : Housekeeping
  pipe : Pipeline
  fs : FrameStore
  dram : List Host.Cell
  fy : List Ferry
  eg : List Bundle
  prev : Preview
  pio : Pio
  kf : Fabric
  ck : Clocks
  eth : Ethernet
  boot : Boot
  otp : Otp
  flash : List Host.Cell
  wire : List Wire
  fresh : List (Nat × Nat)
  free : Nat
  pending : List Instr
deriving DecidableEq, Repr

/-- Factory band entry (R312, R323): loop, code, lowest and highest VCO frequency in MHz. -/
def bandEntry (loop code fmin fmax : Nat) : Word := BitVec.ofNat 64 (loop + code * 2 ^ 4 + fmin * 2 ^ 12 + fmax * 2 ^ 28)

/-- The VCO frequency of loop `k` in MHz (R309): 4,000, 8,000, nine loops at 28,000, and 10,312.5 cut to a whole number. -/
def vcoMHz (k : Nat) : Nat := if k = 0 then 4000 else if k = 1 then 8000 else if k < 11 then 28000 else 10312

/-- One-time-programmable memory as the model takes it (DESIGN CHOICE, log entry 3): a monochrome device, DEVID 0x0000_1342_0000_0001, one band entry for each loop, image key 0 programmed, no factory defect. -/
def Otp.factory : Otp where
  variant := 1
  devid := 0x0000134200000001
  mac := 0x000013420001
  bands := (List.range 12).map (fun k => bandEntry k 128 (vcoMHz k - 100) (vcoMHz k + 100)) ++ List.replicate 52 15
  keys := [⟨[0, 0, 0, 0], true, false⟩, ⟨[0, 0, 0, 0], false, false⟩, ⟨[0, 0, 0, 0], false, false⟩, ⟨[0, 0, 0, 0], false, false⟩]
  pub := List.replicate 8 0
  certLen := 1
  cert := List.replicate 128 0
  defects := []

/-- Words from address `a` on. -/
def wordsAt (a : Nat) : List Word → RegFile
  | [] => []
  | w :: r => (a, w) :: wordsAt (a + 8) r

/-- Image-key entries as registers from entry `k` on (R391). -/
def keyRegs : Nat → List OtpKey → RegFile
  | _, [] => []
  | k, e :: r =>
    wordsAt (Reg.SEC_KEY k 0) e.hash ++
      (Reg.SEC_KEY_ST k, BitVec.ofNat 64 ((if e.programmed then 1 else 0) + (if e.revoked then 2 else 0))) :: keyRegs (k + 1) r

/-- The registers whose reset value is fused or comes from one-time-programmable memory (R16, R17, R312, R345, R382, R383), in rising order. -/
def otpRegs (o : Otp) : RegFile :=
  ((Reg.ID_PART, BitVec.ofNat 64 (0x4C53134200000100 + o.variant * 2 ^ 24)) :: (Reg.ID_DEVID, o.devid) ::
    wordsAt (Reg.CK_BAND 0) o.bands ++ [(Reg.FB_ROOT, o.devid), (Reg.ETH_MAC, BitVec.ofNat 64 o.mac)] ++ keyRegs 0 o.keys ++
    wordsAt (Reg.SEC_ID_PUB 0) o.pub ++ (Reg.SEC_ID_CERT_LEN, BitVec.ofNat 64 o.certLen) :: wordsAt (Reg.SEC_ID_CERT 0) o.cert).filter
    fun p => decide (p.2 ≠ resetWord p.1)

/-- The TQ1342 right after reset: every register at its reset value, the fused ones as `Otp.factory` has them; an erased flash. -/
def State.reset : State where
  regs := otpRegs Otp.factory
  clock := {}
  gw := {}
  tt := {}
  px := {}
  cc := {}
  cal := {}
  hk := {}
  pipe := {}
  fs := {}
  dram := []
  fy := List.replicate 32 {}
  eg := List.replicate 8 {}
  prev := {}
  pio := {}
  kf := {}
  ck := {}
  eth := {}
  boot := {}
  otp := Otp.factory
  flash := []
  wire := []
  fresh := []
  free := 0
  pending := []

end Sys2Proof.Machine
end

