-- ==== Sys2Proof/Machine/Ops.lean ====
section
/-! DEFINITION. The named operations every meaning is built from: the sparse maps (registers, frame-store bytes), reading and writing a register or one of its fields, the clocks and stamps, the free values, and the wire log. -/

namespace Sys2Proof.Machine

/-- What a command answers. -/
abbrev Result := Host.Outcome State Fault Refusal

/-! ## Sparse maps in canonical form -/

/-- The entry of a sparse map at `k`, if it is listed. -/
def Sparse.look {α : Type} : List (Nat × α) → Nat → Option α
  | [], _ => none
  | (a, v) :: r, k => if a = k then some v else Sparse.look r k

/-- The value at `k`: the listed one, or the default. -/
def Sparse.get {α : Type} (d : Nat → α) (m : List (Nat × α)) (k : Nat) : α :=
  match Sparse.look m k with
  | some v => v
  | none => d k

/-- The map without an entry at `k`. -/
def Sparse.erase {α : Type} (m : List (Nat × α)) (k : Nat) : List (Nat × α) :=
  m.filter (fun p => !(p.1 == k))

/-- The map with an entry inserted before the first larger key. -/
def Sparse.ins {α : Type} (k : Nat) (v : α) : List (Nat × α) → List (Nat × α)
  | [] => [(k, v)]
  | (a, w) :: r => if k < a then (k, v) :: (a, w) :: r else (a, w) :: Sparse.ins k v r

/-- Write `v` at `k`; writing the default removes the entry. -/
def Sparse.put {α : Type} [DecidableEq α] (d : Nat → α) (m : List (Nat × α)) (k : Nat) (v : α) : List (Nat × α) :=
  if v = d k then Sparse.erase m k else Sparse.ins k v (Sparse.erase m k)

/-- The canonical form: keys strictly rising, no entry equal to its default. -/
def Sparse.wf {α : Type} [DecidableEq α] (d : Nat → α) : List (Nat × α) → Bool
  | [] => true
  | (a, v) :: r => decide (v ≠ d a) && r.all (fun p => decide (a < p.1)) && Sparse.wf d r

/-- Write a list of key and value pairs in order. -/
def Sparse.putAll {α : Type} [DecidableEq α] (d : Nat → α) (m : List (Nat × α)) (l : List (Nat × α)) : List (Nat × α) :=
  l.foldl (fun m p => Sparse.put d m p.1 p.2) m

/-- Number a list of values from key `lo` on in steps of `stride`. -/
def Sparse.number {α : Type} (stride : Nat) : Nat → List α → List (Nat × α)
  | _, [] => []
  | lo, v :: r => (lo, v) :: Sparse.number stride (lo + stride) r

/-- Write values at `lo`, `lo + stride` and so on in one go, replacing every entry from `lo` up to their end. -/
def Sparse.splice {α : Type} [DecidableEq α] (d : Nat → α) (m : List (Nat × α)) (lo stride : Nat) (vs : List α) : List (Nat × α) :=
  m.filter (fun p => decide (p.1 < lo)) ++ (Sparse.number stride lo vs).filter (fun p => decide (p.2 ≠ d p.1)) ++
    m.filter (fun p => decide (lo + stride * vs.length ≤ p.1))

/-- The default of a sparse map of naturals. -/
def zeroNat (_ : Nat) : Nat := 0

/-- What a byte of the frame store that nothing has written reads as: 0 (DESIGN CHOICE, log entry 2). -/
def zeroByte (_ : Nat) : Byte := 0

/-- Read a `NatMap`. -/
def NatMap.get (m : NatMap) (k : Nat) : Nat := Sparse.get zeroNat m k

/-- Write a `NatMap`. -/
def NatMap.put (m : NatMap) (k v : Nat) : NatMap := Sparse.put zeroNat m k v

/-! ## Bit fields -/

/-- The bits of a field in place. -/
def Field.mask (f : Field) : Word := BitVec.ofNat 64 ((2 ^ f.width - 1) * 2 ^ f.lo)

/-- The value of a field (R6). -/
def Field.get (f : Field) (w : Word) : Nat := w.toNat / 2 ^ f.lo % 2 ^ f.width

/-- The word with a field replaced; the value is cut to the field's width. -/
def Field.set (f : Field) (w : Word) (v : Nat) : Word :=
  (w &&& ~~~f.mask) ||| (BitVec.ofNat 64 (v % 2 ^ f.width * 2 ^ f.lo) &&& f.mask)

/-- A field read as two's complement. -/
def Field.sget (f : Field) (w : Word) : Int :=
  let v := f.get w
  if v < 2 ^ (f.width - 1) then (v : Int) else (v : Int) - 2 ^ f.width

/-- An integer as the field's two's complement pattern. -/
def Field.enc (f : Field) (i : Int) : Nat := (i % 2 ^ f.width).toNat

/-- A word with bit `i` set. -/
def bit (i : Nat) : Nat := 2 ^ i

/-- Whether bit `i` of a number is 1. -/
def hasBit (n i : Nat) : Bool := n / 2 ^ i % 2 == 1

/-- A word's 16-bit serial comparison: `a` is at or after `b` (R249). -/
def serialGe (bits a b : Nat) : Bool := decide ((a + 2 ^ bits - b) % 2 ^ bits < 2 ^ (bits - 1))

/-! ## Rounding (R411) -/

/-- Nearest integer of `n / d`, ties away from zero; `d` positive. -/
def roundDiv (n : Int) (d : Nat) : Int :=
  if n < 0 then -(((-n) * 2 + d) / (2 * d)) else (n * 2 + d) / (2 * d)

/-- Nearest natural of `n / d`, ties upward. -/
def roundNat (n d : Nat) : Nat := (2 * n + d) / (2 * d)

/-- Ceiling of `n / d`. -/
def ceilDiv (n d : Nat) : Nat := (n + d - 1) / d

/-- Limit an integer to a range. -/
def clampInt (lo hi x : Int) : Int := max lo (min hi x)

/-! ## Registers -/

/-- The content of the register at `a` (the shadow, for an RWS field). -/
def State.reg (s : State) (a : Nat) : Word := Sparse.get resetWord s.regs a

/-- Write the register at `a`. -/
def State.setReg (s : State) (a : Nat) (v : Word) : State := { s with regs := Sparse.put resetWord s.regs a v }

/-- The field `f` of the register at `a`. -/
def State.f (s : State) (a : Nat) (f : Field) : Nat := f.get (s.reg a)

/-- A one-bit field as a Bool. -/
def State.flag (s : State) (a : Nat) (f : Field) : Bool := s.f a f == 1

/-- Remember the bits of the register at `a` that the hardware writes as 1 at this instant (R13). -/
def State.noteSet (s : State) (a m : Nat) : State := { s with fresh := (a, m) :: s.fresh }

/-- The bits of the register at `a` that the hardware has written as 1 at this instant (R13). -/
def State.freshBits (s : State) (a : Nat) : Nat := s.fresh.foldl (fun m p => if p.1 = a then m ||| p.2 else m) 0

/-- Write the field `f` of the register at `a`. -/
def State.setF (s : State) (a : Nat) (f : Field) (v : Nat) : State :=
  (s.setReg a (f.set (s.reg a) v)).noteSet a (v % 2 ^ f.width * 2 ^ f.lo)

/-- Set or clear a one-bit field. -/
def State.setB (s : State) (a : Nat) (f : Field) (b : Bool) : State := s.setF a f (if b then 1 else 0)

/-- Add to a counter that wraps. -/
def State.addF (s : State) (a : Nat) (f : Field) (n : Nat) : State := s.setF a f (s.f a f + n)

/-- Add to a counter that saturates. -/
def State.satF (s : State) (a : Nat) (f : Field) (n : Nat) : State := s.setF a f (min (s.f a f + n) (2 ^ f.width - 1))

/-- Set bit `i` of a field of bits. -/
def State.setBit (s : State) (a : Nat) (f : Field) (i : Nat) : State :=
  (s.setReg a (f.set (s.reg a) (s.f a f ||| 2 ^ i))).noteSet a (2 ^ i % 2 ^ f.width * 2 ^ f.lo)

/-- Clear bit `i` of a field of bits. -/
def State.clrBit (s : State) (a : Nat) (f : Field) (i : Nat) : State :=
  if hasBit (s.f a f) i then s.setReg a (f.set (s.reg a) (s.f a f - 2 ^ i)) else s

/-- A written word without the acknowledgements of W1C bits that the hardware has set in the same clock cycle: those bits remain set (R13). -/
def State.keepFresh (s : State) (d : RegDef) (a : Nat) (v : Word) : Word :=
  v &&& ~~~(BitVec.ofNat 64 (s.freshBits a &&& d.w1c))

/-- Write a block of consecutive registers from address `a` on. -/
def State.setBlock (s : State) (a : Nat) (vs : List Word) : State := { s with regs := Sparse.splice resetWord s.regs a 8 vs }

/-! ## Settings in use -/

/-- A setting bank; bank 0 to 3 (R148). -/
def State.bank (s : State) (i : Nat) : RegFile := s.gw.banks.getD i []

/-- The word of a setting in a bank. -/
def RegFile.word (st : RegFile) (a : Nat) : Word := Sparse.get resetWord st a

/-- A field of a setting in a bank. -/
def RegFile.fld (st : RegFile) (a : Nat) (f : Field) : Nat := f.get (RegFile.word st a)

/-- The settings in use (R147). -/
def State.use (s : State) : RegFile := s.bank s.gw.cur

/-- A field of the settings in use. -/
def State.u (s : State) (a : Nat) (f : Field) : Nat := s.use.fld a f

/-! ## Time -/

/-- The largest even number not above `x`: the tick that has come (R48). -/
def tickFloor (x : Nat) : Nat := x / 2 * 2

/-- The first tick at or after `x`. -/
def tickCeil (x : Nat) : Nat := (x + 1) / 2 * 2

/-- An integer brought into the range of two's complement of `bits` bits: the difference of two times that wrap (R8). -/
def centred (bits : Nat) (i : Int) : Int := (i + 2 ^ (bits - 1)) % 2 ^ bits - 2 ^ (bits - 1)

/-- The offset of fabric time at the instant `x` of the timetable's clock, in units of 2⁻¹⁶ ns: the present one, or the one that held then (R48, R294). -/
def State.offAt (s : State) (x : Nat) : Int :=
  match s.clock.past.find? fun d => decide (x < d.b) with
  | none => s.clock.off
  | some d => if x ≤ d.a then d.o else d.o + (d.o' - d.o) * ((x - d.a : Nat) : Int) / ((d.b - d.a : Nat) : Int)

/-- Fabric time in units of 2⁻¹⁶ ns at the instant `x` of the timetable's clock; it wraps with the 64-bit count of ns (R8). -/
def State.fabFine (s : State) (x : Nat) : Nat := ((((x * 65536 : Nat) : Int) + s.offAt x) % 2 ^ 80).toNat

/-- Fabric time in ns, an unsigned 64-bit count (R8), at the instant `x` of the timetable's clock. -/
def State.fabAt (s : State) (x : Nat) : Word := BitVec.ofNat 64 (s.fabFine x / 65536)

/-- The current tick of the timetable's clock. -/
def State.tick (s : State) : Nat := tickFloor s.clock.tt

/-- The stamp of an event that leaves the synchroniser now (R24). -/
def State.stamp (s : State) : Word := s.fabAt s.tick

/-- Fabric time now, in ns. -/
def State.fab (s : State) : Word := s.fabAt s.clock.tt

/-- The least integer not below `n / d`. -/
def ceilInt (n : Int) (d : Nat) : Int := -(-n / (d : Int))

/-- The first instant of the timetable's clock, in ns, at which unwrapped fabric time has reached `g` (in units of 2⁻¹⁶ ns), given the offset after the stretches `l`, newest first. -/
def ttBack (g : Int) : List Drift → Int → Nat
  | [], off => (ceilInt (g - off) 65536).toNat
  | d :: r, off =>
    let x := (ceilInt (g - off) 65536).toNat
    if d.b ≤ x then x
    else if g ≤ (d.a : Int) * 65536 + d.o then ttBack g r d.o
    else if d.b ≤ d.a then d.b
    else d.a + (ceilInt ((g - ((d.a : Int) * 65536 + d.o)) * ((d.b - d.a : Nat) : Int))
      (65536 * (d.b - d.a) + (d.o' - d.o)).toNat).toNat

/-- Fabric time `w` without its wrap, in units of 2⁻¹⁶ ns: the reading of `w` that lies nearest to now (R8). -/
def State.unwrap (s : State) (w : Word) : Int :=
  ((s.clock.tt * 65536 : Nat) : Int) + s.clock.off + centred 80 (((w.toNat * 65536 : Nat) : Int) - (s.fabFine s.clock.tt : Int))

/-- The first instant of the timetable's clock at which fabric time has reached `w` ns; 0 for instants before tick 0. -/
def State.ttOf (s : State) (w : Word) : Nat := ttBack (s.unwrap w) s.clock.past.reverse s.clock.off

/-- Fabric time `w` lies at or before fabric time `v`, on the counter that wraps (R8). -/
def notAfter (w v : Word) : Bool := decide (centred 64 ((w.toNat : Int) - (v.toNat : Int)) ≤ 0)

/-- Take a fresh free value from the counter. -/
def State.freshNat (s : State) : Nat := Config.freeNat s.free

/-- A fresh free word. -/
def State.freshWord (s : State) : Word := Config.freeWord s.free

/-- Advance the counter past a used free value. -/
def State.used (s : State) : State := { s with free := s.free + 1 }

/-- The slew of `d` ns at no more than 100 ppm (R294): the share of the pending offset that is removed. The rate below 100 ppm is a free value (log entry 6). -/
def slewPart (pending : Int) (d rate : Nat) : Int :=
  let most : Int := ((d * 65536 * (rate % 101)) / 1000000 : Nat)
  clampInt (-most) most pending

/-- Advance time to `t` ns on the model's clock; time never runs backwards (log entry 5). The timetable's clock counts only while its island runs, and a slew moves fabric time against it. What the hardware has set before lies in an earlier clock cycle (R13). -/
def State.advance (s : State) (t : Nat) : State :=
  if t ≤ s.clock.now then s
  else
    let d := t - s.clock.now
    if s.clock.running then
      let part := slewPart s.clock.slew d (Config.freeNat s.free)
      { s with
        clock := { s.clock with
          now := t, tt := s.clock.tt + d, off := s.clock.off + part, slew := s.clock.slew - part
          past := if part = 0 then s.clock.past else s.clock.past ++ [⟨s.clock.tt, s.clock.tt + d, s.clock.off, s.clock.off + part⟩] },
        fresh := []
        free := if s.clock.slew = 0 then s.free else s.free + 1 }
    else { s with clock := { s.clock with now := t }, fresh := [] }

/-! ## What the device drives out -/

/-- Append to the log of what the device drives out (the model's own field, log entry 7). -/
def State.emit (s : State) (w : Wire) : State := { s with wire := s.wire ++ [w] }

/-- Append several. -/
def State.emits (s : State) (ws : List Wire) : State := { s with wire := s.wire ++ ws }

/-- The nth element of a list replaced through a function. -/
def modifyAt {α : Type} (f : α → α) : Nat → List α → List α
  | _, [] => []
  | 0, a :: r => f a :: r
  | n + 1, a :: r => a :: modifyAt f n r

end Sys2Proof.Machine
end

