-- ==== Sys2Proof/Machine/Operands.lean ====
section
/-! DEFINITION. The operand forms of the spec: the manifest's fields (R150), the numbering of pixels, clusters, bands, stripes and bundles (R31, R32), converter numbers (R100), windows (R127, R129), and the sources' settings that select a pin or an engine. -/

namespace Sys2Proof.Machine

/-- A field of the manifest: its word and its bits (R150). -/
structure ManField where
  word : Nat
  fld : Field
deriving DecidableEq, Repr

namespace Man

/-- R150. -/ def SEQ : ManField := ⟨0, ⟨0, 32⟩⟩
/-- R150. -/ def GEN : ManField := ⟨0, ⟨32, 16⟩⟩
/-- R150. -/ def EPOCH : ManField := ⟨0, ⟨48, 16⟩⟩
/-- R150. -/ def VERSION : ManField := ⟨1, ⟨0, 8⟩⟩
/-- R150. -/ def CONT : ManField := ⟨1, ⟨8, 16⟩⟩
/-- R150. -/ def LATE : ManField := ⟨1, ⟨24, 1⟩⟩
/-- R150. -/ def TSTEP : ManField := ⟨1, ⟨25, 1⟩⟩
/-- R150. -/ def BURST : ManField := ⟨1, ⟨26, 1⟩⟩
/-- R150. -/ def SHORT : ManField := ⟨1, ⟨27, 1⟩⟩
/-- R150. -/ def MORE : ManField := ⟨1, ⟨28, 1⟩⟩
/-- R150. -/ def TRIG_BOUNDARY : ManField := ⟨1, ⟨29, 1⟩⟩
/-- R150. -/ def MAP_CLAMP : ManField := ⟨1, ⟨30, 1⟩⟩
/-- R150. -/ def DROP_OVF : ManField := ⟨1, ⟨31, 1⟩⟩
/-- R150. -/ def PACE : ManField := ⟨1, ⟨32, 2⟩⟩
/-- R150. -/ def STORE : ManField := ⟨1, ⟨34, 2⟩⟩
/-- R150. -/ def FORM : ManField := ⟨1, ⟨36, 2⟩⟩
/-- R150. -/ def FIRST_STORE : ManField := ⟨1, ⟨38, 1⟩⟩
/-- R150. -/ def STAGGER_DESC : ManField := ⟨1, ⟨39, 1⟩⟩
/-- R150. -/ def DEPTH_ACT : ManField := ⟨1, ⟨40, 2⟩⟩
/-- R150. -/ def GAIN_A : ManField := ⟨1, ⟨42, 1⟩⟩
/-- R150. -/ def GAIN_B : ManField := ⟨1, ⟨43, 1⟩⟩
/-- R150. -/ def FABADDR : ManField := ⟨1, ⟨44, 12⟩⟩
/-- R150. -/ def DEVID : ManField := ⟨2, ⟨0, 64⟩⟩
/-- R150. -/ def EXP_START : ManField := ⟨3, ⟨0, 64⟩⟩
/-- R150. -/ def EXP_END : ManField := ⟨4, ⟨0, 64⟩⟩
/-- R150. -/ def SCHED_START : ManField := ⟨5, ⟨0, 64⟩⟩
/-- R150. -/ def TRIG_TIME : ManField := ⟨6, ⟨0, 64⟩⟩
/-- R150. -/ def EXP_A : ManField := ⟨7, ⟨0, 29⟩⟩
/-- R150. -/ def EXP_B : ManField := ⟨7, ⟨32, 29⟩⟩
/-- R150. -/ def STRIPS : ManField := ⟨8, ⟨0, 32⟩⟩
/-- R150. -/ def SUBEXP : ManField := ⟨8, ⟨32, 16⟩⟩
/-- R150. -/ def BURST_IDX : ManField := ⟨8, ⟨48, 16⟩⟩
/-- R150. -/ def CLKQ : ManField := ⟨9, ⟨0, 16⟩⟩
/-- R150. -/ def TEMP : ManField := ⟨9, ⟨16, 16⟩⟩
/-- R150. -/ def TC_NS : ManField := ⟨9, ⟨32, 32⟩⟩
/-- R150. -/ def RMAX : ManField := ⟨10, ⟨0, 7⟩⟩
/-- R150. -/ def ACTIVE : ManField := ⟨10, ⟨16, 12⟩⟩
/-- R150. -/ def MAP_SRC : ManField := ⟨10, ⟨32, 32⟩⟩
/-- R150. -/ def FT_SYNC : ManField := ⟨11, ⟨0, 1⟩⟩
/-- R150. -/ def PTP_LOCK : ManField := ⟨11, ⟨1, 1⟩⟩
/-- R150. -/ def SLEW : ManField := ⟨11, ⟨2, 1⟩⟩
/-- R150. -/ def TEMP_STALE : ManField := ⟨11, ⟨3, 1⟩⟩
/-- R150. -/ def DROP_TOTAL : ManField := ⟨12, ⟨0, 32⟩⟩
/-- R150. -/ def DROP_N : ManField := ⟨12, ⟨32, 5⟩⟩

end Man

/-- Read a manifest field. -/
def manGet (m : List Word) (f : ManField) : Nat := f.fld.get (m.getD f.word 0)

/-- Write a manifest field. -/
def manSet (m : List Word) (f : ManField) (v : Nat) : List Word := m.set f.word (f.fld.set (m.getD f.word 0) v)

/-- Write several manifest fields in order. -/
def manSets (m : List Word) (l : List (ManField × Nat)) : List Word := l.foldl (fun m p => manSet m p.1 p.2) m

/-- An empty manifest: 256 bytes of zero with VERSION 0x01 (R150). -/
def manEmpty : List Word := manSet (List.replicate 32 0) Man.VERSION 1

/-! ## Geometry (R31, R32) -/

/-- Number of active columns. -/
def numCols : Nat := 16384

/-- Number of active rows. -/
def numRows : Nat := 8192

/-- Number of converters: 32,768 active clusters and 256 dark ones (R100). -/
def numConv : Nat := 33024

/-- The converter of the cluster that holds active pixel (x, y) (R32, R100). -/
def convOf (x y : Nat) : Nat := 256 * (y / 64) + x / 64

/-- Cluster column of converter `i`; dark clusters follow the active ones. -/
def convCx (i : Nat) : Nat := i % 256

/-- Cluster row of an active converter `i`. -/
def convCy (i : Nat) : Nat := i / 256

/-- Converter `i` belongs to a dark cluster. -/
def convDark (i : Nat) : Bool := decide (32768 ≤ i)

/-- Converter band and shutter group of a cluster column (R32, R69). -/
def bandOf (cx : Nat) : Nat := cx / 8

/-- Pipeline stripe of a column (R32). -/
def stripeOf (x : Nat) : Nat := x / 1024

/-- Key of the pixel at in-cluster (row, column) of converter `i` in a store's charge map. -/
def pixKey (i row col : Nat) : Nat := i * 4096 + row * 64 + col

/-- Stagger offset of a group (R69). -/
def staggerOf (desc : Bool) (g : Nat) : Nat := if desc then 4 * (31 - g) else 4 * g

/-! ## Context windows (R127) -/

/-- A window of active pixels. -/
structure Window where
  x0 : Nat
  y0 : Nat
  w : Nat
  h : Nat
deriving DecidableEq, Repr

/-- The window of context `n` in a setting bank. -/
def ctxWin (st : RegFile) (n : Nat) : Window :=
  let w := RegFile.word st (Reg.CTX_WIN n)
  ⟨Fld.CTX_WIN_X0.get w, Fld.CTX_WIN_Y0.get w, Fld.CTX_WIN_W.get w, Fld.CTX_WIN_H.get w⟩

/-- Binning factor of a BIN code (R127). -/
def binFactor (code : Nat) : Nat := 2 ^ code

/-- Bits per pixel of a DEPTH code of a context (R127). -/
def depthBits (code : Nat) : Nat := 8 + 2 * code + (if code = 3 then 2 else 0)

/-- Conversion bits of a DEPTH_ACT code (R88): 1 is 12 bit, 2 is 10 bit, 3 is 8 bit. -/
def convBits (code : Nat) : Nat := 14 - 2 * code

/-- Single-store row slot in ns of a DEPTH_ACT code (R87). -/
def rowSlotNs (code : Nat) : Nat := if code = 1 then 10000 else if code = 2 then 7619 else 6154

/-- Slice period in units of 1/16 ns of a DEPTH_ACT code (R87). -/
def slicePeriod16 (code : Nat) : Nat := rowSlotNs code

end Sys2Proof.Machine
end

