-- ==== Sys2Proof/Machine/Settings.lean ====
section
/-! DEFINITION. What a set of settings says: the active contexts, the coverage of the clusters and the conversion time (R136, R137), the depth (R88), the exposure of each cluster (R70, R73), and the checks that refuse a commit (R54, R135). -/

namespace Sys2Proof.Machine

/-- Read a one-bit setting. -/
def RegFile.on (st : RegFile) (a : Nat) (f : Field) : Bool := st.fld a f == 1

/-- Contexts that a setting bank lists, in rising order, with context 0, whose reset value is active (R127). -/
def ctxListed (st : RegFile) : List Nat :=
  0 :: (st.filterMap fun p =>
    if 0x800100 ≤ p.1 ∧ p.1 < 0x8C0000 ∧ p.1 % 256 = 0 then some (p.1 % 0x800000 / 256) else none)

/-- The active contexts of a setting bank in rising order (R127). -/
def activeCtxs (st : RegFile) : List Nat :=
  (ctxListed st).filter fun n => st.on (Reg.CTX_CTL n) Fld.CTX_CTL_ACTIVE

/-- The rows and columns a context covers, widened by 2 for the spatial filter and clipped to the active area (R136): first and last column, first and last row. -/
def coverOf (st : RegFile) (n : Nat) : Nat × Nat × Nat × Nat :=
  let v := ctxWin st n
  let d := if st.on (Reg.CTX_CTL n) Fld.CTX_CTL_NR_S then 2 else 0
  (v.x0 - d, min (v.x0 + v.w + d) numCols - 1, v.y0 - d, min (v.y0 + v.h + d) numRows - 1)

/-- Rows lo to hi as bits of a mask. -/
def rowMask (lo hi : Nat) : Nat := if hi < lo then 0 else 2 ^ (hi + 1) - 2 ^ lo

/-- The covered rows of active cluster (cx, cy) as a 64-bit mask (R136). -/
def clusterMask (st : RegFile) (ctxs : List Nat) (cx cy : Nat) : Nat :=
  ctxs.foldl (fun m n =>
    let c := coverOf st n
    if c.1 / 64 ≤ cx ∧ cx ≤ c.2.1 / 64 ∧ c.2.2.1 ≤ 64 * cy + 63 ∧ 64 * cy ≤ c.2.2.2 then
      m ||| rowMask (c.2.2.1 - 64 * cy) (min c.2.2.2 (64 * cy + 63) - 64 * cy)
    else m) 0

/-- Number of ones among the low `n` bits. -/
def popCount : Nat → Nat → Nat
  | 0, _ => 0
  | n + 1, m => m % 2 + popCount n (m / 2)

/-- Number of covered rows of a cluster mask. -/
def coveredRows (m : Nat) : Nat := if m = 2 ^ 64 - 1 then 64 else popCount 64 m

/-- The rows of a mask in rising order: the row list of R138. -/
def rowList (m : Nat) : List Nat := (List.range 64).filter (hasBit m)

/-- The cluster columns at which the union of active contexts can be largest: the left edges of their coverage. -/
def coverEdges (st : RegFile) (ctxs : List Nat) : List Nat := ctxs.map fun n => (coverOf st n).1 / 64

/-- Largest number of covered rows over the cluster columns `cxs`. -/
def maxCovered (st : RegFile) (ctxs cxs : List Nat) : Nat :=
  cxs.foldl (fun m cx => (List.range 128).foldl (fun m cy => max m (coveredRows (clusterMask st ctxs cx cy))) m) 0

/-- R_max: the largest number of covered rows in any active cluster, at least 1 (R137). -/
def rMax (st : RegFile) : Nat :=
  let ctxs := activeCtxs st
  max 1 (maxCovered st ctxs (coverEdges st ctxs))

/-- Rows that the dark clusters of a band read: the largest covered-row count among the active clusters of the band, at least 1 (R33). -/
def darkRows (st : RegFile) (band : Nat) : Nat :=
  let ctxs := activeCtxs st
  max 1 (maxCovered st ctxs ((List.range 8).map (8 * band + ·)))

/-- The row list of converter `i` (R33, R138). -/
def convRows (st : RegFile) (i : Nat) : List Nat :=
  if convDark i then List.range (darkRows st (bandOf (convCx i)))
  else rowList (clusterMask st (activeCtxs st) (convCx i) (convCy i))

/-- The conversion depth of a frame, coded as DEPTH_ACT, when the depth before it was `last` (R88). -/
def depthAct (st : RegFile) (last : Nat) : Nat :=
  let d := st.fld Reg.CC_CFG Fld.CC_CFG_DEPTH
  if d ≠ 0 then d
  else
    let ds := (activeCtxs st).map fun n =>
      let c := st.fld (Reg.CTX_CTL n) Fld.CTX_CTL_DEPTH
      if 2 ≤ c then 1 else if c = 1 then 2 else 3
    if ds.isEmpty then last else ds.foldl min 3

/-- The store mode of a setting bank (R44). -/
def storeMode (st : RegFile) : Nat := st.fld Reg.TT_MODE Fld.TT_MODE_STORE

/-- Row-slot time of a pass (R87): doubled when each slot reads both stores (R45). -/
def slotNs (depth : Nat) (dual : Bool) : Nat := if dual then 2 * rowSlotNs depth else rowSlotNs depth

/-- Tc (R137). -/
def convTime (rmax depth : Nat) (dual : Bool) : Nat := 2400 + rmax * slotNs depth dual

/-- Base exposure of store A in ns (R49). -/
def expA (st : RegFile) : Nat := 8 * st.fld Reg.TT_EXP_A Fld.TT_EXP_A_EXP

/-- Base exposure of store B in ns (R49). -/
def expB (st : RegFile) : Nat := 8 * st.fld Reg.TT_EXP_B Fld.TT_EXP_B_EXP

/-- The accumulation takes its sub-exposures on sub-triggers and has more than one (R79). -/
def subTriggered (st : RegFile) : Bool :=
  st.fld Reg.TT_MODE Fld.TT_MODE_FORM == 2 && st.on Reg.TT_ACCUM Fld.TT_ACCUM_SUB_TRIG &&
    st.fld Reg.TT_ACCUM Fld.TT_ACCUM_COUNT != 0

/-- Time from the first exposure start to the last exposure end, where the settings fix it (R44, R79). -/
def exposureSpan (st : RegFile) : Nat :=
  if storeMode st = 2 then expA st + 1000 + expB st
  else if st.fld Reg.TT_MODE Fld.TT_MODE_FORM = 2 ∧ ¬ st.on Reg.TT_ACCUM Fld.TT_ACCUM_SUB_TRIG then
    st.fld Reg.TT_ACCUM Fld.TT_ACCUM_COUNT * (8 * st.fld Reg.TT_ACCUM Fld.TT_ACCUM_SUB_PERIOD) + expA st
  else expA st

/-- The shot of a frame or strip that starts at `s` (R51). -/
def shotAt (st : RegFile) (depth s : Nat) : Shot :=
  { s := s, e := s + exposureSpan st, tc := convTime (rMax st) depth (storeMode st == 2), mode := storeMode st, isOpen := subTriggered st }

/-- The chain after one more shot (R51): its conversion begins at max(e + 128, closing tick, k). -/
def Chain.add (c : Chain) (x : Shot) : Chain :=
  { e := x.e, kPrev := c.k, k := max (max (x.e + 128) x.closed) c.k + x.tc, mode := x.mode, seen := true }

/-- The earliest start that is legal under R52 after a chain, by the rule of the new frame's own store mode. -/
def Chain.legal52 (c : Chain) (mode : Nat) : Nat :=
  if c.seen then (if mode = 0 then max (c.e + 1000) c.kPrev else c.k) else 0

/-- The first tick on which a frame may start after a chain: legal under R52, and not before k_N where the store mode has changed (R46). -/
def Chain.legal (c : Chain) (mode : Nat) : Nat :=
  if c.seen && mode != c.mode then max c.k (c.legal52 mode) else c.legal52 mode

/-- m(c) = round(2²⁴ × 2^(−c/64)) (R70), found by integer arithmetic: m is the natural with (2m − 1)⁶⁴ × 2^c ≤ 2^(25 × 64) < (2m + 1)⁶⁴ × 2^c, sought bit by bit. -/
def mapScale (c : Nat) : Nat :=
  (List.range 25).foldl (fun m i =>
    let t := m + 2 ^ (24 - i)
    if (2 * t - 1) ^ 64 * 2 ^ c ≤ 2 ^ 1600 then t else m) 0

/-- E_c before the lower limit (R70). -/
def mapExposure (e c : Nat) : Nat := 2 * (e * mapScale c / 2 ^ 25)

/-- The exposure-map code of active cluster (cx, cy) in a setting bank (R74). -/
def mapCode (st : RegFile) (cx cy : Nat) : Nat :=
  (Field.mk (16 * (cx % 4)) 9).get (st.word (Reg.TT_MAP (64 * cy + cx / 4)))

/-- The code that applies to converter `i` in an exposure into store B or A (R71, R73). -/
def codeOf (st : RegFile) (i : Nat) (inB : Bool) : Nat :=
  if convDark i then 0
  else if (if inB then st.on Reg.TT_MAP_CFG Fld.TT_MAP_CFG_APPLY_B else st.on Reg.TT_MAP_CFG Fld.TT_MAP_CFG_APPLY_A)
    then mapCode st (convCx i) (convCy i) else 0

/-- The realised exposure of converter `i` in ns (R70 to R73): `second` for the second exposure of a dual frame, whose length is TT_EXP_B (R49); `inB` for an exposure into store B, to which APPLY_B belongs. -/
def clusterExposure (st : RegFile) (i : Nat) (second inB : Bool) : Nat :=
  max 1000 (mapExposure (if second then expB st else expA st) (codeOf st i inB))

/-- The cluster's computed exposure falls below 1,000 ns (R71). -/
def clusterClamped (st : RegFile) (i : Nat) (second inB : Bool) : Bool :=
  !convDark i && decide (mapExposure (if second then expB st else expA st) (codeOf st i inB) < 1000)

/-! ## The checks of R54 -/

/-- Check `n` of R54 fails. -/
def fails54 (st : RegFile) : Nat → Bool
  | 1 => decide (expA st < 1000)
  | 2 => storeMode st == 2 && decide (expB st < 1000)
  | 3 =>
    let t := 8 * st.fld Reg.TT_PERIOD Fld.TT_PERIOD_PERIOD
    st.fld Reg.TT_MODE Fld.TT_MODE_PACE == 0 &&
      (match storeMode st with
       | 0 => decide (t < expA st + 1000)
       | 1 => decide (t < expA st + 128)
       | 2 => decide (t < expA st + 1000 + expB st + 128)
       | _ => false)
  | 4 =>
    let sp := 8 * st.fld Reg.TT_ACCUM Fld.TT_ACCUM_SUB_PERIOD
    st.fld Reg.TT_MODE Fld.TT_MODE_FORM == 2 &&
      ((!st.on Reg.TT_ACCUM Fld.TT_ACCUM_SUB_TRIG && decide (sp < expA st + 1000)) ||
       (st.fld Reg.TT_MODE Fld.TT_MODE_PACE == 0 &&
        decide (8 * st.fld Reg.TT_PERIOD Fld.TT_PERIOD_PERIOD < st.fld Reg.TT_ACCUM Fld.TT_ACCUM_COUNT * sp + expA st + 1000)))
  | 5 =>
    st.fld Reg.TT_MODE Fld.TT_MODE_FORM == 1 &&
      (st.fld Reg.TT_BURST Fld.TT_BURST_COUNT == 0 ||
       decide (8 * st.fld Reg.TT_BURST Fld.TT_BURST_PERIOD < expA st + 1000))
  | 6 =>
    st.fld Reg.TT_MODE Fld.TT_MODE_FORM == 3 &&
      (st.fld Reg.TT_STRIP Fld.TT_STRIP_HEIGHT == 0 ||
       decide (st.fld Reg.TT_STRIP Fld.TT_STRIP_LIMIT < st.fld Reg.TT_STRIP Fld.TT_STRIP_HEIGHT) ||
       st.fld Reg.TT_STRIP Fld.TT_STRIP_PD_MODE == 3)
  | 7 => storeMode st == 3 || (st.fld Reg.TT_MODE Fld.TT_MODE_FORM == 2 && storeMode st == 2)
  | 8 => decide (st.fld Reg.TT_MAP_CFG Fld.TT_MAP_CFG_CODE_MAX < st.fld Reg.TT_MAP_CFG Fld.TT_MAP_CFG_CODE_MIN)
  | _ => false

/-- The lowest failing code of R54, if any. -/
def refuse54 (st : RegFile) : Option Nat := [1, 2, 3, 4, 5, 6, 7, 8].find? (fails54 st)

/-! ## The checks of R135 -/

/-- The window breaks R129; not judged where the binning factor is undefined. -/
def badWindow (st : RegFile) (n : Nat) : Bool :=
  let c := st.fld (Reg.CTX_CTL n) Fld.CTX_CTL_BIN
  let b := binFactor c
  let v := ctxWin st n
  decide (c < 3) &&
    !(decide (v.x0 % (16 * b) = 0) && decide (v.w % (16 * b) = 0) && decide (16 * b ≤ v.w) &&
      decide (v.y0 % b = 0) && decide (v.h % b = 0) && decide (b ≤ v.h) &&
      decide (v.x0 + v.w ≤ numCols) && decide (v.y0 + v.h ≤ numRows))

/-- Every bundle whose stripes the window touches is named (R133). -/
def touchesNamed (st : RegFile) (n : Nat) : Bool :=
  let v := ctxWin st n
  (List.range 8).all fun b =>
    !(decide (v.x0 < 2048 * (b + 1)) && decide (2048 * b < v.x0 + v.w)) || hasBit (st.fld (Reg.CTX_DEST n) Fld.CTX_DEST_BUNDLES) b

/-- The routing of a KIND = 0 context is one that R133 allows. -/
def routingOk (st : RegFile) (n : Nat) : Bool :=
  let cls := st.fld (Reg.CTX_CTL n) Fld.CTX_CTL_CLASS
  let k := popCount 8 (st.fld (Reg.CTX_DEST n) Fld.CTX_DEST_BUNDLES)
  let split := st.on (Reg.CTX_DEST n) Fld.CTX_DEST_SPLIT
  if cls = 1 then !split && k == 2
  else if split then touchesNamed st n
  else k == 1

/-- Check `code` of R135 fails for context `n` of the active contexts `ctxs`. -/
def fails135 (st : RegFile) (n : Nat) : Nat → Bool
  | 9 => badWindow st n
  | 10 =>
    st.fld (Reg.CTX_CTL n) Fld.CTX_CTL_CLASS == 3 || st.fld (Reg.CTX_CTL n) Fld.CTX_CTL_DROP == 3 ||
      st.fld (Reg.CTX_CTL n) Fld.CTX_CTL_SLOT == 3 || st.fld (Reg.CTX_CTL n) Fld.CTX_CTL_BIN == 3
  | 11 =>
    (st.fld (Reg.CTX_CTL n) Fld.CTX_CTL_SLOT == 1 || st.fld (Reg.CTX_CTL n) Fld.CTX_CTL_SLOT == 2) && storeMode st != 2
  | 12 => st.fld (Reg.CTX_DEST n) Fld.CTX_DEST_KIND == 0 && !routingOk st n
  | 13 =>
    st.fld (Reg.CTX_DEST n) Fld.CTX_DEST_KIND == 1 &&
      (st.fld (Reg.CTX_CTL n) Fld.CTX_CTL_CLASS == 1 || st.fld (Reg.CTX_CTL n) Fld.CTX_CTL_DEPTH != 0)
  | 14 =>
    st.on (Reg.CTX_CHAIN n) Fld.CTX_CHAIN_CHAIN_EN &&
      (activeCtxs st).any fun m =>
        decide (m < n) && st.on (Reg.CTX_CHAIN m) Fld.CTX_CHAIN_CHAIN_EN &&
          st.fld (Reg.CTX_CHAIN m) Fld.CTX_CHAIN_FERRY == st.fld (Reg.CTX_CHAIN n) Fld.CTX_CHAIN_FERRY
  | _ => false

/-- The lowest-numbered failing context and its lowest failing check (R135), if any. -/
def refuse135 (st : RegFile) : Option (Nat × Nat) :=
  (activeCtxs st).findSome? fun n => ([9, 10, 11, 12, 13, 14].find? (fails135 st n)).map fun c => (n, c)

end Sys2Proof.Machine
end

