-- ==== Sys2Proof/Machine/Flags.lean ====
section
/-! DEFINITION. Flags, counters and event notices that many commands share: the event log (R83), the event latches of the PIO engines (R334), the pacing events of the ferries (R213, R214), setting-bank use (R148), and the status words that report it. -/

namespace Sys2Proof.Machine

/-- Event-log types (R84). -/
inductive LogType where
  | accepted | overrun | deferred | encoder | partDetect | commit | frameStart | frameEnd | scheduled | idle | timeStep
deriving DecidableEq, Repr

/-- The TYPE code of an event-log entry (R84). -/
def LogType.code : LogType → Nat
  | .accepted => 0 | .overrun => 1 | .deferred => 2 | .encoder => 3 | .partDetect => 4 | .commit => 5
  | .frameStart => 6 | .frameEnd => 7 | .scheduled => 8 | .idle => 9 | .timeStep => 10

/-- Capacity of the event log (R83). -/
def logSize : Nat := 1024

/-- Enter an event in the log; a full log discards it and counts it (R83). -/
def State.log (s : State) (time : Word) (ty : LogType) (seq source detail : Nat) (bound : Bool) : State :=
  if s.tt.log.length < logSize then
    let w := Fld.TT_EVLOG_INFO_LOST.set (Fld.TT_EVLOG_INFO_DETAIL.set (Fld.TT_EVLOG_INFO_SOURCE.set
      (Fld.TT_EVLOG_INFO_VALID.set (Fld.TT_EVLOG_INFO_BOUNDARY.set (Fld.TT_EVLOG_INFO_TYPE.set
        (Fld.TT_EVLOG_INFO_SEQ.set 0 seq) ty.code) (if bound then 1 else 0)) 1) source) detail) (min s.tt.logLost 1023)
    { s with tt := { s.tt with log := s.tt.log ++ [⟨time, w⟩], logLost := 0 } }
  else
    { (s.setB Reg.TT_STATUS Fld.TT_STATUS_EVLOG_LOST true) with tt := { s.tt with logLost := s.tt.logLost + 1 } }

/-- The SOURCE code of a management source (R84). -/
def srcCode : Src → Nat
  | .purser => 0 | .eth => 1 | .tunnel => 2

/-- Set event latch `n` of engine `e`; an event that finds its latch set is lost (R334). -/
def State.latchEvent (s : State) (e n : Nat) : State :=
  if hasBit (s.f (Reg.PIO_ESTAT e) Fld.PIO_ESTAT_LATCH) n then s.setB (Reg.PIO_ESTAT e) Fld.PIO_ESTAT_EV_LOST true
  else s.setBit (Reg.PIO_ESTAT e) Fld.PIO_ESTAT_LATCH n

/-- The engine cycle for which an event stamped at tick `x` sets its latch: the first that begins at or after x + 4 ns (R334). -/
def eventCycle (x : Nat) : Nat := (x + 7) / 4 * 4

/-- An event stamped at tick `x` goes to one engine, or to every engine (R334). -/
def State.raiseEvent (s : State) (e : Option Nat) (n x : Nat) : State :=
  { s with pio := { s.pio with events := s.pio.events ++ [⟨eventCycle x, e, n⟩] } }

/-- Raise timetable event `n`, stamped at tick `x`, in every PIO engine (R334). -/
def State.pioEvent (s : State) (n x : Nat) : State := s.raiseEvent none n x

/-- The events whose cycle has come set their latches (R334). -/
def State.runEvents (s : State) : State :=
  (s.pio.events.filter fun x => decide (x.at' ≤ s.clock.tt)).foldl
    (fun s x => match x.engine with
      | some e => s.latchEvent e x.index
      | none => (List.range 16).foldl (fun s e => s.latchEvent e x.index) s)
    { s with pio := { s.pio with events := s.pio.events.filter fun x => decide (s.clock.tt < x.at') } }

/-- One ferry sees timetable event `code` stamped at tick `x` (R213, R214). -/
def Ferry.see (f : Ferry) (kind sel x : Nat) : Ferry :=
  match f.waitFrom with
  | none => f
  | some w =>
    let w5 := f.desc.getD 5 0
    if Fld.DESC5_PACE_KIND.get w5 = kind ∧ Fld.DESC5_PACE_SEL.get w5 = sel ∧ w ≤ x then { f with waitLeft := f.waitLeft - 1 }
    else f

/-- A pacing event stamped at tick `x` reaches the ferries that wait for it, and is kept for waits that open on the present tick (R213, R214): kind 1, a timetable event, or 3, a ferry's write-back, with its code or ferry. -/
def State.paceEvent (s : State) (kind sel x : Nat) : State :=
  { s with
    fy := s.fy.map fun f => f.see kind sel x
    tt := { s.tt with recent := s.tt.recent.filter (fun e => decide (s.tick ≤ e.2.2)) ++ [(kind, sel, x)] } }

/-- A timetable event reaches the ferries that wait for it (R213). -/
def State.ferryEvent (s : State) (code x : Nat) : State := s.paceEvent 1 code x

/-- The banks that are busy: the one in use and those of frames under way (R148). -/
def State.busyBanks (s : State) : List Nat :=
  (List.range 4).filter fun b =>
    b == s.gw.cur || s.tt.frames.any (fun f => f.gated && f.bank == b) || s.tt.passes.any (fun p => p.bank == b) ||
      (match s.tt.seg with | some g => g.frame.bank == b | none => false)

/-- Report the busy banks (R148, R154). -/
def State.showBanks (s : State) : State := s.setF Reg.CFG_GW_STATUS Fld.CFG_GW_STATUS_BANKS_BUSY s.busyBanks.length

/-- Report the number of pending triggers: accepted frames with a start in the future (R62, R84). -/
def State.showPending (s : State) : State :=
  s.setF Reg.TT_STATUS Fld.TT_STATUS_PENDING
    (min 16 ((s.tt.frames.filter fun f => !f.started && f.trig.isSome && !f.held).length + (s.tt.strips.filter fun x => x.trig.isSome).length))

/-- Count an overrun and log it (R63); it belongs to no frame, so its SEQ is 0 (log entry 8). -/
def State.overrun (s : State) (x source detail : Nat) (bound : Bool) : State :=
  ((s.addF Reg.TT_CNT_TRIG Fld.TT_CNT_TRIG_OVERRUN 1).setB Reg.TT_STATUS Fld.TT_STATUS_OVERRUN true).log
    (s.fabAt x) .overrun 0 source detail bound

/-- Count a late frame (R53). -/
def State.countLate (s : State) : State :=
  (s.addF Reg.TT_CNT_FRAME Fld.TT_CNT_FRAME_LATE 1).setB Reg.TT_STATUS Fld.TT_STATUS_LATE true

/-- An accumulation frame whose end is not yet fixed is open (R79). -/
def State.openShot (s : State) : Bool := s.tt.frames.any fun f => f.started && f.shot.isOpen

/-- A shot moved to start at `x`. -/
def Shot.moveTo (z : Shot) (x : Nat) : Shot := { z with s := x, e := z.e - z.s + x }

/-- A shot as it will be placed after a chain: at its own start or at the first legal tick (R53). -/
def Chain.place (c : Chain) (z : Shot) (notBefore : Nat) : Shot := z.moveTo (max (max z.s notBefore) (c.legal z.mode))

/-- The chain of shots up to the latest frame or strip that is placed (R51, R62): `tt.chain` holds those that have started. -/
def State.chainNow (s : State) : Chain :=
  let c := s.tt.frames.foldl (fun c f => if f.started then c else c.add (c.place f.shot f.notBefore)) s.tt.chain
  s.tt.strips.foldl (fun c x => c.add (c.place x.shot 0)) c

/-- Converter band of converter `i` (R32, R100). -/
def convBand (i : Nat) : Nat := bandOf (convCx i)

/-- Rotations that the converters of a band have completed (R93); all converters of a band rotate together. -/
def State.rotCount (s : State) (band : Nat) : Nat := (s.cc.rot.getD band (0, 0)).1

/-- The spare slice after `n` rotations (R93). -/
def spareAfter (n : Nat) : Nat := (n + 4) % 5

/-- The slice in position `p` after `n` rotations (R93). -/
def sliceAfter (n p : Nat) : Nat := (p + 4 * ((n + 3 - p) / 4)) % 5

/-- The spare slice of converter `i` (R93). -/
def State.spareOf (s : State) (i : Nat) : Nat := spareAfter (s.rotCount (convBand i))

/-- The device is the colour variant (R3). -/
def State.colour (s : State) : Bool := s.f Reg.ID_PART Fld.ID_PART_VARIANT == 2

/-- The pipeline stripes and the frame store work: loop 1, which clocks them, is not acquiring; while it is, they stand still and keep their data (R20, R313). -/
def State.onStripes (s : State) (f : State → State) : State := if s.flag (Reg.CK_PSTAT 1) Fld.CK_PSTAT_ACQ then s else f s

/-- Boot lock is set (R14). -/
def State.bootLocked (s : State) : Bool := s.flag Reg.CFG_BOOT_STAT Fld.CFG_BOOT_STAT_BOOT_LOCK

/-- A source may access registers: the device is out of reset, and before boot lock only the purser (R369). -/
def State.mayManage (s : State) (src : Src) : Bool := !s.boot.inReset && (decide (src = .purser) || s.bootLocked)

/-- What a source asks for, where it may ask. -/
def State.managed (s : State) (src : Src) (f : State → State) : State := if s.mayManage src then f s else s

/-- IEEE 1588 lock is lost (R353): the count of good offsets restarts, and a root coasts (R295). Its next LSA carries no PTP_LOCK. -/
def State.ptpUnlock (s : State) : State :=
  if s.f Reg.ETH_PTP_STAT Fld.ETH_PTP_STAT_STATE = 2 then
    let s := s.setF Reg.ETH_PTP_STAT Fld.ETH_PTP_STAT_STATE 1
    let s : State := { s with eth := { s.eth with ptp := { s.eth.ptp with good := 0 } } }
    if s.flag Reg.FB_STATUS Fld.FB_STATUS_ROOT then
      let s := (s.setF Reg.FB_TSTAT Fld.FB_TSTAT_STATE 3).setB Reg.FB_TSTAT Fld.FB_TSTAT_PTP_LOCK false
      { s with kf := { s.kf with lsaDue := true, nearRun := 0 } }
    else s
  else s

end Sys2Proof.Machine
end

