-- ==== Sys2Proof/Machine/Berth.lean ====
section
/-! DEFINITION. The frame store's bytes and berths: reading and writing DRAM (R182, R187), the berth table (R185), sizes (R187, R188), claims and reservations (R192, R194), release (R196) and history berths (R191). -/

namespace Sys2Proof.Machine

/-! ## Bytes -/

/-- One byte of the frame store. -/
def State.byte (s : State) (a : Nat) : Byte := Sparse.get zeroByte s.dram a

/-- Write one byte of the frame store; a word that is written no longer reads as damaged (R182). -/
def State.setByte (s : State) (a : Nat) (v : Byte) : State := { s with dram := Sparse.put zeroByte s.dram a v }

/-- `n` bytes from address `a`. -/
def State.bytes (s : State) (a n : Nat) : List Byte := (List.range n).map fun i => s.byte (a + i)

/-- Number a list of bytes from address `a` on. -/
def atAddrs (a : Nat) : List Byte → List (Nat × Byte)
  | [] => []
  | b :: r => (a, b) :: atAddrs (a + 1) r

/-- Write bytes from address `a` on. -/
def State.setBytes (s : State) (a : Nat) (bs : List Byte) : State :=
  { s with
    dram := Sparse.putAll zeroByte s.dram (atAddrs a bs)
    fs := { s.fs with
      badWords := s.fs.badWords.filter fun w => !(decide (a ≤ w) && decide (w + 8 ≤ a + bs.length))
      softWords := s.fs.softWords.filter fun w => !(decide (a ≤ w) && decide (w + 8 ≤ a + bs.length)) } }

/-- Words of the frame store have taken errors since they were written: each by its address, and whether the error is uncorrectable (R182). -/
def State.upset (s : State) (ws : List (Nat × Bool)) : State :=
  let at8 := fun (bad : Bool) => (ws.filter fun w => w.2 == bad).map fun w => w.1 / 8 * 8
  { s with fs := { s.fs with badWords := s.fs.badWords ++ at8 true, softWords := s.fs.softWords ++ at8 false } }

/-- The low `n` bytes of a number, little-endian (R7). -/
def natBytes : Nat → Nat → List Byte
  | 0, _ => []
  | n + 1, v => BitVec.ofNat 8 v :: natBytes n (v / 256)

/-- A little-endian list of bytes as a number (R7). -/
def bytesNat : List Byte → Nat
  | [] => 0
  | b :: r => b.toNat + 256 * bytesNat r

/-- The bytes of a word (R7). -/
def wordBytes (w : Word) : List Byte := natBytes 8 w.toNat

/-- Codes of `n` bits packed as one little-endian bit stream (R187). -/
def packNat (n : Nat) : List Nat → Nat
  | [] => 0
  | c :: r => c % 2 ^ n + 2 ^ n * packNat n r

/-- The bytes of packed pixels: ceil(PIX × n ÷ 8) (R187, R237). -/
def packBytes (n : Nat) (codes : List Nat) : List Byte := natBytes (ceilDiv (codes.length * n) 8) (packNat n codes)

/-- The word at byte address `a` is read with an uncorrectable error (R182). -/
def State.damagedIn (s : State) (a n : Nat) : Bool := s.fs.badWords.any fun w => decide (w < a + n) && decide (a < w + 8)

/-- Count the ECC events of reading `n` bytes at `a` (R182). -/
def State.countEcc (s : State) (a n : Nat) : State :=
  let bad := (s.fs.badWords.filter fun w => decide (w < a + n) && decide (a < w + 8)).length
  let soft := (s.fs.softWords.filter fun w => decide (w < a + n) && decide (a < w + 8)).length
  let s := s.addF Reg.FS_CNT Fld.FS_CNT_ECC_CE soft
  if bad = 0 then s else (s.satF Reg.FS_CNT Fld.FS_CNT_ECC_UE bad).setB Reg.FS_STATUS Fld.FS_STATUS_ECC_UE true

/-! ## The berth table -/

/-- First byte of berth `n` (R185). -/
def State.berthBase (s : State) (n : Nat) : Nat := s.f (Reg.FS_BERTH n) Fld.FS_BERTH_BASE * 65536

/-- Bytes of berth `n` (R185). -/
def State.berthBytes (s : State) (n : Nat) : Nat := s.f (Reg.FS_BERTH n) Fld.FS_BERTH_SIZE * 65536

/-- Berth `n` is enabled and lies in the frame store (R185). -/
def State.berthOn (s : State) (n : Nat) : Bool :=
  s.flag (Reg.FS_BERTH n) Fld.FS_BERTH_EN && s.f (Reg.FS_BERTH n) Fld.FS_BERTH_SIZE != 0 &&
    decide (s.f (Reg.FS_BERTH n) Fld.FS_BERTH_BASE + s.f (Reg.FS_BERTH n) Fld.FS_BERTH_SIZE ≤ 131072)

/-- STATE of berth `n` (R200): 0 free, 1 filling, 2 held, 3 retained, 4 history, 5 reserved. -/
def State.berthState (s : State) (n : Nat) : Nat := s.f (Reg.FS_BSTATE n) Fld.FS_BSTATE_STATE

/-- Berth `n` is locked by a recall (R198). -/
def State.berthLocked (s : State) (n : Nat) : Bool := s.flag (Reg.FS_BSTATE n) Fld.FS_BSTATE_LOCK

/-- The occupant of berth `n`. -/
def State.occAt (s : State) (n : Nat) : Option Occupant := s.fs.occ.find? fun o => o.berth == n

/-- Replace the occupant of its berth. -/
def State.setOcc (s : State) (o : Occupant) : State :=
  { s with fs := { s.fs with occ := s.fs.occ.map fun p => if p.berth == o.berth then o else p } }

/-- Free a berth; the first one that is freed after a new frame has found none ends the throttling (R82). -/
def State.freeBerth (s : State) (n : Nat) : State :=
  { (s.setReg (Reg.FS_BSTATE n) 0) with
    fs := { s.fs with occ := s.fs.occ.filter fun o => !(o.berth == n), freedAt := some (s.fs.freedAt.getD s.clock.tt) } }

/-- A berth's frame is dropped, or its copy abandoned: the berth is freed, or, while a recall locks it, kept until the recall ends, with nothing to send (R198). -/
def State.dropBerth (s : State) (o : Occupant) : State :=
  if s.berthLocked o.berth then
    ((s.setOcc { o with todo := [], fsOwed := 0, feOwed := 0, gone := true }).setF (Reg.FS_BSTATE o.berth) Fld.FS_BSTATE_STATE 3).setF
      (Reg.FS_BSTATE o.berth) Fld.FS_BSTATE_PEND 0
  else s.freeBerth o.berth

/-- Give berth `o.berth` to an occupant in the given STATE. -/
def State.takeBerth (s : State) (o : Occupant) (st : Nat) : State :=
  let w := Fld.FS_BSTATE_SEQ.set (Fld.FS_BSTATE_CTX.set (Fld.FS_BSTATE_STATE.set 0 st) o.ctx) o.seq
  let s := s.freeBerth o.berth
  { (s.setReg (Reg.FS_BSTATE o.berth) w) with fs := { s.fs with occ := s.fs.occ ++ [o] } }

/-- Free enabled frame berths (R200). -/
def State.freeCount (s : State) : Nat :=
  ((List.range 1024).filter fun n => s.berthOn n && s.f (Reg.FS_BERTH n) Fld.FS_BERTH_KIND == 0 && s.berthState n == 0).length

/-- Berths that hold unsent lines (R200). -/
def State.heldCount (s : State) : Nat := (s.fs.occ.filter fun o => !o.todo.isEmpty).length

/-! ## Sizes -/

/-- Stride of a line of `width` pixels of `n` bits, in bytes (R187). -/
def strideOf (width n : Nat) : Nat := ceilDiv (width * n) 512 * 64

/-- Output width of a context (R129). -/
def outWidth (st : RegFile) (c : Nat) : Nat := (ctxWin st c).w / binFactor (st.fld (Reg.CTX_CTL c) Fld.CTX_CTL_BIN)

/-- Output lines of one exposure of a context (R129). -/
def outHeight (st : RegFile) (c : Nat) : Nat := (ctxWin st c).h / binFactor (st.fld (Reg.CTX_CTL c) Fld.CTX_CTL_BIN)

/-- Strip-stack governs a frame with these settings: FORM = 3 outside a burst (R78, R80). -/
def stripStacked (st : RegFile) (burst : Bool) : Bool := st.fld Reg.TT_MODE Fld.TT_MODE_FORM == 3 && !burst

/-- The most lines a frame or segment of a context can reach (R188). -/
def maxLines (st : RegFile) (c : Nat) (burst : Bool) : Nat :=
  if stripStacked st burst then
    (if st.fld Reg.TT_STRIP Fld.TT_STRIP_PD_MODE = 2 then st.fld Reg.TT_STRIP Fld.TT_STRIP_LIMIT
     else st.fld Reg.TT_STRIP Fld.TT_STRIP_HEIGHT) * outHeight st c
  else outHeight st c

/-- Output bits per pixel of a context (R127). -/
def outBits (st : RegFile) (c : Nat) : Nat := depthBits (st.fld (Reg.CTX_CTL c) Fld.CTX_CTL_DEPTH)

/-- Bytes a frame of a context needs in a berth (R188). -/
def frameBytes (st : RegFile) (c : Nat) (burst : Bool) : Nat := 0x200 + maxLines st c burst * strideOf (outWidth st c) (outBits st c)

/-- Bytes a history of a context needs (R188). -/
def historyBytes (st : RegFile) (c bits : Nat) : Nat := 0x200 + (ctxWin st c).h * strideOf (ctxWin st c).w bits

/-- Byte offset of line `i` in a berth (R187). -/
def lineOffset (width bits i : Nat) : Nat := 0x200 + i * strideOf width bits

/-! ## Claims -/

/-- The better of two candidate berths: the smaller, then the lower number (R191, R192). -/
def State.betterBerth (s : State) (a : Option Nat) (n : Nat) : Option Nat :=
  match a with
  | none => some n
  | some m => if s.berthBytes n < s.berthBytes m then some n else some m

/-- The smallest enabled free berth of a kind that holds `need` bytes (R191, R192). -/
def State.freeFit (s : State) (kind need : Nat) : Option Nat :=
  ((List.range 1024).filter fun n =>
    s.berthOn n && s.f (Reg.FS_BERTH n) Fld.FS_BERTH_KIND == kind && s.berthState n == 0 && decide (need ≤ s.berthBytes n)).foldl
    s.betterBerth none

/-- The oldest of a list of occupants by the time of release (R196). -/
def oldestOcc (l : List Occupant) : Option Occupant :=
  l.foldl (fun a o => match a with | none => some o | some b => if o.relAt < b.relAt then some o else some b) none

/-- Frame berths that a context holds (R192); history berths do not count. -/
def State.berthsOf (s : State) (c : Nat) : List Occupant :=
  s.fs.occ.filter fun o => o.ctx == c && s.berthState o.berth != 4

/-- A retained, unlocked berth that is large enough (R192). -/
def State.reclaimable (s : State) (need : Nat) (o : Occupant) : Bool :=
  s.berthState o.berth == 3 && !s.berthLocked o.berth && decide (need ≤ s.berthBytes o.berth)

/-- The berth that a claim of context `c` finds (R192), if any; with BERTH_MAX = 0 every claim fails. -/
def State.claimFind (s : State) (st : RegFile) (c : Nat) (burst : Bool) : Option Nat :=
  let need := frameBytes st c burst
  let limit := st.fld (Reg.CTX_DEST c) Fld.CTX_DEST_BERTH_MAX
  if limit = 0 then none
  else if limit ≤ (s.berthsOf c).length then
    (oldestOcc ((s.berthsOf c).filter (s.reclaimable need))).map (·.berth)
  else
    match s.freeFit 0 need with
    | some n => some n
    | none => (oldestOcc (s.fs.occ.filter (s.reclaimable need))).map (·.berth)

/-- The words of context `c` that a gangway fixes for a frame (R134): its record, its mirror bit, and what its size follows from (R188). -/
def ctxFixed (st : RegFile) (c : Nat) : RegFile :=
  [Reg.TT_MODE, Reg.TT_STRIP, Reg.CTX_CTL c, Reg.CTX_WIN c, Reg.CTX_DEST c, Reg.CTX_CHAIN c, Reg.FS_MIRROR (c / 64)].map fun a => (a, st.word a)

/-- An occupant for a frame of context `c`, with its fixed routing (R134). -/
def newOcc (st : RegFile) (c seq cont berth : Nat) (mirror : Bool) (man : List Word) : Occupant :=
  { berth := berth, ctx := c, seq := seq, cont := cont, fixed := ctxFixed st c, mirror := mirror,
    cls := st.fld (Reg.CTX_CTL c) Fld.CTX_CTL_CLASS, depth := st.fld (Reg.CTX_CTL c) Fld.CTX_CTL_DEPTH,
    width := outWidth st c,
    chain := if st.on (Reg.CTX_CHAIN c) Fld.CTX_CHAIN_CHAIN_EN && !mirror then
      some (st.fld (Reg.CTX_CHAIN c) Fld.CTX_CHAIN_FERRY, st.fld (Reg.CTX_CHAIN c) Fld.CTX_CHAIN_HEAD) else none,
    fsMan := man, man := man }

/-- Write the manifest and the berth record of a frame's berth (R187). -/
def State.berthHeader (s : State) (o : Occupant) (done : Bool) : State :=
  let bits := depthBits o.depth
  let lines := if o.ended then o.height else o.written.length
  s.setBytes (s.berthBase o.berth)
    (((List.range 32).map fun i => wordBytes (o.man.getD i 0)).flatten ++ wordBytes (BitVec.ofNat 64 (o.seq + o.cont * 2 ^ 32 + o.ctx * 2 ^ 48)) ++
      wordBytes (BitVec.ofNat 64 (lines + strideOf o.width bits / 64 * 2 ^ 32 + bits * 2 ^ 48 + (if done then 2 ^ 53 else 0))) ++
      List.replicate 48 0)

/-- A context's berthed frames go to its ferry chain in these settings (R222). -/
def chainsTo (st : RegFile) (c : Nat) : Option Nat :=
  if st.on (Reg.CTX_CTL c) Fld.CTX_CTL_ACTIVE && st.on (Reg.CTX_CHAIN c) Fld.CTX_CHAIN_CHAIN_EN &&
      st.fld (Reg.CTX_CTL c) Fld.CTX_CTL_CLASS != 1 && st.fld (Reg.CTX_DEST c) Fld.CTX_DEST_KIND == 0 then
    some (st.fld (Reg.CTX_CHAIN c) Fld.CTX_CHAIN_FERRY)
  else none

/-- Ferries that run chains in these settings (R223). -/
def chainFerries (st : RegFile) : List Nat := (activeCtxs st).filterMap (chainsTo st)

/-- Contexts of a bank that throttle: DROP = 2 with an allowance (R194). -/
def throttleCtxs (st : RegFile) : List Nat :=
  (activeCtxs st).filter fun c =>
    st.fld (Reg.CTX_CTL c) Fld.CTX_CTL_DROP == 2 && st.fld (Reg.CTX_DEST c) Fld.CTX_DEST_BERTH_MAX != 0 &&
      st.fld (Reg.CTX_CTL c) Fld.CTX_CTL_CLASS != 1 && st.fld (Reg.CTX_DEST c) Fld.CTX_DEST_KIND == 0

/-- Reserve one frame berth for each throttled context of a new frame (R194); none where one cannot be reserved. -/
def State.reserveAll (s : State) (st : RegFile) (seq : Nat) (burst : Bool) : List Nat → Option State
  | [] => some s
  | c :: r =>
    match s.claimFind st c burst with
    | none => none
    | some n => (s.takeBerth { newOcc st c seq 0 n false [] with reserved := true } 5).reserveAll st seq burst r

/-- Reserve for a new frame and report THROTTLED (R82, R194): the new state and whether every berth was found. -/
def State.reserve (s : State) (st : RegFile) (seq : Nat) (burst : Bool) : State × Bool :=
  match s.reserveAll st seq burst (throttleCtxs st) with
  | some s' => (s'.setB Reg.TT_STATUS Fld.TT_STATUS_THROTTLED false, true)
  | none => (s.setB Reg.TT_STATUS Fld.TT_STATUS_THROTTLED true, false)

/-- Release a frame berth whose parts are all sent (R196): it is retained, or becomes free, at once or when the recall that locks it ends (R198). A reserved berth that has received no line is freed (R194). -/
def State.releaseBerth (s : State) (o : Occupant) : State :=
  let keep := s.flag Reg.FS_CFG Fld.FS_CFG_RETAIN && !(o.reserved && o.written.isEmpty)
  if keep || s.berthLocked o.berth then
    let s := s.setOcc { o with relAt := s.fs.relCount, gone := !keep }
    { ((s.setF (Reg.FS_BSTATE o.berth) Fld.FS_BSTATE_STATE 3).setF (Reg.FS_BSTATE o.berth) Fld.FS_BSTATE_PEND 0) with
      fs := { s.fs with relCount := s.fs.relCount + 1 } }
  else s.freeBerth o.berth

/-- Every bundle part is sent or the chain run is finished, and the frame or segment has ended (R196). -/
def Occupant.complete (o : Occupant) : Bool :=
  o.ended && o.todo.isEmpty && o.fsOwed == 0 && o.feOwed == 0 && (o.chain.isNone || o.chainDone)

/-- Release the berth of a complete occupant; otherwise report its bundles that still wait. -/
def State.settleBerth (s : State) (o : Occupant) : State :=
  if o.complete then s.releaseBerth o
  else
    let pend := (List.range 8).foldl (fun m b => if o.todo.any (fun p => p.1 == b) || hasBit o.fsOwed b || hasBit o.feOwed b then m + 2 ^ b else m) 0
    (s.setF (Reg.FS_BSTATE o.berth) Fld.FS_BSTATE_PEND pend).setF (Reg.FS_BSTATE o.berth) Fld.FS_BSTATE_STATE (if o.ended then 2 else 1)

/-! ## History (R162, R163, R191) -/

/-- The slots of a context that the temporal filter needs history for (R162, R179). -/
def historySlots (st : RegFile) (c : Nat) (burst : Bool) : List Nat :=
  if st.on (Reg.CTX_CTL c) Fld.CTX_CTL_ACTIVE && st.on (Reg.CTX_CTL c) Fld.CTX_CTL_NR_T && !stripStacked st burst then
    (match st.fld (Reg.CTX_CTL c) Fld.CTX_CTL_SLOT with
     | 0 => [0] | 1 => [1] | _ => [0, 1])
  else []

/-- A slot is read from store B (R41, R130): in dual exposure slot A reads store A and slot B store B; otherwise slot A reads the frame's store. -/
def slotInB (st : RegFile) (firstStore slot : Nat) : Bool := if storeMode st = 2 then slot == 1 else firstStore == 1

/-- The gain at which a slot is read (R40). -/
def slotGain (st : RegFile) (firstStore slot : Nat) : Nat :=
  if slotInB st firstStore slot then st.fld Reg.TT_PIX_CFG Fld.TT_PIX_CFG_GAIN_B else st.fld Reg.TT_PIX_CFG Fld.TT_PIX_CFG_GAIN_A

/-- The settings of a context that restart its history when they change (R132). -/
def historyKey (st : RegFile) (c : Nat) : Word × List Nat :=
  (st.word (Reg.CTX_WIN c),
    [st.fld (Reg.CTX_CTL c) Fld.CTX_CTL_ACTIVE, st.fld (Reg.CTX_CTL c) Fld.CTX_CTL_BIN, st.fld (Reg.CTX_CTL c) Fld.CTX_CTL_SLOT,
     st.fld (Reg.CTX_CTL c) Fld.CTX_CTL_DEPTH, st.fld (Reg.CTX_CTL c) Fld.CTX_CTL_NR_T])

/-- A history goes on at a gangway: the context still needs it, its frame before was not cut, and nothing that R132 and R163 name has changed since the gangway before. -/
def keepsHistory (new : RegFile) (burst : Bool) (bits gain : Nat) (epochMoved : Bool) (h : History) : Bool :=
  !h.spoiled && (historySlots new h.ctx burst).contains h.slot && decide (historyKey h.last h.ctx = historyKey new h.ctx) && h.bits == bits &&
    h.gain == gain && !epochMoved

/-- The manifest area, which is zero, and the berth record of a history berth (R187, R188). -/
def State.historyHeader (s : State) (h : History) (seq cont lines : Nat) (done : Bool) : State :=
  let w := ctxWin h.last h.ctx
  s.setBytes (s.berthBase h.berth)
    (List.replicate 256 0 ++ wordBytes (BitVec.ofNat 64 (seq + cont * 2 ^ 32 + h.ctx * 2 ^ 48)) ++
      wordBytes (BitVec.ofNat 64 (lines + strideOf w.w h.bits / 64 * 2 ^ 32 + h.bits * 2 ^ 48 + (if done then 2 ^ 53 else 0))) ++
      List.replicate 48 0)

/-- The history of a context and slot that the gangways have left in force. -/
def State.historyNow (s : State) (c slot : Nat) : Option History :=
  s.pipe.history.find? fun h => h.ctx == c && h.slot == slot && h.until'.isNone

/-- The history that frame `seq` of a context reads and updates in a slot: frames before the gangway that freed it still do. -/
def State.historyOf (s : State) (c slot seq : Nat) : Option History :=
  (s.pipe.history.filter fun h => h.ctx == c && h.slot == slot && serialGe 32 seq h.since &&
    (match h.until' with | none => true | some u => !serialGe 32 seq u)).getLast?

/-- Free the histories that satisfy `p` at the gangway of frame `seq` (R191). -/
def State.freeHistories (s : State) (seq : Nat) (p : History → Bool) : State :=
  let s := (s.pipe.history.filter fun h => h.until'.isNone && p h).foldl (fun s h => s.freeBerth h.berth) s
  { s with pipe := { s.pipe with history := s.pipe.history.map fun h => if h.until'.isNone && p h then { h with until' := some seq } else h } }

/-- Reserve a history berth for one slot of a context at the gangway of frame `seq` (R191). -/
def State.reserveSlot (s : State) (st : RegFile) (bits gain seq c slot : Nat) : State :=
  match s.freeFit 1 (historyBytes st c bits) with
  | none => s
  | some n =>
    let h : History :=
      { ctx := c, slot := slot, berth := n, bits := bits, valid := false, settings := st, black := [], since := seq, last := st, gain := gain }
    let s := s.setReg (Reg.FS_BSTATE n) (Fld.FS_BSTATE_SEQ.set (Fld.FS_BSTATE_CTX.set (Fld.FS_BSTATE_STATE.set 0 4) c) seq)
    ({ s with pipe := { s.pipe with history := s.pipe.history ++ [h] } } : State).historyHeader h seq 0 0 false

/-- Reserve the history berths of one context (R191): for every slot that needs one, or for none. -/
def State.reserveHistory (s : State) (st : RegFile) (burst : Bool) (bits first seq c : Nat) : State :=
  let slots := historySlots st c burst
  let s := (slots.filter fun k => (s.historyNow c k).isNone).foldl (fun s k => s.reserveSlot st bits (slotGain st first k) seq c k) s
  if slots.any fun k => (s.historyNow c k).isNone then
    (s.freeHistories seq fun h => h.ctx == c).setB Reg.PIPE_STATUS Fld.PIPE_STATUS_HIST_NOSPACE true
  else s

/-- What the gangway of frame `seq` does to the histories (R163, R191): restarted and unused ones are freed, needed ones reserved; the others take note of its settings. Freed ones are forgotten once no frame before their gangway is under way. -/
def State.gangwayHistory (s : State) (new : RegFile) (burst : Bool) (bits first seq : Nat) (epochMoved : Bool) : State :=
  let keep := fun (h : History) => keepsHistory new burst bits (slotGain new first h.slot) epochMoved h
  let s := s.freeHistories seq fun h => !keep h
  let read := fun (h : History) =>
    match h.until' with
    | none => true
    | some u => s.tt.frames.any fun f => f.gated && !serialGe 32 f.seq u
  let s : State := { s with
    pipe := { s.pipe with
      history := (s.pipe.history.filter read).map fun h => if h.until'.isNone then { h with last := new, gain := slotGain new first h.slot } else h } }
  (activeCtxs new).foldl (fun s c => s.reserveHistory new burst bits first seq c) s

end Sys2Proof.Machine
end

