-- ==== Sys2Proof/Machine/Link.lean ====
section
/-! DEFINITION. What enters an egress queue: packets and their cost (R236, R248), the landings, the ford and their credit (R189, R245, R248), the framing of a frame on its bundles (R237, R238), berthed frames and the unloader (R189, R190), drops and gap notices (R193), and the preview queue (R361 to R364). -/

namespace Sys2Proof.Machine

/-! ## Packets -/

/-- NBLK (R236). -/
def Packet.nblk (p : Packet) : Nat := if p.payload.length = 0 then 0 else ceilDiv (p.payload.length + 4) 32

/-- Credits that a packet costs (R248). -/
def Packet.cost (p : Packet) : Nat := ceilDiv (32 * (1 + p.nblk)) 4096

/-- Tokens that a P packet costs, in bits (R241). -/
def Packet.tokens (p : Packet) : Nat := 256 * (1 + p.nblk)

/-- The bundle `b`. -/
def State.bun (s : State) (b : Nat) : Bundle := s.eg.getD b {}

/-- Change bundle `b`. -/
def State.modBun (s : State) (b : Nat) (f : Bundle → Bundle) : State := { s with eg := modifyAt f b s.eg }

/-- STATE of bundle `b` (R255). -/
def State.bunState (s : State) (b : Nat) : Nat := s.f (Reg.EG_BSTAT b) Fld.EG_BSTAT_STATE

/-- Bundle `b` is active in the sense of R215: ACTIVE, DEGRADED or BLIND (R255). -/
def State.bunActive (s : State) (b : Nat) : Bool := decide (2 ≤ s.bunState b) && decide (s.bunState b ≤ 4)

/-- Credit left of counts that wrap at 32 bits: none where more has been taken than there is (R248). -/
def creditLeft (given taken : Nat) : Nat := (centred 32 ((given : Int) - taken)).toNat

/-- Available credit of a class on bundle `b` (R248): RES of the class counts while the bundle is blind. -/
def State.avail (s : State) (b : Nat) (isB : Bool) : Nat :=
  let x := s.bun b
  let blind := s.bunState b == 4
  if isB then
    creditLeft (s.f (Reg.EG_BCAP b) Fld.EG_BCAP_INIT_B + x.credB + (if blind then s.f (Reg.EG_BCAP b) Fld.EG_BCAP_RES_B else 0)) x.consB
  else
    creditLeft (s.f (Reg.EG_BCAP b) Fld.EG_BCAP_INIT_N + x.credN + (if blind then s.f (Reg.EG_BCAP b) Fld.EG_BCAP_RES_N else 0)) x.consN

/-- Credits that packets cost together. -/
def costOf (ps : List Packet) : Nat := ps.foldl (fun n p => n + p.cost) 0

/-- Credit of the packets of a class queued in a landing and not yet sent (R189). -/
def State.queuedCost (s : State) (b : Nat) (isB : Bool) : Nat :=
  costOf ((s.bun b).landing.filter fun p => (p.cls == 2) == isB)

/-- The landing of bundle `b` has credit for packets of one class together (R189); a bundle that is not active has none. -/
def State.hasCredit (s : State) (b : Nat) (ps : List Packet) : Bool :=
  let isB := ps.any fun p => p.cls == 2
  s.bunActive b && decide (s.queuedCost b isB + costOf ps ≤ s.avail b isB)

/-- A class of an active bundle has begun to wait for credit (R248, R258). -/
def State.noteStall (s : State) (b : Nat) (isB : Bool) : State :=
  if s.bunActive b then
    s.modBun b fun x =>
      if isB then { x with stallB := some (x.stallB.getD s.clock.now) } else { x with stallN := some (x.stallN.getD s.clock.now) }
  else s

/-- Size of the ford queue in bytes (R245). -/
def fordSize : Nat := 2097152

/-- Bytes queued in the ford of bundle `b`, in whole blocks (R244). -/
def State.fordBytes (s : State) (b : Nat) : Nat := (s.bun b).ford.foldl (fun n p => n + 32 * (1 + p.nblk)) 0

/-- The lines that a bundle has carried of a frame: distinct line indices (R237). -/
def OnBundle.lines (o : OnBundle) : Nat := o.sent.eraseDups.length

/-- Note on bundle `b` what a packet adds to its frame (R237). -/
def noteFrame (p : Packet) (fs : List OnBundle) : List OnBundle :=
  let hit := fun (o : OnBundle) => o.ctx == p.ctx && o.seq == p.seq && o.cont == p.cont
  let fs := if fs.any hit then fs else fs ++ [{ ctx := p.ctx, seq := p.seq, cont := p.cont }]
  fs.map fun o =>
    if hit o then
      match p.ptype with
      | 1 => { o with fs := true }
      | 2 => { o with sent := o.sent ++ [p.word2 % 2 ^ 32] }
      | 3 => { o with fe := true }
      | _ => o
    else o

/-- What bundle `b` has carried of a frame. -/
def State.onBundle (s : State) (b ctx seq cont : Nat) : OnBundle :=
  ((s.bun b).frames.find? fun o => o.ctx == ctx && o.seq == seq && o.cont == cont).getD { ctx := ctx, seq := seq, cont := cont }

/-- Put a packet into a landing. -/
def State.toLanding (s : State) (b : Nat) (p : Packet) : State :=
  s.modBun b fun x => { x with landing := x.landing ++ [p], frames := if p.origin = 0 then noteFrame p x.frames else x.frames }

/-- Put packets into a landing in order. -/
def State.toLandings (s : State) (b : Nat) (ps : List Packet) : State := ps.foldl (fun s p => s.toLanding b p) s

/-- Bundle `b` takes P packets: it is active and its receiver sinks them (R245, R247). -/
def State.sinksP (s : State) (b : Nat) : Bool := s.bunActive b && s.flag (Reg.EG_BSTAT b) Fld.EG_BSTAT_P_SINK

/-- Put a packet into the ford, where the bundle takes P packets. -/
def State.toFord (s : State) (b : Nat) (p : Packet) : State :=
  if s.sinksP b then s.modBun b fun x => { x with ford := x.ford ++ [p], frames := noteFrame p x.frames } else s

/-- `n` P lines for a bundle that takes none are discarded and counted (R245). -/
def State.discardP (s : State) (b n : Nat) : State :=
  if n = 0 then s else (s.satF (Reg.EG_BCNT1 b) Fld.EG_BCNT1_P_DISCARD n).setB Reg.EG_STATUS Fld.EG_STATUS_P_DISCARD true

/-- A P line goes into the ford, or is discarded (R245). -/
def State.fordLine (s : State) (b : Nat) (ps : List Packet) : State :=
  if s.sinksP b then ps.foldl (fun s p => s.toFord b p) s else s.discardP b 1

/-! ## A frame's routing -/

/-- Bundles that carry a frame of context `c` (R133, R238). -/
def frameMask (st : RegFile) (c : Nat) : Nat :=
  let v := ctxWin st c
  let named := st.fld (Reg.CTX_DEST c) Fld.CTX_DEST_BUNDLES
  if st.on (Reg.CTX_DEST c) Fld.CTX_DEST_SPLIT && st.fld (Reg.CTX_CTL c) Fld.CTX_CTL_CLASS != 1 then
    (List.range 8).foldl (fun m b =>
      if hasBit named b ∧ v.x0 < 2048 * (b + 1) ∧ 2048 * b < v.x0 + v.w then m + 2 ^ b else m) 0
  else named

/-- The bundles of a mask. -/
def maskBundles (m : Nat) : List Nat := (List.range 8).filter (hasBit m)

/-- First output column and number of output pixels of a line's part on bundle `b` (R237). -/
def partOf (st : RegFile) (c b : Nat) : Nat × Nat :=
  let v := ctxWin st c
  let f := binFactor (st.fld (Reg.CTX_CTL c) Fld.CTX_CTL_BIN)
  if st.on (Reg.CTX_DEST c) Fld.CTX_DEST_SPLIT && st.fld (Reg.CTX_CTL c) Fld.CTX_CTL_CLASS != 1 then
    let lo := (max v.x0 (2048 * b) - v.x0) / f
    let hi := (min (v.x0 + v.w) (2048 * (b + 1)) - v.x0) / f
    (lo, hi - lo)
  else (0, v.w / f)

/-- The other twin of a P context's bundle (R239). -/
def twinOf (st : RegFile) (c b : Nat) : Option Nat :=
  if st.fld (Reg.CTX_CTL c) Fld.CTX_CTL_CLASS = 1 then (maskBundles (frameMask st c)).find? (fun x => x != b) else none

/-- LINE packets of at most 4,096 pixels where the payload would exceed 8,192 bytes, otherwise one (R237). -/
def linePackets (base : Packet) (bits idx col : Nat) (codes : List Nat) : List Packet :=
  let chunk := if 8192 < ceilDiv (codes.length * bits) 8 then 4096 else codes.length
  (List.range (if chunk = 0 then 0 else ceilDiv codes.length chunk)).map fun i =>
    let cs := (codes.drop (i * chunk)).take chunk
    { base with
      ptype := 2
      word2 := idx + (col + i * chunk) * 2 ^ 32 + cs.length * 2 ^ 46
      payload := packBytes bits cs }

/-- A packet of a context's frame with its class and identity. -/
def framePacket (st : RegFile) (c seq cont b ptype : Nat) : Packet :=
  { ptype := ptype, cls := st.fld (Reg.CTX_CTL c) Fld.CTX_CTL_CLASS, ctx := c, seq := seq, cont := cont,
    depth := st.fld (Reg.CTX_CTL c) Fld.CTX_CTL_DEPTH, twin := twinOf st c b }

/-- The bytes of a manifest (R150, R237). -/
def manBytes (man : List Word) : List Byte := (man.map wordBytes).flatten

/-- The FS packet (R237). -/
def fsPacket (st : RegFile) (c seq cont b : Nat) (man : List Word) : Packet :=
  { framePacket st c seq cont b 1 with word2 := frameMask st c, payload := manBytes man }

/-- The FE packet (R237); `flags` holds CUT, SHORT, MORE in bits 0 to 2, and BLIND is added when it is sent. -/
def State.fePacket (s : State) (st : RegFile) (c seq cont b flags : Nat) (man : List Word) : Packet :=
  let o := s.onBundle b c seq cont
  { framePacket st c seq cont b 3 with word2 := o.lines + o.sent.length * 2 ^ 32, flags := flags, payload := manBytes man }

/-- The GAP packet (R237). -/
def State.gapPacket (s : State) (st : RegFile) (c seq cont b reason : Nat) : Packet :=
  { framePacket st c seq cont b 4 with word2 := reason + (s.onBundle b c seq cont).lines * 16 }

/-! ## The bundles of a chain run (R222, R224) -/

/-- Ferry `f`. -/
def State.ferry (s : State) (f : Nat) : Ferry := s.fy.getD f {}

/-- The eight words of descriptor `d` (R204, R205). -/
def State.descWords (s : State) (d : Nat) : List Word := (List.range 8).map fun w => s.reg (Reg.FY_DESC d w)

/-- A word of a descriptor. -/
def dw (d : List Word) (i : Nat) : Word := d.getD i 0

/-- Where a ferry address lies (R201). -/
inductive Region where
  | store | landing (b : Nat) | preview | stats
deriving DecidableEq, Repr

/-- First address past the frame store. -/
def storeEnd : Nat := 0x200000000

/-- The region of a destination at `a` with a span of `n` bytes. -/
def destRegion (a n : Nat) : Option Region :=
  if a = 0x200000000000 then some .preview
  else
    match (List.range 8).find? fun b => a == 0x100000000000 + b * 0x10000000000 with
    | some b => some (.landing b)
    | none => if a + n ≤ storeEnd then some .store else none

/-- Bytes from line 0's start to the last line's end (R207); none where there is no line. -/
def spanOf (w : Word) : Nat :=
  let len := Fld.DESC2_LEN.get w
  let count := Fld.DESC2_COUNT.get w
  if len = 0 ∨ count = 0 then 0 else 64 * ((count - 1) * Fld.DESC2_STRIDE.get w + len)

/-- Bytes of a destination that are checked: a landing or the preview queue ignores the stride. -/
def destSpan (d : List Word) : Nat := spanOf (dw d 4)

/-- The bundles that the descriptors of a run name (R224, R238), found by following NEXT from `pos` to LAST. -/
def State.runBundles (s : State) : Nat → Nat → Nat → Nat
  | 0, _, m => m
  | n + 1, pos, m =>
    let d := s.descWords pos
    let m := match destRegion (Fld.DESC_ADDR.get (dw d 3)) (destSpan d) with
      | some (.landing b) => m ||| 2 ^ b
      | _ => m
    if Fld.DESC0_LAST.get (dw d 0) = 1 then m else s.runBundles n (Fld.DESC5_NEXT.get (dw d 5)) m

/-- Where the run of a frame with this HEAD begins on ferry `f` (R224). -/
def State.runFrom (s : State) (f head : Nat) : Nat :=
  let y := s.ferry f
  if y.lastHead = some head then y.lastNext else head

/-- MASK of a frame (R237, R238): the bundles that its destination or the run of its chain names. -/
def State.maskOf (s : State) (st : RegFile) (c : Nat) : Nat :=
  match chainsTo st c with
  | some f => s.runBundles 16384 (s.runFrom f (st.fld (Reg.CTX_CHAIN c) Fld.CTX_CHAIN_HEAD)) 0
  | none => frameMask st c

/-! ## Drops (R193) -/

/-- Count a dropped frame of a context (R193, R158). -/
def State.countDrop (s : State) (c : Nat) : State := s.addF (Reg.CTX_ST1 c) Fld.CTX_ST1_DROPPED 1

/-- Frame or segment (q, k) comes before (q', k') in sequence order (R190). -/
def frameBefore (q k q' k' : Nat) : Bool := if q = q' then decide (k < k') else !serialGe 32 q q'

/-- Something of the occupant still belongs on bundle `b` through its unloader. -/
def Occupant.waitsOn (o : Occupant) (b : Nat) : Bool :=
  !o.mirror && o.chain.isNone && (hasBit o.fsOwed b || o.todo.any (fun p => p.1 == b) || hasBit o.feOwed b)

/-- Bundle `b` still has lines, framing packets or gap notices of context `c` waiting for its unloader (R189, R190). -/
def State.backlogged (s : State) (c b : Nat) : Bool :=
  s.fs.occ.any (fun o => o.ctx == c && o.waitsOn b) || s.fs.gaps.any fun g => g.bundle == b && g.packet.ctx == c

/-- Such a backlog belongs to a frame before (seq, cont). -/
def State.backBefore (s : State) (c b seq cont : Nat) : Bool :=
  s.fs.occ.any (fun o => o.ctx == c && o.waitsOn b && frameBefore o.seq o.cont seq cont) ||
    s.fs.gaps.any fun g => g.bundle == b && g.packet.ctx == c && frameBefore g.packet.seq g.packet.cont seq cont

/-- Send a dropped frame's GAP on one bundle, unless its FE has entered the landing (R193, R238): behind earlier berthed frames of the context through the unloader (R190), for a P context through the ford (R247). -/
def State.sendGap (s : State) (st : RegFile) (c seq cont reason b : Nat) : State :=
  let p := s.gapPacket st c seq cont b reason
  if (s.onBundle b c seq cont).fe then s
  else if p.cls = 1 then
    (if s.flag (Reg.EG_BSTAT b) Fld.EG_BSTAT_P_SINK then s.modBun b fun x => { x with ford := x.ford ++ [p] } else s)
  else if s.backBefore c b seq cont then { s with fs := { s.fs with gaps := s.fs.gaps ++ [⟨b, p⟩] } }
  else s.toLanding b p

/-- Send the GAPs of a dropped frame on the bundles of its MASK. -/
def State.sendGaps (s : State) (st : RegFile) (c seq cont reason mask : Nat) : State :=
  (maskBundles mask).foldl (fun s b => s.sendGap st c seq cont reason b) s

/-- A ferry runs the frame. -/
def Ferry.runs (f : Ferry) (ctx seq cont : Nat) : Bool :=
  match f.run with
  | some (c, q, k, _) => c == ctx && q == seq && k == cont
  | none => false

/-- The frame or segment has been dropped. -/
def State.isDropped (s : State) (c seq cont : Nat) : Bool :=
  s.pipe.progress.any (fun p => p.ctx == c && p.seq == seq && p.cont == cont && p.dropped) ||
    s.fs.occ.any fun o => o.ctx == c && o.seq == seq && o.cont == cont && !o.mirror && o.gone

/-- Change the ferries that run a frame. -/
def State.modRunners (s : State) (c seq cont : Nat) (g : Ferry → Ferry) : State :=
  { s with fy := s.fy.map fun f => if f.runs c seq cont then g f else f }

/-- Drop a frame or segment: count it, discard its unsent lines, free its berth, and send its GAPs (R193, R238). A ferry that runs it ends the run early, and its berth and its GAPs follow then; one that has halted holds neither up (R227). A frame is dropped once. -/
def State.dropFrame (s : State) (st : RegFile) (c seq cont reason : Nat) : State :=
  if s.isDropped c seq cont then s
  else
    let mine := s.fs.occ.filter fun o => o.ctx == c && o.seq == seq && o.cont == cont && !o.mirror
    let s := s.countDrop c
    let s : State := { s with pipe := { s.pipe with progress := s.pipe.progress.map fun p =>
      if p.ctx == c && p.seq == seq && p.cont == cont then { p with dropped := true } else p } }
    match (List.range 32).find? fun i => (s.ferry i).runs c seq cont with
    | none => (mine.foldl (fun s o => s.dropBerth o) s).sendGaps st c seq cont reason (s.maskOf st c)
    | some i =>
      let s := s.modRunners c seq cont fun f => { f with abortReq := true, why := reason }
      if s.f (Reg.FY_STAT i) Fld.FY_STAT_STATE = 6 then
        (mine.foldl (fun s o => s.dropBerth o) s).sendGaps st c seq cont reason (s.ferry i).runMask
      else mine.foldl (fun s o => s.setOcc { o with gone := true }) s

/-- Under DROP = 1: the context's oldest berth that is not locked and not the new frame's own is freed; a frame with unsent lines in it is dropped (R193). -/
def State.dropOldest (s : State) (c seq cont : Nat) : Option State :=
  match (s.berthsOf c).find? fun o => !s.berthLocked o.berth && !o.gone && !(o.seq == seq && o.cont == cont) with
  | none => none
  | some o =>
    if s.berthState o.berth = 3 || o.mirror then some (s.freeBerth o.berth)
    else some (s.dropFrame o.fixed c o.seq o.cont 2)

/-- A claim without a reservation (R192, R193): under DROP = 1 it is retried after each berth that is freed for it, at most `n` times; a claim that fails drops the new frame. -/
def State.claimNew (s : State) (st : RegFile) (c seq cont : Nat) (burst : Bool) (man : List Word) : Nat → State × Bool
  | 0 => (s.dropFrame st c seq cont 1, false)
  | n + 1 =>
    match s.claimFind st c burst with
    | some k => (s.takeBerth (newOcc st c seq cont k false man) 1, true)
    | none =>
      let s := s.setB Reg.FS_STATUS Fld.FS_STATUS_CLAIM_FAIL true
      if st.fld (Reg.CTX_CTL c) Fld.CTX_CTL_DROP = 1 then
        match s.dropOldest c seq cont with
        | none => (s.dropFrame st c seq cont 1, false)
        | some s' => s'.claimNew st c seq cont burst man n
      else (s.dropFrame st c seq cont 1, false)

/-- The frame's own berth, its mirror copy aside. -/
def State.ownBerth (s : State) (c seq cont : Nat) : Option Occupant :=
  s.fs.occ.find? fun o => o.ctx == c && o.seq == seq && o.cont == cont && !o.mirror

/-- A frame claims its berth (R192 to R194): the one it has, the reserved one, or one found. The state, and whether the frame has a berth. -/
def State.claim (s : State) (st : RegFile) (c seq cont : Nat) (burst : Bool) (man : List Word) : State × Bool :=
  match s.ownBerth c seq cont with
  | some o =>
    if s.berthState o.berth = 5 then
      ((s.setOcc { newOcc st c seq cont o.berth false man with relAt := o.relAt, reserved := true }).setF (Reg.FS_BSTATE o.berth)
        Fld.FS_BSTATE_STATE 1, true)
    else (s, true)
  | none => s.claimNew st c seq cont burst man 1025

/-- A mirror copy claims a berth by the same rule, once; where it fails, nothing else happens (R192). -/
def State.claimMirror (s : State) (p : Progress) : State :=
  let s : State := { s with pipe := { s.pipe with progress := s.pipe.progress.map fun q =>
    if q.ctx == p.ctx && q.seq == p.seq && q.cont == p.cont then { q with mirrorTried := true } else q } }
  match s.claimFind p.fixed p.ctx p.burst with
  | some n => s.takeBerth (newOcc p.fixed p.ctx p.seq p.cont n true p.fsMan) 1
  | none => s.setB Reg.FS_STATUS Fld.FS_STATUS_CLAIM_FAIL true

/-! ## Lines into berths -/

/-- The context is mirrored in these settings (R189, R200). -/
def mirrored (st : RegFile) (c : Nat) : Bool := hasBit (st.word (Reg.FS_MIRROR (c / 64))).toNat (c % 64)

/-- Bits of a list of bundles. -/
def bundleBits (bs : List Nat) : Nat := bs.foldl (fun m b => m ||| 2 ^ b) 0

/-- Write a whole line into a berth and add the bundles that shall send it, for which every further line is berthed too (R187, R189). -/
def State.berthLine (s : State) (o : Occupant) (idx : Nat) (codes : List Nat) (bundles : List Nat) : State :=
  let bits := depthBits o.depth
  let s := if o.written.contains idx then s
    else s.setBytes (s.berthBase o.berth + lineOffset o.width bits idx) (packBytes bits codes)
  let o := { o with
    written := if o.written.contains idx then o.written else o.written ++ [idx]
    todo := o.todo ++ bundles.map fun b => (b, idx)
    spill := o.spill ||| bundleBits bundles }
  ((s.setOcc o).berthHeader o false).settleBerth o

/-- Every line of the frame is berthed: a burst frame, or a frame of a chain (R189). -/
def allBerthed (st : RegFile) (c : Nat) (burst : Bool) : Bool := burst || st.on (Reg.CTX_CHAIN c) Fld.CTX_CHAIN_CHAIN_EN

/-- What a frame has still to send on bundle `b` goes into its berth (R189, R190): earlier lines of it or of the context went there, or the landing lacks credit for these packets. -/
def State.spills (s : State) (c seq cont b : Nat) (ps : List Packet) : Bool :=
  (match s.ownBerth c seq cont with | some o => hasBit o.spill b | none => false) || s.backlogged c b || !s.hasCredit b ps

/-- A class waits for credit from now on where packets lack it (R248). -/
def State.stallFor (s : State) (b : Nat) (ps : List Packet) : State :=
  if s.hasCredit b ps then s else s.noteStall b (ps.any fun p => p.cls == 2)

/-- A packet of a frame's framing is left to the unloader: the berth notes it with `f` (R189). -/
def State.owe (s : State) (p : Progress) (b : Nat) (man : List Word) (f : Occupant → Occupant) : State :=
  match s.claim p.fixed p.ctx p.seq p.cont p.burst man with
  | (s, false) => s
  | (s, true) =>
    match s.ownBerth p.ctx p.seq p.cont with
    | none => s
    | some o =>
      let o := if o.chain.isSome then o else { f o with spill := o.spill ||| 2 ^ b }
      ((s.setOcc o).berthHeader o false).settleBerth o

/-- Queue a frame's FS on one bundle, or berth the frame from its FS on (R189, R237). -/
def State.queueFs (s : State) (p : Progress) (b : Nat) : State :=
  let q := fsPacket p.fixed p.ctx p.seq p.cont b p.fsMan
  if s.isDropped p.ctx p.seq p.cont then s
  else if q.cls = 1 then s.toFord b q
  else if allBerthed p.fixed p.ctx p.burst || s.spills p.ctx p.seq p.cont b [q] then
    (s.stallFor b [q]).owe p b p.fsMan fun o => { o with fsOwed := o.fsOwed ||| 2 ^ b }
  else s.toLanding b q

/-- A line's part on one bundle: into the landing, the ford or the frame's berth (R133, R189). -/
def State.placePart (s : State) (p : Progress) (l : Line) (b : Nat) : State :=
  let st := p.fixed
  let part := partOf st l.ctx b
  let ps := linePackets (framePacket st l.ctx l.seq l.cont b 2) (depthBits l.depth) l.idx part.1 ((l.codes.drop part.1).take part.2)
  if s.isDropped l.ctx l.seq l.cont then s
  else if st.fld (Reg.CTX_CTL l.ctx) Fld.CTX_CTL_CLASS = 1 then s.fordLine b ps
  else if allBerthed st l.ctx p.burst || s.spills l.ctx l.seq l.cont b ps then
    match (s.stallFor b ps).claim st l.ctx l.seq l.cont p.burst p.fsMan with
    | (s, false) => s
    | (s, true) =>
      match s.ownBerth l.ctx l.seq l.cont with
      | none => s
      | some o => s.berthLine o l.idx l.codes (if o.chain.isSome then [] else [b])
  else s.toLandings b ps

/-- A mirrored frame's line is also written to its mirror berth, which its first line claims (R189, R192). -/
def State.mirrorLine (s : State) (p : Progress) (l : Line) : State :=
  if mirrored p.fixed l.ctx && p.fixed.fld (Reg.CTX_CTL l.ctx) Fld.CTX_CTL_CLASS != 1 then
    let s := if p.mirrorTried then s else s.claimMirror p
    match s.fs.occ.find? fun o => o.ctx == l.ctx && o.seq == l.seq && o.cont == l.cont && o.mirror && !o.gone with
    | none => s
    | some o => s.berthLine o l.idx l.codes []
  else s

/-! ## The end of a frame on its bundles -/

/-- FE flags from a frame's progress (R236). -/
def Progress.feFlags (p : Progress) : Nat := (if p.cut then 1 else 0) + (if p.short then 2 else 0) + (if p.more then 4 else 0)

/-- Queue a frame's FE on one bundle, or leave it to the unloader after the berthed lines (R189, R238). An FE that lacks credit claims a berth as a line would (DEDUCED, log entry 74). -/
def State.queueFe (s : State) (p : Progress) (man : List Word) (b : Nat) : State :=
  let q := s.fePacket p.fixed p.ctx p.seq p.cont b p.feFlags man
  if s.isDropped p.ctx p.seq p.cont then s
  else if q.cls = 1 then s.toFord b q
  else if allBerthed p.fixed p.ctx p.burst || s.spills p.ctx p.seq p.cont b [q] then
    (s.stallFor b [q]).owe p b man fun o => { o with feOwed := o.feOwed ||| 2 ^ b, feFlags := p.feFlags, man := man }
  else s.toLanding b q

/-- End the berths of a frame: the record's DONE, and the release where nothing waits (R187, R196). -/
def State.endBerths (s : State) (p : Progress) (man : List Word) : State :=
  (s.fs.occ.filter fun o => o.ctx == p.ctx && o.seq == p.seq && o.cont == p.cont && !o.gone).foldl (fun s o =>
    let o := { o with ended := true, man := man, feFlags := p.feFlags, height := p.entered }
    ((s.setOcc o).berthHeader o true).settleBerth o) s

/-- Lines a frame or segment of a context has in all (R188). -/
def Progress.total (st : RegFile) (p : Progress) : Nat := p.strips * outHeight st p.ctx

/-! ## The preview queue -/

/-- Size of the preview queue in bytes (R361). -/
def previewSize : Nat := 4194304

/-- Bytes of the preview queue that are reserved or filled (R361). -/
def State.previewUsed (s : State) : Nat :=
  s.prev.frames.foldl (fun n f => n + f.reserved) 0 + s.prev.queue.foldl (fun n i => n + i.hold) 0

/-- Report the free bytes of the preview queue (R365). -/
def State.showPreview (s : State) : State := s.setF Reg.ETH_PREV_STAT Fld.ETH_PREV_STAT_FREE (previewSize - s.previewUsed)

/-- Source indices that a block of `b` sites at output index `u` takes, on colour and monochrome variants (R171, R362). -/
def blockSites (colour : Bool) (b u : Nat) : List Nat :=
  (List.range b).map fun i => if colour then 2 * b * (u / 2) + u % 2 + 2 * i else b * u + i

/-- Mean of the block at column `u` of the given lines (R362). -/
def blockMean (colour : Bool) (b u : Nat) (rows : List (List Nat)) : Nat :=
  let vs := rows.flatMap fun r => (blockSites colour b u).map fun x => r.getD x 0
  if vs.isEmpty then 0 else roundNat vs.sum vs.length

/-- Most pixels in one preview datagram (R363). -/
def State.previewChunk (s : State) : Nat := if s.flag Reg.ETH_CFG Fld.ETH_CFG_JUMBO then 8192 else 1440

/-- The datagrams of one scaled line in ascending column (R363). -/
def previewItems (base : PreviewItem) (chunk : Nat) (pix : List Nat) : List PreviewItem :=
  (List.range (ceilDiv pix.length chunk)).map fun i =>
    let cs := (pix.drop (i * chunk)).take chunk
    { base with dgram := base.dgram + i, col := base.col + i * chunk, pix := cs.length, bytes := cs.map (BitVec.ofNat 8), hold := cs.length }

/-- A datagram of an admitted frame, still without payload (R363). -/
def PreviewFrame.item (f : PreviewFrame) (kind line : Nat) : PreviewItem :=
  { kind := kind, ctx := f.ctx, seq := f.seq, cont := f.cont, line := line, col := 0, pix := 0, origin := 0, tag := 0, dgram := f.dgram, dst := f.dst, bytes := [], hold := 0 }

/-- A line of an admitted frame is held until its block of lines is whole, then scaled and queued (R362, R364). -/
def State.previewLine (s : State) (l : Line) : State :=
  match s.prev.frames.find? fun f => f.ctx == l.ctx && f.seq == l.seq && f.cont == l.cont with
  | none => s
  | some f =>
    let held := f.held ++ [(l.idx, l.codes)]
    let ready := (List.range f.h).find? fun v =>
      (blockSites f.colour f.scale v).contains l.idx && (blockSites f.colour f.scale v).all fun y => held.any fun p => p.1 == y
    let f' : PreviewFrame := { f with held := held }
    let (f', items) : PreviewFrame × List PreviewItem :=
      match ready with
      | none => (f', [])
      | some v =>
        let ys := blockSites f.colour f.scale v
        let rows := ys.filterMap fun y => (held.find? fun p => p.1 == y).map (·.2)
        let pix := (List.range f.w).map fun u => blockMean f.colour f.scale u rows
        let items := previewItems (f.item 2 v) s.previewChunk pix
        ({ f' with held := held.filter fun p => !ys.contains p.1, lines := f.lines + 1, dgram := f.dgram + items.length, reserved := f.reserved - f.w },
          items)
    let s : State := { s with
      prev := { s.prev with
        frames := s.prev.frames.map fun g => if g.ctx == f.ctx && g.seq == f.seq && g.cont == f.cont then f' else g
        queue := s.prev.queue ++ items } }
    s.showPreview

/-- The end datagram of an admitted frame (R363); a frame that was not cut counts as sent (R127, R361). -/
def State.previewEnd (s : State) (p : Progress) (man : List Word) : State :=
  match s.prev.frames.find? fun f => f.ctx == p.ctx && f.seq == p.seq && f.cont == p.cont with
  | none => s
  | some f =>
    let s : State := { s with
      prev := { s.prev with
        frames := s.prev.frames.filter fun g => !(g.ctx == f.ctx && g.seq == f.seq && g.cont == f.cont)
        queue := s.prev.queue ++ [{ f.item 3 f.lines with bytes := manBytes man, hold := 256 }] } }
    (if p.cut then s else s.addF (Reg.CTX_ST1 p.ctx) Fld.CTX_ST1_SENT 1).showPreview

/-- A context's frame or segment has ended in the pipeline: its FE follows on every bundle, its berths end, and a frame wholly handed to landings counts as sent, which a cut or a dropped one is not (R127, R238). -/
def State.endContext (s : State) (p : Progress) : State :=
  let st := p.fixed
  let s : State := { s with pipe := { s.pipe with progress := s.pipe.progress.map fun q =>
    if q.ctx == p.ctx && q.seq == p.seq && q.cont == p.cont then { q with ended := true } else q } }
  if st.fld (Reg.CTX_DEST p.ctx) Fld.CTX_DEST_KIND = 1 then (s.previewEnd p p.man).endBerths p p.man
  else
    let s := (maskBundles (frameMask st p.ctx)).foldl (fun s b => s.queueFe p p.man b) s
    let berthed := s.fs.occ.any fun o => o.ctx == p.ctx && o.seq == p.seq && o.cont == p.cont && !o.mirror &&
      (o.chain.isSome || !o.todo.isEmpty || o.fsOwed != 0 || o.feOwed != 0)
    let done := !berthed && !p.cut && !s.isDropped p.ctx p.seq p.cont
    let s := s.endBerths p p.man
    if done then s.addF (Reg.CTX_ST1 p.ctx) Fld.CTX_ST1_SENT 1 else s

/-- Remember the manifest that the FS of a frame or segment carries (R151). -/
def State.noteStart (s : State) (seq cont : Nat) (man : List Word) : State :=
  { s with pipe := { s.pipe with progress := s.pipe.progress.map fun p => if p.seq == seq && p.cont == cont then { p with fsMan := man } else p } }

/-- The FS of a frame can be queued: its manifest is complete, and the context's frames before it have ended (R30, R238). -/
def State.fsReady (s : State) (p : Progress) : Bool :=
  p.fsMan != [] && !p.fsDone && p.fixed.fld (Reg.CTX_DEST p.ctx) Fld.CTX_DEST_KIND != 1 &&
    decide ((s.pipe.progress.find? fun q => q.ctx == p.ctx && !q.ended).map (fun q => (q.seq, q.cont)) = some (p.seq, p.cont))

/-- Queue the FS of every frame whose turn has come on its bundles (R238). -/
def State.queueStarts (s : State) : State :=
  (s.pipe.progress.filter s.fsReady).foldl (fun s p =>
    let s : State := { s with pipe := { s.pipe with progress := s.pipe.progress.map fun q =>
      if q.ctx == p.ctx && q.seq == p.seq && q.cont == p.cont then { q with fsDone := true } else q } }
    (maskBundles (frameMask p.fixed p.ctx)).foldl (fun s b => s.queueFs p b) s) s

/-- Remember the completed manifest of a frame or segment (R151). -/
def State.noteManifest (s : State) (seq cont : Nat) (man : List Word) : State :=
  { s with pipe := { s.pipe with progress := s.pipe.progress.map fun p => if p.seq == seq && p.cont == cont then { p with man := man } else p } }

/-- Forget the contexts of frames that have ended and have left the timetable. -/
def State.pruneProgress (s : State) : State :=
  { s with
    pipe := { s.pipe with
      progress := s.pipe.progress.filter fun p => !p.ended || s.tt.frames.any fun f => f.seq == p.seq && f.cont == p.cont } }

/-- A context's frame or segment can end: it is closed, has its manifest and its FS behind it, and has all its lines in a landing or was cut (R158, R238). -/
def Progress.through (p : Progress) : Bool :=
  !p.ended && p.segDone && p.man != [] && (p.fsDone || p.dropped || p.fixed.fld (Reg.CTX_DEST p.ctx) Fld.CTX_DEST_KIND == 1) &&
    (p.cut || decide (p.total p.fixed ≤ p.entered))

/-- The progress of a context's frame or segment. -/
def State.progressOf (s : State) (c seq cont : Nat) : Option Progress :=
  s.pipe.progress.find? fun p => p.ctx == c && p.seq == seq && p.cont == cont

/-- End every context whose frame or segment is through, in order, each followed by the FS that waited for it (R158, R238). -/
def State.endDone (s : State) : State :=
  (s.pipe.progress.foldl (fun s p =>
    match s.progressOf p.ctx p.seq p.cont with
    | some q => if q.through then (s.endContext q).queueStarts else s
    | none => s) s.queueStarts).pruneProgress

end Sys2Proof.Machine
end

