-- ==== Sys2Proof/Machine/Frames.lean ====
section
/-! DEFINITION. A frame's records: its manifest at the gangway, at completion and at the end of a segment (R150 to R153), the manifest ring, the progress of its contexts, the strip-stack segments (R80, R81), and the end of open frames when RUN = 0 is installed (R57, R79). -/

namespace Sys2Proof.Machine

/-- FT_SYNC (R150, R295). -/
def State.ftSync (s : State) : Bool := s.flag Reg.FB_STATUS Fld.FB_STATUS_ROOT || s.f Reg.FB_TSTAT Fld.FB_TSTAT_STATE == 1

/-- The manifest fields written at a frame's gangway (R151). `pace` and `form` are those that govern the frame: for a burst frame, the burst's (R78). -/
def State.manGangway (s : State) (st : RegFile) (f : Frame) (pace form : Nat) (tstep : Bool) : List Word :=
  manSets manEmpty
    [ (Man.SEQ, f.seq), (Man.GEN, s.f Reg.CFG_GW_GEN Fld.CFG_GW_GEN_GEN), (Man.EPOCH, s.f Reg.CAL_EPOCH Fld.CAL_EPOCH_EPOCH),
      (Man.TSTEP, if tstep then 1 else 0), (Man.BURST, if f.burst then 1 else 0), (Man.PACE, pace), (Man.STORE, storeMode st),
      (Man.FORM, form), (Man.STAGGER_DESC, st.fld Reg.TT_MODE Fld.TT_MODE_STAGGER_DESC), (Man.DEPTH_ACT, f.depth),
      (Man.GAIN_A, st.fld Reg.TT_PIX_CFG Fld.TT_PIX_CFG_GAIN_A), (Man.GAIN_B, st.fld Reg.TT_PIX_CFG Fld.TT_PIX_CFG_GAIN_B),
      (Man.FABADDR, s.f Reg.FB_STATUS Fld.FB_STATUS_ADDR), (Man.DEVID, (s.reg Reg.ID_DEVID).toNat),
      (Man.SCHED_START, (s.fabAt f.sched).toNat),
      (Man.TRIG_TIME, match f.trig with | some a => (s.fabAt a).toNat | none => 0),
      (Man.EXP_A, expA st / 8), (Man.EXP_B, if storeMode st = 2 then expB st / 8 else 0), (Man.BURST_IDX, f.burstIdx),
      (Man.CLKQ, (s.reg Reg.CK_STATUS).toNat % 2 ^ 14), (Man.TC_NS, f.shot.tc), (Man.RMAX, f.rmax),
      (Man.ACTIVE, (activeCtxs st).length), (Man.MAP_SRC, s.f Reg.TT_MAP_SRC Fld.TT_MAP_SRC_SEQ),
      (Man.FT_SYNC, if s.ftSync then 1 else 0), (Man.PTP_LOCK, s.f Reg.FB_TSTAT Fld.FB_TSTAT_PTP_LOCK),
      (Man.SLEW, if s.f Reg.FB_TSTAT Fld.FB_TSTAT_STATE = 2 then 1 else 0) ]

/-- Contexts whose DROPPED changed since the previous manifest's completion, in ascending order, with the count now (R152). -/
def State.dropChanges (s : State) : List (Nat × Nat) :=
  (s.regs.filterMap fun p =>
    if 0x800000 ≤ p.1 ∧ p.1 < 0x8C0000 ∧ p.1 % 256 = 0x88 then
      let c := p.1 % 0x800000 / 256
      let d := Fld.CTX_ST1_DROPPED.get p.2
      if d = s.gw.lastDrops.get c then none else some (c, d)
    else none)

/-- Sum of CTX_ST1.DROPPED over all contexts (R150). -/
def State.dropTotal (s : State) : Nat :=
  s.regs.foldl (fun n p => if 0x800000 ≤ p.1 ∧ p.1 < 0x8C0000 ∧ p.1 % 256 = 0x88 then n + Fld.CTX_ST1_DROPPED.get p.2 else n) 0

/-- The drop entries of a manifest, 20 at most (R150, R152). -/
def manDrops (m : List Word) (l : List (Nat × Nat)) : List Word :=
  ((l.take 20).zip (List.range 20)).foldl (fun m p =>
    manSet m ⟨13 + p.2 / 2, ⟨32 * (p.2 % 2), 32⟩⟩ (p.1.1 + p.1.2 % 2 ^ 20 * 2 ^ 12)) m

/-- TEMP_STALE (R105). -/
def State.tempStale (s : State) : Bool :=
  !s.flag (Reg.HK_RES 0) Fld.HK_RES_VALID || decide (s.hk.res0At + 2500000 < s.clock.now)

/-- The manifest fields written at completion (R151): start, end, and the rest of the list. -/
def State.manComplete (s : State) (m : List Word) (start stop : Nat) (late bound clamp : Bool) (subs : Nat) : List Word :=
  let l := s.dropChanges
  manDrops (manSets m
    [ (Man.EXP_START, (s.fabAt start).toNat), (Man.EXP_END, (s.fabAt stop).toNat), (Man.LATE, if late then 1 else 0),
      (Man.TRIG_BOUNDARY, if bound then 1 else 0), (Man.MAP_CLAMP, if clamp then 1 else 0), (Man.SUBEXP, subs),
      (Man.TEMP, s.f (Reg.HK_RES 0) Fld.HK_RES_VALUE), (Man.TEMP_STALE, if s.tempStale then 1 else 0),
      (Man.DROP_TOTAL, s.dropTotal), (Man.DROP_N, min 20 l.length), (Man.DROP_OVF, if 20 < l.length then 1 else 0) ]) l

/-- Remember the drop counts that a completed manifest has reported (R152). -/
def State.markDrops (s : State) : State :=
  { s with gw := { s.gw with lastDrops := s.dropChanges.foldl (fun m p => m.put p.1 p.2) s.gw.lastDrops } }

/-- Enter a manifest in the ring and then increment COUNT (R153). -/
def State.ringEntry (s : State) (m : List Word) : State :=
  let k := s.f Reg.CFG_MAN_HEAD Fld.CFG_MAN_HEAD_COUNT % 64
  (s.setBlock (Reg.CFG_MAN k 0) ((List.range 32).map fun w => m.getD w 0)).addF Reg.CFG_MAN_HEAD Fld.CFG_MAN_HEAD_COUNT 1

/-- Start the progress records of the active contexts of a frame or segment (R127, R134, R139). -/
def State.openProgress (s : State) (seq cont bank strips : Nat) (segDone burst : Bool) : State :=
  let st := s.bank bank
  let new := (activeCtxs st).map fun c =>
    { ctx := c, seq := seq, cont := cont, bank := bank, fixed := ctxFixed st c, burst := burst, strips := strips, segDone := segDone : Progress }
  let acc := (activeCtxs st).map fun c => { ctx := c, seq := seq, cont := cont : StatAcc }
  { s with pipe := { s.pipe with progress := s.pipe.progress ++ new, stats := s.pipe.stats ++ acc } }

/-- CTX_ST0 of the active contexts at a frame's gangway (R127). -/
def State.noteFrameUse (s : State) (st : RegFile) (seq : Nat) : State :=
  (activeCtxs st).foldl (fun s c =>
    (s.setF (Reg.CTX_ST0 c) Fld.CTX_ST0_LAST_SEQ seq).setF (Reg.CTX_ST0 c) Fld.CTX_ST0_GEN (s.f Reg.CFG_GW_GEN Fld.CFG_GW_GEN_GEN)) s

/-- CTX_ST0.IN_USE after an installation (R127), and the ferries that a chain is installed on afresh (R223, R224). -/
def State.noteInUse (s : State) (old new : RegFile) : State :=
  let s := (activeCtxs old).foldl (fun s c => s.setF (Reg.CTX_ST0 c) Fld.CTX_ST0_IN_USE 0) s
  let s := (activeCtxs new).foldl (fun s c => s.setF (Reg.CTX_ST0 c) Fld.CTX_ST0_IN_USE 1) s
  let was := chainFerries old
  let is' := chainFerries new
  let s := (was.filter fun f => !is'.contains f).foldl (fun s f => s.setB (Reg.FY_STAT f) Fld.FY_STAT_CHAIN false) s
  (is'.filter fun f => !was.contains f).foldl (fun s f =>
    ({ s with fy := modifyAt (fun y => { y with lastHead := none }) f s.fy } : State).setB (Reg.FY_STAT f) Fld.FY_STAT_CHAIN true) s

/-! ## Strip-stack segments -/

/-- Give a closed segment its final manifest, its ring entry, and its frame-end packets where its lines are through (R81, R151, R153). -/
def State.finishSegment (s : State) (g : StripFrame) : State :=
  let old := match s.tt.frames.find? fun f => f.seq == g.frame.seq && f.cont == g.cont with
    | some f => f.man
    | none => g.frame.man
  let m := manSets old
    [ (Man.CONT, g.cont), (Man.EXP_END, (s.fabAt g.last).toNat), (Man.STRIPS, g.strips), (Man.SHORT, if g.short then 1 else 0),
      (Man.MORE, if g.more then 1 else 0) ]
  let s : State := { s with
    tt := { s.tt with
      closing := s.tt.closing.filter fun x => !(x.frame.seq == g.frame.seq && x.cont == g.cont)
      frames := s.tt.frames.map fun f => if f.seq == g.frame.seq && f.cont == g.cont then { f with man := m, complete := true } else f } }
  let s := (s.ringEntry m).ferryEvent 7 s.tick
  (s.noteManifest g.frame.seq g.cont m).endDone

/-- Log the end of a frame, or of a segment with its last strip, at the end of a pass (R79, R83). -/
def State.frameEnd (s : State) (p : Pass) : State :=
  let subs := match s.tt.frames.find? fun f => f.seq == p.seq && f.cont == p.cont with | some f => f.subs | none => 1
  s.log (s.fabAt (p.began.getD 0 + p.shot.tc)) .frameEnd p.seq 0 subs false

/-- Close a segment: SHORT and MORE are fixed; its manifest is final at once where its last exposure is complete, else at that completion (R81, R151). -/
def State.closeSegment (s : State) (g : StripFrame) (short more : Bool) : State :=
  let known := s.tt.frames.any fun f => f.seq == g.frame.seq && f.cont == g.cont && f.strips == g.strips
  let g : StripFrame := { g with short := short, more := more, waiting := false }
  let s : State := { s with
    pipe := { s.pipe with
      progress := s.pipe.progress.map fun p =>
        if p.seq == g.frame.seq && p.cont == g.cont then { p with segDone := true, strips := g.strips, short := short, more := more } else p }
    tt := { s.tt with
      closing := s.tt.closing ++ [g]
      frames := s.tt.frames.map fun f => if f.seq == g.frame.seq && f.cont == g.cont then { f with strips := g.strips } else f } }
  let s := match s.tt.passes.find? fun p => p.seq == g.frame.seq && p.cont == g.cont && p.strip + 1 == g.strips && p.ended with
    | some p => if known then s else s.frameEnd p
    | none => s
  if g.last + 128 ≤ s.clock.tt then s.finishSegment g else s

/-- End the open strip-stack frame (R57, R80): its segment closes and nothing waits any more. -/
def State.endStrips (s : State) (short more : Bool) : State :=
  match s.tt.seg with
  | none => s
  | some g => let s : State := { s with tt := { s.tt with seg := none } }; s.closeSegment g short more

/-! ## Open accumulations -/

/-- A frame's shot takes a new end (R79): the frame, its pass and the notice of its exposure end follow. -/
def State.endShot (s : State) (f : Frame) (shot : Shot) : State :=
  { s with
    tt := { s.tt with
      frames := s.tt.frames.map fun x => if x.seq == f.seq && x.cont == f.cont then { x with shot := shot, subDue := [] } else x
      passes := s.tt.passes.map fun p => if p.seq == f.seq && p.cont == f.cont then { p with shot := shot } else p }
    pio := { s.pio with events := s.pio.events.filter fun x => !(x.engine.isNone && x.index == 1 && x.at' == eventCycle f.shot.e) } }

/-- Close the open accumulation frame at tick `c` with the sub-exposures it holds (R57, R79). -/
def State.closeAccum (s : State) (c : Nat) : State :=
  match s.tt.frames.find? fun f => f.started && f.shot.isOpen with
  | none => s
  | some f =>
    let shot := { f.shot with e := f.lastSub, closed := c, isOpen := false }
    let s := (s.endShot f shot).pioEvent 1 f.lastSub
    { s with tt := { s.tt with chain := s.tt.chain.add shot } }

/-- A timed accumulation of more than one sub-exposure is under way (R79). -/
def State.timedOpen (s : State) (f : Frame) : Bool :=
  f.started && !f.complete && !f.shot.isOpen && !f.burst && decide (s.clock.tt < f.shot.e) &&
    (s.bank f.bank).fld Reg.TT_MODE Fld.TT_MODE_FORM == 2 && !(s.bank f.bank).on Reg.TT_ACCUM Fld.TT_ACCUM_SUB_TRIG

/-- Sub-exposures of a timed accumulation that have started by tick `c` (R57). -/
def heldBy (st : RegFile) (f : Frame) (c : Nat) : Nat :=
  min (st.fld Reg.TT_ACCUM Fld.TT_ACCUM_COUNT + 1)
    (max f.subs ((c - f.shot.s) / (8 * st.fld Reg.TT_ACCUM Fld.TT_ACCUM_SUB_PERIOD) + 1))

/-- A timed accumulation that is open when RUN = 0 is installed at tick `c` ends with the sub-exposures started by then (R57); its conversion follows from the new end (R51). -/
def State.cutAccum (s : State) (c : Nat) : State :=
  match s.tt.frames.find? s.timedOpen with
  | none => s
  | some f =>
    let st := s.bank f.bank
    let e := f.shot.s + (heldBy st f c - 1) * (8 * st.fld Reg.TT_ACCUM Fld.TT_ACCUM_SUB_PERIOD) + expA st
    if e < f.shot.e then
      let s := (s.endShot f { f.shot with e := e }).pioEvent 1 e
      { s with tt := { s.tt with chain := { s.tt.chain with e := e, k := max (e + 128) s.tt.chain.kPrev + f.shot.tc } } }
    else s

/-- RUN = 0 is installed at tick `c` (R57, R79): an open accumulation ends with the sub-exposures it holds; one that is past its gangway and has not started takes no sub-trigger any more and holds its first sub-exposure only. -/
def State.endAccum (s : State) (c : Nat) : State :=
  let s := (s.closeAccum c).cutAccum c
  { s with
    tt := { s.tt with
      frames := s.tt.frames.map fun f =>
        if f.gated && !f.started && f.shot.isOpen then { f with shot := { f.shot with isOpen := false }, subDue := [] } else f } }

end Sys2Proof.Machine
end

