-- ==== Sys2Proof/Machine/Gangway.lean ====
section
/-! DEFINITION. The gangway (R54, R68, R135, R142 to R149): stamped shadow writes and commits, the installation, and what comes about at one: the calibration epoch (R121), tap restores (R124), derived maps (R414), a fabric-time step (R58, R294), the start of a grid (R57), encoder pacing (R65). The commands SHADOW_WRITE, COMMIT, FORCE, GANGWAY_SWAP, IDLE_GANGWAY, EXPOSURE_MAP_WRITE and CAL_TAP_WRITE. -/

namespace Sys2Proof.Machine

/-! ## Writes to the shadow -/

/-- An address of a CAL_TAP word (R126). -/
def isTap (a : Nat) : Bool := decide (0x220000 ≤ a) && decide (a < 0x220000 + 0x40 * numConv) && decide (a % 0x40 < 40)

/-- The slice number of a tap word's address: 5 × converter + slice (R126). -/
def tapSlice (a : Nat) : Nat := 5 * (a % 0x220000 / 0x40) + a % 0x40 / 8

/-- Address of the tap word of slice number `n`. -/
def tapAddr (n : Nat) : Nat := Reg.CAL_TAP (n / 5) (n % 5)

/-- An address of the shadow exposure map (R74). -/
def isMap (a : Nat) : Bool := decide (0x80000 ≤ a) && decide (a < 0x90000)

/-- The word of a register after a write of `v`: stored bits take the new value, a 1 clears a W1C bit, all others keep theirs (R10, R12). -/
def writtenWord (d : RegDef) (old v : Word) : Word :=
  let keep : Word := BitVec.ofNat 64 d.storeMask
  let clr : Word := BitVec.ofNat 64 d.w1c
  (v &&& keep) ||| ((old &&& ~~~keep) &&& ~~~(v &&& clr))

/-- Store a write in the shadow under the stamp `x` (R142). -/
def State.shadowAt (s : State) (x a : Nat) (v : Word) : State :=
  match regAt a with
  | none => s
  | some d =>
    let w := writtenWord d (s.reg a) v
    { (s.setReg a w) with gw := { s.gw with writes := s.gw.writes ++ [⟨x, a, w⟩] } }

/-- Store a write in the shadow under its stamp (R142). -/
def State.shadowWrite (s : State) (a : Nat) (v : Word) : State := s.shadowAt s.tick a v

/-- Automatic derivation is on in the settings in use or in the shadow (R77). -/
def State.autoOn (s : State) : Bool :=
  s.u Reg.TT_MAP_CFG Fld.TT_MAP_CFG_AUTO == 1 || s.flag Reg.TT_MAP_CFG Fld.TT_MAP_CFG_AUTO

/-- A write to the shadow map (R74, R77). -/
def State.mapWrite (s : State) (a : Nat) (v : Word) : State :=
  if s.autoOn then s.setB Reg.TT_STATUS Fld.TT_STATUS_MAP_WR_IGNORED true else s.shadowWrite a v

/-- A write to a CAL_TAP word: its write fields, PEND and RESTORE_PEND (R123). -/
def State.tapWrite (s : State) (a : Nat) (v : Word) : State :=
  ((s.shadowWrite a v).setB (tapAddr (tapSlice a)) Fld.CAL_TAP_PEND true).setB Reg.CAL_STATUS Fld.CAL_STATUS_RESTORE_PEND true

/-- SHADOW_WRITE (R142): a write to an RWS register, the exposure map and the tap words included. -/
def State.writeShadow (s : State) (a : Nat) (v : Word) : State :=
  if isMap a then s.mapWrite a v else if isTap a then s.tapWrite a v else s.shadowWrite a v

/-! ## Commits -/

/-- A stamp within one tick of the boundary (R24). -/
def nearBoundary (x y : Nat) : Bool := decide (x ≤ y + 2) && decide (y ≤ x + 2)

/-- A stamp within one tick of the close of the gangway last past (R24): a commit on a close may be stamped after that gangway has run. -/
def State.nearClose (s : State) (x : Nat) : Bool :=
  match s.gw.lastClose with
  | some y => nearBoundary x y
  | none => false

/-- Add a host commit (R142, R143). -/
def State.addCommit (s : State) (src : Src) (force : Bool) : State :=
  let c : Commit := { tick := s.tick, stamp := s.stamp, src := src, force := force, bound := s.nearClose s.tick }
  (({ s with gw := { s.gw with commits := s.gw.commits ++ [c] } } : State).setReg Reg.CFG_GW_CTIME s.stamp).setB
    Reg.CFG_GW_STATUS Fld.CFG_GW_STATUS_PENDING true

/-- FORCE requests an idle gangway: in triggered, encoder and fabric pacing with RUN = 1, or in free-run while an accumulation with sub-triggers is open (R146). -/
def State.forceActs (s : State) : Bool :=
  s.u Reg.TT_MODE Fld.TT_MODE_RUN == 1 && (s.u Reg.TT_MODE Fld.TT_MODE_PACE != 0 || s.openShot)

/-! ## The installation -/

/-- What a gangway with this close would install (R143, R144, R414). -/
structure GwPlan where
  host : List Commit
  derived : Option DerivedMap
  next : RegFile

/-- Apply shadow writes stamped before the close; tap words are not settings of a bank. -/
def applyWrites (close : Nat) (st : RegFile) (ws : List ShadowWrite) : RegFile :=
  ws.foldl (fun st w => if w.tick < close && !isTap w.addr then Sparse.put resetWord st w.addr w.val else st) st

/-- The plan of a gangway whose frame has, or would next have, sequence number `seq`. -/
def State.plan (s : State) (close seq : Nat) : GwPlan :=
  let host := s.gw.commits.filter fun c => decide (c.tick < close)
  let st := if host.isEmpty then s.use else applyWrites close s.use s.gw.writes
  let auto := st.on Reg.TT_MAP_CFG Fld.TT_MAP_CFG_AUTO
  match s.gw.derived with
  | some d =>
    if d.tick < close && serialGe 32 seq d.limit && auto then
      ⟨host, some d, Sparse.putAll resetWord st d.codes⟩
    else ⟨host, none, st⟩
  | none => ⟨host, none, st⟩

/-- The refusal of a plan: code, and the context under R135. A plan without a host commit installs a derived map only and is not judged. -/
def GwPlan.refusal (p : GwPlan) : Option (Nat × Option Nat) :=
  if p.host.isEmpty then none
  else
    match refuse54 p.next with
    | some c => some (c, none)
    | none => (refuse135 p.next).map fun x => (x.2, some x.1)

/-- The plan that a gangway with this close and number comes to (R54, R135, R414): where its host commits would be refused, a derived map that is due is installed alone. -/
def State.judged (s : State) (close seq : Nat) : GwPlan :=
  let p := s.plan close seq
  if p.refusal.isSome then
    ({ s with gw := { s.gw with commits := s.gw.commits.filter fun c => decide (close ≤ c.tick) } } : State).plan close seq
  else p

/-- Log the commits that a gangway installs or refuses (R83). -/
def State.logCommits (s : State) (l : List Commit) (close seq code : Nat) (idle : Bool) : State :=
  l.foldl (fun s c =>
    s.log c.stamp .commit seq (srcCode c.src) (code + (if idle then 16 else 0)) (c.bound || nearBoundary c.tick close)) s

/-- Refuse the commits of a gangway whole (R54, R135). -/
def State.refuseCommits (s : State) (p : GwPlan) (close seq code : Nat) (ctx : Option Nat) (idle : Bool) : State :=
  let s := s.setB Reg.TT_STATUS Fld.TT_STATUS_COMMIT_REFUSED true
  let s := s.setF Reg.TT_STATUS Fld.TT_STATUS_REFUSE_CODE code
  let s := match ctx with
    | none => s.setB Reg.CFG_GW_STATUS Fld.CFG_GW_STATUS_REFUSE_BY_CTX false
    | some c => (s.setF Reg.CFG_GW_STATUS Fld.CFG_GW_STATUS_REFUSE_CTX c).setB Reg.CFG_GW_STATUS Fld.CFG_GW_STATUS_REFUSE_BY_CTX true
  let s := s.logCommits p.host close seq code idle
  let s : State := { s with gw := { s.gw with commits := s.gw.commits.filter fun c => decide (close ≤ c.tick) } }
  s.setB Reg.CFG_GW_STATUS Fld.CFG_GW_STATUS_PENDING (!s.gw.commits.isEmpty)

/-- Applied taps equal the targets (R126). -/
def tapConverged (w : Word) : Bool :=
  Fld.CAL_TAP_OFS.get w == Fld.CAL_TAP_OFS_T.get w && Fld.CAL_TAP_GAIN.get w == Fld.CAL_TAP_GAIN_T.get w &&
    Fld.CAL_TAP_DLY.get w == Fld.CAL_TAP_DLY_T.get w

/-- Write a tap word's applied, target and flag bits and keep CONV current. -/
def State.setTap (s : State) (a : Nat) (w : Word) : State := s.setReg a (Fld.CAL_TAP_CONV.set w (if tapConverged w then 1 else 0))

/-- Every slice of converter `i` is acquired. -/
def State.convAcquired (s : State) (i : Nat) : Bool := (List.range 5).all fun k => s.flag (Reg.CAL_TAP i k) Fld.CAL_TAP_ACQ

/-- Mark a slice acquired and keep CAL_REC.ACQ and CAL_STATUS.ACQ_DONE current (R117). -/
def State.acquire (s : State) (n : Nat) : State :=
  let s := s.setB (tapAddr n) Fld.CAL_TAP_ACQ true
  let s := s.setB (Reg.CAL_REC (n / 5)) Fld.CAL_REC_ACQ (s.convAcquired (n / 5))
  if !s.flag Reg.CAL_STATUS Fld.CAL_STATUS_ACQ_DONE && s.flag (Reg.CAL_REC (n / 5)) Fld.CAL_REC_ACQ &&
      (List.range numConv).all (fun i => s.flag (Reg.CAL_REC i) Fld.CAL_REC_ACQ) then
    let s := s.setB Reg.CAL_STATUS Fld.CAL_STATUS_ACQ_DONE true
    { s with gw := { s.gw with acqEvent := true } }
  else s

/-- ALL_CONV (R126): every slice is acquired and its applied taps equal its targets. -/
def State.allConverged (s : State) : Bool :=
  (List.range numConv).all fun i => (List.range 5).all fun k =>
    s.flag (Reg.CAL_TAP i k) Fld.CAL_TAP_ACQ && s.flag (Reg.CAL_TAP i k) Fld.CAL_TAP_CONV

/-- The targets of slice number `n` taken from its write fields (R124). -/
def State.takeTargets (s : State) (n : Nat) (v : Word) : State :=
  let a := tapAddr n
  let w := s.reg a
  let w := Fld.CAL_TAP_OFS_T.set w (Fld.CAL_TAP_OFS_W.get v)
  let w := Fld.CAL_TAP_GAIN_T.set w (Fld.CAL_TAP_GAIN_W.get v)
  s.setTap a (Fld.CAL_TAP_DLY_T.set w (Fld.CAL_TAP_DLY_W.get v))

/-! ## The column-step grid (R86) -/

/-- The first column-step boundary of position 0 after instant `x`, both in 1/16 ns; a boundary on `x` itself has passed (DEDUCED, log entry 11). -/
def Converters.boundary (c : Converters) (x : Nat) : Nat :=
  if x < c.gridAt then c.gridAt else c.gridAt + ((x - c.gridAt) / c.gridStep + 1) * c.gridStep

/-- The three taps of a slice in the order OFS, GAIN, DLY (R107). -/
def tapsOf (w : Word) : Triple := ⟨Fld.CAL_TAP_OFS.sget w, Fld.CAL_TAP_GAIN.sget w, Fld.CAL_TAP_DLY.get w⟩

/-- The targets of a slice. -/
def targetsOf (w : Word) : Triple := ⟨Fld.CAL_TAP_OFS_T.sget w, Fld.CAL_TAP_GAIN_T.sget w, Fld.CAL_TAP_DLY_T.get w⟩

/-- A tap word with other applied taps. -/
def withTaps (w : Word) (t : Triple) : Word :=
  Fld.CAL_TAP_DLY.set (Fld.CAL_TAP_GAIN.set (Fld.CAL_TAP_OFS.set w (Fld.CAL_TAP_OFS.enc t.ofs)) (Fld.CAL_TAP_GAIN.enc t.gain))
    (Fld.CAL_TAP_DLY.enc t.dly)

/-- A tap word with other targets. -/
def withTargets (w : Word) (t : Triple) : Word :=
  Fld.CAL_TAP_DLY_T.set (Fld.CAL_TAP_GAIN_T.set (Fld.CAL_TAP_OFS_T.set w (Fld.CAL_TAP_OFS_T.enc t.ofs)) (Fld.CAL_TAP_GAIN_T.enc t.gain))
    (Fld.CAL_TAP_DLY_T.enc t.dly)

/-- One step from `a` toward `b`. -/
def toward (a b : Int) : Int := if a < b then a + 1 else if b < a then a - 1 else a

/-- One tap by one step: the largest difference first, ties in the order OFS, GAIN, DLY (R115). -/
def stepTaps (a t : Triple) : Triple :=
  let o := (t.ofs - a.ofs).natAbs
  let g := (t.gain - a.gain).natAbs
  let d := (t.dly - a.dly).natAbs
  if g ≤ o ∧ d ≤ o then { a with ofs := toward a.ofs t.ofs }
  else if d ≤ g then { a with gain := toward a.gain t.gain }
  else { a with dly := toward a.dly t.dly }

/-- The step of slice number `n` (R115, R117, R124): its targets in full where an acquisition or an immediate restore waits for it, else one step. -/
def State.stepSlice (s : State) (n : Nat) : State :=
  let a := tapAddr n
  let w := s.reg a
  if s.cal.full.contains n then
    ({ (s.setTap a (withTaps w (targetsOf w))) with cal := { s.cal with full := s.cal.full.filter fun m => !(m == n) } } : State).acquire n
  else s.setTap a (withTaps w (stepTaps (tapsOf w) (targetsOf w)))

/-- Take the held steps of the slices that satisfy `p` (R116). -/
def State.releaseSteps (s : State) (p : Nat → Bool) : State :=
  let due := s.cal.heldStep.filter p
  due.foldl (fun s n => s.stepSlice n) { s with cal := { s.cal with heldStep := s.cal.heldStep.filter fun n => !p n } }

/-- The calibration cycles of the bands that satisfy `p` start anew at `x`, in 1/16 ns (R110, R111, R118); time that an injection costs counts from there. -/
def State.restartBands (s : State) (p : Nat → Bool) (x : Nat) : State :=
  { s with
    cc := { s.cc with inj := s.cc.inj.map fun j => if p j.band && j.startAt.isNone then { j with brk := max j.brk x } else j }
    cal := { s.cal with
      cycles := s.cal.cycles.filter fun c => !p (convBand c.conv)
      bands := (s.cal.bands.zip (List.range 32)).map fun e => if p e.2 then { e.1 with start := x, lostAt := e.1.lost } else e.1 } }

/-- Every batch under way is discarded and starts again at `x`, in 1/16 ns (R111). -/
def State.rerunBatches (s : State) (x : Nat) : State :=
  { s with
    cc := { s.cc with inj := s.cc.inj.map fun j => if j.startAt.isNone then { j with brk := max j.brk x } else j }
    cal := { s.cal with
      cycles := s.cal.cycles.map fun c => { c with startAt := x, lostAt := (s.cal.bands.getD (convBand c.conv) {}).lost }
      bands := s.cal.bands.map fun b => { b with start := x, lostAt := b.lost } } }

/-- The calibration of band `b` (R110). -/
def State.calBand (s : State) (b : Nat) : CalBand := s.cal.bands.getD b {}

/-- A calibration cycle of converter `i` that starts at `x`, in 1/16 ns (R110). -/
def State.newCycle (s : State) (i x : Nat) : CalCycle :=
  { conv := i, batch := 0, m0 := 0, cur := ⟨0, 0, 0⟩, first := ⟨0, 0, 0⟩, clamped := false, startAt := x, lostAt := (s.calBand (convBand i)).lost }

/-- Give converter `i` a calibration cycle in place of the one it has. -/
def State.setCycle (s : State) (c : CalCycle) : State :=
  { s with cal := { s.cal with cycles := s.cal.cycles.filter (fun d => !(d.conv == c.conv)) ++ [c] } }

/-- Restore one tap word from a written value at tick `x` (R124): gradually, its targets move now, and a step in full that waited for it does no more; immediately, targets and applied taps wait for the step instant of the frame's pass. On a spare the cycle under way is discarded, which ends its batch and takes a step that the batch held back first (R116). -/
def State.restoreTap (s : State) (imm : Bool) (seq x : Nat) (a : Nat) (v : Word) : State :=
  let n := tapSlice a
  let s := s.releaseSteps fun m => m == n
  let s := (if imm then s else s.takeTargets n v).acquire n
  let s : State := { s with
    cal := { s.cal with
      imm := s.cal.imm.filter (fun x => !(x.slice == n)) ++ (if imm then [⟨n, seq, v⟩] else [])
      full := if imm then s.cal.full else s.cal.full.filter fun m => !(m == n) } }
  if s.spareOf (n / 5) = n % 5 then s.setCycle (s.newCycle (n / 5) (s.cc.boundary (16 * x))) else s

/-- Restore the tap words written before the close, the latest write of each, at tick `x` (R123, R124); the state and whether any was restored. -/
def State.restoreTaps (s : State) (close seq x : Nat) (imm : Bool) : State × Bool :=
  let ws := s.gw.writes.filter fun w => isTap w.addr && decide (w.tick < close)
  let s' := ws.foldl (fun s w => s.restoreTap imm seq x w.addr w.val) s
  let left := s.gw.writes.filter fun w => isTap w.addr && decide (close ≤ w.tick)
  let s' := ws.foldl (fun s w => s.setB (tapAddr (tapSlice w.addr)) Fld.CAL_TAP_PEND (left.any fun x => x.addr == w.addr)) s'
  (s'.setB Reg.CAL_STATUS Fld.CAL_STATUS_RESTORE_PEND (!left.isEmpty), !ws.isEmpty)

/-- Advance the calibration epoch at a gangway (R121). -/
def State.moveEpoch (s : State) (seq : Nat) (acq restore enable : Bool) : State :=
  if acq || restore || enable then
    let w := s.reg Reg.CAL_EPOCH
    let w := Fld.CAL_EPOCH_EPOCH.set w (Fld.CAL_EPOCH_EPOCH.get w + 1)
    let w := Fld.CAL_EPOCH_SEQ.set w seq
    let w := Fld.CAL_EPOCH_ACQ.set w (if acq then 1 else 0)
    let w := Fld.CAL_EPOCH_RESTORE.set w (if restore then 1 else 0)
    s.setReg Reg.CAL_EPOCH (Fld.CAL_EPOCH_ENABLE.set w (if enable then 1 else 0))
  else s

/-- The first grid instant at or after `x` (R56, R57): on an anchored grid, the first instant at which fabric time reads TT_ANCHOR plus a multiple of the period. -/
def State.gridFrom (s : State) (st : RegFile) (x : Nat) : Nat :=
  if st.on Reg.TT_MODE Fld.TT_MODE_ANCHOR_EN then
    let period := 8 * st.fld Reg.TT_PERIOD Fld.TT_PERIOD_PERIOD
    if period = 0 then x
    else
      let ahead := centred 80 ((((st.word Reg.TT_ANCHOR).toNat * 65536 : Nat) : Int) - (s.fabFine x : Int)) % ((period * 65536 : Nat) : Int)
      x + ceilDiv ahead.toNat 65536
  else x

/-- A grid instant as fabric time has it now (R56): an anchored grid follows fabric time through slews, so the instant nearest to the one reckoned before is found again. -/
def State.gridNow (s : State) (g : Nat) : Nat :=
  if s.use.on Reg.TT_MODE Fld.TT_MODE_ANCHOR_EN then s.gridFrom s.use (g - 4 * s.u Reg.TT_PERIOD Fld.TT_PERIOD_PERIOD) else g

/-- An installation gives the free-run grid another anchor (R56): ANCHOR_EN rises, or an anchored grid takes another TT_ANCHOR or TT_PERIOD. -/
def gridMoved (old new : RegFile) : Bool :=
  new.on Reg.TT_MODE Fld.TT_MODE_ANCHOR_EN &&
    (!old.on Reg.TT_MODE Fld.TT_MODE_ANCHOR_EN || old.word Reg.TT_ANCHOR != new.word Reg.TT_ANCHOR ||
      old.word Reg.TT_PERIOD != new.word Reg.TT_PERIOD)

/-- Apply a waiting fabric-time step (R58, R64, R294): time moves, the step is counted and logged, an anchored grid is recomputed, and an overtaken scheduled trigger or armed sync goes to the next tick (R64, R322). The state and whether there was one. -/
def State.applyStep (s : State) (seq : Nat) : State × Bool :=
  match s.clock.step with
  | none => (s, false)
  | some d =>
    let s : State := { s with
      clock := { s.clock with
        off := s.clock.off + d, step := none, past := s.clock.past ++ [⟨s.clock.tt, s.clock.tt, s.clock.off, s.clock.off + d⟩] } }
    let s := (s.satF Reg.FB_TSTAT Fld.FB_TSTAT_STEPS 1).ptpUnlock
    let s := s.log s.stamp .timeStep seq 0 0 false
    let s : State := { s with
      tt := { s.tt with
        grid := s.tt.grid.map fun g => if s.u Reg.TT_MODE Fld.TT_MODE_ANCHOR_EN = 1 then s.gridFrom s.use (s.tick + 24008) else g } }
    let s := if s.flag Reg.TT_SCHED_CTL Fld.TT_SCHED_CTL_ARM && notAfter (s.reg Reg.TT_SCHED_TIME) s.stamp then
      ({ s with tt := { s.tt with schedFrom := s.tick + 2 } } : State).setB Reg.TT_STATUS Fld.TT_STATUS_SCHED_LATE true else s
    let s : State := if s.flag Reg.CK_SYNC_TIME Fld.CK_SYNC_TIME_ARMED && notAfter (s.reg Reg.CK_SYNC_AT) s.stamp then
      { s with ck := { s.ck with armFrom := s.tick + 2 } } else s
    (s, true)

/-- PITCH with 0 acting as 1, in the forward direction (R65, R66, R84). -/
def pitchStep (st : RegFile) : Int :=
  let p := max 1 (st.fld Reg.TT_ENC_CFG Fld.TT_ENC_CFG_PITCH)
  if st.on Reg.TT_ENC_CFG Fld.TT_ENC_CFG_FWD_NEG then -(p : Int) else p

/-- Encoder pacing is in use (R65). -/
def encoderPaced (st : RegFile) : Bool := st.fld Reg.TT_MODE Fld.TT_MODE_PACE == 2 && st.on Reg.TT_MODE Fld.TT_MODE_RUN

/-! ## Part-detect at an installation -/

/-- A PIO pin whose bank has no supply reads 0 and sends no edge (R394). -/
def State.pinLive (s : State) (pin : Nat) : Bool := !s.pio.dead.contains (pin / 32)

/-- The level that readers see on a pin, with the levels outside given (R325, R394): the device's own level in a mode that drives, else the land's, after INV; 0 where the bank has no supply. -/
def State.pinLevel (s : State) (lands pin : Nat) : Bool :=
  let w := s.reg (Reg.PIO_PIN pin)
  let inv := Fld.PIO_PIN_INV.get w == 1
  let latch := Fld.PIO_PIN_LATCH.get w == 1
  if !s.pinLive pin then false
  else
    match Fld.PIO_PIN_MODE.get w with
    | 0 => xor (hasBit lands pin) inv
    | 1 => latch
    | 2 => hasBit (s.reg Reg.PIO_OUT).toNat pin
    | _ => if xor latch inv then xor (hasBit lands pin) inv else inv

/-- Engine `e` beyond its registers. -/
def State.eng (s : State) (e : Nat) : Engine := s.pio.engines.getD e {}

/-- Part-detect from another source, or with another polarity, is at once at that source's level (R80, R333): the engine's level, or the pin's as last presented. -/
def State.takePd (s : State) (old new : RegFile) : State :=
  let key := fun (st : RegFile) => (st.fld Reg.TT_STRIP Fld.TT_STRIP_PD_SEL, st.on Reg.TT_STRIP Fld.TT_STRIP_PD_ENG, st.on Reg.TT_STRIP Fld.TT_STRIP_PD_POL)
  if key new = key old then s
  else
    let sel := new.fld Reg.TT_STRIP Fld.TT_STRIP_PD_SEL
    let level := if new.on Reg.TT_STRIP Fld.TT_STRIP_PD_ENG then (s.eng (sel % 16)).pd
      else xor (s.pinLevel s.pio.lands sel) (new.on Reg.TT_STRIP Fld.TT_STRIP_PD_POL)
    { s with tt := { s.tt with pd := level, pdRise := none, pdFall := none } }

/-- The free-run grid as the settings `st` want it (R57, R78): none in another pacing, one from the first instant at or after `first` where there is none yet. -/
def State.paceGrid (s : State) (st : RegFile) (first : Nat) : State :=
  if st.fld Reg.TT_MODE Fld.TT_MODE_PACE != 0 then { s with tt := { s.tt with grid := none } }
  else if s.tt.grid.isSome then s
  else { s with tt := { s.tt with grid := some (s.gridFrom st first) } }

/-- A grid with another anchor begins after the frame whose gangway installs it, whose start is `s_N` (R56): frames scheduled on the old grid that have not had their gangway go. -/
def State.reanchor (s : State) (new : RegFile) (sN : Nat) : State :=
  { s with
    tt := { s.tt with
      grid := s.tt.grid.map fun _ => s.gridFrom new (sN + 2)
      frames := s.tt.frames.filter fun f => f.gated || f.started || f.trig.isSome || f.burst } }

/-- What an installation starts and stops in the timetable (R56, R57, R65, R78): `first` is the first instant of a grid that begins here. During a burst PACE stays as it was, and `burstOver` takes up the new one. -/
def State.applyRun (s : State) (old new : RegFile) (swap first : Nat) : State :=
  let run := new.on Reg.TT_MODE Fld.TT_MODE_RUN
  let s := s.setB Reg.TT_STATUS Fld.TT_STATUS_RUNNING run
  let s := if encoderPaced new && !encoderPaced old then
    s.setF Reg.TT_ENC_NEXT Fld.TT_ENC_NEXT_NEXT
      (Fld.TT_ENC_NEXT_NEXT.enc (Fld.TT_ENC_POS_POS.sget (s.reg Reg.TT_ENC_POS) + pitchStep new)) else s
  if !run then
    let s := (s.endAccum swap).endStrips true false
    { s with
      tt := { s.tt with grid := none, burst := none, strips := [],
                        frames := s.tt.frames.filter fun f => f.gated || f.started || f.trig.isSome } }
  else
    let s := if gridMoved old new then s.reanchor new (swap + 24000) else s
    if s.tt.burst.isSome then s else s.paceGrid new first

/-- The lowest bank that is not busy, if any (R148). -/
def State.freeBank (s : State) : Option Nat := (List.range 4).find? fun b => !s.busyBanks.contains b

/-- CAL_CFG.EN has changed at a gangway that installs at tick `x` (R110): with 1 every spare starts a cycle at the next column step; with 0 the spares idle, their cycles end without a result, and steps that a batch held back are taken (DESIGN CHOICE, log entry 77). -/
def State.calEnable (s : State) (on : Bool) (x : Nat) : State :=
  if on then s.restartBands (fun _ => true) (s.cc.boundary (16 * x))
  else
    let s := s.releaseSteps fun _ => true
    { s with cal := { s.cal with cycles := [] } }

/-- Install a plan in bank `b` (R144, R147, R149): the flip and everything that comes about with it. -/
def State.install (s : State) (p : GwPlan) (b close swap seq first : Nat) (idle acq : Bool) : State :=
  let old := s.use
  let hadMap := !p.host.isEmpty && s.gw.writes.any fun w => isMap w.addr && decide (w.tick < close)
  let s := s.logCommits p.host close seq 0 idle
  let s := match p.derived with
    | some d => s.log d.stamp .commit seq 3 (if idle then 16 else 0) (d.bound || nearBoundary d.tick close)
    | none => s
  let (s, restored) := if p.host.isEmpty then (s, false) else s.restoreTaps close seq swap (p.next.on Reg.CAL_CFG Fld.CAL_CFG_RESTORE)
  let acq := acq || s.gw.acqEvent
  let s : State := { s with
    gw := { s.gw with
      acqEvent := false
      autoFrom := if p.next.on Reg.TT_MAP_CFG Fld.TT_MAP_CFG_AUTO then s.gw.autoFrom else seq
      banks := s.gw.banks.set b p.next
      cur := b
      commits := s.gw.commits.filter fun c => decide (close ≤ c.tick)
      writes := if p.host.isEmpty then s.gw.writes else s.gw.writes.filter fun w => decide (close ≤ w.tick)
      derived := if p.derived.isSome || !p.next.on Reg.TT_MAP_CFG Fld.TT_MAP_CFG_AUTO then none else s.gw.derived } }
  let g := Fld.CFG_GW_GEN_GEN.set (s.reg Reg.CFG_GW_GEN) (s.f Reg.CFG_GW_GEN Fld.CFG_GW_GEN_GEN + 1)
  let g := Fld.CFG_GW_GEN_SEQ.set g seq
  let g := Fld.CFG_GW_GEN_IDLE.set g (if idle then 1 else 0)
  let g := Fld.CFG_GW_GEN_DERIVED.set g (if p.derived.isSome then 1 else 0)
  let s := s.setReg Reg.CFG_GW_GEN (Fld.CFG_GW_GEN_HOST.set g (if p.host.isEmpty then 0 else 1))
  let s := s.setReg Reg.CFG_GW_ITIME (s.fabAt swap)
  let s := s.setB Reg.CFG_GW_STATUS Fld.CFG_GW_STATUS_PENDING (!s.gw.commits.isEmpty)
  let s := if 1 < p.host.length then s.setB Reg.CFG_GW_STATUS Fld.CFG_GW_STATUS_MERGED true else s
  let s := match p.derived with
    | some d => (s.setF Reg.TT_MAP_SRC Fld.TT_MAP_SRC_SEQ d.seq).setB Reg.TT_MAP_SRC Fld.TT_MAP_SRC_DERIVED true
    | none => if hadMap then s.setReg Reg.TT_MAP_SRC 0 else s
  let enMoved := old.fld Reg.CAL_CFG Fld.CAL_CFG_EN != p.next.fld Reg.CAL_CFG Fld.CAL_CFG_EN
  let s := s.moveEpoch seq acq restored enMoved
  let s := if enMoved then s.calEnable (p.next.on Reg.CAL_CFG Fld.CAL_CFG_EN) swap else s
  ((s.noteInUse old p.next).takePd old p.next).applyRun old p.next swap first

/-- Install a plan where a bank is free (R148); without one the commits stay pending, and where the gangway is idle they no longer ask for one of their own. The state, and whether it installed. -/
def State.tryInstall (s : State) (p : GwPlan) (close swap seq first : Nat) (idle acq : Bool) : State × Bool :=
  if p.host.isEmpty && p.derived.isNone then (s.moveEpoch seq acq false false, false)
  else
    match s.freeBank with
    | none =>
      let s : State := { s with
        gw := { s.gw with
          commits := s.gw.commits.map fun c => if idle && decide (c.tick < close) then { c with waits := true } else c
          derived := s.gw.derived.map fun d => if idle && decide (d.tick < close) then { d with waits := true } else d } }
      ((s.setB Reg.CFG_GW_STATUS Fld.CFG_GW_STATUS_BANK_WAIT true).moveEpoch seq acq false false, false)
    | some b => (s.install p b close swap seq first idle acq, true)

/-- A gangway (R143 to R149): with its close, its swap instant, the sequence number it reports, the first instant of a grid that may begin, and whether it is idle. Host commits that fail a check are refused, and a derived map that is due is installed all the same (R414). The state, and whether it installed. -/
def State.gangway (s : State) (close swap seq first : Nat) (idle : Bool) : State × Bool :=
  let acq := s.gw.acqEvent
  let near := fun (x : Nat) => decide (close ≤ x) && nearBoundary x close
  let s : State := { s with
    gw := { s.gw with
      commits := s.gw.commits.map fun c => if near c.tick then { c with bound := true } else c
      derived := s.gw.derived.map fun d => if near d.tick then { d with bound := true } else d
      lastClose := some close
      acqEvent := false } }
  let p := s.plan close seq
  let s := match p.refusal with
    | some x => s.refuseCommits p close seq x.1 x.2 idle
    | none => s
  let r := s.tryInstall (s.plan close seq) close swap seq first idle acq
  ((r.1.pioEvent 3 swap).ferryEvent 8 swap, r.2)

end Sys2Proof.Machine
end

