-- ==== Sys2Proof/Machine/Pacing.lean ====
section
/-! DEFINITION. How frames come to be scheduled, pass their gangway and start: gangways with and without frames (R68, R145, R146, R147), the free-run grid (R55 to R57), exposure starts (R51 to R53, R78, R412), strips (R80, R81). The commands SHADOW_WRITE, COMMIT, FORCE, EXPOSURE_MAP_WRITE, CAL_TAP_WRITE, GANGWAY_SWAP, IDLE_GANGWAY, GRID_INSTANT, EXPOSURE_START, DEFERRED_START, STRIP_START. -/

namespace Sys2Proof.Machine

/-! ## A frame passes its gangway -/

/-- The store that a frame's first exposure uses (R412): in overlapped mode the opposite of the first exposure's store in the frame before it, else A. -/
def State.nextStore (s : State) (mode : Nat) : Nat :=
  if mode ≠ 0 then 0
  else
    match (s.tt.frames.filter fun f => f.gated && !f.started).getLast? with
    | some g => 1 - g.firstStore
    | none =>
      match s.tt.lastStore with
      | some x => 1 - x
      | none => 0

/-- Free the berths reserved for a frame that does not open (R194). -/
def State.unreserve (s : State) (seq : Nat) : State :=
  (s.fs.occ.filter fun o => o.seq == seq && s.berthState o.berth == 5).foldl (fun s o => s.freeBerth o.berth) s

/-- Fill in a frame at its gangway (R25, R74, R88, R134, R137, R149, R151, R191): number, bank, depth, times, manifest, map in use, histories. The first frame after reset has number 0 (DESIGN CHOICE, log entry 66). -/
def State.gateFrame (s : State) (f : Frame) (epochMoved tstep inBurst : Bool) : State × Frame :=
  let st := s.use
  let seq := s.tt.nextSeq
  let depth := depthAct st s.tt.lastDepth
  let first := s.nextStore (storeMode st)
  let opens := inBurst || st.fld Reg.TT_MODE Fld.TT_MODE_FORM == 1
  let f : Frame := { f with
    seq := seq, gen := s.f Reg.CFG_GW_GEN Fld.CFG_GW_GEN_GEN, bank := s.gw.cur, gated := true, depth := depth, rmax := rMax st,
    shot := shotAt st depth f.shot.s, firstStore := first, burst := opens, burstOf := if inBurst then f.burstOf else seq }
  let pace := match s.tt.burst with
    | some b => if inBurst then b.pace else st.fld Reg.TT_MODE Fld.TT_MODE_PACE
    | none => st.fld Reg.TT_MODE Fld.TT_MODE_PACE
  let form := if inBurst then 1 else st.fld Reg.TT_MODE Fld.TT_MODE_FORM
  let f : Frame := { f with man := manSet (s.manGangway st f pace form tstep) Man.FIRST_STORE first }
  let s : State := { s with
    gw := { s.gw with mapUsed := st.filter fun p => isMap p.1 }
    tt := { s.tt with
      nextSeq := (seq + 1) % 2 ^ 32
      lastDepth := depth
      burst := if opens && !inBurst then
          some ⟨seq, st.fld Reg.TT_BURST Fld.TT_BURST_COUNT - 1, 1, 8 * st.fld Reg.TT_BURST Fld.TT_BURST_PERIOD, pace⟩
        else s.tt.burst } }
  ((s.noteFrameUse st seq).gangwayHistory st opens (convBits depth) first seq epochMoved, f)

/-- Put a frame in the timetable's list, or open the strip-stack frame whose first strip it is (R68, R80). -/
def State.enterFrame (s : State) (f : Frame) (inBurst : Bool) : State :=
  if !inBurst && s.use.fld Reg.TT_MODE Fld.TT_MODE_FORM == 3 then
    { s with
      tt := { s.tt with
        seg := some { frame := f, strips := 0, cont := 0, first := f.shot.s, last := f.shot.e, waiting := false }
        strips := { shot := f.shot, close := f.close, trig := f.trig, bound := f.bound } :: s.tt.strips } }
  else { s with tt := { s.tt with frames := s.tt.frames ++ [f] } }

/-- The settings that a gangway with this close and number would leave in use. -/
def State.settingsAt (s : State) (close seq : Nat) : RegFile :=
  let p := s.judged close seq
  if (p.host.isEmpty && p.derived.isNone) || s.freeBank.isNone then s.use else p.next

/-- The gangway of a scheduled or accepted frame (R68, R147): the installation, and the frame's opening. A frame whose gangway leaves RUN = 0, or a free-run frame whose gangway leaves another pacing, does not open, and the gangway acts as an idle one (R57). -/
def State.swapFrame (s : State) (f : Frame) : State :=
  let inBurst := f.burst && s.tt.burst.isSome
  let next := s.settingsAt f.close s.tt.nextSeq
  let opens := next.on Reg.TT_MODE Fld.TT_MODE_RUN &&
    (f.trig.isSome || inBurst || next.fld Reg.TT_MODE Fld.TT_MODE_PACE == 0)
  let s : State := { s with tt := { s.tt with frames := s.tt.frames.filter fun g => !(decide (g = f)) } }
  let epoch := s.reg Reg.CAL_EPOCH
  let seq := s.tt.nextSeq
  let r := s.gangway f.close f.swapAt seq (f.swapAt + (if opens then 24008 else 24000)) (!opens)
  let x := r.1.applyStep seq
  let s := x.1
  if opens then
    let y := s.gateFrame f (s.reg Reg.CAL_EPOCH != epoch) x.2 inBurst
    (y.1.enterFrame y.2 inBurst).showBanks.showPending
  else (s.unreserve seq).showBanks.showPending

/-- The oldest frame whose swap instant has come and whose gangway has not (R147). -/
def State.swapDue (s : State) : Option Frame :=
  s.tt.frames.find? fun f => !f.gated && decide (f.swapAt ≤ s.clock.tt)

/-- GANGWAY_SWAP (R147): the gangway of the oldest frame whose swap instant has come. -/
def State.gangwaySwap (s : State) : State :=
  match s.swapDue with
  | none => s
  | some f => s.swapFrame f

/-! ## Gangways without frames -/

/-- A trigger is pending: accepted, with its start in the future (R62, R146). -/
def State.triggerPending (s : State) : Bool :=
  s.tt.frames.any (fun f => !f.started && f.trig.isSome) || s.tt.strips.any (fun x => x.trig.isSome)

/-- The oldest commit whose stamp plus 8 ns has come and that is installed at an idle gangway (R145, R146); one that has found no bank there waits for another gangway (R148). -/
def State.idleDue (s : State) : Option Commit :=
  s.gw.commits.find? fun c => decide (c.tick + 8 ≤ s.clock.tt) && !c.waits && (s.u Reg.TT_MODE Fld.TT_MODE_RUN == 0 || c.force)

/-- A derived map whose limit is met is installed at the idle gangway of its own commit while RUN = 0 is in use (R414). -/
def State.derivedDue (s : State) : Option DerivedMap :=
  match s.gw.derived with
  | some d => if d.tick + 8 ≤ s.clock.tt ∧ d.waits = false ∧ s.u Reg.TT_MODE Fld.TT_MODE_RUN = 0 ∧ serialGe 32 s.tt.nextSeq d.limit then some d else none
  | none => none

/-- A frame is open under R79: an accumulation that takes sub-triggers and has not closed. In free-run it is open from its start, in the other pacings from its acceptance. -/
def State.openAccum (s : State) : Option Frame :=
  s.tt.frames.find? fun f => f.shot.isOpen && (f.started || f.trig.isSome)

/-- An idle gangway that starts a free-run grid is also the first frame's gangway, however late the first instant of an anchored grid (R57, R145), unless a frame with sub-triggers is open, in which the instant may be skipped (R55). -/
def State.firstFrame (s : State) (close : Nat) (epochMoved tstep : Bool) : State :=
  match s.tt.grid with
  | none => s
  | some g =>
    if s.u Reg.TT_MODE Fld.TT_MODE_FORM ≠ 3 ∧ s.openAccum.isNone then
      let f : Frame := { close := close, swapAt := close, sched := g, shot := shotAt s.use s.tt.lastDepth g }
      let y := s.gateFrame f epochMoved tstep false
      let s : State := { y.1 with tt := { y.1.tt with grid := some (g + 8 * s.u Reg.TT_PERIOD Fld.TT_PERIOD_PERIOD) } }
      s.enterFrame y.2 false
    else s

/-- The idle gangway at `close` (R145, R146); `forced` when FORCE asked for it with RUN = 1. A grid that a forced one starts begins as R57 states for RUN going from 0 to 1, 24,000 ns after the close, which is the commit's stamp plus 24,008 ns (DEDUCED, log entry 69). -/
def State.idleAt (s : State) (close : Nat) (forced : Bool) : State :=
  let seq := s.tt.nextSeq
  let epoch := s.reg Reg.CAL_EPOCH
  let noGrid := s.tt.grid.isNone
  let r := s.gangway close close seq (close + 24000) true
  let x := r.1.applyStep seq
  let s : State := if forced then { x.1 with gw := { x.1.gw with forcedAt := some close } } else x.1
  let s := if r.2 && noGrid then s.firstFrame close (s.reg Reg.CAL_EPOCH != epoch) x.2 else s
  s.showBanks.showPending

/-- IDLE_GANGWAY (R145, R146, R414). A forced one that finds a trigger pending does not take place, and its commit acts as COMMIT. -/
def State.idleGangway (s : State) : State :=
  match s.idleDue with
  | some c =>
    let forced := s.u Reg.TT_MODE Fld.TT_MODE_RUN == 1
    if forced && s.triggerPending then
      { s with gw := { s.gw with commits := s.gw.commits.map fun x => if decide (x = c) then { x with force := false } else x } }
    else s.idleAt (c.tick + 8) forced
  | none =>
    match s.derivedDue with
    | some d => s.idleAt (d.tick + 8) false
    | none => s

/-! ## The free-run grid -/

/-- The grid moves on by one period of the settings in use (log entry 68); a period of 0 would stand still, so it counts as one unit. -/
def State.gridStep (s : State) (g : Nat) : State :=
  { s with tt := { s.tt with grid := some (g + max 8 (8 * s.u Reg.TT_PERIOD Fld.TT_PERIOD_PERIOD)) } }

/-- Start of the latest frame or strip that is placed, as far as it can be told now: the last that has started, or where the last unstarted one will be placed (R53). -/
def State.lastPlaced (s : State) : Option Nat :=
  let step := fun (c : Chain × Option Nat) (z : Shot) (nb : Nat) => (c.1.add (c.1.place z nb), some (c.1.place z nb).s)
  let c := s.tt.frames.foldl (fun c f => if f.started then c else step c f.shot f.notBefore) (s.tt.chain, s.tt.lastStart)
  (s.tt.strips.foldl (fun c x => step c x.shot 0) c).2

/-- Start of the last frame of the burst under way as far as it can be told now, or of the latest frame or strip (R55, R78). -/
def State.lastAhead (s : State) : Option Nat :=
  match s.tt.burst with
  | some b => s.lastPlaced.map (· + b.left * b.period)
  | none => s.lastPlaced

/-- A burst whose last frame is still to be scheduled, or a frame with sub-triggers that is open: what becomes of a grid instant after it is not yet known (R55). -/
def State.gridWaits (s : State) (g : Nat) : Bool :=
  (match s.tt.burst with | some b => b.left != 0 | none => false) || (s.openAccum.isSome && decide (s.clock.tt < g))

/-- GRID_INSTANT (R55, R56, R79): the next grid instant, from 24,000 ns ahead of it on, schedules a frame, a burst or a strip, or is skipped: where it lies at or before the start of a late frame or of a burst's last frame, or in an open frame with sub-triggers. -/
def State.gridInstant (s : State) : State :=
  match s.tt.grid.map s.gridNow with
  | none => s
  | some g =>
    if s.clock.tt + 24000 < g then s
    else if (match s.lastAhead with | some x => decide (g ≤ x) | none => false) || (s.openAccum.isSome && decide (g ≤ s.clock.tt)) then s.gridStep g
    else if s.gridWaits g then s
    else
      let close := g - 24000
      let shot := shotAt s.use s.tt.lastDepth g
      if s.u Reg.TT_MODE Fld.TT_MODE_FORM = 3 then
        ({ s with tt := { s.tt with strips := s.tt.strips ++ [{ shot := shot, close := close, trig := none, bound := false }] } } : State).gridStep g
      else
        ({ s with
          tt := { s.tt with frames := s.tt.frames ++ [{ close := close, swapAt := close, sched := g, shot := shot }] } } : State).gridStep g

/-! ## Exposure starts -/

/-- The oldest frame past its gangway that has not started, if the frames before it let it start, with the first legal tick (R52, R53). -/
def State.startDue (s : State) : Option (Frame × Nat) :=
  match s.tt.frames.find? fun f => f.gated && !f.started with
  | none => none
  | some f =>
    let x := tickCeil (max (max f.sched f.notBefore) (s.tt.chain.legal f.shot.mode))
    if s.openShot || decide (s.clock.tt < x) then none else some (f, x)

/-- Frame `f` of the list replaced. -/
def State.setFrame (s : State) (f : Frame) : State :=
  { s with tt := { s.tt with frames := s.tt.frames.map fun g => if g.gated && g.seq == f.seq && g.cont == f.cont then f else g } }

/-- A burst is over with the start of its last frame, at tick `x`: a PACE installed during it governs from here on, and a free-run grid that begins takes `x` as its instant c (R57, R78; log entry 73). -/
def State.burstOver (s : State) (x : Nat) : State :=
  let s : State := { s with tt := { s.tt with burst := none } }
  if s.u Reg.TT_MODE Fld.TT_MODE_RUN = 1 then s.paceGrid s.use (x + 24008) else s

/-- The next frame of a burst is scheduled one PERIOD after the actual start of the one before it (R78). -/
def State.burstNext (s : State) (f : Frame) (x : Nat) : State :=
  if !f.burst then s
  else
    match s.tt.burst with
    | none => s
    | some b =>
      if b.opener ≠ f.burstOf then s
      else if b.left = 0 then s.burstOver x
      else
        let next := x + b.period
        { s with
          tt := { s.tt with
            burst := some { b with left := b.left - 1, idx := b.idx + 1 }
            frames := s.tt.frames ++
              [{ close := next - 24000, swapAt := next - 24000, sched := next, burst := true, burstIdx := b.idx,
                 burstOf := b.opener, shot := shotAt s.use s.tt.lastDepth next }] } }

/-- A frame starts exposing at tick `x` (R51 to R53, R63, R69, R78, R412): it is placed, counted if late, logged, and its conversion pass and context records begin. A held overrun is late, and logged as deferred, where it starts after the start it would have had. -/
def State.startFrame (s : State) (f : Frame) (x : Nat) : State :=
  let late := if f.held then decide (tickCeil f.shot.s < x) else f.late || decide (tickCeil f.sched < x)
  let st := s.bank f.bank
  let first := if f.shot.mode ≠ 0 then 0 else match s.tt.lastStore with | some y => 1 - y | none => 0
  let f : Frame := { f with
    started := true, late := late, firstStore := first, shot := f.shot.moveTo x, subs := 1, subStarts := [x], lastSub := x + expA st,
    man := manSet f.man Man.FIRST_STORE first }
  let s := s.setFrame f
  let s := if late then s.countLate else s
  let s := if f.held && late then s.log (s.fabAt x) .deferred f.seq 0 0 false else s
  let s := s.log (s.fabAt x) .frameStart f.seq 0 0 false
  let s : State := { s with
    tt := { s.tt with
      lastStore := some first
      lastStart := some x
      chain := if f.shot.isOpen then s.tt.chain else s.tt.chain.add f.shot
      passes := s.tt.passes ++ [{ seq := f.seq, cont := f.cont, strip := 0, bank := f.bank, store := first, dual := f.shot.mode == 2,
                                  depth := f.depth, rmax := f.rmax, shot := f.shot }]
      frames := if late && !f.burst then s.tt.frames.filter fun g => g.gated || g.trig.isSome || g.burst || decide (x < g.sched)
        else s.tt.frames } }
  let s := (s.openProgress f.seq f.cont f.bank 1 true f.burst).burstNext f x
  let s := s.pioEvent 0 x
  let s := if f.shot.isOpen then s else s.pioEvent 1 f.shot.e
  ((s.ferryEvent 0 x).showBanks).showPending

/-- Free-run frames and burst frames after the first reserve at their scheduled start and held overruns at their first legal tick, and on each later tick until they start (R194). -/
def Frame.reservesAtStart (f : Frame) : Bool := f.trig.isNone || f.held

/-- The first tick on which a start that was held back for want of a berth can take place: not before the berth was freed (R82). -/
def State.afterWait (s : State) (waited : Bool) (x : Nat) : Nat :=
  if waited then max x (tickCeil (s.fs.freedAt.getD 0)) else x

/-- No berth is free for a new frame now: the next one that is freed ends the throttling (R82). -/
def State.noBerth (s : State) : State := { s with fs := { s.fs with freedAt := none } }

/-- A frame starts, or is held back by a throttled context until a berth is free (R82, R194). -/
def State.startOrWait (s : State) (f : Frame) (x : Nat) : State :=
  if f.reservesAtStart && !f.reserved then
    let r := s.reserve (s.bank f.bank) f.seq f.burst
    if r.2 then r.1.startFrame f (s.afterWait f.waited x)
    else r.1.noBerth.setFrame { f with notBefore := s.tick + 2, waited := true }
  else s.startFrame f x

/-- A frame that is late reserves from its scheduled start on (R194). -/
def State.reserveEarly (s : State) : State :=
  match s.tt.frames.find? fun f => f.gated && !f.started with
  | none => s
  | some f =>
    if f.trig.isNone && !f.held && !f.reserved && decide (tickCeil f.sched ≤ s.clock.tt) then
      let r := s.reserve (s.bank f.bank) f.seq f.burst
      if r.2 then r.1.setFrame { f with reserved := true, notBefore := s.afterWait f.waited f.notBefore }
      else r.1.noBerth.setFrame { f with waited := true }
    else s

/-- EXPOSURE_START (R69): the oldest frame past its gangway starts on its tick. -/
def State.exposureStart (s : State) : State :=
  match s.startDue with
  | some (f, x) => if f.held then s else s.startOrWait f x
  | none => s.reserveEarly

/-- DEFERRED_START (R63): a held overrun starts on the first legal tick. -/
def State.deferredStart (s : State) : State :=
  match s.startDue with
  | some (f, x) => if f.held then s.startOrWait f x else s
  | none => s

/-! ## Strips -/

/-- Part-detect is asserted at tick `x`: assertion tick ≤ x < deassertion tick (R80). -/
def State.pdAt (s : State) (x : Nat) : Bool :=
  if s.tt.pd then (match s.tt.pdRise with | some r => decide (r ≤ x) | none => true)
  else
    match s.tt.pdRise, s.tt.pdFall with
    | some r, some d => decide (r ≤ x) && decide (x < d)
    | none, some d => decide (x < d)
    | _, none => false

/-- A start within one tick of a part-detect edge (R80). -/
def State.pdNear (s : State) (x : Nat) : Bool :=
  (match s.tt.pdRise with | some r => nearBoundary x r | none => false) ||
    (match s.tt.pdFall with | some d => nearBoundary x d | none => false)

/-- The settings that govern the open strip-stack frame; those in use where none is open. -/
def State.stripSettings (s : State) : RegFile :=
  match s.tt.seg with
  | some g => s.bank g.frame.bank
  | none => s.use

/-- The segment has all the strips it may hold (R80): HEIGHT in modes 0 and 1, LIMIT in mode 2. -/
def segmentFull (st : RegFile) (strips : Nat) : Bool :=
  decide ((if st.fld Reg.TT_STRIP Fld.TT_STRIP_PD_MODE = 2 then st.fld Reg.TT_STRIP Fld.TT_STRIP_LIMIT
    else st.fld Reg.TT_STRIP Fld.TT_STRIP_HEIGHT) ≤ strips)

/-- A strip of the open segment starts at tick `x` (R80, R81): its exposure and pass begin, and a full segment closes, or waits for MORE in mode 2. In overlapped mode the strips of a frame take the two stores in turn, the first one the store of R412 (DEDUCED, log entry 67). A strip within one tick of a part-detect edge that is not the segment's first makes a frame-start entry of its own (DEDUCED, log entry 71). A late strip takes the place of the grid instants up to its start (R55). -/
def State.runStrip (s : State) (g : StripFrame) (x sched : Nat) (bound : Bool) : State :=
  let st := s.bank g.frame.bank
  let shot := ({ (shotAt st g.frame.depth x) with isOpen := false } : Shot)
  let first := if shot.mode ≠ 0 then 0 else match g.store.or s.tt.lastStore with | some y => 1 - y | none => 0
  let late := decide (tickCeil sched < x)
  let s := if late then s.countLate else s
  let s := if g.strips = 0 then
      let f : Frame := { g.frame with
        cont := g.cont, started := true, late := late, bound := g.frame.bound || bound, firstStore := first, shot := shot, subs := 1,
        subStarts := [x], lastSub := x + expA st, complete := false,
        man := manSets g.frame.man [(Man.CONT, g.cont), (Man.FIRST_STORE, first)] }
      let s : State := { s with tt := { s.tt with frames := s.tt.frames ++ [f] } }
      (s.log (s.fabAt x) .frameStart f.seq 0 0 bound).openProgress f.seq f.cont f.bank 1 false false
    else
      let s : State := { s with
        tt := { s.tt with
          frames := s.tt.frames.map fun f =>
            if f.seq == g.frame.seq && f.cont == g.cont then
              { f with late := f.late || late } else f } }
      if bound then s.log (s.fabAt x) .frameStart g.frame.seq 0 0 true else s
  let g' : StripFrame := { g with strips := g.strips + 1, first := if g.strips = 0 then x else g.first, last := shot.e, store := some first }
  let s : State := { s with
    pipe := { s.pipe with
      progress := s.pipe.progress.map fun p =>
        if p.seq == g.frame.seq && p.cont == g.cont then { p with strips := g'.strips } else p }
    tt := { s.tt with
      lastStore := if g.strips = 0 && g.cont = 0 then some first else s.tt.lastStore
      lastStart := some x
      strips := if late then s.tt.strips.filter fun d => d.trig.isSome || decide (x < d.shot.s) else s.tt.strips
      chain := s.tt.chain.add shot
      passes := s.tt.passes ++ [{ seq := g.frame.seq, cont := g.cont, strip := g.strips, bank := g.frame.bank, store := first,
                                  dual := shot.mode == 2, depth := g.frame.depth, rmax := g.frame.rmax, shot := shot }]
      seg := some g' } }
  let s := ((s.pioEvent 0 x).pioEvent 1 shot.e).ferryEvent 0 x
  if segmentFull st g'.strips then
    if st.fld Reg.TT_STRIP Fld.TT_STRIP_PD_MODE = 2 then
      { s with
        tt := { s.tt with
          seg := some { g' with waiting := true }
          frames := s.tt.frames.map fun f => if f.seq == g.frame.seq && f.cont == g.cont then { f with strips := g'.strips } else f } }
    else s.endStrips false false
  else s

/-- The oldest strip whose start has come, with its first legal tick (R53, R80). -/
def State.stripDue (s : State) : Option (StripDue × Nat) :=
  match s.tt.strips with
  | [] => none
  | d :: _ =>
    let x := tickCeil (max (max d.shot.s d.notBefore) (s.tt.chain.legal d.shot.mode))
    if s.openShot || decide (s.clock.tt < x) then none else some (d, x)

/-- A strip that opens an output frame: its gangway takes place on its start tick (R68, R80). -/
def State.openStrip (s : State) (d : StripDue) (x : Nat) : State :=
  let seq := s.tt.nextSeq
  let next := s.settingsAt d.close seq
  let opens := next.on Reg.TT_MODE Fld.TT_MODE_RUN && (d.trig.isSome || next.fld Reg.TT_MODE Fld.TT_MODE_PACE == 0)
  let epoch := s.reg Reg.CAL_EPOCH
  let r := s.gangway d.close x seq (x + (if opens then 24008 else 24000)) (!opens)
  let y := r.1.applyStep seq
  let s := y.1
  if opens then
    let f : Frame :=
      { close := d.close, swapAt := x, sched := d.shot.s, trig := d.trig, bound := d.bound, reserved := true, shot := d.shot.moveTo x }
    let z := s.gateFrame f (s.reg Reg.CAL_EPOCH != epoch) y.2 false
    let s := z.1
    if s.u Reg.TT_MODE Fld.TT_MODE_FORM = 3 then
      s.runStrip { frame := z.2, strips := 0, cont := 0, first := x, last := x, waiting := false } x d.shot.s (s.pdNear x)
    else s.enterFrame z.2 false
  else s.unreserve seq

/-- The oldest waiting strip has had its turn. -/
def State.dropStrip (s : State) : State := { s with tt := { s.tt with strips := s.tt.strips.tail } }

/-- The berths of the output frame that a strip at `x` would open (R194): with them the strip goes on as `go` says, on the first tick at which they are free (R82); without them a free-run strip waits and a start event overruns. -/
def State.reserveStrip (s : State) (d : StripDue) (x : Nat) (st : RegFile) (seq : Nat) (go : State → Nat → State) : State :=
  let r := s.reserve st seq false
  if r.2 then go r.1.dropStrip (s.afterWait d.waited x)
  else if d.trig.isNone then
    let s := r.1.noBerth
    { s with tt := { s.tt with strips := { d with notBefore := s.tick + 2, waited := true } :: s.tt.strips.tail } }
  else r.1.dropStrip.overrun x 0 0 d.bound

/-- STRIP_START (R80, R81): the oldest pacing event's start comes; the part-detect level on that tick decides whether a strip starts and whether it opens a frame. -/
def State.stripStart (s : State) : State :=
  match s.stripDue with
  | none => s
  | some (d, x) =>
    let st := s.stripSettings
    let pdOn := st.fld Reg.TT_STRIP Fld.TT_STRIP_PD_MODE == 0 || s.pdAt x
    let rest := s.dropStrip
    (match s.tt.seg with
     | some g =>
       if g.waiting then
         if pdOn then
           let rest := rest.endStrips false true
           rest.runStrip { frame := g.frame, strips := 0, cont := g.cont + 1, first := x, last := x, store := g.store, waiting := false }
             x d.shot.s (s.pdNear x)
         else rest.log (s.fabAt x) .idle 0 0 0 (s.pdNear x)
       else if g.strips = 0 && d.trig.isNone then
         s.reserveStrip d x (s.bank g.frame.bank) g.frame.seq fun s x => s.runStrip g x d.shot.s (s.pdNear x)
       else rest.runStrip g x d.shot.s (s.pdNear x)
     | none =>
       if pdOn then s.reserveStrip d x (s.settingsAt d.close s.tt.nextSeq) s.tt.nextSeq fun s x => s.openStrip d x
       else rest.log (s.fabAt x) .idle 0 0 0 (s.pdNear x)).showBanks.showPending

/-! ## The commands -/

/-- SHADOW_WRITE (R142). -/
def execShadowWrite (t : Nat) (src : Src) (addr : Nat) (val : Word) (s : State) : Result :=
  .next ((s.advance t).managed src fun s => match regAt addr with | some d => if d.shadowed then s.writeShadow addr val else s | none => s)

/-- COMMIT (R142, R143). -/
def execCommit (t : Nat) (src : Src) (s : State) : Result := .next ((s.advance t).managed src fun s => s.addCommit src false)

/-- FORCE (R146). -/
def execForce (t : Nat) (src : Src) (s : State) : Result := .next ((s.advance t).managed src fun s => s.addCommit src s.forceActs)

/-- EXPOSURE_MAP_WRITE (R74, R77). -/
def execExposureMapWrite (t : Nat) (src : Src) (word : Fin 8192) (val : Word) (s : State) : Result :=
  .next ((s.advance t).managed src fun s => s.mapWrite (Reg.TT_MAP word.val) val)

/-- CAL_TAP_WRITE (R123). -/
def execCalTapWrite (t : Nat) (src : Src) (conv : Fin 33024) (slice : Fin 5) (val : Word) (s : State) : Result :=
  .next ((s.advance t).managed src fun s => s.tapWrite (Reg.CAL_TAP conv.val slice.val) val)

/-- GANGWAY_SWAP (R147). -/
def execGangwaySwap (t : Nat) (s : State) : Result := .next (s.advance t).gangwaySwap

/-- IDLE_GANGWAY (R145). -/
def execIdleGangway (t : Nat) (s : State) : Result := .next (s.advance t).idleGangway

/-- GRID_INSTANT (R55). -/
def execGridInstant (t : Nat) (s : State) : Result := .next (s.advance t).gridInstant

/-- EXPOSURE_START (R69). -/
def execExposureStart (t : Nat) (s : State) : Result := .next (s.advance t).exposureStart

/-- DEFERRED_START (R63). -/
def execDeferredStart (t : Nat) (s : State) : Result := .next (s.advance t).deferredStart

/-- STRIP_START (R80). -/
def execStripStart (t : Nat) (s : State) : Result := .next (s.advance t).stripStart

end Sys2Proof.Machine
end

