-- ==== Sys2Proof/Machine/Trigger.lean ====
section
/-! DEFINITION. Start events: triggers (R59 to R64, R413), encoder counts (R65, R66), fabric broadcasts (R67), sub-exposures (R79), part-detect (R80), and the event log's removal (R83). The commands SW_TRIG_FIRE, TRIGGER_PIN_EDGE, SCHED_ARM, SCHEDULED_FIRE, ENCODER_COUNT, ENCODER_ZERO, SUB_EXPOSURE_START, SUB_TIMEOUT, PART_DETECT_EDGE, EVLOG_POP. -/

namespace Sys2Proof.Machine

/-- A start event at acceptance tick `a` (R59, R60): its start, the pacing it serves, the source and detail that the log shows, whether it is an encoder trigger, the scheduled tick where that differs from the start (R67), whether a carried instant has been missed, which makes the frame late (R67), and whether a refusal of it counts as no overrun (R64). -/
structure StartEvent where
  a : Nat
  start : Nat
  sched : Nat
  pace : Nat
  source : Nat
  detail : Nat
  enc : Bool
  early : Bool := false
  quiet : Bool := false
deriving DecidableEq, Repr

/-- Pending triggers: accepted, with the start in the future (R62). -/
def State.pendingCount (s : State) : Nat :=
  (s.tt.frames.filter fun f => !f.started && f.trig.isSome && !f.held).length + (s.tt.strips.filter fun x => x.trig.isSome).length

/-- A burst is under way, or an accepted start event is about to open one (R78). -/
def State.burstOn (s : State) (st : RegFile) : Bool :=
  s.tt.burst.isSome || (st.fld Reg.TT_MODE Fld.TT_MODE_FORM == 1 && s.tt.frames.any fun f => f.trig.isSome && !f.gated)

/-- The event falls within 24,000 ns after a forced idle gangway (R146). -/
def State.afterForced (s : State) (a : Nat) : Bool :=
  match s.gw.forcedAt with
  | some g => decide (g ≤ a) && decide (a < g + 24000)
  | none => false

/-- Sequence number that the next accepted frame will take (R25, R62). -/
def State.seqAhead (s : State) : Nat := (s.tt.nextSeq + (s.tt.frames.filter fun f => !f.gated).length) % 2 ^ 32

/-- Count and log an accepted trigger (R62, R83, R334). An accepted encoder trigger makes one entry, of its own type (log entry 8). -/
def State.noteAccept (s : State) (x : StartEvent) (seq : Nat) (bound : Bool) : State :=
  let s := s.addF Reg.TT_CNT_TRIG Fld.TT_CNT_TRIG_ACCEPTED 1
  let s := s.log (s.fabAt x.a) (if x.enc then .encoder else .accepted) seq x.source x.detail bound
  (s.pioEvent 4 x.a).ferryEvent 4 x.a

/-- A start event overruns (R63, R83): an encoder trigger makes its own entry, with the position, beside that of the overrun (log entry 8). -/
def State.overrunEvent (s : State) (x : StartEvent) (bound : Bool) : State :=
  let s := if x.enc then s.log (s.fabAt x.a) .encoder 0 x.source x.detail bound else s
  s.overrun x.a x.source x.detail bound

/-- A start event soon after a forced idle gangway overruns and sets FORCED_OVR (R146). -/
def State.forcedOvr (s : State) : State := s.setB Reg.CFG_GW_STATUS Fld.CFG_GW_STATUS_FORCED_OVR true

/-- An overrun that would have opened a frame is held under OVR_DEFER, one at a time (R63). It keeps the gangway of its own acceptance tick (R146). -/
def State.deferOrDrop (s : State) (x : StartEvent) (st : RegFile) (bound : Bool) : State :=
  let s := s.overrunEvent x bound
  if s.u Reg.TT_TRIG_CFG Fld.TT_TRIG_CFG_OVR_DEFER = 1 && st.fld Reg.TT_MODE Fld.TT_MODE_FORM != 3 &&
      !(s.tt.frames.any fun f => f.held && !f.started) then
    { s with
      tt := { s.tt with
        frames := s.tt.frames ++
          [{ close := x.a - 24000, swapAt := x.a + 2, sched := x.sched, trig := some x.a, bound := bound, held := true,
             notBefore := x.start, shot := shotAt st s.tt.lastDepth x.start }] } }
  else s

/-- A start event is accepted or overruns (R62, R63, R78, R82, R146). A start that R52 allows and that a change of the store mode delays is accepted; its frame is late (R46, R53). -/
def State.acceptEvent (s : State) (x : StartEvent) : State :=
  let st := s.settingsAt (x.a - 24000) s.tt.nextSeq
  let legal := s.chainNow.legal52 (storeMode st)
  let bound := s.chainNow.seen && nearBoundary x.start legal
  if s.burstOn st then (if s.afterForced x.a then s.forcedOvr else s).overrunEvent x bound
  else if s.afterForced x.a then s.forcedOvr.deferOrDrop x st bound
  else if x.start < legal || decide (min 16 (s.u Reg.TT_TRIG_CFG Fld.TT_TRIG_CFG_QDEPTH + 1) ≤ s.pendingCount) then s.deferOrDrop x st bound
  else if s.u Reg.TT_MODE Fld.TT_MODE_FORM = 3 then
    let s := s.noteAccept x (match s.tt.seg with | some g => g.frame.seq | none => s.seqAhead) bound
    ({ s with
      tt := { s.tt with strips := s.tt.strips ++ [{ shot := shotAt st s.tt.lastDepth x.start, close := x.a - 24000, trig := some x.a, bound := bound }] } } : State).showPending
  else
    let seq := s.seqAhead
    let r := s.reserve st seq false
    if r.2 then
      let s := r.1.noteAccept x seq bound
      ({ s with
        tt := { s.tt with
          frames := s.tt.frames ++
            [{ close := x.a - 24000, swapAt := x.a + 2, sched := x.sched, trig := some x.a, bound := bound, late := x.early, notBefore := x.start,
               shot := shotAt st (depthAct st s.tt.lastDepth) x.start }] } } : State).showPending
    else r.1.deferOrDrop x st bound

/-- A sub-trigger of an open accumulation frame (R79): accepted when its start is at least 1,000 ns after the previous transfer and the frame still takes one; one soon after a forced idle gangway overruns (R146). -/
def State.subEvent (s : State) (x : StartEvent) (f : Frame) : State :=
  let st := if f.gated then s.bank f.bank else s.use
  let e := expA st
  let last := match f.subDue.getLast? with
    | some y => y + e
    | none => if f.started then f.lastSub else f.shot.s + e
  let count := (if f.started then f.subs else 1) + f.subDue.length
  let bound := nearBoundary x.start (last + 1000)
  if s.afterForced x.a then (if x.quiet then s else s.forcedOvr.overrunEvent x bound)
  else if st.fld Reg.TT_ACCUM Fld.TT_ACCUM_COUNT < count || decide (x.start < last + 1000) then
    if x.quiet then s else s.overrunEvent x bound
  else
    let s := s.noteAccept x f.seq bound
    { s with
      tt := { s.tt with
        frames := s.tt.frames.map fun g => if decide (g = f) then { g with subDue := g.subDue ++ [x.start] } else g } }

/-- The pacing that governs start events: the one in use, and during a burst the burst's own (R78, R413). -/
def State.paceNow (s : State) : Nat :=
  match s.tt.burst with
  | some b => b.pace
  | none => s.u Reg.TT_MODE Fld.TT_MODE_PACE

/-- A start event reaches the timetable (R79, R413): acted on with RUN = 1 under its own pacing, or in free-run as a sub-trigger; ignored otherwise. -/
def State.startEvent (s : State) (x : StartEvent) : State :=
  if s.u Reg.TT_MODE Fld.TT_MODE_RUN ≠ 1 then s
  else
    let pace := s.paceNow
    match s.openAccum with
    | some f => if pace = x.pace ∨ (pace = 0 ∧ x.pace = 1) then s.subEvent x f else s
    | none => if pace = x.pace then s.acceptEvent x else s

/-- A start event at acceptance tick `a` with the fixed path and the delay (R60). -/
def State.eventAt (s : State) (a pace source detail : Nat) (enc : Bool) : StartEvent :=
  let x := a + 474 + 2 * (s.settingsAt (a - 24000) s.tt.nextSeq).fld Reg.TT_TRIG_DELAY Fld.TT_TRIG_DELAY_DELAY
  { a := a, start := x, sched := x, pace := pace, source := source, detail := detail, enc := enc }

/-- A trigger of TT_TRIG_CFG at acceptance tick `a` (R60). -/
def State.trigger (s : State) (a source : Nat) : State := s.startEvent (s.eventAt a 1 source 0 false)

/-- The trigger source in use is `k` (R59). -/
def State.trigSource (s : State) (k : Nat) : Bool := s.u Reg.TT_TRIG_CFG Fld.TT_TRIG_CFG_SRC == k

/-- SEL of the trigger in use (R59). -/
def State.trigSel (s : State) : Nat := s.u Reg.TT_TRIG_CFG Fld.TT_TRIG_CFG_SEL

/-! ## Scheduled triggers (R64) -/

/-- Arm the scheduled trigger. -/
def State.armSched (s : State) : State :=
  let late := notAfter (s.reg Reg.TT_SCHED_TIME) s.stamp
  let s := s.setB Reg.TT_SCHED_CTL Fld.TT_SCHED_CTL_ARM true
  let s : State := { s with tt := { s.tt with schedFrom := if late then s.tick + 2 else s.tick } }
  if late then s.setB Reg.TT_STATUS Fld.TT_STATUS_SCHED_LATE true else s

/-- The tick on which the armed trigger fires. -/
def State.schedTick (s : State) : Nat := max s.tt.schedFrom (tickCeil (s.ttOf (s.reg Reg.TT_SCHED_TIME)))

/-- The armed trigger fires: ARM clears, the fire is logged, and where SRC = 3 is in use it is a trigger of triggered pacing, or in free-run a sub-trigger whose refusal is no overrun (R64, R79; DEDUCED, log entry 72). -/
def State.fireSched (s : State) : State :=
  if s.flag Reg.TT_SCHED_CTL Fld.TT_SCHED_CTL_ARM && decide (s.schedTick ≤ s.clock.tt) then
    let x := s.schedTick
    let s := s.setB Reg.TT_SCHED_CTL Fld.TT_SCHED_CTL_ARM false
    let s := s.log (s.fabAt x) .scheduled 0 0 0 false
    if s.trigSource 3 then s.startEvent { s.eventAt x 1 0 0 false with quiet := s.paceNow != 1 } else s
  else s

/-! ## Encoder (R65, R66) -/

/-- A count at tick `a`: the position moves; in encoder pacing a forward count that reaches NEXT triggers, and NEXT advances. -/
def State.encCount (s : State) (a : Nat) (up : Bool) : State :=
  let pos := Fld.TT_ENC_POS_POS.sget (s.reg Reg.TT_ENC_POS) + (if up then 1 else -1)
  let s := s.setF Reg.TT_ENC_POS Fld.TT_ENC_POS_POS (Fld.TT_ENC_POS_POS.enc pos)
  let forward := up != (s.u Reg.TT_ENC_CFG Fld.TT_ENC_CFG_FWD_NEG == 1)
  if encoderPaced s.use && forward && s.f Reg.TT_ENC_POS Fld.TT_ENC_POS_POS == s.f Reg.TT_ENC_NEXT Fld.TT_ENC_NEXT_NEXT then
    let next := Fld.TT_ENC_NEXT_NEXT.sget (s.reg Reg.TT_ENC_NEXT) + pitchStep s.use
    let s := s.setF Reg.TT_ENC_NEXT Fld.TT_ENC_NEXT_NEXT (Fld.TT_ENC_NEXT_NEXT.enc next)
    s.startEvent (s.eventAt a 2 (s.u Reg.TT_ENC_CFG Fld.TT_ENC_CFG_ENGINE) (s.f Reg.TT_ENC_POS Fld.TT_ENC_POS_POS % 1024) true)
  else s

/-- The first event in the timetable's inbox that satisfies `p` and has arrived (R333). -/
def State.inboxDue (s : State) (p : EngineEvent → Bool) : Option EngineEvent :=
  s.tt.inbox.find? fun x => p x && decide (x.at' ≤ s.clock.tt)

/-- Take an event out of the inbox. -/
def State.takeEvent (s : State) (x : EngineEvent) : State := { s with tt := { s.tt with inbox := s.tt.inbox.erase x } }

/-- A count event of engine `e` arrives (R65, R333); the timetable acts on it only where TT_ENC_CFG names the engine. -/
def State.encoderArrives (s : State) (e : Nat) (up : Bool) : State :=
  match s.inboxDue fun x => x.engine == e && x.index == (if up then 1 else 2) with
  | none => s
  | some x =>
    let s := s.takeEvent x
    if s.u Reg.TT_ENC_CFG Fld.TT_ENC_CFG_ENGINE = e then s.encCount x.at' up else s

/-- ZERO (R66): the position is 0 and NEXT is one PITCH forward. -/
def State.encZero (s : State) : State :=
  (s.setF Reg.TT_ENC_POS Fld.TT_ENC_POS_POS 0).setF Reg.TT_ENC_NEXT Fld.TT_ENC_NEXT_NEXT (Fld.TT_ENC_NEXT_NEXT.enc (pitchStep s.use))

/-! ## Sub-exposures (R79) -/

/-- The frame that accumulates, the start of its next sub-exposure, and whether sub-triggers start it. -/
def State.subDue (s : State) : Option (Frame × Nat) :=
  s.tt.frames.findSome? fun f =>
    let st := s.bank f.bank
    if !f.started || f.complete || st.fld Reg.TT_MODE Fld.TT_MODE_FORM != 2 then none
    else if st.on Reg.TT_ACCUM Fld.TT_ACCUM_SUB_TRIG then
      (match f.subDue with
       | x :: _ => if x ≤ s.clock.tt ∧ f.shot.isOpen then some (f, x) else none
       | [] => none)
    else
      let x := f.shot.s + f.subs * (8 * st.fld Reg.TT_ACCUM Fld.TT_ACCUM_SUB_PERIOD)
      if f.subs ≤ st.fld Reg.TT_ACCUM Fld.TT_ACCUM_COUNT ∧ x ≤ s.clock.tt ∧ x + expA st ≤ f.shot.e then some (f, x) else none

/-- A sub-exposure starts at `x`; the last one of a frame with sub-triggers closes it at its transfer. -/
def State.subStart (s : State) : State :=
  match s.subDue with
  | none => s
  | some (f, x) =>
    let st := s.bank f.bank
    let g : Frame := { f with
      subs := f.subs + 1, lastSub := x + expA st, subStarts := f.subStarts ++ [x],
      subDue := if f.shot.isOpen then f.subDue.tail else f.subDue }
    let s := s.setFrame g
    if f.shot.isOpen && decide (st.fld Reg.TT_ACCUM Fld.TT_ACCUM_COUNT < g.subs) then s.closeAccum g.lastSub else s

/-- The open frame closes when no sub-trigger has arrived within SUB_TIMEOUT of the previous transfer. -/
def State.subTimeout (s : State) : State :=
  match s.tt.frames.find? fun f => f.started && f.shot.isOpen with
  | none => s
  | some f =>
    let d := 1000 * (s.bank f.bank).fld Reg.TT_ACCUM Fld.TT_ACCUM_SUB_TIMEOUT
    if d ≠ 0 ∧ f.subDue.isEmpty ∧ f.lastSub + d ≤ s.clock.tt then s.closeAccum (f.lastSub + d) else s

/-! ## Part-detect (R80, R81) -/

/-- An edge of part-detect at tick `x`: it is logged, and a deassertion ends a frame of PD_MODE 1 or 2 and decides a segment that waits for MORE. -/
def State.pdEdge (s : State) (x : Nat) (level : Bool) (source : Nat) : State :=
  let s := (s.log (s.fabAt x) .partDetect 0 source 0 false).ferryEvent (if level then 5 else 6) x
  if level then { s with tt := { s.tt with pd := true, pdRise := some x } }
  else
    let st := s.stripSettings
    let s : State := { s with tt := { s.tt with pd := false, pdFall := some x } }
    if st.fld Reg.TT_STRIP Fld.TT_STRIP_PD_MODE = 0 then s
    else
      match s.tt.seg with
      | some g => s.endStrips (decide (g.strips < st.fld Reg.TT_STRIP Fld.TT_STRIP_HEIGHT)) false
      | none => s

/-- Part-detect from the pin, or from the engine's event that has arrived. -/
def State.partDetect (s : State) (level : Bool) : State :=
  let sel := s.u Reg.TT_STRIP Fld.TT_STRIP_PD_SEL
  if s.u Reg.TT_STRIP Fld.TT_STRIP_PD_ENG = 1 then
    match s.inboxDue fun x => x.engine == sel % 16 && x.index == (if level then 3 else 4) with
    | none => s
    | some x => (s.takeEvent x).pdEdge x.at' level (sel % 16)
  else if s.pinLive sel then s.pdEdge s.tick level sel else s

/-! ## Event log -/

/-- Remove the oldest entry (R83). -/
def State.evlogPop (s : State) : State := { s with tt := { s.tt with log := s.tt.log.tail } }

/-! ## The commands -/

/-- SW_TRIG_FIRE (R59, source 0). -/
def execSwTrigFire (t : Nat) (src : Src) (s : State) : Result :=
  .next ((s.advance t).managed src fun s => if s.trigSource 0 then s.trigger s.tick 0 else s)

/-- SCHED_ARM (R64). -/
def execSchedArm (t : Nat) (src : Src) (s : State) : Result := .next ((s.advance t).managed src fun s => s.armSched)

/-- SCHEDULED_FIRE (R64). -/
def execScheduledFire (t : Nat) (s : State) : Result := .next (s.advance t).fireSched

/-- ENCODER_COUNT (R65). -/
def execEncoderCount (t : Nat) (engine : Fin 16) (up : Bool) (s : State) : Result := .next ((s.advance t).encoderArrives engine.val up)

/-- ENCODER_ZERO (R66). -/
def execEncoderZero (t : Nat) (src : Src) (s : State) : Result := .next ((s.advance t).managed src fun s => s.encZero)

/-- SUB_EXPOSURE_START (R79). -/
def execSubExposureStart (t : Nat) (s : State) : Result := .next (s.advance t).subStart

/-- SUB_TIMEOUT (R79). -/
def execSubTimeout (t : Nat) (s : State) : Result := .next (s.advance t).subTimeout

/-- PART_DETECT_EDGE (R80): `level` is the asserted level, after INV and PD_POL. -/
def execPartDetectEdge (t : Nat) (level : Bool) (s : State) : Result := .next ((s.advance t).partDetect level)

/-- EVLOG_POP (R83). -/
def execEvlogPop (t : Nat) (src : Src) (s : State) : Result := .next ((s.advance t).managed src fun s => s.evlogPop)

end Sys2Proof.Machine
end

