-- ==== Sys2Proof/Machine/Broadcast.lean ====
section
/-! DEFINITION. Trigger broadcasts at their origin and in the timetable (R297, R67), the shares they install (R300, R301), and the direct trigger pin. The commands TRIGGER_PIN_EDGE, TRIG_FIRE, FABRIC_TRIGGER_ARRIVAL, SHARE_COMMIT. -/

namespace Sys2Proof.Machine

/-- Tree ports of this device in ascending order (R291). -/
def State.treePorts (s : State) : List Nat := (List.range 8).filter fun p => s.flag (Reg.FB_PSTAT p) Fld.FB_PSTAT_TREE

/-- The words of a TRIG block (R297). -/
def trigWords (port origin ch hops tnum : Nat) (instant : Word) (share : Option Nat) : List Nat :=
  [0x69 + port * 2 ^ 8 + origin * 2 ^ 11 + ch * 2 ^ 23 + hops * 2 ^ 25 + tnum * 2 ^ 32, instant.toNat,
   (match share with | some k => k + 2 ^ 16 | none => 0)]

/-- Send a TRIG twice on each of some ports (R298). -/
def State.sendTrig (s : State) (ports : List Nat) (origin ch hops tnum : Nat) (instant : Word) (share : Option Nat) : State :=
  ports.foldl (fun s p =>
    let w := Wire.fabric p 0x69 (trigWords p origin ch hops tnum instant share)
    s.emits [w, w]) s

/-- The origin's broadcast at acceptance tick `a` (R297, R301). -/
def State.broadcast (s : State) (a : Nat) : State :=
  if s.flag Reg.FB_TRIG_CFG Fld.FB_TRIG_CFG_ORIGIN then
    let instant := s.fabAt a + BitVec.ofNat 64 (s.f Reg.FB_TRIG_CFG Fld.FB_TRIG_CFG_LEAD)
    let ch := s.f Reg.FB_TRIG_CFG Fld.FB_TRIG_CFG_TX_CH
    let tnum := s.f Reg.FB_TRIG_CNT Fld.FB_TRIG_CNT_TNUM
    let share := match s.kf.shareOut with
      | some (k, from') => if from' + 24000 ≤ a then some k else none
      | none => none
    let s := s.sendTrig s.treePorts (s.f Reg.FB_STATUS Fld.FB_STATUS_ADDR) ch 0 tnum instant share
    let s : State := { s with
      kf := { s.kf with
        shareOut := if share.isSome then none else s.kf.shareOut
        arrivals := s.kf.arrivals ++ [⟨a + 2, ch, instant, share⟩] } }
    (s.addF Reg.FB_TRIG_CNT Fld.FB_TRIG_CNT_SENT 1).addF Reg.FB_TRIG_CNT Fld.FB_TRIG_CNT_TNUM 1
  else s

/-- The broadcast source is `k`; 3 acts as 0 (R297, R306). -/
def State.bcastSource (s : State) (k : Nat) : Bool :=
  let c := s.f Reg.FB_TRIG_CFG Fld.FB_TRIG_CFG_SRC
  (if c == 3 then 0 else c) == k

/-- A PIO engine's trigger event at its acceptance tick (R59, R297, R333). -/
def State.engineTrigger (s : State) (e a : Nat) : State :=
  let s := if s.trigSource 2 && s.trigSel % 16 == e then s.trigger a e else s
  if s.bcastSource 2 && s.f Reg.FB_TRIG_CFG Fld.FB_TRIG_CFG_SEL % 16 == e then s.broadcast a else s

/-- An edge of a pin whose new level the synchroniser has shown for `held` further ticks by now, on the trigger's own path or on the broadcast's (R60, R61, R297). The filter of the path accepts it once the level has held for FILT further ticks; that tick is the acceptance tick. -/
def State.pinEdge (s : State) (pin held : Nat) (rise bcast : Bool) : State :=
  if !s.pinLive pin then s
  else if bcast then
    let filt := s.f Reg.FB_TRIG_CFG Fld.FB_TRIG_CFG_FILT
    if s.bcastSource 1 && s.f Reg.FB_TRIG_CFG Fld.FB_TRIG_CFG_SEL == pin && rise == (s.f Reg.FB_TRIG_CFG Fld.FB_TRIG_CFG_POL == 0) &&
        decide (filt ≤ held) then s.broadcast (s.tick - 2 * (held - filt)) else s
  else
    let filt := s.u Reg.TT_TRIG_CFG Fld.TT_TRIG_CFG_FILT
    if s.trigSource 1 && s.trigSel == pin && rise == (s.u Reg.TT_TRIG_CFG Fld.TT_TRIG_CFG_POL == 0) && decide (filt ≤ held) then
      s.trigger (s.tick - 2 * (held - filt)) pin
    else s

/-! ## Shares -/

/-- Shadow registers that a share carries, in its order (R300). -/
def shareRegs : List Nat :=
  [Reg.TT_MODE, Reg.TT_EXP_A, Reg.TT_EXP_B, Reg.TT_PERIOD, Reg.TT_ANCHOR, Reg.TT_ACCUM, Reg.TT_BURST, Reg.TT_MAP_CFG, Reg.TT_PIX_CFG, Reg.CC_CFG]

/-- Install a share: its values go to the shadows and a commit stamped at tick `a` follows (R300, R301). -/
def State.installShare (s : State) (x : Share) (a : Nat) : State :=
  let s := (shareRegs.zip x.words).foldl (fun s p => s.shadowAt a p.1 p.2) s
  let s : State := { s with
    gw := { s.gw with commits := s.gw.commits ++ [{ tick := a, stamp := s.fabAt a, src := .tunnel, force := false, bound := s.nearClose a }] }
    kf := { s.kf with shares := s.kf.shares.map fun y => if y.k == x.k then { y with used := true } else y } }
  let s := (s.setReg Reg.CFG_GW_CTIME (s.fabAt a)).setB Reg.CFG_GW_STATUS Fld.CFG_GW_STATUS_PENDING true
  s.setF Reg.FB_TTS_STAT Fld.FB_TTS_STAT_INST_K x.k

/-- SHARE_VALID arrives with number `k` (R301): the share is committed at acceptance tick `a`, or its absence is flagged. -/
def State.shareAt (s : State) (k a : Nat) : State :=
  if s.flag Reg.FB_TTS_CFG Fld.FB_TTS_CFG_RECV then
    match s.kf.shares.find? fun x => x.k == k with
    | some x => if x.used then s else s.installShare x a
    | none => s.setB Reg.FB_STATUS Fld.FB_STATUS_TTS_MISS true
  else s

/-- A share with an instant is committed when the instant comes (R301). -/
def State.shareDue (s : State) : Option Share :=
  s.kf.shares.find? fun x => !x.used && x.c != 0 && decide (tickCeil (s.ttOf x.c) ≤ s.clock.tt)

/-- SHARE_COMMIT (R301). -/
def State.shareCommit (s : State) : State :=
  match s.shareDue with
  | some x => if s.flag Reg.FB_TTS_CFG Fld.FB_TTS_CFG_RECV then s.installShare x (tickCeil (s.ttOf x.c)) else s
  | none => s

/-! ## Arrival in the timetable -/

/-- The tick nearest an instant of fabric time, as the present offset has it (R67); of two that are as near, the later (DESIGN CHOICE, log entry 70). -/
def State.tickNear (s : State) (w : Word) : Nat := 2 * ((s.unwrap w - s.clock.off + 65536) / 131072).toNat

/-- The instant `w` of fabric time lies before the instant `x` of the timetable's clock (R67). -/
def State.fabBefore (s : State) (w : Word) (x : Nat) : Bool := decide (s.unwrap w < ((x * 65536 : Nat) : Int) + s.offAt x)

/-- FABRIC_TRIGGER_ARRIVAL (R67, R301): the oldest broadcast that has reached the timetable island; it starts a frame on the tick nearest its instant, or 474 ns after the arrival where the instant is earlier. -/
def State.fabricArrival (s : State) : State :=
  match s.kf.arrivals.find? fun x => decide (x.at' ≤ s.clock.tt) with
  | none => s
  | some x =>
    let s : State := { s with kf := { s.kf with arrivals := s.kf.arrivals.erase x } }
    let s := if s.f Reg.FB_TRIG_CFG Fld.FB_TRIG_CFG_RX_CH = x.ch then
        let early := s.fabBefore x.instant (x.at' + 474)
        let start := if early then x.at' + 474 else s.tickNear x.instant
        let sched := if early then s.ttOf x.instant else start
        s.startEvent { a := x.at', start := start, sched := sched, pace := 3, source := 0, detail := 0, enc := false, early := early }
      else s
    match x.share with
    | some k => s.shareAt k x.at'
    | none => s

/-! ## The commands -/

/-- TRIGGER_PIN_EDGE (R60, R61): `rise` is the edge after INV, `held` for how many further ticks the pin has held its new level; `bcast` names the path of FB_TRIG_CFG. -/
def execTriggerPinEdge (t : Nat) (pin : Fin 64) (edge : TriggerEdge) (bcast : Bool) (s : State) : Result :=
  .next ((s.advance t).pinEdge pin.val edge.held edge.rise bcast)

/-- TRIG_FIRE (R297). -/
def execTrigFire (t : Nat) (src : Src) (s : State) : Result :=
  .next ((s.advance t).managed src fun s => if s.bcastSource 0 then s.broadcast s.tick else s)

/-- FABRIC_TRIGGER_ARRIVAL (R67). -/
def execFabricTriggerArrival (t : Nat) (s : State) : Result := .next (s.advance t).fabricArrival

/-- SHARE_COMMIT (R301). -/
def execShareCommit (t : Nat) (s : State) : Result := .next (s.advance t).shareCommit

end Sys2Proof.Machine
end

