-- ==== Sys2Proof/Machine/Exposure.lean ====
section
/-! DEFINITION. Exposure and completion: the transfer of charge into a store (R36 to R39, R69 to R73), the manifest's completion and ring entry (R151 to R153), the frame's FS on its bundles (R189, R237) and its admission to the preview queue (R361). The commands EXPOSURE_TRANSFER and MANIFEST_COMPLETION. -/

namespace Sys2Proof.Machine

/-- One transfer of a converter's cluster (R37): its instant, the pass it belongs to, whether it ends the second exposure of a dual frame, and the store it fills. -/
structure Transfer where
  at' : Nat
  pass : Pass
  second : Bool
  inB : Bool
deriving DecidableEq, Repr

/-- The exposure starts of a pass: the sub-exposures of an accumulation (R79), else the one start. -/
def State.passStarts (s : State) (p : Pass) : List Nat :=
  if (s.bank p.bank).fld Reg.TT_MODE Fld.TT_MODE_FORM = 2 then
    match s.tt.frames.find? fun f => f.seq == p.seq && f.cont == p.cont with
    | some f => f.subStarts
    | none => [p.shot.s]
  else [p.shot.s]

/-- Every transfer of converter `i` in a pass (R37, R44, R69, R70). A single exposure has TT_EXP_A's length in either store (R49), and the map applies by the store it fills (R73). -/
def State.passTransfers (s : State) (i : Nat) (p : Pass) : List Transfer :=
  let st := s.bank p.bank
  let d := staggerOf (st.on Reg.TT_MODE Fld.TT_MODE_STAGGER_DESC) (convBand i)
  (s.passStarts p).flatMap fun x =>
    if p.dual then
      [⟨x + d + clusterExposure st i false false, p, false, false⟩,
        ⟨x + expA st + 1000 + d + clusterExposure st i true true, p, true, true⟩]
    else [⟨x + d + clusterExposure st i false (p.store == 1), p, false, p.store == 1⟩]

/-- The earliest transfer of converter `i` whose instant has come and which is not done. -/
def State.transferDue (s : State) (i : Nat) : Option Transfer :=
  ((s.tt.passes.filter fun p => p.began.isNone).flatMap (s.passTransfers i)).foldl (fun a x =>
    if decide (s.px.done.get i < x.at') && decide (x.at' ≤ s.clock.tt) then
      (match a with
       | none => some x
       | some y => if x.at' < y.at' then some x else some y)
    else a) none

/-- Capacity of a store in e⁻ (R39). -/
def storeFull : Nat := 18000

/-- Charge added to a store (R39): what exceeds the capacity is lost. -/
def addCharges (i : Nat) (m : NatMap) (charges : List (Nat × Nat)) : NatMap :=
  charges.foldl (fun m c =>
    if c.1 < 4096 then m.put (i * 4096 + c.1) (min storeFull (m.get (i * 4096 + c.1) + c.2)) else m) m

/-- A clamped cluster is counted once per frame (R71). -/
def State.noteClamp (s : State) (seq cont i : Nat) : State :=
  let s := s.setB Reg.TT_STATUS Fld.TT_STATUS_MAP_CLAMP true
  { s with
    tt := { s.tt with
      frames := s.tt.frames.map fun f =>
        if f.seq == seq && f.cont == cont && !f.clamped.contains i then { f with clamped := f.clamped ++ [i] } else f } }

/-- The transfer of converter `i` that is due moves its cluster's charge into the store (R37, R39, R71). -/
def State.transfer (s : State) (i : Nat) (charges : List (Nat × Nat)) : State :=
  match s.transferDue i with
  | none => s
  | some x =>
    let s : State := { s with
      px :=
        { storeA := if x.inB then s.px.storeA else addCharges i s.px.storeA charges
          storeB := if x.inB then addCharges i s.px.storeB charges else s.px.storeB
          done := s.px.done.put i x.at' } }
    if clusterClamped (s.bank x.pass.bank) i x.second x.inB then s.noteClamp x.pass.seq x.pass.cont i else s

/-! ## Completion -/

/-- P of R361; 0 where every frame is due. -/
def State.previewPeriod (s : State) : Nat :=
  let n := s.f Reg.ETH_PREV_CFG Fld.ETH_PREV_CFG_FPS_MAX
  if n = 0 then 0 else 1000000000 / n

/-- Scale factor of the preview (R362): 3 acts as 1. -/
def State.previewScale (s : State) : Nat :=
  match s.f Reg.ETH_PREV_CFG Fld.ETH_PREV_CFG_SCALE with
  | 0 => 1 | 2 => 4 | _ => 2

/-- The due time after an admission, max(D + P, EXP_START) in fabric times that wrap (R8, R361). -/
def nextDue (due period start : Nat) : Nat :=
  let ahead := centred 64 (((due + period : Nat) : Int) - start)
  if 0 ≤ ahead ∧ ahead ≤ 2000000000 then (due + period) % 2 ^ 64 else start

/-- Admission of a KIND = 1 context's frame at its manifest completion (R361): skipped, dropped or admitted with its start datagram. -/
def State.admitPreview (s : State) (st : RegFile) (f : Frame) (c : Nat) : State :=
  let start := (s.fabAt f.shot.s).toNat
  let everyFrame := s.f Reg.ETH_PREV_CFG Fld.ETH_PREV_CFG_FPS_MAX == 0
  let ahead := centred 64 ((s.prev.due : Int) - start)
  let skip := (!everyFrame && decide (0 < ahead) && decide (ahead ≤ 1000000000)) || s.f Reg.ETH_PREV_DST Fld.ETH_PREV_DST_ADDR == 0 ||
    !s.flag Reg.ETH_PREV_CFG Fld.ETH_PREV_CFG_EN
  if skip then s.addF Reg.ETH_PREV_CNT Fld.ETH_PREV_CNT_SKIPPED 1
  else
    let k := s.previewScale
    let w := outWidth st c / k
    let h := maxLines st c f.burst / k
    if previewSize < s.previewUsed + w * h + 512 then
      (s.countDrop c).satF Reg.ETH_PREV_CNT Fld.ETH_PREV_CNT_DROPPED 1
    else
      let p : PreviewFrame :=
        { ctx := c, seq := f.seq, cont := f.cont, scale := k, dst := s.reg Reg.ETH_PREV_DST, w := w, h := h, colour := s.colour,
          reserved := w * h + 256 }
      let s : State := { s with
        prev := { s.prev with
          due := nextDue s.prev.due s.previewPeriod start
          frames := s.prev.frames ++ [{ p with dgram := 1 }]
          queue := s.prev.queue ++ [{ p.item 1 0 with bytes := manBytes f.man, hold := 256 }] } }
      s.showPreview

/-- The completed frame goes on its way in every active context: its FS on each bundle that carries it, once the context's frames before it have ended, or the preview's admission (R151, R189, R237, R238, R361). -/
def State.sendStarts (s : State) (f : Frame) : State :=
  let st := s.bank f.bank
  ((activeCtxs st).foldl (fun s c =>
    if st.fld (Reg.CTX_DEST c) Fld.CTX_DEST_KIND = 1 then s.admitPreview st f c else s) (s.noteStart f.seq f.cont f.man)).queueStarts

/-- The oldest frame or segment whose exposure is over by 128 ns and whose manifest is not complete (R151); for a segment, the end of its first strip. -/
def State.completionDue (s : State) : Option Frame :=
  s.tt.frames.find? fun f => f.started && !f.complete && f.man != [] && !f.shot.isOpen && decide (f.shot.e + 128 ≤ s.clock.tt)

/-- Strip-stack governs the frame. -/
def State.isStrips (s : State) (f : Frame) : Bool := (s.bank f.bank).fld Reg.TT_MODE Fld.TT_MODE_FORM == 3 && !f.burst

/-- Complete a frame's manifest (R71, R151, R152), enter it in the ring where it is final (R153), and send it on. -/
def State.completeFrame (s : State) (f : Frame) : State :=
  let m := s.manComplete f.man f.shot.s f.shot.e f.late f.bound (!f.clamped.isEmpty) f.subs
  let s := s.markDrops
  let f : Frame := { f with man := m, complete := true }
  let s := s.setFrame f
  let s := s.setF Reg.TT_CNT_FRAME Fld.TT_CNT_FRAME_CLAMPED f.clamped.length
  let s := if s.isStrips f then s else s.ringEntry m
  let s := if s.isStrips f then s else s.noteManifest f.seq f.cont m
  ((s.sendStarts f).endDone).ferryEvent 1 (f.shot.e + 128)

/-- A closed segment whose last exposure is over (R81, R151). -/
def State.closingDue (s : State) : Option StripFrame := s.tt.closing.find? fun g => decide (g.last + 128 ≤ s.clock.tt)

/-- The manifest that is due is completed, or the segment that is due is finished. -/
def State.completion (s : State) : State :=
  match s.completionDue with
  | some f => s.completeFrame f
  | none =>
    match s.closingDue with
    | some g => s.finishSegment g
    | none => s

/-! ## The commands -/

/-- EXPOSURE_TRANSFER (R37): `charges` gives the photocharge in e⁻ of the cluster's pixels by 64 × row + column, as the light left it. -/
def execExposureTransfer (t : Nat) (conv : Fin 33024) (charges : List (Nat × Nat)) (s : State) : Result :=
  .next ((s.advance t).transfer conv.val charges)

/-- MANIFEST_COMPLETION (R151). -/
def execManifestCompletion (t : Nat) (s : State) : Result := .next (s.advance t).completion

end Sys2Proof.Machine
end

