-- ==== Sys2Proof/Machine/Calibrate.lean ====
section
/-! DEFINITION. The spare slice: injected conversions (R97 to R99), slice rotation (R93, R94), calibration batches and the agreement rule (R110 to R114), and the step instant (R115 to R120). The commands INJ_REQ, INJECTED_CONVERSION_START, INJECTED_RESULT, SLICE_ROTATION, TAP_STEP and CAL_BATCH_DONE. -/

namespace Sys2Proof.Machine

/-! ## Injected conversions (R97, R98) -/

/-- A request that occupies the spare at instant `x` in ns (R97). -/
def Injection.occupies (j : Injection) (x : Nat) : Bool :=
  decide (j.reqAt ≤ x) && (match j.startAt with | none => true | some _ => decide (16 * x < j.doneAt))

/-- An injected conversion occupies the spares of band `b` (R97). -/
def State.injOccupied (s : State) (b x : Nat) : Bool := s.cc.inj.any fun j => j.band == b && j.occupies x

/-- An injected conversion is outstanding for band `b` (R98). -/
def State.injPending (s : State) (b : Nat) : Bool := s.cc.inj.any fun j => j.band == b && !j.got

/-- Reject a band's request (R97, R98, R165). -/
def State.rejectInj (s : State) (tracker : Bool) : State :=
  let s := (s.setB Reg.CC_STATUS Fld.CC_STATUS_INJ_REJECTED true).satF Reg.CC_CNT Fld.CC_CNT_INJ_REJECTED 1
  if tracker then s.setB Reg.PIPE_STATUS Fld.PIPE_STATUS_TRACK_MISS true else s

/-- The start of the slice period under way on the spares of band `b` at `x`, both in 1/16 ns: the last column step, or the end of an injected conversion that still occupies them (R97, R99). -/
def State.periodFrom (s : State) (b x : Nat) : Nat :=
  match s.cc.inj.find? fun j => j.band == b && j.startAt.isSome && decide (x < j.doneAt) with
  | some j => j.doneAt
  | none => if x < s.cc.gridAt then x else s.cc.gridAt + (x - s.cc.gridAt) / s.cc.gridStep * s.cc.gridStep

/-- Request an injected conversion for band `b` at instant `x` (R97, R98); requests that are over leave the list. -/
def State.requestInj (s : State) (b refsel x : Nat) (tracker : Bool) (slot : Nat) : State :=
  if s.injPending b || refsel == 3 || s.u Reg.CC_CFG Fld.CC_CFG_INJ_EN == 0 then s.rejectInj tracker
  else
    { s with
      cc := { s.cc with
        inj := s.cc.inj.filter (fun j => !(j.band == b)) ++
          [{ band := b, refsel := refsel, reqAt := x, tracker := tracker, slot := slot, brk := s.periodFrom b (16 * x) }] } }

/-- A written request: each named band in turn (R97). -/
def State.requestBands (s : State) (bands refsel : Nat) : State :=
  ((List.range 32).filter (hasBit bands)).foldl (fun s b => s.requestInj b refsel s.tick false 0) s

/-- Change the outstanding injection of band `b`. -/
def State.modInj (s : State) (b : Nat) (f : Injection → Injection) : State :=
  { s with cc := { s.cc with inj := s.cc.inj.map fun j => if j.band == b then f j else j } }

/-- Calibration on the spares of band `b` loses `n` sixteenths of a ns (R111, R119). -/
def State.calLose (s : State) (b n : Nat) : State :=
  { s with cal := { s.cal with bands := modifyAt (fun c => { c with lost := c.lost + n }) b s.cal.bands } }

/-- The spares of band `b` start the conversion that waits for its column step (R97); it lasts one slice period of the current grid. Calibration stands still from the conversion it interrupted to its end (R99, R119). -/
def State.injStart (s : State) (b : Nat) : State :=
  match s.cc.inj.find? fun j => j.band == b && j.startAt.isNone with
  | none => s
  | some j =>
    let x := s.cc.boundary (16 * j.reqAt)
    if x ≤ 16 * s.clock.tt then
      (s.modInj b fun j => { j with startAt := some x, doneAt := x + s.cc.gridStep }).calLose b (x + s.cc.gridStep - j.brk)
    else s

/-- Time in ns from a slice's sampling start to the end of its bit decisions, by the slice period in 1/16 ns (R86). -/
def decisionsEnd (step : Nat) : Nat := if step = 10000 then 600 else if step = 7619 then 460 else 368

/-- Result of converter `i` in an injected conversion. -/
def InjResult.of (r : InjResult) (i : Nat) : Nat := Sparse.get (fun _ => r.code) r.others i

/-- Converters of a band (R32, R100). -/
def bandConvs (b : Nat) : List Nat :=
  (List.range 129).flatMap fun cy => (List.range 8).map fun k => 256 * cy + 8 * b + k

/-- Sum of the 1,032 results of a band (R165): 1,024 active converters and 8 dark ones. -/
def InjResult.sum (r : InjResult) : Nat := ((bandConvs r.band).map r.of).sum

/-- The results of band `b` reach the tracker (R97, R165): they are kept for CC_CONV, and a result of the tracker's own request joins the drift of its pass. -/
def State.injResult (s : State) (r : InjResult) : State :=
  match s.cc.inj.find? fun j => j.band == r.band && j.startAt.isSome && !j.got with
  | none => s
  | some j =>
    if 16 * s.clock.tt < j.startAt.getD 0 + 16 * decisionsEnd (j.doneAt - j.startAt.getD 0) then s
    else
      let r : InjResult := { r with refsel := j.refsel }
      let s : State := { s with cc := { s.cc with lastInj := s.cc.lastInj.filter (fun x => !(x.band == r.band)) ++ [r] } }
      let s := s.modInj r.band fun j => { j with got := true }
      if j.tracker then
        { s with
          tt := { s.tt with
            passes := s.tt.passes.map fun p =>
              if p.began.isSome && !p.ended then { p with drift := p.drift ++ [⟨r.band, j.slot, r.sum⟩] } else p } }
      else s

/-! ## The step instant -/

/-- Slices whose taps and targets may differ, or that wait for a step in full: those of tap words that are listed, in rising order, and those at their reset word (R117). -/
def State.listedTaps (s : State) : List Nat :=
  (s.regs.filter fun p => isTap p.1).map (fun p => tapSlice p.1) ++ s.cal.full.filter fun n => (Sparse.look s.regs (tapAddr n)).isNone

/-- The cycle of converter `i`'s spare: the one listed, or the one that started with its band (R110). -/
def State.calCycleOf (s : State) (i : Nat) : CalCycle :=
  (s.cal.cycles.find? fun c => c.conv == i).getD
    { s.newCycle i (s.calBand (convBand i)).start with lostAt := (s.calBand (convBand i)).lostAt }

/-- A calibration batch is under way on the spare of converter `i` at the step instant of a pass that began at `x` (R110, R111): while EN = 1, once its batch has started. -/
def State.batchRuns (s : State) (i x : Nat) : Bool :=
  s.u Reg.CAL_CFG Fld.CAL_CFG_EN == 1 && decide ((s.calCycleOf i).startAt ≤ 16 * (x + 750))

/-- The step instant of a pass that began at `x` (R115, R116). -/
def State.tapStepAt (s : State) (x : Nat) : State :=
  s.listedTaps.foldl (fun s n =>
    let w := s.reg (tapAddr n)
    if decide (tapsOf w = targetsOf w) && !s.cal.full.contains n then s
    else if n % 5 == s.spareOf (n / 5) && s.batchRuns (n / 5) x then
      { s with cal := { s.cal with heldStep := s.cal.heldStep ++ [n] } }
    else s.stepSlice n) s

/-! ## Rotation (R94, R118) -/

/-- REJ_RUN returns to 0 in the converters of a band whose spare changes (R114). -/
def State.clearRejRun (s : State) (b : Nat) : State :=
  (s.regs.filter fun p => decide (0x220028 ≤ p.1) && decide (p.1 < 0x220028 + 0x40 * numConv) && p.1 % 0x40 == 0x28 &&
      convBand (p.1 % 0x220000 / 0x40) == b).foldl (fun s p => s.setF p.1 Fld.CAL_REC_REJ_RUN 0) s

/-- The rotation instant of a pass that began at `x`, for one band: passes are counted at all times; a due rotation takes place or is deferred. -/
def State.rotateBand (s : State) (b x : Nat) : State × Bool :=
  let r := s.cc.rot.getD b (0, 0)
  let due := s.flag Reg.CC_ROT_CFG Fld.CC_ROT_CFG_ROT_EN && decide (max 1 (s.f Reg.CC_ROT_CFG Fld.CC_ROT_CFG_FRAMES) ≤ r.2 + 1)
  if !due then ({ s with cc := { s.cc with rot := s.cc.rot.set b (r.1, r.2 + 1) } }, false)
  else if s.injOccupied b (x + 700) then
    let s := (s.setB Reg.CC_STATUS Fld.CC_STATUS_ROT_DEFERRED true).satF Reg.CC_CNT Fld.CC_CNT_DEFERRED 1032
    ({ s with cc := { s.cc with rot := s.cc.rot.set b (r.1, r.2 + 1) } }, true)
  else
    let s := s.releaseSteps fun n => convBand (n / 5) == b && n % 5 == spareAfter r.1
    let s := if s.u Reg.CAL_CFG Fld.CAL_CFG_EN = 1 then s.satF Reg.CAL_CNT Fld.CAL_CNT_ABANDONED 1032 else s
    let s : State := { s with cc := { s.cc with rot := s.cc.rot.set b (r.1 + 1, 0) } }
    ((s.restartBands (fun k => k == b) (s.cc.boundary (16 * (x + 700)))).clearRejRun b, true)

/-- The rotation instant of a pass that began at `x` (R94): ROTATIONS counts passes in which rotation was due. -/
def State.rotateAt (s : State) (x : Nat) : State :=
  let r := (List.range 32).foldl (fun (y : State × Bool) b => let z := y.1.rotateBand b x; (z.1, y.2 || z.2)) (s, false)
  if r.2 then r.1.addF Reg.CC_CNT Fld.CC_CNT_ROTATIONS 1 else r.1

/-- The pass that is running. -/
def State.running (s : State) : Option Pass := s.tt.passes.find? fun p => p.began.isSome && !p.ended

/-- Change the running pass. -/
def State.modRunning (s : State) (f : Pass → Pass) : State :=
  { s with tt := { s.tt with passes := s.tt.passes.map fun p => if p.began.isSome && !p.ended then f p else p } }

/-- Slice rotation at 700 ns into the overhead (R90, R94). -/
def State.rotation (s : State) : State :=
  match s.running with
  | none => s
  | some p =>
    let x := p.began.getD 0
    if p.rotDone || decide (s.clock.tt < x + 700) then s else (s.rotateAt x).modRunning fun p => { p with rotDone := true }

/-- Set or clear membership of a slice in a list. -/
def mark (l : List Nat) (n : Nat) (b : Bool) : List Nat := l.filter (fun m => !(m == n)) ++ (if b then [n] else [])

/-- The immediate restores of frame `seq`, and of any before it, give their targets now, to be applied in full (R124). -/
def State.takeImm (s : State) (seq : Nat) : State :=
  let due := s.cal.imm.filter fun x => serialGe 32 seq x.seq
  due.foldl (fun s x =>
    let s := s.takeTargets x.slice x.val
    { s with cal := { s.cal with full := mark s.cal.full x.slice true } })
    { s with cal := { s.cal with imm := s.cal.imm.filter fun x => !serialGe 32 seq x.seq } }

/-- The tap step at 750 ns into the overhead (R115). -/
def State.tapInstant (s : State) : State :=
  match s.running with
  | none => s
  | some p =>
    let x := p.began.getD 0
    if p.tapDone || !p.rotDone || decide (s.clock.tt < x + 750) then s else ((s.takeImm p.seq).tapStepAt x).modRunning fun p => { p with tapDone := true }

/-! ## Calibration cycles (R110 to R114) -/

/-- A desired tap limited to its range, and whether it was clamped (R112). -/
def limitTap (lo hi x : Int) : Int × Bool := (clampInt lo hi x, decide (clampInt lo hi x ≠ x))

/-- The desired tap of a batch (R110): `mean` and `m0` in units of 2⁻⁸ of a 12-bit code. -/
def desiredTap (batch : Nat) (mean m0 : Int) (w : Word) : Int × Bool :=
  match batch % 3 with
  | 0 => limitTap (-64) 63 ((tapsOf w).ofs - roundDiv (16 * mean) 256)
  | 1 => limitTap (-64) 63 ((tapsOf w).gain - roundDiv ((mean - m0 - 3584 * 256) * 100000) (256 * 14336))
  | _ => limitTap 0 63 ((tapsOf w).dly - roundDiv (mean - 2048 * 256) (64 * 256))

/-- The mean of first and repeat, a half rounded toward the applied tap (R113). -/
def meanTap (a b applied : Int) : Int :=
  let lo := (a + b) / 2
  if (a + b) % 2 = 0 ∨ applied ≤ lo then lo else lo + 1

/-- The two measurements agree within 2 taps (R113). -/
def agrees (a b : Triple) : Bool :=
  decide ((a.ofs - b.ofs).natAbs ≤ 2) && decide ((a.gain - b.gain).natAbs ≤ 2) && decide ((a.dly - b.dly).natAbs ≤ 2)

/-- Report of UNSTABLE and RANGE in a converter's record (R112, R114). -/
def State.showRec (s : State) (i : Nat) : State :=
  (s.setB (Reg.CAL_REC i) Fld.CAL_REC_UNSTABLE (s.cal.unstable.any fun n => n / 5 == i)).setB (Reg.CAL_REC i) Fld.CAL_REC_RANGE
    (s.cal.clamped.any fun n => n / 5 == i)

/-- An accepted result (R113, R117, R120): new targets, and the converter's record. -/
def State.acceptCycle (s : State) (i : Nat) (a b : Triple) (clamped : Bool) : State :=
  let sl := s.spareOf i
  let n := 5 * i + sl
  let w := s.reg (tapAddr n)
  let t := tapsOf w
  let s := s.setTap (tapAddr n) (withTargets w ⟨meanTap a.ofs b.ofs t.ofs, meanTap a.gain b.gain t.gain, meanTap a.dly b.dly t.dly⟩)
  let s : State := { s with
    cal := { s.cal with
      full := if Fld.CAL_TAP_ACQ.get w = 1 then s.cal.full else mark s.cal.full n true
      clamped := mark s.cal.clamped n clamped
      unstable := mark s.cal.unstable n false } }
  let s := s.addF (Reg.CAL_REC i) Fld.CAL_REC_COUNT 1
  let s := s.setF (Reg.CAL_REC i) Fld.CAL_REC_LAST_SLICE sl
  let s := s.setF (Reg.CAL_REC i) Fld.CAL_REC_REJ_RUN 0
  let s := s.setReg (Reg.CAL_TIME i) s.stamp
  (s.addF Reg.CAL_CNT Fld.CAL_CNT_ACCEPTED 1).showRec i

/-- A rejected cycle (R114). UNSTABLE of CAL_STATUS is set at every rejection of a slice at or beyond the limit, also where it has been acknowledged (DESIGN CHOICE, log entry 76). -/
def State.rejectCycle (s : State) (i : Nat) : State :=
  let s := s.satF Reg.CAL_CNT Fld.CAL_CNT_REJECTED 1
  let s := s.satF (Reg.CAL_REC i) Fld.CAL_REC_REJ_RUN 1
  if max 1 (s.u Reg.CAL_CFG Fld.CAL_CFG_REJ_LIMIT) ≤ s.f (Reg.CAL_REC i) Fld.CAL_REC_REJ_RUN then
    (({ s with cal := { s.cal with unstable := mark s.cal.unstable (5 * i + s.spareOf i) true } } : State).setB
      Reg.CAL_STATUS Fld.CAL_STATUS_UNSTABLE true).showRec i
  else s

/-- Length of a batch in 1/16 ns: 2^AVG slice periods of the depth in force (R110, R111, R126). -/
def State.batchSpan (s : State) : Nat := 2 ^ max 2 (s.u Reg.CAL_CFG Fld.CAL_CFG_AVG) * slicePeriod16 (s.f Reg.CC_STATUS Fld.CC_STATUS_DEPTH_ACT)

/-- The end of the batch in hand of a cycle, in 1/16 ns: its conversions, one in each column step, and the time that injected conversions and restarts of the grid have cost it (R111, R119). -/
def State.batchEnd (s : State) (c : CalCycle) : Nat := c.startAt + s.batchSpan + ((s.calBand (convBand c.conv)).lost - c.lostAt)

/-- The batch in hand of a cycle is complete (R110, R119): its end has come, and no injected conversion that waits for its column step has interrupted it. -/
def State.batchOver (s : State) (c : CalCycle) : Bool :=
  decide (s.batchEnd c ≤ 16 * s.clock.tt) &&
    !s.cc.inj.any fun j => j.band == convBand c.conv && j.startAt.isNone && decide (j.brk < s.batchEnd c)

/-- A cycle with its batch taken: its mean, the desired tap that follows, and whether that was clamped (R110, R112). -/
def CalCycle.take (c : CalCycle) (mean d : Int) (clamped : Bool) (next lost : Nat) : CalCycle :=
  let cur : Triple := match c.batch % 3 with
    | 0 => { c.cur with ofs := d }
    | 1 => { c.cur with gain := d }
    | _ => { c.cur with dly := d }
  { c with
    batch := c.batch + 1, m0 := if c.batch % 3 = 0 then mean else c.m0, cur := cur, first := if c.batch = 2 then cur else c.first,
    clamped := c.clamped || clamped, startAt := next, lostAt := lost }

/-- A batch on the spare of converter `i` is over, with its mean in units of 2⁻⁸ of a 12-bit code, built-in offset removed (R110): a step that it held back is taken, with the targets as they stood (R115, R116); the sixth batch ends the cycle, and the next one follows back to back. -/
def State.batchDone (s : State) (i : Nat) (mean : Int) : State :=
  let c := s.calCycleOf i
  if s.u Reg.CAL_CFG Fld.CAL_CFG_EN = 0 || !s.batchOver c then s
  else
    let next := s.batchEnd c
    let lost := (s.calBand (convBand i)).lost
    let n := 5 * i + s.spareOf i
    let d := desiredTap c.batch mean c.m0 (s.reg (tapAddr n))
    let s := if d.2 then s.setB Reg.CAL_STATUS Fld.CAL_STATUS_RANGE true else s
    let s := s.releaseSteps fun m => m == n
    let c' := c.take mean d.1 d.2 next lost
    if c.batch < 5 then s.setCycle c'
    else
      let s := s.setCycle (s.newCycle i next)
      if agrees c'.first c'.cur then s.acceptCycle i c'.first c'.cur c'.clamped else s.rejectCycle i

/-! ## The commands -/

/-- INJ_REQ (R97). -/
def execInjReq (t : Nat) (src : Src) (bands : BitVec 32) (refsel : Fin 4) (s : State) : Result :=
  .next ((s.advance t).managed src fun s => s.requestBands bands.toNat refsel.val)

/-- INJECTED_CONVERSION_START (R97). -/
def execInjectedConversionStart (t : Nat) (band : Fin 32) (s : State) : Result := .next ((s.advance t).injStart band.val)

/-- INJECTED_RESULT (R97): the band's converters give `code`, scaled to 12 bit, but for those that `others` lists. -/
def execInjectedResult (t : Nat) (band : Fin 32) (code : Fin 4096) (others : List (Nat × Nat)) (s : State) : Result :=
  .next ((s.advance t).injResult ⟨band.val, code.val, 0, others.map fun p => (p.1, p.2 % 4096)⟩)

/-- SLICE_ROTATION (R94). -/
def execSliceRotation (t : Nat) (s : State) : Result := .next (s.advance t).rotation

/-- TAP_STEP (R115). -/
def execTapStep (t : Nat) (s : State) : Result := .next (s.advance t).tapInstant

/-- CAL_BATCH_DONE (R110). -/
def execCalBatchDone (t : Nat) (conv : Fin 33024) (mean : Int) (s : State) : Result := .next ((s.advance t).batchDone conv.val mean)

end Sys2Proof.Machine
end

