-- ==== Sys2Proof/Machine/Stages.lean ====
section
/-! DEFINITION. The arithmetic of the image pipeline on one pixel, line or context (R155 to R172): sample codes (R89, R156), noise reduction (R160 to R162), the black clamp (R164 to R166), per-cluster offset and gain (R167), defect replacement (R168), the HDR merge (R169), exposure normalisation (R170), binning (R171) and companding (R172). Values between stages are integers; black levels are in units of 2⁻¹⁶ raw. -/

namespace Sys2Proof.Machine

/-! ## Samples -/

/-- The parasitic light sensitivity of a store: light that falls on it adds one electron where it would give 40,000 to the photodiode (R38, R47). -/
def parasitic : Nat := 40000

/-- The code of a charge in units of 1/40,000 e⁻ (R89): depth `n`, gain bit, pedestal in 12-bit codes. -/
def sampleFine (n gain pedestal q : Nat) : Nat :=
  min (2 ^ n - 1) (roundNat ((2 ^ n - 1) * q) ((if gain = 1 then 4000 else 16000) * parasitic) + pedestal / 2 ^ (12 - n))

/-- The code of a charge in e⁻ (R89). -/
def sampleOf (n gain pedestal q : Nat) : Nat := sampleFine n gain pedestal (parasitic * q)

/-- A code of depth `n` in raw units (R156). -/
def rawOf (n code : Nat) : Nat := code * 2 ^ (16 - n)

/-- What the stages need of a pass, gathered once: settings, active contexts, depth, the charge of nothing as a code, delivered samples, black levels, drift and defects. -/
structure View where
  st : RegFile
  ctxs : List Nat
  pass : Pass
  n : Nat
  zero : Nat
  samples : NatMap
  defects : List (Nat × Nat)
  colour : Bool
  seams : List SeamRow
deriving DecidableEq, Repr

/-- Defect entries of a setting bank in use (R168). -/
def defectList (st : RegFile) : List (Nat × Nat) :=
  (st.filter fun p => decide (0x1004000 ≤ p.1) && decide (p.1 < 0x100C000) && Fld.PIPE_DEFECT_VALID.get p.2 == 1).map fun p =>
    (Fld.PIPE_DEFECT_X.get p.2, Fld.PIPE_DEFECT_Y.get p.2)

/-- A sample belongs to a pass. -/
def Sample.ofPass (a : Sample) (p : Pass) : Bool := a.seq == p.seq && a.cont == p.cont && a.strip == p.strip

/-- The samples of a pass: those in the stripes and those still on the bridge, by 2 × pixel key (plus one for store B) (R92). -/
def State.samplesOf (s : State) (p : Pass) : NatMap :=
  (s.cc.link.filter (·.ofPass p)).foldl (fun m x => m.put (2 * x.key + (if x.inB then 1 else 0)) (x.code + 1))
    (((s.pipe.samples.find? fun x => x.seq == p.seq && x.cont == p.cont && x.strip == p.strip).map (·.vals)).getD [])

/-- The view of a pass. -/
def State.view (s : State) (p : Pass) : View :=
  let st := s.bank p.bank
  let n := convBits p.depth
  { st := st, ctxs := activeCtxs st, pass := p, n := n, zero := sampleOf n 0 (st.fld Reg.CC_CFG Fld.CC_CFG_PEDESTAL) 0,
    samples := s.samplesOf p, defects := defectList st, colour := s.colour,
    seams := s.pipe.seams.filter fun r => decide ((centred 64 ((r.start : Int) - (s.fabAt p.shot.s).toNat)).natAbs ≤ 16) }

/-- A slot is read from store B (R41, R130). -/
def View.inB (v : View) (slot : Nat) : Bool := if v.pass.dual then slot == 1 else v.pass.store == 1

/-- The gain at which a slot's store is read (R40, R41). -/
def View.gain (v : View) (slot : Nat) : Nat :=
  if v.inB slot then v.st.fld Reg.TT_PIX_CFG Fld.TT_PIX_CFG_GAIN_B else v.st.fld Reg.TT_PIX_CFG Fld.TT_PIX_CFG_GAIN_A

/-- The raw value of in-cluster pixel (row, col) of converter `i` (R156); a pixel without a sample holds no charge. -/
def View.rawAt (v : View) (slot i row col : Nat) : Nat :=
  let c := v.samples.get (2 * pixKey i row col + (if v.inB slot then 1 else 0))
  rawOf v.n (if c = 0 then v.zero else c - 1)

/-- The raw value of active pixel (x, y). -/
def View.raw (v : View) (slot x y : Nat) : Nat := v.rawAt slot (convOf x y) (y % 64) (x % 64)

/-- The row mask of the cluster of an active pixel. -/
def View.mask (v : View) (x y : Nat) : Nat := clusterMask v.st v.ctxs (x / 64) (y / 64)

/-- The row of an active pixel is converted in this pass (R138). -/
def View.converted (v : View) (x y : Nat) : Bool := hasBit (v.mask x y) (y % 64)

/-- Mosaic phase (R164). -/
def phaseOf (x y : Nat) : Nat := 2 * (y % 2) + x % 2

/-- Key of a black level. -/
def blackKeyOf (band slot phase : Nat) : Nat := 8 * band + 4 * slot + phase

/-- A black level of the pass in units of 2⁻¹⁶ raw. -/
def View.black (v : View) (band slot phase : Nat) : Int := Sparse.get (fun _ => 0) v.pass.black (blackKeyOf band slot phase)

/-! ## Stages 2 and 3 -/

/-- Limits of raw values between stages 2 and 4: 16 magnitude bits and a sign (R156). -/
def satRaw (x : Int) : Int := clampInt (-65535) 65535 x

/-- Saturation of linear units (R156). -/
def satLin (x : Int) : Int := clampInt (-131072) 16777215 x

/-- 1,032 × 16 × d_b(q) ÷ 16, the drift of a band at row slot `q` as a sum of codes (R165). -/
def View.driftSum (v : View) (band q : Nat) : Int :=
  if v.st.on Reg.PIPE_CLAMP Fld.PIPE_CLAMP_TRACK then
    let l := v.pass.drift.filter fun d => d.band == band && decide (d.slot ≤ q)
    match l.find? fun d => d.slot == 0, l.getLast? with
    | some a, some b => (b.sum : Int) - (a.sum : Int)
    | _, _ => 0
  else 0

/-- Stage 2 on a value (R166). -/
def clampStage (x : Int) (black drift : Int) : Int := satRaw (roundDiv ((x * 65536 - black) * 1032 - drift * 16 * 65536) (65536 * 1032))

/-- The row slot in which row `row` of a mask converts (R138). -/
def slotOfRow (mask row : Nat) : Nat := if mask = 2 ^ 64 - 1 then row else popCount 64 (mask % 2 ^ row)

/-- Stage 2 of a value of active pixel (x, y) (R166). -/
def View.stage2 (v : View) (slot x y : Nat) (value : Int) : Int :=
  clampStage value (v.black (bandOf (x / 64)) slot (phaseOf x y)) (v.driftSum (bandOf (x / 64)) (slotOfRow (v.mask x y) (y % 64)))

/-- Stage 3 with the entry of converter `i` (R167). -/
def fpnStage (st : RegFile) (gain i : Nat) (value : Int) : Int :=
  let w := st.word (Reg.PIPE_FPN i)
  let o := if gain = 1 then Fld.PIPE_FPN_OFS_HG.sget w else Fld.PIPE_FPN_OFS_LG.sget w
  let g := if gain = 1 then Fld.PIPE_FPN_GAIN_HG.get w else Fld.PIPE_FPN_GAIN_LG.get w
  satRaw (roundDiv ((value - o) * g) 16384)

/-- Stage 3 of a value of active pixel (x, y). -/
def View.stage3 (v : View) (slot x y : Nat) (value : Int) : Int := fpnStage v.st (v.gain slot) (convOf x y) value

/-- The correction path's value after stages 2 and 3 (R173). -/
def View.plain (v : View) (slot x y : Nat) : Int := v.stage3 slot x y (v.stage2 slot x y (v.raw slot x y))

/-! ## Stage 1 -/

/-- A listed defect (R168). -/
def View.defect (v : View) (x y : Nat) : Bool := v.defects.contains (x, y)

/-- Pixel (x, y) lies within the coverage of context `c` (R136). -/
def View.covers (v : View) (c x y : Nat) : Bool :=
  let k := coverOf v.st c
  decide (k.1 ≤ x) && decide (x ≤ k.2.1) && decide (k.2.2.1 ≤ y) && decide (y ≤ k.2.2.2)

/-- The seam row that stands beside row `y` on a side (R178), if it has come. -/
def View.seamRow (v : View) (right : Bool) (slot y : Nat) : Option SeamRow :=
  v.seams.find? fun r => r.right == right && r.slot == slot && r.row == y

/-- A neighbour's value in units of 2⁻¹⁶ raw at column `x` (which may lie on a seam) and row `y`, if it is available (R160, R178). -/
def View.neighbour (v : View) (c slot : Nat) (x y : Int) : Option Int :=
  if y < 0 ∨ (numRows : Int) ≤ y then none
  else
    let ny := y.toNat
    if 0 ≤ x ∧ x < (numCols : Int) then
      let nx := x.toNat
      if v.covers c nx ny && v.converted nx ny && !v.defect nx ny then some (v.raw slot nx ny * 65536) else none
    else
      let right := decide (0 ≤ x)
      if v.st.on Reg.PIPE_CFG (if right then Fld.PIPE_CFG_SEAM_R else Fld.PIPE_CFG_SEAM_L) then
        let k := if right then (x - 16384).toNat else (x + 64).toNat
        match v.seamRow right slot ny with
        | none => none
        | some r =>
          if k < 64 then some (r.vals.getD k 0 * 65536 + v.black (if right then 31 else 0) slot (phaseOf (x % 2).toNat ny)) else none
      else none

/-- Offsets and weights of the spatial filter (R160). -/
def kernel (colour : Bool) : List (Int × Int × Int) :=
  if colour then
    [(-2, 1), (0, 2), (2, 1)].flatMap fun (a : Int × Int) => [(-2, 1), (0, 2), (2, 1)].map fun (b : Int × Int) => (a.1, b.1, a.2 * b.2)
  else
    [(-2, 1), (-1, 4), (0, 6), (1, 4), (2, 1)].flatMap fun (a : Int × Int) =>
      [(-2, 1), (-1, 4), (0, 6), (1, 4), (2, 1)].map fun (b : Int × Int) => (a.1, b.1, a.2 * b.2)

/-- The spatial filter at active pixel (x, y) for context `c` (R160). -/
def View.spatial (v : View) (c slot x y : Nat) : Int :=
  let x0 : Int := v.raw slot x y
  let thr : Int := v.st.fld Reg.PIPE_NR Fld.PIPE_NR_S_THR
  let r := (kernel v.colour).foldl (fun (a : Int × Nat) (k : Int × Int × Int) =>
    if k.1 = 0 ∧ k.2.1 = 0 then (a.1 + k.2.2 * x0 * 65536, a.2 + k.2.2.toNat)
    else
      match v.neighbour c slot ((x : Int) + k.1) ((y : Int) + k.2.1) with
      | none => a
      | some z => if ((z - x0 * 65536).natAbs : Int) ≤ thr * 65536 then (a.1 + k.2.2 * z, a.2 + k.2.2.toNat) else a) (0, 0)
  roundDiv r.1 (65536 * r.2)

/-- The temporal filter (R161, R162): a value, the stored value, the black levels then in 2⁻¹⁶ raw, the cluster exposures now and then, the motion threshold and the strength. -/
def temporal (x h black : Int) (now then' thr k : Nat) : Int :=
  let den : Nat := 65536 * then'
  let num : Int := black * ((then' : Int) - now) + h * 65536 * now
  if (thr : Int) * den ≤ ((x * den - num).natAbs : Int) then x else roundDiv (num * (2 ^ k - 1) + x * den) (den * 2 ^ k)

/-- What stage 1 needs of a history: the settings of its frame, the store that frame exposed into, its black levels and the codes of one line. -/
structure HistLine where
  settings : RegFile
  inB : Bool
  black : List (Nat × Int)
  bits : Nat
  codes : List Nat
deriving DecidableEq, Repr

/-- Stage 1 at active pixel (x, y) of context `c` (R160, R161); `h` is the history of that row, if there is one. -/
def View.stage1 (v : View) (c slot x y : Nat) (h : Option HistLine) : Int :=
  let s := if v.st.on (Reg.CTX_CTL c) Fld.CTX_CTL_NR_S then v.spatial c slot x y else (v.raw slot x y : Int)
  match h with
  | none => s
  | some l =>
    let x0 := (ctxWin v.st c).x0
    if x < x0 ∨ l.codes.length ≤ x - x0 then s
    else
      temporal s (rawOf l.bits (l.codes.getD (x - x0) 0)) (Sparse.get (fun _ => 0) l.black (blackKeyOf (bandOf (x / 64)) slot (phaseOf x y)))
        (clusterExposure v.st (convOf x y) (slot == 1) (v.inB slot)) (clusterExposure l.settings (convOf x y) (slot == 1) l.inB)
        (v.st.fld Reg.PIPE_NR Fld.PIPE_NR_M_THR) (min 4 (v.st.fld Reg.PIPE_NR Fld.PIPE_NR_K_SHIFT))

/-! ## Stage 4 -/

/-- History of a context and slot by pixel row. -/
abbrev HistOf := List (Nat × HistLine)

/-- The history of row `y`. -/
def HistOf.row (h : HistOf) (y : Nat) : Option HistLine := (h.find? fun p => p.1 == y).map (·.2)

/-- The value after stage 3 for context `c` (R168): through stage 1 inside its coverage, from the correction path outside. -/
def View.upTo3 (v : View) (c slot x y : Nat) (h : HistOf) : Int :=
  if v.covers c x y then v.stage3 slot x y (v.stage2 slot x y (v.stage1 c slot x y (h.row y))) else v.plain slot x y

/-- A replacement candidate counts: active, converted and not listed (R168). -/
def View.candidate (v : View) (x y : Int) : Bool :=
  decide (0 ≤ x) && decide (x < (numCols : Int)) && decide (0 ≤ y) && decide (y < (numRows : Int)) &&
    v.converted x.toNat y.toNat && !v.defect x.toNat y.toNat

/-- Mean of the one or two candidates that count, if any (R168). -/
def View.pairMean (v : View) (c slot : Nat) (h : HistOf) (a b : Int × Int) : Option Int :=
  let val := fun (p : Int × Int) => v.upTo3 c slot p.1.toNat p.2.toNat h
  match v.candidate a.1 a.2, v.candidate b.1 b.2 with
  | true, true => some (roundDiv (val a + val b) 2)
  | true, false => some (val a)
  | false, true => some (val b)
  | false, false => none

/-- Stage 4 (R168): the value, and whether a listed pixel found no candidate. -/
def View.stage4 (v : View) (c slot x y : Nat) (h : HistOf) : Int × Bool :=
  if v.defect x y then
    let d : Int := if v.colour then 2 else 1
    match v.pairMean c slot h ((x : Int) - d, y) ((x : Int) + d, y) with
    | some z => (z, false)
    | none =>
      match v.pairMean c slot h (x, (y : Int) - d) (x, (y : Int) + d) with
      | some z => (z, false)
      | none => (v.upTo3 c slot x y h, true)
  else (v.upTo3 c slot x y h, false)

/-! ## Stages 5 and 6 -/

/-- Stage 5 (R169): slots A and B of a pixel of a cluster with realised exposures `ea` and `eb`. -/
def merge (st : RegFile) (a b : Int) (ea eb : Nat) : Int :=
  let lo : Int := st.fld Reg.PIPE_HDR Fld.PIPE_HDR_KNEE_LO
  let hi : Int := st.fld Reg.PIPE_HDR Fld.PIPE_HDR_KNEE_HI
  let ratio := st.fld Reg.PIPE_HDR Fld.PIPE_HDR_GAIN_RATIO
  let ga := st.fld Reg.TT_PIX_CFG Fld.TT_PIX_CFG_GAIN_A
  let gb := st.fld Reg.TT_PIX_CFG Fld.TT_PIX_CFG_GAIN_B
  let g : Nat × Nat := if ga = gb then (1, 1) else if ga = 1 then (ratio, 8192) else (8192, ratio)
  let wd : Int := if hi ≤ lo then 1 else hi - lo
  let wn : Int := if hi ≤ lo then (if a < lo then 0 else 1) else clampInt 0 (hi - lo) (a - lo)
  if wn = 0 then satLin a
  else if g.2 = 0 then satLin (Config.mergeRatio a b)
  else satLin (roundDiv ((wd - wn) * a * (eb * g.2 : Nat) + wn * b * (ea * g.1 : Nat)) (wd.toNat * eb * g.2))

/-- Stage 6 (R170): base exposure `e`, realised exposure `ec`. -/
def normalise (on : Bool) (e ec : Nat) (x : Int) : Int := if on then satLin (roundDiv (x * roundNat (65536 * e) ec) 65536) else x

/-- Stages 4 to 6 of active pixel (x, y) for context `c` (R168 to R170), with the histories of slots A and B. -/
def View.linear (v : View) (c x y : Nat) (ha hb : HistOf) : Int × Bool :=
  let i := convOf x y
  let on := v.st.on Reg.PIPE_CFG Fld.PIPE_CFG_NORM_EN
  match v.st.fld (Reg.CTX_CTL c) Fld.CTX_CTL_SLOT with
  | 2 =>
    let a := v.stage4 c 0 x y ha
    let b := v.stage4 c 1 x y hb
    let ea := clusterExposure v.st i false (v.inB 0)
    (normalise on (expA v.st) ea (merge v.st a.1 b.1 ea (clusterExposure v.st i true (v.inB 1))), a.2 || b.2)
  | 1 =>
    let b := v.stage4 c 1 x y hb
    (normalise on (expB v.st) (clusterExposure v.st i true (v.inB 1)) b.1, b.2)
  | _ =>
    let a := v.stage4 c 0 x y ha
    (normalise on (expA v.st) (clusterExposure v.st i false (v.inB 0)) a.1, a.2)

/-! ## Stages 7 and 8 -/

/-- Sum or mean of a block (R171). -/
def binStage (sum : Bool) (vs : List Int) : Int :=
  if vs.isEmpty then 0 else if sum then satLin vs.sum else satLin (roundDiv vs.sum vs.length)

/-- The curve of a context's setting (R172). -/
def curve (st : RegFile) (k : Nat) (value : Int) : Nat :=
  let x := (max 0 (value + st.fld (Reg.PIPE_CURVE_OFS k) Fld.PIPE_CURVE_OFS_OFFSET)).toNat
  let knot := fun i => let w := st.word (Reg.PIPE_CURVE k i); (Fld.PIPE_CURVE_X.get w, Fld.PIPE_CURVE_Y.get w)
  if x < (knot 0).1 then (knot 0).2
  else
    match (List.range 33).find? fun i => decide (x < (knot i).1) with
    | none => (knot 32).2
    | some 0 => (knot 0).2
    | some (i + 1) =>
      let a := knot i
      let b := knot (i + 1)
      (a.2 + roundDiv (((b.2 : Int) - a.2) * ((x : Int) - a.1)) (b.1 - a.1)).toNat

/-- Stage 8: the output code at depth `n` (R172). -/
def compand (st : RegFile) (k n : Nat) (value : Int) : Nat :=
  let y := curve st k value
  if n = 16 then y else min (2 ^ n - 1) (roundNat y (2 ^ (16 - n)))

/-! ## A whole output line -/

/-- Input rows of output line `i` of context `c`, inside the window (R171). -/
def lineRows (st : RegFile) (colour : Bool) (c i : Nat) : List Nat :=
  let w := ctxWin st c
  ((blockSites colour (binFactor (st.fld (Reg.CTX_CTL c) Fld.CTX_CTL_BIN)) i).filter fun k => decide (k < w.h)).map fun k => w.y0 + k

/-- Input columns of output column `u` of context `c`, inside the window (R171). -/
def lineCols (st : RegFile) (colour : Bool) (c u : Nat) : List Nat :=
  let w := ctxWin st c
  ((blockSites colour (binFactor (st.fld (Reg.CTX_CTL c) Fld.CTX_CTL_BIN)) u).filter fun k => decide (k < w.w)).map fun k => w.x0 + k

/-- The output codes of line `i` of context `c` in a pass, and its unrepaired defects (R155). -/
def View.outLine (v : View) (c i : Nat) (ha hb : HistOf) : List Nat × Nat :=
  let w := ctxWin v.st c
  let rows := lineRows v.st v.colour c i
  let lines := rows.map fun y => (List.range w.w).map fun k => v.linear c (w.x0 + k) y ha hb
  let sum := v.st.on Reg.PIPE_CFG Fld.PIPE_CFG_BIN_SUM
  let k := v.st.fld (Reg.CTX_CTL c) Fld.CTX_CTL_CURVE
  let n := outBits v.st c
  let codes := (List.range (outWidth v.st c)).map fun u =>
    compand v.st k n (binStage sum (lines.flatMap fun l => (lineCols v.st v.colour c u).map fun x => (l.getD (x - w.x0) (0, false)).1))
  (codes, ((lines.flatten).filter (·.2)).length)

end Sys2Proof.Machine
end

