-- ==== Sys2Proof/Machine/Convert.lean ====
section
/-! DEFINITION. A conversion pass (R51, R90, R91): its start with the frame's black levels (R164), the row slots with the codes of the charge they read (R89, R138), the tracker's requests (R165), the stripes' load and the frames it cuts (R157, R158), the delivery of samples (R92), and its end with the mean map (R174). The commands CONVERSION_PASS_START, ROW_SLOT_START, SAMPLE_DELIVERY and CONVERSION_END. -/

namespace Sys2Proof.Machine

/-! ## Black levels (R164) -/

/-- The slots that a pass reads. -/
def passSlots (p : Pass) : List Nat := if p.dual then [0, 1] else [0]

/-- The charge that a slot of a pass reads. -/
def State.slotStore (s : State) (v : View) (slot : Nat) : NatMap := if v.inB slot then s.px.storeB else s.px.storeA

/-- Sum and number of a list of raw values with `rest` more of value `z`, of those that satisfy `ok`. -/
def tally (ok : Nat → Bool) (l : List Nat) (rest z : Nat) : Nat × Nat :=
  let k := l.filter ok
  (k.sum + (if ok z then rest * z else 0), k.length + (if ok z then rest else 0))

/-- The new black level of a phase from its dark samples (R164): raw values listed and the number of others, the previous level if it stands, REJ, TC, and the value taken for m where there is no sample. -/
def blackLevel (listed : List Nat) (rest z : Nat) (prev : Option Int) (rej tc free : Nat) : Int :=
  let all := tally (fun _ => true) listed rest z
  let near := match prev with
    | none => all
    | some b => tally (fun x => decide (((x : Int) * 65536 - b).natAbs ≤ rej * 65536)) listed rest z
  let m := if all.2 = 0 then (free, 1) else if near.2 = 0 then all else near
  match prev with
  | none => roundDiv (m.1 * 65536 : Nat) m.2
  | some b => roundDiv (b * (m.2 * (2 ^ tc - 1) : Nat) + (m.1 * 65536 : Nat)) (m.2 * 2 ^ tc)

/-- The epoch of the frame of a pass (R122). -/
def State.passEpoch (s : State) (p : Pass) : Nat :=
  match s.tt.frames.find? fun f => f.seq == p.seq && f.cont == p.cont with
  | some f => manGet f.man Man.EPOCH
  | none => s.f Reg.CAL_EPOCH Fld.CAL_EPOCH_EPOCH

/-- What the levels of a slot belong to (R164): the gain, the depth and the epoch of the last pass that read it. -/
def State.blackKeyNow (s : State) (v : View) (slot : Nat) : List Nat := [v.gain slot, v.pass.depth, s.passEpoch v.pass]

/-- The levels of a slot restart (R164). -/
def State.blackRestarts (s : State) (v : View) (slot : Nat) : Bool :=
  decide ((s.pipe.blackKey.find? fun k => k.1 == slot).map (·.2) ≠ some (s.blackKeyNow v slot))

/-- Charge entries of a band's dark clusters that a pass reads, as row, column and charge. -/
def darkEntries (m : NatMap) (band rows : Nat) : List (Nat × Nat × Nat) :=
  (m.filter fun e => decide (4096 * (32768 + 8 * band) ≤ e.1) && decide (e.1 < 4096 * (32768 + 8 * band + 8)) && decide (e.1 / 64 % 64 < rows)).map
    fun e => (e.1 / 64 % 64, e.1 % 64, e.2)

/-- The black levels of the four phases of a band in a slot (R164). -/
def State.bandBlack (s : State) (v : View) (slot band : Nat) : List (Nat × Int) :=
  let rows := darkRows v.st band
  let ped := v.st.fld Reg.CC_CFG Fld.CC_CFG_PEDESTAL
  let es := darkEntries (s.slotStore v slot) band rows
  (List.range 4).map fun ph =>
    let listed := (es.filter fun e => phaseOf e.2.1 e.1 == ph).map fun e => rawOf v.n (sampleOf v.n (v.gain slot) ped e.2.2)
    let count := 8 * 32 * ((rows + 1 - ph / 2) / 2)
    let key := blackKeyOf band slot ph
    let prev := if s.blackRestarts v slot then none else Sparse.look s.pipe.black key
    (key, blackLevel listed (count - listed.length) (rawOf v.n v.zero) prev (v.st.fld Reg.PIPE_CLAMP Fld.PIPE_CLAMP_REJ)
      (v.st.fld Reg.PIPE_CLAMP Fld.PIPE_CLAMP_TC) (Config.freeNat (s.free + key) % 65536))

/-- The black levels of a pass, in the order of their keys. -/
def State.passBlack (s : State) (v : View) : List (Nat × Int) :=
  (List.range 32).flatMap fun b => (passSlots v.pass).flatMap fun k => s.bandBlack v k b

/-! ## The start of a pass (R51, R90) -/

/-- The oldest pass whose conversion can begin, with its instant: one pass runs at a time. -/
def State.passDue (s : State) : Option (Pass × Nat) :=
  if s.running.isSome then none
  else
    match s.tt.passes.find? fun p => p.began.isNone with
    | none => none
    | some p =>
      let x := max (max (p.shot.e + 128) p.shot.closed) s.cc.lastEnd
      if p.shot.isOpen || decide (s.clock.tt < x) then none else some (p, x)

/-- Replace pass `p` of the list, found by frame and strip. -/
def State.setPass (s : State) (p : Pass) : State :=
  { s with tt := { s.tt with passes := s.tt.passes.map fun q => if q.seq == p.seq && q.cont == p.cont && q.strip == p.strip then p else q } }

/-- A pass begins at `x` (R51, R88, R111, R164). Where the depth changes, the batches under way are discarded, which takes the steps they held back (R116); they run again from row slot 0 on, where the grid of the new depth begins (DEDUCED, log entry 78). -/
def State.beginPass (s : State) (p : Pass) (x : Nat) : State :=
  let moved := s.f Reg.CC_STATUS Fld.CC_STATUS_DEPTH_ACT != p.depth
  let s := if moved then (s.releaseSteps fun _ => true).rerunBatches (16 * (x + 2400)) else s
  let s := s.setF Reg.CC_STATUS Fld.CC_STATUS_DEPTH_ACT p.depth
  let s := s.setF Reg.CC_STATUS Fld.CC_STATUS_ROW_SLOT_NS (rowSlotNs p.depth)
  let s := s.setB Reg.CC_STATUS Fld.CC_STATUS_BUSY true
  let v := s.view p
  let black := s.passBlack v
  let keys := (passSlots p).map fun k => (k, s.blackKeyNow v k)
  let s := s.setPass { p with began := some x, black := black }
  { s with
    free := s.free + 256
    pipe := { s.pipe with
      black := black ++ s.pipe.black.filter fun b => !(black.any fun c => c.1 == b.1)
      blackKey := keys ++ s.pipe.blackKey.filter fun k => !(keys.any fun c => c.1 == k.1) } }

/-- The pass that is due begins. -/
def State.passStart (s : State) : State :=
  match s.passDue with
  | none => s
  | some (p, x) => s.beginPass p x

/-! ## Stripe load (R157, R158) -/

/-- The in-cluster row that converts in row slot `q` (R138). -/
def rowAt (mask q : Nat) : Option Nat := if mask = 2 ^ 64 - 1 then (if q < 64 then some q else none) else (rowList mask)[q]?

/-- Window pixels of context `c` in cluster column `cx` and on pixel row `y`, counted for both slots where it merges them (R157). -/
def pixelsOf (st : RegFile) (c cx y : Nat) : Nat :=
  let w := ctxWin st c
  if w.y0 ≤ y ∧ y < w.y0 + w.h then
    (min (64 * cx + 64) (w.x0 + w.w) - max (64 * cx) w.x0) * (if st.fld (Reg.CTX_CTL c) Fld.CTX_CTL_SLOT = 2 then 2 else 1)
  else 0

/-- L_q of context `c` in a stripe (R157). -/
def View.load (v : View) (c stripe q : Nat) : Nat :=
  let w := ctxWin v.st c
  let cols := ((List.range 16).map (16 * stripe + ·)).filter fun cx => decide (64 * cx < w.x0 + w.w) && decide (w.x0 < 64 * cx + 64)
  cols.foldl (fun n cx =>
    (List.range 128).foldl (fun n cy =>
      if 64 * cy < w.y0 + w.h ∧ w.y0 < 64 * cy + 64 then
        (match rowAt (clusterMask v.st v.ctxs cx cy) q with
         | none => n
         | some r => n + pixelsOf v.st c cx (64 * cy + r))
      else n) n) 0

/-- Rank of a context: class P before N before B, then its number (R157). -/
def rankOf (st : RegFile) (c : Nat) : Nat :=
  (match st.fld (Reg.CTX_CTL c) Fld.CTX_CTL_CLASS with | 1 => 0 | 0 => 4096 | _ => 8192) + c

/-- Contexts with a backlog or load in rising rank. -/
def byRank (st : RegFile) (l : List Nat) : List Nat := l.mergeSort fun a b => decide (rankOf st a ≤ rankOf st b)

/-- Shares of a stripe's time that a context-pixel takes, of 32 in a ns: two at 12-bit conversion, one in paired mode (R28, R157). -/
def pixelCost (depth : Nat) : Nat := if depth = 1 then 2 else 1

/-- Key of the backlog of context `c` in a stripe, from conversions at a cost. -/
def backKey (stripe c cost : Nat) : Nat := 2 * (4096 * stripe + c) + (cost - 1)

/-- Stripe, context and cost of a backlog key. -/
def backStripe (k : Nat) : Nat := k / 8192
def backCtx (k : Nat) : Nat := k / 2 % 4096
def backCost (k : Nat) : Nat := k % 2 + 1

/-- Serve a stripe for `n` shares of its time, in the order of the contexts (R157). -/
def serve (m : NatMap) (stripe n : Nat) (order : List Nat) : NatMap :=
  ((order.flatMap fun c => [(backKey stripe c 2, 2), (backKey stripe c 1, 1)]).foldl (fun (a : NatMap × Nat) k =>
    let d := min (a.2 / k.2) (a.1.get k.1)
    (a.1.put k.1 (a.1.get k.1 - d), a.2 - k.2 * d)) (m, n)).1

/-- Backlog of a stripe in context-pixels. -/
def stripeTotal (m : NatMap) (stripe : Nat) : Nat := (m.filter fun e => backStripe e.1 == stripe).foldl (fun n e => n + e.2) 0

/-- Time in ns in which a stripe works off its backlog of the contexts that satisfy `p`. -/
def workTime (m : NatMap) (stripe : Nat) (p : Nat → Bool) : Nat :=
  ceilDiv ((m.filter fun e => backStripe e.1 == stripe && p (backCtx e.1)).foldl (fun n e => n + backCost e.1 * e.2) 0) 32

/-- Contexts with backlog in a stripe. -/
def stripeCtxs (m : NatMap) (stripe : Nat) : List Nat := ((m.filter fun e => backStripe e.1 == stripe).map fun e => backCtx e.1).eraseDups

/-- Context-pixels of a line in a stripe (R157). -/
def linePixels (st : RegFile) (c stripe : Nat) : Nat :=
  let w := ctxWin st c
  (min (1024 * stripe + 1024) (w.x0 + w.w) - max (1024 * stripe) w.x0) * binFactor (st.fld (Reg.CTX_CTL c) Fld.CTX_CTL_BIN) *
    (if st.fld (Reg.CTX_CTL c) Fld.CTX_CTL_SLOT = 2 then 2 else 1)

/-- A line is held in its stripes at `x`: it has not entered 4,000 ns after its share was processed, because a ford is full or the frame store cannot take it (R159, R184, R245; DEDUCED, log entry 79). -/
def Line.heldAt (l : Line) (x : Nat) : Bool := l.parts.any fun p => decide (p.2 + 4000 < x)

/-- Context-pixels of the lines held in a stripe at `x`, which count as backlog (R184, R245). -/
def State.heldPixels (s : State) (stripe x : Nat) : Nat :=
  (s.pipe.lines.filter (·.heldAt x)).foldl (fun n l =>
    match s.progressOf l.ctx l.seq l.cont with
    | some p => n + linePixels p.fixed l.ctx stripe
    | none => n) 0

/-- Cut the frame of context `c` (R158): its lines are discarded, and the frame ends early. Where its pass of the temporal filter had begun, the context's history restarts; the gangway after it frees the berth if it is still to come (R163, R191). A frame that the frame store has dropped was counted then. -/
def State.cutFrame (s : State) (c seq cont : Nat) : State :=
  let hit := fun (p : Progress) => p.ctx == c && p.seq == seq && p.cont == cont
  let newest := s.tt.nextSeq == (seq + 1) % 2 ^ 32
  let counted := s.pipe.progress.any fun p => hit p && p.dropped
  let s : State := { s with
    pipe := { s.pipe with
      backlog := s.pipe.backlog.filter fun e => !(backCtx e.1 == c)
      lines := s.pipe.lines.filter fun l => !(l.ctx == c && l.seq == seq && l.cont == cont)
      waits := s.pipe.waits.filter fun w => !(w.ctx == c && w.seq == seq && w.cont == cont)
      stats := s.pipe.stats.filter fun a => !(a.ctx == c && a.seq == seq && a.cont == cont)
      history := s.pipe.history.map fun h => if h.ctx == c then { h with valid := false, prior := [], spoiled := h.spoiled || newest } else h
      progress := s.pipe.progress.map fun p => if hit p then { p with cut := true } else p } }
  let s := (s.setB Reg.PIPE_STATUS Fld.PIPE_STATUS_OVERLOAD true).satF Reg.PIPE_CNT Fld.PIPE_CNT_OVERLOAD 1
  (if counted then s else s.countDrop c).endDone

/-- A context's frame has lines in a stripe that are not yet processed at `x` (R158): in the backlog, not yet released, or held. -/
def State.inStripe (s : State) (stripe x : Nat) (p : Progress) : Bool :=
  let w := ctxWin p.fixed p.ctx
  !p.cut && !p.ended && decide (w.x0 < 1024 * stripe + 1024) && decide (1024 * stripe < w.x0 + w.w) &&
    (s.tt.passes.any fun q => q.seq == p.seq && q.cont == p.cont && q.began.isSome) &&
    ((stripeCtxs s.pipe.backlog stripe).contains p.ctx || decide (p.released.length < p.total p.fixed) ||
      s.pipe.lines.any fun l => l.ctx == p.ctx && l.seq == p.seq && l.cont == p.cont && l.heldAt x)

/-- The frame of the lowest-ranked context that still has lines in a stripe, its oldest (R158). -/
def State.cutChoice (s : State) (stripe x : Nat) : Option Progress :=
  (s.pipe.progress.filter (s.inStripe stripe x)).foldl (fun a p =>
    match a with
    | none => some p
    | some q => if rankOf q.fixed q.ctx < rankOf p.fixed p.ctx then some p else a) none

/-- Most context-pixels that a stripe holds (R158). -/
def backlogMax : Nat := 1048576

/-- Backlog of a stripe at `x`, held lines included (R157, R158). -/
def State.backOf (s : State) (stripe x : Nat) : Nat := stripeTotal s.pipe.backlog stripe + s.heldPixels stripe x

/-- Cut frames, at most `n` of them, until the stripe's backlog is within its limit. -/
def State.cutTo (s : State) (stripe x : Nat) : Nat → State
  | 0 => s
  | n + 1 =>
    if s.backOf stripe x ≤ backlogMax then s
    else
      match s.cutChoice stripe x with
      | none => s
      | some p => (s.cutFrame p.ctx p.seq p.cont).cutTo stripe x n

/-- The stripes are clocked: loop 1 is not acquiring (R19, R313). -/
def State.stripesRun (s : State) : Bool := !s.flag (Reg.CK_PSTAT 1) Fld.CK_PSTAT_ACQ

/-- Serve a stripe for `n` ns, unless its clock stands still (R157). -/
def State.serveFor (s : State) (st : RegFile) (stripe n : Nat) : State :=
  if s.stripesRun then
    { s with pipe := { s.pipe with backlog := serve s.pipe.backlog stripe (32 * n) (byRank st (stripeCtxs s.pipe.backlog stripe)) } }
  else s

/-- All stripes have been served up to now (R157). -/
def State.settleBack (s : State) : State :=
  let s' := (List.range 16).foldl (fun s' k => s'.serveFor s.use k (s.clock.tt - s.pipe.backAt)) s
  { s' with pipe := { s'.pipe with backAt := max s.pipe.backAt s.clock.tt } }

/-- The load of row slot `q`, which starts at `x`, on one stripe (R157, R158). -/
def State.loadStripe (s : State) (v : View) (q x tRow stripe : Nat) : State :=
  let live := v.ctxs.filter fun k => s.pipe.progress.any fun p => p.ctx == k && p.seq == v.pass.seq && p.cont == v.pass.cont && !p.cut
  let s := s.serveFor v.st stripe (x - s.pipe.backAt)
  let m := live.foldl (fun m k =>
    let a := backKey stripe k (pixelCost v.pass.depth)
    m.put a (m.get a + v.load k stripe q)) s.pipe.backlog
  let s := ({ s with pipe := { s.pipe with backlog := m } } : State).serveFor v.st stripe tRow
  let s := s.cutTo stripe x s.pipe.progress.length
  let b := s.backOf stripe x
  s.modRunning fun p => if p.peak < b then { p with peak := b, peakStripe := stripe } else p

/-- The load of a row slot on all sixteen stripes; the pass keeps the backlog at its end (R157, R159). -/
def State.loadSlot (s : State) (v : View) (q x tRow : Nat) : State :=
  let s := (List.range 16).foldl (fun s k => s.loadStripe v q x tRow k) s
  let s := s.modRunning fun p => { p with backs := p.backs ++ [s.pipe.backlog] }
  { s with pipe := { s.pipe with backAt := x + tRow } }

/-- A stripe holds backlog now (R181). -/
def State.backlogNow (s : State) : Bool :=
  let n := if s.stripesRun then s.clock.tt - s.pipe.backAt else 0
  (List.range 16).any fun k => decide (n < workTime s.pipe.backlog k fun _ => true) || s.heldPixels k s.clock.tt != 0

/-! ## Row slots (R91) -/

/-- A pixel of a charge map converts in row slot `q` of a pass (R33, R138). -/
def View.convertsIn (v : View) (q key : Nat) : Bool :=
  let i := key / 4096
  let row := key / 64 % 64
  if convDark i then row == q && decide (q < darkRows v.st (bandOf (convCx i)))
  else
    let m := clusterMask v.st v.ctxs (convCx i) (convCy i)
    hasBit m row && slotOfRow m row == q

/-- Light on the store of a pixel during its hold, in e⁻ that the photodiode would have taken (R38): `light` lists it by 2 × pixel key (plus one for store B). Dark clusters see none. -/
def lightOn (light : List (Nat × Nat)) (inB : Bool) (key : Nat) : Nat :=
  if convDark (key / 4096) then 0 else ((light.find? fun p => p.1 == 2 * key + (if inB then 1 else 0)).map (·.2)).getD 0

/-- The charge read from a store in units of 1/40,000 e⁻ (R38, R39, R47): what was transferred, and what light has added during the hold. -/
def heldCharge (m : NatMap) (light : List (Nat × Nat)) (inB : Bool) (key : Nat) : Nat :=
  min (storeFull * parasitic) (m.get key * parasitic + lightOn light inB key)

/-- Pixels of a store that hold charge or have seen light. -/
def chargedKeys (m : NatMap) (light : List (Nat × Nat)) (inB : Bool) : List Nat :=
  m.map (·.1) ++ (((light.filter fun p => p.1 % 2 == (if inB then 1 else 0)).map fun p => p.1 / 2).eraseDups.filter fun k =>
    (Sparse.look m k).isNone && decide (k / 4096 < numConv))

/-- The instant, in 1/64 ns, at which the bit decisions of column `col` end in a row slot that starts at `x` ns (R86, R91): column step k, position p, and in dual exposure the steps of store B after those of store A. -/
def View.decided (v : View) (x : Nat) (inB : Bool) (col : Nat) : Nat :=
  let t := slicePeriod16 v.pass.depth
  64 * x + (col / 4 + (if v.pass.dual && inB then 16 else 0)) * 4 * t + col % 4 * t + 64 * decisionsEnd t

/-- Read one slot's row in the row slot that starts at `x`: the codes go to the bridge, each at the end of its bit decisions, and the store is emptied (R38, R86, R89, R92). -/
def State.readRow (s : State) (v : View) (q x : Nat) (light : List (Nat × Nat)) (slot : Nat) : State :=
  let m := s.slotStore v slot
  let inB := v.inB slot
  let ped := v.st.fld Reg.CC_CFG Fld.CC_CFG_PEDESTAL
  let new := ((chargedKeys m light inB).filter (v.convertsIn q)).map fun k =>
    { key := k, inB := inB, depth := v.pass.depth, code := sampleFine v.n (v.gain slot) ped (heldCharge m light inB k),
      seq := v.pass.seq, cont := v.pass.cont, strip := v.pass.strip, at' := v.decided x inB (k % 64) : Sample }
  let left := m.filter fun e => !v.convertsIn q e.1
  { s with
    cc := { s.cc with link := s.cc.link ++ new }
    px := { s.px with storeA := if inB then s.px.storeA else left, storeB := if inB then left else s.px.storeB } }

/-- Time that calibration on band `b` loses where the grid restarts at `x` with the same period (R86): the conversion under way on the spare completes, and the next one waits for the new grid. -/
def State.restartLoss (s : State) (b x : Nat) : Nat :=
  let t := s.cc.gridStep
  if s.cc.inj.any fun j => j.band == b && j.startAt.isNone then 0
  else
    let stop := match s.cc.inj.find? fun j => j.band == b && decide (16 * x < j.doneAt) with
      | some j => j.doneAt
      | none => s.cc.boundary (16 * x - 1)
    ceilDiv (stop - 16 * x) t * t - (stop - 16 * x)

/-- Row slot 0, at `x`, restarts the column-step grid (R86). -/
def State.firstRow (s : State) (v : View) (x : Nat) : State :=
  let t := slicePeriod16 v.pass.depth
  let s := if t = s.cc.gridStep then (List.range 32).foldl (fun s' b => s'.calLose b (s.restartLoss b x)) s else s
  { s with cc := { s.cc with gridAt := 16 * x, gridStep := t } }

/-- The tracker's requests at the start of row slot `q` (R165). -/
def State.track (s : State) (v : View) (q x : Nat) : State :=
  if v.st.on Reg.PIPE_CLAMP Fld.PIPE_CLAMP_TRACK && q % max 1 (v.st.fld Reg.PIPE_CLAMP Fld.PIPE_CLAMP_TRACK_SLOTS) == 0 then
    (List.range 32).foldl (fun s b => s.requestInj b 1 x true q) s
  else s

/-- The next row slot of the running pass, if its instant has come. -/
def State.slotDue (s : State) : Option (Pass × Nat) :=
  match s.running with
  | none => none
  | some p =>
    let x := p.began.getD 0 + 2400 + p.slot * slotNs p.depth p.dual
    if p.slot < p.rmax ∧ x ≤ s.clock.tt then some (p, x) else none

/-- The row slot that is due starts (R91); `light` is what has fallen on the stores of its rows during their hold. -/
def State.rowSlot (s : State) (light : List (Nat × Nat)) : State :=
  match s.slotDue with
  | none => s
  | some (p, x) =>
    let v0 := s.view p
    let s := if p.slot = 0 then s.firstRow v0 x else s
    let s := (passSlots p).foldl (fun s k => s.readRow v0 p.slot x light k) s
    let s := s.modRunning fun q => { q with slot := q.slot + 1 }
    (s.track v0 p.slot x).loadSlot v0 p.slot x (slotNs p.depth p.dual)

/-- A delivered sample joins those of its pass. -/
def addSample (a : Sample) (l : List PassSamples) : List PassSamples :=
  let hit := fun (x : PassSamples) => x.seq == a.seq && x.cont == a.cont && x.strip == a.strip
  let l := if l.any hit then l else l ++ [⟨a.seq, a.cont, a.strip, []⟩]
  l.map fun x => if hit x then { x with vals := x.vals.put (2 * a.key + (if a.inB then 1 else 0)) (a.code + 1) } else x

/-- The first sample on the bridge whose bit decisions have ended reaches its stripe (R92). -/
def State.deliver (s : State) : State :=
  match s.cc.link.find? fun a => decide (a.at' ≤ 64 * s.clock.tt) with
  | none => s
  | some a => { s with cc := { s.cc with link := s.cc.link.erase a }, pipe := { s.pipe with samples := addSample a s.pipe.samples } }

/-! ## The mean map (R174) -/

/-- Listed pixels of a cluster and slot that are converted and not a defect, or are a defect. -/
def View.special (v : View) (slot i mask : Nat) : List Nat :=
  let inB := if v.inB slot then 1 else 0
  let a := (v.samples.filter fun e => decide (8192 * i ≤ e.1) && decide (e.1 < 8192 * (i + 1)) && e.1 % 2 == inB).map fun e => e.1 / 2 % 4096
  let b := (v.defects.filter fun d => d.1 / 64 == convCx i && d.2 / 64 == convCy i).map fun d => d.2 % 64 * 64 + d.1 % 64
  (a ++ b).eraseDups.filter fun k => hasBit mask (k / 64)

/-- Sum and number of the converted pixels of active cluster `i` after stages 2 and 3, defects excluded. -/
def View.activeMean (v : View) (slot i : Nat) : Int × Nat :=
  let mask := clusterMask v.st v.ctxs (convCx i) (convCy i)
  if mask = 0 then (0, 0)
  else
    let x0 := 64 * convCx i
    let y0 := 64 * convCy i
    let val := fun (row col : Nat) (raw : Int) => v.stage3 slot (x0 + col) (y0 + row) (v.stage2 slot (x0 + col) (y0 + row) raw)
    let z : Int := rawOf v.n v.zero
    let rows := rowList mask
    let base := rows.foldl (fun (n : Int) r => n + 32 * val r 0 z + 32 * val r 1 z) 0
    (v.special slot i mask).foldl (fun (a : Int × Nat) k =>
      let row := k / 64
      let col := k % 64
      if v.defect (x0 + col) (y0 + row) then (a.1 - val row col z, a.2 - 1)
      else (a.1 - val row col z + val row col (v.rawAt slot i row col), a.2)) (base, 64 * rows.length)

/-- Sum and number of the raw samples of dark cluster `i`. -/
def View.darkMean (v : View) (slot i rows : Nat) : Int × Nat :=
  let inB := if v.inB slot then 1 else 0
  let l := (v.samples.filter fun e => decide (8192 * i ≤ e.1) && decide (e.1 < 8192 * (i + 1)) && e.1 % 2 == inB && decide (e.1 / 2 % 4096 / 64 < rows)).map
    fun e => rawOf v.n (e.2 - 1)
  ((l.sum + (64 * rows - l.length) * rawOf v.n v.zero : Nat), 64 * rows)

/-- The mean map of a slot of a pass: a sum and a count for each converter. -/
def View.meanMap (v : View) (slot : Nat) : List (Int × Nat) :=
  let dark := (List.range 32).map (darkRows v.st)
  (List.range numConv).map fun i => if convDark i then v.darkMean slot i (dark.getD (bandOf (convCx i)) 1) else v.activeMean slot i

/-- Add a pass to the maps of its frame or segment (R174). -/
def addMeans (old new : List (Int × Nat)) : List (Int × Nat) :=
  if old.isEmpty then new else (old.zip new).map fun p => (p.1.1 + p.2.1, p.1.2 + p.2.2)

/-! ## The end of a pass -/

/-- The pass whose last row slot is over. -/
def State.endDue (s : State) : Option (Pass × Nat) :=
  match s.running with
  | none => none
  | some p =>
    let k := p.began.getD 0 + p.shot.tc
    if p.slot = p.rmax ∧ k ≤ s.clock.tt then some (p, k) else none

/-- The running pass ends (R51, R83, R174, R213, R334). -/
def State.passEnd (s : State) : State :=
  match s.endDue with
  | none => s
  | some (p, k) =>
    let v := s.view p
    let s : State := { s with
      cc := { s.cc with lastEnd := k }
      tt := { s.tt with
        frames := s.tt.frames.map fun f =>
          if f.seq == p.seq && f.cont == p.cont then
            { f with meanA := addMeans f.meanA (v.meanMap 0), meanB := if p.dual then addMeans f.meanB (v.meanMap 1) else [] }
          else f } }
    let s := s.modRunning fun q => { q with ended := true }
    let s := s.setB Reg.CC_STATUS Fld.CC_STATUS_BUSY false
    let last := match s.tt.frames.find? fun f => f.seq == p.seq && f.cont == p.cont with
      | some f => !s.isStrips f || f.strips == p.strip + 1
      | none => true
    let s := if last then s.frameEnd p else s
    ((s.pioEvent 2 k).ferryEvent 2 k).showBanks

/-! ## The commands -/

/-- CONVERSION_PASS_START (R51). -/
def execConversionPassStart (t : Nat) (s : State) : Result := .next (s.advance t).passStart

/-- ROW_SLOT_START (R91): `light` gives the light on the stores of its rows during their hold, in e⁻ that the photodiode would have taken, by 2 × pixel key (plus one for store B) (R38, R47). -/
def execRowSlotStart (slot : SlotLight) (s : State) : Result := .next ((s.advance slot.t).rowSlot slot.light)

/-- SAMPLE_DELIVERY (R92). -/
def execSampleDelivery (t : Nat) (s : State) : Result := .next ((s.advance t).onStripes fun s => s.deliver)

/-- CONVERSION_END (R51). -/
def execConversionEnd (t : Nat) (s : State) : Result := .next (s.advance t).passEnd

end Sys2Proof.Machine
end

