-- ==== Sys2Proof/Machine/Pipeline.lean ====
section
/-! DEFINITION. Lines and statistics: the release of a line through the stages (R139, R155, R163), seam waits (R304), the entry of a line into a landing, a berth or the preview queue (R159, R189), the statistics records and mean maps (R174 to R177), and the automatic exposure map (R75, R76, R414). The commands LINE_RELEASE, SEAM_WAIT_TIMEOUT, LINE_ENTER_LANDING, STATS_SNAPSHOT, MAP_DERIVATION_DONE, STATS_RECORD_LATCH and MEAN_MAP_LATCH. -/

namespace Sys2Proof.Machine

/-! ## When a line is released (R139) -/

/-- Rows around `y` that the spatial filter reads, inside the active area. -/
def filterRows (y : Nat) : List Nat := ((List.range 5).map fun k => y + k).filterMap fun k => if 2 ≤ k ∧ k - 2 < numRows then some (k - 2) else none

/-- Listed defects on the rows of output line `i`, inside the window (R168). -/
def View.lineDefects (v : View) (c i : Nat) : List (Nat × Nat) :=
  let w := ctxWin v.st c
  v.defects.filter fun d => (lineRows v.st v.colour c i).contains d.2 && decide (w.x0 ≤ d.1) && decide (d.1 < w.x0 + w.w)

/-- Rows of the vertical replacement candidates of output line `i`: those of defects without a horizontal one (R168). A line awaits them as it awaits its own rows (DEDUCED, log entry 80). -/
def View.verticalRows (v : View) (c i : Nat) : List Nat :=
  let d : Nat := if v.colour then 2 else 1
  (v.lineDefects c i).flatMap fun p =>
    if v.candidate ((p.1 : Int) - d) p.2 || v.candidate ((p.1 : Int) + d) p.2 then []
    else [((p.2 : Int) - d, p.2 - d), ((p.2 : Int) + d, p.2 + d)].filterMap fun y => if v.candidate p.1 y.1 then some y.2 else none

/-- Rows that output line `i` of a context needs (R139). -/
def View.neededRows (v : View) (c i : Nat) : List Nat :=
  let ys := lineRows v.st v.colour c i ++ v.verticalRows c i
  if v.st.on (Reg.CTX_CTL c) Fld.CTX_CTL_NR_S then ys.flatMap filterRows else ys

/-- A row's neighbourhood crosses into another cluster row. -/
def crossesRow (st : RegFile) (colour : Bool) (c i : Nat) : Bool :=
  st.on (Reg.CTX_CTL c) Fld.CTX_CTL_NR_S &&
    (lineRows st colour c i).any fun y => (filterRows y).any fun z => z / 64 != y / 64

/-- The cluster columns that output line `i` reads: those of the window, and those that its spatial filter and its replacement candidates reach into (R136, R168). -/
def View.lineClusters (v : View) (c i : Nat) : List Nat :=
  let w := ctxWin v.st c
  let m := if v.st.on (Reg.CTX_CTL c) Fld.CTX_CTL_NR_S || !(v.lineDefects c i).isEmpty then 2 else 0
  (List.range 256).filter fun cx => decide (64 * cx < w.x0 + w.w + m) && decide (w.x0 < 64 * cx + 64 + m)

/-- The row slot after which line `i` of context `c` is released: when every row it needs has been converted in every cluster it reads that converts the row (R139; DEDUCED, log entry 75). -/
def View.releaseSlot (v : View) (c i : Nat) : Nat :=
  if crossesRow v.st v.colour c i then v.pass.rmax - 1
  else
    let cols := v.lineClusters c i
    (v.neededRows c i).foldl (fun q y =>
      cols.foldl (fun q cx =>
        let m := clusterMask v.st v.ctxs cx (y / 64)
        if hasBit m (y % 64) then max q (slotOfRow m (y % 64)) else q) q) 0

/-- The frame or segment of context `c` whose lines are being released, the oldest with lines left, with the pass that line `line` of it belongs to, if the line is still to release and its pass has begun (R27). -/
def State.lineOf (s : State) (c line : Nat) : Option (Progress × Pass) :=
  match s.pipe.progress.find? fun p => p.ctx == c && !p.cut && !p.ended && decide (p.released.length < p.total p.fixed) with
  | none => none
  | some p =>
    if p.released.contains line || decide (p.total p.fixed ≤ line) then none
    else
      let strip := line / max 1 (outHeight p.fixed c)
      (s.tt.passes.find? fun q => q.seq == p.seq && q.cont == p.cont && q.strip == strip && q.began.isSome).map fun q => (p, q)

/-- A line may leave its stripes: its row slot has been read, the samples decided by then have arrived, and every line of the context that is released before it has been processed (R27, R92, R139). -/
def State.lineReady (s : State) (v : View) (p : Progress) (line x : Nat) : Bool :=
  let h := max 1 (outHeight v.st p.ctx)
  let r := v.releaseSlot p.ctx (line % h)
  decide (x ≤ s.clock.tt) && decide (r < v.pass.slot) && !(s.cc.link.any fun a => a.ofPass v.pass && decide (a.at' ≤ 64 * x)) &&
    (List.range (line / h * h)).all p.released.contains &&
    (List.range h).all fun j => p.released.contains (line / h * h + j) || decide (r ≤ v.releaseSlot p.ctx j)

/-- Instant from which line `line` of a context's pass is released. -/
def View.releaseAt (v : View) (c line : Nat) : Nat :=
  v.pass.began.getD 0 + 2400 +
    (v.releaseSlot c (line % max 1 (outHeight v.st c)) + 1) * slotNs v.pass.depth v.pass.dual

/-! ## Seam rows (R178, R304) -/

/-- Slots that a context reads. -/
def ctxSlots (st : RegFile) (c : Nat) : List Nat :=
  match st.fld (Reg.CTX_CTL c) Fld.CTX_CTL_SLOT with | 0 => [0] | 1 => [1] | _ => [0, 1]

/-- A seam row that line `i` of context `c` needs has not come. -/
def View.seamMissing (v : View) (c i : Nat) : Bool :=
  let w := ctxWin v.st c
  let side := fun (right : Bool) =>
    (if right then v.st.on Reg.PIPE_CFG Fld.PIPE_CFG_SEAM_R && decide (16382 < w.x0 + w.w)
      else v.st.on Reg.PIPE_CFG Fld.PIPE_CFG_SEAM_L && decide (w.x0 < 2)) &&
      (v.neededRows c i).any fun y => (ctxSlots v.st c).any fun k => (v.seamRow right k y).isNone
  v.st.on (Reg.CTX_CTL c) Fld.CTX_CTL_NR_S && (side false || side true)

/-! ## Temporal history (R161 to R163) -/

/-- Codes of `n` bits from packed bytes (R187). -/
def unpack (n count : Nat) (bs : List Byte) : List Nat :=
  let v := bytesNat bs
  (List.range count).map fun k => v / 2 ^ (n * k) % 2 ^ n

/-- The history of one row as stage 1 reads it. -/
def State.histLine (s : State) (h : History) (y : Nat) : HistLine :=
  let w := ctxWin h.settings h.ctx
  let old := (h.prior.find? fun l => l.1 == y - w.y0).map (·.2)
  let bytes := s.bytes (s.berthBase h.berth + lineOffset w.w h.bits (y - w.y0)) (ceilDiv (w.w * h.bits) 8)
  ⟨h.settings, h.inB, h.black, h.bits, old.getD (unpack h.bits w.w bytes)⟩

/-- The rows whose history line `i` of context `c` reads: its own and those of replacement candidates. -/
def histRows (st : RegFile) (colour : Bool) (c i : Nat) : List Nat :=
  let w := ctxWin st c
  ((lineRows st colour c i).flatMap filterRows).eraseDups.filter fun y => decide (w.y0 ≤ y) && decide (y < w.y0 + w.h)

/-- The history that a line of frame `seq` reads in a slot, if there is one that holds values and it has arrived (R162, R163). -/
def State.histRead (s : State) (v : View) (c seq slot : Nat) (late : Bool) : Option History :=
  if late || v.st.fld (Reg.CTX_CTL c) Fld.CTX_CTL_NR_T == 0 then none
  else (s.historyOf c slot seq).filter (·.valid)

/-- The histories that line `i` of context `c` reads in a slot, by row. -/
def State.histFor (s : State) (v : View) (c i seq slot : Nat) (late : Bool) : HistOf :=
  match s.histRead v c seq slot late with
  | none => []
  | some h => (histRows v.st v.colour c i).map fun y => (y, s.histLine h y)

/-- ECC events of the history lines that a line reads (R182). -/
def State.histEcc (s : State) (v : View) (c i seq slot : Nat) (late : Bool) : State :=
  match s.histRead v c seq slot late with
  | none => s
  | some h =>
    let w := ctxWin h.settings c
    (lineRows v.st v.colour c i).foldl (fun s y =>
      s.countEcc (s.berthBase h.berth + lineOffset w.w h.bits (y - w.y0)) (ceilDiv (w.w * h.bits) 8)) s

/-- The codes that replace the history of row `y` (R161, R162). -/
def View.newHistory (v : View) (c slot y : Nat) (h : HistOf) : List Nat :=
  let w := ctxWin v.st c
  (List.range w.w).map fun k =>
    let d := 2 ^ (16 - v.n)
    ((v.stage1 c slot (w.x0 + k) y (h.row y)).toNat + Config.dither ((w.x0 + k) % 4) (y % 4) % d) / d

/-- Write the new history of row `y`, whose old codes stay at hand until the frame is through (R162, R191). -/
def State.writeHistory (s : State) (v : View) (h : History) (y : Nat) (codes : List Nat) : State :=
  let w := ctxWin v.st h.ctx
  let old := s.histLine h y
  let s := s.setBytes (s.berthBase h.berth + lineOffset w.w h.bits (y - w.y0)) (packBytes h.bits codes)
  { s with
    pipe := { s.pipe with
      history := s.pipe.history.map fun g =>
        if g.ctx == h.ctx && g.slot == h.slot && g.since == h.since then { g with prior := g.prior ++ [(y - w.y0, old.codes)] } else g } }

/-- A line's new history goes to the berths that the context still holds (R162). -/
def State.noteHistory (s : State) (v : View) (c i seq : Nat) (hist : Nat → HistOf) : State :=
  if v.st.on (Reg.CTX_CTL c) Fld.CTX_CTL_NR_T then
    [0, 1].foldl (fun s slot =>
      match s.historyOf c slot seq with
      | some h =>
        if h.until'.isNone then
          (lineRows v.st v.colour c i).foldl (fun s y => s.writeHistory v h y (v.newHistory c slot y (hist slot))) s
        else s
      | none => s) s
  else s

/-- The histories of a context whose frame was processed in full hold that frame from now on (R162), and their records say so (R187). -/
def State.commitHistory (s : State) (v : View) (c : Nat) : State :=
  let seq := v.pass.seq
  let mine := fun (h : History) => h.ctx == c && serialGe 32 seq h.since && h.until'.isNone
  let s := (s.pipe.history.filter mine).foldl (fun s h => s.historyHeader h seq v.pass.cont (ctxWin v.st c).h true) s
  { s with
    pipe := { s.pipe with
      history := s.pipe.history.map fun h =>
        if mine h then
          { h with valid := true, settings := v.st, inB := v.inB h.slot, black := v.pass.black, prior := [], spoiled := false }
        else h } }

/-! ## Release -/

/-- Add a line's codes to a context's statistics (R175). -/
def StatAcc.addCodes (a : StatAcc) (n : Nat) (codes : List Nat) : StatAcc :=
  codes.foldl (fun a c =>
    { a with
      count := a.count + 1, lo := min a.lo c, hi := max a.hi c, sum := a.sum + c, sumsq := a.sumsq + c * c
      sat := a.sat + (if c = 2 ^ n - 1 then 1 else 0)
      hist := a.hist.put (c / 2 ^ (n - 8)) (a.hist.get (c / 2 ^ (n - 8)) + 1) }) a

/-- Change the progress of a context's frame or segment. -/
def State.modProgress (s : State) (p : Progress) (f : Progress → Progress) : State :=
  { s with
    pipe := { s.pipe with
      progress := s.pipe.progress.map fun q => if q.ctx == p.ctx && q.seq == p.seq && q.cont == p.cont then f q else q } }

/-- A frame with a missing seam row is counted once (R178). -/
def State.noteSeamMiss (s : State) (p : Progress) : State :=
  let s := s.setB Reg.PIPE_STATUS Fld.PIPE_STATUS_SEAM_MISS true
  let s := if s.pipe.progress.any fun q => q.seq == p.seq && q.cont == p.cont && q.seamMiss then s
    else s.satF Reg.PIPE_CNT Fld.PIPE_CNT_SEAM_MISS 1
  s.modProgress p fun q => { q with seamMiss := true }

/-- The context's temporal history starts afresh in this frame (R132, R163). -/
def State.histRestarts (s : State) (v : View) (p : Progress) : Bool :=
  (historySlots v.st p.ctx p.burst).any fun k => !((s.historyOf p.ctx k p.seq).any (·.valid))

/-- A line missed its history (R163). -/
def State.noteHistMiss (s : State) (p : Progress) (miss : Bool) : State :=
  if miss then
    ((s.setB Reg.PIPE_STATUS Fld.PIPE_STATUS_HIST_MISS true).satF Reg.PIPE_CNT Fld.PIPE_CNT_HIST_MISS 1).modProgress p fun q =>
      { q with histMiss := true }
  else s

/-- Defects that found no candidate (R168). -/
def State.noteUnrepaired (s : State) (n : Nat) : State :=
  if n = 0 then s
  else (s.setB Reg.PIPE_STATUS Fld.PIPE_STATUS_UNREPAIRED true).satF Reg.PIPE_CNT Fld.PIPE_CNT_UNREPAIRED n

/-- The parts in which a line leaves its stripes: one for each bundle that carries part of it, or the whole line, as 8 (R133, R159). -/
def lineParts (st : RegFile) (c : Nat) : List Nat :=
  let bs := maskBundles (frameMask st c)
  if st.on (Reg.CTX_DEST c) Fld.CTX_DEST_SPLIT && st.fld (Reg.CTX_CTL c) Fld.CTX_CTL_CLASS != 1 && st.fld (Reg.CTX_DEST c) Fld.CTX_DEST_KIND != 1 &&
      !bs.isEmpty then bs else [8]

/-- The stripes that a part of a context's line spans (R159). -/
def partStripes (st : RegFile) (c k : Nat) : List Nat :=
  let w := ctxWin st c
  ((if k = 8 then List.range 16 else [2 * k, 2 * k + 1])).filter fun j => decide (w.x0 < 1024 * j + 1024) && decide (1024 * j < w.x0 + w.w)

/-- The instant at which the stripes of a part have processed their share of a line released at `x` (R157, R159): the backlog at its release, of the contexts that are served before it and of its own, has been worked off. -/
def View.partReady (v : View) (c i x k : Nat) : Nat :=
  let m := v.pass.backs.getD (v.releaseSlot c i) []
  (partStripes v.st c k).foldl (fun a j => max a (x + workTime m j fun d => decide (rankOf v.st d ≤ rankOf v.st c))) x

/-- Process a released line through the stages (R155, R163, R175): its codes, the statistics, and the history it leaves. -/
def State.processLine (s : State) (v : View) (p : Progress) (line : Nat) (late : Bool) : State :=
  let c := p.ctx
  let i := line % max 1 (outHeight v.st c)
  let restart := s.histRestarts v p
  let miss := late && v.st.on (Reg.CTX_CTL c) Fld.CTX_CTL_NR_T && [0, 1].any fun k => (s.historyOf c k p.seq).any (·.valid)
  let hist := fun slot => s.histFor v c i p.seq slot late
  let out := v.outLine c i (hist 0) (hist 1)
  let n := outBits v.st c
  let x := v.releaseAt c line
  let s := [0, 1].foldl (fun s k => s.histEcc v c i p.seq k late) s
  let s := ((s.noteHistMiss p miss).noteUnrepaired out.2).noteHistory v c i p.seq hist
  let s := s.modProgress p fun q => { q with released := q.released ++ [line], restart := q.restart || restart }
  let s : State := { s with
    pipe := { s.pipe with
      waits := s.pipe.waits.filter fun w => !(w.ctx == c && w.seq == p.seq && w.cont == p.cont && w.line == line)
      lines := s.pipe.lines ++
        [{ ctx := c, seq := p.seq, cont := p.cont, idx := line, depth := v.st.fld (Reg.CTX_CTL c) Fld.CTX_CTL_DEPTH, codes := out.1,
           parts := (lineParts v.st c).map fun k => (k, v.partReady c i x k), outAt := x }]
      stats := s.pipe.stats.map fun a => if a.ctx == c && a.seq == p.seq && a.cont == p.cont then a.addCodes n out.1 else a } }
  if p.released.length + 1 = p.total v.st then s.commitHistory v c else s

/-- LINE_RELEASE (R139): a line whose rows have been converted is processed, or waits for its seam rows. -/
def State.releaseLine (s : State) (c line : Nat) (late : Bool) : State :=
  match s.lineOf c line with
  | none => s
  | some (p, q) =>
    let v := s.view q
    let x := v.releaseAt c line
    if !s.lineReady v p line x then s
    else if v.seamMissing c (line % max 1 (outHeight v.st c)) then
      if s.pipe.waits.any fun w => w.ctx == c && w.seq == p.seq && w.cont == p.cont && w.line == line then s
      else { s with pipe := { s.pipe with waits := s.pipe.waits ++ [⟨c, p.seq, p.cont, line, x⟩] } }
    else s.processLine v p line late

/-- SEAM_WAIT_TIMEOUT (R304): 3,000 ns after its release a line goes on without the missing rows. -/
def State.seamTimeout (s : State) : State :=
  match s.pipe.waits.find? fun w => decide (w.at' + 3000 ≤ s.clock.tt) with
  | none => s
  | some w =>
    let rest : State := { s with pipe := { s.pipe with waits := s.pipe.waits.filter fun y => !(decide (y = w)) } }
    match rest.lineOf w.ctx w.line with
    | none => rest
    | some (p, q) =>
      let v := rest.view q
      if v.seamMissing w.ctx (w.line % max 1 (outHeight v.st w.ctx)) then (rest.noteSeamMiss p).processLine v p w.line false
      else rest.processLine v p w.line false

/-! ## Into landings, berths and the preview queue -/

/-- A part of a line goes where its context's destination says (R133, R189). -/
def State.placeLine (s : State) (p : Progress) (l : Line) (k : Nat) : State :=
  if p.fixed.fld (Reg.CTX_DEST p.ctx) Fld.CTX_DEST_KIND = 1 then s.previewLine l
  else (if k = 8 then maskBundles (frameMask p.fixed p.ctx) else [k]).foldl (fun s b => s.placePart p l b) s

/-- Bytes of a line's packets in a ford (R244). -/
def fordCost (st : RegFile) (l : Line) : Nat :=
  (linePackets (framePacket st l.ctx l.seq l.cont 0 2) (depthBits l.depth) l.idx 0 l.codes).foldl (fun n q => n + 32 * (1 + q.nblk)) 0

/-- A part of a line can leave its stripes (R157, R159, R189, R238, R245): they have processed their share, the lines of the context before it have left them, the frame's FS is queued, and for a P line the ford of every twin that takes it has room. -/
def State.canEnter (s : State) (l : Line) (k : Nat × Nat) : Bool :=
  let before := s.pipe.lines.takeWhile fun m => !(decide (m = l))
  s.stripesRun && decide (k.2 ≤ s.clock.tt) && !(before.any fun m => m.ctx == l.ctx && m.parts.any fun j => j.1 == k.1) &&
    match s.progressOf l.ctx l.seq l.cont with
    | none => true
    | some p =>
      p.dropped || p.cut ||
        ((p.fsDone || p.fixed.fld (Reg.CTX_DEST l.ctx) Fld.CTX_DEST_KIND == 1) &&
          (p.fixed.fld (Reg.CTX_CTL l.ctx) Fld.CTX_CTL_CLASS != 1 ||
            (maskBundles (frameMask p.fixed l.ctx)).all fun b => !(s.sinksP b) || decide (s.fordBytes b + fordCost p.fixed l ≤ fordSize)))

/-- The oldest line with a part that can leave its stripes. -/
def State.nextPart (s : State) : Option (Line × (Nat × Nat)) :=
  s.pipe.lines.findSome? fun l => (l.parts.find? (s.canEnter l)).map fun k => (l, k)

/-- LINE_ENTER_LANDING (R159): a part of the oldest line that has left the stages and finds room. With its last part the line has left the stripes; its mirror copy is written then. The lines of a dropped frame leave the stripes to its mirror copy alone. -/
def State.enterLanding (s : State) : State :=
  match s.nextPart with
  | none => s
  | some (l, k) =>
    let l' : Line := { l with parts := l.parts.erase k }
    let s : State := { s with
      pipe := { s.pipe with
        lines := if l'.parts.isEmpty then s.pipe.lines.erase l else s.pipe.lines.map fun m => if decide (m = l) then l' else m } }
    match s.progressOf l.ctx l.seq l.cont with
    | none => s
    | some p =>
      let s := if p.dropped || p.cut then s else s.placeLine p l k.1
      if l'.parts.isEmpty then
        ((s.mirrorLine p l).modProgress p fun q => { q with entered := q.entered + 1 }).endDone
      else s

/-! ## Statistics (R174 to R177) -/

/-- The words of a context's record (R181). -/
def statWords (st : RegFile) (a : StatAcc) (p : Progress) (gen : Nat) : List Word :=
  let groups := st.fld (Reg.CTX_CTL a.ctx) Fld.CTX_CTL_STATS
  let w0 : Word := BitVec.ofNat 64 (a.seq + gen * 2 ^ 32 + a.cont * 2 ^ 48)
  let mm := if hasBit groups 2 then a.lo * 2 ^ 32 + a.hi * 2 ^ 48 else 0
  let b := fun (x : Bool) (k : Nat) => if x then 2 ^ k else 0
  let w4 := 1 + b p.seamMiss 1 + b p.restart 2 + b p.histMiss 3 + st.fld (Reg.CTX_CTL a.ctx) Fld.CTX_CTL_DEPTH * 16 +
    st.fld (Reg.CTX_CTL a.ctx) Fld.CTX_CTL_SLOT * 64 + groups * 256 + a.sat * 2 ^ 32
  let bin := fun k => if hasBit groups 0 then a.hist.get k else 0
  [w0, BitVec.ofNat 64 (a.count + mm), BitVec.ofNat 64 (if hasBit groups 1 then a.sum else 0),
    BitVec.ofNat 64 (if hasBit groups 1 then a.sumsq else 0), BitVec.ofNat 64 w4, 0, 0, 0] ++
    (List.range 128).map (fun k => BitVec.ofNat 64 (bin (2 * k) + bin (2 * k + 1) * 2 ^ 32)) ++ List.replicate 119 0 ++ [w0]

/-- A mean-map entry (R174): the rounded mean, 0xFFFF where nothing was converted. -/
def meanEntry (i : Nat) (m : Int × Nat) : Nat :=
  if m.2 = 0 then 65535 else if convDark i then (roundDiv m.1 m.2).toNat else (clampInt 0 65520 (roundDiv m.1 m.2)).toNat

/-- The entries of a mean map. -/
def meanEntries (l : List (Int × Nat)) : List Nat := if l.isEmpty then List.replicate numConv 65535 else (l.zip (List.range numConv)).map fun p => meanEntry p.2 p.1

/-- Pack 16-bit entries four to a word. -/
def packWords : List Nat → List Word
  | a :: b :: c :: d :: r => BitVec.ofNat 64 (a + b * 2 ^ 16 + c * 2 ^ 32 + d * 2 ^ 48) :: packWords r
  | _ => []

/-- Publish the mean map of a slot (R174, R176). -/
def State.publishMean (s : State) (slot : Nat) (entries : List Nat) (hdr : Word) : State :=
  (s.setBlock (Reg.PIPE_MEAN slot 0) ((packWords entries).take 8256)).setReg (Reg.PIPE_MEAN_HDR slot) hdr

/-- A black level of phase `ph` as PIPE_BLACK reports it (R164). -/
def blackField (black : List (Nat × Int)) (band slot ph : Nat) : Nat :=
  ((roundDiv (Sparse.get (fun _ => 0) black (blackKeyOf band slot ph)) 65536) % 65536).toNat

/-- The black levels that a pass has measured, as PIPE_BLACK shows them (R164). -/
def State.publishBlack (s : State) (p : Pass) : State :=
  (List.range 32).foldl (fun s b => (passSlots p).foldl (fun s k =>
    s.setReg (Reg.PIPE_BLACK b k)
      (BitVec.ofNat 64 (blackField p.black b k 0 + blackField p.black b k 1 * 2 ^ 16 + blackField p.black b k 2 * 2 ^ 32 +
        blackField p.black b k 3 * 2 ^ 48))) s) s

/-- A context's record is complete: the frame's last line of it has left the stripes (R176). -/
def Progress.recorded (p : Progress) : Bool := p.segDone && !p.cut && decide (p.total p.fixed ≤ p.entered)

/-- Publish the record of a context's frame (R175, R176). -/
def State.publishStats (s : State) (p : Progress) : State :=
  match s.tt.frames.find? fun f => f.gated && f.seq == p.seq && f.cont == p.cont, s.pipe.stats.find? fun a => a.ctx == p.ctx && a.seq == p.seq && a.cont == p.cont with
  | some f, some a => (s.setBlock (Reg.PIPE_STATS p.ctx 0) (statWords (s.bank f.bank) a p f.gen)).modProgress p fun q => { q with shown := true }
  | _, _ => s

/-- Publish every record that is complete. -/
def State.publishRecords (s : State) : State := (s.pipe.progress.filter fun p => p.recorded && !p.shown).foldl (fun s p => s.publishStats p) s

/-- The frame or segment is closed, and its passes are over: its mean maps are complete (R176, R179). -/
def State.mapsDone (s : State) (f : Frame) : Bool :=
  f.gated && (!s.isStrips f || (f.strips != 0 && !(s.tt.closing.any fun g => g.frame.seq == f.seq && g.cont == f.cont))) &&
    (s.tt.passes.any fun p => p.seq == f.seq && p.cont == f.cont) &&
    (s.tt.passes.all fun p => !(p.seq == f.seq && p.cont == f.cont) || p.ended)

/-- PIPE_LOAD of a frame: the largest backlog in its passes and the stripe (R157). -/
def State.loadWord (s : State) (f : Frame) : Word :=
  let m := (s.tt.passes.filter fun p => p.seq == f.seq && p.cont == f.cont).foldl (fun (a : Nat × Nat) p =>
    if a.1 < p.peak then (p.peak, p.peakStripe) else a) (0, 0)
  BitVec.ofNat 64 (min m.1 (2 ^ 21 - 1) + m.2 * 2 ^ 21 + f.seq * 2 ^ 25)

/-- Publish the mean maps of a frame, its black levels and its load (R157, R164, R174, R176); with AUTO = 1 a map is derived from them (R75). -/
def State.publishMaps (s : State) (f : Frame) : State :=
  let st := s.bank f.bank
  let hdr : Word := BitVec.ofNat 64 (f.seq + f.gen * 2 ^ 32 + f.cont * 2 ^ 48)
  let a := meanEntries f.meanA
  let b := meanEntries f.meanB
  let load := s.loadWord f
  let s := match (s.tt.passes.filter fun p => p.seq == f.seq && p.cont == f.cont).getLast? with
    | some p => s.publishBlack p
    | none => s
  let s := (((s.publishMean 0 a hdr).publishMean 1 b hdr).setReg Reg.PIPE_LOAD load).setFrame { f with mapped := true }
  if st.on Reg.TT_MAP_CFG Fld.TT_MAP_CFG_AUTO then
    { s with pipe := { s.pipe with snapshot := some ⟨f.seq, st, if st.on Reg.TT_MAP_CFG Fld.TT_MAP_CFG_SRC_SLOT then b else a⟩ } }
  else s

/-- Everything of a frame has been published (R176). -/
def State.snapshotOver (s : State) (f : Frame) : Bool :=
  f.complete && f.mapped && s.pipe.progress.all fun p => !(p.seq == f.seq && p.cont == f.cont) || p.shown || p.cut

/-- The snapshot of a frame is complete (R176, R213), and the frame leaves the timetable and the pipeline. -/
def State.retireFrame (s : State) (f : Frame) : State :=
  let mine := fun (seq cont : Nat) => seq == f.seq && cont == f.cont
  let s : State := { s with
    tt := { s.tt with
      frames := s.tt.frames.filter fun g => !(g.gated && mine g.seq g.cont)
      seg := s.tt.seg.map fun g => if mine g.frame.seq g.cont then { g with frame := { g.frame with man := f.man } } else g
      passes := s.tt.passes.filter fun p => !mine p.seq p.cont }
    pipe := { s.pipe with
      stats := s.pipe.stats.filter fun x => !mine x.seq x.cont
      samples := s.pipe.samples.filter fun x => !mine x.seq x.cont } }
  (s.pruneProgress.ferryEvent 3 s.tick).showBanks

/-- STATS_SNAPSHOT (R176): the records that are complete are published, then the maps that are, and the frames of which everything is. -/
def State.snapshot (s : State) : State :=
  let s := s.publishRecords
  let s := (s.tt.frames.filter fun f => s.mapsDone f && !f.mapped).foldl (fun s f => s.publishMaps f) s
  (s.tt.frames.filter s.snapshotOver).foldl (fun s f => s.retireFrame f) s

/-! ## Automatic exposure map (R75) -/

/-- round(64 × log₂(a ÷ b)) for positive `a` and `b`: the integer D with 2^(2D − 1) × b^128 ≤ a^128 < 2^(2D + 1) × b^128, sought bit by bit. -/
def log64 (a b : Nat) : Int :=
  let p := a ^ 128 * 2 ^ 2049
  let q := b ^ 128
  let d : Nat := (List.range 11).foldl (fun (d i : Nat) => let t := d + 2 ^ (10 - i); if 2 ^ (2 * t) * q ≤ p then t else d) 0
  (d : Int) - 1024

/-- The new code of a cluster (R75, R84): its old code and its mean-map entry; TARGET 0 acts as 1 and 4,095 as 4,094, STEP_MAX 0 as 1. -/
def newCode (st : RegFile) (old entry : Nat) : Nat :=
  if entry = 65535 then old
  else
    let target := max 1 (min 4094 (st.fld Reg.TT_MAP_CFG Fld.TT_MAP_CFG_TARGET))
    let d := log64 (max entry 16) (16 * target)
    if d.natAbs ≤ st.fld Reg.TT_MAP_CFG Fld.TT_MAP_CFG_DEADBAND then old
    else
      let m : Int := max 1 (st.fld Reg.TT_MAP_CFG Fld.TT_MAP_CFG_STEP_MAX)
      (clampInt (st.fld Reg.TT_MAP_CFG Fld.TT_MAP_CFG_CODE_MIN) (st.fld Reg.TT_MAP_CFG Fld.TT_MAP_CFG_CODE_MAX) (old + clampInt (-m) m d)).toNat

/-- The derived codes of all active clusters (R75). -/
def derivedCodes (n : Snapshot) : List Nat :=
  (n.means.zip (List.range 32768)).map fun p => newCode n.st (mapCode n.st (p.2 % 256) (p.2 / 256)) p.1

/-- MAP_DERIVATION_DONE (R75, R76, R414): the derived map is committed, unless AUTO = 0 is in use or has been installed since the frame's gangway. -/
def State.deriveMap (s : State) : State :=
  match s.pipe.snapshot with
  | none => s
  | some n =>
    let codes := Sparse.number 8 (Reg.TT_MAP 0) (packWords (derivedCodes n))
    let limit := (n.seq + (if storeMode n.st = 0 then 2 else 1)) % 2 ^ 32
    let s : State := { s with pipe := { s.pipe with snapshot := none } }
    if s.u Reg.TT_MAP_CFG Fld.TT_MAP_CFG_AUTO = 0 || !serialGe 32 n.seq s.gw.autoFrom then s
    else
      let d : DerivedMap := { tick := s.tick, stamp := s.stamp, seq := n.seq, limit := limit, codes := codes, bound := s.nearClose s.tick }
      ({ s with gw := { s.gw with derived := some d } } : State).setReg Reg.CFG_GW_CTIME s.stamp

/-! ## Read latches (R177) -/

/-- Latch the registers of a block for a source (R177). -/
def State.latchBlock (s : State) (src : Src) (base size : Nat) : State :=
  let words := s.regs.filter fun p => decide (base ≤ p.1) && decide (p.1 < base + size)
  { s with
    pipe := { s.pipe with
      latches := s.pipe.latches.filter (fun l => !(decide (l.src = src) && l.base == base)) ++ [⟨src, base, words⟩] } }

/-- A read of word 0 of a record latches it (R177). -/
def State.latchRecord (s : State) (src : Src) (c : Nat) : State := s.latchBlock src (Reg.PIPE_STATS c 0) 0x800

/-- A read of PIPE_MEAN_HDR latches the map of the slot (R177). -/
def State.latchMean (s : State) (src : Src) (slot : Nat) : State := s.latchBlock src (Reg.PIPE_MEAN slot 0) 0x10200

/-! ## The commands -/

/-- LINE_RELEASE (R139): `histLate` where the line's history has not arrived from the frame store; `upsets` gives the errors that words of the frame store have taken (R182). -/
def execLineRelease (t : Nat) (ctx : Fin 3072) (line : Nat) (reads : LineReads) (s : State) : Result :=
  .next ((s.advance t).onStripes fun s => (s.upset reads.upsets).releaseLine ctx.val line reads.late)

/-- LINE_ENTER_LANDING (R159). -/
def execLineEnterLanding (t : Nat) (s : State) : Result := .next ((s.advance t).onStripes fun s => s.enterLanding)

/-- SEAM_WAIT_TIMEOUT (R304). -/
def execSeamWaitTimeout (t : Nat) (s : State) : Result := .next ((s.advance t).onStripes fun s => s.seamTimeout)

/-- STATS_SNAPSHOT (R176). -/
def execStatsSnapshot (t : Nat) (s : State) : Result := .next ((s.advance t).onStripes fun s => s.snapshot)

/-- MAP_DERIVATION_DONE (R75). -/
def execMapDerivationDone (t : Nat) (s : State) : Result := .next (s.advance t).deriveMap

/-- STATS_RECORD_LATCH (R177). -/
def execStatsRecordLatch (t : Nat) (src : Src) (ctx : Fin 3072) (s : State) : Result :=
  .next ((s.advance t).managed src fun s => s.latchRecord src ctx.val)

/-- MEAN_MAP_LATCH (R177). -/
def execMeanMapLatch (t : Nat) (src : Src) (slot : Fin 2) (s : State) : Result := .next ((s.advance t).managed src fun s => s.latchMean src slot.val)

end Sys2Proof.Machine
end

