-- ==== Sys2Proof/Machine/Store.lean ====
section
/-! DEFINITION. The frame store at work: the unloaders (R190, R196), the mirror's time limit (R184), the berth table (R185) and recall (R197 to R199). The commands UNLOADER_SEND, MIRROR_WRITE_TIMEOUT, BERTH_TABLE_WRITE, RECALL_GO, RECALL_RUN and RECALL_POP. -/

namespace Sys2Proof.Machine

/-! ## Lines out of a berth -/

/-- The codes of line `idx` of a frame berth (R187). -/
def State.berthCodes (s : State) (o : Occupant) (idx : Nat) : List Nat :=
  let bits := depthBits o.depth
  unpack bits o.width (s.bytes (s.berthBase o.berth + lineOffset o.width bits idx) (ceilDiv (o.width * bits) 8))

/-- First byte and number of bytes that hold output columns `col` to `col + pix - 1` of line `idx` of a berth. -/
def State.partBytes (s : State) (o : Occupant) (idx col pix : Nat) : Nat × Nat :=
  let bits := depthBits o.depth
  (s.berthBase o.berth + lineOffset o.width bits idx + col * bits / 8, ceilDiv (pix * bits) 8)

/-- The LINE packets of a part of a berthed line, marked where a word was damaged (R182, R240); ECC events are counted. -/
def State.readPart (s : State) (o : Occupant) (base : Packet) (idx col pix : Nat) : State × List Packet :=
  let r := s.partBytes o idx col pix
  let base := { base with damaged := s.damagedIn r.1 r.2 }
  (s.countEcc r.1 r.2, linePackets base (depthBits o.depth) idx col (((s.berthCodes o idx).drop col).take pix))

/-! ## The unloader (R190) -/

/-- An occupant that bundle `b`'s unloader serves and that has something to send on it now. -/
def Occupant.ready (o : Occupant) (b : Nat) : Bool :=
  !o.mirror && o.chain.isNone && (hasBit o.fsOwed b || o.todo.any (fun p => p.1 == b) || (hasBit o.feOwed b && o.ended))

/-- The frame of a context that is next on bundle `b`. -/
def State.firstOn (s : State) (b c : Nat) : Option Occupant :=
  (s.fs.occ.filter fun o => o.ctx == c && o.waitsOn b).foldl (fun a o =>
    match a with
    | none => some o
    | some p => if frameBefore o.seq o.cont p.seq p.cont then some o else some p) none

/-- The gap notice of a context that is next on bundle `b`. -/
def State.gapOn (s : State) (b c : Nat) : Option GapOwed :=
  (s.fs.gaps.filter fun g => g.bundle == b && g.packet.ctx == c).foldl (fun a g =>
    match a with
    | none => some g
    | some h => if frameBefore g.packet.seq g.packet.cont h.packet.seq h.packet.cont then some g else some h) none

/-- The least member of a list above `x`, or the least of all: rotation. -/
def nextAfter (x : Nat) (l : List Nat) : Option Nat :=
  let least := fun (l : List Nat) => l.foldl (fun (a : Option Nat) n => match a with | none => some n | some m => some (min m n)) none
  match least (l.filter fun n => decide (x < n)) with
  | some n => some n
  | none => least l

/-- The packets that the occupant's next piece on bundle `b` makes: its FS, its lowest waiting line, or its FE; and the state with ECC events counted. -/
def State.nextPiece (s : State) (o : Occupant) (b : Nat) : State × List Packet :=
  let st := o.fixed
  if hasBit o.fsOwed b then (s, [fsPacket st o.ctx o.seq o.cont b o.fsMan])
  else
    match ((o.todo.filter fun p => p.1 == b).map (·.2)).foldl (fun (a : Option Nat) n => match a with | none => some n | some m => some (min m n)) none with
    | some idx =>
      let part := partOf st o.ctx b
      s.readPart o (framePacket st o.ctx o.seq o.cont b 2) idx part.1 part.2
    | none => (s, [s.fePacket st o.ctx o.seq o.cont b o.feFlags o.man])

/-- The occupant after its next piece on bundle `b` has gone. -/
def Occupant.sentOn (o : Occupant) (b : Nat) : Occupant :=
  if hasBit o.fsOwed b then { o with fsOwed := o.fsOwed - 2 ^ b }
  else
    match ((o.todo.filter fun p => p.1 == b).map (·.2)).foldl (fun (a : Option Nat) n => match a with | none => some n | some m => some (min m n)) none with
    | some idx => { o with todo := o.todo.erase (b, idx) }
    | none => { o with feOwed := o.feOwed - (if hasBit o.feOwed b then 2 ^ b else 0) }

/-- A frame whose berth is empty and whose end has come counts as sent, unless it was cut, and its berth is released (R127, R196). -/
def State.settleSent (s : State) (o : Occupant) : State :=
  let s := s.setOcc o
  let s := if o.complete && !hasBit o.feFlags 0 then s.addF (Reg.CTX_ST1 o.ctx) Fld.CTX_ST1_SENT 1 else s
  s.settleBerth o

/-- The next piece of context `c` on bundle `b` in sequence order, with its class (R190): a gap notice, or a piece of a berthed frame that is there. -/
def State.pieceOn (s : State) (b c : Nat) : Option (Nat × List Packet) :=
  let gap := (s.gapOn b c).map fun g => (g.packet.cls, [g.packet])
  match s.firstOn b c with
  | none => gap
  | some o =>
    match s.gapOn b c with
    | some g => if frameBefore g.packet.seq g.packet.cont o.seq o.cont then gap else if o.ready b then some (o.cls, (s.nextPiece o b).2) else none
    | none => if o.ready b then some (o.cls, (s.nextPiece o b).2) else none

/-- The contexts of a class that bundle `b`'s unloader can serve now, with credit. -/
def State.unloadable (s : State) (b cls : Nat) : List Nat :=
  ((s.fs.occ.filter (·.waitsOn b)).map (·.ctx) ++ (s.fs.gaps.filter (·.bundle == b)).map (·.packet.ctx)).eraseDups.filter fun c =>
    match s.pieceOn b c with
    | some (k, ps) => k == cls && s.hasCredit b ps
    | none => false

/-- Last context served by bundle `b` in a class. -/
def State.lastServed (s : State) (b cls : Nat) : Nat := ((s.fs.rr.find? fun p => p.1 == 4 * b + cls).map (·.2)).getD 4095

/-- Context `c` has been served by bundle `b` in a class. -/
def State.served (s : State) (b cls c : Nat) : State :=
  { s with fs := { s.fs with rr := s.fs.rr.filter (fun p => !(p.1 == 4 * b + cls)) ++ [(4 * b + cls, c)] } }

/-- Send the next piece of a berthed frame on bundle `b`. -/
def State.unloadOcc (s : State) (b : Nat) (o : Occupant) : State :=
  let r := s.nextPiece o b
  (r.1.toLandings b r.2).settleSent (o.sentOn b)

/-- Send the next piece of context `c` on bundle `b`: of its first frame, or the gap notice of a dropped one. -/
def State.unload (s : State) (b cls c : Nat) : State :=
  let s := s.served b cls c
  match s.firstOn b c, s.gapOn b c with
  | none, none => s
  | some o, none => s.unloadOcc b o
  | o?, some g =>
    if o?.all fun o => frameBefore g.packet.seq g.packet.cont o.seq o.cont then
      ({ s with fs := { s.fs with gaps := s.fs.gaps.filter fun h => !(decide (h = g)) } } : State).toLanding b g.packet
    else match o? with | some o => s.unloadOcc b o | none => s

/-- UNLOADER_SEND (R190): N before B, contexts in rotation within a class. -/
def State.unloaderSend (s : State) (b : Nat) : State :=
  match nextAfter (s.lastServed b 0) (s.unloadable b 0) with
  | some c => s.unload b 0 c
  | none =>
    match nextAfter (s.lastServed b 2) (s.unloadable b 2) with
    | some c => s.unload b 2 c
    | none => s

/-! ## Mirror and berth table -/

/-- MIRROR_WRITE_TIMEOUT (R184): a mirror write of berth `n` that could not be served within 20 µs abandons the copy. -/
def State.mirrorSkip (s : State) (n : Nat) : State :=
  match s.occAt n with
  | none => s
  | some o =>
    if o.mirror && !o.ended then
      ((s.dropBerth o).setB Reg.FS_STATUS Fld.FS_STATUS_MIRROR_SKIP true).satF Reg.FS_CNT Fld.FS_CNT_MIRROR_SKIP 1
    else s

/-- A register's stored bits replaced by those of `v` (R12). -/
def State.storeReg (s : State) (a : Nat) (v : Word) : State :=
  match regAt a with
  | none => s
  | some d => s.setReg a (writtenWord d (s.reg a) (s.keepFresh d a v))

/-- A write to a berth's table entry (R185): ignored while the berth is not free. -/
def State.berthWrite (s : State) (n : Nat) (v : Word) : State :=
  if s.berthState n = 0 then s.storeReg (Reg.FS_BERTH n) v else s.setB Reg.FS_STATUS Fld.FS_STATUS_BTAB_BUSY true

/-! ## Recall (R197 to R199) -/

/-- Key of a source's copy of a recall register: 0 KEY, 1 LINES, 2 COLS. -/
def recallKey (src : Src) (i : Nat) : Nat := 3 * srcCode src + i

/-- A source's copy of a recall register. -/
def State.recallReg (s : State) (src : Src) (i : Nat) : Word := Sparse.get (fun _ => 0) s.fs.recallRegs (recallKey src i)

/-- Submit a source's request (R197); more than 16 requests and results are refused. -/
def State.recallGo (s : State) (src : Src) : State :=
  if 16 ≤ s.fs.recalls.length + s.fs.results.length then s.setB Reg.FS_STATUS Fld.FS_STATUS_RC_FULL true
  else
    let k := s.recallReg src 0
    let l := s.recallReg src 1
    let c := s.recallReg src 2
    let r : Recall :=
      { ctx := Fld.FS_RC_KEY_CTX.get k, seq := Fld.FS_RC_KEY_SEQ.get k, cont := Fld.FS_RC_KEY_CONT.get k,
        first := Fld.FS_RC_LINES_FIRST.get l, count := Fld.FS_RC_LINES_COUNT.get l, x0 := Fld.FS_RC_COLS_X0.get c,
        w := Fld.FS_RC_COLS_W.get c, bundle := Fld.FS_RC_COLS_BUNDLE.get c, tag := Fld.FS_RC_COLS_TAG.get c }
    { s with fs := { s.fs with recalls := s.fs.recalls ++ [r] } }

/-- The request in front ends with a result (R199): CODE and the lines sent. A berth that only the recall has held is freed (R198). -/
def State.recallEnd (s : State) (r : Recall) (code : Nat) : State :=
  let w := Fld.FS_RC_RES_LINES.set (Fld.FS_RC_RES_VALID.set (Fld.FS_RC_RES_CODE.set (Fld.FS_RC_RES_TAG.set 0 r.tag) code) 1) r.sent
  let s : State := { s with fs := { s.fs with recalls := s.fs.recalls.tail, results := s.fs.results ++ [w] } }
  match r.berth with
  | none => s
  | some n =>
    let s := s.setB (Reg.FS_BSTATE n) Fld.FS_BSTATE_LOCK false
    match s.occAt n with
    | some o => if o.gone && !(s.fy.any fun f => f.runs o.ctx o.seq o.cont) then s.freeBerth n else s
    | none => s

/-- The berth that holds the frame of a request (R199); a whole mirror copy before the berth of spilled lines (DESIGN CHOICE, log entry 13). -/
def State.recallFind (s : State) (r : Recall) : Option Occupant :=
  let hit := fun (o : Occupant) => o.ctx == r.ctx && o.seq == r.seq && o.cont == r.cont && s.berthState o.berth != 4 && s.berthState o.berth != 5 && !o.gone
  match s.fs.occ.find? fun o => hit o && o.mirror with
  | some o => some o
  | none => s.fs.occ.find? hit

/-- Lines of the frame as they stand (R199). -/
def Occupant.lines (o : Occupant) : Nat := if o.ended then o.height else o.written.foldl (fun n i => max n (i + 1)) 0

/-- Number of lines and width that a request names on a frame. -/
def Recall.extent (r : Recall) (o : Occupant) : Nat × Nat :=
  (if r.count = 0 then o.lines - r.first else r.count, if r.w = 0 then o.width - r.x0 else r.w)

/-- Begin the request in front (R198, R199). -/
def State.recallBegin (s : State) (r : Recall) : State :=
  match s.recallFind r with
  | none => s.recallEnd r 1
  | some o =>
    let e := r.extent o
    if o.lines < r.first + e.1 ∨ e.1 = 0 ∨ o.width < r.x0 + e.2 ∨ e.2 = 0 then s.recallEnd r 2
    else if r.x0 % 16 ≠ 0 ∨ r.w % 16 ≠ 0 ∨ !s.bunActive r.bundle then s.recallEnd r 3
    else
      let s := s.setB (Reg.FS_BSTATE o.berth) Fld.FS_BSTATE_LOCK true
      { s with fs := { s.fs with recalls := { r with berth := some o.berth } :: s.fs.recalls.tail } }

/-- Send the next line of the running request as B traffic where the bundle has credit (R198). -/
def State.recallLine (s : State) (r : Recall) (n : Nat) : State :=
  match s.occAt n with
  | none => s.recallEnd r 4
  | some o =>
    let e := r.extent o
    if e.1 ≤ r.pos then s.recallEnd r (if r.missed then 4 else 0)
    else
      let idx := r.first + r.pos
      let step := fun (s : State) (r : Recall) => ({ s with fs := { s.fs with recalls := r :: s.fs.recalls.tail } } : State)
      if !o.written.contains idx then step s { r with pos := r.pos + 1, missed := true }
      else
        let base : Packet := { ptype := 2, cls := 2, ctx := o.ctx, seq := o.seq, cont := o.cont, tag := r.tag, origin := 1, depth := o.depth }
        let q := s.readPart o base idx r.x0 e.2
        if s.hasCredit r.bundle q.2 then
          step (q.1.toLandings r.bundle q.2)
            { r with pos := r.pos + 1, sent := r.sent + 1 }
        else s

/-- RECALL_RUN (R198): the request in front begins, sends a line, or ends. -/
def State.recallRun (s : State) : State :=
  match s.fs.recalls with
  | [] => s
  | r :: _ =>
    match r.berth with
    | none => s.recallBegin r
    | some n => s.recallLine r n

/-- RECALL_POP (R199). -/
def State.recallPop (s : State) : State := { s with fs := { s.fs with results := s.fs.results.tail } }

/-! ## The commands -/

/-- UNLOADER_SEND (R190): `upsets` gives the errors that words of the frame store have taken (R182). -/
def execUnloaderSend (t : Nat) (turn : UnloaderTurn) (s : State) : Result :=
  .next ((s.advance t).onStripes fun s => (s.upset turn.upsets).unloaderSend turn.bundle.val)

/-- MIRROR_WRITE_TIMEOUT (R184). -/
def execMirrorWriteTimeout (t : Nat) (berth : Fin 1024) (s : State) : Result := .next ((s.advance t).onStripes fun s => s.mirrorSkip berth.val)

/-- BERTH_TABLE_WRITE (R185). -/
def execBerthTableWrite (t : Nat) (src : Src) (berth : Fin 1024) (val : Word) (s : State) : Result :=
  .next ((s.advance t).managed src fun s => s.berthWrite berth.val val)

/-- RECALL_GO (R197). -/
def execRecallGo (t : Nat) (src : Src) (s : State) : Result := .next ((s.advance t).managed src fun s => s.recallGo src)

/-- RECALL_RUN (R198): `upsets` gives the errors that words of the frame store have taken (R182). -/
def execRecallRun (turn : RecallTurn) (s : State) : Result :=
  .next ((s.advance turn.t).onStripes fun s => (s.upset turn.upsets).recallRun)

/-- RECALL_POP (R199). -/
def execRecallPop (t : Nat) (src : Src) (s : State) : Result := .next ((s.advance t).managed src fun s => s.recallPop)

end Sys2Proof.Machine
end

