-- ==== Sys2Proof/Machine/Ferries.lean ====
section
/-! DEFINITION. The ferries (R201 to R228): descriptors and their checks (R204 to R207), pacing (R213, R214), the movement of lines (R209 to R211), write-back (R216), delivery (R218), starting and stopping (R219, R220) and chain runs (R222 to R227). The commands FERRY_KICK, FERRY_STOP, FERRY_ENABLE, DESCRIPTOR_FETCH, PACING_WAIT_END, SOURCE_LINE_MOVE, DESCRIPTOR_WRITEBACK, DELIVERY_REPORT, FERRY_POLL, CHAIN_HANDOVER and CHAIN_RUN_ABORT. -/

namespace Sys2Proof.Machine

/-! ## A ferry's state -/

/-- Change ferry `f`. -/
def State.modFerry (s : State) (f : Nat) (g : Ferry → Ferry) : State := { s with fy := modifyAt g f s.fy }

/-- FY_STAT.STATE (R228): 0 idle, 1 fetching, 2 waiting for pacing, 3 moving, 4 WAIT_DEST, 5 starved, 6 halted, 7 stopped. -/
def State.fyState (s : State) (f : Nat) : Nat := s.f (Reg.FY_STAT f) Fld.FY_STAT_STATE

/-- Set FY_STAT.STATE. -/
def State.setFy (s : State) (f n : Nat) : State := s.setF (Reg.FY_STAT f) Fld.FY_STAT_STATE n

/-- FY_BUSY (R228): the ferry fetches, waits, moves or is starved. -/
def State.fyBusy (s : State) (f : Nat) : Bool := let n := s.fyState f; decide (1 ≤ n) && decide (n ≤ 5)

/-- The ferry runs a chain (R223). -/
def State.fyChained (s : State) (f : Nat) : Bool := s.flag (Reg.FY_STAT f) Fld.FY_STAT_CHAIN

/-- POLL_US in ns, as it has been in force since the last write-back (R220); 0 acts as 1. -/
def State.pollNs (s : State) (f : Nat) : Nat := 1000 * max 1 (Fld.FY_CTL_POLL_US.get (s.ferry f).cfg)

/-- POLL_EN, as it has been in force since the last write-back (R220). -/
def State.polls (s : State) (f : Nat) : Bool := Fld.FY_CTL_POLL_EN.get (s.ferry f).cfg == 1

/-- A ferry becomes idle; a held kick starts it again at once (R219), unless it now runs frames only (R223). -/
def State.fyIdle (s : State) (f : Nat) : State :=
  let s := s.modFerry f fun y => { y with desc := [], outcome := none, buf := [], waitFrom := none, pollAt := s.clock.tt + s.pollNs f }
  if s.flag (Reg.FY_STAT f) Fld.FY_STAT_KICK_HELD && !s.fyChained f then
    (s.setB (Reg.FY_STAT f) Fld.FY_STAT_KICK_HELD false).setFy f 1
  else s.setFy f 0

/-! ## Regions (R201) -/

/-- The region of a span of `n` bytes from `a` as a source. -/
def sourceRegion (a n : Nat) : Option Region :=
  if a + n ≤ storeEnd then some .store
  else if 0x300000000000 ≤ a ∧ a + n ≤ 0x300000640200 then some .stats
  else none

/-! ## Checks at fetch (R207) -/

/-- The frame's occupant of a run. -/
def State.runOcc (s : State) (y : Ferry) : Option Occupant :=
  match y.run with
  | some (c, q, k, n) => s.fs.occ.find? fun o => o.berth == n && o.ctx == c && o.seq == q && o.cont == k
  | none => none

/-- FRAME = 1. -/
def descFrame (d : List Word) : Bool := Fld.DESC0_FRAME.get (dw d 0) == 1

/-- CLASS and DEPTH that a descriptor's lines carry (R204, R224, R225): in a run the class of its frame, and with FRAME = 1 its depth. -/
def State.descClass (s : State) (y : Ferry) (d : List Word) : Nat × Nat :=
  match s.runOcc y with
  | some o => (o.cls, if descFrame d then o.depth else Fld.DESC6_DEPTH.get (dw d 6))
  | none => (Fld.DESC6_CLASS.get (dw d 6), Fld.DESC6_DEPTH.get (dw d 6))

/-- The class that the FORMAT check looks at (R207): with FRAME = 1 word 6 is ignored (R225). -/
def State.checkedClass (s : State) (y : Ferry) (d : List Word) : Nat :=
  match descFrame d, s.runOcc y with
  | true, some o => o.cls
  | _, _ => Fld.DESC6_CLASS.get (dw d 6)

/-- Absolute address of source line 0 (R225). -/
def State.srcBase (s : State) (y : Ferry) (d : List Word) : Nat :=
  match descFrame d, s.runOcc y with
  | true, some o => s.berthBase o.berth + Fld.DESC_ADDR.get (dw d 1)
  | _, _ => Fld.DESC_ADDR.get (dw d 1)

/-- Check ADDR fails. -/
def State.badAddr (s : State) (y : Ferry) (d : List Word) : Bool :=
  let src := match descFrame d, s.runOcc y with
    | true, some o => decide (s.berthBytes o.berth < Fld.DESC_ADDR.get (dw d 1) + spanOf (dw d 2))
    | true, none => false
    | _, _ => (sourceRegion (Fld.DESC_ADDR.get (dw d 1)) (spanOf (dw d 2))).isNone
  src || (destRegion (Fld.DESC_ADDR.get (dw d 3)) (destSpan d)).isNone

/-- Check FORMAT fails for ferry `f`. -/
def State.badFormat (s : State) (f : Nat) (y : Ferry) (d : List Word) : Bool :=
  let sl := Fld.DESC2_LEN.get (dw d 2)
  let sc := Fld.DESC2_COUNT.get (dw d 2)
  let dl := Fld.DESC2_LEN.get (dw d 4)
  let dc := Fld.DESC2_COUNT.get (dw d 4)
  let kind := Fld.DESC5_PACE_KIND.get (dw d 5)
  let sel := Fld.DESC5_PACE_SEL.get (dw d 5)
  let cd := (s.checkedClass y d, (s.descClass y d).2)
  let pix := Fld.DESC0_PIX.get (dw d 0)
  let link := match destRegion (Fld.DESC_ADDR.get (dw d 3)) (destSpan d) with
    | some (.landing _) => true | some .preview => true | _ => false
  let prev := decide (destRegion (Fld.DESC_ADDR.get (dw d 3)) (destSpan d) = some .preview)
  sl == 0 || decide (256 < sl) || dl == 0 || decide (256 < dl) || sc == 0 || dc == 0 || sl * sc != dl * dc ||
    (kind == 1 && decide (9 ≤ sel)) || (kind == 3 && sel == f) || (descFrame d && y.run.isNone) ||
    (link && (dl != sl || cd.1 == 1 || cd.1 == 3 || pix == 0 || decide (1024 < pix) || decide (dl * 512 < pix * 16 * depthBits cd.2) ||
      decide (16384 < 16 * (Fld.DESC0_COL0.get (dw d 0) + pix)))) || (prev && cd.2 != 0)

/-- The first check that fails, as a STATUS (R207, R208). -/
def State.descCheck (s : State) (f : Nat) (y : Ferry) (d : List Word) : Option Nat :=
  if Fld.DESC_ADDR.get (dw d 1) % 64 ≠ 0 ∨ Fld.DESC_ADDR.get (dw d 3) % 64 ≠ 0 then some 2
  else if s.badAddr y d then some 3
  else if s.badFormat f y d then some 4
  else none

/-! ## Pacing (R213, R214) -/

/-- Events and write-backs that a wait asks for and that are stamped on the present tick: they count though they came before it (R214). -/
def State.seenNow (s : State) (kind sel : Nat) : Nat := (s.tt.recent.filter fun e => e.1 == kind && e.2.1 == sel && decide (s.tick ≤ e.2.2)).length

/-- Open a wait on the present tick (R214). -/
def State.openWait (s : State) (f : Nat) : State :=
  let w5 := dw (s.ferry f).desc 5
  let kind := Fld.DESC5_PACE_KIND.get w5
  let left := if kind = 1 ∨ kind = 3 then max 1 (Fld.DESC5_PACE_ARG.get w5) - s.seenNow kind (Fld.DESC5_PACE_SEL.get w5) else 0
  (s.modFerry f fun y => { y with waitFrom := some s.tick, waitLeft := left }).setFy f 2

/-- The wait of ferry `f` is over. -/
def State.waitOver (s : State) (f : Nat) : Bool :=
  let y := s.ferry f
  let w5 := dw y.desc 5
  let arg := Fld.DESC5_PACE_ARG.get w5
  match Fld.DESC5_PACE_KIND.get w5 with
  | 0 => true
  | 2 =>
    if Fld.DESC5_PACE_UNIT.get w5 = 0 then decide (y.fetchAt + 8 * arg ≤ s.clock.tt)
    else y.srcLine == 0 || decide (y.readAt + 8 * arg ≤ s.clock.tt)
  | _ => y.waitLeft == 0

/-- PACING_WAIT_END (R213): the wait is over and lines may move. -/
def State.endWait (s : State) (f : Nat) : State :=
  if s.fyState f = 2 ∧ (s.ferry f).waitFrom.isSome ∧ s.waitOver f then (s.modFerry f fun y => { y with waitFrom := none }).setFy f 3 else s

/-! ## Fetch (R206) -/

/-- Most descriptors that may await delivery (R218). -/
def awaitMax : Nat := 64

/-- A descriptor that is owned begins (R206, R227): aborted, refused, or on its way to pacing and movement. -/
def State.beginDesc (s : State) (f : Nat) (d : List Word) : State :=
  let s := (s.modFerry f fun y => { y with
    desc := d, id := y.id + 1, outcome := none, srcLine := 0, buf := [], waitFrom := none, fetchAt := s.tick }).setF (Reg.FY_STAT f)
    Fld.FY_STAT_LINES 0
  let y := s.ferry f
  if y.aborting then (s.modFerry f fun y => { y with outcome := some 6 }).setFy f 3
  else
    match s.descCheck f y d with
    | some c => (s.modFerry f fun y => { y with outcome := some c }).setFy f 3
    | none => if Fld.DESC5_PACE_KIND.get (dw d 5) = 0 then s.setFy f 3 else s.openWait f

/-- DESCRIPTOR_FETCH (R206, R218, R219, R223, R226): a ferry that runs frames only fetches for a run alone. -/
def State.fetchDesc (s : State) (f : Nat) : State :=
  let y := s.ferry f
  if !(s.fyState f = 1 ∨ (s.fyState f = 4 ∧ y.desc = [])) then s
  else if s.fyChained f && y.run.isNone then s.fyIdle f
  else if awaitMax ≤ y.awaiting.length then s.setFy f 4
  else
    let d := s.descWords (s.f (Reg.FY_STAT f) Fld.FY_STAT_POS)
    if Fld.DESC0_OWN.get (dw d 0) = 1 then s.beginDesc f d
    else if y.run.isSome then
      let wait := if s.polls f then s.pollNs f else 1000
      ((s.satF (Reg.FY_CNT f) Fld.FY_CNT_STARVE 1).modFerry f fun y => { y with pollAt := s.clock.tt + wait }).setFy f 5
    else s.fyIdle f

/-! ## Moving lines (R209 to R211) -/

/-- Bytes of the statistics RAM from ferry address `a` on (R181, R202). -/
def State.statsBytes (s : State) (a n : Nat) : List Byte :=
  let lo := a % 0x300000000000 + 0x1400000
  (((List.range (ceilDiv n 8)).map fun k => wordBytes (s.reg (lo + 8 * k))).flatten).take n

/-- Write bytes `bs` of the stream from position `p` to a frame-store destination (R209): line j lies `stride` units of 64 bytes further on. -/
def State.scatter (s : State) (base len stride p : Nat) (bs : List Byte) : State :=
  (List.range (ceilDiv (bs.length + p % len) len)).foldl (fun s k =>
    let j := p / len + k
    let lo := max p (j * len)
    let hi := min (p + bs.length) ((j + 1) * len)
    s.setBytes (base + 64 * j * stride + (lo - j * len)) ((bs.drop (lo - p)).take (hi - lo))) s

/-- The identity that a descriptor's lines carry, context, number, continuation: in a run they are its frame's delivery (R211, R224). -/
def State.descIdent (s : State) (y : Ferry) (d : List Word) : Nat × Nat × Nat :=
  match s.runOcc y with
  | some o => (o.ctx, o.seq, o.cont)
  | none => (Fld.DESC6_CTX.get (dw d 6), Fld.DESC6_SEQ.get (dw d 6), Fld.DESC6_CONT.get (dw d 6))

/-- The LINE packets that the present line makes on a landing (R211). -/
def State.ferryPackets (s : State) (f : Nat) (y : Ferry) (bs : List Byte) : List Packet :=
  let d := y.desc
  let cd := s.descClass y d
  let n := depthBits cd.2
  let i := s.descIdent y d
  let run := y.run.isSome
  let base : Packet :=
    { ptype := 2, cls := cd.1, ctx := i.1, seq := i.2.1, cont := i.2.2, depth := cd.2,
      tag := if run then 0 else Fld.DESC0_TAG.get (dw d 0), origin := if run then 0 else 2, desc := some (f, y.id) }
  linePackets base n (Fld.DESC0_LINE0.get (dw d 0) + y.srcLine) (16 * Fld.DESC0_COL0.get (dw d 0)) (unpack n (16 * Fld.DESC0_PIX.get (dw d 0)) bs)

/-- The preview datagrams of the present line (R211, R363). -/
def State.ferryItems (s : State) (f : Nat) (y : Ferry) (bs : List Byte) : List PreviewItem :=
  let d := y.desc
  let i := s.descIdent y d
  let run := y.run.isSome
  previewItems
    { kind := 2, ctx := i.1, seq := i.2.1, cont := i.2.2, line := Fld.DESC0_LINE0.get (dw d 0) + y.srcLine,
      col := 16 * Fld.DESC0_COL0.get (dw d 0), pix := 0, origin := if run then 0 else 2, tag := if run then 0 else Fld.DESC0_TAG.get (dw d 0),
      dst := s.reg Reg.ETH_PREV_DST, bytes := [], hold := 0, desc := some (f, y.id) }
    s.previewChunk (unpack 8 (16 * Fld.DESC0_PIX.get (dw d 0)) bs)

/-- The FS that a run's first line on bundle `b` needs (R224). -/
def State.runStart (s : State) (y : Ferry) (b : Nat) : List Packet :=
  match s.runOcc y with
  | some o => if y.sentTo.contains b then [] else [{ fsPacket o.fixed o.ctx o.seq o.cont b o.man with cls := o.cls, word2 := y.runMask, twin := none }]
  | none => []

/-- A line has been written: the ferry counts it and goes on to the next line, its pacing, or the write-back (R206, R209). -/
def State.lineWritten (s : State) (f : Nat) : State :=
  let s := s.modFerry f fun y => { y with srcLine := y.srcLine + 1, buf := [] }
  let y := s.ferry f
  let done := y.srcLine * Fld.DESC2_LEN.get (dw y.desc 2) / max 1 (Fld.DESC2_LEN.get (dw y.desc 4))
  let s := s.setF (Reg.FY_STAT f) Fld.FY_STAT_LINES done
  if Fld.DESC2_COUNT.get (dw y.desc 2) ≤ y.srcLine then (s.modFerry f fun y => { y with outcome := some 0 }).setFy f 3
  else if Fld.DESC5_PACE_UNIT.get (dw y.desc 5) = 1 ∧ Fld.DESC5_PACE_KIND.get (dw y.desc 5) ≠ 0 then s.openWait f
  else s.setFy f 3

/-- The descriptor ends with a status before its last line. -/
def State.endDesc (s : State) (f code : Nat) : State :=
  (s.modFerry f fun y => { y with outcome := some code, buf := [], waitFrom := none }).setFy f 3

/-- Write the line that has been read (R209, R211, R215). -/
def State.writeLine (s : State) (f : Nat) (bs : List Byte) : State :=
  let y := s.ferry f
  let d := y.desc
  match destRegion (Fld.DESC_ADDR.get (dw d 3)) (destSpan d) with
  | some (.landing b) =>
    if !s.bunActive b then s.endDesc f 5
    else
      let fs := s.runStart y b
      let ps := s.ferryPackets f y bs
      if s.hasCredit b (fs ++ ps) then
        let s := s.toLandings b (fs ++ ps)
        (s.modFerry f fun y => { y with sentTo := if y.run.isSome && !y.sentTo.contains b then y.sentTo ++ [b] else y.sentTo }).lineWritten f
      else (s.modFerry f fun y => { y with buf := bs }).setFy f 4
  | some .preview =>
    let items := s.ferryItems f y bs
    if s.previewUsed + (items.map (·.hold)).sum ≤ previewSize then
      (({ s with prev := { s.prev with queue := s.prev.queue ++ items } } : State).showPreview).lineWritten f
    else (s.modFerry f fun y => { y with buf := bs }).setFy f 4
  | _ =>
    (s.scatter (Fld.DESC_ADDR.get (dw d 3)) (64 * Fld.DESC2_LEN.get (dw d 4)) (Fld.DESC2_STRIDE.get (dw d 4))
      (y.srcLine * (64 * Fld.DESC2_LEN.get (dw d 2))) bs).lineWritten f

/-- First byte past the lines of a run's frame, as a berth offset (R225). -/
def Occupant.limit (o : Occupant) : Nat := 0x200 + o.height * strideOf o.width (depthBits o.depth)

/-- Read the next source line, then write it (R209, R215, R225). -/
def State.readLine (s : State) (f : Nat) : State :=
  let y := s.ferry f
  let d := y.desc
  let len := 64 * Fld.DESC2_LEN.get (dw d 2)
  let off := 64 * y.srcLine * Fld.DESC2_STRIDE.get (dw d 2)
  let a := s.srcBase y d + off
  let short := match descFrame d, s.runOcc y with
    | true, some o => decide (o.limit < Fld.DESC_ADDR.get (dw d 1) + off + len)
    | _, _ => false
  if short then s.endDesc f 1
  else
    let s := s.modFerry f fun y => { y with readAt := s.clock.tt }
    if a < storeEnd then
      let bad := s.damagedIn a len
      let s := s.countEcc a len
      if bad then s.endDesc f 5 else s.writeLine f (s.bytes a len)
    else s.writeLine f (s.statsBytes a len)

/-- SOURCE_LINE_MOVE (R209): a moving ferry reads and writes a line; one that waits for room writes what it has read. -/
def State.moveLine (s : State) (f : Nat) : State :=
  let y := s.ferry f
  if y.desc = [] ∨ y.outcome.isSome then s
  else if s.fyState f = 3 then s.readLine f
  else if s.fyState f = 4 then s.writeLine f y.buf
  else s

/-! ## Write-back (R216) -/

/-- A destination that DLV_REQ has a meaning for (R218). -/
def descDelivers (d : List Word) : Bool :=
  Fld.DESC0_DLV_REQ.get (dw d 0) == 1 &&
    (match destRegion (Fld.DESC_ADDR.get (dw d 3)) (destSpan d) with | some (.landing _) => true | some .preview => true | _ => false)

/-- Report how many descriptors await delivery. -/
def State.showAwaiting (s : State) (f : Nat) : State := s.setF (Reg.FY_DLV f) Fld.FY_DLV_PENDING (s.ferry f).awaiting.length

/-- Write the words of R216 into descriptor `pos`. -/
def State.writeBackWords (s : State) (f pos status : Nat) : State :=
  let y := s.ferry f
  let d := y.desc
  let lines := s.f (Reg.FY_STAT f) Fld.FY_STAT_LINES
  let s := match descFrame d, s.runOcc y with
    | true, some o =>
      s.setReg (Reg.FY_DESC pos 6) (BitVec.ofNat 64 (o.seq + o.cont * 2 ^ 32 + o.ctx * 2 ^ 48 + o.cls * 2 ^ 60 + o.depth * 2 ^ 62))
    | _, _ => s
  let s := s.setReg (Reg.FY_DESC pos 7) (BitVec.ofNat 64 (lines + status * 2 ^ 24 + s.stamp.toNat % 2 ^ 32 * 2 ^ 32))
  s.setReg (Reg.FY_DESC pos 0) (Fld.DESC0_OWN.set (dw d 0) 0)

/-- The ferry's own registers after a write-back (R216). -/
def State.noteWriteBack (s : State) (f pos status : Nat) : State :=
  let y := s.ferry f
  let lines := s.f (Reg.FY_STAT f) Fld.FY_STAT_LINES
  let s := s.setReg (Reg.FY_LAST f) (BitVec.ofNat 64 (pos + status * 2 ^ 14 + lines * 2 ^ 18 + 2 ^ 42))
  let s := s.setReg (Reg.FY_TIME f) s.stamp
  let s := s.addF (Reg.FY_CNT f) Fld.FY_CNT_DESC 1
  let s := if Fld.DESC0_NOTIFY.get (dw y.desc 0) = 1 then s.setBit Reg.FY_DONE Fld.FY_DONE_DONE f else s
  let s := if 2 ≤ status then (s.setBit Reg.FY_ERR Fld.FY_ERR_ERR f).satF (Reg.FY_CNT f) Fld.FY_CNT_ERR 1 else s
  let s := s.modFerry f fun y => { y with
    awaiting := if descDelivers y.desc && lines != 0 then y.awaiting ++ [⟨pos, y.id, decide (y.lost = y.id)⟩] else y.awaiting }
  (s.paceEvent 3 f s.tick).showAwaiting f

/-- The FE of a run's frame on a bundle (R224). -/
def State.runEnd (s : State) (o : Occupant) (b : Nat) : Packet :=
  { s.fePacket o.fixed o.ctx o.seq o.cont b o.feFlags o.man with cls := o.cls, twin := none }

/-- The landings of a run's bundles have credit for its FE packets; a bundle that is not active takes them as they come (DEDUCED, log entry 74). -/
def State.runCredit (s : State) (y : Ferry) : Bool :=
  match s.runOcc y with
  | none => true
  | some o => y.aborting || y.abortReq || y.sentTo.all fun b => !(s.bunActive b) || s.hasCredit b [s.runEnd o b]

/-- A run's frame on its bundles ends with an FE for each, its berth is released, and it counts as sent; a run of a dropped frame only gives up the berth (R196, R224, R227). -/
def State.endRun (s : State) (f next : Nat) : State :=
  let y := s.ferry f
  let occ := s.runOcc y
  let s := s.modFerry f fun y => { y with
    run := none, runMask := 0, aborting := false, abortReq := false, sentTo := [], lastHead := some y.runHead, lastNext := next }
  match occ with
  | none => s
  | some o =>
    if y.aborting || y.abortReq then s.dropBerth o
    else (y.sentTo.foldl (fun s b => s.toLanding b (s.runEnd o b)) s).settleSent { o with chainDone := true }

/-- DESCRIPTOR_WRITEBACK (R216): afterwards the ferry stops, halts, ends its run, becomes idle or fetches at NEXT. HALT_ON_ERR and the POLL fields take effect (R220). The last write-back of a run waits for credit for its FE. -/
def State.writeBack (s : State) (f : Nat) : State :=
  let y := s.ferry f
  let last := Fld.DESC0_LAST.get (dw y.desc 0) == 1
  let ends := last && y.run.isSome
  match y.outcome with
  | none => s
  | some status =>
    if ends && !s.runCredit y then s
    else
      let pos := s.f (Reg.FY_STAT f) Fld.FY_STAT_POS
      let next := Fld.DESC5_NEXT.get (dw y.desc 5)
      let s := (s.writeBackWords f pos status).noteWriteBack f pos status
      let s := s.setF (Reg.FY_STAT f) Fld.FY_STAT_POS next
      let ctl := s.reg (Reg.FY_CTL f)
      let stops := y.stopping && (y.run.isNone || ends)
      let s := s.modFerry f fun y => { y with
        desc := [], outcome := none, buf := [], waitFrom := none, cfg := ctl, stopping := y.stopping && !stops }
      let s := if ends then s.endRun f next else s
      if stops then (if Fld.FY_CTL_EN.get ctl = 1 then s.fyIdle f else s.setFy f 7)
      else if 2 ≤ status && !y.aborting && Fld.FY_CTL_HALT_ON_ERR.get ctl == 1 then s.setFy f 6
      else if last || (s.fyChained f && y.run.isNone) then s.fyIdle f
      else s.setFy f 1

/-! ## Delivery (R218) -/

/-- A packet or datagram of the descriptor has not left yet. -/
def State.undelivered (s : State) (f id : Nat) : Bool :=
  (s.eg.any fun x => (x.landing ++ x.ford ++ x.replay ++ x.due).any fun p => decide (p.desc = some (f, id))) ||
    s.prev.queue.any fun i => decide (i.desc = some (f, id))

/-- DELIVERY_REPORT (R218): the oldest descriptor that awaits delivery, once its lines are through. -/
def State.report (s : State) (f : Nat) : State :=
  match (s.ferry f).awaiting with
  | [] => s
  | a :: r =>
    if s.undelivered f a.id then s
    else
      let s := s.modFerry f fun y => { y with awaiting := r }
      let s := s.addF (Reg.FY_DLV f) Fld.FY_DLV_COUNT 1
      let s := s.setF (Reg.FY_DLV f) Fld.FY_DLV_INDEX a.index
      let s := s.setB (Reg.FY_DLV f) Fld.FY_DLV_DISCARDED a.discarded
      let s := s.setB (Reg.FY_DLV f) Fld.FY_DLV_VALID true
      (s.setReg (Reg.FY_DLVT f) s.stamp).showAwaiting f

/-! ## Starting and stopping (R219, R220) -/

/-- FERRY_KICK (R219, R223). A stopped ferry takes no new position and holds a kick until it is enabled (DEDUCED, log entry 14). -/
def State.kick (s : State) (f index : Nat) (setPos : Bool) : State :=
  if s.fyChained f then s.setB (Reg.FY_STAT f) Fld.FY_STAT_KICK_IGN true
  else if s.fyBusy f || s.fyState f == 7 then
    if setPos then s.setB (Reg.FY_STAT f) Fld.FY_STAT_KICK_IGN true else s.setB (Reg.FY_STAT f) Fld.FY_STAT_KICK_HELD true
  else (if setPos then s.setF (Reg.FY_STAT f) Fld.FY_STAT_POS index else s).setFy f 1

/-- The settings words of the frame that a ferry runs. -/
def State.runFixed (s : State) (y : Ferry) : RegFile := match s.runOcc y with | some o => o.fixed | none => s.use

/-- Begin to end a run early (R227): the descriptor in hand ends with ABORT, and those up to LAST will, also in a ferry that had halted (DEDUCED, log entry 81). A GAP follows the last lines on every bundle of the run, but where the berth has been freed already. -/
def State.abortRun (s : State) (f : Nat) : State :=
  let y := s.ferry f
  if y.aborting then s
  else
    let s := match s.runOcc y with
      | some o => s.sendGaps o.fixed o.ctx o.seq o.cont y.why y.runMask
      | none => s
    let s := s.modFerry f fun y => { y with
      aborting := true, abortReq := false, waitFrom := none, buf := []
      outcome := if y.desc = [] then none else if y.outcome.isSome then y.outcome else some 6 }
    if y.desc = [] then s.setFy f 1 else s.setFy f 3

/-- FERRY_STOP (R220, R227): EN = 0. A run is aborted and its frame dropped, with gap reason 4; otherwise the descriptor in hand ends with ABORT. The ferry is stopped once that is written back. -/
def State.stopFerry (s : State) (f : Nat) : State :=
  let s := s.setB (Reg.FY_CTL f) Fld.FY_CTL_EN false
  let y := s.ferry f
  match y.run with
  | some (c, q, k, _) =>
    ((s.dropFrame (s.runFixed y) c q k 4).modFerry f fun y => { y with stopping := true }).abortRun f
  | none =>
    if y.desc = [] then s.setFy f 7
    else
      let s := s.modFerry f fun y => { y with stopping := true }
      if y.outcome.isSome then s else s.endDesc f 6

/-- FERRY_ENABLE (R220): a stopped ferry is idle at its position; one whose stop still awaits its write-back becomes idle with it. -/
def State.enableFerry (s : State) (f : Nat) : State :=
  let s := s.setB (Reg.FY_CTL f) Fld.FY_CTL_EN true
  if s.fyState f = 7 then s.fyIdle f else s

/-- FERRY_POLL (R219, R226). -/
def State.pollFerry (s : State) (f : Nat) : State :=
  let due := decide ((s.ferry f).pollAt ≤ s.clock.tt)
  let idle := s.fyState f == 0 && s.polls f && !s.fyChained f
  if due && (idle || s.fyState f == 5) then s.setFy f 1 else s

/-! ## Chain runs (R222 to R227) -/

/-- The frame that is next to be handed to ferry `f` (R222). -/
def State.handNext (s : State) (f : Nat) : Option Occupant :=
  (s.fs.occ.filter fun o => decide (o.chain.map (·.1) = some f) && !o.handed && !o.gone && o.ended).foldl (fun a o =>
    match a with
    | none => some o
    | some p => if frameBefore o.seq o.cont p.seq p.cont then some o else some p) none

/-- CHAIN_HANDOVER (R222, R224). -/
def State.handOver (s : State) (f : Nat) : State :=
  if s.fyState f ≠ 0 ∨ (s.ferry f).run.isSome then s
  else
    match s.handNext f with
    | none => s
    | some o =>
      let head := (o.chain.map (·.2)).getD 0
      let pos := s.runFrom f head
      let s := (s.setOcc { o with handed := true }).setF (Reg.FY_STAT f) Fld.FY_STAT_POS pos
      (s.modFerry f fun y => { y with
        run := some (o.ctx, o.seq, o.cont, o.berth), runHead := head, runMask := s.runBundles 16384 pos 0, sentTo := [], aborting := false,
        abortReq := false }).setFy f 1

/-- CHAIN_RUN_ABORT (R227): the run of a dropped frame ends early. -/
def State.chainAbort (s : State) (f : Nat) : State :=
  let y := s.ferry f
  if y.abortReq && y.run.isSome then s.abortRun f else s

/-! ## The commands -/

/-- FERRY_KICK (R219). -/
def execFerryKick (t : Nat) (src : Src) (ferry : Fin 32) (index : Fin 16384) (setPos : Bool) (s : State) : Result :=
  .next ((s.advance t).managed src fun s => s.kick ferry.val index.val setPos)

/-- FERRY_STOP (R220). -/
def execFerryStop (t : Nat) (src : Src) (ferry : Fin 32) (s : State) : Result := .next ((s.advance t).managed src fun s => s.stopFerry ferry.val)

/-- FERRY_ENABLE (R220). -/
def execFerryEnable (t : Nat) (src : Src) (ferry : Fin 32) (s : State) : Result := .next ((s.advance t).managed src fun s => s.enableFerry ferry.val)

/-- DESCRIPTOR_FETCH (R206). -/
def execDescriptorFetch (t : Nat) (ferry : Fin 32) (s : State) : Result := .next ((s.advance t).onStripes fun s => s.fetchDesc ferry.val)

/-- PACING_WAIT_END (R213). -/
def execPacingWaitEnd (t : Nat) (ferry : Fin 32) (s : State) : Result := .next ((s.advance t).onStripes fun s => s.endWait ferry.val)

/-- SOURCE_LINE_MOVE (R209): `upsets` gives the errors that words of the frame store have taken (R182). -/
def execSourceLineMove (t : Nat) (turn : FerryTurn) (s : State) : Result :=
  .next ((s.advance t).onStripes fun s => (s.upset turn.upsets).moveLine turn.ferry.val)

/-- DESCRIPTOR_WRITEBACK (R216). -/
def execDescriptorWriteback (t : Nat) (ferry : Fin 32) (s : State) : Result := .next ((s.advance t).onStripes fun s => s.writeBack ferry.val)

/-- DELIVERY_REPORT (R218). -/
def execDeliveryReport (t : Nat) (ferry : Fin 32) (s : State) : Result := .next ((s.advance t).onStripes fun s => s.report ferry.val)

/-- FERRY_POLL (R219). -/
def execFerryPoll (t : Nat) (ferry : Fin 32) (s : State) : Result := .next ((s.advance t).onStripes fun s => s.pollFerry ferry.val)

/-- CHAIN_HANDOVER (R222). -/
def execChainHandover (t : Nat) (ferry : Fin 32) (s : State) : Result := .next ((s.advance t).onStripes fun s => s.handOver ferry.val)

/-- CHAIN_RUN_ABORT (R227). -/
def execChainRunAbort (t : Nat) (ferry : Fin 32) (s : State) : Result := .next ((s.advance t).onStripes fun s => s.chainAbort ferry.val)

end Sys2Proof.Machine
end

