-- ==== Sys2Proof/Machine/Coding.lean ====
section
/-! DEFINITION. Line coding: CRC-32 (R235), blocks (R231), control blocks and packets as blocks (R234 to R236, R247), the scrambler (R232), bit stuffing (R233), training frames (R261), test patterns (R274), and the receiving direction (R231 to R235). -/

namespace Sys2Proof.Machine

/-! ## Bits and CRC-32 (R231, R235) -/

/-- The low `w` bits of a number, bit 0 first (R231). -/
def bitsLow (w v : Nat) : List Bool := (List.range w).map fun i => v.testBit i

/-- The number that bits spell, bit 0 first. -/
def ofBits : List Bool → Nat
  | [] => 0
  | b :: r => b.toNat + 2 * ofBits r

/-- One bit into the CRC register, which is kept in the order of transmission: 0xEDB8_8320 is 0x04C1_1DB7 reversed. -/
def crcStep (c : Nat) (b : Bool) : Nat := (c / 2) ^^^ (if (c.testBit 0 != b) then 0xEDB88320 else 0)

/-- CRC-32 of bits in transmission order (R235): initial value all ones, result complemented. -/
def crc32 (bits : List Bool) : Nat := bits.foldl crcStep 0xFFFFFFFF ^^^ 0xFFFFFFFF

/-- The bits of bytes in transmission order (R231). -/
def bytesBits (l : List Byte) : List Bool := (l.map fun b => bitsLow 8 b.toNat).flatten

/-! ## Blocks (R231, R234 to R236) -/

/-- A control block of words 0 to 2 and the low half of word 3, with its CRC (R235). -/
def ctlBlock (w0 w1 w2 w3 : Nat) : Block :=
  let head := bitsLow 64 w0 ++ bitsLow 64 w1 ++ bitsLow 64 w2 ++ bitsLow 32 w3
  { data := false, bits := head ++ bitsLow 32 (crc32 head) }

/-- IDLE (R235). -/
def idleBlock : Block := ctlBlock 0 0 0 0

/-- ALIGN, SHED or REJOIN on lane `l` (R235). -/
def roundBlock (type l mask trim round : Nat) : Block := ctlBlock (type + l * 2 ^ 8 + mask * 2 ^ 11 + trim * 2 ^ 18) (round % 2 ^ 48) 0 0

/-- The PKT_HDR of a packet on bundle `b` (R236). -/
def Packet.header (p : Packet) (b : Nat) : Block :=
  let twin := match p.twin with | some w => 2 ^ 14 + w * 2 ^ 56 | none => 0
  ctlBlock
    (0x1E + p.ptype * 2 ^ 8 + p.cls * 2 ^ 12 + p.lsn % 2 ^ 16 * 2 ^ 16 + p.ctx * 2 ^ 32 + p.nblk * 2 ^ 44 + b * 2 ^ 53 + twin)
    (p.seq % 2 ^ 32 + p.cont % 2 ^ 16 * 2 ^ 32 + p.tag % 2 ^ 8 * 2 ^ 48 + p.origin * 2 ^ 56 + p.damaged.toNat * 2 ^ 58 + p.depth * 2 ^ 59)
    (p.word2 % 2 ^ 64) (p.payload.length + p.flags % 16 * 2 ^ 14)

/-- Data blocks of 256 bits each. -/
def cutBlocks : Nat → List Bool → List Block
  | 0, _ => []
  | n + 1, l => { data := true, bits := l.take 256 } :: cutBlocks n (l.drop 256)

/-- The data blocks of a packet: payload, zero padding, and the payload's CRC in the last 4 bytes of the last block (R236). -/
def Packet.dataBlocks (p : Packet) : List Block :=
  let bits := bytesBits p.payload
  cutBlocks p.nblk (bits ++ List.replicate (256 * p.nblk - 32 - bits.length) false ++ bitsLow 32 (crc32 bits))

/-- A packet as blocks (R236). -/
def Packet.blocks (p : Packet) (b : Nat) : List Block := p.header b :: p.dataBlocks

/-! ## Sending (R231 to R234) -/

/-- The scrambler of R232 over payload bits from the last 61 sent ones: the sent bits and the new history. -/
def scramble : Nat → List Bool → List Bool × Nat
  | h, [] => ([], h)
  | h, d :: r =>
    let k := d != (h.testBit 22 != h.testBit 60)
    let q := scramble ((h * 2 + k.toNat) % 2 ^ 61) r
    (k :: q.1, q.2)

/-- Length of the run of identical bits after bit `x`. -/
def nextRun (b : Bool) (n : Nat) (x : Bool) : Nat := if x == b then n + 1 else 1

/-- Stuffing (R233): after 40 identical bits one of the opposite value goes in. Answers the bits, the run at their end and how many went in. -/
def stuff : Bool → Nat → List Bool → List Bool × Bool × Nat × Nat
  | b, n, [] => ([], b, n, 0)
  | b, n, x :: r =>
    if nextRun b n x = 40 then
      let q := stuff (!x) 1 r
      (x :: (!x) :: q.1, q.2.1, q.2.2.1, q.2.2.2 + 1)
    else
      let q := stuff x (nextRun b n x) r
      (x :: q.1, q.2.1, q.2.2.1, q.2.2.2)

/-- Invert the first bit of a list. -/
def flipFirst : List Bool → List Bool
  | [] => []
  | b :: r => (!b) :: r

/-- A header as sent (R231); an injection of KIND 2 sends 0b0000 (R276). -/
def headerBits (data bad : Bool) : List Bool :=
  if bad then [false, false, false, false] else if data then [false, true, false, true] else [true, false, true, false]

/-- A lane sends a block of which the `trim` most significant bits of word 2 are left out (R234). Stuffed bits are counted, and an injection under way acts on the block (R276). -/
def LaneTx.block (x : LaneTx) (k : Block) (trim : Nat) : LaneTx :=
  let kind := if x.injLeft = 0 then 0 else x.injKind
  let q := scramble x.scr (if trim = 0 then k.bits else k.bits.take (192 - trim) ++ k.bits.drop 192)
  let r := stuff x.runBit x.runLen (headerBits k.data (kind == 2) ++ (if kind = 1 then flipFirst q.1 else q.1))
  { x with
    scr := q.2, sent := x.sent ++ r.1, runBit := r.2.1, runLen := r.2.2.1, stuffed := x.stuffed + r.2.2.2
    injLeft := x.injLeft - 1 }

/-! ## Training frames (R261) -/

/-- The next `n` bits of the generator x^a + x^c + 1 from its last bits `h`, the newest in bit 0, and what it then holds (R261, R274). -/
def prbsBits (a c : Nat) : Nat → Nat → List Bool × Nat
  | 0, h => ([], h)
  | n + 1, h =>
    let k := h.testBit (a - 1) != h.testBit (c - 1)
    let q := prbsBits a c n ((h * 2 + k.toNat) % 2 ^ a)
    (k :: q.1, q.2)

/-- The marker and the control field of a training frame (R261): each bit of the field is followed by its complement. -/
def frameHead (field : Nat) : List Bool :=
  List.replicate 16 true ++ List.replicate 16 false ++ ((bitsLow 32 field).map fun c => [c, !c]).flatten

/-- A lane sends a training frame: marker, control field, and 4,064 bits of PRBS11 whose state carries over. It is neither scrambled nor stuffed, and the runs and stuffed bits of a block stream count anew after it (R233, R261). -/
def LaneTx.frame (x : LaneTx) (field : Nat) : LaneTx :=
  let q := prbsBits 11 9 4064 x.prbs
  { x with prbs := q.2, sent := x.sent ++ frameHead field ++ q.1, runLen := 0, stuffed := 0 }

/-! ## Test patterns (R274) -/

/-- The first `n` bits of a pattern: a generator begins with all ones behind it. -/
def patternBits (pattern fixed n : Nat) : List Bool :=
  match pattern with
  | 0 => (prbsBits 7 6 n (2 ^ 7 - 1)).1
  | 1 => (prbsBits 15 14 n (2 ^ 15 - 1)).1
  | 2 => (prbsBits 31 28 n (2 ^ 31 - 1)).1
  | _ => (List.range n).map fun i => fixed.testBit (i % 32)

/-- Bits that a generator has sent since it began, at 56 per ns. -/
def PatternGen.count (g : PatternGen) (now : Nat) : Nat := 56 * (now - g.since)

/-- What a generator has sent up to now: the pattern, inverted under INV and at the bits of an injection (R274, R276). -/
def PatternGen.bits (g : PatternGen) (now : Nat) : List Bool :=
  ((patternBits g.pattern g.fixed (g.count now)).zipIdx).map fun p => (p.1 != g.inv) != g.flips.contains p.2

/-- A generator stops: what it has sent stands with the lane's bits. -/
def LaneTx.settle (x : LaneTx) (now : Nat) : LaneTx :=
  match x.gen with
  | some g => { x with gen := none, sent := x.sent ++ g.bits now }
  | none => x

/-- COUNT bits of the pattern are inverted from the next one on, 1,024 apart (R276). -/
def LaneTx.flip (x : LaneTx) (now count : Nat) : LaneTx :=
  match x.gen with
  | some g => { x with gen := some { g with flips := g.flips ++ (List.range count).map fun i => g.count now + 1024 * i } }
  | none => x

/-! ## Receiving (R231 to R235) -/

/-- Take the stuffed bits out of received ones (R233): the bits, the run at their end, and how many removed bits did not oppose their run. -/
def unstuff : Bool → Nat → List Bool → List Bool × Bool × Nat × Nat
  | b, n, [] => ([], b, n, 0)
  | b, n, x :: r =>
    if n = 40 then
      let q := unstuff x 1 r
      (q.1, q.2.1, q.2.2.1, q.2.2.2 + (x == b).toNat)
    else
      let q := unstuff x (nextRun b n x) r
      (x :: q.1, q.2.1, q.2.2.1, q.2.2.2)

/-- The descrambler of R232 from the last 61 received bits: the payload bits and the new history. -/
def descramble : Nat → List Bool → List Bool × Nat
  | h, [] => ([], h)
  | h, k :: r =>
    let q := descramble ((h * 2 + k.toNat) % 2 ^ 61) r
    ((k != (h.testBit 22 != h.testBit 60)) :: q.1, q.2)

/-- What a receiver makes of the bits of one block: its state after them, stuffing errors, whether the header is valid, and the payload of a control block (R231 to R233). -/
structure Received where
  rx : LaneRx
  stuffErr : Nat
  header : Bool
  payload : Option (List Bool)
deriving DecidableEq, Repr

/-- Receive the bits of one block. -/
def LaneRx.take (x : LaneRx) (bits : List Bool) : Received :=
  let q := unstuff x.runBit x.runLen bits
  let d := descramble x.scr (q.1.drop 4)
  let head := q.1.take 4
  let ctl := head == headerBits false false
  { rx := { scr := d.2, runBit := q.2.1, runLen := q.2.2.1 }
    stuffErr := q.2.2.2
    header := ctl || head == headerBits true false
    payload := if ctl && d.1.length == 256 then some d.1 else none }

/-- TYPE of a control block (R235). -/
def blockType (p : List Bool) : Nat := ofBits (p.take 8)

/-- A control block's CRC is right (R235). -/
def crcGood (p : List Bool) : Bool := ofBits (p.drop 224) == crc32 (p.take 224)

/-- `w` bits of a payload from bit `lo` of word `i` on. -/
def payField (p : List Bool) (i lo w : Nat) : Nat := ofBits ((p.drop (64 * i + lo)).take w)

/-- The fields of a RETURN (R246). -/
def returnOf (p : List Bool) : ReturnMsg :=
  { expect := BitVec.ofNat 16 (payField p 0 8 16), nak := payField p 0 24 1 == 1, lanesOk := BitVec.ofNat 7 (payField p 0 25 7)
    req := Fin.ofNat 4 (payField p 0 32 2), reqLane := Fin.ofNat 8 (payField p 0 34 3)
    credN := BitVec.ofNat 32 (payField p 1 0 32), credB := BitVec.ofNat 32 (payField p 1 32 32) }

/-- The fields of a receiver CAP (R247). -/
def capOf (p : List Bool) : CapMsg :=
  { dirRx := payField p 0 16 1 == 1, version := BitVec.ofNat 8 (payField p 0 8 8), pSink := payField p 0 17 1 == 1
    deskew := Fin.ofNat 32 (payField p 0 18 5), initN := BitVec.ofNat 16 (payField p 0 32 16), initB := BitVec.ofNat 16 (payField p 0 48 16)
    resN := BitVec.ofNat 8 (payField p 1 0 8), resB := BitVec.ofNat 8 (payField p 1 8 8) }

end Sys2Proof.Machine
end

