-- ==== Sys2Proof/Machine/Bundles.lean ====
section
/-! DEFINITION. The bundles' shared operations: bundle and lane states (R255, R259), rounds and the dealing of blocks (R230, R234), lane serialisers (R231 to R233, R261, R274), the P bucket (R242), detection and training (R259, R260, R265, R267), background retraining (R269), blindness (R254) and the stop (R256). -/

namespace Sys2Proof.Machine

/-! ## States -/

/-- Set or clear bit `i` of a field of bits. -/
def State.putBit (s : State) (a : Nat) (f : Field) (i : Nat) (v : Bool) : State := if v then s.setBit a f i else s.clrBit a f i

/-- Active forward lanes of bundle `b` (R258). -/
def State.lanesOf (s : State) (b : Nat) : Nat := s.f (Reg.EG_BSTAT b) Fld.EG_BSTAT_LANES

/-- The P bucket of bundle `b` filled up to now (R242), in units of 1/17,920 bit: 374.4 × a ÷ 7 × PRES ÷ 256 bits per ns. -/
def State.refill (s : State) (b : Nat) : State :=
  let a := popCount 7 (s.lanesOf b)
  let pres := max 1 (s.f Reg.EG_CFG Fld.EG_CFG_PRES)
  let cap := max 1 (s.f Reg.EG_CFG Fld.EG_CFG_PDEPTH) * 1048576 * 17920
  s.modBun b fun x => { x with tokens := min (x.tokens + 3744 * a * pres * (s.clock.now - x.tokensAt)) cap, tokensAt := s.clock.now }

/-- Give bundle `b` a STATE and active lanes; a change is stamped and shown (R255, R258). -/
def State.setLink (s : State) (b st mask : Nat) : State :=
  if s.bunState b = st ∧ s.lanesOf b = mask then s
  else
    let s := s.refill b
    let s := (s.setF (Reg.EG_BSTAT b) Fld.EG_BSTAT_STATE st).setF (Reg.EG_BSTAT b) Fld.EG_BSTAT_LANES mask
    let s := s.setReg (Reg.EG_BTIME b) s.fab
    let active := decide (2 ≤ st) && decide (st ≤ 4)
    (s.putBit Reg.EG_STATUS Fld.EG_STATUS_ACTIVE b active).putBit Reg.EG_STATUS Fld.EG_STATUS_DEGRADED b (decide (2 ≤ st) && mask != 127)

/-- STATE of a bundle whose stream runs over the lanes of `mask` (R255). -/
def runState (mask : Nat) : Nat := if mask = 127 then 2 else 3

/-- STATE of lane `l` of bundle `b` (R259). -/
def State.laneState (s : State) (b l : Nat) : Nat := s.f (Reg.LN_LSTAT b l) Fld.LN_LSTAT_STATE

/-- The seven lanes of a bundle. -/
def sevenLanes : List Nat := List.range 7

/-- Every lane of bundle `b` is moored. -/
def State.allMoored (s : State) (b : Nat) : Bool := sevenLanes.all fun l => s.laneState b l == 6

/-- Put lanes of bundle `b` into a state (R259). -/
def State.setLanes (s : State) (b st : Nat) (ls : List Nat) : State :=
  let s := ls.foldl (fun s l => s.setF (Reg.LN_LSTAT b l) Fld.LN_LSTAT_STATE st) s
  s.putBit Reg.LN_STATUS Fld.LN_STATUS_MOORED b (s.allMoored b)

/-- Lane `l` of bundle `b` beyond its registers. -/
def State.laneAux (s : State) (b l : Nat) : LaneAux := (s.bun b).lanes.getD l {}

/-- Change lane `l` of bundle `b`. -/
def State.modLane (s : State) (b l : Nat) (f : LaneAux → LaneAux) : State := s.modBun b fun x => { x with lanes := modifyAt f l x.lanes }

/-- Lanes of bundle `b` in a state. -/
def State.lanesIn (s : State) (b st : Nat) : List Nat := sevenLanes.filter fun l => s.laneState b l == st

/-- Lanes as a mask. -/
def laneMask (ls : List Nat) : Nat := ls.foldl (fun m l => m + 2 ^ l) 0

/-! ## Rounds (R230, R234) -/

/-- Duration of `r` blocks in ns: 260 bits ÷ 56 Gbit/s each, rounded up to a whole number. -/
def blocksNs (r : Nat) : Nat := ceilDiv (r * 65) 14

/-- Instant of round `r` of bundle `b`. -/
def State.roundAt (s : State) (b r : Nat) : Nat := (s.bun b).activeAt + blocksNs r

/-- The first round of bundle `b` that begins at or after instant `t`. -/
def State.roundFrom (s : State) (b t : Nat) : Nat := ceilDiv ((t - (s.bun b).activeAt) * 14) 65

/-- Start of the burst of 432 blocks, wanted since `t`, whose last block is the one before an ALIGN round (R269). -/
def State.burstStart (s : State) (b t : Nat) : Nat :=
  let r := ceilDiv (s.roundFrom b t + 432) 1024 * 1024
  s.roundAt b (r - 432)

/-! ## Serialisers (R231 to R234, R261, R274) -/

/-- Lane `l` of bundle `b` sends a block. -/
def State.laneSend (s : State) (b l : Nat) (k : Block) (trim : Nat) : State := s.modLane b l fun x => { x with tx := x.tx.block k trim }

/-- Each lane of a list sends an IDLE block. -/
def State.idleOn (s : State) (b : Nat) (ls : List Nat) : State := ls.foldl (fun s l => s.laneSend b l idleBlock 0) s

/-- Lane `l` of bundle `b` sends a training frame. -/
def State.laneFrame (s : State) (b l field : Nat) : State := s.modLane b l fun x => { x with tx := x.tx.frame field }

/-- The generator that LN_LTEST or FB_PTEST at `a` asks for from now on (R274, R306). -/
def State.patternOf (s : State) (a : Nat) : PatternGen :=
  { since := s.clock.now, pattern := s.f a Fld.LN_LTEST_PATTERN, inv := s.flag a Fld.LN_LTEST_INV, fixed := s.f a Fld.LN_LTEST_FIXED }

/-- A serialiser's generator begins anew or ends. -/
def LaneTx.regen (x : LaneTx) (now : Nat) (g : Option PatternGen) : LaneTx := { x.settle now with gen := g }

/-- The generator of lane `l` follows TEST, GEN_EN, PATTERN, INV and FIXED (R274): in TEST with GEN_EN = 1 it sends its pattern anew, else none. -/
def State.patternFollow (s : State) (b l : Nat) : State :=
  let a := Reg.LN_LTEST b l
  let runs : Bool := s.laneState b l == 8 && s.flag a Fld.LN_LTEST_GEN_EN
  s.modLane b l fun x => { x with tx := x.tx.regen s.clock.now (if runs then some (s.patternOf a) else none) }

/-- The generators of all lanes of bundle `b` follow. -/
def State.patternsFollow (s : State) (b : Nat) : State := sevenLanes.foldl (fun s l => s.patternFollow b l) s

/-! ## Dealing (R230, R234) -/

/-- The active forward lanes of bundle `b` in ascending number. -/
def State.activeLanes (s : State) (b : Nat) : List Nat := sevenLanes.filter fun l => hasBit (s.lanesOf b) l

/-- The start of round `r` of bundle `b` in 1/14 ns (R230). -/
def Bundle.roundStart (x : Bundle) (r : Nat) : Nat := x.activeAt * 14 + r * 65

/-- The next round of bundle `b` is one beside the stream: an ALIGN round, or that of a SHED or REJOIN block (R234, R252, R253). -/
def State.held (s : State) (b : Nat) : Bool :=
  let x := s.bun b
  x.turn == 0 && (decide (x.roundStart x.round ≤ x.freeAt) || (x.shedDue ++ x.rejoinDue).any fun p => x.roundStart (s.roundFrom b p.2) ≤ x.freeAt)

/-- The stream's next block goes to the next active lane of the round (R230); lanes that are out carry IDLE in the round (R252, R269). -/
def State.dealBlock (s : State) (b : Nat) (k : Block) : State :=
  let ls := s.activeLanes b
  let n := (s.bun b).turn
  let s := if n = 0 then s.idleOn b (s.lanesIn b 5) else s
  (s.laneSend b (ls.getD n 0) k 0).modBun b fun x =>
    if n + 1 < ls.length then { x with turn := n + 1 } else { x with turn := 0, freeAt := x.freeAt + 65 }

/-- Deal blocks over the active lanes in every round that has come; the rest waits, and so does all of it for a round beside the stream (R230, R234). -/
def State.deal (s : State) (b : Nat) : List Block → State
  | [] => s.modBun b fun x => { x with stream := [] }
  | k :: r =>
    if s.held b || decide (s.clock.now * 14 < (s.bun b).freeAt) then s.modBun b fun x => { x with stream := k :: r }
    else (s.dealBlock b k).deal b r

/-- The blocks of a started packet go on as their rounds come. -/
def State.runStream (s : State) (b : Nat) : State := s.deal b (s.bun b).stream

/-- The rest of a round that has begun carries IDLE. -/
def State.closeRound (s : State) (b : Nat) : State :=
  let n := (s.bun b).turn
  if n = 0 then s
  else (s.idleOn b ((s.activeLanes b).drop n)).modBun b fun x => { x with turn := 0, freeAt := x.freeAt + 65 }

/-- A stream whose next block was due in an earlier round goes on in the round of instant `at'`, in 1/14 ns; the rounds between are left out (log entry 82). -/
def State.catchUp (s : State) (b at' : Nat) : State :=
  let x := s.bun b
  let r := x.roundStart ((at' - x.activeAt * 14) / 65)
  if x.freeAt < r then (s.closeRound b).modBun b fun x => { x with freeAt := r } else s

/-- A round of its own, beside the stream (R234, R247, R252, R253): each lane of `ls` sends its block, and the lanes of `idle` IDLE. -/
def State.ownRound (s : State) (b : Nat) (ls idle : List Nat) (blk : Nat → Block) : State :=
  let s := ls.foldl (fun s l => s.laneSend b l (blk l) 0) ((s.closeRound b).idleOn b idle)
  s.modBun b fun x => { x with freeAt := x.freeAt + 65 }

/-! ## Bring-up (R259, R260) -/

/-- Everything that a bring-up or an end of transmission leaves behind on the link (R252 to R254, R265). -/
def Bundle.unlinked (x : Bundle) (now : Nat) : Bundle :=
  { x with
    since := now, closes := 0, countEnd := none, frameLock := false, lockAt := none, exitDue := false, moorRound := none
    shedDue := [], rejoinDue := [], badSince := [], stallN := none, stallB := none, capStep := false, turn := 0, stream := [] }

/-- Lane `l` counts as detected (R260). -/
def State.laneDetected (s : State) (b l : Nat) : Bool :=
  s.flag (Reg.LN_LCTL b l) Fld.LN_LCTL_DET_SKIP || decide (2 ≤ (s.laneAux b l).detCount)

/-- Lane `l` enters OUT and wants a burst (R259, R269). -/
def State.laneOut (s : State) (b l : Nat) : State :=
  (s.setLanes b 5 [l]).modLane b l fun x => { x with burstFrom := some s.clock.now, burstEnd := none, retryAt := none }

/-- The return receiver's adaptation is frozen or runs (R268). -/
def State.freeze (s : State) (b : Nat) (v : Bool) : State := s.setB (Reg.LN_LSTAT b 6) Fld.LN_LSTAT_FROZEN v

/-- Frame lock and block lock of the return end: adaptation freezes where there was one (R268). -/
def State.dropLocks (s : State) (b : Nat) : State :=
  let held := (s.bun b).frameLock || s.flag (Reg.LN_LSTAT b 6) Fld.LN_LSTAT_RX_LOCK
  let s := (s.modBun b fun x => { x with frameLock := false }).setB (Reg.LN_LSTAT b 6) Fld.LN_LSTAT_RX_LOCK false
  if held then s.freeze b true else s

/-- The lanes `ls` of bundle `b` enter TRAIN (R259, R261). -/
def State.enterTrain (s : State) (b : Nat) (ls : List Nat) : State :=
  let s := ls.foldl (fun s l => s.modLane b l fun x => { x with preSt := 0, postSt := 0, burstFrom := none, burstEnd := none, retryAt := none }) (s.setLanes b 2 ls)
  let s := (s.dropLocks b).modBun b fun x => x.unlinked s.clock.now
  (s.setLink b 1 0).satF (Reg.LN_BSTAT b) Fld.LN_BSTAT_TRAINS 1

/-- L6 detected takes the detected lanes to TRAIN; later ones enter OUT (R259, R260). -/
def State.detectCheck (s : State) (b : Nat) : State :=
  let found := (s.lanesIn b 1).filter fun l => s.laneDetected b l
  let six := s.laneState b 6
  if found.contains 6 then s.enterTrain b found
  else if 2 ≤ six ∧ six ≤ 7 then found.foldl (fun s l => s.laneOut b l) s
  else s

/-- All lanes of bundle `b` go to DETECT (R259). -/
def State.enterDetect (s : State) (b : Nat) : State :=
  let s := s.setLanes b 1 sevenLanes
  let s := (s.dropLocks b).modBun b fun x => { x.unlinked s.clock.now with
    lanes := x.lanes.map fun l => { l with detCount := 0, detAt := s.clock.now, burstFrom := none, burstEnd := none, retryAt := none } }
  (s.setLink b 0 0).detectCheck b

/-- A timeout of TRAIN or LOCK (R259, R267). -/
def State.bringUpTimeout (s : State) (b : Nat) (f : Field) : State :=
  ((s.setB Reg.LN_STATUS f true).satF (Reg.LN_BSTAT b) Fld.LN_BSTAT_TIMEOUTS 1).enterDetect b

/-- The bundle retrains (R251, R252, R259): L6, even one that HOLD has moored, and every lane that is neither moored nor being detected enter TRAIN. -/
def State.retrain (s : State) (b : Nat) : State := s.enterTrain b (sevenLanes.filter fun l => l == 6 || (2 ≤ s.laneState b l && s.laneState b l != 6))

/-- Bundle `b` has been released at boot lock (R369) and its loop gives clocks (R313). -/
def State.bunReleased (s : State) (b : Nat) : Bool :=
  decide (b < s.boot.released) && !s.flag (Reg.CK_PSTAT (2 + b)) Fld.CK_PSTAT_ACQ

/-- Where the lanes of a released bundle stand follows EN and TEST (R259, R273, R274): from OFF or TEST. Lanes that enter TEST send their patterns, and lanes that leave it none. -/
def State.laneFollow (s : State) (b : Nat) : State :=
  if !s.bunReleased b then s
  else if s.flag (Reg.EG_BCTL b) Fld.EG_BCTL_EN then
    (if s.laneState b 6 = 0 ∨ s.laneState b 6 = 8 then (s.enterDetect b).patternsFollow b else s)
  else if s.flag (Reg.LN_BCTL b) Fld.LN_BCTL_TEST then
    (if s.laneState b 6 = 8 then s else ((s.setLanes b 8 sevenLanes).setLink b 0 0).patternsFollow b)
  else if s.laneState b 6 = 8 then (s.setLanes b 0 sevenLanes).patternsFollow b
  else s

/-! ## Blind (R254) -/

/-- Blocks held in the replay buffer (R249). -/
def replayBlocks (l : List Packet) : Nat := l.foldl (fun n p => n + 1 + p.nblk) 0

/-- Show the replay buffer (R258). -/
def State.showReplay (s : State) (b : Nat) : State := s.setF (Reg.EG_BSTAT b) Fld.EG_BSTAT_REPLAY (replayBlocks (s.bun b).replay)

/-- Bundle `b` becomes blind: packets waiting for acknowledgement are released at once (R254). -/
def State.becomeBlind (s : State) (b : Nat) : State :=
  let n := (s.bun b).replay.length
  let s := s.setLink b 4 (s.lanesOf b)
  let s := s.modBun b fun x => { x with replay := [], due := [], shedDue := [], rejoinDue := [], capStep := false, feBlind := true }
  ((s.setB Reg.EG_STATUS Fld.EG_STATUS_BLIND true).satF (Reg.EG_BCNT1 b) Fld.EG_BCNT1_BLINDS_REL n).showReplay b

/-! ## Stop (R256) -/

/-- The settings that a frame was made under, as far as they are still known. -/
def State.fixedOf (s : State) (c seq cont : Nat) : RegFile :=
  match s.pipe.progress.find? fun p => p.ctx == c && p.seq == seq && p.cont == cont with
  | some p => p.fixed
  | none =>
    match s.fs.occ.find? fun o => o.ctx == c && o.seq == seq && o.cont == cont && !o.mirror with
    | some o => o.fixed
    | none => s.use

/-- Frames of which a list of packets holds something (R256). -/
def lostFrames (ps : List Packet) : List (Nat × Nat × Nat) :=
  ((ps.filter fun p => p.origin == 0 && p.ptype != 4).map fun p => (p.ctx, p.seq, p.cont)).eraseDups

/-- Ferries learn that lines of their descriptors were discarded (R218, R256). -/
def Ferry.noteLost (f : Ferry) (ids : List Nat) : Ferry :=
  { f with
    awaiting := f.awaiting.map fun a => if ids.contains a.id then { a with discarded := true } else a
    lost := if ids.contains f.id then f.id else f.lost }

/-- A frame no longer counts lines of it that were queued and are discarded (R237). -/
def unsent (gone : List Packet) (o : OnBundle) : OnBundle :=
  { o with sent := ((gone.filter fun p => p.origin == 0 && p.ptype == 2 && p.ctx == o.ctx && p.seq == o.seq && p.cont == o.cont).map
      fun p => p.word2 % 2 ^ 32).foldl (fun l i => l.erase i) o.sent }

/-- Number the elements of a list from `n` on. -/
def numbered {α : Type} : Nat → List α → List (Nat × α)
  | _, [] => []
  | n, a :: r => (n, a) :: numbered (n + 1) r

/-- Lines of descriptors, each given as ferry and serial number, are discarded (R218). -/
def State.noteLost (s : State) (ids : List (Nat × Nat)) : State :=
  { s with fy := (numbered 0 s.fy).map fun p => p.2.noteLost ((ids.filter fun d => d.1 == p.1).map (·.2)) }

/-- The stop of bundle `b` at a packet boundary (R256): everything queued is discarded, the frames are dropped with REASON 3, and GAP packets queued before stay. -/
def State.stopNow (s : State) (b : Nat) : State :=
  let x := s.bun b
  let gone := x.landing ++ x.ford ++ x.replay
  let s := (s.closeRound b).setLink b 5 (s.lanesOf b)
  let s := s.modBun b fun x => { x with
    landing := x.landing.filter (fun p => p.ptype == 4), ford := x.ford.filter (fun p => p.ptype == 4), replay := [], due := []
    frames := x.frames.map (unsent (x.landing ++ x.ford)), shedDue := [], rejoinDue := [], stallN := none, stallB := none
    moorRound := if s.flag (Reg.LN_BCTL b) Fld.LN_BCTL_MOOR_STOP then some x.round else none }
  let s := s.showReplay b
  let s := s.noteLost (gone.filterMap (·.desc))
  (lostFrames gone).foldl (fun s k =>
    let s := s.modBun b fun x => { x with frames := x.frames.map fun o =>
      if o.ctx == k.1 && o.seq == k.2.1 && o.cont == k.2.2 then { o with fe := false } else o }
    s.dropFrame (s.fixedOf k.1 k.2.1 k.2.2) k.1 k.2.1 k.2.2 3) s

end Sys2Proof.Machine
end

