-- ==== Sys2Proof/Machine/Egress.lean ====
section
/-! DEFINITION. The egress link at work: packet selection (R241, R242, R248, R249), ALIGN rounds (R234), the return path (R246, R251 to R253), the capability step (R247), shedding and rejoin, blindness (R254), credit stalls, and stopping (R256). The commands PACKET_TRANSMIT, ALIGN_ROUND, RETURN_RX, ACK_TIMEOUT, CAP_SEND, CAP_RX, SHED_ROUND, BUNDLE_SHED_CMD, REJOIN_ROUND, BUNDLE_REJOIN_CMD, BLIND_TIMEOUT, CREDIT_STALL_TIMEOUT, BUNDLE_STOP and BUNDLE_STOP_CLEAR. -/

namespace Sys2Proof.Machine

/-! ## Credit (R248) -/

/-- A packet of an earlier frame of the same context is still queued in another class: frames of a context stay in order (R30). -/
def Bundle.behind (x : Bundle) (p : Packet) : Bool :=
  p.origin == 0 && (x.landing ++ x.ford).any fun q => q.origin == 0 && q.ctx == p.ctx && q.cls != p.cls && frameBefore q.seq q.cont p.seq p.cont

/-- The first queued packet of a class, unless it waits for an earlier frame of its context. -/
def Bundle.headOf (x : Bundle) (isB : Bool) : Option Packet :=
  (x.landing.find? fun p => p.cls != 1 && (p.cls == 2) == isB).filter fun p => !x.behind p

/-- A class of bundle `b` waits for credit: its first queued packet or its first berthed piece costs more than there is (R248, R258). -/
def State.waitsCredit (s : State) (b : Nat) (isB : Bool) : Bool :=
  s.bunActive b &&
    ((match (s.bun b).headOf isB with
      | some p => decide (s.avail b isB < p.cost)
      | none => false) ||
    s.fs.occ.any fun o => o.waitsOn b &&
      (match s.pieceOn b o.ctx with
      | some (k, ps) => (k == 2) == isB && !s.hasCredit b ps
      | none => false))

/-- Keep the instants since which the classes of bundle `b` have waited for credit. -/
def State.stallCheck (s : State) (b : Nat) : State :=
  let n := s.waitsCredit b false
  let w := s.waitsCredit b true
  s.modBun b fun x => { x with
    stallN := if n then some (x.stallN.getD s.clock.now) else none
    stallB := if w then some (x.stallB.getD s.clock.now) else none }

/-- CREDIT_STALL_TIMEOUT (R248, R258): more than 10 µs without credit. -/
def State.creditStall (s : State) (b : Nat) (isB : Bool) : State :=
  let s := s.stallCheck b
  match (if isB then (s.bun b).stallB else (s.bun b).stallN) with
  | some t => if t + 10000 < s.clock.now then s.setB Reg.EG_STATUS Fld.EG_STATUS_CREDIT_STALL true else s
  | none => s

/-! ## Sending (R230, R241, R249) -/

/-- Put a packet on the wire: its blocks are dealt over the active lanes (R230, R236). -/
def State.sendPacket (s : State) (b : Nat) (p : Packet) : State := (s.emit (.packet b p)).deal b (p.blocks b)

/-- An IDLE block of the stream (R235, R241). -/
def State.sendIdle (s : State) (b : Nat) : State := (s.emit (.block b 0 (s.lanesOf b) [])).deal b [idleBlock]

/-- BLIND in the FE that is sent now, and whether a bundle still owes it (R254). -/
def Packet.atSend (p : Packet) (blind owed : Bool) : Packet := if p.ptype = 3 ∧ (blind ∨ owed) then { p with flags := p.flags % 8 + 8 } else p

/-- After an FE outside blindness, nothing is owed. -/
def State.feSent (s : State) (b : Nat) (p : Packet) : State :=
  if p.ptype = 3 ∧ s.bunState b ≠ 4 then s.modBun b fun x => { x with feBlind := false } else s

/-- The P packet that the ford can send: its bucket holds the token cost, which a blind bundle does not ask for, and the receiver sinks P (R241, R242, R247, R254). -/
def State.nextP (s : State) (b : Nat) : Option Packet :=
  match (s.bun b).ford with
  | [] => none
  | p :: _ =>
    if s.flag (Reg.EG_BSTAT b) Fld.EG_BSTAT_P_SINK = true ∧ (s.bun b).behind p = false ∧ (s.bunState b = 4 ∨ p.tokens * 17920 ≤ (s.bun b).tokens) then some p
    else none

/-- A P packet takes its tokens when it starts (R242). -/
def State.sendP (s : State) (b : Nat) (p : Packet) : State :=
  let q := p.atSend (s.bunState b == 4) (s.bun b).feBlind
  let s := s.modBun b fun x => { x with ford := x.ford.drop 1, tokens := x.tokens - p.tokens * 17920 }
  (s.sendPacket b q).feSent b q

/-- A packet that is due for replay is sent as it was (R251). -/
def State.sendReplay (s : State) (b : Nat) (p : Packet) : State :=
  let s := s.modBun b fun x => { x with due := x.due.drop 1 }
  (s.addF (Reg.EG_BCNT0 b) Fld.EG_BCNT0_PKTS_RESENT 1).sendPacket b p

/-- The new packet of a class that has credit and room in the replay buffer (R241, R248, R249). -/
def State.nextNew (s : State) (b : Nat) (isB : Bool) : Option Packet :=
  match (s.bun b).headOf isB with
  | none => none
  | some p =>
    if p.cost ≤ s.avail b isB ∧ (s.bunState b = 4 ∨ replayBlocks (s.bun b).replay + 1 + p.nblk ≤ 2048) then some p else none

/-- A new N or B packet takes its LSN and its credits and enters the replay buffer, which it leaves at once while the bundle is blind (R248, R249, R254). -/
def State.sendNew (s : State) (b : Nat) (p : Packet) (contested : Bool) : State :=
  let lsn := s.f (Reg.EG_BSTAT b) Fld.EG_BSTAT_NEXT_LSN
  let blind := s.bunState b == 4
  let q := { p.atSend blind (s.bun b).feBlind with lsn := lsn }
  let s := s.setF (Reg.EG_BSTAT b) Fld.EG_BSTAT_NEXT_LSN (lsn + 1)
  let s := s.modBun b fun x => { x with
    landing := x.landing.erase p
    replay := if blind then x.replay else x.replay ++ [q]
    lastAdvance := if x.replay.isEmpty then s.clock.now else x.lastAdvance
    consN := if p.cls = 2 then x.consN else x.consN + p.cost
    consB := if p.cls = 2 then x.consB + p.cost else x.consB
    bTurn := if contested then (if p.cls = 2 then 0 else x.bTurn + 1) else x.bTurn }
  ((s.sendPacket b q).feSent b q).showReplay b

/-- The new packet that goes next: where both classes are ready, B takes one in every B_RATIO + 1 (R241). -/
def State.sendClass (s : State) (b : Nat) : State :=
  match s.nextNew b false, s.nextNew b true with
  | some n, some w => s.sendNew b (if s.f Reg.EG_CFG Fld.EG_CFG_B_RATIO ≤ (s.bun b).bTurn then w else n) true
  | some n, none => s.sendNew b n false
  | none, some w => s.sendNew b w false
  | none, none => s.sendIdle b

/-- The packet of an active bundle that goes next: P, then replay, then N and B, then IDLE (R241). -/
def State.sendNext (s : State) (b : Nat) : State :=
  match s.nextP b with
  | some p => s.sendP b p
  | none =>
    match (s.bun b).due with
    | p :: _ => s.sendReplay b p
    | [] => s.sendClass b

/-- The stream of bundle `b` stands at a packet boundary (R241): no block of a packet waits, and the round of the next block has come. -/
def State.atBoundary (s : State) (b : Nat) : Bool := (s.bun b).stream.isEmpty && decide ((s.bun b).freeAt ≤ s.clock.now * 14)

/-- A round of a bundle in LOCK (R247, R267): every lane in LOCK sends IDLE. -/
def State.lockIdle (s : State) (b : Nat) : State :=
  let ls := s.lanesIn b 3
  let s := (s.emit (.block b 0 (laneMask ls) [])).idleOn b ls
  s.modBun b fun x => { x with freeAt := max x.freeAt (s.clock.now * 14) + 65 }

/-- PACKET_TRANSMIT (R241): at a packet boundary an active bundle sends its next packet, or stops where STOP is 1 (R256); a stopped one sends IDLE, and so does one in LOCK on every lane (R255, R267). -/
def State.transmit (s : State) (b : Nat) : State :=
  let s := s.runStream b
  if s.atBoundary b then
    if s.lanesOf b = 0 then (if s.bunState b = 1 ∧ s.lanesIn b 3 ≠ [] then s.lockIdle b else s)
    else if s.bunActive b then
      if s.flag (Reg.EG_BCTL b) Fld.EG_BCTL_STOP then s.stopNow b
      else (((s.catchUp b (s.clock.now * 14)).refill b).sendNext b).stallCheck b
    else if s.bunState b = 5 ∧ !s.allMoored b then (s.catchUp b (s.clock.now * 14)).sendIdle b
    else s
  else s

/-! ## ALIGN rounds (R234) -/

/-- Lanes that carry an ALIGN block: those in the stream and those that are out and not in a burst (R234, R269, R270). -/
def State.alignLanes (s : State) (b : Nat) : List Nat := sevenLanes.filter fun l => s.laneState b l == 4 || s.laneState b l == 5

/-- TRIM of a lane (R234): the stuffed bits not yet trimmed, at most 8. -/
def LaneTx.trim (x : LaneTx) : Nat := min x.stuffed 8

/-- A lane's ALIGN block (R234, R235): what is trimmed no longer waits. -/
def State.alignLane (s : State) (b mask round l : Nat) : State :=
  let trim := (s.laneAux b l).tx.trim
  (s.modLane b l fun x => { x with tx := { x.tx with stuffed := x.tx.stuffed - trim } }).laneSend b l (roundBlock 0x2D l mask trim round) trim

/-- ALIGN_ROUND (R234): every lane that carries the stream or is out sends its ALIGN block, and the blocks that waited for the round go on; `stuffed` counts the bits inserted in the rounds that log entry 82 leaves out. -/
def State.alignRound (s : State) (b : Nat) (stuffed : List Nat) : State :=
  let r := (s.bun b).round
  if (s.bunActive b || (s.bunState b == 5 && !s.allMoored b)) ∧ s.roundAt b r ≤ s.clock.now then
    let ls := s.alignLanes b
    let mask := s.lanesOf b
    let s := (s.runStream b).closeRound b
    let s := ls.foldl (fun s l => s.modLane b l fun x => { x with tx := { x.tx with stuffed := x.tx.stuffed + stuffed.getD l 0 } }) s
    let s := s.emit (.block b 0x2D (laneMask ls) (mask :: r % 2 ^ 48 :: ls.map fun l => (s.laneAux b l).tx.trim))
    let s := ls.foldl (fun s l => s.alignLane b mask r l) s
    (s.modBun b fun x => { x with round := r + 1024, freeAt := max x.freeAt (x.roundStart r) + 65 }).runStream b
  else s

/-! ## Replay (R251) -/

/-- ACK_TO in ns (R258). -/
def State.ackNs (s : State) : Nat := max 1 (s.f Reg.EG_CFG Fld.EG_CFG_ACK_TO) * 100

/-- Every packet buffered from LSN `x` on becomes due again. -/
def State.replayFrom (s : State) (b x : Nat) : State :=
  let s := s.modBun b fun u => { u with
    due := u.replay.filter fun p => serialGe 16 p.lsn x
    lastReplay := some (x, s.clock.now), lastAdvance := s.clock.now }
  (s.addF (Reg.EG_BCNT0 b) Fld.EG_BCNT0_REPLAYS 1).setB Reg.EG_STATUS Fld.EG_STATUS_NAK true

/-- EXPECT names an LSN older than the buffer or newer than the last one sent (R251). -/
def State.badExpect (s : State) (b x : Nat) : Bool :=
  let next := s.f (Reg.EG_BSTAT b) Fld.EG_BSTAT_NEXT_LSN
  match (s.bun b).replay with
  | [] => x != next && serialGe 16 x next
  | p :: _ => !serialGe 16 x p.lsn || (x != next && serialGe 16 x next)

/-- EXPECT releases the packets before it; an advance restarts the acknowledgement timer (R249, R251). -/
def State.release (s : State) (b x : Nat) : State :=
  let keep := fun (p : Packet) => serialGe 16 p.lsn x
  let moved := (s.bun b).replay.any fun p => !keep p
  (s.modBun b fun u => { u with
    replay := u.replay.filter keep, due := u.due.filter keep
    lastAdvance := if moved then s.clock.now else u.lastAdvance }).showReplay b

/-- A NAK starts a replay from EXPECT unless one started within ACK_TO (R251). -/
def State.nak (s : State) (b x : Nat) : State :=
  let recent : Bool :=
    match (s.bun b).lastReplay with
    | some (y, t) => y == x && decide (s.clock.now < t + s.ackNs)
    | none => false
  if recent || !((s.bun b).replay.any fun p => p.lsn == x) then s else s.replayFrom b x

/-- ACK_TIMEOUT (R251). -/
def State.ackTimeout (s : State) (b : Nat) : State :=
  match (s.bun b).replay with
  | [] => s
  | p :: _ =>
    if (s.bunState b = 2 ∨ s.bunState b = 3) ∧ (s.bun b).lastAdvance + s.ackNs ≤ s.clock.now then s.replayFrom b p.lsn else s

/-! ## Lane requests (R246, R252, R253) -/

/-- Lane `l` shall be shed in the next round that begins at least 100 ns from now; a lane that is not in the stream cannot be. -/
def State.askShed (s : State) (b l : Nat) : State :=
  if l < 7 ∧ hasBit (s.lanesOf b) l ∧ (s.bunState b = 2 ∨ s.bunState b = 3) ∧ ((s.bun b).shedDue.any fun p => p.1 == l) = false then
    s.modBun b fun x => { x with shedDue := x.shedDue ++ [(l, s.clock.now + 100)] }
  else s

/-- Lane `l` shall rejoin; only a lane that is out, and neither moored nor in a burst, can (R253, R273). -/
def State.askRejoin (s : State) (b l : Nat) : State :=
  if l < 7 ∧ s.laneState b l = 5 ∧ !hasBit (s.lanesOf b) l ∧ (s.bunState b = 2 ∨ s.bunState b = 3) ∧
      ((s.bun b).rejoinDue.any fun p => p.1 == l) = false then
    s.modBun b fun x => { x with rejoinDue := x.rejoinDue ++ [(l, s.clock.now + 100)] }
  else s

/-- LANES_OK of a RETURN: a lane shown bad in two RETURNs 1 µs apart is shed (R252). -/
def State.noteLanes (s : State) (b ok : Nat) : State :=
  let now := s.clock.now
  let bad := sevenLanes.filter fun l => hasBit (s.lanesOf b) l && !hasBit ok l
  let old := (s.bun b).badSince
  let s := s.modBun b fun x => { x with lanesOk := ok, badSince := bad.map fun l => (l, ((old.find? fun p => p.1 == l).map (·.2)).getD now) }
  (old.filter fun p => bad.contains p.1 && decide (p.2 + 1000 ≤ now)).foldl (fun s p => s.askShed b p.1) s

/-- What a valid RETURN does (R246, R248, R249, R251 to R254). -/
def State.returnRx (s : State) (b : Nat) (m : ReturnMsg) : State :=
  if s.bunState b < 2 then s
  else
    let x := m.expect.toNat
    let s := s.setF (Reg.EG_BSTAT b) Fld.EG_BSTAT_EXPECT x
    let s := s.modBun b fun u => { u with credN := m.credN.toNat, credB := m.credB.toNat, lastReturn := s.clock.now }
    if s.bunState b = 4 ∨ s.bunState b = 5 then (s.modBun b fun u => { u with lanesOk := m.lanesOk.toNat }).stallCheck b
    else if s.badExpect b x then (s.setB Reg.EG_STATUS Fld.EG_STATUS_CAP_BAD true).retrain b
    else
      let s := s.release b x
      let s := if m.nak then s.nak b x else s
      let s := s.noteLanes b m.lanesOk.toNat
      let s := if m.req.val = 1 then s.askShed b m.reqLane.val else if m.req.val = 2 then s.askRejoin b m.reqLane.val else s
      s.stallCheck b

/-! ## The receiver of the return (R231 to R233, R235) -/

/-- What the return receiver of bundle `b` makes of the bits of one block. -/
def State.heard (s : State) (b : Nat) (bits : List Bool) : Received := (s.laneAux b 6).rx.take bits

/-- The payload of a control block of this TYPE, with a right CRC or a wrong one (R235). -/
def Received.ofType (r : Received) (type : Nat) (good : Bool) : Option (List Bool) :=
  r.payload.filter fun p => blockType p == type && crcGood p == good

/-- The receiver takes the bits of one block: its state, and the counts of wrong stuffed bits, invalid headers, and RETURN and CAP blocks with a wrong CRC (R233, R235, R280). -/
def State.hear (s : State) (b : Nat) (bits : List Bool) : State :=
  let r := s.heard b bits
  let s := s.modLane b 6 fun x => { x with rx := r.rx }
  let s := if r.stuffErr = 0 then s else s.satF (Reg.LN_LCNT b 6) Fld.LN_LCNT_STUFF_ERR r.stuffErr
  let s := if r.header then s else s.satF (Reg.LN_LCNT b 6) Fld.LN_LCNT_INVALID_HDR 1
  if (r.ofType 0x96 false).isSome || (r.ofType 0x5A false).isSome then s.satF (Reg.LN_LCNT b 6) Fld.LN_LCNT_CRC_ERR 1 else s

/-- The RETURN that the receiver gets out of the bits of one block; an invalid block is ignored (R235). -/
def State.heardReturn (s : State) (b : Nat) (bits : List Bool) : Option ReturnMsg := ((s.heard b bits).ofType 0x96 true).map returnOf

/-- The CAP that the receiver gets out of the bits of one block. -/
def State.heardCap (s : State) (b : Nat) (bits : List Bool) : Option CapMsg := ((s.heard b bits).ofType 0x5A true).map capOf

/-! ## Shedding and rejoin (R252, R253) -/

/-- The lanes of a list of requests whose round has come. -/
def dueLanes (now : Nat) (l : List (Nat × Nat)) : List Nat := (l.filter fun p => decide (p.2 ≤ now)).map (·.1)

/-- The round of the markers of a new mask. -/
def State.markerRound (s : State) (b type mask round : Nat) : State :=
  let ls := sevenLanes.filter (hasBit mask)
  let s := s.emit (.block b type mask [mask, round % 2 ^ 48])
  s.ownRound b ls ((s.lanesIn b 5).filter fun l => !ls.contains l) fun l => roundBlock type l mask 0 round

/-- SHED_ROUND (R252): the lanes that are due leave the stream; the marker goes out with the new mask on the others, and dealing continues without them. -/
def State.shedRound (s : State) (b : Nat) : State :=
  let s := s.runStream b
  let ls := dueLanes s.clock.now (s.bun b).shedDue
  if ls ≠ [] ∧ (s.bunState b = 2 ∨ s.bunState b = 3) then
    let at' := ((s.bun b).shedDue.map (·.2)).foldl min s.clock.now
    let mask := laneMask (sevenLanes.filter fun i => hasBit (s.lanesOf b) i && !ls.contains i)
    let s := s.modBun b fun x => { x with
      shedDue := x.shedDue.filter fun p => !ls.contains p.1, badSince := x.badSince.filter fun p => !ls.contains p.1 }
    let s := (s.satF (Reg.EG_BCNT1 b) Fld.EG_BCNT1_SHEDS ls.length).setB Reg.EG_STATUS Fld.EG_STATUS_SHED true
    if mask = 0 then (ls.foldl (fun s l => s.laneOut b l) s).retrain b
    else
      let s := (s.closeRound b).catchUp b ((s.bun b).roundStart (s.roundFrom b at'))
      let s := (ls.foldl (fun s l => s.laneOut b l) s).setLink b (runState mask) mask
      (s.markerRound b 0x33 mask (s.roundFrom b at')).runStream b
  else s

/-- REJOIN_ROUND (R253): the marker goes out on all lanes of the new mask, and the lanes that are due are in the stream. -/
def State.rejoinRound (s : State) (b : Nat) : State :=
  let s := s.runStream b
  let ls := dueLanes s.clock.now (s.bun b).rejoinDue
  if ls ≠ [] ∧ (s.bunState b = 2 ∨ s.bunState b = 3) then
    let at' := ((s.bun b).rejoinDue.map (·.2)).foldl min s.clock.now
    let s := s.modBun b fun x => { x with rejoinDue := x.rejoinDue.filter fun p => !ls.contains p.1 }
    let ok := ls.filter fun l => s.laneState b l == 5
    if ok = [] then s
    else
      let mask := laneMask (sevenLanes.filter fun i => hasBit (s.lanesOf b) i || ok.contains i)
      let s := (s.satF (Reg.EG_BCNT1 b) Fld.EG_BCNT1_REJOINS ok.length).setB Reg.EG_STATUS Fld.EG_STATUS_REJOIN true
      let s := (s.closeRound b).catchUp b ((s.bun b).roundStart (s.roundFrom b at'))
      let s := ok.foldl (fun s l => s.modLane b l fun x => { x with burstFrom := none, retryAt := none }) (s.setLanes b 4 ok)
      ((s.setLink b (runState mask) mask).markerRound b 0x4B mask (s.roundFrom b at')).runStream b
  else s

/-- The command EG_BCTL.REJOIN acts only on a lane that the last RETURN shows locked (R253). -/
def State.rejoinCmd (s : State) (b l : Nat) : State := if hasBit (s.bun b).lanesOk l then s.askRejoin b l else s

/-! ## Capability (R247) -/

/-- The capability step is under way on bundle `b`. -/
def State.inCapStep (s : State) (b : Nat) : Bool :=
  s.flag (Reg.LN_LSTAT b 6) Fld.LN_LSTAT_RX_LOCK && (s.laneState b 6 == 3 || (s.bunState b == 4 && (s.bun b).capStep))

/-- Lanes that the device's CAP reports: the initial mask, or those of a blind bundle's stream (R247, R265, R271). -/
def State.capMask (s : State) (b : Nat) : Nat := if s.bunState b = 4 then s.lanesOf b else (s.bun b).initMask

/-- CAP_SEND (R247): every 1 µs of the capability step a round with a CAP on L6 and IDLE on the other lanes. -/
def State.capSend (s : State) (b : Nat) : State :=
  if s.inCapStep b ∧ (s.bun b).capAt ≤ s.clock.now then
    let next := s.f (Reg.EG_BSTAT b) Fld.EG_BSTAT_NEXT_LSN
    let w0 := 0x5A + 1 * 2 ^ 8 + b * 2 ^ 17 + s.f Reg.FB_STATUS Fld.FB_STATUS_ADDR * 2 ^ 20 + next * 2 ^ 32 + s.capMask b * 2 ^ 48
    let w1 := (s.reg Reg.ID_DEVID).toNat
    let others := sevenLanes.filter fun l => l != 6 && (s.laneState b l == 3 || s.laneState b l == 4 || s.laneState b l == 5)
    let s := (if s.bunState b = 4 then (s.runStream b).catchUp b (s.clock.now * 14) else s.modBun b fun x => { x with freeAt := max x.freeAt (s.clock.now * 14) })
    let s := (s.emit (.block b 0x5A 64 [w0, w1])).ownRound b [6] others fun _ => ctlBlock w0 w1 0 0
    s.modBun b fun x => { x with capAt := s.clock.now + 1000, capLsn := some next }
  else s

/-- The receiver's CAP passes the checks (R247). -/
def capGood (m : CapMsg) : Bool :=
  m.dirRx && m.version == 1 && decide (3 ≤ m.initN.toNat) && decide (3 ≤ m.initB.toNat) && decide (8 ≤ m.deskew.val)

/-- Distinct lines among packets. -/
def linesOf (ps : List Packet) : Nat := ((ps.filter fun p => p.ptype == 2).map fun p => (p.ctx, p.seq, p.cont, p.word2 % 2 ^ 32)).eraseDups.length

/-- The ford of a bundle whose receiver does not sink P is emptied, and its lines count as discarded (R245, R247). -/
def State.emptyFord (s : State) (b : Nat) : State :=
  if s.flag (Reg.EG_BSTAT b) Fld.EG_BSTAT_P_SINK then s
  else (s.discardP b (linesOf (s.bun b).ford)).modBun b fun x => { x with ford := [] }

/-- The values of an accepted CAP (R247, R258); credit and LSN state restart. -/
def State.takeCap (s : State) (b : Nat) (m : CapMsg) : State :=
  let w := [(Fld.EG_BCAP_INIT_N, m.initN.toNat), (Fld.EG_BCAP_INIT_B, m.initB.toNat), (Fld.EG_BCAP_RES_N, m.resN.toNat),
    (Fld.EG_BCAP_RES_B, m.resB.toNat), (Fld.EG_BCAP_DESKEW, m.deskew.val), (Fld.EG_BCAP_VALID, 1)].foldl
    (fun (w : Word) (p : Field × Nat) => p.1.set w p.2) 0
  let s := ((s.setReg (Reg.EG_BCAP b) w).setB (Reg.EG_BSTAT b) Fld.EG_BSTAT_P_SINK m.pSink).emptyFord b
  let s :=
    match (s.bun b).capLsn with
    | some n => s.setF (Reg.EG_BSTAT b) Fld.EG_BSTAT_NEXT_LSN n
    | none => s
  s.modBun b fun x => { x with
    credN := 0, credB := 0, consN := 0, consB := 0, due := [], lastReplay := none, lastReturn := s.clock.now, lastAdvance := s.clock.now
    capStep := false, capLsn := none, stallN := none, stallB := none }

/-- The bundle becomes active (R242, R247, R259, R271): round 0 begins, the P bucket is full, the lanes of the initial mask carry the stream and the others are out. -/
def State.activate (s : State) (b : Nat) : State :=
  let mask := (s.bun b).initMask
  if mask = 0 then s.retrain b
  else
    let now := s.clock.now
    let locks := s.lanesIn b 3
    let s := s.setLanes b 4 (locks.filter fun l => hasBit mask l)
    let s := s.modBun b fun x => { x with
      activeAt := now, round := 0, freeAt := now * 14, turn := 0, stream := [], bTurn := 0, badSince := [], lanesOk := 0, moorRound := none
      tokens := max 1 (s.f Reg.EG_CFG Fld.EG_CFG_PDEPTH) * 1048576 * 17920, tokensAt := now }
    let s := (locks.filter fun l => !hasBit mask l).foldl (fun s l => s.laneOut b l) s
    let s := (s.lanesIn b 5).foldl (fun s l => s.modLane b l fun x => { x with burstFrom := some now }) s
    if s.flag (Reg.EG_BCTL b) Fld.EG_BCTL_STOP then s.stopNow b |>.setLink b 5 mask
    else s.setLink b (runState mask) mask

/-- What a valid CAP does (R247, R254). -/
def State.capRx (s : State) (b : Nat) (m : CapMsg) : State :=
  if !s.inCapStep b then s
  else if !capGood m then s.setB Reg.EG_STATUS Fld.EG_STATUS_CAP_BAD true
  else if s.bunState b = 4 then
    let s := s.takeCap b m
    s.setLink b (runState (s.lanesOf b)) (s.lanesOf b)
  else (s.takeCap b m).activate b

/-! ## Blind and stopped (R254, R256) -/

/-- BLIND_TIMEOUT (R254): no valid RETURN for BLIND_TO. -/
def State.blindTimeout (s : State) (b : Nat) : State :=
  if (s.bunState b = 2 ∨ s.bunState b = 3) ∧ (s.bun b).lastReturn + max 1 (s.f Reg.EG_CFG Fld.EG_CFG_BLIND_TO) * 100 ≤ s.clock.now then
    s.becomeBlind b
  else s

/-- BUNDLE_STOP (R256): an active bundle stops at the next packet boundary, which may be now; else PACKET_TRANSMIT finds it. -/
def State.bunStop (s : State) (b : Nat) : State :=
  let s := (s.setB (Reg.EG_BCTL b) Fld.EG_BCTL_STOP true).runStream b
  if s.bunActive b && s.atBoundary b then s.stopNow b else s

/-- An exit cause has come for the moored lanes of a stopped bundle (R271): it reads TRAINING from now on. -/
def State.exitCause (s : State) (b : Nat) : State := (s.modBun b fun x => { x with exitDue := true }).setLink b 1 0

/-- BUNDLE_STOP_CLEAR (R256, R271): a stopped bundle goes on, through a burst where its lanes are moored. -/
def State.bunGo (s : State) (b : Nat) : State :=
  let s := s.setB (Reg.EG_BCTL b) Fld.EG_BCTL_STOP false
  if s.bunState b ≠ 5 then s
  else if s.allMoored b then s.exitCause b
  else
    let s := (s.modBun b fun x => { x with lastReturn := s.clock.now, moorRound := none }).setLink b (runState (s.lanesOf b)) (s.lanesOf b)
    if s.flag (Reg.LN_LSTAT b 6) Fld.LN_LSTAT_RX_LOCK then s else s.becomeBlind b

/-! ## The commands -/

/-- PACKET_TRANSMIT (R241). -/
def execPacketTransmit (t : Nat) (bundle : Fin 8) (s : State) : Result := .next ((s.advance t).transmit bundle.val)

/-- ALIGN_ROUND (R234). -/
def execAlignRound (t : Nat) (bundle : Fin 8) (stuffed : List Nat) (s : State) : Result := .next ((s.advance t).alignRound bundle.val stuffed)

/-- RETURN_RX (R246). -/
def execReturnRx (t : Nat) (bundle : Fin 8) (bits : List Bool) (s : State) : Result :=
  let s := s.advance t
  .next (match s.heardReturn bundle.val bits with
    | some m => (s.hear bundle.val bits).returnRx bundle.val m
    | none => s.hear bundle.val bits)

/-- ACK_TIMEOUT (R251). -/
def execAckTimeout (t : Nat) (bundle : Fin 8) (s : State) : Result := .next ((s.advance t).ackTimeout bundle.val)

/-- CAP_SEND (R247). -/
def execCapSend (t : Nat) (bundle : Fin 8) (s : State) : Result := .next ((s.advance t).capSend bundle.val)

/-- CAP_RX (R247). -/
def execCapRx (t : Nat) (bundle : Fin 8) (bits : List Bool) (s : State) : Result :=
  let s := s.advance t
  .next (match s.heardCap bundle.val bits with
    | some m => (s.hear bundle.val bits).capRx bundle.val m
    | none => s.hear bundle.val bits)

/-- SHED_ROUND (R252). -/
def execShedRound (t : Nat) (bundle : Fin 8) (s : State) : Result := .next ((s.advance t).shedRound bundle.val)

/-- BUNDLE_SHED_CMD (R252): LANE is written with the command. -/
def execBundleShedCmd (t : Nat) (src : Src) (bundle : Fin 8) (lane : Fin 8) (s : State) : Result :=
  .next ((s.advance t).managed src fun s => (s.setF (Reg.EG_BCTL bundle.val) Fld.EG_BCTL_LANE lane.val).askShed bundle.val lane.val)

/-- REJOIN_ROUND (R253). -/
def execRejoinRound (t : Nat) (bundle : Fin 8) (s : State) : Result := .next ((s.advance t).rejoinRound bundle.val)

/-- BUNDLE_REJOIN_CMD (R253): LANE is written with the command. -/
def execBundleRejoinCmd (t : Nat) (src : Src) (bundle : Fin 8) (lane : Fin 8) (s : State) : Result :=
  .next ((s.advance t).managed src fun s => (s.setF (Reg.EG_BCTL bundle.val) Fld.EG_BCTL_LANE lane.val).rejoinCmd bundle.val lane.val)

/-- BLIND_TIMEOUT (R254). -/
def execBlindTimeout (t : Nat) (bundle : Fin 8) (s : State) : Result := .next ((s.advance t).blindTimeout bundle.val)

/-- CREDIT_STALL_TIMEOUT (R248). -/
def execCreditStallTimeout (t : Nat) (bundle : Fin 8) (isB : Bool) (s : State) : Result := .next ((s.advance t).creditStall bundle.val isB)

/-- BUNDLE_STOP (R256). -/
def execBundleStop (t : Nat) (src : Src) (bundle : Fin 8) (s : State) : Result := .next ((s.advance t).managed src fun s => s.bunStop bundle.val)

/-- BUNDLE_STOP_CLEAR (R271). -/
def execBundleStopClear (t : Nat) (src : Src) (bundle : Fin 8) (s : State) : Result := .next ((s.advance t).managed src fun s => s.bunGo bundle.val)

end Sys2Proof.Machine
end

