-- ==== Sys2Proof/Machine/Topology.lean ====
section
/-! DEFINITION. The fabric's shared operations: the link database (R288), root, routes and tree (R289, R291, R292), addresses (R290), the messages' layouts (R284 to R293), and the correction of fabric time (R294, R295). -/

namespace Sys2Proof.Machine

/-! ## Ports -/

/-- Port `p` beyond its registers. -/
def State.port (s : State) (p : Nat) : FabPort := s.kf.ports.getD p {}

/-- Change port `p`. -/
def State.modPort (s : State) (p : Nat) (f : FabPort → FabPort) : State := { s with kf := { s.kf with ports := modifyAt f p s.kf.ports } }

/-- STATE of port `p` (R282). -/
def State.portState (s : State) (p : Nat) : Nat := s.f (Reg.FB_PSTAT p) Fld.FB_PSTAT_STATE

/-- Ports that are UP. -/
def State.upPorts (s : State) : List Nat := (List.range 8).filter fun p => s.portState p == 4

/-- This device's DEVID (R17). -/
def State.devid (s : State) : Word := s.reg Reg.ID_DEVID

/-- This device's fabric address; 0xFFF until one is assigned (R290). -/
def State.fabAddr (s : State) : Nat := s.f Reg.FB_STATUS Fld.FB_STATUS_ADDR

/-- This device is the root. -/
def State.isRoot (s : State) : Bool := s.flag Reg.FB_STATUS Fld.FB_STATUS_ROOT

/-- An FHDR block's words (R284). -/
def fhdr (mtype src dst hops len w1 w2 : Nat) : List Nat :=
  [0xE1 + mtype * 2 ^ 8 + src * 2 ^ 12 + dst * 2 ^ 24 + (if len = 0 then 0 else ceilDiv (len + 4) 32) * 2 ^ 36 + hops * 2 ^ 45, w1, w2, len]

/-- Send a fabric packet on some ports (R284). -/
def State.sendFabric (s : State) (ports : List Nat) (words : List Nat) : State := s.emits (ports.map fun p => .fabric p 0xE1 words)

/-! ## The link database (R288) -/

/-- Valid position hints of an LSA (R290). -/
def hintOk (m : LsaMsg) : Bool := m.hintEn && decide (m.hintX.val ≤ 62) && decide (m.hintY.val ≤ 62)

/-- The device's own LSA as it stands (R288): a link for each adjacency. -/
def State.ownLsa (s : State) : LsaMsg :=
  let cfg := s.kf.hint
  { src := Fin.ofNat 4096 s.fabAddr, devid := s.devid, seq := s.kf.lsaSeq, ptpLock := s.isRoot && s.f Reg.ETH_PTP_STAT Fld.ETH_PTP_STAT_STATE == 2
    hintEn := Fld.FB_CFG_HINT_EN.get cfg == 1, hintX := Fin.ofNat 64 (Fld.FB_CFG_HINT_X.get cfg), hintY := Fin.ofNat 64 (Fld.FB_CFG_HINT_Y.get cfg)
    links := (List.range 8).filterMap fun p =>
      match (s.port p).peer with
      | some d =>
        if s.flag (Reg.FB_PSTAT p) Fld.FB_PSTAT_ADJ then
          some ⟨Fin.ofNat 8 p, Fin.ofNat 8 (s.f (Reg.FB_PSTAT p) Fld.FB_PSTAT_PEER_PORT), s.f (Reg.FB_PDELAY p) Fld.FB_PDELAY_DELAY, d⟩
        else none
      | none => none
    hops := 0, crcOk := true }

/-- The LSA's payload in words (R288). -/
def lsaPayload (m : LsaMsg) : List Nat :=
  [m.devid.toNat,
    m.seq % 2 ^ 32 + m.links.length * 2 ^ 32 + ((if m.ptpLock then 1 else 0) + (if m.hintEn then 2 else 0)) * 2 ^ 40 + m.hintX.val * 2 ^ 48 +
      m.hintY.val * 2 ^ 56, 0, 0] ++
    m.links.flatMap fun l => [l.port.val + l.peerPort.val * 2 ^ 8 + l.delay % 2 ^ 32 * 2 ^ 16, l.peer.toNat]

/-- Every LSA the device knows, its own first. -/
def State.lsas (s : State) : List LsaMsg := s.ownLsa :: (s.kf.db.filter fun e => e.msg.devid != s.devid).map (·.msg)

/-- Links from device `a` to device `b` that each one's LSA lists, on matching ports (R288). -/
def linksTo (a b : LsaMsg) : List LsaLink :=
  a.links.filter fun l => l.peer == b.devid && b.links.any fun m => m.peer == a.devid && m.port == l.peerPort && m.peerPort == l.port

/-- Devices linked to `a`. -/
def neighbours (all : List LsaMsg) (a : LsaMsg) : List LsaMsg := all.filter fun b => b.devid != a.devid && !(linksTo a b).isEmpty

/-- Hop counts known so far, extended by the devices one hop beyond those at distance `d`. -/
def widen (all : List LsaMsg) (seen : List (Word × Nat)) (d : Nat) : List (Word × Nat) :=
  let front := all.filter fun a => seen.any fun p => p.1 == a.devid && p.2 == d
  let more := ((front.flatMap (neighbours all)).map (·.devid)).eraseDups.filter fun x => !(seen.any fun p => p.1 == x)
  seen ++ more.map fun x => (x, d + 1)

/-- Hop counts from device `x` to every device it reaches (R291). -/
def hopsFrom (all : List LsaMsg) (x : Word) : List (Word × Nat) := (List.range 64).foldl (widen all) [(x, 0)]

/-- The hop count of a device in such a list. -/
def hopOf (l : List (Word × Nat)) (x : Word) : Option Nat := (l.find? fun p => p.1 == x).map (·.2)

/-- The lower of two candidates by DEVID, then local port. -/
def lowerHop (a : Option (Word × Nat)) (c : Word × Nat) : Option (Word × Nat) :=
  match a with
  | none => some c
  | some b => if c.1.toNat < b.1.toNat ∨ (c.1 = b.1 ∧ c.2 < b.2) then some c else some b

/-- First hop from device `a` toward the device that the hop counts start at: the neighbour's DEVID and the local port (R291). -/
def firstHop (all : List LsaMsg) (hops : List (Word × Nat)) (a : LsaMsg) : Option (Word × Nat) :=
  match hopOf hops a.devid with
  | none => none
  | some d =>
    ((neighbours all a).filter fun b => decide ((hopOf hops b.devid).map (· + 1) = some d)).foldl
      (fun acc b => (linksTo a b).foldl (fun acc l => lowerHop acc (b.devid, l.port.val)) acc) none

/-- The lowest DEVID of a list. -/
def lowest (x : Word) (l : List Word) : Word := l.foldl (fun a b => if b.toNat < a.toNat then b else a) x

/-- Insert a DEVID in ascending order. -/
def insertDev (x : Word) : List Word → List Word
  | [] => [x]
  | y :: r => if x.toNat < y.toNat then x :: y :: r else if x = y then y :: r else y :: insertDev x r

/-- DEVIDs in ascending order. -/
def sortDevs (l : List Word) : List Word := l.foldl (fun acc x => insertDev x acc) []

/-! ## Addresses (R290) -/

/-- The addresses that the root assigns: hinted devices by their hint, a duplicate going to the lower DEVID, the others by rank. -/
def assignments (devs : List LsaMsg) : List (Word × Nat) :=
  let key := fun (m : LsaMsg) => 64 * m.hintY.val + m.hintX.val
  let wins := fun (m : LsaMsg) => hintOk m && !(devs.any fun o => hintOk o && key o == key m && decide (o.devid.toNat < m.devid.toNat))
  let rest := sortDevs ((devs.filter fun m => !wins m).map (·.devid))
  (devs.filter wins).map (fun m => (m.devid, key m)) ++
    rest.zipIdx.map fun p => (p.1, if p.2 < 63 then 0xFC0 + p.2 else 0)

/-- The address of a device in the newest ASSIGN; 0xFFF where it has none. -/
def State.addrOf (s : State) (d : Word) : Nat := ((s.kf.addrs.find? fun p => p.1 == d).map (·.2)).getD 0xFFF

/-- This device's address follows the newest ASSIGN. -/
def State.showAddr (s : State) : State :=
  match s.kf.addrs.find? fun p => p.1 == s.devid with
  | some p => (s.setF Reg.FB_STATUS Fld.FB_STATUS_ADDR p.2).setB Reg.FB_STATUS Fld.FB_STATUS_ADDR_VALID true
  | none => (s.setF Reg.FB_STATUS Fld.FB_STATUS_ADDR 0xFFF).setB Reg.FB_STATUS Fld.FB_STATUS_ADDR_VALID false

/-! ## Time (R294, R295) -/

/-- The source of fabric time is lost (R295). -/
def State.coast (s : State) : State :=
  let st := s.f Reg.FB_TSTAT Fld.FB_TSTAT_STATE
  let s : State := { s with kf := { s.kf with nearRun := 0 } }
  if st = 1 ∨ st = 2 then s.setF Reg.FB_TSTAT Fld.FB_TSTAT_STATE 3 else s

/-- An offset from the source, in units of 2⁻¹⁶ ns, is corrected (R294): slewed up to 1 µs, else stepped at the next gangway or at once while the timetable does not run. -/
def State.correctTime (s : State) (o : Int) : State :=
  let mag := o.natAbs
  if mag ≤ 1000 * 65536 then
    let run := if mag ≤ 20 * 65536 then s.kf.nearRun + 1 else 0
    let st := s.f Reg.FB_TSTAT Fld.FB_TSTAT_STATE
    let st' := if 20 * 65536 < mag then 2 else if 8 ≤ run then 1 else if st = 1 then 1 else 2
    let s := s.setF Reg.FB_TSTAT Fld.FB_TSTAT_STATE st'
    { s with clock := { s.clock with slew := o }, kf := { s.kf with nearRun := run } }
  else
    let s := s.setF Reg.FB_TSTAT Fld.FB_TSTAT_STATE 2
    let s : State := { s with clock := { s.clock with slew := 0, step := some o }, kf := { s.kf with nearRun := 0 } }
    if s.flag Reg.TT_STATUS Fld.TT_STATUS_RUNNING then s else (s.applyStep s.tt.nextSeq).1

/-! ## Root, routes and tree (R289, R291, R292) -/

/-- More than 64 devices: the 64 lowest stay (R292). -/
def State.trimDb (s : State) : State :=
  let devs := sortDevs (s.devid :: s.kf.db.map fun e => e.msg.devid)
  if 64 < devs.length then
    let keep := devs.take 64
    ({ s with kf := { s.kf with db := s.kf.db.filter fun e => keep.contains e.msg.devid } } : State).setB Reg.FB_STATUS Fld.FB_STATUS_OVERSIZE true
  else s

/-- One node entry (R306). -/
def State.nodeWord (s : State) (all : List LsaMsg) (own : List (Word × Nat)) (d : Word) : Word :=
  let hop := (hopOf own d).getD 15
  let back := hopsFrom all d
  let port := ((firstHop all back s.ownLsa).map (·.2)).getD 0
  [(Fld.FB_NODE_INFO_ADDR, s.addrOf d), (Fld.FB_NODE_INFO_VALID, 1), (Fld.FB_NODE_INFO_HOPS, min hop 15), (Fld.FB_NODE_INFO_PORT, port),
    (Fld.FB_NODE_INFO_SELF, if d = s.devid then 1 else 0)].foldl (fun (w : Word) (p : Field × Nat) => p.1.set w p.2) 0

/-- The node table (R306): the devices of the database that this device reaches, in ascending DEVID order. -/
def State.showNodes (s : State) : State :=
  let all := s.lsas
  let own := hopsFrom all s.devid
  let devs := (sortDevs (own.map (·.1))).take 64
  let words := devs.flatMap fun d => [d, s.nodeWord all own d]
  s.setBlock (Reg.FB_NODE_ID 0) (words ++ List.replicate (128 - words.length) 0)

/-- The ports of the tree: the parent port, and the ports whose neighbour takes them as parent (R291). -/
def State.treeOf (s : State) (all : List LsaMsg) (rootHops : List (Word × Nat)) (parent : Option Nat) : List Nat :=
  (List.range 8).filter fun p =>
    decide (parent = some p) ||
      s.ownLsa.links.any fun l => l.port.val == p &&
        all.any fun b => b.devid == l.peer && (linksTo s.ownLsa b).contains l &&
          (match firstHop all rootHops b with
           | some h => h.1 == s.devid && h.2 == l.peerPort.val
           | none => false)

/-- ROOT_ELECTION (R289, R291, R292): root, parent, tree, node table and the root's assignment follow the database. -/
def State.topo (s : State) : State :=
  let s := s.trimDb
  let all := s.lsas
  let own := hopsFrom all s.devid
  let far := lowest s.devid (own.map (·.1))
  let root := lowest s.devid ((own.filter fun p => decide (p.2 ≤ 8)).map (·.1))
  let s := if far ≠ root then s.setB Reg.FB_STATUS Fld.FB_STATUS_DIAM true else s
  let hops := hopsFrom all root
  let me := decide (root = s.devid)
  let parent := (firstHop all hops s.ownLsa).map (·.2)
  let had := s.flag Reg.FB_TSTAT Fld.FB_TSTAT_PARENT_VALID
  let lost := had && decide (parent ≠ some (s.f Reg.FB_TSTAT Fld.FB_TSTAT_PARENT))
  let s := (s.setReg Reg.FB_ROOT root).setB Reg.FB_STATUS Fld.FB_STATUS_ROOT me
  let s := if !me && s.f Reg.ETH_PTP_STAT Fld.ETH_PTP_STAT_STATE == 2 then
      ({ s with eth := { s.eth with ptp := { s.eth.ptp with good := 0 } } } : State).setF Reg.ETH_PTP_STAT Fld.ETH_PTP_STAT_STATE 1 else s
  let s := s.setF Reg.FB_STATUS Fld.FB_STATUS_NODES all.length
  let s := (s.setB Reg.FB_TSTAT Fld.FB_TSTAT_PARENT_VALID parent.isSome).setF Reg.FB_TSTAT Fld.FB_TSTAT_PARENT (parent.getD 0)
  let s := s.setF Reg.FB_TSTAT Fld.FB_TSTAT_ROOT_DIST ((hopOf hops s.devid).getD 0)
  let s := s.setB Reg.ETH_PTP_STAT Fld.ETH_PTP_STAT_APPLIED (me && s.f Reg.ETH_PTP_STAT Fld.ETH_PTP_STAT_STATE != 0)
  let s := s.setB Reg.FB_TSTAT Fld.FB_TSTAT_PTP_LOCK (s.lsas.any fun m => m.devid == root && m.ptpLock)
  let s := if lost then s.coast else s
  let tree := s.treeOf all hops parent
  let s := (List.range 8).foldl (fun s p => s.setB (Reg.FB_PSTAT p) Fld.FB_PSTAT_TREE (tree.contains p)) s
  let mine := s.ownLsa
  let s := if hintOk mine && all.any (fun o => o.devid != s.devid && hintOk o && o.hintX == mine.hintX && o.hintY == mine.hintY) then
    s.setB Reg.FB_STATUS Fld.FB_STATUS_HINT_DUP true else s
  let near := all.filter fun m => match hopOf own m.devid with | some d => decide (d ≤ 8) | none => false
  let due := me && decide (assignments near ≠ s.kf.addrs)
  ({ s with kf := { s.kf with assignDue := s.kf.assignDue || due, lastRoot := some root } } : State).showNodes

/-- An adjacency begins or ends on port `p` (R287): a new LSA follows at once. -/
def State.setAdj (s : State) (p : Nat) (v : Bool) : State :=
  if s.flag (Reg.FB_PSTAT p) Fld.FB_PSTAT_ADJ == v then s
  else
    let s := (s.setB (Reg.FB_PSTAT p) Fld.FB_PSTAT_ADJ v).setB Reg.FB_STATUS Fld.FB_STATUS_TOPO_CHG true
    ({ s with kf := { s.kf with lsaDue := true } } : State).topo

end Sys2Proof.Machine
end

