-- ==== Sys2Proof/Machine/Ports.lean ====
section
/-! DEFINITION. Transmitter coefficients (R264) and the bring-up of fabric ports (R281 to R283). The commands PORT_TRAINING_FRAME_RX, PORT_TRAIN_TIMEOUT and PORT_LOCK_TIMEOUT. -/

namespace Sys2Proof.Machine

/-! ## Coefficients (R264) -/

/-- PRE in 0 to 15, POST in 0 to 23 and their sum in 0 to 28 (R264). -/
def coefOk (pre post : Nat) : Bool := decide (pre ≤ 15) && decide (post ≤ 23) && decide (pre + post ≤ 28)

/-- PRE and POST after a request (1 increment, 2 decrement, 3 both presets) of the pre-cursor or the post-cursor; none at the limit. -/
def coefStep (isPre : Bool) (req pre post presetPre presetPost : Nat) : Option (Nat × Nat) :=
  let r : Option (Nat × Nat) :=
    match req with
    | 1 => if isPre then some (pre + 1, post) else some (pre, post + 1)
    | 2 => if isPre then (if pre = 0 then none else some (pre - 1, post)) else (if post = 0 then none else some (pre, post - 1))
    | _ => some (presetPre, presetPost)
  match r with
  | some p => if coefOk p.1 p.2 then some p else none
  | none => none

/-- The CHK rule of a training frame (R262). -/
def trainOk (f : BitVec 32) : Bool :=
  let b := fun (i : Nat) => f.toNat / 2 ^ (8 * i) % 256
  (b 0 ^^^ b 1 ^^^ b 2) == b 3

/-- Bits `lo` up of a control field. -/
def trainBits (f : BitVec 32) (lo width : Nat) : Nat := f.toNat / 2 ^ lo % 2 ^ width

/-- A control field with its CHK. -/
def trainField (v : Nat) : Nat :=
  let b := fun (i : Nat) => v / 2 ^ (8 * i) % 256
  v % 2 ^ 24 + (b 0 ^^^ b 1 ^^^ b 2) * 2 ^ 24

/-- Duration of the countdown from 15 to 0 in ns: 16 frames of 16 blocks (R261, R265). -/
def countdownNs : Nat := blocksNs 256

/-! ## Port states (R282) -/

/-- Port `p` has been released at boot lock (R369) and the fabric loop gives clocks (R313). -/
def State.portReleased (s : State) (p : Nat) : Bool :=
  decide ((if p < 4 then 9 else 10) ≤ s.boot.released) && !s.flag (Reg.CK_PSTAT 10) Fld.CK_PSTAT_ACQ

/-- A port's record when it begins anew. -/
def FabPort.anew (x : FabPort) (now : Nat) : FabPort :=
  { since := now, detAt := now, hseq := x.hseq, tseq := x.tseq, chkAt := x.chkAt, tx := x.tx }

/-- Port `p` enters a state in which it has no link. -/
def State.portInto (s : State) (p st : Nat) : State :=
  let s := (s.setAdj p false).setF (Reg.FB_PSTAT p) Fld.FB_PSTAT_STATE st
  s.modPort p fun x => x.anew s.clock.now

/-- Port `p` enters TRAIN. -/
def State.portTrain (s : State) (p : Nat) : State := (s.portInto p 2).satF (Reg.FB_PCNT p) Fld.FB_PCNT_TRAINS 1

/-- A detected peer takes the port to TRAIN (R282). -/
def State.portCheck (s : State) (p : Nat) : State :=
  if s.portState p = 1 ∧ (s.flag (Reg.FB_PCTL p) Fld.FB_PCTL_DET_SKIP ∨ 2 ≤ (s.port p).detCount) then s.portTrain p else s

/-- Port `p` enters DETECT (R282). -/
def State.portDetect (s : State) (p : Nat) : State := (s.portInto p 1).portCheck p

/-- Port `p` enters UP: block lock and one valid HELLO (R282). -/
def State.portUpCheck (s : State) (p : Nat) : State :=
  if s.portState p = 3 ∧ (s.port p).locked ∧ (s.port p).gotHello then
    (s.setF (Reg.FB_PSTAT p) Fld.FB_PSTAT_STATE 4).modPort p fun x => { x with since := s.clock.now, timeAt := s.clock.now }
  else s

/-- The generator of port `p` follows TEST and FB_PTEST (R274, R306). -/
def State.portPattern (s : State) (p : Nat) : State :=
  let a := Reg.FB_PTEST p
  let runs : Bool := s.portState p == 5 && s.flag a Fld.LN_LTEST_GEN_EN
  s.modPort p fun x => { x with tx := x.tx.regen s.clock.now (if runs then some (s.patternOf a) else none) }

/-- Where a released port stands follows PORT_EN and TEST (R282). -/
def State.portFollow (s : State) (p : Nat) : State :=
  if !s.portReleased p then s
  else if hasBit (s.f Reg.FB_CFG Fld.FB_CFG_PORT_EN) p then
    (if s.portState p = 0 ∨ s.portState p = 5 then (s.portDetect p).portPattern p else s)
  else if s.flag (Reg.FB_PCTL p) Fld.FB_PCTL_TEST then (if s.portState p = 5 then s else (s.portInto p 5).portPattern p)
  else if s.portState p = 0 then s
  else (s.portInto p 0).portPattern p

/-- A detection step of a port (R260, R282): every 100 ms. -/
def State.portStep (s : State) (p : Nat) (present : Bool) : State :=
  if s.portState p = 1 ∧ (s.port p).detAt ≤ s.clock.now then
    let s := s.emit (.detect (.port (Fin.ofNat 8 p)))
    (s.modPort p fun x => { x with detCount := if present then x.detCount + 1 else 0, detAt := s.clock.now + 100000000 }).portCheck p
  else s

/-! ## Training (R283) -/

/-- The presets of a fabric port (R283). -/
def portPresets : Nat × Nat := (4, 12)

/-- One request of the peer to the port's transmitter (R264, R283): the new coefficients and the status to report. -/
def State.portRequest (s : State) (p : Nat) (isPre : Bool) (req : Nat) : State :=
  let x := s.port p
  let st := if isPre then x.preSt else x.postSt
  let put := fun (s : State) (v : Nat) => s.modPort p fun x => if isPre then { x with preSt := v } else { x with postSt := v }
  if req = 0 then put s 0
  else if st ≠ 0 then s
  else
    match coefStep isPre req (s.f (Reg.FB_PSTAT p) Fld.FB_PSTAT_PRE) (s.f (Reg.FB_PSTAT p) Fld.FB_PSTAT_POST) portPresets.1 portPresets.2 with
    | some c => put ((s.setF (Reg.FB_PSTAT p) Fld.FB_PSTAT_PRE c.1).setF (Reg.FB_PSTAT p) Fld.FB_PSTAT_POST c.2) 1
    | none => put (s.setB Reg.LN_STATUS Fld.LN_STATUS_TXEQ_LIMIT true) 2

/-- COUNTDOWN in the frame that is sent now (R262, R265). -/
def countdownNow (countEnd : Option Nat) (now : Nat) : Nat :=
  match countEnd with
  | none => 0xFF
  | some e => min 15 ((e - now) * 7 / 520)

/-- The port's own frames (R283): the requests to the peer are the receiver's own, free until it is ready. -/
def State.portFrame (s : State) (p : Nat) : State :=
  let x := s.port p
  let req := if x.ready then 0 else s.freshNat % 16
  let v := p + (if x.ready then 8 + 16 else 0) + countdownNow x.countEnd s.clock.now * 2 ^ 8 + x.preSt * 2 ^ 16 + x.postSt * 2 ^ 18 + req * 2 ^ 20
  ((if x.ready then s else s.used).emit (.train (.port (Fin.ofNat 8 p)) (trainField v))).modPort p fun x => { x with tx := x.tx.frame (trainField v) }

/-- PORT_TRAINING_FRAME_RX (R283). -/
def State.portTrainRx (s : State) (p : Nat) (m : TrainMsg) : State :=
  if s.portState p = 2 ∧ trainOk m.field then
    let s := s.setF (Reg.FB_PSTAT p) Fld.FB_PSTAT_PEER_PORT (trainBits m.field 0 3)
    let s := s.portRequest p true (trainBits m.field 20 2)
    let s := s.portRequest p false (trainBits m.field 22 2)
    let close := trainBits m.field 4 1 == 1
    let s := s.modPort p fun x =>
      let closes := if close then x.closes + 1 else 0
      let ready := x.ready || m.ownReady
      { x with
        closes := closes, ready := ready
        countEnd := if x.countEnd.isNone && ready && decide (2 ≤ closes) then some (s.clock.now + countdownNs) else x.countEnd }
    s.portFrame p
  else s

/-- The port's countdown ends: its block stream begins (R265, R283). -/
def State.portCountdown (s : State) (p : Nat) : State :=
  match (s.port p).countEnd with
  | some e =>
    if s.portState p = 2 ∧ e ≤ s.clock.now then
      (s.setF (Reg.FB_PSTAT p) Fld.FB_PSTAT_STATE 3).modPort p fun x =>
        { x with since := s.clock.now, countEnd := none, frameLock := false, locked := false, gotHello := false, helloAt := s.clock.now }
    else s
  | none => s

/-- A timeout of a port's state (R282). -/
def State.portTimeout (s : State) (p st ns : Nat) : State :=
  if s.portState p = st ∧ (s.port p).since + ns ≤ s.clock.now then s.portDetect p else s

/-- Block lock of a port's receiver (R266, R282). -/
def State.portLock (s : State) (p : Nat) : State :=
  if 2 ≤ s.portState p ∧ s.portState p ≤ 4 then (s.modPort p fun x => { x with locked := true }).portUpCheck p else s

/-- Its loss (R266, R282). -/
def State.portUnlock (s : State) (p : Nat) : State :=
  if (s.port p).locked then
    let s := (s.satF (Reg.FB_PCNT p) Fld.FB_PCNT_LOCK_LOSS 1).modPort p fun x => { x with locked := false }
    if s.portState p = 4 then s.portDetect p else s
  else s

/-! ## The commands -/

/-- PORT_TRAINING_FRAME_RX (R283). -/
def execPortTrainingFrameRx (t : Nat) (port : Fin 8) (msg : TrainMsg) (s : State) : Result := .next ((s.advance t).portTrainRx port.val msg)

/-- PORT_TRAIN_TIMEOUT (R282). -/
def execPortTrainTimeout (t : Nat) (port : Fin 8) (s : State) : Result := .next ((s.advance t).portTimeout port.val 2 50000000)

/-- PORT_LOCK_TIMEOUT (R282). -/
def execPortLockTimeout (t : Nat) (port : Fin 8) (s : State) : Result := .next ((s.advance t).portTimeout port.val 3 10000000)

end Sys2Proof.Machine
end

