-- ==== Sys2Proof/Machine/Lanes.lean ====
section
/-! DEFINITION. Lanes at work: enabling and disabling (R273), detection (R260), training (R263 to R265), block and frame lock (R261, R266 to R268), background retraining (R269), mooring (R270, R271), coefficients by write (R273), patterns, checkers and error injection (R274 to R276). The commands BUNDLE_ENABLE, BUNDLE_DISABLE, DETECT_STEP, TRAINING_FRAME_RX, COUNTDOWN_END, TRAIN_TIMEOUT, LOCK_TIMEOUT, CAP_TIMEOUT, FRAME_LOCK_GAIN, FRAME_LOCK_LOSS, BLOCK_LOCK_GAIN, BLOCK_LOCK_LOSS, RETRAIN_BURST, REJOIN_RETRY_TIMEOUT, LANE_MOOR, MOOR_EXIT, BURST_END, TXEQ_WRITE, ERROR_INJECT, CHECKER_LOCK and CHECKER_LOCK_LOSS. -/

namespace Sys2Proof.Machine

/-! ## Enable and disable (R259, R270, R271, R273) -/

/-- BUNDLE_ENABLE: OFF and TEST lead to DETECT, lanes moored under MOOR_DOWN to a burst. -/
def State.bunEnable (s : State) (b : Nat) : State :=
  let s := s.setB (Reg.EG_BCTL b) Fld.EG_BCTL_EN true
  if s.bunReleased b && s.allMoored b && s.bunState b == 0 then s.exitCause b else s.laneFollow b

/-- BUNDLE_DISABLE: transmission ends, and the lanes go to MOORED, OFF or TEST. The lanes that were in the stream are what a later CAP reports (R271). -/
def State.bunDisable (s : State) (b : Nat) : State :=
  let s := s.setB (Reg.EG_BCTL b) Fld.EG_BCTL_EN false
  if s.laneState b 6 = 0 ∨ s.laneState b 6 = 8 ∨ (s.laneState b 6 = 6 ∧ s.bunState b = 0) then s.laneFollow b
  else
    let mask := if s.bunState b < 2 then (s.bun b).initMask else s.lanesOf b
    let moor := s.flag (Reg.LN_BCTL b) Fld.LN_BCTL_MOOR_DOWN
    let s := s.setLanes b (if moor then 6 else 0) sevenLanes
    let s := s.modBun b fun x => { x.unlinked s.clock.now with
      frameLock := x.frameLock, initMask := mask, lanes := x.lanes.map fun l => { l with burstFrom := none, burstEnd := none, retryAt := none } }
    let s := if moor then s.freeze b true else s.dropLocks b
    (s.setLink b 0 0).laneFollow b

/-! ## Detection (R260) -/

/-- DET_RETRY in ns. -/
def State.detRetry (s : State) : Nat := max 1 (s.f Reg.LN_CFG Fld.LN_CFG_DET_RETRY) * 1000000

/-- A detection step of lane `l` of bundle `b`. -/
def State.laneStep (s : State) (b l : Nat) (present : Bool) : State :=
  if s.laneState b l = 1 ∧ (s.laneAux b l).detAt ≤ s.clock.now then
    let s := s.emit (.detect (.lane (Fin.ofNat 8 b) (Fin.ofNat 7 l)))
    let s := s.setB (Reg.LN_LSTAT b l) Fld.LN_LSTAT_DETECTED present
    (s.modLane b l fun x => { x with detCount := if present then x.detCount + 1 else 0, detAt := s.clock.now + s.detRetry }).detectCheck b
  else s

/-! ## Training (R263 to R265) -/

/-- One request to the transmitter of lane `l`, which acts only in TRAIN (R264, R269). POST above 23 acts as 23 (R280). -/
def State.laneRequest (s : State) (b l : Nat) (isPre : Bool) (req : Nat) : State :=
  let x := s.laneAux b l
  let st := if isPre then x.preSt else x.postSt
  let a := Reg.LN_LTXEQ b l
  let put := fun (s : State) (v : Nat) => s.modLane b l fun x => if isPre then { x with preSt := v } else { x with postSt := v }
  if s.laneState b l ≠ 2 then s
  else if req = 0 then put s 0
  else if st ≠ 0 then s
  else
    match coefStep isPre req (s.f a Fld.LN_LTXEQ_PRE) (min 23 (s.f a Fld.LN_LTXEQ_POST)) (s.f a Fld.LN_LTXEQ_PRE_PRESET)
        (s.f a Fld.LN_LTXEQ_POST_PRESET) with
    | some c => put ((s.setF a Fld.LN_LTXEQ_PRE c.1).setF a Fld.LN_LTXEQ_POST c.2) 1
    | none => put (s.setB Reg.LN_STATUS Fld.LN_STATUS_TXEQ_LIMIT true) 2

/-- The control field of lane `l` with a BURST bit and a COUNTDOWN (R262). -/
def State.fieldWith (s : State) (b l burst count : Nat) : Nat :=
  let x := s.laneAux b l
  trainField (l + b * 2 ^ 3 + burst * 2 ^ 6 + count * 2 ^ 8 + x.preSt * 2 ^ 16 + x.postSt * 2 ^ 18)

/-- The control field that forward lane `l` sends in TRAIN (R262). -/
def State.laneField (s : State) (b l : Nat) : Nat := s.fieldWith b l 0 (countdownNow (s.bun b).countEnd s.clock.now)

/-- TRAIN_CLOSE (R265): two consecutive valid frames with CLOSE = 1 and READY ≠ 0 fix the initial mask and start the countdown. -/
def State.trainClose (s : State) (b ready : Nat) (close : Bool) : State :=
  let n := if close && ready != 0 then (s.bun b).closes + 1 else 0
  let s := s.modBun b fun x => { x with closes := n }
  if 2 ≤ n ∧ (s.bun b).countEnd.isNone then
    let s := sevenLanes.foldl (fun s l => s.setB (Reg.LN_LSTAT b l) Fld.LN_LSTAT_READY (hasBit ready l)) s
    s.modBun b fun x => { x with initMask := ready, countEnd := some (s.clock.now + countdownNs) }
  else s

/-- TRAINING_FRAME_RX (R263 to R265): only in TRAIN, and only with a valid CHK. -/
def State.trainRx (s : State) (b : Nat) (m : TrainMsg) : State :=
  if s.laneState b 6 = 2 ∧ trainOk m.field then
    let l := trainBits m.field 7 3
    let s := if l < 7 then
        (s.laneRequest b l true (trainBits m.field 10 2)).laneRequest b l false (trainBits m.field 12 2)
      else s
    let s := s.trainClose b (trainBits m.field 0 7) (trainBits m.field 14 1 == 1)
    let s := s.emits ((s.lanesIn b 2).map fun l => .train (.lane (Fin.ofNat 8 b) (Fin.ofNat 7 l)) (s.laneField b l))
    (s.lanesIn b 2).foldl (fun s l => s.laneFrame b l (s.laneField b l)) s
  else s

/-- COUNTDOWN_END (R265): block-coded data begins, and the lanes enter LOCK; adaptation freezes until there is block lock (R268). -/
def State.bunCountdown (s : State) (b : Nat) : State :=
  match (s.bun b).countEnd with
  | some e =>
    if s.laneState b 6 = 2 ∧ e ≤ s.clock.now then
      ((s.setLanes b 3 (s.lanesIn b 2)).dropLocks b).modBun b fun x => { x with since := s.clock.now, countEnd := none, closes := 0 }
    else s
  | none => s

/-- TRAIN_TIMEOUT (R259). -/
def State.trainTimeout (s : State) (b : Nat) : State :=
  if s.laneState b 6 = 2 ∧ (s.bun b).since + max 1 (s.f Reg.LN_CFG Fld.LN_CFG_TRAIN_TO) * 1000000 ≤ s.clock.now then
    s.bringUpTimeout b Fld.LN_STATUS_TRAIN_TO
  else s

/-- LOCK_TIMEOUT (R267). -/
def State.lockTimeout (s : State) (b : Nat) : State :=
  if s.laneState b 6 = 3 ∧ !s.flag (Reg.LN_LSTAT b 6) Fld.LN_LSTAT_RX_LOCK ∧
      (s.bun b).since + max 1 (s.f Reg.LN_CFG Fld.LN_CFG_LOCK_TO) * 10000 ≤ s.clock.now then
    s.bringUpTimeout b Fld.LN_STATUS_LOCK_TO
  else s

/-- CAP_TIMEOUT (R267). -/
def State.capTimeout (s : State) (b : Nat) : State :=
  match (s.bun b).lockAt with
  | some e =>
    if s.laneState b 6 = 3 ∧ e + max 1 (s.f Reg.LN_CFG Fld.LN_CFG_CAP_TO) * 1000000 ≤ s.clock.now then s.bringUpTimeout b Fld.LN_STATUS_CAP_TO else s
  | none => s

/-! ## Frame and block lock (R261, R266 to R268) -/

/-- Frame lock of a return (R261, R268). The device sees no other lane. -/
def State.frameLock (s : State) (k : LaneId) (v : Bool) : State :=
  match k with
  | .lane b l =>
    if l.val = 6 ∧ s.laneState b.val 6 = 2 then (s.modBun b.val fun x => { x with frameLock := v }).freeze b.val (!v) else s
  | .port p => if s.portState p.val = 2 then s.modPort p.val fun x => { x with frameLock := v } else s

/-- The return of bundle `b` gains block lock (R254, R266 to R268). -/
def State.returnLock (s : State) (b : Nat) : State :=
  let st := s.laneState b 6
  if s.flag (Reg.LN_LSTAT b 6) Fld.LN_LSTAT_RX_LOCK ∨ st < 3 ∨ st = 8 then s
  else
    let s := s.setB (Reg.LN_LSTAT b 6) Fld.LN_LSTAT_RX_LOCK true
    let s := if 3 ≤ st ∧ st ≤ 5 then s.freeze b false else s
    let s := if st = 3 then s.modBun b fun x => { x with lockAt := some s.clock.now, capAt := s.clock.now } else s
    if s.bunState b = 4 then s.modBun b fun x => { x with capStep := true, capAt := s.clock.now } else s

/-- The return of bundle `b` loses block lock (R254, R266 to R268). -/
def State.returnLoss (s : State) (b : Nat) : State :=
  if s.flag (Reg.LN_LSTAT b 6) Fld.LN_LSTAT_RX_LOCK then
    let s := (s.setB (Reg.LN_LSTAT b 6) Fld.LN_LSTAT_RX_LOCK false).freeze b true
    let s := (s.satF (Reg.LN_LCNT b 6) Fld.LN_LCNT_LOCK_LOSS 1).setB Reg.LN_STATUS Fld.LN_STATUS_LOCK_LOSS true
    let s := s.modBun b fun x => { x with lockAt := none, capStep := false }
    if s.bunState b = 2 ∨ s.bunState b = 3 then s.becomeBlind b else s
  else s

/-- BLOCK_LOCK_GAIN (R266). -/
def State.blockLock (s : State) (k : LaneId) : State :=
  match k with
  | .lane b l => if l.val = 6 then s.returnLock b.val else s
  | .port p => s.portLock p.val

/-- BLOCK_LOCK_LOSS (R266). -/
def State.blockLoss (s : State) (k : LaneId) : State :=
  match k with
  | .lane b l => if l.val = 6 then s.returnLoss b.val else s
  | .port p => s.portUnlock p.val

/-! ## Bursts and mooring (R269 to R271) -/

/-- Lane `l` begins a burst of 27 frames, 432 block times, with BURST = 1 and COUNTDOWN from 26 to 0 (R262, R269, R271). -/
def State.beginBurst (s : State) (b l : Nat) : State :=
  let s := s.emit (.burst b l 27)
  let s := (List.range 27).foldl (fun s k => s.laneFrame b l (s.fieldWith b l 1 (26 - k))) s
  (s.setLanes b 7 [l]).modLane b l fun x => { x with burstFrom := none, burstEnd := some (s.clock.now + blocksNs 432), retryAt := none }

/-- The bundle's rounds run, so that a burst can be timed before an ALIGN round. -/
def State.streams (s : State) (b : Nat) : Bool := s.bunActive b || s.bunState b == 5

/-- RETRAIN_BURST (R269): a lane in OUT that wants a burst sends it at its instant. -/
def State.retrainBurst (s : State) (b l : Nat) : State :=
  match (s.laneAux b l).burstFrom with
  | some t =>
    if s.laneState b l = 5 ∧ s.streams b ∧ s.burstStart b t ≤ s.clock.now then
      (s.beginBurst b l).satF (Reg.LN_LSTAT b l) Fld.LN_LSTAT_RETRAINS 1
    else s
  | none => s

/-- REJOIN_RETRY_TIMEOUT (R269). -/
def State.rejoinRetry (s : State) (b l : Nat) : State :=
  match (s.laneAux b l).retryAt with
  | some t =>
    if s.laneState b l = 5 ∧ t ≤ s.clock.now then s.modLane b l fun x => { x with burstFrom := some s.clock.now, retryAt := none } else s
  | none => s

/-- LANE_MOOR (R270): a stopped bundle under MOOR_STOP whose ALIGN round has passed moors whole; else each lane in OUT with HOLD = 1 moors. -/
def State.laneMoor (s : State) (b : Nat) : State :=
  let x := s.bun b
  let whole : Bool := s.bunState b == 5 && s.flag (Reg.LN_BCTL b) Fld.LN_BCTL_MOOR_STOP &&
    (match x.moorRound with | some r => decide (r < x.round) | none => false)
  if whole then
    let s := s.setLanes b 6 sevenLanes
    (s.modBun b fun x => { x with initMask := s.lanesOf b, moorRound := none }).freeze b true
  else
    let ls := (s.lanesIn b 5).filter fun l => s.flag (Reg.LN_LCTL b l) Fld.LN_LCTL_HOLD
    ls.foldl (fun s l => s.modLane b l fun x => { x with burstFrom := none, retryAt := none }) (s.setLanes b 6 ls)

/-- MOOR_EXIT (R271): the bursts of a bundle-wide exit, or of single lanes whose HOLD is 0. -/
def State.moorExit (s : State) (b : Nat) : State :=
  if (s.bun b).exitDue then
    let s := sevenLanes.foldl (fun s l => s.beginBurst b l) s
    let s := (s.setLink b 1 0).satF (Reg.LN_BSTAT b) Fld.LN_BSTAT_EXITS 1
    s.modBun b fun x => { x with exitDue := false, lockAt := none }
  else if s.streams b ∧ !s.allMoored b then
    let ls := (s.lanesIn b 6).filter fun l => !s.flag (Reg.LN_LCTL b l) Fld.LN_LCTL_HOLD
    ls.foldl (fun s l =>
      let t := ((s.laneAux b l).burstFrom).getD s.clock.now
      if s.burstStart b t ≤ s.clock.now then (s.beginBurst b l).satF (Reg.LN_LSTAT b l) Fld.LN_LSTAT_RETRAINS 1
      else s.modLane b l fun x => { x with burstFrom := some t }) s
  else s

/-- BURST_END (R271): after a bundle-wide burst the lanes enter LOCK, after a single lane's burst OUT. A return that kept its lock, or has it again, counts as ready at once (R272) and adapts; one without is frozen (R268). -/
def State.burstDone (s : State) (b : Nat) : State :=
  let ls := (s.lanesIn b 7).filter fun l =>
    match (s.laneAux b l).burstEnd with | some t => decide (t ≤ s.clock.now) | none => false
  if ls.isEmpty then s
  else
    let s := ls.foldl (fun s l => s.modLane b l fun x => { x with burstEnd := none }) s
    if s.bunState b = 1 then
      let locked := s.flag (Reg.LN_LSTAT b 6) Fld.LN_LSTAT_RX_LOCK
      ((s.setLanes b 3 ls).freeze b (!locked)).modBun b fun x => { x with
        since := s.clock.now, capAt := s.clock.now, lockAt := if locked then some s.clock.now else none }
    else
      let retry := s.clock.now + max 1 (s.f Reg.LN_CFG Fld.LN_CFG_REJOIN_RETRY) * 100000
      ls.foldl (fun s l => s.modLane b l fun x => { x with retryAt := some retry }) (s.setLanes b 5 ls)

/-! ## Writes to a lane's registers (R273 to R276, R280) -/

/-- TXEQ_WRITE (R273, R280): PRE + POST above 28 leaves both as they were. -/
def State.txeqWrite (s : State) (b l : Nat) (v : Word) : State :=
  let a := Reg.LN_LTXEQ b l
  let old := s.reg a
  let s := s.storeReg a v
  if 28 < Fld.LN_LTXEQ_PRE.get v + min 23 (Fld.LN_LTXEQ_POST.get v) then
    ((s.setF a Fld.LN_LTXEQ_PRE (Fld.LN_LTXEQ_PRE.get old)).setF a Fld.LN_LTXEQ_POST (Fld.LN_LTXEQ_POST.get old)).setB
      Reg.LN_STATUS Fld.LN_STATUS_TXEQ_LIMIT true
  else s

/-- LN_LTEST, or a port's FB_PTEST (R280, R306). -/
def testReg : LaneId → Nat
  | .lane b l => Reg.LN_LTEST b.val l.val
  | .port p => Reg.FB_PTEST p.val

/-- LN_LPERR, or a port's FB_PPERR. -/
def perrReg : LaneId → Nat
  | .lane b l => Reg.LN_LPERR b.val l.val
  | .port p => Reg.FB_PPERR p.val

/-- LN_LPBITS, or a port's FB_PPBITS. -/
def pbitsReg : LaneId → Nat
  | .lane b l => Reg.LN_LPBITS b.val l.val
  | .port p => Reg.FB_PPBITS p.val

/-- Since when a checker is locked. -/
def State.chkAt (s : State) : LaneId → Option Nat
  | .lane b l => (s.laneAux b.val l.val).chkAt
  | .port p => (s.port p.val).chkAt

/-- Set since when a checker is locked. -/
def State.setChk (s : State) (k : LaneId) (v : Option Nat) : State :=
  match k with
  | .lane b l => s.modLane b.val l.val fun x => { x with chkAt := v }
  | .port p => s.modPort p.val fun x => { x with chkAt := v }

/-- Bits that a checker has checked up to now: 56 per ns while locked (R275). -/
def State.bitsNow (s : State) (k : LaneId) : Word :=
  match s.chkAt k with
  | some t => s.reg (pbitsReg k) + BitVec.ofNat 64 (56 * (s.clock.now - t))
  | none => s.reg (pbitsReg k)

/-- A checker stops counting; the bits so far are kept. -/
def State.chkStop (s : State) (k : LaneId) : State :=
  ((s.setReg (pbitsReg k) (s.bitsNow k)).setChk k none).setB (perrReg k) Fld.LN_LPERR_LOCKED false

/-- CHECKER_LOCK (R275). -/
def State.chkLock (s : State) (k : LaneId) : State :=
  if s.flag (testReg k) Fld.LN_LTEST_CHK_EN && !s.flag (perrReg k) Fld.LN_LPERR_LOCKED then
    (s.setB (perrReg k) Fld.LN_LPERR_LOCKED true).setChk k (some s.clock.now)
  else s

/-- A locked checker counts errors (R275). -/
def State.chkErrors (s : State) (k : LaneId) (n : Nat) : State :=
  if n = 0 then s else (s.satF (perrReg k) Fld.LN_LPERR_ERRORS n).setB Reg.LN_STATUS Fld.LN_STATUS_PRBS_ERR true

/-- CHECKER_LOCK_LOSS (R275): `errors` is what the checker counted since it locked. -/
def State.chkLoss (s : State) (k : LaneId) (errors : Nat) : State :=
  if s.flag (perrReg k) Fld.LN_LPERR_LOCKED then (s.chkErrors k errors).chkStop k else s

/-- The serialiser of a lane. -/
def State.laneTx (s : State) (k : LaneId) : LaneTx :=
  match k with
  | .lane b l => (s.laneAux b.val l.val).tx
  | .port p => (s.port p.val).tx

/-- Change the serialiser of a lane. -/
def State.modTx (s : State) (k : LaneId) (f : LaneTx → LaneTx) : State :=
  match k with
  | .lane b l => s.modLane b.val l.val fun x => { x with tx := f x.tx }
  | .port p => s.modPort p.val fun x => { x with tx := f x.tx }

/-- Pattern generators follow a write to LN_LTEST or FB_PTEST that changes what they read (R274). -/
def State.patternWrite (s : State) (k : LaneId) (was : Word) : State :=
  let same : Bool := [Fld.LN_LTEST_GEN_EN, Fld.LN_LTEST_PATTERN, Fld.LN_LTEST_INV, Fld.LN_LTEST_FIXED].all fun f => f.get was == s.f (testReg k) f
  if same then s
  else
    match k with
    | .lane b l => s.patternFollow b.val l.val
    | .port p => s.portPattern p.val

/-- A write to LN_LTEST or FB_PTEST (R274, R275): the generator follows; CHK_EN from 0 to 1 clears both counts, and from 1 to 0 stops the checker. -/
def State.testWrite (s : State) (k : LaneId) (v : Word) : State :=
  let old := s.reg (testReg k)
  let was := s.flag (testReg k) Fld.LN_LTEST_CHK_EN
  let s := (s.storeReg (testReg k) v).patternWrite k old
  let on := s.flag (testReg k) Fld.LN_LTEST_CHK_EN
  if on && !was then ((s.setReg (perrReg k) 0).setReg (pbitsReg k) 0).setChk k none
  else if was && !on then s.chkStop k
  else s

/-- The lane stands in a state in which an injection of `kind` acts (R276, R306). -/
def State.injects (s : State) (k : LaneId) (kind : Nat) : Bool :=
  match k with
  | .lane b l =>
    let st := s.laneState b.val l.val
    (kind == 0 && st == 8) || ((kind == 1 || kind == 2) && decide (3 ≤ st) && decide (st ≤ 5))
  | .port p =>
    let st := s.portState p.val
    (kind == 0 && st == 5) || ((kind == 1 || kind == 2) && decide (3 ≤ st) && decide (st ≤ 4))

/-- ERROR_INJECT (R276): COUNT of 0 acts as 1 and above 64 as 64. Inverted pattern bits reach the lane's own locked checker through the internal loopback (R275). -/
def State.injectLane (s : State) (k : LaneId) (v : Word) : State :=
  let kind := Fld.LN_LINJ_KIND.get v
  let count := max 1 (min 64 (Fld.LN_LINJ_COUNT.get v))
  if s.injects k kind then
    let s := s.emit (.inject k kind count)
    let s := s.modTx k fun x => if kind = 0 then x.flip s.clock.now count else { x with injKind := kind, injLeft := count }
    if kind = 0 ∧ s.flag (testReg k) Fld.LN_LTEST_GEN_EN ∧ s.f (testReg k) Fld.LN_LTEST_CHK_SRC = 0 ∧ s.flag (perrReg k) Fld.LN_LPERR_LOCKED then
      s.chkErrors k count
    else s
  else s

/-! ## The commands -/

/-- BUNDLE_ENABLE (R273). -/
def execBundleEnable (t : Nat) (src : Src) (bundle : Fin 8) (s : State) : Result := .next ((s.advance t).managed src fun s => s.bunEnable bundle.val)

/-- BUNDLE_DISABLE (R273). -/
def execBundleDisable (t : Nat) (src : Src) (bundle : Fin 8) (s : State) : Result :=
  .next ((s.advance t).managed src fun s => s.bunDisable bundle.val)

/-- DETECT_STEP (R260). -/
def execDetectStep (t : Nat) (lane : LaneId) (present : Bool) (s : State) : Result :=
  .next (match lane with
    | .lane b l => (s.advance t).laneStep b.val l.val present
    | .port p => (s.advance t).portStep p.val present)

/-- TRAINING_FRAME_RX (R264). -/
def execTrainingFrameRx (t : Nat) (bundle : Fin 8) (msg : TrainMsg) (s : State) : Result := .next ((s.advance t).trainRx bundle.val msg)

/-- COUNTDOWN_END (R265). -/
def execCountdownEnd (t : Nat) (group : GroupId) (s : State) : Result :=
  .next (match group with
    | .bundle b => (s.advance t).bunCountdown b.val
    | .port p => (s.advance t).portCountdown p.val)

/-- TRAIN_TIMEOUT (R259). -/
def execTrainTimeout (t : Nat) (bundle : Fin 8) (s : State) : Result := .next ((s.advance t).trainTimeout bundle.val)

/-- LOCK_TIMEOUT (R267). -/
def execLockTimeout (t : Nat) (bundle : Fin 8) (s : State) : Result := .next ((s.advance t).lockTimeout bundle.val)

/-- CAP_TIMEOUT (R267). -/
def execCapTimeout (t : Nat) (bundle : Fin 8) (s : State) : Result := .next ((s.advance t).capTimeout bundle.val)

/-- FRAME_LOCK_GAIN (R261). -/
def execFrameLockGain (t : Nat) (lane : LaneId) (s : State) : Result := .next ((s.advance t).frameLock lane true)

/-- FRAME_LOCK_LOSS (R261). -/
def execFrameLockLoss (t : Nat) (lane : LaneId) (s : State) : Result := .next ((s.advance t).frameLock lane false)

/-- BLOCK_LOCK_GAIN (R266). -/
def execBlockLockGain (t : Nat) (lane : LaneId) (s : State) : Result := .next ((s.advance t).blockLock lane)

/-- BLOCK_LOCK_LOSS (R266). -/
def execBlockLockLoss (t : Nat) (lane : LaneId) (s : State) : Result := .next ((s.advance t).blockLoss lane)

/-- RETRAIN_BURST (R269). -/
def execRetrainBurst (t : Nat) (bundle : Fin 8) (lane : Fin 7) (s : State) : Result := .next ((s.advance t).retrainBurst bundle.val lane.val)

/-- REJOIN_RETRY_TIMEOUT (R269). -/
def execRejoinRetryTimeout (t : Nat) (bundle : Fin 8) (lane : Fin 7) (s : State) : Result := .next ((s.advance t).rejoinRetry bundle.val lane.val)

/-- LANE_MOOR (R270). -/
def execLaneMoor (t : Nat) (bundle : Fin 8) (s : State) : Result := .next ((s.advance t).laneMoor bundle.val)

/-- MOOR_EXIT (R271). -/
def execMoorExit (t : Nat) (bundle : Fin 8) (s : State) : Result := .next ((s.advance t).moorExit bundle.val)

/-- BURST_END (R271). -/
def execBurstEnd (t : Nat) (bundle : Fin 8) (s : State) : Result := .next ((s.advance t).burstDone bundle.val)

/-- TXEQ_WRITE (R273). -/
def execTxeqWrite (t : Nat) (src : Src) (bundle : Fin 8) (lane : Fin 7) (val : Word) (s : State) : Result :=
  .next ((s.advance t).managed src fun s => s.txeqWrite bundle.val lane.val val)

/-- ERROR_INJECT (R276). -/
def execErrorInject (t : Nat) (src : Src) (lane : LaneId) (val : Word) (s : State) : Result :=
  .next ((s.advance t).managed src fun s => s.injectLane lane val)

/-- CHECKER_LOCK (R275). -/
def execCheckerLock (t : Nat) (lane : LaneId) (s : State) : Result := .next ((s.advance t).chkLock lane)

/-- CHECKER_LOCK_LOSS (R275). -/
def execCheckerLockLoss (t : Nat) (lane : LaneId) (errors : Nat) (s : State) : Result := .next ((s.advance t).chkLoss lane errors)

end Sys2Proof.Machine
end

