-- ==== Sys2Proof/Machine/Fabric.lean ====
section
/-! DEFINITION. The Kornik fabric's messages: neighbours (R286, R287), the link database (R288, R289), addresses (R290), fabric time (R293, R294), trigger broadcasts and shares that arrive (R298, R300, R301), seams (R302 to R304), and the management tunnel (R305). The commands HELLO_SEND, HELLO_RX, ADJACENCY_TIMEOUT, LSA_SEND, LSA_RX, LSA_EXPIRY, ASSIGN_SEND, ASSIGN_RX, TIME_SEND, TIME_RX, TRIG_RX, SHARE_SEND, SHARE_RX, SEAM_SEND, SEAM_RX, MGMT_RX. -/

namespace Sys2Proof.Machine

/-- A wrong CRC on port `p` (R284, R285). -/
def State.crcBad (s : State) (p : Nat) : State := s.satF (Reg.FB_PCNT p) Fld.FB_PCNT_CRC_ERR 1

/-- A message arrives on port `p`: only an UP port takes it, and a wrong CRC discards it (R282, R284, R285). -/
def State.onUp (s : State) (p : Nat) (crcOk : Bool) (f : State → State) : State :=
  if s.portState p ≠ 4 then s else if crcOk then f s else s.crcBad p

/-! ## Neighbours (R286, R287) -/

/-- Words 0 to 2 of a HELLO block (R286). -/
def State.helloWords (s : State) (p : Nat) : List Nat :=
  [0x3C + p * 2 ^ 8 + (if s.flag (Reg.FB_PSTAT p) Fld.FB_PSTAT_ADJ then 2 ^ 11 else 0) + s.fabAddr * 2 ^ 12 +
      (if s.flag Reg.FB_STATUS Fld.FB_STATUS_ADDR_VALID then 2 ^ 24 else 0) + (s.port p).hseq % 2 ^ 16 * 2 ^ 32,
    s.devid.toNat, s.kf.lsaSeq % 2 ^ 32]

/-- A HELLO is due (R286): in LOCK or UP, every 1 ms. -/
def State.helloSend (s : State) (p : Nat) : State :=
  if (s.portState p = 3 ∨ s.portState p = 4) ∧ (s.port p).helloAt ≤ s.clock.now then
    (s.emit (.fabric p 0x3C (s.helloWords p))).modPort p fun x => { x with hseq := (x.hseq + 1) % 2 ^ 16, helloAt := s.clock.now + 1000000 }
  else s

/-- Two HELLOs within 3 ms, newest last. -/
def pairedHellos : List Nat → Bool
  | [a, b] => decide (b ≤ a + 3000000)
  | _ => false

/-- The adjacency of an UP port follows its latest HELLO (R287). -/
def State.judgeAdj (s : State) (p : Nat) (adj : Bool) : State :=
  if s.portState p = 4 then
    if !adj then s.setAdj p false
    else if pairedHellos (s.port p).hellos then s.setAdj p true
    else s
  else s

/-- A HELLO arrives in LOCK or UP (R282, R287). -/
def State.helloRx (s : State) (p : Nat) (m : HelloMsg) : State :=
  if (s.portState p = 3 ∨ s.portState p = 4) ∧ (s.port p).locked then
    if !m.crcOk then s.crcBad p
    else
      let s := s.setF (Reg.FB_PSTAT p) Fld.FB_PSTAT_PEER_PORT m.port.val
      let s := s.modPort p fun x =>
        { x with hellos := (x.hellos ++ [s.clock.now]).drop (x.hellos.length - 1), peer := some m.devid, gotHello := true }
      (s.portUpCheck p).judgeAdj p m.adj
  else s

/-- 3 ms without a valid HELLO (R287). -/
def State.adjTimeout (s : State) (p : Nat) : State :=
  match (s.port p).hellos.getLast? with
  | some x => if x + 3000000 ≤ s.clock.now then s.setAdj p false else s
  | none => s.setAdj p false

/-! ## The link database (R288, R289) -/

/-- Length of an LSA's payload in bytes (R288). -/
def lsaLen (m : LsaMsg) : Nat := 32 + 16 * m.links.length

/-- Flood an LSA (R284, R288). -/
def State.floodLsa (s : State) (ports : List Nat) (m : LsaMsg) : State :=
  s.sendFabric ports (fhdr 1 m.src.val 0xFFF m.hops (lsaLen m) 0 0 ++ lsaPayload m)

/-- A new LSA is due (R288): when an adjacency has changed, and every 100 ms. -/
def State.lsaSend (s : State) : State :=
  if !s.boot.inReset ∧ (s.kf.lsaDue ∨ s.kf.lsaAt ≤ s.clock.now) then
    let s : State := { s with
      kf := { s.kf with lsaSeq := (s.kf.lsaSeq + 1) % 2 ^ 32, lsaDue := false, lsaAt := s.clock.now + 100000000, hint := s.reg Reg.FB_CFG } }
    (s.floodLsa s.upPorts s.ownLsa).topo
  else s

/-- An LSA is newer than the one held (R249, R288). -/
def State.lsaNewer (s : State) (m : LsaMsg) : Bool :=
  match s.kf.db.find? fun e => e.msg.devid == m.devid with
  | some e => decide (e.msg.seq % 2 ^ 32 ≠ m.seq % 2 ^ 32) && serialGe 32 (m.seq % 2 ^ 32) (e.msg.seq % 2 ^ 32)
  | none => m.devid != s.devid

/-- LSA_RX (R288, R291). -/
def State.lsaRx (s : State) (p : Nat) (m : LsaMsg) : State :=
  if s.lsaNewer m then
    let s : State := { s with kf := { s.kf with db := (s.kf.db.filter fun e => e.msg.devid != m.devid) ++ [⟨m, s.clock.now⟩] } }
    let s := if m.hops < 8 then s.floodLsa (s.upPorts.filter (· != p)) { m with hops := m.hops + 1 } else s
    s.topo
  else s

/-- LSA_EXPIRY (R288): 400 ms without renewal. -/
def State.lsaExpire (s : State) (d : Word) : State :=
  if s.kf.db.any fun e => e.msg.devid == d && decide (e.at' + 400000000 ≤ s.clock.now) then
    ({ s with kf := { s.kf with db := s.kf.db.filter fun e => e.msg.devid != d } } : State).topo
  else s

/-! ## Addresses (R290) -/

/-- Send an ASSIGN on some ports. -/
def State.sendAssign (s : State) (ports : List Nat) (src seq hops : Nat) (entries : List (Word × Nat)) : State :=
  s.sendFabric ports (fhdr 2 src 0xFFF hops (8 + 16 * entries.length) 0 0 ++
    (seq % 2 ^ 32 + entries.length * 2 ^ 32) :: entries.flatMap fun e => [e.1.toNat, e.2])

/-- Addresses come into force: this device's own, and those of the node table. -/
def State.takeAddrs (s : State) (entries : List (Word × Nat)) : State :=
  (({ s with kf := { s.kf with addrs := entries } } : State).showAddr).showNodes

/-- Devices that this device reaches within 8 hops, by their LSAs (R289). -/
def State.fabricDevices (s : State) : List LsaMsg :=
  let all := s.lsas
  let own := hopsFrom all s.devid
  all.filter fun m => match hopOf own m.devid with | some d => decide (d ≤ 8) | none => false

/-- ASSIGN_SEND (R290): the root, every 100 ms, and at once when the set has changed. -/
def State.assignSend (s : State) : State :=
  if !s.boot.inReset ∧ s.isRoot ∧ (s.kf.assignDue ∨ s.kf.assignAt ≤ s.clock.now) then
    let entries := assignments s.fabricDevices
    let seq := (s.kf.assignSeq + 1) % 2 ^ 32
    let s : State := { s with kf := { s.kf with assignSeq := seq, assignDue := false, assignAt := s.clock.now + 100000000 } }
    let s := s.takeAddrs entries
    s.sendAssign s.treePorts s.fabAddr seq 0 entries
  else s

/-- An ASSIGN comes from the root and is newer than the last one from it (R290). -/
def State.assignNewer (s : State) (m : AssignMsg) : Bool :=
  m.entries.any (fun e => e.1 == s.reg Reg.FB_ROOT && e.2 == m.src.val) && !s.isRoot &&
    (match s.kf.gotAssign with
     | some (r, q) => r != s.reg Reg.FB_ROOT || (decide (q ≠ m.seq % 2 ^ 32) && serialGe 32 (m.seq % 2 ^ 32) q)
     | none => true)

/-- ASSIGN_RX (R290, R291). -/
def State.assignRx (s : State) (p : Nat) (m : AssignMsg) : State :=
  if s.assignNewer m then
    let s : State := { s with kf := { s.kf with gotAssign := some (s.reg Reg.FB_ROOT, m.seq % 2 ^ 32) } }
    let s := s.takeAddrs m.entries
    if m.hops < 8 then s.sendAssign (s.treePorts.filter (· != p)) m.src.val m.seq (m.hops + 1) m.entries else s
  else s

/-! ## Fabric time (R293 to R295) -/

/-- Fabric time now in units of 2⁻¹⁶ ns. -/
def State.fineNow (s : State) : Nat := s.fabFine s.clock.tt

/-- Words 0 to 3 of a TIME block without its CRC (R293). -/
def timeWords (p tseq echo tx rx : Nat) : List Nat :=
  [0x66 + p * 2 ^ 8 + tseq % 2 ^ 16 * 2 ^ 11 + echo % 2 ^ 16 * 2 ^ 27, tx / 65536 % 2 ^ 64, rx / 65536 % 2 ^ 64, tx % 65536 + rx % 65536 * 2 ^ 16]

/-- TIME_SEND (R293): an UP port, every 100 µs. Before any TIME block has arrived the echo is a free value. -/
def State.timeSend (s : State) (p : Nat) : State :=
  let x := s.port p
  if s.portState p = 4 ∧ x.timeAt ≤ s.clock.now then
    let echo := match x.lastRx with | some e => e | none => (s.freshNat, s.used.freshNat)
    let s := if x.lastRx.isSome then s else s.used.used
    (s.emit (.fabric p 0x66 (timeWords p x.tseq echo.1 s.fineNow echo.2))).modPort p fun x =>
      { x with
        tseq := (x.tseq + 1) % 2 ^ 16, timeAt := s.clock.now + 100000
        sent := (x.sent ++ [(x.tseq, s.fineNow)]).drop (x.sent.length - 15) }
  else s

/-- Offset of an exchange in units of 2⁻¹⁶ ns, ASYM being in ps (R293); fabric times wrap (R8). -/
def timeOffset (t1 t2 t3 t4 : Nat) (asym : Int) : Int :=
  roundDiv ((centred 80 ((t2 : Int) - t1) - centred 80 ((t4 : Int) - t3)) * 1000 - asym * 65536) 2000

/-- Link delay of an exchange in ps (R293). -/
def timeDelay (t1 t2 t3 t4 : Nat) : Int :=
  roundDiv ((centred 80 ((t2 : Int) - t1) + centred 80 ((t4 : Int) - t3)) * 1000) 131072

/-- TIME_RX (R293 to R295). -/
def State.timeRx (s : State) (p : Nat) (m : TimeMsg) : State :=
  let x := s.port p
  let s := s.modPort p fun y => { y with lastRx := some (m.tseq.val, m.rxFine) }
  match x.sent.find? fun e => e.1 == m.echoSeq.val && decide (centred 80 ((m.rxFine : Int) - e.2) ≤ 65536000000) with
  | none => s
  | some e =>
    let o := timeOffset e.2 m.echoFine m.txFine m.rxFine (Fld.FB_PDELAY_ASYM.sget (s.reg (Reg.FB_PDELAY p)))
    let s := s.setF (Reg.FB_PDELAY p) Fld.FB_PDELAY_DELAY (clampInt 0 4294967295 (timeDelay e.2 m.echoFine m.txFine m.rxFine)).toNat
    if !s.isRoot && s.flag Reg.FB_TSTAT Fld.FB_TSTAT_PARENT_VALID && s.f Reg.FB_TSTAT Fld.FB_TSTAT_PARENT == p then
      (s.setF Reg.FB_TSTAT Fld.FB_TSTAT_OFFSET
        (Fld.FB_TSTAT_OFFSET.enc (clampInt (-2147483648) 2147483647 (roundDiv (o * 1000) 65536)))).correctTime o
    else s

/-! ## Trigger broadcasts that arrive (R298) -/

/-- TRIG_RX (R298, R301). -/
def State.trigRx (s : State) (p : Nat) (m : TrigMsg) : State :=
  let key := (m.origin.val, m.ch.val, m.tnum.val)
  let fresh := s.kf.seen.filter fun e => decide (s.clock.now ≤ e.2.2.2 + 1000000)
  if fresh.any fun e => decide ((e.1, e.2.1, e.2.2.1) = key) then s.addF Reg.FB_TRIG_CNT Fld.FB_TRIG_CNT_DUP 1
  else
    let share := if m.shareValid then some m.share.val else none
    let s : State := { s with
      kf := { s.kf with
        seen := fresh ++ [(m.origin.val, m.ch.val, m.tnum.val, s.clock.now)]
        arrivals := s.kf.arrivals ++ [⟨tickCeil s.clock.tt, m.ch.val, m.instant, share⟩] } }
    let s := s.addF Reg.FB_TRIG_CNT Fld.FB_TRIG_CNT_RECEIVED 1
    if m.hops.val < 8 then
      s.sendTrig (s.treePorts.filter (· != p)) m.origin.val m.ch.val (m.hops.val + 1) m.tnum.val m.instant share
    else s

/-! ## Shares (R300, R301) -/

/-- Send a SHARE on some ports. -/
def State.sendShare (s : State) (ports : List Nat) (src hops k : Nat) (c : Word) (words : List Word) : State :=
  s.sendFabric ports (fhdr 3 src 0xFFF hops 96 0 0 ++ [k, c.toNat] ++ words.map (·.toNat))

/-- The sharer paces by its own broadcasts (R301). -/
def State.sharesByTrig (s : State) : Bool :=
  s.u Reg.TT_MODE Fld.TT_MODE_PACE == 3 && s.flag Reg.FB_TRIG_CFG Fld.FB_TRIG_CFG_ORIGIN

/-- The sharer runs free on an anchored grid (R56, R301). -/
def State.sharesByGrid (s : State) : Bool :=
  s.u Reg.TT_MODE Fld.TT_MODE_PACE == 0 && s.u Reg.TT_MODE Fld.TT_MODE_ANCHOR_EN == 1

/-- `c` lies within 16 ns of a gangway close of the anchored grid (R68, R301). -/
def State.gridClose (s : State) (c : Nat) : Bool :=
  let period := 8 * s.u Reg.TT_PERIOD Fld.TT_PERIOD_PERIOD
  let r := (centred 64 ((c : Int) + 24000 - ((s.use.word Reg.TT_ANCHOR).toNat : Int)) % (period : Int)).toNat
  decide (0 < period) && (decide (r ≤ 16) || decide (period ≤ r + 16))

/-- The instant c moved 8 ns later while it lies near a close; five moves leave every close of a legal period. -/
def State.clearOfCloses (s : State) (c : Nat) : Nat := (List.range 5).foldl (fun c _ => if s.gridClose c then c + 8 else c) c

/-- Keep a share that has arrived or was sent here. -/
def State.keepShare (s : State) (x : Share) : State :=
  { s with kf := { s.kf with shares := (s.kf.shares.filter fun y => y.k != x.k) ++ [x] } }

/-- SHARE_SEND (R300, R301). -/
def State.shareSend (s : State) : State :=
  if s.flag Reg.FB_TTS_CFG Fld.FB_TTS_CFG_SEND then
    let k := (s.f Reg.FB_TTS_STAT Fld.FB_TTS_STAT_SENT_K + 1) % 2 ^ 16
    let c : Word := if s.sharesByGrid then BitVec.ofNat 64 (s.clearOfCloses (s.stamp.toNat + 24000)) else 0
    let words := shareRegs.map s.reg
    let s := s.setF Reg.FB_TTS_STAT Fld.FB_TTS_STAT_SENT_K k
    let s := s.sendShare s.treePorts s.fabAddr 0 k c words
    let s : State := if s.sharesByTrig then { s with kf := { s.kf with shareOut := some (k, s.tick) } } else s
    if s.flag Reg.FB_TTS_CFG Fld.FB_TTS_CFG_RECV then
      let x : Share := ⟨k, c, words, false⟩
      let s := s.keepShare x
      if c = 0 ∧ !s.sharesByTrig then s.installShare x s.tick else s
    else s
  else s

/-- SHARE_RX (R300, R301): it is forwarded along the tree; a device that takes shares keeps it, and one without an instant is committed on arrival outside fabric pacing. -/
def State.shareRx (s : State) (p : Nat) (m : ShareMsg) : State :=
  let s := if m.hops < 8 then s.sendShare (s.treePorts.filter (· != p)) m.src.val (m.hops + 1) m.k.val m.c m.words else s
  if s.flag Reg.FB_TTS_CFG Fld.FB_TTS_CFG_RECV then
    let x : Share := ⟨m.k.val, m.c, m.words, false⟩
    let s := s.keepShare x
    if m.c = 0 ∧ s.u Reg.TT_MODE Fld.TT_MODE_PACE ≠ 3 then s.installShare x s.tick else s
  else s

/-! ## Seams (R302 to R304) -/

/-- Mean of the correction-path values of the candidates that count (R168, R173). -/
def View.pathMean (v : View) (slot : Nat) (a b : Int × Int) : Option Int :=
  let val := fun (p : Int × Int) => v.plain slot p.1.toNat p.2.toNat
  match v.candidate a.1 a.2, v.candidate b.1 b.2 with
  | true, true => some (roundDiv (val a + val b) 2)
  | true, false => some (val a)
  | false, true => some (val b)
  | false, false => none

/-- The correction path after stage 4 (R168, R173). -/
def View.pathValue (v : View) (slot x y : Nat) : Int :=
  if v.defect x y then
    let d : Int := if v.colour then 2 else 1
    match v.pathMean slot ((x : Int) - d, y) ((x : Int) + d, y) with
    | some z => z
    | none => (v.pathMean slot (x, (y : Int) - d) (x, (y : Int) + d)).getD (v.plain slot x y)
  else v.plain slot x y

/-- A seam sample at depth `n` (R303). -/
def seamCode (n : Nat) (v : Int) : Nat := (clampInt 0 (2 ^ n - 1) (roundDiv v (2 ^ (16 - n)) + 2 ^ (n - 6))).toNat

/-- The value that a seam sample stands for (R303). -/
def seamValue (n code : Nat) : Int := ((code : Int) - 2 ^ (n - 6)) * 2 ^ (16 - n)

/-- The pixel row that the cluster at (cx, cy) converts in row slot `q`. -/
def View.seamRowAt (v : View) (cx cy q : Nat) : Option Nat := (rowAt (clusterMask v.st v.ctxs cx cy) q).map (64 * cy + ·)

/-- Records of a seam packet (R302, R303). -/
def View.seamRecords (v : View) (right : Bool) (slot q half : Nat) : List (Nat × List Nat) :=
  let cx := if right then 255 else 0
  (List.range 64).filterMap fun k =>
    (v.seamRowAt cx (64 * half + k) q).map fun y => (y, (List.range 64).map fun i => seamCode v.n (v.pathValue slot (64 * cx + i) y))

/-- 64-bit words of packed samples (R187). -/
def packedWords (n : Nat) (codes : List Nat) : List Nat :=
  let z := packNat n codes
  (List.range (ceilDiv (n * codes.length) 64)).map fun i => z / 2 ^ (64 * i) % 2 ^ 64

/-- FHDR and payload of a seam packet (R303). -/
def seamWords (src seq depth slot side half q n : Nat) (start : Word) (recs : List (Nat × List Nat)) : List Nat :=
  fhdr 4 src 0xFFF 0 (recs.length * (8 + 8 * n))
      (seq % 2 ^ 32 + depth * 2 ^ 32 + slot * 2 ^ 34 + side * 2 ^ 35 + half * 2 ^ 36 + q * 2 ^ 37 + recs.length * 2 ^ 43) start.toNat ++
    recs.flatMap fun r => r.1 :: packedWords n r.2

/-- The pass whose row slot `q` of a slot ended no more than 2,500 ns ago and whose packet has not been sent (R304). -/
def State.seamPass (s : State) (slot q key : Nat) : Option Pass :=
  s.tt.passes.find? fun p =>
    match p.began with
    | none => false
    | some b =>
      let len := slotNs p.depth p.dual
      let e := b + 2400 + q * len + (if p.dual ∧ slot = 0 then len / 2 else len)
      decide (q < p.rmax) && (p.dual || slot == 0) && !p.seams.contains key && decide (e ≤ s.clock.tt) && decide (s.clock.tt ≤ e + 2500)

/-- SEAM_SEND (R302 to R304). -/
def State.seamSend (s : State) (right : Bool) (slot q half : Nat) : State :=
  let port := if right then s.f Reg.FB_CFG Fld.FB_CFG_SEAM_PORT_R else s.f Reg.FB_CFG Fld.FB_CFG_SEAM_PORT_L
  let on := if right then s.flag Reg.FB_CFG Fld.FB_CFG_SEAM_TX_R else s.flag Reg.FB_CFG Fld.FB_CFG_SEAM_TX_L
  let key := (if right then 256 else 0) + 128 * slot + 2 * q + half
  if on && s.portState port == 4 then
    match s.seamPass slot q key with
    | none => s
    | some p =>
      let v := s.view p
      let w := seamWords s.fabAddr p.seq p.depth slot (if right then 1 else 0) half q v.n (s.fabAt p.shot.s) (v.seamRecords right slot q half)
      (s.setPass { p with seams := p.seams ++ [key] }).sendFabric [port] w
  else s

/-- SEAM_RX (R302, R303): the columns that it supplies, or its discard. -/
def State.seamRx (s : State) (m : SeamMsg) : State :=
  let right := m.side.val == 0
  let want := if right then s.f Reg.FB_CFG Fld.FB_CFG_SEAM_PORT_R else s.f Reg.FB_CFG Fld.FB_CFG_SEAM_PORT_L
  if m.port.val ≠ want then s.setB Reg.FB_STATUS Fld.FB_STATUS_SEAM_BAD true
  else
    let n := convBits m.depth.val
    let new := m.recs.map fun r => (⟨right, m.slot.val, m.start.toNat, r.1, r.2.map (seamValue n)⟩ : SeamRow)
    let old := s.pipe.seams.filter fun r => !(new.any fun x => x.right == r.right && x.slot == r.slot && x.row == r.row && x.start == r.start)
    { s with pipe := { s.pipe with seams := old ++ new } }

/-! ## The management tunnel (R305) -/

/-- First-hop port toward a fabric address, by the node table (R291, R306). -/
def State.routeTo (s : State) (dst : Nat) : Option Nat :=
  (List.range 64).findSome? fun k =>
    let w := s.reg (Reg.FB_NODE_INFO k)
    if Fld.FB_NODE_INFO_VALID.get w = 1 ∧ Fld.FB_NODE_INFO_SELF.get w = 0 ∧ Fld.FB_NODE_INFO_ADDR.get w = dst then
      some (Fld.FB_NODE_INFO_PORT.get w) else none

/-- A tunnelled message is dropped (R305). -/
def State.tunDrop (s : State) : State :=
  (s.satF Reg.FB_TUN_CNT Fld.FB_TUN_CNT_DROPPED 1).setB Reg.FB_STATUS Fld.FB_STATUS_TUN_DROP true

/-- Send a MGMT packet toward its destination, or drop it where there is no route (R291, R305). -/
def State.sendMgmt (s : State) (src dst hops handle : Nat) (req : Option WitrigMsg) (resp : Option WitrigResp) : State :=
  match if dst = 0xFFF then none else s.routeTo dst with
  | some p => (s.emit (.tunnel p src dst hops handle req resp)).addF Reg.FB_TUN_CNT Fld.FB_TUN_CNT_FORWARDED 1
  | none => s.tunDrop

/-- Queue a frame for transmission on Ethernet. -/
def State.ethSend (s : State) (x : EthTx) : State := { s with eth := { s.eth with txq := s.eth.txq ++ [x] } }

/-- Queue a Witrig response to a host (R354, R355); one with a STATUS other than 0 is counted. -/
def State.sendResp (s : State) (ip port : Nat) (r : WitrigResp) : State :=
  let s := if r.status = 0 then s else s.satF Reg.ETH_WT_CNT Fld.ETH_WT_CNT_ERRORS 1
  s.ethSend { cls := 3, kind := 8, ip := ip, words := [], resp := some (port, r) }

/-- A field of a Witrig body, most significant byte first (R355). -/
def witAt (m : WitrigMsg) (off n : Nat) : Nat := bytesNat ((m.body.drop off).take n).reverse

/-- Bytes of a body that the spec reserves are 0. -/
def witZero (m : WitrigMsg) (off n : Nat) : Bool := ((m.body.drop off).take n).all (· == 0)

/-- A request whose OPCODE, SUBOP, COUNT, length or reserved bytes are wrong (R356, R358, R385). -/
def witBad (m : WitrigMsg) : Bool :=
  let n := m.body.length
  match m.opcode.toNat with
  | 1 => !(n == 8 && decide (1 ≤ witAt m 4 2) && decide (witAt m 4 2 ≤ 128) && witZero m 6 2)
  | 2 =>
    let c := witAt m 0 2
    !(n == 4 + 16 * c && decide (1 ≤ c) && decide (c ≤ 64) && witZero m 2 2 && (List.range c).all fun k => witZero m (8 + 16 * k) 4)
  | 3 => n != 0
  | 4 =>
    let size := match witAt m 0 1 with | 1 => 4 | 2 => 204 | 3 => 4 | 4 => 36 | _ => 0
    !(n == size && witZero m 1 3 && (witAt m 0 1 != 2 || witZero m 5 3))
  | _ => true

/-- A response to a request (R355): its OPCODE is the request's plus 0x80, and REQ_ID and CTR are echoed. -/
def witResp (m : WitrigMsg) (status : Nat) (mac : Bool) (body : List Byte) : WitrigResp :=
  { opcode := (m.opcode.toNat + 128) % 256, status := status, mac := mac, reqId := m.reqId, ctr := m.ctr, body := body }

/-- The response to a request that fails before any access: DONE is 0 (R358). -/
def witFail (m : WitrigMsg) (status : Nat) (mac : Bool) : WitrigResp :=
  witResp m status mac (if m.opcode = 1 ∨ m.opcode = 2 then [0, 0, 0, 0] else [])

/-- Report the tunnelled requests in flight. -/
def State.showFlights (s : State) : State := s.setF Reg.FB_TUN_CNT Fld.FB_TUN_CNT_INFLIGHT s.kf.flights.length

/-- A response returns to its entry point, which sends it on its Ethernet port (R305). -/
def State.landResponse (s : State) (handle : Nat) (r : WitrigResp) : State :=
  match s.kf.flights.find? fun f => f.handle == handle with
  | none => s
  | some f => (({ s with kf := { s.kf with flights := s.kf.flights.erase f } } : State).showFlights).sendResp f.ip f.port r

/-- MGMT_RX (R291, R305). -/
def State.mgmtRx (s : State) (m : MgmtMsg) : State :=
  if s.flag Reg.FB_STATUS Fld.FB_STATUS_ADDR_VALID ∧ m.dst.val = s.fabAddr then
    match m.resp, m.req with
    | some r, _ => s.landResponse m.handle.toNat r
    | none, some q =>
      if witBad q then s.sendMgmt s.fabAddr m.src.val 0 m.handle.toNat none (some (witFail q 4 false))
      else { s with kf := { s.kf with tunReqs := s.kf.tunReqs ++ [⟨m.src.val, m.handle.toNat, q⟩] } }
    | none, none => s
  else if m.hops.val < 8 then s.sendMgmt m.src.val m.dst.val (m.hops.val + 1) m.handle.toNat m.req m.resp
  else s

/-! ## The commands -/

/-- HELLO_SEND (R286). -/
def execHelloSend (t : Nat) (port : Fin 8) (s : State) : Result := .next ((s.advance t).helloSend port.val)

/-- HELLO_RX (R287). -/
def execHelloRx (t : Nat) (port : Fin 8) (msg : HelloMsg) (s : State) : Result := .next ((s.advance t).helloRx port.val msg)

/-- ADJACENCY_TIMEOUT (R287). -/
def execAdjacencyTimeout (t : Nat) (port : Fin 8) (s : State) : Result := .next ((s.advance t).adjTimeout port.val)

/-- LSA_SEND (R288). -/
def execLsaSend (t : Nat) (s : State) : Result := .next (s.advance t).lsaSend

/-- LSA_RX (R288). -/
def execLsaRx (t : Nat) (port : Fin 8) (msg : LsaMsg) (s : State) : Result :=
  .next ((s.advance t).onUp port.val msg.crcOk fun s => s.lsaRx port.val msg)

/-- LSA_EXPIRY (R288). -/
def execLsaExpiry (t : Nat) (devid : Word) (s : State) : Result := .next ((s.advance t).lsaExpire devid)

/-- ASSIGN_SEND (R290). -/
def execAssignSend (t : Nat) (s : State) : Result := .next (s.advance t).assignSend

/-- ASSIGN_RX (R290). -/
def execAssignRx (t : Nat) (port : Fin 8) (msg : AssignMsg) (s : State) : Result :=
  .next ((s.advance t).onUp port.val msg.crcOk fun s => s.assignRx port.val msg)

/-- TIME_SEND (R293). -/
def execTimeSend (t : Nat) (port : Fin 8) (s : State) : Result := .next ((s.advance t).timeSend port.val)

/-- TIME_RX (R293, R294). -/
def execTimeRx (t : Nat) (port : Fin 8) (msg : TimeMsg) (s : State) : Result :=
  .next ((s.advance t).onUp port.val msg.crcOk fun s => s.timeRx port.val msg)

/-- TRIG_RX (R298). -/
def execTrigRx (t : Nat) (port : Fin 8) (msg : TrigMsg) (s : State) : Result :=
  .next ((s.advance t).onUp port.val msg.crcOk fun s => s.trigRx port.val msg)

/-- SHARE_SEND (R300). -/
def execShareSend (t : Nat) (src : Src) (s : State) : Result := .next ((s.advance t).managed src fun s => s.shareSend)

/-- SHARE_RX (R300, R301). -/
def execShareRx (t : Nat) (port : Fin 8) (msg : ShareMsg) (s : State) : Result :=
  .next ((s.advance t).onUp port.val msg.crcOk fun s => s.shareRx port.val msg)

/-- SEAM_SEND (R302 to R304). -/
def execSeamSend (t : Nat) (right : Bool) (slot : Fin 2) (rslot : Fin 64) (half : Fin 2) (s : State) : Result :=
  .next ((s.advance t).seamSend right slot.val rslot.val half.val)

/-- SEAM_RX (R302, R303). -/
def execSeamRx (t : Nat) (msg : SeamMsg) (s : State) : Result :=
  .next ((s.advance t).onUp msg.port.val msg.crcOk fun s => s.seamRx msg)

/-- MGMT_RX (R305). -/
def execMgmtRx (t : Nat) (port : Fin 8) (msg : MgmtMsg) (s : State) : Result :=
  .next ((s.advance t).onUp port.val msg.crcOk fun s => s.mgmtRx msg)

end Sys2Proof.Machine
end

