-- ==== Sys2Proof/Machine/Clocks.lean ====
section
/-! DEFINITION. Clock synthesis (R307 to R323): references, acquisition, lock detection, the purser's recovery policy, the clock outputs and syncs. The commands REFERENCE_LOSS, REFERENCE_RETURN, PLL_CONFIG_WRITE, BAND_TRY_TIMEOUT, ACQUISITION_CHECK_PASS, LOCK_WINDOW_END, LOCKDET_CROSSING, PLL_FLAG_AUTO_CLEAR, REF_FLAG_AUTO_CLEAR, PLL_AUTO_RESTART, CLOCK_OUTPUT_WRITE, SYNCIN_EDGE, CK_SYNC, CK_ARM, ARMED_SYNC_FIRE. -/

namespace Sys2Proof.Machine

/-! ## Loops -/

/-- Loop `k` beyond its registers. -/
def State.loop (s : State) (k : Nat) : Loop := s.ck.loops.getD k {}

/-- Change loop `k`. -/
def State.modLoop (s : State) (k : Nat) (f : Loop → Loop) : State := { s with ck := { s.ck with loops := modifyAt f k s.ck.loops } }

/-- Loop `k` runs from LREFCLK (R309). -/
def onLane (k : Nat) : Bool := decide (2 ≤ k) && decide (k ≤ 10)

/-- Loops on REFCLK, or on LREFCLK (`true`). -/
def refLoops (lane : Bool) : List Nat := (List.range 12).filter fun k => onLane k == lane

/-- A reference is lost (R308). -/
def State.refLost (s : State) (lane : Bool) : Bool := if lane then s.ck.lrefGone else s.ck.refGone

/-- Since when a reference has been present. -/
def State.refFrom (s : State) (lane : Bool) : Nat := if lane then s.ck.lrefSince else s.ck.refSince

/-- Twice the VCO frequency of loop `k` in MHz (R309). -/
def vcoTwice (k : Nat) : Nat := if k = 0 then 8000 else if k = 1 then 16000 else if k < 11 then 56000 else 20625

/-- Entry `e` of the band table serves loop `k` (R312). -/
def State.bandFits (s : State) (k e : Nat) : Bool :=
  let w := s.reg (Reg.CK_BAND e)
  Fld.CK_BAND_LOOP.get w == k && decide (2 * Fld.CK_BAND_FMIN.get w ≤ vcoTwice k) && decide (vcoTwice k ≤ 2 * Fld.CK_BAND_FMAX.get w)

/-- The entry that loop `k` tries first, and the one it tries after entry `e` (R312). -/
def State.bandFirst (s : State) (k : Nat) : Option Nat := (List.range 64).find? (s.bandFits k)

/-- The next matching entry after `e`, or the first again (R312). -/
def State.bandAfter (s : State) (k e : Nat) : Option Nat :=
  match (List.range 64).find? fun i => decide (e < i) && s.bandFits k i with
  | some i => some i
  | none => s.bandFirst k

/-- Period of the phase detector in units of 1/7 ns (R307, R310). -/
def State.pfdPeriod (s : State) (k : Nat) : Nat :=
  let base := if onLane k then 40 else 280
  match s.f (Reg.CK_PLL k) Fld.CK_PLL_REF_MODE with
  | 1 => base / 2
  | 2 => 2 * base
  | _ => base

/-- Loop `k` is acquiring, with its outputs stopped (R313). -/
def State.acquiring (s : State) (k : Nat) : Bool := s.flag (Reg.CK_PSTAT k) Fld.CK_PSTAT_ACQ

/-- Loop `k` is locked. -/
def State.locked (s : State) (k : Nat) : Bool := s.flag (Reg.CK_PSTAT k) Fld.CK_PSTAT_LOCKED

/-- Write LOCKED of loop `k` in both places (R323). -/
def State.putLocked (s : State) (k : Nat) (v : Bool) : State :=
  let s := (s.setB (Reg.CK_PSTAT k) Fld.CK_PSTAT_LOCKED v).putBit Reg.CK_STATUS Fld.CK_STATUS_LOCKED k v
  s.modLoop k fun x => { x with since := s.clock.now, good := 0 }

/-- LOCKED of loop `k` falls (R316). -/
def State.lockFall (s : State) (k : Nat) : State :=
  if s.locked k then
    let s := (s.putLocked k false).satF (Reg.CK_PSTAT k) Fld.CK_PSTAT_LOSSES 1
    (s.setBit Reg.CK_STATUS Fld.CK_STATUS_LOL k).modLoop k fun x => { x with tries := 0, tryNext := 0 }
  else s

/-- LOCKED of loop `k` is set. -/
def State.lockRise (s : State) (k : Nat) : State :=
  if s.locked k then s else (s.putLocked k true).modLoop k fun x => { x with tries := 0, tryNext := 0 }

/-- The outputs of loop `k` stop (R313): the timetable, PIO engines and converter bands of loop 0; the lanes of a bundle; every fabric port. -/
def State.loopStop (s : State) (k : Nat) : State :=
  if k = 0 then { s with clock := { s.clock with running := false } }
  else if 2 ≤ k ∧ k ≤ 9 then
    let b := k - 2
    let s := ((s.setLanes b 0 sevenLanes).patternsFollow b).modBun b fun x => { x.unlinked s.clock.now with frameLock := x.frameLock }
    (s.dropLocks b).setLink b 0 0
  else if k = 10 then (List.range 8).foldl (fun s p => s.portInto p 0) s
  else s

/-- The outputs of loop `k` start (R313). The stripes have served nothing while loop 1 stood still (R19, R157). -/
def State.loopGo (s : State) (k : Nat) : State :=
  if k = 0 then { s with clock := { s.clock with running := s.boot.ttOn } }
  else if 2 ≤ k ∧ k ≤ 9 then s.laneFollow (k - 2)
  else if k = 10 then (List.range 8).foldl (fun s p => s.portFollow p) s
  else if k = 1 then { s with pipe := { s.pipe with backAt := max s.pipe.backAt s.clock.tt } }
  else s

/-- Acquisition of loop `k` begins (R312, R313). -/
def State.loopAcquire (s : State) (k : Nat) : State :=
  let s := if k = 1 then s.settleBack else s
  let s := (s.setB (Reg.CK_PSTAT k) Fld.CK_PSTAT_ACQ true).satF (Reg.CK_PSTAT k) Fld.CK_PSTAT_RESTARTS 1
  let s := s.modLoop k fun x => { x with started := true, entry := s.bandFirst k, tryAt := s.clock.now, good := 0 }
  s.loopStop k

/-- A write to CK_PLL restarts loop `k` (R313); a loop that has not been started yet keeps the value only. -/
def State.loopRestart (s : State) (k : Nat) : State :=
  if (s.loop k).started then
    let x := s.loop k
    let s := (s.lockFall k).setBit Reg.CK_STATUS Fld.CK_STATUS_LOL k
    (s.modLoop k fun y => { y with tries := x.tries, tryNext := x.tryNext }).loopAcquire k
  else s

/-- PLL_CONFIG_WRITE (R310, R313). -/
def State.pllWrite (s : State) (k : Nat) (v : Word) : State :=
  match regAt (Reg.CK_PLL k) with
  | none => s
  | some d => (s.setReg (Reg.CK_PLL k) (writtenWord d (s.reg (Reg.CK_PLL k)) v)).loopRestart k

/-- A loop without a matching entry looks again once the band table has changed (R312). -/
def State.bandsChanged (s : State) : State :=
  (List.range 12).foldl (fun s k =>
    if (s.loop k).started && s.acquiring k && (s.loop k).entry.isNone then
      s.modLoop k fun x => { x with entry := s.bandFirst k, tryAt := s.clock.now }
    else s) s

/-- BAND_TRY_TIMEOUT (R312): after 200 µs the next entry is tried. -/
def State.bandTimeout (s : State) (k : Nat) : State :=
  match (s.loop k).entry with
  | none => s
  | some e =>
    if s.acquiring k ∧ (s.loop k).tryAt + 200000 ≤ s.clock.now then
      s.modLoop k fun x => { x with entry := s.bandAfter k e, tryAt := s.clock.now, good := 0 }
    else s

/-- The method of LD_MODE (R314): the land in loop 0 only. -/
def State.analogLock (s : State) (k : Nat) : Bool := k == 0 && s.flag (Reg.CK_PLL k) Fld.CK_PLL_LD_MODE

/-- A 16-bit count difference as an integer. -/
def diffOf (d : Nat) : Int := if d < 32768 then (d : Int) else (d : Int) - 65536

/-- ACQUISITION_CHECK_PASS (R314): two windows of 1,024 cycles within 1 count end the acquisition. -/
def State.acqPass (s : State) (k d : Nat) : State :=
  match (s.loop k).entry with
  | none => s
  | some e =>
    let x := s.loop k
    if s.acquiring k ∧ x.started ∧ !s.refLost (onLane k) ∧ (diffOf d).natAbs ≤ 1 ∧ 2048 * s.pfdPeriod k ≤ 7 * (s.clock.now - x.tryAt) ∧
        s.clock.now ≤ x.tryAt + 200000 then
      let s := ((s.setB (Reg.CK_PSTAT k) Fld.CK_PSTAT_ACQ false).setF (Reg.CK_PSTAT k) Fld.CK_PSTAT_BAND e).setF (Reg.CK_PSTAT k) Fld.CK_PSTAT_DIFF d
      let s := s.modLoop k fun x => { x with winAt := s.clock.now, good := 0 }
      let s := if s.analogLock k && s.ck.landHigh then s else s.lockRise k
      s.loopGo k
    else s

/-- LOCK_WINDOW_END (R314): a window of the counter method ends with a difference. -/
def State.windowEnd (s : State) (k d : Nat) : State :=
  let x := s.loop k
  let len := 1024 * 2 ^ s.f (Reg.CK_PLL k) Fld.CK_PLL_LD_WIN * s.pfdPeriod k
  if !s.acquiring k ∧ !s.analogLock k ∧ !s.refLost (onLane k) ∧ len ≤ 7 * (s.clock.now - x.winAt) then
    let s := (s.setF (Reg.CK_PSTAT k) Fld.CK_PSTAT_DIFF d).modLoop k fun x => { x with winAt := s.clock.now }
    if (diffOf d).natAbs ≤ max 1 (s.f (Reg.CK_PLL k) Fld.CK_PLL_LD_TOL) then
      let s := s.modLoop k fun x => { x with good := x.good + 1 }
      if 2 ≤ (s.loop k).good then s.lockRise k else s
    else (s.lockFall k).modLoop k fun x => { x with good := 0 }
  else s

/-- LOCKDET_CROSSING (R314, R315): the land rises above 0.60 V (`high`) or falls below 0.30 V. -/
def State.landCross (s : State) (high : Bool) : State :=
  let s : State := { s with ck := { s.ck with landHigh := high } }
  if s.analogLock 0 ∧ !s.acquiring 0 then
    if high then s.lockFall 0 else if s.refLost false then s else s.lockRise 0
  else s

/-! ## References (R308, R316, R317) -/

/-- REFERENCE_LOSS. -/
def State.loseRef (s : State) (lane : Bool) : State :=
  if s.refLost lane then s
  else
    let s := if lane then (s.setB Reg.CK_STATUS Fld.CK_STATUS_LREF_LOS true).setB Reg.CK_STATUS Fld.CK_STATUS_LREF_OK false
      else (s.setB Reg.CK_STATUS Fld.CK_STATUS_REF_LOS true).setB Reg.CK_STATUS Fld.CK_STATUS_REF_OK false
    let s : State := if lane then { s with ck := { s.ck with lrefGone := true } } else { s with ck := { s.ck with refGone := true } }
    (refLoops lane).foldl (fun s k => s.lockFall k) s

/-- REFERENCE_RETURN: 1,024 edges without a gap. The loops go on with their windows from here; none restarts its outputs. -/
def State.findRef (s : State) (lane : Bool) : State :=
  let s := s.setB Reg.CK_STATUS (if lane then Fld.CK_STATUS_LREF_OK else Fld.CK_STATUS_REF_OK) true
  let s : State := if lane then { s with ck := { s.ck with lrefGone := false, lrefSince := s.clock.now } }
    else { s with ck := { s.ck with refGone := false, refSince := s.clock.now } }
  (refLoops lane).foldl (fun s k => s.modLoop k fun x => { x with winAt := s.clock.now, good := 0 }) s

/-! ## Recovery policy (R318) -/

/-- PLL_FLAG_AUTO_CLEAR. -/
def State.autoClear (s : State) (k : Nat) : State :=
  if s.flag Reg.CK_POLICY Fld.CK_POLICY_AUTO_CLEAR ∧ s.locked k ∧ (s.loop k).since + 10000000 ≤ s.clock.now then
    s.clrBit Reg.CK_STATUS Fld.CK_STATUS_LOL k
  else s

/-- REF_FLAG_AUTO_CLEAR. -/
def State.refClear (s : State) (lane : Bool) : State :=
  let ok := s.flag Reg.CK_STATUS (if lane then Fld.CK_STATUS_LREF_OK else Fld.CK_STATUS_REF_OK)
  if s.flag Reg.CK_POLICY Fld.CK_POLICY_AUTO_CLEAR ∧ ok ∧ s.refFrom lane + 10000000 ≤ s.clock.now ∧ (refLoops lane).all s.locked then
    s.setB Reg.CK_STATUS (if lane then Fld.CK_STATUS_LREF_LOS else Fld.CK_STATUS_REF_LOS) false
  else s

/-- The purser may act on loop `k`: it is started, its reference is present, it has been unlocked for 10 ms, and it was not given up; loop 0 not while the timetable runs. -/
def State.restartDue (s : State) (k : Nat) : Bool :=
  let x := s.loop k
  s.flag Reg.CK_POLICY Fld.CK_POLICY_AUTO_RESTART && x.started && !s.locked k && !s.refLost (onLane k) &&
    decide (max x.since (s.refFrom (onLane k)) + 10000000 ≤ s.clock.now) && decide (x.tryNext ≤ s.clock.now) &&
    !hasBit (s.f Reg.CK_POLICY Fld.CK_POLICY_GAVE_UP) k && !(k == 0 && s.flag Reg.TT_STATUS Fld.TT_STATUS_RUNNING)

/-- PLL_AUTO_RESTART: three restarts 10 ms apart, and then the purser gives the loop up. -/
def State.autoRestart (s : State) (k : Nat) : State :=
  if s.restartDue k then
    if (s.loop k).tries < 3 then
      (s.modLoop k fun x => { x with tries := x.tries + 1, tryNext := s.clock.now + 10000000 }).loopRestart k
    else s.setBit Reg.CK_POLICY Fld.CK_POLICY_GAVE_UP k
  else s

/-! ## Clock outputs (R319 to R322); instants in units of 1/7 ns -/

/-- Period of a source (R319). -/
def srcPeriod (src : Nat) : Nat := match src with | 0 => 280 | 1 => 14 | 2 => 40 | _ => 28

/-- Where a source has its rising edges, modulo its period. The references' phases are free. -/
def State.srcPhase (s : State) (src : Nat) : Nat :=
  match src with
  | 0 => Config.refPhase false % 280
  | 2 => Config.refPhase true % 40
  | _ => 7 * (s.clock.now + 4 - s.clock.tt % 4) % srcPeriod src

/-- The first instant of the form `from + k × period` at or after `x`. -/
def nextEdge (start period x : Nat) : Nat := start + ceilDiv (x - start) (max 1 period) * period

/-- Period of an output. -/
def outPeriod (w : Word) : Nat := srcPeriod (Fld.CK_OUT_SRC.get w) * (Fld.CK_OUT_DIV.get w + 1)

/-- High phase of an output (R319). -/
def outHigh (w : Word) : Nat :=
  let d := Fld.CK_OUT_DIV.get w + 1
  if d = 1 then srcPeriod (Fld.CK_OUT_SRC.get w) / 2 else srcPeriod (Fld.CK_OUT_SRC.get w) * ((d + 1) / 2)

/-- Output `j`. -/
def State.ckOut (s : State) (j : Nat) : CkOut := s.ck.outs.getD j {}

/-- The output frequency is above 125 MHz (R319). -/
def outFast (w : Word) : Bool :=
  let d := Fld.CK_OUT_DIV.get w + 1
  match Fld.CK_OUT_SRC.get w with
  | 0 => false
  | 1 => decide (125 * d < 500)
  | 2 => decide (125 * d < 175)
  | _ => decide (125 * d < 250)

/-- What takes effect when at output `j` after a write of `w` now (R321): the field (0 EN, 1 SRC, 2 DIV, 3 DELAY), its instant and its new value. -/
def State.outEffects (s : State) (j : Nat) (w : Word) : List Wire :=
  let o := s.ckOut j
  let now := 7 * s.clock.now
  let p := outPeriod o.word
  let rise := nextEdge o.anchor p now
  let fall := nextEdge (o.anchor + outHigh o.word) p now
  let src := Fld.CK_OUT_SRC.get w
  let at' := fun (i : Nat) =>
    match i with
    | 0 => if Fld.CK_OUT_EN.get w = 1 then rise else if (now - o.anchor) % max 1 p < outHigh o.word then fall else now
    | 1 => nextEdge (s.srcPhase src) (srcPeriod src) rise
    | 2 => rise
    | _ => fall
  ([Fld.CK_OUT_EN, Fld.CK_OUT_SRC, Fld.CK_OUT_DIV, Fld.CK_OUT_DELAY].zipIdx).filterMap fun (f : Field × Nat) =>
    if f.1.get w = f.1.get o.word then none else some (.ckout j f.2 (at' f.2) (f.1.get w))

/-- The instant from which the divider's phase runs after a write (R321). -/
def State.outAnchor (s : State) (j : Nat) (w : Word) : Nat :=
  let o := s.ckOut j
  let src := Fld.CK_OUT_SRC.get w
  let rise := nextEdge o.anchor (outPeriod o.word) (7 * s.clock.now)
  if src ≠ Fld.CK_OUT_SRC.get o.word then nextEdge (s.srcPhase src) (srcPeriod src) rise
  else if Fld.CK_OUT_DIV.get w ≠ Fld.CK_OUT_DIV.get o.word then rise
  else o.anchor

/-- CLOCK_OUTPUT_WRITE (R319, R321). -/
def State.outWrite (s : State) (j : Nat) (v : Word) : State :=
  match regAt (Reg.CK_OUT j) with
  | none => s
  | some d =>
    let w := writtenWord d (s.reg (Reg.CK_OUT j)) v
    let fx := s.outEffects j w
    let a := s.outAnchor j w
    let s := (s.setReg (Reg.CK_OUT j) w).emits fx
    let s : State := { s with ck := { s.ck with outs := modifyAt (fun _ => ⟨a, w⟩) j s.ck.outs } }
    if outFast w then s.setB Reg.CK_STATUS Fld.CK_STATUS_CKOUT_FAST true else s

/-- The divider of output `j` restarts at a sync (R322): field 4 of the log. -/
def State.outSync (s : State) (x j : Nat) : State :=
  let o := s.ckOut j
  if Fld.CK_OUT_SYNC_EN.get o.word = 1 then
    let src := Fld.CK_OUT_SRC.get o.word
    let a := nextEdge (s.srcPhase src) (srcPeriod src) x
    let a := if src = 1 ∨ src = 3 then x else a
    ({ s with ck := { s.ck with outs := modifyAt (fun o => { o with anchor := a }) j s.ck.outs } } : State).emit (.ckout j 4 a 0)
  else s

/-- A sync at tick `a` (R322, R334): the dividers restart at a + 2 ns, CK_SYNC_TIME records `a`, and the engines see the event. -/
def State.syncAt (s : State) (a : Nat) : State :=
  let x := 7 * (s.clock.now + a + 2 - s.clock.tt)
  let s := (List.range 6).foldl (fun s j => s.outSync x j) s
  ((s.setF Reg.CK_SYNC_TIME Fld.CK_SYNC_TIME_TIME (s.fabAt a).toNat).setB Reg.CK_SYNC_TIME Fld.CK_SYNC_TIME_VALID true).pioEvent 5 a

/-- CK_ARM (R322). -/
def State.armSync (s : State) : State :=
  let late := notAfter (s.reg Reg.CK_SYNC_AT) s.stamp
  let s := s.setB Reg.CK_SYNC_TIME Fld.CK_SYNC_TIME_ARMED true
  { s with ck := { s.ck with armFrom := if late then s.tick + 2 else s.tick } }

/-- ARMED_SYNC_FIRE (R322): the first tick at or after CK_SYNC_AT. -/
def State.fireSync (s : State) : State :=
  let x := max s.ck.armFrom (tickCeil (s.ttOf (s.reg Reg.CK_SYNC_AT)))
  if s.flag Reg.CK_SYNC_TIME Fld.CK_SYNC_TIME_ARMED ∧ x ≤ s.clock.tt then
    (s.setB Reg.CK_SYNC_TIME Fld.CK_SYNC_TIME_ARMED false).syncAt x
  else s

/-! ## The commands -/

/-- REFERENCE_LOSS (R308, R316): of REFCLK, or of LREFCLK. -/
def execReferenceLoss (t : Nat) (lane : Bool) (s : State) : Result := .next ((s.advance t).loseRef lane)

/-- REFERENCE_RETURN (R308, R317). -/
def execReferenceReturn (t : Nat) (lane : Bool) (s : State) : Result := .next ((s.advance t).findRef lane)

/-- PLL_CONFIG_WRITE (R313). -/
def execPllConfigWrite (t : Nat) (src : Src) (loop : Fin 12) (val : Word) (s : State) : Result :=
  .next ((s.advance t).managed src fun s => s.pllWrite loop.val val)

/-- BAND_TRY_TIMEOUT (R312). -/
def execBandTryTimeout (t : Nat) (loop : Fin 12) (s : State) : Result := .next ((s.advance t).bandTimeout loop.val)

/-- ACQUISITION_CHECK_PASS (R314): `diff` is the larger difference of the two windows. -/
def execAcquisitionCheckPass (t : Nat) (loop : Fin 12) (diff : Fin 65536) (s : State) : Result :=
  .next ((s.advance t).acqPass loop.val diff.val)

/-- LOCK_WINDOW_END (R314): `diff` is the count less the window's length. -/
def execLockWindowEnd (t : Nat) (loop : Fin 12) (diff : Fin 65536) (s : State) : Result := .next ((s.advance t).windowEnd loop.val diff.val)

/-- LOCKDET_CROSSING (R315). -/
def execLockdetCrossing (t : Nat) (high : Bool) (s : State) : Result := .next ((s.advance t).landCross high)

/-- PLL_FLAG_AUTO_CLEAR (R318). -/
def execPllFlagAutoClear (t : Nat) (loop : Fin 12) (s : State) : Result := .next ((s.advance t).autoClear loop.val)

/-- REF_FLAG_AUTO_CLEAR (R318). -/
def execRefFlagAutoClear (t : Nat) (lane : Bool) (s : State) : Result := .next ((s.advance t).refClear lane)

/-- PLL_AUTO_RESTART (R318). -/
def execPllAutoRestart (t : Nat) (loop : Fin 12) (s : State) : Result := .next ((s.advance t).autoRestart loop.val)

/-- CLOCK_OUTPUT_WRITE (R319, R321). -/
def execClockOutputWrite (t : Nat) (src : Src) (out : Fin 6) (val : Word) (s : State) : Result :=
  .next ((s.advance t).managed src fun s => s.outWrite out.val val)

/-- SYNCIN_EDGE (R322): the edge leaves the synchroniser now. -/
def execSyncinEdge (t : Nat) (s : State) : Result :=
  let s := s.advance t
  .next (s.syncAt s.tick)

/-- CK_SYNC (R322). -/
def execCkSync (t : Nat) (src : Src) (s : State) : Result := .next ((s.advance t).managed src fun s => s.syncAt s.tick)

/-- CK_ARM (R322). -/
def execCkArm (t : Nat) (src : Src) (s : State) : Result := .next ((s.advance t).managed src fun s => s.armSync)

/-- ARMED_SYNC_FIRE (R322). -/
def execArmedSyncFire (t : Nat) (s : State) : Result := .next (s.advance t).fireSync

end Sys2Proof.Machine
end

