-- ==== Sys2Proof/Machine/Net.lean ====
section
/-! DEFINITION. The Ethernet port below Witrig and IEEE 1588: link (R343, R344), address and DHCP (R346, R347), ARP (R348), ICMP (R349), the transmitter (R350) and the preview stream (R361 to R364). The commands LINK_UP, LINK_DOWN, DHCP_RX, DHCP_FALLBACK_TIMEOUT, DHCP_LEASE_EXPIRY, DHCP_CLIENT_TIMER, ARP_RX, ARP_RETRY_TIMEOUT, ARP_ANNOUNCE, ARP_ENTRY_AGEOUT, ICMP_ECHO_REQUEST, ETH_FRAME_TRANSMIT, PREVIEW_DATAGRAM_SEND. -/

namespace Sys2Proof.Machine

/-- The port serves: its link is up and boot lock is set (R344, R369). -/
def State.netOn (s : State) : Bool := s.flag Reg.ETH_STATUS Fld.ETH_STATUS_LINK_UP && s.bootLocked

/-- The receiver works: the Ethernet island has its clock (R19, R313). -/
def State.rxOn (s : State) : Bool := s.netOn && !s.acquiring 11

/-- An address is in use. -/
def State.ipValid (s : State) : Bool := s.flag Reg.ETH_STATUS Fld.ETH_STATUS_IP_VALID

/-- The address in use (R365). -/
def State.ownIp (s : State) : Nat := s.f Reg.ETH_IP_ACT Fld.ETH_IP_ACT_ADDR

/-- The device's MAC address. -/
def State.mac (s : State) : Nat := s.f Reg.ETH_MAC Fld.ETH_MAC_MAC

/-- IP_MODE; 3 acts as 2 (R347). -/
def State.ipMode (s : State) : Nat := min 2 (s.f Reg.ETH_CFG Fld.ETH_CFG_IP_MODE)

/-! ## Frame kinds in the log: 1 Delay_Req, 2 ARP request, 3 ARP reply, 4 announcement, 5 echo reply, 6 DHCP discover, 7 DHCP request, 8 Witrig response, 9 preview -/

/-- A frame of this kind carries the device's address, so it needs one. -/
def kindNeedsIp (k : Nat) : Bool := !(k == 6 || k == 7)

/-- A multicast or broadcast address, which needs no resolution (R351, R363). -/
def groupIp (ip : Nat) : Bool := decide (ip / 2 ^ 28 = 14) || decide (ip = 0xFFFFFFFF)

/-- Gateway in use: option 3 of the lease where the address is leased and names one, else ETH_GW (R346, R347). -/
def State.gateway (s : State) : Nat :=
  if s.flag Reg.ETH_STATUS Fld.ETH_STATUS_IP_DHCP && s.eth.dhcp.gw != 0 then s.eth.dhcp.gw else s.f Reg.ETH_GW Fld.ETH_GW_GATEWAY

/-- The address to resolve for a destination: 0 where none is needed; `none` where the datagram is discarded (R346). -/
def State.nextHop (s : State) (ip : Nat) : Option Nat :=
  let host := 2 ^ (32 - min 32 (s.f Reg.ETH_IP_ACT Fld.ETH_IP_ACT_PREFIX))
  if ip = 0 ∨ groupIp ip then some 0
  else if ip / host = s.ownIp / host then some ip
  else if s.gateway = 0 then none
  else some s.gateway

/-- The cache entry of an address. -/
def State.arpEntry (s : State) (ip : Nat) : Option ArpEntry := s.eth.arp.find? fun e => e.ip == ip

/-- A next hop is resolved (R348). -/
def State.resolved (s : State) (hop : Nat) : Bool :=
  hop == 0 || (match s.arpEntry hop with | some e => e.mac.isSome | none => false)

/-- Put an entry into the cache of 16, in place of the oldest where it is full (R348). -/
def State.putArp (s : State) (e : ArpEntry) : State :=
  let rest := s.eth.arp.filter fun x => x.ip != e.ip
  { s with eth := { s.eth with arp := (rest.drop (rest.length - 15)) ++ [e] } }

/-- An ARP request (R348). -/
def State.askArp (s : State) (ip : Nat) : State := s.ethSend { cls := 2, kind := 2, ip := 0, words := [s.mac, s.ownIp, ip] }

/-- Begin to resolve a next hop that is not in the cache (R348). -/
def State.resolve (s : State) (hop : Nat) : State :=
  if hop = 0 ∨ (s.arpEntry hop).isSome then s else (s.putArp ⟨hop, none, s.clock.now, 1⟩).askArp hop

/-- Begin to resolve a datagram's destination. -/
def State.resolveFor (s : State) (ip : Nat) : State := match s.nextHop ip with | some h => s.resolve h | none => s

/-! ## The address (R347, R348) -/

/-- Announce the address: two announcements, 2 s apart (R348). -/
def State.announce (s : State) : State := { s with eth := { s.eth with announces := if s.ipValid then 2 else 0, announceAt := s.clock.now } }

/-- Take an address; 0 is none. -/
def State.takeIp (s : State) (ip pre : Nat) (dhcp : Bool) : State :=
  let same := s.ipValid && s.ownIp == ip
  let s := (s.setF Reg.ETH_IP_ACT Fld.ETH_IP_ACT_ADDR ip).setF Reg.ETH_IP_ACT Fld.ETH_IP_ACT_PREFIX (if ip = 0 then 0 else pre)
  let s := (s.setB Reg.ETH_STATUS Fld.ETH_STATUS_IP_VALID (ip != 0)).setB Reg.ETH_STATUS Fld.ETH_STATUS_IP_DHCP (dhcp && ip != 0)
  if same then s else s.announce

/-- No address is in use. -/
def State.dropIp (s : State) : State := s.takeIp 0 0 false

/-- Take the static address (R347). -/
def State.takeStatic (s : State) : State := s.takeIp (s.f Reg.ETH_IP Fld.ETH_IP_ADDR) (s.f Reg.ETH_IP Fld.ETH_IP_PREFIX) false

/-! ## DHCPv4 (R347) -/

/-- Change the client. -/
def State.modDhcp (s : State) (f : Dhcp → Dhcp) : State := { s with eth := { s.eth with dhcp := f s.eth.dhcp } }

/-- Retransmission delay in ns (RFC 2131): 4 s doubled at each try up to 64 s, shifted by up to 1 s either way; the shift is a free value. -/
def State.dhcpDelay (s : State) (tries : Nat) : Nat := (4 * 2 ^ min 4 tries * 1000 + s.freshNat % 2001 - 1000) * 1000000

/-- Client messages: kind 6 discover, 7 request, to a server or to all. -/
def State.dhcpMsg (s : State) (kind ip : Nat) : State :=
  s.ethSend { cls := 2, kind := kind, ip := ip, words := [s.eth.dhcp.xid, s.eth.dhcp.ip, s.eth.dhcp.server, s.devid.toNat] }

/-- Discovery begins, under a fresh transaction number. -/
def State.dhcpStart (s : State) : State :=
  let s := s.modDhcp fun d => { d with state := 1, xid := s.freshNat % 2 ^ 32, ip := 0, server := 0, tries := 0 }
  let s := s.used.dhcpMsg 6 0xFFFFFFFF
  (s.modDhcp fun d => { d with timerAt := s.clock.now + s.dhcpDelay 0 }).used

/-- The address that a mode and the client's state give (R347). -/
def State.chooseIp (s : State) : State :=
  let d := s.eth.dhcp
  if s.ipMode = 0 then s.takeStatic
  else if 3 ≤ d.state then s.takeIp d.ip d.prefixLen true
  else if s.ipMode = 2 ∧ s.eth.fellBack then s.takeStatic
  else s.dropIp

/-- The address services start, or follow a change of their settings (R347, R369). -/
def State.netStart (s : State) : State :=
  if s.netOn then
    let s := if s.ipMode = 0 then s.modDhcp fun d => { d with state := 0 } else if s.eth.dhcp.state = 0 then s.dhcpStart else s
    s.chooseIp
  else s

/-- A lease is bound, with T1 and T2 after RFC 2131 where the options are absent. -/
def State.dhcpBind (s : State) (m : DhcpMsg) : State :=
  let s := s.modDhcp fun d =>
    { d with state := 3, ip := m.ip.toNat, prefixLen := m.prefixLen.val, gw := m.gw.toNat, boundAt := s.clock.now, lease := m.lease
             t1 := m.t1.getD (m.lease / 2), t2 := m.t2.getD (m.lease * 7 / 8), tries := 0 }
  let s := s.modDhcp fun d => { d with timerAt := d.boundAt + d.t1 * 1000000000 }
  s.chooseIp

/-- DHCP_RX (R347): an offer is requested, an acknowledgement binds, a refusal restarts discovery. -/
def State.dhcpRx (s : State) (m : DhcpMsg) : State :=
  let d := s.eth.dhcp
  if !s.rxOn ∨ m.xid.toNat ≠ d.xid then s
  else
    match m.kind.val with
    | 0 =>
      if d.state = 1 then
        let s := (s.modDhcp fun d => { d with state := 2, ip := m.ip.toNat, server := m.server.toNat, tries := 0 }).dhcpMsg 7 0xFFFFFFFF
        (s.modDhcp fun d => { d with timerAt := s.clock.now + s.dhcpDelay 0 }).used
      else s
    | 1 => if d.state = 2 ∨ d.state = 4 ∨ d.state = 5 then s.dhcpBind m else s
    | 2 => if d.state = 2 ∨ d.state = 4 ∨ d.state = 5 then s.dhcpStart.chooseIp else s
    | _ => s

/-- Ask again for the lease in renewal or rebinding, with half the time that is left to the next stage, at least 60 s (RFC 2131). -/
def State.dhcpAsk (s : State) (state ip until' : Nat) : State :=
  let s := (s.modDhcp fun d => { d with state := state }).dhcpMsg 7 ip
  s.modDhcp fun d => { d with timerAt := min until' (s.clock.now + max 60000000000 ((until' - s.clock.now) / 2)) }

/-- DHCP_CLIENT_TIMER (R347). -/
def State.dhcpTimer (s : State) : State :=
  let d := s.eth.dhcp
  let t2 := d.boundAt + d.t2 * 1000000000
  let ends := d.boundAt + d.lease * 1000000000
  if !s.netOn ∨ s.clock.now < d.timerAt then s
  else
    match d.state with
    | 0 => s
    | 1 =>
      let s := s.dhcpMsg 6 0xFFFFFFFF
      (s.modDhcp fun d => { d with tries := d.tries + 1, timerAt := s.clock.now + s.dhcpDelay (d.tries + 1) }).used
    | 2 =>
      if 4 ≤ d.tries then s.dhcpStart
      else
        let s := s.dhcpMsg 7 0xFFFFFFFF
        (s.modDhcp fun d => { d with tries := d.tries + 1, timerAt := s.clock.now + s.dhcpDelay (d.tries + 1) }).used
    | 3 => (s.modDhcp fun d => { d with xid := s.freshNat % 2 ^ 32 }).used.dhcpAsk 4 d.server t2
    | 4 => if s.clock.now < t2 then s.dhcpAsk 4 d.server t2 else s.dhcpAsk 5 0xFFFFFFFF ends
    | _ => s.dhcpAsk 5 0xFFFFFFFF ends

/-- DHCP_FALLBACK_TIMEOUT (R347): no lease was bound within 30 s of link up. -/
def State.dhcpFallback (s : State) : State :=
  let d := s.eth.dhcp
  if s.netOn ∧ s.ipMode ≠ 0 ∧ !s.eth.fellBack ∧ s.eth.upAt + 30000000000 ≤ s.clock.now ∧ d.state < 3 ∧ (d.lease = 0 ∨ d.boundAt < s.eth.upAt) then
    (({ s with eth := { s.eth with fellBack := true } } : State).setB Reg.ETH_STATUS Fld.ETH_STATUS_DHCP_FAIL true).chooseIp
  else s

/-- DHCP_LEASE_EXPIRY (R347). -/
def State.dhcpExpire (s : State) : State :=
  let d := s.eth.dhcp
  if 3 ≤ d.state ∧ d.boundAt + d.lease * 1000000000 ≤ s.clock.now then
    (s.setB Reg.ETH_STATUS Fld.ETH_STATUS_DHCP_FAIL true).dropIp.dhcpStart
  else s

/-! ## Link (R344) -/

/-- The module's live inputs. -/
def State.showModule (s : State) (modAbs rxLos txFault : Bool) : State :=
  ((s.setB Reg.ETH_STATUS Fld.ETH_STATUS_MOD_ABS modAbs).setB Reg.ETH_STATUS Fld.ETH_STATUS_RX_LOS rxLos).setB Reg.ETH_STATUS Fld.ETH_STATUS_TX_FAULT txFault

/-- LINK_UP: the PCS holds block lock; the link is up while RX_LOS is low. -/
def State.linkUp (s : State) (modAbs rxLos txFault : Bool) : State :=
  let s := s.showModule modAbs rxLos txFault
  if rxLos ∨ s.acquiring 11 ∨ s.flag Reg.ETH_STATUS Fld.ETH_STATUS_LINK_UP then s
  else
    let s := s.setB Reg.ETH_STATUS Fld.ETH_STATUS_LINK_UP true
    ({ s with eth := { s.eth with upAt := s.clock.now, fellBack := false } } : State).netStart

/-- Admitted preview frames that have not been sent whole. -/
def State.openPreviews (s : State) : List (Nat × Nat × Nat) :=
  (s.prev.frames.map (fun f => (f.ctx, f.seq, f.cont)) ++
    (s.prev.queue.filter fun i => i.origin == 0).map fun i => (i.ctx, i.seq, i.cont)).eraseDups

/-- LINK_DOWN: admitted preview frames are discarded whole; other datagrams wait. -/
def State.linkDown (s : State) (modAbs rxLos txFault : Bool) : State :=
  let s := s.showModule modAbs rxLos txFault
  if s.flag Reg.ETH_STATUS Fld.ETH_STATUS_LINK_UP then
    let s := (s.setB Reg.ETH_STATUS Fld.ETH_STATUS_LINK_UP false).setB Reg.ETH_STATUS Fld.ETH_STATUS_LINK_DOWN true
    let n := s.openPreviews.length
    let s : State := { s with prev := { s.prev with frames := [], queue := s.prev.queue.filter fun i => i.origin != 0 } }
    (s.satF Reg.ETH_PREV_CNT Fld.ETH_PREV_CNT_DROPPED n).showPreview
  else s

/-! ## ARP (R348) -/

/-- ARP_RX: a conflict is flagged, the sender is cached where it answers or asks for this device, and a request for the device is answered. -/
def State.arpRx (s : State) (m : ArpMsg) : State :=
  if !s.rxOn then s
  else
    let sender := m.senderIp.toNat
    let mine := s.ipValid && m.targetIp.toNat == s.ownIp
    let claims := s.ipValid && sender == s.ownIp && m.senderMac.toNat != s.mac && (m.reply || m.targetIp == m.senderIp)
    let s := if claims then s.setB Reg.ETH_STATUS Fld.ETH_STATUS_ARP_CONFLICT true else s
    let s := if sender ≠ 0 ∧ sender ≠ s.ownIp ∧ ((s.arpEntry sender).isSome ∨ mine) then s.putArp ⟨sender, some m.senderMac.toNat, s.clock.now, 0⟩ else s
    if mine ∧ !m.reply ∧ sender ≠ s.ownIp then s.ethSend { cls := 2, kind := 3, ip := 0, words := [s.mac, s.ownIp, sender, m.senderMac.toNat] } else s

/-- ARP_RETRY_TIMEOUT: up to 3 requests, 1 s apart; then the attempt ends. -/
def State.arpRetry (s : State) (ip : Nat) : State :=
  match s.arpEntry ip with
  | none => s
  | some e =>
    if e.mac.isNone ∧ e.at' + 1000000000 ≤ s.clock.now then
      if e.tries < 3 then (s.putArp { e with at' := s.clock.now, tries := e.tries + 1 }).askArp ip
      else { s with eth := { s.eth with arp := s.eth.arp.filter fun x => x.ip != ip } }
    else s

/-- ARP_ANNOUNCE: two announcements, 2 s apart (RFC 5227). -/
def State.arpAnnounce (s : State) : State :=
  if s.netOn ∧ s.ipValid ∧ 0 < s.eth.announces ∧ s.eth.announceAt ≤ s.clock.now then
    let s : State := { s with eth := { s.eth with announces := s.eth.announces - 1, announceAt := s.clock.now + 2000000000 } }
    s.ethSend { cls := 2, kind := 4, ip := 0, words := [s.mac, s.ownIp, s.ownIp] }
  else s

/-- ARP_ENTRY_AGEOUT: 300 s. -/
def State.arpAge (s : State) (ip : Nat) : State :=
  { s with eth := { s.eth with arp := s.eth.arp.filter fun e => !(e.ip == ip && e.mac.isSome && decide (e.at' + 300000000000 ≤ s.clock.now)) } }

/-! ## ICMP (R349) -/

/-- Largest echo payload (R349). -/
def State.echoMax (s : State) : Nat := if s.flag Reg.ETH_CFG Fld.ETH_CFG_JUMBO then 8972 else 1472

/-- ICMP_ECHO_REQUEST. -/
def State.icmpRx (s : State) (m : IcmpMsg) : State :=
  if s.rxOn ∧ s.ipValid ∧ m.echo ∧ s.flag Reg.ETH_CFG Fld.ETH_CFG_ICMP_EN ∧ m.payload.length ≤ s.echoMax then
    (s.ethSend { cls := 2, kind := 5, ip := m.ip.toNat, words := [m.ident.toNat], bytes := m.payload }).resolveFor m.ip.toNat
  else s

/-! ## The transmitter (R350) -/

/-- The transmitter works: link up, TX_DISABLE low (R344, R369), clock present. -/
def State.txOn (s : State) : Bool := s.netOn && s.flag Reg.ETH_CFG Fld.ETH_CFG_LINK_EN && !s.acquiring 11

/-- A frame is ready: it has its source address and its next hop is resolved. -/
def State.txReady (s : State) (x : EthTx) : Bool :=
  (!kindNeedsIp x.kind || s.ipValid) && (match s.nextHop x.ip with | some h => s.resolved h | none => false)

/-- The first ready frame of the highest class (R350). -/
def State.txNext (s : State) : Option EthTx :=
  [1, 2, 3].findSome? fun c => s.eth.txq.find? fun x => x.cls == c && s.txReady x

/-- A frame in the log. -/
def EthTx.wire (x : EthTx) : Wire :=
  match x.resp with
  | some r => .witrig x.ip r.1 r.2
  | none => .eth x.kind (x.ip :: x.words) x.bytes

/-- A Delay_Req is timestamped as it leaves (R352). -/
def State.stampReq (s : State) (x : EthTx) : State :=
  if x.kind = 1 then { s with eth := { s.eth with ptp := { s.eth.ptp with req := some (x.words.headD 0, s.fineNow) } } } else s

/-- Datagrams that have no route are discarded, and the destinations of the others resolved (R346, R348). -/
def State.routeQueue (s : State) : State :=
  let s : State := { s with eth := { s.eth with txq := s.eth.txq.filter fun x => (s.nextHop x.ip).isSome || !s.ipValid } }
  if s.ipValid then s.eth.txq.foldl (fun s x => s.resolveFor x.ip) s else s

/-! ## Preview (R361 to R364) -/

/-- The header of a preview datagram, most significant byte first (R363). -/
def PreviewItem.header (i : PreviewItem) : List Byte :=
  ([(2, 0x5056), (1, 1), (1, i.kind), (2, i.ctx), (2, i.cont), (4, i.seq), (4, i.line), (2, i.col), (2, i.pix), (1, i.origin), (1, i.tag), (2, i.dgram)] :
    List (Nat × Nat)).flatMap fun p => (natBytes p.1 p.2).reverse

/-- Time on the rate limit for a datagram of `n` payload bytes, in ns: 90 bytes of framing, RATE in units of 500 Mbit/s, 0 acting as 1 (R364, R365). -/
def State.previewTime (s : State) (n : Nat) : Nat :=
  ceilDiv ((n + 90) * 8 * 2) (max 1 (s.f Reg.ETH_PREV_CFG Fld.ETH_PREV_CFG_RATE))

/-- The oldest preview datagram goes, within the rate limit; one whose destination is unresolved is discarded and counted, and its descriptor, if it has one, reported so (R218, R348, R363, R364). -/
def State.previewSend (s : State) : State :=
  match s.prev.queue with
  | [] => s
  | i :: r =>
    if s.txOn ∧ s.ipValid ∧ s.prev.clearAt ≤ s.clock.now then
      let ip := Fld.ETH_PREV_DST_ADDR.get i.dst
      let s : State := { s with prev := { s.prev with queue := r } }
      let lost := s.noteLost i.desc.toList
      match s.nextHop ip with
      | none => lost.showPreview
      | some h =>
        if s.resolved h then
          let s := s.emit (.eth 9 [ip, Fld.ETH_PREV_DST_PORT.get i.dst] (i.header ++ i.bytes))
          let s : State := { s with prev := { s.prev with clearAt := s.clock.now + s.previewTime i.bytes.length } }
          (if i.origin = 0 ∧ i.kind = 3 then s.addF Reg.ETH_PREV_STAT Fld.ETH_PREV_STAT_FRAMES 1 else s).showPreview
        else ((lost.resolve h).satF Reg.ETH_PREV_CNT Fld.ETH_PREV_CNT_UNRESOLVED 1).showPreview
    else s

/-- ETH_FRAME_TRANSMIT (R350): the highest ready class, preview last. -/
def State.ethTransmit (s : State) : State :=
  if s.txOn then
    let s := s.routeQueue
    match s.txNext with
    | some x => (({ s with eth := { s.eth with txq := s.eth.txq.erase x } } : State).emit x.wire).stampReq x
    | none => s.previewSend
  else s

/-- PREVIEW_DATAGRAM_SEND (R350, R364): only while nothing of a higher class is ready. -/
def State.previewTurn (s : State) : State :=
  let s := s.routeQueue
  match s.txNext with
  | some _ => s
  | none => s.previewSend

/-! ## The commands -/

/-- LINK_UP (R344). -/
def execLinkUp (t : Nat) (modAbs rxLos txFault : Bool) (s : State) : Result := .next ((s.advance t).linkUp modAbs rxLos txFault)

/-- LINK_DOWN (R344). -/
def execLinkDown (t : Nat) (modAbs rxLos txFault : Bool) (s : State) : Result := .next ((s.advance t).linkDown modAbs rxLos txFault)

/-- DHCP_RX (R347). -/
def execDhcpRx (t : Nat) (msg : DhcpMsg) (s : State) : Result := .next ((s.advance t).dhcpRx msg)

/-- DHCP_FALLBACK_TIMEOUT (R347). -/
def execDhcpFallbackTimeout (t : Nat) (s : State) : Result := .next (s.advance t).dhcpFallback

/-- DHCP_LEASE_EXPIRY (R347). -/
def execDhcpLeaseExpiry (t : Nat) (s : State) : Result := .next (s.advance t).dhcpExpire

/-- DHCP_CLIENT_TIMER (R347). -/
def execDhcpClientTimer (t : Nat) (s : State) : Result := .next (s.advance t).dhcpTimer

/-- ARP_RX (R348). -/
def execArpRx (t : Nat) (msg : ArpMsg) (s : State) : Result := .next ((s.advance t).arpRx msg)

/-- ARP_RETRY_TIMEOUT (R348). -/
def execArpRetryTimeout (t ip : Nat) (s : State) : Result := .next ((s.advance t).arpRetry ip)

/-- ARP_ANNOUNCE (R348). -/
def execArpAnnounce (t : Nat) (s : State) : Result := .next (s.advance t).arpAnnounce

/-- ARP_ENTRY_AGEOUT (R348). -/
def execArpEntryAgeout (t ip : Nat) (s : State) : Result := .next ((s.advance t).arpAge ip)

/-- ICMP_ECHO_REQUEST (R349). -/
def execIcmpEchoRequest (t : Nat) (msg : IcmpMsg) (s : State) : Result := .next ((s.advance t).icmpRx msg)

/-- ETH_FRAME_TRANSMIT (R350). -/
def execEthFrameTransmit (t : Nat) (s : State) : Result := .next (s.advance t).ethTransmit

/-- PREVIEW_DATAGRAM_SEND (R364). -/
def execPreviewDatagramSend (t : Nat) (s : State) : Result := .next (s.advance t).previewTurn

end Sys2Proof.Machine
end

