-- ==== Sys2Proof/Machine/Ptp.lean ====
section
/-! DEFINITION. IEEE 1588 (R351 to R353): master selection, offset and path delay, and the root's correction. Times are in units of 2⁻¹⁶ ns. The commands PTP_ANNOUNCE_RX, PTP_SYNC_RX, PTP_FOLLOW_UP_RX, PTP_DELAY_REQ_SEND, PTP_DELAY_RESP_RX, PTP_ANNOUNCE_TIMEOUT. -/

namespace Sys2Proof.Machine

/-- Change the protocol's state. -/
def State.modPtp (s : State) (f : Ptp → Ptp) : State := { s with eth := { s.eth with ptp := f s.eth.ptp } }

/-- The protocol runs: enabled, with link and address. -/
def State.ptpOn (s : State) : Bool := s.rxOn && s.ipValid && s.flag Reg.ETH_PTP_CFG Fld.ETH_PTP_CFG_EN

/-- A message belongs to the configured domain (R351). -/
def State.ptpDomain (s : State) (m : PtpMsg) : Bool := m.domain.toNat == s.f Reg.ETH_PTP_CFG Fld.ETH_PTP_CFG_DOMAIN

/-- Two messages come from the same port. -/
def samePort (a b : PtpMsg) : Bool := a.source == b.source && a.sourcePort == b.sourcePort

/-- A message interval in ns from its logarithm in s. -/
def ptpInterval (l : Int) : Nat := if 0 ≤ l then 1000000000 * 2 ^ l.toNat else 1000000000 / 2 ^ (-l).toNat

/-- announceReceiptTimeout of the default profile (PRESUMED, log entry 15). -/
def ptpReceiptTimeout : Nat := 3

/-- Numbers in the order in which the data set comparison takes them: for one grandmaster the distance and the sender, else the grandmaster's quality and identity. -/
def ptpRank (same : Bool) (m : PtpMsg) : List Nat :=
  if same then [m.steps.toNat, m.source.toNat, m.sourcePort.toNat]
  else [m.priority1.toNat, m.clockClass.toNat, m.accuracy.toNat, m.variance.toNat, m.priority2.toNat, m.gm.toNat]

/-- The first of two lists of numbers in dictionary order. -/
def ranksBelow : List Nat → List Nat → Bool
  | a :: r, b :: q => decide (a < b) || (decide (a = b) && ranksBelow r q)
  | _, _ => false

/-- `a` is the better master (clause 9.3). -/
def ptpBetter (a b : PtpMsg) : Bool := ranksBelow (ptpRank (a.gm == b.gm) a) (ptpRank (a.gm == b.gm) b)

/-- A foreign master counts once two of its Announces have come within four intervals, and until its receipt timeout. -/
def State.ptpQualified (s : State) (f : Foreign) : Bool :=
  decide (2 ≤ f.count) && decide (f.msg.steps.toNat < 255) && decide (s.clock.now < f.at' + ptpReceiptTimeout * ptpInterval f.msg.logInterval)

/-- The best master now. -/
def State.ptpBest (s : State) : Option PtpMsg :=
  (s.eth.ptp.foreign.filter s.ptpQualified).foldl (fun (acc : Option PtpMsg) f =>
    match acc with
    | none => some f.msg
    | some m => if ptpBetter f.msg m then some f.msg else some m) none

/-- Show the selected master (R353, R365). -/
def State.ptpShow (s : State) (m : PtpMsg) : State :=
  ((s.setReg Reg.ETH_PTP_GM m.gm).setF Reg.ETH_PTP_STAT Fld.ETH_PTP_STAT_UTC_OFFSET m.utcOffset.toNat).setB Reg.ETH_PTP_STAT Fld.ETH_PTP_STAT_UTC_VALID m.utcValid

/-- The selected master changes: lock is lost and the measurement starts anew (R353). -/
def State.ptpChange (s : State) (m : Option PtpMsg) : State :=
  let s := s.ptpUnlock
  let s := s.modPtp fun p => { p with master := m, sync := none, ms := none, req := none, delay := 0, good := 0, pairAt := s.clock.now, reqAt := s.clock.now, reqLog := 0 }
  match m with
  | none => (((s.setReg Reg.ETH_PTP_GM 0).setF Reg.ETH_PTP_STAT Fld.ETH_PTP_STAT_UTC_OFFSET 0).setB Reg.ETH_PTP_STAT Fld.ETH_PTP_STAT_UTC_VALID false).setF
      Reg.ETH_PTP_STAT Fld.ETH_PTP_STAT_STATE 0 |>.setB Reg.ETH_PTP_STAT Fld.ETH_PTP_STAT_APPLIED false
  | some x => ((s.setF Reg.ETH_PTP_STAT Fld.ETH_PTP_STAT_STATE 1).setB Reg.ETH_PTP_STAT Fld.ETH_PTP_STAT_APPLIED s.isRoot).ptpShow x

/-- Select the best master (R351). -/
def State.ptpSelect (s : State) : State :=
  match s.ptpBest, s.eth.ptp.master with
  | none, none => s
  | some a, some b => if samePort a b && a.gm == b.gm then (s.modPtp fun p => { p with master := some a }).ptpShow a else s.ptpChange (some a)
  | a, _ => s.ptpChange a

/-- PTP_ANNOUNCE_RX (R351). -/
def State.ptpAnnounce (s : State) (m : PtpMsg) : State :=
  if s.ptpOn && s.ptpDomain m then
    let count := match s.eth.ptp.foreign.find? fun f => samePort f.msg m with
      | some f => if s.clock.now ≤ f.at' + 4 * ptpInterval m.logInterval then f.count + 1 else 1
      | none => 1
    (s.modPtp fun p => { p with foreign := (p.foreign.filter fun f => !samePort f.msg m) ++ [⟨m, s.clock.now, count⟩] }).ptpSelect
  else s

/-- A message comes from the selected master. -/
def State.fromMaster (s : State) (m : PtpMsg) : Bool :=
  match s.eth.ptp.master with | some x => samePort x m | none => false

/-- PTP_SYNC_RX (R351, R352): a one-step Sync, or one of another domain, is ignored and counted. -/
def State.ptpSync (s : State) (m : PtpMsg) : State :=
  if !s.ptpOn then s
  else if !s.ptpDomain m || !m.twoStep then s.satF Reg.ETH_PTP_STAT Fld.ETH_PTP_STAT_IGNORED 1
  else if s.fromMaster m then s.modPtp fun p => { p with sync := some (m.seq.toNat, m.rxFine, m.correction) }
  else s

/-- Picoseconds of a time in units of 2⁻¹⁶ ns, limited to a signed 32-bit field. -/
def psField (x : Int) : Int := clampInt (-2147483648) 2147483647 (roundDiv (x * 1000) 65536)

/-- The root applies an offset from its master (R294, R353): lock after 16 offsets within ±100 ns. Until then FB_TSTAT.STATE keeps FREE or COAST. -/
def State.ptpApply (s : State) (o : Int) : State :=
  let good := if o.natAbs ≤ 100 * 65536 then s.eth.ptp.good + 1 else 0
  let s := s.modPtp fun p => { p with good := good }
  let s := if 16 ≤ good && s.f Reg.ETH_PTP_STAT Fld.ETH_PTP_STAT_STATE != 2 then
      let s := (s.setF Reg.ETH_PTP_STAT Fld.ETH_PTP_STAT_STATE 2).setB Reg.FB_TSTAT Fld.FB_TSTAT_PTP_LOCK true
      ({ s with kf := { s.kf with lsaDue := true } } : State)
    else s
  let st := s.f Reg.FB_TSTAT Fld.FB_TSTAT_STATE
  let s := s.correctTime (-o)
  if s.f Reg.ETH_PTP_STAT Fld.ETH_PTP_STAT_STATE = 2 then s
  else s.setF Reg.FB_TSTAT Fld.FB_TSTAT_STATE (if st = 1 ∨ st = 2 then 3 else st)

/-- PTP_FOLLOW_UP_RX (R352, R353): the pair gives t2 − t1, and with the path delay the offset. -/
def State.ptpFollow (s : State) (m : PtpMsg) : State :=
  match s.eth.ptp.sync with
  | none => s
  | some y =>
    if s.ptpOn && s.ptpDomain m && s.fromMaster m && y.1 == m.seq.toNat then
      let ms : Int := centred 80 ((y.2.1 : Int) - m.origin - y.2.2 - m.correction)
      let s := s.modPtp fun p => { p with sync := none, ms := some ms, pairAt := s.clock.now }
      let o := ms - s.eth.ptp.delay
      let s := s.setF Reg.ETH_PTP_OFS Fld.ETH_PTP_OFS_OFFSET (Fld.ETH_PTP_OFS_OFFSET.enc (psField o))
      if s.isRoot then s.ptpApply o else s
    else s

/-- PTP_DELAY_REQ_SEND (R352): the next one follows after a random spacing of up to twice the interval asked for. -/
def State.ptpDelayReq (s : State) : State :=
  let p := s.eth.ptp
  if s.ptpOn && p.master.isSome && p.ms.isSome && decide (p.reqAt ≤ s.clock.now) then
    let s := s.ethSend { cls := 1, kind := 1, ip := 0xE0000181, words := [p.reqSeq] }
    (s.modPtp fun p => { p with reqSeq := (p.reqSeq + 1) % 65536, req := none, reqAt := s.clock.now + s.freshNat % (2 * ptpInterval p.reqLog + 1) }).used
  else s

/-- PTP_DELAY_RESP_RX (R352): mean path delay ((t2 − t1) + (t4 − t3)) ÷ 2. -/
def State.ptpDelayResp (s : State) (m : PtpMsg) : State :=
  match s.eth.ptp.req, s.eth.ptp.ms with
  | some r, some ms =>
    if s.ptpOn && s.ptpDomain m && s.fromMaster m && m.forUs && r.1 == m.seq.toNat then
      let d := roundDiv (ms + centred 80 ((m.origin : Int) - r.2 - m.correction)) 2
      let s := s.modPtp fun p => { p with req := none, delay := d, reqLog := m.logInterval }
      s.setF Reg.ETH_PTP_OFS Fld.ETH_PTP_OFS_DELAY (clampInt 0 4294967295 (roundDiv (d * 1000) 65536)).toNat
    else s
  | _, _ => s

/-- PTP_ANNOUNCE_TIMEOUT (R353): no pair within announceReceiptTimeout intervals, or no Announce. -/
def State.ptpTimeout (s : State) : State :=
  match s.eth.ptp.master with
  | none => s
  | some m =>
    let late := decide (s.eth.ptp.pairAt + ptpReceiptTimeout * ptpInterval m.logInterval ≤ s.clock.now)
    (if late then s.ptpUnlock else s).ptpSelect

/-- The protocol stops or changes its domain (R351). -/
def State.ptpRestart (s : State) : State := (s.modPtp fun p => { p with foreign := [] }).ptpChange none

/-! ## The commands -/

/-- PTP_ANNOUNCE_RX (R351). -/
def execPtpAnnounceRx (t : Nat) (msg : PtpMsg) (s : State) : Result := .next ((s.advance t).ptpAnnounce msg)

/-- PTP_SYNC_RX (R351, R352). -/
def execPtpSyncRx (t : Nat) (msg : PtpMsg) (s : State) : Result := .next ((s.advance t).ptpSync msg)

/-- PTP_FOLLOW_UP_RX (R353). -/
def execPtpFollowUpRx (t : Nat) (msg : PtpMsg) (s : State) : Result := .next ((s.advance t).ptpFollow msg)

/-- PTP_DELAY_REQ_SEND (R352). -/
def execPtpDelayReqSend (t : Nat) (s : State) : Result := .next (s.advance t).ptpDelayReq

/-- PTP_DELAY_RESP_RX (R352). -/
def execPtpDelayRespRx (t : Nat) (msg : PtpMsg) (s : State) : Result := .next ((s.advance t).ptpDelayResp msg)

/-- PTP_ANNOUNCE_TIMEOUT (R353). -/
def execPtpAnnounceTimeout (t : Nat) (s : State) : Result := .next (s.advance t).ptpTimeout

end Sys2Proof.Machine
end

