-- ==== Sys2Proof/Machine/Boot.lean ====
section
/-! DEFINITION. Resets (R366, R394, R405), the start sequence (R367 to R369), image slots and their choice (R370 to R377), flash commands (R381), keys (R382), confirmation and rollback (R375, R376) and the TAP (R408, R409). The commands POWER_ON, BROWN_OUT, RESET_N_LOW, WATCHDOG_TIMEOUT, ROM_STAGE, IMAGE_SELECTION, STAGED_START_EVENT, PORT_RELEASE, RESET, ROLLBACK, CONFIRM, CONFIRM_TIMEOUT, THERMAL_RECOVERY_BOOT, FLASH_ERASE, FLASH_PROGRAM, FLASH_READ, FLASH_CHECK, FLASH_COMMAND_DONE, KEY_ADD, KEY_REVOKE, OTP_PROGRAM_DONE, EXTEST, IDCODE, SAMPLE_PRELOAD, CLAMP, HIGHZ, BYPASS, TEST_LOGIC_RESET. -/

namespace Sys2Proof.Machine

/-! ## The flash -/

/-- An erased byte of the flash. -/
def erasedByte (_ : Nat) : Byte := 0xFF

/-- A byte of the flash. -/
def State.flashByte (s : State) (a : Nat) : Byte := Sparse.get erasedByte s.flash a

/-- Bytes of the flash. -/
def State.flashBytes (s : State) (a n : Nat) : List Byte := (List.range n).map fun i => s.flashByte (a + i)

/-- Program one byte of the flash. -/
def State.putFlash (s : State) (a : Nat) (v : Byte) : State := { s with flash := Sparse.put erasedByte s.flash a v }

/-- Replace a block of the flash. -/
def State.putBlock (s : State) (a : Nat) (bs : List Byte) : State := { s with flash := Sparse.splice erasedByte s.flash a 1 bs }

/-- Free bytes from the counter on. -/
def freeBytes (from' n : Nat) : List Byte := (List.range n).map fun i => BitVec.ofNat 8 (Config.freeNat (from' + i))

/-- A block of the flash that an interrupted or failed command leaves: free values. -/
def State.tearBlock (s : State) (a n : Nat) : State :=
  ({ s with free := s.free + n } : State).putBlock a (freeBytes s.free n)

/-- Slot size Z in bytes (R370). -/
def State.slotBytes (s : State) : Nat := s.f Reg.CFG_FL_INFO Fld.CFG_FL_INFO_SLOT_MIB * 1048576

/-- First byte of a slot. -/
def State.slotBase (s : State) (i : Nat) : Nat := i * s.slotBytes

/-- A little-endian number in a slot's header (R371). -/
def State.header (s : State) (i off n : Nat) : Nat := bytesNat (s.flashBytes (s.slotBase i + off) n)

/-- Mark byte `off` of a slot is programmed (R371). -/
def State.markSet (s : State) (i off : Nat) : Bool := s.flashByte (s.slotBase i + off) != 0xFF

/-- Program a mark (R371). -/
def State.putMark (s : State) (i off : Nat) : State := s.putFlash (s.slotBase i + off) 0

/-- ATTEMPT marks programmed (R371). -/
def State.attempts (s : State) (i : Nat) : Nat := ([0x800, 0x801, 0x802].filter fun o => s.markSet i o).length

/-! ## The checks of a slot (R373) -/

/-- The slot's key entry is programmed and not revoked. -/
def State.keyUsable (s : State) (k : Nat) : Bool := s.flag (Reg.SEC_KEY_ST k) Fld.SEC_KEY_ST_PROGRAMMED && !s.flag (Reg.SEC_KEY_ST k) Fld.SEC_KEY_ST_REVOKED

/-- The header fits the device (check 2). -/
def State.headerFits (s : State) (i : Nat) : Bool :=
  let bind := s.header i 0x10 8
  let len := s.header i 0x18 4
  s.header i 0xC 2 == 0x1342 && hasBit (s.header i 0xE 1) (s.f Reg.ID_PART Fld.ID_PART_VARIANT - 1) &&
    (bind == 0 || bind == s.devid.toNat) && len % 8 == 0 && decide (len + 4096 ≤ s.slotBytes)

/-- The first failing check of slot `i`, 0 where none fails; what the cryptographic checks find is `v`. -/
def State.slotFail (s : State) (i : Nat) (v : SlotVerdict) : Nat :=
  if s.header i 0 8 ≠ 0x01004746434E524C then 1
  else if !s.headerFits i then 2
  else if !(s.keyUsable (s.header i 0xF 1 % 4) && decide (s.header i 0xF 1 < 4) && v.keyOk) then 3
  else if !v.sigOk then 4
  else if !v.bodyOk then 5
  else if !v.fwOk then 6
  else if !s.markSet i 0x803 && decide (3 ≤ s.attempts i) then 9
  else if s.markSet i 0x804 then 10
  else 0

/-- Show a slot's marks (R391). -/
def State.showMarks (s : State) (i : Nat) : State :=
  ((s.setF (Reg.CFG_SLOT i) Fld.CFG_SLOT_ATTEMPTS (s.attempts i)).setB (Reg.CFG_SLOT i) Fld.CFG_SLOT_GOOD (s.markSet i 0x803)).setB
    (Reg.CFG_SLOT i) Fld.CFG_SLOT_REJECT (s.markSet i 0x804)

/-- Check a slot and show the result (R373, R381). -/
def State.checkSlot (s : State) (i : Nat) (v : SlotVerdict) : State :=
  let n := s.slotFail i v
  let s := (s.setF (Reg.CFG_SLOT i) Fld.CFG_SLOT_VERSION (s.header i 8 4)).setF (Reg.CFG_SLOT i) Fld.CFG_SLOT_KEY_IDX (s.header i 0xF 1)
  ((s.setB (Reg.CFG_SLOT i) Fld.CFG_SLOT_VALID (n == 0)).setF (Reg.CFG_SLOT i) Fld.CFG_SLOT_FAIL n).showMarks i

/-- A slot shows as valid. -/
def State.slotValid (s : State) (i : Nat) : Bool := s.flag (Reg.CFG_SLOT i) Fld.CFG_SLOT_VALID

/-- The valid slot with the highest VERSION, the lower number on a tie (R374). -/
def State.chooseSlot (s : State) : Option Nat :=
  [0, 1, 2, 3].foldl (fun (acc : Option Nat) i =>
    if !s.slotValid i then acc
    else
      match acc with
      | none => some i
      | some j => if s.f (Reg.CFG_SLOT j) Fld.CFG_SLOT_VERSION < s.f (Reg.CFG_SLOT i) Fld.CFG_SLOT_VERSION then some i else some j) none

/-! ## Device reset (R366) -/

/-- The four words of an image-key entry's hash (R391). -/
def fourWords (h : List Word) : List Word := [h.getD 0 0, h.getD 1 0, h.getD 2 0, h.getD 3 0]

/-- Change key entry `k` of one-time-programmable memory. -/
def State.modKey (s : State) (k : Nat) (f : OtpKey → OtpKey) : State :=
  { s with otp := { s.otp with keys := modifyAt f k s.otp.keys } }

/-- What an interrupted flash or one-time-programmable operation leaves (R382, R405). -/
def State.interrupt (s : State) : State :=
  let s := match s.boot.flashOp with
    | some f => if f.op = 1 then s.tearBlock f.addr 65536 else if f.op = 2 then s.tearBlock f.addr 4096 else s
    | none => s
  match s.boot.keyOp with
  | some (k, h) =>
    if h.isEmpty then s
    else
      let done := Config.freeBool s.free
      (s.modKey k fun e => if done then ⟨fourWords h, true, e.revoked⟩ else e).used
  | none => s

/-- The whole device is reset with a cause (R366): every register to its reset value; the flash and one-time-programmable memory are kept, and so is what stands outside the device. -/
def State.deviceReset (s : State) (cause : Nat) : State :=
  let s := s.interrupt
  let z : State := { State.reset with
    regs := otpRegs s.otp, otp := s.otp, flash := s.flash, wire := s.wire, fresh := s.fresh, free := s.free, pending := s.pending
    clock := { now := s.clock.now }
    hk := { entryAt := s.clock.now, calAt := s.clock.now }
    pio := { dead := s.pio.dead }
    ck := { refGone := s.ck.refGone, lrefGone := s.ck.lrefGone, landHigh := s.ck.landHigh }
    boot := { inReset := s.boot.powerOff || s.boot.tapHolds, powerOff := s.boot.powerOff, thermal := cause == 4
              tapIr := s.boot.tapIr, tapBsr := s.boot.tapBsr, tapHolds := s.boot.tapHolds } }
  z.setF Reg.PWR_STAT Fld.PWR_STAT_CAUSE cause

/-- Nothing more holds the device in reset: it leaves it (R394, R409). -/
def State.leaveReset (s : State) : State :=
  if s.boot.powerOff || s.boot.tapHolds then s else { s with boot := { s.boot with inReset := false } }

/-- POWER_ON (R394). -/
def State.powerOn (s : State) : State :=
  if s.boot.powerOff then ({ s with boot := { s.boot with powerOff := false } } : State).leaveReset else s

/-- BROWN_OUT (R394): the device is reset and stays so until the rails have returned. -/
def State.brownOut (s : State) : State :=
  if s.boot.powerOff then s else ({ s with boot := { s.boot with powerOff := true } } : State).deviceReset 0

/-- A low pulse of `held` ns on RESET_N (R405): between 100 ns and 1 µs it is open whether it resets. -/
def State.resetPin (s : State) (held : Nat) : State :=
  if held < 100 then s
  else if held < 1000 then (if Config.freeBool s.free then s.used.deviceReset 1 else s.used)
  else s.deviceReset 1

/-- A reset that management asks for waits for flash and one-time-programmable operations (R366). -/
def State.askReset (s : State) (cause : Nat) : State :=
  if s.boot.flashOp.isSome || s.boot.keyOp.isSome then { s with boot := { s.boot with resetWaits := some cause } } else s.deviceReset cause

/-- The waiting reset takes place once nothing is under way. -/
def State.resetIfFree (s : State) : State :=
  match s.boot.resetWaits with
  | some c => if s.boot.flashOp.isSome || s.boot.keyOp.isSome then s else s.deviceReset c
  | none => s

/-! ## The start sequence (R367 to R369) -/

/-- STAGE (R367). -/
def State.stage (s : State) : Nat := s.f Reg.PWR_STAT Fld.PWR_STAT_STAGE

/-- Enter a stage. -/
def State.setStage (s : State) (n : Nat) : State := s.setF Reg.PWR_STAT Fld.PWR_STAT_STAGE n

/-- ROM_STAGE (R43, R168, R367): the factory defects go to the defect table with FACTORY set, and loops 0 and 1 acquire. -/
def State.romStage (s : State) : State :=
  if !s.boot.inReset ∧ !s.boot.thermal ∧ s.stage = 0 then
    let s := (numbered 0 (s.otp.defects.take 4096)).foldl (fun s (p : Nat × Word) => s.shadowWrite (Reg.PIPE_DEFECT p.1) (Fld.PIPE_DEFECT_FACTORY.set p.2 1)) s
    ((s.loopAcquire 0).loopAcquire 1).setStage 1
  else s

/-- Read the flash's geometry (R370): density in MiB, the highest read clock in MHz. -/
def State.readSfdp (s : State) (sfdpOk : Bool) (density mhz : Nat) : State :=
  let ok := sfdpOk && decide (32 ≤ density)
  let s := (s.setB Reg.CFG_FL_INFO Fld.CFG_FL_INFO_SFDP_OK ok).setF Reg.CFG_FL_INFO Fld.CFG_FL_INFO_SCK_MHZ (min 100 mhz)
  (s.setF Reg.CFG_FL_INFO Fld.CFG_FL_INFO_DENSITY_MIB (min 65535 density)).setF Reg.CFG_FL_INFO Fld.CFG_FL_INFO_SLOT_MIB (min (density / 4) 32)

/-- A chosen slot is booted: an attempt is marked where GOOD is erased (R375). -/
def State.bootSlot (s : State) (i : Nat) : State :=
  let s : State := { s with boot := { s.boot with booted := some i } }
  let s := (s.setF Reg.CFG_BOOT_STAT Fld.CFG_BOOT_STAT_SLOT i).setF Reg.CFG_BOOT_STAT Fld.CFG_BOOT_STAT_VERSION (s.f (Reg.CFG_SLOT i) Fld.CFG_SLOT_VERSION)
  if s.markSet i 0x803 then s
  else
    match [0x800, 0x801, 0x802].find? fun o => !s.markSet i o with
    | some o => (s.putMark i o).showMarks i
    | none => s

/-- IMAGE_SELECTION (R370, R374, R377): the slots are checked and the highest valid one is booted, or the device starts in recovery; staged start begins. -/
def State.selectImage (s : State) (sfdpOk : Bool) (density mhz : Nat) (vs : List SlotVerdict) : State :=
  if !s.boot.inReset ∧ s.stage = 1 then
    let s := s.readSfdp sfdpOk density mhz
    let s := if s.flag Reg.CFG_FL_INFO Fld.CFG_FL_INFO_SFDP_OK then
        [0, 1, 2, 3].foldl (fun s i => s.checkSlot i (vs.getD i ⟨false, false, false, false⟩)) s
      else s
    let s := match s.chooseSlot with
      | some i => s.bootSlot i
      | none => s.setB Reg.CFG_BOOT_STAT Fld.CFG_BOOT_STAT_RECOVERY true
    ({ s with boot := { s.boot with stagedAt := s.clock.now, stagedNext := 0 } } : State).setStage 2
  else s

/-- Offset of event `n` of staged start in ns (R368): timetable, pixel biases, 32 converter bands, 16 stripes, frame store, 8 lane loops, fabric loop, Ethernet loop, end. -/
def stagedOffset (n : Nat) : Nat :=
  1000 * (if n = 0 then 0 else if n = 1 then 100 else if n < 34 then 1100 + 50 * (n - 2) else if n < 50 then 2700 + 20 * (n - 34)
    else if n = 50 then 3100 else if n < 59 then 5100 + 200 * (n - 51) else if n = 59 then 6700 else if n = 60 then 6800 else 7000)

/-- STAGED_START_EVENT (R368): the next event, once its offset has come. -/
def State.stagedStep (s : State) : State :=
  let n := s.boot.stagedNext
  if s.stage = 2 ∧ s.boot.stagedAt + stagedOffset n ≤ s.clock.now then
    let s : State := { s with boot := { s.boot with stagedNext := n + 1 } }
    if n = 0 then { s with boot := { s.boot with ttOn := true }, clock := { s.clock with running := !s.acquiring 0 } }
    else if 2 ≤ n ∧ n < 34 then
      let s : State := if n = 2 then { s with cc := { s.cc with gridAt := 16 * s.clock.tt } } else s
      s.restartBands (fun b => b == n - 2) (16 * s.clock.tt)
    else if 51 ≤ n ∧ n ≤ 60 then s.loopAcquire (n - 49)
    else if n = 61 then s.setStage 3
    else s
  else s

/-- PORT_RELEASE (R369): bundles one at a time, then the fabric ports in two groups, 200 µs apart from boot lock on. -/
def State.releasePorts (s : State) : State :=
  let n := s.boot.released
  if s.bootLocked ∧ n < 10 ∧ s.boot.lockAt + 200000 * n ≤ s.clock.now then
    let s : State := { s with boot := { s.boot with released := n + 1 } }
    if n < 8 then s.laneFollow n
    else (if n = 8 then [0, 1, 2, 3] else [4, 5, 6, 7]).foldl (fun s p => s.portFollow p) s
  else s

/-! ## Confirmation and rollback (R375, R376) -/

/-- Program GOOD of the booted slot. -/
def State.confirmBoot (s : State) : State :=
  match s.boot.booted with
  | some i => ((s.putMark i 0x803).showMarks i).setB Reg.CFG_BOOT_STAT Fld.CFG_BOOT_STAT_CONFIRM_WAIT false
  | none => s

/-- CONFIRM (R375). -/
def State.confirm (s : State) : State := if s.flag Reg.CFG_BOOT_STAT Fld.CFG_BOOT_STAT_CONFIRM_WAIT then s.confirmBoot else s

/-- CONFIRM_TIMEOUT (R375). -/
def State.confirmTimeout (s : State) : State :=
  if s.flag Reg.CFG_BOOT_STAT Fld.CFG_BOOT_STAT_CONFIRM_WAIT ∧ s.boot.confirmBy ≤ s.clock.now then s.deviceReset 5 else s

/-- ROLLBACK (R376, R377). -/
def State.rollback (s : State) : State :=
  match s.boot.booted with
  | some i =>
    if [0, 1, 2, 3].any fun j => j != i && s.slotValid j then ((s.putMark i 0x804).showMarks i).askReset 6
    else s.setB Reg.CFG_BOOT_STAT Fld.CFG_BOOT_STAT_RB_REFUSED true
  | none => s.setB Reg.CFG_BOOT_STAT Fld.CFG_BOOT_STAT_RB_REFUSED true

/-! ## Flash commands (R381) -/

/-- A flash command ends with an error, or without one (0). -/
def State.flashErr (s : State) (e : Nat) : State :=
  let s := s.setF Reg.CFG_FL_STAT Fld.CFG_FL_STAT_ERR e
  if e = 0 then s else s.setB Reg.CFG_FL_STAT Fld.CFG_FL_STAT_ERR_FLAG true

/-- A flash command is running. -/
def State.flashBusy (s : State) : Bool := s.flag Reg.CFG_FL_STAT Fld.CFG_FL_STAT_BUSY

/-- A flash command starts. -/
def State.startFlash (s : State) (f : FlashOp) : State :=
  ({ s with boot := { s.boot with flashOp := some f } } : State).setB Reg.CFG_FL_STAT Fld.CFG_FL_STAT_BUSY true

/-- Why a command on `size` bytes is refused, 0 where it is not: busy 4, misaligned 1, in the booted slot 2 (erase and program), beyond the slots 3. -/
def State.flashRefusal (s : State) (a size : Nat) (writes : Bool) : Nat :=
  if s.flashBusy then 4
  else if a % size ≠ 0 then 1
  else if writes && (match s.boot.booted with | some i => decide (s.slotBase i ≤ a) && decide (a < s.slotBase i + s.slotBytes) | none => false) then 2
  else if 4 * s.slotBytes < a + size then 3
  else 0

/-- An erase, program or read at CFG_FL_ADDR (R381): an erase or program clears VALID of its slot. -/
def State.flashCommand (s : State) (op size : Nat) : State :=
  let a := s.f Reg.CFG_FL_ADDR Fld.CFG_FL_ADDR_ADDR
  let writes := op != 3
  match s.flashRefusal a size writes with
  | 0 =>
    let i := a / max 1 s.slotBytes
    let s := if writes then s.setB (Reg.CFG_SLOT i) Fld.CFG_SLOT_VALID false else s
    s.startFlash ⟨op, a, i, ⟨false, false, false, false⟩⟩
  | e => s.flashErr e

/-- A check of a slot (R381). -/
def State.flashCheck (s : State) (i : Nat) (v : SlotVerdict) : State := if s.flashBusy then s.flashErr 4 else s.startFlash ⟨4, s.slotBase i, i, v⟩

/-- The buffer's bytes (R391). -/
def State.flashBuffer (s : State) : List Byte := (List.range 512).flatMap fun i => wordBytes (s.reg (Reg.CFG_FL_BUF i))

/-- Words from bytes. -/
def bytesWords : Nat → List Byte → List Word
  | 0, _ => []
  | n + 1, bs => BitVec.ofNat 64 (bytesNat (bs.take 8)) :: bytesWords n (bs.drop 8)

/-- What a finished command does: a program clears bits, as flash does (PRESUMED, log entry 16). -/
def State.flashEffect (s : State) (f : FlashOp) : State :=
  match f.op with
  | 1 => s.putBlock f.addr (List.replicate 65536 0xFF)
  | 2 => s.putBlock f.addr ((s.flashBytes f.addr 4096).zipWith (· &&& ·) s.flashBuffer)
  | 3 => s.setBlock (Reg.CFG_FL_BUF 0) (bytesWords 512 (s.flashBytes f.addr 4096))
  | _ => s.checkSlot f.slot f.verdict

/-- What a failed command leaves: the bytes it was writing, or reading into the buffer, are free values. -/
def State.flashFailure (s : State) (f : FlashOp) : State :=
  match f.op with
  | 1 => s.tearBlock f.addr 65536
  | 2 => s.tearBlock f.addr 4096
  | 3 => ({ s with free := s.free + 512 } : State).setBlock (Reg.CFG_FL_BUF 0) ((List.range 512).map fun i => Config.freeWord (s.free + i))
  | _ => s

/-- FLASH_COMMAND_DONE (R381): the effect, BUSY and ERR, and the buffer writes held back. -/
def State.flashDone (s : State) (failed : Bool) : State :=
  match s.boot.flashOp with
  | none => s
  | some f =>
    let s := if failed then (s.flashFailure f).flashErr 5 else (s.flashEffect f).flashErr 0
    let s := s.boot.bufHeld.foldl (fun s p => s.setReg (Reg.CFG_FL_BUF p.1) p.2) (s.setB Reg.CFG_FL_STAT Fld.CFG_FL_STAT_BUSY false)
    ({ s with boot := { s.boot with flashOp := none, bufHeld := [] } } : State).resetIfFree

/-- A write to CFG_FL_BUF `i` is held while a command runs (R381). -/
def State.bufWrite (s : State) (i : Nat) (v : Word) : State :=
  if s.flashBusy then { s with boot := { s.boot with bufHeld := s.boot.bufHeld ++ [(i, v)] } } else s.setReg (Reg.CFG_FL_BUF i) v

/-! ## Keys (R382) -/

/-- One-time-programmable memory is being written. -/
def State.otpBusy (s : State) : Bool := s.flag Reg.SEC_KEY_STAT Fld.SEC_KEY_STAT_BUSY

/-- Writing begins. -/
def State.startOtp (s : State) (k : Nat) (h : List Word) : State :=
  ({ s with boot := { s.boot with keyOp := some (k, h) } } : State).setB Reg.SEC_KEY_STAT Fld.SEC_KEY_STAT_BUSY true

/-- KEY_ADD. -/
def State.keyAdd (s : State) : State :=
  if s.otpBusy then s
  else
    match [0, 1, 2, 3].find? fun k => !s.flag (Reg.SEC_KEY_ST k) Fld.SEC_KEY_ST_PROGRAMMED with
    | some k => s.startOtp k ((List.range 4).map fun w => s.reg (Reg.SEC_KEY_NEW w))
    | none => s.setB Reg.SEC_KEY_STAT Fld.SEC_KEY_STAT_FULL true

/-- Close the session in entry `i` (R388). -/
def State.closeSession (s : State) (i : Nat) : State :=
  let s := (s.setReg (Reg.SEC_SESS i) 0).setReg (Reg.SEC_SESS_CTR i) 0
  { s with boot := { s.boot with sessions := s.boot.sessions.filter fun x => x.slot != i } }

/-- Sessions that key `k` opened are closed (R382, R388). -/
def State.closeKey (s : State) (k : Nat) : State :=
  [0, 1, 2, 3].foldl (fun s i =>
    if s.flag (Reg.SEC_SESS i) Fld.SEC_SESS_OPEN && s.f (Reg.SEC_SESS i) Fld.SEC_SESS_KEY_IDX == k then s.closeSession i else s) s

/-- KEY_REVOKE: refused where no usable entry would be left, or for the key of the booted image. -/
def State.keyRevoke (s : State) (k : Nat) : State :=
  if s.otpBusy then s
  else
    let booted := match s.boot.booted with | some i => s.f (Reg.CFG_SLOT i) Fld.CFG_SLOT_KEY_IDX == k | none => false
    if booted || !([0, 1, 2, 3].any fun j => j != k && s.keyUsable j) then s.setB Reg.SEC_KEY_STAT Fld.SEC_KEY_STAT_REFUSED true
    else
      let s := s.modKey k fun e => { e with revoked := true }
      ((s.setB (Reg.SEC_KEY_ST k) Fld.SEC_KEY_ST_REVOKED true).closeKey k).startOtp k []

/-- OTP_PROGRAM_DONE. -/
def State.otpDone (s : State) : State :=
  match s.boot.keyOp with
  | none => s
  | some (k, h) =>
    let s := if h.isEmpty then s
      else
        let s := s.modKey k fun e => ⟨fourWords h, true, e.revoked⟩
        (s.setBlock (Reg.SEC_KEY k 0) (fourWords h)).setB (Reg.SEC_KEY_ST k) Fld.SEC_KEY_ST_PROGRAMMED true
    let s := s.setB Reg.SEC_KEY_STAT Fld.SEC_KEY_STAT_BUSY false
    ({ s with boot := { s.boot with keyOp := none } } : State).resetIfFree

/-! ## The TAP (R408, R409) -/

/-- Bits of a number, least significant first. -/
def boolsOf : Nat → Nat → List Bool
  | 0, _ => []
  | n + 1, v => (v % 2 == 1) :: boolsOf n (v / 2)

/-- An instruction that does not hold the lands is selected: a hold ends, and a device that it kept in reset boots. -/
def State.tapSelect (s : State) (ir : Nat) (data : List Bool) : State :=
  (({ s with boot := { s.boot with tapIr := ir, tapHolds := false } } : State).emit (.tap ir data)).leaveReset

/-- EXTEST, CLAMP or HIGHZ: they take the lands only while RESET_N is low. -/
def State.tapHold (s : State) (ir : Nat) (resetLow : Bool) : State :=
  if resetLow then ({ s with boot := { s.boot with tapIr := ir, tapHolds := true } } : State).emit (.tap ir s.boot.tapBsr)
  else s.tapSelect ir [false]

/-- Channels 4 to 7 all read at least 160 codes below TRIP (R389). -/
def State.cooled (s : State) : Bool :=
  [4, 5, 6, 7].all fun c =>
    s.flag (Reg.HK_RES c) Fld.HK_RES_VALID && decide (s.f (Reg.HK_RES c) Fld.HK_RES_VALUE / 16 + 160 ≤ s.f Reg.PWR_SUP Fld.PWR_SUP_TRIP)

/-! ## The commands -/

/-- POWER_ON (R394). -/
def execPowerOn (t : Nat) (s : State) : Result := .next (s.advance t).powerOn

/-- BROWN_OUT (R394). -/
def execBrownOut (t : Nat) (s : State) : Result := .next (s.advance t).brownOut

/-- RESET_N_LOW (R405): RESET_N rises after `held` ns low. -/
def execResetNLow (t held : Nat) (s : State) : Result := .next ((s.advance t).resetPin held)

/-- WATCHDOG_TIMEOUT (R366). -/
def execWatchdogTimeout (t : Nat) (s : State) : Result := .next ((s.advance t).deviceReset 3)

/-- ROM_STAGE (R367). -/
def execRomStage (t : Nat) (s : State) : Result := .next (s.advance t).romStage

/-- IMAGE_SELECTION (R374). -/
def execImageSelection (t : Nat) (sfdpOk : Bool) (density mhz : Nat) (verdicts : List SlotVerdict) (s : State) : Result :=
  .next ((s.advance t).selectImage sfdpOk density mhz verdicts)

/-- STAGED_START_EVENT (R368). -/
def execStagedStartEvent (t : Nat) (s : State) : Result := .next (s.advance t).stagedStep

/-- PORT_RELEASE (R369). -/
def execPortRelease (t : Nat) (s : State) : Result := .next (s.advance t).releasePorts

/-- RESET (R366). -/
def execResetCmd (t : Nat) (src : Src) (s : State) : Result := .next ((s.advance t).managed src fun s => s.askReset 2)

/-- ROLLBACK (R376). -/
def execRollback (t : Nat) (src : Src) (s : State) : Result := .next ((s.advance t).managed src fun s => s.rollback)

/-- CONFIRM (R375). -/
def execConfirm (t : Nat) (src : Src) (s : State) : Result := .next ((s.advance t).managed src fun s => s.confirm)

/-- CONFIRM_TIMEOUT (R375). -/
def execConfirmTimeout (t : Nat) (s : State) : Result := .next (s.advance t).confirmTimeout

/-- THERMAL_RECOVERY_BOOT (R389). -/
def execThermalRecoveryBoot (t : Nat) (s : State) : Result :=
  let s := s.advance t
  .next (if s.boot.thermal && s.cooled then { s with boot := { s.boot with thermal := false } } else s)

/-- FLASH_ERASE (R381). -/
def execFlashErase (t : Nat) (src : Src) (s : State) : Result := .next ((s.advance t).managed src fun s => s.flashCommand 1 65536)

/-- FLASH_PROGRAM (R381). -/
def execFlashProgram (t : Nat) (src : Src) (s : State) : Result := .next ((s.advance t).managed src fun s => s.flashCommand 2 4096)

/-- FLASH_READ (R381). -/
def execFlashRead (t : Nat) (src : Src) (s : State) : Result := .next ((s.advance t).managed src fun s => s.flashCommand 3 4096)

/-- FLASH_CHECK (R381). -/
def execFlashCheck (t : Nat) (src : Src) (slot : Fin 4) (verdict : SlotVerdict) (s : State) : Result :=
  .next ((s.advance t).managed src fun s => s.flashCheck slot.val verdict)

/-- FLASH_COMMAND_DONE (R381). -/
def execFlashCommandDone (t : Nat) (failed : Bool) (s : State) : Result := .next ((s.advance t).flashDone failed)

/-- KEY_ADD (R382). -/
def execKeyAdd (t : Nat) (src : Src) (s : State) : Result := .next ((s.advance t).managed src fun s => s.keyAdd)

/-- KEY_REVOKE (R382). -/
def execKeyRevoke (t : Nat) (src : Src) (entry : Fin 4) (s : State) : Result := .next ((s.advance t).managed src fun s => s.keyRevoke entry.val)

/-- OTP_PROGRAM_DONE (R382). -/
def execOtpProgramDone (t : Nat) (s : State) : Result := .next (s.advance t).otpDone

/-- EXTEST (R408, R409). -/
def execExtest (t : Nat) (resetLow : Bool) (s : State) : Result := .next ((s.advance t).tapHold 0x00 resetLow)

/-- IDCODE (R408). -/
def execIdcode (t : Nat) (s : State) : Result := .next ((s.advance t).tapSelect 0x01 (boolsOf 32 0x01342353))

/-- SAMPLE_PRELOAD (R408): the boundary register takes `bsr`. -/
def execSamplePreload (t : Nat) (bsr : List Bool) (s : State) : Result :=
  let s := s.advance t
  .next (({ s with boot := { s.boot with tapBsr := bsr } } : State).tapSelect 0x02 bsr)

/-- CLAMP (R409). -/
def execClamp (t : Nat) (resetLow : Bool) (s : State) : Result := .next ((s.advance t).tapHold 0x04 resetLow)

/-- HIGHZ (R409). -/
def execHighz (t : Nat) (resetLow : Bool) (s : State) : Result := .next ((s.advance t).tapHold 0x05 resetLow)

/-- BYPASS (R408). -/
def execBypass (t : Nat) (s : State) : Result := .next ((s.advance t).tapSelect 0xFF [false])

/-- TEST_LOGIC_RESET (R409): IDCODE is selected. -/
def execTestLogicReset (t : Nat) (s : State) : Result := .next ((s.advance t).tapSelect 0x01 (boolsOf 32 0x01342353))

end Sys2Proof.Machine
end

