-- ==== Sys2Proof/Machine/Housekeeping.lean ====
section
/-! DEFINITION. The housekeeping converter (R101 to R105) and supervision (R389). The commands HK_ENTRY_DONE, HK_INJ, HK_INJ_DONE, HK_CALIBRATION. -/

namespace Sys2Proof.Machine

/-- Change the housekeeping converter. -/
def State.modHk (s : State) (f : Housekeeping → Housekeeping) : State := { s with hk := f s.hk }

/-- Entries per pass; 0 and above 16 act as 16 (R106). -/
def hkLen (cfg : Word) : Nat := let n := Fld.HK_CFG_LEN.get cfg; if n = 0 ∨ 16 < n then 16 else n

/-- Channel of the entry in hand. -/
def Housekeeping.channel (h : Housekeeping) : Nat := h.seq.toNat / 16 ^ h.entry % 16

/-- A new pass, which begins at `x`, takes the settings as they stand (R102). A new CAL_PERIOD counts from there (DESIGN CHOICE, log entry 83). -/
def State.hkPass (s : State) (x : Nat) : State :=
  s.modHk fun h => { h with
    cfg := s.reg Reg.HK_CFG, seq := s.reg Reg.HK_SEQ, entry := 0, entryAt := x
    calAt := if Fld.HK_CFG_CAL_PERIOD.get h.cfg = s.f Reg.HK_CFG Fld.HK_CFG_CAL_PERIOD then h.calAt else x }

/-- A write to HK_CFG or HK_SEQ reaches a converter that stands still at once (R102). -/
def State.hkSettings (s : State) : State := if Fld.HK_CFG_RUN.get s.hk.cfg = 0 then s.hkPass s.clock.now else s

/-- The sequence runs (R102). -/
def Housekeeping.runs (h : Housekeeping) : Bool := Fld.HK_CFG_RUN.get h.cfg == 1

/-- The first instant from `x` on at which no conversion of the sequence is in progress (R103, R104). -/
def Housekeeping.boundary (h : Housekeeping) (x : Nat) : Nat := if h.runs then h.entryAt + ceilDiv (x - h.entryAt) 1000 * 1000 else x

/-- Calibration period in ns of the pass under way; 0 where calibration is disabled (R102, R106). -/
def Housekeeping.period (h : Housekeeping) : Nat := Fld.HK_CFG_CAL_PERIOD.get h.cfg * 1000000

/-- Start of the calibration that is due next (R104). -/
def Housekeeping.calStart (h : Housekeeping) : Nat := h.boundary (h.calAt + h.period)

/-- End of the entry in hand: 2^AVG conversions of 1,000 ns (R102). -/
def Housekeeping.entryEnd (h : Housekeeping) : Nat := h.entryAt + 1000 * 2 ^ Fld.HK_CFG_AVG.get h.cfg

/-- Nothing is left to interrupt the entry in hand: no injection that starts before its end, and no calibration (R103, R104). -/
def Housekeeping.entryClear (h : Housekeeping) : Bool :=
  h.inj.all (fun x => decide (h.entryEnd ≤ x.start)) && (h.period == 0 || decide (h.entryEnd ≤ h.calStart))

/-- VALUE of an entry: the mean of 2^AVG 12-bit codes in sixteenths (R102, R106), to which a value that no such mean gives is rounded down. -/
def hkMean (avg v : Nat) : Nat := min v 65520 / 2 ^ (4 - avg) * 2 ^ (4 - avg)

/-- A result against the limits of its channel, and the thermal trip (R389). -/
def State.supervise (s : State) (c v : Nat) : State :=
  let out := decide (v < s.f (Reg.PWR_LIM c) Fld.PWR_LIM_LOW) || decide (s.f (Reg.PWR_LIM c) Fld.PWR_LIM_HIGH < v)
  let s := s.putBit Reg.PWR_STAT Fld.PWR_STAT_LIM_NOW c out
  let s := if out then s.setBit Reg.PWR_STAT Fld.PWR_STAT_LIM_HIT c else s
  if s.flag Reg.PWR_SUP Fld.PWR_SUP_TRIP_EN && decide (4 ≤ c) && decide (c ≤ 7) && decide (s.f Reg.PWR_SUP Fld.PWR_SUP_TRIP ≤ v / 16) then
    s.deviceReset 4
  else s

/-- HK_ENTRY_DONE (R102): the mean of the entry's conversions is written, and the next entry or pass begins. -/
def State.hkEntry (s : State) (v : Nat) : State :=
  let h := s.hk
  if !s.boot.inReset ∧ h.runs ∧ h.entryEnd ≤ s.clock.now ∧ h.entryClear then
    let c := h.channel
    let v := hkMean (Fld.HK_CFG_AVG.get h.cfg) v
    let s := ((s.setF (Reg.HK_RES c) Fld.HK_RES_VALUE v).setB (Reg.HK_RES c) Fld.HK_RES_VALID true).addF (Reg.HK_RES c) Fld.HK_RES_UPDATES 1
    let s := if c = 0 then s.modHk fun h => { h with res0At := s.clock.now } else s
    let s := if h.entry + 1 < hkLen h.cfg then s.modHk fun x => { x with entry := h.entry + 1, entryAt := h.entryEnd } else s.hkPass h.entryEnd
    s.supervise c v
  else s

/-- Start of an injected conversion that is requested now (R103): behind the pending ones, else after the conversion or the calibration step in progress. -/
def State.hkInjStart (s : State) : Nat :=
  let h := s.hk
  match h.inj.getLast? with
  | some x => max s.clock.now (x.start + 1000)
  | none =>
    if h.period ≠ 0 ∧ h.calStart ≤ s.clock.now then
      let from' := h.calStart + h.calLate
      from' + ceilDiv (s.clock.now - from') 1000 * 1000
    else h.boundary s.clock.now

/-- HK_INJ (R103). -/
def State.hkInject (s : State) (c tag : Nat) : State :=
  if hasBit (s.f Reg.HK_STATUS Fld.HK_STATUS_INJ_PENDING) tag then s.setB Reg.HK_STATUS Fld.HK_STATUS_INJ_REJECT true
  else (s.modHk fun h => { h with inj := h.inj ++ [⟨tag, c, s.hkInjStart⟩] }).setBit Reg.HK_STATUS Fld.HK_STATUS_INJ_PENDING tag

/-- The converter after the injected conversion that started at `x`: what it interrupted, the calibration under way or the sequence, goes on 1,000 ns later (R103, R104). -/
def Housekeeping.afterInj (h : Housekeeping) (x : Nat) : Housekeeping :=
  let rest := h.inj.drop 1
  let due := h.calAt + h.period
  if h.period ≠ 0 ∧ h.runs = false ∧ due < x + 1000 then { h with inj := rest, calLate := h.calLate + min 1000 (x + 1000 - due) }
  else if h.period ≠ 0 ∧ h.runs = true ∧ h.calStart ≤ x then { h with inj := rest, calLate := h.calLate + 1000 }
  else { h with inj := rest, entryAt := if h.runs then h.entryAt + 1000 else h.entryAt }

/-- HK_INJ_DONE (R103): the oldest request completes after its 1,000 ns. -/
def State.hkInjDone (s : State) (code : Nat) : State :=
  match s.hk.inj with
  | [] => s
  | x :: _ =>
    if x.start + 1000 ≤ s.clock.now then
      let a := Reg.HK_INJ_RES x.tag
      let s := ((s.setF a Fld.HK_INJ_RES_CODE code).setF a Fld.HK_INJ_RES_CHANNEL x.channel).setB a Fld.HK_INJ_RES_VALID true
      let s := (s.setBit Reg.HK_STATUS Fld.HK_STATUS_INJ_DONE x.tag).clrBit Reg.HK_STATUS Fld.HK_STATUS_INJ_PENDING x.tag
      s.modHk fun h => h.afterInj x.start
    else s

/-- A calibration is in progress (R104). -/
def State.hkCalBusy (s : State) : Bool := s.hk.period != 0 && decide (s.hk.calStart ≤ s.clock.now)

/-- End of the calibration's four steps of 1,000 ns, with what injections have held it up (R104). -/
def Housekeeping.calEnd (h : Housekeeping) : Nat := h.calStart + h.calLate + 4000

/-- HK_CALIBRATION (R104): its steps are over, and no injected conversion that starts before their end is pending. The sequence goes on where it paused. -/
def State.hkCalibrate (s : State) (ok : Bool) : State :=
  let h := s.hk
  if !s.boot.inReset ∧ h.period ≠ 0 ∧ h.calEnd ≤ s.clock.now ∧ (h.inj.all fun x => decide (h.calEnd ≤ x.start)) then
    let s := s.modHk fun h => { h with
      calAt := h.calAt + h.period * ((s.clock.now - h.calAt) / h.period), calLate := 0
      entryAt := if h.runs then h.entryAt + 4000 + h.calLate else h.entryAt }
    if ok then s else s.setB Reg.HK_STATUS Fld.HK_STATUS_CAL_FAIL true
  else s

/-! ## The commands -/

/-- HK_ENTRY_DONE (R102, R389). -/
def execHkEntryDone (t : Nat) (value : Fin 65536) (s : State) : Result := .next ((s.advance t).hkEntry value.val)

/-- HK_INJ (R103). -/
def execHkInj (t : Nat) (src : Src) (channel : Fin 16) (tag : Fin 4) (s : State) : Result :=
  .next ((s.advance t).managed src fun s => s.hkInject channel.val tag.val)

/-- HK_INJ_DONE (R103). -/
def execHkInjDone (t : Nat) (code : Fin 4096) (s : State) : Result := .next ((s.advance t).hkInjDone code.val)

/-- HK_CALIBRATION (R104): `ok` is whether the result lies within the correction range. -/
def execHkCalibration (t : Nat) (ok : Bool) (s : State) : Result := .next ((s.advance t).hkCalibrate ok)

end Sys2Proof.Machine
end

