-- ==== Sys2Proof/Machine/Pio.lean ====
section
/-! DEFINITION. The PIO engines (R324 to R342): decoding (R329), pins and latches (R325, R327), flags (R335), execution (R330 to R333), mailboxes (R336), faults, program writes and injection (R337 to R340), and the bank supplies (R394). -/

namespace Sys2Proof.Machine

/-! ## Instructions (R329) -/

/-- A decoded engine instruction (R329, R330). -/
inductive PioOp where
  | nop (dly : Nat)
  | waitPin (pol : Bool) (index : Nat)
  | waitFlag (pol clr : Bool) (index : Nat)
  | waitEvent (index : Nat)
  | setPin (offset : Nat) (level : Bool)
  | setLc (value : Nat)
  | setSrClear
  | setEventClear (mask : Nat)
  | jmp (cond arg target : Nat)
  | outPins (n offset : Nat)
  | outSerial (n offset : Nat) (xclk : Bool)
  | outDout (n : Nat)
  | outLc (n : Nat)
  | inPins (n offset : Nat)
  | inSerial (n offset : Nat) (xclk : Bool)
  | inDin (n : Nat)
  | irqSet (index : Nat) (go : Option Nat)
  | irqClear (index : Nat) (go : Option Nat)
  | irqHost (index : Nat) (go : Option Nat)
  | irqTimetable (index : Nat) (go : Option Nat)
  | pulse (cycles offset : Nat) (pol : Bool)
  | illegal
deriving DecidableEq, Repr

/-- Bits `lo` to `lo + w - 1` of a number. -/
def bitsOf (x lo w : Nat) : Nat := x / 2 ^ lo % 2 ^ w

/-- N of IN and OUT, where 0 means 64 (R329). -/
def pioN (x : Nat) : Nat := if bitsOf x 5 6 = 0 then 64 else bitsOf x 5 6

/-- Decode a slot's word (R329, R331, R333, R334, R337). -/
def decodePio (x : Nat) : PioOp :=
  match bitsOf x 0 3 with
  | 0 => .nop (bitsOf x 8 8)
  | 1 =>
    (match bitsOf x 3 2 with
     | 0 => .waitPin (hasBit x 5) (bitsOf x 7 4)
     | 1 => .waitFlag (hasBit x 5) (hasBit x 6) (bitsOf x 7 4)
     | 2 => if bitsOf x 7 4 < 7 then .waitEvent (bitsOf x 7 4) else .illegal
     | _ => .illegal)
  | 2 =>
    (match bitsOf x 3 3 with
     | 0 => .setPin (bitsOf x 12 4) (hasBit x 6)
     | 1 => .setLc (bitsOf x 6 10)
     | 2 => .setSrClear
     | 3 => .setEventClear (bitsOf x 6 7)
     | _ => .illegal)
  | 3 =>
    let cond := bitsOf x 3 4
    let arg := bitsOf x 7 4
    if 11 ≤ cond then .illegal
    else if cond = 8 ∧ (arg = 0 ∨ 5 < arg) then .illegal
    else .jmp cond arg (bitsOf x 11 5)
  | 4 =>
    (match bitsOf x 3 2 with
     | 0 => if bitsOf x 5 6 = 0 ∨ 16 < bitsOf x 5 6 then .illegal else .outPins (bitsOf x 5 6) (bitsOf x 12 4)
     | 1 => .outSerial (pioN x) (bitsOf x 12 4) (hasBit x 11)
     | 2 => .outDout (pioN x)
     | _ => .outLc (pioN x))
  | 5 =>
    (match bitsOf x 3 2 with
     | 0 => if bitsOf x 5 6 = 0 ∨ 16 < bitsOf x 5 6 then .illegal else .inPins (bitsOf x 5 6) (bitsOf x 12 4)
     | 1 => .inSerial (pioN x) (bitsOf x 12 4) (hasBit x 11)
     | 2 => .inDin (pioN x)
     | _ => .illegal)
  | 6 =>
    let go := if hasBit x 10 then some (bitsOf x 5 5) else none
    let index := bitsOf x 12 4
    (match bitsOf x 3 2 with
     | 0 => .irqSet index go
     | 1 => .irqClear index go
     | 2 => .irqHost index go
     | _ => if index < 5 then .irqTimetable index go else .illegal)
  | _ => .pulse ((if bitsOf x 3 6 = 0 then 64 else bitsOf x 3 6) * 16 ^ bitsOf x 9 2) (bitsOf x 12 4) (hasBit x 11)

/-! ## Pins (R325) -/

/-- Change engine `e`. -/
def State.setEng (s : State) (e : Nat) (f : Engine → Engine) : State :=
  { s with pio := { s.pio with engines := modifyAt f e s.pio.engines } }

/-- The pin of offset `k` of engine `e` (R328). -/
def State.pinOf (s : State) (e k : Nat) : Nat := (s.f (Reg.PIO_ECTL e) Fld.PIO_ECTL_PINBASE + k) % 64

/-- Engine `e` writes the latch of `pin`; a pin it does not own keeps its latch and sets OWN_ERR (R325). -/
def State.writeLatch (s : State) (e pin : Nat) (level : Bool) : State :=
  if s.f (Reg.PIO_PIN pin) Fld.PIO_PIN_OWNER = e then s.setB (Reg.PIO_PIN pin) Fld.PIO_PIN_LATCH level
  else s.setB (Reg.PIO_ESTAT e) Fld.PIO_ESTAT_OWN_ERR true

/-! ## Cycles -/

/-- The engine cycle of tick `x`: the even-numbered tick on which it begins (R328). -/
def cycleOf (x : Nat) : Nat := x / 4 * 4

/-- The engine cycle in hand. -/
def State.cycle (s : State) : Nat := cycleOf s.clock.tt

/-- Carry out the latch writes whose tick has come (R327, R330, R332). -/
def State.runEdges (s : State) : State :=
  let due := s.pio.edges.filter fun x => decide (x.at' ≤ s.clock.tt)
  due.foldl (fun s x => s.writeLatch x.engine x.pin x.level)
    { s with pio := { s.pio with edges := s.pio.edges.filter fun x => decide (s.clock.tt < x.at') } }

/-- Engine `e` fetches the instruction at its PC when the cycle of the fetch has come (R328, R338). -/
def State.runFetch (s : State) (e : Nat) : State :=
  match (s.eng e).fetchAt with
  | none => s
  | some x =>
    if x ≤ s.clock.tt then
      let w := s.f (Reg.PIO_PROG e (s.f (Reg.PIO_ESTAT e) Fld.PIO_ESTAT_PC)) Fld.PIO_PROG_INSTR
      s.setEng e fun g => { g with ir := w, latched := true, fetchAt := none, shown := false }
    else s

/-- Engine `e` is inside a bit of a serial shift on its own clock (R332): the bit's edges are under way and its last cycle is to come. -/
def State.midBit (s : State) (e : Nat) : Bool :=
  (s.eng e).latched && (s.eng e).shown &&
    (match decodePio (s.eng e).ir with
     | .outSerial _ _ x => !x
     | .inSerial _ _ x => !x
     | _ => false)

/-- An engine told to stop is stopped once its delay, PULSE or bit has ended (R340). -/
def State.runStop (s : State) (e : Nat) : State :=
  if !s.flag (Reg.PIO_ECTL e) Fld.PIO_ECTL_RUN && (s.f (Reg.PIO_ESTAT e) Fld.PIO_ESTAT_STATE == 1 || s.f (Reg.PIO_ESTAT e) Fld.PIO_ESTAT_STATE == 2) &&
      decide ((s.eng e).readyAt ≤ s.clock.tt) && !s.midBit e then s.setF (Reg.PIO_ESTAT e) Fld.PIO_ESTAT_STATE 0
  else s

/-- Bring the PIO block up to the present: latch writes, timetable events, fetches and stops whose instant has come. -/
def State.pioSettle (s : State) : State := (List.range 16).foldl (fun s e => (s.runFetch e).runStop e) s.runEdges.runEvents

/-- Advance time and bring the PIO block up to it. -/
def State.pioAt (s : State) (t : Nat) : State := (s.advance t).pioSettle

/-! ## Flags (R335) -/

/-- Flags as they stood at the start of the cycle in hand. -/
def State.flagView (s : State) : Nat :=
  if s.pio.flagCycle = s.cycle then s.pio.flagStart else s.f Reg.PIO_FLAGS Fld.PIO_FLAGS_FLAGS

/-- Note the flags at the start of a cycle before the first change in it. -/
def State.openCycle (s : State) : State :=
  if s.pio.flagCycle = s.cycle then s
  else { s with pio := { s.pio with flagCycle := s.cycle, flagStart := s.f Reg.PIO_FLAGS Fld.PIO_FLAGS_FLAGS, flagSet := 0, flagTook := 0 } }

/-- Set the flags of a mask. -/
def State.setFlags (s : State) (m : Nat) : State :=
  let s := s.openCycle
  let s : State := { s with pio := { s.pio with flagSet := s.pio.flagSet ||| m } }
  s.setF Reg.PIO_FLAGS Fld.PIO_FLAGS_FLAGS (s.f Reg.PIO_FLAGS Fld.PIO_FLAGS_FLAGS ||| m)

/-- Clear the flags of a mask; a flag set in the same cycle ends set. -/
def State.clearFlags (s : State) (m : Nat) : State :=
  let s := s.openCycle
  s.setF Reg.PIO_FLAGS Fld.PIO_FLAGS_FLAGS
    (s.f Reg.PIO_FLAGS Fld.PIO_FLAGS_FLAGS &&& (65535 ^^^ (m &&& (65535 ^^^ (s.pio.flagSet &&& 65535))) &&& 65535))

/-- A WAIT with CLR consumes a flag: no other WAIT with CLR sees it in this cycle (R335). -/
def State.takeFlag (s : State) (index : Nat) : State :=
  let s := s.clearFlags (2 ^ index)
  { s with pio := { s.pio with flagTook := s.pio.flagTook ||| 2 ^ index } }

/-- Engine `e` runs, or has a bit to finish, and has its instruction ready in the cycle in hand. -/
def State.engReady (s : State) (e : Nat) : Bool :=
  s.clock.running && (s.flag (Reg.PIO_ECTL e) Fld.PIO_ECTL_RUN || s.midBit e) && s.f (Reg.PIO_ESTAT e) Fld.PIO_ESTAT_STATE != 3 &&
    (s.eng e).latched && decide ((s.eng e).readyAt ≤ s.cycle)

/-- Another engine has taken the flag in this cycle, or a lower-numbered one is about to (R335). -/
def State.flagTaken (s : State) (e index : Nat) : Bool :=
  (s.pio.flagCycle == s.cycle && hasBit s.pio.flagTook index) || (List.range e).any fun d => s.engReady d && decide (decodePio (s.eng d).ir = .waitFlag true true index)

/-! ## Execution (R330 to R333) -/

/-- What executing an instruction in one cycle comes to: it ends after a number of cycles, with a jump or without; it stalls for a cause; or a serial shift has moved some bits and goes on. -/
inductive Done where
  | ends (cycles : Nat) (jump : Option Nat)
  | stalls (cause : Nat)
  | shifts (cycles : Nat)
deriving DecidableEq, Repr

/-- SR of engine `e`. -/
def State.sr (s : State) (e : Nat) : Nat := (s.reg (Reg.PIO_ESR e)).toNat

/-- Shift SR left by `n` and add (IN), SC rising to 64 at most. -/
def State.srIn (s : State) (e n v : Nat) : State :=
  let s := s.setReg (Reg.PIO_ESR e) (BitVec.ofNat 64 (s.sr e * 2 ^ n + v % 2 ^ n))
  s.setF (Reg.PIO_ESTAT e) Fld.PIO_ESTAT_SC (min 64 (s.f (Reg.PIO_ESTAT e) Fld.PIO_ESTAT_SC + n))

/-- Shift SR right by `n` (OUT), SC falling to 0 at least. -/
def State.srOut (s : State) (e n : Nat) : State :=
  let s := s.setReg (Reg.PIO_ESR e) (BitVec.ofNat 64 (s.sr e / 2 ^ n))
  s.setF (Reg.PIO_ESTAT e) Fld.PIO_ESTAT_SC (s.f (Reg.PIO_ESTAT e) Fld.PIO_ESTAT_SC - n)

/-- Pins OFFSET to OFFSET + n − 1 as a number, OFFSET in bit 0. -/
def State.pinsOf (s : State) (e lands offset n : Nat) : Nat :=
  (List.range n).foldl (fun v i => if s.pinLevel lands (s.pinOf e (offset + i)) then v + 2 ^ i else v) 0

/-- DIN is full as an instruction of this cycle sees it (R336). -/
def State.dinSeen (s : State) (e : Nat) : Bool :=
  s.flag (Reg.PIO_ESTAT e) Fld.PIO_ESTAT_DIN_FULL && decide ((s.eng e).dinAt < s.cycle)

/-- A latch write at the end of a cycle that begins at tick `c` (R327); those that lie ahead wait in `edges`. -/
def State.latchAt (s : State) (e pin : Nat) (level : Bool) (at' : Nat) (last : Bool) : State :=
  { s with pio := { s.pio with edges := s.pio.edges ++ [⟨at', e, pin, level, last⟩] } }

/-- Condition of a JMP (R331). -/
def State.jmpTaken (s : State) (e lands cond arg : Nat) : Bool :=
  match cond with
  | 1 => s.pinLevel lands (s.pinOf e arg)
  | 2 => !s.pinLevel lands (s.pinOf e arg)
  | 3 => hasBit s.flagView arg
  | 4 => !hasBit s.flagView arg
  | 5 => s.f (Reg.PIO_ELC e) Fld.PIO_ELC_LC != 0
  | 6 => s.f (Reg.PIO_ESTAT e) Fld.PIO_ESTAT_SC == 0
  | 7 => s.f (Reg.PIO_ESTAT e) Fld.PIO_ESTAT_SC != 0
  | 9 => s.dinSeen e
  | 10 => !s.flag (Reg.PIO_ESTAT e) Fld.PIO_ESTAT_DOUT_FULL
  | _ => true

/-- Half-period H in ticks of ns (R332). -/
def State.halfNs (s : State) (e : Nat) : Nat := 4 * (s.f (Reg.PIO_ECTL e) Fld.PIO_ECTL_CLKDIV + 1)

/-- The engine's own clock for a bit whose low phase begins in the cycle at `start` (R332): the latch goes low at the end of that cycle and high half a bit later. -/
def State.ownClock (s : State) (e offset start : Nat) : State :=
  (s.latchAt e (s.pinOf e (offset + 1)) false (start + 4) false).latchAt e (s.pinOf e (offset + 1)) true (start + 4 + s.halfNs e) false

/-- SR takes the bit sampled. -/
def State.bitIn (s : State) (e : Nat) (b : Bool) : State := s.srIn e 1 (if b then 1 else 0)

/-- The latch of the data pin takes SR[0] at the end of the cycle at `start`. -/
def State.bitShown (s : State) (e offset start : Nat) : State := s.latchAt e (s.pinOf e offset) (hasBit (s.sr e) 0) (start + 4) false

/-- One bit has moved (R332). -/
def State.bitDone (s : State) (e : Nat) : State :=
  s.setF (Reg.PIO_ESTAT e) Fld.PIO_ESTAT_BITS_DONE (s.f (Reg.PIO_ESTAT e) Fld.PIO_ESTAT_BITS_DONE + 1)

/-- A whole serial shift on the engine's own clock, as an injected one runs (R332, R339). -/
def State.wholeShift (s : State) (e n offset : Nat) (out : Bool) (bits : List Bool) : State × Done :=
  let s' := (List.range n).foldl
    (fun s' i =>
      let start := s.cycle + i * (2 * s.halfNs e)
      if out then ((s'.bitShown e offset start).ownClock e offset start).srOut e 1
      else (s'.ownClock e offset start).bitIn e (bits.getD i false)) s
  (s', .ends (n * (2 * s.halfNs e / 4)) none)

/-- One cycle of a program's serial shift on the engine's own clock (R332): the first cycle of a bit starts its edges, and its last cycle moves it. -/
def State.shiftCycle (s : State) (e n offset : Nat) (out : Bool) (bit : Bool) : State × Done :=
  if !(s.eng e).shown then
    let s := if out then s.bitShown e offset s.cycle else s
    ((s.ownClock e offset s.cycle).setEng e (fun g => { g with shown := true }), .shifts (2 * s.halfNs e / 4 - 1))
  else
    let s := (if out then s.srOut e 1 else s.bitIn e bit).bitDone e
    if n ≤ s.f (Reg.PIO_ESTAT e) Fld.PIO_ESTAT_BITS_DONE then (s.setF (Reg.PIO_ESTAT e) Fld.PIO_ESTAT_BITS_DONE 0, .ends 1 none)
    else (s.setEng e (fun g => { g with shown := false }), .shifts 1)

/-- Bits taken on a clock from the far end (R332): `move` moves one; the instruction ends with the last, and stalls until then. -/
def State.runSerial (s : State) (e n count : Nat) (move : State → Nat → State) : State × Done :=
  let left := n - s.f (Reg.PIO_ESTAT e) Fld.PIO_ESTAT_BITS_DONE
  let s' := (List.range (min left count)).foldl (fun s i => (move s i).bitDone e) s
  if left ≤ count then (s'.setF (Reg.PIO_ESTAT e) Fld.PIO_ESTAT_BITS_DONE 0, .ends 1 none) else (s', .stalls 6)

/-- Execute an instruction of engine `e` in the cycle in hand: `lands` are the levels at the lands, `bits` the data bits that a serial IN samples, `edges` the far end's clock edges that a serial OUT sees. -/
def State.execPio (s : State) (e : Nat) (op : PioOp) (lands : Nat) (bits : List Bool) (edges : Nat) : State × Done :=
  let c := s.cycle
  match op with
  | .nop dly => (s, .ends (1 + dly) none)
  | .waitPin pol index => (s, if s.pinLevel lands (s.pinOf e index) == pol then .ends 1 none else .stalls 1)
  | .waitFlag pol clr index =>
    if hasBit s.flagView index == pol && !(pol && clr && s.flagTaken e index) then
      (if pol && clr then s.takeFlag index else s, .ends 1 none)
    else (s, .stalls 2)
  | .waitEvent index =>
    if hasBit (s.f (Reg.PIO_ESTAT e) Fld.PIO_ESTAT_LATCH) index then (s.clrBit (Reg.PIO_ESTAT e) Fld.PIO_ESTAT_LATCH index, .ends 1 none)
    else (s, .stalls 3)
  | .setPin offset level => (s.latchAt e (s.pinOf e offset) level (c + 4) false, .ends 1 none)
  | .setLc value => (s.setF (Reg.PIO_ELC e) Fld.PIO_ELC_LC value, .ends 1 none)
  | .setSrClear => ((s.setReg (Reg.PIO_ESR e) 0).setF (Reg.PIO_ESTAT e) Fld.PIO_ESTAT_SC 0, .ends 1 none)
  | .setEventClear mask => ((List.range 7).foldl (fun s i => if hasBit mask i then s.clrBit (Reg.PIO_ESTAT e) Fld.PIO_ESTAT_LATCH i else s) s, .ends 1 none)
  | .jmp cond arg target =>
    if s.jmpTaken e lands cond arg then
      let s' := if cond = 5 then s.setF (Reg.PIO_ELC e) Fld.PIO_ELC_LC (s.f (Reg.PIO_ELC e) Fld.PIO_ELC_LC - 1) else s
      (s', .ends 1 (some (if cond = 8 then (target + s.sr e % 2 ^ arg) % 32 else target)))
    else (s, .ends 1 none)
  | .outPins n offset =>
    (((List.range n).foldl (fun s' i => s'.latchAt e (s.pinOf e (offset + i)) (hasBit (s.sr e) i) (c + 4) false) s).srOut e n, .ends 1 none)
  | .outSerial n offset xclk =>
    if !xclk then s.wholeShift e n offset true bits
    else if !(s.eng e).shown then ((s.bitShown e offset c).setEng e (fun g => { g with shown := true }), .stalls 6)
    else
      s.runSerial e n edges fun s _ =>
        let s := s.srOut e 1
        if s.f (Reg.PIO_ESTAT e) Fld.PIO_ESTAT_BITS_DONE + 1 < n then s.bitShown e offset (c + 4) else s
  | .outDout n =>
    if s.flag (Reg.PIO_ESTAT e) Fld.PIO_ESTAT_DOUT_FULL then (s, .stalls 5)
    else (((s.setReg (Reg.PIO_DOUT e) (BitVec.ofNat 64 (s.sr e % 2 ^ n))).setB (Reg.PIO_ESTAT e) Fld.PIO_ESTAT_DOUT_FULL true).srOut e n, .ends 1 none)
  | .outLc n => ((s.setF (Reg.PIO_ELC e) Fld.PIO_ELC_LC (s.sr e % 2 ^ n)).srOut e n, .ends 1 none)
  | .inPins n offset => (s.srIn e n (s.pinsOf e lands offset n), .ends 1 none)
  | .inSerial n offset xclk =>
    if !xclk then s.wholeShift e n offset false bits else s.runSerial e n bits.length fun s i => s.bitIn e (bits.getD i false)
  | .inDin n =>
    if s.dinSeen e then ((s.srIn e n (s.reg (Reg.PIO_DIN e)).toNat).setB (Reg.PIO_ESTAT e) Fld.PIO_ESTAT_DIN_FULL false, .ends 1 none)
    else (s, .stalls 4)
  | .irqSet index go => (s.setFlags (2 ^ index), .ends 1 go)
  | .irqClear index go => (s.clearFlags (2 ^ index), .ends 1 go)
  | .irqHost index go => (s.setBit Reg.PIO_HOSTIRQ Fld.PIO_HOSTIRQ_HOST index, .ends 1 go)
  | .irqTimetable index go =>
    if index = 0 then (s.engineTrigger e (c + 6), .ends 1 go)
    else
      let s : State := { s with tt := { s.tt with inbox := s.tt.inbox ++ [⟨c + 6, e, index⟩] } }
      (s.setEng e fun g => { g with pd := if index = 3 then true else if index = 4 then false else g.pd }, .ends 1 go)
  | .pulse cycles offset pol =>
    ((s.latchAt e (s.pinOf e offset) pol (c + 4) false).latchAt e (s.pinOf e offset) (!pol) (c + 4 * (cycles + 1)) true, .ends (cycles + 1) none)
  | .illegal => (s, .ends 1 none)

/-- After an instruction of the program: PC moves, the next fetch is set for the last cycle, and STATE shows it (R328, R330). -/
def State.retire (s : State) (e : Nat) (r : Done) : State :=
  let c := s.cycle
  match r with
  | .ends n jump =>
    let pc := match jump with
      | some x => x
      | none => (s.f (Reg.PIO_ESTAT e) Fld.PIO_ESTAT_PC + 1) % 32
    let s := (s.setF (Reg.PIO_ESTAT e) Fld.PIO_ESTAT_PC pc).setF (Reg.PIO_ESTAT e) Fld.PIO_ESTAT_CAUSE 0
    (s.setF (Reg.PIO_ESTAT e) Fld.PIO_ESTAT_STATE 1).setEng e fun g =>
      { g with latched := false, fetchAt := some (c + 4 * (n - 1)), readyAt := c + 4 * n, shown := false }
  | .stalls k =>
    ((s.setF (Reg.PIO_ESTAT e) Fld.PIO_ESTAT_STATE 2).setF (Reg.PIO_ESTAT e) Fld.PIO_ESTAT_CAUSE k).setEng e fun g =>
      { g with readyAt := c + 4 }
  | .shifts n => (s.setF (Reg.PIO_ESTAT e) Fld.PIO_ESTAT_STATE 1).setEng e fun g => { g with readyAt := c + 4 * max 1 n }

/-- One engine cycle of engine `e`, for an instruction of the named kind: it executes the instruction it has latched when that is ready and of this kind. -/
def State.engineRuns (s : State) (e : Nat) (kind : PioOp → Bool) (lands : Nat) (bits : List Bool) (edges : Nat) : State :=
  let op := decodePio (s.eng e).ir
  if s.engReady e && kind op then
    let r := match op with
      | .outSerial n offset false => s.shiftCycle e n offset true false
      | .inSerial n offset false => s.shiftCycle e n offset false (bits.headD false)
      | _ => s.execPio e op lands bits edges
    (r.1.retire e r.2).pioSettle
  else s

/-- Engine instructions that sample pins record the levels at the lands. -/
def State.seeLands (s : State) (lands : BitVec 64) : State := { s with pio := { s.pio with lands := lands.toNat } }

/-! ## Control (R336 to R340) -/

/-- FAULT (R337): the engine has fetched an illegal instruction. -/
def State.engineFault (s : State) (e : Nat) : State :=
  if s.engReady e && decide (decodePio (s.eng e).ir = .illegal) then
    ((s.setF (Reg.PIO_ESTAT e) Fld.PIO_ESTAT_STATE 3).setB (Reg.PIO_ESTAT e) Fld.PIO_ESTAT_FAULT true).setEng e fun g => { g with latched := false }
  else s

/-- RESTART (R340, R333), at the next cycle boundary. -/
def State.engineRestart (s : State) (e : Nat) : State :=
  let c := s.cycle + 4
  let pulses := s.pio.edges.filter fun x => x.engine == e && x.last
  let s : State := { s with pio := { s.pio with edges := s.pio.edges.filter fun x => !(x.engine == e) } }
  let s := pulses.foldl (fun s x => s.writeLatch e x.pin x.level) s
  let s : State := if (s.eng e).pd then { s with tt := { s.tt with inbox := s.tt.inbox ++ [⟨c + 6, e, 4⟩] } } else s
  let w := s.reg (Reg.PIO_ESTAT e)
  let w := [Fld.PIO_ESTAT_CAUSE, Fld.PIO_ESTAT_SC, Fld.PIO_ESTAT_BITS_DONE, Fld.PIO_ESTAT_LATCH, Fld.PIO_ESTAT_DOUT_FULL, Fld.PIO_ESTAT_FAULT].foldl
    (fun w f => f.set w 0) w
  let w := Fld.PIO_ESTAT_PC.set w (s.f (Reg.PIO_ECTL e) Fld.PIO_ECTL_START)
  let run := s.flag (Reg.PIO_ECTL e) Fld.PIO_ECTL_RUN
  let s := s.setReg (Reg.PIO_ESTAT e) (Fld.PIO_ESTAT_STATE.set w (if run then 1 else 0))
  let s := (s.setReg (Reg.PIO_ESR e) 0).setReg (Reg.PIO_ELC e) 0
  s.setEng e fun g => { g with pd := false, latched := false, fetchAt := some c, readyAt := c + 4, shown := false }

/-- RUN from 0 to 1 (R340): a latched instruction resumes; otherwise the engine fetches at PC. -/
def State.engineRun (s : State) (e : Nat) : State :=
  if s.flag (Reg.PIO_ECTL e) Fld.PIO_ECTL_RUN then s
  else
    let s := s.setB (Reg.PIO_ECTL e) Fld.PIO_ECTL_RUN true
    if s.f (Reg.PIO_ESTAT e) Fld.PIO_ESTAT_STATE = 3 then s
    else
      let s := s.setF (Reg.PIO_ESTAT e) Fld.PIO_ESTAT_STATE (if s.f (Reg.PIO_ESTAT e) Fld.PIO_ESTAT_CAUSE = 0 then 1 else 2)
      if (s.eng e).latched || (s.eng e).fetchAt.isSome then s
      else s.setEng e fun g => { g with fetchAt := some (s.cycle + 4), readyAt := max g.readyAt (s.cycle + 8) }

/-- RUN from 1 to 0 (R340). -/
def State.engineStop (s : State) (e : Nat) : State := (s.setB (Reg.PIO_ECTL e) Fld.PIO_ECTL_RUN false).runStop e

/-- An injected instruction is refused (R339). -/
def State.injRefused (s : State) (e : Nat) (op : PioOp) : Bool :=
  match op with
  | .illegal => true
  | .waitPin _ _ => true
  | .waitFlag _ _ _ => true
  | .waitEvent _ => true
  | .inSerial _ _ x => x
  | .outSerial _ _ x => x
  | .inDin _ => !s.dinSeen e
  | .outDout _ => s.flag (Reg.PIO_ESTAT e) Fld.PIO_ESTAT_DOUT_FULL
  | _ => false

/-- A pending injection executes or is refused at the engine's next allowed boundary (R339). -/
def State.injectInstr (s : State) (e : Nat) (lands : Nat) (bits : List Bool) : State :=
  match (s.eng e).inj with
  | none => s
  | some w =>
    if s.clock.running && decide ((s.eng e).readyAt ≤ s.cycle) && !s.midBit e then
      let s := (s.setEng e fun g => { g with inj := none }).setB (Reg.PIO_ESTAT e) Fld.PIO_ESTAT_INJ_PEND false
      let op := decodePio w
      if s.injRefused e op then s.setB (Reg.PIO_ESTAT e) Fld.PIO_ESTAT_INJ_REFUSED true
      else
        let kept := s.f (Reg.PIO_ESTAT e) Fld.PIO_ESTAT_BITS_DONE
        let r := (s.setF (Reg.PIO_ESTAT e) Fld.PIO_ESTAT_BITS_DONE 0).execPio e op lands (bits ++ List.replicate 64 false) 64
        let s := r.1
        match r.2 with
        | .ends n (some pc) =>
          let s := (s.setF (Reg.PIO_ESTAT e) Fld.PIO_ESTAT_PC pc).setF (Reg.PIO_ESTAT e) Fld.PIO_ESTAT_BITS_DONE 0
          let s := if s.f (Reg.PIO_ESTAT e) Fld.PIO_ESTAT_STATE = 2 then
              (s.setF (Reg.PIO_ESTAT e) Fld.PIO_ESTAT_STATE 1).setF (Reg.PIO_ESTAT e) Fld.PIO_ESTAT_CAUSE 0 else s
          let stopped := s.f (Reg.PIO_ESTAT e) Fld.PIO_ESTAT_STATE = 0 ∨ s.f (Reg.PIO_ESTAT e) Fld.PIO_ESTAT_STATE = 3
          (s.setEng e fun g =>
            { g with
              latched := false, shown := false, fetchAt := if stopped then none else some (s.cycle + 4 * (n - 1)),
              readyAt := s.cycle + 4 * n }).pioSettle
        | .ends n none =>
          ((s.setF (Reg.PIO_ESTAT e) Fld.PIO_ESTAT_BITS_DONE kept).setEng e fun g => { g with readyAt := s.cycle + 4 * n }).pioSettle
        | _ => s.setF (Reg.PIO_ESTAT e) Fld.PIO_ESTAT_BITS_DONE kept
    else s

/-- A write to PIO_INJ offers an instruction, or is lost while one is pending (R339). -/
def State.offer (s : State) (e : Nat) (val : Word) : State :=
  if (s.eng e).inj.isSome then s.setB (Reg.PIO_ESTAT e) Fld.PIO_ESTAT_INJ_LOST true
  else (s.setEng e fun g => { g with inj := some (val.toNat % 65536) }).setB (Reg.PIO_ESTAT e) Fld.PIO_ESTAT_INJ_PEND true

/-- A write to PIO_DIN (R336). -/
def State.dinWrite (s : State) (e : Nat) (val : Word) : State :=
  if s.flag (Reg.PIO_ESTAT e) Fld.PIO_ESTAT_DIN_FULL then s.setB (Reg.PIO_ESTAT e) Fld.PIO_ESTAT_DIN_OVR true
  else
    ((s.setReg (Reg.PIO_DIN e) val).setB (Reg.PIO_ESTAT e) Fld.PIO_ESTAT_DIN_FULL true).setEng e fun g => { g with dinAt := s.cycle }

/-- A bank's supply falls below 1.0 V: its pins read 0 and its outputs are off (R394). -/
def State.bankLoss (s : State) (bank : Nat) : State :=
  { s with pio := { s.pio with dead := s.pio.dead.filter (fun b => !(b == bank)) ++ [bank] } }

/-- The supply is back (R394). -/
def State.bankReturn (s : State) (bank : Nat) : State :=
  { s with pio := { s.pio with dead := s.pio.dead.filter fun b => !(b == bank) } }

/-! ## The commands -/

/-- NOP (R330). -/
def execNop (t : Nat) (engine : Fin 16) (s : State) : Result :=
  .next ((s.pioAt t).engineRuns engine.val (fun | .nop _ => true | _ => false) s.pio.lands [] 0)

/-- JMP (R330, R331). -/
def execJmp (t : Nat) (engine : Fin 16) (lands : BitVec 64) (s : State) : Result :=
  .next (((s.pioAt t).seeLands lands).engineRuns engine.val (fun | .jmp _ _ _ => true | _ => false) lands.toNat [] 0)

/-- WAIT_PIN (R330). -/
def execWaitPin (t : Nat) (engine : Fin 16) (lands : BitVec 64) (s : State) : Result :=
  .next (((s.pioAt t).seeLands lands).engineRuns engine.val (fun | .waitPin _ _ => true | _ => false) lands.toNat [] 0)

/-- WAIT_FLAG (R330, R335). -/
def execWaitFlag (t : Nat) (engine : Fin 16) (s : State) : Result :=
  .next ((s.pioAt t).engineRuns engine.val (fun | .waitFlag _ _ _ => true | _ => false) s.pio.lands [] 0)

/-- WAIT_EVENT (R330, R334). -/
def execWaitEvent (t : Nat) (engine : Fin 16) (s : State) : Result :=
  .next ((s.pioAt t).engineRuns engine.val (fun | .waitEvent _ => true | _ => false) s.pio.lands [] 0)

/-- SET_PIN (R330). -/
def execSetPin (t : Nat) (engine : Fin 16) (s : State) : Result :=
  .next ((s.pioAt t).engineRuns engine.val (fun | .setPin _ _ => true | _ => false) s.pio.lands [] 0)

/-- SET_LC (R330). -/
def execSetLc (t : Nat) (engine : Fin 16) (s : State) : Result :=
  .next ((s.pioAt t).engineRuns engine.val (fun | .setLc _ => true | _ => false) s.pio.lands [] 0)

/-- SET_SR_CLEAR (R330). -/
def execSetSrClear (t : Nat) (engine : Fin 16) (s : State) : Result :=
  .next ((s.pioAt t).engineRuns engine.val (fun | .setSrClear => true | _ => false) s.pio.lands [] 0)

/-- SET_EVENT_CLEAR (R330). -/
def execSetEventClear (t : Nat) (engine : Fin 16) (s : State) : Result :=
  .next ((s.pioAt t).engineRuns engine.val (fun | .setEventClear _ => true | _ => false) s.pio.lands [] 0)

/-- IN_PINS (R330). -/
def execInPins (t : Nat) (engine : Fin 16) (lands : BitVec 64) (s : State) : Result :=
  .next (((s.pioAt t).seeLands lands).engineRuns engine.val (fun | .inPins _ _ => true | _ => false) lands.toNat [] 0)

/-- IN_DIN (R330, R336). -/
def execInDin (t : Nat) (engine : Fin 16) (s : State) : Result :=
  .next ((s.pioAt t).engineRuns engine.val (fun | .inDin _ => true | _ => false) s.pio.lands [] 0)

/-- IN_SERIAL (R332): one cycle of the shift. `bits` are the data bits sampled: with XCLK = 1 one for each edge of the far end's clock, with XCLK = 0 one in a bit's last cycle. -/
def execInSerial (t : Nat) (engine : Fin 16) (bits : List Bool) (s : State) : Result :=
  .next ((s.pioAt t).engineRuns engine.val (fun | .inSerial _ _ _ => true | _ => false) s.pio.lands bits 0)

/-- OUT_PINS (R330). -/
def execOutPins (t : Nat) (engine : Fin 16) (s : State) : Result :=
  .next ((s.pioAt t).engineRuns engine.val (fun | .outPins _ _ => true | _ => false) s.pio.lands [] 0)

/-- OUT_DOUT (R330, R336). -/
def execOutDout (t : Nat) (engine : Fin 16) (s : State) : Result :=
  .next ((s.pioAt t).engineRuns engine.val (fun | .outDout _ => true | _ => false) s.pio.lands [] 0)

/-- OUT_LC (R330). -/
def execOutLc (t : Nat) (engine : Fin 16) (s : State) : Result :=
  .next ((s.pioAt t).engineRuns engine.val (fun | .outLc _ => true | _ => false) s.pio.lands [] 0)

/-- OUT_SERIAL (R332): one cycle of the shift. `edges` is the number of edges seen of the far end's clock with XCLK = 1. -/
def execOutSerial (t : Nat) (engine : Fin 16) (edges : Nat) (s : State) : Result :=
  .next ((s.pioAt t).engineRuns engine.val (fun | .outSerial _ _ _ => true | _ => false) s.pio.lands [] edges)

/-- PULSE (R330). -/
def execPulse (t : Nat) (engine : Fin 16) (s : State) : Result :=
  .next ((s.pioAt t).engineRuns engine.val (fun | .pulse _ _ _ => true | _ => false) s.pio.lands [] 0)

/-- IRQ_SET_FLAG (R335). -/
def execIrqSetFlag (t : Nat) (engine : Fin 16) (s : State) : Result :=
  .next ((s.pioAt t).engineRuns engine.val (fun | .irqSet _ _ => true | _ => false) s.pio.lands [] 0)

/-- IRQ_CLEAR_FLAG (R335). -/
def execIrqClearFlag (t : Nat) (engine : Fin 16) (s : State) : Result :=
  .next ((s.pioAt t).engineRuns engine.val (fun | .irqClear _ _ => true | _ => false) s.pio.lands [] 0)

/-- IRQ_HOST (R330). -/
def execIrqHost (t : Nat) (engine : Fin 16) (s : State) : Result :=
  .next ((s.pioAt t).engineRuns engine.val (fun | .irqHost _ _ => true | _ => false) s.pio.lands [] 0)

/-- IRQ_TIMETABLE (R333). -/
def execIrqTimetable (t : Nat) (engine : Fin 16) (s : State) : Result :=
  .next ((s.pioAt t).engineRuns engine.val (fun | .irqTimetable _ _ => true | _ => false) s.pio.lands [] 0)

/-- ILLEGAL_INSTRUCTION (R337). -/
def execIllegalInstruction (t : Nat) (engine : Fin 16) (s : State) : Result := .next ((s.pioAt t).engineFault engine.val)

/-- ENGINE_RESTART (R340). -/
def execEngineRestart (t : Nat) (src : Src) (engine : Fin 16) (s : State) : Result :=
  .next ((s.pioAt t).managed src fun s => s.engineRestart engine.val)

/-- ENGINE_KICK (R334). -/
def execEngineKick (t : Nat) (src : Src) (engine : Fin 16) (s : State) : Result := .next ((s.pioAt t).managed src fun s => s.raiseEvent (some engine.val) 6 s.tick)

/-- DOUT_ACK (R336). -/
def execDoutAck (t : Nat) (src : Src) (engine : Fin 16) (s : State) : Result :=
  .next ((s.pioAt t).managed src fun s => s.setB (Reg.PIO_ESTAT engine.val) Fld.PIO_ESTAT_DOUT_FULL false)

/-- DIN_DROP (R336). -/
def execDinDrop (t : Nat) (src : Src) (engine : Fin 16) (s : State) : Result :=
  .next ((s.pioAt t).managed src fun s => s.setB (Reg.PIO_ESTAT engine.val) Fld.PIO_ESTAT_DIN_FULL false)

/-- PIO_DIN_WRITE (R336). -/
def execPioDinWrite (t : Nat) (src : Src) (engine : Fin 16) (val : Word) (s : State) : Result :=
  .next ((s.pioAt t).managed src fun s => s.dinWrite engine.val val)

/-- PIO_INJ_WRITE (R339). -/
def execPioInjWrite (t : Nat) (src : Src) (engine : Fin 16) (val : Word) (s : State) : Result :=
  .next ((s.pioAt t).managed src fun s => s.offer engine.val val)

/-- INJECTION_EXECUTE (R339): `bits` are the data bits that an injected serial IN samples. -/
def execInjectionExecute (t : Nat) (engine : Fin 16) (lands : BitVec 64) (bits : List Bool) (s : State) : Result :=
  .next (((s.pioAt t).seeLands lands).injectInstr engine.val lands.toNat bits)

/-- FLAG_SET (R335). -/
def execFlagSet (t : Nat) (src : Src) (val : Word) (s : State) : Result := .next ((s.pioAt t).managed src fun s => s.setFlags (val.toNat % 65536))

/-- FLAG_CLR (R335). -/
def execFlagClr (t : Nat) (src : Src) (val : Word) (s : State) : Result := .next ((s.pioAt t).managed src fun s => s.clearFlags (val.toNat % 65536))

/-- ENGINE_RUN (R340). -/
def execEngineRun (t : Nat) (src : Src) (engine : Fin 16) (s : State) : Result := .next ((s.pioAt t).managed src fun s => s.engineRun engine.val)

/-- ENGINE_STOP (R340). -/
def execEngineStop (t : Nat) (src : Src) (engine : Fin 16) (s : State) : Result := .next ((s.pioAt t).managed src fun s => s.engineStop engine.val)

/-- PIO_PROG_WRITE (R338). -/
def execPioProgWrite (t : Nat) (src : Src) (engine : Fin 16) (slot : Fin 32) (val : Word) (s : State) : Result :=
  .next ((s.pioAt t).managed src fun s => s.setF (Reg.PIO_PROG engine.val slot.val) Fld.PIO_PROG_INSTR val.toNat)

/-- BANK_SUPPLY_LOSS (R394). -/
def execBankSupplyLoss (t : Nat) (bank : Fin 2) (s : State) : Result := .next ((s.pioAt t).bankLoss bank.val)

/-- BANK_SUPPLY_RETURN (R394). -/
def execBankSupplyReturn (t : Nat) (bank : Fin 2) (s : State) : Result := .next ((s.pioAt t).bankReturn bank.val)

end Sys2Proof.Machine
end

