-- ==== Sys2Proof/Machine/Mgmt.lean ====
section
/-! DEFINITION. Management accesses (R9 to R15): what a read of a register returns, what it latches, and what a write to it does, each by the access type of its fields (R12), with the status a Witrig access answers (R358). The commands REGISTER_WRITE and ETH_ADDRESS_WRITE. -/

namespace Sys2Proof.Machine

/-! ## Reads -/

/-- The number of a register in its block. -/
def RegDef.index (d : RegDef) (a : Nat) : Nat :=
  match d.dims with
  | [] => 0
  | (_, st) :: _ => (a - d.base) / st

/-- The second number of a register in a block of two dimensions. -/
def RegDef.index2 (d : RegDef) (a : Nat) : Nat :=
  match d.dims with
  | (_, st) :: (_, st2) :: _ => (a - d.base) % st / st2
  | _ => 0

/-- A word of bits, one for each number below `n`. -/
def bitWord (n : Nat) (p : Nat → Bool) : Nat := (List.range n).foldl (fun w i => if p i then w + 2 ^ i else w) 0

/-- CC_CONV of converter `i` (R93, R97, R98, R100). -/
def State.convWord (s : State) (i : Nat) : Word :=
  let b := convBand i
  let n := s.rotCount b
  let w := Fld.CC_CONV_SPARE.set 0 (spareAfter n)
  let w := Fld.CC_CONV_POS1.set (Fld.CC_CONV_POS0.set w (sliceAfter n 0)) (sliceAfter n 1)
  let w := Fld.CC_CONV_POS3.set (Fld.CC_CONV_POS2.set w (sliceAfter n 2)) (sliceAfter n 3)
  let w := Fld.CC_CONV_ROT_COUNT.set (Fld.CC_CONV_INJ_PENDING.set w (if s.injOccupied b s.clock.tt then 1 else 0)) n
  match s.cc.lastInj.find? fun r => r.band == b with
  | none => w
  | some r => Fld.CC_CONV_LAST_REFSEL.set (Fld.CC_CONV_LAST_INJ.set w (r.of i)) r.refsel

/-- PIO_STATUS (R341). -/
def State.pioStatus (s : State) : Word :=
  let st := fun (e : Nat) => s.f (Reg.PIO_ESTAT e) Fld.PIO_ESTAT_STATE
  let w := Fld.PIO_STATUS_FAULT.set 0 (bitWord 16 fun e => st e == 3)
  let w := Fld.PIO_STATUS_STALLED.set w (bitWord 16 fun e => st e == 2)
  Fld.PIO_STATUS_RUNNING.set w (bitWord 16 fun e => s.flag (Reg.PIO_ECTL e) Fld.PIO_ECTL_RUN && st e != 3)

/-- A session's entry: IDLE_S counts seconds since its last accepted request (R391). -/
def State.sessWord (s : State) (i : Nat) : Word :=
  let w := s.reg (Reg.SEC_SESS i)
  match s.boot.sessions.find? fun x => x.slot == i with
  | none => w
  | some x => Fld.SEC_SESS_IDLE_S.set w (min 300 ((s.clock.now - x.lastAt) / 1000000000))

/-- EG_BCRED of bundle `b` as it stands now (R242, R248). -/
def State.credWord (s : State) (b : Nat) : Word :=
  let r := s.refill b
  let w := Fld.EG_BCRED_AVAIL_B.set (Fld.EG_BCRED_AVAIL_N.set 0 (s.avail b false)) (s.avail b true)
  Fld.EG_BCRED_P_TOKENS.set w ((r.bun b).tokens / 17920 / 1024)

/-- FS_STATUS with the berths as they stand (R200). -/
def State.storeWord (s : State) : Word :=
  Fld.FS_STATUS_HELD.set (Fld.FS_STATUS_FREE.set (s.reg Reg.FS_STATUS) s.freeCount) s.heldCount

/-- The statistics word at `a` for a source: its latched copy, or the newest complete one (R177). -/
def State.statWord (s : State) (src : Src) (a base : Nat) : Word :=
  match s.pipe.latches.find? fun l => decide (l.src = src) && l.base == base with
  | some l => Sparse.get resetWord l.words a
  | none => s.reg a

/-- Registers that show the state as it stands, or differ from source to source. -/
def State.viewWord (s : State) (src : Src) (d : RegDef) (a : Nat) : Word :=
  let i := d.index a
  if d.base = Reg.CC_CONV 0 then s.convWord i
  else if d.base = Reg.TT_MAP_USE 0 then RegFile.word s.gw.mapUsed (Reg.TT_MAP i)
  else if d.base = Reg.PIPE_STATS 0 0 then s.statWord src a (Reg.PIPE_STATS i 0)
  else if d.base = Reg.PIPE_MEAN 0 0 then s.statWord src a (Reg.PIPE_MEAN i 0)
  else if d.base = Reg.EG_BCRED 0 then s.credWord i
  else if d.base = Reg.LN_LPBITS 0 0 then s.bitsNow (.lane (Fin.ofNat 8 i) (Fin.ofNat 7 (d.index2 a)))
  else if d.base = Reg.FB_PPBITS 0 then s.bitsNow (.port (Fin.ofNat 8 i))
  else if d.base = Reg.SEC_SESS 0 then s.sessWord i
  else s.reg a

/-- TT_STATUS as read: THROTTLED ends on the first tick at which the berths a frame start lacked are free (R82). -/
def State.ttStatusWord (s : State) : Word :=
  if s.flag Reg.TT_STATUS Fld.TT_STATUS_THROTTLED && (s.reserveAll s.use s.tt.nextSeq s.tt.burst.isSome (throttleCtxs s.use)).isSome then
    Fld.TT_STATUS_THROTTLED.set (s.reg Reg.TT_STATUS) 0
  else s.reg Reg.TT_STATUS

/-- What a read of the register at `a` returns to a source (R10, R12); the write-only registers hold nothing and read 0. -/
def State.readWord (s : State) (src : Src) (d : RegDef) (a : Nat) : Word :=
  if a = Reg.FB_TIME then s.stamp
  else if a = Reg.HK_STATUS then Fld.HK_STATUS_CAL_BUSY.set (s.reg a) (if s.hkCalBusy then 1 else 0)
  else if a = Reg.TT_EVLOG_TIME then (match s.tt.log with | e :: _ => e.time | [] => 0)
  else if a = Reg.TT_EVLOG_INFO then (match s.tt.log with | e :: _ => e.info | [] => Fld.TT_EVLOG_INFO_LOST.set 0 (min s.tt.logLost 1023))
  else if a = Reg.CAL_STATUS then Fld.CAL_STATUS_ALL_CONV.set (s.reg a) (if s.allConverged then 1 else 0)
  else if a = Reg.PIPE_STATUS then Fld.PIPE_STATUS_BACKLOG.set (s.reg a) (if s.backlogNow then 1 else 0)
  else if a = Reg.TT_STATUS then s.ttStatusWord
  else if a = Reg.FS_STATUS then s.storeWord
  else if a = Reg.FS_RC_KEY then s.recallReg src 0
  else if a = Reg.FS_RC_LINES then s.recallReg src 1
  else if a = Reg.FS_RC_COLS then s.recallReg src 2
  else if a = Reg.FS_RC_RES then s.fs.results.headD 0
  else if a = Reg.FY_BUSY then BitVec.ofNat 64 (bitWord 32 s.fyBusy)
  else if a = Reg.PIO_STATUS then s.pioStatus
  else if a = Reg.PIO_IN then BitVec.ofNat 64 (bitWord 64 fun n => s.pinLevel s.pio.lands n)
  else s.viewWord src d a

/-- What a read latches (R177): word 0 of a statistics record the record, PIPE_MEAN_HDR the map of its slot. -/
def State.readEffect (s : State) (src : Src) (d : RegDef) (a : Nat) : State :=
  if d.base = Reg.PIPE_STATS 0 0 ∧ d.index2 a = 0 then s.latchRecord src (d.index a)
  else if d.base = Reg.PIPE_MEAN_HDR 0 then s.latchMean src (d.index a)
  else s

/-- Why an access at `a` fails, 0 where it does not (R9, R11, R358): the alignment check comes first. -/
def accessStatus (a : Nat) : Nat := if a % 8 ≠ 0 then 1 else if inWindow a then 0 else 2

/-- A management read: the state after it, its status and its value. -/
def State.mgmtRead (s : State) (src : Src) (a : Nat) : State × Nat × Word :=
  match accessStatus a with
  | 0 =>
    match regAt a with
    | none => (s, 0, 0)
    | some d =>
      let s := (if d.base < 0x7000000 ∨ 0x8000000 ≤ d.base then s else s.pioSettle).readEffect src d a
      (s, 0, s.readWord src d a)
  | e => (s, e, 0)

/-! ## Writes that act -/

/-- Whether a one-bit field of a written word is 1. -/
def Field.on (f : Field) (v : Word) : Bool := f.get v == 1

/-- Store a register but for one of its fields, which an operation then writes. -/
def State.storeBut (s : State) (a : Nat) (f : Field) (v : Word) : State := s.storeReg a (f.set v (s.f a f))

/-- Housekeeping registers (R102 to R104). -/
def State.writeHk (s : State) (a : Nat) (v : Word) : State :=
  if a = Reg.HK_CFG then
    (s.storeReg a v).hkSettings
  else if a = Reg.HK_SEQ then (s.storeReg a v).hkSettings
  else if a = Reg.HK_INJ then s.hkInject (Fld.HK_INJ_CHANNEL.get v) (Fld.HK_INJ_TAG.get v)
  else s.storeReg a v

/-- Clock registers (R312 to R322): a cleared GAVE_UP bit lets the purser try again (R318). -/
def State.writeCk (s : State) (d : RegDef) (a : Nat) (v : Word) : State :=
  let i := d.index a
  if a = Reg.CK_POLICY then
    let clr := ((List.range 12).filter fun k => hasBit (s.f a Fld.CK_POLICY_GAVE_UP) k && hasBit (Fld.CK_POLICY_GAVE_UP.get v) k)
    clr.foldl (fun s k => s.modLoop k fun x => { x with tries := 0 }) (s.storeReg a v)
  else if a = Reg.CK_GO then
    let s := if Fld.CK_GO_SYNC.on v then s.syncAt s.tick else s
    if Fld.CK_GO_ARM.on v then s.armSync else s
  else if d.base = Reg.CK_PLL 0 then s.pllWrite i v
  else if d.base = Reg.CK_BAND 0 then (s.storeReg a v).bandsChanged
  else if d.base = Reg.CK_OUT 0 then s.outWrite i v
  else s.storeReg a v

/-- Timetable registers without a shadow (R60, R64, R65, R83), and CC_INJ_REQ (R97). -/
def State.writeTt (s : State) (a : Nat) (v : Word) : State :=
  if a = Reg.TT_SW_TRIG then (if Fld.TT_SW_TRIG_FIRE.on v && s.trigSource 0 then s.trigger s.tick 0 else s)
  else if a = Reg.TT_SCHED_CTL then (if Fld.TT_SCHED_CTL_ARM.on v then s.armSched else s.setB Reg.TT_SCHED_CTL Fld.TT_SCHED_CTL_ARM false)
  else if a = Reg.TT_ENC_CTL then (if Fld.TT_ENC_CTL_ZERO.on v then s.encZero else s)
  else if a = Reg.TT_EVLOG_POP then (if Fld.TT_EVLOG_POP_POP.on v then s.evlogPop else s)
  else if a = Reg.CC_INJ_REQ then s.requestBands (Fld.CC_INJ_REQ_BANDS.get v) (Fld.CC_INJ_REQ_REFSEL.get v)
  else s.storeReg a v

/-- A source's copy of a recall register (R197). -/
def State.setRecall (s : State) (src : Src) (i : Nat) (d : RegDef) (v : Word) : State :=
  { s with fs := { s.fs with recallRegs := Sparse.put (fun _ => 0) s.fs.recallRegs (recallKey src i) (v &&& BitVec.ofNat 64 d.rw) } }

/-- Frame-store registers (R185, R197, R199). -/
def State.writeFs (s : State) (src : Src) (d : RegDef) (a : Nat) (v : Word) : State :=
  if a = Reg.FS_RC_KEY then s.setRecall src 0 d v
  else if a = Reg.FS_RC_LINES then s.setRecall src 1 d v
  else if a = Reg.FS_RC_COLS then s.setRecall src 2 d v
  else if a = Reg.FS_RC_GO then (if Fld.FS_RC_GO_GO.on v then s.recallGo src else s)
  else if a = Reg.FS_RC_POP then (if Fld.FS_RC_POP_POP.on v then s.recallPop else s)
  else if d.base = Reg.FS_BERTH 0 then s.berthWrite (d.index a) v
  else s.storeReg a v

/-- Ferry registers (R219, R220). -/
def State.writeFy (s : State) (d : RegDef) (a : Nat) (v : Word) : State :=
  let f := d.index a
  if d.base = Reg.FY_CTL 0 then
    let was := s.flag a Fld.FY_CTL_EN
    let s := s.storeBut a Fld.FY_CTL_EN v
    if Fld.FY_CTL_EN.on v then (if was then s else s.enableFerry f) else (if was then s.stopFerry f else s)
  else if d.base = Reg.FY_KICK 0 then s.kick f (Fld.FY_KICK_INDEX.get v) (Fld.FY_KICK_SET_POS.on v)
  else s.storeReg a v

/-- EG_BCTL of bundle `b` (R252, R253, R256, R273): LANE is stored, then each changed or written bit acts in the order of the bits. -/
def State.writeBctl (s : State) (b : Nat) (v : Word) : State :=
  let a := Reg.EG_BCTL b
  let lane := Fld.EG_BCTL_LANE.get v
  let en := Fld.EG_BCTL_EN.on v
  let stop := Fld.EG_BCTL_STOP.on v
  let wasEn := s.flag a Fld.EG_BCTL_EN
  let wasStop := s.flag a Fld.EG_BCTL_STOP
  let s := s.setF a Fld.EG_BCTL_LANE lane
  let s := if en && !wasEn then s.bunEnable b else if wasEn && !en then s.bunDisable b else s
  let s := if stop && !wasStop then s.bunStop b else if wasStop && !stop then s.bunGo b else s
  let s := if Fld.EG_BCTL_SHED.on v then s.askShed b lane else s
  if Fld.EG_BCTL_REJOIN.on v then s.rejoinCmd b lane else s

/-- LN_BCTL of bundle `b` (R270, R271, R274). -/
def State.writeLnBctl (s : State) (b : Nat) (v : Word) : State :=
  let a := Reg.LN_BCTL b
  let was := s.flag a Fld.LN_BCTL_MOOR_STOP
  let s := s.storeReg a v
  let on := s.flag a Fld.LN_BCTL_MOOR_STOP
  let s := if s.bunState b = 5 then
      (if on && !was then s.modBun b fun x => { x with moorRound := some x.round }
       else if was && !on then (if s.allMoored b then s.exitCause b else s.modBun b fun x => { x with moorRound := none })
       else s)
    else s
  s.laneFollow b

/-- LN_LCTL of lane `l` of bundle `b` (R260, R271). -/
def State.writeLctl (s : State) (b l : Nat) (v : Word) : State :=
  let a := Reg.LN_LCTL b l
  let was := s.flag a Fld.LN_LCTL_HOLD
  let s := s.storeReg a v
  let s := if was && !s.flag a Fld.LN_LCTL_HOLD && s.laneState b l == 6 then s.modLane b l fun x => { x with burstFrom := some s.clock.now } else s
  s.detectCheck b

/-- Egress and lane registers. -/
def State.writeEg (s : State) (d : RegDef) (a : Nat) (v : Word) : State :=
  let b := d.index a
  let l := d.index2 a
  if a = Reg.EG_CFG then ((List.range 8).foldl (fun s b => s.refill b) s).storeReg a v
  else if d.base = Reg.EG_BCTL 0 then s.writeBctl b v
  else if d.base = Reg.LN_BCTL 0 then s.writeLnBctl b v
  else if d.base = Reg.LN_LCTL 0 0 then s.writeLctl b l v
  else if d.base = Reg.LN_LTXEQ 0 0 then s.txeqWrite b l v
  else if d.base = Reg.LN_LTEST 0 0 then s.testWrite (.lane (Fin.ofNat 8 b) (Fin.ofNat 7 l)) v
  else if d.base = Reg.LN_LINJ 0 0 then s.injectLane (.lane (Fin.ofNat 8 b) (Fin.ofNat 7 l)) v
  else s.storeReg a v

/-- Fabric registers (R274 to R276, R282, R297, R300). -/
def State.writeFb (s : State) (d : RegDef) (a : Nat) (v : Word) : State :=
  let p := d.index a
  if a = Reg.FB_CFG then (List.range 8).foldl (fun s p => s.portFollow p) (s.storeReg a v)
  else if a = Reg.FB_GO then
    let s := if Fld.FB_GO_TRIG_FIRE.on v && s.bcastSource 0 then s.broadcast s.tick else s
    if Fld.FB_GO_TTS_SEND.on v then s.shareSend else s
  else if d.base = Reg.FB_PCTL 0 then ((s.storeReg a v).portFollow p).portCheck p
  else if d.base = Reg.FB_PTEST 0 then s.testWrite (.port (Fin.ofNat 8 p)) v
  else if d.base = Reg.FB_PINJ 0 then s.injectLane (.port (Fin.ofNat 8 p)) v
  else s.storeReg a v

/-- PIO_ECMD (R334, R336, R340): each bit acts, in the order of the bits. -/
def State.writeEcmd (s : State) (e : Nat) (v : Word) : State :=
  let s := if Fld.PIO_ECMD_RESTART.on v then s.engineRestart e else s
  let s := if Fld.PIO_ECMD_KICK.on v then s.raiseEvent (some e) 6 s.tick else s
  let s := if Fld.PIO_ECMD_DOUT_ACK.on v then s.setB (Reg.PIO_ESTAT e) Fld.PIO_ESTAT_DOUT_FULL false else s
  if Fld.PIO_ECMD_DIN_DROP.on v then s.setB (Reg.PIO_ESTAT e) Fld.PIO_ESTAT_DIN_FULL false else s

/-- PIO registers (R334 to R341). -/
def State.writePio (s : State) (d : RegDef) (a : Nat) (v : Word) : State :=
  let s := s.pioSettle
  let e := d.index a
  if a = Reg.PIO_FLAG_SET then s.setFlags (v.toNat % 65536)
  else if a = Reg.PIO_FLAG_CLR then s.clearFlags (v.toNat % 65536)
  else if d.base = Reg.PIO_ECTL 0 then
    let was := s.flag a Fld.PIO_ECTL_RUN
    let s := s.storeBut a Fld.PIO_ECTL_RUN v
    if Fld.PIO_ECTL_RUN.on v then s.engineRun e else if was then s.engineStop e else s
  else if d.base = Reg.PIO_ECMD 0 then s.writeEcmd e v
  else if d.base = Reg.PIO_DIN 0 then s.dinWrite e v
  else if d.base = Reg.PIO_INJ 0 then s.offer e v
  else s.storeReg a v

/-- ETH_IP, ETH_GW and IP_MODE take effect at once: the ARP cache is cleared and the address announced (R347). -/
def State.addressWrite (s : State) (a : Nat) (v : Word) : State :=
  let s := s.storeReg a v
  ({ s with eth := { s.eth with arp := [] } } : State).netStart.announce

/-- Ethernet registers (R347, R351). -/
def State.writeEth (s : State) (a : Nat) (v : Word) : State :=
  if a = Reg.ETH_CFG ∨ a = Reg.ETH_IP ∨ a = Reg.ETH_GW then s.addressWrite a v
  else if a = Reg.ETH_PTP_CFG then
    let was := s.reg a
    let s := s.storeReg a v
    if s.reg a = was then s else s.ptpRestart
  else s.storeReg a v

/-- CFG_FL_CMD (R381); a check finds what it finds: the four verdicts are free values. -/
def State.flCmd (s : State) (v : Word) : State :=
  match Fld.CFG_FL_CMD_OP.get v with
  | 1 => s.flashCommand 1 65536
  | 2 => s.flashCommand 2 4096
  | 3 => s.flashCommand 3 4096
  | 4 =>
    let b := fun (i : Nat) => Config.freeBool (s.free + i)
    ({ s with free := s.free + 4 } : State).flashCheck (Fld.CFG_FL_CMD_SLOT.get v) ⟨b 0, b 1, b 2, b 3⟩
  | _ => s

/-- Boot, flash, key and gangway registers (R142, R146, R376, R381, R382). -/
def State.writeCfg (s : State) (src : Src) (d : RegDef) (a : Nat) (v : Word) : State :=
  if a = Reg.CFG_BOOT_CTL then
    (if Fld.CFG_BOOT_CTL_ROLLBACK.on v then s.rollback
     else if Fld.CFG_BOOT_CTL_RESET.on v then s.askReset 2
     else if Fld.CFG_BOOT_CTL_CONFIRM.on v then s.confirm
     else s)
  else if a = Reg.CFG_FL_CMD then s.flCmd v
  else if d.base = Reg.CFG_FL_BUF 0 then s.bufWrite (d.index a) v
  else if a = Reg.SEC_KEY_CTL then
    let s := if Fld.SEC_KEY_CTL_ADD.on v then s.keyAdd else s
    if Fld.SEC_KEY_CTL_REVOKE.on v then s.keyRevoke (Fld.SEC_KEY_CTL_INDEX.get v) else s
  else if a = Reg.CFG_GW_COMMIT then
    (if Fld.CFG_GW_COMMIT_FORCE.on v then s.addCommit src s.forceActs
     else if Fld.CFG_GW_COMMIT_COMMIT.on v then s.addCommit src false
     else s)
  else s.storeReg a v

/-- What a write to a register does, by its access type and block (R12, R15). -/
def State.regWrite (s : State) (src : Src) (d : RegDef) (a : Nat) (v : Word) : State :=
  if d.shadowed then s.writeShadow a v
  else if a < 0x20000 then s.writeHk a v
  else if a < 0x40000 then s.writeCk d a v
  else if a < 0x2000000 then s.writeTt a v
  else if a < 0x3000000 then s.writeFs src d a v
  else if a < 0x4000000 then s.writeFy d a v
  else if a < 0x6000000 then s.writeEg d a v
  else if a < 0x7000000 then s.writeFb d a v
  else if a < 0x8000000 then s.writePio d a v
  else if a < 0x9000000 then s.writeEth a v
  else s.writeCfg src d a v

/-- A management write: the state after it and its status (R9, R11, R14, R358). -/
def State.mgmtWrite (s : State) (src : Src) (a : Nat) (v : Word) : State × Nat :=
  match accessStatus a with
  | 0 =>
    match regAt a with
    | none => (s, 0)
    | some d => if d.locked && s.bootLocked then (s, 3) else (s.regWrite src d a v, 0)
  | e => (s, e)

/-! ## The commands -/

/-- REGISTER_WRITE (R12). A write from a host or a tunnel is taken as one whose session has been checked: only the boot state decides whether it acts (DESIGN CHOICE, log entry 65). -/
def execRegisterWrite (t : Nat) (src : Src) (addr : Nat) (val : Word) (s : State) : Result :=
  .next ((s.advance t).managed src fun s => (s.mgmtWrite src addr val).1)

/-- ETH_ADDRESS_WRITE (R347): a write to ETH_IP, ETH_GW or ETH_CFG; any other address is no such write. -/
def execEthAddressWrite (t : Nat) (src : Src) (addr : Nat) (val : Word) (s : State) : Result :=
  .next ((s.advance t).managed src fun s => if addr = Reg.ETH_CFG ∨ addr = Reg.ETH_IP ∨ addr = Reg.ETH_GW then s.addressWrite addr val else s)

end Sys2Proof.Machine
end

