-- ==== Sys2Proof/Machine/Image.lean ====
section
/-! DEFINITION. Applying a configuration image (R372, R377, R378) and setting boot lock (R14). The command APPLY_IMAGE. -/

namespace Sys2Proof.Machine

/-- A little-endian number of the body of slot `i`. -/
def State.bodyNat (s : State) (i pos n : Nat) : Nat := s.header i (0x1000 + pos) n

/-- Write entries of a WRITES record (R372): none where one fails with ALIGN or ADDRESS; a write that resets the device ends the work. -/
def State.applyEntries (i : Nat) : Nat → Nat → State → Option State
  | 0, _, s => some s
  | n + 1, pos, s =>
    match s.mgmtWrite .purser (s.bodyNat i pos 4) (BitVec.ofNat 64 (s.bodyNat i (pos + 8) 8)) with
    | (s, 0) => if s.stage = 3 then State.applyEntries i n (pos + 16) s else some s
    | _ => none

/-- Write the words of a BLOCK record to consecutive registers from address `a` on. -/
def State.applyBlock (i : Nat) : Nat → Nat → Nat → State → Option State
  | 0, _, _, s => some s
  | n + 1, pos, a, s =>
    match s.mgmtWrite .purser a (BitVec.ofNat 64 (s.bodyNat i pos 8)) with
    | (s, 0) => if s.stage = 3 then State.applyBlock i n (pos + 8) (a + 8) s else some s
    | _ => none

/-- Apply the records of the body of slot `i` from `pos` on (R372, R378); none at a record error. `fuel` bounds their number. -/
def State.applyRecords (i len : Nat) : Nat → Nat → State → Option State
  | 0, _, _ => none
  | fuel + 1, pos, s =>
    let kind := s.bodyNat i pos 2
    let n := s.bodyNat i (pos + 4) 4
    let next := pos + 8 + n
    if s.stage ≠ 3 then some s
    else if len < next ∨ n % 8 ≠ 0 ∨ (kind = 1 ↔ pos ≠ 0) then none
    else if kind = 1 then (if n < 64 then none else State.applyRecords i len fuel next s)
    else if kind = 2 then
      (if n % 16 ≠ 0 then none
       else
        match State.applyEntries i (n / 16) (pos + 8) s with
        | some s => State.applyRecords i len fuel next s
        | none => none)
    else if kind = 3 then
      (if n < 8 then none
       else
        match State.applyBlock i (n / 8 - 1) (pos + 16) (s.bodyNat i (pos + 8) 4) s with
        | some s => State.applyRecords i len fuel next s
        | none => none)
    else if kind = 0xFF then (if n = 0 ∧ next = len then some s else none)
    else none

/-- LOAD_ERROR (R378): every erased ATTEMPT byte of the slot is programmed, and the device is reset with cause 7. -/
def State.loadError (s : State) (i : Nat) : State :=
  ([0x800, 0x801, 0x802].foldl (fun s o => if s.markSet i o then s else s.putMark i o) s).deviceReset 7

/-- The commit at the end of the start sequence: an idle gangway, since RUN = 0 is in use (R145, R378); none where R54 or R135 refuses it. -/
def State.bootCommit (s : State) : Option State :=
  let s := s.addCommit .purser false
  if (s.plan (s.tick + 8) s.tt.nextSeq).refusal.isSome then none else some (s.idleAt (s.tick + 8) false)

/-- BOOT_LOCK (R14, R367, R369): the last stage, and the external services start. -/
def State.lockBoot (s : State) : State :=
  let s := (s.setB Reg.CFG_BOOT_STAT Fld.CFG_BOOT_STAT_BOOT_LOCK true).setStage 4
  ({ s with boot := { s.boot with lockAt := s.clock.now } } : State).netStart

/-- How the boot of slot `i` is confirmed (R375): at boot lock, or by a host in time. -/
def State.awaitConfirm (s : State) (i : Nat) : State :=
  if s.markSet i 0x803 then s
  else if s.header i 0x1C 1 = 0 then s.confirmBoot
  else
    let by' := s.clock.now + s.header i 0x1D 1 * 10000000000
    ({ s with boot := { s.boot with confirmBy := by' } } : State).setB Reg.CFG_BOOT_STAT Fld.CFG_BOOT_STAT_CONFIRM_WAIT true

/-- What recovery writes in place of an image (R377). -/
def State.recoveryWrites (s : State) : State :=
  let s := (s.setF Reg.ETH_IP Fld.ETH_IP_ADDR 0xC0A80D2A).setF Reg.ETH_IP Fld.ETH_IP_PREFIX 24
  let s := (List.range 8).foldl (fun s b => s.setB (Reg.EG_BCTL b) Fld.EG_BCTL_EN false) s
  s.setF Reg.FB_CFG Fld.FB_CFG_PORT_EN 0

/-- APPLY_IMAGE (R377, R378): `secondOk` is whether the second reading of the body equals the first. -/
def State.applyImage (s : State) (secondOk : Bool) : State :=
  if !s.boot.inReset ∧ s.stage = 3 then
    match s.boot.booted with
    | none =>
      match s.recoveryWrites.bootCommit with
      | some s => s.lockBoot
      | none => s
    | some i =>
      let len := s.header i 0x18 4
      match if secondOk then State.applyRecords i len (len / 8 + 1) 0 s else none with
      | none => s.loadError i
      | some s =>
        if s.stage = 3 then
          (match s.bootCommit with
           | some s => s.lockBoot.awaitConfirm i
           | none => s.loadError i)
        else s
  else s

/-- APPLY_IMAGE (R378). -/
def execApplyImage (t : Nat) (secondOk : Bool) (s : State) : Result := .next ((s.advance t).applyImage secondOk)

end Sys2Proof.Machine
end

