-- ==== Sys2Proof/Machine/Witrig.lean ====
section
/-! DEFINITION. Witrig (R354 to R360), write sessions (R385 to R388) and attestation (R384). The commands WITRIG_REQUEST_RX, READ, WRITE, NODES, CHALLENGE, OPEN, CLOSE, ATTEST and SESSION_IDLE_TIMEOUT. -/

namespace Sys2Proof.Machine

/-! ## Requests and responses -/

/-- The bytes of a number, most significant byte first. -/
def beBytes (n v : Nat) : List Byte := (natBytes n v).reverse

/-- The bytes of a word, most significant byte first. -/
def beWord (w : Word) : List Byte := beBytes 8 w.toNat

/-- Requests that the Ethernet port queues (R354). -/
def reqQueue : Nat := 64

/-- Tunnelled requests in flight at an entry point (R305). -/
def tunnelMax : Nat := 16

/-- A request was taken from the queue of the Ethernet port. -/
def State.countReq (s : State) : State := s.addF Reg.ETH_WT_CNT Fld.ETH_WT_CNT_REQUESTS 1

/-- The node-table entry of an address (R306, R360). -/
def State.nodeOf (s : State) (dst : Nat) : Option Nat :=
  if dst = 0xFFF then none
  else
    (List.range 64).find? fun k =>
      let w := s.reg (Reg.FB_NODE_INFO k)
      Fld.FB_NODE_INFO_VALID.get w == 1 && Fld.FB_NODE_INFO_ADDR.get w == dst

/-- Carry a request to another device (R305, R360). -/
def State.tunnel (s : State) (m : WitrigMsg) (dst : Nat) : State :=
  if tunnelMax ≤ s.kf.flights.length ∨ s.routeTo dst = none then s.tunDrop
  else
    let h := s.kf.handle
    let s : State := { s with kf := { s.kf with handle := (h + 1) % 2 ^ 32, flights := s.kf.flights ++ [⟨h, m.ip.toNat, m.port.toNat⟩] } }
    s.showFlights.sendMgmt s.fabAddr dst 0 h (some m) none

/-- A request for this device waits for its execution; a malformed one is answered with FORMAT. -/
def State.takeLocal (s : State) (m : WitrigMsg) : State :=
  if witBad m then s.countReq.sendResp m.ip.toNat m.port.toNat (witFail m 4 false)
  else { s with eth := { s.eth with reqs := s.eth.reqs ++ [m] } }

/-- WITRIG_REQUEST_RX (R354, R355, R360): a datagram too short for a header gets no response. -/
def State.witrigRx (s : State) (m : WitrigMsg) (short : Bool) : State :=
  if !(s.rxOn && s.ipValid) ∨ short then s
  else if reqQueue ≤ s.eth.reqs.length then
    (s.satF Reg.ETH_WT_CNT Fld.ETH_WT_CNT_RX_DROP 1).setB Reg.ETH_STATUS Fld.ETH_STATUS_RX_DROP true
  else if m.magic ≠ 0x5754 ∨ m.version ≠ 1 then s.countReq.sendResp m.ip.toNat m.port.toNat (witFail m 4 false)
  else if hasBit m.flags.toNat 0 then s.takeLocal m
  else
    let dst := m.target.toNat % 4096
    match s.nodeOf dst with
    | none => s.countReq.sendResp m.ip.toNat m.port.toNat (witFail m 8 false)
    | some k => if s.flag (Reg.FB_NODE_INFO k) Fld.FB_NODE_INFO_SELF then s.takeLocal m else s.countReq.tunnel m dst

/-- The request in front of a source's queue; the purser sends none. -/
def State.headReq (s : State) (src : Src) : Option WitrigMsg :=
  match src with
  | .purser => none
  | .eth => s.eth.reqs.head?
  | .tunnel => s.kf.tunReqs.head?.map fun q => q.msg

/-- Answer the request in front of a source's queue (R305, R354). -/
def State.answer (s : State) (src : Src) (r : WitrigResp) : State :=
  match src with
  | .purser => s
  | .eth =>
    match s.eth.reqs with
    | [] => s
    | m :: rest => ({ s with eth := { s.eth with reqs := rest } } : State).countReq.sendResp m.ip.toNat m.port.toNat r
  | .tunnel =>
    match s.kf.tunReqs with
    | [] => s
    | q :: rest => ({ s with kf := { s.kf with tunReqs := rest } } : State).sendMgmt s.fabAddr q.entry 0 q.handle none (some r)

/-- Serve the request in front where it has this OPCODE, and this SUBOP for a SESSION request: EXPECT_DEVID is checked, then `f` gives the state and the response. -/
def State.serve (s : State) (src : Src) (op sub : Nat) (f : State → WitrigMsg → State × WitrigResp) : State :=
  match s.headReq src with
  | none => s
  | some m =>
    if m.opcode.toNat = op ∧ (op = 4 → witAt m 0 1 = sub) then
      (if m.expect ≠ 0 ∧ m.expect ≠ s.devid then s.answer src (witFail m 9 false)
       else
        let r := f s m
        r.1.answer src r.2)
    else s

/-! ## READ and NODES (R356, R357) -/

/-- Read `n` registers from address `a` on, up to the first access that fails: the state, the status and the values. -/
def State.witReads (src : Src) : Nat → Nat → State → List Word → State × Nat × List Word
  | 0, _, s, vs => (s, 0, vs)
  | n + 1, a, s, vs =>
    match s.mgmtRead src a with
    | (s, 0, v) => State.witReads src n (a + 8) s (vs ++ [v])
    | (s, e, _) => (s, e, vs)

/-- READ. -/
def State.witRead (s : State) (src : Src) (m : WitrigMsg) : State × WitrigResp :=
  let r := State.witReads src (witAt m 4 2) (witAt m 0 4) s []
  (r.1, witResp m r.2.1 false (beBytes 2 r.2.2.length ++ [0, 0] ++ r.2.2.flatMap beWord))

/-- NODES: the valid entries of the node table. -/
def State.witNodes (s : State) (m : WitrigMsg) : State × WitrigResp :=
  let ks := (List.range 64).filter fun k => s.flag (Reg.FB_NODE_INFO k) Fld.FB_NODE_INFO_VALID
  let entry := fun (k : Nat) =>
    let w := s.reg (Reg.FB_NODE_INFO k)
    beWord (s.reg (Reg.FB_NODE_ID k)) ++ beBytes 2 (Fld.FB_NODE_INFO_ADDR.get w) ++ beBytes 1 (Fld.FB_NODE_INFO_HOPS.get w) ++ List.replicate 5 0
  (s, witResp m 0 false (beBytes 2 ks.length ++ [0, 0] ++ ks.flatMap entry))

/-! ## Sessions (R385 to R388) -/

/-- The entry of the open session that a request names. -/
def State.sessionOf (s : State) (m : WitrigMsg) : Option Nat :=
  [0, 1, 2, 3].find? fun i =>
    s.flag (Reg.SEC_SESS i) Fld.SEC_SESS_OPEN && s.f (Reg.SEC_SESS i) Fld.SEC_SESS_SESSION == m.session.toNat && m.session != 0

/-- The bytes of a request, without what the datagram around it says. -/
def witBytes (m : WitrigMsg) : WitrigMsg := { m with ip := 0, port := 0, tagOk := true, keyOk := true, sigOk := true, pointOk := true }

/-- Change the session in entry `i`. -/
def State.modSession (s : State) (i : Nat) (f : Session → Session) : State :=
  { s with boot := { s.boot with sessions := s.boot.sessions.map fun x => if x.slot == i then f x else x } }

/-- Run an authenticated request (R358, R359, R387, R388): without a session NO_SESSION, without a good tag AUTH; a repeat of the last accepted request returns its response again, an old counter or other bytes REPLAY. An accepted request records its CTR, runs, and its response is kept. -/
def State.authentic (s : State) (m : WitrigMsg) (f : State → State × WitrigResp) : State × WitrigResp :=
  match s.sessionOf m with
  | none => (s, witFail m 5 false)
  | some i =>
    let last := (s.reg (Reg.SEC_SESS_CTR i)).toNat
    let sess := s.boot.sessions.find? fun x => x.slot == i
    if !hasBit m.flags.toNat 1 ∨ !m.tagOk then (s, witFail m 6 false)
    else if last < m.ctr.toNat then
      let s := (s.setReg (Reg.SEC_SESS_CTR i) m.ctr).modSession i fun x => { x with lastAt := s.clock.now, lastReq := some (witBytes m), lastResp := none }
      let r := f s
      let s := r.1.modSession i fun x => { x with lastResp := some r.2 }
      (if m.ctr.toNat = 2 ^ 64 - 1 then s.closeSession i else s, r.2)
    else
      match sess with
      | some x =>
        match x.lastResp with
        | some r => if m.ctr.toNat = last ∧ x.lastReq = some (witBytes m) then (s, r) else (s, witFail m 7 true)
        | none => (s, witFail m 7 true)
      | none => (s, witFail m 7 true)

/-- Perform the entries of a WRITE from number `k` on, up to the first that fails: the state, those done and the status. A write that resets the device ends the request. -/
def State.witWrites (src : Src) (m : WitrigMsg) : Nat → Nat → State → State × Nat × Nat
  | 0, k, s => (s, k, 0)
  | n + 1, k, s =>
    match s.mgmtWrite src (witAt m (4 + 16 * k) 4) (BitVec.ofNat 64 (witAt m (12 + 16 * k) 8)) with
    | (s, 0) => if s.bootLocked then State.witWrites src m n (k + 1) s else (s, k + 1, 0)
    | (s, e) => (s, k, e)

/-- WRITE (R357, R359). -/
def State.witWrite (s : State) (src : Src) (m : WitrigMsg) : State × WitrigResp :=
  s.authentic m fun s =>
    let r := State.witWrites src m (witAt m 0 2) 0 s
    (r.1, witResp m r.2.2 true (beBytes 2 r.2.1 ++ [0, 0]))

/-- The first word of a SESSION body (R385). -/
def subWord (sub : Nat) : List Byte := beBytes 1 sub ++ [0, 0, 0]

/-- CHALLENGE (R386): a fresh nonce; of nine challenges the oldest goes. -/
def State.witChallenge (s : State) (m : WitrigMsg) : State × WitrigResp :=
  let nonce := (List.range 4).map fun i => Config.freeWord (s.free + i)
  let id := s.boot.chalId
  let l := s.boot.challenges ++ [⟨id, nonce, s.clock.now⟩]
  let s : State := { s with free := s.free + 4, boot := { s.boot with chalId := (id + 1) % 2 ^ 32, challenges := l.drop (l.length - 8) } }
  (s, witResp m 0 false (subWord 1 ++ beBytes 4 id ++ nonce.flatMap beWord))

/-- The entry for a new session: a closed one, or the one whose last accepted request is oldest (R388). -/
def State.sessionSlot (s : State) : Nat :=
  match [0, 1, 2, 3].find? fun i => !s.flag (Reg.SEC_SESS i) Fld.SEC_SESS_OPEN with
  | some i => i
  | none =>
    let old := s.boot.sessions.foldl (fun (a : Option Session) x =>
      match a with | none => some x | some y => if x.lastAt < y.lastAt then some x else some y) none
    match old with | some x => x.slot | none => 0

/-- OPEN (R386, R388): the challenge is consumed in either case. -/
def State.witOpen (s : State) (m : WitrigMsg) : State × WitrigResp :=
  let k := witAt m 4 1
  let id := witAt m 8 4
  let ch := s.boot.challenges.find? fun c => c.id == id
  let s : State := { s with boot := { s.boot with challenges := s.boot.challenges.filter fun c => c.id != id } }
  let fresh := match ch with | some c => decide (s.clock.now ≤ c.at' + 10000000000) | none => false
  if fresh && decide (k < 4) && s.keyUsable k && m.keyOk && m.sigOk && m.pointOk then
    let i := s.sessionSlot
    let s := s.closeSession i
    let session := s.freshNat % (2 ^ 32 - 1) + 1
    let w := Fld.SEC_SESS_OPEN.set (Fld.SEC_SESS_KEY_IDX.set (Fld.SEC_SESS_SESSION.set 0 session) k) 1
    let s := (s.used.setReg (Reg.SEC_SESS i) w).setReg (Reg.SEC_SESS_CTR i) 0
    let s : State := { s with free := s.free + 128, boot := { s.boot with sessions := s.boot.sessions ++ [{ slot := i, lastAt := s.clock.now }] } }
    (s, witResp m 0 false (subWord 2 ++ beBytes 4 session ++ freeBytes (s.free - 128) 128))
  else (s, witFail m 6 false)

/-- CLOSE (R388). -/
def State.witClose (s : State) (m : WitrigMsg) : State × WitrigResp :=
  s.authentic m fun s =>
    (match s.sessionOf m with | some i => s.closeSession i | none => s, witResp m 0 true (subWord 3))

/-- ATTEST (R384): digests and the signature are free values, and so are KEY_IDX and GOOD in recovery. -/
def State.witAttest (s : State) (m : WitrigMsg) : State × WitrigResp :=
  let free := freeBytes s.free 98
  let s : State := { s with free := s.free + 98 }
  let locked := if s.bootLocked then 2 else 0
  let dev := beWord s.devid
  let body := match s.boot.booted with
    | some i =>
      dev ++ beBytes 1 i ++ beBytes 1 (s.header i 0xF 1) ++ beBytes 1 (locked + (if s.markSet i 0x803 then 4 else 0)) ++ [0] ++
        beBytes 4 (s.header i 8 4) ++ s.flashBytes (s.slotBase i + 0x20) 32
    | none =>
      dev ++ [0xFF] ++ free.drop 97 ++ beBytes 1 (1 + locked + 4 * ((free.getD 96 0).toNat % 2)) ++ [0] ++ List.replicate 36 0
  (s, witResp m 0 false (subWord 4 ++ body ++ free.take 96))

/-- SESSION_IDLE_TIMEOUT (R388): 300 s without an accepted request. -/
def State.sessionIdle (s : State) (i : Nat) : State :=
  match s.boot.sessions.find? fun x => x.slot == i with
  | none => s
  | some x => if x.lastAt + 300000000000 ≤ s.clock.now then s.closeSession i else s

/-! ## The commands -/

/-- WITRIG_REQUEST_RX (R354, R360). -/
def execWitrigRequestRx (t : Nat) (msg : WitrigMsg) (short : Bool) (s : State) : Result := .next ((s.advance t).witrigRx msg short)

/-- READ (R356, R357): the request in front of the source's queue; `lands` are the levels at the PIO lands, which PIO_IN shows. -/
def execRead (t : Nat) (src : Src) (lands : BitVec 64) (s : State) : Result :=
  .next (((s.advance t).seeLands lands).serve src 1 0 fun s m => s.witRead src m)

/-- WRITE (R357, R359). -/
def execWrite (t : Nat) (src : Src) (s : State) : Result := .next ((s.advance t).serve src 2 0 fun s m => s.witWrite src m)

/-- NODES (R356). -/
def execNodes (t : Nat) (src : Src) (s : State) : Result := .next ((s.advance t).serve src 3 0 fun s m => s.witNodes m)

/-- CHALLENGE (R386). -/
def execChallenge (t : Nat) (src : Src) (s : State) : Result := .next ((s.advance t).serve src 4 1 fun s m => s.witChallenge m)

/-- OPEN (R386). -/
def execOpenSession (t : Nat) (src : Src) (s : State) : Result := .next ((s.advance t).serve src 4 2 fun s m => s.witOpen m)

/-- CLOSE (R388). -/
def execCloseSession (t : Nat) (src : Src) (s : State) : Result := .next ((s.advance t).serve src 4 3 fun s m => s.witClose m)

/-- ATTEST (R384). -/
def execAttest (t : Nat) (src : Src) (s : State) : Result := .next ((s.advance t).serve src 4 4 fun s m => s.witAttest m)

/-- SESSION_IDLE_TIMEOUT (R388). -/
def execSessionIdleTimeout (t : Nat) (session : Fin 4) (s : State) : Result := .next ((s.advance t).sessionIdle session.val)

end Sys2Proof.Machine
end

