-- ==== Sys2Proof/Machine/Dispatch.lean ====
section
/-! DEFINITION. The dispatch: one arm per command, each one call of its meaning. -/

namespace Sys2Proof.Machine

/-- What a command does to everything but the queue. -/
def exec (i : Instr) (s : State) : Host.Outcome State Fault Refusal :=
  match i with
  | .registerWrite t src addr val => Sys2Proof.Machine.execRegisterWrite t src addr val s
  | .shadowWrite t src addr val => Sys2Proof.Machine.execShadowWrite t src addr val s
  | .commit t src => Sys2Proof.Machine.execCommit t src s
  | .force t src => Sys2Proof.Machine.execForce t src s
  | .gangwaySwap t => Sys2Proof.Machine.execGangwaySwap t s
  | .idleGangway t => Sys2Proof.Machine.execIdleGangway t s
  | .gridInstant t => Sys2Proof.Machine.execGridInstant t s
  | .exposureStart t => Sys2Proof.Machine.execExposureStart t s
  | .exposureTransfer t conv charges => Sys2Proof.Machine.execExposureTransfer t conv charges s
  | .manifestCompletion t => Sys2Proof.Machine.execManifestCompletion t s
  | .conversionPassStart t => Sys2Proof.Machine.execConversionPassStart t s
  | .sliceRotation t => Sys2Proof.Machine.execSliceRotation t s
  | .tapStep t => Sys2Proof.Machine.execTapStep t s
  | .rowSlotStart slot => Sys2Proof.Machine.execRowSlotStart slot s
  | .sampleDelivery t => Sys2Proof.Machine.execSampleDelivery t s
  | .conversionEnd t => Sys2Proof.Machine.execConversionEnd t s
  | .lineRelease t ctx line reads => Sys2Proof.Machine.execLineRelease t ctx line reads s
  | .lineEnterLanding t => Sys2Proof.Machine.execLineEnterLanding t s
  | .statsSnapshot t => Sys2Proof.Machine.execStatsSnapshot t s
  | .mapDerivationDone t => Sys2Proof.Machine.execMapDerivationDone t s
  | .seamSend t right slot rslot half => Sys2Proof.Machine.execSeamSend t right slot rslot half s
  | .seamRx t msg => Sys2Proof.Machine.execSeamRx t msg s
  | .seamWaitTimeout t => Sys2Proof.Machine.execSeamWaitTimeout t s
  | .swTrigFire t src => Sys2Proof.Machine.execSwTrigFire t src s
  | .triggerPinEdge t pin edge bcast => Sys2Proof.Machine.execTriggerPinEdge t pin edge bcast s
  | .schedArm t src => Sys2Proof.Machine.execSchedArm t src s
  | .scheduledFire t => Sys2Proof.Machine.execScheduledFire t s
  | .deferredStart t => Sys2Proof.Machine.execDeferredStart t s
  | .encoderCount t engine up => Sys2Proof.Machine.execEncoderCount t engine up s
  | .encoderZero t src => Sys2Proof.Machine.execEncoderZero t src s
  | .fabricTriggerArrival t => Sys2Proof.Machine.execFabricTriggerArrival t s
  | .subExposureStart t => Sys2Proof.Machine.execSubExposureStart t s
  | .subTimeout t => Sys2Proof.Machine.execSubTimeout t s
  | .stripStart t => Sys2Proof.Machine.execStripStart t s
  | .partDetectEdge t level => Sys2Proof.Machine.execPartDetectEdge t level s
  | .evlogPop t src => Sys2Proof.Machine.execEvlogPop t src s
  | .exposureMapWrite t src word val => Sys2Proof.Machine.execExposureMapWrite t src word val s
  | .injReq t src bands refsel => Sys2Proof.Machine.execInjReq t src bands refsel s
  | .injectedConversionStart t band => Sys2Proof.Machine.execInjectedConversionStart t band s
  | .injectedResult t band code others => Sys2Proof.Machine.execInjectedResult t band code others s
  | .hkEntryDone t value => Sys2Proof.Machine.execHkEntryDone t value s
  | .hkInj t src channel tag => Sys2Proof.Machine.execHkInj t src channel tag s
  | .hkInjDone t code => Sys2Proof.Machine.execHkInjDone t code s
  | .hkCalibration t ok => Sys2Proof.Machine.execHkCalibration t ok s
  | .calBatchDone t conv mean => Sys2Proof.Machine.execCalBatchDone t conv mean s
  | .calTapWrite t src conv slice val => Sys2Proof.Machine.execCalTapWrite t src conv slice val s
  | .unloaderSend t turn => Sys2Proof.Machine.execUnloaderSend t turn s
  | .mirrorWriteTimeout t berth => Sys2Proof.Machine.execMirrorWriteTimeout t berth s
  | .berthTableWrite t src berth val => Sys2Proof.Machine.execBerthTableWrite t src berth val s
  | .recallGo t src => Sys2Proof.Machine.execRecallGo t src s
  | .recallRun turn => Sys2Proof.Machine.execRecallRun turn s
  | .recallPop t src => Sys2Proof.Machine.execRecallPop t src s
  | .statsRecordLatch t src ctx => Sys2Proof.Machine.execStatsRecordLatch t src ctx s
  | .meanMapLatch t src slot => Sys2Proof.Machine.execMeanMapLatch t src slot s
  | .ferryKick t src ferry index setPos => Sys2Proof.Machine.execFerryKick t src ferry index setPos s
  | .ferryStop t src ferry => Sys2Proof.Machine.execFerryStop t src ferry s
  | .ferryEnable t src ferry => Sys2Proof.Machine.execFerryEnable t src ferry s
  | .descriptorFetch t ferry => Sys2Proof.Machine.execDescriptorFetch t ferry s
  | .pacingWaitEnd t ferry => Sys2Proof.Machine.execPacingWaitEnd t ferry s
  | .sourceLineMove t turn => Sys2Proof.Machine.execSourceLineMove t turn s
  | .descriptorWriteback t ferry => Sys2Proof.Machine.execDescriptorWriteback t ferry s
  | .deliveryReport t ferry => Sys2Proof.Machine.execDeliveryReport t ferry s
  | .ferryPoll t ferry => Sys2Proof.Machine.execFerryPoll t ferry s
  | .chainHandover t ferry => Sys2Proof.Machine.execChainHandover t ferry s
  | .chainRunAbort t ferry => Sys2Proof.Machine.execChainRunAbort t ferry s
  | .packetTransmit t bundle => Sys2Proof.Machine.execPacketTransmit t bundle s
  | .alignRound t bundle stuffed => Sys2Proof.Machine.execAlignRound t bundle stuffed s
  | .returnRx t bundle bits => Sys2Proof.Machine.execReturnRx t bundle bits s
  | .ackTimeout t bundle => Sys2Proof.Machine.execAckTimeout t bundle s
  | .capSend t bundle => Sys2Proof.Machine.execCapSend t bundle s
  | .capRx t bundle bits => Sys2Proof.Machine.execCapRx t bundle bits s
  | .shedRound t bundle => Sys2Proof.Machine.execShedRound t bundle s
  | .bundleShedCmd t src bundle lane => Sys2Proof.Machine.execBundleShedCmd t src bundle lane s
  | .rejoinRound t bundle => Sys2Proof.Machine.execRejoinRound t bundle s
  | .bundleRejoinCmd t src bundle lane => Sys2Proof.Machine.execBundleRejoinCmd t src bundle lane s
  | .blindTimeout t bundle => Sys2Proof.Machine.execBlindTimeout t bundle s
  | .creditStallTimeout t bundle isB => Sys2Proof.Machine.execCreditStallTimeout t bundle isB s
  | .bundleStop t src bundle => Sys2Proof.Machine.execBundleStop t src bundle s
  | .bundleStopClear t src bundle => Sys2Proof.Machine.execBundleStopClear t src bundle s
  | .bundleEnable t src bundle => Sys2Proof.Machine.execBundleEnable t src bundle s
  | .bundleDisable t src bundle => Sys2Proof.Machine.execBundleDisable t src bundle s
  | .detectStep t lane present => Sys2Proof.Machine.execDetectStep t lane present s
  | .trainingFrameRx t bundle msg => Sys2Proof.Machine.execTrainingFrameRx t bundle msg s
  | .countdownEnd t group => Sys2Proof.Machine.execCountdownEnd t group s
  | .trainTimeout t bundle => Sys2Proof.Machine.execTrainTimeout t bundle s
  | .lockTimeout t bundle => Sys2Proof.Machine.execLockTimeout t bundle s
  | .capTimeout t bundle => Sys2Proof.Machine.execCapTimeout t bundle s
  | .frameLockGain t lane => Sys2Proof.Machine.execFrameLockGain t lane s
  | .frameLockLoss t lane => Sys2Proof.Machine.execFrameLockLoss t lane s
  | .blockLockGain t lane => Sys2Proof.Machine.execBlockLockGain t lane s
  | .blockLockLoss t lane => Sys2Proof.Machine.execBlockLockLoss t lane s
  | .retrainBurst t bundle lane => Sys2Proof.Machine.execRetrainBurst t bundle lane s
  | .rejoinRetryTimeout t bundle lane => Sys2Proof.Machine.execRejoinRetryTimeout t bundle lane s
  | .laneMoor t bundle => Sys2Proof.Machine.execLaneMoor t bundle s
  | .moorExit t bundle => Sys2Proof.Machine.execMoorExit t bundle s
  | .burstEnd t bundle => Sys2Proof.Machine.execBurstEnd t bundle s
  | .txeqWrite t src bundle lane val => Sys2Proof.Machine.execTxeqWrite t src bundle lane val s
  | .errorInject t src lane val => Sys2Proof.Machine.execErrorInject t src lane val s
  | .checkerLock t lane => Sys2Proof.Machine.execCheckerLock t lane s
  | .checkerLockLoss t lane errors => Sys2Proof.Machine.execCheckerLockLoss t lane errors s
  | .portTrainingFrameRx t port msg => Sys2Proof.Machine.execPortTrainingFrameRx t port msg s
  | .portTrainTimeout t port => Sys2Proof.Machine.execPortTrainTimeout t port s
  | .portLockTimeout t port => Sys2Proof.Machine.execPortLockTimeout t port s
  | .helloSend t port => Sys2Proof.Machine.execHelloSend t port s
  | .helloRx t port msg => Sys2Proof.Machine.execHelloRx t port msg s
  | .adjacencyTimeout t port => Sys2Proof.Machine.execAdjacencyTimeout t port s
  | .lsaSend t => Sys2Proof.Machine.execLsaSend t s
  | .lsaRx t port msg => Sys2Proof.Machine.execLsaRx t port msg s
  | .lsaExpiry t devid => Sys2Proof.Machine.execLsaExpiry t devid s
  | .assignSend t => Sys2Proof.Machine.execAssignSend t s
  | .assignRx t port msg => Sys2Proof.Machine.execAssignRx t port msg s
  | .timeSend t port => Sys2Proof.Machine.execTimeSend t port s
  | .timeRx t port msg => Sys2Proof.Machine.execTimeRx t port msg s
  | .trigFire t src => Sys2Proof.Machine.execTrigFire t src s
  | .trigRx t port msg => Sys2Proof.Machine.execTrigRx t port msg s
  | .shareSend t src => Sys2Proof.Machine.execShareSend t src s
  | .shareRx t port msg => Sys2Proof.Machine.execShareRx t port msg s
  | .shareCommit t => Sys2Proof.Machine.execShareCommit t s
  | .mgmtRx t port msg => Sys2Proof.Machine.execMgmtRx t port msg s
  | .referenceLoss t lane => Sys2Proof.Machine.execReferenceLoss t lane s
  | .referenceReturn t lane => Sys2Proof.Machine.execReferenceReturn t lane s
  | .pllConfigWrite t src loop val => Sys2Proof.Machine.execPllConfigWrite t src loop val s
  | .bandTryTimeout t loop => Sys2Proof.Machine.execBandTryTimeout t loop s
  | .acquisitionCheckPass t loop diff => Sys2Proof.Machine.execAcquisitionCheckPass t loop diff s
  | .lockWindowEnd t loop diff => Sys2Proof.Machine.execLockWindowEnd t loop diff s
  | .lockdetCrossing t high => Sys2Proof.Machine.execLockdetCrossing t high s
  | .pllFlagAutoClear t loop => Sys2Proof.Machine.execPllFlagAutoClear t loop s
  | .refFlagAutoClear t lane => Sys2Proof.Machine.execRefFlagAutoClear t lane s
  | .pllAutoRestart t loop => Sys2Proof.Machine.execPllAutoRestart t loop s
  | .clockOutputWrite t src out val => Sys2Proof.Machine.execClockOutputWrite t src out val s
  | .syncinEdge t => Sys2Proof.Machine.execSyncinEdge t s
  | .ckSync t src => Sys2Proof.Machine.execCkSync t src s
  | .ckArm t src => Sys2Proof.Machine.execCkArm t src s
  | .armedSyncFire t => Sys2Proof.Machine.execArmedSyncFire t s
  | .nop t engine => Sys2Proof.Machine.execNop t engine s
  | .jmp t engine lands => Sys2Proof.Machine.execJmp t engine lands s
  | .waitPin t engine lands => Sys2Proof.Machine.execWaitPin t engine lands s
  | .waitFlag t engine => Sys2Proof.Machine.execWaitFlag t engine s
  | .waitEvent t engine => Sys2Proof.Machine.execWaitEvent t engine s
  | .setPin t engine => Sys2Proof.Machine.execSetPin t engine s
  | .setLc t engine => Sys2Proof.Machine.execSetLc t engine s
  | .setSrClear t engine => Sys2Proof.Machine.execSetSrClear t engine s
  | .setEventClear t engine => Sys2Proof.Machine.execSetEventClear t engine s
  | .inPins t engine lands => Sys2Proof.Machine.execInPins t engine lands s
  | .inDin t engine => Sys2Proof.Machine.execInDin t engine s
  | .inSerial t engine bits => Sys2Proof.Machine.execInSerial t engine bits s
  | .outPins t engine => Sys2Proof.Machine.execOutPins t engine s
  | .outDout t engine => Sys2Proof.Machine.execOutDout t engine s
  | .outLc t engine => Sys2Proof.Machine.execOutLc t engine s
  | .outSerial t engine edges => Sys2Proof.Machine.execOutSerial t engine edges s
  | .pulse t engine => Sys2Proof.Machine.execPulse t engine s
  | .irqSetFlag t engine => Sys2Proof.Machine.execIrqSetFlag t engine s
  | .irqClearFlag t engine => Sys2Proof.Machine.execIrqClearFlag t engine s
  | .irqHost t engine => Sys2Proof.Machine.execIrqHost t engine s
  | .irqTimetable t engine => Sys2Proof.Machine.execIrqTimetable t engine s
  | .illegalInstruction t engine => Sys2Proof.Machine.execIllegalInstruction t engine s
  | .engineRestart t src engine => Sys2Proof.Machine.execEngineRestart t src engine s
  | .engineKick t src engine => Sys2Proof.Machine.execEngineKick t src engine s
  | .doutAck t src engine => Sys2Proof.Machine.execDoutAck t src engine s
  | .dinDrop t src engine => Sys2Proof.Machine.execDinDrop t src engine s
  | .pioDinWrite t src engine val => Sys2Proof.Machine.execPioDinWrite t src engine val s
  | .pioInjWrite t src engine val => Sys2Proof.Machine.execPioInjWrite t src engine val s
  | .injectionExecute t engine lands bits => Sys2Proof.Machine.execInjectionExecute t engine lands bits s
  | .flagSet t src val => Sys2Proof.Machine.execFlagSet t src val s
  | .flagClr t src val => Sys2Proof.Machine.execFlagClr t src val s
  | .engineRun t src engine => Sys2Proof.Machine.execEngineRun t src engine s
  | .engineStop t src engine => Sys2Proof.Machine.execEngineStop t src engine s
  | .pioProgWrite t src engine slot val => Sys2Proof.Machine.execPioProgWrite t src engine slot val s
  | .bankSupplyLoss t bank => Sys2Proof.Machine.execBankSupplyLoss t bank s
  | .linkUp t modAbs rxLos txFault => Sys2Proof.Machine.execLinkUp t modAbs rxLos txFault s
  | .linkDown t modAbs rxLos txFault => Sys2Proof.Machine.execLinkDown t modAbs rxLos txFault s
  | .witrigRequestRx t msg short => Sys2Proof.Machine.execWitrigRequestRx t msg short s
  | .read t src lands => Sys2Proof.Machine.execRead t src lands s
  | .write t src => Sys2Proof.Machine.execWrite t src s
  | .nodes t src => Sys2Proof.Machine.execNodes t src s
  | .challenge t src => Sys2Proof.Machine.execChallenge t src s
  | .openSession t src => Sys2Proof.Machine.execOpenSession t src s
  | .closeSession t src => Sys2Proof.Machine.execCloseSession t src s
  | .attest t src => Sys2Proof.Machine.execAttest t src s
  | .sessionIdleTimeout t session => Sys2Proof.Machine.execSessionIdleTimeout t session s
  | .dhcpRx t msg => Sys2Proof.Machine.execDhcpRx t msg s
  | .dhcpFallbackTimeout t => Sys2Proof.Machine.execDhcpFallbackTimeout t s
  | .dhcpLeaseExpiry t => Sys2Proof.Machine.execDhcpLeaseExpiry t s
  | .ethAddressWrite t src addr val => Sys2Proof.Machine.execEthAddressWrite t src addr val s
  | .arpRx t msg => Sys2Proof.Machine.execArpRx t msg s
  | .arpRetryTimeout t ip => Sys2Proof.Machine.execArpRetryTimeout t ip s
  | .arpAnnounce t => Sys2Proof.Machine.execArpAnnounce t s
  | .arpEntryAgeout t ip => Sys2Proof.Machine.execArpEntryAgeout t ip s
  | .icmpEchoRequest t msg => Sys2Proof.Machine.execIcmpEchoRequest t msg s
  | .ptpAnnounceRx t msg => Sys2Proof.Machine.execPtpAnnounceRx t msg s
  | .ptpSyncRx t msg => Sys2Proof.Machine.execPtpSyncRx t msg s
  | .ptpFollowUpRx t msg => Sys2Proof.Machine.execPtpFollowUpRx t msg s
  | .ptpDelayReqSend t => Sys2Proof.Machine.execPtpDelayReqSend t s
  | .ptpDelayRespRx t msg => Sys2Proof.Machine.execPtpDelayRespRx t msg s
  | .ptpAnnounceTimeout t => Sys2Proof.Machine.execPtpAnnounceTimeout t s
  | .ethFrameTransmit t => Sys2Proof.Machine.execEthFrameTransmit t s
  | .previewDatagramSend t => Sys2Proof.Machine.execPreviewDatagramSend t s
  | .powerOn t => Sys2Proof.Machine.execPowerOn t s
  | .brownOut t => Sys2Proof.Machine.execBrownOut t s
  | .resetNLow t held => Sys2Proof.Machine.execResetNLow t held s
  | .watchdogTimeout t => Sys2Proof.Machine.execWatchdogTimeout t s
  | .romStage t => Sys2Proof.Machine.execRomStage t s
  | .imageSelection t sfdpOk density mhz verdicts => Sys2Proof.Machine.execImageSelection t sfdpOk density mhz verdicts s
  | .stagedStartEvent t => Sys2Proof.Machine.execStagedStartEvent t s
  | .applyImage t secondOk => Sys2Proof.Machine.execApplyImage t secondOk s
  | .portRelease t => Sys2Proof.Machine.execPortRelease t s
  | .resetCmd t src => Sys2Proof.Machine.execResetCmd t src s
  | .rollback t src => Sys2Proof.Machine.execRollback t src s
  | .confirm t src => Sys2Proof.Machine.execConfirm t src s
  | .confirmTimeout t => Sys2Proof.Machine.execConfirmTimeout t s
  | .thermalRecoveryBoot t => Sys2Proof.Machine.execThermalRecoveryBoot t s
  | .flashErase t src => Sys2Proof.Machine.execFlashErase t src s
  | .flashProgram t src => Sys2Proof.Machine.execFlashProgram t src s
  | .flashRead t src => Sys2Proof.Machine.execFlashRead t src s
  | .flashCheck t src slot verdict => Sys2Proof.Machine.execFlashCheck t src slot verdict s
  | .flashCommandDone t failed => Sys2Proof.Machine.execFlashCommandDone t failed s
  | .keyAdd t src => Sys2Proof.Machine.execKeyAdd t src s
  | .keyRevoke t src entry => Sys2Proof.Machine.execKeyRevoke t src entry s
  | .otpProgramDone t => Sys2Proof.Machine.execOtpProgramDone t s
  | .extest t resetLow => Sys2Proof.Machine.execExtest t resetLow s
  | .idcode t => Sys2Proof.Machine.execIdcode t s
  | .samplePreload t bsr => Sys2Proof.Machine.execSamplePreload t bsr s
  | .clamp t resetLow => Sys2Proof.Machine.execClamp t resetLow s
  | .highz t resetLow => Sys2Proof.Machine.execHighz t resetLow s
  | .bypass t => Sys2Proof.Machine.execBypass t s
  | .bankSupplyReturn t bank => Sys2Proof.Machine.execBankSupplyReturn t bank s
  | .dhcpClientTimer t => Sys2Proof.Machine.execDhcpClientTimer t s
  | .testLogicReset t => Sys2Proof.Machine.execTestLogicReset t s

end Sys2Proof.Machine
end

