-- ==== Sys2Proof/Safety.lean ====
section
/-! DEFINITION. What counts as a sound state and a safe step of the model, and the words in which frames are stated: the parts of the state, the footprint of a command, and what a command that keeps to its footprint leaves as it was. -/

namespace Sys2Proof.Machine

/-! ## Sound states -/

/-- The register file is canonical. -/
def State.regsWf (s : State) : Bool := Sparse.wf resetWord s.regs

/-- The frame store's bytes are canonical. -/
def Memory.wf (m : List Host.Cell) : Bool := Sparse.wf zeroByte m

/-- The configuration flash's bytes are canonical. -/
def Flash.wf (m : List Host.Cell) : Bool := Sparse.wf erasedByte m

/-- One-time-programmable memory has the sizes the spec gives it: 64 band entries (R312), four image keys of four words (R382), a public key of eight and a certificate of 128 words (R391). -/
def Otp.wf (o : Otp) : Prop :=
  o.bands.length = 64 ∧ o.keys.length = 4 ∧ (∀ e ∈ o.keys, e.hash.length = 4) ∧ o.pub.length = 8 ∧ o.cert.length = 128

/-- One-time-programmable memory but for its key entries: what no command can change. -/
def Otp.fuses (o : Otp) : Otp := { o with keys := [] }

/-- No key entry is lost: one that was programmed or revoked is so still (R382). -/
def keysKept (l l' : List OtpKey) : Prop :=
  ∀ (i : Nat) (e : OtpKey), l[i]? = some e → ∃ e' : OtpKey, l'[i]? = some e' ∧ (e.programmed = true → e'.programmed = true) ∧ (e.revoked = true → e'.revoked = true)

/-- A sound state: every sparse map is in its one canonical form, one-time-programmable memory has its sizes, there are 32 ferries and 8 bundles, and ID_PART and ID_DEVID hold what is fused (R3, R16, R17). -/
structure State.Sound (s : State) : Prop where
  regs : s.regsWf = true
  dram : Memory.wf s.dram = true
  flash : Flash.wf s.flash = true
  otp : s.otp.wf
  ferries : s.fy.length = 32
  bundles : s.eg.length = 8
  part : s.reg Reg.ID_PART = BitVec.ofNat 64 (0x4C53134200000100 + s.otp.variant * 2 ^ 24)
  devid : s.reg Reg.ID_DEVID = s.otp.devid

/-- A step that neither faults nor is refused. -/
def goesOn (r : Host.Outcome State Fault Refusal) : Prop := ∃ s, r = .next s

/-! ## Parts and footprints -/

/-- A part of the state: a field of State (lower case); every register but ID_PART and ID_DEVID (`anyReg`); the registers with bits that a management write can change (`stored`, whose number is the address); ID_PART and ID_DEVID (`ids`); or the registers of one block, under the block's name. -/
inductive Part where
  | clock | gw | tt | px | cc | cal | hk | pipe | fs | dram | fy | eg | prev | pio | kf | ck | eth | boot | otp
  | flash | wire | free | anyReg | stored | ids | ID_SCRATCH | PWR_STAT | PWR_SUP | PWR_LIM | HK_CFG | HK_SEQ
  | HK_INJ | HK_STATUS | HK_INJ_RES | HK_RES | CK_STATUS | CK_POLICY | CK_GO | CK_SYNC_AT | CK_SYNC_TIME | CK_PLL
  | CK_PSTAT | CK_BAND | CK_OUT | TT_MODE | TT_EXP_A | TT_EXP_B | TT_PERIOD | TT_ANCHOR | TT_TRIG_CFG
  | TT_TRIG_DELAY | TT_SW_TRIG | TT_SCHED_TIME | TT_SCHED_CTL | TT_ENC_CFG | TT_ENC_POS | TT_ENC_NEXT | TT_ENC_CTL
  | TT_ACCUM | TT_BURST | TT_STRIP | TT_MAP_CFG | TT_MAP_SRC | TT_STATUS | TT_CNT_TRIG | TT_CNT_FRAME
  | TT_EVLOG_TIME | TT_EVLOG_INFO | TT_EVLOG_POP | TT_PIX_CFG | TT_MAP | TT_MAP_USE | CC_CFG | CC_ROT_CFG
  | CC_INJ_CFG | CC_INJ_REQ | CC_STATUS | CC_CNT | CC_CONV | CAL_CFG | CAL_STATUS | CAL_EPOCH | CAL_CNT | CAL_TAP
  | CAL_REC | CAL_TIME | CTX_CTL | CTX_WIN | CTX_DEST | CTX_CHAIN | CTX_ST0 | CTX_ST1 | PIPE_CFG | PIPE_NR
  | PIPE_CLAMP | PIPE_HDR | PIPE_STATUS | PIPE_CNT | PIPE_LOAD | PIPE_BLACK | PIPE_CURVE | PIPE_CURVE_OFS
  | PIPE_DEFECT | PIPE_FPN | PIPE_STATS | PIPE_MEAN_HDR | PIPE_MEAN | FS_CFG | FS_STATUS | FS_CNT | FS_MIRROR
  | FS_RC_KEY | FS_RC_LINES | FS_RC_COLS | FS_RC_GO | FS_RC_RES | FS_RC_POP | FS_BERTH | FS_BSTATE | FY_DONE
  | FY_ERR | FY_BUSY | FY_CTL | FY_KICK | FY_STAT | FY_LAST | FY_TIME | FY_CNT | FY_DLV | FY_DLVT | FY_DESC
  | EG_CFG | EG_STATUS | EG_BCTL | EG_BSTAT | EG_BCAP | EG_BCNT0 | EG_BCNT1 | EG_BCRED | EG_BTIME | LN_CFG
  | LN_STATUS | LN_BCTL | LN_BSTAT | LN_LCTL | LN_LSTAT | LN_LTXEQ | LN_LTEST | LN_LINJ | LN_LPERR | LN_LPBITS
  | LN_LCNT | FB_CFG | FB_STATUS | FB_ROOT | FB_TIME | FB_TSTAT | FB_TRIG_CFG | FB_TRIG_CNT | FB_TTS_CFG | FB_GO
  | FB_TTS_STAT | FB_TUN_CNT | FB_PCTL | FB_PSTAT | FB_PDELAY | FB_PCNT | FB_PTEST | FB_PINJ | FB_PPERR | FB_PPBITS
  | FB_NODE_ID | FB_NODE_INFO | PIO_STATUS | PIO_IN | PIO_OUT | PIO_FLAGS | PIO_FLAG_SET | PIO_FLAG_CLR
  | PIO_HOSTIRQ | PIO_PIN | PIO_ECTL | PIO_ECMD | PIO_ESTAT | PIO_ESR | PIO_ELC | PIO_DIN | PIO_DOUT | PIO_INJ
  | PIO_PROG | ETH_CFG | ETH_STATUS | ETH_MAC | ETH_IP | ETH_GW | ETH_IP_ACT | ETH_PTP_CFG | ETH_PTP_STAT
  | ETH_PTP_GM | ETH_PTP_OFS | ETH_PREV_CFG | ETH_PREV_DST | ETH_PREV_STAT | ETH_PREV_CNT | ETH_WT_CNT
  | CFG_BOOT_STAT | CFG_BOOT_CTL | CFG_SLOT | CFG_FL_INFO | CFG_FL_ADDR | CFG_FL_CMD | CFG_FL_STAT | CFG_FL_BUF
  | SEC_KEY | SEC_KEY_ST | SEC_KEY_NEW | SEC_KEY_CTL | SEC_KEY_STAT | SEC_ID_PUB | SEC_ID_CERT_LEN | SEC_ID_CERT
  | SEC_SESS | SEC_SESS_CTR | CFG_GW_COMMIT | CFG_GW_STATUS | CFG_GW_GEN | CFG_GW_CTIME | CFG_GW_ITIME
  | CFG_MAN_HEAD | CFG_MAN
deriving DecidableEq, Repr

/-- The address of a block's register by its numbers. -/
def Part.addr (p : Part) (i j : Nat) : Option Nat :=
  match p with
  | .clock | .gw | .tt | .px | .cc | .cal | .hk | .pipe | .fs | .dram | .fy | .eg | .prev | .pio | .kf | .ck | .eth
  | .boot | .otp | .flash | .wire | .free | .anyReg | .stored | .ids => none
  | .ID_SCRATCH => some Reg.ID_SCRATCH
  | .PWR_STAT => some Reg.PWR_STAT
  | .PWR_SUP => some Reg.PWR_SUP
  | .PWR_LIM => some (Reg.PWR_LIM i)
  | .HK_CFG => some Reg.HK_CFG
  | .HK_SEQ => some Reg.HK_SEQ
  | .HK_INJ => some Reg.HK_INJ
  | .HK_STATUS => some Reg.HK_STATUS
  | .HK_INJ_RES => some (Reg.HK_INJ_RES i)
  | .HK_RES => some (Reg.HK_RES i)
  | .CK_STATUS => some Reg.CK_STATUS
  | .CK_POLICY => some Reg.CK_POLICY
  | .CK_GO => some Reg.CK_GO
  | .CK_SYNC_AT => some Reg.CK_SYNC_AT
  | .CK_SYNC_TIME => some Reg.CK_SYNC_TIME
  | .CK_PLL => some (Reg.CK_PLL i)
  | .CK_PSTAT => some (Reg.CK_PSTAT i)
  | .CK_BAND => some (Reg.CK_BAND i)
  | .CK_OUT => some (Reg.CK_OUT i)
  | .TT_MODE => some Reg.TT_MODE
  | .TT_EXP_A => some Reg.TT_EXP_A
  | .TT_EXP_B => some Reg.TT_EXP_B
  | .TT_PERIOD => some Reg.TT_PERIOD
  | .TT_ANCHOR => some Reg.TT_ANCHOR
  | .TT_TRIG_CFG => some Reg.TT_TRIG_CFG
  | .TT_TRIG_DELAY => some Reg.TT_TRIG_DELAY
  | .TT_SW_TRIG => some Reg.TT_SW_TRIG
  | .TT_SCHED_TIME => some Reg.TT_SCHED_TIME
  | .TT_SCHED_CTL => some Reg.TT_SCHED_CTL
  | .TT_ENC_CFG => some Reg.TT_ENC_CFG
  | .TT_ENC_POS => some Reg.TT_ENC_POS
  | .TT_ENC_NEXT => some Reg.TT_ENC_NEXT
  | .TT_ENC_CTL => some Reg.TT_ENC_CTL
  | .TT_ACCUM => some Reg.TT_ACCUM
  | .TT_BURST => some Reg.TT_BURST
  | .TT_STRIP => some Reg.TT_STRIP
  | .TT_MAP_CFG => some Reg.TT_MAP_CFG
  | .TT_MAP_SRC => some Reg.TT_MAP_SRC
  | .TT_STATUS => some Reg.TT_STATUS
  | .TT_CNT_TRIG => some Reg.TT_CNT_TRIG
  | .TT_CNT_FRAME => some Reg.TT_CNT_FRAME
  | .TT_EVLOG_TIME => some Reg.TT_EVLOG_TIME
  | .TT_EVLOG_INFO => some Reg.TT_EVLOG_INFO
  | .TT_EVLOG_POP => some Reg.TT_EVLOG_POP
  | .TT_PIX_CFG => some Reg.TT_PIX_CFG
  | .TT_MAP => some (Reg.TT_MAP i)
  | .TT_MAP_USE => some (Reg.TT_MAP_USE i)
  | .CC_CFG => some Reg.CC_CFG
  | .CC_ROT_CFG => some Reg.CC_ROT_CFG
  | .CC_INJ_CFG => some Reg.CC_INJ_CFG
  | .CC_INJ_REQ => some Reg.CC_INJ_REQ
  | .CC_STATUS => some Reg.CC_STATUS
  | .CC_CNT => some Reg.CC_CNT
  | .CC_CONV => some (Reg.CC_CONV i)
  | .CAL_CFG => some Reg.CAL_CFG
  | .CAL_STATUS => some Reg.CAL_STATUS
  | .CAL_EPOCH => some Reg.CAL_EPOCH
  | .CAL_CNT => some Reg.CAL_CNT
  | .CAL_TAP => some (Reg.CAL_TAP i j)
  | .CAL_REC => some (Reg.CAL_REC i)
  | .CAL_TIME => some (Reg.CAL_TIME i)
  | .CTX_CTL => some (Reg.CTX_CTL i)
  | .CTX_WIN => some (Reg.CTX_WIN i)
  | .CTX_DEST => some (Reg.CTX_DEST i)
  | .CTX_CHAIN => some (Reg.CTX_CHAIN i)
  | .CTX_ST0 => some (Reg.CTX_ST0 i)
  | .CTX_ST1 => some (Reg.CTX_ST1 i)
  | .PIPE_CFG => some Reg.PIPE_CFG
  | .PIPE_NR => some Reg.PIPE_NR
  | .PIPE_CLAMP => some Reg.PIPE_CLAMP
  | .PIPE_HDR => some Reg.PIPE_HDR
  | .PIPE_STATUS => some Reg.PIPE_STATUS
  | .PIPE_CNT => some Reg.PIPE_CNT
  | .PIPE_LOAD => some Reg.PIPE_LOAD
  | .PIPE_BLACK => some (Reg.PIPE_BLACK i j)
  | .PIPE_CURVE => some (Reg.PIPE_CURVE i j)
  | .PIPE_CURVE_OFS => some (Reg.PIPE_CURVE_OFS i)
  | .PIPE_DEFECT => some (Reg.PIPE_DEFECT i)
  | .PIPE_FPN => some (Reg.PIPE_FPN i)
  | .PIPE_STATS => some (Reg.PIPE_STATS i j)
  | .PIPE_MEAN_HDR => some (Reg.PIPE_MEAN_HDR i)
  | .PIPE_MEAN => some (Reg.PIPE_MEAN i j)
  | .FS_CFG => some Reg.FS_CFG
  | .FS_STATUS => some Reg.FS_STATUS
  | .FS_CNT => some Reg.FS_CNT
  | .FS_MIRROR => some (Reg.FS_MIRROR i)
  | .FS_RC_KEY => some Reg.FS_RC_KEY
  | .FS_RC_LINES => some Reg.FS_RC_LINES
  | .FS_RC_COLS => some Reg.FS_RC_COLS
  | .FS_RC_GO => some Reg.FS_RC_GO
  | .FS_RC_RES => some Reg.FS_RC_RES
  | .FS_RC_POP => some Reg.FS_RC_POP
  | .FS_BERTH => some (Reg.FS_BERTH i)
  | .FS_BSTATE => some (Reg.FS_BSTATE i)
  | .FY_DONE => some Reg.FY_DONE
  | .FY_ERR => some Reg.FY_ERR
  | .FY_BUSY => some Reg.FY_BUSY
  | .FY_CTL => some (Reg.FY_CTL i)
  | .FY_KICK => some (Reg.FY_KICK i)
  | .FY_STAT => some (Reg.FY_STAT i)
  | .FY_LAST => some (Reg.FY_LAST i)
  | .FY_TIME => some (Reg.FY_TIME i)
  | .FY_CNT => some (Reg.FY_CNT i)
  | .FY_DLV => some (Reg.FY_DLV i)
  | .FY_DLVT => some (Reg.FY_DLVT i)
  | .FY_DESC => some (Reg.FY_DESC i j)
  | .EG_CFG => some Reg.EG_CFG
  | .EG_STATUS => some Reg.EG_STATUS
  | .EG_BCTL => some (Reg.EG_BCTL i)
  | .EG_BSTAT => some (Reg.EG_BSTAT i)
  | .EG_BCAP => some (Reg.EG_BCAP i)
  | .EG_BCNT0 => some (Reg.EG_BCNT0 i)
  | .EG_BCNT1 => some (Reg.EG_BCNT1 i)
  | .EG_BCRED => some (Reg.EG_BCRED i)
  | .EG_BTIME => some (Reg.EG_BTIME i)
  | .LN_CFG => some Reg.LN_CFG
  | .LN_STATUS => some Reg.LN_STATUS
  | .LN_BCTL => some (Reg.LN_BCTL i)
  | .LN_BSTAT => some (Reg.LN_BSTAT i)
  | .LN_LCTL => some (Reg.LN_LCTL i j)
  | .LN_LSTAT => some (Reg.LN_LSTAT i j)
  | .LN_LTXEQ => some (Reg.LN_LTXEQ i j)
  | .LN_LTEST => some (Reg.LN_LTEST i j)
  | .LN_LINJ => some (Reg.LN_LINJ i j)
  | .LN_LPERR => some (Reg.LN_LPERR i j)
  | .LN_LPBITS => some (Reg.LN_LPBITS i j)
  | .LN_LCNT => some (Reg.LN_LCNT i j)
  | .FB_CFG => some Reg.FB_CFG
  | .FB_STATUS => some Reg.FB_STATUS
  | .FB_ROOT => some Reg.FB_ROOT
  | .FB_TIME => some Reg.FB_TIME
  | .FB_TSTAT => some Reg.FB_TSTAT
  | .FB_TRIG_CFG => some Reg.FB_TRIG_CFG
  | .FB_TRIG_CNT => some Reg.FB_TRIG_CNT
  | .FB_TTS_CFG => some Reg.FB_TTS_CFG
  | .FB_GO => some Reg.FB_GO
  | .FB_TTS_STAT => some Reg.FB_TTS_STAT
  | .FB_TUN_CNT => some Reg.FB_TUN_CNT
  | .FB_PCTL => some (Reg.FB_PCTL i)
  | .FB_PSTAT => some (Reg.FB_PSTAT i)
  | .FB_PDELAY => some (Reg.FB_PDELAY i)
  | .FB_PCNT => some (Reg.FB_PCNT i)
  | .FB_PTEST => some (Reg.FB_PTEST i)
  | .FB_PINJ => some (Reg.FB_PINJ i)
  | .FB_PPERR => some (Reg.FB_PPERR i)
  | .FB_PPBITS => some (Reg.FB_PPBITS i)
  | .FB_NODE_ID => some (Reg.FB_NODE_ID i)
  | .FB_NODE_INFO => some (Reg.FB_NODE_INFO i)
  | .PIO_STATUS => some Reg.PIO_STATUS
  | .PIO_IN => some Reg.PIO_IN
  | .PIO_OUT => some Reg.PIO_OUT
  | .PIO_FLAGS => some Reg.PIO_FLAGS
  | .PIO_FLAG_SET => some Reg.PIO_FLAG_SET
  | .PIO_FLAG_CLR => some Reg.PIO_FLAG_CLR
  | .PIO_HOSTIRQ => some Reg.PIO_HOSTIRQ
  | .PIO_PIN => some (Reg.PIO_PIN i)
  | .PIO_ECTL => some (Reg.PIO_ECTL i)
  | .PIO_ECMD => some (Reg.PIO_ECMD i)
  | .PIO_ESTAT => some (Reg.PIO_ESTAT i)
  | .PIO_ESR => some (Reg.PIO_ESR i)
  | .PIO_ELC => some (Reg.PIO_ELC i)
  | .PIO_DIN => some (Reg.PIO_DIN i)
  | .PIO_DOUT => some (Reg.PIO_DOUT i)
  | .PIO_INJ => some (Reg.PIO_INJ i)
  | .PIO_PROG => some (Reg.PIO_PROG i j)
  | .ETH_CFG => some Reg.ETH_CFG
  | .ETH_STATUS => some Reg.ETH_STATUS
  | .ETH_MAC => some Reg.ETH_MAC
  | .ETH_IP => some Reg.ETH_IP
  | .ETH_GW => some Reg.ETH_GW
  | .ETH_IP_ACT => some Reg.ETH_IP_ACT
  | .ETH_PTP_CFG => some Reg.ETH_PTP_CFG
  | .ETH_PTP_STAT => some Reg.ETH_PTP_STAT
  | .ETH_PTP_GM => some Reg.ETH_PTP_GM
  | .ETH_PTP_OFS => some Reg.ETH_PTP_OFS
  | .ETH_PREV_CFG => some Reg.ETH_PREV_CFG
  | .ETH_PREV_DST => some Reg.ETH_PREV_DST
  | .ETH_PREV_STAT => some Reg.ETH_PREV_STAT
  | .ETH_PREV_CNT => some Reg.ETH_PREV_CNT
  | .ETH_WT_CNT => some Reg.ETH_WT_CNT
  | .CFG_BOOT_STAT => some Reg.CFG_BOOT_STAT
  | .CFG_BOOT_CTL => some Reg.CFG_BOOT_CTL
  | .CFG_SLOT => some (Reg.CFG_SLOT i)
  | .CFG_FL_INFO => some Reg.CFG_FL_INFO
  | .CFG_FL_ADDR => some Reg.CFG_FL_ADDR
  | .CFG_FL_CMD => some Reg.CFG_FL_CMD
  | .CFG_FL_STAT => some Reg.CFG_FL_STAT
  | .CFG_FL_BUF => some (Reg.CFG_FL_BUF i)
  | .SEC_KEY => some (Reg.SEC_KEY i j)
  | .SEC_KEY_ST => some (Reg.SEC_KEY_ST i)
  | .SEC_KEY_NEW => some (Reg.SEC_KEY_NEW i)
  | .SEC_KEY_CTL => some Reg.SEC_KEY_CTL
  | .SEC_KEY_STAT => some Reg.SEC_KEY_STAT
  | .SEC_ID_PUB => some (Reg.SEC_ID_PUB i)
  | .SEC_ID_CERT_LEN => some Reg.SEC_ID_CERT_LEN
  | .SEC_ID_CERT => some (Reg.SEC_ID_CERT i)
  | .SEC_SESS => some (Reg.SEC_SESS i)
  | .SEC_SESS_CTR => some (Reg.SEC_SESS_CTR i)
  | .CFG_GW_COMMIT => some Reg.CFG_GW_COMMIT
  | .CFG_GW_STATUS => some Reg.CFG_GW_STATUS
  | .CFG_GW_GEN => some Reg.CFG_GW_GEN
  | .CFG_GW_CTIME => some Reg.CFG_GW_CTIME
  | .CFG_GW_ITIME => some Reg.CFG_GW_ITIME
  | .CFG_MAN_HEAD => some Reg.CFG_MAN_HEAD
  | .CFG_MAN => some (Reg.CFG_MAN i j)

/-- What a command may change: every `any` part at any number, and every `own` part at the number `idx` alone (the unit the command names). -/
structure Footprint where
  any : List Part := []
  own : List Part := []
  idx : Nat := 0

/-- The register at `a` lies in the footprint. -/
def Footprint.hasReg (F : Footprint) (a : Nat) : Prop :=
  (∃ p ∈ F.any, ∃ i j, p.addr i j = some a) ∨ (∃ p ∈ F.own, ∃ j, p.addr F.idx j = some a) ∨
    (.anyReg ∈ F.any ∧ 16 ≤ a) ∨ ((.stored ∈ F.any ∨ (.stored ∈ F.own ∧ a = F.idx)) ∧ 16 ≤ a ∧ ∃ d, regAt a = some d ∧ d.storeMask ||| d.w1c ≠ 0) ∨ (.ids ∈ F.any ∧ a < 16)

/-- `t` differs from `s` only within the footprint. Whatever the footprint, the queue and the model's time are as they were, so are the fuses, no image key is un-programmed or un-revoked, the log of what the device has driven only grows, and so do the counter of free values and the list of the bits that the hardware has set at this instant. -/
structure Keeps (F : Footprint) (s t : State) : Prop where
  pending : t.pending = s.pending
  now : t.clock.now = s.clock.now
  fused : t.otp.fuses = s.otp.fuses
  keys : keysKept s.otp.keys t.otp.keys
  driven : s.wire <+: t.wire
  counted : s.free ≤ t.free
  fresh : s.fresh <:+ t.fresh
  bundle : .eg ∉ F.any → ∀ i, i ≠ F.idx → t.eg[i]? = s.eg[i]?
  ferry : .fy ∉ F.any → ∀ i, i ≠ F.idx → t.fy[i]? = s.fy[i]?
  regs : ∀ a, a % 8 = 0 → ¬ F.hasReg a → t.reg a = s.reg a
  clock : .clock ∉ F.any → t.clock = s.clock
  gw : .gw ∉ F.any → t.gw = s.gw
  tt : .tt ∉ F.any → t.tt = s.tt
  px : .px ∉ F.any → t.px = s.px
  cc : .cc ∉ F.any → t.cc = s.cc
  cal : .cal ∉ F.any → t.cal = s.cal
  hk : .hk ∉ F.any → t.hk = s.hk
  pipe : .pipe ∉ F.any → t.pipe = s.pipe
  fs : .fs ∉ F.any → t.fs = s.fs
  dram : .dram ∉ F.any → t.dram = s.dram
  fy : .fy ∉ F.any → .fy ∉ F.own → t.fy = s.fy
  eg : .eg ∉ F.any → .eg ∉ F.own → t.eg = s.eg
  prev : .prev ∉ F.any → t.prev = s.prev
  pio : .pio ∉ F.any → t.pio = s.pio
  kf : .kf ∉ F.any → t.kf = s.kf
  ck : .ck ∉ F.any → t.ck = s.ck
  eth : .eth ∉ F.any → t.eth = s.eth
  boot : .boot ∉ F.any → t.boot = s.boot
  otp : .otp ∉ F.any → t.otp = s.otp
  flash : .flash ∉ F.any → t.flash = s.flash
  wire : .wire ∉ F.any → t.wire = s.wire
  free : .free ∉ F.any → t.free = s.free

/-- Parts that a management write to any register can change. -/
def accessParts : List Part :=
  [.clock, .gw, .tt, .px, .cc, .cal, .hk, .pipe, .fs, .dram, .fy, .eg, .prev, .pio, .kf, .ck, .eth, .boot, .otp,
    .flash, .wire, .free, .anyReg, .ids]

/-- Parts that the commands gangwaySwap, idleGangway can change. -/
def gangwayParts : List Part :=
  [.clock, .gw, .tt, .cc, .cal, .pipe, .fs, .dram, .fy, .eg, .prev, .pio, .kf, .ck, .eth, .TT_ENC_NEXT, .TT_MAP_SRC,
    .TT_STATUS, .CAL_STATUS, .CAL_EPOCH, .CAL_TAP, .CAL_REC, .CTX_ST0, .CTX_ST1, .PIPE_STATUS, .FS_STATUS, .FS_BSTATE, .FY_STAT,
    .EG_STATUS, .EG_BCNT1, .FB_TSTAT, .ETH_PTP_STAT, .ETH_PREV_STAT, .CFG_GW_STATUS, .CFG_GW_GEN, .CFG_GW_ITIME,
    .CFG_MAN_HEAD, .CFG_MAN]

/-- Parts that the commands exposureStart, deferredStart can change. -/
def exposureStartParts : List Part :=
  [.tt, .pipe, .fs, .fy, .pio, .TT_STATUS, .TT_CNT_FRAME, .FS_BSTATE, .CFG_GW_STATUS]

/-- Parts that a device reset can change: all but the log of what the device has driven. -/
def resetParts : List Part :=
  [.clock, .gw, .tt, .px, .cc, .cal, .hk, .pipe, .fs, .dram, .fy, .eg, .prev, .pio, .kf, .ck, .eth, .boot, .otp,
    .flash, .free, .anyReg, .ids]

/-- Parts that the commands portTrainTimeout, portLockTimeout, helloRx and their like can change. -/
def adjacencyParts : List Part :=
  [.kf, .eth, .FB_STATUS, .FB_ROOT, .FB_TSTAT, .FB_PSTAT, .FB_NODE_ID, .FB_NODE_INFO, .ETH_PTP_STAT]

/-- Parts that the commands lsaSend, lsaRx can change. -/
def lsaSendParts : List Part :=
  [.kf, .eth, .wire, .FB_STATUS, .FB_ROOT, .FB_TSTAT, .FB_PSTAT, .FB_NODE_ID, .FB_NODE_INFO, .ETH_PTP_STAT]

/-- Parts that the commands shareSend, shareRx can change. -/
def shareSendParts : List Part :=
  [.gw, .kf, .wire, .TT_MODE, .TT_EXP_A, .TT_EXP_B, .TT_PERIOD, .TT_ANCHOR, .TT_ACCUM, .TT_BURST, .TT_MAP_CFG,
    .TT_PIX_CFG, .CC_CFG, .FB_TTS_STAT, .CFG_GW_STATUS, .CFG_GW_CTIME]

/-- Parts that the commands mgmtRx, nodes can change. -/
def mgmtRxParts : List Part :=
  [.kf, .eth, .wire, .FB_STATUS, .FB_TUN_CNT, .ETH_WT_CNT]

/-- Parts that the commands nop, jmp, waitPin and their like can change. -/
def enginePartsAny : List Part :=
  [.tt, .fs, .fy, .pio, .kf, .wire, .TT_STATUS, .TT_CNT_TRIG, .FS_BSTATE, .FB_TRIG_CNT, .PIO_FLAGS, .PIO_HOSTIRQ,
    .PIO_PIN, .PIO_ESTAT, .CFG_GW_STATUS]

/-- The footprint of each command: the parts its meaning can change. -/
def footprint : Instr → Footprint
  | .registerWrite _ _ _ _ => { any := accessParts }
  | .shadowWrite _ _ addr _ => { any := [.gw, .TT_STATUS, .CAL_STATUS, .CAL_TAP], own := [.stored], idx := addr }
  | .commit _ _ => { any := [.gw, .CFG_GW_STATUS, .CFG_GW_CTIME] }
  | .force _ _ => { any := [.gw, .CFG_GW_STATUS, .CFG_GW_CTIME] }
  | .gangwaySwap _ => { any := gangwayParts }
  | .idleGangway _ => { any := gangwayParts }
  | .gridInstant _ => { any := [.tt] }
  | .exposureStart _ => { any := exposureStartParts }
  | .exposureTransfer _ _ _ => { any := [.tt, .px, .TT_STATUS] }
  | .manifestCompletion _ =>
      { any := [.gw, .tt, .pipe, .fs, .dram, .fy, .eg, .prev, .TT_CNT_FRAME, .CTX_ST1, .FS_STATUS, .FS_BSTATE, .EG_STATUS,
        .EG_BCNT1, .ETH_PREV_STAT, .ETH_PREV_CNT, .CFG_MAN_HEAD, .CFG_MAN] }
  | .conversionPassStart _ => { any := [.gw, .tt, .cc, .cal, .pipe, .free, .CC_STATUS, .CAL_STATUS, .CAL_TAP, .CAL_REC] }
  | .sliceRotation _ => { any := [.gw, .tt, .cc, .cal, .CC_STATUS, .CC_CNT, .CAL_STATUS, .CAL_CNT, .CAL_TAP, .CAL_REC] }
  | .tapStep _ => { any := [.gw, .tt, .cal, .CAL_STATUS, .CAL_TAP, .CAL_REC] }
  | .rowSlotStart _ =>
      { any := [.tt, .px, .cc, .cal, .pipe, .fs, .dram, .fy, .eg, .prev, .CC_STATUS, .CC_CNT, .CTX_ST1, .PIPE_STATUS, .PIPE_CNT,
        .FS_STATUS, .FS_BSTATE, .EG_STATUS, .EG_BCNT1, .ETH_PREV_STAT] }
  | .sampleDelivery _ => { any := [.cc, .pipe] }
  | .conversionEnd _ => { any := [.tt, .cc, .pipe, .fy, .pio, .TT_STATUS, .CC_STATUS, .CFG_GW_STATUS] }
  | .lineRelease _ _ _ _ => { any := [.pipe, .fs, .dram, .PIPE_STATUS, .PIPE_CNT, .FS_STATUS, .FS_CNT] }
  | .lineEnterLanding _ => { any := [.pipe, .fs, .dram, .fy, .eg, .prev, .CTX_ST1, .FS_STATUS, .FS_BSTATE, .EG_STATUS, .EG_BCNT1, .ETH_PREV_STAT] }
  | .statsSnapshot _ => { any := [.tt, .pipe, .fy, .PIPE_LOAD, .PIPE_BLACK, .PIPE_STATS, .PIPE_MEAN_HDR, .PIPE_MEAN, .CFG_GW_STATUS] }
  | .mapDerivationDone _ => { any := [.gw, .pipe, .free, .CFG_GW_CTIME] }
  | .seamSend _ _ _ _ _ => { any := [.tt, .wire] }
  | .seamRx _ _ => { any := [.pipe, .FB_STATUS, .FB_PCNT] }
  | .seamWaitTimeout _ => { any := [.pipe, .fs, .dram, .PIPE_STATUS, .PIPE_CNT, .FS_STATUS, .FS_CNT] }
  | .swTrigFire _ _ => { any := [.tt, .fs, .fy, .pio, .TT_STATUS, .TT_CNT_TRIG, .FS_BSTATE, .CFG_GW_STATUS] }
  | .triggerPinEdge _ _ _ _ => { any := [.tt, .fs, .fy, .pio, .kf, .wire, .TT_STATUS, .TT_CNT_TRIG, .FS_BSTATE, .FB_TRIG_CNT, .CFG_GW_STATUS] }
  | .schedArm _ _ => { any := [.tt, .TT_SCHED_CTL, .TT_STATUS] }
  | .scheduledFire _ => { any := [.tt, .fs, .fy, .pio, .TT_SCHED_CTL, .TT_STATUS, .TT_CNT_TRIG, .FS_BSTATE, .CFG_GW_STATUS] }
  | .deferredStart _ => { any := exposureStartParts }
  | .encoderCount _ _ _ => { any := [.tt, .fs, .fy, .pio, .TT_ENC_POS, .TT_ENC_NEXT, .TT_STATUS, .TT_CNT_TRIG, .FS_BSTATE, .CFG_GW_STATUS] }
  | .encoderZero _ _ => { any := [.TT_ENC_POS, .TT_ENC_NEXT] }
  | .fabricTriggerArrival _ =>
      { any := [.gw, .tt, .fs, .fy, .pio, .kf, .TT_MODE, .TT_EXP_A, .TT_EXP_B, .TT_PERIOD, .TT_ANCHOR, .TT_ACCUM, .TT_BURST,
        .TT_MAP_CFG, .TT_STATUS, .TT_CNT_TRIG, .TT_PIX_CFG, .CC_CFG, .FS_BSTATE, .FB_STATUS, .FB_TTS_STAT, .CFG_GW_STATUS,
        .CFG_GW_CTIME] }
  | .subExposureStart _ => { any := [.tt, .pio] }
  | .subTimeout _ => { any := [.tt, .pio] }
  | .stripStart _ =>
      { any := [.clock, .gw, .tt, .cc, .cal, .pipe, .fs, .dram, .fy, .eg, .prev, .pio, .kf, .ck, .eth, .TT_ENC_NEXT, .TT_MAP_SRC,
        .TT_STATUS, .TT_CNT_TRIG, .TT_CNT_FRAME, .CAL_STATUS, .CAL_EPOCH, .CAL_TAP, .CAL_REC, .CTX_ST0, .CTX_ST1, .PIPE_STATUS,
        .FS_STATUS, .FS_BSTATE, .FY_STAT, .EG_STATUS, .EG_BCNT1, .FB_TSTAT, .ETH_PTP_STAT, .ETH_PREV_STAT, .CFG_GW_STATUS, .CFG_GW_GEN,
        .CFG_GW_ITIME, .CFG_MAN_HEAD, .CFG_MAN] }
  | .partDetectEdge _ _ =>
      { any := [.tt, .pipe, .fs, .dram, .fy, .eg, .prev, .TT_STATUS, .CTX_ST1, .FS_STATUS, .FS_BSTATE, .EG_STATUS, .EG_BCNT1,
        .ETH_PREV_STAT, .CFG_MAN_HEAD, .CFG_MAN] }
  | .evlogPop _ _ => { any := [.tt] }
  | .exposureMapWrite _ _ word _ => { any := [.gw, .TT_STATUS], own := [.stored], idx := Reg.TT_MAP word.val }
  | .injReq _ _ _ _ => { any := [.cc, .CC_STATUS, .CC_CNT, .PIPE_STATUS] }
  | .injectedConversionStart _ _ => { any := [.cc, .cal] }
  | .injectedResult _ _ _ _ => { any := [.tt, .cc] }
  | .hkEntryDone _ _ => { any := resetParts }
  | .hkInj _ _ _ _ => { any := [.hk, .HK_STATUS] }
  | .hkInjDone _ _ => { any := [.hk, .HK_STATUS, .HK_INJ_RES] }
  | .hkCalibration _ _ => { any := [.hk, .HK_STATUS] }
  | .calBatchDone _ conv _ => { any := [.gw, .cal, .CAL_STATUS, .CAL_CNT, .CAL_TAP, .CAL_REC], own := [.CAL_TIME], idx := conv.val }
  | .calTapWrite _ _ conv slice _ => { any := [.gw, .CAL_STATUS, .CAL_TAP], own := [.stored], idx := Reg.CAL_TAP conv.val slice.val }
  | .unloaderSend _ turn => { any := [.fs, .CTX_ST1, .FS_STATUS, .FS_CNT, .FS_BSTATE], own := [.eg], idx := turn.bundle.val }
  | .mirrorWriteTimeout _ berth => { any := [.fs, .FS_STATUS, .FS_CNT], own := [.FS_BSTATE], idx := berth.val }
  | .berthTableWrite _ _ berth _ => { any := [.FS_STATUS], own := [.FS_BERTH], idx := berth.val }
  | .recallGo _ _ => { any := [.fs, .FS_STATUS] }
  | .recallRun _ => { any := [.fs, .eg, .FS_STATUS, .FS_CNT, .FS_BSTATE] }
  | .recallPop _ _ => { any := [.fs] }
  | .statsRecordLatch _ _ _ => { any := [.pipe] }
  | .meanMapLatch _ _ _ => { any := [.pipe] }
  | .ferryKick _ _ ferry _ _ => { own := [.FY_STAT], idx := ferry.val }
  | .ferryStop _ _ ferry => { any := [.pipe, .fs, .fy, .eg, .CTX_ST1, .FS_BSTATE], own := [.FY_CTL, .FY_STAT], idx := ferry.val }
  | .ferryEnable _ _ ferry => { own := [.fy, .FY_CTL, .FY_STAT], idx := ferry.val }
  | .descriptorFetch _ ferry => { own := [.fy, .FY_STAT, .FY_CNT], idx := ferry.val }
  | .pacingWaitEnd _ ferry => { own := [.fy, .FY_STAT], idx := ferry.val }
  | .sourceLineMove _ turn => { any := [.fs, .dram, .eg, .prev, .FS_STATUS, .FS_CNT, .ETH_PREV_STAT], own := [.fy, .FY_STAT], idx := turn.ferry.val }
  | .descriptorWriteback _ ferry =>
      { any := [.tt, .fs, .fy, .eg, .CTX_ST1, .FS_BSTATE, .FY_DONE, .FY_ERR, .FY_DESC], own := [.FY_STAT, .FY_LAST, .FY_TIME, .FY_CNT,
        .FY_DLV], idx := ferry.val }
  | .deliveryReport _ ferry => { own := [.fy, .FY_DLV, .FY_DLVT], idx := ferry.val }
  | .ferryPoll _ ferry => { own := [.FY_STAT], idx := ferry.val }
  | .chainHandover _ ferry => { any := [.fs], own := [.fy, .FY_STAT], idx := ferry.val }
  | .chainRunAbort _ ferry => { any := [.fs, .eg], own := [.fy, .FY_STAT], idx := ferry.val }
  | .packetTransmit _ bundle =>
      { any := [.pipe, .fs, .fy, .eg, .wire, .CTX_ST1, .FS_BSTATE, .EG_STATUS], own := [.EG_BSTAT, .EG_BCNT0, .EG_BTIME], idx := bundle.val }
  | .alignRound _ bundle _ => { any := [.wire], own := [.eg], idx := bundle.val }
  | .returnRx _ bundle _ =>
      { any := [.EG_STATUS, .LN_STATUS], own := [.eg, .EG_BSTAT, .EG_BCNT0, .EG_BTIME, .LN_BSTAT, .LN_LSTAT, .LN_LCNT], idx :=
        bundle.val }
  | .ackTimeout _ bundle => { any := [.EG_STATUS], own := [.eg, .EG_BCNT0], idx := bundle.val }
  | .capSend _ bundle => { any := [.wire], own := [.eg], idx := bundle.val }
  | .capRx _ bundle _ =>
      { any := [.pipe, .fs, .fy, .eg, .CTX_ST1, .FS_BSTATE, .EG_STATUS, .LN_STATUS], own := [.EG_BSTAT, .EG_BCAP, .EG_BCNT1, .EG_BTIME,
        .LN_BSTAT, .LN_LSTAT, .LN_LCNT], idx := bundle.val }
  | .shedRound _ bundle =>
      { any := [.wire, .EG_STATUS, .LN_STATUS], own := [.eg, .EG_BSTAT, .EG_BCNT1, .EG_BTIME, .LN_BSTAT, .LN_LSTAT], idx :=
        bundle.val }
  | .bundleShedCmd _ _ bundle _ => { own := [.eg, .EG_BCTL], idx := bundle.val }
  | .rejoinRound _ bundle => { any := [.wire, .EG_STATUS, .LN_STATUS], own := [.eg, .EG_BSTAT, .EG_BCNT1, .EG_BTIME, .LN_LSTAT], idx := bundle.val }
  | .bundleRejoinCmd _ _ bundle _ => { own := [.eg, .EG_BCTL], idx := bundle.val }
  | .blindTimeout _ bundle => { any := [.EG_STATUS], own := [.eg, .EG_BSTAT, .EG_BCNT1, .EG_BTIME], idx := bundle.val }
  | .creditStallTimeout _ bundle _ => { any := [.EG_STATUS], own := [.eg], idx := bundle.val }
  | .bundleStop _ _ bundle =>
      { any := [.pipe, .fs, .fy, .eg, .CTX_ST1, .FS_BSTATE, .EG_STATUS], own := [.EG_BCTL, .EG_BSTAT, .EG_BTIME], idx :=
        bundle.val }
  | .bundleStopClear _ _ bundle => { any := [.EG_STATUS], own := [.eg, .EG_BCTL, .EG_BSTAT, .EG_BCNT1, .EG_BTIME], idx := bundle.val }
  | .bundleEnable _ _ bundle =>
      { any := [.EG_STATUS, .LN_STATUS], own := [.eg, .EG_BCTL, .EG_BSTAT, .EG_BTIME, .LN_BSTAT, .LN_LSTAT], idx := bundle.val }
  | .bundleDisable _ _ bundle =>
      { any := [.EG_STATUS, .LN_STATUS], own := [.eg, .EG_BCTL, .EG_BSTAT, .EG_BTIME, .LN_BSTAT, .LN_LSTAT], idx := bundle.val }
  | .detectStep _ _ _ =>
      { any := [.eg, .kf, .eth, .wire, .EG_STATUS, .EG_BSTAT, .EG_BTIME, .LN_STATUS, .LN_BSTAT, .LN_LSTAT, .FB_STATUS, .FB_ROOT,
        .FB_TSTAT, .FB_PSTAT, .FB_PCNT, .FB_NODE_ID, .FB_NODE_INFO, .ETH_PTP_STAT] }
  | .trainingFrameRx _ bundle _ => { any := [.wire, .LN_STATUS], own := [.eg, .LN_LSTAT, .LN_LTXEQ], idx := bundle.val }
  | .countdownEnd _ _ => { any := [.eg, .kf, .LN_STATUS, .LN_LSTAT, .FB_PSTAT] }
  | .trainTimeout _ bundle => { any := [.EG_STATUS, .LN_STATUS], own := [.eg, .EG_BSTAT, .EG_BTIME, .LN_BSTAT, .LN_LSTAT], idx := bundle.val }
  | .lockTimeout _ bundle => { any := [.EG_STATUS, .LN_STATUS], own := [.eg, .EG_BSTAT, .EG_BTIME, .LN_BSTAT, .LN_LSTAT], idx := bundle.val }
  | .capTimeout _ bundle => { any := [.EG_STATUS, .LN_STATUS], own := [.eg, .EG_BSTAT, .EG_BTIME, .LN_BSTAT, .LN_LSTAT], idx := bundle.val }
  | .frameLockGain _ _ => { any := [.eg, .kf, .LN_LSTAT] }
  | .frameLockLoss _ _ => { any := [.eg, .kf, .LN_LSTAT] }
  | .blockLockGain _ _ => { any := [.eg, .kf, .LN_LSTAT, .FB_PSTAT] }
  | .blockLockLoss _ _ =>
      { any := [.eg, .kf, .eth, .EG_STATUS, .EG_BSTAT, .EG_BCNT1, .EG_BTIME, .LN_STATUS, .LN_LSTAT, .LN_LCNT, .FB_STATUS,
        .FB_ROOT, .FB_TSTAT, .FB_PSTAT, .FB_PCNT, .FB_NODE_ID, .FB_NODE_INFO, .ETH_PTP_STAT] }
  | .retrainBurst _ bundle _ => { any := [.wire, .LN_STATUS], own := [.eg, .LN_LSTAT], idx := bundle.val }
  | .rejoinRetryTimeout _ bundle _ => { own := [.eg], idx := bundle.val }
  | .laneMoor _ bundle => { any := [.LN_STATUS], own := [.eg, .LN_LSTAT], idx := bundle.val }
  | .moorExit _ bundle => { any := [.wire, .EG_STATUS, .LN_STATUS], own := [.eg, .EG_BSTAT, .EG_BTIME, .LN_BSTAT, .LN_LSTAT], idx := bundle.val }
  | .burstEnd _ bundle => { any := [.LN_STATUS], own := [.eg, .LN_LSTAT], idx := bundle.val }
  | .txeqWrite _ _ bundle _ _ => { any := [.LN_STATUS], own := [.LN_LTXEQ], idx := bundle.val }
  | .errorInject _ _ _ _ => { any := [.eg, .kf, .wire, .LN_STATUS, .LN_LPERR, .FB_PPERR] }
  | .checkerLock _ _ => { any := [.eg, .kf, .LN_LPERR, .FB_PPERR] }
  | .checkerLockLoss _ _ _ => { any := [.eg, .kf, .LN_STATUS, .LN_LPERR, .LN_LPBITS, .FB_PPERR, .FB_PPBITS] }
  | .portTrainingFrameRx _ port _ => { any := [.kf, .wire, .free, .LN_STATUS], own := [.FB_PSTAT], idx := port.val }
  | .portTrainTimeout _ port => { any := adjacencyParts, own := [.FB_PCNT], idx := port.val }
  | .portLockTimeout _ port => { any := adjacencyParts, own := [.FB_PCNT], idx := port.val }
  | .helloSend _ _ => { any := [.kf, .wire] }
  | .helloRx _ port _ => { any := adjacencyParts, own := [.FB_PCNT], idx := port.val }
  | .adjacencyTimeout _ _ => { any := adjacencyParts }
  | .lsaSend _ => { any := lsaSendParts }
  | .lsaRx _ port _ => { any := lsaSendParts, own := [.FB_PCNT], idx := port.val }
  | .lsaExpiry _ _ => { any := adjacencyParts }
  | .assignSend _ => { any := [.kf, .wire, .FB_STATUS, .FB_NODE_ID, .FB_NODE_INFO] }
  | .assignRx _ port _ => { any := [.kf, .wire, .FB_STATUS, .FB_NODE_ID, .FB_NODE_INFO], own := [.FB_PCNT], idx := port.val }
  | .timeSend _ _ => { any := [.kf, .wire, .free] }
  | .timeRx _ port _ => { any := [.clock, .tt, .kf, .ck, .eth, .TT_STATUS, .FB_TSTAT, .ETH_PTP_STAT], own := [.FB_PDELAY, .FB_PCNT], idx := port.val }
  | .trigFire _ _ => { any := [.kf, .wire, .FB_TRIG_CNT] }
  | .trigRx _ port _ => { any := [.kf, .wire, .FB_TRIG_CNT], own := [.FB_PCNT], idx := port.val }
  | .shareSend _ _ => { any := shareSendParts }
  | .shareRx _ port _ => { any := shareSendParts, own := [.FB_PCNT], idx := port.val }
  | .shareCommit _ =>
      { any := [.gw, .kf, .TT_MODE, .TT_EXP_A, .TT_EXP_B, .TT_PERIOD, .TT_ANCHOR, .TT_ACCUM, .TT_BURST, .TT_MAP_CFG, .TT_PIX_CFG,
        .CC_CFG, .FB_TTS_STAT, .CFG_GW_STATUS, .CFG_GW_CTIME] }
  | .mgmtRx _ port _ => { any := mgmtRxParts, own := [.FB_PCNT], idx := port.val }
  | .referenceLoss _ _ => { any := [.ck, .CK_STATUS, .CK_PSTAT] }
  | .referenceReturn _ _ => { any := [.ck, .CK_STATUS] }
  | .pllConfigWrite _ _ loop _ =>
      { any := [.clock, .pipe, .eg, .kf, .ck, .eth, .CK_STATUS, .EG_STATUS, .EG_BSTAT, .EG_BTIME, .LN_STATUS, .LN_LSTAT, .FB_STATUS,
        .FB_ROOT, .FB_TSTAT, .FB_PSTAT, .FB_NODE_ID, .FB_NODE_INFO, .ETH_PTP_STAT], own := [.CK_PLL, .CK_PSTAT], idx := loop.val }
  | .bandTryTimeout _ _ => { any := [.ck] }
  | .acquisitionCheckPass _ loop _ =>
      { any := [.clock, .pipe, .eg, .kf, .ck, .eth, .CK_STATUS, .EG_STATUS, .EG_BSTAT, .EG_BTIME, .LN_STATUS, .LN_BSTAT, .LN_LSTAT,
        .FB_STATUS, .FB_ROOT, .FB_TSTAT, .FB_PSTAT, .FB_PCNT, .FB_NODE_ID, .FB_NODE_INFO, .ETH_PTP_STAT], own := [.CK_PSTAT], idx
        := loop.val }
  | .lockWindowEnd _ loop _ => { any := [.ck, .CK_STATUS], own := [.CK_PSTAT], idx := loop.val }
  | .lockdetCrossing _ _ => { any := [.ck, .CK_STATUS, .CK_PSTAT] }
  | .pllFlagAutoClear _ _ => { any := [.CK_STATUS] }
  | .refFlagAutoClear _ _ => { any := [.CK_STATUS] }
  | .pllAutoRestart _ loop =>
      { any := [.clock, .pipe, .eg, .kf, .ck, .eth, .CK_STATUS, .CK_POLICY, .EG_STATUS, .EG_BSTAT, .EG_BTIME, .LN_STATUS, .LN_LSTAT,
        .FB_STATUS, .FB_ROOT, .FB_TSTAT, .FB_PSTAT, .FB_NODE_ID, .FB_NODE_INFO, .ETH_PTP_STAT], own := [.CK_PSTAT], idx :=
        loop.val }
  | .clockOutputWrite _ _ out _ => { any := [.ck, .wire, .CK_STATUS], own := [.CK_OUT], idx := out.val }
  | .syncinEdge _ => { any := [.pio, .ck, .wire, .CK_SYNC_TIME] }
  | .ckSync _ _ => { any := [.pio, .ck, .wire, .CK_SYNC_TIME] }
  | .ckArm _ _ => { any := [.ck, .CK_SYNC_TIME] }
  | .armedSyncFire _ => { any := [.pio, .ck, .wire, .CK_SYNC_TIME] }
  | .nop _ engine => { any := enginePartsAny, own := [.PIO_ESR, .PIO_ELC, .PIO_DOUT], idx := engine.val }
  | .jmp _ engine _ => { any := enginePartsAny, own := [.PIO_ESR, .PIO_ELC, .PIO_DOUT], idx := engine.val }
  | .waitPin _ engine _ => { any := enginePartsAny, own := [.PIO_ESR, .PIO_ELC, .PIO_DOUT], idx := engine.val }
  | .waitFlag _ engine => { any := enginePartsAny, own := [.PIO_ESR, .PIO_ELC, .PIO_DOUT], idx := engine.val }
  | .waitEvent _ engine => { any := enginePartsAny, own := [.PIO_ESR, .PIO_ELC, .PIO_DOUT], idx := engine.val }
  | .setPin _ engine => { any := enginePartsAny, own := [.PIO_ESR, .PIO_ELC, .PIO_DOUT], idx := engine.val }
  | .setLc _ engine => { any := enginePartsAny, own := [.PIO_ESR, .PIO_ELC, .PIO_DOUT], idx := engine.val }
  | .setSrClear _ engine => { any := enginePartsAny, own := [.PIO_ESR, .PIO_ELC, .PIO_DOUT], idx := engine.val }
  | .setEventClear _ engine => { any := enginePartsAny, own := [.PIO_ESR, .PIO_ELC, .PIO_DOUT], idx := engine.val }
  | .inPins _ engine _ => { any := enginePartsAny, own := [.PIO_ESR, .PIO_ELC, .PIO_DOUT], idx := engine.val }
  | .inDin _ engine => { any := enginePartsAny, own := [.PIO_ESR, .PIO_ELC, .PIO_DOUT], idx := engine.val }
  | .inSerial _ engine _ => { any := enginePartsAny, own := [.PIO_ESR, .PIO_ELC, .PIO_DOUT], idx := engine.val }
  | .outPins _ engine => { any := enginePartsAny, own := [.PIO_ESR, .PIO_ELC, .PIO_DOUT], idx := engine.val }
  | .outDout _ engine => { any := enginePartsAny, own := [.PIO_ESR, .PIO_ELC, .PIO_DOUT], idx := engine.val }
  | .outLc _ engine => { any := enginePartsAny, own := [.PIO_ESR, .PIO_ELC, .PIO_DOUT], idx := engine.val }
  | .outSerial _ engine _ => { any := enginePartsAny, own := [.PIO_ESR, .PIO_ELC, .PIO_DOUT], idx := engine.val }
  | .pulse _ engine => { any := enginePartsAny, own := [.PIO_ESR, .PIO_ELC, .PIO_DOUT], idx := engine.val }
  | .irqSetFlag _ engine => { any := enginePartsAny, own := [.PIO_ESR, .PIO_ELC, .PIO_DOUT], idx := engine.val }
  | .irqClearFlag _ engine => { any := enginePartsAny, own := [.PIO_ESR, .PIO_ELC, .PIO_DOUT], idx := engine.val }
  | .irqHost _ engine => { any := enginePartsAny, own := [.PIO_ESR, .PIO_ELC, .PIO_DOUT], idx := engine.val }
  | .irqTimetable _ engine => { any := enginePartsAny, own := [.PIO_ESR, .PIO_ELC, .PIO_DOUT], idx := engine.val }
  | .illegalInstruction _ _ => { any := [.pio, .PIO_PIN, .PIO_ESTAT] }
  | .engineRestart _ _ engine => { any := [.tt, .pio, .PIO_PIN, .PIO_ESTAT], own := [.PIO_ESR, .PIO_ELC], idx := engine.val }
  | .engineKick _ _ _ => { any := [.pio, .PIO_PIN, .PIO_ESTAT] }
  | .doutAck _ _ _ => { any := [.pio, .PIO_PIN, .PIO_ESTAT] }
  | .dinDrop _ _ _ => { any := [.pio, .PIO_PIN, .PIO_ESTAT] }
  | .pioDinWrite _ _ engine _ => { any := [.pio, .PIO_PIN, .PIO_ESTAT], own := [.PIO_DIN], idx := engine.val }
  | .pioInjWrite _ _ _ _ => { any := [.pio, .PIO_PIN, .PIO_ESTAT] }
  | .injectionExecute _ engine _ _ => { any := enginePartsAny, own := [.PIO_ESR, .PIO_ELC, .PIO_DOUT], idx := engine.val }
  | .flagSet _ _ _ => { any := [.pio, .PIO_FLAGS, .PIO_PIN, .PIO_ESTAT] }
  | .flagClr _ _ _ => { any := [.pio, .PIO_FLAGS, .PIO_PIN, .PIO_ESTAT] }
  | .engineRun _ _ engine => { any := [.pio, .PIO_PIN, .PIO_ESTAT], own := [.PIO_ECTL], idx := engine.val }
  | .engineStop _ _ engine => { any := [.pio, .PIO_PIN, .PIO_ESTAT], own := [.PIO_ECTL], idx := engine.val }
  | .pioProgWrite _ _ engine _ _ => { any := [.pio, .PIO_PIN, .PIO_ESTAT], own := [.PIO_PROG], idx := engine.val }
  | .bankSupplyLoss _ _ => { any := [.pio, .PIO_PIN, .PIO_ESTAT] }
  | .linkUp _ _ _ _ => { any := [.eth, .free, .ETH_STATUS, .ETH_IP_ACT] }
  | .linkDown _ _ _ _ => { any := [.prev, .ETH_STATUS, .ETH_PREV_STAT, .ETH_PREV_CNT] }
  | .witrigRequestRx _ _ _ => { any := [.kf, .eth, .wire, .FB_STATUS, .FB_TUN_CNT, .ETH_STATUS, .ETH_WT_CNT] }
  | .read _ _ _ => { any := [.pipe, .pio, .kf, .eth, .wire, .FB_STATUS, .FB_TUN_CNT, .PIO_PIN, .PIO_ESTAT, .ETH_WT_CNT] }
  | .write _ _ => { any := accessParts }
  | .nodes _ _ => { any := mgmtRxParts }
  | .challenge _ _ => { any := [.kf, .eth, .boot, .wire, .free, .FB_STATUS, .FB_TUN_CNT, .ETH_WT_CNT] }
  | .openSession _ _ => { any := [.kf, .eth, .boot, .wire, .free, .FB_STATUS, .FB_TUN_CNT, .ETH_WT_CNT, .SEC_SESS, .SEC_SESS_CTR] }
  | .closeSession _ _ => { any := [.kf, .eth, .boot, .wire, .FB_STATUS, .FB_TUN_CNT, .ETH_WT_CNT, .SEC_SESS, .SEC_SESS_CTR] }
  | .attest _ _ => { any := [.kf, .eth, .wire, .free, .FB_STATUS, .FB_TUN_CNT, .ETH_WT_CNT] }
  | .sessionIdleTimeout _ session => { any := [.boot], own := [.SEC_SESS, .SEC_SESS_CTR], idx := session.val }
  | .dhcpRx _ _ => { any := [.eth, .free, .ETH_STATUS, .ETH_IP_ACT] }
  | .dhcpFallbackTimeout _ => { any := [.eth, .ETH_STATUS, .ETH_IP_ACT] }
  | .dhcpLeaseExpiry _ => { any := [.eth, .free, .ETH_STATUS, .ETH_IP_ACT] }
  | .ethAddressWrite _ _ addr _ => { any := [.eth, .free, .ETH_STATUS, .ETH_IP_ACT], own := [.stored], idx := addr }
  | .arpRx _ _ => { any := [.eth, .ETH_STATUS] }
  | .arpRetryTimeout _ _ => { any := [.eth] }
  | .arpAnnounce _ => { any := [.eth] }
  | .arpEntryAgeout _ _ => { any := [.eth] }
  | .icmpEchoRequest _ _ => { any := [.eth] }
  | .ptpAnnounceRx _ _ => { any := [.kf, .eth, .FB_TSTAT, .ETH_PTP_STAT, .ETH_PTP_GM] }
  | .ptpSyncRx _ _ => { any := [.eth, .ETH_PTP_STAT] }
  | .ptpFollowUpRx _ _ => { any := [.clock, .tt, .kf, .ck, .eth, .TT_STATUS, .FB_TSTAT, .ETH_PTP_STAT, .ETH_PTP_OFS] }
  | .ptpDelayReqSend _ => { any := [.eth, .free] }
  | .ptpDelayRespRx _ _ => { any := [.eth, .ETH_PTP_OFS] }
  | .ptpAnnounceTimeout _ => { any := [.kf, .eth, .FB_TSTAT, .ETH_PTP_STAT, .ETH_PTP_GM] }
  | .ethFrameTransmit _ => { any := [.fy, .prev, .eth, .wire, .ETH_PREV_STAT, .ETH_PREV_CNT] }
  | .previewDatagramSend _ => { any := [.fy, .prev, .eth, .wire, .ETH_PREV_STAT, .ETH_PREV_CNT] }
  | .powerOn _ => { any := [.boot] }
  | .brownOut _ => { any := resetParts }
  | .resetNLow _ _ => { any := resetParts }
  | .watchdogTimeout _ => { any := resetParts }
  | .romStage _ =>
      { any := [.pipe, .clock, .gw, .eg, .kf, .ck, .eth, .stored, .PWR_STAT, .CK_PSTAT, .EG_STATUS, .EG_BSTAT, .EG_BTIME, .LN_STATUS,
        .LN_LSTAT, .FB_STATUS, .FB_ROOT, .FB_TSTAT, .FB_PSTAT, .FB_NODE_ID, .FB_NODE_INFO, .ETH_PTP_STAT] }
  | .imageSelection _ _ _ _ _ => { any := [.boot, .flash, .PWR_STAT, .CFG_BOOT_STAT, .CFG_SLOT, .CFG_FL_INFO] }
  | .stagedStartEvent _ =>
      { any := [.cal, .pipe, .clock, .cc, .eg, .kf, .ck, .eth, .boot, .PWR_STAT, .CK_PSTAT, .EG_STATUS, .EG_BSTAT, .EG_BTIME, .LN_STATUS,
        .LN_LSTAT, .FB_STATUS, .FB_ROOT, .FB_TSTAT, .FB_PSTAT, .FB_NODE_ID, .FB_NODE_INFO, .ETH_PTP_STAT] }
  | .applyImage _ _ => { any := accessParts }
  | .portRelease _ =>
      { any := [.eg, .kf, .eth, .boot, .EG_STATUS, .EG_BSTAT, .EG_BTIME, .LN_STATUS, .LN_BSTAT, .LN_LSTAT, .FB_STATUS, .FB_ROOT,
        .FB_TSTAT, .FB_PSTAT, .FB_PCNT, .FB_NODE_ID, .FB_NODE_INFO, .ETH_PTP_STAT] }
  | .resetCmd _ _ => { any := resetParts }
  | .rollback _ _ => { any := resetParts }
  | .confirm _ _ => { any := [.flash, .CFG_BOOT_STAT, .CFG_SLOT] }
  | .confirmTimeout _ => { any := resetParts }
  | .thermalRecoveryBoot _ => { any := [.boot] }
  | .flashErase _ _ => { any := [.boot, .CFG_SLOT, .CFG_FL_STAT] }
  | .flashProgram _ _ => { any := [.boot, .CFG_SLOT, .CFG_FL_STAT] }
  | .flashRead _ _ => { any := [.boot, .CFG_SLOT, .CFG_FL_STAT] }
  | .flashCheck _ _ _ _ => { any := [.boot, .CFG_FL_STAT] }
  | .flashCommandDone _ _ => { any := resetParts }
  | .keyAdd _ _ => { any := [.boot, .SEC_KEY_STAT] }
  | .keyRevoke _ _ entry => { any := [.boot, .otp, .SEC_KEY_STAT, .SEC_SESS, .SEC_SESS_CTR], own := [.SEC_KEY_ST], idx := entry.val }
  | .otpProgramDone _ => { any := resetParts }
  | .extest _ _ => { any := [.boot, .wire] }
  | .idcode _ => { any := [.boot, .wire] }
  | .samplePreload _ _ => { any := [.boot, .wire] }
  | .clamp _ _ => { any := [.boot, .wire] }
  | .highz _ _ => { any := [.boot, .wire] }
  | .bypass _ => { any := [.boot, .wire] }
  | .bankSupplyReturn _ _ => { any := [.pio, .PIO_PIN, .PIO_ESTAT] }
  | .dhcpClientTimer _ => { any := [.eth, .free] }
  | .testLogicReset _ => { any := [.boot, .wire] }

/-- The instant at which a command comes. -/
def cmdTime : Instr → Nat
  | .registerWrite t _ _ _ => t
  | .shadowWrite t _ _ _ => t
  | .commit t _ => t
  | .force t _ => t
  | .gangwaySwap t => t
  | .idleGangway t => t
  | .gridInstant t => t
  | .exposureStart t => t
  | .exposureTransfer t _ _ => t
  | .manifestCompletion t => t
  | .conversionPassStart t => t
  | .sliceRotation t => t
  | .tapStep t => t
  | .rowSlotStart slot => slot.t
  | .sampleDelivery t => t
  | .conversionEnd t => t
  | .lineRelease t _ _ _ => t
  | .lineEnterLanding t => t
  | .statsSnapshot t => t
  | .mapDerivationDone t => t
  | .seamSend t _ _ _ _ => t
  | .seamRx t _ => t
  | .seamWaitTimeout t => t
  | .swTrigFire t _ => t
  | .triggerPinEdge t _ _ _ => t
  | .schedArm t _ => t
  | .scheduledFire t => t
  | .deferredStart t => t
  | .encoderCount t _ _ => t
  | .encoderZero t _ => t
  | .fabricTriggerArrival t => t
  | .subExposureStart t => t
  | .subTimeout t => t
  | .stripStart t => t
  | .partDetectEdge t _ => t
  | .evlogPop t _ => t
  | .exposureMapWrite t _ _ _ => t
  | .injReq t _ _ _ => t
  | .injectedConversionStart t _ => t
  | .injectedResult t _ _ _ => t
  | .hkEntryDone t _ => t
  | .hkInj t _ _ _ => t
  | .hkInjDone t _ => t
  | .hkCalibration t _ => t
  | .calBatchDone t _ _ => t
  | .calTapWrite t _ _ _ _ => t
  | .unloaderSend t _ => t
  | .mirrorWriteTimeout t _ => t
  | .berthTableWrite t _ _ _ => t
  | .recallGo t _ => t
  | .recallRun turn => turn.t
  | .recallPop t _ => t
  | .statsRecordLatch t _ _ => t
  | .meanMapLatch t _ _ => t
  | .ferryKick t _ _ _ _ => t
  | .ferryStop t _ _ => t
  | .ferryEnable t _ _ => t
  | .descriptorFetch t _ => t
  | .pacingWaitEnd t _ => t
  | .sourceLineMove t _ => t
  | .descriptorWriteback t _ => t
  | .deliveryReport t _ => t
  | .ferryPoll t _ => t
  | .chainHandover t _ => t
  | .chainRunAbort t _ => t
  | .packetTransmit t _ => t
  | .alignRound t _ _ => t
  | .returnRx t _ _ => t
  | .ackTimeout t _ => t
  | .capSend t _ => t
  | .capRx t _ _ => t
  | .shedRound t _ => t
  | .bundleShedCmd t _ _ _ => t
  | .rejoinRound t _ => t
  | .bundleRejoinCmd t _ _ _ => t
  | .blindTimeout t _ => t
  | .creditStallTimeout t _ _ => t
  | .bundleStop t _ _ => t
  | .bundleStopClear t _ _ => t
  | .bundleEnable t _ _ => t
  | .bundleDisable t _ _ => t
  | .detectStep t _ _ => t
  | .trainingFrameRx t _ _ => t
  | .countdownEnd t _ => t
  | .trainTimeout t _ => t
  | .lockTimeout t _ => t
  | .capTimeout t _ => t
  | .frameLockGain t _ => t
  | .frameLockLoss t _ => t
  | .blockLockGain t _ => t
  | .blockLockLoss t _ => t
  | .retrainBurst t _ _ => t
  | .rejoinRetryTimeout t _ _ => t
  | .laneMoor t _ => t
  | .moorExit t _ => t
  | .burstEnd t _ => t
  | .txeqWrite t _ _ _ _ => t
  | .errorInject t _ _ _ => t
  | .checkerLock t _ => t
  | .checkerLockLoss t _ _ => t
  | .portTrainingFrameRx t _ _ => t
  | .portTrainTimeout t _ => t
  | .portLockTimeout t _ => t
  | .helloSend t _ => t
  | .helloRx t _ _ => t
  | .adjacencyTimeout t _ => t
  | .lsaSend t => t
  | .lsaRx t _ _ => t
  | .lsaExpiry t _ => t
  | .assignSend t => t
  | .assignRx t _ _ => t
  | .timeSend t _ => t
  | .timeRx t _ _ => t
  | .trigFire t _ => t
  | .trigRx t _ _ => t
  | .shareSend t _ => t
  | .shareRx t _ _ => t
  | .shareCommit t => t
  | .mgmtRx t _ _ => t
  | .referenceLoss t _ => t
  | .referenceReturn t _ => t
  | .pllConfigWrite t _ _ _ => t
  | .bandTryTimeout t _ => t
  | .acquisitionCheckPass t _ _ => t
  | .lockWindowEnd t _ _ => t
  | .lockdetCrossing t _ => t
  | .pllFlagAutoClear t _ => t
  | .refFlagAutoClear t _ => t
  | .pllAutoRestart t _ => t
  | .clockOutputWrite t _ _ _ => t
  | .syncinEdge t => t
  | .ckSync t _ => t
  | .ckArm t _ => t
  | .armedSyncFire t => t
  | .nop t _ => t
  | .jmp t _ _ => t
  | .waitPin t _ _ => t
  | .waitFlag t _ => t
  | .waitEvent t _ => t
  | .setPin t _ => t
  | .setLc t _ => t
  | .setSrClear t _ => t
  | .setEventClear t _ => t
  | .inPins t _ _ => t
  | .inDin t _ => t
  | .inSerial t _ _ => t
  | .outPins t _ => t
  | .outDout t _ => t
  | .outLc t _ => t
  | .outSerial t _ _ => t
  | .pulse t _ => t
  | .irqSetFlag t _ => t
  | .irqClearFlag t _ => t
  | .irqHost t _ => t
  | .irqTimetable t _ => t
  | .illegalInstruction t _ => t
  | .engineRestart t _ _ => t
  | .engineKick t _ _ => t
  | .doutAck t _ _ => t
  | .dinDrop t _ _ => t
  | .pioDinWrite t _ _ _ => t
  | .pioInjWrite t _ _ _ => t
  | .injectionExecute t _ _ _ => t
  | .flagSet t _ _ => t
  | .flagClr t _ _ => t
  | .engineRun t _ _ => t
  | .engineStop t _ _ => t
  | .pioProgWrite t _ _ _ _ => t
  | .bankSupplyLoss t _ => t
  | .linkUp t _ _ _ => t
  | .linkDown t _ _ _ => t
  | .witrigRequestRx t _ _ => t
  | .read t _ _ => t
  | .write t _ => t
  | .nodes t _ => t
  | .challenge t _ => t
  | .openSession t _ => t
  | .closeSession t _ => t
  | .attest t _ => t
  | .sessionIdleTimeout t _ => t
  | .dhcpRx t _ => t
  | .dhcpFallbackTimeout t => t
  | .dhcpLeaseExpiry t => t
  | .ethAddressWrite t _ _ _ => t
  | .arpRx t _ => t
  | .arpRetryTimeout t _ => t
  | .arpAnnounce t => t
  | .arpEntryAgeout t _ => t
  | .icmpEchoRequest t _ => t
  | .ptpAnnounceRx t _ => t
  | .ptpSyncRx t _ => t
  | .ptpFollowUpRx t _ => t
  | .ptpDelayReqSend t => t
  | .ptpDelayRespRx t _ => t
  | .ptpAnnounceTimeout t => t
  | .ethFrameTransmit t => t
  | .previewDatagramSend t => t
  | .powerOn t => t
  | .brownOut t => t
  | .resetNLow t _ => t
  | .watchdogTimeout t => t
  | .romStage t => t
  | .imageSelection t _ _ _ _ => t
  | .stagedStartEvent t => t
  | .applyImage t _ => t
  | .portRelease t => t
  | .resetCmd t _ => t
  | .rollback t _ => t
  | .confirm t _ => t
  | .confirmTimeout t => t
  | .thermalRecoveryBoot t => t
  | .flashErase t _ => t
  | .flashProgram t _ => t
  | .flashRead t _ => t
  | .flashCheck t _ _ _ => t
  | .flashCommandDone t _ => t
  | .keyAdd t _ => t
  | .keyRevoke t _ _ => t
  | .otpProgramDone t => t
  | .extest t _ => t
  | .idcode t => t
  | .samplePreload t _ => t
  | .clamp t _ => t
  | .highz t _ => t
  | .bypass t => t
  | .bankSupplyReturn t _ => t
  | .dhcpClientTimer t => t
  | .testLogicReset t => t

/-- The families of commands, one for each chapter whose block they act on; the Witrig commands apart from the rest of the Ethernet port. -/
inductive Family where
  | registers | timetable | converters | pipeline | frameStore | ferries | egress | lanes | fabric | clocks | pio | ethernet | witrig | boot
deriving DecidableEq, Repr

/-- The family of a command. -/
def family : Instr → Family
  | .registerWrite _ _ _ _ => .registers
  | .shadowWrite _ _ _ _ => .timetable
  | .commit _ _ => .timetable
  | .force _ _ => .timetable
  | .gangwaySwap _ => .timetable
  | .idleGangway _ => .timetable
  | .gridInstant _ => .timetable
  | .exposureStart _ => .timetable
  | .exposureTransfer _ _ _ => .timetable
  | .manifestCompletion _ => .timetable
  | .conversionPassStart _ => .converters
  | .sliceRotation _ => .converters
  | .tapStep _ => .converters
  | .rowSlotStart _ => .converters
  | .sampleDelivery _ => .converters
  | .conversionEnd _ => .converters
  | .lineRelease _ _ _ _ => .pipeline
  | .lineEnterLanding _ => .pipeline
  | .statsSnapshot _ => .pipeline
  | .mapDerivationDone _ => .pipeline
  | .seamSend _ _ _ _ _ => .pipeline
  | .seamRx _ _ => .pipeline
  | .seamWaitTimeout _ => .pipeline
  | .swTrigFire _ _ => .timetable
  | .triggerPinEdge _ _ _ _ => .timetable
  | .schedArm _ _ => .timetable
  | .scheduledFire _ => .timetable
  | .deferredStart _ => .timetable
  | .encoderCount _ _ _ => .timetable
  | .encoderZero _ _ => .timetable
  | .fabricTriggerArrival _ => .timetable
  | .subExposureStart _ => .timetable
  | .subTimeout _ => .timetable
  | .stripStart _ => .timetable
  | .partDetectEdge _ _ => .timetable
  | .evlogPop _ _ => .timetable
  | .exposureMapWrite _ _ _ _ => .timetable
  | .injReq _ _ _ _ => .converters
  | .injectedConversionStart _ _ => .converters
  | .injectedResult _ _ _ _ => .converters
  | .hkEntryDone _ _ => .converters
  | .hkInj _ _ _ _ => .converters
  | .hkInjDone _ _ => .converters
  | .hkCalibration _ _ => .converters
  | .calBatchDone _ _ _ => .converters
  | .calTapWrite _ _ _ _ _ => .converters
  | .unloaderSend _ _ => .frameStore
  | .mirrorWriteTimeout _ _ => .frameStore
  | .berthTableWrite _ _ _ _ => .frameStore
  | .recallGo _ _ => .frameStore
  | .recallRun _ => .frameStore
  | .recallPop _ _ => .frameStore
  | .statsRecordLatch _ _ _ => .pipeline
  | .meanMapLatch _ _ _ => .pipeline
  | .ferryKick _ _ _ _ _ => .ferries
  | .ferryStop _ _ _ => .ferries
  | .ferryEnable _ _ _ => .ferries
  | .descriptorFetch _ _ => .ferries
  | .pacingWaitEnd _ _ => .ferries
  | .sourceLineMove _ _ => .ferries
  | .descriptorWriteback _ _ => .ferries
  | .deliveryReport _ _ => .ferries
  | .ferryPoll _ _ => .ferries
  | .chainHandover _ _ => .ferries
  | .chainRunAbort _ _ => .ferries
  | .packetTransmit _ _ => .egress
  | .alignRound _ _ _ => .egress
  | .returnRx _ _ _ => .egress
  | .ackTimeout _ _ => .egress
  | .capSend _ _ => .egress
  | .capRx _ _ _ => .egress
  | .shedRound _ _ => .egress
  | .bundleShedCmd _ _ _ _ => .egress
  | .rejoinRound _ _ => .egress
  | .bundleRejoinCmd _ _ _ _ => .egress
  | .blindTimeout _ _ => .egress
  | .creditStallTimeout _ _ _ => .egress
  | .bundleStop _ _ _ => .egress
  | .bundleStopClear _ _ _ => .egress
  | .bundleEnable _ _ _ => .lanes
  | .bundleDisable _ _ _ => .lanes
  | .detectStep _ _ _ => .lanes
  | .trainingFrameRx _ _ _ => .lanes
  | .countdownEnd _ _ => .lanes
  | .trainTimeout _ _ => .lanes
  | .lockTimeout _ _ => .lanes
  | .capTimeout _ _ => .lanes
  | .frameLockGain _ _ => .lanes
  | .frameLockLoss _ _ => .lanes
  | .blockLockGain _ _ => .lanes
  | .blockLockLoss _ _ => .lanes
  | .retrainBurst _ _ _ => .lanes
  | .rejoinRetryTimeout _ _ _ => .lanes
  | .laneMoor _ _ => .lanes
  | .moorExit _ _ => .lanes
  | .burstEnd _ _ => .lanes
  | .txeqWrite _ _ _ _ _ => .lanes
  | .errorInject _ _ _ _ => .lanes
  | .checkerLock _ _ => .lanes
  | .checkerLockLoss _ _ _ => .lanes
  | .portTrainingFrameRx _ _ _ => .fabric
  | .portTrainTimeout _ _ => .fabric
  | .portLockTimeout _ _ => .fabric
  | .helloSend _ _ => .fabric
  | .helloRx _ _ _ => .fabric
  | .adjacencyTimeout _ _ => .fabric
  | .lsaSend _ => .fabric
  | .lsaRx _ _ _ => .fabric
  | .lsaExpiry _ _ => .fabric
  | .assignSend _ => .fabric
  | .assignRx _ _ _ => .fabric
  | .timeSend _ _ => .fabric
  | .timeRx _ _ _ => .fabric
  | .trigFire _ _ => .fabric
  | .trigRx _ _ _ => .fabric
  | .shareSend _ _ => .fabric
  | .shareRx _ _ _ => .fabric
  | .shareCommit _ => .fabric
  | .mgmtRx _ _ _ => .fabric
  | .referenceLoss _ _ => .clocks
  | .referenceReturn _ _ => .clocks
  | .pllConfigWrite _ _ _ _ => .clocks
  | .bandTryTimeout _ _ => .clocks
  | .acquisitionCheckPass _ _ _ => .clocks
  | .lockWindowEnd _ _ _ => .clocks
  | .lockdetCrossing _ _ => .clocks
  | .pllFlagAutoClear _ _ => .clocks
  | .refFlagAutoClear _ _ => .clocks
  | .pllAutoRestart _ _ => .clocks
  | .clockOutputWrite _ _ _ _ => .clocks
  | .syncinEdge _ => .clocks
  | .ckSync _ _ => .clocks
  | .ckArm _ _ => .clocks
  | .armedSyncFire _ => .clocks
  | .nop _ _ => .pio
  | .jmp _ _ _ => .pio
  | .waitPin _ _ _ => .pio
  | .waitFlag _ _ => .pio
  | .waitEvent _ _ => .pio
  | .setPin _ _ => .pio
  | .setLc _ _ => .pio
  | .setSrClear _ _ => .pio
  | .setEventClear _ _ => .pio
  | .inPins _ _ _ => .pio
  | .inDin _ _ => .pio
  | .inSerial _ _ _ => .pio
  | .outPins _ _ => .pio
  | .outDout _ _ => .pio
  | .outLc _ _ => .pio
  | .outSerial _ _ _ => .pio
  | .pulse _ _ => .pio
  | .irqSetFlag _ _ => .pio
  | .irqClearFlag _ _ => .pio
  | .irqHost _ _ => .pio
  | .irqTimetable _ _ => .pio
  | .illegalInstruction _ _ => .pio
  | .engineRestart _ _ _ => .pio
  | .engineKick _ _ _ => .pio
  | .doutAck _ _ _ => .pio
  | .dinDrop _ _ _ => .pio
  | .pioDinWrite _ _ _ _ => .pio
  | .pioInjWrite _ _ _ _ => .pio
  | .injectionExecute _ _ _ _ => .pio
  | .flagSet _ _ _ => .pio
  | .flagClr _ _ _ => .pio
  | .engineRun _ _ _ => .pio
  | .engineStop _ _ _ => .pio
  | .pioProgWrite _ _ _ _ _ => .pio
  | .bankSupplyLoss _ _ => .pio
  | .linkUp _ _ _ _ => .ethernet
  | .linkDown _ _ _ _ => .ethernet
  | .witrigRequestRx _ _ _ => .witrig
  | .read _ _ _ => .witrig
  | .write _ _ => .witrig
  | .nodes _ _ => .witrig
  | .challenge _ _ => .witrig
  | .openSession _ _ => .witrig
  | .closeSession _ _ => .witrig
  | .attest _ _ => .witrig
  | .sessionIdleTimeout _ _ => .witrig
  | .dhcpRx _ _ => .ethernet
  | .dhcpFallbackTimeout _ => .ethernet
  | .dhcpLeaseExpiry _ => .ethernet
  | .ethAddressWrite _ _ _ _ => .ethernet
  | .arpRx _ _ => .ethernet
  | .arpRetryTimeout _ _ => .ethernet
  | .arpAnnounce _ => .ethernet
  | .arpEntryAgeout _ _ => .ethernet
  | .icmpEchoRequest _ _ => .ethernet
  | .ptpAnnounceRx _ _ => .ethernet
  | .ptpSyncRx _ _ => .ethernet
  | .ptpFollowUpRx _ _ => .ethernet
  | .ptpDelayReqSend _ => .ethernet
  | .ptpDelayRespRx _ _ => .ethernet
  | .ptpAnnounceTimeout _ => .ethernet
  | .ethFrameTransmit _ => .ethernet
  | .previewDatagramSend _ => .ethernet
  | .powerOn _ => .boot
  | .brownOut _ => .boot
  | .resetNLow _ _ => .boot
  | .watchdogTimeout _ => .boot
  | .romStage _ => .boot
  | .imageSelection _ _ _ _ _ => .boot
  | .stagedStartEvent _ => .boot
  | .applyImage _ _ => .boot
  | .portRelease _ => .boot
  | .resetCmd _ _ => .boot
  | .rollback _ _ => .boot
  | .confirm _ _ => .boot
  | .confirmTimeout _ => .boot
  | .thermalRecoveryBoot _ => .boot
  | .flashErase _ _ => .boot
  | .flashProgram _ _ => .boot
  | .flashRead _ _ => .boot
  | .flashCheck _ _ _ _ => .boot
  | .flashCommandDone _ _ => .boot
  | .keyAdd _ _ => .boot
  | .keyRevoke _ _ _ => .boot
  | .otpProgramDone _ => .boot
  | .extest _ _ => .boot
  | .idcode _ => .boot
  | .samplePreload _ _ => .boot
  | .clamp _ _ => .boot
  | .highz _ _ => .boot
  | .bypass _ => .boot
  | .bankSupplyReturn _ _ => .pio
  | .dhcpClientTimer _ => .ethernet
  | .testLogicReset _ => .boot

/-- A command keeps to its footprint: where it has a next state, that differs only within the footprint from the state in which the command's time has come. -/
def KeepsFootprint (c : Instr) : Prop :=
  ∀ s t, exec c s = .next t → Keeps (footprint c) (s.advance (cmdTime c)) t

/-- The pipeline stripes and the frame store work: loop 1, which clocks them, is not acquiring (R20, R313). -/
abbrev State.stripesWork (s : State) : Prop := s.flag (Reg.CK_PSTAT 1) Fld.CK_PSTAT_ACQ = false

/-- Wherever `H` holds of the state in which a command's time has come, the command has a next state, and `P` relates the two. -/
def Runs (c : Instr) (H : State → Prop) (P : State → State → Prop) : Prop :=
  ∀ s, H (s.advance (cmdTime c)) → ∃ t, exec c s = .next t ∧ P (s.advance (cmdTime c)) t

end Sys2Proof.Machine
end

