-- ==== Sys2Proof/WellFormed.lean ====
section
/-! DEFINITION. Which commands are well formed: operands that the types leave wider than the spec gives them lie in their ranges: 32-bit management addresses (R356), in-cluster pixels (R31), the sizes of messages (R284, R290, R300, R302, R305), lanes (R229), a verdict for each of the four slots (R373). -/

namespace Sys2Proof

/-- The operands of a command lie in the ranges that the spec gives them. -/
def Instr.wf : Instr → Bool
  | .registerWrite _ _ addr _ => decide (addr < 2 ^ 32)
  | .shadowWrite _ _ addr _ => decide (addr < 2 ^ 32)
  | .commit _ _ => true
  | .force _ _ => true
  | .gangwaySwap _ => true
  | .idleGangway _ => true
  | .gridInstant _ => true
  | .exposureStart _ => true
  | .exposureTransfer _ _ charges => charges.all fun p => decide (p.1 < 4096)
  | .manifestCompletion _ => true
  | .conversionPassStart _ => true
  | .sliceRotation _ => true
  | .tapStep _ => true
  | .rowSlotStart _ => true
  | .sampleDelivery _ => true
  | .conversionEnd _ => true
  | .lineRelease _ _ _ _ => true
  | .lineEnterLanding _ => true
  | .statsSnapshot _ => true
  | .mapDerivationDone _ => true
  | .seamSend _ _ _ _ _ => true
  | .seamRx _ msg => msg.recs.all fun r => decide (r.1 < 8192) && r.2.length == 64
  | .seamWaitTimeout _ => true
  | .swTrigFire _ _ => true
  | .triggerPinEdge _ _ _ _ => true
  | .schedArm _ _ => true
  | .scheduledFire _ => true
  | .deferredStart _ => true
  | .encoderCount _ _ _ => true
  | .encoderZero _ _ => true
  | .fabricTriggerArrival _ => true
  | .subExposureStart _ => true
  | .subTimeout _ => true
  | .stripStart _ => true
  | .partDetectEdge _ _ => true
  | .evlogPop _ _ => true
  | .exposureMapWrite _ _ _ _ => true
  | .injReq _ _ _ _ => true
  | .injectedConversionStart _ _ => true
  | .injectedResult _ _ _ others => others.all fun p => decide (p.1 < 33024) && decide (p.2 < 4096)
  | .hkEntryDone _ _ => true
  | .hkInj _ _ _ _ => true
  | .hkInjDone _ _ => true
  | .hkCalibration _ _ => true
  | .calBatchDone _ _ _ => true
  | .calTapWrite _ _ _ _ _ => true
  | .unloaderSend _ _ => true
  | .mirrorWriteTimeout _ _ => true
  | .berthTableWrite _ _ _ _ => true
  | .recallGo _ _ => true
  | .recallRun _ => true
  | .recallPop _ _ => true
  | .statsRecordLatch _ _ _ => true
  | .meanMapLatch _ _ _ => true
  | .ferryKick _ _ _ _ _ => true
  | .ferryStop _ _ _ => true
  | .ferryEnable _ _ _ => true
  | .descriptorFetch _ _ => true
  | .pacingWaitEnd _ _ => true
  | .sourceLineMove _ _ => true
  | .descriptorWriteback _ _ => true
  | .deliveryReport _ _ => true
  | .ferryPoll _ _ => true
  | .chainHandover _ _ => true
  | .chainRunAbort _ _ => true
  | .packetTransmit _ _ => true
  | .alignRound _ _ stuffed => decide (stuffed.length ≤ 7)
  | .returnRx _ _ bits => decide (bits.length ≤ 267)
  | .ackTimeout _ _ => true
  | .capSend _ _ => true
  | .capRx _ _ bits => decide (bits.length ≤ 267)
  | .shedRound _ _ => true
  | .bundleShedCmd _ _ _ _ => true
  | .rejoinRound _ _ => true
  | .bundleRejoinCmd _ _ _ _ => true
  | .blindTimeout _ _ => true
  | .creditStallTimeout _ _ _ => true
  | .bundleStop _ _ _ => true
  | .bundleStopClear _ _ _ => true
  | .bundleEnable _ _ _ => true
  | .bundleDisable _ _ _ => true
  | .detectStep _ _ _ => true
  | .trainingFrameRx _ _ _ => true
  | .countdownEnd _ _ => true
  | .trainTimeout _ _ => true
  | .lockTimeout _ _ => true
  | .capTimeout _ _ => true
  | .frameLockGain _ _ => true
  | .frameLockLoss _ _ => true
  | .blockLockGain _ _ => true
  | .blockLockLoss _ _ => true
  | .retrainBurst _ _ _ => true
  | .rejoinRetryTimeout _ _ _ => true
  | .laneMoor _ _ => true
  | .moorExit _ _ => true
  | .burstEnd _ _ => true
  | .txeqWrite _ _ _ _ _ => true
  | .errorInject _ _ _ _ => true
  | .checkerLock _ _ => true
  | .checkerLockLoss _ _ _ => true
  | .portTrainingFrameRx _ _ _ => true
  | .portTrainTimeout _ _ => true
  | .portLockTimeout _ _ => true
  | .helloSend _ _ => true
  | .helloRx _ _ _ => true
  | .adjacencyTimeout _ _ => true
  | .lsaSend _ => true
  | .lsaRx _ _ msg => decide (msg.links.length ≤ 8) && decide (msg.seq < 2 ^ 32) && decide (msg.hops < 16)
  | .lsaExpiry _ _ => true
  | .assignSend _ => true
  | .assignRx _ _ msg => decide (msg.entries.length ≤ 64) && (msg.entries.all fun e => decide (e.2 < 4096)) && decide (msg.hops < 16)
  | .timeSend _ _ => true
  | .timeRx _ _ _ => true
  | .trigFire _ _ => true
  | .trigRx _ _ _ => true
  | .shareSend _ _ => true
  | .shareRx _ _ msg => msg.words.length == 10 && decide (msg.hops < 16)
  | .shareCommit _ => true
  | .mgmtRx _ _ msg => xor msg.req.isSome msg.resp.isSome
  | .referenceLoss _ _ => true
  | .referenceReturn _ _ => true
  | .pllConfigWrite _ _ _ _ => true
  | .bandTryTimeout _ _ => true
  | .acquisitionCheckPass _ _ _ => true
  | .lockWindowEnd _ _ _ => true
  | .lockdetCrossing _ _ => true
  | .pllFlagAutoClear _ _ => true
  | .refFlagAutoClear _ _ => true
  | .pllAutoRestart _ _ => true
  | .clockOutputWrite _ _ _ _ => true
  | .syncinEdge _ => true
  | .ckSync _ _ => true
  | .ckArm _ _ => true
  | .armedSyncFire _ => true
  | .nop _ _ => true
  | .jmp _ _ _ => true
  | .waitPin _ _ _ => true
  | .waitFlag _ _ => true
  | .waitEvent _ _ => true
  | .setPin _ _ => true
  | .setLc _ _ => true
  | .setSrClear _ _ => true
  | .setEventClear _ _ => true
  | .inPins _ _ _ => true
  | .inDin _ _ => true
  | .inSerial _ _ bits => decide (bits.length ≤ 64)
  | .outPins _ _ => true
  | .outDout _ _ => true
  | .outLc _ _ => true
  | .outSerial _ _ _ => true
  | .pulse _ _ => true
  | .irqSetFlag _ _ => true
  | .irqClearFlag _ _ => true
  | .irqHost _ _ => true
  | .irqTimetable _ _ => true
  | .illegalInstruction _ _ => true
  | .engineRestart _ _ _ => true
  | .engineKick _ _ _ => true
  | .doutAck _ _ _ => true
  | .dinDrop _ _ _ => true
  | .pioDinWrite _ _ _ _ => true
  | .pioInjWrite _ _ _ _ => true
  | .injectionExecute _ _ _ bits => decide (bits.length ≤ 64)
  | .flagSet _ _ _ => true
  | .flagClr _ _ _ => true
  | .engineRun _ _ _ => true
  | .engineStop _ _ _ => true
  | .pioProgWrite _ _ _ _ _ => true
  | .bankSupplyLoss _ _ => true
  | .linkUp _ _ _ _ => true
  | .linkDown _ _ _ _ => true
  | .witrigRequestRx _ msg _ => decide (msg.body.length ≤ 65475)
  | .read _ _ _ => true
  | .write _ _ => true
  | .nodes _ _ => true
  | .challenge _ _ => true
  | .openSession _ _ => true
  | .closeSession _ _ => true
  | .attest _ _ => true
  | .sessionIdleTimeout _ _ => true
  | .dhcpRx _ _ => true
  | .dhcpFallbackTimeout _ => true
  | .dhcpLeaseExpiry _ => true
  | .ethAddressWrite _ _ addr _ => decide (addr < 2 ^ 32)
  | .arpRx _ _ => true
  | .arpRetryTimeout _ ip => decide (ip < 2 ^ 32)
  | .arpAnnounce _ => true
  | .arpEntryAgeout _ ip => decide (ip < 2 ^ 32)
  | .icmpEchoRequest _ msg => decide (msg.payload.length ≤ 65507)
  | .ptpAnnounceRx _ _ => true
  | .ptpSyncRx _ _ => true
  | .ptpFollowUpRx _ _ => true
  | .ptpDelayReqSend _ => true
  | .ptpDelayRespRx _ _ => true
  | .ptpAnnounceTimeout _ => true
  | .ethFrameTransmit _ => true
  | .previewDatagramSend _ => true
  | .powerOn _ => true
  | .brownOut _ => true
  | .resetNLow _ _ => true
  | .watchdogTimeout _ => true
  | .romStage _ => true
  | .imageSelection _ _ _ _ verdicts => verdicts.length == 4
  | .stagedStartEvent _ => true
  | .applyImage _ _ => true
  | .portRelease _ => true
  | .resetCmd _ _ => true
  | .rollback _ _ => true
  | .confirm _ _ => true
  | .confirmTimeout _ => true
  | .thermalRecoveryBoot _ => true
  | .flashErase _ _ => true
  | .flashProgram _ _ => true
  | .flashRead _ _ => true
  | .flashCheck _ _ _ _ => true
  | .flashCommandDone _ _ => true
  | .keyAdd _ _ => true
  | .keyRevoke _ _ _ => true
  | .otpProgramDone _ => true
  | .extest _ _ => true
  | .idcode _ => true
  | .samplePreload _ _ => true
  | .clamp _ _ => true
  | .highz _ _ => true
  | .bypass _ => true
  | .bankSupplyReturn _ _ => true
  | .dhcpClientTimer _ => true
  | .testLogicReset _ => true

end Sys2Proof
end

