-- ==== Sys2Proof/Certificates/Slice0/Obligations.lean ====
section
/-! DEFINITION. The statements for the provers. The operands of the commands and the instant at which each comes are the model's (log entry 5), and so is the field `wire`, which keeps what the device drives out (log entry 7). Each says of some commands that they have a next state, under conditions on the state in which their time has come and on their operands alone, and what that state holds (`Runs`); or that they change nothing outside their footprint (`KeepsFootprint`); or something of the whole machine. -/

open Sys2Proof Sys2Proof.Machine

/-! ## The machine -/

/-- The step takes the command at the front of the queue and runs it with the queue's rest. -/
def Obligations.StepRunsTheFrontCommand : Prop :=
  ∀ (c : Instr) (rest : List Instr) (s : State), step { s with pending := c :: rest } = exec c { s with pending := rest }

/-- On an empty queue the block idles: nothing changes (DESIGN CHOICE, log entry 9). -/
def Obligations.EmptyQueueIdles : Prop := ∀ s : State, s.pending = [] → step s = .next s

/-- No command faults and none is refused, in any state. -/
def Obligations.EveryCommandGoesOn : Prop := ∀ (c : Instr) (s : State), goesOn (exec c s)

/-- The state after reset is sound; every register but those that are fused or programmed once (R16, R312, R345, R382, R383) is at the reset word of its table, of which some are given here; the settings in use are the reset settings, boot lock is open, and no command waits. What is fused and what an empty frame store reads as are the model's choice (log entries 2 and 3). -/
def Obligations.ResetIsSound : Prop :=
  State.reset.Sound ∧ State.reset.pending = [] ∧ State.reset.dram = [] ∧ State.reset.boot.inReset = false ∧ State.reset.bootLocked = false ∧
    State.reset.reg Reg.ID_PART = 0x4C53134201000100 ∧
    (∀ a, a ∉ [Reg.ID_PART, Reg.ID_DEVID, Reg.FB_ROOT, Reg.ETH_MAC] → a < Reg.CK_BAND 0 ∨ Reg.CK_BAND 63 < a →
      a < Reg.SEC_KEY 0 0 ∨ Reg.SEC_ID_CERT 127 < a → State.reset.reg a = resetWord a) ∧
    (∀ (a : Nat) (f : Field), State.reset.u a f = f.get (resetWord a)) ∧
    (∀ x ∈ ([(Reg.TT_MODE, 0), (Reg.TT_EXP_A, 0xC350), (Reg.TT_PERIOD, 0x14585), (Reg.TT_STRIP, 0x4000400), (Reg.CC_CFG, 0x400), (Reg.CAL_CFG, 0x10D),
      (Reg.PIPE_CFG, 1), (Reg.FS_CFG, 1), (Reg.EG_CFG, 0x1428F4020), (Reg.LN_CFG, 0xA640A6432), (Reg.FB_CFG, 0x20000FF), (Reg.ETH_CFG, 0x19),
      (Reg.CK_PLL 0, 0xA0), (Reg.CTX_CTL 0, 0x38401), (Reg.CTX_CTL 3071, 0x38400)] : List (Nat × Word)), resetWord x.1 = x.2)

/-- Every step keeps the state sound. -/
def Obligations.EveryStepKeepsTheStateSound : Prop := ∀ s t : State, s.Sound → step s = .next t → t.Sound

/-- Time only moves the clocks: what is not a clock is as it was, but that what the hardware sets at one instant is forgotten at the next (R13); the model's time is the later of the two instants, and a timetable that runs counts as many ns as have passed. -/
def Obligations.TimeMovesOnlyTheClocks : Prop :=
  ∀ (s : State) (t : Nat),
    (∃ (c : Clock) (n : Nat), s.advance t = { s with clock := c, fresh := if t ≤ s.clock.now then s.fresh else [], free := n }) ∧
      (s.advance t).clock.now = max s.clock.now t ∧
      (s.advance t).clock.step = s.clock.step ∧
      (s.clock.running = true → (s.advance t).clock.tt = s.clock.tt + (t - s.clock.now)) ∧
      (s.clock.running = false → (s.advance t).clock.tt = s.clock.tt)

/-! ## Frames, family by family -/

/-- REGISTER_WRITE, the timetable's, the converters' and the calibration's commands keep to their footprints. -/
def Obligations.TimetableAndConverterCommandsKeepToTheirFootprint : Prop :=
  ∀ c : Instr, family c = .registers ∨ family c = .timetable ∨ family c = .converters → KeepsFootprint c

/-- The pipeline's, the frame store's and the ferries' commands keep to their footprints. -/
def Obligations.PipelineStoreAndFerryCommandsKeepToTheirFootprint : Prop :=
  ∀ c : Instr, family c = .pipeline ∨ family c = .frameStore ∨ family c = .ferries → KeepsFootprint c

/-- The egress link's commands and the lanes' keep to their footprints. -/
def Obligations.EgressAndLaneCommandsKeepToTheirFootprint : Prop :=
  ∀ c : Instr, family c = .egress ∨ family c = .lanes → KeepsFootprint c

/-- The fabric's commands, those of clock synthesis and those of the PIO engines keep to their footprints. -/
def Obligations.FabricClockAndPioCommandsKeepToTheirFootprint : Prop :=
  ∀ c : Instr, family c = .fabric ∨ family c = .clocks ∨ family c = .pio → KeepsFootprint c

/-- The Ethernet port's commands, Witrig's among them, and those of boot, security and the TAP keep to their footprints. -/
def Obligations.EthernetAndBootCommandsKeepToTheirFootprint : Prop :=
  ∀ c : Instr, family c = .ethernet ∨ family c = .witrig ∨ family c = .boot → KeepsFootprint c

/-! ## Registers -/

/-- R9: every register is 64 bits wide, at a multiple of 8, and is read and written whole; an access at another address changes nothing and has the status of an alignment error: so by REGISTER_WRITE, by every read and write of management, and so a Witrig READ there is answered with that error and no word. -/
def Obligations.MisalignedAccessesChangeNothing : Prop :=
  (∀ (addr : Nat) (d : RegDef), regAt addr = some d → addr % 8 = 0) ∧
  (∀ (t : Nat) (src : Src) (addr : Nat) (val : Word), addr % 8 ≠ 0 →
    Runs (.registerWrite t src addr val) (fun _ => True) (fun s u => u = s) ∧
      ∀ s : State, s.mgmtWrite src addr val = (s, 1) ∧ s.mgmtRead src addr = (s, 1, 0)) ∧
  (∀ (src : Src) (val : Word) (s : State), s.mayManage src = true →
    (s.mgmtRead src Reg.ID_SCRATCH).2 = (0, s.reg Reg.ID_SCRATCH) ∧ (s.mgmtWrite src Reg.ID_SCRATCH val).1.reg Reg.ID_SCRATCH = val) ∧
  ∀ (t : Nat) (lands : BitVec 64) (m : WitrigMsg), witAt m 0 4 % 8 ≠ 0 → 0 < witAt m 4 2 →
    Runs (.read t .eth lands) (fun s => s.eth.reqs.head? = some m ∧ m.opcode = 1 ∧ (m.expect = 0 ∨ m.expect = s.devid)) fun s u =>
      u.eth.txq = s.eth.txq ++ [{ cls := 3, kind := 8, ip := m.ip.toNat, words := [], resp := some (m.port.toNat, witResp m 1 false [0, 0, 0, 0]) }] ∧
        u.eth.reqs = s.eth.reqs.tail

/-- R11: an aligned address that lies in a decode window and holds no register reads as 0 and ignores writes; one from 0x0320_0000 to 0x03FF_FFFF or from 0x0A00_0000 on has the status of an address error and the access changes nothing. -/
def Obligations.AddressesWithoutARegisterIgnoreWrites : Prop :=
  (∀ (t : Nat) (src : Src) (addr : Nat) (val : Word), addr % 8 = 0 → addr < 0x03200000 ∨ (0x04000000 ≤ addr ∧ addr < 0x0A000000) → regAt addr = none →
    Runs (.registerWrite t src addr val) (fun _ => True) (fun s u => u = s) ∧
      ∀ s : State, s.mgmtWrite src addr val = (s, 0) ∧ s.mgmtRead src addr = (s, 0, 0)) ∧
  ∀ (t : Nat) (src : Src) (addr : Nat) (val : Word), addr % 8 = 0 →
    (0x03200000 ≤ addr ∧ addr ≤ 0x03FFFFFF) ∨ 0x0A000000 ≤ addr →
    Runs (.registerWrite t src addr val) (fun _ => True) (fun s u => u = s) ∧
      ∀ s : State, s.mgmtWrite src addr val = (s, 2) ∧ s.mgmtRead src addr = (s, 2, 0)

/-- R12 to R14: REGISTER_WRITE by a source that may manage. A register with an RWL field that is written after boot lock is ignored as a whole and the status is that of a locked write; ID_PART and ID_DEVID, which hold RO fields alone, keep their values; a plain register takes the written value in its RW bits, each 1 clears its W1C bit but one that the hardware has set in the same cycle, and every other bit stays; no other register and no setting in use changes, nor the timetable, the bundles and what the device has driven out. The model's own readings in it: log entries 65 and 90. -/
def Obligations.RegisterWritesFollowTheAccessTypes : Prop :=
  (∀ (t : Nat) (src : Src) (addr : Nat) (val : Word) (d : RegDef), addr % 8 = 0 → inWindow addr = true → regAt addr = some d → d.locked = true →
    Runs (.registerWrite t src addr val) (fun s => s.bootLocked = true) (fun s u => u = s) ∧
      ∀ s : State, s.bootLocked = true → s.mgmtWrite src addr val = (s, 3)) ∧
  (∀ (t : Nat) (src : Src) (addr : Nat) (val : Word), addr = Reg.ID_PART ∨ addr = Reg.ID_DEVID →
    Runs (.registerWrite t src addr val) (fun _ => True) fun s u => u.reg addr = s.reg addr) ∧
  ∀ (t : Nat) (src : Src) (addr : Nat) (val : Word) (d : RegDef),
    addr ∈ [Reg.ID_SCRATCH, Reg.PWR_STAT, Reg.PWR_SUP, Reg.HK_STATUS, Reg.CK_STATUS, Reg.CK_SYNC_AT, Reg.TT_SCHED_TIME, Reg.TT_STATUS,
      Reg.CC_ROT_CFG, Reg.CC_STATUS, Reg.CAL_STATUS, Reg.PIPE_STATUS, Reg.FS_CFG, Reg.FS_STATUS, Reg.FY_DONE, Reg.FY_ERR,
      Reg.EG_STATUS, Reg.LN_CFG, Reg.LN_STATUS, Reg.FB_STATUS, Reg.FB_TRIG_CFG, Reg.FB_TTS_CFG,
      Reg.ETH_STATUS, Reg.ETH_PREV_CFG, Reg.ETH_PREV_DST, Reg.CFG_FL_ADDR, Reg.CFG_GW_STATUS] → regAt addr = some d →
    Runs (.registerWrite t src addr val) (fun s => s.mayManage src = true) fun s u =>
      u.reg addr = (val &&& BitVec.ofNat 64 d.storeMask) ||| (s.reg addr &&& ~~~BitVec.ofNat 64 d.storeMask &&&
          ~~~(val &&& BitVec.ofNat 64 d.w1c &&& ~~~BitVec.ofNat 64 (s.freshBits addr))) ∧
        (∀ a, a ≠ addr → u.reg a = s.reg a) ∧ u.use = s.use ∧ u.wire = s.wire ∧ u.tt = s.tt ∧ u.eg = s.eg

/-! ## The timetable -/

/-- R142, R143, R146, R77, R123: a write to a shadowed register is stamped with the current tick and kept in the shadow, and the settings in use do not change; COMMIT adds a commit with its tick and stamp, to CFG_GW_CTIME too, and sets PENDING; FORCE does the same and asks for a forced idle gangway where it acts; a map write is ignored and flagged while automatic derivation is on, and else shadowed; a tap write sets PEND and RESTORE_PEND. -/
def Obligations.ShadowWritesAndCommitsAreStamped : Prop :=
  (∀ (t : Nat) (src : Src) (addr : Nat) (val : Word) (d : RegDef),
    regAt addr = some d → d.shadowed = true → isMap addr = false → isTap addr = false →
    Runs (.shadowWrite t src addr val) (fun s => s.mayManage src = true) fun s u =>
      u.reg addr = writtenWord d (s.reg addr) val ∧ u.use = s.use ∧
        u.gw.writes = s.gw.writes ++ [{ tick := s.tick, addr := addr, val := writtenWord d (s.reg addr) val }]) ∧
  (∀ (t : Nat) (src : Src), Runs (.commit t src) (fun s => s.mayManage src = true) fun s u =>
      (∃ c : Commit, u.gw.commits = s.gw.commits ++ [c] ∧ c.tick = s.tick ∧ c.stamp = s.stamp ∧ c.src = src ∧ c.force = false) ∧
        u.reg Reg.CFG_GW_CTIME = s.stamp ∧ u.flag Reg.CFG_GW_STATUS Fld.CFG_GW_STATUS_PENDING = true ∧ u.use = s.use) ∧
  (∀ (t : Nat) (src : Src), Runs (.force t src) (fun s => s.mayManage src = true) fun s u =>
      (∃ c : Commit, u.gw.commits = s.gw.commits ++ [c] ∧ c.tick = s.tick ∧ c.stamp = s.stamp ∧ c.src = src ∧ c.force = s.forceActs) ∧
        u.reg Reg.CFG_GW_CTIME = s.stamp ∧ u.flag Reg.CFG_GW_STATUS Fld.CFG_GW_STATUS_PENDING = true ∧ u.use = s.use) ∧
  (∀ (t : Nat) (src : Src) (word : Fin 8192) (val : Word) (d : RegDef), regAt (Reg.TT_MAP word.val) = some d →
    Runs (.exposureMapWrite t src word val) (fun s => s.mayManage src = true ∧ s.autoOn = true) (fun s u =>
      u.flag Reg.TT_STATUS Fld.TT_STATUS_MAP_WR_IGNORED = true ∧ u.gw = s.gw ∧ ∀ a, a ≠ Reg.TT_STATUS → u.reg a = s.reg a) ∧
    Runs (.exposureMapWrite t src word val) (fun s => s.mayManage src = true ∧ s.autoOn = false) fun s u =>
      u.reg (Reg.TT_MAP word.val) = writtenWord d (s.reg (Reg.TT_MAP word.val)) val ∧ u.use = s.use ∧
        u.gw.writes = s.gw.writes ++ [{ tick := s.tick, addr := Reg.TT_MAP word.val, val := u.reg (Reg.TT_MAP word.val) }]) ∧
  ∀ (t : Nat) (src : Src) (conv : Fin 33024) (slice : Fin 5) (val : Word) (d : RegDef), regAt (Reg.CAL_TAP conv.val slice.val) = some d →
    Runs (.calTapWrite t src conv slice val) (fun s => s.mayManage src = true) fun s u =>
      u.flag (Reg.CAL_TAP conv.val slice.val) Fld.CAL_TAP_PEND = true ∧ u.flag Reg.CAL_STATUS Fld.CAL_STATUS_RESTORE_PEND = true ∧
        u.reg (Reg.CAL_TAP conv.val slice.val) =
          Fld.CAL_TAP_PEND.set (writtenWord d (s.reg (Reg.CAL_TAP conv.val slice.val)) val) 1 ∧ u.use = s.use

/-- R143, R144, R147 to R149, R54, R414: the gangway of the oldest frame whose swap instant has come. With a host commit stamped before the close, settings that pass the checks and a bank that is not busy, it flips to that bank with the plan's settings, the generation rises by 1, and the commits and writes stamped before the close are gone; settings that fail a check are refused whole with the reason, and a derived map that is due is installed all the same; with no bank free, or with nothing pending, nothing is installed. A frame that opens takes the next sequence number. The model's own readings in it: log entry 25. -/
def Obligations.GangwaySwapInstallsWithOneFlip : Prop :=
  ∀ (t : Nat) (f : Frame),
    (∀ b : Nat, Runs (.gangwaySwap t)
      (fun s => s.swapDue = some f ∧ (s.plan f.close s.tt.nextSeq).host ≠ [] ∧ (s.plan f.close s.tt.nextSeq).refusal = none ∧ s.freeBank = some b)
      fun s u => u.gw.cur = b ∧ u.gw.banks = s.gw.banks.set b (s.plan f.close s.tt.nextSeq).next ∧
        u.f Reg.CFG_GW_GEN Fld.CFG_GW_GEN_GEN = (s.f Reg.CFG_GW_GEN Fld.CFG_GW_GEN_GEN + 1) % 2 ^ 16 ∧
        (∀ c ∈ u.gw.commits, f.close ≤ c.tick) ∧ (∀ w ∈ u.gw.writes, f.close ≤ w.tick)) ∧
    (∀ (code : Nat) (ctx : Option Nat), Runs (.gangwaySwap t)
      (fun s => s.swapDue = some f ∧ (s.plan f.close s.tt.nextSeq).refusal = some (code, ctx) ∧ (s.judged f.close s.tt.nextSeq).derived = none)
      fun s u => u.gw.cur = s.gw.cur ∧ u.gw.banks = s.gw.banks ∧ u.flag Reg.TT_STATUS Fld.TT_STATUS_COMMIT_REFUSED = true ∧
        u.f Reg.TT_STATUS Fld.TT_STATUS_REFUSE_CODE = code % 16 ∧
        u.f Reg.CFG_GW_GEN Fld.CFG_GW_GEN_GEN = s.f Reg.CFG_GW_GEN Fld.CFG_GW_GEN_GEN ∧ u.gw.writes = s.gw.writes) ∧
    (∀ (code b : Nat) (ctx : Option Nat) (d : DerivedMap), Runs (.gangwaySwap t)
      (fun s => s.swapDue = some f ∧ (s.plan f.close s.tt.nextSeq).refusal = some (code, ctx) ∧ s.freeBank = some b ∧
        (s.judged f.close s.tt.nextSeq).derived = some d)
      fun s u => u.gw.cur = b ∧ u.gw.banks = s.gw.banks.set b (Sparse.putAll resetWord s.use d.codes) ∧ u.gw.derived = none ∧
        u.flag Reg.TT_STATUS Fld.TT_STATUS_COMMIT_REFUSED = true ∧ u.f Reg.TT_STATUS Fld.TT_STATUS_REFUSE_CODE = code % 16 ∧
        u.f Reg.CFG_GW_GEN Fld.CFG_GW_GEN_GEN = (s.f Reg.CFG_GW_GEN Fld.CFG_GW_GEN_GEN + 1) % 2 ^ 16 ∧ u.gw.writes = s.gw.writes) ∧
    Runs (.gangwaySwap t)
      (fun s => s.swapDue = some f ∧ (s.plan f.close s.tt.nextSeq).host ≠ [] ∧ (s.plan f.close s.tt.nextSeq).refusal = none ∧ s.freeBank = none)
      (fun s u => u.gw.cur = s.gw.cur ∧ u.gw.banks = s.gw.banks ∧ u.flag Reg.CFG_GW_STATUS Fld.CFG_GW_STATUS_BANK_WAIT = true ∧
        u.gw.commits.length = s.gw.commits.length) ∧
    Runs (.gangwaySwap t)
      (fun s => s.swapDue = some f ∧ (s.plan f.close s.tt.nextSeq).host = [] ∧ s.gw.derived = none ∧ s.u Reg.TT_MODE Fld.TT_MODE_RUN = 1 ∧
        f.trig.isSome = true)
      fun s u => u.gw.cur = s.gw.cur ∧ u.gw.banks = s.gw.banks ∧ u.gw.writes = s.gw.writes ∧
        u.f Reg.CFG_GW_GEN Fld.CFG_GW_GEN_GEN = s.f Reg.CFG_GW_GEN Fld.CFG_GW_GEN_GEN ∧ u.tt.nextSeq = (s.tt.nextSeq + 1) % 2 ^ 32

/-- R145, R146, R54: an idle gangway at a commit's stamp plus 8 ns installs the plan in a free bank, raises the generation by 1 and notes that it was idle, and assigns no sequence number where RUN = 0 stays; a forced one that finds a trigger pending does not take place. The model's own readings in it: log entry 61. -/
def Obligations.IdleGangwaysInstallWithoutAFrame : Prop :=
  ∀ (t : Nat) (c : Commit),
    (∀ b : Nat, Runs (.idleGangway t)
      (fun s => s.idleDue = some c ∧ s.u Reg.TT_MODE Fld.TT_MODE_RUN = 0 ∧ (s.plan (c.tick + 8) s.tt.nextSeq).host ≠ [] ∧
        (s.plan (c.tick + 8) s.tt.nextSeq).refusal = none ∧ s.freeBank = some b)
      fun s u => u.gw.cur = b ∧ u.gw.banks = s.gw.banks.set b (s.plan (c.tick + 8) s.tt.nextSeq).next ∧
        u.f Reg.CFG_GW_GEN Fld.CFG_GW_GEN_GEN = (s.f Reg.CFG_GW_GEN Fld.CFG_GW_GEN_GEN + 1) % 2 ^ 16 ∧
        u.flag Reg.CFG_GW_GEN Fld.CFG_GW_GEN_IDLE = true ∧ (∀ x ∈ u.gw.commits, c.tick + 8 ≤ x.tick) ∧
        ((s.plan (c.tick + 8) s.tt.nextSeq).next.on Reg.TT_MODE Fld.TT_MODE_RUN = false → u.tt.nextSeq = s.tt.nextSeq)) ∧
    Runs (.idleGangway t)
      (fun s => s.idleDue = some c ∧ s.u Reg.TT_MODE Fld.TT_MODE_RUN = 1 ∧ s.triggerPending = true)
      fun s u => u.gw.cur = s.gw.cur ∧ u.gw.banks = s.gw.banks ∧ u.regs = s.regs ∧
        u.gw.commits = s.gw.commits.map fun x => if x = c then { x with force := false } else x

/-- R53, R55, R63, R69, R78 to R80: a grid instant 24,000 ns ahead schedules a frame whose gangway closes 24,000 ns before it, and the grid moves on by one period; during a burst an instant at or before the start of its last frame is skipped, and one after it waits until that frame is scheduled; a frame past its gangway starts on its tick, is counted late where that lies after its schedule or an instant that a broadcast carried was missed, and its conversion pass is queued; a held overrun does so, late and with an entry of the event log where it starts after the start that it would have had; a strip of an open segment starts with the segment's number; a timed sub-exposure is added to its frame; and a frame with sub-triggers closes SUB_TIMEOUT after its last transfer. The model's own readings in it: log entries 26, 27, 67 and 68. -/
def Obligations.FramesAreScheduledAndStart : Prop :=
  (∀ (t g : Nat), Runs (.gridInstant t)
    (fun s => s.tt.grid.map s.gridNow = some g ∧ g ≤ s.clock.tt + 24000 ∧ s.tt.burst = none ∧ s.openAccum = none ∧ (∀ x, s.lastAhead = some x → x < g) ∧
      s.u Reg.TT_MODE Fld.TT_MODE_FORM ≠ 3 ∧ 0 < s.u Reg.TT_PERIOD Fld.TT_PERIOD_PERIOD)
    fun s u => (∃ f : Frame, u.tt.frames = s.tt.frames ++ [f] ∧ f.close = g - 24000 ∧ f.swapAt = g - 24000 ∧ f.sched = g ∧ f.shot.s = g ∧
        f.trig = none ∧ f.gated = false ∧ f.started = false) ∧
      u.tt.grid = some (g + 8 * s.u Reg.TT_PERIOD Fld.TT_PERIOD_PERIOD) ∧ u.tt.nextSeq = s.tt.nextSeq) ∧
  (∀ (t g x : Nat), Runs (.gridInstant t)
    (fun s => s.tt.grid.map s.gridNow = some g ∧ g ≤ s.clock.tt + 24000 ∧ s.lastAhead = some x ∧ g ≤ x ∧
      0 < s.u Reg.TT_PERIOD Fld.TT_PERIOD_PERIOD)
    fun s u => u.tt.frames = s.tt.frames ∧ u.tt.strips = s.tt.strips ∧ u.tt.nextSeq = s.tt.nextSeq ∧
      u.tt.grid = some (g + 8 * s.u Reg.TT_PERIOD Fld.TT_PERIOD_PERIOD)) ∧
  (∀ (t g : Nat) (b : Burst), Runs (.gridInstant t)
    (fun s => s.tt.grid.map s.gridNow = some g ∧ s.tt.burst = some b ∧ b.left ≠ 0 ∧ s.openAccum = none ∧ ∀ x, s.lastAhead = some x → x < g)
    fun s u => u = s) ∧
  (∀ (t x : Nat) (f : Frame), Runs (.exposureStart t)
    (fun s => s.startDue = some (f, x) ∧ f.held = false ∧ (f.trig.isSome = true ∨ f.reserved = true))
    fun s u => (∃ g ∈ u.tt.frames, g.seq = f.seq ∧ g.cont = f.cont ∧ g.started = true ∧ g.shot.s = x ∧ g.late = (f.late || decide (tickCeil f.sched < x))) ∧
      (∃ p : Pass, u.tt.passes = s.tt.passes ++ [p] ∧ p.seq = f.seq ∧ p.bank = f.bank ∧ p.shot.s = x ∧ p.began = none) ∧
      u.tt.lastStart = some x ∧
      u.f Reg.TT_CNT_FRAME Fld.TT_CNT_FRAME_LATE =
        (s.f Reg.TT_CNT_FRAME Fld.TT_CNT_FRAME_LATE + if f.late = true ∨ tickCeil f.sched < x then 1 else 0) % 2 ^ 32) ∧
  (∀ (t x : Nat) (f : Frame), Runs (.deferredStart t)
    (fun s => s.startDue = some (f, x) ∧ f.held = true ∧ f.reserved = true)
    fun s u => (∃ g ∈ u.tt.frames, g.seq = f.seq ∧ g.cont = f.cont ∧ g.started = true ∧ g.shot.s = x) ∧
      (∃ p : Pass, u.tt.passes = s.tt.passes ++ [p] ∧ p.seq = f.seq ∧ p.shot.s = x ∧ p.began = none) ∧ u.tt.lastStart = some x ∧
      u.f Reg.TT_CNT_FRAME Fld.TT_CNT_FRAME_LATE =
        (s.f Reg.TT_CNT_FRAME Fld.TT_CNT_FRAME_LATE + if tickCeil f.shot.s < x then 1 else 0) % 2 ^ 32 ∧
      (tickCeil f.shot.s < x → s.tt.log.length + 2 ≤ logSize → ∃ a b : LogEntry, u.tt.log = s.tt.log ++ [a, b] ∧ a.time = s.fabAt x ∧
        Fld.TT_EVLOG_INFO_TYPE.get a.info = LogType.deferred.code ∧ Fld.TT_EVLOG_INFO_TYPE.get b.info = LogType.frameStart.code) ∧
      (x ≤ tickCeil f.shot.s → s.tt.log.length + 1 ≤ logSize → ∃ a : LogEntry, u.tt.log = s.tt.log ++ [a] ∧ a.time = s.fabAt x ∧
        Fld.TT_EVLOG_INFO_TYPE.get a.info = LogType.frameStart.code)) ∧
  (∀ (t x : Nat) (d : StripDue) (g : StripFrame), Runs (.stripStart t)
    (fun s => s.stripDue = some (d, x) ∧ s.tt.seg = some g ∧ g.waiting = false ∧ segmentFull (s.bank g.frame.bank) (g.strips + 1) = false ∧
      (g.strips ≠ 0 ∨ d.trig.isSome = true ∨ d.waited = false ∧ (s.reserve (s.bank g.frame.bank) g.frame.seq false).2 = true))
    fun s u => (∃ p : Pass, u.tt.passes = s.tt.passes ++ [p] ∧ p.seq = g.frame.seq ∧ p.cont = g.cont ∧ p.strip = g.strips ∧ p.shot.s = x) ∧
      (∃ h : StripFrame, u.tt.seg = some h ∧ h.strips = g.strips + 1 ∧ h.cont = g.cont) ∧
      u.tt.strips = s.tt.strips.tail.filter (fun e => e.trig.isSome || decide (x ≤ tickCeil d.shot.s) || decide (x < e.shot.s)) ∧
      u.tt.lastStart = some x ∧ u.tt.nextSeq = s.tt.nextSeq) ∧
  (∀ (t x : Nat) (f : Frame), Runs (.subExposureStart t)
    (fun s => s.subDue = some (f, x) ∧ f.gated = true ∧ f.shot.isOpen = false)
    fun s u => ∃ g ∈ u.tt.frames, g.seq = f.seq ∧ g.cont = f.cont ∧ g.subs = f.subs + 1 ∧ g.subStarts = f.subStarts ++ [x] ∧
      g.lastSub = x + expA (s.bank f.bank)) ∧
  ∀ (t : Nat) (f : Frame), Runs (.subTimeout t)
    (fun s => s.tt.frames.find? (fun f => f.started && f.shot.isOpen) = some f ∧ f.subDue = [] ∧
      0 < (s.bank f.bank).fld Reg.TT_ACCUM Fld.TT_ACCUM_SUB_TIMEOUT ∧
      f.lastSub + 1000 * (s.bank f.bank).fld Reg.TT_ACCUM Fld.TT_ACCUM_SUB_TIMEOUT ≤ s.clock.tt)
    fun s u => ∃ g ∈ u.tt.frames, g.seq = f.seq ∧ g.cont = f.cont ∧ g.shot.isOpen = false ∧ g.shot.e = f.lastSub ∧ g.subs = f.subs ∧
      g.shot.closed = f.lastSub + 1000 * (s.bank f.bank).fld Reg.TT_ACCUM Fld.TT_ACCUM_SUB_TIMEOUT

/-- R37, R39, R71: the transfer that is due adds a pixel's charge to its store, up to 18,000 e⁻, and leaves every other pixel and the other store. R151, R153: at manifest completion the completed manifest of a frame that is no strip-stack goes into ring slot COUNT mod 64 and COUNT rises by 1. -/
def Obligations.ChargeTransfersAndManifestsComplete : Prop :=
  (∀ (t : Nat) (conv : Fin 33024) (pix charge : Nat) (x : Transfer), pix < 4096 →
    Runs (.exposureTransfer t conv [(pix, charge)]) (fun s => s.transferDue conv.val = some x) fun s u =>
      u.px.done.get conv.val = x.at' ∧
        (x.inB = false → u.px.storeB = s.px.storeB ∧ u.px.storeA.get (conv.val * 4096 + pix) = min 18000 (s.px.storeA.get (conv.val * 4096 + pix) + charge) ∧
          ∀ k, k ≠ conv.val * 4096 + pix → u.px.storeA.get k = s.px.storeA.get k) ∧
        (x.inB = true → u.px.storeA = s.px.storeA ∧ u.px.storeB.get (conv.val * 4096 + pix) = min 18000 (s.px.storeB.get (conv.val * 4096 + pix) + charge) ∧
          ∀ k, k ≠ conv.val * 4096 + pix → u.px.storeB.get k = s.px.storeB.get k) ∧
        (clusterClamped (s.bank x.pass.bank) conv.val x.second x.inB = true → u.flag Reg.TT_STATUS Fld.TT_STATUS_MAP_CLAMP = true)) ∧
  ∀ (t : Nat) (f : Frame), Runs (.manifestCompletion t) (fun s => s.completionDue = some f ∧ s.isStrips f = false) fun s u =>
    u.f Reg.CFG_MAN_HEAD Fld.CFG_MAN_HEAD_COUNT = (s.f Reg.CFG_MAN_HEAD Fld.CFG_MAN_HEAD_COUNT + 1) % 2 ^ 32 ∧
      ∀ w < 32, u.reg (Reg.CFG_MAN (s.f Reg.CFG_MAN_HEAD Fld.CFG_MAN_HEAD_COUNT % 64) w) =
        (s.manComplete f.man f.shot.s f.shot.e f.late f.bound (!f.clamped.isEmpty) f.subs).getD w 0

/-- R59 to R62, R146, R297: a start event of triggered pacing reaches the timetable 474 ns and twice DELAY before its exposure starts; that of a pin has its acceptance tick where the pin has held its new level for FILT further ticks, and one that has not held it so long does nothing. A software trigger and a pin edge that meet no reason for an overrun are accepted: ACCEPTED rises by 1 and a frame is scheduled with its gangway's close 24,000 ns before the acceptance tick; a start that is not legal is an overrun that is counted, flagged and, without OVR_DEFER, discarded. The model's own readings in it: log entry 61. -/
def Obligations.TriggersAreAcceptedOrOverrun : Prop :=
  let st := fun (s : State) (a : Nat) => s.settingsAt (a - 24000) s.tt.nextSeq
  let enabled := fun (s : State) (k a : Nat) => s.trigSource k = true ∧ s.u Reg.TT_MODE Fld.TT_MODE_RUN = 1 ∧
    s.u Reg.TT_MODE Fld.TT_MODE_PACE = 1 ∧ s.openAccum = none ∧ s.burstOn (st s a) = false ∧ s.afterForced a = false
  let start := fun (s : State) (a : Nat) => a + 474 + 2 * (st s a).fld Reg.TT_TRIG_DELAY Fld.TT_TRIG_DELAY_DELAY
  let legal := fun (s : State) (a : Nat) => s.chainNow.legal52 (storeMode (st s a))
  let room := fun (s : State) (a : Nat) => legal s a ≤ start s a ∧ s.pendingCount < min 16 (s.u Reg.TT_TRIG_CFG Fld.TT_TRIG_CFG_QDEPTH + 1) ∧
    s.u Reg.TT_MODE Fld.TT_MODE_FORM ≠ 3 ∧ (s.reserve (st s a) s.seqAhead false).2 = true
  let accepted := fun (a : State → Nat) (s u : State) =>
    u.f Reg.TT_CNT_TRIG Fld.TT_CNT_TRIG_ACCEPTED = (s.f Reg.TT_CNT_TRIG Fld.TT_CNT_TRIG_ACCEPTED + 1) % 2 ^ 32 ∧
      ∃ f : Frame, u.tt.frames = s.tt.frames ++ [f] ∧ f.trig = some (a s) ∧ f.close = a s - 24000 ∧ f.swapAt = a s + 2 ∧
        f.sched = start s (a s) ∧ f.shot.s = start s (a s) ∧ f.held = false ∧ f.gated = false ∧ f.started = false
  let dropped := fun (s u : State) =>
    u.f Reg.TT_CNT_TRIG Fld.TT_CNT_TRIG_OVERRUN = (s.f Reg.TT_CNT_TRIG Fld.TT_CNT_TRIG_OVERRUN + 1) % 2 ^ 32 ∧
      u.f Reg.TT_CNT_TRIG Fld.TT_CNT_TRIG_ACCEPTED = s.f Reg.TT_CNT_TRIG Fld.TT_CNT_TRIG_ACCEPTED ∧
      u.flag Reg.TT_STATUS Fld.TT_STATUS_OVERRUN = true ∧ u.tt.frames = s.tt.frames
  (∀ (t : Nat) (src : Src),
    Runs (.swTrigFire t src) (fun s => s.mayManage src = true ∧ enabled s 0 s.tick ∧ room s s.tick) (accepted fun s => s.tick) ∧
    Runs (.swTrigFire t src) (fun s => s.mayManage src = true ∧ enabled s 0 s.tick ∧ start s s.tick < legal s s.tick ∧
      s.u Reg.TT_TRIG_CFG Fld.TT_TRIG_CFG_OVR_DEFER = 0) dropped) ∧
  ∀ (t : Nat) (pin : Fin 64) (e : TriggerEdge),
    let at' := fun (s : State) => s.tick - 2 * (e.held - s.u Reg.TT_TRIG_CFG Fld.TT_TRIG_CFG_FILT)
    let taken := fun (s : State) => s.pinLive pin.val = true ∧ s.trigSel = pin.val ∧ e.rise = (s.u Reg.TT_TRIG_CFG Fld.TT_TRIG_CFG_POL == 0) ∧
      s.u Reg.TT_TRIG_CFG Fld.TT_TRIG_CFG_FILT ≤ e.held ∧ enabled s 1 (at' s)
    Runs (.triggerPinEdge t pin e false) (fun s => taken s ∧ room s (at' s)) (accepted at') ∧
    Runs (.triggerPinEdge t pin e false) (fun s => taken s ∧ start s (at' s) < legal s (at' s) ∧
      s.u Reg.TT_TRIG_CFG Fld.TT_TRIG_CFG_OVR_DEFER = 0) dropped ∧
    Runs (.triggerPinEdge t pin e false) (fun s => e.held < s.u Reg.TT_TRIG_CFG Fld.TT_TRIG_CFG_FILT) (fun s u => u = s)

/-- R64: arming sets ARM, and a target that is not in the future sets SCHED_LATE; on its tick the armed trigger fires: ARM clears, the fire is logged with its time, and where SRC is 3 it is a trigger at that tick, and outside triggered pacing no overrun. R67, R297: a broadcast on the channel RX_CH, in fabric pacing, is a start event for the tick nearest its instant, or 474 ns after its arrival, and late, where the instant is earlier, and it leaves the queue of arrivals; one on another channel starts nothing. The model's own readings in it: log entries 24, 70 and 72. -/
def Obligations.ScheduledAndFabricTriggersFire : Prop :=
  (∀ (t : Nat) (src : Src), Runs (.schedArm t src) (fun s => s.mayManage src = true) fun s u =>
    u.flag Reg.TT_SCHED_CTL Fld.TT_SCHED_CTL_ARM = true ∧
      (notAfter (s.reg Reg.TT_SCHED_TIME) s.stamp = false → u.reg Reg.TT_STATUS = s.reg Reg.TT_STATUS ∧ u.tt.schedFrom = s.tick) ∧
      (notAfter (s.reg Reg.TT_SCHED_TIME) s.stamp = true →
        u.flag Reg.TT_STATUS Fld.TT_STATUS_SCHED_LATE = true ∧ u.tt.schedFrom = s.tick + 2)) ∧
  (∀ t : Nat, Runs (.scheduledFire t)
    (fun s => s.flag Reg.TT_SCHED_CTL Fld.TT_SCHED_CTL_ARM = true ∧ s.schedTick ≤ s.clock.tt ∧ s.trigSource 3 = false ∧ s.tt.log.length < logSize)
    fun s u => u.flag Reg.TT_SCHED_CTL Fld.TT_SCHED_CTL_ARM = false ∧ u.tt.frames = s.tt.frames ∧ ∃ e : LogEntry, u.tt.log = s.tt.log ++ [e] ∧
      e.time = s.fabAt s.schedTick ∧ Fld.TT_EVLOG_INFO_TYPE.get e.info = LogType.scheduled.code) ∧
  (∀ t : Nat, Runs (.scheduledFire t)
    (fun s => s.flag Reg.TT_SCHED_CTL Fld.TT_SCHED_CTL_ARM = true ∧ s.schedTick ≤ s.clock.tt ∧ s.trigSource 3 = true)
    fun s u => u.flag Reg.TT_SCHED_CTL Fld.TT_SCHED_CTL_ARM = false ∧
      u = ((s.setB Reg.TT_SCHED_CTL Fld.TT_SCHED_CTL_ARM false).log (s.fabAt s.schedTick) .scheduled 0 0 0 false).startEvent
        { s.eventAt s.schedTick 1 0 0 false with quiet := s.paceNow != 1 }) ∧
  ∀ (t : Nat) (x : TrigArrival),
    Runs (.fabricTriggerArrival t)
      (fun s => s.kf.arrivals.find? (fun y => decide (y.at' ≤ s.clock.tt)) = some x ∧ x.share = none ∧ s.f Reg.FB_TRIG_CFG Fld.FB_TRIG_CFG_RX_CH = x.ch)
      (fun s u => u.kf.arrivals = s.kf.arrivals.erase x ∧
        (s.fabBefore x.instant (x.at' + 474) = false → u = ({ s with kf := { s.kf with arrivals := s.kf.arrivals.erase x } } : State).startEvent
          { a := x.at', start := s.tickNear x.instant, sched := s.tickNear x.instant, pace := 3, source := 0, detail := 0, enc := false }) ∧
        (s.fabBefore x.instant (x.at' + 474) = true → u = ({ s with kf := { s.kf with arrivals := s.kf.arrivals.erase x } } : State).startEvent
          { a := x.at', start := x.at' + 474, sched := s.ttOf x.instant, pace := 3, source := 0, detail := 0, enc := false, early := true })) ∧
    Runs (.fabricTriggerArrival t)
      (fun s => s.kf.arrivals.find? (fun y => decide (y.at' ≤ s.clock.tt)) = some x ∧ x.share = none ∧ s.f Reg.FB_TRIG_CFG Fld.FB_TRIG_CFG_RX_CH ≠ x.ch)
      fun s u => u = { s with kf := { s.kf with arrivals := s.kf.arrivals.erase x } }

/-- R65, R66, R80, R83: a count event of the engine that TT_ENC_CFG names moves POS by one either way, in two's complement of 48 bits, and one of another engine does not; ZERO makes POS 0 and NEXT one PITCH forward; an edge of part-detect on the live pin that PD_SEL names is logged with its stamp and governs from then on; a pop removes the oldest entry of the event log and nothing else. The model's own readings in it: log entries 8 and 28. -/
def Obligations.EncoderPartDetectAndEventLog : Prop :=
  (∀ (t : Nat) (engine : Fin 16) (up : Bool) (x : EngineEvent), Runs (.encoderCount t engine up)
    (fun s => s.inboxDue (fun x => x.engine == engine.val && x.index == (if up then 1 else 2)) = some x ∧
      s.u Reg.TT_ENC_CFG Fld.TT_ENC_CFG_ENGINE = engine.val ∧ encoderPaced s.use = false)
    fun s u => u.f Reg.TT_ENC_POS Fld.TT_ENC_POS_POS = (s.f Reg.TT_ENC_POS Fld.TT_ENC_POS_POS + if up then 1 else 2 ^ 48 - 1) % 2 ^ 48 ∧
      u.reg Reg.TT_ENC_NEXT = s.reg Reg.TT_ENC_NEXT ∧ u.tt.inbox = s.tt.inbox.erase x ∧ u.tt.frames = s.tt.frames) ∧
  (∀ (t : Nat) (engine : Fin 16) (up : Bool) (x : EngineEvent), Runs (.encoderCount t engine up)
    (fun s => s.inboxDue (fun x => x.engine == engine.val && x.index == (if up then 1 else 2)) = some x ∧
      s.u Reg.TT_ENC_CFG Fld.TT_ENC_CFG_ENGINE ≠ engine.val)
    fun s u => u = { s with tt := { s.tt with inbox := s.tt.inbox.erase x } }) ∧
  (∀ (t : Nat) (src : Src), Runs (.encoderZero t src) (fun s => s.mayManage src = true) fun s u =>
    u.f Reg.TT_ENC_POS Fld.TT_ENC_POS_POS = 0 ∧ Fld.TT_ENC_NEXT_NEXT.sget (u.reg Reg.TT_ENC_NEXT) = pitchStep s.use ∧
      ∀ a, a ≠ Reg.TT_ENC_POS → a ≠ Reg.TT_ENC_NEXT → u.reg a = s.reg a) ∧
  (∀ (t : Nat) (level : Bool), Runs (.partDetectEdge t level)
    (fun s => s.u Reg.TT_STRIP Fld.TT_STRIP_PD_ENG = 0 ∧ s.pinLive (s.u Reg.TT_STRIP Fld.TT_STRIP_PD_SEL) = true ∧
      (level = true ∨ s.stripSettings.fld Reg.TT_STRIP Fld.TT_STRIP_PD_MODE = 0) ∧ s.tt.log.length < logSize)
    fun s u => u.tt.pd = level ∧ (if level then u.tt.pdRise else u.tt.pdFall) = some s.tick ∧ u.tt.seg = s.tt.seg ∧
      ∃ e : LogEntry, u.tt.log = s.tt.log ++ [e] ∧ e.time = s.stamp ∧ Fld.TT_EVLOG_INFO_TYPE.get e.info = LogType.partDetect.code) ∧
  ∀ (t : Nat) (src : Src), Runs (.evlogPop t src) (fun s => s.mayManage src = true) fun s u =>
    u = { s with tt := { s.tt with log := s.tt.log.tail } }

/-! ## Converters, calibration and housekeeping -/

/-- R38, R51, R88 to R92: the pass that is due begins: BUSY is set and DEPTH_ACT and ROW_SLOT_NS show its depth; the next row slot of the running pass counts, takes the charge of the rows it converts out of the store it reads, leaves the others, and puts on the bridge a code for each pixel that held charge, of that charge and what light added during the hold; a sample on the bridge whose bit decisions have ended reaches its stripe, which works; after the last row slot the converters are idle and the pass is over. The model's own readings in it: log entries 5, 10 and 32. -/
def Obligations.ConversionPassesRunTheirRowSlots : Prop :=
  (∀ (t x : Nat) (p : Pass), Runs (.conversionPassStart t) (fun s => s.passDue = some (p, x) ∧ p.depth < 4) fun _ u =>
    u.flag Reg.CC_STATUS Fld.CC_STATUS_BUSY = true ∧ u.f Reg.CC_STATUS Fld.CC_STATUS_DEPTH_ACT = p.depth ∧
      u.f Reg.CC_STATUS Fld.CC_STATUS_ROW_SLOT_NS = rowSlotNs p.depth ∧
      ∃ q ∈ u.tt.passes, q.seq = p.seq ∧ q.cont = p.cont ∧ q.strip = p.strip ∧ q.began = some x) ∧
  (∀ (t x : Nat) (light : List (Nat × Nat)) (p : Pass),
    let left := fun (s : State) (m m' : NatMap) => ∀ e, e ∈ m' ↔ e ∈ m ∧ (s.view p).convertsIn p.slot e.1 = false
    let sent := fun (s u : State) (m : NatMap) (inB : Bool) => ∃ l : List Sample, u.cc.link = s.cc.link ++ l ∧
      ∀ k, (Sparse.look m k).isSome = true → (s.view p).convertsIn p.slot k = true → ∃ a ∈ l, a.key = k ∧ a.inB = inB ∧ a.depth = p.depth ∧
        a.seq = p.seq ∧ a.cont = p.cont ∧ a.strip = p.strip ∧ a.code = sampleFine (s.view p).n ((s.view p).gain 0)
          ((s.view p).st.fld Reg.CC_CFG Fld.CC_CFG_PEDESTAL) (heldCharge m light inB k)
    Runs (.rowSlotStart ⟨t, light⟩) (fun s => s.slotDue = some (p, x) ∧ p.dual = false) fun s u =>
      (∃ q ∈ u.tt.passes, q.seq = p.seq ∧ q.cont = p.cont ∧ q.strip = p.strip ∧ q.slot = p.slot + 1) ∧
        (p.store = 0 → u.px.storeB = s.px.storeB ∧ left s s.px.storeA u.px.storeA ∧ sent s u s.px.storeA false) ∧
        (p.store = 1 → u.px.storeA = s.px.storeA ∧ left s s.px.storeB u.px.storeB ∧ sent s u s.px.storeB true)) ∧
  (∀ (t : Nat) (a : Sample),
    let same := fun (x : PassSamples) => x.seq == a.seq && x.cont == a.cont && x.strip == a.strip
    let vals : State → NatMap := fun s => ((s.pipe.samples.find? same).map (·.vals)).getD []
    Runs (.sampleDelivery t)
      (fun s => s.flag (Reg.CK_PSTAT 1) Fld.CK_PSTAT_ACQ = false ∧ s.cc.link.find? (fun a => decide (a.at' ≤ 64 * s.clock.tt)) = some a)
      fun s u => u.cc.link = s.cc.link.erase a ∧ vals u = (vals s).put (2 * a.key + if a.inB then 1 else 0) (a.code + 1) ∧
        ∀ x ∈ s.pipe.samples, same x = false → x ∈ u.pipe.samples) ∧
  ∀ (t k : Nat) (p : Pass), Runs (.conversionEnd t) (fun s => s.endDue = some (p, k)) fun _ u =>
    u.flag Reg.CC_STATUS Fld.CC_STATUS_BUSY = false ∧ u.cc.lastEnd = k ∧
      ∃ q ∈ u.tt.passes, q.seq = p.seq ∧ q.cont = p.cont ∧ q.strip = p.strip ∧ q.ended = true

/-- R93, R94, R97, R98: 700 ns into the overhead every band in which no rotation is due counts a pass, and with no injection under way every band whose rotation is due rotates its spare; a band's written request waits for its column step, or is rejected and counted where INJ_EN is 0, where REFSEL is 3 or where one is pending; its conversion starts on the boundary of the column-step grid after the request and lasts one step; its result is kept with its reference and the request is answered. The model's own readings in it: log entry 11. -/
def Obligations.SpareSlicesRotateAndConvertInjections : Prop :=
  (∀ (t : Nat) (p : Pass) (b : Nat), b < 32 → Runs (.sliceRotation t)
    (fun s => s.running = some p ∧ p.rotDone = false ∧ p.began.getD 0 + 700 ≤ s.clock.tt ∧ s.cc.rot.length = 32 ∧ s.cc.inj = [])
    fun s u => u.cc.rot[b]? = some (let r := s.cc.rot.getD b (0, 0)
      if s.flag Reg.CC_ROT_CFG Fld.CC_ROT_CFG_ROT_EN = true ∧ max 1 (s.f Reg.CC_ROT_CFG Fld.CC_ROT_CFG_FRAMES) ≤ r.2 + 1 then (r.1 + 1, 0)
      else (r.1, r.2 + 1))) ∧
  (∀ (t : Nat) (src : Src) (band : Nat) (refsel : Fin 4), band < 32 →
    Runs (.injReq t src (BitVec.ofNat 32 (2 ^ band)) refsel)
      (fun s => s.mayManage src = true ∧ s.injPending band = false ∧ refsel.val ≠ 3 ∧ s.u Reg.CC_CFG Fld.CC_CFG_INJ_EN ≠ 0)
      (fun s u => u.injPending band = true ∧ u.regs = s.regs ∧
        ∃ j ∈ u.cc.inj, j.band = band ∧ j.refsel = refsel.val ∧ j.reqAt = s.tick ∧ j.startAt = none ∧ j.tracker = false) ∧
    Runs (.injReq t src (BitVec.ofNat 32 (2 ^ band)) refsel)
      (fun s => s.mayManage src = true ∧ (s.injPending band = true ∨ refsel.val = 3 ∨ s.u Reg.CC_CFG Fld.CC_CFG_INJ_EN = 0))
      fun s u => u.cc = s.cc ∧ u.flag Reg.CC_STATUS Fld.CC_STATUS_INJ_REJECTED = true ∧
        u.f Reg.CC_CNT Fld.CC_CNT_INJ_REJECTED = min (s.f Reg.CC_CNT Fld.CC_CNT_INJ_REJECTED + 1) 65535) ∧
  (∀ (t : Nat) (band : Fin 32) (j : Injection), Runs (.injectedConversionStart t band)
    (fun s => s.cc.inj.find? (fun j => j.band == band.val && j.startAt.isNone) = some j ∧ s.cc.boundary (16 * j.reqAt) ≤ 16 * s.clock.tt)
    fun s u => ∃ k ∈ u.cc.inj, k.band = band.val ∧ k.startAt = some (s.cc.boundary (16 * j.reqAt)) ∧
      k.doneAt = s.cc.boundary (16 * j.reqAt) + s.cc.gridStep) ∧
  ∀ (t : Nat) (band : Fin 32) (code : Fin 4096) (j : Injection), Runs (.injectedResult t band code [])
    (fun s => s.cc.inj.find? (fun j => j.band == band.val && j.startAt.isSome && !j.got) = some j ∧
      j.startAt.getD 0 + 16 * decisionsEnd (j.doneAt - j.startAt.getD 0) ≤ 16 * s.clock.tt)
    fun _ u => u.injPending band.val = false ∧
      u.cc.lastInj.find? (fun r => r.band == band.val) = some { band := band.val, code := code.val, refsel := j.refsel, others := [] }

/-- R110 to R115, R119, R126: with calibration enabled, a batch whose 2^AVG conversions are done is taken, and where it is not the last of its cycle the cycle goes on with the next one; the last batch of a cycle whose measurements agree is accepted and counted with its time, and one whose measurements disagree is rejected and counted, and the next cycle follows; a batch whose conversions are not done, or that an injected conversion holds up, is not taken. 750 ns into the overhead, a slice whose taps and targets differ, alone and not the spare, moves one tap by one step. The model's own readings in it: log entries 29, 30 and 31. -/
def Obligations.CalibrationMeasuresAndStepsTheTaps : Prop :=
  let taken := fun (s : State) (i : Nat) => s.u Reg.CAL_CFG Fld.CAL_CFG_EN ≠ 0 ∧ s.batchOver (s.calCycleOf i) = true
  let consistent := fun (s : State) (i : Nat) (mean : Int) => agrees (s.calCycleOf i).first { (s.calCycleOf i).cur with
    dly := (desiredTap 5 mean (s.calCycleOf i).m0 (s.reg (tapAddr (5 * i + s.spareOf i)))).1 }
  let anew := fun (u : State) (i : Nat) => (∃ c ∈ u.cal.cycles, c.conv = i) ∧ ∀ c ∈ u.cal.cycles, c.conv = i → c.batch = 0
  (∀ (t : Nat) (conv : Fin 33024) (mean : Int), Runs (.calBatchDone t conv mean)
    (fun s => taken s conv.val ∧ (s.calCycleOf conv.val).batch < 5)
    fun s u => (∃ c ∈ u.cal.cycles, c.conv = conv.val) ∧ ∀ c ∈ u.cal.cycles, c.conv = conv.val →
      c.batch = (s.calCycleOf conv.val).batch + 1 ∧ c.startAt = s.batchEnd (s.calCycleOf conv.val) ∧ ((s.calCycleOf conv.val).batch % 3 = 0 → c.m0 = mean)) ∧
  (∀ (t : Nat) (conv : Fin 33024) (mean : Int), Runs (.calBatchDone t conv mean)
    (fun s => taken s conv.val ∧ (s.calCycleOf conv.val).batch = 5 ∧ consistent s conv.val mean = true)
    fun s u => anew u conv.val ∧
      u.f Reg.CAL_CNT Fld.CAL_CNT_ACCEPTED = (s.f Reg.CAL_CNT Fld.CAL_CNT_ACCEPTED + 1) % 2 ^ 32 ∧ u.reg (Reg.CAL_TIME conv.val) = s.stamp) ∧
  (∀ (t : Nat) (conv : Fin 33024) (mean : Int), Runs (.calBatchDone t conv mean)
    (fun s => taken s conv.val ∧ (s.calCycleOf conv.val).batch = 5 ∧ consistent s conv.val mean = false)
    fun s u => anew u conv.val ∧
      u.f Reg.CAL_CNT Fld.CAL_CNT_REJECTED = min (s.f Reg.CAL_CNT Fld.CAL_CNT_REJECTED + 1) 65535 ∧
      u.reg (Reg.CAL_TIME conv.val) = s.reg (Reg.CAL_TIME conv.val)) ∧
  (∀ (t : Nat) (conv : Fin 33024) (mean : Int), Runs (.calBatchDone t conv mean) (fun s => s.batchOver (s.calCycleOf conv.val) = false) fun s u => u = s) ∧
  ∀ (t : Nat) (p : Pass) (n : Nat), n < 165120 → Runs (.tapStep t)
    (fun s => s.running = some p ∧ p.rotDone = true ∧ p.tapDone = false ∧ p.began.getD 0 + 750 ≤ s.clock.tt ∧ s.cal.imm = [] ∧ s.cal.full = [] ∧
      s.listedTaps = [n] ∧ n % 5 ≠ s.spareOf (n / 5) ∧ tapsOf (s.reg (tapAddr n)) ≠ targetsOf (s.reg (tapAddr n)))
    fun s u => tapsOf (u.reg (tapAddr n)) = stepTaps (tapsOf (s.reg (tapAddr n))) (targetsOf (s.reg (tapAddr n))) ∧
      targetsOf (u.reg (tapAddr n)) = targetsOf (s.reg (tapAddr n)) ∧ ∀ a, a ≠ tapAddr n → u.reg a = s.reg a

/-- R102 to R104, R389: an entry of the housekeeping sequence that is over, with no injection and no calibration left to hold it up, writes its value, a mean of its conversions, sets VALID and counts; within its limits and below TRIP it does no more; a request under a free tag becomes pending and one under a pending tag is rejected; the oldest injected conversion, 1,000 ns after its start, writes its result under its tag; a calibration whose steps are over lets the sequence go on where it paused, and outside the correction range sets CAL_FAIL. The model's own readings in it: log entries 31, 49 and 83. -/
def Obligations.HousekeepingConvertsAndCalibrates : Prop :=
  let ended := fun (s : State) => s.boot.inReset = false ∧ s.hk.runs = true ∧ s.hk.entryEnd ≤ s.clock.now ∧ s.hk.entryClear = true
  let mean := fun (s : State) (v : Nat) => hkMean (Fld.HK_CFG_AVG.get s.hk.cfg) v
  (∀ (t : Nat) (value : Fin 65536), Runs (.hkEntryDone t value)
    (fun s => ended s ∧ s.f (Reg.PWR_LIM s.hk.channel) Fld.PWR_LIM_LOW ≤ mean s value.val ∧
      mean s value.val ≤ s.f (Reg.PWR_LIM s.hk.channel) Fld.PWR_LIM_HIGH ∧ mean s value.val / 16 < s.f Reg.PWR_SUP Fld.PWR_SUP_TRIP)
    fun s u => u.f (Reg.HK_RES s.hk.channel) Fld.HK_RES_VALUE = mean s value.val ∧ u.flag (Reg.HK_RES s.hk.channel) Fld.HK_RES_VALID = true ∧
      u.f (Reg.HK_RES s.hk.channel) Fld.HK_RES_UPDATES = (s.f (Reg.HK_RES s.hk.channel) Fld.HK_RES_UPDATES + 1) % 2 ^ 32 ∧
      u.f Reg.PWR_STAT Fld.PWR_STAT_LIM_HIT = s.f Reg.PWR_STAT Fld.PWR_STAT_LIM_HIT ∧ u.boot = s.boot ∧ u.hk.entryAt = s.hk.entryEnd) ∧
  (∀ (t : Nat) (value : Fin 65536), Runs (.hkEntryDone t value)
    (fun s => ended s ∧ s.flag Reg.PWR_SUP Fld.PWR_SUP_TRIP_EN = true ∧ 4 ≤ s.hk.channel ∧ s.hk.channel ≤ 7 ∧
      s.f Reg.PWR_SUP Fld.PWR_SUP_TRIP ≤ mean s value.val / 16)
    fun _ u => u.f Reg.PWR_STAT Fld.PWR_STAT_CAUSE = 4 ∧ u.gw.commits = [] ∧ u.tt.frames = []) ∧
  (∀ (t : Nat) (src : Src) (channel : Fin 16) (tag : Fin 4),
    Runs (.hkInj t src channel tag)
      (fun s => s.mayManage src = true ∧ hasBit (s.f Reg.HK_STATUS Fld.HK_STATUS_INJ_PENDING) tag.val = false)
      (fun s u => u.hk.inj = s.hk.inj ++ [{ tag := tag.val, channel := channel.val, start := s.hkInjStart }] ∧
        hasBit (u.f Reg.HK_STATUS Fld.HK_STATUS_INJ_PENDING) tag.val = true) ∧
    Runs (.hkInj t src channel tag)
      (fun s => s.mayManage src = true ∧ hasBit (s.f Reg.HK_STATUS Fld.HK_STATUS_INJ_PENDING) tag.val = true)
      fun s u => u.hk = s.hk ∧ u.flag Reg.HK_STATUS Fld.HK_STATUS_INJ_REJECT = true) ∧
  (∀ (t : Nat) (code : Fin 4096) (x : HkInj) (r : List HkInj), x.tag < 4 → x.channel < 16 → Runs (.hkInjDone t code)
    (fun s => s.hk.inj = x :: r ∧ x.start + 1000 ≤ s.clock.now)
    fun s u => u.f (Reg.HK_INJ_RES x.tag) Fld.HK_INJ_RES_CODE = code.val ∧ u.f (Reg.HK_INJ_RES x.tag) Fld.HK_INJ_RES_CHANNEL = x.channel ∧
      u.flag (Reg.HK_INJ_RES x.tag) Fld.HK_INJ_RES_VALID = true ∧ hasBit (u.f Reg.HK_STATUS Fld.HK_STATUS_INJ_DONE) x.tag = true ∧
      hasBit (u.f Reg.HK_STATUS Fld.HK_STATUS_INJ_PENDING) x.tag = false ∧ u.hk = s.hk.afterInj x.start ∧ u.hk.inj = r) ∧
  ∀ (t : Nat) (ok : Bool), Runs (.hkCalibration t ok)
    (fun s => s.boot.inReset = false ∧ s.hk.period ≠ 0 ∧ s.hk.calEnd ≤ s.clock.now ∧ ∀ x ∈ s.hk.inj, s.hk.calEnd ≤ x.start)
    fun s u => s.clock.now < u.hk.calAt + s.hk.period ∧ u.hk.calLate = 0 ∧
      (s.hk.runs = true → u.hk.entryAt = s.hk.entryAt + 4000 + s.hk.calLate) ∧
      u.flag Reg.HK_STATUS Fld.HK_STATUS_CAL_FAIL = (s.flag Reg.HK_STATUS Fld.HK_STATUS_CAL_FAIL || !ok)

/-! ## Pipeline and frame store -/

/-- R27, R139, R155, R304: a line whose rows have been converted and whose earlier lines have gone leaves the stages with the codes that they give it, and counts as released; where a seam row is missing it waits, and 3,000 ns after its release it goes on without it and SEAM_MISS is set. R159, R187, R189: the oldest part of a line that can leave its stripes does, and with the last part the line has left; a line that one bundle carries, with credit and nothing berthed before it, enters that bundle's landing, and a line of a frame that is berthed whole goes into its berth. A released line stores its history bytes alone, and the last one of its frame the history's record; one that waits stores none, a berthed one its own bytes and the berth's header, and every other byte of the frame store stays. The model's own readings in it: log entries 33, 75, 79 and 80. -/
def Obligations.LinesAreReleasedAndLand : Prop :=
  let histAt := fun (s : State) (q : Pass) (h : History) (y : Nat) =>
    s.berthBase h.berth + lineOffset (ctxWin (s.view q).st h.ctx).w h.bits (y - (ctxWin (s.view q).st h.ctx).y0)
  let outsideHistory := fun (s : State) (p : Progress) (q : Pass) (i a : Nat) => ∀ h ∈ s.pipe.history, h.ctx = p.ctx → h.until' = none →
    (p.released.length + 1 = p.total (s.view q).st → a < s.berthBase h.berth ∨ s.berthBase h.berth + 320 ≤ a) ∧
      ((s.view q).st.on (Reg.CTX_CTL p.ctx) Fld.CTX_CTL_NR_T = true → ∀ y ∈ lineRows (s.view q).st s.colour p.ctx i,
        a < histAt s q h y ∨ histAt s q h y + ceilDiv ((ctxWin (s.view q).st h.ctx).w * h.bits) 8 ≤ a)
  let row := fun (s : State) (q : Pass) (c line : Nat) => line % max 1 (outHeight (s.view q).st c)
  (∀ (t : Nat) (ctx : Fin 3072) (line : Nat) (reads : LineReads) (p : Progress) (q : Pass),
    let due := fun (s : State) => s.stripesWork ∧ s.lineOf ctx.val line = some (p, q) ∧
      s.lineReady (s.view q) p line ((s.view q).releaseAt ctx.val line) = true
    Runs (.lineRelease t ctx line reads)
      (fun s => due s ∧ (s.view q).seamMissing ctx.val (row s q ctx.val line) = false)
      (fun s u => (∃ l : Line, u.pipe.lines = s.pipe.lines ++ [l] ∧ l.ctx = ctx.val ∧ l.seq = p.seq ∧ l.cont = p.cont ∧ l.idx = line ∧
          l.codes = ((s.view q).outLine ctx.val (row s q ctx.val line) (s.histFor (s.view q) ctx.val (row s q ctx.val line) p.seq 0 reads.late)
            (s.histFor (s.view q) ctx.val (row s q ctx.val line) p.seq 1 reads.late)).1) ∧
        (∃ r ∈ u.pipe.progress, r.ctx = ctx.val ∧ r.seq = p.seq ∧ r.cont = p.cont ∧ line ∈ r.released) ∧
        ∀ a, outsideHistory s p q (row s q ctx.val line) a → u.byte a = s.byte a) ∧
    Runs (.lineRelease t ctx line reads)
      (fun s => due s ∧ (s.view q).seamMissing ctx.val (row s q ctx.val line) = true ∧ s.pipe.waits = [])
      fun s u => u.pipe.lines = s.pipe.lines ∧ u.dram = s.dram ∧
        u.pipe.waits = [{ ctx := ctx.val, seq := p.seq, cont := p.cont, line := line, at' := (s.view q).releaseAt ctx.val line }]) ∧
  (∀ (t : Nat) (w : SeamWait) (p : Progress) (q : Pass), Runs (.seamWaitTimeout t)
    (fun s => s.stripesWork ∧ s.pipe.waits.find? (fun w => decide (w.at' + 3000 ≤ s.clock.tt)) = some w ∧ s.lineOf w.ctx w.line = some (p, q))
    fun s u => w ∉ u.pipe.waits ∧ (∃ l : Line, u.pipe.lines = s.pipe.lines ++ [l] ∧ l.ctx = w.ctx ∧ l.idx = w.line) ∧
      ((s.view q).seamMissing w.ctx (row s q w.ctx w.line) = true → u.flag Reg.PIPE_STATUS Fld.PIPE_STATUS_SEAM_MISS = true) ∧
      ∀ a, outsideHistory s p q (row s q w.ctx w.line) a → u.byte a = s.byte a) ∧
  (∀ (t : Nat) (l : Line) (k : Nat × Nat), Runs (.lineEnterLanding t) (fun s => s.stripesWork ∧ s.nextPart = some (l, k))
    fun s u => u.pipe.lines = if l.parts.erase k = [] then s.pipe.lines.erase l
      else s.pipe.lines.map fun m => if m = l then { l with parts := l.parts.erase k } else m) ∧
  (∀ (t b r : Nat) (l : Line) (p : Progress) (o : Occupant),
    let bs := packBytes (depthBits o.depth) l.codes
    let head := fun (s : State) => s.berthBase o.berth
    let at' := fun (s : State) => head s + lineOffset o.width (depthBits o.depth) l.idx
    Runs (.lineEnterLanding t)
      (fun s => s.stripesWork ∧ s.nextPart = some (l, (8, r)) ∧ l.parts = [(8, r)] ∧ s.pipe.progress = [p] ∧ p.ctx = l.ctx ∧ p.seq = l.seq ∧
        p.cont = l.cont ∧ p.dropped = false ∧ p.cut = false ∧ p.man = [] ∧ p.fixed.fld (Reg.CTX_DEST l.ctx) Fld.CTX_DEST_KIND ≠ 1 ∧
        p.fixed.fld (Reg.CTX_CTL l.ctx) Fld.CTX_CTL_CLASS ≠ 1 ∧ maskBundles (frameMask p.fixed l.ctx) = [b] ∧
        allBerthed p.fixed l.ctx p.burst = true ∧ mirrored p.fixed l.ctx = false ∧ s.fs.occ = [o] ∧ o.ctx = l.ctx ∧ o.seq = l.seq ∧ o.cont = l.cont ∧
        o.mirror = false ∧ o.ended = false ∧ o.gone = false ∧ s.berthState o.berth = 1 ∧ l.idx ∉ o.written)
      fun s u => u.bytes (at' s) bs.length = bs ∧ (∃ x ∈ u.fs.occ, x.berth = o.berth ∧ l.idx ∈ x.written) ∧
        ∀ a, a < head s ∨ head s + 320 ≤ a → a < at' s ∨ at' s + bs.length ≤ a → u.byte a = s.byte a) ∧
  ∀ (t b r : Nat) (l : Line) (p : Progress),
    let part := partOf p.fixed l.ctx b
    let packets := linePackets (framePacket p.fixed l.ctx l.seq l.cont b 2) (depthBits l.depth) l.idx part.1 ((l.codes.drop part.1).take part.2)
    Runs (.lineEnterLanding t)
      (fun s => s.stripesWork ∧ s.nextPart = some (l, (8, r)) ∧ s.pipe.progress = [p] ∧ p.ctx = l.ctx ∧ p.seq = l.seq ∧ p.cont = l.cont ∧
        p.dropped = false ∧ p.cut = false ∧ p.fixed.fld (Reg.CTX_DEST l.ctx) Fld.CTX_DEST_KIND ≠ 1 ∧
        p.fixed.fld (Reg.CTX_CTL l.ctx) Fld.CTX_CTL_CLASS ≠ 1 ∧ maskBundles (frameMask p.fixed l.ctx) = [b] ∧ b < s.eg.length ∧
        allBerthed p.fixed l.ctx p.burst = false ∧ s.isDropped l.ctx l.seq l.cont = false ∧ s.spills l.ctx l.seq l.cont b packets = false ∧
        mirrored p.fixed l.ctx = false)
      fun s u => (∃ rest, (u.bun b).landing = (s.bun b).landing ++ packets ++ rest) ∧ (p.man = [] → u.dram = s.dram)

/-- R157, R174 to R176: the snapshot publishes the record of a context whose last line has left the stripes, and the load and the headers of the mean maps of a frame whose passes are over, and keeps a map derivation where AUTO is on; a frame of which everything is published leaves the timetable with its passes. R75, R414: a derivation that is done is a derived commit with its tick and stamp, for the frame one later, or two in overlapped mode; without AUTO, or where AUTO has been off since the frame's gangway, nothing is committed. R177: a read of a record's word 0, and of a mean map's header, latches the block for its source. The model's own readings in it: log entries 58 and 89. -/
def Obligations.StatisticsAreSnapshotDerivedAndLatched : Prop :=
  (∀ (t : Nat) (p : Progress) (f : Frame) (a : StatAcc), Runs (.statsSnapshot t)
    (fun s => s.stripesWork ∧ s.pipe.progress = [p] ∧ p.recorded = true ∧ p.shown = false ∧
      s.tt.frames.find? (fun f => f.gated && f.seq == p.seq && f.cont == p.cont) = some f ∧
      s.pipe.stats.find? (fun a => a.ctx == p.ctx && a.seq == p.seq && a.cont == p.cont) = some a)
    fun s u => ∀ w < 256, u.reg (Reg.PIPE_STATS p.ctx w) = (statWords (s.bank f.bank) a p f.gen).getD w 0) ∧
  (∀ (t : Nat) (f : Frame), Runs (.statsSnapshot t) (fun s => s.stripesWork ∧ s.tt.frames.filter (fun f => s.mapsDone f && !f.mapped) = [f])
    fun s u => u.reg Reg.PIPE_LOAD = s.loadWord f ∧
      (∀ slot < 2, u.reg (Reg.PIPE_MEAN_HDR slot) = BitVec.ofNat 64 (f.seq + f.gen * 2 ^ 32 + f.cont * 2 ^ 48)) ∧
      ((s.bank f.bank).fld Reg.TT_MAP_CFG Fld.TT_MAP_CFG_AUTO = 1 → ∃ n : Snapshot, u.pipe.snapshot = some n ∧ n.seq = f.seq ∧ n.st = s.bank f.bank) ∧
      ((s.bank f.bank).fld Reg.TT_MAP_CFG Fld.TT_MAP_CFG_AUTO ≠ 1 → u.pipe.snapshot = s.pipe.snapshot)) ∧
  (∀ (t : Nat) (f : Frame), Runs (.statsSnapshot t)
    (fun s => s.stripesWork ∧ f ∈ s.tt.frames ∧ f.gated = true ∧ s.snapshotOver f = true ∧ ∀ g ∈ s.tt.frames, s.mapsDone g = true → g.mapped = true)
    fun _ u => (∀ g ∈ u.tt.frames, g.gated = true → ¬ (g.seq = f.seq ∧ g.cont = f.cont)) ∧
      (∀ p ∈ u.tt.passes, ¬ (p.seq = f.seq ∧ p.cont = f.cont)) ∧ ∀ a ∈ u.pipe.stats, ¬ (a.seq = f.seq ∧ a.cont = f.cont)) ∧
  (∀ (t : Nat) (n : Snapshot),
    let wanted := fun (s : State) => s.u Reg.TT_MAP_CFG Fld.TT_MAP_CFG_AUTO ≠ 0 ∧ serialGe 32 n.seq s.gw.autoFrom = true
    Runs (.mapDerivationDone t) (fun s => s.pipe.snapshot = some n ∧ wanted s) (fun s u =>
      u.pipe.snapshot = none ∧ u.reg Reg.CFG_GW_CTIME = s.stamp ∧ ∃ d : DerivedMap, u.gw.derived = some d ∧ d.tick = s.tick ∧ d.stamp = s.stamp ∧
        d.seq = n.seq ∧ d.limit = (n.seq + if storeMode n.st = 0 then 2 else 1) % 2 ^ 32) ∧
    Runs (.mapDerivationDone t) (fun s => s.pipe.snapshot = some n ∧ ¬ wanted s) fun s u =>
      u.pipe.snapshot = none ∧ u.gw = s.gw ∧ u.regs = s.regs) ∧
  (∀ (t : Nat) (src : Src) (ctx : Fin 3072), Runs (.statsRecordLatch t src ctx) (fun s => s.mayManage src = true) fun s u =>
    u.regs = s.regs ∧ ∃ l ∈ u.pipe.latches, l.src = src ∧ l.base = Reg.PIPE_STATS ctx.val 0 ∧
      ∀ w < 256, Sparse.get resetWord l.words (Reg.PIPE_STATS ctx.val w) = s.reg (Reg.PIPE_STATS ctx.val w)) ∧
  ∀ (t : Nat) (src : Src) (slot : Fin 2), Runs (.meanMapLatch t src slot) (fun s => s.mayManage src = true) fun s u =>
    u.regs = s.regs ∧ ∃ l ∈ u.pipe.latches, l.src = src ∧ l.base = Reg.PIPE_MEAN slot.val 0 ∧
      ∀ w < 8256, Sparse.get resetWord l.words (Reg.PIPE_MEAN slot.val w) = s.reg (Reg.PIPE_MEAN slot.val w)

/-- R302 to R304: the packet of a row slot that ended no more than 2,500 ns ago goes out once on the port of its side; a packet that comes on the port of its side supplies its rows, and one on another port is discarded and flagged. R190: the unloader sends the next piece of the next context of class N, and of class B where none of N can go, and the gap notice of a dropped frame in its turn. R184: a mirror write that ran out of time frees its berth, which a recall that locks it keeps until it ends (R198), is flagged and counted. -/
def Obligations.SeamRowsUnloadersAndMirrors : Prop :=
  (∀ (t : Nat) (right : Bool) (slot : Fin 2) (rslot : Fin 64) (half : Fin 2) (p : Pass),
    let port := fun (s : State) => if right then s.f Reg.FB_CFG Fld.FB_CFG_SEAM_PORT_R else s.f Reg.FB_CFG Fld.FB_CFG_SEAM_PORT_L
    let key := (if right then 256 else 0) + 128 * slot.val + 2 * rslot.val + half.val
    Runs (.seamSend t right slot rslot half)
      (fun s => (if right then s.flag Reg.FB_CFG Fld.FB_CFG_SEAM_TX_R else s.flag Reg.FB_CFG Fld.FB_CFG_SEAM_TX_L) = true ∧
        s.portState (port s) = 4 ∧ s.seamPass slot.val rslot.val key = some p)
      fun s u => (∃ words, u.wire = s.wire ++ [.fabric (port s) 0xE1 words]) ∧
        ∃ q ∈ u.tt.passes, q.seq = p.seq ∧ q.cont = p.cont ∧ q.strip = p.strip ∧ key ∈ q.seams) ∧
  (∀ (t : Nat) (m : SeamMsg), m.crcOk = true →
    let want := fun (s : State) => if m.side.val = 0 then s.f Reg.FB_CFG Fld.FB_CFG_SEAM_PORT_R else s.f Reg.FB_CFG Fld.FB_CFG_SEAM_PORT_L
    Runs (.seamRx t m) (fun s => s.portState m.port.val = 4 ∧ m.port.val = want s) (fun s u => u.regs = s.regs ∧
      ∀ r ∈ m.recs, ∃ x ∈ u.pipe.seams, x.right = (m.side.val == 0) ∧ x.slot = m.slot.val ∧ x.start = m.start.toNat ∧ x.row = r.1 ∧
        x.vals = r.2.map (seamValue (convBits m.depth.val))) ∧
    Runs (.seamRx t m) (fun s => s.portState m.port.val = 4 ∧ m.port.val ≠ want s) fun s u =>
      u.pipe = s.pipe ∧ u.flag Reg.FB_STATUS Fld.FB_STATUS_SEAM_BAD = true) ∧
  (∀ (t c : Nat) (turn : UnloaderTurn),
    let b := turn.bundle.val
    let read := fun (s : State) => s.upset turn.upsets
    let due := fun (s : State) (cls : Nat) => s.stripesWork ∧ s.eg.length = 8 ∧ (cls = 0 ∨ cls = 2 ∧ (read s).unloadable b 0 = []) ∧
      nextAfter (s.lastServed b cls) ((read s).unloadable b cls) = some c
    ∀ cls : Nat,
      (∀ o : Occupant, Runs (.unloaderSend t turn) (fun s => due s cls ∧ s.firstOn b c = some o ∧ s.gapOn b c = none) fun s u =>
        (u.bun b).landing = (s.bun b).landing ++ ((read s).nextPiece o b).2 ∧ u.lastServed b cls = c) ∧
      ∀ g : GapOwed, Runs (.unloaderSend t turn)
        (fun s => due s cls ∧ s.gapOn b c = some g ∧ ∀ o, s.firstOn b c = some o → frameBefore g.packet.seq g.packet.cont o.seq o.cont = true)
        fun s u => (u.bun b).landing = (s.bun b).landing ++ [g.packet] ∧ g ∉ u.fs.gaps ∧ u.lastServed b cls = c) ∧
  ∀ (t : Nat) (berth : Fin 1024) (o : Occupant), Runs (.mirrorWriteTimeout t berth)
    (fun s => s.stripesWork ∧ s.occAt berth.val = some o ∧ o.mirror = true ∧ o.ended = false)
    fun s u => (s.berthLocked berth.val = false → u.occAt berth.val = none ∧ u.reg (Reg.FS_BSTATE berth.val) = 0) ∧
      (s.berthLocked berth.val = true → u.berthState berth.val = 3 ∧ ∃ x, u.occAt berth.val = some x ∧ x.gone = true) ∧
      u.flag Reg.FS_STATUS Fld.FS_STATUS_MIRROR_SKIP = true ∧
      u.f Reg.FS_CNT Fld.FS_CNT_MIRROR_SKIP = min (s.f Reg.FS_CNT Fld.FS_CNT_MIRROR_SKIP + 1) 65535

/-- R185: a free berth's entry takes a write, and one of a berth that is not free is ignored and flagged. R197 to R199: a request joins the queue with its source's own key, lines and columns, or is refused where 16 requests and results stand; the request in front whose frame has no berth ends with code 1 and its tag, one that can run locks its berth, and a running one sends its next line to its bundle's landing and counts it; a pop removes the oldest result. The model's own readings in it: log entry 13. -/
def Obligations.BerthsAndRecall : Prop :=
  (∀ (t : Nat) (src : Src) (berth : Fin 1024) (val : Word) (d : RegDef), regAt (Reg.FS_BERTH berth.val) = some d →
    Runs (.berthTableWrite t src berth val) (fun s => s.mayManage src = true ∧ s.berthState berth.val = 0)
      (fun s u => u.reg (Reg.FS_BERTH berth.val) = writtenWord d (s.reg (Reg.FS_BERTH berth.val)) val) ∧
    Runs (.berthTableWrite t src berth val) (fun s => s.mayManage src = true ∧ s.berthState berth.val ≠ 0)
      fun s u => u.reg (Reg.FS_BERTH berth.val) = s.reg (Reg.FS_BERTH berth.val) ∧ u.flag Reg.FS_STATUS Fld.FS_STATUS_BTAB_BUSY = true) ∧
  (∀ (t : Nat) (src : Src),
    Runs (.recallGo t src) (fun s => s.mayManage src = true ∧ s.fs.recalls.length + s.fs.results.length < 16) (fun s u =>
      ∃ r : Recall, u.fs.recalls = s.fs.recalls ++ [r] ∧ r.ctx = Fld.FS_RC_KEY_CTX.get (s.recallReg src 0) ∧
        r.seq = Fld.FS_RC_KEY_SEQ.get (s.recallReg src 0) ∧ r.first = Fld.FS_RC_LINES_FIRST.get (s.recallReg src 1) ∧
        r.count = Fld.FS_RC_LINES_COUNT.get (s.recallReg src 1) ∧ r.bundle = Fld.FS_RC_COLS_BUNDLE.get (s.recallReg src 2) ∧
        r.tag = Fld.FS_RC_COLS_TAG.get (s.recallReg src 2) ∧ r.berth = none ∧ r.sent = 0) ∧
    Runs (.recallGo t src) (fun s => s.mayManage src = true ∧ 16 ≤ s.fs.recalls.length + s.fs.results.length) fun s u =>
      u.fs = s.fs ∧ u.flag Reg.FS_STATUS Fld.FS_STATUS_RC_FULL = true) ∧
  (∀ (turn : RecallTurn) (r : Recall) (rest : List Recall),
    Runs (.recallRun turn)
      (fun s => s.stripesWork ∧ s.fs.recalls = r :: rest ∧ r.berth = none ∧ r.tag < 256 ∧ s.recallFind r = none)
      (fun s u => u.fs.recalls = rest ∧ ∃ w : Word, u.fs.results = s.fs.results ++ [w] ∧ Fld.FS_RC_RES_CODE.get w = 1 ∧
        Fld.FS_RC_RES_TAG.get w = r.tag ∧ Fld.FS_RC_RES_VALID.get w = 1) ∧
    (∀ o : Occupant, Runs (.recallRun turn)
      (fun s => s.stripesWork ∧ s.fs.recalls = r :: rest ∧ r.berth = none ∧ s.recallFind r = some o ∧ 0 < (r.extent o).1 ∧ 0 < (r.extent o).2 ∧
        r.first + (r.extent o).1 ≤ o.lines ∧ r.x0 + (r.extent o).2 ≤ o.width ∧ r.x0 % 16 = 0 ∧ r.w % 16 = 0 ∧ s.bunActive r.bundle = true)
      fun s u => u.fs.recalls = { r with berth := some o.berth } :: rest ∧ u.berthLocked o.berth = true ∧ u.fs.results = s.fs.results) ∧
    ∀ (n : Nat) (o : Occupant),
      let base : Packet := { ptype := 2, cls := 2, ctx := o.ctx, seq := o.seq, cont := o.cont, tag := r.tag, origin := 1, depth := o.depth }
      let packets := fun (s : State) => ((s.upset turn.upsets).readPart o base (r.first + r.pos) r.x0 (r.extent o).2).2
      Runs (.recallRun turn)
        (fun s => s.stripesWork ∧ s.fs.recalls = r :: rest ∧ r.berth = some n ∧ s.occAt n = some o ∧ r.pos < (r.extent o).1 ∧
          (r.first + r.pos) ∈ o.written ∧ r.bundle < s.eg.length ∧ s.hasCredit r.bundle (packets s) = true)
        fun s u => (u.bun r.bundle).landing = (s.bun r.bundle).landing ++ packets s ∧
          u.fs.recalls = { r with pos := r.pos + 1, sent := r.sent + 1 } :: rest) ∧
  ∀ (t : Nat) (src : Src), Runs (.recallPop t src) (fun s => s.mayManage src = true) fun s u =>
    u = { s with fs := { s.fs with results := s.fs.results.tail } }

/-! ## Ferries -/

/-- R219, R220, R223, R226, R227: a kick starts a ferry that stands, at the index it sets; a running one holds a kick that sets no index and ignores one that does; a chained one ignores every kick. A stop ends a descriptor in hand with ABORT, or a run with its frame dropped, and the ferry is stopped once that is written back; a ferry with neither is stopped at once; an enable makes a stopped ferry idle, or starts it on a held kick; a poll that is due starts an idle ferry that polls since its last write-back, or a starved one. R222, R224: the next frame of a chain is handed to an idle ferry, which goes on from the chain's head, or from where the last run of the same head ended; an aborted run's descriptor ends with ABORT. The model's own readings in it: log entries 14, 81 and 88. -/
def Obligations.FerriesStartStopAndRunChains : Prop :=
  (∀ (t : Nat) (src : Src) (f : Fin 32) (index : Fin 16384) (setPos : Bool),
    Runs (.ferryKick t src f index setPos)
      (fun s => s.mayManage src = true ∧ s.fyChained f.val = false ∧ s.fyBusy f.val = false ∧ s.fyState f.val ≠ 7)
      (fun s u => u.fyState f.val = 1 ∧
        u.f (Reg.FY_STAT f.val) Fld.FY_STAT_POS = if setPos then index.val else s.f (Reg.FY_STAT f.val) Fld.FY_STAT_POS) ∧
    Runs (.ferryKick t src f index setPos)
      (fun s => s.mayManage src = true ∧ s.fyChained f.val = false ∧ s.fyBusy f.val = true)
      (fun s u => u.fyState f.val = s.fyState f.val ∧ u.f (Reg.FY_STAT f.val) Fld.FY_STAT_POS = s.f (Reg.FY_STAT f.val) Fld.FY_STAT_POS ∧
        u.flag (Reg.FY_STAT f.val) (if setPos then Fld.FY_STAT_KICK_IGN else Fld.FY_STAT_KICK_HELD) = true) ∧
    Runs (.ferryKick t src f index setPos) (fun s => s.mayManage src = true ∧ s.fyChained f.val = true)
      fun s u => u.fyState f.val = s.fyState f.val ∧ u.flag (Reg.FY_STAT f.val) Fld.FY_STAT_KICK_IGN = true) ∧
  (∀ (t : Nat) (src : Src) (f : Fin 32),
    Runs (.ferryStop t src f) (fun s => s.mayManage src = true ∧ (s.ferry f.val).run = none ∧ (s.ferry f.val).desc = [])
      (fun _ u => u.fyState f.val = 7 ∧ u.flag (Reg.FY_CTL f.val) Fld.FY_CTL_EN = false) ∧
    Runs (.ferryStop t src f)
      (fun s => s.mayManage src = true ∧ s.fy.length = 32 ∧ (s.ferry f.val).run = none ∧ (s.ferry f.val).desc ≠ [] ∧ (s.ferry f.val).outcome = none)
      (fun _ u => u.fyState f.val = 3 ∧ (u.ferry f.val).outcome = some 6 ∧ (u.ferry f.val).stopping = true ∧
        u.flag (Reg.FY_CTL f.val) Fld.FY_CTL_EN = false) ∧
    (∀ c q k n : Nat, Runs (.ferryStop t src f)
      (fun s => s.mayManage src = true ∧ s.fy.length = 32 ∧ (s.ferry f.val).run = some (c, q, k, n) ∧ s.isDropped c q k = false)
      fun s u => (u.ferry f.val).aborting = true ∧ (u.ferry f.val).stopping = true ∧ u.flag (Reg.FY_CTL f.val) Fld.FY_CTL_EN = false ∧
        u.f (Reg.CTX_ST1 c) Fld.CTX_ST1_DROPPED = (s.f (Reg.CTX_ST1 c) Fld.CTX_ST1_DROPPED + 1) % 2 ^ 32) ∧
    Runs (.ferryEnable t src f) (fun s => s.mayManage src = true ∧ s.fyState f.val = 7) (fun s u =>
      u.flag (Reg.FY_CTL f.val) Fld.FY_CTL_EN = true ∧ u.flag (Reg.FY_STAT f.val) Fld.FY_STAT_KICK_HELD = (s.flag (Reg.FY_STAT f.val) Fld.FY_STAT_KICK_HELD && s.fyChained f.val) ∧
        u.fyState f.val = if s.flag (Reg.FY_STAT f.val) Fld.FY_STAT_KICK_HELD && !s.fyChained f.val then 1 else 0) ∧
    Runs (.ferryEnable t src f) (fun s => s.mayManage src = true ∧ s.fyState f.val ≠ 7) fun s u =>
      u.flag (Reg.FY_CTL f.val) Fld.FY_CTL_EN = true ∧ u.fyState f.val = s.fyState f.val) ∧
  (∀ (t : Nat) (f : Fin 32),
    Runs (.ferryPoll t f)
      (fun s => s.stripesWork ∧ (s.ferry f.val).pollAt ≤ s.clock.tt ∧
        ((s.fyState f.val = 0 ∧ s.polls f.val = true ∧ s.fyChained f.val = false) ∨ s.fyState f.val = 5))
      (fun _ u => u.fyState f.val = 1) ∧
    Runs (.ferryPoll t f) (fun s => s.stripesWork ∧ s.clock.tt < (s.ferry f.val).pollAt) fun s u => u = s) ∧
  (∀ (t : Nat) (f : Fin 32) (o : Occupant), Runs (.chainHandover t f)
    (fun s => s.stripesWork ∧ s.fy.length = 32 ∧ s.fyState f.val = 0 ∧ (s.ferry f.val).run = none ∧ s.handNext f.val = some o)
    fun s u => u.fyState f.val = 1 ∧ (u.ferry f.val).run = some (o.ctx, o.seq, o.cont, o.berth) ∧
      u.f (Reg.FY_STAT f.val) Fld.FY_STAT_POS =
        (if (s.ferry f.val).lastHead = some ((o.chain.map (·.2)).getD 0) then (s.ferry f.val).lastNext else (o.chain.map (·.2)).getD 0) % 16384) ∧
  ∀ (t : Nat) (f : Fin 32), Runs (.chainRunAbort t f)
    (fun s => s.stripesWork ∧ s.fy.length = 32 ∧ (s.ferry f.val).abortReq = true ∧ (s.ferry f.val).run.isSome = true ∧
      (s.ferry f.val).aborting = false ∧ (s.ferry f.val).outcome = none)
    fun s u => (u.ferry f.val).aborting = true ∧ (u.ferry f.val).abortReq = false ∧
      u.fyState f.val = (if (s.ferry f.val).desc = [] then 1 else 3) ∧
      (u.ferry f.val).outcome = if (s.ferry f.val).desc = [] then none else some 6

/-- R206, R207, R213, R218, R226: a ferry that fetches takes the descriptor at its position where OWN is 1: one of a run that ends early ends with ABORT, one that fails a check ends at once with that status, one without pacing moves, and one with pacing waits from the current tick; a ferry that now runs frames only fetches none of its own (R223); a run starves where OWN is 0, and with 64 descriptors waiting for delivery it waits; a wait that is over lets lines move. R182, R209, R215: a line moves from the frame store to the frame store and counts; with a word that cannot be read, or with its bundle inactive the descriptor ends with status 5. R216: the write-back clears OWN, writes the lines and the status with the stamp, counts, marks DONE and ERR, and moves to NEXT; then a ferry that was to stop is stopped (R220). R218: the oldest descriptor whose lines are through is reported. The model's own readings in it: log entries 36, 74 and 88. -/
def Obligations.FerriesFetchMoveAndReport : Prop :=
  (∀ (t : Nat) (f : Fin 32) (d : List Word),
    let ready := fun (s : State) => s.stripesWork ∧ s.fy.length = 32 ∧ s.fyState f.val = 1 ∧ (s.ferry f.val).awaiting.length < 64 ∧
      s.descWords (s.f (Reg.FY_STAT f.val) Fld.FY_STAT_POS) = d ∧ (s.fyChained f.val = false ∨ (s.ferry f.val).run.isSome = true)
    let began := fun (u : State) => (u.ferry f.val).desc = d ∧ u.f (Reg.FY_STAT f.val) Fld.FY_STAT_LINES = 0
    (∀ c : Nat, Runs (.descriptorFetch t f)
      (fun s => ready s ∧ Fld.DESC0_OWN.get (dw d 0) = 1 ∧ (s.ferry f.val).aborting = false ∧ s.descCheck f.val (s.ferry f.val) d = some c)
      fun _ u => began u ∧ u.fyState f.val = 3 ∧ (u.ferry f.val).outcome = some c) ∧
    Runs (.descriptorFetch t f)
      (fun s => ready s ∧ Fld.DESC0_OWN.get (dw d 0) = 1 ∧ (s.ferry f.val).aborting = false ∧ s.descCheck f.val (s.ferry f.val) d = none ∧
        Fld.DESC5_PACE_KIND.get (dw d 5) = 0)
      (fun _ u => began u ∧ u.fyState f.val = 3 ∧ (u.ferry f.val).outcome = none ∧ (u.ferry f.val).srcLine = 0) ∧
    Runs (.descriptorFetch t f)
      (fun s => ready s ∧ Fld.DESC0_OWN.get (dw d 0) = 1 ∧ (s.ferry f.val).aborting = false ∧ s.descCheck f.val (s.ferry f.val) d = none ∧
        Fld.DESC5_PACE_KIND.get (dw d 5) ≠ 0)
      (fun s u => began u ∧ u.fyState f.val = 2 ∧ (u.ferry f.val).waitFrom = some s.tick) ∧
    Runs (.descriptorFetch t f) (fun s => ready s ∧ Fld.DESC0_OWN.get (dw d 0) = 0 ∧ (s.ferry f.val).run.isSome = true) (fun s u =>
      u.fyState f.val = 5 ∧ u.f (Reg.FY_CNT f.val) Fld.FY_CNT_STARVE = min (s.f (Reg.FY_CNT f.val) Fld.FY_CNT_STARVE + 1) 65535) ∧
    Runs (.descriptorFetch t f)
      (fun s => ready s ∧ Fld.DESC0_OWN.get (dw d 0) = 0 ∧ (s.ferry f.val).run = none ∧ s.flag (Reg.FY_STAT f.val) Fld.FY_STAT_KICK_HELD = false)
      (fun _ u => u.fyState f.val = 0) ∧
    Runs (.descriptorFetch t f) (fun s => ready s ∧ Fld.DESC0_OWN.get (dw d 0) = 1 ∧ (s.ferry f.val).aborting = true)
      (fun _ u => began u ∧ u.fyState f.val = 3 ∧ (u.ferry f.val).outcome = some 6) ∧
    Runs (.descriptorFetch t f)
      (fun s => s.stripesWork ∧ s.fyState f.val = 1 ∧ s.fyChained f.val = true ∧ (s.ferry f.val).run = none) (fun _ u => u.fyState f.val = 0) ∧
    Runs (.descriptorFetch t f)
      (fun s => s.stripesWork ∧ s.fyState f.val = 1 ∧ 64 ≤ (s.ferry f.val).awaiting.length ∧
        (s.fyChained f.val = false ∨ (s.ferry f.val).run.isSome = true))
      fun _ u => u.fyState f.val = 4) ∧
  (∀ (t : Nat) (f : Fin 32), Runs (.pacingWaitEnd t f)
    (fun s => s.stripesWork ∧ s.fy.length = 32 ∧ s.fyState f.val = 2 ∧ (s.ferry f.val).waitFrom.isSome = true ∧ s.waitOver f.val = true)
    fun _ u => u.fyState f.val = 3 ∧ (u.ferry f.val).waitFrom = none) ∧
  (∀ (t : Nat) (f : Fin 32) (ups : List (Nat × Bool)) (d : List Word),
    let moving := fun (s : State) => s.stripesWork ∧ s.fy.length = 32 ∧ (s.ferry f.val).desc = d ∧ d ≠ [] ∧ (s.ferry f.val).outcome = none ∧
      s.fyState f.val = 3 ∧ descFrame d = false
    let len := 64 * Fld.DESC2_LEN.get (dw d 2)
    let src := fun (s : State) => Fld.DESC_ADDR.get (dw d 1) + 64 * (s.ferry f.val).srcLine * Fld.DESC2_STRIDE.get (dw d 2)
    let dst := fun (s : State) => Fld.DESC_ADDR.get (dw d 3) + 64 * (s.ferry f.val).srcLine * Fld.DESC2_STRIDE.get (dw d 4)
    Runs (.sourceLineMove t ⟨f, ups⟩)
      (fun s => moving s ∧ 0 < len ∧ Fld.DESC2_LEN.get (dw d 4) = Fld.DESC2_LEN.get (dw d 2) ∧ src s < storeEnd ∧ (s.upset ups).damagedIn (src s) len = false ∧
        destRegion (Fld.DESC_ADDR.get (dw d 3)) (destSpan d) = some .store)
      (fun s u => u.bytes (dst s) len = s.bytes (src s) len ∧ (u.ferry f.val).srcLine = (s.ferry f.val).srcLine + 1 ∧
        (∀ a, a < dst s ∨ dst s + len ≤ a → u.byte a = s.byte a) ∧
        (Fld.DESC2_COUNT.get (dw d 2) ≤ (s.ferry f.val).srcLine + 1 → (u.ferry f.val).outcome = some 0 ∧ u.fyState f.val = 3)) ∧
    Runs (.sourceLineMove t ⟨f, ups⟩) (fun s => moving s ∧ src s < storeEnd ∧ (s.upset ups).damagedIn (src s) len = true)
      (fun s u => (u.ferry f.val).outcome = some 5 ∧ u.fyState f.val = 3 ∧ u.dram = s.dram ∧ u.flag Reg.FS_STATUS Fld.FS_STATUS_ECC_UE = true) ∧
    ∀ b : Nat, Runs (.sourceLineMove t ⟨f, ups⟩)
      (fun s => moving s ∧ src s < storeEnd ∧ (s.upset ups).damagedIn (src s) len = false ∧
        destRegion (Fld.DESC_ADDR.get (dw d 3)) (destSpan d) = some (.landing b) ∧ s.bunActive b = false)
      fun s u => (u.ferry f.val).outcome = some 5 ∧ u.fyState f.val = 3 ∧ u.dram = s.dram ∧ u.eg = s.eg) ∧
  (∀ (t : Nat) (f : Fin 32) (d : List Word) (status : Nat), status < 16 → Runs (.descriptorWriteback t f)
    (fun s => s.stripesWork ∧ s.fy.length = 32 ∧ (s.ferry f.val).desc = d ∧ descFrame d = false ∧ (s.ferry f.val).outcome = some status ∧
      (s.ferry f.val).run = none ∧ (s.ferry f.val).aborting = false ∧ s.fyChained f.val = false ∧
      s.flag (Reg.FY_STAT f.val) Fld.FY_STAT_KICK_HELD = false)
    fun s u =>
      let pos := s.f (Reg.FY_STAT f.val) Fld.FY_STAT_POS
      u.reg (Reg.FY_DESC pos 0) = Fld.DESC0_OWN.set (dw d 0) 0 ∧
        u.reg (Reg.FY_DESC pos 7) = BitVec.ofNat 64 (s.f (Reg.FY_STAT f.val) Fld.FY_STAT_LINES + status * 2 ^ 24 + s.stamp.toNat % 2 ^ 32 * 2 ^ 32) ∧
        u.reg (Reg.FY_TIME f.val) = s.stamp ∧
        u.f (Reg.FY_CNT f.val) Fld.FY_CNT_DESC = (s.f (Reg.FY_CNT f.val) Fld.FY_CNT_DESC + 1) % 2 ^ 32 ∧
        (Fld.DESC0_NOTIFY.get (dw d 0) = 1 → hasBit (u.f Reg.FY_DONE Fld.FY_DONE_DONE) f.val = true) ∧
        (2 ≤ status → hasBit (u.f Reg.FY_ERR Fld.FY_ERR_ERR) f.val = true) ∧
        u.f (Reg.FY_STAT f.val) Fld.FY_STAT_POS = Fld.DESC5_NEXT.get (dw d 5) ∧ (u.ferry f.val).outcome = none ∧
        (u.ferry f.val).cfg = s.reg (Reg.FY_CTL f.val) ∧ (u.ferry f.val).stopping = false ∧
        u.fyState f.val = if (s.ferry f.val).stopping = true then (if s.flag (Reg.FY_CTL f.val) Fld.FY_CTL_EN = true then 0 else 7)
          else if 2 ≤ status ∧ s.flag (Reg.FY_CTL f.val) Fld.FY_CTL_HALT_ON_ERR = true then 6
          else if Fld.DESC0_LAST.get (dw d 0) = 1 then 0 else 1) ∧
  ∀ (t : Nat) (f : Fin 32) (a : Awaiting) (r : List Awaiting), Runs (.deliveryReport t f)
    (fun s => s.stripesWork ∧ s.fy.length = 32 ∧ (s.ferry f.val).awaiting = a :: r ∧ s.undelivered f.val a.id = false)
    fun s u => (u.ferry f.val).awaiting = r ∧ u.f (Reg.FY_DLV f.val) Fld.FY_DLV_COUNT = (s.f (Reg.FY_DLV f.val) Fld.FY_DLV_COUNT + 1) % 2 ^ 32 ∧
      u.f (Reg.FY_DLV f.val) Fld.FY_DLV_INDEX = a.index % 16384 ∧ u.flag (Reg.FY_DLV f.val) Fld.FY_DLV_DISCARDED = a.discarded ∧
      u.flag (Reg.FY_DLV f.val) Fld.FY_DLV_VALID = true ∧ u.reg (Reg.FY_DLVT f.val) = s.stamp

/-! ## The egress link -/

/-- R230 to R236, R241, R242, R248, R249, R251, R254 to R256, R267: what a lane codes of a block its receiver gets back, with the payload's CRC right. At a packet boundary of an active bundle a P packet that the bucket can pay goes first; without one the next packet due for replay; without that the new packet of the class whose turn it is, with the next LSN, its credits and a place in the replay buffer (none while the bundle is blind); else IDLE, which a stopped bundle sends too, and one in LOCK on every lane; where STOP is 1 it stops. The packet's blocks are dealt in their order, one to each active lane in a round. An ALIGN round puts one block on every lane that carries it, with the mask, the round and the trims. The model's own readings in it: log entries 17, 18 and 82. -/
def Obligations.PacketsAndAlignBlocksAreSent : Prop :=
  (∀ (x : LaneTx) (k : Block), x.injLeft = 0 → x.runLen < 40 → k.bits.length = 256 →
    let y := x.block k 0
    ({ scr := x.scr, runBit := x.runBit, runLen := x.runLen } : LaneRx).take (y.sent.drop x.sent.length) =
      { rx := { scr := y.scr, runBit := y.runBit, runLen := y.runLen }, stuffErr := 0, header := true, payload := if k.data then none else some k.bits }) ∧
  (∀ w0 w1 w2 w3 : Nat, let k := ctlBlock w0 w1 w2 w3
    k.data = false ∧ k.bits.length = 256 ∧ blockType k.bits = w0 % 256 ∧ crcGood k.bits = true) ∧
  ∀ (t : Nat) (b : Fin 8),
    let free := fun (s : State) => s.eg.length = 8 ∧ (s.bun b.val).stream = [] ∧ (s.bun b.val).freeAt ≤ s.clock.now * 14
    let open' := fun (s : State) => free s ∧ s.lanesOf b.val ≠ 0
    let active := fun (s : State) => open' s ∧ s.bunActive b.val = true ∧ s.flag (Reg.EG_BCTL b.val) Fld.EG_BCTL_STOP = false
    let sent := fun (s : State) (p : Packet) => p.atSend (s.bunState b.val == 4) (s.bun b.val).feBlind
    let dealt := fun (u : State) (ks : List Block) => ∃ k, (u.bun b.val).stream = ks.drop k
    let pick := fun (s : State) =>
      match s.nextNew b.val false, s.nextNew b.val true with
      | some n, some w => some (if s.f Reg.EG_CFG Fld.EG_CFG_B_RATIO ≤ (s.bun b.val).bTurn then w else n)
      | some n, none => some n
      | none, o => o
    (∀ p : Packet, Runs (.packetTransmit t b) (fun s => active s ∧ (s.refill b.val).nextP b.val = some p) fun s u =>
      u.wire = s.wire ++ [.packet b.val (sent s p)] ∧ (u.bun b.val).ford = (s.bun b.val).ford.drop 1 ∧
        (u.bun b.val).tokens = ((s.refill b.val).bun b.val).tokens - p.tokens * 17920 ∧ dealt u ((sent s p).blocks b.val) ∧
        (u.bun b.val).landing = (s.bun b.val).landing ∧ (u.bun b.val).due = (s.bun b.val).due) ∧
    (∀ (p : Packet) (r : List Packet), Runs (.packetTransmit t b)
      (fun s => active s ∧ (s.refill b.val).nextP b.val = none ∧ (s.bun b.val).due = p :: r) fun s u =>
      u.wire = s.wire ++ [.packet b.val p] ∧ (u.bun b.val).due = r ∧ (u.bun b.val).replay = (s.bun b.val).replay ∧ dealt u (p.blocks b.val) ∧
        u.f (Reg.EG_BCNT0 b.val) Fld.EG_BCNT0_PKTS_RESENT = (s.f (Reg.EG_BCNT0 b.val) Fld.EG_BCNT0_PKTS_RESENT + 1) % 2 ^ 32) ∧
    (∀ p : Packet, Runs (.packetTransmit t b)
      (fun s => active s ∧ (s.refill b.val).nextP b.val = none ∧ (s.bun b.val).due = [] ∧ pick (s.refill b.val) = some p)
      fun s u =>
        let n := s.f (Reg.EG_BSTAT b.val) Fld.EG_BSTAT_NEXT_LSN
        let q := { sent s p with lsn := n }
        u.wire = s.wire ++ [.packet b.val q] ∧ (u.bun b.val).landing = (s.bun b.val).landing.erase p ∧
          u.f (Reg.EG_BSTAT b.val) Fld.EG_BSTAT_NEXT_LSN = (n + 1) % 2 ^ 16 ∧
          (u.bun b.val).replay = (if s.bunState b.val = 4 then (s.bun b.val).replay else (s.bun b.val).replay ++ [q]) ∧
          (u.bun b.val).consN = (if p.cls = 2 then (s.bun b.val).consN else (s.bun b.val).consN + p.cost) ∧
          (u.bun b.val).consB = (if p.cls = 2 then (s.bun b.val).consB + p.cost else (s.bun b.val).consB) ∧ dealt u (q.blocks b.val)) ∧
    Runs (.packetTransmit t b)
      (fun s => active s ∧ (s.refill b.val).nextP b.val = none ∧ (s.bun b.val).due = [] ∧ pick (s.refill b.val) = none)
      (fun s u => u.wire = s.wire ++ [.block b.val 0 (s.lanesOf b.val) []] ∧ (u.bun b.val).landing = (s.bun b.val).landing ∧ dealt u [idleBlock]) ∧
    Runs (.packetTransmit t b) (fun s => open' s ∧ s.bunState b.val = 5 ∧ s.allMoored b.val = false)
      (fun s u => u.wire = s.wire ++ [.block b.val 0 (s.lanesOf b.val) []] ∧ dealt u [idleBlock]) ∧
    Runs (.packetTransmit t b) (fun s => open' s ∧ s.bunActive b.val = true ∧ s.flag (Reg.EG_BCTL b.val) Fld.EG_BCTL_STOP = true)
      (fun _ u => u.bunState b.val = 5 ∧ (∀ p ∈ (u.bun b.val).landing, p.ptype = 4) ∧ (u.bun b.val).replay = []) ∧
    Runs (.packetTransmit t b)
      (fun s => free s ∧ (s.bun b.val).lanes.length = 7 ∧ s.lanesOf b.val = 0 ∧ s.bunState b.val = 1 ∧ s.lanesIn b.val 3 ≠ []) (fun s u =>
      u.wire = s.wire ++ [.block b.val 0 (laneMask (s.lanesIn b.val 3)) []] ∧ (u.bun b.val).freeAt = s.clock.now * 14 + 65 ∧ u.regs = s.regs ∧
        ∀ l : Fin 7, (u.laneAux b.val l.val).tx = if s.laneState b.val l.val = 3 then (s.laneAux b.val l.val).tx.block idleBlock 0
          else (s.laneAux b.val l.val).tx) ∧
    Runs (.packetTransmit t b) (fun s => s.clock.now * 14 < (s.bun b.val).freeAt) (fun s u => u = s) ∧
    (∀ (k : Block) (l : Nat), Runs (.packetTransmit t b)
      (fun s => s.eg.length = 8 ∧ (s.bun b.val).lanes.length = 7 ∧ (s.bun b.val).stream = [k] ∧ s.held b.val = false ∧
        (s.bun b.val).freeAt ≤ s.clock.now * 14 ∧ s.clock.now * 14 < (s.bun b.val).freeAt + 65 ∧
        (s.bun b.val).turn + 1 = (s.activeLanes b.val).length ∧ (s.activeLanes b.val)[(s.bun b.val).turn]? = some l ∧ s.laneState b.val l ≠ 5)
      fun s u => (u.laneAux b.val l).tx = (s.laneAux b.val l).tx.block k 0 ∧ (u.bun b.val).stream = [] ∧ (u.bun b.val).turn = 0 ∧
        (u.bun b.val).freeAt = (s.bun b.val).freeAt + 65 ∧ u.wire = s.wire) ∧
    ∀ stuffed : List Nat,
      let comes := fun (s : State) => s.eg.length = 8 ∧ (s.bunActive b.val = true ∨ s.bunState b.val = 5 ∧ s.allMoored b.val = false) ∧
        s.roundAt b.val (s.bun b.val).round ≤ s.clock.now
      let row := fun (s : State) (trims : List Nat) => s.wire ++
        [.block b.val 0x2D (laneMask (s.alignLanes b.val)) (s.lanesOf b.val :: (s.bun b.val).round % 2 ^ 48 :: trims)]
      let trim := fun (s : State) (l : Nat) => min ((s.laneAux b.val l).tx.stuffed + stuffed.getD l 0) 8
      Runs (.alignRound t b stuffed) comes (fun s u => (u.bun b.val).round = (s.bun b.val).round + 1024 ∧
        ∃ trims : List Nat, trims.length = (s.alignLanes b.val).length ∧ (∀ n ∈ trims, n ≤ 8) ∧ u.wire = row s trims) ∧
      Runs (.alignRound t b stuffed)
        (fun s => comes s ∧ (s.bun b.val).lanes.length = 7 ∧ (s.bun b.val).stream = [] ∧ (s.bun b.val).turn = 0) (fun s u =>
        u.wire = row s ((s.alignLanes b.val).map (trim s)) ∧
          (u.bun b.val).freeAt = max (s.bun b.val).freeAt ((s.bun b.val).roundStart (s.bun b.val).round) + 65 ∧
          ∀ l ∈ s.alignLanes b.val, (u.laneAux b.val l).tx =
            ({ (s.laneAux b.val l).tx with stuffed := (s.laneAux b.val l).tx.stuffed + stuffed.getD l 0 - trim s l } : LaneTx).block
              (roundBlock 0x2D l (s.lanesOf b.val) (trim s l) (s.bun b.val).round) (trim s l)) ∧
      Runs (.alignRound t b stuffed) (fun s => s.clock.now < s.roundAt b.val (s.bun b.val).round) fun s u => u = s

/-- R231 to R233, R235, R246, R247, R249, R251, R252, R254, R280: the receiver of a return counts wrong stuffed bits, invalid headers and RETURN and CAP blocks with a wrong CRC, which do nothing else; a good RETURN on a running bundle brings EXPECT and the credits and releases what lies before EXPECT; its NAK, where no replay has started, makes everything from EXPECT on due again; an EXPECT outside the buffer retrains the bundle; its request asks for a shed 100 ns later. Without an advance for ACK_TO the oldest packet is replayed from. A CAP goes out every 1 µs of the capability step with the next LSN; a CAP received is refused where it fails the checks, else its values stand, credit restarts and the bundle becomes active over the initial mask, or a blind one goes on. The model's own readings in it: log entries 17, 18 and 21. -/
def Obligations.ReturnsReplaysAndCapabilities : Prop :=
  ∀ (t : Nat) (b : Fin 8),
    let crcErr := fun (s u : State) (bits : List Bool) =>
      u.f (Reg.LN_LCNT b.val 6) Fld.LN_LCNT_CRC_ERR = min (s.f (Reg.LN_LCNT b.val 6) Fld.LN_LCNT_CRC_ERR + 1) 65535 ∧
        u.eg = (s.modLane b.val 6 fun x => { x with rx := (s.heard b.val bits).rx }).eg ∧ ∀ a, a ≠ Reg.LN_LCNT b.val 6 → u.reg a = s.reg a
    (∀ bits : List Bool,
      let heard := fun (s u : State) => (s.eg.length = 8 → (s.bun b.val).lanes.length = 7 → (u.laneAux b.val 6).rx = (s.heard b.val bits).rx) ∧
        u.f (Reg.LN_LCNT b.val 6) Fld.LN_LCNT_STUFF_ERR =
          min (s.f (Reg.LN_LCNT b.val 6) Fld.LN_LCNT_STUFF_ERR + (s.heard b.val bits).stuffErr) 65535 ∧
        u.f (Reg.LN_LCNT b.val 6) Fld.LN_LCNT_INVALID_HDR =
          min (s.f (Reg.LN_LCNT b.val 6) Fld.LN_LCNT_INVALID_HDR + if (s.heard b.val bits).header then 0 else 1) 65535
      Runs (.returnRx t b bits) (fun s => s.heardReturn b.val bits = none) heard ∧
      Runs (.capRx t b bits) (fun s => s.heardCap b.val bits = none) heard ∧
      Runs (.returnRx t b bits) (fun s => ((s.heard b.val bits).ofType 0x96 false).isSome = true) (fun s u => crcErr s u bits) ∧
      Runs (.capRx t b bits) (fun s => ((s.heard b.val bits).ofType 0x5A false).isSome = true) fun s u => crcErr s u bits) ∧
    (∀ (bits : List Bool) (m : ReturnMsg),
      let got := fun (s : State) => s.eg.length = 8 ∧ s.heardReturn b.val bits = some m
      let running := fun (s : State) => got s ∧ (s.bunState b.val = 2 ∨ s.bunState b.val = 3)
      Runs (.returnRx t b bits) (fun s => got s ∧ s.bunState b.val < 2) (fun s u => u = s.hear b.val bits) ∧
      Runs (.returnRx t b bits) (fun s => running s ∧ s.badExpect b.val m.expect.toNat = false) (fun s u =>
        (u.bun b.val).credN = m.credN.toNat ∧ (u.bun b.val).credB = m.credB.toNat ∧ (u.bun b.val).lastReturn = s.clock.now ∧
          u.f (Reg.EG_BSTAT b.val) Fld.EG_BSTAT_EXPECT = m.expect.toNat ∧ (u.bun b.val).lanesOk = m.lanesOk.toNat ∧
          (u.bun b.val).replay = (s.bun b.val).replay.filter fun p => serialGe 16 p.lsn m.expect.toNat) ∧
      Runs (.returnRx t b bits) (fun s => running s ∧ s.badExpect b.val m.expect.toNat = false ∧ m.nak = true ∧ (s.bun b.val).lastReplay = none ∧
          ((s.bun b.val).replay.any fun p => p.lsn == m.expect.toNat) = true) (fun s u =>
        (u.bun b.val).due = ((s.bun b.val).replay.filter fun p => serialGe 16 p.lsn m.expect.toNat) ∧
          (u.bun b.val).lastReplay = some (m.expect.toNat, s.clock.now) ∧ u.flag Reg.EG_STATUS Fld.EG_STATUS_NAK = true ∧
          u.f (Reg.EG_BCNT0 b.val) Fld.EG_BCNT0_REPLAYS = (s.f (Reg.EG_BCNT0 b.val) Fld.EG_BCNT0_REPLAYS + 1) % 2 ^ 32) ∧
      Runs (.returnRx t b bits) (fun s => running s ∧ s.badExpect b.val m.expect.toNat = true)
        (fun _ u => u.flag Reg.EG_STATUS Fld.EG_STATUS_CAP_BAD = true ∧ u.bunState b.val = 1) ∧
      Runs (.returnRx t b bits) (fun s => running s ∧ s.badExpect b.val m.expect.toNat = false ∧ (s.bun b.val).badSince = [] ∧
          ((s.bun b.val).shedDue.any fun p => p.1 == m.reqLane.val) = false ∧ m.req.val = 1 ∧ m.reqLane.val < 7 ∧
          hasBit (s.lanesOf b.val) m.reqLane.val = true)
        (fun s u => (u.bun b.val).shedDue = (s.bun b.val).shedDue ++ [(m.reqLane.val, s.clock.now + 100)]) ∧
      Runs (.returnRx t b bits) (fun s => got s ∧ (s.bunState b.val = 4 ∨ s.bunState b.val = 5))
        fun s u => (u.bun b.val).credN = m.credN.toNat ∧ (u.bun b.val).credB = m.credB.toNat ∧ (u.bun b.val).lastReturn = s.clock.now ∧
          (u.bun b.val).lanesOk = m.lanesOk.toNat ∧ u.f (Reg.EG_BSTAT b.val) Fld.EG_BSTAT_EXPECT = m.expect.toNat) ∧
    (∀ (p : Packet) (r : List Packet), Runs (.ackTimeout t b)
      (fun s => s.eg.length = 8 ∧ (s.bun b.val).replay = p :: r ∧ (s.bunState b.val = 2 ∨ s.bunState b.val = 3) ∧
        (s.bun b.val).lastAdvance + s.ackNs ≤ s.clock.now)
      fun s u => (u.bun b.val).due = ((p :: r).filter fun q => serialGe 16 q.lsn p.lsn) ∧ (u.bun b.val).replay = p :: r ∧
        (u.bun b.val).lastAdvance = s.clock.now ∧ u.flag Reg.EG_STATUS Fld.EG_STATUS_NAK = true ∧
        u.f (Reg.EG_BCNT0 b.val) Fld.EG_BCNT0_REPLAYS = (s.f (Reg.EG_BCNT0 b.val) Fld.EG_BCNT0_REPLAYS + 1) % 2 ^ 32) ∧
    Runs (.capSend t b) (fun s => s.eg.length = 8 ∧ s.inCapStep b.val = true ∧ (s.bun b.val).capAt ≤ s.clock.now) (fun s u =>
      let n := s.f (Reg.EG_BSTAT b.val) Fld.EG_BSTAT_NEXT_LSN
      u.wire = s.wire ++ [.block b.val 0x5A 64
          [0x15A + b.val * 2 ^ 17 + s.f Reg.FB_STATUS Fld.FB_STATUS_ADDR * 2 ^ 20 + n * 2 ^ 32 + s.capMask b.val * 2 ^ 48, (s.reg Reg.ID_DEVID).toNat]] ∧
        (u.bun b.val).capAt = s.clock.now + 1000 ∧ (u.bun b.val).capLsn = some n) ∧
    ∀ (bits : List Bool) (m : CapMsg),
      let step := fun (s : State) => s.eg.length = 8 ∧ s.heardCap b.val bits = some m ∧ s.inCapStep b.val = true
      let took := fun (u : State) =>
        u.f (Reg.EG_BCAP b.val) Fld.EG_BCAP_INIT_N = m.initN.toNat ∧ u.f (Reg.EG_BCAP b.val) Fld.EG_BCAP_INIT_B = m.initB.toNat ∧
          u.f (Reg.EG_BCAP b.val) Fld.EG_BCAP_RES_N = m.resN.toNat ∧ u.f (Reg.EG_BCAP b.val) Fld.EG_BCAP_RES_B = m.resB.toNat ∧
          u.f (Reg.EG_BCAP b.val) Fld.EG_BCAP_DESKEW = m.deskew.val ∧ u.flag (Reg.EG_BCAP b.val) Fld.EG_BCAP_VALID = true ∧
          u.flag (Reg.EG_BSTAT b.val) Fld.EG_BSTAT_P_SINK = m.pSink ∧ (m.pSink = false → (u.bun b.val).ford = []) ∧
          (u.bun b.val).credN = 0 ∧ (u.bun b.val).credB = 0 ∧ (u.bun b.val).consN = 0 ∧ (u.bun b.val).consB = 0
      Runs (.capRx t b bits) (fun s => step s ∧ capGood m = false)
        (fun s u => u.flag Reg.EG_STATUS Fld.EG_STATUS_CAP_BAD = true ∧ u.eg = (s.hear b.val bits).eg ∧
          ∀ a, a ≠ Reg.EG_STATUS → u.reg a = (s.hear b.val bits).reg a) ∧
      Runs (.capRx t b bits) (fun s => s.heardCap b.val bits = some m ∧ s.inCapStep b.val = false) (fun s u => u = s.hear b.val bits) ∧
      Runs (.capRx t b bits) (fun s => step s ∧ capGood m = true ∧ s.bunState b.val ≠ 4 ∧
          0 < (s.bun b.val).initMask ∧ (s.bun b.val).initMask < 128 ∧ s.flag (Reg.EG_BCTL b.val) Fld.EG_BCTL_STOP = false) (fun s u =>
        took u ∧ u.bunState b.val = runState (s.bun b.val).initMask ∧ u.lanesOf b.val = (s.bun b.val).initMask ∧
          (u.bun b.val).activeAt = s.clock.now ∧ (u.bun b.val).round = 0 ∧ (u.bun b.val).lanesOk = 0 ∧ (u.bun b.val).stream = [] ∧
          ∀ l : Fin 7, s.laneState b.val l.val = 3 → u.laneState b.val l.val = if hasBit (s.bun b.val).initMask l.val then 4 else 5) ∧
      Runs (.capRx t b bits) (fun s => step s ∧ capGood m = true ∧ s.bunState b.val = 4)
        fun s u => took u ∧ u.bunState b.val = runState (s.lanesOf b.val) ∧ u.lanesOf b.val = s.lanesOf b.val

/-- R248, R252 to R254, R256, R258, R271: a shed or a rejoin asked for is due 100 ns later, for a lane in the stream and for one that is out and locked; at its round the marker goes out with the new mask, the lane leaves or joins, and the event is counted and shown. No RETURN for BLIND_TO makes the bundle blind and releases its replay buffer. More than 10 µs without credit is shown. A stop at a packet boundary discards everything queued but GAP packets, and else waits for one; its end lets the bundle go on over its lanes, blind where the return has no lock, or by a burst where they are moored. The model's own readings in it: log entries 18 and 82. -/
def Obligations.LanesAreShedAndRejoinAndBundlesStop : Prop :=
  ∀ (t : Nat) (b : Fin 8),
    let running := fun (s : State) => s.eg.length = 8 ∧ (s.bunState b.val = 2 ∨ s.bunState b.val = 3)
    (∀ (l : Fin 7) (at' : Nat),
      let less := fun (s : State) => laneMask (sevenLanes.filter fun i => hasBit (s.lanesOf b.val) i && i != l.val)
      let more := fun (s : State) => laneMask (sevenLanes.filter fun i => hasBit (s.lanesOf b.val) i || i == l.val)
      Runs (.shedRound t b) (fun s => running s ∧ (s.bun b.val).shedDue = [(l.val, at')] ∧ at' ≤ s.clock.now ∧ less s ≠ 0) (fun s u =>
        u.wire = s.wire ++ [.block b.val 0x33 (less s) [less s, s.roundFrom b.val at' % 2 ^ 48]] ∧ u.lanesOf b.val = less s ∧
          u.bunState b.val = runState (less s) ∧ u.laneState b.val l.val = 5 ∧ (u.bun b.val).shedDue = [] ∧
          u.flag Reg.EG_STATUS Fld.EG_STATUS_SHED = true ∧
          u.f (Reg.EG_BCNT1 b.val) Fld.EG_BCNT1_SHEDS = min (s.f (Reg.EG_BCNT1 b.val) Fld.EG_BCNT1_SHEDS + 1) 65535) ∧
      Runs (.shedRound t b) (fun s => running s ∧ (s.bun b.val).shedDue = [(l.val, at')] ∧ at' ≤ s.clock.now ∧ less s = 0)
        (fun _ u => u.bunState b.val = 1 ∧ u.lanesOf b.val = 0) ∧
      Runs (.rejoinRound t b)
        (fun s => running s ∧ (s.bun b.val).rejoinDue = [(l.val, at')] ∧ at' ≤ s.clock.now ∧ s.laneState b.val l.val = 5) fun s u =>
        u.wire = s.wire ++ [.block b.val 0x4B (more s) [more s, s.roundFrom b.val at' % 2 ^ 48]] ∧ u.lanesOf b.val = more s ∧
          u.bunState b.val = runState (more s) ∧ u.laneState b.val l.val = 4 ∧ (u.bun b.val).rejoinDue = [] ∧
          u.flag Reg.EG_STATUS Fld.EG_STATUS_REJOIN = true ∧
          u.f (Reg.EG_BCNT1 b.val) Fld.EG_BCNT1_REJOINS = min (s.f (Reg.EG_BCNT1 b.val) Fld.EG_BCNT1_REJOINS + 1) 65535) ∧
    (∀ (src : Src) (l : Fin 8),
      Runs (.bundleShedCmd t src b l) (fun s => running s ∧ s.mayManage src = true ∧ l.val < 7 ∧ hasBit (s.lanesOf b.val) l.val = true ∧
          ((s.bun b.val).shedDue.any fun p => p.1 == l.val) = false)
        (fun s u => (u.bun b.val).shedDue = (s.bun b.val).shedDue ++ [(l.val, s.clock.now + 100)] ∧ u.f (Reg.EG_BCTL b.val) Fld.EG_BCTL_LANE = l.val) ∧
      Runs (.bundleShedCmd t src b l) (fun s => s.mayManage src = true ∧ (l.val = 7 ∨ hasBit (s.lanesOf b.val) l.val = false))
        (fun s u => u.eg = s.eg ∧ u.f (Reg.EG_BCTL b.val) Fld.EG_BCTL_LANE = l.val) ∧
      Runs (.bundleRejoinCmd t src b l) (fun s => running s ∧ s.mayManage src = true ∧ l.val < 7 ∧ hasBit (s.bun b.val).lanesOk l.val = true ∧
          s.laneState b.val l.val = 5 ∧ hasBit (s.lanesOf b.val) l.val = false ∧
          ((s.bun b.val).rejoinDue.any fun p => p.1 == l.val) = false)
        (fun s u => (u.bun b.val).rejoinDue = (s.bun b.val).rejoinDue ++ [(l.val, s.clock.now + 100)] ∧ u.f (Reg.EG_BCTL b.val) Fld.EG_BCTL_LANE = l.val) ∧
      Runs (.bundleRejoinCmd t src b l) (fun s => s.mayManage src = true ∧ hasBit (s.bun b.val).lanesOk l.val = false)
        fun s u => u.eg = s.eg ∧ u.f (Reg.EG_BCTL b.val) Fld.EG_BCTL_LANE = l.val) ∧
    Runs (.blindTimeout t b)
      (fun s => running s ∧ (s.bun b.val).lastReturn + max 1 (s.f Reg.EG_CFG Fld.EG_CFG_BLIND_TO) * 100 ≤ s.clock.now) (fun s u =>
      u.bunState b.val = 4 ∧ u.lanesOf b.val = s.lanesOf b.val ∧ (u.bun b.val).replay = [] ∧ (u.bun b.val).due = [] ∧
        (u.bun b.val).feBlind = true ∧ u.flag Reg.EG_STATUS Fld.EG_STATUS_BLIND = true ∧
        u.f (Reg.EG_BSTAT b.val) Fld.EG_BSTAT_REPLAY = 0 ∧
        u.f (Reg.EG_BCNT1 b.val) Fld.EG_BCNT1_BLINDS_REL =
          min (s.f (Reg.EG_BCNT1 b.val) Fld.EG_BCNT1_BLINDS_REL + (s.bun b.val).replay.length) 65535) ∧
    (∀ (isB : Bool) (since : Nat),
      Runs (.creditStallTimeout t b isB) (fun s => s.eg.length = 8 ∧ s.waitsCredit b.val isB = true ∧
          (if isB then (s.bun b.val).stallB else (s.bun b.val).stallN) = some since ∧ since + 10000 < s.clock.now)
        (fun _ u => u.flag Reg.EG_STATUS Fld.EG_STATUS_CREDIT_STALL = true) ∧
      Runs (.creditStallTimeout t b isB) (fun s => s.eg.length = 8 ∧ s.waitsCredit b.val isB = false)
        fun s u => u.regs = s.regs ∧ (if isB then (u.bun b.val).stallB else (u.bun b.val).stallN) = none) ∧
    ∀ src : Src,
      Runs (.bundleStop t src b) (fun s => s.eg.length = 8 ∧ s.mayManage src = true ∧ s.bunActive b.val = true ∧ (s.bun b.val).stream = [] ∧
          (s.bun b.val).freeAt ≤ s.clock.now * 14) (fun _ u =>
        u.flag (Reg.EG_BCTL b.val) Fld.EG_BCTL_STOP = true ∧ u.bunState b.val = 5 ∧ (∀ p ∈ (u.bun b.val).landing, p.ptype = 4) ∧
          (∀ p ∈ (u.bun b.val).ford, p.ptype = 4) ∧ (u.bun b.val).replay = [] ∧ (u.bun b.val).due = []) ∧
      Runs (.bundleStop t src b) (fun s => s.mayManage src = true ∧
          (s.clock.now * 14 < (s.bun b.val).freeAt ∨ s.bunActive b.val = false ∧ (s.bun b.val).stream = []))
        (fun s u => u.flag (Reg.EG_BCTL b.val) Fld.EG_BCTL_STOP = true ∧ u.eg = s.eg ∧ u.bunState b.val = s.bunState b.val) ∧
      Runs (.bundleStopClear t src b) (fun s => s.mayManage src = true ∧ s.bunState b.val ≠ 5)
        (fun s u => u.flag (Reg.EG_BCTL b.val) Fld.EG_BCTL_STOP = false ∧ u.eg = s.eg) ∧
      Runs (.bundleStopClear t src b) (fun s => s.eg.length = 8 ∧ s.mayManage src = true ∧ s.bunState b.val = 5 ∧ s.allMoored b.val = true)
        (fun _ u => u.flag (Reg.EG_BCTL b.val) Fld.EG_BCTL_STOP = false ∧ (u.bun b.val).exitDue = true ∧ u.bunState b.val = 1) ∧
      Runs (.bundleStopClear t src b) (fun s => s.eg.length = 8 ∧ s.mayManage src = true ∧ s.bunState b.val = 5 ∧ s.allMoored b.val = false)
        fun s u => u.flag (Reg.EG_BCTL b.val) Fld.EG_BCTL_STOP = false ∧ u.lanesOf b.val = s.lanesOf b.val ∧ (u.bun b.val).lastReturn = s.clock.now ∧
          u.bunState b.val = if s.flag (Reg.LN_LSTAT b.val 6) Fld.LN_LSTAT_RX_LOCK = true then runState (s.lanesOf b.val) else 4

/-! ## Lanes and ports -/

/-- R259, R260, R271, R273, R274, R282: EN of a released bundle takes its lanes to DETECT, at once to TRAIN where lane 6 is not to be detected, and out of mooring by a burst; before the release only EN changes. Its end takes the lanes to OFF or MOORED and keeps the stream's lanes as the mask of a later CAP; lanes that enter TEST send the patterns that are enabled. A detection step that is due sends a pulse, keeps its result and sets the next one's instant; the second detection in a row of lane 6, or of a port's peer, begins training. The model's own readings in it: log entries 20 and 84. -/
def Obligations.BundlesAreEnabledDisabledAndDetected : Prop :=
  (∀ (t : Nat) (src : Src) (b : Fin 8),
    let fresh := fun (s : State) => s.eg.length = 8 ∧ s.mayManage src = true ∧ s.bunReleased b.val = true ∧ (s.laneState b.val 6 = 0 ∨ s.laneState b.val 6 = 8)
    let en := fun (u : State) => u.flag (Reg.EG_BCTL b.val) Fld.EG_BCTL_EN
    Runs (.bundleEnable t src b) (fun s => fresh s ∧ s.flag (Reg.LN_LCTL b.val 6) Fld.LN_LCTL_DET_SKIP = false) (fun s u =>
      en u = true ∧ u.bunState b.val = 0 ∧ ∀ l : Fin 7, u.laneState b.val l.val = 1 ∧
        ((s.bun b.val).lanes.length = 7 → (u.laneAux b.val l.val).detCount = 0 ∧ (u.laneAux b.val l.val).detAt = s.clock.now)) ∧
    Runs (.bundleEnable t src b) (fun s => fresh s ∧ s.flag (Reg.LN_LCTL b.val 6) Fld.LN_LCTL_DET_SKIP = true) (fun s u =>
      en u = true ∧ u.bunState b.val = 1 ∧ u.laneState b.val 6 = 2 ∧
        u.f (Reg.LN_BSTAT b.val) Fld.LN_BSTAT_TRAINS = min (s.f (Reg.LN_BSTAT b.val) Fld.LN_BSTAT_TRAINS + 1) 65535) ∧
    Runs (.bundleEnable t src b)
      (fun s => s.eg.length = 8 ∧ s.mayManage src = true ∧ s.bunReleased b.val = true ∧ s.allMoored b.val = true ∧ s.bunState b.val = 0)
      (fun _ u => en u = true ∧ (u.bun b.val).exitDue = true ∧ u.bunState b.val = 1) ∧
    Runs (.bundleEnable t src b) (fun s => s.mayManage src = true ∧ s.bunReleased b.val = false)
      (fun s u => en u = true ∧ u.eg = s.eg ∧ ∀ l : Fin 7, u.laneState b.val l.val = s.laneState b.val l.val) ∧
    Runs (.bundleDisable t src b)
      (fun s => s.eg.length = 8 ∧ s.mayManage src = true ∧ s.laneState b.val 6 ≠ 0 ∧ s.laneState b.val 6 ≠ 8 ∧
        ¬ (s.laneState b.val 6 = 6 ∧ s.bunState b.val = 0) ∧ s.flag (Reg.LN_BCTL b.val) Fld.LN_BCTL_TEST = false) (fun s u =>
      en u = false ∧ u.bunState b.val = 0 ∧ u.lanesOf b.val = 0 ∧
        (u.bun b.val).initMask = (if s.bunState b.val < 2 then (s.bun b.val).initMask else s.lanesOf b.val) ∧
        ∀ l : Fin 7, u.laneState b.val l.val = if s.flag (Reg.LN_BCTL b.val) Fld.LN_BCTL_MOOR_DOWN = true then 6 else 0) ∧
    Runs (.bundleDisable t src b)
      (fun s => s.mayManage src = true ∧ s.bunReleased b.val = true ∧ (s.laneState b.val 6 = 0 ∨ s.laneState b.val 6 = 8))
      fun s u => en u = false ∧
        ∀ l : Fin 7, u.laneState b.val l.val = if s.flag (Reg.LN_BCTL b.val) Fld.LN_BCTL_TEST = true then 8
          else if s.laneState b.val 6 = 8 then 0 else s.laneState b.val l.val) ∧
  (∀ (t : Nat) (src : Src) (b : Fin 8), Runs (.bundleDisable t src b)
    (fun s => s.eg.length = 8 ∧ (s.bun b.val).lanes.length = 7 ∧ s.mayManage src = true ∧ s.bunReleased b.val = true ∧ s.laneState b.val 6 = 0 ∧
      s.flag (Reg.LN_BCTL b.val) Fld.LN_BCTL_TEST = true)
    fun s u => ∀ l : Fin 7, (u.laneAux b.val l.val).tx.gen =
      if s.flag (Reg.LN_LTEST b.val l.val) Fld.LN_LTEST_GEN_EN = true then some (s.patternOf (Reg.LN_LTEST b.val l.val)) else none) ∧
  (∀ (t : Nat) (b : Fin 8) (l : Fin 7) (present : Bool),
    let due := fun (s : State) => s.eg.length = 8 ∧ (s.bun b.val).lanes.length = 7 ∧ s.laneState b.val l.val = 1 ∧ (s.laneAux b.val l.val).detAt ≤ s.clock.now
    Runs (.detectStep t (.lane b l) present) due (fun s u =>
      u.wire = s.wire ++ [.detect (.lane b l)] ∧ u.flag (Reg.LN_LSTAT b.val l.val) Fld.LN_LSTAT_DETECTED = present ∧
        (u.laneAux b.val l.val).detCount = (if present then (s.laneAux b.val l.val).detCount + 1 else 0) ∧
        (u.laneAux b.val l.val).detAt = s.clock.now + s.detRetry) ∧
    Runs (.detectStep t (.lane b l) present) (fun s => due s ∧ present = true ∧ l = 6 ∧ 1 ≤ (s.laneAux b.val 6).detCount)
      fun _ u => u.laneState b.val 6 = 2 ∧ u.bunState b.val = 1) ∧
  ∀ (t : Nat) (p : Fin 8) (present : Bool),
    let due := fun (s : State) => s.kf.ports.length = 8 ∧ s.portState p.val = 1 ∧ (s.port p.val).detAt ≤ s.clock.now ∧
      s.flag (Reg.FB_PCTL p.val) Fld.FB_PCTL_DET_SKIP = false
    Runs (.detectStep t (.port p) present) (fun s => due s ∧ (present = false ∨ (s.port p.val).detCount = 0)) (fun s u =>
      u.wire = s.wire ++ [.detect (.port p)] ∧ (u.port p.val).detCount = (if present then 1 else 0) ∧
        (u.port p.val).detAt = s.clock.now + 100000000 ∧ u.portState p.val = 1) ∧
    Runs (.detectStep t (.port p) present) (fun s => due s ∧ present = true ∧ 1 ≤ (s.port p.val).detCount)
      fun s u => u.wire = s.wire ++ [.detect (.port p)] ∧ u.portState p.val = 2

/-- R259, R262 to R265, R267, R283: a valid training frame in TRAIN is answered by one on each lane that trains; its request changes the coefficients by one step where they stay legal and is else refused and flagged; the second one in a row that closes fixes the initial mask and starts the countdown; one with a wrong CHK changes nothing. At the countdown's end the lanes that train enter LOCK, and so does a port. A bring-up that has run out of its time is flagged and counted and begins again at DETECT. The model's own readings in it: log entries 19 and 21. -/
def Obligations.TrainingAndItsTimeouts : Prop :=
  (∀ (t : Nat) (b : Fin 8) (m : TrainMsg),
    let l := trainBits m.field 7 3
    let valid := fun (s : State) => s.eg.length = 8 ∧ (s.bun b.val).lanes.length = 7 ∧ s.laneState b.val 6 = 2 ∧ trainOk m.field = true
    let asks := fun (s : State) => valid s ∧ l < 7 ∧ trainBits m.field 10 2 ≠ 0 ∧ trainBits m.field 12 2 = 0 ∧ s.laneState b.val l = 2 ∧
      (s.laneAux b.val l).preSt = 0
    let step := fun (s : State) => coefStep true (trainBits m.field 10 2) (s.f (Reg.LN_LTXEQ b.val l) Fld.LN_LTXEQ_PRE)
      (min 23 (s.f (Reg.LN_LTXEQ b.val l) Fld.LN_LTXEQ_POST)) (s.f (Reg.LN_LTXEQ b.val l) Fld.LN_LTXEQ_PRE_PRESET)
      (s.f (Reg.LN_LTXEQ b.val l) Fld.LN_LTXEQ_POST_PRESET)
    Runs (.trainingFrameRx t b m) valid (fun s u =>
      (u.wire = s.wire ++ (s.lanesIn b.val 2).map fun l => .train (.lane b (Fin.ofNat 7 l)) (u.laneField b.val l)) ∧
        ∀ l ∈ s.lanesIn b.val 2, (u.laneAux b.val l).tx = (s.laneAux b.val l).tx.frame (u.laneField b.val l)) ∧
    (∀ c : Nat × Nat, Runs (.trainingFrameRx t b m) (fun s => asks s ∧ step s = some c) fun _ u =>
      u.f (Reg.LN_LTXEQ b.val l) Fld.LN_LTXEQ_PRE = c.1 ∧ u.f (Reg.LN_LTXEQ b.val l) Fld.LN_LTXEQ_POST = c.2 ∧ c.1 + c.2 ≤ 28 ∧
        (u.laneAux b.val l).preSt = 1 ∧ (u.laneAux b.val l).postSt = 0) ∧
    Runs (.trainingFrameRx t b m) (fun s => asks s ∧ step s = none) (fun s u =>
      u.reg (Reg.LN_LTXEQ b.val l) = s.reg (Reg.LN_LTXEQ b.val l) ∧ (u.laneAux b.val l).preSt = 2 ∧
        u.flag Reg.LN_STATUS Fld.LN_STATUS_TXEQ_LIMIT = true) ∧
    Runs (.trainingFrameRx t b m)
      (fun s => valid s ∧ trainBits m.field 14 1 = 1 ∧ trainBits m.field 0 7 ≠ 0 ∧ 1 ≤ (s.bun b.val).closes ∧ (s.bun b.val).countEnd = none) (fun s u =>
      (u.bun b.val).initMask = trainBits m.field 0 7 ∧ (u.bun b.val).countEnd = some (s.clock.now + countdownNs) ∧
        ∀ i : Fin 7, u.flag (Reg.LN_LSTAT b.val i.val) Fld.LN_LSTAT_READY = hasBit (trainBits m.field 0 7) i.val) ∧
    Runs (.trainingFrameRx t b m) (fun s => valid s ∧ l < 7 ∧ s.laneState b.val l ≠ 2) (fun s u =>
      u.reg (Reg.LN_LTXEQ b.val l) = s.reg (Reg.LN_LTXEQ b.val l) ∧ (u.laneAux b.val l).preSt = (s.laneAux b.val l).preSt) ∧
    Runs (.trainingFrameRx t b m) (fun s => s.laneState b.val 6 ≠ 2 ∨ trainOk m.field = false) fun s u => u = s) ∧
  (∀ (t e : Nat) (b : Fin 8), Runs (.countdownEnd t (.bundle b))
    (fun s => s.eg.length = 8 ∧ s.laneState b.val 6 = 2 ∧ (s.bun b.val).countEnd = some e ∧ e ≤ s.clock.now) fun s u =>
    (u.bun b.val).countEnd = none ∧ (u.bun b.val).since = s.clock.now ∧
      ∀ l : Fin 7, u.laneState b.val l.val = if s.laneState b.val l.val = 2 then 3 else s.laneState b.val l.val) ∧
  (∀ (t e : Nat) (p : Fin 8), Runs (.countdownEnd t (.port p))
    (fun s => s.kf.ports.length = 8 ∧ s.portState p.val = 2 ∧ (s.port p.val).countEnd = some e ∧ e ≤ s.clock.now) fun s u =>
    u.portState p.val = 3 ∧ (u.port p.val).countEnd = none ∧ (u.port p.val).locked = false ∧ (u.port p.val).since = s.clock.now) ∧
  ∀ (t e : Nat) (b : Fin 8),
    let seen := fun (s : State) => s.eg.length = 8 ∧ s.flag (Reg.LN_LCTL b.val 6) Fld.LN_LCTL_DET_SKIP = false
    let again := fun (f : Field) (s u : State) => u.flag Reg.LN_STATUS f = true ∧ u.bunState b.val = 0 ∧ (∀ l : Fin 7, u.laneState b.val l.val = 1) ∧
      u.f (Reg.LN_BSTAT b.val) Fld.LN_BSTAT_TIMEOUTS = min (s.f (Reg.LN_BSTAT b.val) Fld.LN_BSTAT_TIMEOUTS + 1) 65535
    Runs (.trainTimeout t b) (fun s => seen s ∧ s.laneState b.val 6 = 2 ∧
        (s.bun b.val).since + max 1 (s.f Reg.LN_CFG Fld.LN_CFG_TRAIN_TO) * 1000000 ≤ s.clock.now) (again Fld.LN_STATUS_TRAIN_TO) ∧
    Runs (.lockTimeout t b) (fun s => seen s ∧ s.laneState b.val 6 = 3 ∧ s.flag (Reg.LN_LSTAT b.val 6) Fld.LN_LSTAT_RX_LOCK = false ∧
        (s.bun b.val).since + max 1 (s.f Reg.LN_CFG Fld.LN_CFG_LOCK_TO) * 10000 ≤ s.clock.now) (again Fld.LN_STATUS_LOCK_TO) ∧
    Runs (.capTimeout t b) (fun s => seen s ∧ s.laneState b.val 6 = 3 ∧ (s.bun b.val).lockAt = some e ∧
        e + max 1 (s.f Reg.LN_CFG Fld.LN_CFG_CAP_TO) * 1000000 ≤ s.clock.now) (again Fld.LN_STATUS_CAP_TO)

/-- R254, R261, R266 to R268, R282: frame lock of a training return is kept, and its receiver is frozen without it; block lock of a return that locks starts the capability step and thaws the receiver, and a blind bundle's begins it again; its loss is counted and shown, freezes the receiver and makes a running bundle blind. The device sees no other lane's lock. A port's block lock, with a HELLO received, brings the port UP; its loss is counted and takes a port that was UP back to DETECT. -/
def Obligations.LocksAreGainedAndLost : Prop :=
  (∀ (t : Nat) (b : Fin 8) (l : Fin 7), l ≠ 6 →
    Runs (.frameLockGain t (.lane b l)) (fun _ => True) (fun s u => u = s) ∧ Runs (.frameLockLoss t (.lane b l)) (fun _ => True) (fun s u => u = s) ∧
    Runs (.blockLockGain t (.lane b l)) (fun _ => True) (fun s u => u = s) ∧ Runs (.blockLockLoss t (.lane b l)) (fun _ => True) fun s u => u = s) ∧
  (∀ (t : Nat) (b : Fin 8),
    let locked := fun (s : State) => s.flag (Reg.LN_LSTAT b.val 6) Fld.LN_LSTAT_RX_LOCK
    let frozen := fun (s : State) => s.flag (Reg.LN_LSTAT b.val 6) Fld.LN_LSTAT_FROZEN
    Runs (.frameLockGain t (.lane b 6)) (fun s => s.eg.length = 8 ∧ s.laneState b.val 6 = 2)
      (fun _ u => (u.bun b.val).frameLock = true ∧ frozen u = false) ∧
    Runs (.frameLockLoss t (.lane b 6)) (fun s => s.eg.length = 8 ∧ s.laneState b.val 6 = 2)
      (fun _ u => (u.bun b.val).frameLock = false ∧ frozen u = true) ∧
    Runs (.blockLockGain t (.lane b 6)) (fun s => s.eg.length = 8 ∧ locked s = false ∧ s.laneState b.val 6 = 3)
      (fun s u => locked u = true ∧ frozen u = false ∧ (u.bun b.val).lockAt = some s.clock.now ∧ (u.bun b.val).capAt = s.clock.now) ∧
    Runs (.blockLockGain t (.lane b 6)) (fun s => s.eg.length = 8 ∧ locked s = false ∧ s.laneState b.val 6 = 4 ∧ s.bunState b.val = 4)
      (fun s u => locked u = true ∧ frozen u = false ∧ (u.bun b.val).capStep = true ∧ (u.bun b.val).capAt = s.clock.now) ∧
    Runs (.blockLockLoss t (.lane b 6)) (fun s => s.eg.length = 8 ∧ locked s = true) (fun s u =>
      locked u = false ∧ frozen u = true ∧ (u.bun b.val).lockAt = none ∧ u.flag Reg.LN_STATUS Fld.LN_STATUS_LOCK_LOSS = true ∧
        u.f (Reg.LN_LCNT b.val 6) Fld.LN_LCNT_LOCK_LOSS = min (s.f (Reg.LN_LCNT b.val 6) Fld.LN_LCNT_LOCK_LOSS + 1) 65535 ∧
        u.bunState b.val = if s.bunState b.val = 2 ∨ s.bunState b.val = 3 then 4 else s.bunState b.val) ∧
    Runs (.blockLockLoss t (.lane b 6)) (fun s => locked s = false) fun s u => u = s) ∧
  ∀ (t : Nat) (p : Fin 8),
    let has := fun (s : State) => s.kf.ports.length = 8
    Runs (.frameLockGain t (.port p)) (fun s => has s ∧ s.portState p.val = 2) (fun s u => (u.port p.val).frameLock = true ∧ u.regs = s.regs) ∧
    Runs (.frameLockLoss t (.port p)) (fun s => has s ∧ s.portState p.val = 2) (fun s u => (u.port p.val).frameLock = false ∧ u.regs = s.regs) ∧
    Runs (.blockLockGain t (.port p)) (fun s => has s ∧ 2 ≤ s.portState p.val ∧ s.portState p.val ≤ 4) (fun s u =>
      (u.port p.val).locked = true ∧
        u.portState p.val = if s.portState p.val = 3 ∧ (s.port p.val).gotHello = true then 4 else s.portState p.val) ∧
    Runs (.blockLockLoss t (.port p)) (fun s => has s ∧ (s.port p.val).locked = true) (fun s u =>
      (u.port p.val).locked = false ∧
        u.f (Reg.FB_PCNT p.val) Fld.FB_PCNT_LOCK_LOSS = min (s.f (Reg.FB_PCNT p.val) Fld.FB_PCNT_LOCK_LOSS + 1) 65535 ∧
        u.portState p.val = if s.portState p.val = 4 then (if s.flag (Reg.FB_PCTL p.val) Fld.FB_PCTL_DET_SKIP = true then 2 else 1)
          else s.portState p.val) ∧
    Runs (.blockLockLoss t (.port p)) (fun s => (s.port p.val).locked = false) fun s u => u = s

/-- R269 to R271: a lane that is out sends its burst of 27 frames at the instant at which it ends before an ALIGN round, and counts it; after the retry time it wants another. A stopped bundle under MOOR_STOP moors whole after its ALIGN round, else the lanes that are out with HOLD moor; a bundle-wide exit sends a burst on all seven lanes, and a single lane whose HOLD is 0 one of its own. At its end the lanes of a bundle-wide burst enter LOCK, and a single lane is out again with a retry due. -/
def Obligations.BurstsAndMooring : Prop :=
  ∀ (t : Nat) (b : Fin 8),
    let has := fun (s : State) => s.eg.length = 8 ∧ (s.bun b.val).lanes.length = 7
    let bursts := fun (l : Nat) (s u : State) => u.laneState b.val l = 7 ∧ (u.laneAux b.val l).burstEnd = some (s.clock.now + blocksNs 432)
    let retrains := fun (l : Nat) (s u : State) =>
      u.f (Reg.LN_LSTAT b.val l) Fld.LN_LSTAT_RETRAINS = min (s.f (Reg.LN_LSTAT b.val l) Fld.LN_LSTAT_RETRAINS + 1) 65535
    let whole := fun (s : State) => s.bunState b.val = 5 ∧ s.flag (Reg.LN_BCTL b.val) Fld.LN_BCTL_MOOR_STOP = true ∧
      ∃ r, (s.bun b.val).moorRound = some r ∧ r < (s.bun b.val).round
    (∀ (l : Fin 7) (at' : Nat),
      Runs (.retrainBurst t b l) (fun s => has s ∧ s.laneState b.val l.val = 5 ∧ s.streams b.val = true ∧
          (s.laneAux b.val l.val).burstFrom = some at' ∧ s.burstStart b.val at' ≤ s.clock.now)
        (fun s u => bursts l.val s u ∧ retrains l.val s u ∧ u.wire = s.wire ++ [.burst b.val l.val 27] ∧
          (u.laneAux b.val l.val).tx = (List.range 27).foldl (fun x k => x.frame (s.fieldWith b.val l.val 1 (26 - k))) (s.laneAux b.val l.val).tx) ∧
      Runs (.retrainBurst t b l) (fun s => (s.laneAux b.val l.val).burstFrom = none) (fun s u => u = s) ∧
      Runs (.rejoinRetryTimeout t b l) (fun s => has s ∧ s.laneState b.val l.val = 5 ∧ (s.laneAux b.val l.val).retryAt = some at' ∧ at' ≤ s.clock.now)
        (fun s u => (u.laneAux b.val l.val).burstFrom = some s.clock.now ∧ (u.laneAux b.val l.val).retryAt = none ∧ u.regs = s.regs) ∧
      Runs (.moorExit t b)
        (fun s => has s ∧ (s.bun b.val).exitDue = false ∧ s.streams b.val = true ∧ s.allMoored b.val = false ∧ s.laneState b.val l.val = 6 ∧
          s.flag (Reg.LN_LCTL b.val l.val) Fld.LN_LCTL_HOLD = false ∧
          s.burstStart b.val ((s.laneAux b.val l.val).burstFrom.getD s.clock.now) ≤ s.clock.now)
        (fun s u => bursts l.val s u ∧ retrains l.val s u) ∧
      Runs (.burstEnd t b) (fun s => has s ∧ s.laneState b.val l.val = 7 ∧ (s.laneAux b.val l.val).burstEnd = some at' ∧ at' ≤ s.clock.now) fun s u =>
        u.laneState b.val l.val = (if s.bunState b.val = 1 then 3 else 5) ∧ (u.laneAux b.val l.val).burstEnd = none ∧
          (s.bunState b.val ≠ 1 → (u.laneAux b.val l.val).retryAt = some (s.clock.now + max 1 (s.f Reg.LN_CFG Fld.LN_CFG_REJOIN_RETRY) * 100000)) ∧
          (s.bunState b.val = 1 → (u.bun b.val).since = s.clock.now ∧ (u.bun b.val).capAt = s.clock.now ∧
            (u.bun b.val).lockAt = (if s.flag (Reg.LN_LSTAT b.val 6) Fld.LN_LSTAT_RX_LOCK = true then some s.clock.now else none) ∧
            u.flag (Reg.LN_LSTAT b.val 6) Fld.LN_LSTAT_FROZEN = !s.flag (Reg.LN_LSTAT b.val 6) Fld.LN_LSTAT_RX_LOCK)) ∧
    Runs (.laneMoor t b) (fun s => has s ∧ whole s) (fun s u =>
      (∀ l : Fin 7, u.laneState b.val l.val = 6) ∧ (u.bun b.val).initMask = s.lanesOf b.val ∧ (u.bun b.val).moorRound = none ∧
        u.flag (Reg.LN_LSTAT b.val 6) Fld.LN_LSTAT_FROZEN = true ∧ hasBit (u.f Reg.LN_STATUS Fld.LN_STATUS_MOORED) b.val = true) ∧
    Runs (.laneMoor t b) (fun s => has s ∧ ¬ whole s) (fun s u => ∀ l : Fin 7, u.laneState b.val l.val =
      if s.laneState b.val l.val = 5 ∧ s.flag (Reg.LN_LCTL b.val l.val) Fld.LN_LCTL_HOLD = true then 6 else s.laneState b.val l.val) ∧
    Runs (.moorExit t b) (fun s => has s ∧ (s.bun b.val).exitDue = true) fun s u =>
      (∀ l : Fin 7, bursts l.val s u) ∧ u.wire = s.wire ++ (sevenLanes.map fun l => .burst b.val l 27) ∧ u.bunState b.val = 1 ∧
        (u.bun b.val).exitDue = false ∧ (u.bun b.val).lockAt = none ∧
        u.f (Reg.LN_BSTAT b.val) Fld.LN_BSTAT_EXITS = min (s.f (Reg.LN_BSTAT b.val) Fld.LN_BSTAT_EXITS + 1) 65535

/-- R273, R275, R276, R280: coefficients written whose sum, with POST of at most 23, is above 28 are left as they were and flagged; an injection that acts in the lane's state is sent with its count of 1 to 64, and inverted pattern bits count in the lane's own locked checker; an enabled checker that locks counts from then on; where it loses lock, its errors and bits are kept and shown. The model's own readings in it: log entry 21. -/
def Obligations.CoefficientsInjectionsAndCheckers : Prop :=
  let has := fun (k : LaneId) (s : State) =>
    match k with
    | .lane b _ => s.eg.length = 8 ∧ (s.bun b.val).lanes.length = 7
    | .port _ => s.kf.ports.length = 8
  (∀ (t : Nat) (src : Src) (b : Fin 8) (l : Fin 7) (val : Word) (d : RegDef), regAt (Reg.LN_LTXEQ b.val l.val) = some d →
    let sum := Fld.LN_LTXEQ_PRE.get val + min 23 (Fld.LN_LTXEQ_POST.get val)
    Runs (.txeqWrite t src b l val) (fun s => s.mayManage src = true ∧ sum ≤ 28)
      (fun s u => u.reg (Reg.LN_LTXEQ b.val l.val) = writtenWord d (s.reg (Reg.LN_LTXEQ b.val l.val)) val ∧ u.eg = s.eg ∧
        ∀ a, a ≠ Reg.LN_LTXEQ b.val l.val → u.reg a = s.reg a) ∧
    Runs (.txeqWrite t src b l val) (fun s => s.mayManage src = true ∧ 28 < sum) fun s u =>
      u.f (Reg.LN_LTXEQ b.val l.val) Fld.LN_LTXEQ_PRE = s.f (Reg.LN_LTXEQ b.val l.val) Fld.LN_LTXEQ_PRE ∧
        u.f (Reg.LN_LTXEQ b.val l.val) Fld.LN_LTXEQ_POST = s.f (Reg.LN_LTXEQ b.val l.val) Fld.LN_LTXEQ_POST ∧
        u.flag Reg.LN_STATUS Fld.LN_STATUS_TXEQ_LIMIT = true) ∧
  (∀ (t : Nat) (src : Src) (k : LaneId) (val : Word),
    let kind := Fld.LN_LINJ_KIND.get val
    let count := max 1 (min 64 (Fld.LN_LINJ_COUNT.get val))
    let looped := fun (s : State) => kind = 0 ∧ s.flag (testReg k) Fld.LN_LTEST_GEN_EN = true ∧ s.f (testReg k) Fld.LN_LTEST_CHK_SRC = 0 ∧
      s.flag (perrReg k) Fld.LN_LPERR_LOCKED = true
    Runs (.errorInject t src k val) (fun s => s.mayManage src = true ∧ s.injects k kind = true)
      (fun s u => u.wire = s.wire ++ [.inject k kind count]) ∧
    Runs (.errorInject t src k val) (fun s => s.mayManage src = true ∧ s.injects k kind = true ∧ looped s)
      (fun s u => u.f (perrReg k) Fld.LN_LPERR_ERRORS = min (s.f (perrReg k) Fld.LN_LPERR_ERRORS + count) (2 ^ 32 - 1) ∧
        u.flag Reg.LN_STATUS Fld.LN_STATUS_PRBS_ERR = true) ∧
    Runs (.errorInject t src k val) (fun s => s.mayManage src = true ∧ s.injects k kind = true ∧ ¬ looped s) (fun s u => u.regs = s.regs) ∧
    Runs (.errorInject t src k val) (fun s => has k s ∧ s.mayManage src = true ∧ s.injects k kind = true) (fun s u =>
      u.laneTx k = if kind = 0 then (s.laneTx k).flip s.clock.now count else { s.laneTx k with injKind := kind, injLeft := count }) ∧
    Runs (.errorInject t src k val) (fun s => s.injects k kind = false) fun s u => u = s) ∧
  ∀ (t errors : Nat) (k : LaneId),
    let has := has k
    Runs (.checkerLock t k)
      (fun s => has s ∧ s.flag (testReg k) Fld.LN_LTEST_CHK_EN = true ∧ s.flag (perrReg k) Fld.LN_LPERR_LOCKED = false) (fun s u =>
      u.flag (perrReg k) Fld.LN_LPERR_LOCKED = true ∧ u.chkAt k = some s.clock.now ∧
        u.f (perrReg k) Fld.LN_LPERR_ERRORS = s.f (perrReg k) Fld.LN_LPERR_ERRORS) ∧
    Runs (.checkerLock t k) (fun s => s.flag (testReg k) Fld.LN_LTEST_CHK_EN = false) (fun s u => u = s) ∧
    Runs (.checkerLockLoss t k errors) (fun s => has s ∧ s.flag (perrReg k) Fld.LN_LPERR_LOCKED = true) (fun s u =>
      u.flag (perrReg k) Fld.LN_LPERR_LOCKED = false ∧ u.chkAt k = none ∧ u.reg (pbitsReg k) = s.bitsNow k ∧
        u.f (perrReg k) Fld.LN_LPERR_ERRORS = min (s.f (perrReg k) Fld.LN_LPERR_ERRORS + errors) (2 ^ 32 - 1) ∧
        (errors ≠ 0 → u.flag Reg.LN_STATUS Fld.LN_STATUS_PRBS_ERR = true)) ∧
    Runs (.checkerLockLoss t k errors) (fun s => s.flag (perrReg k) Fld.LN_LPERR_LOCKED = false) fun s u => u = s

/-! ## The fabric -/

/-- R264, R282 to R287: a port's valid training frame tells the peer's port, may change the coefficients by one step, is answered by one frame, and starts the countdown where the receiver is ready at the second CLOSE in a row; one with a wrong CHK changes nothing. A port whose TRAIN or LOCK has run out of its time begins again at DETECT. A HELLO goes out every 1 ms in LOCK and UP; one that arrives names the peer, brings a locked port UP, and begins or ends the adjacency, which ends after 3 ms without one too; a change makes a new LSA due and is flagged. The model's own readings in it: log entry 19. -/
def Obligations.PortsTrainAndKnowTheirNeighbours : Prop :=
  ∀ (t : Nat) (p : Fin 8),
    let has := fun (s : State) => s.kf.ports.length = 8
    let fresh := fun (s : State) => if s.flag (Reg.FB_PCTL p.val) Fld.FB_PCTL_DET_SKIP = true then 2 else 1
    let adj := fun (s : State) => s.flag (Reg.FB_PSTAT p.val) Fld.FB_PSTAT_ADJ
    (∀ m : TrainMsg,
      let valid := fun (s : State) => has s ∧ s.portState p.val = 2 ∧ trainOk m.field = true
      let asks := fun (s : State) => valid s ∧ trainBits m.field 20 2 ≠ 0 ∧ trainBits m.field 22 2 = 0 ∧ (s.port p.val).preSt = 0
      let step := fun (s : State) => coefStep true (trainBits m.field 20 2) (s.f (Reg.FB_PSTAT p.val) Fld.FB_PSTAT_PRE)
        (s.f (Reg.FB_PSTAT p.val) Fld.FB_PSTAT_POST) 4 12
      Runs (.portTrainingFrameRx t p m) valid (fun s u => u.f (Reg.FB_PSTAT p.val) Fld.FB_PSTAT_PEER_PORT = trainBits m.field 0 3 ∧
        (∃ v, u.wire = s.wire ++ [.train (.port p) v]) ∧
        (u.port p.val).ready = ((s.port p.val).ready || m.ownReady) ∧
        (trainBits m.field 4 1 = 1 → 1 ≤ (s.port p.val).closes → (s.port p.val).countEnd = none → m.ownReady = true →
          (u.port p.val).countEnd = some (s.clock.now + countdownNs)) ∧
        (trainBits m.field 4 1 = 0 → (u.port p.val).closes = 0 ∧ (u.port p.val).countEnd = (s.port p.val).countEnd)) ∧
      (∀ c : Nat × Nat, Runs (.portTrainingFrameRx t p m) (fun s => asks s ∧ step s = some c) fun _ u =>
        u.f (Reg.FB_PSTAT p.val) Fld.FB_PSTAT_PRE = c.1 ∧ u.f (Reg.FB_PSTAT p.val) Fld.FB_PSTAT_POST = c.2 ∧ c.1 + c.2 ≤ 28 ∧
          (u.port p.val).preSt = 1) ∧
      Runs (.portTrainingFrameRx t p m) (fun s => asks s ∧ step s = none) (fun s u =>
        u.f (Reg.FB_PSTAT p.val) Fld.FB_PSTAT_PRE = s.f (Reg.FB_PSTAT p.val) Fld.FB_PSTAT_PRE ∧ (u.port p.val).preSt = 2 ∧
          u.flag Reg.LN_STATUS Fld.LN_STATUS_TXEQ_LIMIT = true) ∧
      Runs (.portTrainingFrameRx t p m) (fun s => s.portState p.val ≠ 2 ∨ trainOk m.field = false) fun s u => u = s) ∧
    Runs (.portTrainTimeout t p) (fun s => has s ∧ s.portState p.val = 2 ∧ (s.port p.val).since + 50000000 ≤ s.clock.now)
      (fun s u => u.portState p.val = fresh s ∧ (u.port p.val).since = s.clock.now ∧ (u.port p.val).countEnd = none) ∧
    Runs (.portTrainTimeout t p) (fun s => s.portState p.val ≠ 2 ∨ s.clock.now < (s.port p.val).since + 50000000) (fun s u => u = s) ∧
    Runs (.portLockTimeout t p) (fun s => has s ∧ s.portState p.val = 3 ∧ (s.port p.val).since + 10000000 ≤ s.clock.now)
      (fun s u => u.portState p.val = fresh s ∧ (u.port p.val).since = s.clock.now ∧ (u.port p.val).locked = false) ∧
    Runs (.portLockTimeout t p) (fun s => s.portState p.val ≠ 3 ∨ s.clock.now < (s.port p.val).since + 10000000) (fun s u => u = s) ∧
    Runs (.helloSend t p) (fun s => has s ∧ (s.portState p.val = 3 ∨ s.portState p.val = 4) ∧ (s.port p.val).helloAt ≤ s.clock.now) (fun s u =>
      u.wire = s.wire ++ [.fabric p.val 0x3C (s.helloWords p.val)] ∧ (u.port p.val).hseq = ((s.port p.val).hseq + 1) % 2 ^ 16 ∧
        (u.port p.val).helloAt = s.clock.now + 1000000 ∧ u.regs = s.regs) ∧
    (∀ m : HelloMsg,
      let heard := fun (s : State) => has s ∧ (s.portState p.val = 3 ∨ s.portState p.val = 4) ∧ (s.port p.val).locked = true
      Runs (.helloRx t p m) (fun s => heard s ∧ m.crcOk = false) (fun s u => u.kf = s.kf ∧
        u.f (Reg.FB_PCNT p.val) Fld.FB_PCNT_CRC_ERR = min (s.f (Reg.FB_PCNT p.val) Fld.FB_PCNT_CRC_ERR + 1) 65535) ∧
      Runs (.helloRx t p m) (fun s => heard s ∧ m.crcOk = true) (fun _ u => u.portState p.val = 4 ∧
        u.f (Reg.FB_PSTAT p.val) Fld.FB_PSTAT_PEER_PORT = m.port.val ∧ (u.port p.val).peer = some m.devid ∧ (u.port p.val).gotHello = true) ∧
      Runs (.helloRx t p m) (fun s => heard s ∧ m.crcOk = true ∧ m.adj = true ∧ adj s = false ∧
          ∃ x, (s.port p.val).hellos.getLast? = some x ∧ s.clock.now ≤ x + 3000000)
        (fun _ u => adj u = true ∧ u.kf.lsaDue = true ∧ u.flag Reg.FB_STATUS Fld.FB_STATUS_TOPO_CHG = true) ∧
      Runs (.helloRx t p m) (fun s => heard s ∧ m.crcOk = true ∧ m.adj = false ∧ adj s = true)
        (fun _ u => adj u = false ∧ u.kf.lsaDue = true ∧ u.flag Reg.FB_STATUS Fld.FB_STATUS_TOPO_CHG = true) ∧
      Runs (.helloRx t p m) (fun s => (s.port p.val).locked = false) fun s u => u = s) ∧
    ∀ x : Nat,
      Runs (.adjacencyTimeout t p) (fun s => (s.port p.val).hellos.getLast? = some x ∧ x + 3000000 ≤ s.clock.now ∧ adj s = true)
        (fun _ u => adj u = false ∧ u.kf.lsaDue = true ∧ u.flag Reg.FB_STATUS Fld.FB_STATUS_TOPO_CHG = true) ∧
      Runs (.adjacencyTimeout t p) (fun s => (s.port p.val).hellos.getLast? = some x ∧ s.clock.now < x + 3000000) fun s u => u = s

/-- R284, R285, R288 to R290: a packet with a wrong CRC on an UP port is only counted, and a port that is not UP takes none. The device floods its own LSA with the next number on every UP port, when one is due and every 100 ms; a newer LSA is kept and forwarded on the other UP ports with one hop more, an older one discarded, and one not renewed for 400 ms deleted. The root assigns addresses every 100 ms and when the set has changed; a newer ASSIGN of the root comes into force, with this device's own address, and is forwarded along the tree. The model's own readings in it: log entry 23. -/
def Obligations.LinkStatesFloodAndAddressesAreAssigned : Prop :=
  (∀ (t : Nat) (p : Fin 8) (c : Instr),
    ((∃ m : LsaMsg, c = .lsaRx t p m ∧ m.crcOk = false) ∨ (∃ m : AssignMsg, c = .assignRx t p m ∧ m.crcOk = false) ∨
      (∃ m : TimeMsg, c = .timeRx t p m ∧ m.crcOk = false) ∨ (∃ m : TrigMsg, c = .trigRx t p m ∧ m.crcOk = false) ∨
      (∃ m : ShareMsg, c = .shareRx t p m ∧ m.crcOk = false) ∨ ∃ m : MgmtMsg, c = .mgmtRx t p m ∧ m.crcOk = false) →
    Runs c (fun s => s.portState p.val = 4) (fun s u =>
      u.f (Reg.FB_PCNT p.val) Fld.FB_PCNT_CRC_ERR = min (s.f (Reg.FB_PCNT p.val) Fld.FB_PCNT_CRC_ERR + 1) 65535 ∧ u.kf = s.kf ∧ u.wire = s.wire) ∧
    Runs c (fun s => s.portState p.val ≠ 4) fun s u => u = s) ∧
  (∀ t : Nat,
    Runs (.lsaSend t) (fun s => s.boot.inReset = false ∧ (s.kf.lsaDue = true ∨ s.kf.lsaAt ≤ s.clock.now)) (fun s u =>
      let kf := { s.kf with lsaSeq := (s.kf.lsaSeq + 1) % 2 ^ 32, lsaDue := false, lsaAt := s.clock.now + 100000000, hint := s.reg Reg.FB_CFG }
      let own := ({ s with kf := kf } : State).ownLsa
      u.wire = s.wire ++ (s.upPorts.map fun q => .fabric q 0xE1 (fhdr 1 own.src.val 0xFFF own.hops (lsaLen own) 0 0 ++ lsaPayload own)) ∧
        u.kf.lsaSeq = (s.kf.lsaSeq + 1) % 2 ^ 32 ∧ u.kf.lsaDue = false ∧ u.kf.lsaAt = s.clock.now + 100000000 ∧ u.kf.hint = s.reg Reg.FB_CFG) ∧
    Runs (.lsaSend t) (fun s => s.kf.lsaDue = false ∧ s.clock.now < s.kf.lsaAt) fun s u => u = s) ∧
  (∀ (t : Nat) (p : Fin 8) (m : LsaMsg), m.crcOk = true →
    let flood := fun (s : State) => (s.upPorts.filter (· != p.val)).map fun q =>
      Wire.fabric q 0xE1 (fhdr 1 m.src.val 0xFFF (m.hops + 1) (lsaLen m) 0 0 ++ lsaPayload m)
    Runs (.lsaRx t p m) (fun s => s.portState p.val = 4 ∧ s.lsaNewer m = true ∧ s.kf.db.length < 63) (fun s u =>
      u.kf.db = (s.kf.db.filter fun e => e.msg.devid != m.devid) ++ [⟨m, s.clock.now⟩] ∧
        u.wire = s.wire ++ if m.hops < 8 then flood s else []) ∧
    Runs (.lsaRx t p m) (fun s => s.portState p.val = 4 ∧ s.lsaNewer m = false) fun s u => u = s) ∧
  (∀ (t : Nat) (d : Word),
    let old := fun (s : State) => s.kf.db.any fun e => e.msg.devid == d && decide (e.at' + 400000000 ≤ s.clock.now)
    Runs (.lsaExpiry t d) (fun s => old s = true ∧ s.kf.db.length < 64) (fun s u => u.kf.db = s.kf.db.filter fun e => e.msg.devid != d) ∧
    Runs (.lsaExpiry t d) (fun s => old s = false) fun s u => u = s) ∧
  (∀ t : Nat,
    Runs (.assignSend t) (fun s => s.boot.inReset = false ∧ s.isRoot = true ∧ (s.kf.assignDue = true ∨ s.kf.assignAt ≤ s.clock.now)) (fun s u =>
      let e := assignments s.fabricDevices
      let seq := (s.kf.assignSeq + 1) % 2 ^ 32
      u.kf.addrs = e ∧ u.kf.assignSeq = seq ∧ u.kf.assignDue = false ∧ u.kf.assignAt = s.clock.now + 100000000 ∧
        u.wire = s.wire ++ s.treePorts.map fun q => .fabric q 0xE1 (fhdr 2 u.fabAddr 0xFFF 0 (8 + 16 * e.length) 0 0 ++
          (seq % 2 ^ 32 + e.length * 2 ^ 32) :: e.flatMap fun x => [x.1.toNat, x.2])) ∧
    Runs (.assignSend t) (fun s => s.isRoot = false) fun s u => u = s) ∧
  ∀ (t : Nat) (p : Fin 8) (m : AssignMsg), m.crcOk = true →
    Runs (.assignRx t p m) (fun s => s.portState p.val = 4 ∧ s.assignNewer m = true) (fun s u =>
      u.kf.addrs = m.entries ∧ u.kf.gotAssign = some (s.reg Reg.FB_ROOT, m.seq % 2 ^ 32) ∧
        (∀ a : Nat, (m.entries.find? fun e => e.1 == s.devid) = some (s.devid, a) →
          u.fabAddr = a % 4096 ∧ u.flag Reg.FB_STATUS Fld.FB_STATUS_ADDR_VALID = true) ∧
        u.wire = s.wire ++ if m.hops < 8 then (s.treePorts.filter (· != p.val)).map fun q => .fabric q 0xE1
          (fhdr 2 m.src.val 0xFFF (m.hops + 1) (8 + 16 * m.entries.length) 0 0 ++
            (m.seq % 2 ^ 32 + m.entries.length * 2 ^ 32) :: m.entries.flatMap fun x => [x.1.toNat, x.2]) else []) ∧
    Runs (.assignRx t p m) (fun s => s.portState p.val = 4 ∧ s.assignNewer m = false) fun s u => u = s

/-- R293, R294, R297, R298: an UP port sends a TIME block every 100 µs with its number and the echo of the last one received; one that answers a block sent no more than 1 s before gives the link's delay, and on the parent port of a device that is no root the offset, which is slewed up to 1 µs. A broadcast of software, where the device is an origin, goes out twice on each tree port, counts, and reaches the own timetable a tick later; one that arrives for the first time is kept, counted and forwarded with one hop more, and one seen before is only counted. The model's own readings in it: log entries 22, 24 and 62. -/
def Obligations.FabricTimeAndTriggerBroadcasts : Prop :=
  (∀ (t : Nat) (p : Fin 8),
    let due := fun (s : State) => s.kf.ports.length = 8 ∧ s.portState p.val = 4 ∧ (s.port p.val).timeAt ≤ s.clock.now
    (∀ e : Nat × Nat, Runs (.timeSend t p) (fun s => due s ∧ (s.port p.val).lastRx = some e) fun s u =>
      u.wire = s.wire ++ [.fabric p.val 0x66 (timeWords p.val (s.port p.val).tseq e.1 s.fineNow e.2)] ∧
        (u.port p.val).tseq = ((s.port p.val).tseq + 1) % 2 ^ 16 ∧ (u.port p.val).timeAt = s.clock.now + 100000 ∧
        (u.port p.val).sent = ((s.port p.val).sent ++ [((s.port p.val).tseq, s.fineNow)]).drop ((s.port p.val).sent.length - 15)) ∧
    Runs (.timeSend t p) (fun s => due s ∧ (s.port p.val).lastRx = none) (fun s u =>
      (∃ a b, u.wire = s.wire ++ [.fabric p.val 0x66 (timeWords p.val (s.port p.val).tseq a s.fineNow b)]) ∧
        (u.port p.val).tseq = ((s.port p.val).tseq + 1) % 2 ^ 16 ∧ (u.port p.val).timeAt = s.clock.now + 100000) ∧
    ∀ m : TimeMsg, m.crcOk = true →
      let match' := fun (s : State) => (s.port p.val).sent.find? fun e => e.1 == m.echoSeq.val && decide (centred 80 ((m.rxFine : Int) - e.2) ≤ 65536000000)
      let up := fun (s : State) => s.kf.ports.length = 8 ∧ s.portState p.val = 4
      let parent := fun (s : State) => s.isRoot = false ∧ s.flag Reg.FB_TSTAT Fld.FB_TSTAT_PARENT_VALID = true ∧
        s.f Reg.FB_TSTAT Fld.FB_TSTAT_PARENT = p.val
      Runs (.timeRx t p m) (fun s => up s ∧ match' s = none) (fun s u =>
        (u.port p.val).lastRx = some (m.tseq.val, m.rxFine) ∧ u.regs = s.regs ∧ u.clock = s.clock) ∧
      ∀ e : Nat × Nat,
        let o := fun (s : State) => timeOffset e.2 m.echoFine m.txFine m.rxFine (Fld.FB_PDELAY_ASYM.sget (s.reg (Reg.FB_PDELAY p.val)))
        let delays := fun (u : State) => u.f (Reg.FB_PDELAY p.val) Fld.FB_PDELAY_DELAY =
          (clampInt 0 4294967295 (timeDelay e.2 m.echoFine m.txFine m.rxFine)).toNat
        Runs (.timeRx t p m) (fun s => up s ∧ match' s = some e ∧ ¬ parent s) (fun s u =>
          delays u ∧ u.clock = s.clock ∧ (u.port p.val).lastRx = some (m.tseq.val, m.rxFine)) ∧
        Runs (.timeRx t p m) (fun s => up s ∧ match' s = some e ∧ parent s ∧ (o s).natAbs ≤ 1000 * 65536) (fun s u =>
          delays u ∧ u.clock.slew = o s ∧ u.clock.off = s.clock.off ∧
            Fld.FB_TSTAT_OFFSET.sget (u.reg Reg.FB_TSTAT) = clampInt (-2147483648) 2147483647 (roundDiv (o s * 1000) 65536) ∧
            (20 * 65536 < (o s).natAbs → u.f Reg.FB_TSTAT Fld.FB_TSTAT_STATE = 2)) ∧
        Runs (.timeRx t p m)
          (fun s => up s ∧ match' s = some e ∧ parent s ∧ 1000 * 65536 < (o s).natAbs ∧ s.flag Reg.TT_STATUS Fld.TT_STATUS_RUNNING = true) fun s u =>
          delays u ∧ u.clock.slew = 0 ∧ u.clock.step = some (o s) ∧ u.clock.off = s.clock.off ∧ u.f Reg.FB_TSTAT Fld.FB_TSTAT_STATE = 2) ∧
  (∀ (t : Nat) (src : Src),
    Runs (.trigFire t src) (fun s => s.mayManage src = true ∧ s.bcastSource 0 = true ∧ s.flag Reg.FB_TRIG_CFG Fld.FB_TRIG_CFG_ORIGIN = true ∧
        s.kf.shareOut = none) (fun s u =>
      let ch := s.f Reg.FB_TRIG_CFG Fld.FB_TRIG_CFG_TX_CH
      let n := s.f Reg.FB_TRIG_CNT Fld.FB_TRIG_CNT_TNUM
      let instant := s.fabAt s.tick + BitVec.ofNat 64 (s.f Reg.FB_TRIG_CFG Fld.FB_TRIG_CFG_LEAD)
      u.wire = s.wire ++ (s.treePorts.flatMap fun q =>
          List.replicate 2 (.fabric q 0x69 (trigWords q (s.f Reg.FB_STATUS Fld.FB_STATUS_ADDR) ch 0 n instant none))) ∧
        u.kf.arrivals = s.kf.arrivals ++ [⟨s.tick + 2, ch, instant, none⟩] ∧
        u.f Reg.FB_TRIG_CNT Fld.FB_TRIG_CNT_SENT = (s.f Reg.FB_TRIG_CNT Fld.FB_TRIG_CNT_SENT + 1) % 2 ^ 16 ∧
        u.f Reg.FB_TRIG_CNT Fld.FB_TRIG_CNT_TNUM = (n + 1) % 2 ^ 16) ∧
    Runs (.trigFire t src) (fun s => s.bcastSource 0 = false ∨ s.flag Reg.FB_TRIG_CFG Fld.FB_TRIG_CFG_ORIGIN = false) fun s u => u = s) ∧
  ∀ (t : Nat) (p : Fin 8) (m : TrigMsg), m.crcOk = true →
    let known := fun (s : State) => (s.kf.seen.filter fun e => decide (s.clock.now ≤ e.2.2.2 + 1000000)).any fun e =>
      decide ((e.1, e.2.1, e.2.2.1) = (m.origin.val, m.ch.val, m.tnum.val))
    let share := if m.shareValid then some m.share.val else none
    Runs (.trigRx t p m) (fun s => s.portState p.val = 4 ∧ known s = true) (fun s u => u.kf = s.kf ∧ u.wire = s.wire ∧
      u.f Reg.FB_TRIG_CNT Fld.FB_TRIG_CNT_DUP = (s.f Reg.FB_TRIG_CNT Fld.FB_TRIG_CNT_DUP + 1) % 2 ^ 16) ∧
    Runs (.trigRx t p m) (fun s => s.portState p.val = 4 ∧ known s = false) fun s u =>
      u.kf.arrivals = s.kf.arrivals ++ [⟨tickCeil s.clock.tt, m.ch.val, m.instant, share⟩] ∧
        u.f Reg.FB_TRIG_CNT Fld.FB_TRIG_CNT_RECEIVED = (s.f Reg.FB_TRIG_CNT Fld.FB_TRIG_CNT_RECEIVED + 1) % 2 ^ 16 ∧
        u.wire = s.wire ++ if m.hops.val < 8 then (s.treePorts.filter (· != p.val)).flatMap fun q =>
          List.replicate 2 (.fabric q 0x69 (trigWords q m.origin.val m.ch.val (m.hops.val + 1) m.tnum.val m.instant share)) else []

/-- R300, R301, R305: a share goes out on the tree ports with the next number and the ten shadow values, and is kept where the sharer receives its own; one that arrives is forwarded with one hop more, kept where shares are taken, and committed at once where it has no instant and pacing is not the fabric's; one with an instant is committed at its tick. A MGMT packet for this device is answered or queued as a request, a response goes to the host that asked, and every other packet goes on toward its destination or, without a route, is dropped and counted. The model's own readings in it: log entries 24 and 55. -/
def Obligations.SharesAndTheManagementTunnel : Prop :=
  (∀ (t : Nat) (src : Src),
    Runs (.shareSend t src) (fun s => s.mayManage src = true ∧ s.flag Reg.FB_TTS_CFG Fld.FB_TTS_CFG_SEND = true) (fun s u =>
      let k := (s.f Reg.FB_TTS_STAT Fld.FB_TTS_STAT_SENT_K + 1) % 2 ^ 16
      let c : Word := if s.sharesByGrid then BitVec.ofNat 64 (s.clearOfCloses (s.stamp.toNat + 24000)) else 0
      u.f Reg.FB_TTS_STAT Fld.FB_TTS_STAT_SENT_K = k ∧
        u.wire = s.wire ++ (s.treePorts.map fun q => .fabric q 0xE1
          (fhdr 3 s.fabAddr 0xFFF 0 96 0 0 ++ [k, c.toNat] ++ (shareRegs.map s.reg).map (·.toNat))) ∧
        (s.flag Reg.FB_TTS_CFG Fld.FB_TTS_CFG_RECV = true → ∃ x ∈ u.kf.shares, x.k = k ∧ x.c = c ∧ x.words = shareRegs.map s.reg) ∧
        (s.flag Reg.FB_TTS_CFG Fld.FB_TTS_CFG_RECV = false → u.kf.shares = s.kf.shares ∧ u.gw = s.gw)) ∧
    Runs (.shareSend t src) (fun s => s.flag Reg.FB_TTS_CFG Fld.FB_TTS_CFG_SEND = false) fun s u => u = s) ∧
  (∀ (t : Nat) (p : Fin 8) (m : ShareMsg), m.crcOk = true →
    let forward := fun (s : State) => if m.hops < 8 then (s.treePorts.filter (· != p.val)).map fun q => Wire.fabric q 0xE1
      (fhdr 3 m.src.val 0xFFF (m.hops + 1) 96 0 0 ++ [m.k.val, m.c.toNat] ++ m.words.map (·.toNat)) else []
    let now := fun (s : State) => m.c = 0 ∧ s.u Reg.TT_MODE Fld.TT_MODE_PACE ≠ 3
    let takes := fun (s : State) => s.portState p.val = 4 ∧ s.flag Reg.FB_TTS_CFG Fld.FB_TTS_CFG_RECV = true
    Runs (.shareRx t p m) (fun s => s.portState p.val = 4 ∧ s.flag Reg.FB_TTS_CFG Fld.FB_TTS_CFG_RECV = false)
      (fun s u => u.wire = s.wire ++ forward s ∧ u.kf = s.kf ∧ u.gw = s.gw) ∧
    Runs (.shareRx t p m) (fun s => takes s ∧ ¬ now s) (fun s u => u.wire = s.wire ++ forward s ∧ u.gw = s.gw ∧
      u.kf.shares = (s.kf.shares.filter fun y => y.k != m.k.val) ++ [⟨m.k.val, m.c, m.words, false⟩]) ∧
    Runs (.shareRx t p m) (fun s => takes s ∧ now s) fun s u => u.wire = s.wire ++ forward s ∧
      u.gw.commits = s.gw.commits ++ [{ tick := s.tick, stamp := s.fabAt s.tick, src := .tunnel, force := false, bound := s.nearClose s.tick }] ∧
      u.f Reg.FB_TTS_STAT Fld.FB_TTS_STAT_INST_K = m.k.val ∧ u.flag Reg.CFG_GW_STATUS Fld.CFG_GW_STATUS_PENDING = true) ∧
  (∀ (t : Nat) (x : Share),
    Runs (.shareCommit t) (fun s => s.shareDue = some x ∧ s.flag Reg.FB_TTS_CFG Fld.FB_TTS_CFG_RECV = true) (fun s u =>
      let a := tickCeil (s.ttOf x.c)
      u.gw.commits = s.gw.commits ++ [{ tick := a, stamp := s.fabAt a, src := .tunnel, force := false, bound := s.nearClose a }] ∧
        u.f Reg.FB_TTS_STAT Fld.FB_TTS_STAT_INST_K = x.k % 2 ^ 16 ∧ ∀ y ∈ u.kf.shares, y.k = x.k → y.used = true) ∧
    Runs (.shareCommit t) (fun s => s.shareDue = none) fun s u => u = s) ∧
  ∀ (t : Nat) (p : Fin 8) (m : MgmtMsg), m.crcOk = true →
    let mine := fun (s : State) => s.portState p.val = 4 ∧ s.flag Reg.FB_STATUS Fld.FB_STATUS_ADDR_VALID = true ∧ m.dst.val = s.fabAddr
    let passing := fun (s : State) => s.portState p.val = 4 ∧ m.dst.val ≠ s.fabAddr ∧ m.hops.val < 8
    (∀ (r : WitrigResp) (f : Flight), Runs (.mgmtRx t p m)
      (fun s => mine s ∧ m.resp = some r ∧ (s.kf.flights.find? fun f => f.handle == m.handle.toNat) = some f) fun s u =>
      u.kf.flights = s.kf.flights.erase f ∧ u.eth.txq = s.eth.txq ++ [{ cls := 3, kind := 8, ip := f.ip, words := [], resp := some (f.port, r) }] ∧
        u.f Reg.FB_TUN_CNT Fld.FB_TUN_CNT_INFLIGHT = (s.kf.flights.erase f).length % 32) ∧
    (∀ q : WitrigMsg, Runs (.mgmtRx t p m) (fun s => mine s ∧ m.resp = none ∧ m.req = some q ∧ witBad q = false) fun s u =>
      u = { s with kf := { s.kf with tunReqs := s.kf.tunReqs ++ [⟨m.src.val, m.handle.toNat, q⟩] } }) ∧
    (∀ (q : WitrigMsg) (a : Nat), Runs (.mgmtRx t p m)
      (fun s => mine s ∧ m.resp = none ∧ m.req = some q ∧ witBad q = true ∧ m.src.val ≠ 0xFFF ∧ s.routeTo m.src.val = some a) fun s u =>
      u.wire = s.wire ++ [.tunnel a s.fabAddr m.src.val 0 m.handle.toNat none (some (witFail q 4 false))]) ∧
    (∀ a : Nat, Runs (.mgmtRx t p m) (fun s => passing s ∧ m.dst.val ≠ 0xFFF ∧ s.routeTo m.dst.val = some a) fun s u =>
      u.wire = s.wire ++ [.tunnel a m.src.val m.dst.val (m.hops.val + 1) m.handle.toNat m.req m.resp] ∧
        u.f Reg.FB_TUN_CNT Fld.FB_TUN_CNT_FORWARDED = (s.f Reg.FB_TUN_CNT Fld.FB_TUN_CNT_FORWARDED + 1) % 2 ^ 32) ∧
    Runs (.mgmtRx t p m) (fun s => passing s ∧ s.routeTo m.dst.val = none) fun s u =>
      u.wire = s.wire ∧ u.flag Reg.FB_STATUS Fld.FB_STATUS_TUN_DROP = true ∧
        u.f Reg.FB_TUN_CNT Fld.FB_TUN_CNT_DROPPED = min (s.f Reg.FB_TUN_CNT Fld.FB_TUN_CNT_DROPPED + 1) 65535

/-! ## Clock synthesis -/

/-- R308, R310, R312 to R318: a lost reference is shown and flagged and its loops fall out of lock; one that returns is shown, and its loops' windows begin anew. A write to a started loop's configuration restarts it: it acquires from the first matching band entry, its outputs stop, and the restart counts; 200 µs later the next entry is tried. Two windows within one count end the acquisition with the entry and the difference shown, and the outputs start. Later windows set LOCKED after two good ones and clear it on a bad one; the land does so in loop 0's analog mode. The model's own readings in it: log entry 39. -/
def Obligations.LoopsAcquireLockAndLoseLock : Prop :=
  (∀ (t : Nat) (lane : Bool),
    let okF := if lane then Fld.CK_STATUS_LREF_OK else Fld.CK_STATUS_REF_OK
    let losF := if lane then Fld.CK_STATUS_LREF_LOS else Fld.CK_STATUS_REF_LOS
    Runs (.referenceLoss t lane) (fun s => s.refLost lane = false) (fun s u =>
      u.refLost lane = true ∧ u.flag Reg.CK_STATUS okF = false ∧ u.flag Reg.CK_STATUS losF = true ∧
        ∀ k : Fin 12, onLane k.val = lane → u.locked k.val = false ∧
          (s.locked k.val = true → hasBit (u.f Reg.CK_STATUS Fld.CK_STATUS_LOL) k.val = true ∧
            u.f (Reg.CK_PSTAT k.val) Fld.CK_PSTAT_LOSSES = min (s.f (Reg.CK_PSTAT k.val) Fld.CK_PSTAT_LOSSES + 1) 65535)) ∧
    Runs (.referenceLoss t lane) (fun s => s.refLost lane = true) (fun s u => u = s) ∧
    Runs (.referenceReturn t lane) (fun s => s.ck.loops.length = 12) fun s u =>
      u.refLost lane = false ∧ u.refFrom lane = s.clock.now ∧ u.flag Reg.CK_STATUS okF = true ∧
        ∀ k : Fin 12, onLane k.val = lane → (u.loop k.val).winAt = s.clock.now ∧ (u.loop k.val).good = 0 ∧ u.locked k.val = s.locked k.val) ∧
  (∀ (t : Nat) (k : Fin 12),
    let has := fun (s : State) => s.ck.loops.length = 12
    let restarts := fun (s u : State) => u.acquiring k.val = true ∧ u.locked k.val = false ∧ (u.loop k.val).entry = s.bandFirst k.val ∧
      (u.loop k.val).tryAt = s.clock.now ∧ hasBit (u.f Reg.CK_STATUS Fld.CK_STATUS_LOL) k.val = true ∧
      u.f (Reg.CK_PSTAT k.val) Fld.CK_PSTAT_RESTARTS = min (s.f (Reg.CK_PSTAT k.val) Fld.CK_PSTAT_RESTARTS + 1) 65535 ∧
      (k.val = 0 → u.clock.running = false)
    (∀ (src : Src) (val : Word) (d : RegDef), regAt (Reg.CK_PLL k.val) = some d →
      Runs (.pllConfigWrite t src k val) (fun s => has s ∧ s.mayManage src = true ∧ (s.loop k.val).started = true)
        (fun s u => u.reg (Reg.CK_PLL k.val) = writtenWord d (s.reg (Reg.CK_PLL k.val)) val ∧ restarts s u) ∧
      Runs (.pllConfigWrite t src k val) (fun s => s.mayManage src = true ∧ (s.loop k.val).started = false) fun s u =>
        u.reg (Reg.CK_PLL k.val) = writtenWord d (s.reg (Reg.CK_PLL k.val)) val ∧ u.ck = s.ck ∧ ∀ a, a ≠ Reg.CK_PLL k.val → u.reg a = s.reg a) ∧
    (∀ e : Nat, Runs (.bandTryTimeout t k)
      (fun s => has s ∧ s.acquiring k.val = true ∧ (s.loop k.val).entry = some e ∧ (s.loop k.val).tryAt + 200000 ≤ s.clock.now) fun s u =>
      (u.loop k.val).entry = s.bandAfter k.val e ∧ (u.loop k.val).tryAt = s.clock.now ∧ u.regs = s.regs) ∧
    Runs (.bandTryTimeout t k) (fun s => s.acquiring k.val = false) (fun s u => u = s) ∧
    (∀ (e : Nat) (diff : Fin 65536), e < 64 → (diffOf diff.val).natAbs ≤ 1 → Runs (.acquisitionCheckPass t k diff)
      (fun s => has s ∧ s.acquiring k.val = true ∧ (s.loop k.val).started = true ∧ (s.loop k.val).entry = some e ∧ s.refLost (onLane k.val) = false ∧
        2048 * s.pfdPeriod k.val ≤ 7 * (s.clock.now - (s.loop k.val).tryAt) ∧ s.clock.now ≤ (s.loop k.val).tryAt + 200000)
      fun s u => u.acquiring k.val = false ∧ u.f (Reg.CK_PSTAT k.val) Fld.CK_PSTAT_BAND = e ∧
        u.f (Reg.CK_PSTAT k.val) Fld.CK_PSTAT_DIFF = diff.val ∧ (u.loop k.val).winAt = s.clock.now ∧
        (s.analogLock k.val = false ∨ s.ck.landHigh = false → u.locked k.val = true) ∧ (k.val = 0 → u.clock.running = s.boot.ttOn)) ∧
    (∀ diff : Fin 65536,
      let due := fun (s : State) => has s ∧ s.acquiring k.val = false ∧ s.analogLock k.val = false ∧ s.refLost (onLane k.val) = false ∧
        1024 * 2 ^ s.f (Reg.CK_PLL k.val) Fld.CK_PLL_LD_WIN * s.pfdPeriod k.val ≤ 7 * (s.clock.now - (s.loop k.val).winAt)
      let within := fun (s : State) => (diffOf diff.val).natAbs ≤ max 1 (s.f (Reg.CK_PLL k.val) Fld.CK_PLL_LD_TOL)
      let shown := fun (s u : State) => u.f (Reg.CK_PSTAT k.val) Fld.CK_PSTAT_DIFF = diff.val ∧ (u.loop k.val).winAt = s.clock.now
      Runs (.lockWindowEnd t k diff) (fun s => due s ∧ within s ∧ 1 ≤ (s.loop k.val).good) (fun s u => shown s u ∧ u.locked k.val = true) ∧
      Runs (.lockWindowEnd t k diff) (fun s => due s ∧ within s ∧ (s.loop k.val).good = 0)
        (fun s u => shown s u ∧ u.locked k.val = s.locked k.val ∧ (u.loop k.val).good = 1) ∧
      Runs (.lockWindowEnd t k diff) (fun s => due s ∧ ¬ within s) fun s u => shown s u ∧ u.locked k.val = false ∧ (u.loop k.val).good = 0 ∧
        (s.locked k.val = true → hasBit (u.f Reg.CK_STATUS Fld.CK_STATUS_LOL) k.val = true)) ∧
    Runs (.pllFlagAutoClear t k)
      (fun s => s.flag Reg.CK_POLICY Fld.CK_POLICY_AUTO_CLEAR = true ∧ s.locked k.val = true ∧ (s.loop k.val).since + 10000000 ≤ s.clock.now)
      (fun s u => hasBit (u.f Reg.CK_STATUS Fld.CK_STATUS_LOL) k.val = false ∧ ∀ a, a ≠ Reg.CK_STATUS → u.reg a = s.reg a) ∧
    Runs (.pllAutoRestart t k) (fun s => has s ∧ s.restartDue k.val = true ∧ (s.loop k.val).tries < 3) (fun s u =>
      restarts s u ∧ (u.loop k.val).tries = (s.loop k.val).tries + 1 ∧ (u.loop k.val).tryNext = s.clock.now + 10000000) ∧
    Runs (.pllAutoRestart t k) (fun s => s.restartDue k.val = true ∧ 3 ≤ (s.loop k.val).tries) (fun s u =>
      hasBit (u.f Reg.CK_POLICY Fld.CK_POLICY_GAVE_UP) k.val = true ∧ u.ck = s.ck ∧ u.acquiring k.val = s.acquiring k.val) ∧
    Runs (.pllAutoRestart t k) (fun s => s.restartDue k.val = false) fun s u => u = s) ∧
  (∀ (t : Nat) (high : Bool),
    Runs (.lockdetCrossing t high) (fun s => s.analogLock 0 = true ∧ s.acquiring 0 = false ∧ (high = true ∨ s.refLost false = false))
      (fun _ u => u.ck.landHigh = high ∧ u.locked 0 = !high) ∧
    Runs (.lockdetCrossing t high) (fun s => s.analogLock 0 = false ∨ s.acquiring 0 = true)
      fun s u => u = { s with ck := { s.ck with landHigh := high } }) ∧
  ∀ (t : Nat) (lane : Bool), Runs (.refFlagAutoClear t lane)
    (fun s => s.flag Reg.CK_POLICY Fld.CK_POLICY_AUTO_CLEAR = true ∧
      s.flag Reg.CK_STATUS (if lane then Fld.CK_STATUS_LREF_OK else Fld.CK_STATUS_REF_OK) = true ∧
      s.refFrom lane + 10000000 ≤ s.clock.now ∧ (refLoops lane).all s.locked = true)
    fun s u => u.flag Reg.CK_STATUS (if lane then Fld.CK_STATUS_LREF_LOS else Fld.CK_STATUS_REF_LOS) = false ∧
      ∀ a, a ≠ Reg.CK_STATUS → u.reg a = s.reg a

/-- R319, R321, R322: a write to a clock output is kept, its changed fields take effect at their instants, and a frequency above 125 MHz is flagged; a sync, by the pin or by software, records its tick, restarts the dividers that take syncs 2 ns later and is an event for the engines; an armed sync fires on the first tick at or after its target. The model's own readings in it: log entry 40. -/
def Obligations.ClockOutputsAndSyncs : Prop :=
  (∀ (t : Nat) (src : Src) (j : Fin 6) (val : Word) (d : RegDef), regAt (Reg.CK_OUT j.val) = some d →
    let w := fun (s : State) => writtenWord d (s.reg (Reg.CK_OUT j.val)) val
    Runs (.clockOutputWrite t src j val) (fun s => s.mayManage src = true ∧ s.ck.outs.length = 6) fun s u =>
      u.reg (Reg.CK_OUT j.val) = w s ∧ u.wire = s.wire ++ s.outEffects j.val (w s) ∧ u.ckOut j.val = ⟨s.outAnchor j.val (w s), w s⟩ ∧
        (outFast (w s) = true → u.flag Reg.CK_STATUS Fld.CK_STATUS_CKOUT_FAST = true) ∧
        (outFast (w s) = false → u.reg Reg.CK_STATUS = s.reg Reg.CK_STATUS)) ∧
  (∀ t : Nat,
    let synced := fun (a : Nat) (s u : State) =>
      let x := 7 * (s.clock.now + a + 2 - s.clock.tt)
      u.f Reg.CK_SYNC_TIME Fld.CK_SYNC_TIME_TIME = (s.fabAt a).toNat % 2 ^ 62 ∧ u.flag Reg.CK_SYNC_TIME Fld.CK_SYNC_TIME_VALID = true ∧
        u.pio.events = s.pio.events ++ [⟨eventCycle a, none, 5⟩] ∧
        ∀ j : Fin 6,
          (Fld.CK_OUT_SYNC_EN.get (s.ckOut j.val).word = 0 → u.ckOut j.val = s.ckOut j.val) ∧
          (Fld.CK_OUT_SYNC_EN.get (s.ckOut j.val).word = 1 → .ckout j.val 4 (u.ckOut j.val).anchor 0 ∈ u.wire ∧ x ≤ (u.ckOut j.val).anchor ∧
            (Fld.CK_OUT_SRC.get (s.ckOut j.val).word = 1 ∨ Fld.CK_OUT_SRC.get (s.ckOut j.val).word = 3 → (u.ckOut j.val).anchor = x))
    let target := fun (s : State) => max s.ck.armFrom (tickCeil (s.ttOf (s.reg Reg.CK_SYNC_AT)))
    Runs (.syncinEdge t) (fun s => s.ck.outs.length = 6) (fun s u => synced s.tick s u) ∧
    (∀ src : Src,
      Runs (.ckSync t src) (fun s => s.ck.outs.length = 6 ∧ s.mayManage src = true) (fun s u => synced s.tick s u) ∧
      Runs (.ckArm t src) (fun s => s.mayManage src = true) fun s u => u.flag Reg.CK_SYNC_TIME Fld.CK_SYNC_TIME_ARMED = true ∧
        u.ck.armFrom = if notAfter (s.reg Reg.CK_SYNC_AT) s.stamp = true then s.tick + 2 else s.tick) ∧
    Runs (.armedSyncFire t)
      (fun s => s.ck.outs.length = 6 ∧ s.flag Reg.CK_SYNC_TIME Fld.CK_SYNC_TIME_ARMED = true ∧ target s ≤ s.clock.tt)
      (fun s u => synced (target s) s u ∧ u.flag Reg.CK_SYNC_TIME Fld.CK_SYNC_TIME_ARMED = false) ∧
    Runs (.armedSyncFire t) (fun s => s.flag Reg.CK_SYNC_TIME Fld.CK_SYNC_TIME_ARMED = false) fun s u => u = s)

/-! ## PIO engines -/

/-- R328, R330, R331, R334, R335: NOP, JMP, the WAITs, the SETs and PULSE, each executed in the engine's cycle by an engine that has it ready, once the instants before that cycle are worked off. An instruction that ends moves PC to the next slot or to the jump's target and frees the engine after its cycles; a WAIT whose condition does not hold stalls for its cause, keeps its instruction and tries again in the next cycle. -/
def Obligations.EnginesWaitJumpAndSet : Prop :=
  ∀ (t : Nat) (e : Fin 16),
    let estat := fun (f : Field) (s : State) => s.f (Reg.PIO_ESTAT e.val) f
    let ready := fun (op : PioOp) (s : State) => s.pio.engines.length = 16 ∧ s.pioSettle.engReady e.val = true ∧ decodePio (s.pioSettle.eng e.val).ir = op
    let ends := fun (n pc : Nat) (s u : State) => estat Fld.PIO_ESTAT_PC u = pc % 32 ∧ estat Fld.PIO_ESTAT_CAUSE u = 0 ∧
      estat Fld.PIO_ESTAT_STATE u = 1 ∧ (u.eng e.val).readyAt = s.cycle + 4 * n
    let goes := fun (n : Nat) (s u : State) => ends n (estat Fld.PIO_ESTAT_PC s.pioSettle + 1) s u
    let stalls := fun (k : Nat) (s u : State) => estat Fld.PIO_ESTAT_CAUSE u = k ∧ estat Fld.PIO_ESTAT_STATE u = 2 ∧
      estat Fld.PIO_ESTAT_PC u = estat Fld.PIO_ESTAT_PC s.pioSettle ∧ (u.eng e.val).ir = (s.pioSettle.eng e.val).ir ∧
      (u.eng e.val).latched = true ∧ (u.eng e.val).readyAt = s.cycle + 4
    (∀ dly : Nat, Runs (.nop t e) (ready (.nop dly)) (goes (1 + dly))) ∧
    Runs (.nop t e) (fun s => s.pioSettle.engReady e.val = false) (fun s u => u = s.pioSettle) ∧
    (∀ (lands : BitVec 64) (cond arg target : Nat),
      let taken := fun (s : State) => s.pioSettle.jmpTaken e.val lands.toNat cond arg
      Runs (.jmp t e lands) (fun s => ready (.jmp cond arg target) s ∧ taken s = false) (goes 1) ∧
      Runs (.jmp t e lands) (fun s => ready (.jmp cond arg target) s ∧ taken s = true) fun s u =>
        ends 1 (if cond = 8 then target + s.pioSettle.sr e.val % 2 ^ arg else target) s u ∧
          (cond = 5 → u.f (Reg.PIO_ELC e.val) Fld.PIO_ELC_LC = s.pioSettle.f (Reg.PIO_ELC e.val) Fld.PIO_ELC_LC - 1)) ∧
    (∀ (lands : BitVec 64) (pol : Bool) (i : Nat),
      let level := fun (s : State) => s.pioSettle.pinLevel lands.toNat (s.pioSettle.pinOf e.val i)
      Runs (.waitPin t e lands) (fun s => ready (.waitPin pol i) s ∧ level s = pol) (goes 1) ∧
      Runs (.waitPin t e lands) (fun s => ready (.waitPin pol i) s ∧ level s ≠ pol) (stalls 1)) ∧
    (∀ (pol clr : Bool) (i : Nat), i < 16 →
      let free := fun (s : State) => pol = false ∨ clr = false ∨ s.pioSettle.flagTaken e.val i = false
      Runs (.waitFlag t e) (fun s => ready (.waitFlag pol clr i) s ∧ hasBit s.pioSettle.flagView i = pol ∧ free s) (fun s u => goes 1 s u ∧
        (pol = true → clr = true → s.pioSettle.pio.flagCycle ≠ s.cycle → hasBit (u.f Reg.PIO_FLAGS Fld.PIO_FLAGS_FLAGS) i = false) ∧
        (pol = false ∨ clr = false → u.reg Reg.PIO_FLAGS = s.pioSettle.reg Reg.PIO_FLAGS)) ∧
      Runs (.waitFlag t e) (fun s => ready (.waitFlag pol clr i) s ∧ hasBit s.pioSettle.flagView i ≠ pol) (stalls 2)) ∧
    (∀ i : Nat, i < 7 →
      let seen := fun (s : State) => hasBit (estat Fld.PIO_ESTAT_LATCH s.pioSettle) i
      Runs (.waitEvent t e) (fun s => ready (.waitEvent i) s ∧ seen s = true)
        (fun s u => goes 1 s u ∧ hasBit (estat Fld.PIO_ESTAT_LATCH u) i = false) ∧
      Runs (.waitEvent t e) (fun s => ready (.waitEvent i) s ∧ seen s = false) (stalls 3)) ∧
    (∀ (offset : Nat) (level : Bool), Runs (.setPin t e) (ready (.setPin offset level)) fun s u => goes 1 s u ∧
      u.pio.edges = s.pioSettle.pio.edges ++ [⟨s.cycle + 4, e.val, s.pioSettle.pinOf e.val offset, level, false⟩]) ∧
    (∀ v : Nat, Runs (.setLc t e) (ready (.setLc v)) fun s u => goes 1 s u ∧ u.f (Reg.PIO_ELC e.val) Fld.PIO_ELC_LC = v % 2 ^ 32) ∧
    Runs (.setSrClear t e) (ready .setSrClear) (fun s u => goes 1 s u ∧ u.reg (Reg.PIO_ESR e.val) = 0 ∧ estat Fld.PIO_ESTAT_SC u = 0) ∧
    (∀ mask : Nat, Runs (.setEventClear t e) (ready (.setEventClear mask)) fun s u => goes 1 s u ∧
      ∀ i : Fin 7, hasBit (estat Fld.PIO_ESTAT_LATCH u) i.val = (hasBit (estat Fld.PIO_ESTAT_LATCH s.pioSettle) i.val && !hasBit mask i.val)) ∧
    ∀ (cycles offset : Nat) (pol : Bool), Runs (.pulse t e) (ready (.pulse cycles offset pol)) fun s u => goes (cycles + 1) s u ∧
      u.pio.edges = s.pioSettle.pio.edges ++
        [⟨s.cycle + 4, e.val, s.pioSettle.pinOf e.val offset, pol, false⟩,
          ⟨s.cycle + 4 * (cycles + 1), e.val, s.pioSettle.pinOf e.val offset, !pol, true⟩]

/-- R330, R332, R336: IN shifts pins or DIN into SR from the right, OUT moves SR's low bits to pins, DOUT or LC and shifts it right; SC follows. IN from an empty DIN and OUT to a full DOUT stall. A serial shift on the engine's own clock starts a bit's edges in its first cycle and moves it in its last; on the far end's clock it moves one bit for each edge and stalls until the last. The model's own readings in it: log entry 38. -/
def Obligations.EnginesMoveData : Prop :=
  ∀ (t : Nat) (e : Fin 16) (n offset : Nat), n ≤ 64 →
    let estat := fun (f : Field) (s : State) => s.f (Reg.PIO_ESTAT e.val) f
    let ready := fun (op : PioOp) (s : State) => s.pio.engines.length = 16 ∧ s.pioSettle.engReady e.val = true ∧ decodePio (s.pioSettle.eng e.val).ir = op
    let goes := fun (s u : State) => estat Fld.PIO_ESTAT_PC u = (estat Fld.PIO_ESTAT_PC s.pioSettle + 1) % 32 ∧ estat Fld.PIO_ESTAT_CAUSE u = 0 ∧
      estat Fld.PIO_ESTAT_STATE u = 1 ∧ (u.eng e.val).readyAt = s.cycle + 4
    let stalls := fun (k : Nat) (s u : State) => estat Fld.PIO_ESTAT_CAUSE u = k ∧ estat Fld.PIO_ESTAT_STATE u = 2 ∧
      estat Fld.PIO_ESTAT_PC u = estat Fld.PIO_ESTAT_PC s.pioSettle ∧ (u.eng e.val).latched = true ∧ (u.eng e.val).readyAt = s.cycle + 4
    let took := fun (v : Nat) (s u : State) =>
      u.reg (Reg.PIO_ESR e.val) = BitVec.ofNat 64 (s.pioSettle.sr e.val * 2 ^ n + v % 2 ^ n) ∧
        estat Fld.PIO_ESTAT_SC u = min 64 (estat Fld.PIO_ESTAT_SC s.pioSettle + n)
    let gave := fun (s u : State) => u.sr e.val = s.pioSettle.sr e.val / 2 ^ n ∧
      estat Fld.PIO_ESTAT_SC u = estat Fld.PIO_ESTAT_SC s.pioSettle - n
    let left := fun (s : State) => n - estat Fld.PIO_ESTAT_BITS_DONE s.pioSettle
    let data := fun (s : State) => (⟨s.cycle + 4, e.val, s.pioSettle.pinOf e.val offset, hasBit (s.pioSettle.sr e.val) 0, false⟩ : PinEdge)
    let clock := fun (s : State) => ([⟨s.cycle + 4, e.val, s.pioSettle.pinOf e.val (offset + 1), false, false⟩,
      ⟨s.cycle + 4 + s.halfNs e.val, e.val, s.pioSettle.pinOf e.val (offset + 1), true, false⟩] : List PinEdge)
    let begins := fun (s u : State) => (u.eng e.val).shown = true ∧ estat Fld.PIO_ESTAT_STATE u = 1 ∧
      estat Fld.PIO_ESTAT_PC u = estat Fld.PIO_ESTAT_PC s.pioSettle ∧
      (u.eng e.val).readyAt = s.cycle + 4 * max 1 (2 * s.halfNs e.val / 4 - 1) ∧ u.reg (Reg.PIO_ESR e.val) = s.pioSettle.reg (Reg.PIO_ESR e.val)
    let moved := fun (s u : State) =>
      if n ≤ estat Fld.PIO_ESTAT_BITS_DONE s.pioSettle + 1 then goes s u ∧ estat Fld.PIO_ESTAT_BITS_DONE u = 0
      else estat Fld.PIO_ESTAT_PC u = estat Fld.PIO_ESTAT_PC s.pioSettle ∧
        estat Fld.PIO_ESTAT_BITS_DONE u = estat Fld.PIO_ESTAT_BITS_DONE s.pioSettle + 1 ∧ (u.eng e.val).shown = false
    let shown := fun (b : Bool) (s : State) => (s.pioSettle.eng e.val).shown = b ∧ estat Fld.PIO_ESTAT_BITS_DONE s.pioSettle < 127
    (∀ lands : BitVec 64, Runs (.inPins t e lands) (ready (.inPins n offset)) fun s u =>
      goes s u ∧ took (s.pioSettle.pinsOf e.val lands.toNat offset n) s u) ∧
    Runs (.inDin t e) (fun s => ready (.inDin n) s ∧ s.pioSettle.dinSeen e.val = true) (fun s u =>
      goes s u ∧ took (s.pioSettle.reg (Reg.PIO_DIN e.val)).toNat s u ∧ u.flag (Reg.PIO_ESTAT e.val) Fld.PIO_ESTAT_DIN_FULL = false) ∧
    Runs (.inDin t e) (fun s => ready (.inDin n) s ∧ s.pioSettle.dinSeen e.val = false) (stalls 4) ∧
    Runs (.outPins t e) (ready (.outPins n offset)) (fun s u => goes s u ∧ gave s u ∧ u.pio.edges = s.pioSettle.pio.edges ++
      (List.range n).map fun i => ⟨s.cycle + 4, e.val, s.pioSettle.pinOf e.val (offset + i), hasBit (s.pioSettle.sr e.val) i, false⟩) ∧
    Runs (.outDout t e) (fun s => ready (.outDout n) s ∧ s.pioSettle.flag (Reg.PIO_ESTAT e.val) Fld.PIO_ESTAT_DOUT_FULL = false) (fun s u =>
      goes s u ∧ gave s u ∧ u.reg (Reg.PIO_DOUT e.val) = BitVec.ofNat 64 (s.pioSettle.sr e.val % 2 ^ n) ∧
        u.flag (Reg.PIO_ESTAT e.val) Fld.PIO_ESTAT_DOUT_FULL = true) ∧
    Runs (.outDout t e) (fun s => ready (.outDout n) s ∧ s.pioSettle.flag (Reg.PIO_ESTAT e.val) Fld.PIO_ESTAT_DOUT_FULL = true) (stalls 5) ∧
    Runs (.outLc t e) (ready (.outLc n)) (fun s u => goes s u ∧ gave s u ∧
      u.f (Reg.PIO_ELC e.val) Fld.PIO_ELC_LC = s.pioSettle.sr e.val % 2 ^ n % 2 ^ 32) ∧
    (∀ bits : List Bool,
      Runs (.inSerial t e bits) (fun s => ready (.inSerial n offset false) s ∧ shown false s)
        (fun s u => begins s u ∧ u.pio.edges = s.pioSettle.pio.edges ++ clock s) ∧
      Runs (.inSerial t e bits) (fun s => ready (.inSerial n offset false) s ∧ shown true s) (fun s u => moved s u ∧
        u.reg (Reg.PIO_ESR e.val) = BitVec.ofNat 64 (s.pioSettle.sr e.val * 2 + (bits.headD false).toNat)) ∧
      Runs (.inSerial t e bits) (fun s => ready (.inSerial n offset true) s ∧ left s ≤ bits.length) (fun s u => goes s u ∧
        estat Fld.PIO_ESTAT_BITS_DONE u = 0 ∧
        u.sr e.val = (bits.take (left s)).foldl (fun z b => (2 * z + b.toNat) % 2 ^ 64) (s.pioSettle.sr e.val)) ∧
      Runs (.inSerial t e bits) (fun s => ready (.inSerial n offset true) s ∧ bits.length < left s) fun s u => stalls 6 s u ∧
        estat Fld.PIO_ESTAT_BITS_DONE u = estat Fld.PIO_ESTAT_BITS_DONE s.pioSettle + bits.length ∧
        u.sr e.val = bits.foldl (fun z b => (2 * z + b.toNat) % 2 ^ 64) (s.pioSettle.sr e.val)) ∧
    ∀ edges : Nat,
      Runs (.outSerial t e edges) (fun s => ready (.outSerial n offset false) s ∧ shown false s)
        (fun s u => begins s u ∧ u.pio.edges = s.pioSettle.pio.edges ++ data s :: clock s) ∧
      Runs (.outSerial t e edges) (fun s => ready (.outSerial n offset false) s ∧ shown true s)
        (fun s u => moved s u ∧ u.sr e.val = s.pioSettle.sr e.val / 2) ∧
      Runs (.outSerial t e edges) (fun s => ready (.outSerial n offset true) s ∧ shown false s)
        (fun s u => stalls 6 s u ∧ (u.eng e.val).shown = true ∧ u.pio.edges = s.pioSettle.pio.edges ++ [data s]) ∧
      Runs (.outSerial t e edges) (fun s => ready (.outSerial n offset true) s ∧ shown true s ∧ left s ≤ edges)
        (fun s u => goes s u ∧ estat Fld.PIO_ESTAT_BITS_DONE u = 0 ∧ u.sr e.val = s.pioSettle.sr e.val / 2 ^ left s) ∧
      Runs (.outSerial t e edges) (fun s => ready (.outSerial n offset true) s ∧ shown true s ∧ edges < left s) fun s u => stalls 6 s u ∧
        estat Fld.PIO_ESTAT_BITS_DONE u = estat Fld.PIO_ESTAT_BITS_DONE s.pioSettle + edges ∧ u.sr e.val = s.pioSettle.sr e.val / 2 ^ edges

/-- R330, R333, R335, R337: an IRQ sets or clears a flag, sets a host interrupt, or is an event of the timetable 6 ns after the start of its cycle, and goes on at the next slot or at its GO; software sets and clears flags by mask, and no clear removes a flag set in the same cycle; an illegal instruction faults its engine. -/
def Obligations.EnginesRaiseFlagsAndInterrupts : Prop :=
  (∀ (t : Nat) (e : Fin 16) (i : Nat) (go : Option Nat), i < 16 →
    let pc := fun (s : State) => s.f (Reg.PIO_ESTAT e.val) Fld.PIO_ESTAT_PC
    let ready := fun (op : PioOp) (s : State) => s.pio.engines.length = 16 ∧ s.pioSettle.engReady e.val = true ∧ decodePio (s.pioSettle.eng e.val).ir = op
    let goes := fun (s u : State) => pc u = (go.getD (pc s.pioSettle + 1)) % 32 ∧ u.f (Reg.PIO_ESTAT e.val) Fld.PIO_ESTAT_STATE = 1 ∧
      (u.eng e.val).readyAt = s.cycle + 4
    let bit' := fun (s : State) (j : Nat) => hasBit (s.f Reg.PIO_FLAGS Fld.PIO_FLAGS_FLAGS) j
    Runs (.irqSetFlag t e) (ready (.irqSet i go)) (fun s u => goes s u ∧ ∀ j : Fin 16, bit' u j.val = (bit' s.pioSettle j.val || j.val == i)) ∧
    Runs (.irqClearFlag t e) (fun s => ready (.irqClear i go) s ∧ s.pioSettle.pio.flagCycle ≠ s.cycle)
      (fun s u => goes s u ∧ ∀ j : Fin 16, bit' u j.val = (bit' s.pioSettle j.val && j.val != i)) ∧
    Runs (.irqClearFlag t e) (fun s => ready (.irqClear i go) s ∧ s.pioSettle.pio.flagCycle = s.cycle ∧ hasBit s.pioSettle.pio.flagSet i = true)
      (fun s u => goes s u ∧ ∀ j : Fin 16, bit' u j.val = bit' s.pioSettle j.val) ∧
    Runs (.irqHost t e) (ready (.irqHost i go)) (fun s u => goes s u ∧ ∀ j : Fin 16,
      hasBit (u.f Reg.PIO_HOSTIRQ Fld.PIO_HOSTIRQ_HOST) j.val = (hasBit (s.pioSettle.f Reg.PIO_HOSTIRQ Fld.PIO_HOSTIRQ_HOST) j.val || j.val == i)) ∧
    Runs (.irqTimetable t e) (fun s => ready (.irqTimetable i go) s ∧ i ≠ 0)
      (fun s u => goes s u ∧ u.tt = { s.tt with inbox := s.tt.inbox ++ [⟨s.cycle + 6, e.val, i⟩] }) ∧
    Runs (.irqTimetable t e) (fun s => ready (.irqTimetable 0 go) s)
      (fun s u => goes s u ∧ u.tt = (s.pioSettle.engineTrigger e.val (s.cycle + 6)).tt) ∧
    Runs (.illegalInstruction t e) (ready .illegal) fun s u => u.f (Reg.PIO_ESTAT e.val) Fld.PIO_ESTAT_STATE = 3 ∧
      u.flag (Reg.PIO_ESTAT e.val) Fld.PIO_ESTAT_FAULT = true ∧ (u.eng e.val).latched = false ∧ pc u = pc s.pioSettle) ∧
  ∀ (t : Nat) (src : Src) (val : Word),
    let bit' := fun (s : State) (j : Nat) => hasBit (s.f Reg.PIO_FLAGS Fld.PIO_FLAGS_FLAGS) j
    Runs (.flagSet t src val) (fun s => s.pioSettle.mayManage src = true)
      (fun s u => ∀ j : Fin 16, bit' u j.val = (bit' s.pioSettle j.val || hasBit val.toNat j.val)) ∧
    Runs (.flagClr t src val) (fun s => s.pioSettle.mayManage src = true) fun s u => ∀ j : Fin 16, bit' u j.val =
      (bit' s.pioSettle j.val && !(hasBit val.toNat j.val && !(s.pioSettle.pio.flagCycle == s.cycle && hasBit s.pioSettle.pio.flagSet j.val)))

/-- R334, R336, R338 to R340, R394: a restart puts PC at START and clears SR, LC and the engine's progress; a kick is event 6 of the engine; the mailboxes fill and empty, a write to a full one is lost and flagged; an instruction offered waits for the engine's next allowed boundary, one offered while another waits is lost, and there it executes without moving PC unless it jumps, or is refused; RUN starts and stops the engine; a program slot takes a write; a bank without supply is dead until it returns. -/
def Obligations.EnginesAreControlled : Prop :=
  (∀ (t : Nat) (src : Src) (e : Fin 16),
    let estat := fun (f : Field) (s : State) => s.f (Reg.PIO_ESTAT e.val) f
    let on := fun (f : Field) (s : State) => s.flag (Reg.PIO_ESTAT e.val) f
    let may := fun (s : State) => s.pio.engines.length = 16 ∧ s.pioSettle.mayManage src = true
    let running := fun (s : State) => s.flag (Reg.PIO_ECTL e.val) Fld.PIO_ECTL_RUN
    Runs (.engineRestart t src e) may (fun s u =>
      estat Fld.PIO_ESTAT_PC u = s.pioSettle.f (Reg.PIO_ECTL e.val) Fld.PIO_ECTL_START ∧ u.reg (Reg.PIO_ESR e.val) = 0 ∧ u.reg (Reg.PIO_ELC e.val) = 0 ∧
        estat Fld.PIO_ESTAT_SC u = 0 ∧ estat Fld.PIO_ESTAT_BITS_DONE u = 0 ∧ estat Fld.PIO_ESTAT_LATCH u = 0 ∧ estat Fld.PIO_ESTAT_CAUSE u = 0 ∧
        on Fld.PIO_ESTAT_FAULT u = false ∧ on Fld.PIO_ESTAT_DOUT_FULL u = false ∧
        estat Fld.PIO_ESTAT_STATE u = (if running s.pioSettle then 1 else 0) ∧
        (u.eng e.val).latched = false ∧ (u.eng e.val).fetchAt = some (s.cycle + 4) ∧ ∀ x ∈ u.pio.edges, x.engine ≠ e.val) ∧
    Runs (.engineKick t src e) may (fun s u => u.pio.events = s.pioSettle.pio.events ++ [⟨eventCycle s.tick, some e.val, 6⟩] ∧ u.regs = s.pioSettle.regs) ∧
    Runs (.doutAck t src e) may (fun s u => on Fld.PIO_ESTAT_DOUT_FULL u = false ∧ u.pio = s.pioSettle.pio ∧
      u.reg (Reg.PIO_DOUT e.val) = s.pioSettle.reg (Reg.PIO_DOUT e.val)) ∧
    Runs (.dinDrop t src e) may (fun s u => on Fld.PIO_ESTAT_DIN_FULL u = false ∧ u.pio = s.pioSettle.pio ∧
      u.reg (Reg.PIO_DIN e.val) = s.pioSettle.reg (Reg.PIO_DIN e.val)) ∧
    (∀ val : Word,
      Runs (.pioDinWrite t src e val) (fun s => may s ∧ on Fld.PIO_ESTAT_DIN_FULL s.pioSettle = false) (fun s u =>
        u.reg (Reg.PIO_DIN e.val) = val ∧ on Fld.PIO_ESTAT_DIN_FULL u = true ∧ (u.eng e.val).dinAt = s.cycle) ∧
      Runs (.pioDinWrite t src e val) (fun s => may s ∧ on Fld.PIO_ESTAT_DIN_FULL s.pioSettle = true) (fun s u =>
        u.reg (Reg.PIO_DIN e.val) = s.pioSettle.reg (Reg.PIO_DIN e.val) ∧ on Fld.PIO_ESTAT_DIN_OVR u = true ∧ on Fld.PIO_ESTAT_DIN_FULL u = true) ∧
      Runs (.pioInjWrite t src e val) (fun s => may s ∧ (s.pioSettle.eng e.val).inj = none)
        (fun _ u => (u.eng e.val).inj = some (val.toNat % 65536) ∧ on Fld.PIO_ESTAT_INJ_PEND u = true) ∧
      Runs (.pioInjWrite t src e val) (fun s => may s ∧ (s.pioSettle.eng e.val).inj.isSome = true)
        fun s u => u.pio = s.pioSettle.pio ∧ on Fld.PIO_ESTAT_INJ_LOST u = true) ∧
    (∀ (lands : BitVec 64) (bits : List Bool) (w : Nat),
      let due := fun (s : State) => s.pio.engines.length = 16 ∧ (s.pioSettle.eng e.val).inj = some w ∧ s.clock.running = true ∧
        (s.pioSettle.eng e.val).readyAt ≤ s.cycle ∧ s.pioSettle.midBit e.val = false
      let taken := fun (u : State) => (u.eng e.val).inj = none ∧ on Fld.PIO_ESTAT_INJ_PEND u = false
      let stays := fun (s u : State) => estat Fld.PIO_ESTAT_PC u = estat Fld.PIO_ESTAT_PC s.pioSettle
      Runs (.injectionExecute t e lands bits) (fun s => due s ∧ s.pioSettle.injRefused e.val (decodePio w) = true)
        (fun s u => taken u ∧ stays s u ∧ on Fld.PIO_ESTAT_INJ_REFUSED u = true ∧ u.reg (Reg.PIO_ESR e.val) = s.pioSettle.reg (Reg.PIO_ESR e.val)) ∧
      (∀ v : Nat, Runs (.injectionExecute t e lands bits) (fun s => due s ∧ decodePio w = .setLc v) fun s u =>
        taken u ∧ stays s u ∧ u.f (Reg.PIO_ELC e.val) Fld.PIO_ELC_LC = v % 2 ^ 32 ∧ (u.eng e.val).readyAt = s.cycle + 4 ∧
          estat Fld.PIO_ESTAT_BITS_DONE u = estat Fld.PIO_ESTAT_BITS_DONE s.pioSettle) ∧
      (∀ (n offset : Nat), Runs (.injectionExecute t e lands bits) (fun s => due s ∧ decodePio w = .inPins n offset) fun s u =>
        taken u ∧ stays s u ∧ u.reg (Reg.PIO_ESR e.val) =
          BitVec.ofNat 64 (s.pioSettle.sr e.val * 2 ^ n + s.pioSettle.pinsOf e.val lands.toNat offset n % 2 ^ n)) ∧
      ∀ target : Nat, Runs (.injectionExecute t e lands bits) (fun s => due s ∧ decodePio w = .jmp 0 0 target) fun s u =>
        taken u ∧ estat Fld.PIO_ESTAT_PC u = target % 32 ∧ estat Fld.PIO_ESTAT_BITS_DONE u = 0 ∧ (u.eng e.val).readyAt = s.cycle + 4) ∧
    Runs (.engineRun t src e) (fun s => may s ∧ running s.pioSettle = false ∧ estat Fld.PIO_ESTAT_STATE s.pioSettle ≠ 3) (fun s u =>
      running u = true ∧ estat Fld.PIO_ESTAT_STATE u = (if estat Fld.PIO_ESTAT_CAUSE s.pioSettle = 0 then 1 else 2) ∧
        estat Fld.PIO_ESTAT_PC u = estat Fld.PIO_ESTAT_PC s.pioSettle ∧
        ((s.pioSettle.eng e.val).latched = false → (s.pioSettle.eng e.val).fetchAt = none → (u.eng e.val).fetchAt = some (s.cycle + 4))) ∧
    Runs (.engineRun t src e) (fun s => may s ∧ running s.pioSettle = true) (fun s u => u = s.pioSettle) ∧
    Runs (.engineStop t src e) may (fun s u => running u = false ∧ estat Fld.PIO_ESTAT_PC u = estat Fld.PIO_ESTAT_PC s.pioSettle ∧ u.pio = s.pioSettle.pio ∧
      ((s.pioSettle.eng e.val).readyAt ≤ s.clock.tt → s.pioSettle.midBit e.val = false → estat Fld.PIO_ESTAT_STATE s.pioSettle ≠ 3 →
        estat Fld.PIO_ESTAT_STATE u = 0)) ∧
    ∀ (slot : Fin 32) (val : Word), Runs (.pioProgWrite t src e slot val) (fun s => s.pioSettle.mayManage src = true) fun s u =>
      u.f (Reg.PIO_PROG e.val slot.val) Fld.PIO_PROG_INSTR = val.toNat % 65536 ∧
        ∀ a, a ≠ Reg.PIO_PROG e.val slot.val → u.reg a = s.pioSettle.reg a) ∧
  ∀ (t : Nat) (bank : Fin 2),
    Runs (.bankSupplyLoss t bank) (fun _ => True) (fun s u => (∀ pin : Fin 64, u.pinLive pin.val =
      (s.pioSettle.pinLive pin.val && pin.val / 32 != bank.val)) ∧ u.regs = s.pioSettle.regs) ∧
    Runs (.bankSupplyReturn t bank) (fun _ => True) fun s u => (∀ pin : Fin 64, u.pinLive pin.val =
      (s.pioSettle.pinLive pin.val || pin.val / 32 == bank.val)) ∧ u.regs = s.pioSettle.regs

/-! ## Ethernet -/

/-- R344, R347, R369: the link comes up while RX_LOS is low and the clock is there; with boot lock the static address is taken in mode 0, else discovery begins. A fall is flagged and discards the preview frames. An offer is requested, an acknowledgement binds the address, a refusal begins anew; 30 s without a lease flags DHCP_FAIL and in mode 2 takes ETH_IP; a lease that ends withdraws the address; the client repeats, renews and rebinds. A write to the address registers clears the ARP cache and announces the address. The model's own readings in it: log entries 44 and 52. -/
def Obligations.LinkAndAddress : Prop :=
  let asks := fun (kind ip : Nat) (s u : State) => ∃ x : EthTx, u.eth.txq = s.eth.txq ++ [x] ∧ x.kind = kind ∧ x.ip = ip ∧ x.cls = 2
  let discovers := fun (s u : State) => u.eth.dhcp.state = 1 ∧ asks 6 0xFFFFFFFF s u
  (∀ (t : Nat) (modAbs rxLos txFault : Bool),
    let up := fun (s : State) => s.flag Reg.ETH_STATUS Fld.ETH_STATUS_LINK_UP
    let shown := fun (u : State) => u.flag Reg.ETH_STATUS Fld.ETH_STATUS_MOD_ABS = modAbs ∧
      u.flag Reg.ETH_STATUS Fld.ETH_STATUS_RX_LOS = rxLos ∧ u.flag Reg.ETH_STATUS Fld.ETH_STATUS_TX_FAULT = txFault
    let rises := fun (s : State) => rxLos = false ∧ s.acquiring 11 = false ∧ up s = false
    let starts := fun (s u : State) => shown u ∧ up u = true ∧ u.eth.upAt = s.clock.now ∧ u.eth.fellBack = false
    Runs (.linkUp t modAbs rxLos txFault) (fun s => rises s ∧ s.bootLocked = false) (fun s u => starts s u ∧ u.eth.txq = s.eth.txq) ∧
    Runs (.linkUp t modAbs rxLos txFault) (fun s => rises s ∧ s.bootLocked = true ∧ s.ipMode = 0) (fun s u => starts s u ∧
      u.ownIp = s.f Reg.ETH_IP Fld.ETH_IP_ADDR ∧ u.ipValid = (u.ownIp != 0) ∧ u.eth.txq = s.eth.txq) ∧
    Runs (.linkUp t modAbs rxLos txFault) (fun s => rises s ∧ s.bootLocked = true ∧ s.ipMode ≠ 0 ∧ s.eth.dhcp.state = 0)
      (fun s u => starts s u ∧ discovers s u) ∧
    Runs (.linkUp t modAbs rxLos txFault) (fun s => ¬ rises s) (fun s u => shown u ∧ up u = up s ∧ u.eth = s.eth) ∧
    Runs (.linkDown t modAbs rxLos txFault) (fun s => up s = true) (fun s u => shown u ∧ up u = false ∧
      u.flag Reg.ETH_STATUS Fld.ETH_STATUS_LINK_DOWN = true ∧ u.eth = s.eth ∧ u.prev.frames = [] ∧
      u.prev.queue = (s.prev.queue.filter fun i => i.origin != 0) ∧
      u.f Reg.ETH_PREV_CNT Fld.ETH_PREV_CNT_DROPPED = min (s.f Reg.ETH_PREV_CNT Fld.ETH_PREV_CNT_DROPPED + s.openPreviews.length) 65535) ∧
    Runs (.linkDown t modAbs rxLos txFault) (fun s => up s = false) (fun s u => shown u ∧ u.eth = s.eth ∧ u.prev = s.prev)) ∧
  (∀ (t : Nat) (m : DhcpMsg),
    let mine := fun (s : State) => s.rxOn = true ∧ m.xid.toNat = s.eth.dhcp.xid
    let waits := fun (s : State) => s.eth.dhcp.state = 2 ∨ s.eth.dhcp.state = 4 ∨ s.eth.dhcp.state = 5
    (m.kind = 0 → Runs (.dhcpRx t m) (fun s => mine s ∧ s.eth.dhcp.state = 1) fun s u => u.eth.dhcp.state = 2 ∧
      u.eth.dhcp.ip = m.ip.toNat ∧ u.eth.dhcp.server = m.server.toNat ∧ u.eth.dhcp.tries = 0 ∧ asks 7 0xFFFFFFFF s u) ∧
    (m.kind = 1 → Runs (.dhcpRx t m) (fun s => mine s ∧ waits s ∧ s.ipMode ≠ 0) fun s u => u.eth.dhcp.state = 3 ∧
      u.eth.dhcp.ip = m.ip.toNat ∧ u.eth.dhcp.boundAt = s.clock.now ∧ u.eth.dhcp.lease = m.lease ∧ u.eth.dhcp.gw = m.gw.toNat ∧
      u.ownIp = m.ip.toNat ∧ u.ipValid = (m.ip != 0) ∧ u.flag Reg.ETH_STATUS Fld.ETH_STATUS_IP_DHCP = (m.ip != 0) ∧ u.eth.txq = s.eth.txq) ∧
    (m.kind = 2 → Runs (.dhcpRx t m) (fun s => mine s ∧ waits s) discovers) ∧
    Runs (.dhcpRx t m) (fun s => ¬ mine s) (fun s u => u = s)) ∧
  (∀ t : Nat,
    let late := fun (s : State) => s.netOn = true ∧ s.ipMode ≠ 0 ∧ s.eth.fellBack = false ∧ s.eth.upAt + 30000000000 ≤ s.clock.now ∧
      s.eth.dhcp.state < 3 ∧ (s.eth.dhcp.lease = 0 ∨ s.eth.dhcp.boundAt < s.eth.upAt)
    let ended := fun (s : State) => 3 ≤ s.eth.dhcp.state ∧ s.eth.dhcp.boundAt + s.eth.dhcp.lease * 1000000000 ≤ s.clock.now
    let due := fun (n : Nat) (s : State) => s.netOn = true ∧ s.eth.dhcp.timerAt ≤ s.clock.now ∧ s.eth.dhcp.state = n
    let t2 := fun (s : State) => s.eth.dhcp.boundAt + s.eth.dhcp.t2 * 1000000000
    let failed := fun (u : State) => u.flag Reg.ETH_STATUS Fld.ETH_STATUS_DHCP_FAIL = true
    Runs (.dhcpFallbackTimeout t) late (fun s u => failed u ∧ u.eth.fellBack = true ∧
      (s.ipMode = 2 → u.ownIp = s.f Reg.ETH_IP Fld.ETH_IP_ADDR ∧ u.ipValid = (u.ownIp != 0)) ∧ (s.ipMode = 1 → u.ipValid = false)) ∧
    Runs (.dhcpFallbackTimeout t) (fun s => ¬ late s) (fun s u => u = s) ∧
    Runs (.dhcpLeaseExpiry t) ended (fun s u => failed u ∧ u.ipValid = false ∧ discovers s u) ∧
    Runs (.dhcpLeaseExpiry t) (fun s => ¬ ended s) (fun s u => u = s) ∧
    Runs (.dhcpClientTimer t) (due 1) (fun s u => discovers s u ∧ u.eth.dhcp.tries = s.eth.dhcp.tries + 1) ∧
    Runs (.dhcpClientTimer t) (fun s => due 2 s ∧ s.eth.dhcp.tries < 4)
      (fun s u => u.eth.dhcp.state = 2 ∧ u.eth.dhcp.tries = s.eth.dhcp.tries + 1 ∧ asks 7 0xFFFFFFFF s u) ∧
    Runs (.dhcpClientTimer t) (fun s => due 2 s ∧ 4 ≤ s.eth.dhcp.tries) discovers ∧
    Runs (.dhcpClientTimer t) (fun s => due 3 s ∨ due 4 s ∧ s.clock.now < t2 s)
      (fun s u => u.eth.dhcp.state = 4 ∧ asks 7 s.eth.dhcp.server s u) ∧
    Runs (.dhcpClientTimer t) (fun s => due 4 s ∧ t2 s ≤ s.clock.now ∨ due 5 s) (fun s u => u.eth.dhcp.state = 5 ∧ asks 7 0xFFFFFFFF s u) ∧
    Runs (.dhcpClientTimer t) (fun s => s.netOn = false ∨ s.clock.now < s.eth.dhcp.timerAt) (fun s u => u = s)) ∧
  ∀ (t : Nat) (src : Src) (addr : Nat) (val : Word),
    (∀ d : RegDef, regAt addr = some d → addr = Reg.ETH_CFG ∨ addr = Reg.ETH_IP ∨ addr = Reg.ETH_GW →
      Runs (.ethAddressWrite t src addr val) (fun s => s.mayManage src = true) fun s u => u.reg addr = writtenWord d (s.reg addr) val ∧
        u.eth.arp = [] ∧ u.eth.announces = (if u.ipValid then 2 else 0) ∧ u.eth.announceAt = s.clock.now ∧
        (s.netOn = true → u.ipMode = 0 → u.ownIp = u.f Reg.ETH_IP Fld.ETH_IP_ADDR)) ∧
    (addr ≠ Reg.ETH_CFG → addr ≠ Reg.ETH_IP → addr ≠ Reg.ETH_GW →
      Runs (.ethAddressWrite t src addr val) (fun _ => True) fun s u => u = s)

/-- R346, R348 to R350, R361, R363, R364: a request for the device's address is answered and its sender cached; another station's claim to the address sets ARP_CONFLICT and the device keeps it; a destination is asked for up to three times, 1 s apart; two announcements go 2 s apart; an entry goes after 300 s. Echo requests up to the limit are answered. The transmitter sends a ready frame of the first class that has one, a Delay_Req with its stamp, and else a preview datagram within the rate limit; one whose destination is unresolved is discarded and counted. The model's own readings in it: log entries 45 and 47. -/
def Obligations.ArpEchoAndTransmission : Prop :=
  let ask := fun (s : State) (ip : Nat) => ({ cls := 2, kind := 2, ip := 0, words := [s.mac, s.ownIp, ip] } : EthTx)
  (∀ (t : Nat) (m : ArpMsg),
    let me := fun (s : State) => s.rxOn = true ∧ s.ipValid = true ∧ m.targetIp.toNat = s.ownIp
    let sender := m.senderIp.toNat
    let entry := fun (s : State) => (some ⟨sender, some m.senderMac.toNat, s.clock.now, 0⟩ : Option ArpEntry)
    Runs (.arpRx t m) (fun s => me s ∧ m.reply = false ∧ sender ≠ 0 ∧ sender ≠ s.ownIp) (fun s u => u.arpEntry sender = entry s ∧
      u.eth.txq = s.eth.txq ++ [{ cls := 2, kind := 3, ip := 0, words := [s.mac, s.ownIp, sender, m.senderMac.toNat] }]) ∧
    Runs (.arpRx t m) (fun s => s.rxOn = true ∧ m.reply = true ∧ sender ≠ 0 ∧ sender ≠ s.ownIp ∧ (s.arpEntry sender).isSome = true)
      (fun s u => u.arpEntry sender = entry s ∧ u.eth.txq = s.eth.txq ∧ u.eth.arp.length ≤ 16) ∧
    Runs (.arpRx t m) (fun s => s.rxOn = true ∧ s.ipValid = true ∧ sender = s.ownIp ∧ m.senderMac.toNat ≠ s.mac ∧ (m.reply = true ∨ m.targetIp = m.senderIp))
      (fun s u => u.flag Reg.ETH_STATUS Fld.ETH_STATUS_ARP_CONFLICT = true ∧ u.ownIp = s.ownIp ∧ u.ipValid = true ∧ u.eth = s.eth) ∧
    Runs (.arpRx t m) (fun s => s.rxOn = false) (fun s u => u = s)) ∧
  (∀ t ip : Nat,
    let open' := fun (e : ArpEntry) (s : State) => s.arpEntry ip = some e ∧ e.mac = none ∧ e.at' + 1000000000 ≤ s.clock.now
    (∀ e : ArpEntry,
      Runs (.arpRetryTimeout t ip) (fun s => open' e s ∧ e.tries < 3) (fun s u =>
        u.arpEntry ip = some { e with at' := s.clock.now, tries := e.tries + 1 } ∧ u.eth.txq = s.eth.txq ++ [ask s ip]) ∧
      Runs (.arpRetryTimeout t ip) (fun s => open' e s ∧ 3 ≤ e.tries) (fun s u => u.arpEntry ip = none ∧ u.eth.txq = s.eth.txq)) ∧
    Runs (.arpRetryTimeout t ip) (fun s => ∀ e, ¬ open' e s) (fun s u => u = s) ∧
    Runs (.arpEntryAgeout t ip) (fun _ => True) (fun s u => u.regs = s.regs ∧ ∀ e, e ∈ u.eth.arp ↔ e ∈ s.eth.arp ∧
      ¬ (e.ip = ip ∧ e.mac.isSome = true ∧ e.at' + 300000000000 ≤ s.clock.now))) ∧
  (∀ t : Nat,
    let due := fun (s : State) => s.netOn = true ∧ s.ipValid = true ∧ 0 < s.eth.announces ∧ s.eth.announceAt ≤ s.clock.now
    Runs (.arpAnnounce t) due (fun s u => u.eth.announces = s.eth.announces - 1 ∧ u.eth.announceAt = s.clock.now + 2000000000 ∧
      u.eth.txq = s.eth.txq ++ [{ cls := 2, kind := 4, ip := 0, words := [s.mac, s.ownIp, s.ownIp] }]) ∧
    Runs (.arpAnnounce t) (fun s => ¬ due s) (fun s u => u = s)) ∧
  (∀ (t : Nat) (m : IcmpMsg),
    let answers := fun (s : State) => s.rxOn = true ∧ s.ipValid = true ∧ m.echo = true ∧ s.flag Reg.ETH_CFG Fld.ETH_CFG_ICMP_EN = true ∧
      m.payload.length ≤ (if s.flag Reg.ETH_CFG Fld.ETH_CFG_JUMBO then 8972 else 1472)
    let reply := ({ cls := 2, kind := 5, ip := m.ip.toNat, words := [m.ident.toNat], bytes := m.payload } : EthTx)
    Runs (.icmpEchoRequest t m) (fun s => answers s ∧ s.nextHop m.ip.toNat = none) (fun s u => u.eth.txq = s.eth.txq ++ [reply]) ∧
    (∀ hop : Nat, Runs (.icmpEchoRequest t m) (fun s => answers s ∧ s.nextHop m.ip.toNat = some hop) fun s u => u.eth.txq =
      s.eth.txq ++ reply :: (if hop = 0 ∨ (s.arpEntry hop).isSome then [] else [ask s hop])) ∧
    Runs (.icmpEchoRequest t m) (fun s => ¬ answers s) (fun s u => u = s)) ∧
  ∀ t : Nat,
    let ready := fun (s : State) (x : EthTx) => x ∈ s.routeQueue.eth.txq ∧ s.routeQueue.txReady x = true ∧ 1 ≤ x.cls ∧ x.cls ≤ 3
    let idle := fun (s : State) => ∀ x, ¬ ready s x
    let front := fun (i : PreviewItem) (s : State) => s.txOn = true ∧ s.ipValid = true ∧ s.prev.clearAt ≤ s.clock.now ∧ s.prev.queue.head? = some i
    let dst := fun (i : PreviewItem) => Fld.ETH_PREV_DST_ADDR.get i.dst
    let goes := fun (i : PreviewItem) (s u : State) =>
      u.wire = s.wire ++ [.eth 9 [dst i, Fld.ETH_PREV_DST_PORT.get i.dst] (i.header ++ i.bytes)] ∧ u.prev.queue = s.prev.queue.tail ∧
        u.prev.clearAt = s.clock.now + s.previewTime i.bytes.length
    let lost := fun (i : PreviewItem) (s u : State) => u.wire = s.wire ∧ u.prev.queue = s.prev.queue.tail ∧ u.fy = (s.noteLost i.desc.toList).fy ∧
      u.f Reg.ETH_PREV_CNT Fld.ETH_PREV_CNT_UNRESOLVED = min (s.f Reg.ETH_PREV_CNT Fld.ETH_PREV_CNT_UNRESOLVED + 1) 65535
    let hop := fun (i : PreviewItem) (h : Nat) (b : Bool) (s : State) => s.routeQueue.nextHop (dst i) = some h ∧ s.routeQueue.resolved h = b
    Runs (.ethFrameTransmit t) (fun s => s.txOn = true ∧ ∃ x, ready s x) (fun s u => ∃ x, ready s x ∧ (∀ y, ready s y → x.cls ≤ y.cls) ∧
      u.wire = s.wire ++ [x.wire] ∧ u.eth.txq = s.routeQueue.eth.txq.erase x ∧ u.prev = s.prev ∧
      (x.kind = 1 → u.eth.ptp.req = some (x.words.headD 0, s.fineNow))) ∧
    Runs (.ethFrameTransmit t) (fun s => s.txOn = false) (fun s u => u = s) ∧
    (∀ (i : PreviewItem) (h : Nat),
      Runs (.ethFrameTransmit t) (fun s => idle s ∧ front i s ∧ hop i h true s) (goes i) ∧
      Runs (.ethFrameTransmit t) (fun s => idle s ∧ front i s ∧ hop i h false s) (lost i) ∧
      Runs (.previewDatagramSend t) (fun s => idle s ∧ front i s ∧ hop i h true s) (goes i) ∧
      Runs (.previewDatagramSend t) (fun s => idle s ∧ front i s ∧ hop i h false s) (lost i)) ∧
    Runs (.previewDatagramSend t) (fun s => (∃ x, ready s x) ∨ s.txOn = false ∨ s.clock.now < s.prev.clearAt)
      (fun s u => u.wire = s.wire ∧ u.prev = s.prev)

/-- R294, R351 to R353: a master's Announce enters it once, and twice within four intervals makes it eligible; the master in use is the best eligible one, or none. A two-step Sync of the master waits for its Follow_Up, which gives the offset, applied by the root alone and locking after 16 within 100 ns; a one-step Sync or one of another domain is ignored and counted. Delay_Req goes to the group address, and its response gives the mean path delay. A late pair loses the lock. The model's own readings in it: log entries 15 and 46. -/
def Obligations.PrecisionTimeFollowsItsMaster : Prop :=
  ∀ (t : Nat) (m : PtpMsg),
    let on := fun (s : State) => s.ptpOn = true ∧ s.ptpDomain m = true
    let state := fun (s : State) => s.f Reg.ETH_PTP_STAT Fld.ETH_PTP_STAT_STATE
    let ofMaster := fun (s : State) => on s ∧ s.fromMaster m = true
    let known := fun (f : Foreign) (s : State) => s.eth.ptp.foreign = [f] ∧ samePort f.msg m = true
    let near := fun (f : Foreign) (s : State) => s.clock.now ≤ f.at' + 4 * ptpInterval m.logInterval
    let paired := fun (y : Nat × Nat × Int) (s : State) => ofMaster s ∧ s.eth.ptp.sync = some y ∧ y.1 = m.seq.toNat
    let ms := fun (y : Nat × Nat × Int) => centred 80 ((y.2.1 : Int) - m.origin - y.2.2 - m.correction)
    let measured := fun (y : Nat × Nat × Int) (s u : State) => u.eth.ptp.sync = none ∧ u.eth.ptp.ms = some (ms y) ∧ u.eth.ptp.pairAt = s.clock.now ∧
      Fld.ETH_PTP_OFS_OFFSET.sget (u.reg Reg.ETH_PTP_OFS) = psField (ms y - s.eth.ptp.delay)
    let off := fun (y : Nat × Nat × Int) (s : State) => ms y - s.eth.ptp.delay
    let asksNow := fun (s : State) => s.ptpOn = true ∧ s.eth.ptp.master.isSome = true ∧ s.eth.ptp.ms.isSome = true ∧ s.eth.ptp.reqAt ≤ s.clock.now
    let answered := fun (r : Nat × Nat) (v : Int) (s : State) => ofMaster s ∧ s.eth.ptp.req = some r ∧ s.eth.ptp.ms = some v ∧ m.forUs = true ∧ r.1 = m.seq.toNat
    let delay := fun (r : Nat × Nat) (v : Int) => roundDiv (v + centred 80 ((m.origin : Int) - r.2 - m.correction)) 2
    (Runs (.ptpAnnounceRx t m) on (fun s u => u.eth.ptp.master = u.ptpBest) ∧
      Runs (.ptpAnnounceRx t m) (fun s => on s ∧ ∀ f ∈ s.eth.ptp.foreign, samePort f.msg m = false)
        (fun s u => u.eth.ptp.foreign = s.eth.ptp.foreign ++ [⟨m, s.clock.now, 1⟩]) ∧
      (∀ f : Foreign,
        Runs (.ptpAnnounceRx t m) (fun s => on s ∧ known f s ∧ near f s) (fun s u => u.eth.ptp.foreign = [⟨m, s.clock.now, f.count + 1⟩]) ∧
        Runs (.ptpAnnounceRx t m) (fun s => on s ∧ known f s ∧ ¬ near f s) (fun s u => u.eth.ptp.foreign = [⟨m, s.clock.now, 1⟩]) ∧
        Runs (.ptpAnnounceRx t m)
          (fun s => on s ∧ known f s ∧ near f s ∧ 1 ≤ f.count ∧ s.eth.ptp.master = none ∧ m.steps.toNat < 255 ∧ 0 < ptpInterval m.logInterval)
          fun s u => u.eth.ptp.master = some m ∧ u.reg Reg.ETH_PTP_GM = m.gm ∧ state u = 1 ∧
            u.f Reg.ETH_PTP_STAT Fld.ETH_PTP_STAT_UTC_OFFSET = m.utcOffset.toNat) ∧
      Runs (.ptpAnnounceRx t m) (fun s => ¬ on s) (fun s u => u = s)) ∧
    (Runs (.ptpSyncRx t m) (fun s => ofMaster s ∧ m.twoStep = true)
        (fun s u => u.eth.ptp = { s.eth.ptp with sync := some (m.seq.toNat, m.rxFine, m.correction) } ∧ u.regs = s.regs) ∧
      Runs (.ptpSyncRx t m) (fun s => s.ptpOn = true ∧ (s.ptpDomain m = false ∨ m.twoStep = false)) (fun s u => u.eth = s.eth ∧
        u.f Reg.ETH_PTP_STAT Fld.ETH_PTP_STAT_IGNORED = min (s.f Reg.ETH_PTP_STAT Fld.ETH_PTP_STAT_IGNORED + 1) 65535) ∧
      Runs (.ptpSyncRx t m) (fun s => s.ptpOn = false ∨ on s ∧ m.twoStep = true ∧ s.fromMaster m = false) (fun s u => u = s)) ∧
    (∀ y : Nat × Nat × Int,
      Runs (.ptpFollowUpRx t m) (fun s => paired y s ∧ s.isRoot = false) (fun s u => measured y s u ∧ u.clock = s.clock) ∧
      Runs (.ptpFollowUpRx t m) (fun s => paired y s ∧ s.isRoot = true ∧ (off y s).natAbs ≤ 1000 * 65536) (fun s u => measured y s u ∧
        u.clock = { s.clock with slew := -(off y s) } ∧
        u.eth.ptp.good = (if (off y s).natAbs ≤ 100 * 65536 then s.eth.ptp.good + 1 else 0)) ∧
      Runs (.ptpFollowUpRx t m) (fun s => paired y s ∧ s.isRoot = true ∧ (off y s).natAbs ≤ 100 * 65536 ∧ 15 ≤ s.eth.ptp.good)
        (fun s u => state u = 2) ∧
      Runs (.ptpFollowUpRx t m)
        (fun s => paired y s ∧ s.isRoot = true ∧ 1000 * 65536 < (off y s).natAbs ∧ s.flag Reg.TT_STATUS Fld.TT_STATUS_RUNNING = true)
        fun s u => measured y s u ∧ u.clock.step = some (-(off y s)) ∧ u.clock.slew = 0) ∧
    Runs (.ptpFollowUpRx t m) (fun s => ∀ y, ¬ paired y s) (fun s u => u = s) ∧
    (Runs (.ptpDelayReqSend t) asksNow (fun s u => u.eth.ptp.reqSeq = (s.eth.ptp.reqSeq + 1) % 65536 ∧ u.eth.ptp.req = none ∧
        u.eth.txq = s.eth.txq ++ [{ cls := 1, kind := 1, ip := 0xE0000181, words := [s.eth.ptp.reqSeq] }] ∧
        s.clock.now ≤ u.eth.ptp.reqAt ∧ u.eth.ptp.reqAt ≤ s.clock.now + 2 * ptpInterval s.eth.ptp.reqLog) ∧
      Runs (.ptpDelayReqSend t) (fun s => ¬ asksNow s) (fun s u => u = s)) ∧
    (∀ (r : Nat × Nat) (v : Int), Runs (.ptpDelayRespRx t m) (answered r v) fun s u => u.eth.ptp.delay = delay r v ∧ u.eth.ptp.req = none ∧
      u.eth.ptp.reqLog = m.logInterval ∧
      u.f Reg.ETH_PTP_OFS Fld.ETH_PTP_OFS_DELAY = (clampInt 0 4294967295 (roundDiv (delay r v * 1000) 65536)).toNat) ∧
    Runs (.ptpDelayRespRx t m) (fun s => ∀ r v, ¬ answered r v s) (fun s u => u = s) ∧
    (∀ x : PtpMsg,
      let held := fun (b : Bool) (s : State) => s.eth.ptp.master = some x ∧
        decide (s.eth.ptp.pairAt + ptpReceiptTimeout * ptpInterval x.logInterval ≤ s.clock.now) = b ∧
        ∃ a, s.ptpBest = some a ∧ samePort a x = true ∧ a.gm = x.gm
      Runs (.ptpAnnounceTimeout t) (fun s => s.eth.ptp.master = some x) (fun s u => u.eth.ptp.master = s.ptpBest) ∧
      Runs (.ptpAnnounceTimeout t) (fun s => s.eth.ptp.master = some x ∧ s.ptpBest = none)
        (fun s u => u.eth.ptp.master = none ∧ state u = 0 ∧ u.reg Reg.ETH_PTP_GM = 0) ∧
      Runs (.ptpAnnounceTimeout t) (fun s => held true s ∧ state s = 2) (fun s u => state u = 1 ∧ u.eth.ptp.good = 0 ∧
        (s.isRoot = true → u.f Reg.FB_TSTAT Fld.FB_TSTAT_STATE = 3 ∧ u.flag Reg.FB_TSTAT Fld.FB_TSTAT_PTP_LOCK = false)) ∧
      Runs (.ptpAnnounceTimeout t) (held false) (fun s u => state u = state s)) ∧
    Runs (.ptpAnnounceTimeout t) (fun s => s.eth.ptp.master = none) (fun s u => u = s)

/-! ## Witrig -/

/-- R9 to R11, R305, R354 to R360, R387, R388: a request that the queue of 64 cannot take is dropped and counted; a bad header or body is answered with FORMAT, an unknown target with NODE; a request for this device waits for its execution, another goes on its way, up to 16 in flight. One at a time they are executed and answered where they came from: a READ with the words it read, up to a failing access; a WRITE only in an open session, under a good tag and a rising counter, with an exact repeat answered again and not executed; NODES with the valid entries. The model's own readings in it: log entry 54. -/
def Obligations.WitrigRequestsAreServed : Prop :=
  let tx := fun (m : WitrigMsg) (r : WitrigResp) => ({ cls := 3, kind := 8, ip := m.ip.toNat, words := [], resp := some (m.port.toNat, r) } : EthTx)
  let cnt := fun (f : Field) (s : State) => s.f Reg.ETH_WT_CNT f
  let tells := fun (m : WitrigMsg) (r : WitrigResp) (s u : State) => u.eth.txq = s.eth.txq ++ [tx m r] ∧
    cnt Fld.ETH_WT_CNT_REQUESTS u = (cnt Fld.ETH_WT_CNT_REQUESTS s + 1) % 2 ^ 32 ∧
    cnt Fld.ETH_WT_CNT_ERRORS u = (if r.status = 0 then cnt Fld.ETH_WT_CNT_ERRORS s else min (cnt Fld.ETH_WT_CNT_ERRORS s + 1) 65535)
  let answers := fun (m : WitrigMsg) (r : WitrigResp) (s u : State) => tells m r s u ∧ u.eth.reqs = s.eth.reqs.tail
  let front := fun (m : WitrigMsg) (op : Nat) (s : State) => s.eth.reqs.head? = some m ∧ m.opcode.toNat = op ∧ (m.expect = 0 ∨ m.expect = s.devid)
  let words := fun (vs : List Word) => beBytes 2 vs.length ++ [0, 0] ++ vs.flatMap beWord
  (∀ (t : Nat) (m : WitrigMsg),
    let room := fun (s : State) => s.rxOn = true ∧ s.ipValid = true ∧ s.eth.reqs.length < 64
    let good := fun (s : State) => room s ∧ m.magic = 0x5754 ∧ m.version = 1
    let forUs := fun (s : State) => good s ∧ (hasBit m.flags.toNat 0 = true ∨
      ∃ k, s.nodeOf (m.target.toNat % 4096) = some k ∧ s.flag (Reg.FB_NODE_INFO k) Fld.FB_NODE_INFO_SELF = true)
    let dst := m.target.toNat % 4096
    let away := fun (s : State) => good s ∧ hasBit m.flags.toNat 0 = false ∧
      ∃ k, s.nodeOf dst = some k ∧ s.flag (Reg.FB_NODE_INFO k) Fld.FB_NODE_INFO_SELF = false
    Runs (.witrigRequestRx t m true) (fun _ => True) (fun s u => u = s) ∧
    Runs (.witrigRequestRx t m false) (fun s => s.rxOn = false ∨ s.ipValid = false) (fun s u => u = s) ∧
    Runs (.witrigRequestRx t m false) (fun s => s.rxOn = true ∧ s.ipValid = true ∧ 64 ≤ s.eth.reqs.length) (fun s u => u.eth = s.eth ∧
      u.flag Reg.ETH_STATUS Fld.ETH_STATUS_RX_DROP = true ∧
      cnt Fld.ETH_WT_CNT_RX_DROP u = min (cnt Fld.ETH_WT_CNT_RX_DROP s + 1) 65535) ∧
    Runs (.witrigRequestRx t m false) (fun s => room s ∧ (m.magic ≠ 0x5754 ∨ m.version ≠ 1))
      (fun s u => tells m (witFail m 4 false) s u ∧ u.eth.reqs = s.eth.reqs) ∧
    Runs (.witrigRequestRx t m false) (fun s => forUs s ∧ witBad m = true) (fun s u => tells m (witFail m 4 false) s u ∧ u.eth.reqs = s.eth.reqs) ∧
    Runs (.witrigRequestRx t m false) (fun s => forUs s ∧ witBad m = false) (fun s u => u = { s with eth := { s.eth with reqs := s.eth.reqs ++ [m] } }) ∧
    Runs (.witrigRequestRx t m false) (fun s => good s ∧ hasBit m.flags.toNat 0 = false ∧ s.nodeOf dst = none)
      (fun s u => tells m (witFail m 8 false) s u ∧ u.eth.reqs = s.eth.reqs) ∧
    (∀ p : Nat, Runs (.witrigRequestRx t m false) (fun s => away s ∧ s.kf.flights.length < 16 ∧ s.routeTo dst = some p) fun s u =>
      u.wire = s.wire ++ [.tunnel p s.fabAddr dst 0 s.kf.handle (some m) none] ∧ u.eth = s.eth ∧
        u.kf.flights = s.kf.flights ++ [⟨s.kf.handle, m.ip.toNat, m.port.toNat⟩] ∧ u.kf.handle = (s.kf.handle + 1) % 2 ^ 32 ∧
        u.f Reg.FB_TUN_CNT Fld.FB_TUN_CNT_INFLIGHT = s.kf.flights.length + 1) ∧
    Runs (.witrigRequestRx t m false) (fun s => away s ∧ (16 ≤ s.kf.flights.length ∨ s.routeTo dst = none)) fun s u => u.wire = s.wire ∧
      u.eth = s.eth ∧ u.kf = s.kf ∧ u.flag Reg.FB_STATUS Fld.FB_STATUS_TUN_DROP = true ∧
      u.f Reg.FB_TUN_CNT Fld.FB_TUN_CNT_DROPPED = min (s.f Reg.FB_TUN_CNT Fld.FB_TUN_CNT_DROPPED + 1) 65535) ∧
  (∀ (t : Nat) (lands : BitVec 64) (m : WitrigMsg),
    let at1 := fun (a : Nat) => witAt m 0 4 = a ∧ witAt m 4 2 = 1
    Runs (.read t .eth lands) (front m 1) (fun s u => answers m ((s.seeLands lands).witRead .eth m).2 s u ∧ u.wire = s.wire) ∧
    (∀ a, at1 a → a = Reg.ID_SCRATCH ∨ a = Reg.ID_DEVID → Runs (.read t .eth lands) (front m 1) fun s u =>
      answers m (witResp m 0 false (words [s.reg a])) s u) ∧
    (∀ a, at1 a → a % 8 ≠ 0 → Runs (.read t .eth lands) (front m 1) fun s u => answers m (witResp m 1 false (words [])) s u) ∧
    (∀ a, at1 a → a % 8 = 0 → inWindow a = false → Runs (.read t .eth lands) (front m 1) fun s u => answers m (witResp m 2 false (words [])) s u) ∧
    (∀ a, at1 a → a % 8 = 0 → inWindow a = true → regAt a = none → Runs (.read t .eth lands) (front m 1) fun s u =>
      answers m (witResp m 0 false (words [0])) s u) ∧
    (∀ (q : TunReq) (p : Nat), Runs (.read t .tunnel lands)
      (fun s => s.kf.tunReqs.head? = some q ∧ q.msg.opcode.toNat = 1 ∧ (q.msg.expect = 0 ∨ q.msg.expect = s.devid) ∧ q.entry ≠ 0xFFF ∧ s.routeTo q.entry = some p)
      fun s u => u.kf.tunReqs = s.kf.tunReqs.tail ∧
        u.wire = s.wire ++ [.tunnel p s.fabAddr q.entry 0 q.handle none (some ((s.seeLands lands).witRead .tunnel q.msg).2)]) ∧
    Runs (.read t .purser lands) (fun _ => True) (fun s u => u = s.seeLands lands)) ∧
  (∀ (t : Nat) (lands : BitVec 64) (m : WitrigMsg),
    ∀ c ∈ ([(.read t .eth lands, 1, 0), (.write t .eth, 2, 0), (.nodes t .eth, 3, 0), (.challenge t .eth, 4, 1), (.openSession t .eth, 4, 2),
      (.closeSession t .eth, 4, 3), (.attest t .eth, 4, 4)] : List (Instr × Nat × Nat)),
      Runs c.1 (fun s => s.eth.reqs.head? = some m ∧ m.opcode.toNat = c.2.1 ∧ (c.2.1 = 4 → witAt m 0 1 = c.2.2) ∧ m.expect ≠ 0 ∧ m.expect ≠ s.devid)
        (fun s u => answers m (witFail m 9 false) s u ∧ u.boot = s.boot) ∧
      Runs c.1 (fun s => s.eth.reqs.head? = some m ∧ (m.opcode.toNat ≠ c.2.1 ∨ c.2.1 = 4 ∧ witAt m 0 1 ≠ c.2.2))
        fun s u => u.eth = s.eth ∧ u.regs = s.regs ∧ u.boot = s.boot) ∧
  (∀ (t : Nat) (m : WitrigMsg),
    ∀ c ∈ ([(.write t .eth, 2), (.closeSession t .eth, 4)] : List (Instr × Nat)), (c.2 = 4 → witAt m 0 1 = 3) →
      let signed := hasBit m.flags.toNat 1 = true ∧ m.tagOk = true
      let last := fun (i : Nat) (s : State) => (s.reg (Reg.SEC_SESS_CTR i)).toNat
      let refused := fun (r : WitrigResp) (s u : State) => answers m r s u ∧ u.boot = s.boot ∧ ∀ i : Fin 4, last i.val u = last i.val s
      Runs c.1 (fun s => front m c.2 s ∧ s.sessionOf m = none) (refused (witFail m 5 false)) ∧
      ∀ i : Nat,
        Runs c.1 (fun s => front m c.2 s ∧ s.sessionOf m = some i ∧ ¬ signed) (refused (witFail m 6 false)) ∧
        Runs c.1 (fun s => front m c.2 s ∧ s.sessionOf m = some i ∧ signed ∧ m.ctr.toNat < last i s) (refused (witFail m 7 true)) ∧
        ∀ (x : Session) (r : WitrigResp),
          let kept := fun (s : State) => (s.boot.sessions.find? fun y => y.slot == i) = some x ∧ x.lastResp = some r
          Runs c.1 (fun s => front m c.2 s ∧ s.sessionOf m = some i ∧ signed ∧ m.ctr.toNat = last i s ∧ kept s ∧ x.lastReq = some (witBytes m)) (refused r) ∧
          Runs c.1 (fun s => front m c.2 s ∧ s.sessionOf m = some i ∧ signed ∧ m.ctr.toNat = last i s ∧ kept s ∧ x.lastReq ≠ some (witBytes m))
            (refused (witFail m 7 true))) ∧
  (∀ (t i : Nat) (m : WitrigMsg),
    let accepted := fun (s : State) => s.sessionOf m = some i ∧ hasBit m.flags.toNat 1 = true ∧ m.tagOk = true ∧
      (s.reg (Reg.SEC_SESS_CTR i)).toNat < m.ctr.toNat ∧ m.ctr.toNat ≠ 2 ^ 64 - 1
    let one := fun (a : Nat) => witAt m 0 2 = 1 ∧ witAt m 4 4 = a
    let done := fun (n st : Nat) => witResp m st true (beBytes 2 n ++ [0, 0])
    (one Reg.ID_SCRATCH → Runs (.write t .eth) (fun s => front m 2 s ∧ accepted s) fun s u => answers m (done 1 0) s u ∧
      u.reg Reg.ID_SCRATCH = BitVec.ofNat 64 (witAt m 12 8) ∧ u.reg (Reg.SEC_SESS_CTR i) = m.ctr) ∧
    (∀ a, one a → accessStatus a ≠ 0 → Runs (.write t .eth) (fun s => front m 2 s ∧ accepted s) fun s u =>
      answers m (done 0 (accessStatus a)) s u ∧ u.reg (Reg.SEC_SESS_CTR i) = m.ctr) ∧
    (∀ (a : Nat) (d : RegDef), one a → accessStatus a = 0 → regAt a = some d → d.locked = true →
      Runs (.write t .eth) (fun s => front m 2 s ∧ accepted s ∧ s.bootLocked = true) fun s u =>
        answers m (done 0 3) s u ∧ u.reg (Reg.SEC_SESS_CTR i) = m.ctr) ∧
    (witAt m 0 1 = 3 → Runs (.closeSession t .eth) (fun s => front m 4 s ∧ accepted s) fun s u =>
      answers m (witResp m 0 true [3, 0, 0, 0]) s u ∧ u.reg (Reg.SEC_SESS i) = 0 ∧ u.reg (Reg.SEC_SESS_CTR i) = 0 ∧
        ∀ x ∈ u.boot.sessions, x.slot ≠ i)) ∧
  ∀ (t : Nat) (m : WitrigMsg),
    let shows := fun (k : Nat) (s : State) => s.flag (Reg.FB_NODE_INFO k) Fld.FB_NODE_INFO_VALID = true
    Runs (.nodes t .eth) (fun s => front m 3 s ∧ ∀ k : Fin 64, ¬ shows k.val s) (fun s u => answers m (witResp m 0 false [0, 0, 0, 0]) s u) ∧
    ∀ k : Fin 64, Runs (.nodes t .eth) (fun s => front m 3 s ∧ ∀ j : Fin 64, shows j.val s ↔ j = k) fun s u =>
      answers m (witResp m 0 false ([0, 1, 0, 0] ++ beWord (s.reg (Reg.FB_NODE_ID k.val)) ++
        beBytes 2 (s.f (Reg.FB_NODE_INFO k.val) Fld.FB_NODE_INFO_ADDR) ++ beBytes 1 (s.f (Reg.FB_NODE_INFO k.val) Fld.FB_NODE_INFO_HOPS) ++ List.replicate 5 0)) s u

/-- R384, R386, R388: CHALLENGE gives a fresh number and nonce and keeps eight; OPEN consumes its challenge, and where that is at most 10 s old, the key usable and the signature good it opens a session with counter 0, else AUTH; an attestation tells the device, the slot booted and the boot state; a session without an accepted request for 300 s is closed. The model's own readings in it: log entry 56. -/
def Obligations.SessionsAndAttestation : Prop :=
  (∀ (t : Nat) (m : WitrigMsg),
    let tx := fun (r : WitrigResp) => ({ cls := 3, kind := 8, ip := m.ip.toNat, words := [], resp := some (m.port.toNat, r) } : EthTx)
    let answers := fun (r : WitrigResp) (s u : State) => u.eth.txq = s.eth.txq ++ [tx r] ∧ u.eth.reqs = s.eth.reqs.tail
    let front := fun (sub : Nat) (s : State) => s.eth.reqs.head? = some m ∧ m.opcode.toNat = 4 ∧ witAt m 0 1 = sub ∧ (m.expect = 0 ∨ m.expect = s.devid)
    let k := witAt m 4 1
    let id := witAt m 8 4
    let held := fun (s : State) => s.boot.challenges.find? fun c => c.id == id
    let fits := fun (s : State) => (∃ c, held s = some c ∧ s.clock.now ≤ c.at' + 10000000000) ∧ k < 4 ∧ s.keyUsable k = true ∧
      m.keyOk = true ∧ m.sigOk = true ∧ m.pointOk = true
    Runs (.challenge t .eth) (front 1) (fun s u => ∃ nonce : List Word, nonce.length = 4 ∧
      answers (witResp m 0 false ([1, 0, 0, 0] ++ beBytes 4 s.boot.chalId ++ nonce.flatMap beWord)) s u ∧
      u.boot.challenges = (s.boot.challenges ++ [(⟨s.boot.chalId, nonce, s.clock.now⟩ : Challenge)]).drop (s.boot.challenges.length - 7) ∧
      u.boot.chalId = (s.boot.chalId + 1) % 2 ^ 32) ∧
    Runs (.openSession t .eth) (fun s => front 2 s ∧ fits s) (fun s u =>
      let i := s.sessionSlot
      (∃ point : List Byte, point.length = 128 ∧ answers (witResp m 0 false ([2, 0, 0, 0] ++
        beBytes 4 (u.f (Reg.SEC_SESS i) Fld.SEC_SESS_SESSION) ++ point)) s u) ∧
      u.flag (Reg.SEC_SESS i) Fld.SEC_SESS_OPEN = true ∧ u.f (Reg.SEC_SESS i) Fld.SEC_SESS_KEY_IDX = k ∧
      u.f (Reg.SEC_SESS i) Fld.SEC_SESS_SESSION ≠ 0 ∧ u.reg (Reg.SEC_SESS_CTR i) = 0 ∧
      (∀ c ∈ u.boot.challenges, c.id ≠ id) ∧ (∃ x ∈ u.boot.sessions, x.slot = i ∧ x.lastAt = s.clock.now ∧ x.lastReq = none) ∧
      ((∃ j : Fin 4, s.flag (Reg.SEC_SESS j.val) Fld.SEC_SESS_OPEN = false) → s.flag (Reg.SEC_SESS i) Fld.SEC_SESS_OPEN = false)) ∧
    Runs (.openSession t .eth) (fun s => front 2 s ∧ ¬ fits s) (fun s u => answers (witFail m 6 false) s u ∧
      (∀ c ∈ u.boot.challenges, c.id ≠ id) ∧ u.boot.sessions = s.boot.sessions ∧
      ∀ i : Fin 4, u.reg (Reg.SEC_SESS i.val) = s.reg (Reg.SEC_SESS i.val)) ∧
    (∀ i : Nat, Runs (.attest t .eth) (fun s => front 4 s ∧ s.boot.booted = some i) fun s u => ∃ tail : List Byte, tail.length = 96 ∧
      answers (witResp m 0 false ([4, 0, 0, 0] ++ beWord s.devid ++ beBytes 1 i ++ beBytes 1 (s.header i 0xF 1) ++
        beBytes 1 ((if s.bootLocked then 2 else 0) + (if s.markSet i 0x803 then 4 else 0)) ++ [0] ++ beBytes 4 (s.header i 8 4) ++
        s.flashBytes (s.slotBase i + 0x20) 32 ++ tail)) s u) ∧
    Runs (.attest t .eth) (fun s => front 4 s ∧ s.boot.booted = none) fun s u => ∃ rest : List Byte, rest.length = 135 ∧
      answers (witResp m 0 false ([4, 0, 0, 0] ++ beWord s.devid ++ [0xFF] ++ rest)) s u) ∧
  ∀ (t : Nat) (i : Fin 4) (x : Session),
    let has := fun (s : State) => (s.boot.sessions.find? fun y => y.slot == i.val) = some x
    Runs (.sessionIdleTimeout t i) (fun s => has s ∧ x.lastAt + 300000000000 ≤ s.clock.now) (fun s u => u.reg (Reg.SEC_SESS i.val) = 0 ∧
      u.reg (Reg.SEC_SESS_CTR i.val) = 0 ∧ (∀ y ∈ u.boot.sessions, y.slot ≠ i.val) ∧ u.eth = s.eth) ∧
    Runs (.sessionIdleTimeout t i) (fun s => has s ∧ s.clock.now < x.lastAt + 300000000000) (fun s u => u = s) ∧
    Runs (.sessionIdleTimeout t i) (fun s => ∀ y, y ∈ s.boot.sessions → y.slot ≠ i.val) (fun s u => u = s)

/-! ## Boot, flash, keys and the TAP -/

/-- R366, R375, R389, R394, R405: what resets the device and its cause: the rails, RESET_N low for 1 µs (between 100 ns and 1 µs it is open), the watchdog, a request of management once nothing is being programmed, and a confirmation that does not come. The timetable, the setting banks, the store and the services start anew, boot lock falls, the flash outside a block that was being written stays, and so does what is fused. After a thermal trip the device waits until it has cooled. The model's own readings in it: log entries 42 and 43. -/
def Obligations.ResetsAndTheirCauses : Prop :=
  let resetTo := fun (cause : Nat) (s u : State) => u.f Reg.PWR_STAT Fld.PWR_STAT_CAUSE = cause ∧ u.tt = State.reset.tt ∧ u.gw = State.reset.gw ∧
    u.dram = [] ∧ u.eth = State.reset.eth ∧ u.fs = State.reset.fs ∧ u.wire = s.wire ∧ u.pending = s.pending ∧ u.clock.now = s.clock.now ∧
    u.clock.running = false ∧ u.boot.inReset = (s.boot.powerOff || s.boot.tapHolds) ∧ u.boot.booted = none ∧ u.boot.sessions = [] ∧
    u.otp.fuses = s.otp.fuses ∧ (s.boot.keyOp = none → u.otp = s.otp) ∧ (s.otp.wf → u.bootLocked = false) ∧
    ∀ a, (∀ f, s.boot.flashOp = some f → (f.op = 1 → a < f.addr ∨ f.addr + 65536 ≤ a) ∧ (f.op = 2 → a < f.addr ∨ f.addr + 4096 ≤ a)) →
      u.flashByte a = s.flashByte a
  let idle := fun (s : State) => s.boot.flashOp = none ∧ s.boot.keyOp = none
  let waits := fun (s : State) => s.flag Reg.CFG_BOOT_STAT Fld.CFG_BOOT_STAT_CONFIRM_WAIT = true ∧ s.boot.confirmBy ≤ s.clock.now
  ∀ t : Nat,
    Runs (.powerOn t) (fun s => s.boot.powerOff = true ∧ s.boot.tapHolds = false)
      (fun s u => u = { s with boot := { s.boot with powerOff := false, inReset := false } }) ∧
    Runs (.powerOn t) (fun s => s.boot.powerOff = true ∧ s.boot.tapHolds = true) (fun s u => u = { s with boot := { s.boot with powerOff := false } }) ∧
    Runs (.powerOn t) (fun s => s.boot.powerOff = false) (fun s u => u = s) ∧
    Runs (.brownOut t) (fun s => s.boot.powerOff = false)
      (fun s u => resetTo 0 { s with boot := { s.boot with powerOff := true } } u ∧ u.boot.powerOff = true) ∧
    Runs (.brownOut t) (fun s => s.boot.powerOff = true) (fun s u => u = s) ∧
    (∀ held : Nat,
      (held < 100 → Runs (.resetNLow t held) (fun _ => True) fun s u => u = s) ∧
      (1000 ≤ held → Runs (.resetNLow t held) (fun _ => True) (resetTo 1)) ∧
      (100 ≤ held → held < 1000 → Runs (.resetNLow t held) (fun _ => True) fun s u => u = { s with free := s.free + 1 } ∨ resetTo 1 s u)) ∧
    Runs (.watchdogTimeout t) (fun _ => True) (resetTo 3) ∧
    (∀ src : Src,
      Runs (.resetCmd t src) (fun s => s.mayManage src = true ∧ idle s) (resetTo 2) ∧
      Runs (.resetCmd t src) (fun s => s.mayManage src = true ∧ ¬ idle s)
        (fun s u => u = { s with boot := { s.boot with resetWaits := some 2 } }) ∧
      Runs (.resetCmd t src) (fun s => s.mayManage src = false) (fun s u => u = s)) ∧
    Runs (.confirmTimeout t) waits (resetTo 5) ∧ Runs (.confirmTimeout t) (fun s => ¬ waits s) (fun s u => u = s) ∧
    Runs (.thermalRecoveryBoot t) (fun s => s.boot.thermal = true ∧ s.cooled = true)
      (fun s u => u = { s with boot := { s.boot with thermal := false } }) ∧
    Runs (.thermalRecoveryBoot t) (fun s => s.boot.thermal = false ∨ s.cooled = false) (fun s u => u = s)

/-- R43, R168, R367 to R370, R373 to R375, R377: out of reset the ROM loads the factory defects, marked as such, and starts loops 0 and 1; the slots are checked, and the valid one with the highest version, the lowest on a tie, is booted and an attempt marked where it is not confirmed; without one the device starts in recovery. Staged start turns on the timetable, the converter grid and the other loops in turn; after boot lock the ports are released one group after the other. The model's own readings in it: log entries 39 and 41. -/
def Obligations.TheStartSequence : Prop :=
  (∀ t : Nat,
    let starts := fun (s : State) => s.boot.inReset = false ∧ s.boot.thermal = false ∧ s.stage = 0
    Runs (.romStage t) (fun s => starts s ∧ s.ck.loops.length = 12) (fun s u => u.stage = 1 ∧ u.acquiring 0 = true ∧ u.acquiring 1 = true ∧
      (u.loop 0).started = true ∧ (u.loop 1).started = true ∧
      ∀ (i : Fin 4096) (d : RegDef) (w : Word), s.otp.defects[i.val]? = some w → regAt (Reg.PIPE_DEFECT i.val) = some d →
        u.reg (Reg.PIPE_DEFECT i.val) = writtenWord d (s.reg (Reg.PIPE_DEFECT i.val)) (Fld.PIPE_DEFECT_FACTORY.set w 1)) ∧
    Runs (.romStage t) (fun s => ¬ starts s) (fun s u => u = s)) ∧
  (∀ (t density mhz : Nat) (sfdpOk : Bool) (vs : List SlotVerdict),
    let here := fun (s : State) => s.boot.inReset = false ∧ s.stage = 1
    let read := fun (s : State) => s.readSfdp sfdpOk density mhz
    let fails := fun (s : State) (i : Fin 4) => (read s).slotFail i.val (vs.getD i.val ⟨false, false, false, false⟩)
    let version := fun (s : State) (i : Fin 4) => (read s).header i.val 8 4
    let next := fun (s u : State) => u.stage = 2 ∧ u.boot.stagedAt = s.clock.now ∧ u.boot.stagedNext = 0
    let recovers := fun (s u : State) => next s u ∧ u.flag Reg.CFG_BOOT_STAT Fld.CFG_BOOT_STAT_RECOVERY = true ∧ u.flash = s.flash ∧ u.boot.booted = s.boot.booted
    (sfdpOk = true → 32 ≤ density →
      Runs (.imageSelection t sfdpOk density mhz vs) here (fun s u => next s u ∧
        ∀ i : Fin 4, u.f (Reg.CFG_SLOT i.val) Fld.CFG_SLOT_FAIL = fails s i ∧ u.slotValid i.val = (fails s i == 0)) ∧
      Runs (.imageSelection t sfdpOk density mhz vs) (fun s => here s ∧ ∀ i, fails s i ≠ 0) recovers ∧
      Runs (.imageSelection t sfdpOk density mhz vs) (fun s => here s ∧ ∃ i, fails s i = 0) (fun s u => ∃ k : Fin 4, fails s k = 0 ∧
        u.boot.booted = some k.val ∧ u.f Reg.CFG_BOOT_STAT Fld.CFG_BOOT_STAT_SLOT = k.val ∧
        u.f Reg.CFG_BOOT_STAT Fld.CFG_BOOT_STAT_VERSION = version s k ∧
        (∀ i, fails s i = 0 → version s i < version s k ∨ version s i = version s k ∧ k ≤ i) ∧
        ((read s).markSet k.val 0x803 = true → u.flash = s.flash) ∧
        ((read s).markSet k.val 0x803 = false → (read s).markSet k.val 0x800 = false → u.flash = ((read s).putMark k.val 0x800).flash))) ∧
    (sfdpOk = false ∨ density < 32 → Runs (.imageSelection t sfdpOk density mhz vs) (fun s => here s ∧ ∀ i : Fin 4, s.slotValid i.val = false) recovers) ∧
    Runs (.imageSelection t sfdpOk density mhz vs) (fun s => ¬ here s) (fun s u => u = s)) ∧
  ∀ (t n : Nat),
    let due := fun (s : State) => s.stage = 2 ∧ s.boot.stagedAt + stagedOffset s.boot.stagedNext ≤ s.clock.now
    let at' := fun (s : State) => due s ∧ s.boot.stagedNext = n
    let releases := fun (s : State) => s.bootLocked = true ∧ s.boot.released < 10 ∧ s.boot.lockAt + 200000 * s.boot.released ≤ s.clock.now
    Runs (.stagedStartEvent t) at' (fun _ u => u.boot.stagedNext = n + 1) ∧
    (n = 0 → Runs (.stagedStartEvent t) at' fun s u => u.boot.ttOn = true ∧ u.clock.running = !s.acquiring 0) ∧
    (n = 2 → Runs (.stagedStartEvent t) at' fun s u => u.cc.gridAt = 16 * s.clock.tt) ∧
    (51 ≤ n → n ≤ 60 → Runs (.stagedStartEvent t) (fun s => at' s ∧ s.ck.loops.length = 12) fun _ u => u.acquiring (n - 49) = true ∧
      (u.loop (n - 49)).started = true ∧ u.stage = 2) ∧
    (n = 61 → Runs (.stagedStartEvent t) at' fun _ u => u.stage = 3) ∧
    Runs (.stagedStartEvent t) (fun s => ¬ due s) (fun s u => u = s) ∧
    Runs (.portRelease t) releases (fun s u => u.boot = { s.boot with released := s.boot.released + 1 }) ∧
    Runs (.portRelease t) (fun s => ¬ releases s) (fun s u => u = s)

/-- R372, R375 to R378: recovery writes its address, disables bundles and ports and sets boot lock; an image whose two readings differ, whose records are wrong or whose commit is refused is a load error: every ATTEMPT is marked and the device resets with cause 7; a good one sets boot lock, and its GOOD mark is written at once or a host must confirm in time. CONFIRM writes the mark, ROLLBACK rejects the image where another is valid, and is refused where none is. The model's own readings in it: log entries 41 and 57. -/
def Obligations.ImagesAreAppliedConfirmedAndRolledBack : Prop :=
  (∀ (t : Nat) (secondOk : Bool),
    let here := fun (s : State) => s.boot.inReset = false ∧ s.stage = 3
    let locked := fun (u : State) => u.bootLocked = true ∧ u.stage = 4
    Runs (.applyImage t secondOk) (fun s => here s ∧ s.boot.booted = none ∧ s.recoveryWrites.bootCommit.isSome = true) (fun s u => locked u ∧
      u.f Reg.ETH_IP Fld.ETH_IP_ADDR = 0xC0A80D2A ∧ u.f Reg.ETH_IP Fld.ETH_IP_PREFIX = 24 ∧ u.f Reg.FB_CFG Fld.FB_CFG_PORT_EN = 0 ∧
      (∀ b : Fin 8, u.flag (Reg.EG_BCTL b.val) Fld.EG_BCTL_EN = false) ∧ u.boot.lockAt = s.clock.now) ∧
    (∀ i : Nat,
      let applied := fun (s : State) => if secondOk then State.applyRecords i (s.header i 0x18 4) (s.header i 0x18 4 / 8 + 1) 0 s else none
      let marked := fun (s u : State) => u.f Reg.PWR_STAT Fld.PWR_STAT_CAUSE = 7 ∧ u.boot.booted = none ∧
        (s.boot.flashOp = none → ∀ o ∈ [0x800, 0x801, 0x802], u.flashByte (s.slotBase i + o) ≠ 0xFF)
      Runs (.applyImage t secondOk) (fun s => here s ∧ s.boot.booted = some i ∧ applied s = none) marked ∧
      ∀ x y : State,
        let done := fun (s : State) => here s ∧ s.boot.booted = some i ∧ applied s = some x ∧ x.stage = 3 ∧ x.bootCommit = some y
        Runs (.applyImage t secondOk) (fun s => here s ∧ s.boot.booted = some i ∧ applied s = some x ∧ x.stage = 3 ∧ x.bootCommit = none)
          (fun _ u => marked x u) ∧
        Runs (.applyImage t secondOk) (fun s => done s ∧ y.markSet i 0x803 = true) (fun _ u => locked u ∧ u.flash = y.flash) ∧
          Runs (.applyImage t secondOk) (fun s => done s ∧ y.markSet i 0x803 = false ∧ y.header i 0x1C 1 = 0 ∧ y.boot.booted = some i)
            (fun _ u => locked u ∧ u.markSet i 0x803 = true ∧ u.flag Reg.CFG_BOOT_STAT Fld.CFG_BOOT_STAT_CONFIRM_WAIT = false) ∧
          Runs (.applyImage t secondOk) (fun s => done s ∧ y.markSet i 0x803 = false ∧ y.header i 0x1C 1 ≠ 0)
            fun _ u => locked u ∧ u.flash = y.flash ∧ u.flag Reg.CFG_BOOT_STAT Fld.CFG_BOOT_STAT_CONFIRM_WAIT = true ∧
              u.boot.confirmBy = y.clock.now + y.header i 0x1D 1 * 10000000000) ∧
    Runs (.applyImage t secondOk) (fun s => ¬ here s) (fun s u => u = s)) ∧
  ∀ (t : Nat) (src : Src) (i : Nat),
    let boots := fun (s : State) => s.mayManage src = true ∧ s.boot.booted = some i
    let other := fun (s : State) => ∃ j : Fin 4, j.val ≠ i ∧ s.slotValid j.val = true
    let idle := fun (s : State) => s.boot.flashOp = none ∧ s.boot.keyOp = none
    let waits := fun (s : State) => s.flag Reg.CFG_BOOT_STAT Fld.CFG_BOOT_STAT_CONFIRM_WAIT
    let refused := fun (s u : State) => u.flag Reg.CFG_BOOT_STAT Fld.CFG_BOOT_STAT_RB_REFUSED = true ∧ u.flash = s.flash ∧ u.boot = s.boot
    Runs (.confirm t src) (fun s => boots s ∧ waits s = true) (fun s u => u.markSet i 0x803 = true ∧ waits u = false ∧ u.boot = s.boot) ∧
    Runs (.confirm t src) (fun s => waits s = false) (fun s u => u = s) ∧
    Runs (.rollback t src) (fun s => boots s ∧ other s ∧ idle s) (fun s u => u.f Reg.PWR_STAT Fld.PWR_STAT_CAUSE = 6 ∧
      u.flash = (s.putMark i 0x804).flash ∧ u.tt = State.reset.tt ∧ u.boot.booted = none) ∧
    Runs (.rollback t src) (fun s => boots s ∧ other s ∧ ¬ idle s) (fun s u => u.markSet i 0x804 = true ∧
      u.boot = { s.boot with resetWaits := some 6 } ∧ u.tt = s.tt) ∧
    Runs (.rollback t src) (fun s => boots s ∧ ¬ other s) refused ∧
    Runs (.rollback t src) (fun s => s.mayManage src = true ∧ s.boot.booted = none) refused

/-- R381, R382: a flash command is refused while one runs, where it is misaligned, would write the booted slot or leaves the slots; else it runs, and an erase or program takes VALID from its slot. When it is done an erased block reads FF, a programmed one the and of both, the buffer what was read, and a checked slot its result; a failed one shows ERR 5, and nothing outside its block changes. Keys are added to the first free entry and revoked unless the last usable one or the booted image's would go; revoking closes the key's sessions. The model's own readings in it: log entries 16, 42, 43 and 53. -/
def Obligations.FlashAndKeys : Prop :=
  (∀ (t : Nat) (src : Src),
    let a := fun (s : State) => s.f Reg.CFG_FL_ADDR Fld.CFG_FL_ADDR_ADDR
    let err := fun (e : Nat) (s u : State) => u.f Reg.CFG_FL_STAT Fld.CFG_FL_STAT_ERR = e ∧ u.flag Reg.CFG_FL_STAT Fld.CFG_FL_STAT_ERR_FLAG = true ∧
      u.boot = s.boot ∧ u.flash = s.flash
    let open' := fun (s : State) => s.mayManage src = true ∧ s.flashBusy = false
    (∀ c ∈ ([(.flashErase t src, 1, 65536), (.flashProgram t src, 2, 4096), (.flashRead t src, 3, 4096)] : List (Instr × Nat × Nat)),
      let aligned := fun (s : State) => a s % c.2.2 = 0
      let inBooted := fun (s : State) => c.2.1 ≠ 3 ∧ ∃ i, s.boot.booted = some i ∧ s.slotBase i ≤ a s ∧ a s < s.slotBase i + s.slotBytes
      let fits := fun (s : State) => a s + c.2.2 ≤ 4 * s.slotBytes
      let slot := fun (s : State) => a s / max 1 s.slotBytes
      Runs c.1 (fun s => open' s ∧ aligned s ∧ ¬ inBooted s ∧ fits s) (fun s u => u.flashBusy = true ∧ u.flash = s.flash ∧
        u.boot.flashOp = some ⟨c.2.1, a s, slot s, ⟨false, false, false, false⟩⟩ ∧ (c.2.1 ≠ 3 → u.slotValid (slot s) = false)) ∧
      Runs c.1 (fun s => s.mayManage src = true ∧ s.flashBusy = true) (err 4) ∧
      Runs c.1 (fun s => open' s ∧ ¬ aligned s) (err 1) ∧
      Runs c.1 (fun s => open' s ∧ aligned s ∧ inBooted s) (err 2) ∧
      Runs c.1 (fun s => open' s ∧ aligned s ∧ ¬ inBooted s ∧ ¬ fits s) (err 3)) ∧
    ∀ (k : Fin 4) (v : SlotVerdict),
      Runs (.flashCheck t src k v) open' (fun s u => u.flashBusy = true ∧ u.boot.flashOp = some ⟨4, s.slotBase k.val, k.val, v⟩ ∧ u.flash = s.flash) ∧
      Runs (.flashCheck t src k v) (fun s => s.mayManage src = true ∧ s.flashBusy = true) (err 4)) ∧
  (∀ (t : Nat) (f : FlashOp),
    let runs := fun (s : State) => s.boot.flashOp = some f ∧ s.boot.resetWaits = none ∧ s.boot.bufHeld = []
    let ends := fun (e : Nat) (u : State) => u.flashBusy = false ∧ u.boot.flashOp = none ∧ u.f Reg.CFG_FL_STAT Fld.CFG_FL_STAT_ERR = e
    let outside := fun (n : Nat) (s u : State) => ∀ b, b < f.addr ∨ f.addr + n ≤ b → u.flashByte b = s.flashByte b
    let size := if f.op = 1 then 65536 else if f.op = 2 then 4096 else 0
    (f.op = 1 → Runs (.flashCommandDone t false) runs fun s u => ends 0 u ∧ outside 65536 s u ∧
      ∀ j : Nat, j < 65536 → u.flashByte (f.addr + j) = 0xFF) ∧
    (f.op = 2 → Runs (.flashCommandDone t false) runs fun s u => ends 0 u ∧ outside 4096 s u ∧
      ∀ j : Nat, j < 4096 → u.flashByte (f.addr + j) = s.flashByte (f.addr + j) &&& s.flashBuffer.getD j 0) ∧
    (f.op = 3 → Runs (.flashCommandDone t false) runs fun s u => ends 0 u ∧ u.flash = s.flash ∧
      ∀ j : Fin 512, u.reg (Reg.CFG_FL_BUF j.val) = BitVec.ofNat 64 (bytesNat (s.flashBytes (f.addr + 8 * j.val) 8))) ∧
    (f.op = 4 → Runs (.flashCommandDone t false) runs fun s u => ends 0 u ∧ u.flash = s.flash ∧
      u.f (Reg.CFG_SLOT f.slot) Fld.CFG_SLOT_FAIL = s.slotFail f.slot f.verdict ∧ u.slotValid f.slot = (s.slotFail f.slot f.verdict == 0)) ∧
    Runs (.flashCommandDone t true) runs (fun s u => ends 5 u ∧ u.flag Reg.CFG_FL_STAT Fld.CFG_FL_STAT_ERR_FLAG = true ∧ outside size s u) ∧
    (∀ (b : Bool) (j : Fin 512) (v : Word), Runs (.flashCommandDone t b)
      (fun s => s.boot.flashOp = some f ∧ s.boot.resetWaits = none ∧ s.boot.bufHeld = [(j.val, v)])
      (fun _ u => u.reg (Reg.CFG_FL_BUF j.val) = v ∧ u.boot.bufHeld = [])) ∧
    ∀ (b : Bool) (c : Nat), c < 8 → Runs (.flashCommandDone t b)
      (fun s => s.boot.flashOp = some f ∧ s.boot.resetWaits = some c ∧ s.boot.keyOp = none)
      fun _ u => u.f Reg.PWR_STAT Fld.PWR_STAT_CAUSE = c ∧ u.boot.flashOp = none ∧ u.boot.resetWaits = none) ∧
  (∀ (t : Nat) (failed : Bool), Runs (.flashCommandDone t failed) (fun s => s.boot.flashOp = none) (fun s u => u = s)) ∧
  ∀ (t : Nat) (src : Src) (k : Fin 4),
    let open' := fun (s : State) => s.mayManage src = true ∧ s.otpBusy = false
    let has := fun (j : Fin 4) (s : State) => s.flag (Reg.SEC_KEY_ST j.val) Fld.SEC_KEY_ST_PROGRAMMED
    let stays := fun (s : State) => (∃ i, s.boot.booted = some i ∧ s.f (Reg.CFG_SLOT i) Fld.CFG_SLOT_KEY_IDX = k.val) ∨
      ∀ j : Fin 4, j ≠ k → s.keyUsable j.val = false
    let opened := fun (i : Fin 4) (s : State) => s.flag (Reg.SEC_SESS i.val) Fld.SEC_SESS_OPEN
    let done := fun (h : List Word) (s : State) => s.boot.keyOp = some (k.val, h) ∧ s.boot.resetWaits = none
    let ends := fun (u : State) => u.otpBusy = false ∧ u.boot.keyOp = none
    Runs (.keyAdd t src) (fun s => open' s ∧ has k s = false ∧ ∀ j, j < k → has j s = true) (fun s u => u.otpBusy = true ∧ u.otp = s.otp ∧
      u.boot.keyOp = some (k.val, [s.reg (Reg.SEC_KEY_NEW 0), s.reg (Reg.SEC_KEY_NEW 1), s.reg (Reg.SEC_KEY_NEW 2), s.reg (Reg.SEC_KEY_NEW 3)])) ∧
    Runs (.keyAdd t src) (fun s => open' s ∧ ∀ j, has j s = true)
      (fun s u => u.flag Reg.SEC_KEY_STAT Fld.SEC_KEY_STAT_FULL = true ∧ u.boot = s.boot ∧ u.otp = s.otp) ∧
    Runs (.keyAdd t src) (fun s => s.otpBusy = true) (fun s u => u = s) ∧
    Runs (.keyRevoke t src k) (fun s => open' s ∧ ¬ stays s) (fun s u => u.otpBusy = true ∧ u.boot.keyOp = some (k.val, []) ∧
      u.flag (Reg.SEC_KEY_ST k.val) Fld.SEC_KEY_ST_REVOKED = true ∧ u.keyUsable k.val = false ∧
      u.otp = { s.otp with keys := modifyAt (fun e => { e with revoked := true }) k.val s.otp.keys } ∧
      ∀ i : Fin 4, (s.f (Reg.SEC_SESS i.val) Fld.SEC_SESS_KEY_IDX = k.val → opened i u = false) ∧
        (s.f (Reg.SEC_SESS i.val) Fld.SEC_SESS_KEY_IDX ≠ k.val → u.reg (Reg.SEC_SESS i.val) = s.reg (Reg.SEC_SESS i.val))) ∧
    Runs (.keyRevoke t src k) (fun s => open' s ∧ stays s)
      (fun s u => u.flag Reg.SEC_KEY_STAT Fld.SEC_KEY_STAT_REFUSED = true ∧ u.boot = s.boot ∧ u.otp = s.otp) ∧
    Runs (.keyRevoke t src k) (fun s => s.otpBusy = true) (fun s u => u = s) ∧
    (∀ h : List Word, h ≠ [] → Runs (.otpProgramDone t) (done h) fun s u => ends u ∧ has k u = true ∧
      (∀ w : Fin 4, u.reg (Reg.SEC_KEY k.val w.val) = h.getD w.val 0) ∧
      u.otp.keys = modifyAt (fun e => ⟨[h.getD 0 0, h.getD 1 0, h.getD 2 0, h.getD 3 0], true, e.revoked⟩) k.val s.otp.keys) ∧
    Runs (.otpProgramDone t) (done []) (fun s u => ends u ∧ u.otp = s.otp) ∧
    (∀ (h : List Word) (c : Nat), c < 8 → Runs (.otpProgramDone t)
      (fun s => s.boot.keyOp = some (k.val, h) ∧ s.boot.resetWaits = some c ∧ s.boot.flashOp = none)
      fun _ u => u.f Reg.PWR_STAT Fld.PWR_STAT_CAUSE = c ∧ u.boot.keyOp = none) ∧
    Runs (.otpProgramDone t) (fun s => s.boot.keyOp = none) (fun s u => u = s)

/-- R408, R409: EXTEST, CLAMP and HIGHZ take the lands only while RESET_N is low, and hold the device in reset with what the boundary register says; else they act as BYPASS. IDCODE, which a reset of the TAP selects, shows 0x01342353, SAMPLE_PRELOAD the boundary register it loads, BYPASS one zero; each of them ends a hold, and the device leaves reset if the rails are good. -/
def Obligations.TheTestAccessPort : Prop :=
  ∀ t : Nat,
    let shows := fun (ir : Nat) (data : List Bool) (s u : State) => u.boot.tapIr = ir ∧ u.wire = s.wire ++ [.tap ir data] ∧ u.regs = s.regs ∧
      u.boot.powerOff = s.boot.powerOff
    let frees := fun (s u : State) => u.boot.tapHolds = false ∧ u.boot.inReset = (s.boot.inReset && s.boot.powerOff)
    let id := [true, true, false, false, true, false, true, false, true, true, false, false, false, true, false, false,
      false, false, true, false, true, true, false, false, true, false, false, false, false, false, false, false]
    (∀ c ∈ ([(.extest t true, 0x00), (.clamp t true, 0x04), (.highz t true, 0x05)] : List (Instr × Nat)),
      Runs c.1 (fun _ => True) fun s u => shows c.2 s.boot.tapBsr s u ∧ u.boot.tapHolds = true ∧ u.boot.inReset = s.boot.inReset ∧ u.boot.tapBsr = s.boot.tapBsr) ∧
    (∀ c ∈ ([(.extest t false, 0x00), (.clamp t false, 0x04), (.highz t false, 0x05), (.bypass t, 0xFF)] : List (Instr × Nat)),
      Runs c.1 (fun _ => True) fun s u => shows c.2 [false] s u ∧ frees s u ∧ u.boot.tapBsr = s.boot.tapBsr) ∧
    (∀ c ∈ ([.idcode t, .testLogicReset t] : List Instr), Runs c (fun _ => True) fun s u => shows 0x01 id s u ∧ frees s u ∧ u.boot.tapBsr = s.boot.tapBsr) ∧
    ∀ bsr : List Bool, Runs (.samplePreload t bsr) (fun _ => True) fun s u => shows 0x02 bsr s u ∧ frees s u ∧ u.boot.tapBsr = bsr
end

