-- ==== Sys2Proof/Laws/Sparse.lean ====
section
/-! SUPPORT. Laws of the sparse maps: a read after a write gives the value written, a write leaves every other key alone, and every operation keeps the canonical form. -/

namespace Sys2Proof.Machine

variable {α : Type}

/-! ## Reads after writes -/

theorem Sparse.look_erase_self (m : List (Nat × α)) (k : Nat) : Sparse.look (Sparse.erase m k) k = none := by
  induction m with
  | nil => rfl
  | cons p r ih =>
    by_cases h : p.1 = k
    · simpa [Sparse.erase, h] using ih
    · simpa [Sparse.erase, Sparse.look, h] using ih

theorem Sparse.look_erase_ne (m : List (Nat × α)) {k j : Nat} (hj : j ≠ k) :
    Sparse.look (Sparse.erase m k) j = Sparse.look m j := by
  induction m with
  | nil => rfl
  | cons p r ih =>
    by_cases h : p.1 = k
    · have hp : p.1 ≠ j := fun e => hj (by omega)
      simpa [Sparse.erase, Sparse.look, h, hp, show k ≠ j from fun e => hj e.symm] using ih
    · by_cases hp : p.1 = j
      · simp [Sparse.erase, Sparse.look, hp, hj]
      · simpa [Sparse.erase, Sparse.look, h, hp] using ih

theorem Sparse.look_ins_self (m : List (Nat × α)) (k : Nat) (v : α) (h : Sparse.look m k = none) :
    Sparse.look (Sparse.ins k v m) k = some v := by
  induction m with
  | nil => simp [Sparse.ins, Sparse.look]
  | cons p r ih =>
    obtain ⟨a, w⟩ := p
    by_cases ha : a = k
    · simp [Sparse.look, ha] at h
    · rw [Sparse.look, if_neg ha] at h
      by_cases hk : k < a
      · simp [Sparse.ins, Sparse.look, hk]
      · simp [Sparse.ins, Sparse.look, hk, ha, ih h]

theorem Sparse.look_ins_ne (m : List (Nat × α)) {k j : Nat} (v : α) (hj : j ≠ k) :
    Sparse.look (Sparse.ins k v m) j = Sparse.look m j := by
  have hkj : k ≠ j := fun e => hj e.symm
  induction m with
  | nil => simp [Sparse.ins, Sparse.look, hkj]
  | cons p r ih =>
    obtain ⟨a, w⟩ := p
    by_cases hk : k < a
    · simp [Sparse.ins, Sparse.look, hk, hkj]
    · by_cases ha : a = j
      · simp [Sparse.ins, Sparse.look, ha, show ¬ k < j by omega]
      · simp [Sparse.ins, Sparse.look, hk, ha, ih]

variable [DecidableEq α]

/-- A read after a write to the same key gives the value written. -/
@[simp] theorem Sparse.get_put_self (d : Nat → α) (m : List (Nat × α)) (k : Nat) (v : α) :
    Sparse.get d (Sparse.put d m k v) k = v := by
  by_cases h : v = d k
  · simp only [Sparse.get, Sparse.put, if_pos h, Sparse.look_erase_self]
    exact h.symm
  · simp only [Sparse.get, Sparse.put, if_neg h, Sparse.look_ins_self _ _ _ (Sparse.look_erase_self m k)]

/-- A write leaves every other key alone. -/
theorem Sparse.get_put_ne (d : Nat → α) (m : List (Nat × α)) {k j : Nat} (v : α) (hj : j ≠ k) :
    Sparse.get d (Sparse.put d m k v) j = Sparse.get d m j := by
  by_cases h : v = d k
  · simp only [Sparse.get, Sparse.put, if_pos h, Sparse.look_erase_ne m hj]
  · simp only [Sparse.get, Sparse.put, if_neg h, Sparse.look_ins_ne _ v hj, Sparse.look_erase_ne m hj]

/-! ## The canonical form -/

theorem Sparse.wf_cons (d : Nat → α) (a : Nat) (v : α) (r : List (Nat × α)) :
    Sparse.wf d ((a, v) :: r) = true ↔ v ≠ d a ∧ (∀ p ∈ r, a < p.1) ∧ Sparse.wf d r = true := by
  simp [Sparse.wf, and_assoc]

/-- The canonical form said at once. -/
theorem Sparse.wf_iff (d : Nat → α) (m : List (Nat × α)) :
    Sparse.wf d m = true ↔ m.Pairwise (fun p q => p.1 < q.1) ∧ ∀ p ∈ m, p.2 ≠ d p.1 := by
  induction m with
  | nil => simp [Sparse.wf]
  | cons p r ih =>
    obtain ⟨a, v⟩ := p
    rw [Sparse.wf_cons, ih, List.pairwise_cons, List.forall_mem_cons]
    tauto

/-- A part of a canonical map is canonical. -/
theorem Sparse.wf_filter (d : Nat → α) (m : List (Nat × α)) (p : Nat × α → Bool) (h : Sparse.wf d m = true) :
    Sparse.wf d (m.filter p) = true := by
  rw [Sparse.wf_iff] at h ⊢
  exact ⟨h.1.filter p, fun q hq => h.2 q (List.mem_filter.mp hq).1⟩

theorem Sparse.erase_wf (d : Nat → α) (m : List (Nat × α)) (k : Nat) (h : Sparse.wf d m = true) :
    Sparse.wf d (Sparse.erase m k) = true := Sparse.wf_filter d m _ h

omit [DecidableEq α] in
theorem Sparse.mem_ins {k : Nat} {v : α} {m : List (Nat × α)} {q : Nat × α} :
    q ∈ Sparse.ins k v m ↔ q = (k, v) ∨ q ∈ m := by
  induction m with
  | nil => simp [Sparse.ins]
  | cons p r ih =>
    unfold Sparse.ins
    split
    · simp
    · simp only [List.mem_cons, ih]
      tauto

theorem Sparse.ins_wf (d : Nat → α) (m : List (Nat × α)) (k : Nat) (v : α) (hv : v ≠ d k)
    (hk : ∀ p ∈ m, p.1 ≠ k) (h : Sparse.wf d m = true) : Sparse.wf d (Sparse.ins k v m) = true := by
  induction m with
  | nil => simp [Sparse.ins, Sparse.wf, hv]
  | cons p r ih =>
    obtain ⟨a, w⟩ := p
    obtain ⟨h1, h2, h3⟩ := (Sparse.wf_cons d a w r).mp h
    unfold Sparse.ins
    split
    · next hlt =>
      rw [Sparse.wf_cons]
      refine ⟨hv, ?_, h⟩
      intro q hq
      rcases List.mem_cons.mp hq with rfl | hq
      · exact hlt
      · exact Nat.lt_trans hlt (h2 q hq)
    · next hge =>
      have hak : a ≠ k := hk (a, w) (List.mem_cons_self ..)
      rw [Sparse.wf_cons]
      refine ⟨h1, ?_, ih (fun p hp => hk p (List.mem_cons_of_mem _ hp)) h3⟩
      intro q hq
      rcases Sparse.mem_ins.mp hq with rfl | hq
      · simp only; omega
      · exact h2 q hq

/-- Writing keeps the canonical form. -/
theorem Sparse.put_wf (d : Nat → α) (m : List (Nat × α)) (k : Nat) (v : α) (h : Sparse.wf d m = true) :
    Sparse.wf d (Sparse.put d m k v) = true := by
  unfold Sparse.put
  split
  · exact Sparse.erase_wf d m k h
  · next hv =>
    refine Sparse.ins_wf d _ k v hv ?_ (Sparse.erase_wf d m k h)
    intro p hp
    have := (List.mem_filter.mp hp).2
    simpa using this

/-- Writing a list of pairs keeps the canonical form. -/
theorem Sparse.putAll_wf (d : Nat → α) (l m : List (Nat × α)) (h : Sparse.wf d m = true) :
    Sparse.wf d (Sparse.putAll d m l) = true := by
  induction l generalizing m with
  | nil => exact h
  | cons p r ih => exact ih _ (Sparse.put_wf d m p.1 p.2 h)

omit [DecidableEq α] in
theorem Sparse.mem_number {stride lo : Nat} {vs : List α} {q : Nat × α} (hq : q ∈ Sparse.number stride lo vs) :
    lo ≤ q.1 ∧ (0 < stride → q.1 < lo + stride * vs.length) := by
  induction vs generalizing lo with
  | nil => simp [Sparse.number] at hq
  | cons v r ih =>
    simp only [Sparse.number, List.mem_cons] at hq
    simp only [List.length_cons, Nat.mul_add, Nat.mul_one]
    rcases hq with rfl | hq
    · exact ⟨Nat.le_refl _, fun h => by simp only; omega⟩
    · obtain ⟨h1, h2⟩ := ih hq
      exact ⟨by omega, fun h => by have := h2 h; omega⟩

omit [DecidableEq α] in
theorem Sparse.number_sorted {stride lo : Nat} (hs : 0 < stride) (vs : List α) :
    (Sparse.number stride lo vs).Pairwise (fun p q => p.1 < q.1) := by
  induction vs generalizing lo with
  | nil => exact .nil
  | cons v r ih =>
    refine List.pairwise_cons.mpr ⟨fun q hq => ?_, ih⟩
    have := (Sparse.mem_number hq).1
    simp only
    omega

/-- Writing a block of values keeps the canonical form. -/
theorem Sparse.splice_wf (d : Nat → α) (m : List (Nat × α)) (lo stride : Nat) (vs : List α) (hs : 0 < stride)
    (h : Sparse.wf d m = true) : Sparse.wf d (Sparse.splice d m lo stride vs) = true := by
  rw [Sparse.wf_iff] at h ⊢
  obtain ⟨h1, h2⟩ := h
  unfold Sparse.splice
  constructor
  · rw [List.append_assoc, List.pairwise_append]
    refine ⟨h1.filter _, ?_, ?_⟩
    · rw [List.pairwise_append]
      refine ⟨(Sparse.number_sorted hs vs).filter _, h1.filter _, ?_⟩
      intro p hp q hq
      have h3 := (Sparse.mem_number (List.mem_filter.mp hp).1).2 hs
      have h4 := (List.mem_filter.mp hq).2
      simp only [decide_eq_true_eq] at h4
      omega
    · intro p hp q hq
      have h3 := (List.mem_filter.mp hp).2
      simp only [decide_eq_true_eq] at h3
      rcases List.mem_append.mp hq with hq | hq
      · have := (Sparse.mem_number (List.mem_filter.mp hq).1).1
        omega
      · have h4 := (List.mem_filter.mp hq).2
        simp only [decide_eq_true_eq] at h4
        omega
  · intro p hp
    rcases List.mem_append.mp hp with hp | hp
    · rcases List.mem_append.mp hp with hp | hp
      · exact h2 p (List.mem_filter.mp hp).1
      · have := (List.mem_filter.mp hp).2
        simpa using this
    · exact h2 p (List.mem_filter.mp hp).1

omit [DecidableEq α] in
theorem Sparse.look_append (m n : List (Nat × α)) (k : Nat) :
    Sparse.look (m ++ n) k = match Sparse.look m k with | some v => some v | none => Sparse.look n k := by
  induction m with
  | nil => rfl
  | cons p r ih =>
    obtain ⟨a, v⟩ := p
    simp only [List.cons_append, Sparse.look]
    split
    · rfl
    · exact ih

omit [DecidableEq α] in
theorem Sparse.look_none (m : List (Nat × α)) (k : Nat) (h : ∀ q ∈ m, q.1 ≠ k) : Sparse.look m k = none := by
  induction m with
  | nil => rfl
  | cons p r ih =>
    obtain ⟨a, v⟩ := p
    simp only [Sparse.look, if_neg (h (a, v) (List.mem_cons_self ..))]
    exact ih fun q hq => h q (List.mem_cons_of_mem _ hq)

omit [DecidableEq α] in
theorem Sparse.look_filter (m : List (Nat × α)) (k : Nat) (p : Nat → Bool) (h : p k = true) :
    Sparse.look (m.filter fun q => p q.1) k = Sparse.look m k := by
  induction m with
  | nil => rfl
  | cons q r ih =>
    obtain ⟨a, v⟩ := q
    by_cases hp : p a = true
    · rw [List.filter_cons_of_pos (by simpa using hp)]
      simp only [Sparse.look, ih]
    · rw [List.filter_cons_of_neg (by simpa using hp), ih]
      have : a ≠ k := fun e => hp (e ▸ h)
      simp only [Sparse.look, if_neg this]

/-- Writing a block of values leaves every key outside the block. -/
theorem Sparse.get_splice_out (d : Nat → α) (m : List (Nat × α)) {lo stride k : Nat} (vs : List α)
    (h : k < lo ∨ lo + stride * vs.length ≤ k) (hs : 0 < stride := by decide) :
    Sparse.get d (Sparse.splice d m lo stride vs) k = Sparse.get d m k := by
  have hn : Sparse.look ((Sparse.number stride lo vs).filter fun p => decide (p.2 ≠ d p.1)) k = none := by
    refine Sparse.look_none _ _ fun q hq e => ?_
    have := Sparse.mem_number (List.mem_filter.mp hq).1
    have := this.2 hs
    omega
  have : Sparse.look (Sparse.splice d m lo stride vs) k = Sparse.look m k := by
    unfold Sparse.splice
    rw [Sparse.look_append, Sparse.look_append, hn]
    rcases h with h | h
    · rw [Sparse.look_filter m k (fun x => decide (x < lo)) (by simpa using h),
        Sparse.look_none (m.filter fun p => decide (lo + stride * vs.length ≤ p.1)) k ?_]
      · cases Sparse.look m k <;> rfl
      · intro q hq e
        have := (List.mem_filter.mp hq).2
        simp only [decide_eq_true_eq] at this
        have : 0 ≤ stride * vs.length := Nat.zero_le _
        omega
    · rw [Sparse.look_filter m k (fun x => decide (lo + stride * vs.length ≤ x)) (by simpa using h),
        Sparse.look_none (m.filter fun p => decide (p.1 < lo)) k ?_]
      intro q hq e
      have := (List.mem_filter.mp hq).2
      simp only [decide_eq_true_eq] at this
      have : 0 ≤ stride * vs.length := Nat.zero_le _
      omega
  simp only [Sparse.get, this]

end Sys2Proof.Machine
end

