-- ==== Sys2Proof/Laws/State.lean ====
section
/-! SUPPORT. Laws of State: what each shared write changes and what it leaves, one lemma for each field, so that no proof unfolds a record update; reading a register or one of its fields after a write. -/

namespace Sys2Proof.Machine

variable (s : State)

/-! ## Writing a register changes the register file alone -/

@[simp] theorem State.setReg_clock (a : Nat) (v : Word) : (s.setReg a v).clock = s.clock := rfl
@[simp] theorem State.setReg_gw (a : Nat) (v : Word) : (s.setReg a v).gw = s.gw := rfl
@[simp] theorem State.setReg_tt (a : Nat) (v : Word) : (s.setReg a v).tt = s.tt := rfl
@[simp] theorem State.setReg_px (a : Nat) (v : Word) : (s.setReg a v).px = s.px := rfl
@[simp] theorem State.setReg_cc (a : Nat) (v : Word) : (s.setReg a v).cc = s.cc := rfl
@[simp] theorem State.setReg_cal (a : Nat) (v : Word) : (s.setReg a v).cal = s.cal := rfl
@[simp] theorem State.setReg_hk (a : Nat) (v : Word) : (s.setReg a v).hk = s.hk := rfl
@[simp] theorem State.setReg_pipe (a : Nat) (v : Word) : (s.setReg a v).pipe = s.pipe := rfl
@[simp] theorem State.setReg_fs (a : Nat) (v : Word) : (s.setReg a v).fs = s.fs := rfl
@[simp] theorem State.setReg_dram (a : Nat) (v : Word) : (s.setReg a v).dram = s.dram := rfl
@[simp] theorem State.setReg_fy (a : Nat) (v : Word) : (s.setReg a v).fy = s.fy := rfl
@[simp] theorem State.setReg_eg (a : Nat) (v : Word) : (s.setReg a v).eg = s.eg := rfl
@[simp] theorem State.setReg_prev (a : Nat) (v : Word) : (s.setReg a v).prev = s.prev := rfl
@[simp] theorem State.setReg_pio (a : Nat) (v : Word) : (s.setReg a v).pio = s.pio := rfl
@[simp] theorem State.setReg_kf (a : Nat) (v : Word) : (s.setReg a v).kf = s.kf := rfl
@[simp] theorem State.setReg_ck (a : Nat) (v : Word) : (s.setReg a v).ck = s.ck := rfl
@[simp] theorem State.setReg_eth (a : Nat) (v : Word) : (s.setReg a v).eth = s.eth := rfl
@[simp] theorem State.setReg_boot (a : Nat) (v : Word) : (s.setReg a v).boot = s.boot := rfl
@[simp] theorem State.setReg_otp (a : Nat) (v : Word) : (s.setReg a v).otp = s.otp := rfl
@[simp] theorem State.setReg_flash (a : Nat) (v : Word) : (s.setReg a v).flash = s.flash := rfl
@[simp] theorem State.setReg_wire (a : Nat) (v : Word) : (s.setReg a v).wire = s.wire := rfl
@[simp] theorem State.setReg_free (a : Nat) (v : Word) : (s.setReg a v).free = s.free := rfl
@[simp] theorem State.setReg_pending (a : Nat) (v : Word) : (s.setReg a v).pending = s.pending := rfl

@[simp] theorem State.setF_clock (a : Nat) (f : Field) (v : Nat) : (s.setF a f v).clock = s.clock := rfl
@[simp] theorem State.setF_gw (a : Nat) (f : Field) (v : Nat) : (s.setF a f v).gw = s.gw := rfl
@[simp] theorem State.setF_tt (a : Nat) (f : Field) (v : Nat) : (s.setF a f v).tt = s.tt := rfl
@[simp] theorem State.setF_px (a : Nat) (f : Field) (v : Nat) : (s.setF a f v).px = s.px := rfl
@[simp] theorem State.setF_cc (a : Nat) (f : Field) (v : Nat) : (s.setF a f v).cc = s.cc := rfl
@[simp] theorem State.setF_cal (a : Nat) (f : Field) (v : Nat) : (s.setF a f v).cal = s.cal := rfl
@[simp] theorem State.setF_hk (a : Nat) (f : Field) (v : Nat) : (s.setF a f v).hk = s.hk := rfl
@[simp] theorem State.setF_pipe (a : Nat) (f : Field) (v : Nat) : (s.setF a f v).pipe = s.pipe := rfl
@[simp] theorem State.setF_fs (a : Nat) (f : Field) (v : Nat) : (s.setF a f v).fs = s.fs := rfl
@[simp] theorem State.setF_dram (a : Nat) (f : Field) (v : Nat) : (s.setF a f v).dram = s.dram := rfl
@[simp] theorem State.setF_fy (a : Nat) (f : Field) (v : Nat) : (s.setF a f v).fy = s.fy := rfl
@[simp] theorem State.setF_eg (a : Nat) (f : Field) (v : Nat) : (s.setF a f v).eg = s.eg := rfl
@[simp] theorem State.setF_prev (a : Nat) (f : Field) (v : Nat) : (s.setF a f v).prev = s.prev := rfl
@[simp] theorem State.setF_pio (a : Nat) (f : Field) (v : Nat) : (s.setF a f v).pio = s.pio := rfl
@[simp] theorem State.setF_kf (a : Nat) (f : Field) (v : Nat) : (s.setF a f v).kf = s.kf := rfl
@[simp] theorem State.setF_ck (a : Nat) (f : Field) (v : Nat) : (s.setF a f v).ck = s.ck := rfl
@[simp] theorem State.setF_eth (a : Nat) (f : Field) (v : Nat) : (s.setF a f v).eth = s.eth := rfl
@[simp] theorem State.setF_boot (a : Nat) (f : Field) (v : Nat) : (s.setF a f v).boot = s.boot := rfl
@[simp] theorem State.setF_otp (a : Nat) (f : Field) (v : Nat) : (s.setF a f v).otp = s.otp := rfl
@[simp] theorem State.setF_flash (a : Nat) (f : Field) (v : Nat) : (s.setF a f v).flash = s.flash := rfl
@[simp] theorem State.setF_wire (a : Nat) (f : Field) (v : Nat) : (s.setF a f v).wire = s.wire := rfl
@[simp] theorem State.setF_free (a : Nat) (f : Field) (v : Nat) : (s.setF a f v).free = s.free := rfl
@[simp] theorem State.setF_pending (a : Nat) (f : Field) (v : Nat) : (s.setF a f v).pending = s.pending := rfl

@[simp] theorem State.setB_clock (a : Nat) (f : Field) (b : Bool) : (s.setB a f b).clock = s.clock := rfl
@[simp] theorem State.setB_gw (a : Nat) (f : Field) (b : Bool) : (s.setB a f b).gw = s.gw := rfl
@[simp] theorem State.setB_tt (a : Nat) (f : Field) (b : Bool) : (s.setB a f b).tt = s.tt := rfl
@[simp] theorem State.setB_px (a : Nat) (f : Field) (b : Bool) : (s.setB a f b).px = s.px := rfl
@[simp] theorem State.setB_cc (a : Nat) (f : Field) (b : Bool) : (s.setB a f b).cc = s.cc := rfl
@[simp] theorem State.setB_cal (a : Nat) (f : Field) (b : Bool) : (s.setB a f b).cal = s.cal := rfl
@[simp] theorem State.setB_hk (a : Nat) (f : Field) (b : Bool) : (s.setB a f b).hk = s.hk := rfl
@[simp] theorem State.setB_pipe (a : Nat) (f : Field) (b : Bool) : (s.setB a f b).pipe = s.pipe := rfl
@[simp] theorem State.setB_fs (a : Nat) (f : Field) (b : Bool) : (s.setB a f b).fs = s.fs := rfl
@[simp] theorem State.setB_dram (a : Nat) (f : Field) (b : Bool) : (s.setB a f b).dram = s.dram := rfl
@[simp] theorem State.setB_fy (a : Nat) (f : Field) (b : Bool) : (s.setB a f b).fy = s.fy := rfl
@[simp] theorem State.setB_eg (a : Nat) (f : Field) (b : Bool) : (s.setB a f b).eg = s.eg := rfl
@[simp] theorem State.setB_prev (a : Nat) (f : Field) (b : Bool) : (s.setB a f b).prev = s.prev := rfl
@[simp] theorem State.setB_pio (a : Nat) (f : Field) (b : Bool) : (s.setB a f b).pio = s.pio := rfl
@[simp] theorem State.setB_kf (a : Nat) (f : Field) (b : Bool) : (s.setB a f b).kf = s.kf := rfl
@[simp] theorem State.setB_ck (a : Nat) (f : Field) (b : Bool) : (s.setB a f b).ck = s.ck := rfl
@[simp] theorem State.setB_eth (a : Nat) (f : Field) (b : Bool) : (s.setB a f b).eth = s.eth := rfl
@[simp] theorem State.setB_boot (a : Nat) (f : Field) (b : Bool) : (s.setB a f b).boot = s.boot := rfl
@[simp] theorem State.setB_otp (a : Nat) (f : Field) (b : Bool) : (s.setB a f b).otp = s.otp := rfl
@[simp] theorem State.setB_flash (a : Nat) (f : Field) (b : Bool) : (s.setB a f b).flash = s.flash := rfl
@[simp] theorem State.setB_wire (a : Nat) (f : Field) (b : Bool) : (s.setB a f b).wire = s.wire := rfl
@[simp] theorem State.setB_free (a : Nat) (f : Field) (b : Bool) : (s.setB a f b).free = s.free := rfl
@[simp] theorem State.setB_pending (a : Nat) (f : Field) (b : Bool) : (s.setB a f b).pending = s.pending := rfl

@[simp] theorem State.addF_clock (a : Nat) (f : Field) (n : Nat) : (s.addF a f n).clock = s.clock := rfl
@[simp] theorem State.addF_gw (a : Nat) (f : Field) (n : Nat) : (s.addF a f n).gw = s.gw := rfl
@[simp] theorem State.addF_tt (a : Nat) (f : Field) (n : Nat) : (s.addF a f n).tt = s.tt := rfl
@[simp] theorem State.addF_px (a : Nat) (f : Field) (n : Nat) : (s.addF a f n).px = s.px := rfl
@[simp] theorem State.addF_cc (a : Nat) (f : Field) (n : Nat) : (s.addF a f n).cc = s.cc := rfl
@[simp] theorem State.addF_cal (a : Nat) (f : Field) (n : Nat) : (s.addF a f n).cal = s.cal := rfl
@[simp] theorem State.addF_hk (a : Nat) (f : Field) (n : Nat) : (s.addF a f n).hk = s.hk := rfl
@[simp] theorem State.addF_pipe (a : Nat) (f : Field) (n : Nat) : (s.addF a f n).pipe = s.pipe := rfl
@[simp] theorem State.addF_fs (a : Nat) (f : Field) (n : Nat) : (s.addF a f n).fs = s.fs := rfl
@[simp] theorem State.addF_dram (a : Nat) (f : Field) (n : Nat) : (s.addF a f n).dram = s.dram := rfl
@[simp] theorem State.addF_fy (a : Nat) (f : Field) (n : Nat) : (s.addF a f n).fy = s.fy := rfl
@[simp] theorem State.addF_eg (a : Nat) (f : Field) (n : Nat) : (s.addF a f n).eg = s.eg := rfl
@[simp] theorem State.addF_prev (a : Nat) (f : Field) (n : Nat) : (s.addF a f n).prev = s.prev := rfl
@[simp] theorem State.addF_pio (a : Nat) (f : Field) (n : Nat) : (s.addF a f n).pio = s.pio := rfl
@[simp] theorem State.addF_kf (a : Nat) (f : Field) (n : Nat) : (s.addF a f n).kf = s.kf := rfl
@[simp] theorem State.addF_ck (a : Nat) (f : Field) (n : Nat) : (s.addF a f n).ck = s.ck := rfl
@[simp] theorem State.addF_eth (a : Nat) (f : Field) (n : Nat) : (s.addF a f n).eth = s.eth := rfl
@[simp] theorem State.addF_boot (a : Nat) (f : Field) (n : Nat) : (s.addF a f n).boot = s.boot := rfl
@[simp] theorem State.addF_otp (a : Nat) (f : Field) (n : Nat) : (s.addF a f n).otp = s.otp := rfl
@[simp] theorem State.addF_flash (a : Nat) (f : Field) (n : Nat) : (s.addF a f n).flash = s.flash := rfl
@[simp] theorem State.addF_wire (a : Nat) (f : Field) (n : Nat) : (s.addF a f n).wire = s.wire := rfl
@[simp] theorem State.addF_free (a : Nat) (f : Field) (n : Nat) : (s.addF a f n).free = s.free := rfl
@[simp] theorem State.addF_pending (a : Nat) (f : Field) (n : Nat) : (s.addF a f n).pending = s.pending := rfl

@[simp] theorem State.satF_clock (a : Nat) (f : Field) (n : Nat) : (s.satF a f n).clock = s.clock := rfl
@[simp] theorem State.satF_gw (a : Nat) (f : Field) (n : Nat) : (s.satF a f n).gw = s.gw := rfl
@[simp] theorem State.satF_tt (a : Nat) (f : Field) (n : Nat) : (s.satF a f n).tt = s.tt := rfl
@[simp] theorem State.satF_px (a : Nat) (f : Field) (n : Nat) : (s.satF a f n).px = s.px := rfl
@[simp] theorem State.satF_cc (a : Nat) (f : Field) (n : Nat) : (s.satF a f n).cc = s.cc := rfl
@[simp] theorem State.satF_cal (a : Nat) (f : Field) (n : Nat) : (s.satF a f n).cal = s.cal := rfl
@[simp] theorem State.satF_hk (a : Nat) (f : Field) (n : Nat) : (s.satF a f n).hk = s.hk := rfl
@[simp] theorem State.satF_pipe (a : Nat) (f : Field) (n : Nat) : (s.satF a f n).pipe = s.pipe := rfl
@[simp] theorem State.satF_fs (a : Nat) (f : Field) (n : Nat) : (s.satF a f n).fs = s.fs := rfl
@[simp] theorem State.satF_dram (a : Nat) (f : Field) (n : Nat) : (s.satF a f n).dram = s.dram := rfl
@[simp] theorem State.satF_fy (a : Nat) (f : Field) (n : Nat) : (s.satF a f n).fy = s.fy := rfl
@[simp] theorem State.satF_eg (a : Nat) (f : Field) (n : Nat) : (s.satF a f n).eg = s.eg := rfl
@[simp] theorem State.satF_prev (a : Nat) (f : Field) (n : Nat) : (s.satF a f n).prev = s.prev := rfl
@[simp] theorem State.satF_pio (a : Nat) (f : Field) (n : Nat) : (s.satF a f n).pio = s.pio := rfl
@[simp] theorem State.satF_kf (a : Nat) (f : Field) (n : Nat) : (s.satF a f n).kf = s.kf := rfl
@[simp] theorem State.satF_ck (a : Nat) (f : Field) (n : Nat) : (s.satF a f n).ck = s.ck := rfl
@[simp] theorem State.satF_eth (a : Nat) (f : Field) (n : Nat) : (s.satF a f n).eth = s.eth := rfl
@[simp] theorem State.satF_boot (a : Nat) (f : Field) (n : Nat) : (s.satF a f n).boot = s.boot := rfl
@[simp] theorem State.satF_otp (a : Nat) (f : Field) (n : Nat) : (s.satF a f n).otp = s.otp := rfl
@[simp] theorem State.satF_flash (a : Nat) (f : Field) (n : Nat) : (s.satF a f n).flash = s.flash := rfl
@[simp] theorem State.satF_wire (a : Nat) (f : Field) (n : Nat) : (s.satF a f n).wire = s.wire := rfl
@[simp] theorem State.satF_free (a : Nat) (f : Field) (n : Nat) : (s.satF a f n).free = s.free := rfl
@[simp] theorem State.satF_pending (a : Nat) (f : Field) (n : Nat) : (s.satF a f n).pending = s.pending := rfl

@[simp] theorem State.setBit_clock (a : Nat) (f : Field) (i : Nat) : (s.setBit a f i).clock = s.clock := rfl
@[simp] theorem State.setBit_gw (a : Nat) (f : Field) (i : Nat) : (s.setBit a f i).gw = s.gw := rfl
@[simp] theorem State.setBit_tt (a : Nat) (f : Field) (i : Nat) : (s.setBit a f i).tt = s.tt := rfl
@[simp] theorem State.setBit_px (a : Nat) (f : Field) (i : Nat) : (s.setBit a f i).px = s.px := rfl
@[simp] theorem State.setBit_cc (a : Nat) (f : Field) (i : Nat) : (s.setBit a f i).cc = s.cc := rfl
@[simp] theorem State.setBit_cal (a : Nat) (f : Field) (i : Nat) : (s.setBit a f i).cal = s.cal := rfl
@[simp] theorem State.setBit_hk (a : Nat) (f : Field) (i : Nat) : (s.setBit a f i).hk = s.hk := rfl
@[simp] theorem State.setBit_pipe (a : Nat) (f : Field) (i : Nat) : (s.setBit a f i).pipe = s.pipe := rfl
@[simp] theorem State.setBit_fs (a : Nat) (f : Field) (i : Nat) : (s.setBit a f i).fs = s.fs := rfl
@[simp] theorem State.setBit_dram (a : Nat) (f : Field) (i : Nat) : (s.setBit a f i).dram = s.dram := rfl
@[simp] theorem State.setBit_fy (a : Nat) (f : Field) (i : Nat) : (s.setBit a f i).fy = s.fy := rfl
@[simp] theorem State.setBit_eg (a : Nat) (f : Field) (i : Nat) : (s.setBit a f i).eg = s.eg := rfl
@[simp] theorem State.setBit_prev (a : Nat) (f : Field) (i : Nat) : (s.setBit a f i).prev = s.prev := rfl
@[simp] theorem State.setBit_pio (a : Nat) (f : Field) (i : Nat) : (s.setBit a f i).pio = s.pio := rfl
@[simp] theorem State.setBit_kf (a : Nat) (f : Field) (i : Nat) : (s.setBit a f i).kf = s.kf := rfl
@[simp] theorem State.setBit_ck (a : Nat) (f : Field) (i : Nat) : (s.setBit a f i).ck = s.ck := rfl
@[simp] theorem State.setBit_eth (a : Nat) (f : Field) (i : Nat) : (s.setBit a f i).eth = s.eth := rfl
@[simp] theorem State.setBit_boot (a : Nat) (f : Field) (i : Nat) : (s.setBit a f i).boot = s.boot := rfl
@[simp] theorem State.setBit_otp (a : Nat) (f : Field) (i : Nat) : (s.setBit a f i).otp = s.otp := rfl
@[simp] theorem State.setBit_flash (a : Nat) (f : Field) (i : Nat) : (s.setBit a f i).flash = s.flash := rfl
@[simp] theorem State.setBit_wire (a : Nat) (f : Field) (i : Nat) : (s.setBit a f i).wire = s.wire := rfl
@[simp] theorem State.setBit_free (a : Nat) (f : Field) (i : Nat) : (s.setBit a f i).free = s.free := rfl
@[simp] theorem State.setBit_pending (a : Nat) (f : Field) (i : Nat) : (s.setBit a f i).pending = s.pending := rfl

@[simp] theorem State.clrBit_clock (a : Nat) (f : Field) (i : Nat) : (s.clrBit a f i).clock = s.clock := by
  unfold State.clrBit; split <;> rfl
@[simp] theorem State.clrBit_gw (a : Nat) (f : Field) (i : Nat) : (s.clrBit a f i).gw = s.gw := by
  unfold State.clrBit; split <;> rfl
@[simp] theorem State.clrBit_tt (a : Nat) (f : Field) (i : Nat) : (s.clrBit a f i).tt = s.tt := by
  unfold State.clrBit; split <;> rfl
@[simp] theorem State.clrBit_px (a : Nat) (f : Field) (i : Nat) : (s.clrBit a f i).px = s.px := by
  unfold State.clrBit; split <;> rfl
@[simp] theorem State.clrBit_cc (a : Nat) (f : Field) (i : Nat) : (s.clrBit a f i).cc = s.cc := by
  unfold State.clrBit; split <;> rfl
@[simp] theorem State.clrBit_cal (a : Nat) (f : Field) (i : Nat) : (s.clrBit a f i).cal = s.cal := by
  unfold State.clrBit; split <;> rfl
@[simp] theorem State.clrBit_hk (a : Nat) (f : Field) (i : Nat) : (s.clrBit a f i).hk = s.hk := by
  unfold State.clrBit; split <;> rfl
@[simp] theorem State.clrBit_pipe (a : Nat) (f : Field) (i : Nat) : (s.clrBit a f i).pipe = s.pipe := by
  unfold State.clrBit; split <;> rfl
@[simp] theorem State.clrBit_fs (a : Nat) (f : Field) (i : Nat) : (s.clrBit a f i).fs = s.fs := by
  unfold State.clrBit; split <;> rfl
@[simp] theorem State.clrBit_dram (a : Nat) (f : Field) (i : Nat) : (s.clrBit a f i).dram = s.dram := by
  unfold State.clrBit; split <;> rfl
@[simp] theorem State.clrBit_fy (a : Nat) (f : Field) (i : Nat) : (s.clrBit a f i).fy = s.fy := by
  unfold State.clrBit; split <;> rfl
@[simp] theorem State.clrBit_eg (a : Nat) (f : Field) (i : Nat) : (s.clrBit a f i).eg = s.eg := by
  unfold State.clrBit; split <;> rfl
@[simp] theorem State.clrBit_prev (a : Nat) (f : Field) (i : Nat) : (s.clrBit a f i).prev = s.prev := by
  unfold State.clrBit; split <;> rfl
@[simp] theorem State.clrBit_pio (a : Nat) (f : Field) (i : Nat) : (s.clrBit a f i).pio = s.pio := by
  unfold State.clrBit; split <;> rfl
@[simp] theorem State.clrBit_kf (a : Nat) (f : Field) (i : Nat) : (s.clrBit a f i).kf = s.kf := by
  unfold State.clrBit; split <;> rfl
@[simp] theorem State.clrBit_ck (a : Nat) (f : Field) (i : Nat) : (s.clrBit a f i).ck = s.ck := by
  unfold State.clrBit; split <;> rfl
@[simp] theorem State.clrBit_eth (a : Nat) (f : Field) (i : Nat) : (s.clrBit a f i).eth = s.eth := by
  unfold State.clrBit; split <;> rfl
@[simp] theorem State.clrBit_boot (a : Nat) (f : Field) (i : Nat) : (s.clrBit a f i).boot = s.boot := by
  unfold State.clrBit; split <;> rfl
@[simp] theorem State.clrBit_otp (a : Nat) (f : Field) (i : Nat) : (s.clrBit a f i).otp = s.otp := by
  unfold State.clrBit; split <;> rfl
@[simp] theorem State.clrBit_flash (a : Nat) (f : Field) (i : Nat) : (s.clrBit a f i).flash = s.flash := by
  unfold State.clrBit; split <;> rfl
@[simp] theorem State.clrBit_wire (a : Nat) (f : Field) (i : Nat) : (s.clrBit a f i).wire = s.wire := by
  unfold State.clrBit; split <;> rfl
@[simp] theorem State.clrBit_free (a : Nat) (f : Field) (i : Nat) : (s.clrBit a f i).free = s.free := by
  unfold State.clrBit; split <;> rfl
@[simp] theorem State.clrBit_pending (a : Nat) (f : Field) (i : Nat) : (s.clrBit a f i).pending = s.pending := by
  unfold State.clrBit; split <;> rfl

@[simp] theorem State.setBlock_clock (a : Nat) (vs : List Word) : (s.setBlock a vs).clock = s.clock := rfl
@[simp] theorem State.setBlock_gw (a : Nat) (vs : List Word) : (s.setBlock a vs).gw = s.gw := rfl
@[simp] theorem State.setBlock_tt (a : Nat) (vs : List Word) : (s.setBlock a vs).tt = s.tt := rfl
@[simp] theorem State.setBlock_px (a : Nat) (vs : List Word) : (s.setBlock a vs).px = s.px := rfl
@[simp] theorem State.setBlock_cc (a : Nat) (vs : List Word) : (s.setBlock a vs).cc = s.cc := rfl
@[simp] theorem State.setBlock_cal (a : Nat) (vs : List Word) : (s.setBlock a vs).cal = s.cal := rfl
@[simp] theorem State.setBlock_hk (a : Nat) (vs : List Word) : (s.setBlock a vs).hk = s.hk := rfl
@[simp] theorem State.setBlock_pipe (a : Nat) (vs : List Word) : (s.setBlock a vs).pipe = s.pipe := rfl
@[simp] theorem State.setBlock_fs (a : Nat) (vs : List Word) : (s.setBlock a vs).fs = s.fs := rfl
@[simp] theorem State.setBlock_dram (a : Nat) (vs : List Word) : (s.setBlock a vs).dram = s.dram := rfl
@[simp] theorem State.setBlock_fy (a : Nat) (vs : List Word) : (s.setBlock a vs).fy = s.fy := rfl
@[simp] theorem State.setBlock_eg (a : Nat) (vs : List Word) : (s.setBlock a vs).eg = s.eg := rfl
@[simp] theorem State.setBlock_prev (a : Nat) (vs : List Word) : (s.setBlock a vs).prev = s.prev := rfl
@[simp] theorem State.setBlock_pio (a : Nat) (vs : List Word) : (s.setBlock a vs).pio = s.pio := rfl
@[simp] theorem State.setBlock_kf (a : Nat) (vs : List Word) : (s.setBlock a vs).kf = s.kf := rfl
@[simp] theorem State.setBlock_ck (a : Nat) (vs : List Word) : (s.setBlock a vs).ck = s.ck := rfl
@[simp] theorem State.setBlock_eth (a : Nat) (vs : List Word) : (s.setBlock a vs).eth = s.eth := rfl
@[simp] theorem State.setBlock_boot (a : Nat) (vs : List Word) : (s.setBlock a vs).boot = s.boot := rfl
@[simp] theorem State.setBlock_otp (a : Nat) (vs : List Word) : (s.setBlock a vs).otp = s.otp := rfl
@[simp] theorem State.setBlock_flash (a : Nat) (vs : List Word) : (s.setBlock a vs).flash = s.flash := rfl
@[simp] theorem State.setBlock_wire (a : Nat) (vs : List Word) : (s.setBlock a vs).wire = s.wire := rfl
@[simp] theorem State.setBlock_free (a : Nat) (vs : List Word) : (s.setBlock a vs).free = s.free := rfl
@[simp] theorem State.setBlock_pending (a : Nat) (vs : List Word) : (s.setBlock a vs).pending = s.pending := rfl

/-! ## What the hardware has set at this instant is a record of its own (R13) -/

@[simp] theorem State.noteSet_regs (a m : Nat) : (s.noteSet a m).regs = s.regs := rfl
@[simp] theorem State.noteSet_clock (a m : Nat) : (s.noteSet a m).clock = s.clock := rfl
@[simp] theorem State.noteSet_gw (a m : Nat) : (s.noteSet a m).gw = s.gw := rfl
@[simp] theorem State.noteSet_tt (a m : Nat) : (s.noteSet a m).tt = s.tt := rfl
@[simp] theorem State.noteSet_px (a m : Nat) : (s.noteSet a m).px = s.px := rfl
@[simp] theorem State.noteSet_cc (a m : Nat) : (s.noteSet a m).cc = s.cc := rfl
@[simp] theorem State.noteSet_cal (a m : Nat) : (s.noteSet a m).cal = s.cal := rfl
@[simp] theorem State.noteSet_hk (a m : Nat) : (s.noteSet a m).hk = s.hk := rfl
@[simp] theorem State.noteSet_pipe (a m : Nat) : (s.noteSet a m).pipe = s.pipe := rfl
@[simp] theorem State.noteSet_fs (a m : Nat) : (s.noteSet a m).fs = s.fs := rfl
@[simp] theorem State.noteSet_dram (a m : Nat) : (s.noteSet a m).dram = s.dram := rfl
@[simp] theorem State.noteSet_fy (a m : Nat) : (s.noteSet a m).fy = s.fy := rfl
@[simp] theorem State.noteSet_eg (a m : Nat) : (s.noteSet a m).eg = s.eg := rfl
@[simp] theorem State.noteSet_prev (a m : Nat) : (s.noteSet a m).prev = s.prev := rfl
@[simp] theorem State.noteSet_pio (a m : Nat) : (s.noteSet a m).pio = s.pio := rfl
@[simp] theorem State.noteSet_kf (a m : Nat) : (s.noteSet a m).kf = s.kf := rfl
@[simp] theorem State.noteSet_ck (a m : Nat) : (s.noteSet a m).ck = s.ck := rfl
@[simp] theorem State.noteSet_eth (a m : Nat) : (s.noteSet a m).eth = s.eth := rfl
@[simp] theorem State.noteSet_boot (a m : Nat) : (s.noteSet a m).boot = s.boot := rfl
@[simp] theorem State.noteSet_otp (a m : Nat) : (s.noteSet a m).otp = s.otp := rfl
@[simp] theorem State.noteSet_flash (a m : Nat) : (s.noteSet a m).flash = s.flash := rfl
@[simp] theorem State.noteSet_wire (a m : Nat) : (s.noteSet a m).wire = s.wire := rfl
@[simp] theorem State.noteSet_free (a m : Nat) : (s.noteSet a m).free = s.free := rfl
@[simp] theorem State.noteSet_pending (a m : Nat) : (s.noteSet a m).pending = s.pending := rfl
@[simp] theorem State.noteSet_fresh (a m : Nat) : (s.noteSet a m).fresh = (a, m) :: s.fresh := rfl
@[simp] theorem State.setReg_fresh (a : Nat) (v : Word) : (s.setReg a v).fresh = s.fresh := rfl
@[simp] theorem State.emit_fresh (w : Wire) : (s.emit w).fresh = s.fresh := rfl
@[simp] theorem State.emits_fresh (ws : List Wire) : (s.emits ws).fresh = s.fresh := rfl
@[simp] theorem State.used_fresh : s.used.fresh = s.fresh := rfl

/-! ## The log and the free counter -/

@[simp] theorem State.emit_regs (w : Wire) : (s.emit w).regs = s.regs := rfl
@[simp] theorem State.emit_clock (w : Wire) : (s.emit w).clock = s.clock := rfl
@[simp] theorem State.emit_gw (w : Wire) : (s.emit w).gw = s.gw := rfl
@[simp] theorem State.emit_tt (w : Wire) : (s.emit w).tt = s.tt := rfl
@[simp] theorem State.emit_px (w : Wire) : (s.emit w).px = s.px := rfl
@[simp] theorem State.emit_cc (w : Wire) : (s.emit w).cc = s.cc := rfl
@[simp] theorem State.emit_cal (w : Wire) : (s.emit w).cal = s.cal := rfl
@[simp] theorem State.emit_hk (w : Wire) : (s.emit w).hk = s.hk := rfl
@[simp] theorem State.emit_pipe (w : Wire) : (s.emit w).pipe = s.pipe := rfl
@[simp] theorem State.emit_fs (w : Wire) : (s.emit w).fs = s.fs := rfl
@[simp] theorem State.emit_dram (w : Wire) : (s.emit w).dram = s.dram := rfl
@[simp] theorem State.emit_fy (w : Wire) : (s.emit w).fy = s.fy := rfl
@[simp] theorem State.emit_eg (w : Wire) : (s.emit w).eg = s.eg := rfl
@[simp] theorem State.emit_prev (w : Wire) : (s.emit w).prev = s.prev := rfl
@[simp] theorem State.emit_pio (w : Wire) : (s.emit w).pio = s.pio := rfl
@[simp] theorem State.emit_kf (w : Wire) : (s.emit w).kf = s.kf := rfl
@[simp] theorem State.emit_ck (w : Wire) : (s.emit w).ck = s.ck := rfl
@[simp] theorem State.emit_eth (w : Wire) : (s.emit w).eth = s.eth := rfl
@[simp] theorem State.emit_boot (w : Wire) : (s.emit w).boot = s.boot := rfl
@[simp] theorem State.emit_otp (w : Wire) : (s.emit w).otp = s.otp := rfl
@[simp] theorem State.emit_flash (w : Wire) : (s.emit w).flash = s.flash := rfl
@[simp] theorem State.emit_free (w : Wire) : (s.emit w).free = s.free := rfl
@[simp] theorem State.emit_pending (w : Wire) : (s.emit w).pending = s.pending := rfl
@[simp] theorem State.emit_wire (w : Wire) : (s.emit w).wire = s.wire ++ [w] := rfl

@[simp] theorem State.emits_regs (ws : List Wire) : (s.emits ws).regs = s.regs := rfl
@[simp] theorem State.emits_clock (ws : List Wire) : (s.emits ws).clock = s.clock := rfl
@[simp] theorem State.emits_gw (ws : List Wire) : (s.emits ws).gw = s.gw := rfl
@[simp] theorem State.emits_tt (ws : List Wire) : (s.emits ws).tt = s.tt := rfl
@[simp] theorem State.emits_px (ws : List Wire) : (s.emits ws).px = s.px := rfl
@[simp] theorem State.emits_cc (ws : List Wire) : (s.emits ws).cc = s.cc := rfl
@[simp] theorem State.emits_cal (ws : List Wire) : (s.emits ws).cal = s.cal := rfl
@[simp] theorem State.emits_hk (ws : List Wire) : (s.emits ws).hk = s.hk := rfl
@[simp] theorem State.emits_pipe (ws : List Wire) : (s.emits ws).pipe = s.pipe := rfl
@[simp] theorem State.emits_fs (ws : List Wire) : (s.emits ws).fs = s.fs := rfl
@[simp] theorem State.emits_dram (ws : List Wire) : (s.emits ws).dram = s.dram := rfl
@[simp] theorem State.emits_fy (ws : List Wire) : (s.emits ws).fy = s.fy := rfl
@[simp] theorem State.emits_eg (ws : List Wire) : (s.emits ws).eg = s.eg := rfl
@[simp] theorem State.emits_prev (ws : List Wire) : (s.emits ws).prev = s.prev := rfl
@[simp] theorem State.emits_pio (ws : List Wire) : (s.emits ws).pio = s.pio := rfl
@[simp] theorem State.emits_kf (ws : List Wire) : (s.emits ws).kf = s.kf := rfl
@[simp] theorem State.emits_ck (ws : List Wire) : (s.emits ws).ck = s.ck := rfl
@[simp] theorem State.emits_eth (ws : List Wire) : (s.emits ws).eth = s.eth := rfl
@[simp] theorem State.emits_boot (ws : List Wire) : (s.emits ws).boot = s.boot := rfl
@[simp] theorem State.emits_otp (ws : List Wire) : (s.emits ws).otp = s.otp := rfl
@[simp] theorem State.emits_flash (ws : List Wire) : (s.emits ws).flash = s.flash := rfl
@[simp] theorem State.emits_free (ws : List Wire) : (s.emits ws).free = s.free := rfl
@[simp] theorem State.emits_pending (ws : List Wire) : (s.emits ws).pending = s.pending := rfl
@[simp] theorem State.emits_wire (ws : List Wire) : (s.emits ws).wire = s.wire ++ ws := rfl

@[simp] theorem State.used_regs : s.used.regs = s.regs := rfl
@[simp] theorem State.used_clock : s.used.clock = s.clock := rfl
@[simp] theorem State.used_gw : s.used.gw = s.gw := rfl
@[simp] theorem State.used_tt : s.used.tt = s.tt := rfl
@[simp] theorem State.used_px : s.used.px = s.px := rfl
@[simp] theorem State.used_cc : s.used.cc = s.cc := rfl
@[simp] theorem State.used_cal : s.used.cal = s.cal := rfl
@[simp] theorem State.used_hk : s.used.hk = s.hk := rfl
@[simp] theorem State.used_pipe : s.used.pipe = s.pipe := rfl
@[simp] theorem State.used_fs : s.used.fs = s.fs := rfl
@[simp] theorem State.used_dram : s.used.dram = s.dram := rfl
@[simp] theorem State.used_fy : s.used.fy = s.fy := rfl
@[simp] theorem State.used_eg : s.used.eg = s.eg := rfl
@[simp] theorem State.used_prev : s.used.prev = s.prev := rfl
@[simp] theorem State.used_pio : s.used.pio = s.pio := rfl
@[simp] theorem State.used_kf : s.used.kf = s.kf := rfl
@[simp] theorem State.used_ck : s.used.ck = s.ck := rfl
@[simp] theorem State.used_eth : s.used.eth = s.eth := rfl
@[simp] theorem State.used_boot : s.used.boot = s.boot := rfl
@[simp] theorem State.used_otp : s.used.otp = s.otp := rfl
@[simp] theorem State.used_flash : s.used.flash = s.flash := rfl
@[simp] theorem State.used_wire : s.used.wire = s.wire := rfl
@[simp] theorem State.used_pending : s.used.pending = s.pending := rfl

/-! ## The passing of time changes the clock and the free counter alone -/

@[simp] theorem State.advance_regs (t : Nat) : (s.advance t).regs = s.regs := by
  unfold State.advance; split
  · rfl
  · dsimp only; split <;> rfl
@[simp] theorem State.advance_gw (t : Nat) : (s.advance t).gw = s.gw := by
  unfold State.advance; split
  · rfl
  · dsimp only; split <;> rfl
@[simp] theorem State.advance_tt (t : Nat) : (s.advance t).tt = s.tt := by
  unfold State.advance; split
  · rfl
  · dsimp only; split <;> rfl
@[simp] theorem State.advance_px (t : Nat) : (s.advance t).px = s.px := by
  unfold State.advance; split
  · rfl
  · dsimp only; split <;> rfl
@[simp] theorem State.advance_cc (t : Nat) : (s.advance t).cc = s.cc := by
  unfold State.advance; split
  · rfl
  · dsimp only; split <;> rfl
@[simp] theorem State.advance_cal (t : Nat) : (s.advance t).cal = s.cal := by
  unfold State.advance; split
  · rfl
  · dsimp only; split <;> rfl
@[simp] theorem State.advance_hk (t : Nat) : (s.advance t).hk = s.hk := by
  unfold State.advance; split
  · rfl
  · dsimp only; split <;> rfl
@[simp] theorem State.advance_pipe (t : Nat) : (s.advance t).pipe = s.pipe := by
  unfold State.advance; split
  · rfl
  · dsimp only; split <;> rfl
@[simp] theorem State.advance_fs (t : Nat) : (s.advance t).fs = s.fs := by
  unfold State.advance; split
  · rfl
  · dsimp only; split <;> rfl
@[simp] theorem State.advance_dram (t : Nat) : (s.advance t).dram = s.dram := by
  unfold State.advance; split
  · rfl
  · dsimp only; split <;> rfl
@[simp] theorem State.advance_fy (t : Nat) : (s.advance t).fy = s.fy := by
  unfold State.advance; split
  · rfl
  · dsimp only; split <;> rfl
@[simp] theorem State.advance_eg (t : Nat) : (s.advance t).eg = s.eg := by
  unfold State.advance; split
  · rfl
  · dsimp only; split <;> rfl
@[simp] theorem State.advance_prev (t : Nat) : (s.advance t).prev = s.prev := by
  unfold State.advance; split
  · rfl
  · dsimp only; split <;> rfl
@[simp] theorem State.advance_pio (t : Nat) : (s.advance t).pio = s.pio := by
  unfold State.advance; split
  · rfl
  · dsimp only; split <;> rfl
@[simp] theorem State.advance_kf (t : Nat) : (s.advance t).kf = s.kf := by
  unfold State.advance; split
  · rfl
  · dsimp only; split <;> rfl
@[simp] theorem State.advance_ck (t : Nat) : (s.advance t).ck = s.ck := by
  unfold State.advance; split
  · rfl
  · dsimp only; split <;> rfl
@[simp] theorem State.advance_eth (t : Nat) : (s.advance t).eth = s.eth := by
  unfold State.advance; split
  · rfl
  · dsimp only; split <;> rfl
@[simp] theorem State.advance_boot (t : Nat) : (s.advance t).boot = s.boot := by
  unfold State.advance; split
  · rfl
  · dsimp only; split <;> rfl
@[simp] theorem State.advance_otp (t : Nat) : (s.advance t).otp = s.otp := by
  unfold State.advance; split
  · rfl
  · dsimp only; split <;> rfl
@[simp] theorem State.advance_flash (t : Nat) : (s.advance t).flash = s.flash := by
  unfold State.advance; split
  · rfl
  · dsimp only; split <;> rfl
@[simp] theorem State.advance_wire (t : Nat) : (s.advance t).wire = s.wire := by
  unfold State.advance; split
  · rfl
  · dsimp only; split <;> rfl
@[simp] theorem State.advance_pending (t : Nat) : (s.advance t).pending = s.pending := by
  unfold State.advance; split
  · rfl
  · dsimp only; split <;> rfl

/-- Time never runs backwards, and reaches the instant of the command. -/
theorem State.advance_now (t : Nat) : (s.advance t).clock.now = max s.clock.now t := by
  unfold State.advance
  split
  · omega
  · dsimp only
    split
    · simp only; omega
    · simp only; omega

/-! ## Registers read back -/

@[simp] theorem State.reg_setReg_self (a : Nat) (v : Word) : (s.setReg a v).reg a = v :=
  Sparse.get_put_self resetWord s.regs a v

theorem State.reg_setReg_ne {a b : Nat} (v : Word) (h : b ≠ a) : (s.setReg a v).reg b = s.reg b :=
  Sparse.get_put_ne resetWord s.regs v h

@[simp] theorem State.reg_noteSet (a m b : Nat) : (s.noteSet a m).reg b = s.reg b := rfl

/-- A register reads alike in two states with one register file. -/
theorem State.reg_congr {s t : State} (h : s.regs = t.regs) (a : Nat) : s.reg a = t.reg a := by
  simp only [State.reg, h]

@[simp] theorem State.reg_advance (t a : Nat) : (s.advance t).reg a = s.reg a := State.reg_congr (State.advance_regs s t) a

@[simp] theorem State.f_advance (t a : Nat) (f : Field) : (s.advance t).f a f = s.f a f := by simp only [State.f, State.reg_advance]

@[simp] theorem State.flag_advance (t a : Nat) (f : Field) : (s.advance t).flag a f = s.flag a f := by simp only [State.flag, State.f_advance]

/-- Bits of a field's word. -/
theorem Field.getLsbD_mask (f : Field) (i : Nat) :
    f.mask.getLsbD i = (decide (i < 64) && decide (f.lo ≤ i) && decide (i - f.lo < f.width)) := by
  unfold Field.mask
  rw [BitVec.getLsbD_ofNat, Nat.testBit_mul_two_pow, Nat.testBit_two_pow_sub_one]
  cases decide (i < 64) <;> cases h : decide (f.lo ≤ i) <;> simp_all

/-- The value of a field, bit by bit. -/
theorem Field.testBit_get (f : Field) (w : Word) (i : Nat) :
    (f.get w).testBit i = (decide (i < f.width) && w.getLsbD (f.lo + i)) := by
  unfold Field.get
  rw [Nat.testBit_mod_two_pow, Nat.testBit_div_two_pow, BitVec.getLsbD, Nat.add_comm]

theorem Field.getLsbD_set (f : Field) (w : Word) (v i : Nat) :
    (f.set w v).getLsbD i =
      if f.lo ≤ i ∧ i < f.lo + f.width ∧ i < 64 then v.testBit (i - f.lo) else w.getLsbD i := by
  unfold Field.set
  simp only [BitVec.getLsbD_or, BitVec.getLsbD_and, BitVec.getLsbD_not, Field.getLsbD_mask, BitVec.getLsbD_ofNat,
    Nat.testBit_mul_two_pow, Nat.testBit_mod_two_pow]
  by_cases h64 : i < 64
  · by_cases h1 : f.lo ≤ i
    · by_cases h2 : i < f.lo + f.width
      · have h3 : i - f.lo < f.width := by omega
        simp [h64, h1, h2, h3]
      · have h3 : ¬ i - f.lo < f.width := by omega
        simp [h64, h2, h3]
    · simp [h64, h1]
  · have : w.getLsbD i = false := BitVec.getLsbD_of_ge w i (by omega)
    simp [h64, this]

/-- A field of 64 bits at most reads back what was written, cut to its width. -/
theorem Field.get_set_self (f : Field) (w : Word) (v : Nat) (h : f.lo + f.width ≤ 64) : f.get (f.set w v) = v % 2 ^ f.width := by
  apply Nat.eq_of_testBit_eq
  intro i
  rw [Field.testBit_get, Field.getLsbD_set, Nat.testBit_mod_two_pow]
  by_cases hi : i < f.width
  · have h2 : f.lo + i < f.lo + f.width ∧ f.lo + i < 64 := by omega
    simp [hi, h2.1, h2.2]
  · simp [hi]

/-- Two fields that share no bit do not disturb one another. -/
theorem Field.get_set_disjoint (f g : Field) (w : Word) (v : Nat) (h : g.lo + g.width ≤ f.lo ∨ f.lo + f.width ≤ g.lo) :
    g.get (f.set w v) = g.get w := by
  apply Nat.eq_of_testBit_eq
  intro i
  rw [Field.testBit_get, Field.testBit_get, Field.getLsbD_set]
  by_cases hi : i < g.width
  · have : ¬ (f.lo ≤ g.lo + i ∧ g.lo + i < f.lo + f.width ∧ g.lo + i < 64) := by omega
    simp [hi, this]
  · simp [hi]

/-- A field read back after it was written. -/
theorem State.f_setF_self (a : Nat) (f : Field) (v : Nat) (h : f.lo + f.width ≤ 64) : (s.setF a f v).f a f = v % 2 ^ f.width := by
  unfold State.f State.setF
  rw [State.reg_noteSet, State.reg_setReg_self, Field.get_set_self f _ _ h]

/-- Another field of the same register. -/
theorem State.f_setF_disjoint (a : Nat) (f g : Field) (v : Nat) (h : g.lo + g.width ≤ f.lo ∨ f.lo + f.width ≤ g.lo) :
    (s.setF a f v).f a g = s.f a g := by
  unfold State.f State.setF
  rw [State.reg_noteSet, State.reg_setReg_self, Field.get_set_disjoint f g _ _ h]

/-- A field of another register. -/
theorem State.f_setF_ne {a b : Nat} (f g : Field) (v : Nat) (h : b ≠ a) : (s.setF a f v).f b g = s.f b g := by
  unfold State.f State.setF
  rw [State.reg_noteSet, State.reg_setReg_ne s _ h]

/-- A flag read back after it was written. -/
theorem State.flag_setB_self (a : Nat) (f : Field) (b : Bool) (h : f.lo + f.width ≤ 64) (hw : f.width = 1) : (s.setB a f b).flag a f = b := by
  unfold State.flag State.setB
  rw [State.f_setF_self s a f _ h, hw]
  cases b <;> rfl

/-! ## The register file stays canonical -/

/-- Operations that write registers keep the register file's canonical form. -/
theorem State.setReg_wf (a : Nat) (v : Word) (h : Sparse.wf resetWord s.regs = true) : Sparse.wf resetWord (s.setReg a v).regs = true :=
  Sparse.put_wf resetWord s.regs a v h

theorem State.setBlock_wf (a : Nat) (vs : List Word) (h : Sparse.wf resetWord s.regs = true) : Sparse.wf resetWord (s.setBlock a vs).regs = true :=
  Sparse.splice_wf resetWord s.regs a 8 vs (by omega) h

end Sys2Proof.Machine
end

