-- ==== Sys2Proof/Laws/Within.lean ====
section
/-! SUPPORT. The relation in which every frame is proved: `t` differs from `s` only in the parts of two masks, one for parts at any number and one for parts at one number. One lemma for each shared operation; Laws/Frames files give one for each function of the model. -/

namespace Sys2Proof.Machine

/-- The mask of a list of parts. -/
def maskOf (l : List Part) : Nat := l.foldr (fun p m => 1 <<< p.ctorIdx ||| m) 0

/-- A part at number `i` lies in the masks `M` (any number) and `N` (number `b`). -/
def May (M N b k i : Nat) : Prop := M.testBit k = true ∨ (N.testBit k = true ∧ i = b)

/-- The register at `a` lies in the masks. -/
def Cov (M N b a : Nat) : Prop :=
  (16 ≤ a ∧ ((∃ p i j, Part.addr p i j = some a ∧ May M N b p.ctorIdx i) ∨ M.testBit 22 = true ∨
    (May M N b 23 a ∧ ∃ d, regAt a = some d ∧ d.storeMask ||| d.w1c ≠ 0))) ∨ (M.testBit 24 = true ∧ a < 16)

/-- `t` differs from `s` only in the masks. -/
structure Within (M N b : Nat) (s t : State) : Prop where
  pending : t.pending = s.pending
  now : t.clock.now = s.clock.now
  fused : t.otp.fuses = s.otp.fuses
  keys : keysKept s.otp.keys t.otp.keys
  driven : s.wire <+: t.wire
  counted : s.free ≤ t.free
  fresh : s.fresh <:+ t.fresh
  sound : s.Sound → t.Sound
  regs : ∀ a, a % 8 = 0 → ¬ Cov M N b a → t.reg a = s.reg a
  bundle : M.testBit 11 = false → ∀ i, i ≠ b → t.eg[i]? = s.eg[i]?
  ferry : M.testBit 10 = false → ∀ i, i ≠ b → t.fy[i]? = s.fy[i]?
  clock : M.testBit 0 = false → t.clock = s.clock
  gw : M.testBit 1 = false → t.gw = s.gw
  tt : M.testBit 2 = false → t.tt = s.tt
  px : M.testBit 3 = false → t.px = s.px
  cc : M.testBit 4 = false → t.cc = s.cc
  cal : M.testBit 5 = false → t.cal = s.cal
  hk : M.testBit 6 = false → t.hk = s.hk
  pipe : M.testBit 7 = false → t.pipe = s.pipe
  fs : M.testBit 8 = false → t.fs = s.fs
  dram : M.testBit 9 = false → t.dram = s.dram
  fy : M.testBit 10 = false → N.testBit 10 = false → t.fy = s.fy
  eg : M.testBit 11 = false → N.testBit 11 = false → t.eg = s.eg
  prev : M.testBit 12 = false → t.prev = s.prev
  pio : M.testBit 13 = false → t.pio = s.pio
  kf : M.testBit 14 = false → t.kf = s.kf
  ck : M.testBit 15 = false → t.ck = s.ck
  eth : M.testBit 16 = false → t.eth = s.eth
  boot : M.testBit 17 = false → t.boot = s.boot
  otp : M.testBit 18 = false → t.otp = s.otp
  flash : M.testBit 19 = false → t.flash = s.flash
  wire : M.testBit 20 = false → t.wire = s.wire
  free : M.testBit 21 = false → t.free = s.free

/-- Masks `m` and `n` at number `i` lie in masks `M` and `N` at number `b`. -/
structure Foot (M N b m n i : Nat) : Prop where
  le : m ||| M = M
  own : n ||| M = M ∨ (i = b ∧ n ||| (M ||| N) = M ||| N)

theorem testBit_of_le {m M k : Nat} (h : m ||| M = M) (hk : m.testBit k = true) : M.testBit k = true := by
  rw [← h, Nat.testBit_or, hk, Bool.true_or]

variable {M N b m n i : Nat} {s₀ s : State}

theorem Foot.any (F : Foot M N b m n i) {k : Nat} (hk : m.testBit k = true) : M.testBit k = true := testBit_of_le F.le hk

theorem Foot.may (F : Foot M N b m n i) {k j : Nat} (hk : m.testBit k = true) : May M N b k j := .inl (F.any hk)

theorem Foot.mayOwn (F : Foot M N b m n i) {k : Nat} (hk : (m ||| n).testBit k = true) : May M N b k i := by
  rw [Nat.testBit_or, Bool.or_eq_true] at hk
  rcases hk with hk | hk
  · exact F.may hk
  · rcases F.own with h | ⟨rfl, h⟩
    · exact .inl (testBit_of_le h hk)
    · have := testBit_of_le h hk
      rw [Nat.testBit_or, Bool.or_eq_true] at this
      exact this.imp id fun h => ⟨h, rfl⟩

theorem Foot.refl (m n i : Nat) : Foot m n i m n i := ⟨Nat.or_self m, .inr ⟨rfl, by rw [Nat.or_comm m n, ← Nat.or_assoc, Nat.or_self]⟩⟩

theorem or_le_trans {a c d : Nat} (h1 : a ||| c = c) (h2 : c ||| d = d) : a ||| d = d := by
  rw [← h2, ← Nat.or_assoc, h1]

/-- A callee that works on the same unit. -/
theorem Foot.sub (F : Foot M N b m n i) {m' n' : Nat} (hm : m' ||| m = m) (hn : n' ||| (m ||| n) = m ||| n) : Foot M N b m' n' i := by
  refine ⟨or_le_trans hm F.le, ?_⟩
  rcases F.own with h | ⟨h, h'⟩
  · refine .inl (or_le_trans hn ?_)
    rw [Nat.or_assoc, h, F.le]
  · refine .inr ⟨h, or_le_trans hn ?_⟩
    rw [Nat.or_assoc, h', ← Nat.or_assoc, F.le]

/-- A callee that works on another unit, or on none. -/
theorem Foot.drop (F : Foot M N b m n i) {m' n' i' : Nat} (h : (m' ||| n') ||| m = m) : Foot M N b m' n' i' := by
  have h1 : m' ||| m = m := by
    rw [← h, ← Nat.or_assoc, ← Nat.or_assoc, Nat.or_self]
  have h2 : n' ||| m = m := by
    rw [← h, ← Nat.or_assoc, Nat.or_comm n' (m' ||| n'), Nat.or_assoc m', Nat.or_self]
  exact ⟨or_le_trans h1 F.le, .inl (or_le_trans h2 F.le)⟩

/-! ## Addresses -/

theorem Part.addr_ge {p : Part} {i j a : Nat} (h : p.addr i j = some a) : 16 ≤ a := by
  cases p <;> simp only [Part.addr, Option.some.injEq, reduceCtorEq] at h <;> subst h <;>
    first | exact Nat.le_trans (by decide) (Nat.le_add_right _ _) | exact Nat.le_trans (by decide) (Nat.le_trans (Nat.le_add_right _ _) (Nat.le_add_right _ _)) | decide

theorem Cov.at {p : Part} {i j a : Nat} (h : p.addr i j = some a) (hp : May M N b p.ctorIdx i) : Cov M N b a :=
  .inl ⟨Part.addr_ge h, .inl ⟨p, i, j, h, hp⟩⟩

theorem Cov.ite {c : Prop} [Decidable c] {a a' : Nat} (h : Cov M N b a) (h' : Cov M N b a') : Cov M N b (if c then a else a') := by
  split <;> assumption

/-! ## Reflexivity, branches and loops -/

theorem keysKept.refl (l : List OtpKey) : keysKept l l := fun _ e h => ⟨e, h, id, id⟩

theorem keysKept.trans {l m n : List OtpKey} (h : keysKept l m) (k : keysKept m n) : keysKept l n := fun i e he => by
  obtain ⟨e', h1, h2, h3⟩ := h i e he
  obtain ⟨e'', k1, k2, k3⟩ := k i e' h1
  exact ⟨e'', k1, fun x => k2 (h2 x), fun x => k3 (h3 x)⟩

theorem Within.refl (M N b : Nat) (s : State) : Within M N b s s where
  pending := rfl
  now := rfl
  fused := rfl
  keys := keysKept.refl _
  driven := List.prefix_rfl
  counted := Nat.le_refl _
  fresh := List.suffix_refl _
  sound := id
  regs := fun _ _ _ => rfl
  bundle := fun _ _ _ => rfl
  ferry := fun _ _ _ => rfl
  clock := fun _ => rfl
  gw := fun _ => rfl
  tt := fun _ => rfl
  px := fun _ => rfl
  cc := fun _ => rfl
  cal := fun _ => rfl
  hk := fun _ => rfl
  pipe := fun _ => rfl
  fs := fun _ => rfl
  dram := fun _ => rfl
  fy := fun _ _ => rfl
  eg := fun _ _ => rfl
  prev := fun _ => rfl
  pio := fun _ => rfl
  kf := fun _ => rfl
  ck := fun _ => rfl
  eth := fun _ => rfl
  boot := fun _ => rfl
  otp := fun _ => rfl
  flash := fun _ => rfl
  wire := fun _ => rfl
  free := fun _ => rfl

/-- A pair whose state stays within. -/
def Within1 {α : Type} (M N b : Nat) (s : State) (p : State × α) : Prop := Within M N b s p.1

/-- A state that may be absent. -/
def WithinO (M N b : Nat) (s : State) (o : Option State) : Prop := ∀ t, o = some t → Within M N b s t

/-- An outcome whose next state stays within. -/
def Ends (M N b : Nat) (s : State) (r : Result) : Prop := ∀ t, r = .next t → Within M N b s t

theorem Within1.mk {α : Type} {x : α} (h : Within M N b s₀ s) : Within1 M N b s₀ (s, x) := h

theorem Within.fst {α : Type} {p : State × α} (h : Within1 M N b s₀ p) : Within M N b s₀ p.1 := h

theorem Within1.take {α : Type} {p : State × α} {x : α} (hp : p = (s, x)) (h : Within1 M N b s₀ p) : Within M N b s₀ s := by
  subst hp; exact h

theorem WithinO.mk (h : Within M N b s₀ s) : WithinO M N b s₀ (some s) := fun _ ht => Option.some.inj ht ▸ h

theorem WithinO.none : WithinO M N b s₀ none := fun _ ht => nomatch ht

theorem WithinO.take {o : Option State} (ho : o = some s) (h : WithinO M N b s₀ o) : Within M N b s₀ s := h _ ho

theorem Ends.mk (h : Within M N b s₀ s) : Ends M N b s₀ (.next s) := fun _ ht => by cases ht; exact h

theorem Ends.keep {r : Result} {t : State} (h : Ends M N b s₀ r) (hr : r = .next t) : Within M N b s₀ t := h t hr

theorem Within.ite {c : Prop} [Decidable c] {t u : State} (ht : Within M N b s₀ t) (hu : Within M N b s₀ u) :
    Within M N b s₀ (if c then t else u) := by split <;> assumption

theorem Within1.ite {α : Type} {c : Prop} [Decidable c] {t u : State × α} (ht : Within1 M N b s₀ t) (hu : Within1 M N b s₀ u) :
    Within1 M N b s₀ (if c then t else u) := by split <;> assumption

theorem WithinO.ite {c : Prop} [Decidable c] {t u : Option State} (ht : WithinO M N b s₀ t) (hu : WithinO M N b s₀ u) :
    WithinO M N b s₀ (if c then t else u) := by split <;> assumption

theorem Ends.ite {c : Prop} [Decidable c] {t u : Result} (ht : Ends M N b s₀ t) (hu : Ends M N b s₀ u) :
    Ends M N b s₀ (if c then t else u) := by split <;> assumption

theorem Within.dite {c : Prop} [Decidable c] {t : c → State} {u : ¬c → State} (ht : ∀ h, Within M N b s₀ (t h))
    (hu : ∀ h, Within M N b s₀ (u h)) : Within M N b s₀ (if h : c then t h else u h) := by split <;> apply_assumption

theorem Within.foldl {α : Type} {f : State → α → State} {l : List α} (hf : ∀ s x, Within M N b s₀ s → Within M N b s₀ (f s x))
    (h : Within M N b s₀ s) : Within M N b s₀ (l.foldl f s) := by
  induction l generalizing s with
  | nil => exact h
  | cons x r ih => exact ih (hf s x h)

theorem Within1.foldl {α β : Type} {f : State × β → α → State × β} {l : List α} {p : State × β}
    (hf : ∀ q x, Within1 M N b s₀ q → Within1 M N b s₀ (f q x)) (h : Within1 M N b s₀ p) : Within1 M N b s₀ (l.foldl f p) := by
  induction l generalizing p with
  | nil => exact h
  | cons x r ih => exact ih (hf p x h)

/-! ## Fields of State -/

theorem Within.upd_clock {clock' : Clock} (hclock : M.testBit 0 = true) (hn : clock'.now = s.clock.now) (h : Within M N b s₀ s) :
    Within M N b s₀ { s with clock := clock' } where
  pending := h.pending
  now := hn.trans h.now
  fused := h.fused
  keys := h.keys
  driven := h.driven
  counted := h.counted
  fresh := h.fresh
  sound := fun k0 => have k := h.sound k0; ⟨k.regs, k.dram, k.flash, k.otp, k.ferries, k.bundles, k.part, k.devid⟩
  regs := h.regs
  bundle := h.bundle
  ferry := h.ferry
  clock := fun e => nomatch e.symm.trans hclock
  gw := h.gw
  tt := h.tt
  px := h.px
  cc := h.cc
  cal := h.cal
  hk := h.hk
  pipe := h.pipe
  fs := h.fs
  dram := h.dram
  fy := h.fy
  eg := h.eg
  prev := h.prev
  pio := h.pio
  kf := h.kf
  ck := h.ck
  eth := h.eth
  boot := h.boot
  otp := h.otp
  flash := h.flash
  wire := h.wire
  free := h.free

theorem Within.upd_gw {gw' : Gateway} (hgw : M.testBit 1 = true) (h : Within M N b s₀ s) :
    Within M N b s₀ { s with gw := gw' } where
  pending := h.pending
  now := h.now
  fused := h.fused
  keys := h.keys
  driven := h.driven
  counted := h.counted
  fresh := h.fresh
  sound := fun k0 => have k := h.sound k0; ⟨k.regs, k.dram, k.flash, k.otp, k.ferries, k.bundles, k.part, k.devid⟩
  regs := h.regs
  bundle := h.bundle
  ferry := h.ferry
  clock := h.clock
  gw := fun e => nomatch e.symm.trans hgw
  tt := h.tt
  px := h.px
  cc := h.cc
  cal := h.cal
  hk := h.hk
  pipe := h.pipe
  fs := h.fs
  dram := h.dram
  fy := h.fy
  eg := h.eg
  prev := h.prev
  pio := h.pio
  kf := h.kf
  ck := h.ck
  eth := h.eth
  boot := h.boot
  otp := h.otp
  flash := h.flash
  wire := h.wire
  free := h.free

theorem Within.upd_tt {tt' : Timetable} (htt : M.testBit 2 = true) (h : Within M N b s₀ s) :
    Within M N b s₀ { s with tt := tt' } where
  pending := h.pending
  now := h.now
  fused := h.fused
  keys := h.keys
  driven := h.driven
  counted := h.counted
  fresh := h.fresh
  sound := fun k0 => have k := h.sound k0; ⟨k.regs, k.dram, k.flash, k.otp, k.ferries, k.bundles, k.part, k.devid⟩
  regs := h.regs
  bundle := h.bundle
  ferry := h.ferry
  clock := h.clock
  gw := h.gw
  tt := fun e => nomatch e.symm.trans htt
  px := h.px
  cc := h.cc
  cal := h.cal
  hk := h.hk
  pipe := h.pipe
  fs := h.fs
  dram := h.dram
  fy := h.fy
  eg := h.eg
  prev := h.prev
  pio := h.pio
  kf := h.kf
  ck := h.ck
  eth := h.eth
  boot := h.boot
  otp := h.otp
  flash := h.flash
  wire := h.wire
  free := h.free

theorem Within.upd_px {px' : Pixels} (hpx : M.testBit 3 = true) (h : Within M N b s₀ s) :
    Within M N b s₀ { s with px := px' } where
  pending := h.pending
  now := h.now
  fused := h.fused
  keys := h.keys
  driven := h.driven
  counted := h.counted
  fresh := h.fresh
  sound := fun k0 => have k := h.sound k0; ⟨k.regs, k.dram, k.flash, k.otp, k.ferries, k.bundles, k.part, k.devid⟩
  regs := h.regs
  bundle := h.bundle
  ferry := h.ferry
  clock := h.clock
  gw := h.gw
  tt := h.tt
  px := fun e => nomatch e.symm.trans hpx
  cc := h.cc
  cal := h.cal
  hk := h.hk
  pipe := h.pipe
  fs := h.fs
  dram := h.dram
  fy := h.fy
  eg := h.eg
  prev := h.prev
  pio := h.pio
  kf := h.kf
  ck := h.ck
  eth := h.eth
  boot := h.boot
  otp := h.otp
  flash := h.flash
  wire := h.wire
  free := h.free

theorem Within.upd_cc {cc' : Converters} (hcc : M.testBit 4 = true) (h : Within M N b s₀ s) :
    Within M N b s₀ { s with cc := cc' } where
  pending := h.pending
  now := h.now
  fused := h.fused
  keys := h.keys
  driven := h.driven
  counted := h.counted
  fresh := h.fresh
  sound := fun k0 => have k := h.sound k0; ⟨k.regs, k.dram, k.flash, k.otp, k.ferries, k.bundles, k.part, k.devid⟩
  regs := h.regs
  bundle := h.bundle
  ferry := h.ferry
  clock := h.clock
  gw := h.gw
  tt := h.tt
  px := h.px
  cc := fun e => nomatch e.symm.trans hcc
  cal := h.cal
  hk := h.hk
  pipe := h.pipe
  fs := h.fs
  dram := h.dram
  fy := h.fy
  eg := h.eg
  prev := h.prev
  pio := h.pio
  kf := h.kf
  ck := h.ck
  eth := h.eth
  boot := h.boot
  otp := h.otp
  flash := h.flash
  wire := h.wire
  free := h.free

theorem Within.upd_cal {cal' : Calib} (hcal : M.testBit 5 = true) (h : Within M N b s₀ s) :
    Within M N b s₀ { s with cal := cal' } where
  pending := h.pending
  now := h.now
  fused := h.fused
  keys := h.keys
  driven := h.driven
  counted := h.counted
  fresh := h.fresh
  sound := fun k0 => have k := h.sound k0; ⟨k.regs, k.dram, k.flash, k.otp, k.ferries, k.bundles, k.part, k.devid⟩
  regs := h.regs
  bundle := h.bundle
  ferry := h.ferry
  clock := h.clock
  gw := h.gw
  tt := h.tt
  px := h.px
  cc := h.cc
  cal := fun e => nomatch e.symm.trans hcal
  hk := h.hk
  pipe := h.pipe
  fs := h.fs
  dram := h.dram
  fy := h.fy
  eg := h.eg
  prev := h.prev
  pio := h.pio
  kf := h.kf
  ck := h.ck
  eth := h.eth
  boot := h.boot
  otp := h.otp
  flash := h.flash
  wire := h.wire
  free := h.free

theorem Within.upd_hk {hk' : Housekeeping} (hhk : M.testBit 6 = true) (h : Within M N b s₀ s) :
    Within M N b s₀ { s with hk := hk' } where
  pending := h.pending
  now := h.now
  fused := h.fused
  keys := h.keys
  driven := h.driven
  counted := h.counted
  fresh := h.fresh
  sound := fun k0 => have k := h.sound k0; ⟨k.regs, k.dram, k.flash, k.otp, k.ferries, k.bundles, k.part, k.devid⟩
  regs := h.regs
  bundle := h.bundle
  ferry := h.ferry
  clock := h.clock
  gw := h.gw
  tt := h.tt
  px := h.px
  cc := h.cc
  cal := h.cal
  hk := fun e => nomatch e.symm.trans hhk
  pipe := h.pipe
  fs := h.fs
  dram := h.dram
  fy := h.fy
  eg := h.eg
  prev := h.prev
  pio := h.pio
  kf := h.kf
  ck := h.ck
  eth := h.eth
  boot := h.boot
  otp := h.otp
  flash := h.flash
  wire := h.wire
  free := h.free

theorem Within.upd_pipe {pipe' : Pipeline} (hpipe : M.testBit 7 = true) (h : Within M N b s₀ s) :
    Within M N b s₀ { s with pipe := pipe' } where
  pending := h.pending
  now := h.now
  fused := h.fused
  keys := h.keys
  driven := h.driven
  counted := h.counted
  fresh := h.fresh
  sound := fun k0 => have k := h.sound k0; ⟨k.regs, k.dram, k.flash, k.otp, k.ferries, k.bundles, k.part, k.devid⟩
  regs := h.regs
  bundle := h.bundle
  ferry := h.ferry
  clock := h.clock
  gw := h.gw
  tt := h.tt
  px := h.px
  cc := h.cc
  cal := h.cal
  hk := h.hk
  pipe := fun e => nomatch e.symm.trans hpipe
  fs := h.fs
  dram := h.dram
  fy := h.fy
  eg := h.eg
  prev := h.prev
  pio := h.pio
  kf := h.kf
  ck := h.ck
  eth := h.eth
  boot := h.boot
  otp := h.otp
  flash := h.flash
  wire := h.wire
  free := h.free

theorem Within.upd_fs {fs' : FrameStore} (hfs : M.testBit 8 = true) (h : Within M N b s₀ s) :
    Within M N b s₀ { s with fs := fs' } where
  pending := h.pending
  now := h.now
  fused := h.fused
  keys := h.keys
  driven := h.driven
  counted := h.counted
  fresh := h.fresh
  sound := fun k0 => have k := h.sound k0; ⟨k.regs, k.dram, k.flash, k.otp, k.ferries, k.bundles, k.part, k.devid⟩
  regs := h.regs
  bundle := h.bundle
  ferry := h.ferry
  clock := h.clock
  gw := h.gw
  tt := h.tt
  px := h.px
  cc := h.cc
  cal := h.cal
  hk := h.hk
  pipe := h.pipe
  fs := fun e => nomatch e.symm.trans hfs
  dram := h.dram
  fy := h.fy
  eg := h.eg
  prev := h.prev
  pio := h.pio
  kf := h.kf
  ck := h.ck
  eth := h.eth
  boot := h.boot
  otp := h.otp
  flash := h.flash
  wire := h.wire
  free := h.free

theorem Within.upd_dram {dram' : List Host.Cell} (hdram : M.testBit 9 = true) (hw : Memory.wf s.dram = true → Memory.wf dram' = true) (h : Within M N b s₀ s) :
    Within M N b s₀ { s with dram := dram' } where
  pending := h.pending
  now := h.now
  fused := h.fused
  keys := h.keys
  driven := h.driven
  counted := h.counted
  fresh := h.fresh
  sound := fun k0 => have k := h.sound k0; ⟨k.regs, hw k.dram, k.flash, k.otp, k.ferries, k.bundles, k.part, k.devid⟩
  regs := h.regs
  bundle := h.bundle
  ferry := h.ferry
  clock := h.clock
  gw := h.gw
  tt := h.tt
  px := h.px
  cc := h.cc
  cal := h.cal
  hk := h.hk
  pipe := h.pipe
  fs := h.fs
  dram := fun e => nomatch e.symm.trans hdram
  fy := h.fy
  eg := h.eg
  prev := h.prev
  pio := h.pio
  kf := h.kf
  ck := h.ck
  eth := h.eth
  boot := h.boot
  otp := h.otp
  flash := h.flash
  wire := h.wire
  free := h.free

theorem Within.upd_fy {fy' : List Ferry} (hfy : M.testBit 10 = true) (hl : fy'.length = s.fy.length) (h : Within M N b s₀ s) :
    Within M N b s₀ { s with fy := fy' } where
  pending := h.pending
  now := h.now
  fused := h.fused
  keys := h.keys
  driven := h.driven
  counted := h.counted
  fresh := h.fresh
  sound := fun k0 => have k := h.sound k0; ⟨k.regs, k.dram, k.flash, k.otp, hl.trans k.ferries, k.bundles, k.part, k.devid⟩
  regs := h.regs
  bundle := h.bundle
  ferry := fun e => nomatch e.symm.trans hfy
  clock := h.clock
  gw := h.gw
  tt := h.tt
  px := h.px
  cc := h.cc
  cal := h.cal
  hk := h.hk
  pipe := h.pipe
  fs := h.fs
  dram := h.dram
  fy := fun e => nomatch e.symm.trans hfy
  eg := h.eg
  prev := h.prev
  pio := h.pio
  kf := h.kf
  ck := h.ck
  eth := h.eth
  boot := h.boot
  otp := h.otp
  flash := h.flash
  wire := h.wire
  free := h.free

theorem Within.upd_eg {eg' : List Bundle} (heg : M.testBit 11 = true) (hl : eg'.length = s.eg.length) (h : Within M N b s₀ s) :
    Within M N b s₀ { s with eg := eg' } where
  pending := h.pending
  now := h.now
  fused := h.fused
  keys := h.keys
  driven := h.driven
  counted := h.counted
  fresh := h.fresh
  sound := fun k0 => have k := h.sound k0; ⟨k.regs, k.dram, k.flash, k.otp, k.ferries, hl.trans k.bundles, k.part, k.devid⟩
  regs := h.regs
  bundle := fun e => nomatch e.symm.trans heg
  ferry := h.ferry
  clock := h.clock
  gw := h.gw
  tt := h.tt
  px := h.px
  cc := h.cc
  cal := h.cal
  hk := h.hk
  pipe := h.pipe
  fs := h.fs
  dram := h.dram
  fy := h.fy
  eg := fun e => nomatch e.symm.trans heg
  prev := h.prev
  pio := h.pio
  kf := h.kf
  ck := h.ck
  eth := h.eth
  boot := h.boot
  otp := h.otp
  flash := h.flash
  wire := h.wire
  free := h.free

theorem Within.upd_prev {prev' : Preview} (hprev : M.testBit 12 = true) (h : Within M N b s₀ s) :
    Within M N b s₀ { s with prev := prev' } where
  pending := h.pending
  now := h.now
  fused := h.fused
  keys := h.keys
  driven := h.driven
  counted := h.counted
  fresh := h.fresh
  sound := fun k0 => have k := h.sound k0; ⟨k.regs, k.dram, k.flash, k.otp, k.ferries, k.bundles, k.part, k.devid⟩
  regs := h.regs
  bundle := h.bundle
  ferry := h.ferry
  clock := h.clock
  gw := h.gw
  tt := h.tt
  px := h.px
  cc := h.cc
  cal := h.cal
  hk := h.hk
  pipe := h.pipe
  fs := h.fs
  dram := h.dram
  fy := h.fy
  eg := h.eg
  prev := fun e => nomatch e.symm.trans hprev
  pio := h.pio
  kf := h.kf
  ck := h.ck
  eth := h.eth
  boot := h.boot
  otp := h.otp
  flash := h.flash
  wire := h.wire
  free := h.free

theorem Within.upd_pio {pio' : Pio} (hpio : M.testBit 13 = true) (h : Within M N b s₀ s) :
    Within M N b s₀ { s with pio := pio' } where
  pending := h.pending
  now := h.now
  fused := h.fused
  keys := h.keys
  driven := h.driven
  counted := h.counted
  fresh := h.fresh
  sound := fun k0 => have k := h.sound k0; ⟨k.regs, k.dram, k.flash, k.otp, k.ferries, k.bundles, k.part, k.devid⟩
  regs := h.regs
  bundle := h.bundle
  ferry := h.ferry
  clock := h.clock
  gw := h.gw
  tt := h.tt
  px := h.px
  cc := h.cc
  cal := h.cal
  hk := h.hk
  pipe := h.pipe
  fs := h.fs
  dram := h.dram
  fy := h.fy
  eg := h.eg
  prev := h.prev
  pio := fun e => nomatch e.symm.trans hpio
  kf := h.kf
  ck := h.ck
  eth := h.eth
  boot := h.boot
  otp := h.otp
  flash := h.flash
  wire := h.wire
  free := h.free

theorem Within.upd_kf {kf' : Fabric} (hkf : M.testBit 14 = true) (h : Within M N b s₀ s) :
    Within M N b s₀ { s with kf := kf' } where
  pending := h.pending
  now := h.now
  fused := h.fused
  keys := h.keys
  driven := h.driven
  counted := h.counted
  fresh := h.fresh
  sound := fun k0 => have k := h.sound k0; ⟨k.regs, k.dram, k.flash, k.otp, k.ferries, k.bundles, k.part, k.devid⟩
  regs := h.regs
  bundle := h.bundle
  ferry := h.ferry
  clock := h.clock
  gw := h.gw
  tt := h.tt
  px := h.px
  cc := h.cc
  cal := h.cal
  hk := h.hk
  pipe := h.pipe
  fs := h.fs
  dram := h.dram
  fy := h.fy
  eg := h.eg
  prev := h.prev
  pio := h.pio
  kf := fun e => nomatch e.symm.trans hkf
  ck := h.ck
  eth := h.eth
  boot := h.boot
  otp := h.otp
  flash := h.flash
  wire := h.wire
  free := h.free

theorem Within.upd_ck {ck' : Clocks} (hck : M.testBit 15 = true) (h : Within M N b s₀ s) :
    Within M N b s₀ { s with ck := ck' } where
  pending := h.pending
  now := h.now
  fused := h.fused
  keys := h.keys
  driven := h.driven
  counted := h.counted
  fresh := h.fresh
  sound := fun k0 => have k := h.sound k0; ⟨k.regs, k.dram, k.flash, k.otp, k.ferries, k.bundles, k.part, k.devid⟩
  regs := h.regs
  bundle := h.bundle
  ferry := h.ferry
  clock := h.clock
  gw := h.gw
  tt := h.tt
  px := h.px
  cc := h.cc
  cal := h.cal
  hk := h.hk
  pipe := h.pipe
  fs := h.fs
  dram := h.dram
  fy := h.fy
  eg := h.eg
  prev := h.prev
  pio := h.pio
  kf := h.kf
  ck := fun e => nomatch e.symm.trans hck
  eth := h.eth
  boot := h.boot
  otp := h.otp
  flash := h.flash
  wire := h.wire
  free := h.free

theorem Within.upd_eth {eth' : Ethernet} (heth : M.testBit 16 = true) (h : Within M N b s₀ s) :
    Within M N b s₀ { s with eth := eth' } where
  pending := h.pending
  now := h.now
  fused := h.fused
  keys := h.keys
  driven := h.driven
  counted := h.counted
  fresh := h.fresh
  sound := fun k0 => have k := h.sound k0; ⟨k.regs, k.dram, k.flash, k.otp, k.ferries, k.bundles, k.part, k.devid⟩
  regs := h.regs
  bundle := h.bundle
  ferry := h.ferry
  clock := h.clock
  gw := h.gw
  tt := h.tt
  px := h.px
  cc := h.cc
  cal := h.cal
  hk := h.hk
  pipe := h.pipe
  fs := h.fs
  dram := h.dram
  fy := h.fy
  eg := h.eg
  prev := h.prev
  pio := h.pio
  kf := h.kf
  ck := h.ck
  eth := fun e => nomatch e.symm.trans heth
  boot := h.boot
  otp := h.otp
  flash := h.flash
  wire := h.wire
  free := h.free

theorem Within.upd_boot {boot' : Boot} (hboot : M.testBit 17 = true) (h : Within M N b s₀ s) :
    Within M N b s₀ { s with boot := boot' } where
  pending := h.pending
  now := h.now
  fused := h.fused
  keys := h.keys
  driven := h.driven
  counted := h.counted
  fresh := h.fresh
  sound := fun k0 => have k := h.sound k0; ⟨k.regs, k.dram, k.flash, k.otp, k.ferries, k.bundles, k.part, k.devid⟩
  regs := h.regs
  bundle := h.bundle
  ferry := h.ferry
  clock := h.clock
  gw := h.gw
  tt := h.tt
  px := h.px
  cc := h.cc
  cal := h.cal
  hk := h.hk
  pipe := h.pipe
  fs := h.fs
  dram := h.dram
  fy := h.fy
  eg := h.eg
  prev := h.prev
  pio := h.pio
  kf := h.kf
  ck := h.ck
  eth := h.eth
  boot := fun e => nomatch e.symm.trans hboot
  otp := h.otp
  flash := h.flash
  wire := h.wire
  free := h.free

theorem Within.upd_otp {otp' : Otp} (hotp : M.testBit 18 = true) (hk : otp'.fuses = s.otp.fuses) (hg : keysKept s.otp.keys otp'.keys) (hw : s.otp.wf → otp'.wf) (h : Within M N b s₀ s) :
    Within M N b s₀ { s with otp := otp' } where
  pending := h.pending
  now := h.now
  fused := hk.trans h.fused
  keys := h.keys.trans hg
  driven := h.driven
  counted := h.counted
  fresh := h.fresh
  sound := fun k0 => have k := h.sound k0; ⟨k.regs, k.dram, k.flash, hw k.otp, k.ferries, k.bundles, k.part.trans (by rw [show s.otp.variant = otp'.variant from (congrArg Otp.variant hk).symm]), k.devid.trans (congrArg Otp.devid hk).symm⟩
  regs := h.regs
  bundle := h.bundle
  ferry := h.ferry
  clock := h.clock
  gw := h.gw
  tt := h.tt
  px := h.px
  cc := h.cc
  cal := h.cal
  hk := h.hk
  pipe := h.pipe
  fs := h.fs
  dram := h.dram
  fy := h.fy
  eg := h.eg
  prev := h.prev
  pio := h.pio
  kf := h.kf
  ck := h.ck
  eth := h.eth
  boot := h.boot
  otp := fun e => nomatch e.symm.trans hotp
  flash := h.flash
  wire := h.wire
  free := h.free

theorem Within.upd_flash {flash' : List Host.Cell} (hflash : M.testBit 19 = true) (hw : Flash.wf s.flash = true → Flash.wf flash' = true) (h : Within M N b s₀ s) :
    Within M N b s₀ { s with flash := flash' } where
  pending := h.pending
  now := h.now
  fused := h.fused
  keys := h.keys
  driven := h.driven
  counted := h.counted
  fresh := h.fresh
  sound := fun k0 => have k := h.sound k0; ⟨k.regs, k.dram, hw k.flash, k.otp, k.ferries, k.bundles, k.part, k.devid⟩
  regs := h.regs
  bundle := h.bundle
  ferry := h.ferry
  clock := h.clock
  gw := h.gw
  tt := h.tt
  px := h.px
  cc := h.cc
  cal := h.cal
  hk := h.hk
  pipe := h.pipe
  fs := h.fs
  dram := h.dram
  fy := h.fy
  eg := h.eg
  prev := h.prev
  pio := h.pio
  kf := h.kf
  ck := h.ck
  eth := h.eth
  boot := h.boot
  otp := h.otp
  flash := fun e => nomatch e.symm.trans hflash
  wire := h.wire
  free := h.free

theorem Within.upd_wire {wire' : List Wire} (hwire : M.testBit 20 = true) (hp : s.wire <+: wire') (h : Within M N b s₀ s) :
    Within M N b s₀ { s with wire := wire' } where
  pending := h.pending
  now := h.now
  fused := h.fused
  keys := h.keys
  driven := h.driven.trans hp
  counted := h.counted
  fresh := h.fresh
  sound := fun k0 => have k := h.sound k0; ⟨k.regs, k.dram, k.flash, k.otp, k.ferries, k.bundles, k.part, k.devid⟩
  regs := h.regs
  bundle := h.bundle
  ferry := h.ferry
  clock := h.clock
  gw := h.gw
  tt := h.tt
  px := h.px
  cc := h.cc
  cal := h.cal
  hk := h.hk
  pipe := h.pipe
  fs := h.fs
  dram := h.dram
  fy := h.fy
  eg := h.eg
  prev := h.prev
  pio := h.pio
  kf := h.kf
  ck := h.ck
  eth := h.eth
  boot := h.boot
  otp := h.otp
  flash := h.flash
  wire := fun e => nomatch e.symm.trans hwire
  free := h.free

theorem Within.upd_free {free' : Nat} (hfree : M.testBit 21 = true) (hf : s.free ≤ free') (h : Within M N b s₀ s) :
    Within M N b s₀ { s with free := free' } where
  pending := h.pending
  now := h.now
  fused := h.fused
  keys := h.keys
  driven := h.driven
  counted := Nat.le_trans h.counted hf
  fresh := h.fresh
  sound := fun k0 => have k := h.sound k0; ⟨k.regs, k.dram, k.flash, k.otp, k.ferries, k.bundles, k.part, k.devid⟩
  regs := h.regs
  bundle := h.bundle
  ferry := h.ferry
  clock := h.clock
  gw := h.gw
  tt := h.tt
  px := h.px
  cc := h.cc
  cal := h.cal
  hk := h.hk
  pipe := h.pipe
  fs := h.fs
  dram := h.dram
  fy := h.fy
  eg := h.eg
  prev := h.prev
  pio := h.pio
  kf := h.kf
  ck := h.ck
  eth := h.eth
  boot := h.boot
  otp := h.otp
  flash := h.flash
  wire := h.wire
  free := fun e => nomatch e.symm.trans hfree

theorem Within.upd_fs_dram {fs' : FrameStore} {dram' : List Host.Cell} (hfs : M.testBit 8 = true) (hdram : M.testBit 9 = true) (hw : Memory.wf s.dram = true → Memory.wf dram' = true) (h : Within M N b s₀ s) :
    Within M N b s₀ { s with fs := fs', dram := dram' } where
  pending := h.pending
  now := h.now
  fused := h.fused
  keys := h.keys
  driven := h.driven
  counted := h.counted
  fresh := h.fresh
  sound := fun k0 => have k := h.sound k0; ⟨k.regs, hw k.dram, k.flash, k.otp, k.ferries, k.bundles, k.part, k.devid⟩
  regs := h.regs
  bundle := h.bundle
  ferry := h.ferry
  clock := h.clock
  gw := h.gw
  tt := h.tt
  px := h.px
  cc := h.cc
  cal := h.cal
  hk := h.hk
  pipe := h.pipe
  fs := fun e => nomatch e.symm.trans hfs
  dram := fun e => nomatch e.symm.trans hdram
  fy := h.fy
  eg := h.eg
  prev := h.prev
  pio := h.pio
  kf := h.kf
  ck := h.ck
  eth := h.eth
  boot := h.boot
  otp := h.otp
  flash := h.flash
  wire := h.wire
  free := h.free

theorem Within.upd_tt_pipe {tt' : Timetable} {pipe' : Pipeline} (htt : M.testBit 2 = true) (hpipe : M.testBit 7 = true) (h : Within M N b s₀ s) :
    Within M N b s₀ { s with tt := tt', pipe := pipe' } where
  pending := h.pending
  now := h.now
  fused := h.fused
  keys := h.keys
  driven := h.driven
  counted := h.counted
  fresh := h.fresh
  sound := fun k0 => have k := h.sound k0; ⟨k.regs, k.dram, k.flash, k.otp, k.ferries, k.bundles, k.part, k.devid⟩
  regs := h.regs
  bundle := h.bundle
  ferry := h.ferry
  clock := h.clock
  gw := h.gw
  tt := fun e => nomatch e.symm.trans htt
  px := h.px
  cc := h.cc
  cal := h.cal
  hk := h.hk
  pipe := fun e => nomatch e.symm.trans hpipe
  fs := h.fs
  dram := h.dram
  fy := h.fy
  eg := h.eg
  prev := h.prev
  pio := h.pio
  kf := h.kf
  ck := h.ck
  eth := h.eth
  boot := h.boot
  otp := h.otp
  flash := h.flash
  wire := h.wire
  free := h.free

theorem Within.upd_pipe_free {pipe' : Pipeline} {free' : Nat} (hpipe : M.testBit 7 = true) (hfree : M.testBit 21 = true) (hf : s.free ≤ free') (h : Within M N b s₀ s) :
    Within M N b s₀ { s with pipe := pipe', free := free' } where
  pending := h.pending
  now := h.now
  fused := h.fused
  keys := h.keys
  driven := h.driven
  counted := Nat.le_trans h.counted hf
  fresh := h.fresh
  sound := fun k0 => have k := h.sound k0; ⟨k.regs, k.dram, k.flash, k.otp, k.ferries, k.bundles, k.part, k.devid⟩
  regs := h.regs
  bundle := h.bundle
  ferry := h.ferry
  clock := h.clock
  gw := h.gw
  tt := h.tt
  px := h.px
  cc := h.cc
  cal := h.cal
  hk := h.hk
  pipe := fun e => nomatch e.symm.trans hpipe
  fs := h.fs
  dram := h.dram
  fy := h.fy
  eg := h.eg
  prev := h.prev
  pio := h.pio
  kf := h.kf
  ck := h.ck
  eth := h.eth
  boot := h.boot
  otp := h.otp
  flash := h.flash
  wire := h.wire
  free := fun e => nomatch e.symm.trans hfree

theorem Within.upd_px_cc {px' : Pixels} {cc' : Converters} (hpx : M.testBit 3 = true) (hcc : M.testBit 4 = true) (h : Within M N b s₀ s) :
    Within M N b s₀ { s with px := px', cc := cc' } where
  pending := h.pending
  now := h.now
  fused := h.fused
  keys := h.keys
  driven := h.driven
  counted := h.counted
  fresh := h.fresh
  sound := fun k0 => have k := h.sound k0; ⟨k.regs, k.dram, k.flash, k.otp, k.ferries, k.bundles, k.part, k.devid⟩
  regs := h.regs
  bundle := h.bundle
  ferry := h.ferry
  clock := h.clock
  gw := h.gw
  tt := h.tt
  px := fun e => nomatch e.symm.trans hpx
  cc := fun e => nomatch e.symm.trans hcc
  cal := h.cal
  hk := h.hk
  pipe := h.pipe
  fs := h.fs
  dram := h.dram
  fy := h.fy
  eg := h.eg
  prev := h.prev
  pio := h.pio
  kf := h.kf
  ck := h.ck
  eth := h.eth
  boot := h.boot
  otp := h.otp
  flash := h.flash
  wire := h.wire
  free := h.free

theorem Within.upd_cc_pipe {cc' : Converters} {pipe' : Pipeline} (hcc : M.testBit 4 = true) (hpipe : M.testBit 7 = true) (h : Within M N b s₀ s) :
    Within M N b s₀ { s with cc := cc', pipe := pipe' } where
  pending := h.pending
  now := h.now
  fused := h.fused
  keys := h.keys
  driven := h.driven
  counted := h.counted
  fresh := h.fresh
  sound := fun k0 => have k := h.sound k0; ⟨k.regs, k.dram, k.flash, k.otp, k.ferries, k.bundles, k.part, k.devid⟩
  regs := h.regs
  bundle := h.bundle
  ferry := h.ferry
  clock := h.clock
  gw := h.gw
  tt := h.tt
  px := h.px
  cc := fun e => nomatch e.symm.trans hcc
  cal := h.cal
  hk := h.hk
  pipe := fun e => nomatch e.symm.trans hpipe
  fs := h.fs
  dram := h.dram
  fy := h.fy
  eg := h.eg
  prev := h.prev
  pio := h.pio
  kf := h.kf
  ck := h.ck
  eth := h.eth
  boot := h.boot
  otp := h.otp
  flash := h.flash
  wire := h.wire
  free := h.free

theorem Within.upd_clock_kf {clock' : Clock} {kf' : Fabric} (hclock : M.testBit 0 = true) (hkf : M.testBit 14 = true) (hn : clock'.now = s.clock.now) (h : Within M N b s₀ s) :
    Within M N b s₀ { s with clock := clock', kf := kf' } where
  pending := h.pending
  now := hn.trans h.now
  fused := h.fused
  keys := h.keys
  driven := h.driven
  counted := h.counted
  fresh := h.fresh
  sound := fun k0 => have k := h.sound k0; ⟨k.regs, k.dram, k.flash, k.otp, k.ferries, k.bundles, k.part, k.devid⟩
  regs := h.regs
  bundle := h.bundle
  ferry := h.ferry
  clock := fun e => nomatch e.symm.trans hclock
  gw := h.gw
  tt := h.tt
  px := h.px
  cc := h.cc
  cal := h.cal
  hk := h.hk
  pipe := h.pipe
  fs := h.fs
  dram := h.dram
  fy := h.fy
  eg := h.eg
  prev := h.prev
  pio := h.pio
  kf := fun e => nomatch e.symm.trans hkf
  ck := h.ck
  eth := h.eth
  boot := h.boot
  otp := h.otp
  flash := h.flash
  wire := h.wire
  free := h.free

theorem Within.upd_boot_free {boot' : Boot} {free' : Nat} (hboot : M.testBit 17 = true) (hfree : M.testBit 21 = true) (hf : s.free ≤ free') (h : Within M N b s₀ s) :
    Within M N b s₀ { s with boot := boot', free := free' } where
  pending := h.pending
  now := h.now
  fused := h.fused
  keys := h.keys
  driven := h.driven
  counted := Nat.le_trans h.counted hf
  fresh := h.fresh
  sound := fun k0 => have k := h.sound k0; ⟨k.regs, k.dram, k.flash, k.otp, k.ferries, k.bundles, k.part, k.devid⟩
  regs := h.regs
  bundle := h.bundle
  ferry := h.ferry
  clock := h.clock
  gw := h.gw
  tt := h.tt
  px := h.px
  cc := h.cc
  cal := h.cal
  hk := h.hk
  pipe := h.pipe
  fs := h.fs
  dram := h.dram
  fy := h.fy
  eg := h.eg
  prev := h.prev
  pio := h.pio
  kf := h.kf
  ck := h.ck
  eth := h.eth
  boot := fun e => nomatch e.symm.trans hboot
  otp := h.otp
  flash := h.flash
  wire := h.wire
  free := fun e => nomatch e.symm.trans hfree

theorem Within.upd_gw_kf {gw' : Gateway} {kf' : Fabric} (hgw : M.testBit 1 = true) (hkf : M.testBit 14 = true) (h : Within M N b s₀ s) :
    Within M N b s₀ { s with gw := gw', kf := kf' } where
  pending := h.pending
  now := h.now
  fused := h.fused
  keys := h.keys
  driven := h.driven
  counted := h.counted
  fresh := h.fresh
  sound := fun k0 => have k := h.sound k0; ⟨k.regs, k.dram, k.flash, k.otp, k.ferries, k.bundles, k.part, k.devid⟩
  regs := h.regs
  bundle := h.bundle
  ferry := h.ferry
  clock := h.clock
  gw := fun e => nomatch e.symm.trans hgw
  tt := h.tt
  px := h.px
  cc := h.cc
  cal := h.cal
  hk := h.hk
  pipe := h.pipe
  fs := h.fs
  dram := h.dram
  fy := h.fy
  eg := h.eg
  prev := h.prev
  pio := h.pio
  kf := fun e => nomatch e.symm.trans hkf
  ck := h.ck
  eth := h.eth
  boot := h.boot
  otp := h.otp
  flash := h.flash
  wire := h.wire
  free := h.free

theorem Within.upd_cc_cal {cc' : Converters} {cal' : Calib} (hcc : M.testBit 4 = true) (hcal : M.testBit 5 = true) (h : Within M N b s₀ s) :
    Within M N b s₀ { s with cc := cc', cal := cal' } where
  pending := h.pending
  now := h.now
  fused := h.fused
  keys := h.keys
  driven := h.driven
  counted := h.counted
  fresh := h.fresh
  sound := fun k0 => have k := h.sound k0; ⟨k.regs, k.dram, k.flash, k.otp, k.ferries, k.bundles, k.part, k.devid⟩
  regs := h.regs
  bundle := h.bundle
  ferry := h.ferry
  clock := h.clock
  gw := h.gw
  tt := h.tt
  px := h.px
  cc := fun e => nomatch e.symm.trans hcc
  cal := fun e => nomatch e.symm.trans hcal
  hk := h.hk
  pipe := h.pipe
  fs := h.fs
  dram := h.dram
  fy := h.fy
  eg := h.eg
  prev := h.prev
  pio := h.pio
  kf := h.kf
  ck := h.ck
  eth := h.eth
  boot := h.boot
  otp := h.otp
  flash := h.flash
  wire := h.wire
  free := h.free

theorem Within.upd_clock_boot {clock' : Clock} {boot' : Boot} (hclock : M.testBit 0 = true) (hboot : M.testBit 17 = true) (hn : clock'.now = s.clock.now) (h : Within M N b s₀ s) :
    Within M N b s₀ { s with clock := clock', boot := boot' } where
  pending := h.pending
  now := hn.trans h.now
  fused := h.fused
  keys := h.keys
  driven := h.driven
  counted := h.counted
  fresh := h.fresh
  sound := fun k0 => have k := h.sound k0; ⟨k.regs, k.dram, k.flash, k.otp, k.ferries, k.bundles, k.part, k.devid⟩
  regs := h.regs
  bundle := h.bundle
  ferry := h.ferry
  clock := fun e => nomatch e.symm.trans hclock
  gw := h.gw
  tt := h.tt
  px := h.px
  cc := h.cc
  cal := h.cal
  hk := h.hk
  pipe := h.pipe
  fs := h.fs
  dram := h.dram
  fy := h.fy
  eg := h.eg
  prev := h.prev
  pio := h.pio
  kf := h.kf
  ck := h.ck
  eth := h.eth
  boot := fun e => nomatch e.symm.trans hboot
  otp := h.otp
  flash := h.flash
  wire := h.wire
  free := h.free

/-! ## Registers -/

theorem Within.upd_tt_fy {tt' : Timetable} {fy' : List Ferry} (htt : M.testBit 2 = true) (hfy : M.testBit 10 = true) (hl : fy'.length = s.fy.length) (h : Within M N b s₀ s) :
    Within M N b s₀ { s with tt := tt', fy := fy' } where
  pending := h.pending
  now := h.now
  fused := h.fused
  keys := h.keys
  driven := h.driven
  counted := h.counted
  fresh := h.fresh
  sound := fun k0 => have k := h.sound k0; ⟨k.regs, k.dram, k.flash, k.otp, hl.trans k.ferries, k.bundles, k.part, k.devid⟩
  regs := h.regs
  bundle := h.bundle
  ferry := fun e => nomatch e.symm.trans hfy
  clock := h.clock
  gw := h.gw
  tt := fun e => nomatch e.symm.trans htt
  px := h.px
  cc := h.cc
  cal := h.cal
  hk := h.hk
  pipe := h.pipe
  fs := h.fs
  dram := h.dram
  fy := fun e _ => nomatch e.symm.trans hfy
  eg := h.eg
  prev := h.prev
  pio := h.pio
  kf := h.kf
  ck := h.ck
  eth := h.eth
  boot := h.boot
  otp := h.otp
  flash := h.flash
  wire := h.wire
  free := h.free

theorem Within.upd_tt_pio {tt' : Timetable} {pio' : Pio} (htt : M.testBit 2 = true) (hpio : M.testBit 13 = true) (h : Within M N b s₀ s) :
    Within M N b s₀ { s with tt := tt', pio := pio' } where
  pending := h.pending
  now := h.now
  fused := h.fused
  keys := h.keys
  driven := h.driven
  counted := h.counted
  fresh := h.fresh
  sound := fun k0 => have k := h.sound k0; ⟨k.regs, k.dram, k.flash, k.otp, k.ferries, k.bundles, k.part, k.devid⟩
  regs := h.regs
  bundle := h.bundle
  ferry := h.ferry
  clock := h.clock
  gw := h.gw
  tt := fun e => nomatch e.symm.trans htt
  px := h.px
  cc := h.cc
  cal := h.cal
  hk := h.hk
  pipe := h.pipe
  fs := h.fs
  dram := h.dram
  fy := h.fy
  eg := h.eg
  prev := h.prev
  pio := fun e => nomatch e.symm.trans hpio
  kf := h.kf
  ck := h.ck
  eth := h.eth
  boot := h.boot
  otp := h.otp
  flash := h.flash
  wire := h.wire
  free := h.free

theorem Within.upd_gw_tt {gw' : Gateway} {tt' : Timetable} (hgw : M.testBit 1 = true) (htt : M.testBit 2 = true) (h : Within M N b s₀ s) :
    Within M N b s₀ { s with gw := gw', tt := tt' } where
  pending := h.pending
  now := h.now
  fused := h.fused
  keys := h.keys
  driven := h.driven
  counted := h.counted
  fresh := h.fresh
  sound := fun k0 => have k := h.sound k0; ⟨k.regs, k.dram, k.flash, k.otp, k.ferries, k.bundles, k.part, k.devid⟩
  regs := h.regs
  bundle := h.bundle
  ferry := h.ferry
  clock := h.clock
  gw := fun e => nomatch e.symm.trans hgw
  tt := fun e => nomatch e.symm.trans htt
  px := h.px
  cc := h.cc
  cal := h.cal
  hk := h.hk
  pipe := h.pipe
  fs := h.fs
  dram := h.dram
  fy := h.fy
  eg := h.eg
  prev := h.prev
  pio := h.pio
  kf := h.kf
  ck := h.ck
  eth := h.eth
  boot := h.boot
  otp := h.otp
  flash := h.flash
  wire := h.wire
  free := h.free

theorem Within.upd_tt_cc {tt' : Timetable} {cc' : Converters} (htt : M.testBit 2 = true) (hcc : M.testBit 4 = true) (h : Within M N b s₀ s) :
    Within M N b s₀ { s with tt := tt', cc := cc' } where
  pending := h.pending
  now := h.now
  fused := h.fused
  keys := h.keys
  driven := h.driven
  counted := h.counted
  fresh := h.fresh
  sound := fun k0 => have k := h.sound k0; ⟨k.regs, k.dram, k.flash, k.otp, k.ferries, k.bundles, k.part, k.devid⟩
  regs := h.regs
  bundle := h.bundle
  ferry := h.ferry
  clock := h.clock
  gw := h.gw
  tt := fun e => nomatch e.symm.trans htt
  px := h.px
  cc := fun e => nomatch e.symm.trans hcc
  cal := h.cal
  hk := h.hk
  pipe := h.pipe
  fs := h.fs
  dram := h.dram
  fy := h.fy
  eg := h.eg
  prev := h.prev
  pio := h.pio
  kf := h.kf
  ck := h.ck
  eth := h.eth
  boot := h.boot
  otp := h.otp
  flash := h.flash
  wire := h.wire
  free := h.free

theorem Within.setReg {a : Nat} {v : Word} (hc : Cov M N b a) (hz : 16 ≤ a) (h : Within M N b s₀ s) : Within M N b s₀ (s.setReg a v) :=
  { h with
    sound := fun k0 => have k := h.sound k0
      ⟨State.setReg_wf s a v k.regs, k.dram, k.flash, k.otp, k.ferries, k.bundles,
        (State.reg_setReg_ne s v (by simp only [Reg.ID_PART]; omega)).trans k.part,
        (State.reg_setReg_ne s v (by simp only [Reg.ID_DEVID]; omega)).trans k.devid⟩
    regs := fun x h8 hx => (State.reg_setReg_ne s v (fun e : x = a => hx (by subst e; exact hc))).trans (h.regs x h8 hx) }

/-- A register of a block, written whole. -/
theorem Within.reg (p : Part) (i j : Nat) {a : Nat} {v : Word} (ha : p.addr i j = some a) (hp : May M N b p.ctorIdx i)
    (h : Within M N b s₀ s) : Within M N b s₀ (s.setReg a v) := h.setReg (.at ha hp) (Part.addr_ge ha)

/-- What the hardware has set is noted. -/
theorem Within.noteSet {a m : Nat} (h : Within M N b s₀ s) : Within M N b s₀ (s.noteSet a m) :=
  { h with
    fresh := h.fresh.trans (List.suffix_cons _ _)
    sound := fun k0 => have k := h.sound k0; ⟨k.regs, k.dram, k.flash, k.otp, k.ferries, k.bundles, k.part, k.devid⟩ }

theorem Within.setF (p : Part) (i j : Nat) {a v : Nat} {f : Field} (ha : p.addr i j = some a) (hp : May M N b p.ctorIdx i)
    (h : Within M N b s₀ s) : Within M N b s₀ (s.setF a f v) := (h.reg p i j ha hp).noteSet

theorem Within.setB (p : Part) (i j : Nat) {a : Nat} {f : Field} {c : Bool} (ha : p.addr i j = some a) (hp : May M N b p.ctorIdx i)
    (h : Within M N b s₀ s) : Within M N b s₀ (s.setB a f c) := (h.reg p i j ha hp).noteSet

theorem Within.addF (p : Part) (i j : Nat) {a v : Nat} {f : Field} (ha : p.addr i j = some a) (hp : May M N b p.ctorIdx i)
    (h : Within M N b s₀ s) : Within M N b s₀ (s.addF a f v) := (h.reg p i j ha hp).noteSet

theorem Within.satF (p : Part) (i j : Nat) {a v : Nat} {f : Field} (ha : p.addr i j = some a) (hp : May M N b p.ctorIdx i)
    (h : Within M N b s₀ s) : Within M N b s₀ (s.satF a f v) := (h.reg p i j ha hp).noteSet

theorem Within.setBit (p : Part) (i j : Nat) {a v : Nat} {f : Field} (ha : p.addr i j = some a) (hp : May M N b p.ctorIdx i)
    (h : Within M N b s₀ s) : Within M N b s₀ (s.setBit a f v) := (h.reg p i j ha hp).noteSet

theorem Within.clrBit (p : Part) (i j : Nat) {a v : Nat} {f : Field} (ha : p.addr i j = some a) (hp : May M N b p.ctorIdx i)
    (h : Within M N b s₀ s) : Within M N b s₀ (s.clrBit a f v) := by
  unfold State.clrBit
  exact Within.ite (h.reg p i j ha hp) h

/-- A written word where no bit can change is the old one. -/
theorem writtenWord_same {d : RegDef} {old v : Word} (h : d.storeMask ||| d.w1c = 0) : writtenWord d old v = old := by
  have h1 : d.storeMask = 0 := (Nat.or_eq_zero_iff.mp h).1
  have h2 : d.w1c = 0 := (Nat.or_eq_zero_iff.mp h).2
  have e : ∀ x : Word, x &&& ~~~(BitVec.ofNat 64 0) = x := fun x => by
    rw [show ~~~(BitVec.ofNat 64 0) = BitVec.allOnes 64 from by decide, BitVec.and_allOnes]
  have z : v &&& BitVec.ofNat 64 0 = BitVec.ofNat 64 0 := BitVec.and_zero
  unfold writtenWord
  simp only [h1, h2, z, e]
  exact BitVec.zero_or

theorem regAt_low {a : Nat} {d : RegDef} (ha : a < 16) (h : regAt a = some d) : d.storeMask ||| d.w1c = 0 := by
  have : ∀ a < 16, ∀ d, regAt a = some d → d.storeMask ||| d.w1c = 0 := by
    intro a ha
    have h : (match regAt a with | some d => decide (d.storeMask ||| d.w1c = 0) | none => true) = true := by
      revert a; decide
    intro d hd
    rw [hd] at h
    exact of_decide_eq_true h
  exact this a ha d h

theorem State.setReg_same (a : Nat) (x : Nat) : (s.setReg a (s.reg a)).reg x = s.reg x := by
  by_cases hx : x = a
  · subst hx; exact State.reg_setReg_self s x _
  · exact State.reg_setReg_ne s _ hx

/-- A written word at any address that a management write can reach. -/
theorem Within.written {a : Nat} {d : RegDef} {v : Word} (hd : regAt a = some d) (hp : May M N b 23 a) (h : Within M N b s₀ s) :
    Within M N b s₀ (s.setReg a (writtenWord d (s.reg a) v)) := by
  by_cases hw : d.storeMask ||| d.w1c = 0
  · rw [writtenWord_same hw]
    exact { h with
      sound := fun k0 => have k := h.sound k0
        ⟨State.setReg_wf s a _ k.regs, k.dram, k.flash, k.otp, k.ferries, k.bundles,
          (State.setReg_same a _).trans k.part, (State.setReg_same a _).trans k.devid⟩
      regs := fun x h8 hx => (State.setReg_same a x).trans (h.regs x h8 hx) }
  · have hz : 16 ≤ a := by
      by_cases ha : a < 16
      · exact absurd (regAt_low ha hd) hw
      · omega
    exact h.setReg (.inl ⟨hz, .inr (.inr ⟨hp, d, hd, hw⟩)⟩) hz

/-- A store at any address that a management write can reach. -/
theorem Within.storeReg {a : Nat} {v : Word} (hp : May M N b 23 a) (h : Within M N b s₀ s) : Within M N b s₀ (s.storeReg a v) := by
  unfold State.storeReg
  split
  · exact h
  · rename_i d hd
    exact h.written hd hp

/-- A store at an address known to lie in the masks. -/
theorem Within.storeAt (p : Part) (i j : Nat) {a : Nat} {v : Word} (ha : p.addr i j = some a) (hp : May M N b p.ctorIdx i)
    (h : Within M N b s₀ s) : Within M N b s₀ (s.storeReg a v) := by
  unfold State.storeReg
  split
  · exact h
  · exact h.reg p i j ha hp

/-- A block of registers, written from its first on. -/
theorem Within.setBlock {a : Nat} {vs : List Word} (ha : a % 8 = 0) (hc : ∀ n, n < vs.length → Cov M N b (a + 8 * n)) (hz : 16 ≤ a)
    (h : Within M N b s₀ s) : Within M N b s₀ (s.setBlock a vs) := by
  have key : ∀ x, x % 8 = 0 → ¬ Cov M N b x → (s.setBlock a vs).reg x = s.reg x := by
    intro x h8 hx
    refine Sparse.get_splice_out resetWord s.regs vs ?_
    by_cases h1 : x < a
    · exact .inl h1
    · by_cases h2 : a + 8 * vs.length ≤ x
      · exact .inr h2
      · refine absurd ?_ hx
        have := hc ((x - a) / 8) (by omega)
        rwa [show a + 8 * ((x - a) / 8) = x by omega] at this
  have low : ∀ x, x < 16 → (s.setBlock a vs).reg x = s.reg x := fun x hx =>
    Sparse.get_splice_out resetWord s.regs vs (.inl (by omega))
  exact { h with
    sound := fun k0 => have k := h.sound k0
      ⟨State.setBlock_wf s a vs k.regs, k.dram, k.flash, k.otp, k.ferries, k.bundles,
        (low _ (by decide)).trans k.part, (low _ (by decide)).trans k.devid⟩
    regs := fun x h8 hx => (key x h8 hx).trans (h.regs x h8 hx) }

/-! ## Blocks of registers -/

theorem Within.block_CFG_MAN {i : Nat} {vs : List Word} (hp : May M N b (Part.ctorIdx .CFG_MAN) i) (hl : vs.length ≤ 32) (h : Within M N b s₀ s) :
    Within M N b s₀ (s.setBlock (Reg.CFG_MAN i 0) vs) := by
  refine Within.setBlock (by simp only [Reg.CFG_MAN]; omega) (fun n hn => ?_) (by simp only [Reg.CFG_MAN]; omega) h
  exact Cov.at (p := .CFG_MAN) (i := i) (j := n) (by simp only [Part.addr, Reg.CFG_MAN, Option.some.injEq]; omega) hp

theorem Within.block_CFG_FL_BUF {vs : List Word} (hp : M.testBit (Part.ctorIdx .CFG_FL_BUF) = true) (hl : vs.length ≤ 512) (h : Within M N b s₀ s) :
    Within M N b s₀ (s.setBlock (Reg.CFG_FL_BUF 0) vs) := by
  refine Within.setBlock (by decide) (fun n hn => ?_) (by decide) h
  exact Cov.at (p := .CFG_FL_BUF) (i := n) (j := 0) (by simp only [Part.addr, Reg.CFG_FL_BUF, Option.some.injEq]; omega) (.inl hp)

theorem Within.block_SEC_KEY {i : Nat} {vs : List Word} (hp : May M N b (Part.ctorIdx .SEC_KEY) i) (hl : vs.length ≤ 4) (h : Within M N b s₀ s) :
    Within M N b s₀ (s.setBlock (Reg.SEC_KEY i 0) vs) := by
  refine Within.setBlock (by simp only [Reg.SEC_KEY]; omega) (fun n hn => ?_) (by simp only [Reg.SEC_KEY]; omega) h
  exact Cov.at (p := .SEC_KEY) (i := i) (j := n) (by simp only [Part.addr, Reg.SEC_KEY, Option.some.injEq]; omega) hp

theorem Within.block_PIPE_MEAN {i : Nat} {vs : List Word} (hp : May M N b (Part.ctorIdx .PIPE_MEAN) i) (hl : vs.length ≤ 8256) (h : Within M N b s₀ s) :
    Within M N b s₀ (s.setBlock (Reg.PIPE_MEAN i 0) vs) := by
  refine Within.setBlock (by simp only [Reg.PIPE_MEAN]; omega) (fun n hn => ?_) (by simp only [Reg.PIPE_MEAN]; omega) h
  exact Cov.at (p := .PIPE_MEAN) (i := i) (j := n) (by simp only [Part.addr, Reg.PIPE_MEAN, Option.some.injEq]; omega) hp

theorem Within.block_PIPE_STATS {i : Nat} {vs : List Word} (hp : May M N b (Part.ctorIdx .PIPE_STATS) i) (hl : vs.length ≤ 256) (h : Within M N b s₀ s) :
    Within M N b s₀ (s.setBlock (Reg.PIPE_STATS i 0) vs) := by
  refine Within.setBlock (by simp only [Reg.PIPE_STATS]; omega) (fun n hn => ?_) (by simp only [Reg.PIPE_STATS]; omega) h
  exact Cov.at (p := .PIPE_STATS) (i := i) (j := n) (by simp only [Part.addr, Reg.PIPE_STATS, Option.some.injEq]; omega) hp

theorem Within.block_PIPE_BLACK {vs : List Word} (hp : M.testBit (Part.ctorIdx .PIPE_BLACK) = true) (hl : vs.length ≤ 64) (h : Within M N b s₀ s) :
    Within M N b s₀ (s.setBlock (Reg.PIPE_BLACK 0 0) vs) := by
  refine Within.setBlock (by decide) (fun n hn => ?_) (by decide) h
  exact Cov.at (p := .PIPE_BLACK) (i := n / 2) (j := n % 2) (by simp only [Part.addr, Reg.PIPE_BLACK, Option.some.injEq]; omega) (.inl hp)

theorem Within.block_FB_NODE_ID {vs : List Word} (hp : M.testBit (Part.ctorIdx .FB_NODE_ID) = true) (hq : M.testBit (Part.ctorIdx .FB_NODE_INFO) = true)
    (hl : vs.length ≤ 128) (h : Within M N b s₀ s) : Within M N b s₀ (s.setBlock (Reg.FB_NODE_ID 0) vs) := by
  refine Within.setBlock (by decide) (fun n hn => ?_) (by decide) h
  by_cases he : n % 2 = 0
  · exact Cov.at (p := .FB_NODE_ID) (i := n / 2) (j := 0) (by simp only [Part.addr, Reg.FB_NODE_ID, Option.some.injEq]; omega) (.inl hp)
  · exact Cov.at (p := .FB_NODE_INFO) (i := n / 2) (j := 0) (by simp only [Part.addr, Reg.FB_NODE_INFO, Reg.FB_NODE_ID, Option.some.injEq]; omega) (.inl hq)

theorem bytesWords_length (n : Nat) (bs : List Byte) : (bytesWords n bs).length = n := by
  induction n generalizing bs with
  | zero => rfl
  | succ n ih => exact congrArg (· + 1) (ih _)

theorem numbered_length {α : Type} (n : Nat) (l : List α) : (numbered n l).length = l.length := by
  induction l generalizing n with
  | nil => rfl
  | cons a r ih => exact congrArg (· + 1) (ih _)

theorem nodes_length (l : List Word) (f : Word → Word) (h : l.length ≤ 64) :
    ((l.flatMap fun d => [d, f d]) ++ List.replicate (128 - (l.flatMap fun d => [d, f d]).length) 0).length ≤ 128 := by
  have : ∀ l : List Word, (l.flatMap fun d => [d, f d]).length = 2 * l.length := by
    intro l
    induction l with
    | nil => rfl
    | cons a r ih => simp only [List.flatMap_cons, List.length_append, List.length_cons, List.length_nil, ih]; omega
  rw [List.length_append, List.length_replicate, this]
  omega

theorem statWords_length (st : RegFile) (a : StatAcc) (p : Progress) (gen : Nat) : (statWords st a p gen).length = 256 := by
  simp [statWords]

theorem black_length (f : Nat → Nat → Word) : ((List.range 32).flatMap fun b => (List.range 2).map fun k => f b k).length = 64 := by
  simp [List.length_flatMap]

theorem Within.storeCov {a : Nat} {v : Word} (hc : Cov M N b a) (hz : 16 ≤ a) (h : Within M N b s₀ s) : Within M N b s₀ (s.storeReg a v) := by
  unfold State.storeReg
  split
  · exact h
  · exact h.setReg hc hz

/-! ## The log, the free counter, bundles and ferries -/

theorem Within.emit {w : Wire} (hp : M.testBit 20 = true) (h : Within M N b s₀ s) : Within M N b s₀ (s.emit w) :=
  Within.upd_wire hp (List.prefix_append _ _) h

theorem Within.emits {w : List Wire} (hp : M.testBit 20 = true) (h : Within M N b s₀ s) : Within M N b s₀ (s.emits w) :=
  Within.upd_wire hp (List.prefix_append _ _) h

theorem Within.used (hp : M.testBit 21 = true) (h : Within M N b s₀ s) : Within M N b s₀ s.used :=
  Within.upd_free hp (Nat.le_succ _) h

theorem length_modifyAt {α : Type} (f : α → α) (n : Nat) (l : List α) : (modifyAt f n l).length = l.length := by
  induction l generalizing n with
  | nil => cases n <;> rfl
  | cons a r ih => cases n with
    | zero => rfl
    | succ n => exact congrArg (· + 1) (ih n)

theorem get_modifyAt_ne {α : Type} (f : α → α) {n i : Nat} (l : List α) (hi : i ≠ n) : (modifyAt f n l)[i]? = l[i]? := by
  induction l generalizing n i with
  | nil => cases n <;> rfl
  | cons a r ih => cases n with
    | zero => cases i with
      | zero => exact absurd rfl hi
      | succ i => rfl
    | succ n => cases i with
      | zero => rfl
      | succ i => exact ih (by omega)

theorem Within.modBun {x : Nat} {f : Bundle → Bundle} (hp : May M N b 11 x) (h : Within M N b s₀ s) : Within M N b s₀ (s.modBun x f) := by
  rcases hp with hp | ⟨hp, rfl⟩
  · exact Within.upd_eg hp (length_modifyAt _ _ _) h
  · exact { h with
      sound := fun k0 => have k := h.sound k0
        ⟨k.regs, k.dram, k.flash, k.otp, k.ferries, (length_modifyAt _ _ _).trans k.bundles, k.part, k.devid⟩
      bundle := fun hm i hi => (get_modifyAt_ne f _ hi).trans (h.bundle hm i hi)
      eg := fun _ hn => nomatch hn.symm.trans hp }

theorem Within.modFerry {x : Nat} {f : Ferry → Ferry} (hp : May M N b 10 x) (h : Within M N b s₀ s) : Within M N b s₀ (s.modFerry x f) := by
  rcases hp with hp | ⟨hp, rfl⟩
  · exact Within.upd_fy hp (length_modifyAt _ _ _) h
  · exact { h with
      sound := fun k0 => have k := h.sound k0
        ⟨k.regs, k.dram, k.flash, k.otp, (length_modifyAt _ _ _).trans k.ferries, k.bundles, k.part, k.devid⟩
      ferry := fun hm i hi => (get_modifyAt_ne f _ hi).trans (h.ferry hm i hi)
      fy := fun _ hn => nomatch hn.symm.trans hp }

/-! ## Memory bytes -/

theorem Within.setByte {a : Nat} {v : Byte} (hp : M.testBit 9 = true) (h : Within M N b s₀ s) : Within M N b s₀ (s.setByte a v) :=
  Within.upd_dram hp (Sparse.put_wf _ _ _ _) h

theorem Within.setBytes {a : Nat} {bs : List Byte} (hp : M.testBit 9 = true) (hq : M.testBit 8 = true) (h : Within M N b s₀ s) :
    Within M N b s₀ (s.setBytes a bs) :=
  Within.upd_fs_dram hq hp (Sparse.putAll_wf _ _ _) h

theorem Within.putFlash {a : Nat} {v : Byte} (hp : M.testBit 19 = true) (h : Within M N b s₀ s) : Within M N b s₀ (s.putFlash a v) :=
  Within.upd_flash hp (Sparse.put_wf _ _ _ _) h

theorem Within.putBlock {a : Nat} {bs : List Byte} (hp : M.testBit 19 = true) (h : Within M N b s₀ s) : Within M N b s₀ (s.putBlock a bs) :=
  Within.upd_flash hp (Sparse.splice_wf _ _ _ _ _ (by decide)) h

end Sys2Proof.Machine
end

