-- ==== Sys2Proof/Laws/FrameShared.lean ====
section
/-! SUPPORT. What the functions of the event log, berths, landings, segments and frames can change: one lemma for each function and each meaning, in the relation `Within`. -/

namespace Sys2Proof.Machine

/-! ## Flags -/

theorem State.log_within {Ma Na ba : Nat} {s₀ : State} {s : State} {time : Word} {ty : LogType} {seq : Nat} {source : Nat} {detail : Nat} {bound : Bool}
    (hF : Foot Ma Na ba 0x8000000000000004 0x0 (0)) (hS : Within Ma Na ba s₀ s) :
    Within Ma Na ba s₀ (State.log s time ty seq source detail bound) := by
  unfold State.log
  refine Within.ite ?_ ?_
  · extract_lets -merge +onlyGivenNames y0
    refine Within.upd_tt (hF.any (by decide)) ?_
    assumption
  extract_lets -merge +onlyGivenNames y1
  refine have w2 : Within Ma Na ba s₀ y1 := ?_; ?_
  · refine Within.setB .TT_STATUS 0 0 rfl (hF.may (by decide)) ?_
    assumption
  clear_value y1
  refine Within.upd_tt (hF.any (by decide)) ?_
  assumption

theorem State.latchEvent_within {Ma Na ba : Nat} {s₀ : State} {s : State} {e : Nat} {n : Nat}
    (hF : Foot Ma Na ba 0x0 0x8000000000000000000000000000000000000000000000 (e)) (hS : Within Ma Na ba s₀ s) :
    Within Ma Na ba s₀ (State.latchEvent s e n) := by
  unfold State.latchEvent
  refine Within.ite ?_ ?_
  · refine Within.setB .PIO_ESTAT _ 0 rfl (hF.mayOwn (by decide)) ?_
    assumption
  refine Within.setBit .PIO_ESTAT _ 0 rfl (hF.mayOwn (by decide)) ?_
  assumption

theorem State.raiseEvent_within {Ma Na ba : Nat} {s₀ : State} {s : State} {e : Option Nat} {n : Nat} {x : Nat}
    (hF : Foot Ma Na ba 0x2000 0x0 (0)) (hS : Within Ma Na ba s₀ s) :
    Within Ma Na ba s₀ (State.raiseEvent s e n x) := by
  unfold State.raiseEvent
  refine Within.upd_pio (hF.any (by decide)) ?_
  assumption

theorem State.pioEvent_within {Ma Na ba : Nat} {s₀ : State} {s : State} {n : Nat} {x : Nat}
    (hF : Foot Ma Na ba 0x2000 0x0 (0)) (hS : Within Ma Na ba s₀ s) :
    Within Ma Na ba s₀ (State.pioEvent s n x) := by
  unfold State.pioEvent
  refine State.raiseEvent_within (hF.drop (by decide)) ?_
  assumption

theorem State.runEvents_within {Ma Na ba : Nat} {s₀ : State} {s : State}
    (hF : Foot Ma Na ba 0x8000000000000000000000000000000000000000002000 0x0 (0)) (hS : Within Ma Na ba s₀ s) :
    Within Ma Na ba s₀ (State.runEvents s) := by
  unfold State.runEvents
  refine Within.foldl ?_ ?_
  · intro t0 x1 w2
    split
    · refine State.latchEvent_within (hF.drop (by decide)) ?_
      assumption
    refine Within.foldl ?_ ?_
    · intro t3 x4 w5
      refine State.latchEvent_within (hF.drop (by decide)) ?_
      assumption
    assumption
  refine Within.upd_pio (hF.any (by decide)) ?_
  assumption

theorem State.paceEvent_within {Ma Na ba : Nat} {s₀ : State} {s : State} {kind : Nat} {sel : Nat} {x : Nat}
    (hF : Foot Ma Na ba 0x404 0x0 (0)) (hS : Within Ma Na ba s₀ s) :
    Within Ma Na ba s₀ (State.paceEvent s kind sel x) := by
  unfold State.paceEvent
  refine Within.upd_tt_fy (hF.any (by decide)) (hF.any (by decide)) (List.length_map _) ?_
  assumption

theorem State.ferryEvent_within {Ma Na ba : Nat} {s₀ : State} {s : State} {code : Nat} {x : Nat}
    (hF : Foot Ma Na ba 0x404 0x0 (0)) (hS : Within Ma Na ba s₀ s) :
    Within Ma Na ba s₀ (State.ferryEvent s code x) := by
  unfold State.ferryEvent
  refine State.paceEvent_within (hF.drop (by decide)) ?_
  assumption

theorem State.showBanks_within {Ma Na ba : Nat} {s₀ : State} {s : State}
    (hF : Foot Ma Na ba 0x100000000000000000000000000000000000000000000000000000000 0x0 (0)) (hS : Within Ma Na ba s₀ s) :
    Within Ma Na ba s₀ (State.showBanks s) := by
  unfold State.showBanks
  refine Within.setF .CFG_GW_STATUS 0 0 rfl (hF.may (by decide)) ?_
  assumption

theorem State.showPending_within {Ma Na ba : Nat} {s₀ : State} {s : State}
    (hF : Foot Ma Na ba 0x8000000000000000 0x0 (0)) (hS : Within Ma Na ba s₀ s) :
    Within Ma Na ba s₀ (State.showPending s) := by
  unfold State.showPending
  refine Within.setF .TT_STATUS 0 0 rfl (hF.may (by decide)) ?_
  assumption

theorem State.overrun_within {Ma Na ba : Nat} {s₀ : State} {s : State} {x : Nat} {source : Nat} {detail : Nat} {bound : Bool}
    (hF : Foot Ma Na ba 0x18000000000000004 0x0 (0)) (hS : Within Ma Na ba s₀ s) :
    Within Ma Na ba s₀ (State.overrun s x source detail bound) := by
  unfold State.overrun
  refine State.log_within (hF.drop (by decide)) ?_
  refine Within.setB .TT_STATUS 0 0 rfl (hF.may (by decide)) ?_
  refine Within.addF .TT_CNT_TRIG 0 0 rfl (hF.may (by decide)) ?_
  assumption

theorem State.countLate_within {Ma Na ba : Nat} {s₀ : State} {s : State}
    (hF : Foot Ma Na ba 0x28000000000000000 0x0 (0)) (hS : Within Ma Na ba s₀ s) :
    Within Ma Na ba s₀ (State.countLate s) := by
  unfold State.countLate
  refine Within.setB .TT_STATUS 0 0 rfl (hF.may (by decide)) ?_
  refine Within.addF .TT_CNT_FRAME 0 0 rfl (hF.may (by decide)) ?_
  assumption

theorem State.onStripes_within {Ma Na ba : Nat} {s₀ : State} {s : State} {f : State → State} (_hF : Foot Ma Na ba 0x0 0x0 (0)) (hf : ∀ s, Within Ma Na ba s₀ s → Within Ma Na ba s₀ (f s))
    (hS : Within Ma Na ba s₀ s) : Within Ma Na ba s₀ (s.onStripes f) := by
  unfold State.onStripes
  exact Within.ite hS (hf _ hS)

theorem State.managed_within {Ma Na ba : Nat} {s₀ : State} {s : State} {src : Src} {f : State → State} (_hF : Foot Ma Na ba 0x0 0x0 (0)) (hf : ∀ s, Within Ma Na ba s₀ s → Within Ma Na ba s₀ (f s))
    (hS : Within Ma Na ba s₀ s) : Within Ma Na ba s₀ (s.managed src f) := by
  unfold State.managed
  exact Within.ite (hf _ hS) hS

theorem State.ptpUnlock_within {Ma Na ba : Nat} {s₀ : State} {s : State}
    (hF : Foot Ma Na ba 0x20000000001000000000000000000000000000000000014000 0x0 (0)) (hS : Within Ma Na ba s₀ s) :
    Within Ma Na ba s₀ (State.ptpUnlock s) := by
  unfold State.ptpUnlock
  refine Within.ite ?_ ?_
  · extract_lets -merge +onlyGivenNames y0
    refine have w1 : Within Ma Na ba s₀ y0 := ?_; ?_
    · refine Within.setF .ETH_PTP_STAT 0 0 rfl (hF.may (by decide)) ?_
      assumption
    clear_value y0
    extract_lets -merge +onlyGivenNames y2
    extract_lets -merge +onlyGivenNames y3
    extract_lets -merge +onlyGivenNames y4
    refine have w5 : Within Ma Na ba s₀ y4 := ?_; ?_
    · refine Within.upd_eth (hF.any (by decide)) ?_
      assumption
    clear_value y4
    refine Within.ite ?_ ?_
    · extract_lets -merge +onlyGivenNames y6
      refine have w7 : Within Ma Na ba s₀ y6 := ?_; ?_
      · refine Within.setB .FB_TSTAT 0 0 rfl (hF.may (by decide)) ?_
        refine Within.setF .FB_TSTAT 0 0 rfl (hF.may (by decide)) ?_
        assumption
      clear_value y6
      refine Within.upd_kf (hF.any (by decide)) ?_
      assumption
    assumption
  assumption

/-! ## Berth -/

theorem State.upset_within {Ma Na ba : Nat} {s₀ : State} {s : State} {ws : List (Nat × Bool)}
    (hF : Foot Ma Na ba 0x100 0x0 (0)) (hS : Within Ma Na ba s₀ s) :
    Within Ma Na ba s₀ (State.upset s ws) := by
  unfold State.upset
  extract_lets -merge +onlyGivenNames y0
  refine Within.upd_fs (hF.any (by decide)) ?_
  assumption

theorem State.countEcc_within {Ma Na ba : Nat} {s₀ : State} {s : State} {a : Nat} {n : Nat}
    (hF : Foot Ma Na ba 0x3000000000000000000000000000 0x0 (0)) (hS : Within Ma Na ba s₀ s) :
    Within Ma Na ba s₀ (State.countEcc s a n) := by
  unfold State.countEcc
  extract_lets -merge +onlyGivenNames y0
  extract_lets -merge +onlyGivenNames y1
  extract_lets -merge +onlyGivenNames y2
  refine have w3 : Within Ma Na ba s₀ y2 := ?_; ?_
  · refine Within.addF .FS_CNT 0 0 rfl (hF.may (by decide)) ?_
    assumption
  clear_value y2
  refine Within.ite ?_ ?_
  · assumption
  refine Within.setB .FS_STATUS 0 0 rfl (hF.may (by decide)) ?_
  refine Within.satF .FS_CNT 0 0 rfl (hF.may (by decide)) ?_
  assumption

theorem State.setOcc_within {Ma Na ba : Nat} {s₀ : State} {s : State} {o : Occupant}
    (hF : Foot Ma Na ba 0x100 0x0 (0)) (hS : Within Ma Na ba s₀ s) :
    Within Ma Na ba s₀ (State.setOcc s o) := by
  unfold State.setOcc
  refine Within.upd_fs (hF.any (by decide)) ?_
  assumption

theorem State.freeBerth_within {Ma Na ba : Nat} {s₀ : State} {s : State} {n : Nat}
    (hF : Foot Ma Na ba 0x100 0x400000000000000000000000000000 (n)) (hS : Within Ma Na ba s₀ s) :
    Within Ma Na ba s₀ (State.freeBerth s n) := by
  unfold State.freeBerth
  extract_lets -merge +onlyGivenNames y0
  refine have w1 : Within Ma Na ba s₀ y0 := ?_; ?_
  · refine Within.reg .FS_BSTATE _ 0 rfl (hF.mayOwn (by decide)) ?_
    assumption
  clear_value y0
  refine Within.upd_fs (hF.any (by decide)) ?_
  assumption

theorem State.dropBerth_within {Ma Na ba : Nat} {s₀ : State} {s : State} {o : Occupant}
    (hF : Foot Ma Na ba 0x100 0x400000000000000000000000000000 (o.berth)) (hS : Within Ma Na ba s₀ s) :
    Within Ma Na ba s₀ (State.dropBerth s o) := by
  unfold State.dropBerth
  refine Within.ite ?_ ?_
  · refine Within.setF .FS_BSTATE _ 0 rfl (hF.mayOwn (by decide)) ?_
    refine Within.setF .FS_BSTATE _ 0 rfl (hF.mayOwn (by decide)) ?_
    refine State.setOcc_within (hF.drop (by decide)) ?_
    assumption
  refine State.freeBerth_within (hF.sub (by decide) (by decide)) ?_
  assumption

theorem State.takeBerth_within {Ma Na ba : Nat} {s₀ : State} {s : State} {o : Occupant} {st : Nat}
    (hF : Foot Ma Na ba 0x400000000000000000000000000100 0x0 (0)) (hS : Within Ma Na ba s₀ s) :
    Within Ma Na ba s₀ (State.takeBerth s o st) := by
  unfold State.takeBerth
  extract_lets -merge +onlyGivenNames y0
  extract_lets -merge +onlyGivenNames y1
  refine have w2 : Within Ma Na ba s₀ y1 := ?_; ?_
  · refine State.freeBerth_within (hF.drop (by decide)) ?_
    assumption
  clear_value y1
  extract_lets -merge +onlyGivenNames y3
  refine have w4 : Within Ma Na ba s₀ y3 := ?_; ?_
  · refine Within.reg .FS_BSTATE _ 0 rfl (hF.may (by decide)) ?_
    assumption
  clear_value y3
  refine Within.upd_fs (hF.any (by decide)) ?_
  assumption

theorem State.berthHeader_within {Ma Na ba : Nat} {s₀ : State} {s : State} {o : Occupant} {done : Bool}
    (hF : Foot Ma Na ba 0x300 0x0 (0)) (hS : Within Ma Na ba s₀ s) :
    Within Ma Na ba s₀ (State.berthHeader s o done) := by
  unfold State.berthHeader
  extract_lets -merge +onlyGivenNames y0
  extract_lets -merge +onlyGivenNames y1
  refine Within.setBytes (hF.any (by decide)) (hF.any (by decide)) ?_
  assumption

theorem State.reserveAll_within {Ma Na ba : Nat} {s₀ : State} {s : State} {st : RegFile} {seq : Nat} {burst : Bool} {l : List Nat}
    (hF : Foot Ma Na ba 0x400000000000000000000000000100 0x0 (0)) (hS : Within Ma Na ba s₀ s) :
    WithinO Ma Na ba s₀ (s.reserveAll st seq burst l) := by
  induction l generalizing s with
  | nil => exact WithinO.mk hS
  | cons c r ih =>
    unfold State.reserveAll
    split
    · exact WithinO.none
    · exact ih (State.takeBerth_within (hF.drop (by decide)) hS)

theorem State.reserve_within {Ma Na ba : Nat} {s₀ : State} {s : State} {st : RegFile} {seq : Nat} {burst : Bool}
    (hF : Foot Ma Na ba 0x400000000000008000000000000100 0x0 (0)) (hS : Within Ma Na ba s₀ s) :
    Within1 Ma Na ba s₀ (State.reserve s st seq burst) := by
  unfold State.reserve
  split
  · rename_i z0 z1 z2
    refine have w3 : Within Ma Na ba s₀ z1 := WithinO.take z2 ?_; ?_
    · refine State.reserveAll_within (hF.drop (by decide)) ?_
      assumption
    refine Within1.mk ?_
    refine Within.setB .TT_STATUS 0 0 rfl (hF.may (by decide)) ?_
    assumption
  refine Within1.mk ?_
  refine Within.setB .TT_STATUS 0 0 rfl (hF.may (by decide)) ?_
  assumption

theorem State.releaseBerth_within {Ma Na ba : Nat} {s₀ : State} {s : State} {o : Occupant}
    (hF : Foot Ma Na ba 0x100 0x400000000000000000000000000000 (o.berth)) (hS : Within Ma Na ba s₀ s) :
    Within Ma Na ba s₀ (State.releaseBerth s o) := by
  unfold State.releaseBerth
  extract_lets -merge +onlyGivenNames y0
  refine Within.ite ?_ ?_
  · extract_lets -merge +onlyGivenNames y1
    refine have w2 : Within Ma Na ba s₀ y1 := ?_; ?_
    · refine State.setOcc_within (hF.drop (by decide)) ?_
      assumption
    clear_value y1
    extract_lets -merge +onlyGivenNames y3
    refine have w4 : Within Ma Na ba s₀ y3 := ?_; ?_
    · refine Within.setF .FS_BSTATE _ 0 rfl (hF.mayOwn (by decide)) ?_
      refine Within.setF .FS_BSTATE _ 0 rfl (hF.mayOwn (by decide)) ?_
      assumption
    clear_value y3
    refine Within.upd_fs (hF.any (by decide)) ?_
    assumption
  refine State.freeBerth_within (hF.sub (by decide) (by decide)) ?_
  assumption

theorem State.settleBerth_within {Ma Na ba : Nat} {s₀ : State} {s : State} {o : Occupant}
    (hF : Foot Ma Na ba 0x400000000000000000000000000100 0x0 (0)) (hS : Within Ma Na ba s₀ s) :
    Within Ma Na ba s₀ (State.settleBerth s o) := by
  unfold State.settleBerth
  refine Within.ite ?_ ?_
  · refine State.releaseBerth_within (hF.drop (by decide)) ?_
    assumption
  extract_lets -merge +onlyGivenNames y0
  refine Within.setF .FS_BSTATE _ 0 rfl (hF.may (by decide)) ?_
  refine Within.setF .FS_BSTATE _ 0 rfl (hF.may (by decide)) ?_
  assumption

theorem State.historyHeader_within {Ma Na ba : Nat} {s₀ : State} {s : State} {h : History} {seq : Nat} {cont : Nat} {lines : Nat} {done : Bool}
    (hF : Foot Ma Na ba 0x300 0x0 (0)) (hS : Within Ma Na ba s₀ s) :
    Within Ma Na ba s₀ (State.historyHeader s h seq cont lines done) := by
  unfold State.historyHeader
  extract_lets -merge +onlyGivenNames y0
  refine Within.setBytes (hF.any (by decide)) (hF.any (by decide)) ?_
  assumption

theorem State.freeHistories_within {Ma Na ba : Nat} {s₀ : State} {s : State} {seq : Nat} {p : History → Bool}
    (hF : Foot Ma Na ba 0x400000000000000000000000000180 0x0 (0)) (hS : Within Ma Na ba s₀ s) :
    Within Ma Na ba s₀ (State.freeHistories s seq p) := by
  unfold State.freeHistories
  extract_lets -merge +onlyGivenNames y0
  refine have w1 : Within Ma Na ba s₀ y0 := ?_; ?_
  · refine Within.foldl ?_ ?_
    · intro t2 x3 w4
      refine State.freeBerth_within (hF.drop (by decide)) ?_
      assumption
    assumption
  clear_value y0
  refine Within.upd_pipe (hF.any (by decide)) ?_
  assumption

theorem State.reserveSlot_within {Ma Na ba : Nat} {s₀ : State} {s : State} {st : RegFile} {bits : Nat} {gain : Nat} {seq : Nat} {c : Nat} {slot : Nat}
    (hF : Foot Ma Na ba 0x400000000000000000000000000380 0x0 (0)) (hS : Within Ma Na ba s₀ s) :
    Within Ma Na ba s₀ (State.reserveSlot s st bits gain seq c slot) := by
  unfold State.reserveSlot
  split
  · assumption
  extract_lets -merge +onlyGivenNames y0
  extract_lets -merge +onlyGivenNames y1
  refine have w2 : Within Ma Na ba s₀ y1 := ?_; ?_
  · refine Within.reg .FS_BSTATE _ 0 rfl (hF.may (by decide)) ?_
    assumption
  clear_value y1
  refine State.historyHeader_within (hF.drop (by decide)) ?_
  refine Within.upd_pipe (hF.any (by decide)) ?_
  assumption

theorem State.reserveHistory_within {Ma Na ba : Nat} {s₀ : State} {s : State} {st : RegFile} {burst : Bool} {bits : Nat} {first : Nat} {seq : Nat} {c : Nat}
    (hF : Foot Ma Na ba 0x400001000000000000000000000380 0x0 (0)) (hS : Within Ma Na ba s₀ s) :
    Within Ma Na ba s₀ (State.reserveHistory s st burst bits first seq c) := by
  unfold State.reserveHistory
  extract_lets -merge +onlyGivenNames y0
  extract_lets -merge +onlyGivenNames y1
  refine have w2 : Within Ma Na ba s₀ y1 := ?_; ?_
  · refine Within.foldl ?_ ?_
    · intro t3 x4 w5
      refine State.reserveSlot_within (hF.drop (by decide)) ?_
      assumption
    assumption
  clear_value y1
  refine Within.ite ?_ ?_
  · refine Within.setB .PIPE_STATUS 0 0 rfl (hF.may (by decide)) ?_
    refine State.freeHistories_within (hF.drop (by decide)) ?_
    assumption
  assumption

theorem State.gangwayHistory_within {Ma Na ba : Nat} {s₀ : State} {s : State} {new : RegFile} {burst : Bool} {bits : Nat} {first : Nat} {seq : Nat} {epochMoved : Bool}
    (hF : Foot Ma Na ba 0x400001000000000000000000000380 0x0 (0)) (hS : Within Ma Na ba s₀ s) :
    Within Ma Na ba s₀ (State.gangwayHistory s new burst bits first seq epochMoved) := by
  unfold State.gangwayHistory
  extract_lets -merge +onlyGivenNames y0
  extract_lets -merge +onlyGivenNames y1
  refine have w2 : Within Ma Na ba s₀ y1 := ?_; ?_
  · refine State.freeHistories_within (hF.drop (by decide)) ?_
    assumption
  clear_value y1
  extract_lets -merge +onlyGivenNames y3
  extract_lets -merge +onlyGivenNames y4
  extract_lets -merge +onlyGivenNames y5
  refine have w6 : Within Ma Na ba s₀ y5 := ?_; ?_
  · refine Within.upd_pipe (hF.any (by decide)) ?_
    assumption
  clear_value y5
  refine Within.foldl ?_ ?_
  · intro t7 x8 w9
    refine State.reserveHistory_within (hF.drop (by decide)) ?_
    assumption
  assumption

/-! ## Link -/

theorem State.noteStall_within {Ma Na ba : Nat} {s₀ : State} {s : State} {b : Nat} {isB : Bool}
    (hF : Foot Ma Na ba 0x0 0x800 (b)) (hS : Within Ma Na ba s₀ s) :
    Within Ma Na ba s₀ (State.noteStall s b isB) := by
  unfold State.noteStall
  refine Within.ite ?_ ?_
  · refine Within.modBun (hF.mayOwn (by decide)) ?_
    assumption
  assumption

theorem State.toLanding_within {Ma Na ba : Nat} {s₀ : State} {s : State} {b : Nat} {p : Packet}
    (hF : Foot Ma Na ba 0x0 0x800 (b)) (hS : Within Ma Na ba s₀ s) :
    Within Ma Na ba s₀ (State.toLanding s b p) := by
  unfold State.toLanding
  refine Within.modBun (hF.mayOwn (by decide)) ?_
  assumption

theorem State.toLandings_within {Ma Na ba : Nat} {s₀ : State} {s : State} {b : Nat} {ps : List Packet}
    (hF : Foot Ma Na ba 0x0 0x800 (b)) (hS : Within Ma Na ba s₀ s) :
    Within Ma Na ba s₀ (State.toLandings s b ps) := by
  unfold State.toLandings
  refine Within.foldl ?_ ?_
  · intro t0 x1 w2
    refine State.toLanding_within (hF.sub (by decide) (by decide)) ?_
    assumption
  assumption

theorem State.toFord_within {Ma Na ba : Nat} {s₀ : State} {s : State} {b : Nat} {p : Packet}
    (hF : Foot Ma Na ba 0x0 0x800 (b)) (hS : Within Ma Na ba s₀ s) :
    Within Ma Na ba s₀ (State.toFord s b p) := by
  unfold State.toFord
  refine Within.ite ?_ ?_
  · refine Within.modBun (hF.mayOwn (by decide)) ?_
    assumption
  assumption

theorem State.discardP_within {Ma Na ba : Nat} {s₀ : State} {s : State} {b : Nat} {n : Nat}
    (hF : Foot Ma Na ba 0x1000000000000000000000000000000000 0x20000000000000000000000000000000000 (b)) (hS : Within Ma Na ba s₀ s) :
    Within Ma Na ba s₀ (State.discardP s b n) := by
  unfold State.discardP
  refine Within.ite ?_ ?_
  · assumption
  refine Within.setB .EG_STATUS 0 0 rfl (hF.may (by decide)) ?_
  refine Within.satF .EG_BCNT1 _ 0 rfl (hF.mayOwn (by decide)) ?_
  assumption

theorem State.fordLine_within {Ma Na ba : Nat} {s₀ : State} {s : State} {b : Nat} {ps : List Packet}
    (hF : Foot Ma Na ba 0x1000000000000000000000000000000000 0x20000000000000000000000000000000800 (b)) (hS : Within Ma Na ba s₀ s) :
    Within Ma Na ba s₀ (State.fordLine s b ps) := by
  unfold State.fordLine
  refine Within.ite ?_ ?_
  · refine Within.foldl ?_ ?_
    · intro t0 x1 w2
      refine State.toFord_within (hF.sub (by decide) (by decide)) ?_
      assumption
    assumption
  refine State.discardP_within (hF.sub (by decide) (by decide)) ?_
  assumption

theorem State.countDrop_within {Ma Na ba : Nat} {s₀ : State} {s : State} {c : Nat}
    (hF : Foot Ma Na ba 0x0 0x80000000000000000000000 (c)) (hS : Within Ma Na ba s₀ s) :
    Within Ma Na ba s₀ (State.countDrop s c) := by
  unfold State.countDrop
  refine Within.addF .CTX_ST1 _ 0 rfl (hF.mayOwn (by decide)) ?_
  assumption

theorem State.sendGap_within {Ma Na ba : Nat} {s₀ : State} {s : State} {st : RegFile} {c : Nat} {seq : Nat} {cont : Nat} {reason : Nat} {b : Nat}
    (hF : Foot Ma Na ba 0x100 0x800 (b)) (hS : Within Ma Na ba s₀ s) :
    Within Ma Na ba s₀ (State.sendGap s st c seq cont reason b) := by
  unfold State.sendGap
  extract_lets -merge +onlyGivenNames y0
  refine Within.ite ?_ ?_
  · assumption
  refine Within.ite ?_ ?_
  · refine Within.ite ?_ ?_
    · refine Within.modBun (hF.mayOwn (by decide)) ?_
      assumption
    assumption
  refine Within.ite ?_ ?_
  · refine Within.upd_fs (hF.any (by decide)) ?_
    assumption
  refine State.toLanding_within (hF.sub (by decide) (by decide)) ?_
  assumption

theorem State.sendGaps_within {Ma Na ba : Nat} {s₀ : State} {s : State} {st : RegFile} {c : Nat} {seq : Nat} {cont : Nat} {reason : Nat} {mask : Nat}
    (hF : Foot Ma Na ba 0x900 0x0 (0)) (hS : Within Ma Na ba s₀ s) :
    Within Ma Na ba s₀ (State.sendGaps s st c seq cont reason mask) := by
  unfold State.sendGaps
  refine Within.foldl ?_ ?_
  · intro t0 x1 w2
    refine State.sendGap_within (hF.drop (by decide)) ?_
    assumption
  assumption

theorem State.modRunners_within {Ma Na ba : Nat} {s₀ : State} {s : State} {c : Nat} {seq : Nat} {cont : Nat} {g : Ferry → Ferry}
    (hF : Foot Ma Na ba 0x400 0x0 (0)) (hS : Within Ma Na ba s₀ s) :
    Within Ma Na ba s₀ (State.modRunners s c seq cont g) := by
  unfold State.modRunners
  refine Within.upd_fy (hF.any (by decide)) (List.length_map _) ?_
  assumption

theorem State.dropFrame_within {Ma Na ba : Nat} {s₀ : State} {s : State} {st : RegFile} {c : Nat} {seq : Nat} {cont : Nat} {reason : Nat}
    (hF : Foot Ma Na ba 0x400000000000000000000000000d80 0x80000000000000000000000 (c)) (hS : Within Ma Na ba s₀ s) :
    Within Ma Na ba s₀ (State.dropFrame s st c seq cont reason) := by
  unfold State.dropFrame
  refine Within.ite ?_ ?_
  · assumption
  extract_lets -merge +onlyGivenNames y0
  extract_lets -merge +onlyGivenNames y1
  refine have w2 : Within Ma Na ba s₀ y1 := ?_; ?_
  · refine State.countDrop_within (hF.sub (by decide) (by decide)) ?_
    assumption
  clear_value y1
  extract_lets -merge +onlyGivenNames y3
  extract_lets -merge +onlyGivenNames y4
  refine have w5 : Within Ma Na ba s₀ y4 := ?_; ?_
  · refine Within.upd_pipe (hF.any (by decide)) ?_
    assumption
  clear_value y4
  split
  · refine State.sendGaps_within (hF.drop (by decide)) ?_
    refine Within.foldl ?_ ?_
    · intro t6 x7 w8
      refine State.dropBerth_within (hF.drop (by decide)) ?_
      assumption
    assumption
  extract_lets -merge +onlyGivenNames y9
  refine have w10 : Within Ma Na ba s₀ y9 := ?_; ?_
  · refine State.modRunners_within (hF.drop (by decide)) ?_
    assumption
  clear_value y9
  refine Within.ite ?_ ?_
  · refine State.sendGaps_within (hF.drop (by decide)) ?_
    refine Within.foldl ?_ ?_
    · intro t11 x12 w13
      refine State.dropBerth_within (hF.drop (by decide)) ?_
      assumption
    assumption
  refine Within.foldl ?_ ?_
  · intro t14 x15 w16
    refine State.setOcc_within (hF.drop (by decide)) ?_
    assumption
  assumption

theorem State.dropOldest_within {Ma Na ba : Nat} {s₀ : State} {s : State} {c : Nat} {seq : Nat} {cont : Nat}
    (hF : Foot Ma Na ba 0x400000000000000000000000000d80 0x80000000000000000000000 (c)) (hS : Within Ma Na ba s₀ s) :
    WithinO Ma Na ba s₀ (State.dropOldest s c seq cont) := by
  unfold State.dropOldest
  split
  · exact WithinO.none
  refine WithinO.ite ?_ ?_
  · refine WithinO.mk ?_
    refine State.freeBerth_within (hF.drop (by decide)) ?_
    assumption
  refine WithinO.mk ?_
  refine State.dropFrame_within (hF.sub (by decide) (by decide)) ?_
  assumption

theorem State.claimNew_within {Ma Na ba : Nat} {s₀ : State} {s : State} {st : RegFile} {c seq cont : Nat} {burst : Bool} {man : List Word} {n : Nat}
    (hF : Foot Ma Na ba 0x401000000000000000000000000d80 0x80000000000000000000000 (c)) (hS : Within Ma Na ba s₀ s) :
    Within1 Ma Na ba s₀ (s.claimNew st c seq cont burst man n) := by
  induction n generalizing s with
  | zero => exact Within1.mk (State.dropFrame_within (hF.sub (by decide) (by decide)) hS)
  | succ n ih =>
    unfold State.claimNew
    split
    · exact Within1.mk (State.takeBerth_within (hF.drop (by decide)) hS)
    have h : Within Ma Na ba s₀ (s.setB Reg.FS_STATUS Fld.FS_STATUS_CLAIM_FAIL true) := Within.setB .FS_STATUS 0 0 rfl (hF.may (by decide)) hS
    refine Within1.ite ?_ (Within1.mk (State.dropFrame_within (hF.sub (by decide) (by decide)) h))
    split
    · exact Within1.mk (State.dropFrame_within (hF.sub (by decide) (by decide)) h)
    · rename_i hq
      exact ih (WithinO.take hq (State.dropOldest_within (hF.sub (by decide) (by decide)) h))

theorem State.claim_within {Ma Na ba : Nat} {s₀ : State} {s : State} {st : RegFile} {c : Nat} {seq : Nat} {cont : Nat} {burst : Bool} {man : List Word}
    (hF : Foot Ma Na ba 0x401000000000000000000000000d80 0x80000000000000000000000 (c)) (hS : Within Ma Na ba s₀ s) :
    Within1 Ma Na ba s₀ (State.claim s st c seq cont burst man) := by
  unfold State.claim
  split
  · refine Within1.ite ?_ ?_
    · refine Within1.mk ?_
      refine Within.setF .FS_BSTATE _ 0 rfl (hF.may (by decide)) ?_
      refine State.setOcc_within (hF.drop (by decide)) ?_
      assumption
    refine Within1.mk ?_
    assumption
  refine State.claimNew_within (hF.sub (by decide) (by decide)) ?_
  assumption

theorem State.claimMirror_within {Ma Na ba : Nat} {s₀ : State} {s : State} {p : Progress}
    (hF : Foot Ma Na ba 0x401000000000000000000000000180 0x0 (0)) (hS : Within Ma Na ba s₀ s) :
    Within Ma Na ba s₀ (State.claimMirror s p) := by
  unfold State.claimMirror
  extract_lets -merge +onlyGivenNames y0
  extract_lets -merge +onlyGivenNames y1
  refine have w2 : Within Ma Na ba s₀ y1 := ?_; ?_
  · refine Within.upd_pipe (hF.any (by decide)) ?_
    assumption
  clear_value y1
  split
  · refine State.takeBerth_within (hF.drop (by decide)) ?_
    assumption
  refine Within.setB .FS_STATUS 0 0 rfl (hF.may (by decide)) ?_
  assumption

theorem State.berthLine_within {Ma Na ba : Nat} {s₀ : State} {s : State} {o : Occupant} {idx : Nat} {codes : List Nat} {bundles : List Nat}
    (hF : Foot Ma Na ba 0x400000000000000000000000000300 0x0 (0)) (hS : Within Ma Na ba s₀ s) :
    Within Ma Na ba s₀ (State.berthLine s o idx codes bundles) := by
  unfold State.berthLine
  extract_lets -merge +onlyGivenNames y0
  extract_lets -merge +onlyGivenNames y1
  refine have w2 : Within Ma Na ba s₀ y1 := ?_; ?_
  · refine Within.ite ?_ ?_
    · assumption
    refine Within.setBytes (hF.any (by decide)) (hF.any (by decide)) ?_
    assumption
  clear_value y1
  extract_lets -merge +onlyGivenNames y3
  refine State.settleBerth_within (hF.drop (by decide)) ?_
  refine State.berthHeader_within (hF.drop (by decide)) ?_
  refine State.setOcc_within (hF.drop (by decide)) ?_
  assumption

theorem State.stallFor_within {Ma Na ba : Nat} {s₀ : State} {s : State} {b : Nat} {ps : List Packet}
    (hF : Foot Ma Na ba 0x0 0x800 (b)) (hS : Within Ma Na ba s₀ s) :
    Within Ma Na ba s₀ (State.stallFor s b ps) := by
  unfold State.stallFor
  refine Within.ite ?_ ?_
  · assumption
  refine State.noteStall_within (hF.sub (by decide) (by decide)) ?_
  assumption

theorem State.owe_within {Ma Na ba : Nat} {s₀ : State} {s : State} {p : Progress} {b : Nat} {man : List Word} {f : Occupant → Occupant}
    (hF : Foot Ma Na ba 0x401000000000000000000000000f80 0x80000000000000000000000 (p.ctx)) (hS : Within Ma Na ba s₀ s) :
    Within Ma Na ba s₀ (State.owe s p b man f) := by
  unfold State.owe
  split
  · rename_i z0 z1 z2
    refine have w3 : Within Ma Na ba s₀ z1 := Within1.take z2 ?_; ?_
    · refine State.claim_within (hF.sub (by decide) (by decide)) ?_
      assumption
    assumption
  rename_i z4 z5 z6
  refine have w7 : Within Ma Na ba s₀ z5 := Within1.take z6 ?_; ?_
  · refine State.claim_within (hF.sub (by decide) (by decide)) ?_
    assumption
  split
  · assumption
  extract_lets -merge +onlyGivenNames y8
  extract_lets -merge +onlyGivenNames y9
  refine State.settleBerth_within (hF.drop (by decide)) ?_
  refine State.berthHeader_within (hF.drop (by decide)) ?_
  refine State.setOcc_within (hF.drop (by decide)) ?_
  assumption

theorem State.queueFs_within {Ma Na ba : Nat} {s₀ : State} {s : State} {p : Progress} {b : Nat}
    (hF : Foot Ma Na ba 0x401000080000000000000000000f80 0x0 (0)) (hS : Within Ma Na ba s₀ s) :
    Within Ma Na ba s₀ (State.queueFs s p b) := by
  unfold State.queueFs
  extract_lets -merge +onlyGivenNames y0
  refine Within.ite ?_ ?_
  · assumption
  refine Within.ite ?_ ?_
  · refine State.toFord_within (hF.drop (by decide)) ?_
    assumption
  refine Within.ite ?_ ?_
  · refine State.owe_within (hF.drop (by decide)) ?_
    refine State.stallFor_within (hF.drop (by decide)) ?_
    assumption
  refine State.toLanding_within (hF.drop (by decide)) ?_
  assumption

theorem State.placePart_within {Ma Na ba : Nat} {s₀ : State} {s : State} {p : Progress} {l : Line} {b : Nat}
    (hF : Foot Ma Na ba 0x1000401000080000000000000000000f80 0x20000000000000000000000000000000000 (b)) (hS : Within Ma Na ba s₀ s) :
    Within Ma Na ba s₀ (State.placePart s p l b) := by
  unfold State.placePart
  extract_lets -merge +onlyGivenNames y0
  extract_lets -merge +onlyGivenNames y1
  extract_lets -merge +onlyGivenNames y2
  refine Within.ite ?_ ?_
  · assumption
  refine Within.ite ?_ ?_
  · refine State.fordLine_within (hF.sub (by decide) (by decide)) ?_
    assumption
  refine Within.ite ?_ ?_
  · split
    · rename_i z3 z4 z5
      refine have w6 : Within Ma Na ba s₀ z4 := Within1.take z5 ?_; ?_
      · refine State.claim_within (hF.drop (by decide)) ?_
        refine State.stallFor_within (hF.sub (by decide) (by decide)) ?_
        assumption
      assumption
    rename_i z7 z8 z9
    refine have w10 : Within Ma Na ba s₀ z8 := Within1.take z9 ?_; ?_
    · refine State.claim_within (hF.drop (by decide)) ?_
      refine State.stallFor_within (hF.sub (by decide) (by decide)) ?_
      assumption
    split
    · assumption
    refine State.berthLine_within (hF.drop (by decide)) ?_
    assumption
  refine State.toLandings_within (hF.sub (by decide) (by decide)) ?_
  assumption

theorem State.mirrorLine_within {Ma Na ba : Nat} {s₀ : State} {s : State} {p : Progress} {l : Line}
    (hF : Foot Ma Na ba 0x401000000000000000000000000380 0x0 (0)) (hS : Within Ma Na ba s₀ s) :
    Within Ma Na ba s₀ (State.mirrorLine s p l) := by
  unfold State.mirrorLine
  refine Within.ite ?_ ?_
  · extract_lets -merge +onlyGivenNames y0
    refine have w1 : Within Ma Na ba s₀ y0 := ?_; ?_
    · refine Within.ite ?_ ?_
      · assumption
      refine State.claimMirror_within (hF.drop (by decide)) ?_
      assumption
    clear_value y0
    split
    · assumption
    refine State.berthLine_within (hF.drop (by decide)) ?_
    assumption
  assumption

theorem State.queueFe_within {Ma Na ba : Nat} {s₀ : State} {s : State} {p : Progress} {man : List Word} {b : Nat}
    (hF : Foot Ma Na ba 0x401000080000000000000000000f80 0x0 (0)) (hS : Within Ma Na ba s₀ s) :
    Within Ma Na ba s₀ (State.queueFe s p man b) := by
  unfold State.queueFe
  extract_lets -merge +onlyGivenNames y0
  refine Within.ite ?_ ?_
  · assumption
  refine Within.ite ?_ ?_
  · refine State.toFord_within (hF.drop (by decide)) ?_
    assumption
  refine Within.ite ?_ ?_
  · refine State.owe_within (hF.drop (by decide)) ?_
    refine State.stallFor_within (hF.drop (by decide)) ?_
    assumption
  refine State.toLanding_within (hF.drop (by decide)) ?_
  assumption

theorem State.endBerths_within {Ma Na ba : Nat} {s₀ : State} {s : State} {p : Progress} {man : List Word}
    (hF : Foot Ma Na ba 0x400000000000000000000000000300 0x0 (0)) (hS : Within Ma Na ba s₀ s) :
    Within Ma Na ba s₀ (State.endBerths s p man) := by
  unfold State.endBerths
  refine Within.foldl ?_ ?_
  · intro t0 x1 w2
    extract_lets -merge +onlyGivenNames y3
    refine State.settleBerth_within (hF.drop (by decide)) ?_
    refine State.berthHeader_within (hF.drop (by decide)) ?_
    refine State.setOcc_within (hF.drop (by decide)) ?_
    assumption
  assumption

theorem State.showPreview_within {Ma Na ba : Nat} {s₀ : State} {s : State}
    (hF : Foot Ma Na ba 0x400000000000000000000000000000000000000000000000000 0x0 (0)) (hS : Within Ma Na ba s₀ s) :
    Within Ma Na ba s₀ (State.showPreview s) := by
  unfold State.showPreview
  refine Within.setF .ETH_PREV_STAT 0 0 rfl (hF.may (by decide)) ?_
  assumption

theorem State.previewLine_within {Ma Na ba : Nat} {s₀ : State} {s : State} {l : Line}
    (hF : Foot Ma Na ba 0x400000000000000000000000000000000000000000000001000 0x0 (0)) (hS : Within Ma Na ba s₀ s) :
    Within Ma Na ba s₀ (State.previewLine s l) := by
  unfold State.previewLine
  split
  · assumption
  extract_lets -merge +onlyGivenNames y0
  extract_lets -merge +onlyGivenNames y1
  extract_lets -merge +onlyGivenNames y2
  split
  extract_lets -merge +onlyGivenNames y3
  extract_lets -merge +onlyGivenNames y4
  refine have w5 : Within Ma Na ba s₀ y4 := ?_; ?_
  · refine Within.upd_prev (hF.any (by decide)) ?_
    assumption
  clear_value y4
  refine State.showPreview_within (hF.drop (by decide)) ?_
  assumption

theorem State.previewEnd_within {Ma Na ba : Nat} {s₀ : State} {s : State} {p : Progress} {man : List Word}
    (hF : Foot Ma Na ba 0x400000000000000000000000000000000000000000000001000 0x80000000000000000000000 (p.ctx)) (hS : Within Ma Na ba s₀ s) :
    Within Ma Na ba s₀ (State.previewEnd s p man) := by
  unfold State.previewEnd
  split
  · assumption
  extract_lets -merge +onlyGivenNames y0
  extract_lets -merge +onlyGivenNames y1
  extract_lets -merge +onlyGivenNames y2
  refine have w3 : Within Ma Na ba s₀ y2 := ?_; ?_
  · refine Within.upd_prev (hF.any (by decide)) ?_
    assumption
  clear_value y2
  refine State.showPreview_within (hF.drop (by decide)) ?_
  refine Within.ite ?_ ?_
  · assumption
  refine Within.addF .CTX_ST1 _ 0 rfl (hF.mayOwn (by decide)) ?_
  assumption

theorem State.endContext_within {Ma Na ba : Nat} {s₀ : State} {s : State} {p : Progress}
    (hF : Foot Ma Na ba 0x400000000000000000000401000080000000000000000001f80 0x0 (0)) (hS : Within Ma Na ba s₀ s) :
    Within Ma Na ba s₀ (State.endContext s p) := by
  unfold State.endContext
  extract_lets -merge +onlyGivenNames y0
  extract_lets -merge +onlyGivenNames y1
  extract_lets -merge +onlyGivenNames y2
  refine have w3 : Within Ma Na ba s₀ y2 := ?_; ?_
  · refine Within.upd_pipe (hF.any (by decide)) ?_
    assumption
  clear_value y2
  refine Within.ite ?_ ?_
  · refine State.endBerths_within (hF.drop (by decide)) ?_
    refine State.previewEnd_within (hF.drop (by decide)) ?_
    assumption
  extract_lets -merge +onlyGivenNames y4
  refine have w5 : Within Ma Na ba s₀ y4 := ?_; ?_
  · refine Within.foldl ?_ ?_
    · intro t6 x7 w8
      refine State.queueFe_within (hF.drop (by decide)) ?_
      assumption
    assumption
  clear_value y4
  extract_lets -merge +onlyGivenNames y9
  extract_lets -merge +onlyGivenNames y10
  extract_lets -merge +onlyGivenNames y11
  refine have w12 : Within Ma Na ba s₀ y11 := ?_; ?_
  · refine State.endBerths_within (hF.drop (by decide)) ?_
    assumption
  clear_value y11
  refine Within.ite ?_ ?_
  · refine Within.addF .CTX_ST1 _ 0 rfl (hF.may (by decide)) ?_
    assumption
  assumption

theorem State.noteStart_within {Ma Na ba : Nat} {s₀ : State} {s : State} {seq : Nat} {cont : Nat} {man : List Word}
    (hF : Foot Ma Na ba 0x80 0x0 (0)) (hS : Within Ma Na ba s₀ s) :
    Within Ma Na ba s₀ (State.noteStart s seq cont man) := by
  unfold State.noteStart
  refine Within.upd_pipe (hF.any (by decide)) ?_
  assumption

theorem State.queueStarts_within {Ma Na ba : Nat} {s₀ : State} {s : State}
    (hF : Foot Ma Na ba 0x401000080000000000000000000f80 0x0 (0)) (hS : Within Ma Na ba s₀ s) :
    Within Ma Na ba s₀ (State.queueStarts s) := by
  unfold State.queueStarts
  refine Within.foldl ?_ ?_
  · intro t0 x1 w2
    extract_lets -merge +onlyGivenNames y3
    extract_lets -merge +onlyGivenNames y4
    refine have w5 : Within Ma Na ba s₀ y4 := ?_; ?_
    · refine Within.upd_pipe (hF.any (by decide)) ?_
      assumption
    clear_value y4
    refine Within.foldl ?_ ?_
    · intro t6 x7 w8
      refine State.queueFs_within (hF.drop (by decide)) ?_
      assumption
    assumption
  assumption

theorem State.noteManifest_within {Ma Na ba : Nat} {s₀ : State} {s : State} {seq : Nat} {cont : Nat} {man : List Word}
    (hF : Foot Ma Na ba 0x80 0x0 (0)) (hS : Within Ma Na ba s₀ s) :
    Within Ma Na ba s₀ (State.noteManifest s seq cont man) := by
  unfold State.noteManifest
  refine Within.upd_pipe (hF.any (by decide)) ?_
  assumption

theorem State.pruneProgress_within {Ma Na ba : Nat} {s₀ : State} {s : State}
    (hF : Foot Ma Na ba 0x80 0x0 (0)) (hS : Within Ma Na ba s₀ s) :
    Within Ma Na ba s₀ (State.pruneProgress s) := by
  unfold State.pruneProgress
  refine Within.upd_pipe (hF.any (by decide)) ?_
  assumption

theorem State.endDone_within {Ma Na ba : Nat} {s₀ : State} {s : State}
    (hF : Foot Ma Na ba 0x400000000000000000000401000080000000000000000001f80 0x0 (0)) (hS : Within Ma Na ba s₀ s) :
    Within Ma Na ba s₀ (State.endDone s) := by
  unfold State.endDone
  refine State.pruneProgress_within (hF.drop (by decide)) ?_
  refine Within.foldl ?_ ?_
  · intro t0 x1 w2
    split
    · refine Within.ite ?_ ?_
      · refine State.queueStarts_within (hF.drop (by decide)) ?_
        refine State.endContext_within (hF.drop (by decide)) ?_
        assumption
      assumption
    assumption
  refine State.queueStarts_within (hF.drop (by decide)) ?_
  assumption

/-! ## Frames -/

theorem State.markDrops_within {Ma Na ba : Nat} {s₀ : State} {s : State}
    (hF : Foot Ma Na ba 0x2 0x0 (0)) (hS : Within Ma Na ba s₀ s) :
    Within Ma Na ba s₀ (State.markDrops s) := by
  unfold State.markDrops
  refine Within.upd_gw (hF.any (by decide)) ?_
  assumption

theorem State.ringEntry_within {Ma Na ba : Nat} {s₀ : State} {s : State} {m : List Word}
    (hF : Foot Ma Na ba 0x3000000000000000000000000000000000000000000000000000000000 0x0 (0)) (hS : Within Ma Na ba s₀ s) :
    Within Ma Na ba s₀ (State.ringEntry s m) := by
  unfold State.ringEntry
  extract_lets -merge +onlyGivenNames y0
  refine Within.addF .CFG_MAN_HEAD 0 0 rfl (hF.may (by decide)) ?_
  refine Within.block_CFG_MAN (hF.may (by decide)) (by rw [List.length_map, List.length_range]) ?_
  assumption

theorem State.openProgress_within {Ma Na ba : Nat} {s₀ : State} {s : State} {seq : Nat} {cont : Nat} {bank : Nat} {strips : Nat} {segDone : Bool} {burst : Bool}
    (hF : Foot Ma Na ba 0x80 0x0 (0)) (hS : Within Ma Na ba s₀ s) :
    Within Ma Na ba s₀ (State.openProgress s seq cont bank strips segDone burst) := by
  unfold State.openProgress
  extract_lets -merge +onlyGivenNames y0
  extract_lets -merge +onlyGivenNames y1
  extract_lets -merge +onlyGivenNames y2
  refine Within.upd_pipe (hF.any (by decide)) ?_
  assumption

theorem State.noteFrameUse_within {Ma Na ba : Nat} {s₀ : State} {s : State} {st : RegFile} {seq : Nat}
    (hF : Foot Ma Na ba 0x40000000000000000000000 0x0 (0)) (hS : Within Ma Na ba s₀ s) :
    Within Ma Na ba s₀ (State.noteFrameUse s st seq) := by
  unfold State.noteFrameUse
  refine Within.foldl ?_ ?_
  · intro t0 x1 w2
    refine Within.setF .CTX_ST0 _ 0 rfl (hF.may (by decide)) ?_
    refine Within.setF .CTX_ST0 _ 0 rfl (hF.may (by decide)) ?_
    assumption
  assumption

theorem State.noteInUse_within {Ma Na ba : Nat} {s₀ : State} {s : State} {old : RegFile} {new : RegFile}
    (hF : Foot Ma Na ba 0x10000000040000000000000000000400 0x0 (0)) (hS : Within Ma Na ba s₀ s) :
    Within Ma Na ba s₀ (State.noteInUse s old new) := by
  unfold State.noteInUse
  extract_lets -merge +onlyGivenNames y0
  refine have w1 : Within Ma Na ba s₀ y0 := ?_; ?_
  · refine Within.foldl ?_ ?_
    · intro t2 x3 w4
      refine Within.setF .CTX_ST0 _ 0 rfl (hF.may (by decide)) ?_
      assumption
    assumption
  clear_value y0
  extract_lets -merge +onlyGivenNames y5
  refine have w6 : Within Ma Na ba s₀ y5 := ?_; ?_
  · refine Within.foldl ?_ ?_
    · intro t7 x8 w9
      refine Within.setF .CTX_ST0 _ 0 rfl (hF.may (by decide)) ?_
      assumption
    assumption
  clear_value y5
  extract_lets -merge +onlyGivenNames y10
  extract_lets -merge +onlyGivenNames y11
  extract_lets -merge +onlyGivenNames y12
  refine have w13 : Within Ma Na ba s₀ y12 := ?_; ?_
  · refine Within.foldl ?_ ?_
    · intro t14 x15 w16
      refine Within.setB .FY_STAT _ 0 rfl (hF.may (by decide)) ?_
      assumption
    assumption
  clear_value y12
  refine Within.foldl ?_ ?_
  · intro t17 x18 w19
    refine Within.setB .FY_STAT _ 0 rfl (hF.may (by decide)) ?_
    refine Within.upd_fy (hF.any (by decide)) (length_modifyAt _ _ _) ?_
    assumption
  assumption

theorem State.finishSegment_within {Ma Na ba : Nat} {s₀ : State} {s : State} {g : StripFrame}
    (hF : Foot Ma Na ba 0x3000000400000000000000021000401000080000000000000000001f84 0x0 (0)) (hS : Within Ma Na ba s₀ s) :
    Within Ma Na ba s₀ (State.finishSegment s g) := by
  unfold State.finishSegment
  extract_lets -merge +onlyGivenNames y0
  extract_lets -merge +onlyGivenNames y1
  extract_lets -merge +onlyGivenNames y2
  extract_lets -merge +onlyGivenNames y3
  refine have w4 : Within Ma Na ba s₀ y3 := ?_; ?_
  · refine Within.upd_tt (hF.any (by decide)) ?_
    assumption
  clear_value y3
  extract_lets -merge +onlyGivenNames y5
  refine have w6 : Within Ma Na ba s₀ y5 := ?_; ?_
  · refine State.ferryEvent_within (hF.drop (by decide)) ?_
    refine State.ringEntry_within (hF.drop (by decide)) ?_
    assumption
  clear_value y5
  refine State.endDone_within (hF.drop (by decide)) ?_
  refine State.noteManifest_within (hF.drop (by decide)) ?_
  assumption

theorem State.frameEnd_within {Ma Na ba : Nat} {s₀ : State} {s : State} {p : Pass}
    (hF : Foot Ma Na ba 0x8000000000000004 0x0 (0)) (hS : Within Ma Na ba s₀ s) :
    Within Ma Na ba s₀ (State.frameEnd s p) := by
  unfold State.frameEnd
  extract_lets -merge +onlyGivenNames y0
  refine State.log_within (hF.drop (by decide)) ?_
  assumption

theorem State.closeSegment_within {Ma Na ba : Nat} {s₀ : State} {s : State} {g : StripFrame} {short : Bool} {more : Bool}
    (hF : Foot Ma Na ba 0x3000000400000000000000021000401000080000008000000000001f84 0x0 (0)) (hS : Within Ma Na ba s₀ s) :
    Within Ma Na ba s₀ (State.closeSegment s g short more) := by
  unfold State.closeSegment
  extract_lets -merge +onlyGivenNames y0
  extract_lets -merge +onlyGivenNames y1
  extract_lets -merge +onlyGivenNames y2
  extract_lets -merge +onlyGivenNames y3
  extract_lets -merge +onlyGivenNames y4
  refine have w5 : Within Ma Na ba s₀ y4 := ?_; ?_
  · refine Within.upd_tt_pipe (hF.any (by decide)) (hF.any (by decide)) ?_
    assumption
  clear_value y4
  extract_lets -merge +onlyGivenNames y6
  refine have w7 : Within Ma Na ba s₀ y6 := ?_; ?_
  · dsimp -zeta only [y6]
    split
    · refine Within.ite ?_ ?_
      · assumption
      refine State.frameEnd_within (hF.drop (by decide)) ?_
      assumption
    assumption
  clear_value y6
  refine Within.ite ?_ ?_
  · refine State.finishSegment_within (hF.drop (by decide)) ?_
    assumption
  assumption

theorem State.endStrips_within {Ma Na ba : Nat} {s₀ : State} {s : State} {short : Bool} {more : Bool}
    (hF : Foot Ma Na ba 0x3000000400000000000000021000401000080000008000000000001f84 0x0 (0)) (hS : Within Ma Na ba s₀ s) :
    Within Ma Na ba s₀ (State.endStrips s short more) := by
  unfold State.endStrips
  split
  · assumption
  extract_lets -merge +onlyGivenNames y0
  extract_lets -merge +onlyGivenNames y1
  refine have w2 : Within Ma Na ba s₀ y1 := ?_; ?_
  · refine Within.upd_tt (hF.any (by decide)) ?_
    assumption
  clear_value y1
  refine State.closeSegment_within (hF.drop (by decide)) ?_
  assumption

theorem State.endShot_within {Ma Na ba : Nat} {s₀ : State} {s : State} {f : Frame} {shot : Shot}
    (hF : Foot Ma Na ba 0x2004 0x0 (0)) (hS : Within Ma Na ba s₀ s) :
    Within Ma Na ba s₀ (State.endShot s f shot) := by
  unfold State.endShot
  refine Within.upd_tt_pio (hF.any (by decide)) (hF.any (by decide)) ?_
  assumption

theorem State.closeAccum_within {Ma Na ba : Nat} {s₀ : State} {s : State} {c : Nat}
    (hF : Foot Ma Na ba 0x2004 0x0 (0)) (hS : Within Ma Na ba s₀ s) :
    Within Ma Na ba s₀ (State.closeAccum s c) := by
  unfold State.closeAccum
  split
  · assumption
  extract_lets -merge +onlyGivenNames y0
  extract_lets -merge +onlyGivenNames y1
  extract_lets -merge +onlyGivenNames y2
  refine have w3 : Within Ma Na ba s₀ y2 := ?_; ?_
  · refine State.pioEvent_within (hF.drop (by decide)) ?_
    refine State.endShot_within (hF.drop (by decide)) ?_
    assumption
  clear_value y2
  refine Within.upd_tt (hF.any (by decide)) ?_
  assumption

theorem State.cutAccum_within {Ma Na ba : Nat} {s₀ : State} {s : State} {c : Nat}
    (hF : Foot Ma Na ba 0x2004 0x0 (0)) (hS : Within Ma Na ba s₀ s) :
    Within Ma Na ba s₀ (State.cutAccum s c) := by
  unfold State.cutAccum
  split
  · assumption
  extract_lets -merge +onlyGivenNames y0
  extract_lets -merge +onlyGivenNames y1
  refine Within.ite ?_ ?_
  · extract_lets -merge +onlyGivenNames y2
    extract_lets -merge +onlyGivenNames y3
    refine have w4 : Within Ma Na ba s₀ y3 := ?_; ?_
    · refine State.pioEvent_within (hF.drop (by decide)) ?_
      refine State.endShot_within (hF.drop (by decide)) ?_
      assumption
    clear_value y3
    refine Within.upd_tt (hF.any (by decide)) ?_
    assumption
  assumption

theorem State.endAccum_within {Ma Na ba : Nat} {s₀ : State} {s : State} {c : Nat}
    (hF : Foot Ma Na ba 0x2004 0x0 (0)) (hS : Within Ma Na ba s₀ s) :
    Within Ma Na ba s₀ (State.endAccum s c) := by
  unfold State.endAccum
  extract_lets -merge +onlyGivenNames y0
  refine have w1 : Within Ma Na ba s₀ y0 := ?_; ?_
  · refine State.cutAccum_within (hF.drop (by decide)) ?_
    refine State.closeAccum_within (hF.drop (by decide)) ?_
    assumption
  clear_value y0
  refine Within.upd_tt (hF.any (by decide)) ?_
  assumption

end Sys2Proof.Machine
end

