-- ==== Sys2Proof/Laws/FrameGangway.lean ====
section
/-! SUPPORT. What the functions of the gangway, pacing, triggers and shares can change: one lemma for each function and each meaning, in the relation `Within`. -/

namespace Sys2Proof.Machine

/-! ## Gangway -/

theorem State.shadowAt_within {Ma Na ba : Nat} {s₀ : State} {s : State} {x : Nat} {a : Nat} {v : Word} (hF : Foot Ma Na ba 0x2 0x800000 (a))
    (hS : Within Ma Na ba s₀ s) : Within Ma Na ba s₀ (s.shadowAt x a v) := by
  unfold State.shadowAt
  split
  · assumption
  · rename_i d hd
    exact Within.upd_gw (hF.any (by decide)) (hS.written hd (hF.mayOwn (by decide)))

theorem State.shadowAt_part {Ma Na ba : Nat} {s₀ : State} {s : State} {x : Nat} {v : Word} (p : Part) (i j : Nat) {a : Nat} (ha : p.addr i j = some a)
    (hp : May Ma Na ba p.ctorIdx i) (hg : Ma.testBit 1 = true) (hS : Within Ma Na ba s₀ s) : Within Ma Na ba s₀ (s.shadowAt x a v) := by
  unfold State.shadowAt
  split
  · assumption
  · exact Within.upd_gw hg (Within.reg p i j ha hp hS)

theorem Within.foldl_mem {Ma Na ba : Nat} {s₀ : State} {s : State} {α : Type} {f : State → α → State} {l : List α}
    (hf : ∀ s x, x ∈ l → Within Ma Na ba s₀ s → Within Ma Na ba s₀ (f s x)) (h : Within Ma Na ba s₀ s) : Within Ma Na ba s₀ (l.foldl f s) := by
  induction l generalizing s with
  | nil => exact h
  | cons x r ih => exact ih (fun s y hy => hf s y (List.mem_cons_of_mem _ hy)) (hf s x (List.mem_cons_self ..) h)

theorem State.shadowWrite_within {Ma Na ba : Nat} {s₀ : State} {s : State} {a : Nat} {v : Word}
    (hF : Foot Ma Na ba 0x2 0x800000 (a)) (hS : Within Ma Na ba s₀ s) :
    Within Ma Na ba s₀ (State.shadowWrite s a v) := by
  unfold State.shadowWrite
  refine State.shadowAt_within (hF.sub (by decide) (by decide)) ?_
  assumption

theorem State.mapWrite_within {Ma Na ba : Nat} {s₀ : State} {s : State} {a : Nat} {v : Word}
    (hF : Foot Ma Na ba 0x8000000000000002 0x800000 (a)) (hS : Within Ma Na ba s₀ s) :
    Within Ma Na ba s₀ (State.mapWrite s a v) := by
  unfold State.mapWrite
  refine Within.ite ?_ ?_
  · refine Within.setB .TT_STATUS 0 0 rfl (hF.may (by decide)) ?_
    assumption
  refine State.shadowAt_within (hF.sub (by decide) (by decide)) ?_
  assumption

theorem State.tapWrite_within {Ma Na ba : Nat} {s₀ : State} {s : State} {a : Nat} {v : Word}
    (hF : Foot Ma Na ba 0x900000000000000000002 0x800000 (a)) (hS : Within Ma Na ba s₀ s) :
    Within Ma Na ba s₀ (State.tapWrite s a v) := by
  unfold State.tapWrite
  refine Within.setB .CAL_STATUS 0 0 rfl (hF.may (by decide)) ?_
  refine Within.setB .CAL_TAP _ _ rfl (hF.may (by decide)) ?_
  refine State.shadowAt_within (hF.sub (by decide) (by decide)) ?_
  assumption

theorem State.writeShadow_within {Ma Na ba : Nat} {s₀ : State} {s : State} {a : Nat} {v : Word}
    (hF : Foot Ma Na ba 0x900008000000000000002 0x800000 (a)) (hS : Within Ma Na ba s₀ s) :
    Within Ma Na ba s₀ (State.writeShadow s a v) := by
  unfold State.writeShadow
  refine Within.ite ?_ ?_
  · refine State.mapWrite_within (hF.sub (by decide) (by decide)) ?_
    assumption
  refine Within.ite ?_ ?_
  · refine State.tapWrite_within (hF.sub (by decide) (by decide)) ?_
    assumption
  refine State.shadowAt_within (hF.sub (by decide) (by decide)) ?_
  assumption

theorem State.addCommit_within {Ma Na ba : Nat} {s₀ : State} {s : State} {src : Src} {force : Bool}
    (hF : Foot Ma Na ba 0x500000000000000000000000000000000000000000000000000000002 0x0 (0)) (hS : Within Ma Na ba s₀ s) :
    Within Ma Na ba s₀ (State.addCommit s src force) := by
  unfold State.addCommit
  extract_lets -merge +onlyGivenNames y0
  refine Within.setB .CFG_GW_STATUS 0 0 rfl (hF.may (by decide)) ?_
  refine Within.reg .CFG_GW_CTIME 0 0 rfl (hF.may (by decide)) ?_
  refine Within.upd_gw (hF.any (by decide)) ?_
  assumption

theorem State.logCommits_within {Ma Na ba : Nat} {s₀ : State} {s : State} {l : List Commit} {close : Nat} {seq : Nat} {code : Nat} {idle : Bool}
    (hF : Foot Ma Na ba 0x8000000000000004 0x0 (0)) (hS : Within Ma Na ba s₀ s) :
    Within Ma Na ba s₀ (State.logCommits s l close seq code idle) := by
  unfold State.logCommits
  refine Within.foldl ?_ ?_
  · intro t0 x1 w2
    refine State.log_within (hF.drop (by decide)) ?_
    assumption
  assumption

theorem State.refuseCommits_within {Ma Na ba : Nat} {s₀ : State} {s : State} {p : GwPlan} {close : Nat} {seq : Nat} {code : Nat} {ctx : Option Nat} {idle : Bool}
    (hF : Foot Ma Na ba 0x100000000000000000000000000000000000000008000000000000006 0x0 (0)) (hS : Within Ma Na ba s₀ s) :
    Within Ma Na ba s₀ (State.refuseCommits s p close seq code ctx idle) := by
  unfold State.refuseCommits
  extract_lets -merge +onlyGivenNames y0
  refine have w1 : Within Ma Na ba s₀ y0 := ?_; ?_
  · refine Within.setB .TT_STATUS 0 0 rfl (hF.may (by decide)) ?_
    assumption
  clear_value y0
  extract_lets -merge +onlyGivenNames y2
  refine have w3 : Within Ma Na ba s₀ y2 := ?_; ?_
  · refine Within.setF .TT_STATUS 0 0 rfl (hF.may (by decide)) ?_
    assumption
  clear_value y2
  extract_lets -merge +onlyGivenNames y4
  refine have w5 : Within Ma Na ba s₀ y4 := ?_; ?_
  · dsimp -zeta only [y4]
    split
    · refine Within.setB .CFG_GW_STATUS 0 0 rfl (hF.may (by decide)) ?_
      assumption
    refine Within.setB .CFG_GW_STATUS 0 0 rfl (hF.may (by decide)) ?_
    refine Within.setF .CFG_GW_STATUS 0 0 rfl (hF.may (by decide)) ?_
    assumption
  clear_value y4
  extract_lets -merge +onlyGivenNames y6
  refine have w7 : Within Ma Na ba s₀ y6 := ?_; ?_
  · refine State.logCommits_within (hF.drop (by decide)) ?_
    assumption
  clear_value y6
  extract_lets -merge +onlyGivenNames y8
  extract_lets -merge +onlyGivenNames y9
  refine have w10 : Within Ma Na ba s₀ y9 := ?_; ?_
  · refine Within.upd_gw (hF.any (by decide)) ?_
    assumption
  clear_value y9
  refine Within.setB .CFG_GW_STATUS 0 0 rfl (hF.may (by decide)) ?_
  assumption

theorem State.acquire_within {Ma Na ba : Nat} {s₀ : State} {s : State} {n : Nat}
    (hF : Foot Ma Na ba 0x1900000000000000000002 0x0 (0)) (hS : Within Ma Na ba s₀ s) :
    Within Ma Na ba s₀ (State.acquire s n) := by
  unfold State.acquire
  extract_lets -merge +onlyGivenNames y0
  refine have w1 : Within Ma Na ba s₀ y0 := ?_; ?_
  · refine Within.setB .CAL_TAP _ _ rfl (hF.may (by decide)) ?_
    assumption
  clear_value y0
  extract_lets -merge +onlyGivenNames y2
  refine have w3 : Within Ma Na ba s₀ y2 := ?_; ?_
  · refine Within.setB .CAL_REC _ 0 rfl (hF.may (by decide)) ?_
    assumption
  clear_value y2
  refine Within.ite ?_ ?_
  · extract_lets -merge +onlyGivenNames y4
    refine have w5 : Within Ma Na ba s₀ y4 := ?_; ?_
    · refine Within.setB .CAL_STATUS 0 0 rfl (hF.may (by decide)) ?_
      assumption
    clear_value y4
    refine Within.upd_gw (hF.any (by decide)) ?_
    assumption
  assumption

theorem State.takeTargets_within {Ma Na ba : Nat} {s₀ : State} {s : State} {n : Nat} {v : Word}
    (hF : Foot Ma Na ba 0x800000000000000000000 0x0 (0)) (hS : Within Ma Na ba s₀ s) :
    Within Ma Na ba s₀ (State.takeTargets s n v) := by
  unfold State.takeTargets
  extract_lets -merge +onlyGivenNames y0
  extract_lets -merge +onlyGivenNames y1
  extract_lets -merge +onlyGivenNames y2
  extract_lets -merge +onlyGivenNames y3
  refine Within.reg .CAL_TAP _ _ rfl (hF.may (by decide)) ?_
  assumption

theorem State.stepSlice_within {Ma Na ba : Nat} {s₀ : State} {s : State} {n : Nat}
    (hF : Foot Ma Na ba 0x1900000000000000000022 0x0 (0)) (hS : Within Ma Na ba s₀ s) :
    Within Ma Na ba s₀ (State.stepSlice s n) := by
  unfold State.stepSlice
  extract_lets -merge +onlyGivenNames y0
  extract_lets -merge +onlyGivenNames y1
  refine Within.ite ?_ ?_
  · refine State.acquire_within (hF.drop (by decide)) ?_
    extract_lets -merge +onlyGivenNames y2
    refine have w3 : Within Ma Na ba s₀ y2 := ?_; ?_
    · refine Within.reg .CAL_TAP _ _ rfl (hF.may (by decide)) ?_
      assumption
    clear_value y2
    refine Within.upd_cal (hF.any (by decide)) ?_
    assumption
  refine Within.reg .CAL_TAP _ _ rfl (hF.may (by decide)) ?_
  assumption

theorem State.releaseSteps_within {Ma Na ba : Nat} {s₀ : State} {s : State} {p : Nat → Bool}
    (hF : Foot Ma Na ba 0x1900000000000000000022 0x0 (0)) (hS : Within Ma Na ba s₀ s) :
    Within Ma Na ba s₀ (State.releaseSteps s p) := by
  unfold State.releaseSteps
  extract_lets -merge +onlyGivenNames y0
  refine Within.foldl ?_ ?_
  · intro t1 x2 w3
    refine State.stepSlice_within (hF.drop (by decide)) ?_
    assumption
  refine Within.upd_cal (hF.any (by decide)) ?_
  assumption

theorem State.restartBands_within {Ma Na ba : Nat} {s₀ : State} {s : State} {p : Nat → Bool} {x : Nat}
    (hF : Foot Ma Na ba 0x30 0x0 (0)) (hS : Within Ma Na ba s₀ s) :
    Within Ma Na ba s₀ (State.restartBands s p x) := by
  unfold State.restartBands
  refine Within.upd_cc_cal (hF.any (by decide)) (hF.any (by decide)) ?_
  assumption

theorem State.rerunBatches_within {Ma Na ba : Nat} {s₀ : State} {s : State} {x : Nat}
    (hF : Foot Ma Na ba 0x30 0x0 (0)) (hS : Within Ma Na ba s₀ s) :
    Within Ma Na ba s₀ (State.rerunBatches s x) := by
  unfold State.rerunBatches
  refine Within.upd_cc_cal (hF.any (by decide)) (hF.any (by decide)) ?_
  assumption

theorem State.setCycle_within {Ma Na ba : Nat} {s₀ : State} {s : State} {c : CalCycle}
    (hF : Foot Ma Na ba 0x20 0x0 (0)) (hS : Within Ma Na ba s₀ s) :
    Within Ma Na ba s₀ (State.setCycle s c) := by
  unfold State.setCycle
  refine Within.upd_cal (hF.any (by decide)) ?_
  assumption

theorem State.restoreTap_within {Ma Na ba : Nat} {s₀ : State} {s : State} {imm : Bool} {seq : Nat} {x : Nat} {a : Nat} {v : Word}
    (hF : Foot Ma Na ba 0x1900000000000000000022 0x0 (0)) (hS : Within Ma Na ba s₀ s) :
    Within Ma Na ba s₀ (State.restoreTap s imm seq x a v) := by
  unfold State.restoreTap
  extract_lets -merge +onlyGivenNames y0
  extract_lets -merge +onlyGivenNames y1
  refine have w2 : Within Ma Na ba s₀ y1 := ?_; ?_
  · refine State.releaseSteps_within (hF.drop (by decide)) ?_
    assumption
  clear_value y1
  extract_lets -merge +onlyGivenNames y3
  refine have w4 : Within Ma Na ba s₀ y3 := ?_; ?_
  · refine State.acquire_within (hF.drop (by decide)) ?_
    refine Within.ite ?_ ?_
    · assumption
    refine State.takeTargets_within (hF.drop (by decide)) ?_
    assumption
  clear_value y3
  extract_lets -merge +onlyGivenNames y5
  extract_lets -merge +onlyGivenNames y6
  refine have w7 : Within Ma Na ba s₀ y6 := ?_; ?_
  · refine Within.upd_cal (hF.any (by decide)) ?_
    assumption
  clear_value y6
  refine Within.ite ?_ ?_
  · refine State.setCycle_within (hF.drop (by decide)) ?_
    assumption
  assumption

theorem State.restoreTaps_within {Ma Na ba : Nat} {s₀ : State} {s : State} {close : Nat} {seq : Nat} {x : Nat} {imm : Bool}
    (hF : Foot Ma Na ba 0x1900000000000000000022 0x0 (0)) (hS : Within Ma Na ba s₀ s) :
    Within1 Ma Na ba s₀ (State.restoreTaps s close seq x imm) := by
  unfold State.restoreTaps
  extract_lets -merge +onlyGivenNames y0
  extract_lets -merge +onlyGivenNames y1
  refine have w2 : Within Ma Na ba s₀ y1 := ?_; ?_
  · refine Within.foldl ?_ ?_
    · intro t3 x4 w5
      refine State.restoreTap_within (hF.drop (by decide)) ?_
      assumption
    assumption
  clear_value y1
  extract_lets -merge +onlyGivenNames y6
  extract_lets -merge +onlyGivenNames y7
  refine have w8 : Within Ma Na ba s₀ y7 := ?_; ?_
  · refine Within.foldl ?_ ?_
    · intro t9 x10 w11
      refine Within.setB .CAL_TAP _ _ rfl (hF.may (by decide)) ?_
      assumption
    assumption
  clear_value y7
  refine Within1.mk ?_
  refine Within.setB .CAL_STATUS 0 0 rfl (hF.may (by decide)) ?_
  assumption

theorem State.moveEpoch_within {Ma Na ba : Nat} {s₀ : State} {s : State} {seq : Nat} {acq : Bool} {restore : Bool} {enable : Bool}
    (hF : Foot Ma Na ba 0x200000000000000000000 0x0 (0)) (hS : Within Ma Na ba s₀ s) :
    Within Ma Na ba s₀ (State.moveEpoch s seq acq restore enable) := by
  unfold State.moveEpoch
  refine Within.ite ?_ ?_
  · extract_lets -merge +onlyGivenNames y0
    extract_lets -merge +onlyGivenNames y1
    extract_lets -merge +onlyGivenNames y2
    extract_lets -merge +onlyGivenNames y3
    extract_lets -merge +onlyGivenNames y4
    refine Within.reg .CAL_EPOCH 0 0 rfl (hF.may (by decide)) ?_
    assumption
  assumption

theorem State.applyStep_within {Ma Na ba : Nat} {s₀ : State} {s : State} {seq : Nat}
    (hF : Foot Ma Na ba 0x2000000000100000000000000000000000800000000001c005 0x0 (0)) (hS : Within Ma Na ba s₀ s) :
    Within1 Ma Na ba s₀ (State.applyStep s seq) := by
  unfold State.applyStep
  split
  · refine Within1.mk ?_
    assumption
  extract_lets -merge +onlyGivenNames y0
  extract_lets -merge +onlyGivenNames y1
  refine have w2 : Within Ma Na ba s₀ y1 := ?_; ?_
  · refine Within.upd_clock (hF.any (by decide)) rfl ?_
    assumption
  clear_value y1
  extract_lets -merge +onlyGivenNames y3
  refine have w4 : Within Ma Na ba s₀ y3 := ?_; ?_
  · refine State.ptpUnlock_within (hF.drop (by decide)) ?_
    refine Within.satF .FB_TSTAT 0 0 rfl (hF.may (by decide)) ?_
    assumption
  clear_value y3
  extract_lets -merge +onlyGivenNames y5
  refine have w6 : Within Ma Na ba s₀ y5 := ?_; ?_
  · refine State.log_within (hF.drop (by decide)) ?_
    assumption
  clear_value y5
  extract_lets -merge +onlyGivenNames y7
  extract_lets -merge +onlyGivenNames y8
  refine have w9 : Within Ma Na ba s₀ y8 := ?_; ?_
  · refine Within.upd_tt (hF.any (by decide)) ?_
    assumption
  clear_value y8
  extract_lets -merge +onlyGivenNames y10
  extract_lets -merge +onlyGivenNames y11
  refine have w12 : Within Ma Na ba s₀ y11 := ?_; ?_
  · refine Within.ite ?_ ?_
    · refine Within.setB .TT_STATUS 0 0 rfl (hF.may (by decide)) ?_
      refine Within.upd_tt (hF.any (by decide)) ?_
      assumption
    assumption
  clear_value y11
  extract_lets -merge +onlyGivenNames y13
  extract_lets -merge +onlyGivenNames y14
  refine have w15 : Within Ma Na ba s₀ y14 := ?_; ?_
  · refine Within.ite ?_ ?_
    · refine Within.upd_ck (hF.any (by decide)) ?_
      assumption
    assumption
  clear_value y14
  refine Within1.mk ?_
  assumption

theorem State.takePd_within {Ma Na ba : Nat} {s₀ : State} {s : State} {old : RegFile} {new : RegFile}
    (hF : Foot Ma Na ba 0x4 0x0 (0)) (hS : Within Ma Na ba s₀ s) :
    Within Ma Na ba s₀ (State.takePd s old new) := by
  unfold State.takePd
  extract_lets -merge +onlyGivenNames y0
  refine Within.ite ?_ ?_
  · assumption
  extract_lets -merge +onlyGivenNames y1
  extract_lets -merge +onlyGivenNames y2
  refine Within.upd_tt (hF.any (by decide)) ?_
  assumption

theorem State.paceGrid_within {Ma Na ba : Nat} {s₀ : State} {s : State} {st : RegFile} {first : Nat}
    (hF : Foot Ma Na ba 0x4 0x0 (0)) (hS : Within Ma Na ba s₀ s) :
    Within Ma Na ba s₀ (State.paceGrid s st first) := by
  unfold State.paceGrid
  refine Within.ite ?_ ?_
  · refine Within.upd_tt (hF.any (by decide)) ?_
    assumption
  refine Within.ite ?_ ?_
  · assumption
  refine Within.upd_tt (hF.any (by decide)) ?_
  assumption

theorem State.reanchor_within {Ma Na ba : Nat} {s₀ : State} {s : State} {new : RegFile} {sN : Nat}
    (hF : Foot Ma Na ba 0x4 0x0 (0)) (hS : Within Ma Na ba s₀ s) :
    Within Ma Na ba s₀ (State.reanchor s new sN) := by
  unfold State.reanchor
  refine Within.upd_tt (hF.any (by decide)) ?_
  assumption

theorem State.applyRun_within {Ma Na ba : Nat} {s₀ : State} {s : State} {old : RegFile} {new : RegFile} {swap : Nat} {first : Nat}
    (hF : Foot Ma Na ba 0x3000000400000000000000021000401000080000008100000000003f84 0x0 (0)) (hS : Within Ma Na ba s₀ s) :
    Within Ma Na ba s₀ (State.applyRun s old new swap first) := by
  unfold State.applyRun
  extract_lets -merge +onlyGivenNames y0
  extract_lets -merge +onlyGivenNames y1
  refine have w2 : Within Ma Na ba s₀ y1 := ?_; ?_
  · refine Within.setB .TT_STATUS 0 0 rfl (hF.may (by decide)) ?_
    assumption
  clear_value y1
  extract_lets -merge +onlyGivenNames y3
  refine have w4 : Within Ma Na ba s₀ y3 := ?_; ?_
  · refine Within.ite ?_ ?_
    · refine Within.setF .TT_ENC_NEXT 0 0 rfl (hF.may (by decide)) ?_
      assumption
    assumption
  clear_value y3
  refine Within.ite ?_ ?_
  · extract_lets -merge +onlyGivenNames y5
    refine have w6 : Within Ma Na ba s₀ y5 := ?_; ?_
    · refine State.endStrips_within (hF.drop (by decide)) ?_
      refine State.endAccum_within (hF.drop (by decide)) ?_
      assumption
    clear_value y5
    refine Within.upd_tt (hF.any (by decide)) ?_
    assumption
  extract_lets -merge +onlyGivenNames y7
  refine have w8 : Within Ma Na ba s₀ y7 := ?_; ?_
  · refine Within.ite ?_ ?_
    · refine State.reanchor_within (hF.drop (by decide)) ?_
      assumption
    assumption
  clear_value y7
  refine Within.ite ?_ ?_
  · assumption
  refine State.paceGrid_within (hF.drop (by decide)) ?_
  assumption

theorem State.calEnable_within {Ma Na ba : Nat} {s₀ : State} {s : State} {on : Bool} {x : Nat}
    (hF : Foot Ma Na ba 0x1900000000000000000032 0x0 (0)) (hS : Within Ma Na ba s₀ s) :
    Within Ma Na ba s₀ (State.calEnable s on x) := by
  unfold State.calEnable
  refine Within.ite ?_ ?_
  · refine State.restartBands_within (hF.drop (by decide)) ?_
    assumption
  extract_lets -merge +onlyGivenNames y0
  refine have w1 : Within Ma Na ba s₀ y0 := ?_; ?_
  · refine State.releaseSteps_within (hF.drop (by decide)) ?_
    assumption
  clear_value y0
  refine Within.upd_cal (hF.any (by decide)) ?_
  assumption

theorem State.install_within {Ma Na ba : Nat} {s₀ : State} {s : State} {p : GwPlan} {b : Nat} {close : Nat} {swap : Nat} {seq : Nat} {first : Nat} {idle : Bool} {acq : Bool}
    (hF : Foot Ma Na ba 0x3b000004000000000000000210104010000c1b0000c100000000003fb6 0x0 (0)) (hS : Within Ma Na ba s₀ s) :
    Within Ma Na ba s₀ (State.install s p b close swap seq first idle acq) := by
  unfold State.install
  extract_lets -merge +onlyGivenNames y0
  extract_lets -merge +onlyGivenNames y1
  extract_lets -merge +onlyGivenNames y2
  refine have w3 : Within Ma Na ba s₀ y2 := ?_; ?_
  · refine State.logCommits_within (hF.drop (by decide)) ?_
    assumption
  clear_value y2
  extract_lets -merge +onlyGivenNames y4
  refine have w5 : Within Ma Na ba s₀ y4 := ?_; ?_
  · dsimp -zeta only [y4]
    split
    · refine State.log_within (hF.drop (by decide)) ?_
      assumption
    assumption
  clear_value y4
  split
  rename_i z6 z7 z8 z9
  refine have w10 : Within Ma Na ba s₀ z7 := Within1.take z9 ?_; ?_
  · refine Within1.ite ?_ ?_
    · refine Within1.mk ?_
      assumption
    refine State.restoreTaps_within (hF.drop (by decide)) ?_
    assumption
  extract_lets -merge +onlyGivenNames y11
  extract_lets -merge +onlyGivenNames y12
  extract_lets -merge +onlyGivenNames y13
  refine have w14 : Within Ma Na ba s₀ y13 := ?_; ?_
  · refine Within.upd_gw (hF.any (by decide)) ?_
    assumption
  clear_value y13
  extract_lets -merge +onlyGivenNames y15
  extract_lets -merge +onlyGivenNames y16
  extract_lets -merge +onlyGivenNames y17
  extract_lets -merge +onlyGivenNames y18
  extract_lets -merge +onlyGivenNames y19
  refine have w20 : Within Ma Na ba s₀ y19 := ?_; ?_
  · refine Within.reg .CFG_GW_GEN 0 0 rfl (hF.may (by decide)) ?_
    assumption
  clear_value y19
  extract_lets -merge +onlyGivenNames y21
  refine have w22 : Within Ma Na ba s₀ y21 := ?_; ?_
  · refine Within.reg .CFG_GW_ITIME 0 0 rfl (hF.may (by decide)) ?_
    assumption
  clear_value y21
  extract_lets -merge +onlyGivenNames y23
  refine have w24 : Within Ma Na ba s₀ y23 := ?_; ?_
  · refine Within.setB .CFG_GW_STATUS 0 0 rfl (hF.may (by decide)) ?_
    assumption
  clear_value y23
  extract_lets -merge +onlyGivenNames y25
  refine have w26 : Within Ma Na ba s₀ y25 := ?_; ?_
  · refine Within.ite ?_ ?_
    · refine Within.setB .CFG_GW_STATUS 0 0 rfl (hF.may (by decide)) ?_
      assumption
    assumption
  clear_value y25
  extract_lets -merge +onlyGivenNames y27
  refine have w28 : Within Ma Na ba s₀ y27 := ?_; ?_
  · dsimp -zeta only [y27]
    split
    · refine Within.setB .TT_MAP_SRC 0 0 rfl (hF.may (by decide)) ?_
      refine Within.setF .TT_MAP_SRC 0 0 rfl (hF.may (by decide)) ?_
      assumption
    refine Within.ite ?_ ?_
    · refine Within.reg .TT_MAP_SRC 0 0 rfl (hF.may (by decide)) ?_
      assumption
    assumption
  clear_value y27
  extract_lets -merge +onlyGivenNames y29
  extract_lets -merge +onlyGivenNames y30
  refine have w31 : Within Ma Na ba s₀ y30 := ?_; ?_
  · refine State.moveEpoch_within (hF.drop (by decide)) ?_
    assumption
  clear_value y30
  extract_lets -merge +onlyGivenNames y32
  refine have w33 : Within Ma Na ba s₀ y32 := ?_; ?_
  · refine Within.ite ?_ ?_
    · refine State.calEnable_within (hF.drop (by decide)) ?_
      assumption
    assumption
  clear_value y32
  refine State.applyRun_within (hF.drop (by decide)) ?_
  refine State.takePd_within (hF.drop (by decide)) ?_
  refine State.noteInUse_within (hF.drop (by decide)) ?_
  assumption

theorem State.tryInstall_within {Ma Na ba : Nat} {s₀ : State} {s : State} {p : GwPlan} {close : Nat} {swap : Nat} {seq : Nat} {first : Nat} {idle : Bool} {acq : Bool}
    (hF : Foot Ma Na ba 0x3b000004000000000000000210104010000c1b0000c100000000003fb6 0x0 (0)) (hS : Within Ma Na ba s₀ s) :
    Within1 Ma Na ba s₀ (State.tryInstall s p close swap seq first idle acq) := by
  unfold State.tryInstall
  refine Within1.ite ?_ ?_
  · refine Within1.mk ?_
    refine State.moveEpoch_within (hF.drop (by decide)) ?_
    assumption
  split
  · extract_lets -merge +onlyGivenNames y0
    extract_lets -merge +onlyGivenNames y1
    refine have w2 : Within Ma Na ba s₀ y1 := ?_; ?_
    · refine Within.upd_gw (hF.any (by decide)) ?_
      assumption
    clear_value y1
    refine Within1.mk ?_
    refine State.moveEpoch_within (hF.drop (by decide)) ?_
    refine Within.setB .CFG_GW_STATUS 0 0 rfl (hF.may (by decide)) ?_
    assumption
  refine Within1.mk ?_
  refine State.install_within (hF.drop (by decide)) ?_
  assumption

theorem State.gangway_within {Ma Na ba : Nat} {s₀ : State} {s : State} {close : Nat} {swap : Nat} {seq : Nat} {first : Nat} {idle : Bool}
    (hF : Foot Ma Na ba 0x3b000004000000000000000210104010000c1b0000c100000000003fb6 0x0 (0)) (hS : Within Ma Na ba s₀ s) :
    Within1 Ma Na ba s₀ (State.gangway s close swap seq first idle) := by
  unfold State.gangway
  extract_lets -merge +onlyGivenNames y0
  extract_lets -merge +onlyGivenNames y1
  extract_lets -merge +onlyGivenNames y2
  extract_lets -merge +onlyGivenNames y3
  refine have w4 : Within Ma Na ba s₀ y3 := ?_; ?_
  · refine Within.upd_gw (hF.any (by decide)) ?_
    assumption
  clear_value y3
  extract_lets -merge +onlyGivenNames y5
  extract_lets -merge +onlyGivenNames y6
  refine have w7 : Within Ma Na ba s₀ y6 := ?_; ?_
  · dsimp -zeta only [y6]
    split
    · refine State.refuseCommits_within (hF.drop (by decide)) ?_
      assumption
    assumption
  clear_value y6
  extract_lets -merge +onlyGivenNames y8
  refine have w9 : Within1 Ma Na ba s₀ y8 := ?_; ?_
  · refine State.tryInstall_within (hF.drop (by decide)) ?_
    assumption
  clear_value y8
  refine Within1.mk ?_
  refine State.ferryEvent_within (hF.drop (by decide)) ?_
  refine State.pioEvent_within (hF.drop (by decide)) ?_
  refine Within.fst ?_
  assumption

/-! ## Pacing -/

theorem State.unreserve_within {Ma Na ba : Nat} {s₀ : State} {s : State} {seq : Nat}
    (hF : Foot Ma Na ba 0x400000000000000000000000000100 0x0 (0)) (hS : Within Ma Na ba s₀ s) :
    Within Ma Na ba s₀ (State.unreserve s seq) := by
  unfold State.unreserve
  refine Within.foldl ?_ ?_
  · intro t0 x1 w2
    refine State.freeBerth_within (hF.drop (by decide)) ?_
    assumption
  assumption

theorem State.gateFrame_within {Ma Na ba : Nat} {s₀ : State} {s : State} {f : Frame} {epochMoved : Bool} {tstep : Bool} {inBurst : Bool}
    (hF : Foot Ma Na ba 0x400001040000000000000000000386 0x0 (0)) (hS : Within Ma Na ba s₀ s) :
    Within1 Ma Na ba s₀ (State.gateFrame s f epochMoved tstep inBurst) := by
  unfold State.gateFrame
  extract_lets -merge +onlyGivenNames y0
  extract_lets -merge +onlyGivenNames y1
  extract_lets -merge +onlyGivenNames y2
  extract_lets -merge +onlyGivenNames y3
  extract_lets -merge +onlyGivenNames y4
  extract_lets -merge +onlyGivenNames y5
  extract_lets -merge +onlyGivenNames y6
  extract_lets -merge +onlyGivenNames y7
  extract_lets -merge +onlyGivenNames y8
  extract_lets -merge +onlyGivenNames y9
  extract_lets -merge +onlyGivenNames y10
  extract_lets -merge +onlyGivenNames y11
  refine have w12 : Within Ma Na ba s₀ y11 := ?_; ?_
  · refine Within.upd_gw_tt (hF.any (by decide)) (hF.any (by decide)) ?_
    assumption
  clear_value y11
  refine Within1.mk ?_
  refine State.gangwayHistory_within (hF.drop (by decide)) ?_
  refine State.noteFrameUse_within (hF.drop (by decide)) ?_
  assumption

theorem State.enterFrame_within {Ma Na ba : Nat} {s₀ : State} {s : State} {f : Frame} {inBurst : Bool}
    (hF : Foot Ma Na ba 0x4 0x0 (0)) (hS : Within Ma Na ba s₀ s) :
    Within Ma Na ba s₀ (State.enterFrame s f inBurst) := by
  unfold State.enterFrame
  refine Within.ite ?_ ?_
  · refine Within.upd_tt (hF.any (by decide)) ?_
    assumption
  refine Within.upd_tt (hF.any (by decide)) ?_
  assumption

theorem State.swapFrame_within {Ma Na ba : Nat} {s₀ : State} {s : State} {f : Frame}
    (hF : Foot Ma Na ba 0x3b000004200000000010000210104010010c1b0000c10000000001ffb7 0x0 (0)) (hS : Within Ma Na ba s₀ s) :
    Within Ma Na ba s₀ (State.swapFrame s f) := by
  unfold State.swapFrame
  extract_lets -merge +onlyGivenNames y0
  extract_lets -merge +onlyGivenNames y1
  extract_lets -merge +onlyGivenNames y2
  extract_lets -merge +onlyGivenNames y3
  extract_lets -merge +onlyGivenNames y4
  refine have w5 : Within Ma Na ba s₀ y4 := ?_; ?_
  · refine Within.upd_tt (hF.any (by decide)) ?_
    assumption
  clear_value y4
  extract_lets -merge +onlyGivenNames y6
  extract_lets -merge +onlyGivenNames y7
  extract_lets -merge +onlyGivenNames y8
  refine have w9 : Within1 Ma Na ba s₀ y8 := ?_; ?_
  · refine State.gangway_within (hF.drop (by decide)) ?_
    assumption
  clear_value y8
  extract_lets -merge +onlyGivenNames y10
  refine have w11 : Within1 Ma Na ba s₀ y10 := ?_; ?_
  · refine State.applyStep_within (hF.drop (by decide)) ?_
    refine Within.fst ?_
    assumption
  clear_value y10
  extract_lets -merge +onlyGivenNames y12
  refine have w13 : Within Ma Na ba s₀ y12 := ?_; ?_
  · refine Within.fst ?_
    assumption
  clear_value y12
  refine Within.ite ?_ ?_
  · extract_lets -merge +onlyGivenNames y14
    refine have w15 : Within1 Ma Na ba s₀ y14 := ?_; ?_
    · refine State.gateFrame_within (hF.drop (by decide)) ?_
      assumption
    clear_value y14
    refine State.showPending_within (hF.drop (by decide)) ?_
    refine State.showBanks_within (hF.drop (by decide)) ?_
    refine State.enterFrame_within (hF.drop (by decide)) ?_
    refine Within.fst ?_
    assumption
  refine State.showPending_within (hF.drop (by decide)) ?_
  refine State.showBanks_within (hF.drop (by decide)) ?_
  refine State.unreserve_within (hF.drop (by decide)) ?_
  assumption

theorem State.gangwaySwap_within {Ma Na ba : Nat} {s₀ : State} {s : State}
    (hF : Foot Ma Na ba 0x3b000004200000000010000210104010010c1b0000c10000000001ffb7 0x0 (0)) (hS : Within Ma Na ba s₀ s) :
    Within Ma Na ba s₀ (State.gangwaySwap s) := by
  unfold State.gangwaySwap
  split
  · assumption
  refine State.swapFrame_within (hF.drop (by decide)) ?_
  assumption

theorem State.firstFrame_within {Ma Na ba : Nat} {s₀ : State} {s : State} {close : Nat} {epochMoved : Bool} {tstep : Bool}
    (hF : Foot Ma Na ba 0x400001040000000000000000000386 0x0 (0)) (hS : Within Ma Na ba s₀ s) :
    Within Ma Na ba s₀ (State.firstFrame s close epochMoved tstep) := by
  unfold State.firstFrame
  split
  · assumption
  refine Within.ite ?_ ?_
  · extract_lets -merge +onlyGivenNames y0
    extract_lets -merge +onlyGivenNames y1
    refine have w2 : Within1 Ma Na ba s₀ y1 := ?_; ?_
    · refine State.gateFrame_within (hF.drop (by decide)) ?_
      assumption
    clear_value y1
    extract_lets -merge +onlyGivenNames y3
    refine have w4 : Within Ma Na ba s₀ y3 := ?_; ?_
    · refine Within.fst ?_
      assumption
    clear_value y3
    extract_lets -merge +onlyGivenNames y5
    extract_lets -merge +onlyGivenNames y6
    refine have w7 : Within Ma Na ba s₀ y6 := ?_; ?_
    · refine Within.upd_tt (hF.any (by decide)) ?_
      assumption
    clear_value y6
    refine State.enterFrame_within (hF.drop (by decide)) ?_
    assumption
  assumption

theorem State.idleAt_within {Ma Na ba : Nat} {s₀ : State} {s : State} {close : Nat} {forced : Bool}
    (hF : Foot Ma Na ba 0x3b000004200000000010000210104010010c1b0000c10000000001ffb7 0x0 (0)) (hS : Within Ma Na ba s₀ s) :
    Within Ma Na ba s₀ (State.idleAt s close forced) := by
  unfold State.idleAt
  extract_lets -merge +onlyGivenNames y0
  extract_lets -merge +onlyGivenNames y1
  extract_lets -merge +onlyGivenNames y2
  extract_lets -merge +onlyGivenNames y3
  refine have w4 : Within1 Ma Na ba s₀ y3 := ?_; ?_
  · refine State.gangway_within (hF.drop (by decide)) ?_
    assumption
  clear_value y3
  extract_lets -merge +onlyGivenNames y5
  refine have w6 : Within1 Ma Na ba s₀ y5 := ?_; ?_
  · refine State.applyStep_within (hF.drop (by decide)) ?_
    refine Within.fst ?_
    assumption
  clear_value y5
  extract_lets -merge +onlyGivenNames y7
  refine have w8 : Within Ma Na ba s₀ y7 := ?_; ?_
  · refine Within.fst ?_
    assumption
  clear_value y7
  extract_lets -merge +onlyGivenNames y9
  extract_lets -merge +onlyGivenNames y10
  refine have w11 : Within Ma Na ba s₀ y10 := ?_; ?_
  · refine Within.ite ?_ ?_
    · refine Within.upd_gw (hF.any (by decide)) ?_
      assumption
    refine Within.fst ?_
    assumption
  clear_value y10
  extract_lets -merge +onlyGivenNames y12
  refine have w13 : Within Ma Na ba s₀ y12 := ?_; ?_
  · refine Within.ite ?_ ?_
    · refine State.firstFrame_within (hF.drop (by decide)) ?_
      assumption
    assumption
  clear_value y12
  refine State.showPending_within (hF.drop (by decide)) ?_
  refine State.showBanks_within (hF.drop (by decide)) ?_
  assumption

theorem State.idleGangway_within {Ma Na ba : Nat} {s₀ : State} {s : State}
    (hF : Foot Ma Na ba 0x3b000004200000000010000210104010010c1b0000c10000000001ffb7 0x0 (0)) (hS : Within Ma Na ba s₀ s) :
    Within Ma Na ba s₀ (State.idleGangway s) := by
  unfold State.idleGangway
  split
  · extract_lets -merge +onlyGivenNames y0
    refine Within.ite ?_ ?_
    · refine Within.upd_gw (hF.any (by decide)) ?_
      assumption
    refine State.idleAt_within (hF.drop (by decide)) ?_
    assumption
  split
  · refine State.idleAt_within (hF.drop (by decide)) ?_
    assumption
  assumption

theorem State.gridStep_within {Ma Na ba : Nat} {s₀ : State} {s : State} {g : Nat}
    (hF : Foot Ma Na ba 0x4 0x0 (0)) (hS : Within Ma Na ba s₀ s) :
    Within Ma Na ba s₀ (State.gridStep s g) := by
  unfold State.gridStep
  refine Within.upd_tt (hF.any (by decide)) ?_
  assumption

theorem State.gridInstant_within {Ma Na ba : Nat} {s₀ : State} {s : State}
    (hF : Foot Ma Na ba 0x4 0x0 (0)) (hS : Within Ma Na ba s₀ s) :
    Within Ma Na ba s₀ (State.gridInstant s) := by
  unfold State.gridInstant
  split
  · assumption
  refine Within.ite ?_ ?_
  · assumption
  refine Within.ite ?_ ?_
  · refine State.gridStep_within (hF.drop (by decide)) ?_
    assumption
  refine Within.ite ?_ ?_
  · assumption
  extract_lets -merge +onlyGivenNames y0
  extract_lets -merge +onlyGivenNames y1
  refine Within.ite ?_ ?_
  · refine State.gridStep_within (hF.drop (by decide)) ?_
    refine Within.upd_tt (hF.any (by decide)) ?_
    assumption
  refine State.gridStep_within (hF.drop (by decide)) ?_
  refine Within.upd_tt (hF.any (by decide)) ?_
  assumption

theorem State.setFrame_within {Ma Na ba : Nat} {s₀ : State} {s : State} {f : Frame}
    (hF : Foot Ma Na ba 0x4 0x0 (0)) (hS : Within Ma Na ba s₀ s) :
    Within Ma Na ba s₀ (State.setFrame s f) := by
  unfold State.setFrame
  refine Within.upd_tt (hF.any (by decide)) ?_
  assumption

theorem State.burstOver_within {Ma Na ba : Nat} {s₀ : State} {s : State} {x : Nat}
    (hF : Foot Ma Na ba 0x4 0x0 (0)) (hS : Within Ma Na ba s₀ s) :
    Within Ma Na ba s₀ (State.burstOver s x) := by
  unfold State.burstOver
  extract_lets -merge +onlyGivenNames y0
  extract_lets -merge +onlyGivenNames y1
  refine have w2 : Within Ma Na ba s₀ y1 := ?_; ?_
  · refine Within.upd_tt (hF.any (by decide)) ?_
    assumption
  clear_value y1
  refine Within.ite ?_ ?_
  · refine State.paceGrid_within (hF.drop (by decide)) ?_
    assumption
  assumption

theorem State.burstNext_within {Ma Na ba : Nat} {s₀ : State} {s : State} {f : Frame} {x : Nat}
    (hF : Foot Ma Na ba 0x4 0x0 (0)) (hS : Within Ma Na ba s₀ s) :
    Within Ma Na ba s₀ (State.burstNext s f x) := by
  unfold State.burstNext
  refine Within.ite ?_ ?_
  · assumption
  split
  · assumption
  refine Within.ite ?_ ?_
  · assumption
  refine Within.ite ?_ ?_
  · refine State.burstOver_within (hF.drop (by decide)) ?_
    assumption
  extract_lets -merge +onlyGivenNames y0
  refine Within.upd_tt (hF.any (by decide)) ?_
  assumption

theorem State.startFrame_within {Ma Na ba : Nat} {s₀ : State} {s : State} {f : Frame} {x : Nat}
    (hF : Foot Ma Na ba 0x100000000000000000000000000000000000000028000000000002484 0x0 (0)) (hS : Within Ma Na ba s₀ s) :
    Within Ma Na ba s₀ (State.startFrame s f x) := by
  unfold State.startFrame
  extract_lets -merge +onlyGivenNames y0
  extract_lets -merge +onlyGivenNames y1
  extract_lets -merge +onlyGivenNames y2
  extract_lets -merge +onlyGivenNames y3
  extract_lets -merge +onlyGivenNames y4
  refine have w5 : Within Ma Na ba s₀ y4 := ?_; ?_
  · refine State.setFrame_within (hF.drop (by decide)) ?_
    assumption
  clear_value y4
  extract_lets -merge +onlyGivenNames y6
  refine have w7 : Within Ma Na ba s₀ y6 := ?_; ?_
  · refine Within.ite ?_ ?_
    · refine State.countLate_within (hF.drop (by decide)) ?_
      assumption
    assumption
  clear_value y6
  extract_lets -merge +onlyGivenNames y8
  refine have w9 : Within Ma Na ba s₀ y8 := ?_; ?_
  · refine Within.ite ?_ ?_
    · refine State.log_within (hF.drop (by decide)) ?_
      assumption
    assumption
  clear_value y8
  extract_lets -merge +onlyGivenNames y10
  refine have w11 : Within Ma Na ba s₀ y10 := ?_; ?_
  · refine State.log_within (hF.drop (by decide)) ?_
    assumption
  clear_value y10
  extract_lets -merge +onlyGivenNames y12
  extract_lets -merge +onlyGivenNames y13
  refine have w14 : Within Ma Na ba s₀ y13 := ?_; ?_
  · refine Within.upd_tt (hF.any (by decide)) ?_
    assumption
  clear_value y13
  extract_lets -merge +onlyGivenNames y15
  refine have w16 : Within Ma Na ba s₀ y15 := ?_; ?_
  · refine State.burstNext_within (hF.drop (by decide)) ?_
    refine State.openProgress_within (hF.drop (by decide)) ?_
    assumption
  clear_value y15
  extract_lets -merge +onlyGivenNames y17
  refine have w18 : Within Ma Na ba s₀ y17 := ?_; ?_
  · refine State.pioEvent_within (hF.drop (by decide)) ?_
    assumption
  clear_value y17
  extract_lets -merge +onlyGivenNames y19
  refine have w20 : Within Ma Na ba s₀ y19 := ?_; ?_
  · refine Within.ite ?_ ?_
    · assumption
    refine State.pioEvent_within (hF.drop (by decide)) ?_
    assumption
  clear_value y19
  refine State.showPending_within (hF.drop (by decide)) ?_
  refine State.showBanks_within (hF.drop (by decide)) ?_
  refine State.ferryEvent_within (hF.drop (by decide)) ?_
  assumption

theorem State.noBerth_within {Ma Na ba : Nat} {s₀ : State} {s : State}
    (hF : Foot Ma Na ba 0x100 0x0 (0)) (hS : Within Ma Na ba s₀ s) :
    Within Ma Na ba s₀ (State.noBerth s) := by
  unfold State.noBerth
  refine Within.upd_fs (hF.any (by decide)) ?_
  assumption

theorem State.startOrWait_within {Ma Na ba : Nat} {s₀ : State} {s : State} {f : Frame} {x : Nat}
    (hF : Foot Ma Na ba 0x100000000000000000000000000400000000000028000000000002584 0x0 (0)) (hS : Within Ma Na ba s₀ s) :
    Within Ma Na ba s₀ (State.startOrWait s f x) := by
  unfold State.startOrWait
  refine Within.ite ?_ ?_
  · extract_lets -merge +onlyGivenNames y0
    refine have w1 : Within1 Ma Na ba s₀ y0 := ?_; ?_
    · refine State.reserve_within (hF.drop (by decide)) ?_
      assumption
    clear_value y0
    refine Within.ite ?_ ?_
    · refine State.startFrame_within (hF.drop (by decide)) ?_
      refine Within.fst ?_
      assumption
    refine State.setFrame_within (hF.drop (by decide)) ?_
    refine State.noBerth_within (hF.drop (by decide)) ?_
    refine Within.fst ?_
    assumption
  refine State.startFrame_within (hF.drop (by decide)) ?_
  assumption

theorem State.reserveEarly_within {Ma Na ba : Nat} {s₀ : State} {s : State}
    (hF : Foot Ma Na ba 0x400000000000008000000000000104 0x0 (0)) (hS : Within Ma Na ba s₀ s) :
    Within Ma Na ba s₀ (State.reserveEarly s) := by
  unfold State.reserveEarly
  split
  · assumption
  refine Within.ite ?_ ?_
  · extract_lets -merge +onlyGivenNames y0
    refine have w1 : Within1 Ma Na ba s₀ y0 := ?_; ?_
    · refine State.reserve_within (hF.drop (by decide)) ?_
      assumption
    clear_value y0
    refine Within.ite ?_ ?_
    · refine State.setFrame_within (hF.drop (by decide)) ?_
      refine Within.fst ?_
      assumption
    refine State.setFrame_within (hF.drop (by decide)) ?_
    refine State.noBerth_within (hF.drop (by decide)) ?_
    refine Within.fst ?_
    assumption
  assumption

theorem State.exposureStart_within {Ma Na ba : Nat} {s₀ : State} {s : State}
    (hF : Foot Ma Na ba 0x100000000000000000000000000400000000000028000000000002584 0x0 (0)) (hS : Within Ma Na ba s₀ s) :
    Within Ma Na ba s₀ (State.exposureStart s) := by
  unfold State.exposureStart
  split
  · refine Within.ite ?_ ?_
    · assumption
    refine State.startOrWait_within (hF.drop (by decide)) ?_
    assumption
  refine State.reserveEarly_within (hF.drop (by decide)) ?_
  assumption

theorem State.deferredStart_within {Ma Na ba : Nat} {s₀ : State} {s : State}
    (hF : Foot Ma Na ba 0x100000000000000000000000000400000000000028000000000002584 0x0 (0)) (hS : Within Ma Na ba s₀ s) :
    Within Ma Na ba s₀ (State.deferredStart s) := by
  unfold State.deferredStart
  split
  · refine Within.ite ?_ ?_
    · refine State.startOrWait_within (hF.drop (by decide)) ?_
      assumption
    assumption
  assumption

theorem State.runStrip_within {Ma Na ba : Nat} {s₀ : State} {s : State} {g : StripFrame} {x : Nat} {sched : Nat} {bound : Bool}
    (hF : Foot Ma Na ba 0x3000000400000000000000021000401000080000028000000000003f84 0x0 (0)) (hS : Within Ma Na ba s₀ s) :
    Within Ma Na ba s₀ (State.runStrip s g x sched bound) := by
  unfold State.runStrip
  extract_lets -merge +onlyGivenNames y0
  extract_lets -merge +onlyGivenNames y1
  extract_lets -merge +onlyGivenNames y2
  extract_lets -merge +onlyGivenNames y3
  extract_lets -merge +onlyGivenNames y4
  extract_lets -merge +onlyGivenNames y5
  refine have w6 : Within Ma Na ba s₀ y5 := ?_; ?_
  · refine Within.ite ?_ ?_
    · refine State.countLate_within (hF.drop (by decide)) ?_
      assumption
    assumption
  clear_value y5
  extract_lets -merge +onlyGivenNames y7
  extract_lets -merge +onlyGivenNames y8
  extract_lets -merge +onlyGivenNames y9
  extract_lets -merge +onlyGivenNames y10
  refine have w11 : Within Ma Na ba s₀ y10 := ?_; ?_
  · refine Within.upd_tt (hF.any (by decide)) ?_
    assumption
  clear_value y10
  extract_lets -merge +onlyGivenNames y12
  extract_lets -merge +onlyGivenNames y13
  refine have w14 : Within Ma Na ba s₀ y13 := ?_; ?_
  · refine Within.upd_tt (hF.any (by decide)) ?_
    assumption
  clear_value y13
  extract_lets -merge +onlyGivenNames y15
  refine have w16 : Within Ma Na ba s₀ y15 := ?_; ?_
  · refine Within.ite ?_ ?_
    · refine State.openProgress_within (hF.drop (by decide)) ?_
      refine State.log_within (hF.drop (by decide)) ?_
      assumption
    refine Within.ite ?_ ?_
    · refine State.log_within (hF.drop (by decide)) ?_
      assumption
    assumption
  clear_value y15
  extract_lets -merge +onlyGivenNames y17
  extract_lets -merge +onlyGivenNames y18
  extract_lets -merge +onlyGivenNames y19
  extract_lets -merge +onlyGivenNames y20
  refine have w21 : Within Ma Na ba s₀ y20 := ?_; ?_
  · refine Within.upd_tt_pipe (hF.any (by decide)) (hF.any (by decide)) ?_
    assumption
  clear_value y20
  extract_lets -merge +onlyGivenNames y22
  refine have w23 : Within Ma Na ba s₀ y22 := ?_; ?_
  · refine State.ferryEvent_within (hF.drop (by decide)) ?_
    refine State.pioEvent_within (hF.drop (by decide)) ?_
    refine State.pioEvent_within (hF.drop (by decide)) ?_
    assumption
  clear_value y22
  refine Within.ite ?_ ?_
  · refine Within.ite ?_ ?_
    · refine Within.upd_tt (hF.any (by decide)) ?_
      assumption
    refine State.endStrips_within (hF.drop (by decide)) ?_
    assumption
  assumption

theorem State.openStrip_within {Ma Na ba : Nat} {s₀ : State} {s : State} {d : StripDue} {x : Nat}
    (hF : Foot Ma Na ba 0x3b000004200000000010000210104010010c1b0002c10000000001ffb7 0x0 (0)) (hS : Within Ma Na ba s₀ s) :
    Within Ma Na ba s₀ (State.openStrip s d x) := by
  unfold State.openStrip
  extract_lets -merge +onlyGivenNames y0
  extract_lets -merge +onlyGivenNames y1
  extract_lets -merge +onlyGivenNames y2
  extract_lets -merge +onlyGivenNames y3
  extract_lets -merge +onlyGivenNames y4
  refine have w5 : Within1 Ma Na ba s₀ y4 := ?_; ?_
  · refine State.gangway_within (hF.drop (by decide)) ?_
    assumption
  clear_value y4
  extract_lets -merge +onlyGivenNames y6
  refine have w7 : Within1 Ma Na ba s₀ y6 := ?_; ?_
  · refine State.applyStep_within (hF.drop (by decide)) ?_
    refine Within.fst ?_
    assumption
  clear_value y6
  extract_lets -merge +onlyGivenNames y8
  refine have w9 : Within Ma Na ba s₀ y8 := ?_; ?_
  · refine Within.fst ?_
    assumption
  clear_value y8
  refine Within.ite ?_ ?_
  · extract_lets -merge +onlyGivenNames y10
    extract_lets -merge +onlyGivenNames y11
    refine have w12 : Within1 Ma Na ba s₀ y11 := ?_; ?_
    · refine State.gateFrame_within (hF.drop (by decide)) ?_
      assumption
    clear_value y11
    extract_lets -merge +onlyGivenNames y13
    refine have w14 : Within Ma Na ba s₀ y13 := ?_; ?_
    · refine Within.fst ?_
      assumption
    clear_value y13
    refine Within.ite ?_ ?_
    · refine State.runStrip_within (hF.drop (by decide)) ?_
      assumption
    refine State.enterFrame_within (hF.drop (by decide)) ?_
    assumption
  refine State.unreserve_within (hF.drop (by decide)) ?_
  assumption

theorem State.dropStrip_within {Ma Na ba : Nat} {s₀ : State} {s : State}
    (hF : Foot Ma Na ba 0x4 0x0 (0)) (hS : Within Ma Na ba s₀ s) :
    Within Ma Na ba s₀ (State.dropStrip s) := by
  unfold State.dropStrip
  refine Within.upd_tt (hF.any (by decide)) ?_
  assumption

theorem State.reserveStrip_within {Ma Na ba : Nat} {s₀ : State} {s : State} {d : StripDue} {x : Nat} {st : RegFile} {seq : Nat} {go : State → Nat → State}
    (hF : Foot Ma Na ba 0x400000000000018000000000000104 0x0 (0)) (hgo : ∀ s v1, Within Ma Na ba s₀ s → Within Ma Na ba s₀ (go s v1)) (hS : Within Ma Na ba s₀ s) :
    Within Ma Na ba s₀ (State.reserveStrip s d x st seq go) := by
  unfold State.reserveStrip
  extract_lets -merge +onlyGivenNames y0
  refine have w1 : Within1 Ma Na ba s₀ y0 := ?_; ?_
  · refine State.reserve_within (hF.drop (by decide)) ?_
    assumption
  clear_value y0
  refine Within.ite ?_ ?_
  · refine hgo _ _ ?_
    refine State.dropStrip_within (hF.drop (by decide)) ?_
    refine Within.fst ?_
    assumption
  refine Within.ite ?_ ?_
  · extract_lets -merge +onlyGivenNames y2
    refine have w3 : Within Ma Na ba s₀ y2 := ?_; ?_
    · refine State.noBerth_within (hF.drop (by decide)) ?_
      refine Within.fst ?_
      assumption
    clear_value y2
    refine Within.upd_tt (hF.any (by decide)) ?_
    assumption
  refine State.overrun_within (hF.drop (by decide)) ?_
  refine State.dropStrip_within (hF.drop (by decide)) ?_
  refine Within.fst ?_
  assumption

theorem State.stripStart_within {Ma Na ba : Nat} {s₀ : State} {s : State}
    (hF : Foot Ma Na ba 0x3b000004200000000010000210104010010c1b0003c10000000001ffb7 0x0 (0)) (hS : Within Ma Na ba s₀ s) :
    Within Ma Na ba s₀ (State.stripStart s) := by
  unfold State.stripStart
  split
  · assumption
  extract_lets -merge +onlyGivenNames y0
  extract_lets -merge +onlyGivenNames y1
  extract_lets -merge +onlyGivenNames y2
  refine have w3 : Within Ma Na ba s₀ y2 := ?_; ?_
  · refine State.dropStrip_within (hF.drop (by decide)) ?_
    assumption
  clear_value y2
  refine State.showPending_within (hF.drop (by decide)) ?_
  refine State.showBanks_within (hF.drop (by decide)) ?_
  split
  · refine Within.ite ?_ ?_
    · refine Within.ite ?_ ?_
      · extract_lets -merge +onlyGivenNames y4
        refine have w5 : Within Ma Na ba s₀ y4 := ?_; ?_
        · refine State.endStrips_within (hF.drop (by decide)) ?_
          assumption
        clear_value y4
        refine State.runStrip_within (hF.drop (by decide)) ?_
        assumption
      refine State.log_within (hF.drop (by decide)) ?_
      assumption
    refine Within.ite ?_ ?_
    · refine State.reserveStrip_within (hF.drop (by decide)) ?_ ?_
      · intro t6 x7 w8
        refine State.runStrip_within (hF.drop (by decide)) ?_
        assumption
      assumption
    refine State.runStrip_within (hF.drop (by decide)) ?_
    assumption
  refine Within.ite ?_ ?_
  · refine State.reserveStrip_within (hF.drop (by decide)) ?_ ?_
    · intro t9 x10 w11
      refine State.openStrip_within (hF.drop (by decide)) ?_
      assumption
    assumption
  refine State.log_within (hF.drop (by decide)) ?_
  assumption

theorem execShadowWrite_within {Ma Na ba : Nat} {s₀ : State} {t : Nat} {src : Src} {addr : Nat} {val : Word} {s : State}
    (hF : Foot Ma Na ba 0x900008000000000000002 0x800000 (addr)) (hS : Within Ma Na ba s₀ (s.advance t)) :
    Ends Ma Na ba s₀ (execShadowWrite t src addr val s) := by
  unfold execShadowWrite
  refine Ends.mk ?_
  refine State.managed_within (hF.drop (by decide)) ?_ ?_
  · intro t0 w1
    split
    · refine Within.ite ?_ ?_
      · refine State.writeShadow_within (hF.sub (by decide) (by decide)) ?_
        assumption
      assumption
    assumption
  assumption

theorem execCommit_within {Ma Na ba : Nat} {s₀ : State} {t : Nat} {src : Src} {s : State}
    (hF : Foot Ma Na ba 0x500000000000000000000000000000000000000000000000000000002 0x0 (0)) (hS : Within Ma Na ba s₀ (s.advance t)) :
    Ends Ma Na ba s₀ (execCommit t src s) := by
  unfold execCommit
  refine Ends.mk ?_
  refine State.managed_within (hF.drop (by decide)) ?_ ?_
  · intro t0 w1
    refine State.addCommit_within (hF.drop (by decide)) ?_
    assumption
  assumption

theorem execForce_within {Ma Na ba : Nat} {s₀ : State} {t : Nat} {src : Src} {s : State}
    (hF : Foot Ma Na ba 0x500000000000000000000000000000000000000000000000000000002 0x0 (0)) (hS : Within Ma Na ba s₀ (s.advance t)) :
    Ends Ma Na ba s₀ (execForce t src s) := by
  unfold execForce
  refine Ends.mk ?_
  refine State.managed_within (hF.drop (by decide)) ?_ ?_
  · intro t0 w1
    refine State.addCommit_within (hF.drop (by decide)) ?_
    assumption
  assumption

theorem execExposureMapWrite_within {Ma Na ba : Nat} {s₀ : State} {t : Nat} {src : Src} {word : Fin 8192} {val : Word} {s : State}
    (hF : Foot Ma Na ba 0x8000000000000002 0x800000 (Reg.TT_MAP word.val)) (hS : Within Ma Na ba s₀ (s.advance t)) :
    Ends Ma Na ba s₀ (execExposureMapWrite t src word val s) := by
  unfold execExposureMapWrite
  refine Ends.mk ?_
  refine State.managed_within (hF.drop (by decide)) ?_ ?_
  · intro t0 w1
    refine State.mapWrite_within (hF.sub (by decide) (by decide)) ?_
    assumption
  assumption

theorem execCalTapWrite_within {Ma Na ba : Nat} {s₀ : State} {t : Nat} {src : Src} {conv : Fin 33024} {slice : Fin 5} {val : Word} {s : State}
    (hF : Foot Ma Na ba 0x900000000000000000002 0x800000 (Reg.CAL_TAP conv.val slice.val)) (hS : Within Ma Na ba s₀ (s.advance t)) :
    Ends Ma Na ba s₀ (execCalTapWrite t src conv slice val s) := by
  unfold execCalTapWrite
  refine Ends.mk ?_
  refine State.managed_within (hF.drop (by decide)) ?_ ?_
  · intro t0 w1
    refine State.tapWrite_within (hF.sub (by decide) (by decide)) ?_
    assumption
  assumption

theorem execGangwaySwap_within {Ma Na ba : Nat} {s₀ : State} {t : Nat} {s : State}
    (hF : Foot Ma Na ba 0x3b000004200000000010000210104010010c1b0000c10000000001ffb7 0x0 (0)) (hS : Within Ma Na ba s₀ (s.advance t)) :
    Ends Ma Na ba s₀ (execGangwaySwap t s) := by
  unfold execGangwaySwap
  refine Ends.mk ?_
  refine State.gangwaySwap_within (hF.drop (by decide)) ?_
  assumption

theorem execIdleGangway_within {Ma Na ba : Nat} {s₀ : State} {t : Nat} {s : State}
    (hF : Foot Ma Na ba 0x3b000004200000000010000210104010010c1b0000c10000000001ffb7 0x0 (0)) (hS : Within Ma Na ba s₀ (s.advance t)) :
    Ends Ma Na ba s₀ (execIdleGangway t s) := by
  unfold execIdleGangway
  refine Ends.mk ?_
  refine State.idleGangway_within (hF.drop (by decide)) ?_
  assumption

theorem execGridInstant_within {Ma Na ba : Nat} {s₀ : State} {t : Nat} {s : State}
    (hF : Foot Ma Na ba 0x4 0x0 (0)) (hS : Within Ma Na ba s₀ (s.advance t)) :
    Ends Ma Na ba s₀ (execGridInstant t s) := by
  unfold execGridInstant
  refine Ends.mk ?_
  refine State.gridInstant_within (hF.drop (by decide)) ?_
  assumption

theorem execExposureStart_within {Ma Na ba : Nat} {s₀ : State} {t : Nat} {s : State}
    (hF : Foot Ma Na ba 0x100000000000000000000000000400000000000028000000000002584 0x0 (0)) (hS : Within Ma Na ba s₀ (s.advance t)) :
    Ends Ma Na ba s₀ (execExposureStart t s) := by
  unfold execExposureStart
  refine Ends.mk ?_
  refine State.exposureStart_within (hF.drop (by decide)) ?_
  assumption

theorem execDeferredStart_within {Ma Na ba : Nat} {s₀ : State} {t : Nat} {s : State}
    (hF : Foot Ma Na ba 0x100000000000000000000000000400000000000028000000000002584 0x0 (0)) (hS : Within Ma Na ba s₀ (s.advance t)) :
    Ends Ma Na ba s₀ (execDeferredStart t s) := by
  unfold execDeferredStart
  refine Ends.mk ?_
  refine State.deferredStart_within (hF.drop (by decide)) ?_
  assumption

theorem execStripStart_within {Ma Na ba : Nat} {s₀ : State} {t : Nat} {s : State}
    (hF : Foot Ma Na ba 0x3b000004200000000010000210104010010c1b0003c10000000001ffb7 0x0 (0)) (hS : Within Ma Na ba s₀ (s.advance t)) :
    Ends Ma Na ba s₀ (execStripStart t s) := by
  unfold execStripStart
  refine Ends.mk ?_
  refine State.stripStart_within (hF.drop (by decide)) ?_
  assumption

/-! ## Trigger -/

theorem State.noteAccept_within {Ma Na ba : Nat} {s₀ : State} {s : State} {x : StartEvent} {seq : Nat} {bound : Bool}
    (hF : Foot Ma Na ba 0x18000000000002404 0x0 (0)) (hS : Within Ma Na ba s₀ s) :
    Within Ma Na ba s₀ (State.noteAccept s x seq bound) := by
  unfold State.noteAccept
  extract_lets -merge +onlyGivenNames y0
  refine have w1 : Within Ma Na ba s₀ y0 := ?_; ?_
  · refine Within.addF .TT_CNT_TRIG 0 0 rfl (hF.may (by decide)) ?_
    assumption
  clear_value y0
  extract_lets -merge +onlyGivenNames y2
  refine have w3 : Within Ma Na ba s₀ y2 := ?_; ?_
  · refine State.log_within (hF.drop (by decide)) ?_
    assumption
  clear_value y2
  refine State.ferryEvent_within (hF.drop (by decide)) ?_
  refine State.pioEvent_within (hF.drop (by decide)) ?_
  assumption

theorem State.overrunEvent_within {Ma Na ba : Nat} {s₀ : State} {s : State} {x : StartEvent} {bound : Bool}
    (hF : Foot Ma Na ba 0x18000000000000004 0x0 (0)) (hS : Within Ma Na ba s₀ s) :
    Within Ma Na ba s₀ (State.overrunEvent s x bound) := by
  unfold State.overrunEvent
  extract_lets -merge +onlyGivenNames y0
  refine have w1 : Within Ma Na ba s₀ y0 := ?_; ?_
  · refine Within.ite ?_ ?_
    · refine State.log_within (hF.drop (by decide)) ?_
      assumption
    assumption
  clear_value y0
  refine State.overrun_within (hF.drop (by decide)) ?_
  assumption

theorem State.forcedOvr_within {Ma Na ba : Nat} {s₀ : State} {s : State}
    (hF : Foot Ma Na ba 0x100000000000000000000000000000000000000000000000000000000 0x0 (0)) (hS : Within Ma Na ba s₀ s) :
    Within Ma Na ba s₀ (State.forcedOvr s) := by
  unfold State.forcedOvr
  refine Within.setB .CFG_GW_STATUS 0 0 rfl (hF.may (by decide)) ?_
  assumption

theorem State.deferOrDrop_within {Ma Na ba : Nat} {s₀ : State} {s : State} {x : StartEvent} {st : RegFile} {bound : Bool}
    (hF : Foot Ma Na ba 0x18000000000000004 0x0 (0)) (hS : Within Ma Na ba s₀ s) :
    Within Ma Na ba s₀ (State.deferOrDrop s x st bound) := by
  unfold State.deferOrDrop
  extract_lets -merge +onlyGivenNames y0
  refine have w1 : Within Ma Na ba s₀ y0 := ?_; ?_
  · refine State.overrunEvent_within (hF.drop (by decide)) ?_
    assumption
  clear_value y0
  refine Within.ite ?_ ?_
  · refine Within.upd_tt (hF.any (by decide)) ?_
    assumption
  assumption

theorem State.acceptEvent_within {Ma Na ba : Nat} {s₀ : State} {s : State} {x : StartEvent}
    (hF : Foot Ma Na ba 0x100000000000000000000000000400000000000018000000000002504 0x0 (0)) (hS : Within Ma Na ba s₀ s) :
    Within Ma Na ba s₀ (State.acceptEvent s x) := by
  unfold State.acceptEvent
  extract_lets -merge +onlyGivenNames y0
  extract_lets -merge +onlyGivenNames y1
  extract_lets -merge +onlyGivenNames y2
  refine Within.ite ?_ ?_
  · refine State.overrunEvent_within (hF.drop (by decide)) ?_
    refine Within.ite ?_ ?_
    · refine State.forcedOvr_within (hF.drop (by decide)) ?_
      assumption
    assumption
  refine Within.ite ?_ ?_
  · refine State.deferOrDrop_within (hF.drop (by decide)) ?_
    refine State.forcedOvr_within (hF.drop (by decide)) ?_
    assumption
  refine Within.ite ?_ ?_
  · refine State.deferOrDrop_within (hF.drop (by decide)) ?_
    assumption
  refine Within.ite ?_ ?_
  · extract_lets -merge +onlyGivenNames y3
    refine have w4 : Within Ma Na ba s₀ y3 := ?_; ?_
    · refine State.noteAccept_within (hF.drop (by decide)) ?_
      assumption
    clear_value y3
    refine State.showPending_within (hF.drop (by decide)) ?_
    refine Within.upd_tt (hF.any (by decide)) ?_
    assumption
  extract_lets -merge +onlyGivenNames y5
  extract_lets -merge +onlyGivenNames y6
  refine have w7 : Within1 Ma Na ba s₀ y6 := ?_; ?_
  · refine State.reserve_within (hF.drop (by decide)) ?_
    assumption
  clear_value y6
  refine Within.ite ?_ ?_
  · extract_lets -merge +onlyGivenNames y8
    refine have w9 : Within Ma Na ba s₀ y8 := ?_; ?_
    · refine State.noteAccept_within (hF.drop (by decide)) ?_
      refine Within.fst ?_
      assumption
    clear_value y8
    refine State.showPending_within (hF.drop (by decide)) ?_
    refine Within.upd_tt (hF.any (by decide)) ?_
    assumption
  refine State.deferOrDrop_within (hF.drop (by decide)) ?_
  refine Within.fst ?_
  assumption

theorem State.subEvent_within {Ma Na ba : Nat} {s₀ : State} {s : State} {x : StartEvent} {f : Frame}
    (hF : Foot Ma Na ba 0x100000000000000000000000000000000000000018000000000002404 0x0 (0)) (hS : Within Ma Na ba s₀ s) :
    Within Ma Na ba s₀ (State.subEvent s x f) := by
  unfold State.subEvent
  extract_lets -merge +onlyGivenNames y0
  extract_lets -merge +onlyGivenNames y1
  extract_lets -merge +onlyGivenNames y2
  extract_lets -merge +onlyGivenNames y3
  extract_lets -merge +onlyGivenNames y4
  refine Within.ite ?_ ?_
  · refine Within.ite ?_ ?_
    · assumption
    refine State.overrunEvent_within (hF.drop (by decide)) ?_
    refine State.forcedOvr_within (hF.drop (by decide)) ?_
    assumption
  refine Within.ite ?_ ?_
  · refine Within.ite ?_ ?_
    · assumption
    refine State.overrunEvent_within (hF.drop (by decide)) ?_
    assumption
  extract_lets -merge +onlyGivenNames y5
  refine have w6 : Within Ma Na ba s₀ y5 := ?_; ?_
  · refine State.noteAccept_within (hF.drop (by decide)) ?_
    assumption
  clear_value y5
  refine Within.upd_tt (hF.any (by decide)) ?_
  assumption

theorem State.startEvent_within {Ma Na ba : Nat} {s₀ : State} {s : State} {x : StartEvent}
    (hF : Foot Ma Na ba 0x100000000000000000000000000400000000000018000000000002504 0x0 (0)) (hS : Within Ma Na ba s₀ s) :
    Within Ma Na ba s₀ (State.startEvent s x) := by
  unfold State.startEvent
  refine Within.ite ?_ ?_
  · assumption
  extract_lets -merge +onlyGivenNames y0
  split
  · refine Within.ite ?_ ?_
    · refine State.subEvent_within (hF.drop (by decide)) ?_
      assumption
    assumption
  refine Within.ite ?_ ?_
  · refine State.acceptEvent_within (hF.drop (by decide)) ?_
    assumption
  assumption

theorem State.trigger_within {Ma Na ba : Nat} {s₀ : State} {s : State} {a : Nat} {source : Nat}
    (hF : Foot Ma Na ba 0x100000000000000000000000000400000000000018000000000002504 0x0 (0)) (hS : Within Ma Na ba s₀ s) :
    Within Ma Na ba s₀ (State.trigger s a source) := by
  unfold State.trigger
  refine State.startEvent_within (hF.drop (by decide)) ?_
  assumption

theorem State.armSched_within {Ma Na ba : Nat} {s₀ : State} {s : State}
    (hF : Foot Ma Na ba 0x8020000000000004 0x0 (0)) (hS : Within Ma Na ba s₀ s) :
    Within Ma Na ba s₀ (State.armSched s) := by
  unfold State.armSched
  extract_lets -merge +onlyGivenNames y0
  extract_lets -merge +onlyGivenNames y1
  refine have w2 : Within Ma Na ba s₀ y1 := ?_; ?_
  · refine Within.setB .TT_SCHED_CTL 0 0 rfl (hF.may (by decide)) ?_
    assumption
  clear_value y1
  extract_lets -merge +onlyGivenNames y3
  extract_lets -merge +onlyGivenNames y4
  refine have w5 : Within Ma Na ba s₀ y4 := ?_; ?_
  · refine Within.upd_tt (hF.any (by decide)) ?_
    assumption
  clear_value y4
  refine Within.ite ?_ ?_
  · refine Within.setB .TT_STATUS 0 0 rfl (hF.may (by decide)) ?_
    assumption
  assumption

theorem State.fireSched_within {Ma Na ba : Nat} {s₀ : State} {s : State}
    (hF : Foot Ma Na ba 0x100000000000000000000000000400000000000018020000000002504 0x0 (0)) (hS : Within Ma Na ba s₀ s) :
    Within Ma Na ba s₀ (State.fireSched s) := by
  unfold State.fireSched
  refine Within.ite ?_ ?_
  · extract_lets -merge +onlyGivenNames y0
    extract_lets -merge +onlyGivenNames y1
    refine have w2 : Within Ma Na ba s₀ y1 := ?_; ?_
    · refine Within.setB .TT_SCHED_CTL 0 0 rfl (hF.may (by decide)) ?_
      assumption
    clear_value y1
    extract_lets -merge +onlyGivenNames y3
    refine have w4 : Within Ma Na ba s₀ y3 := ?_; ?_
    · refine State.log_within (hF.drop (by decide)) ?_
      assumption
    clear_value y3
    refine Within.ite ?_ ?_
    · refine State.startEvent_within (hF.drop (by decide)) ?_
      assumption
    assumption
  assumption

theorem State.encCount_within {Ma Na ba : Nat} {s₀ : State} {s : State} {a : Nat} {up : Bool}
    (hF : Foot Ma Na ba 0x100000000000000000000000000400000000000018180000000002504 0x0 (0)) (hS : Within Ma Na ba s₀ s) :
    Within Ma Na ba s₀ (State.encCount s a up) := by
  unfold State.encCount
  extract_lets -merge +onlyGivenNames y0
  extract_lets -merge +onlyGivenNames y1
  refine have w2 : Within Ma Na ba s₀ y1 := ?_; ?_
  · refine Within.setF .TT_ENC_POS 0 0 rfl (hF.may (by decide)) ?_
    assumption
  clear_value y1
  extract_lets -merge +onlyGivenNames y3
  refine Within.ite ?_ ?_
  · extract_lets -merge +onlyGivenNames y4
    extract_lets -merge +onlyGivenNames y5
    refine have w6 : Within Ma Na ba s₀ y5 := ?_; ?_
    · refine Within.setF .TT_ENC_NEXT 0 0 rfl (hF.may (by decide)) ?_
      assumption
    clear_value y5
    refine State.startEvent_within (hF.drop (by decide)) ?_
    assumption
  assumption

theorem State.takeEvent_within {Ma Na ba : Nat} {s₀ : State} {s : State} {x : EngineEvent}
    (hF : Foot Ma Na ba 0x4 0x0 (0)) (hS : Within Ma Na ba s₀ s) :
    Within Ma Na ba s₀ (State.takeEvent s x) := by
  unfold State.takeEvent
  refine Within.upd_tt (hF.any (by decide)) ?_
  assumption

theorem State.encoderArrives_within {Ma Na ba : Nat} {s₀ : State} {s : State} {e : Nat} {up : Bool}
    (hF : Foot Ma Na ba 0x100000000000000000000000000400000000000018180000000002504 0x0 (0)) (hS : Within Ma Na ba s₀ s) :
    Within Ma Na ba s₀ (State.encoderArrives s e up) := by
  unfold State.encoderArrives
  split
  · assumption
  extract_lets -merge +onlyGivenNames y0
  refine have w1 : Within Ma Na ba s₀ y0 := ?_; ?_
  · refine State.takeEvent_within (hF.drop (by decide)) ?_
    assumption
  clear_value y0
  refine Within.ite ?_ ?_
  · refine State.encCount_within (hF.drop (by decide)) ?_
    assumption
  assumption

theorem State.encZero_within {Ma Na ba : Nat} {s₀ : State} {s : State}
    (hF : Foot Ma Na ba 0x180000000000000 0x0 (0)) (hS : Within Ma Na ba s₀ s) :
    Within Ma Na ba s₀ (State.encZero s) := by
  unfold State.encZero
  refine Within.setF .TT_ENC_NEXT 0 0 rfl (hF.may (by decide)) ?_
  refine Within.setF .TT_ENC_POS 0 0 rfl (hF.may (by decide)) ?_
  assumption

theorem State.subStart_within {Ma Na ba : Nat} {s₀ : State} {s : State}
    (hF : Foot Ma Na ba 0x2004 0x0 (0)) (hS : Within Ma Na ba s₀ s) :
    Within Ma Na ba s₀ (State.subStart s) := by
  unfold State.subStart
  split
  · assumption
  extract_lets -merge +onlyGivenNames y0
  extract_lets -merge +onlyGivenNames y1
  extract_lets -merge +onlyGivenNames y2
  refine have w3 : Within Ma Na ba s₀ y2 := ?_; ?_
  · refine State.setFrame_within (hF.drop (by decide)) ?_
    assumption
  clear_value y2
  refine Within.ite ?_ ?_
  · refine State.closeAccum_within (hF.drop (by decide)) ?_
    assumption
  assumption

theorem State.subTimeout_within {Ma Na ba : Nat} {s₀ : State} {s : State}
    (hF : Foot Ma Na ba 0x2004 0x0 (0)) (hS : Within Ma Na ba s₀ s) :
    Within Ma Na ba s₀ (State.subTimeout s) := by
  unfold State.subTimeout
  split
  · assumption
  extract_lets -merge +onlyGivenNames y0
  refine Within.ite ?_ ?_
  · refine State.closeAccum_within (hF.drop (by decide)) ?_
    assumption
  assumption

theorem State.pdEdge_within {Ma Na ba : Nat} {s₀ : State} {s : State} {x : Nat} {level : Bool} {source : Nat}
    (hF : Foot Ma Na ba 0x3000000400000000000000021000401000080000008000000000001f84 0x0 (0)) (hS : Within Ma Na ba s₀ s) :
    Within Ma Na ba s₀ (State.pdEdge s x level source) := by
  unfold State.pdEdge
  extract_lets -merge +onlyGivenNames y0
  refine have w1 : Within Ma Na ba s₀ y0 := ?_; ?_
  · refine State.ferryEvent_within (hF.drop (by decide)) ?_
    refine State.log_within (hF.drop (by decide)) ?_
    assumption
  clear_value y0
  refine Within.ite ?_ ?_
  · refine Within.upd_tt (hF.any (by decide)) ?_
    assumption
  extract_lets -merge +onlyGivenNames y2
  extract_lets -merge +onlyGivenNames y3
  extract_lets -merge +onlyGivenNames y4
  refine have w5 : Within Ma Na ba s₀ y4 := ?_; ?_
  · refine Within.upd_tt (hF.any (by decide)) ?_
    assumption
  clear_value y4
  refine Within.ite ?_ ?_
  · assumption
  split
  · refine State.endStrips_within (hF.drop (by decide)) ?_
    assumption
  assumption

theorem State.partDetect_within {Ma Na ba : Nat} {s₀ : State} {s : State} {level : Bool}
    (hF : Foot Ma Na ba 0x3000000400000000000000021000401000080000008000000000001f84 0x0 (0)) (hS : Within Ma Na ba s₀ s) :
    Within Ma Na ba s₀ (State.partDetect s level) := by
  unfold State.partDetect
  extract_lets -merge +onlyGivenNames y0
  refine Within.ite ?_ ?_
  · split
    · assumption
    refine State.pdEdge_within (hF.drop (by decide)) ?_
    refine State.takeEvent_within (hF.drop (by decide)) ?_
    assumption
  refine Within.ite ?_ ?_
  · refine State.pdEdge_within (hF.drop (by decide)) ?_
    assumption
  assumption

theorem State.evlogPop_within {Ma Na ba : Nat} {s₀ : State} {s : State}
    (hF : Foot Ma Na ba 0x4 0x0 (0)) (hS : Within Ma Na ba s₀ s) :
    Within Ma Na ba s₀ (State.evlogPop s) := by
  unfold State.evlogPop
  refine Within.upd_tt (hF.any (by decide)) ?_
  assumption

theorem execSwTrigFire_within {Ma Na ba : Nat} {s₀ : State} {t : Nat} {src : Src} {s : State}
    (hF : Foot Ma Na ba 0x100000000000000000000000000400000000000018000000000002504 0x0 (0)) (hS : Within Ma Na ba s₀ (s.advance t)) :
    Ends Ma Na ba s₀ (execSwTrigFire t src s) := by
  unfold execSwTrigFire
  refine Ends.mk ?_
  refine State.managed_within (hF.drop (by decide)) ?_ ?_
  · intro t0 w1
    refine Within.ite ?_ ?_
    · refine State.trigger_within (hF.drop (by decide)) ?_
      assumption
    assumption
  assumption

theorem execSchedArm_within {Ma Na ba : Nat} {s₀ : State} {t : Nat} {src : Src} {s : State}
    (hF : Foot Ma Na ba 0x8020000000000004 0x0 (0)) (hS : Within Ma Na ba s₀ (s.advance t)) :
    Ends Ma Na ba s₀ (execSchedArm t src s) := by
  unfold execSchedArm
  refine Ends.mk ?_
  refine State.managed_within (hF.drop (by decide)) ?_ ?_
  · intro t0 w1
    refine State.armSched_within (hF.drop (by decide)) ?_
    assumption
  assumption

theorem execScheduledFire_within {Ma Na ba : Nat} {s₀ : State} {t : Nat} {s : State}
    (hF : Foot Ma Na ba 0x100000000000000000000000000400000000000018020000000002504 0x0 (0)) (hS : Within Ma Na ba s₀ (s.advance t)) :
    Ends Ma Na ba s₀ (execScheduledFire t s) := by
  unfold execScheduledFire
  refine Ends.mk ?_
  refine State.fireSched_within (hF.drop (by decide)) ?_
  assumption

theorem execEncoderCount_within {Ma Na ba : Nat} {s₀ : State} {t : Nat} {engine : Fin 16} {up : Bool} {s : State}
    (hF : Foot Ma Na ba 0x100000000000000000000000000400000000000018180000000002504 0x0 (0)) (hS : Within Ma Na ba s₀ (s.advance t)) :
    Ends Ma Na ba s₀ (execEncoderCount t engine up s) := by
  unfold execEncoderCount
  refine Ends.mk ?_
  refine State.encoderArrives_within (hF.drop (by decide)) ?_
  assumption

theorem execEncoderZero_within {Ma Na ba : Nat} {s₀ : State} {t : Nat} {src : Src} {s : State}
    (hF : Foot Ma Na ba 0x180000000000000 0x0 (0)) (hS : Within Ma Na ba s₀ (s.advance t)) :
    Ends Ma Na ba s₀ (execEncoderZero t src s) := by
  unfold execEncoderZero
  refine Ends.mk ?_
  refine State.managed_within (hF.drop (by decide)) ?_ ?_
  · intro t0 w1
    refine State.encZero_within (hF.drop (by decide)) ?_
    assumption
  assumption

theorem execSubExposureStart_within {Ma Na ba : Nat} {s₀ : State} {t : Nat} {s : State}
    (hF : Foot Ma Na ba 0x2004 0x0 (0)) (hS : Within Ma Na ba s₀ (s.advance t)) :
    Ends Ma Na ba s₀ (execSubExposureStart t s) := by
  unfold execSubExposureStart
  refine Ends.mk ?_
  refine State.subStart_within (hF.drop (by decide)) ?_
  assumption

theorem execSubTimeout_within {Ma Na ba : Nat} {s₀ : State} {t : Nat} {s : State}
    (hF : Foot Ma Na ba 0x2004 0x0 (0)) (hS : Within Ma Na ba s₀ (s.advance t)) :
    Ends Ma Na ba s₀ (execSubTimeout t s) := by
  unfold execSubTimeout
  refine Ends.mk ?_
  refine State.subTimeout_within (hF.drop (by decide)) ?_
  assumption

theorem execPartDetectEdge_within {Ma Na ba : Nat} {s₀ : State} {t : Nat} {level : Bool} {s : State}
    (hF : Foot Ma Na ba 0x3000000400000000000000021000401000080000008000000000001f84 0x0 (0)) (hS : Within Ma Na ba s₀ (s.advance t)) :
    Ends Ma Na ba s₀ (execPartDetectEdge t level s) := by
  unfold execPartDetectEdge
  refine Ends.mk ?_
  refine State.partDetect_within (hF.drop (by decide)) ?_
  assumption

theorem execEvlogPop_within {Ma Na ba : Nat} {s₀ : State} {t : Nat} {src : Src} {s : State}
    (hF : Foot Ma Na ba 0x4 0x0 (0)) (hS : Within Ma Na ba s₀ (s.advance t)) :
    Ends Ma Na ba s₀ (execEvlogPop t src s) := by
  unfold execEvlogPop
  refine Ends.mk ?_
  refine State.managed_within (hF.drop (by decide)) ?_ ?_
  · intro t0 w1
    refine State.evlogPop_within (hF.drop (by decide)) ?_
    assumption
  assumption

/-! ## Broadcast -/

theorem State.sendTrig_within {Ma Na ba : Nat} {s₀ : State} {s : State} {ports : List Nat} {origin : Nat} {ch : Nat} {hops : Nat} {tnum : Nat} {instant : Word} {share : Option Nat}
    (hF : Foot Ma Na ba 0x100000 0x0 (0)) (hS : Within Ma Na ba s₀ s) :
    Within Ma Na ba s₀ (State.sendTrig s ports origin ch hops tnum instant share) := by
  unfold State.sendTrig
  refine Within.foldl ?_ ?_
  · intro t0 x1 w2
    extract_lets -merge +onlyGivenNames y3
    refine Within.emits (hF.any (by decide)) ?_
    assumption
  assumption

theorem State.broadcast_within {Ma Na ba : Nat} {s₀ : State} {s : State} {a : Nat}
    (hF : Foot Ma Na ba 0x4000000000000000000000000000000000104000 0x0 (0)) (hS : Within Ma Na ba s₀ s) :
    Within Ma Na ba s₀ (State.broadcast s a) := by
  unfold State.broadcast
  refine Within.ite ?_ ?_
  · extract_lets -merge +onlyGivenNames y0
    extract_lets -merge +onlyGivenNames y1
    extract_lets -merge +onlyGivenNames y2
    extract_lets -merge +onlyGivenNames y3
    extract_lets -merge +onlyGivenNames y4
    refine have w5 : Within Ma Na ba s₀ y4 := ?_; ?_
    · refine State.sendTrig_within (hF.drop (by decide)) ?_
      assumption
    clear_value y4
    extract_lets -merge +onlyGivenNames y6
    extract_lets -merge +onlyGivenNames y7
    refine have w8 : Within Ma Na ba s₀ y7 := ?_; ?_
    · refine Within.upd_kf (hF.any (by decide)) ?_
      assumption
    clear_value y7
    refine Within.addF .FB_TRIG_CNT 0 0 rfl (hF.may (by decide)) ?_
    refine Within.addF .FB_TRIG_CNT 0 0 rfl (hF.may (by decide)) ?_
    assumption
  assumption

theorem State.engineTrigger_within {Ma Na ba : Nat} {s₀ : State} {s : State} {e : Nat} {a : Nat}
    (hF : Foot Ma Na ba 0x100000000000000004000000000400000000000018000000000106504 0x0 (0)) (hS : Within Ma Na ba s₀ s) :
    Within Ma Na ba s₀ (State.engineTrigger s e a) := by
  unfold State.engineTrigger
  extract_lets -merge +onlyGivenNames y0
  refine have w1 : Within Ma Na ba s₀ y0 := ?_; ?_
  · refine Within.ite ?_ ?_
    · refine State.trigger_within (hF.drop (by decide)) ?_
      assumption
    assumption
  clear_value y0
  refine Within.ite ?_ ?_
  · refine State.broadcast_within (hF.drop (by decide)) ?_
    assumption
  assumption

theorem State.pinEdge_within {Ma Na ba : Nat} {s₀ : State} {s : State} {pin : Nat} {held : Nat} {rise : Bool} {bcast : Bool}
    (hF : Foot Ma Na ba 0x100000000000000004000000000400000000000018000000000106504 0x0 (0)) (hS : Within Ma Na ba s₀ s) :
    Within Ma Na ba s₀ (State.pinEdge s pin held rise bcast) := by
  unfold State.pinEdge
  refine Within.ite ?_ ?_
  · assumption
  refine Within.ite ?_ ?_
  · extract_lets -merge +onlyGivenNames y0
    refine Within.ite ?_ ?_
    · refine State.broadcast_within (hF.drop (by decide)) ?_
      assumption
    assumption
  extract_lets -merge +onlyGivenNames y1
  refine Within.ite ?_ ?_
  · refine State.trigger_within (hF.drop (by decide)) ?_
    assumption
  assumption

theorem State.installShare_within {Ma Na ba : Nat} {s₀ : State} {s : State} {x : Share} {a : Nat} (hF : Foot Ma Na ba 0x500000000000000020000000000000000000001202c01f00000004002 0x0 (0))
    (hS : Within Ma Na ba s₀ s) : Within Ma Na ba s₀ (s.installShare x a) := by
  have h1 : Within Ma Na ba s₀ ((shareRegs.zip x.words).foldl (fun s p => s.shadowAt a p.1 p.2) s) := by
    refine Within.foldl_mem (fun s p hp h => ?_) hS
    have hm := (List.of_mem_zip (a := p.1) (b := p.2) hp).1
    simp only [shareRegs, List.mem_cons, List.not_mem_nil, or_false] at hm
    have hg := hF.any (k := 1) (by decide)
    rcases hm with e | e | e | e | e | e | e | e | e | e
    · exact State.shadowAt_part .TT_MODE 0 0 (congrArg some e.symm) (hF.may (by decide)) hg h
    · exact State.shadowAt_part .TT_EXP_A 0 0 (congrArg some e.symm) (hF.may (by decide)) hg h
    · exact State.shadowAt_part .TT_EXP_B 0 0 (congrArg some e.symm) (hF.may (by decide)) hg h
    · exact State.shadowAt_part .TT_PERIOD 0 0 (congrArg some e.symm) (hF.may (by decide)) hg h
    · exact State.shadowAt_part .TT_ANCHOR 0 0 (congrArg some e.symm) (hF.may (by decide)) hg h
    · exact State.shadowAt_part .TT_ACCUM 0 0 (congrArg some e.symm) (hF.may (by decide)) hg h
    · exact State.shadowAt_part .TT_BURST 0 0 (congrArg some e.symm) (hF.may (by decide)) hg h
    · exact State.shadowAt_part .TT_MAP_CFG 0 0 (congrArg some e.symm) (hF.may (by decide)) hg h
    · exact State.shadowAt_part .TT_PIX_CFG 0 0 (congrArg some e.symm) (hF.may (by decide)) hg h
    · exact State.shadowAt_part .CC_CFG 0 0 (congrArg some e.symm) (hF.may (by decide)) hg h
  unfold State.installShare
  refine Within.setF .FB_TTS_STAT 0 0 rfl (hF.may (by decide)) ?_
  refine Within.setB .CFG_GW_STATUS 0 0 rfl (hF.may (by decide)) ?_
  refine Within.reg .CFG_GW_CTIME 0 0 rfl (hF.may (by decide)) ?_
  exact Within.upd_gw_kf (hF.any (by decide)) (hF.any (by decide)) h1

theorem State.shareAt_within {Ma Na ba : Nat} {s₀ : State} {s : State} {k : Nat} {a : Nat}
    (hF : Foot Ma Na ba 0x500000000000000020200000000000000000001202c01f00000004002 0x0 (0)) (hS : Within Ma Na ba s₀ s) :
    Within Ma Na ba s₀ (State.shareAt s k a) := by
  unfold State.shareAt
  refine Within.ite ?_ ?_
  · split
    · refine Within.ite ?_ ?_
      · assumption
      refine State.installShare_within (hF.drop (by decide)) ?_
      assumption
    refine Within.setB .FB_STATUS 0 0 rfl (hF.may (by decide)) ?_
    assumption
  assumption

theorem State.shareCommit_within {Ma Na ba : Nat} {s₀ : State} {s : State}
    (hF : Foot Ma Na ba 0x500000000000000020000000000000000000001202c01f00000004002 0x0 (0)) (hS : Within Ma Na ba s₀ s) :
    Within Ma Na ba s₀ (State.shareCommit s) := by
  unfold State.shareCommit
  split
  · refine Within.ite ?_ ?_
    · refine State.installShare_within (hF.drop (by decide)) ?_
      assumption
    assumption
  assumption

theorem State.fabricArrival_within {Ma Na ba : Nat} {s₀ : State} {s : State}
    (hF : Foot Ma Na ba 0x50000000000000002020000000040000000000121ac01f00000006506 0x0 (0)) (hS : Within Ma Na ba s₀ s) :
    Within Ma Na ba s₀ (State.fabricArrival s) := by
  unfold State.fabricArrival
  split
  · assumption
  extract_lets -merge +onlyGivenNames y0
  extract_lets -merge +onlyGivenNames y1
  refine have w2 : Within Ma Na ba s₀ y1 := ?_; ?_
  · refine Within.upd_kf (hF.any (by decide)) ?_
    assumption
  clear_value y1
  extract_lets -merge +onlyGivenNames y3
  extract_lets -merge +onlyGivenNames y4
  extract_lets -merge +onlyGivenNames y5
  extract_lets -merge +onlyGivenNames y6
  refine have w7 : Within Ma Na ba s₀ y6 := ?_; ?_
  · refine Within.ite ?_ ?_
    · refine State.startEvent_within (hF.drop (by decide)) ?_
      assumption
    assumption
  clear_value y6
  split
  · refine State.shareAt_within (hF.drop (by decide)) ?_
    assumption
  assumption

theorem execTriggerPinEdge_within {Ma Na ba : Nat} {s₀ : State} {t : Nat} {pin : Fin 64} {edge : TriggerEdge} {bcast : Bool} {s : State}
    (hF : Foot Ma Na ba 0x100000000000000004000000000400000000000018000000000106504 0x0 (0)) (hS : Within Ma Na ba s₀ (s.advance t)) :
    Ends Ma Na ba s₀ (execTriggerPinEdge t pin edge bcast s) := by
  unfold execTriggerPinEdge
  refine Ends.mk ?_
  refine State.pinEdge_within (hF.drop (by decide)) ?_
  assumption

theorem execTrigFire_within {Ma Na ba : Nat} {s₀ : State} {t : Nat} {src : Src} {s : State}
    (hF : Foot Ma Na ba 0x4000000000000000000000000000000000104000 0x0 (0)) (hS : Within Ma Na ba s₀ (s.advance t)) :
    Ends Ma Na ba s₀ (execTrigFire t src s) := by
  unfold execTrigFire
  refine Ends.mk ?_
  refine State.managed_within (hF.drop (by decide)) ?_ ?_
  · intro t0 w1
    refine Within.ite ?_ ?_
    · refine State.broadcast_within (hF.drop (by decide)) ?_
      assumption
    assumption
  assumption

theorem execFabricTriggerArrival_within {Ma Na ba : Nat} {s₀ : State} {t : Nat} {s : State}
    (hF : Foot Ma Na ba 0x50000000000000002020000000040000000000121ac01f00000006506 0x0 (0)) (hS : Within Ma Na ba s₀ (s.advance t)) :
    Ends Ma Na ba s₀ (execFabricTriggerArrival t s) := by
  unfold execFabricTriggerArrival
  refine Ends.mk ?_
  refine State.fabricArrival_within (hF.drop (by decide)) ?_
  assumption

theorem execShareCommit_within {Ma Na ba : Nat} {s₀ : State} {t : Nat} {s : State}
    (hF : Foot Ma Na ba 0x500000000000000020000000000000000000001202c01f00000004002 0x0 (0)) (hS : Within Ma Na ba s₀ (s.advance t)) :
    Ends Ma Na ba s₀ (execShareCommit t s) := by
  unfold execShareCommit
  refine Ends.mk ?_
  refine State.shareCommit_within (hF.drop (by decide)) ?_
  assumption

end Sys2Proof.Machine
end

