-- ==== Sys2Proof/Laws/FramePio.lean ====
section
/-! SUPPORT. What the functions of the PIO engines can change: one lemma for each function and each meaning, in the relation `Within`. -/

namespace Sys2Proof.Machine

/-! ## Pio -/

theorem State.setEng_within {Ma Na ba : Nat} {s₀ : State} {s : State} {e : Nat} {f : Engine → Engine}
    (hF : Foot Ma Na ba 0x2000 0x0 (0)) (hS : Within Ma Na ba s₀ s) :
    Within Ma Na ba s₀ (State.setEng s e f) := by
  unfold State.setEng
  refine Within.upd_pio (hF.any (by decide)) ?_
  assumption

theorem State.writeLatch_within {Ma Na ba : Nat} {s₀ : State} {s : State} {e : Nat} {pin : Nat} {level : Bool}
    (hF : Foot Ma Na ba 0x1000000000000000000000000000000000000000000000 0x8000000000000000000000000000000000000000000000 (e)) (hS : Within Ma Na ba s₀ s) :
    Within Ma Na ba s₀ (State.writeLatch s e pin level) := by
  unfold State.writeLatch
  refine Within.ite ?_ ?_
  · refine Within.setB .PIO_PIN _ 0 rfl (hF.may (by decide)) ?_
    assumption
  refine Within.setB .PIO_ESTAT _ 0 rfl (hF.mayOwn (by decide)) ?_
  assumption

theorem State.runEdges_within {Ma Na ba : Nat} {s₀ : State} {s : State}
    (hF : Foot Ma Na ba 0x9000000000000000000000000000000000000000002000 0x0 (0)) (hS : Within Ma Na ba s₀ s) :
    Within Ma Na ba s₀ (State.runEdges s) := by
  unfold State.runEdges
  extract_lets -merge +onlyGivenNames y0
  refine Within.foldl ?_ ?_
  · intro t1 x2 w3
    refine State.writeLatch_within (hF.drop (by decide)) ?_
    assumption
  refine Within.upd_pio (hF.any (by decide)) ?_
  assumption

theorem State.runFetch_within {Ma Na ba : Nat} {s₀ : State} {s : State} {e : Nat}
    (hF : Foot Ma Na ba 0x2000 0x0 (0)) (hS : Within Ma Na ba s₀ s) :
    Within Ma Na ba s₀ (State.runFetch s e) := by
  unfold State.runFetch
  split
  · assumption
  refine Within.ite ?_ ?_
  · extract_lets -merge +onlyGivenNames y0
    refine State.setEng_within (hF.drop (by decide)) ?_
    assumption
  assumption

theorem State.runStop_within {Ma Na ba : Nat} {s₀ : State} {s : State} {e : Nat}
    (hF : Foot Ma Na ba 0x0 0x8000000000000000000000000000000000000000000000 (e)) (hS : Within Ma Na ba s₀ s) :
    Within Ma Na ba s₀ (State.runStop s e) := by
  unfold State.runStop
  refine Within.ite ?_ ?_
  · refine Within.setF .PIO_ESTAT _ 0 rfl (hF.mayOwn (by decide)) ?_
    assumption
  assumption

theorem State.pioSettle_within {Ma Na ba : Nat} {s₀ : State} {s : State}
    (hF : Foot Ma Na ba 0x9000000000000000000000000000000000000000002000 0x0 (0)) (hS : Within Ma Na ba s₀ s) :
    Within Ma Na ba s₀ (State.pioSettle s) := by
  unfold State.pioSettle
  refine Within.foldl ?_ ?_
  · intro t0 x1 w2
    refine State.runStop_within (hF.drop (by decide)) ?_
    refine State.runFetch_within (hF.drop (by decide)) ?_
    assumption
  refine State.runEvents_within (hF.drop (by decide)) ?_
  refine State.runEdges_within (hF.drop (by decide)) ?_
  assumption

theorem State.openCycle_within {Ma Na ba : Nat} {s₀ : State} {s : State}
    (hF : Foot Ma Na ba 0x2000 0x0 (0)) (hS : Within Ma Na ba s₀ s) :
    Within Ma Na ba s₀ (State.openCycle s) := by
  unfold State.openCycle
  refine Within.ite ?_ ?_
  · assumption
  refine Within.upd_pio (hF.any (by decide)) ?_
  assumption

theorem State.setFlags_within {Ma Na ba : Nat} {s₀ : State} {s : State} {m : Nat}
    (hF : Foot Ma Na ba 0x100000000000000000000000000000000000000002000 0x0 (0)) (hS : Within Ma Na ba s₀ s) :
    Within Ma Na ba s₀ (State.setFlags s m) := by
  unfold State.setFlags
  extract_lets -merge +onlyGivenNames y0
  refine have w1 : Within Ma Na ba s₀ y0 := ?_; ?_
  · refine State.openCycle_within (hF.drop (by decide)) ?_
    assumption
  clear_value y0
  extract_lets -merge +onlyGivenNames y2
  extract_lets -merge +onlyGivenNames y3
  refine have w4 : Within Ma Na ba s₀ y3 := ?_; ?_
  · refine Within.upd_pio (hF.any (by decide)) ?_
    assumption
  clear_value y3
  refine Within.setF .PIO_FLAGS 0 0 rfl (hF.may (by decide)) ?_
  assumption

theorem State.clearFlags_within {Ma Na ba : Nat} {s₀ : State} {s : State} {m : Nat}
    (hF : Foot Ma Na ba 0x100000000000000000000000000000000000000002000 0x0 (0)) (hS : Within Ma Na ba s₀ s) :
    Within Ma Na ba s₀ (State.clearFlags s m) := by
  unfold State.clearFlags
  extract_lets -merge +onlyGivenNames y0
  refine have w1 : Within Ma Na ba s₀ y0 := ?_; ?_
  · refine State.openCycle_within (hF.drop (by decide)) ?_
    assumption
  clear_value y0
  refine Within.setF .PIO_FLAGS 0 0 rfl (hF.may (by decide)) ?_
  assumption

theorem State.takeFlag_within {Ma Na ba : Nat} {s₀ : State} {s : State} {index : Nat}
    (hF : Foot Ma Na ba 0x100000000000000000000000000000000000000002000 0x0 (0)) (hS : Within Ma Na ba s₀ s) :
    Within Ma Na ba s₀ (State.takeFlag s index) := by
  unfold State.takeFlag
  extract_lets -merge +onlyGivenNames y0
  refine have w1 : Within Ma Na ba s₀ y0 := ?_; ?_
  · refine State.clearFlags_within (hF.drop (by decide)) ?_
    assumption
  clear_value y0
  refine Within.upd_pio (hF.any (by decide)) ?_
  assumption

theorem State.srIn_within {Ma Na ba : Nat} {s₀ : State} {s : State} {e : Nat} {n : Nat} {v : Nat}
    (hF : Foot Ma Na ba 0x0 0x18000000000000000000000000000000000000000000000 (e)) (hS : Within Ma Na ba s₀ s) :
    Within Ma Na ba s₀ (State.srIn s e n v) := by
  unfold State.srIn
  extract_lets -merge +onlyGivenNames y0
  refine have w1 : Within Ma Na ba s₀ y0 := ?_; ?_
  · refine Within.reg .PIO_ESR _ 0 rfl (hF.mayOwn (by decide)) ?_
    assumption
  clear_value y0
  refine Within.setF .PIO_ESTAT _ 0 rfl (hF.mayOwn (by decide)) ?_
  assumption

theorem State.srOut_within {Ma Na ba : Nat} {s₀ : State} {s : State} {e : Nat} {n : Nat}
    (hF : Foot Ma Na ba 0x0 0x18000000000000000000000000000000000000000000000 (e)) (hS : Within Ma Na ba s₀ s) :
    Within Ma Na ba s₀ (State.srOut s e n) := by
  unfold State.srOut
  extract_lets -merge +onlyGivenNames y0
  refine have w1 : Within Ma Na ba s₀ y0 := ?_; ?_
  · refine Within.reg .PIO_ESR _ 0 rfl (hF.mayOwn (by decide)) ?_
    assumption
  clear_value y0
  refine Within.setF .PIO_ESTAT _ 0 rfl (hF.mayOwn (by decide)) ?_
  assumption

theorem State.latchAt_within {Ma Na ba : Nat} {s₀ : State} {s : State} {e : Nat} {pin : Nat} {level : Bool} {at' : Nat} {last : Bool}
    (hF : Foot Ma Na ba 0x2000 0x0 (0)) (hS : Within Ma Na ba s₀ s) :
    Within Ma Na ba s₀ (State.latchAt s e pin level at' last) := by
  unfold State.latchAt
  refine Within.upd_pio (hF.any (by decide)) ?_
  assumption

theorem State.ownClock_within {Ma Na ba : Nat} {s₀ : State} {s : State} {e : Nat} {offset : Nat} {start : Nat}
    (hF : Foot Ma Na ba 0x2000 0x0 (0)) (hS : Within Ma Na ba s₀ s) :
    Within Ma Na ba s₀ (State.ownClock s e offset start) := by
  unfold State.ownClock
  refine State.latchAt_within (hF.drop (by decide)) ?_
  refine State.latchAt_within (hF.drop (by decide)) ?_
  assumption

theorem State.bitIn_within {Ma Na ba : Nat} {s₀ : State} {s : State} {e : Nat} {b : Bool}
    (hF : Foot Ma Na ba 0x0 0x18000000000000000000000000000000000000000000000 (e)) (hS : Within Ma Na ba s₀ s) :
    Within Ma Na ba s₀ (State.bitIn s e b) := by
  unfold State.bitIn
  refine State.srIn_within (hF.sub (by decide) (by decide)) ?_
  assumption

theorem State.bitShown_within {Ma Na ba : Nat} {s₀ : State} {s : State} {e : Nat} {offset : Nat} {start : Nat}
    (hF : Foot Ma Na ba 0x2000 0x0 (0)) (hS : Within Ma Na ba s₀ s) :
    Within Ma Na ba s₀ (State.bitShown s e offset start) := by
  unfold State.bitShown
  refine State.latchAt_within (hF.drop (by decide)) ?_
  assumption

theorem State.bitDone_within {Ma Na ba : Nat} {s₀ : State} {s : State} {e : Nat}
    (hF : Foot Ma Na ba 0x0 0x8000000000000000000000000000000000000000000000 (e)) (hS : Within Ma Na ba s₀ s) :
    Within Ma Na ba s₀ (State.bitDone s e) := by
  unfold State.bitDone
  refine Within.setF .PIO_ESTAT _ 0 rfl (hF.mayOwn (by decide)) ?_
  assumption

theorem State.wholeShift_within {Ma Na ba : Nat} {s₀ : State} {s : State} {e : Nat} {n : Nat} {offset : Nat} {out : Bool} {bits : List Bool}
    (hF : Foot Ma Na ba 0x2000 0x18000000000000000000000000000000000000000000000 (e)) (hS : Within Ma Na ba s₀ s) :
    Within1 Ma Na ba s₀ (State.wholeShift s e n offset out bits) := by
  unfold State.wholeShift
  extract_lets -merge +onlyGivenNames y0
  refine have w1 : Within Ma Na ba s₀ y0 := ?_; ?_
  · refine Within.foldl ?_ ?_
    · intro t2 x3 w4
      extract_lets -merge +onlyGivenNames y5
      refine Within.ite ?_ ?_
      · refine State.srOut_within (hF.sub (by decide) (by decide)) ?_
        refine State.ownClock_within (hF.drop (by decide)) ?_
        refine State.bitShown_within (hF.drop (by decide)) ?_
        assumption
      refine State.bitIn_within (hF.sub (by decide) (by decide)) ?_
      refine State.ownClock_within (hF.drop (by decide)) ?_
      assumption
    assumption
  clear_value y0
  refine Within1.mk ?_
  assumption

theorem State.shiftCycle_within {Ma Na ba : Nat} {s₀ : State} {s : State} {e : Nat} {n : Nat} {offset : Nat} {out : Bool} {bit : Bool}
    (hF : Foot Ma Na ba 0x2000 0x18000000000000000000000000000000000000000000000 (e)) (hS : Within Ma Na ba s₀ s) :
    Within1 Ma Na ba s₀ (State.shiftCycle s e n offset out bit) := by
  unfold State.shiftCycle
  refine Within1.ite ?_ ?_
  · extract_lets -merge +onlyGivenNames y0
    refine have w1 : Within Ma Na ba s₀ y0 := ?_; ?_
    · refine Within.ite ?_ ?_
      · refine State.bitShown_within (hF.drop (by decide)) ?_
        assumption
      assumption
    clear_value y0
    refine Within1.mk ?_
    refine State.setEng_within (hF.drop (by decide)) ?_
    refine State.ownClock_within (hF.drop (by decide)) ?_
    assumption
  extract_lets -merge +onlyGivenNames y2
  refine have w3 : Within Ma Na ba s₀ y2 := ?_; ?_
  · refine State.bitDone_within (hF.sub (by decide) (by decide)) ?_
    refine Within.ite ?_ ?_
    · refine State.srOut_within (hF.sub (by decide) (by decide)) ?_
      assumption
    refine State.bitIn_within (hF.sub (by decide) (by decide)) ?_
    assumption
  clear_value y2
  refine Within1.ite ?_ ?_
  · refine Within1.mk ?_
    refine Within.setF .PIO_ESTAT _ 0 rfl (hF.mayOwn (by decide)) ?_
    assumption
  refine Within1.mk ?_
  refine State.setEng_within (hF.drop (by decide)) ?_
  assumption

theorem State.runSerial_within {Ma Na ba : Nat} {s₀ : State} {s : State} {e n count : Nat} {move : State → Nat → State} (hF : Foot Ma Na ba 0x0 0x8000000000000000000000000000000000000000000000 (e))
    (hf : ∀ s i, Within Ma Na ba s₀ s → Within Ma Na ba s₀ (move s i)) (hS : Within Ma Na ba s₀ s) : Within1 Ma Na ba s₀ (s.runSerial e n count move) := by
  unfold State.runSerial
  have h1 : ∀ k, Within Ma Na ba s₀ ((List.range k).foldl (fun s i => (move s i).bitDone e) s) := fun k =>
    Within.foldl (fun s i h => State.bitDone_within (hF.sub (by decide) (by decide)) (hf s i h)) hS
  exact Within1.ite (Within1.mk (Within.setF .PIO_ESTAT _ 0 rfl (hF.mayOwn (by decide)) (h1 _))) (Within1.mk (h1 _))

theorem State.execPio_within {Ma Na ba : Nat} {s₀ : State} {s : State} {e : Nat} {op : PioOp} {lands : Nat} {bits : List Bool} {edges : Nat}
    (hF : Foot Ma Na ba 0x100000000000900004000000000400000000000018000000000106504 0xb8000000000000000000000000000000000000000000000 (e)) (hS : Within Ma Na ba s₀ s) :
    Within1 Ma Na ba s₀ (State.execPio s e op lands bits edges) := by
  unfold State.execPio
  extract_lets -merge +onlyGivenNames y0
  split
  · refine Within1.mk ?_
    assumption
  · refine Within1.mk ?_
    assumption
  · refine Within1.ite ?_ ?_
    · refine Within1.mk ?_
      refine Within.ite ?_ ?_
      · refine State.takeFlag_within (hF.drop (by decide)) ?_
        assumption
      assumption
    refine Within1.mk ?_
    assumption
  · refine Within1.ite ?_ ?_
    · refine Within1.mk ?_
      refine Within.clrBit .PIO_ESTAT _ 0 rfl (hF.mayOwn (by decide)) ?_
      assumption
    refine Within1.mk ?_
    assumption
  · refine Within1.mk ?_
    refine State.latchAt_within (hF.drop (by decide)) ?_
    assumption
  · refine Within1.mk ?_
    refine Within.setF .PIO_ELC _ 0 rfl (hF.mayOwn (by decide)) ?_
    assumption
  · refine Within1.mk ?_
    refine Within.setF .PIO_ESTAT _ 0 rfl (hF.mayOwn (by decide)) ?_
    refine Within.reg .PIO_ESR _ 0 rfl (hF.mayOwn (by decide)) ?_
    assumption
  · refine Within1.mk ?_
    refine Within.foldl ?_ ?_
    · intro t1 x2 w3
      refine Within.ite ?_ ?_
      · refine Within.clrBit .PIO_ESTAT _ 0 rfl (hF.mayOwn (by decide)) ?_
        assumption
      assumption
    assumption
  · refine Within1.ite ?_ ?_
    · extract_lets -merge +onlyGivenNames y4
      refine have w5 : Within Ma Na ba s₀ y4 := ?_; ?_
      · refine Within.ite ?_ ?_
        · refine Within.setF .PIO_ELC _ 0 rfl (hF.mayOwn (by decide)) ?_
          assumption
        assumption
      clear_value y4
      refine Within1.mk ?_
      assumption
    refine Within1.mk ?_
    assumption
  · refine Within1.mk ?_
    refine State.srOut_within (hF.sub (by decide) (by decide)) ?_
    refine Within.foldl ?_ ?_
    · intro t6 x7 w8
      refine State.latchAt_within (hF.drop (by decide)) ?_
      assumption
    assumption
  · refine Within1.ite ?_ ?_
    · refine State.wholeShift_within (hF.sub (by decide) (by decide)) ?_
      assumption
    refine Within1.ite ?_ ?_
    · refine Within1.mk ?_
      refine State.setEng_within (hF.drop (by decide)) ?_
      refine State.bitShown_within (hF.drop (by decide)) ?_
      assumption
    refine State.runSerial_within (hF.sub (by decide) (by decide)) ?_ ?_
    · intro t9 x10 w11
      extract_lets -merge +onlyGivenNames y12
      refine have w13 : Within Ma Na ba s₀ y12 := ?_; ?_
      · refine State.srOut_within (hF.sub (by decide) (by decide)) ?_
        assumption
      clear_value y12
      refine Within.ite ?_ ?_
      · refine State.bitShown_within (hF.drop (by decide)) ?_
        assumption
      assumption
    assumption
  · refine Within1.ite ?_ ?_
    · refine Within1.mk ?_
      assumption
    refine Within1.mk ?_
    refine State.srOut_within (hF.sub (by decide) (by decide)) ?_
    refine Within.setB .PIO_ESTAT _ 0 rfl (hF.mayOwn (by decide)) ?_
    refine Within.reg .PIO_DOUT _ 0 rfl (hF.mayOwn (by decide)) ?_
    assumption
  · refine Within1.mk ?_
    refine State.srOut_within (hF.sub (by decide) (by decide)) ?_
    refine Within.setF .PIO_ELC _ 0 rfl (hF.mayOwn (by decide)) ?_
    assumption
  · refine Within1.mk ?_
    refine State.srIn_within (hF.sub (by decide) (by decide)) ?_
    assumption
  · refine Within1.ite ?_ ?_
    · refine State.wholeShift_within (hF.sub (by decide) (by decide)) ?_
      assumption
    refine State.runSerial_within (hF.sub (by decide) (by decide)) ?_ ?_
    · intro t14 x15 w16
      refine State.bitIn_within (hF.sub (by decide) (by decide)) ?_
      assumption
    assumption
  · refine Within1.ite ?_ ?_
    · refine Within1.mk ?_
      refine Within.setB .PIO_ESTAT _ 0 rfl (hF.mayOwn (by decide)) ?_
      refine State.srIn_within (hF.sub (by decide) (by decide)) ?_
      assumption
    refine Within1.mk ?_
    assumption
  · refine Within1.mk ?_
    refine State.setFlags_within (hF.drop (by decide)) ?_
    assumption
  · refine Within1.mk ?_
    refine State.clearFlags_within (hF.drop (by decide)) ?_
    assumption
  · refine Within1.mk ?_
    refine Within.setBit .PIO_HOSTIRQ 0 0 rfl (hF.may (by decide)) ?_
    assumption
  · refine Within1.ite ?_ ?_
    · refine Within1.mk ?_
      refine State.engineTrigger_within (hF.drop (by decide)) ?_
      assumption
    extract_lets -merge +onlyGivenNames y17
    extract_lets -merge +onlyGivenNames y18
    refine have w19 : Within Ma Na ba s₀ y18 := ?_; ?_
    · refine Within.upd_tt (hF.any (by decide)) ?_
      assumption
    clear_value y18
    refine Within1.mk ?_
    refine State.setEng_within (hF.drop (by decide)) ?_
    assumption
  · refine Within1.mk ?_
    refine State.latchAt_within (hF.drop (by decide)) ?_
    refine State.latchAt_within (hF.drop (by decide)) ?_
    assumption
  refine Within1.mk ?_
  assumption

theorem State.retire_within {Ma Na ba : Nat} {s₀ : State} {s : State} {e : Nat} {r : Done}
    (hF : Foot Ma Na ba 0x2000 0x8000000000000000000000000000000000000000000000 (e)) (hS : Within Ma Na ba s₀ s) :
    Within Ma Na ba s₀ (State.retire s e r) := by
  unfold State.retire
  extract_lets -merge +onlyGivenNames y0
  split
  · extract_lets -merge +onlyGivenNames y1
    extract_lets -merge +onlyGivenNames y2
    refine have w3 : Within Ma Na ba s₀ y2 := ?_; ?_
    · refine Within.setF .PIO_ESTAT _ 0 rfl (hF.mayOwn (by decide)) ?_
      refine Within.setF .PIO_ESTAT _ 0 rfl (hF.mayOwn (by decide)) ?_
      assumption
    clear_value y2
    refine State.setEng_within (hF.drop (by decide)) ?_
    refine Within.setF .PIO_ESTAT _ 0 rfl (hF.mayOwn (by decide)) ?_
    assumption
  · refine State.setEng_within (hF.drop (by decide)) ?_
    refine Within.setF .PIO_ESTAT _ 0 rfl (hF.mayOwn (by decide)) ?_
    refine Within.setF .PIO_ESTAT _ 0 rfl (hF.mayOwn (by decide)) ?_
    assumption
  refine State.setEng_within (hF.drop (by decide)) ?_
  refine Within.setF .PIO_ESTAT _ 0 rfl (hF.mayOwn (by decide)) ?_
  assumption

theorem State.engineRuns_within {Ma Na ba : Nat} {s₀ : State} {s : State} {e : Nat} {kind : PioOp → Bool} {lands : Nat} {bits : List Bool} {edges : Nat}
    (hF : Foot Ma Na ba 0x100000000009900004000000000400000000000018000000000106504 0xb0000000000000000000000000000000000000000000000 (e)) (hS : Within Ma Na ba s₀ s) :
    Within Ma Na ba s₀ (State.engineRuns s e kind lands bits edges) := by
  unfold State.engineRuns
  extract_lets -merge +onlyGivenNames y0
  refine Within.ite ?_ ?_
  · extract_lets -merge +onlyGivenNames y1
    refine have w2 : Within1 Ma Na ba s₀ y1 := ?_; ?_
    · dsimp -zeta only [y1]
      clear_value y0
      split
      · refine State.shiftCycle_within (hF.sub (by decide) (by decide)) ?_
        assumption
      · refine State.shiftCycle_within (hF.sub (by decide) (by decide)) ?_
        assumption
      refine State.execPio_within (hF.sub (by decide) (by decide)) ?_
      assumption
    clear_value y1
    refine State.pioSettle_within (hF.drop (by decide)) ?_
    refine State.retire_within (hF.sub (by decide) (by decide)) ?_
    refine Within.fst ?_
    assumption
  assumption

theorem State.seeLands_within {Ma Na ba : Nat} {s₀ : State} {s : State} {lands : BitVec 64}
    (hF : Foot Ma Na ba 0x2000 0x0 (0)) (hS : Within Ma Na ba s₀ s) :
    Within Ma Na ba s₀ (State.seeLands s lands) := by
  unfold State.seeLands
  refine Within.upd_pio (hF.any (by decide)) ?_
  assumption

theorem State.engineFault_within {Ma Na ba : Nat} {s₀ : State} {s : State} {e : Nat}
    (hF : Foot Ma Na ba 0x2000 0x8000000000000000000000000000000000000000000000 (e)) (hS : Within Ma Na ba s₀ s) :
    Within Ma Na ba s₀ (State.engineFault s e) := by
  unfold State.engineFault
  refine Within.ite ?_ ?_
  · refine State.setEng_within (hF.drop (by decide)) ?_
    refine Within.setB .PIO_ESTAT _ 0 rfl (hF.mayOwn (by decide)) ?_
    refine Within.setF .PIO_ESTAT _ 0 rfl (hF.mayOwn (by decide)) ?_
    assumption
  assumption

theorem State.engineRestart_within {Ma Na ba : Nat} {s₀ : State} {s : State} {e : Nat}
    (hF : Foot Ma Na ba 0x1000000000000000000000000000000000000000002004 0x38000000000000000000000000000000000000000000000 (e)) (hS : Within Ma Na ba s₀ s) :
    Within Ma Na ba s₀ (State.engineRestart s e) := by
  unfold State.engineRestart
  extract_lets -merge +onlyGivenNames y0
  extract_lets -merge +onlyGivenNames y1
  extract_lets -merge +onlyGivenNames y2
  extract_lets -merge +onlyGivenNames y3
  refine have w4 : Within Ma Na ba s₀ y3 := ?_; ?_
  · refine Within.upd_pio (hF.any (by decide)) ?_
    assumption
  clear_value y3
  extract_lets -merge +onlyGivenNames y5
  refine have w6 : Within Ma Na ba s₀ y5 := ?_; ?_
  · refine Within.foldl ?_ ?_
    · intro t7 x8 w9
      refine State.writeLatch_within (hF.sub (by decide) (by decide)) ?_
      assumption
    assumption
  clear_value y5
  extract_lets -merge +onlyGivenNames y10
  extract_lets -merge +onlyGivenNames y11
  refine have w12 : Within Ma Na ba s₀ y11 := ?_; ?_
  · refine Within.ite ?_ ?_
    · refine Within.upd_tt (hF.any (by decide)) ?_
      assumption
    assumption
  clear_value y11
  extract_lets -merge +onlyGivenNames y13
  extract_lets -merge +onlyGivenNames y14
  extract_lets -merge +onlyGivenNames y15
  extract_lets -merge +onlyGivenNames y16
  extract_lets -merge +onlyGivenNames y17
  refine have w18 : Within Ma Na ba s₀ y17 := ?_; ?_
  · refine Within.reg .PIO_ESTAT _ 0 rfl (hF.mayOwn (by decide)) ?_
    assumption
  clear_value y17
  extract_lets -merge +onlyGivenNames y19
  refine have w20 : Within Ma Na ba s₀ y19 := ?_; ?_
  · refine Within.reg .PIO_ELC _ 0 rfl (hF.mayOwn (by decide)) ?_
    refine Within.reg .PIO_ESR _ 0 rfl (hF.mayOwn (by decide)) ?_
    assumption
  clear_value y19
  refine State.setEng_within (hF.drop (by decide)) ?_
  assumption

theorem State.engineRun_within {Ma Na ba : Nat} {s₀ : State} {s : State} {e : Nat}
    (hF : Foot Ma Na ba 0x2000 0xa000000000000000000000000000000000000000000000 (e)) (hS : Within Ma Na ba s₀ s) :
    Within Ma Na ba s₀ (State.engineRun s e) := by
  unfold State.engineRun
  refine Within.ite ?_ ?_
  · assumption
  extract_lets -merge +onlyGivenNames y0
  refine have w1 : Within Ma Na ba s₀ y0 := ?_; ?_
  · refine Within.setB .PIO_ECTL _ 0 rfl (hF.mayOwn (by decide)) ?_
    assumption
  clear_value y0
  refine Within.ite ?_ ?_
  · assumption
  extract_lets -merge +onlyGivenNames y2
  refine have w3 : Within Ma Na ba s₀ y2 := ?_; ?_
  · refine Within.setF .PIO_ESTAT _ 0 rfl (hF.mayOwn (by decide)) ?_
    assumption
  clear_value y2
  refine Within.ite ?_ ?_
  · assumption
  refine State.setEng_within (hF.drop (by decide)) ?_
  assumption

theorem State.engineStop_within {Ma Na ba : Nat} {s₀ : State} {s : State} {e : Nat}
    (hF : Foot Ma Na ba 0x0 0xa000000000000000000000000000000000000000000000 (e)) (hS : Within Ma Na ba s₀ s) :
    Within Ma Na ba s₀ (State.engineStop s e) := by
  unfold State.engineStop
  refine State.runStop_within (hF.sub (by decide) (by decide)) ?_
  refine Within.setB .PIO_ECTL _ 0 rfl (hF.mayOwn (by decide)) ?_
  assumption

theorem State.injectInstr_within {Ma Na ba : Nat} {s₀ : State} {s : State} {e : Nat} {lands : Nat} {bits : List Bool}
    (hF : Foot Ma Na ba 0x100000000009900004000000000400000000000018000000000106504 0xb0000000000000000000000000000000000000000000000 (e)) (hS : Within Ma Na ba s₀ s) :
    Within Ma Na ba s₀ (State.injectInstr s e lands bits) := by
  unfold State.injectInstr
  split
  · assumption
  refine Within.ite ?_ ?_
  · extract_lets -merge +onlyGivenNames y0
    refine have w1 : Within Ma Na ba s₀ y0 := ?_; ?_
    · refine Within.setB .PIO_ESTAT _ 0 rfl (hF.may (by decide)) ?_
      refine State.setEng_within (hF.drop (by decide)) ?_
      assumption
    clear_value y0
    extract_lets -merge +onlyGivenNames y2
    refine Within.ite ?_ ?_
    · refine Within.setB .PIO_ESTAT _ 0 rfl (hF.may (by decide)) ?_
      assumption
    extract_lets -merge +onlyGivenNames y3
    extract_lets -merge +onlyGivenNames y4
    refine have w5 : Within1 Ma Na ba s₀ y4 := ?_; ?_
    · refine State.execPio_within (hF.sub (by decide) (by decide)) ?_
      refine Within.setF .PIO_ESTAT _ 0 rfl (hF.may (by decide)) ?_
      assumption
    clear_value y4
    extract_lets -merge +onlyGivenNames y6
    refine have w7 : Within Ma Na ba s₀ y6 := ?_; ?_
    · refine Within.fst ?_
      assumption
    clear_value y6
    split
    · extract_lets -merge +onlyGivenNames y8
      refine have w9 : Within Ma Na ba s₀ y8 := ?_; ?_
      · refine Within.setF .PIO_ESTAT _ 0 rfl (hF.may (by decide)) ?_
        refine Within.setF .PIO_ESTAT _ 0 rfl (hF.may (by decide)) ?_
        assumption
      clear_value y8
      extract_lets -merge +onlyGivenNames y10
      refine have w11 : Within Ma Na ba s₀ y10 := ?_; ?_
      · refine Within.ite ?_ ?_
        · refine Within.setF .PIO_ESTAT _ 0 rfl (hF.may (by decide)) ?_
          refine Within.setF .PIO_ESTAT _ 0 rfl (hF.may (by decide)) ?_
          assumption
        assumption
      clear_value y10
      extract_lets -merge +onlyGivenNames y12
      refine State.pioSettle_within (hF.drop (by decide)) ?_
      refine State.setEng_within (hF.drop (by decide)) ?_
      assumption
    · refine State.pioSettle_within (hF.drop (by decide)) ?_
      refine State.setEng_within (hF.drop (by decide)) ?_
      refine Within.setF .PIO_ESTAT _ 0 rfl (hF.may (by decide)) ?_
      assumption
    refine Within.setF .PIO_ESTAT _ 0 rfl (hF.may (by decide)) ?_
    assumption
  assumption

theorem State.offer_within {Ma Na ba : Nat} {s₀ : State} {s : State} {e : Nat} {val : Word}
    (hF : Foot Ma Na ba 0x2000 0x8000000000000000000000000000000000000000000000 (e)) (hS : Within Ma Na ba s₀ s) :
    Within Ma Na ba s₀ (State.offer s e val) := by
  unfold State.offer
  refine Within.ite ?_ ?_
  · refine Within.setB .PIO_ESTAT _ 0 rfl (hF.mayOwn (by decide)) ?_
    assumption
  refine Within.setB .PIO_ESTAT _ 0 rfl (hF.mayOwn (by decide)) ?_
  refine State.setEng_within (hF.drop (by decide)) ?_
  assumption

theorem State.dinWrite_within {Ma Na ba : Nat} {s₀ : State} {s : State} {e : Nat} {val : Word}
    (hF : Foot Ma Na ba 0x2000 0x48000000000000000000000000000000000000000000000 (e)) (hS : Within Ma Na ba s₀ s) :
    Within Ma Na ba s₀ (State.dinWrite s e val) := by
  unfold State.dinWrite
  refine Within.ite ?_ ?_
  · refine Within.setB .PIO_ESTAT _ 0 rfl (hF.mayOwn (by decide)) ?_
    assumption
  refine State.setEng_within (hF.drop (by decide)) ?_
  refine Within.setB .PIO_ESTAT _ 0 rfl (hF.mayOwn (by decide)) ?_
  refine Within.reg .PIO_DIN _ 0 rfl (hF.mayOwn (by decide)) ?_
  assumption

theorem State.bankLoss_within {Ma Na ba : Nat} {s₀ : State} {s : State} {bank : Nat}
    (hF : Foot Ma Na ba 0x2000 0x0 (0)) (hS : Within Ma Na ba s₀ s) :
    Within Ma Na ba s₀ (State.bankLoss s bank) := by
  unfold State.bankLoss
  refine Within.upd_pio (hF.any (by decide)) ?_
  assumption

theorem State.bankReturn_within {Ma Na ba : Nat} {s₀ : State} {s : State} {bank : Nat}
    (hF : Foot Ma Na ba 0x2000 0x0 (0)) (hS : Within Ma Na ba s₀ s) :
    Within Ma Na ba s₀ (State.bankReturn s bank) := by
  unfold State.bankReturn
  refine Within.upd_pio (hF.any (by decide)) ?_
  assumption

theorem execNop_within {Ma Na ba : Nat} {s₀ : State} {t : Nat} {engine : Fin 16} {s : State}
    (hF : Foot Ma Na ba 0x100000000009900004000000000400000000000018000000000106504 0xb0000000000000000000000000000000000000000000000 (engine.val)) (hS : Within Ma Na ba s₀ (s.advance t)) :
    Ends Ma Na ba s₀ (execNop t engine s) := by
  unfold execNop
  refine Ends.mk ?_
  refine State.engineRuns_within (hF.sub (by decide) (by decide)) ?_
  refine State.pioSettle_within (hF.drop (by decide)) ?_
  assumption

theorem execJmp_within {Ma Na ba : Nat} {s₀ : State} {t : Nat} {engine : Fin 16} {lands : BitVec 64} {s : State}
    (hF : Foot Ma Na ba 0x100000000009900004000000000400000000000018000000000106504 0xb0000000000000000000000000000000000000000000000 (engine.val)) (hS : Within Ma Na ba s₀ (s.advance t)) :
    Ends Ma Na ba s₀ (execJmp t engine lands s) := by
  unfold execJmp
  refine Ends.mk ?_
  refine State.engineRuns_within (hF.sub (by decide) (by decide)) ?_
  refine State.seeLands_within (hF.drop (by decide)) ?_
  refine State.pioSettle_within (hF.drop (by decide)) ?_
  assumption

theorem execWaitPin_within {Ma Na ba : Nat} {s₀ : State} {t : Nat} {engine : Fin 16} {lands : BitVec 64} {s : State}
    (hF : Foot Ma Na ba 0x100000000009900004000000000400000000000018000000000106504 0xb0000000000000000000000000000000000000000000000 (engine.val)) (hS : Within Ma Na ba s₀ (s.advance t)) :
    Ends Ma Na ba s₀ (execWaitPin t engine lands s) := by
  unfold execWaitPin
  refine Ends.mk ?_
  refine State.engineRuns_within (hF.sub (by decide) (by decide)) ?_
  refine State.seeLands_within (hF.drop (by decide)) ?_
  refine State.pioSettle_within (hF.drop (by decide)) ?_
  assumption

theorem execWaitFlag_within {Ma Na ba : Nat} {s₀ : State} {t : Nat} {engine : Fin 16} {s : State}
    (hF : Foot Ma Na ba 0x100000000009900004000000000400000000000018000000000106504 0xb0000000000000000000000000000000000000000000000 (engine.val)) (hS : Within Ma Na ba s₀ (s.advance t)) :
    Ends Ma Na ba s₀ (execWaitFlag t engine s) := by
  unfold execWaitFlag
  refine Ends.mk ?_
  refine State.engineRuns_within (hF.sub (by decide) (by decide)) ?_
  refine State.pioSettle_within (hF.drop (by decide)) ?_
  assumption

theorem execWaitEvent_within {Ma Na ba : Nat} {s₀ : State} {t : Nat} {engine : Fin 16} {s : State}
    (hF : Foot Ma Na ba 0x100000000009900004000000000400000000000018000000000106504 0xb0000000000000000000000000000000000000000000000 (engine.val)) (hS : Within Ma Na ba s₀ (s.advance t)) :
    Ends Ma Na ba s₀ (execWaitEvent t engine s) := by
  unfold execWaitEvent
  refine Ends.mk ?_
  refine State.engineRuns_within (hF.sub (by decide) (by decide)) ?_
  refine State.pioSettle_within (hF.drop (by decide)) ?_
  assumption

theorem execSetPin_within {Ma Na ba : Nat} {s₀ : State} {t : Nat} {engine : Fin 16} {s : State}
    (hF : Foot Ma Na ba 0x100000000009900004000000000400000000000018000000000106504 0xb0000000000000000000000000000000000000000000000 (engine.val)) (hS : Within Ma Na ba s₀ (s.advance t)) :
    Ends Ma Na ba s₀ (execSetPin t engine s) := by
  unfold execSetPin
  refine Ends.mk ?_
  refine State.engineRuns_within (hF.sub (by decide) (by decide)) ?_
  refine State.pioSettle_within (hF.drop (by decide)) ?_
  assumption

theorem execSetLc_within {Ma Na ba : Nat} {s₀ : State} {t : Nat} {engine : Fin 16} {s : State}
    (hF : Foot Ma Na ba 0x100000000009900004000000000400000000000018000000000106504 0xb0000000000000000000000000000000000000000000000 (engine.val)) (hS : Within Ma Na ba s₀ (s.advance t)) :
    Ends Ma Na ba s₀ (execSetLc t engine s) := by
  unfold execSetLc
  refine Ends.mk ?_
  refine State.engineRuns_within (hF.sub (by decide) (by decide)) ?_
  refine State.pioSettle_within (hF.drop (by decide)) ?_
  assumption

theorem execSetSrClear_within {Ma Na ba : Nat} {s₀ : State} {t : Nat} {engine : Fin 16} {s : State}
    (hF : Foot Ma Na ba 0x100000000009900004000000000400000000000018000000000106504 0xb0000000000000000000000000000000000000000000000 (engine.val)) (hS : Within Ma Na ba s₀ (s.advance t)) :
    Ends Ma Na ba s₀ (execSetSrClear t engine s) := by
  unfold execSetSrClear
  refine Ends.mk ?_
  refine State.engineRuns_within (hF.sub (by decide) (by decide)) ?_
  refine State.pioSettle_within (hF.drop (by decide)) ?_
  assumption

theorem execSetEventClear_within {Ma Na ba : Nat} {s₀ : State} {t : Nat} {engine : Fin 16} {s : State}
    (hF : Foot Ma Na ba 0x100000000009900004000000000400000000000018000000000106504 0xb0000000000000000000000000000000000000000000000 (engine.val)) (hS : Within Ma Na ba s₀ (s.advance t)) :
    Ends Ma Na ba s₀ (execSetEventClear t engine s) := by
  unfold execSetEventClear
  refine Ends.mk ?_
  refine State.engineRuns_within (hF.sub (by decide) (by decide)) ?_
  refine State.pioSettle_within (hF.drop (by decide)) ?_
  assumption

theorem execInPins_within {Ma Na ba : Nat} {s₀ : State} {t : Nat} {engine : Fin 16} {lands : BitVec 64} {s : State}
    (hF : Foot Ma Na ba 0x100000000009900004000000000400000000000018000000000106504 0xb0000000000000000000000000000000000000000000000 (engine.val)) (hS : Within Ma Na ba s₀ (s.advance t)) :
    Ends Ma Na ba s₀ (execInPins t engine lands s) := by
  unfold execInPins
  refine Ends.mk ?_
  refine State.engineRuns_within (hF.sub (by decide) (by decide)) ?_
  refine State.seeLands_within (hF.drop (by decide)) ?_
  refine State.pioSettle_within (hF.drop (by decide)) ?_
  assumption

theorem execInDin_within {Ma Na ba : Nat} {s₀ : State} {t : Nat} {engine : Fin 16} {s : State}
    (hF : Foot Ma Na ba 0x100000000009900004000000000400000000000018000000000106504 0xb0000000000000000000000000000000000000000000000 (engine.val)) (hS : Within Ma Na ba s₀ (s.advance t)) :
    Ends Ma Na ba s₀ (execInDin t engine s) := by
  unfold execInDin
  refine Ends.mk ?_
  refine State.engineRuns_within (hF.sub (by decide) (by decide)) ?_
  refine State.pioSettle_within (hF.drop (by decide)) ?_
  assumption

theorem execInSerial_within {Ma Na ba : Nat} {s₀ : State} {t : Nat} {engine : Fin 16} {bits : List Bool} {s : State}
    (hF : Foot Ma Na ba 0x100000000009900004000000000400000000000018000000000106504 0xb0000000000000000000000000000000000000000000000 (engine.val)) (hS : Within Ma Na ba s₀ (s.advance t)) :
    Ends Ma Na ba s₀ (execInSerial t engine bits s) := by
  unfold execInSerial
  refine Ends.mk ?_
  refine State.engineRuns_within (hF.sub (by decide) (by decide)) ?_
  refine State.pioSettle_within (hF.drop (by decide)) ?_
  assumption

theorem execOutPins_within {Ma Na ba : Nat} {s₀ : State} {t : Nat} {engine : Fin 16} {s : State}
    (hF : Foot Ma Na ba 0x100000000009900004000000000400000000000018000000000106504 0xb0000000000000000000000000000000000000000000000 (engine.val)) (hS : Within Ma Na ba s₀ (s.advance t)) :
    Ends Ma Na ba s₀ (execOutPins t engine s) := by
  unfold execOutPins
  refine Ends.mk ?_
  refine State.engineRuns_within (hF.sub (by decide) (by decide)) ?_
  refine State.pioSettle_within (hF.drop (by decide)) ?_
  assumption

theorem execOutDout_within {Ma Na ba : Nat} {s₀ : State} {t : Nat} {engine : Fin 16} {s : State}
    (hF : Foot Ma Na ba 0x100000000009900004000000000400000000000018000000000106504 0xb0000000000000000000000000000000000000000000000 (engine.val)) (hS : Within Ma Na ba s₀ (s.advance t)) :
    Ends Ma Na ba s₀ (execOutDout t engine s) := by
  unfold execOutDout
  refine Ends.mk ?_
  refine State.engineRuns_within (hF.sub (by decide) (by decide)) ?_
  refine State.pioSettle_within (hF.drop (by decide)) ?_
  assumption

theorem execOutLc_within {Ma Na ba : Nat} {s₀ : State} {t : Nat} {engine : Fin 16} {s : State}
    (hF : Foot Ma Na ba 0x100000000009900004000000000400000000000018000000000106504 0xb0000000000000000000000000000000000000000000000 (engine.val)) (hS : Within Ma Na ba s₀ (s.advance t)) :
    Ends Ma Na ba s₀ (execOutLc t engine s) := by
  unfold execOutLc
  refine Ends.mk ?_
  refine State.engineRuns_within (hF.sub (by decide) (by decide)) ?_
  refine State.pioSettle_within (hF.drop (by decide)) ?_
  assumption

theorem execOutSerial_within {Ma Na ba : Nat} {s₀ : State} {t : Nat} {engine : Fin 16} {edges : Nat} {s : State}
    (hF : Foot Ma Na ba 0x100000000009900004000000000400000000000018000000000106504 0xb0000000000000000000000000000000000000000000000 (engine.val)) (hS : Within Ma Na ba s₀ (s.advance t)) :
    Ends Ma Na ba s₀ (execOutSerial t engine edges s) := by
  unfold execOutSerial
  refine Ends.mk ?_
  refine State.engineRuns_within (hF.sub (by decide) (by decide)) ?_
  refine State.pioSettle_within (hF.drop (by decide)) ?_
  assumption

theorem execPulse_within {Ma Na ba : Nat} {s₀ : State} {t : Nat} {engine : Fin 16} {s : State}
    (hF : Foot Ma Na ba 0x100000000009900004000000000400000000000018000000000106504 0xb0000000000000000000000000000000000000000000000 (engine.val)) (hS : Within Ma Na ba s₀ (s.advance t)) :
    Ends Ma Na ba s₀ (execPulse t engine s) := by
  unfold execPulse
  refine Ends.mk ?_
  refine State.engineRuns_within (hF.sub (by decide) (by decide)) ?_
  refine State.pioSettle_within (hF.drop (by decide)) ?_
  assumption

theorem execIrqSetFlag_within {Ma Na ba : Nat} {s₀ : State} {t : Nat} {engine : Fin 16} {s : State}
    (hF : Foot Ma Na ba 0x100000000009900004000000000400000000000018000000000106504 0xb0000000000000000000000000000000000000000000000 (engine.val)) (hS : Within Ma Na ba s₀ (s.advance t)) :
    Ends Ma Na ba s₀ (execIrqSetFlag t engine s) := by
  unfold execIrqSetFlag
  refine Ends.mk ?_
  refine State.engineRuns_within (hF.sub (by decide) (by decide)) ?_
  refine State.pioSettle_within (hF.drop (by decide)) ?_
  assumption

theorem execIrqClearFlag_within {Ma Na ba : Nat} {s₀ : State} {t : Nat} {engine : Fin 16} {s : State}
    (hF : Foot Ma Na ba 0x100000000009900004000000000400000000000018000000000106504 0xb0000000000000000000000000000000000000000000000 (engine.val)) (hS : Within Ma Na ba s₀ (s.advance t)) :
    Ends Ma Na ba s₀ (execIrqClearFlag t engine s) := by
  unfold execIrqClearFlag
  refine Ends.mk ?_
  refine State.engineRuns_within (hF.sub (by decide) (by decide)) ?_
  refine State.pioSettle_within (hF.drop (by decide)) ?_
  assumption

theorem execIrqHost_within {Ma Na ba : Nat} {s₀ : State} {t : Nat} {engine : Fin 16} {s : State}
    (hF : Foot Ma Na ba 0x100000000009900004000000000400000000000018000000000106504 0xb0000000000000000000000000000000000000000000000 (engine.val)) (hS : Within Ma Na ba s₀ (s.advance t)) :
    Ends Ma Na ba s₀ (execIrqHost t engine s) := by
  unfold execIrqHost
  refine Ends.mk ?_
  refine State.engineRuns_within (hF.sub (by decide) (by decide)) ?_
  refine State.pioSettle_within (hF.drop (by decide)) ?_
  assumption

theorem execIrqTimetable_within {Ma Na ba : Nat} {s₀ : State} {t : Nat} {engine : Fin 16} {s : State}
    (hF : Foot Ma Na ba 0x100000000009900004000000000400000000000018000000000106504 0xb0000000000000000000000000000000000000000000000 (engine.val)) (hS : Within Ma Na ba s₀ (s.advance t)) :
    Ends Ma Na ba s₀ (execIrqTimetable t engine s) := by
  unfold execIrqTimetable
  refine Ends.mk ?_
  refine State.engineRuns_within (hF.sub (by decide) (by decide)) ?_
  refine State.pioSettle_within (hF.drop (by decide)) ?_
  assumption

theorem execIllegalInstruction_within {Ma Na ba : Nat} {s₀ : State} {t : Nat} {engine : Fin 16} {s : State}
    (hF : Foot Ma Na ba 0x9000000000000000000000000000000000000000002000 0x0 (0)) (hS : Within Ma Na ba s₀ (s.advance t)) :
    Ends Ma Na ba s₀ (execIllegalInstruction t engine s) := by
  unfold execIllegalInstruction
  refine Ends.mk ?_
  refine State.engineFault_within (hF.drop (by decide)) ?_
  refine State.pioSettle_within (hF.drop (by decide)) ?_
  assumption

theorem execEngineRestart_within {Ma Na ba : Nat} {s₀ : State} {t : Nat} {src : Src} {engine : Fin 16} {s : State}
    (hF : Foot Ma Na ba 0x9000000000000000000000000000000000000000002004 0x30000000000000000000000000000000000000000000000 (engine.val)) (hS : Within Ma Na ba s₀ (s.advance t)) :
    Ends Ma Na ba s₀ (execEngineRestart t src engine s) := by
  unfold execEngineRestart
  refine Ends.mk ?_
  refine State.managed_within (hF.drop (by decide)) ?_ ?_
  · intro t0 w1
    refine State.engineRestart_within (hF.sub (by decide) (by decide)) ?_
    assumption
  refine State.pioSettle_within (hF.drop (by decide)) ?_
  assumption

theorem execEngineKick_within {Ma Na ba : Nat} {s₀ : State} {t : Nat} {src : Src} {engine : Fin 16} {s : State}
    (hF : Foot Ma Na ba 0x9000000000000000000000000000000000000000002000 0x0 (0)) (hS : Within Ma Na ba s₀ (s.advance t)) :
    Ends Ma Na ba s₀ (execEngineKick t src engine s) := by
  unfold execEngineKick
  refine Ends.mk ?_
  refine State.managed_within (hF.drop (by decide)) ?_ ?_
  · intro t0 w1
    refine State.raiseEvent_within (hF.drop (by decide)) ?_
    assumption
  refine State.pioSettle_within (hF.drop (by decide)) ?_
  assumption

theorem execDoutAck_within {Ma Na ba : Nat} {s₀ : State} {t : Nat} {src : Src} {engine : Fin 16} {s : State}
    (hF : Foot Ma Na ba 0x9000000000000000000000000000000000000000002000 0x0 (0)) (hS : Within Ma Na ba s₀ (s.advance t)) :
    Ends Ma Na ba s₀ (execDoutAck t src engine s) := by
  unfold execDoutAck
  refine Ends.mk ?_
  refine State.managed_within (hF.drop (by decide)) ?_ ?_
  · intro t0 w1
    refine Within.setB .PIO_ESTAT _ 0 rfl (hF.may (by decide)) ?_
    assumption
  refine State.pioSettle_within (hF.drop (by decide)) ?_
  assumption

theorem execDinDrop_within {Ma Na ba : Nat} {s₀ : State} {t : Nat} {src : Src} {engine : Fin 16} {s : State}
    (hF : Foot Ma Na ba 0x9000000000000000000000000000000000000000002000 0x0 (0)) (hS : Within Ma Na ba s₀ (s.advance t)) :
    Ends Ma Na ba s₀ (execDinDrop t src engine s) := by
  unfold execDinDrop
  refine Ends.mk ?_
  refine State.managed_within (hF.drop (by decide)) ?_ ?_
  · intro t0 w1
    refine Within.setB .PIO_ESTAT _ 0 rfl (hF.may (by decide)) ?_
    assumption
  refine State.pioSettle_within (hF.drop (by decide)) ?_
  assumption

theorem execPioDinWrite_within {Ma Na ba : Nat} {s₀ : State} {t : Nat} {src : Src} {engine : Fin 16} {val : Word} {s : State}
    (hF : Foot Ma Na ba 0x9000000000000000000000000000000000000000002000 0x40000000000000000000000000000000000000000000000 (engine.val)) (hS : Within Ma Na ba s₀ (s.advance t)) :
    Ends Ma Na ba s₀ (execPioDinWrite t src engine val s) := by
  unfold execPioDinWrite
  refine Ends.mk ?_
  refine State.managed_within (hF.drop (by decide)) ?_ ?_
  · intro t0 w1
    refine State.dinWrite_within (hF.sub (by decide) (by decide)) ?_
    assumption
  refine State.pioSettle_within (hF.drop (by decide)) ?_
  assumption

theorem execPioInjWrite_within {Ma Na ba : Nat} {s₀ : State} {t : Nat} {src : Src} {engine : Fin 16} {val : Word} {s : State}
    (hF : Foot Ma Na ba 0x9000000000000000000000000000000000000000002000 0x0 (0)) (hS : Within Ma Na ba s₀ (s.advance t)) :
    Ends Ma Na ba s₀ (execPioInjWrite t src engine val s) := by
  unfold execPioInjWrite
  refine Ends.mk ?_
  refine State.managed_within (hF.drop (by decide)) ?_ ?_
  · intro t0 w1
    refine State.offer_within (hF.drop (by decide)) ?_
    assumption
  refine State.pioSettle_within (hF.drop (by decide)) ?_
  assumption

theorem execInjectionExecute_within {Ma Na ba : Nat} {s₀ : State} {t : Nat} {engine : Fin 16} {lands : BitVec 64} {bits : List Bool} {s : State}
    (hF : Foot Ma Na ba 0x100000000009900004000000000400000000000018000000000106504 0xb0000000000000000000000000000000000000000000000 (engine.val)) (hS : Within Ma Na ba s₀ (s.advance t)) :
    Ends Ma Na ba s₀ (execInjectionExecute t engine lands bits s) := by
  unfold execInjectionExecute
  refine Ends.mk ?_
  refine State.injectInstr_within (hF.sub (by decide) (by decide)) ?_
  refine State.seeLands_within (hF.drop (by decide)) ?_
  refine State.pioSettle_within (hF.drop (by decide)) ?_
  assumption

theorem execFlagSet_within {Ma Na ba : Nat} {s₀ : State} {t : Nat} {src : Src} {val : Word} {s : State}
    (hF : Foot Ma Na ba 0x9100000000000000000000000000000000000000002000 0x0 (0)) (hS : Within Ma Na ba s₀ (s.advance t)) :
    Ends Ma Na ba s₀ (execFlagSet t src val s) := by
  unfold execFlagSet
  refine Ends.mk ?_
  refine State.managed_within (hF.drop (by decide)) ?_ ?_
  · intro t0 w1
    refine State.setFlags_within (hF.drop (by decide)) ?_
    assumption
  refine State.pioSettle_within (hF.drop (by decide)) ?_
  assumption

theorem execFlagClr_within {Ma Na ba : Nat} {s₀ : State} {t : Nat} {src : Src} {val : Word} {s : State}
    (hF : Foot Ma Na ba 0x9100000000000000000000000000000000000000002000 0x0 (0)) (hS : Within Ma Na ba s₀ (s.advance t)) :
    Ends Ma Na ba s₀ (execFlagClr t src val s) := by
  unfold execFlagClr
  refine Ends.mk ?_
  refine State.managed_within (hF.drop (by decide)) ?_ ?_
  · intro t0 w1
    refine State.clearFlags_within (hF.drop (by decide)) ?_
    assumption
  refine State.pioSettle_within (hF.drop (by decide)) ?_
  assumption

theorem execEngineRun_within {Ma Na ba : Nat} {s₀ : State} {t : Nat} {src : Src} {engine : Fin 16} {s : State}
    (hF : Foot Ma Na ba 0x9000000000000000000000000000000000000000002000 0x2000000000000000000000000000000000000000000000 (engine.val)) (hS : Within Ma Na ba s₀ (s.advance t)) :
    Ends Ma Na ba s₀ (execEngineRun t src engine s) := by
  unfold execEngineRun
  refine Ends.mk ?_
  refine State.managed_within (hF.drop (by decide)) ?_ ?_
  · intro t0 w1
    refine State.engineRun_within (hF.sub (by decide) (by decide)) ?_
    assumption
  refine State.pioSettle_within (hF.drop (by decide)) ?_
  assumption

theorem execEngineStop_within {Ma Na ba : Nat} {s₀ : State} {t : Nat} {src : Src} {engine : Fin 16} {s : State}
    (hF : Foot Ma Na ba 0x9000000000000000000000000000000000000000002000 0x2000000000000000000000000000000000000000000000 (engine.val)) (hS : Within Ma Na ba s₀ (s.advance t)) :
    Ends Ma Na ba s₀ (execEngineStop t src engine s) := by
  unfold execEngineStop
  refine Ends.mk ?_
  refine State.managed_within (hF.drop (by decide)) ?_ ?_
  · intro t0 w1
    refine State.engineStop_within (hF.sub (by decide) (by decide)) ?_
    assumption
  refine State.pioSettle_within (hF.drop (by decide)) ?_
  assumption

theorem execPioProgWrite_within {Ma Na ba : Nat} {s₀ : State} {t : Nat} {src : Src} {engine : Fin 16} {slot : Fin 32} {val : Word} {s : State}
    (hF : Foot Ma Na ba 0x9000000000000000000000000000000000000000002000 0x200000000000000000000000000000000000000000000000 (engine.val)) (hS : Within Ma Na ba s₀ (s.advance t)) :
    Ends Ma Na ba s₀ (execPioProgWrite t src engine slot val s) := by
  unfold execPioProgWrite
  refine Ends.mk ?_
  refine State.managed_within (hF.drop (by decide)) ?_ ?_
  · intro t0 w1
    refine Within.setF .PIO_PROG _ _ rfl (hF.mayOwn (by decide)) ?_
    assumption
  refine State.pioSettle_within (hF.drop (by decide)) ?_
  assumption

theorem execBankSupplyLoss_within {Ma Na ba : Nat} {s₀ : State} {t : Nat} {bank : Fin 2} {s : State}
    (hF : Foot Ma Na ba 0x9000000000000000000000000000000000000000002000 0x0 (0)) (hS : Within Ma Na ba s₀ (s.advance t)) :
    Ends Ma Na ba s₀ (execBankSupplyLoss t bank s) := by
  unfold execBankSupplyLoss
  refine Ends.mk ?_
  refine State.bankLoss_within (hF.drop (by decide)) ?_
  refine State.pioSettle_within (hF.drop (by decide)) ?_
  assumption

theorem execBankSupplyReturn_within {Ma Na ba : Nat} {s₀ : State} {t : Nat} {bank : Fin 2} {s : State}
    (hF : Foot Ma Na ba 0x9000000000000000000000000000000000000000002000 0x0 (0)) (hS : Within Ma Na ba s₀ (s.advance t)) :
    Ends Ma Na ba s₀ (execBankSupplyReturn t bank s) := by
  unfold execBankSupplyReturn
  refine Ends.mk ?_
  refine State.bankReturn_within (hF.drop (by decide)) ?_
  refine State.pioSettle_within (hF.drop (by decide)) ?_
  assumption

end Sys2Proof.Machine
end

