-- ==== Sys2Proof/Laws/FrameExposure.lean ====
section
/-! SUPPORT. What the functions of exposure, calibration, conversion and the pipeline can change: one lemma for each function and each meaning, in the relation `Within`. -/

namespace Sys2Proof.Machine

/-! ## Exposure -/

theorem State.noteClamp_within {Ma Na ba : Nat} {s₀ : State} {s : State} {seq : Nat} {cont : Nat} {i : Nat}
    (hF : Foot Ma Na ba 0x8000000000000004 0x0 (0)) (hS : Within Ma Na ba s₀ s) :
    Within Ma Na ba s₀ (State.noteClamp s seq cont i) := by
  unfold State.noteClamp
  extract_lets -merge +onlyGivenNames y0
  refine have w1 : Within Ma Na ba s₀ y0 := ?_; ?_
  · refine Within.setB .TT_STATUS 0 0 rfl (hF.may (by decide)) ?_
    assumption
  clear_value y0
  refine Within.upd_tt (hF.any (by decide)) ?_
  assumption

theorem State.transfer_within {Ma Na ba : Nat} {s₀ : State} {s : State} {i : Nat} {charges : List (Nat × Nat)}
    (hF : Foot Ma Na ba 0x800000000000000c 0x0 (0)) (hS : Within Ma Na ba s₀ s) :
    Within Ma Na ba s₀ (State.transfer s i charges) := by
  unfold State.transfer
  split
  · assumption
  extract_lets -merge +onlyGivenNames y0
  refine have w1 : Within Ma Na ba s₀ y0 := ?_; ?_
  · refine Within.upd_px (hF.any (by decide)) ?_
    assumption
  clear_value y0
  refine Within.ite ?_ ?_
  · refine State.noteClamp_within (hF.drop (by decide)) ?_
    assumption
  assumption

theorem State.admitPreview_within {Ma Na ba : Nat} {s₀ : State} {s : State} {st : RegFile} {f : Frame} {c : Nat}
    (hF : Foot Ma Na ba 0xc00000000000000000000000000000000000000000000001000 0x80000000000000000000000 (c)) (hS : Within Ma Na ba s₀ s) :
    Within Ma Na ba s₀ (State.admitPreview s st f c) := by
  unfold State.admitPreview
  extract_lets -merge +onlyGivenNames y0
  extract_lets -merge +onlyGivenNames y1
  extract_lets -merge +onlyGivenNames y2
  extract_lets -merge +onlyGivenNames y3
  refine Within.ite ?_ ?_
  · refine Within.addF .ETH_PREV_CNT 0 0 rfl (hF.may (by decide)) ?_
    assumption
  extract_lets -merge +onlyGivenNames y4
  extract_lets -merge +onlyGivenNames y5
  extract_lets -merge +onlyGivenNames y6
  refine Within.ite ?_ ?_
  · refine Within.satF .ETH_PREV_CNT 0 0 rfl (hF.may (by decide)) ?_
    refine State.countDrop_within (hF.sub (by decide) (by decide)) ?_
    assumption
  extract_lets -merge +onlyGivenNames y7
  extract_lets -merge +onlyGivenNames y8
  extract_lets -merge +onlyGivenNames y9
  extract_lets -merge +onlyGivenNames y10
  refine have w11 : Within Ma Na ba s₀ y10 := ?_; ?_
  · refine Within.upd_prev (hF.any (by decide)) ?_
    assumption
  clear_value y10
  refine State.showPreview_within (hF.drop (by decide)) ?_
  assumption

theorem State.sendStarts_within {Ma Na ba : Nat} {s₀ : State} {s : State} {f : Frame}
    (hF : Foot Ma Na ba 0xc00000000000000000000401000080000000000000000001f80 0x0 (0)) (hS : Within Ma Na ba s₀ s) :
    Within Ma Na ba s₀ (State.sendStarts s f) := by
  unfold State.sendStarts
  extract_lets -merge +onlyGivenNames y0
  refine State.queueStarts_within (hF.drop (by decide)) ?_
  refine Within.foldl ?_ ?_
  · intro t1 x2 w3
    refine Within.ite ?_ ?_
    · refine State.admitPreview_within (hF.drop (by decide)) ?_
      assumption
    assumption
  refine State.noteStart_within (hF.drop (by decide)) ?_
  assumption

theorem State.completeFrame_within {Ma Na ba : Nat} {s₀ : State} {s : State} {f : Frame}
    (hF : Foot Ma Na ba 0x3000000c00000000000000021000401000080000020000000000001f86 0x0 (0)) (hS : Within Ma Na ba s₀ s) :
    Within Ma Na ba s₀ (State.completeFrame s f) := by
  unfold State.completeFrame
  extract_lets -merge +onlyGivenNames y0
  extract_lets -merge +onlyGivenNames y1
  refine have w2 : Within Ma Na ba s₀ y1 := ?_; ?_
  · refine State.markDrops_within (hF.drop (by decide)) ?_
    assumption
  clear_value y1
  extract_lets -merge +onlyGivenNames y3
  extract_lets -merge +onlyGivenNames y4
  refine have w5 : Within Ma Na ba s₀ y4 := ?_; ?_
  · refine State.setFrame_within (hF.drop (by decide)) ?_
    assumption
  clear_value y4
  extract_lets -merge +onlyGivenNames y6
  refine have w7 : Within Ma Na ba s₀ y6 := ?_; ?_
  · refine Within.setF .TT_CNT_FRAME 0 0 rfl (hF.may (by decide)) ?_
    assumption
  clear_value y6
  extract_lets -merge +onlyGivenNames y8
  refine have w9 : Within Ma Na ba s₀ y8 := ?_; ?_
  · refine Within.ite ?_ ?_
    · assumption
    refine State.ringEntry_within (hF.drop (by decide)) ?_
    assumption
  clear_value y8
  extract_lets -merge +onlyGivenNames y10
  refine have w11 : Within Ma Na ba s₀ y10 := ?_; ?_
  · refine Within.ite ?_ ?_
    · assumption
    refine State.noteManifest_within (hF.drop (by decide)) ?_
    assumption
  clear_value y10
  refine State.ferryEvent_within (hF.drop (by decide)) ?_
  refine State.endDone_within (hF.drop (by decide)) ?_
  refine State.sendStarts_within (hF.drop (by decide)) ?_
  assumption

theorem State.completion_within {Ma Na ba : Nat} {s₀ : State} {s : State}
    (hF : Foot Ma Na ba 0x3000000c00000000000000021000401000080000020000000000001f86 0x0 (0)) (hS : Within Ma Na ba s₀ s) :
    Within Ma Na ba s₀ (State.completion s) := by
  unfold State.completion
  split
  · refine State.completeFrame_within (hF.drop (by decide)) ?_
    assumption
  split
  · refine State.finishSegment_within (hF.drop (by decide)) ?_
    assumption
  assumption

theorem execExposureTransfer_within {Ma Na ba : Nat} {s₀ : State} {t : Nat} {conv : Fin 33024} {charges : List (Nat × Nat)} {s : State}
    (hF : Foot Ma Na ba 0x800000000000000c 0x0 (0)) (hS : Within Ma Na ba s₀ (s.advance t)) :
    Ends Ma Na ba s₀ (execExposureTransfer t conv charges s) := by
  unfold execExposureTransfer
  refine Ends.mk ?_
  refine State.transfer_within (hF.drop (by decide)) ?_
  assumption

theorem execManifestCompletion_within {Ma Na ba : Nat} {s₀ : State} {t : Nat} {s : State}
    (hF : Foot Ma Na ba 0x3000000c00000000000000021000401000080000020000000000001f86 0x0 (0)) (hS : Within Ma Na ba s₀ (s.advance t)) :
    Ends Ma Na ba s₀ (execManifestCompletion t s) := by
  unfold execManifestCompletion
  refine Ends.mk ?_
  refine State.completion_within (hF.drop (by decide)) ?_
  assumption

/-! ## Calibrate -/

theorem State.rejectInj_within {Ma Na ba : Nat} {s₀ : State} {s : State} {tracker : Bool}
    (hF : Foot Ma Na ba 0x1000030000000000000000000 0x0 (0)) (hS : Within Ma Na ba s₀ s) :
    Within Ma Na ba s₀ (State.rejectInj s tracker) := by
  unfold State.rejectInj
  extract_lets -merge +onlyGivenNames y0
  refine have w1 : Within Ma Na ba s₀ y0 := ?_; ?_
  · refine Within.satF .CC_CNT 0 0 rfl (hF.may (by decide)) ?_
    refine Within.setB .CC_STATUS 0 0 rfl (hF.may (by decide)) ?_
    assumption
  clear_value y0
  refine Within.ite ?_ ?_
  · refine Within.setB .PIPE_STATUS 0 0 rfl (hF.may (by decide)) ?_
    assumption
  assumption

theorem State.requestInj_within {Ma Na ba : Nat} {s₀ : State} {s : State} {b : Nat} {refsel : Nat} {x : Nat} {tracker : Bool} {slot : Nat}
    (hF : Foot Ma Na ba 0x1000030000000000000000010 0x0 (0)) (hS : Within Ma Na ba s₀ s) :
    Within Ma Na ba s₀ (State.requestInj s b refsel x tracker slot) := by
  unfold State.requestInj
  refine Within.ite ?_ ?_
  · refine State.rejectInj_within (hF.drop (by decide)) ?_
    assumption
  refine Within.upd_cc (hF.any (by decide)) ?_
  assumption

theorem State.requestBands_within {Ma Na ba : Nat} {s₀ : State} {s : State} {bands : Nat} {refsel : Nat}
    (hF : Foot Ma Na ba 0x1000030000000000000000010 0x0 (0)) (hS : Within Ma Na ba s₀ s) :
    Within Ma Na ba s₀ (State.requestBands s bands refsel) := by
  unfold State.requestBands
  refine Within.foldl ?_ ?_
  · intro t0 x1 w2
    refine State.requestInj_within (hF.drop (by decide)) ?_
    assumption
  assumption

theorem State.modInj_within {Ma Na ba : Nat} {s₀ : State} {s : State} {b : Nat} {f : Injection → Injection}
    (hF : Foot Ma Na ba 0x10 0x0 (0)) (hS : Within Ma Na ba s₀ s) :
    Within Ma Na ba s₀ (State.modInj s b f) := by
  unfold State.modInj
  refine Within.upd_cc (hF.any (by decide)) ?_
  assumption

theorem State.calLose_within {Ma Na ba : Nat} {s₀ : State} {s : State} {b : Nat} {n : Nat}
    (hF : Foot Ma Na ba 0x20 0x0 (0)) (hS : Within Ma Na ba s₀ s) :
    Within Ma Na ba s₀ (State.calLose s b n) := by
  unfold State.calLose
  refine Within.upd_cal (hF.any (by decide)) ?_
  assumption

theorem State.injStart_within {Ma Na ba : Nat} {s₀ : State} {s : State} {b : Nat}
    (hF : Foot Ma Na ba 0x30 0x0 (0)) (hS : Within Ma Na ba s₀ s) :
    Within Ma Na ba s₀ (State.injStart s b) := by
  unfold State.injStart
  split
  · assumption
  extract_lets -merge +onlyGivenNames y0
  refine Within.ite ?_ ?_
  · refine State.calLose_within (hF.drop (by decide)) ?_
    refine State.modInj_within (hF.drop (by decide)) ?_
    assumption
  assumption

theorem State.injResult_within {Ma Na ba : Nat} {s₀ : State} {s : State} {r : InjResult}
    (hF : Foot Ma Na ba 0x14 0x0 (0)) (hS : Within Ma Na ba s₀ s) :
    Within Ma Na ba s₀ (State.injResult s r) := by
  unfold State.injResult
  split
  · assumption
  refine Within.ite ?_ ?_
  · assumption
  extract_lets -merge +onlyGivenNames y0
  extract_lets -merge +onlyGivenNames y1
  extract_lets -merge +onlyGivenNames y2
  refine have w3 : Within Ma Na ba s₀ y2 := ?_; ?_
  · refine Within.upd_cc (hF.any (by decide)) ?_
    assumption
  clear_value y2
  extract_lets -merge +onlyGivenNames y4
  refine have w5 : Within Ma Na ba s₀ y4 := ?_; ?_
  · refine State.modInj_within (hF.drop (by decide)) ?_
    assumption
  clear_value y4
  refine Within.ite ?_ ?_
  · refine Within.upd_tt (hF.any (by decide)) ?_
    assumption
  assumption

theorem State.tapStepAt_within {Ma Na ba : Nat} {s₀ : State} {s : State} {x : Nat}
    (hF : Foot Ma Na ba 0x1900000000000000000022 0x0 (0)) (hS : Within Ma Na ba s₀ s) :
    Within Ma Na ba s₀ (State.tapStepAt s x) := by
  unfold State.tapStepAt
  refine Within.foldl ?_ ?_
  · intro t0 x1 w2
    extract_lets -merge +onlyGivenNames y3
    refine Within.ite ?_ ?_
    · assumption
    refine Within.ite ?_ ?_
    · refine Within.upd_cal (hF.any (by decide)) ?_
      assumption
    refine State.stepSlice_within (hF.drop (by decide)) ?_
    assumption
  assumption

theorem State.clearRejRun_within {Ma Na ba : Nat} {s₀ : State} {s : State} {b : Nat} (hF : Foot Ma Na ba 0x1000000000000000000000 0x0 (0)) (hS : Within Ma Na ba s₀ s) : Within Ma Na ba s₀ (s.clearRejRun b) := by
  unfold State.clearRejRun
  refine Within.foldl_mem (fun s p hp h => ?_) hS
  have hm := (List.mem_filter.mp hp).2
  simp only [Bool.and_eq_true, decide_eq_true_eq, beq_iff_eq] at hm
  refine Within.setF .CAL_REC (p.1 % 0x220000 / 0x40) 0 ?_ (hF.may (by decide)) h
  simp only [Part.addr, Reg.CAL_REC, Option.some.injEq, numConv] at hm ⊢
  omega

theorem State.rotateBand_within {Ma Na ba : Nat} {s₀ : State} {s : State} {b : Nat} {x : Nat}
    (hF : Foot Ma Na ba 0x1d30000000000000000032 0x0 (0)) (hS : Within Ma Na ba s₀ s) :
    Within1 Ma Na ba s₀ (State.rotateBand s b x) := by
  unfold State.rotateBand
  extract_lets -merge +onlyGivenNames y0
  extract_lets -merge +onlyGivenNames y1
  refine Within1.ite ?_ ?_
  · refine Within1.mk ?_
    refine Within.upd_cc (hF.any (by decide)) ?_
    assumption
  refine Within1.ite ?_ ?_
  · extract_lets -merge +onlyGivenNames y2
    refine have w3 : Within Ma Na ba s₀ y2 := ?_; ?_
    · refine Within.satF .CC_CNT 0 0 rfl (hF.may (by decide)) ?_
      refine Within.setB .CC_STATUS 0 0 rfl (hF.may (by decide)) ?_
      assumption
    clear_value y2
    refine Within1.mk ?_
    refine Within.upd_cc (hF.any (by decide)) ?_
    assumption
  extract_lets -merge +onlyGivenNames y4
  refine have w5 : Within Ma Na ba s₀ y4 := ?_; ?_
  · refine State.releaseSteps_within (hF.drop (by decide)) ?_
    assumption
  clear_value y4
  extract_lets -merge +onlyGivenNames y6
  refine have w7 : Within Ma Na ba s₀ y6 := ?_; ?_
  · refine Within.ite ?_ ?_
    · refine Within.satF .CAL_CNT 0 0 rfl (hF.may (by decide)) ?_
      assumption
    assumption
  clear_value y6
  extract_lets -merge +onlyGivenNames y8
  extract_lets -merge +onlyGivenNames y9
  refine have w10 : Within Ma Na ba s₀ y9 := ?_; ?_
  · refine Within.upd_cc (hF.any (by decide)) ?_
    assumption
  clear_value y9
  refine Within1.mk ?_
  refine State.clearRejRun_within (hF.drop (by decide)) ?_
  refine State.restartBands_within (hF.drop (by decide)) ?_
  assumption

theorem State.rotateAt_within {Ma Na ba : Nat} {s₀ : State} {s : State} {x : Nat}
    (hF : Foot Ma Na ba 0x1d30000000000000000032 0x0 (0)) (hS : Within Ma Na ba s₀ s) :
    Within Ma Na ba s₀ (State.rotateAt s x) := by
  unfold State.rotateAt
  extract_lets -merge +onlyGivenNames y0
  refine have w1 : Within1 Ma Na ba s₀ y0 := ?_; ?_
  · refine Within1.foldl ?_ ?_
    · intro t2 x3 w4
      extract_lets -merge +onlyGivenNames y5
      refine have w6 : Within1 Ma Na ba s₀ y5 := ?_; ?_
      · refine State.rotateBand_within (hF.drop (by decide)) ?_
        refine Within.fst ?_
        assumption
      clear_value y5
      refine Within1.mk ?_
      refine Within.fst ?_
      assumption
    refine Within1.mk ?_
    assumption
  clear_value y0
  refine Within.ite ?_ ?_
  · refine Within.addF .CC_CNT 0 0 rfl (hF.may (by decide)) ?_
    refine Within.fst ?_
    assumption
  refine Within.fst ?_
  assumption

theorem State.modRunning_within {Ma Na ba : Nat} {s₀ : State} {s : State} {f : Pass → Pass}
    (hF : Foot Ma Na ba 0x4 0x0 (0)) (hS : Within Ma Na ba s₀ s) :
    Within Ma Na ba s₀ (State.modRunning s f) := by
  unfold State.modRunning
  refine Within.upd_tt (hF.any (by decide)) ?_
  assumption

theorem State.rotation_within {Ma Na ba : Nat} {s₀ : State} {s : State}
    (hF : Foot Ma Na ba 0x1d30000000000000000036 0x0 (0)) (hS : Within Ma Na ba s₀ s) :
    Within Ma Na ba s₀ (State.rotation s) := by
  unfold State.rotation
  split
  · assumption
  extract_lets -merge +onlyGivenNames y0
  refine Within.ite ?_ ?_
  · assumption
  refine State.modRunning_within (hF.drop (by decide)) ?_
  refine State.rotateAt_within (hF.drop (by decide)) ?_
  assumption

theorem State.takeImm_within {Ma Na ba : Nat} {s₀ : State} {s : State} {seq : Nat}
    (hF : Foot Ma Na ba 0x800000000000000000020 0x0 (0)) (hS : Within Ma Na ba s₀ s) :
    Within Ma Na ba s₀ (State.takeImm s seq) := by
  unfold State.takeImm
  extract_lets -merge +onlyGivenNames y0
  refine Within.foldl ?_ ?_
  · intro t1 x2 w3
    extract_lets -merge +onlyGivenNames y4
    refine have w5 : Within Ma Na ba s₀ y4 := ?_; ?_
    · refine State.takeTargets_within (hF.drop (by decide)) ?_
      assumption
    clear_value y4
    refine Within.upd_cal (hF.any (by decide)) ?_
    assumption
  refine Within.upd_cal (hF.any (by decide)) ?_
  assumption

theorem State.tapInstant_within {Ma Na ba : Nat} {s₀ : State} {s : State}
    (hF : Foot Ma Na ba 0x1900000000000000000026 0x0 (0)) (hS : Within Ma Na ba s₀ s) :
    Within Ma Na ba s₀ (State.tapInstant s) := by
  unfold State.tapInstant
  split
  · assumption
  extract_lets -merge +onlyGivenNames y0
  refine Within.ite ?_ ?_
  · assumption
  refine State.modRunning_within (hF.drop (by decide)) ?_
  refine State.tapStepAt_within (hF.drop (by decide)) ?_
  refine State.takeImm_within (hF.drop (by decide)) ?_
  assumption

theorem State.showRec_within {Ma Na ba : Nat} {s₀ : State} {s : State} {i : Nat}
    (hF : Foot Ma Na ba 0x0 0x1000000000000000000000 (i)) (hS : Within Ma Na ba s₀ s) :
    Within Ma Na ba s₀ (State.showRec s i) := by
  unfold State.showRec
  refine Within.setB .CAL_REC _ 0 rfl (hF.mayOwn (by decide)) ?_
  refine Within.setB .CAL_REC _ 0 rfl (hF.mayOwn (by decide)) ?_
  assumption

theorem State.acceptCycle_within {Ma Na ba : Nat} {s₀ : State} {s : State} {i : Nat} {a : Triple} {b : Triple} {clamped : Bool}
    (hF : Foot Ma Na ba 0xc00000000000000000020 0x3000000000000000000000 (i)) (hS : Within Ma Na ba s₀ s) :
    Within Ma Na ba s₀ (State.acceptCycle s i a b clamped) := by
  unfold State.acceptCycle
  extract_lets -merge +onlyGivenNames y0
  extract_lets -merge +onlyGivenNames y1
  extract_lets -merge +onlyGivenNames y2
  extract_lets -merge +onlyGivenNames y3
  extract_lets -merge +onlyGivenNames y4
  refine have w5 : Within Ma Na ba s₀ y4 := ?_; ?_
  · refine Within.reg .CAL_TAP _ _ rfl (hF.may (by decide)) ?_
    assumption
  clear_value y4
  extract_lets -merge +onlyGivenNames y6
  extract_lets -merge +onlyGivenNames y7
  refine have w8 : Within Ma Na ba s₀ y7 := ?_; ?_
  · refine Within.upd_cal (hF.any (by decide)) ?_
    assumption
  clear_value y7
  extract_lets -merge +onlyGivenNames y9
  refine have w10 : Within Ma Na ba s₀ y9 := ?_; ?_
  · refine Within.addF .CAL_REC _ 0 rfl (hF.mayOwn (by decide)) ?_
    assumption
  clear_value y9
  extract_lets -merge +onlyGivenNames y11
  refine have w12 : Within Ma Na ba s₀ y11 := ?_; ?_
  · refine Within.setF .CAL_REC _ 0 rfl (hF.mayOwn (by decide)) ?_
    assumption
  clear_value y11
  extract_lets -merge +onlyGivenNames y13
  refine have w14 : Within Ma Na ba s₀ y13 := ?_; ?_
  · refine Within.setF .CAL_REC _ 0 rfl (hF.mayOwn (by decide)) ?_
    assumption
  clear_value y13
  extract_lets -merge +onlyGivenNames y15
  refine have w16 : Within Ma Na ba s₀ y15 := ?_; ?_
  · refine Within.reg .CAL_TIME _ 0 rfl (hF.mayOwn (by decide)) ?_
    assumption
  clear_value y15
  refine State.showRec_within (hF.sub (by decide) (by decide)) ?_
  refine Within.addF .CAL_CNT 0 0 rfl (hF.may (by decide)) ?_
  assumption

theorem State.rejectCycle_within {Ma Na ba : Nat} {s₀ : State} {s : State} {i : Nat}
    (hF : Foot Ma Na ba 0x500000000000000000020 0x1000000000000000000000 (i)) (hS : Within Ma Na ba s₀ s) :
    Within Ma Na ba s₀ (State.rejectCycle s i) := by
  unfold State.rejectCycle
  extract_lets -merge +onlyGivenNames y0
  refine have w1 : Within Ma Na ba s₀ y0 := ?_; ?_
  · refine Within.satF .CAL_CNT 0 0 rfl (hF.may (by decide)) ?_
    assumption
  clear_value y0
  extract_lets -merge +onlyGivenNames y2
  refine have w3 : Within Ma Na ba s₀ y2 := ?_; ?_
  · refine Within.satF .CAL_REC _ 0 rfl (hF.mayOwn (by decide)) ?_
    assumption
  clear_value y2
  refine Within.ite ?_ ?_
  · refine State.showRec_within (hF.sub (by decide) (by decide)) ?_
    refine Within.setB .CAL_STATUS 0 0 rfl (hF.may (by decide)) ?_
    refine Within.upd_cal (hF.any (by decide)) ?_
    assumption
  assumption

theorem State.batchDone_within {Ma Na ba : Nat} {s₀ : State} {s : State} {i : Nat} {mean : Int}
    (hF : Foot Ma Na ba 0x1d00000000000000000022 0x2000000000000000000000 (i)) (hS : Within Ma Na ba s₀ s) :
    Within Ma Na ba s₀ (State.batchDone s i mean) := by
  unfold State.batchDone
  extract_lets -merge +onlyGivenNames y0
  refine Within.ite ?_ ?_
  · assumption
  extract_lets -merge +onlyGivenNames y1
  extract_lets -merge +onlyGivenNames y2
  extract_lets -merge +onlyGivenNames y3
  extract_lets -merge +onlyGivenNames y4
  extract_lets -merge +onlyGivenNames y5
  refine have w6 : Within Ma Na ba s₀ y5 := ?_; ?_
  · refine Within.ite ?_ ?_
    · refine Within.setB .CAL_STATUS 0 0 rfl (hF.may (by decide)) ?_
      assumption
    assumption
  clear_value y5
  extract_lets -merge +onlyGivenNames y7
  refine have w8 : Within Ma Na ba s₀ y7 := ?_; ?_
  · refine State.releaseSteps_within (hF.drop (by decide)) ?_
    assumption
  clear_value y7
  extract_lets -merge +onlyGivenNames y9
  refine Within.ite ?_ ?_
  · refine State.setCycle_within (hF.drop (by decide)) ?_
    assumption
  extract_lets -merge +onlyGivenNames y10
  refine have w11 : Within Ma Na ba s₀ y10 := ?_; ?_
  · refine State.setCycle_within (hF.drop (by decide)) ?_
    assumption
  clear_value y10
  refine Within.ite ?_ ?_
  · refine State.acceptCycle_within (hF.sub (by decide) (by decide)) ?_
    assumption
  refine State.rejectCycle_within (hF.sub (by decide) (by decide)) ?_
  assumption

theorem execInjReq_within {Ma Na ba : Nat} {s₀ : State} {t : Nat} {src : Src} {bands : BitVec 32} {refsel : Fin 4} {s : State}
    (hF : Foot Ma Na ba 0x1000030000000000000000010 0x0 (0)) (hS : Within Ma Na ba s₀ (s.advance t)) :
    Ends Ma Na ba s₀ (execInjReq t src bands refsel s) := by
  unfold execInjReq
  refine Ends.mk ?_
  refine State.managed_within (hF.drop (by decide)) ?_ ?_
  · intro t0 w1
    refine State.requestBands_within (hF.drop (by decide)) ?_
    assumption
  assumption

theorem execInjectedConversionStart_within {Ma Na ba : Nat} {s₀ : State} {t : Nat} {band : Fin 32} {s : State}
    (hF : Foot Ma Na ba 0x30 0x0 (0)) (hS : Within Ma Na ba s₀ (s.advance t)) :
    Ends Ma Na ba s₀ (execInjectedConversionStart t band s) := by
  unfold execInjectedConversionStart
  refine Ends.mk ?_
  refine State.injStart_within (hF.drop (by decide)) ?_
  assumption

theorem execInjectedResult_within {Ma Na ba : Nat} {s₀ : State} {t : Nat} {band : Fin 32} {code : Fin 4096} {others : List (Nat × Nat)} {s : State}
    (hF : Foot Ma Na ba 0x14 0x0 (0)) (hS : Within Ma Na ba s₀ (s.advance t)) :
    Ends Ma Na ba s₀ (execInjectedResult t band code others s) := by
  unfold execInjectedResult
  refine Ends.mk ?_
  refine State.injResult_within (hF.drop (by decide)) ?_
  assumption

theorem execSliceRotation_within {Ma Na ba : Nat} {s₀ : State} {t : Nat} {s : State}
    (hF : Foot Ma Na ba 0x1d30000000000000000036 0x0 (0)) (hS : Within Ma Na ba s₀ (s.advance t)) :
    Ends Ma Na ba s₀ (execSliceRotation t s) := by
  unfold execSliceRotation
  refine Ends.mk ?_
  refine State.rotation_within (hF.drop (by decide)) ?_
  assumption

theorem execTapStep_within {Ma Na ba : Nat} {s₀ : State} {t : Nat} {s : State}
    (hF : Foot Ma Na ba 0x1900000000000000000026 0x0 (0)) (hS : Within Ma Na ba s₀ (s.advance t)) :
    Ends Ma Na ba s₀ (execTapStep t s) := by
  unfold execTapStep
  refine Ends.mk ?_
  refine State.tapInstant_within (hF.drop (by decide)) ?_
  assumption

theorem execCalBatchDone_within {Ma Na ba : Nat} {s₀ : State} {t : Nat} {conv : Fin 33024} {mean : ℤ} {s : State}
    (hF : Foot Ma Na ba 0x1d00000000000000000022 0x2000000000000000000000 (conv.val)) (hS : Within Ma Na ba s₀ (s.advance t)) :
    Ends Ma Na ba s₀ (execCalBatchDone t conv mean s) := by
  unfold execCalBatchDone
  refine Ends.mk ?_
  refine State.batchDone_within (hF.sub (by decide) (by decide)) ?_
  assumption

/-! ## Convert -/

theorem State.setPass_within {Ma Na ba : Nat} {s₀ : State} {s : State} {p : Pass}
    (hF : Foot Ma Na ba 0x4 0x0 (0)) (hS : Within Ma Na ba s₀ s) :
    Within Ma Na ba s₀ (State.setPass s p) := by
  unfold State.setPass
  refine Within.upd_tt (hF.any (by decide)) ?_
  assumption

theorem State.beginPass_within {Ma Na ba : Nat} {s₀ : State} {s : State} {p : Pass} {x : Nat}
    (hF : Foot Ma Na ba 0x19100000000000002000b6 0x0 (0)) (hS : Within Ma Na ba s₀ s) :
    Within Ma Na ba s₀ (State.beginPass s p x) := by
  unfold State.beginPass
  extract_lets -merge +onlyGivenNames y0
  extract_lets -merge +onlyGivenNames y1
  refine have w2 : Within Ma Na ba s₀ y1 := ?_; ?_
  · refine Within.ite ?_ ?_
    · refine State.rerunBatches_within (hF.drop (by decide)) ?_
      refine State.releaseSteps_within (hF.drop (by decide)) ?_
      assumption
    assumption
  clear_value y1
  extract_lets -merge +onlyGivenNames y3
  refine have w4 : Within Ma Na ba s₀ y3 := ?_; ?_
  · refine Within.setF .CC_STATUS 0 0 rfl (hF.may (by decide)) ?_
    assumption
  clear_value y3
  extract_lets -merge +onlyGivenNames y5
  refine have w6 : Within Ma Na ba s₀ y5 := ?_; ?_
  · refine Within.setF .CC_STATUS 0 0 rfl (hF.may (by decide)) ?_
    assumption
  clear_value y5
  extract_lets -merge +onlyGivenNames y7
  refine have w8 : Within Ma Na ba s₀ y7 := ?_; ?_
  · refine Within.setB .CC_STATUS 0 0 rfl (hF.may (by decide)) ?_
    assumption
  clear_value y7
  extract_lets -merge +onlyGivenNames y9
  extract_lets -merge +onlyGivenNames y10
  extract_lets -merge +onlyGivenNames y11
  extract_lets -merge +onlyGivenNames y12
  refine have w13 : Within Ma Na ba s₀ y12 := ?_; ?_
  · refine State.setPass_within (hF.drop (by decide)) ?_
    assumption
  clear_value y12
  refine Within.upd_pipe_free (hF.any (by decide)) (hF.any (by decide)) (Nat.le_add_right _ _) ?_
  assumption

theorem State.passStart_within {Ma Na ba : Nat} {s₀ : State} {s : State}
    (hF : Foot Ma Na ba 0x19100000000000002000b6 0x0 (0)) (hS : Within Ma Na ba s₀ s) :
    Within Ma Na ba s₀ (State.passStart s) := by
  unfold State.passStart
  split
  · assumption
  refine State.beginPass_within (hF.drop (by decide)) ?_
  assumption

theorem State.cutFrame_within {Ma Na ba : Nat} {s₀ : State} {s : State} {c : Nat} {seq : Nat} {cont : Nat}
    (hF : Foot Ma Na ba 0x400000000000000000000401003080000000000000000001f80 0x0 (0)) (hS : Within Ma Na ba s₀ s) :
    Within Ma Na ba s₀ (State.cutFrame s c seq cont) := by
  unfold State.cutFrame
  extract_lets -merge +onlyGivenNames y0
  extract_lets -merge +onlyGivenNames y1
  extract_lets -merge +onlyGivenNames y2
  extract_lets -merge +onlyGivenNames y3
  extract_lets -merge +onlyGivenNames y4
  refine have w5 : Within Ma Na ba s₀ y4 := ?_; ?_
  · refine Within.upd_pipe (hF.any (by decide)) ?_
    assumption
  clear_value y4
  extract_lets -merge +onlyGivenNames y6
  refine have w7 : Within Ma Na ba s₀ y6 := ?_; ?_
  · refine Within.satF .PIPE_CNT 0 0 rfl (hF.may (by decide)) ?_
    refine Within.setB .PIPE_STATUS 0 0 rfl (hF.may (by decide)) ?_
    assumption
  clear_value y6
  refine State.endDone_within (hF.drop (by decide)) ?_
  refine Within.ite ?_ ?_
  · assumption
  refine State.countDrop_within (hF.drop (by decide)) ?_
  assumption

theorem State.cutTo_within {Ma Na ba : Nat} {s₀ : State} {s : State} {stripe x n : Nat}
    (hF : Foot Ma Na ba 0x400000000000000021000401003080000000000000000001f80 0x0 (0)) (hS : Within Ma Na ba s₀ s) :
    Within Ma Na ba s₀ (s.cutTo stripe x n) := by
  induction n generalizing s with
  | zero => exact hS
  | succ n ih =>
    unfold State.cutTo
    refine Within.ite hS ?_
    split
    · exact hS
    · exact ih (State.cutFrame_within (hF.drop (by decide)) hS)

theorem State.serveFor_within {Ma Na ba : Nat} {s₀ : State} {s : State} {st : RegFile} {stripe : Nat} {n : Nat}
    (hF : Foot Ma Na ba 0x80 0x0 (0)) (hS : Within Ma Na ba s₀ s) :
    Within Ma Na ba s₀ (State.serveFor s st stripe n) := by
  unfold State.serveFor
  refine Within.ite ?_ ?_
  · refine Within.upd_pipe (hF.any (by decide)) ?_
    assumption
  assumption

theorem State.settleBack_within {Ma Na ba : Nat} {s₀ : State} {s : State}
    (hF : Foot Ma Na ba 0x80 0x0 (0)) (hS : Within Ma Na ba s₀ s) :
    Within Ma Na ba s₀ (State.settleBack s) := by
  unfold State.settleBack
  extract_lets -merge +onlyGivenNames y0
  refine have w1 : Within Ma Na ba s₀ y0 := ?_; ?_
  · refine Within.foldl ?_ ?_
    · intro t2 x3 w4
      refine State.serveFor_within (hF.drop (by decide)) ?_
      assumption
    assumption
  clear_value y0
  refine Within.upd_pipe (hF.any (by decide)) ?_
  assumption

theorem State.loadStripe_within {Ma Na ba : Nat} {s₀ : State} {s : State} {v : View} {q : Nat} {x : Nat} {tRow : Nat} {stripe : Nat}
    (hF : Foot Ma Na ba 0x400000000000000021000401003080000000000000000001f84 0x0 (0)) (hS : Within Ma Na ba s₀ s) :
    Within Ma Na ba s₀ (State.loadStripe s v q x tRow stripe) := by
  unfold State.loadStripe
  extract_lets -merge +onlyGivenNames y0
  extract_lets -merge +onlyGivenNames y1
  refine have w2 : Within Ma Na ba s₀ y1 := ?_; ?_
  · refine State.serveFor_within (hF.drop (by decide)) ?_
    assumption
  clear_value y1
  extract_lets -merge +onlyGivenNames y3
  extract_lets -merge +onlyGivenNames y4
  extract_lets -merge +onlyGivenNames y5
  refine have w6 : Within Ma Na ba s₀ y5 := ?_; ?_
  · refine State.serveFor_within (hF.drop (by decide)) ?_
    refine Within.upd_pipe (hF.any (by decide)) ?_
    assumption
  clear_value y5
  extract_lets -merge +onlyGivenNames y7
  refine have w8 : Within Ma Na ba s₀ y7 := ?_; ?_
  · refine State.cutTo_within (hF.drop (by decide)) ?_
    assumption
  clear_value y7
  extract_lets -merge +onlyGivenNames y9
  refine State.modRunning_within (hF.drop (by decide)) ?_
  assumption

theorem State.loadSlot_within {Ma Na ba : Nat} {s₀ : State} {s : State} {v : View} {q : Nat} {x : Nat} {tRow : Nat}
    (hF : Foot Ma Na ba 0x400000000000000021000401003080000000000000000001f84 0x0 (0)) (hS : Within Ma Na ba s₀ s) :
    Within Ma Na ba s₀ (State.loadSlot s v q x tRow) := by
  unfold State.loadSlot
  extract_lets -merge +onlyGivenNames y0
  refine have w1 : Within Ma Na ba s₀ y0 := ?_; ?_
  · refine Within.foldl ?_ ?_
    · intro t2 x3 w4
      refine State.loadStripe_within (hF.drop (by decide)) ?_
      assumption
    assumption
  clear_value y0
  extract_lets -merge +onlyGivenNames y5
  refine have w6 : Within Ma Na ba s₀ y5 := ?_; ?_
  · refine State.modRunning_within (hF.drop (by decide)) ?_
    assumption
  clear_value y5
  refine Within.upd_pipe (hF.any (by decide)) ?_
  assumption

theorem State.readRow_within {Ma Na ba : Nat} {s₀ : State} {s : State} {v : View} {q : Nat} {x : Nat} {light : List (Nat × Nat)} {slot : Nat}
    (hF : Foot Ma Na ba 0x18 0x0 (0)) (hS : Within Ma Na ba s₀ s) :
    Within Ma Na ba s₀ (State.readRow s v q x light slot) := by
  unfold State.readRow
  extract_lets -merge +onlyGivenNames y0
  extract_lets -merge +onlyGivenNames y1
  extract_lets -merge +onlyGivenNames y2
  extract_lets -merge +onlyGivenNames y3
  extract_lets -merge +onlyGivenNames y4
  refine Within.upd_px_cc (hF.any (by decide)) (hF.any (by decide)) ?_
  assumption

theorem State.firstRow_within {Ma Na ba : Nat} {s₀ : State} {s : State} {v : View} {x : Nat}
    (hF : Foot Ma Na ba 0x30 0x0 (0)) (hS : Within Ma Na ba s₀ s) :
    Within Ma Na ba s₀ (State.firstRow s v x) := by
  unfold State.firstRow
  extract_lets -merge +onlyGivenNames y0
  extract_lets -merge +onlyGivenNames y1
  refine have w2 : Within Ma Na ba s₀ y1 := ?_; ?_
  · refine Within.ite ?_ ?_
    · refine Within.foldl ?_ ?_
      · intro t3 x4 w5
        refine State.calLose_within (hF.drop (by decide)) ?_
        assumption
      assumption
    assumption
  clear_value y1
  refine Within.upd_cc (hF.any (by decide)) ?_
  assumption

theorem State.track_within {Ma Na ba : Nat} {s₀ : State} {s : State} {v : View} {q : Nat} {x : Nat}
    (hF : Foot Ma Na ba 0x1000030000000000000000010 0x0 (0)) (hS : Within Ma Na ba s₀ s) :
    Within Ma Na ba s₀ (State.track s v q x) := by
  unfold State.track
  refine Within.ite ?_ ?_
  · refine Within.foldl ?_ ?_
    · intro t0 x1 w2
      refine State.requestInj_within (hF.drop (by decide)) ?_
      assumption
    assumption
  assumption

theorem State.rowSlot_within {Ma Na ba : Nat} {s₀ : State} {s : State} {light : List (Nat × Nat)}
    (hF : Foot Ma Na ba 0x400000000000000021000401003080030000000000000001fbc 0x0 (0)) (hS : Within Ma Na ba s₀ s) :
    Within Ma Na ba s₀ (State.rowSlot s light) := by
  unfold State.rowSlot
  split
  · assumption
  extract_lets -merge +onlyGivenNames y0
  extract_lets -merge +onlyGivenNames y1
  refine have w2 : Within Ma Na ba s₀ y1 := ?_; ?_
  · refine Within.ite ?_ ?_
    · refine State.firstRow_within (hF.drop (by decide)) ?_
      assumption
    assumption
  clear_value y1
  extract_lets -merge +onlyGivenNames y3
  refine have w4 : Within Ma Na ba s₀ y3 := ?_; ?_
  · refine Within.foldl ?_ ?_
    · intro t5 x6 w7
      refine State.readRow_within (hF.drop (by decide)) ?_
      assumption
    assumption
  clear_value y3
  extract_lets -merge +onlyGivenNames y8
  refine have w9 : Within Ma Na ba s₀ y8 := ?_; ?_
  · refine State.modRunning_within (hF.drop (by decide)) ?_
    assumption
  clear_value y8
  refine State.loadSlot_within (hF.drop (by decide)) ?_
  refine State.track_within (hF.drop (by decide)) ?_
  assumption

theorem State.deliver_within {Ma Na ba : Nat} {s₀ : State} {s : State}
    (hF : Foot Ma Na ba 0x90 0x0 (0)) (hS : Within Ma Na ba s₀ s) :
    Within Ma Na ba s₀ (State.deliver s) := by
  unfold State.deliver
  split
  · assumption
  refine Within.upd_cc_pipe (hF.any (by decide)) (hF.any (by decide)) ?_
  assumption

theorem State.passEnd_within {Ma Na ba : Nat} {s₀ : State} {s : State}
    (hF : Foot Ma Na ba 0x100000000000000000000000000000000000010008000000000002414 0x0 (0)) (hS : Within Ma Na ba s₀ s) :
    Within Ma Na ba s₀ (State.passEnd s) := by
  unfold State.passEnd
  split
  · assumption
  extract_lets -merge +onlyGivenNames y0
  extract_lets -merge +onlyGivenNames y1
  extract_lets -merge +onlyGivenNames y2
  extract_lets -merge +onlyGivenNames y3
  refine have w4 : Within Ma Na ba s₀ y3 := ?_; ?_
  · refine Within.upd_tt_cc (hF.any (by decide)) (hF.any (by decide)) ?_
    assumption
  clear_value y3
  extract_lets -merge +onlyGivenNames y5
  refine have w6 : Within Ma Na ba s₀ y5 := ?_; ?_
  · refine State.modRunning_within (hF.drop (by decide)) ?_
    assumption
  clear_value y5
  extract_lets -merge +onlyGivenNames y7
  refine have w8 : Within Ma Na ba s₀ y7 := ?_; ?_
  · refine Within.setB .CC_STATUS 0 0 rfl (hF.may (by decide)) ?_
    assumption
  clear_value y7
  extract_lets -merge +onlyGivenNames y9
  extract_lets -merge +onlyGivenNames y10
  refine have w11 : Within Ma Na ba s₀ y10 := ?_; ?_
  · refine Within.ite ?_ ?_
    · refine State.frameEnd_within (hF.drop (by decide)) ?_
      assumption
    assumption
  clear_value y10
  refine State.showBanks_within (hF.drop (by decide)) ?_
  refine State.ferryEvent_within (hF.drop (by decide)) ?_
  refine State.pioEvent_within (hF.drop (by decide)) ?_
  assumption

theorem execConversionPassStart_within {Ma Na ba : Nat} {s₀ : State} {t : Nat} {s : State}
    (hF : Foot Ma Na ba 0x19100000000000002000b6 0x0 (0)) (hS : Within Ma Na ba s₀ (s.advance t)) :
    Ends Ma Na ba s₀ (execConversionPassStart t s) := by
  unfold execConversionPassStart
  refine Ends.mk ?_
  refine State.passStart_within (hF.drop (by decide)) ?_
  assumption

theorem execRowSlotStart_within {Ma Na ba : Nat} {s₀ : State} {slot : SlotLight} {s : State}
    (hF : Foot Ma Na ba 0x400000000000000021000401003080030000000000000001fbc 0x0 (0)) (hS : Within Ma Na ba s₀ (s.advance slot.t)) :
    Ends Ma Na ba s₀ (execRowSlotStart slot s) := by
  unfold execRowSlotStart
  refine Ends.mk ?_
  refine State.rowSlot_within (hF.drop (by decide)) ?_
  assumption

theorem execSampleDelivery_within {Ma Na ba : Nat} {s₀ : State} {t : Nat} {s : State}
    (hF : Foot Ma Na ba 0x90 0x0 (0)) (hS : Within Ma Na ba s₀ (s.advance t)) :
    Ends Ma Na ba s₀ (execSampleDelivery t s) := by
  unfold execSampleDelivery
  refine Ends.mk ?_
  refine State.onStripes_within (hF.drop (by decide)) ?_ ?_
  · intro t0 w1
    refine State.deliver_within (hF.drop (by decide)) ?_
    assumption
  assumption

theorem execConversionEnd_within {Ma Na ba : Nat} {s₀ : State} {t : Nat} {s : State}
    (hF : Foot Ma Na ba 0x100000000000000000000000000000000000010008000000000002494 0x0 (0)) (hS : Within Ma Na ba s₀ (s.advance t)) :
    Ends Ma Na ba s₀ (execConversionEnd t s) := by
  unfold execConversionEnd
  refine Ends.mk ?_
  refine State.passEnd_within (hF.drop (by decide)) ?_
  assumption

/-! ## Pipeline -/

theorem State.histEcc_within {Ma Na ba : Nat} {s₀ : State} {s : State} {v : View} {c : Nat} {i : Nat} {seq : Nat} {slot : Nat} {late : Bool}
    (hF : Foot Ma Na ba 0x3000000000000000000000000000 0x0 (0)) (hS : Within Ma Na ba s₀ s) :
    Within Ma Na ba s₀ (State.histEcc s v c i seq slot late) := by
  unfold State.histEcc
  split
  · assumption
  extract_lets -merge +onlyGivenNames y0
  refine Within.foldl ?_ ?_
  · intro t1 x2 w3
    refine State.countEcc_within (hF.drop (by decide)) ?_
    assumption
  assumption

theorem State.writeHistory_within {Ma Na ba : Nat} {s₀ : State} {s : State} {v : View} {h : History} {y : Nat} {codes : List Nat}
    (hF : Foot Ma Na ba 0x380 0x0 (0)) (hS : Within Ma Na ba s₀ s) :
    Within Ma Na ba s₀ (State.writeHistory s v h y codes) := by
  unfold State.writeHistory
  extract_lets -merge +onlyGivenNames y0
  extract_lets -merge +onlyGivenNames y1
  extract_lets -merge +onlyGivenNames y2
  refine have w3 : Within Ma Na ba s₀ y2 := ?_; ?_
  · refine Within.setBytes (hF.any (by decide)) (hF.any (by decide)) ?_
    assumption
  clear_value y2
  refine Within.upd_pipe (hF.any (by decide)) ?_
  assumption

theorem State.noteHistory_within {Ma Na ba : Nat} {s₀ : State} {s : State} {v : View} {c : Nat} {i : Nat} {seq : Nat} {hist : Nat → HistOf}
    (hF : Foot Ma Na ba 0x380 0x0 (0)) (hS : Within Ma Na ba s₀ s) :
    Within Ma Na ba s₀ (State.noteHistory s v c i seq hist) := by
  unfold State.noteHistory
  refine Within.ite ?_ ?_
  · refine Within.foldl ?_ ?_
    · intro t0 x1 w2
      split
      · refine Within.ite ?_ ?_
        · refine Within.foldl ?_ ?_
          · intro t3 x4 w5
            refine State.writeHistory_within (hF.drop (by decide)) ?_
            assumption
          assumption
        assumption
      assumption
    assumption
  assumption

theorem State.commitHistory_within {Ma Na ba : Nat} {s₀ : State} {s : State} {v : View} {c : Nat}
    (hF : Foot Ma Na ba 0x380 0x0 (0)) (hS : Within Ma Na ba s₀ s) :
    Within Ma Na ba s₀ (State.commitHistory s v c) := by
  unfold State.commitHistory
  extract_lets -merge +onlyGivenNames y0
  extract_lets -merge +onlyGivenNames y1
  extract_lets -merge +onlyGivenNames y2
  refine have w3 : Within Ma Na ba s₀ y2 := ?_; ?_
  · refine Within.foldl ?_ ?_
    · intro t4 x5 w6
      refine State.historyHeader_within (hF.drop (by decide)) ?_
      assumption
    assumption
  clear_value y2
  refine Within.upd_pipe (hF.any (by decide)) ?_
  assumption

theorem State.modProgress_within {Ma Na ba : Nat} {s₀ : State} {s : State} {p : Progress} {f : Progress → Progress}
    (hF : Foot Ma Na ba 0x80 0x0 (0)) (hS : Within Ma Na ba s₀ s) :
    Within Ma Na ba s₀ (State.modProgress s p f) := by
  unfold State.modProgress
  refine Within.upd_pipe (hF.any (by decide)) ?_
  assumption

theorem State.noteSeamMiss_within {Ma Na ba : Nat} {s₀ : State} {s : State} {p : Progress}
    (hF : Foot Ma Na ba 0x3000000000000000000000080 0x0 (0)) (hS : Within Ma Na ba s₀ s) :
    Within Ma Na ba s₀ (State.noteSeamMiss s p) := by
  unfold State.noteSeamMiss
  extract_lets -merge +onlyGivenNames y0
  refine have w1 : Within Ma Na ba s₀ y0 := ?_; ?_
  · refine Within.setB .PIPE_STATUS 0 0 rfl (hF.may (by decide)) ?_
    assumption
  clear_value y0
  extract_lets -merge +onlyGivenNames y2
  refine have w3 : Within Ma Na ba s₀ y2 := ?_; ?_
  · refine Within.ite ?_ ?_
    · assumption
    refine Within.satF .PIPE_CNT 0 0 rfl (hF.may (by decide)) ?_
    assumption
  clear_value y2
  refine State.modProgress_within (hF.drop (by decide)) ?_
  assumption

theorem State.noteHistMiss_within {Ma Na ba : Nat} {s₀ : State} {s : State} {p : Progress} {miss : Bool}
    (hF : Foot Ma Na ba 0x3000000000000000000000080 0x0 (0)) (hS : Within Ma Na ba s₀ s) :
    Within Ma Na ba s₀ (State.noteHistMiss s p miss) := by
  unfold State.noteHistMiss
  refine Within.ite ?_ ?_
  · refine State.modProgress_within (hF.drop (by decide)) ?_
    refine Within.satF .PIPE_CNT 0 0 rfl (hF.may (by decide)) ?_
    refine Within.setB .PIPE_STATUS 0 0 rfl (hF.may (by decide)) ?_
    assumption
  assumption

theorem State.noteUnrepaired_within {Ma Na ba : Nat} {s₀ : State} {s : State} {n : Nat}
    (hF : Foot Ma Na ba 0x3000000000000000000000000 0x0 (0)) (hS : Within Ma Na ba s₀ s) :
    Within Ma Na ba s₀ (State.noteUnrepaired s n) := by
  unfold State.noteUnrepaired
  refine Within.ite ?_ ?_
  · assumption
  refine Within.satF .PIPE_CNT 0 0 rfl (hF.may (by decide)) ?_
  refine Within.setB .PIPE_STATUS 0 0 rfl (hF.may (by decide)) ?_
  assumption

theorem State.processLine_within {Ma Na ba : Nat} {s₀ : State} {s : State} {v : View} {p : Progress} {line : Nat} {late : Bool}
    (hF : Foot Ma Na ba 0x3003000000000000000000000380 0x0 (0)) (hS : Within Ma Na ba s₀ s) :
    Within Ma Na ba s₀ (State.processLine s v p line late) := by
  unfold State.processLine
  extract_lets -merge +onlyGivenNames y0
  extract_lets -merge +onlyGivenNames y1
  extract_lets -merge +onlyGivenNames y2
  extract_lets -merge +onlyGivenNames y3
  extract_lets -merge +onlyGivenNames y4
  extract_lets -merge +onlyGivenNames y5
  extract_lets -merge +onlyGivenNames y6
  extract_lets -merge +onlyGivenNames y7
  extract_lets -merge +onlyGivenNames y8
  refine have w9 : Within Ma Na ba s₀ y8 := ?_; ?_
  · refine Within.foldl ?_ ?_
    · intro t10 x11 w12
      refine State.histEcc_within (hF.drop (by decide)) ?_
      assumption
    assumption
  clear_value y8
  extract_lets -merge +onlyGivenNames y13
  refine have w14 : Within Ma Na ba s₀ y13 := ?_; ?_
  · refine State.noteHistory_within (hF.drop (by decide)) ?_
    refine State.noteUnrepaired_within (hF.drop (by decide)) ?_
    refine State.noteHistMiss_within (hF.drop (by decide)) ?_
    assumption
  clear_value y13
  extract_lets -merge +onlyGivenNames y15
  refine have w16 : Within Ma Na ba s₀ y15 := ?_; ?_
  · refine State.modProgress_within (hF.drop (by decide)) ?_
    assumption
  clear_value y15
  extract_lets -merge +onlyGivenNames y17
  extract_lets -merge +onlyGivenNames y18
  refine have w19 : Within Ma Na ba s₀ y18 := ?_; ?_
  · refine Within.upd_pipe (hF.any (by decide)) ?_
    assumption
  clear_value y18
  refine Within.ite ?_ ?_
  · refine State.commitHistory_within (hF.drop (by decide)) ?_
    assumption
  assumption

theorem State.releaseLine_within {Ma Na ba : Nat} {s₀ : State} {s : State} {c : Nat} {line : Nat} {late : Bool}
    (hF : Foot Ma Na ba 0x3003000000000000000000000380 0x0 (0)) (hS : Within Ma Na ba s₀ s) :
    Within Ma Na ba s₀ (State.releaseLine s c line late) := by
  unfold State.releaseLine
  split
  · assumption
  extract_lets -merge +onlyGivenNames y0
  extract_lets -merge +onlyGivenNames y1
  refine Within.ite ?_ ?_
  · assumption
  refine Within.ite ?_ ?_
  · refine Within.ite ?_ ?_
    · assumption
    refine Within.upd_pipe (hF.any (by decide)) ?_
    assumption
  refine State.processLine_within (hF.drop (by decide)) ?_
  assumption

theorem State.seamTimeout_within {Ma Na ba : Nat} {s₀ : State} {s : State}
    (hF : Foot Ma Na ba 0x3003000000000000000000000380 0x0 (0)) (hS : Within Ma Na ba s₀ s) :
    Within Ma Na ba s₀ (State.seamTimeout s) := by
  unfold State.seamTimeout
  split
  · assumption
  extract_lets -merge +onlyGivenNames y0
  extract_lets -merge +onlyGivenNames y1
  refine have w2 : Within Ma Na ba s₀ y1 := ?_; ?_
  · refine Within.upd_pipe (hF.any (by decide)) ?_
    assumption
  clear_value y1
  split
  · assumption
  extract_lets -merge +onlyGivenNames y3
  refine Within.ite ?_ ?_
  · refine State.processLine_within (hF.drop (by decide)) ?_
    refine State.noteSeamMiss_within (hF.drop (by decide)) ?_
    assumption
  refine State.processLine_within (hF.drop (by decide)) ?_
  assumption

theorem State.placeLine_within {Ma Na ba : Nat} {s₀ : State} {s : State} {p : Progress} {l : Line} {k : Nat}
    (hF : Foot Ma Na ba 0x400000000000000021000401000080000000000000000001f80 0x0 (0)) (hS : Within Ma Na ba s₀ s) :
    Within Ma Na ba s₀ (State.placeLine s p l k) := by
  unfold State.placeLine
  refine Within.ite ?_ ?_
  · refine State.previewLine_within (hF.drop (by decide)) ?_
    assumption
  refine Within.foldl ?_ ?_
  · intro t0 x1 w2
    refine State.placePart_within (hF.drop (by decide)) ?_
    assumption
  assumption

theorem State.enterLanding_within {Ma Na ba : Nat} {s₀ : State} {s : State}
    (hF : Foot Ma Na ba 0x400000000000000021000401000080000000000000000001f80 0x0 (0)) (hS : Within Ma Na ba s₀ s) :
    Within Ma Na ba s₀ (State.enterLanding s) := by
  unfold State.enterLanding
  split
  · assumption
  extract_lets -merge +onlyGivenNames y0
  extract_lets -merge +onlyGivenNames y1
  extract_lets -merge +onlyGivenNames y2
  refine have w3 : Within Ma Na ba s₀ y2 := ?_; ?_
  · refine Within.upd_pipe (hF.any (by decide)) ?_
    assumption
  clear_value y2
  split
  · assumption
  extract_lets -merge +onlyGivenNames y4
  refine have w5 : Within Ma Na ba s₀ y4 := ?_; ?_
  · refine Within.ite ?_ ?_
    · assumption
    refine State.placeLine_within (hF.drop (by decide)) ?_
    assumption
  clear_value y4
  refine Within.ite ?_ ?_
  · refine State.endDone_within (hF.drop (by decide)) ?_
    refine State.modProgress_within (hF.drop (by decide)) ?_
    refine State.mirrorLine_within (hF.drop (by decide)) ?_
    assumption
  assumption

theorem State.publishMean_within {Ma Na ba : Nat} {s₀ : State} {s : State} {slot : Nat} {entries : List Nat} {hdr : Word}
    (hF : Foot Ma Na ba 0x0 0x600000000000000000000000000 (slot)) (hS : Within Ma Na ba s₀ s) :
    Within Ma Na ba s₀ (State.publishMean s slot entries hdr) := by
  unfold State.publishMean
  refine Within.reg .PIPE_MEAN_HDR _ 0 rfl (hF.mayOwn (by decide)) ?_
  refine Within.block_PIPE_MEAN (hF.mayOwn (by decide)) (List.length_take_le _ _) ?_
  assumption

theorem State.publishBlack_within {Ma Na ba : Nat} {s₀ : State} {s : State} {p : Pass}
    (hF : Foot Ma Na ba 0x8000000000000000000000000 0x0 (0)) (hS : Within Ma Na ba s₀ s) :
    Within Ma Na ba s₀ (State.publishBlack s p) := by
  unfold State.publishBlack
  refine Within.foldl ?_ ?_
  · intro t0 x1 w2
    refine Within.foldl ?_ ?_
    · intro t3 x4 w5
      refine Within.reg .PIPE_BLACK _ _ rfl (hF.may (by decide)) ?_
      assumption
    assumption
  assumption

theorem State.publishStats_within {Ma Na ba : Nat} {s₀ : State} {s : State} {p : Progress}
    (hF : Foot Ma Na ba 0x80 0x100000000000000000000000000 (p.ctx)) (hS : Within Ma Na ba s₀ s) :
    Within Ma Na ba s₀ (State.publishStats s p) := by
  unfold State.publishStats
  split
  · refine State.modProgress_within (hF.drop (by decide)) ?_
    refine Within.block_PIPE_STATS (hF.mayOwn (by decide)) (Nat.le_of_eq (statWords_length _ _ _ _)) ?_
    assumption
  assumption

theorem State.publishRecords_within {Ma Na ba : Nat} {s₀ : State} {s : State}
    (hF : Foot Ma Na ba 0x100000000000000000000000080 0x0 (0)) (hS : Within Ma Na ba s₀ s) :
    Within Ma Na ba s₀ (State.publishRecords s) := by
  unfold State.publishRecords
  refine Within.foldl ?_ ?_
  · intro t0 x1 w2
    refine State.publishStats_within (hF.drop (by decide)) ?_
    assumption
  assumption

theorem State.publishMaps_within {Ma Na ba : Nat} {s₀ : State} {s : State} {f : Frame}
    (hF : Foot Ma Na ba 0x60c000000000000000000000084 0x0 (0)) (hS : Within Ma Na ba s₀ s) :
    Within Ma Na ba s₀ (State.publishMaps s f) := by
  unfold State.publishMaps
  extract_lets -merge +onlyGivenNames y0
  extract_lets -merge +onlyGivenNames y1
  extract_lets -merge +onlyGivenNames y2
  extract_lets -merge +onlyGivenNames y3
  extract_lets -merge +onlyGivenNames y4
  extract_lets -merge +onlyGivenNames y5
  refine have w6 : Within Ma Na ba s₀ y5 := ?_; ?_
  · dsimp -zeta only [y5]
    split
    · refine State.publishBlack_within (hF.drop (by decide)) ?_
      assumption
    assumption
  clear_value y5
  extract_lets -merge +onlyGivenNames y7
  refine have w8 : Within Ma Na ba s₀ y7 := ?_; ?_
  · refine State.setFrame_within (hF.drop (by decide)) ?_
    refine Within.reg .PIPE_LOAD 0 0 rfl (hF.may (by decide)) ?_
    refine State.publishMean_within (hF.drop (by decide)) ?_
    refine State.publishMean_within (hF.drop (by decide)) ?_
    assumption
  clear_value y7
  refine Within.ite ?_ ?_
  · refine Within.upd_pipe (hF.any (by decide)) ?_
    assumption
  assumption

theorem State.retireFrame_within {Ma Na ba : Nat} {s₀ : State} {s : State} {f : Frame}
    (hF : Foot Ma Na ba 0x100000000000000000000000000000000000000000000000000000484 0x0 (0)) (hS : Within Ma Na ba s₀ s) :
    Within Ma Na ba s₀ (State.retireFrame s f) := by
  unfold State.retireFrame
  extract_lets -merge +onlyGivenNames y0
  extract_lets -merge +onlyGivenNames y1
  extract_lets -merge +onlyGivenNames y2
  extract_lets -merge +onlyGivenNames y3
  refine have w4 : Within Ma Na ba s₀ y3 := ?_; ?_
  · refine Within.upd_tt_pipe (hF.any (by decide)) (hF.any (by decide)) ?_
    assumption
  clear_value y3
  refine State.showBanks_within (hF.drop (by decide)) ?_
  refine State.ferryEvent_within (hF.drop (by decide)) ?_
  refine State.pruneProgress_within (hF.drop (by decide)) ?_
  assumption

theorem State.snapshot_within {Ma Na ba : Nat} {s₀ : State} {s : State}
    (hF : Foot Ma Na ba 0x10000000000000000000000000000070c000000000000000000000484 0x0 (0)) (hS : Within Ma Na ba s₀ s) :
    Within Ma Na ba s₀ (State.snapshot s) := by
  unfold State.snapshot
  extract_lets -merge +onlyGivenNames y0
  refine have w1 : Within Ma Na ba s₀ y0 := ?_; ?_
  · refine State.publishRecords_within (hF.drop (by decide)) ?_
    assumption
  clear_value y0
  extract_lets -merge +onlyGivenNames y2
  refine have w3 : Within Ma Na ba s₀ y2 := ?_; ?_
  · refine Within.foldl ?_ ?_
    · intro t4 x5 w6
      refine State.publishMaps_within (hF.drop (by decide)) ?_
      assumption
    assumption
  clear_value y2
  refine Within.foldl ?_ ?_
  · intro t7 x8 w9
    refine State.retireFrame_within (hF.drop (by decide)) ?_
    assumption
  assumption

theorem State.deriveMap_within {Ma Na ba : Nat} {s₀ : State} {s : State}
    (hF : Foot Ma Na ba 0x400000000000000000000000000000000000000000000000000000082 0x0 (0)) (hS : Within Ma Na ba s₀ s) :
    Within Ma Na ba s₀ (State.deriveMap s) := by
  unfold State.deriveMap
  split
  · assumption
  extract_lets -merge +onlyGivenNames y0
  extract_lets -merge +onlyGivenNames y1
  extract_lets -merge +onlyGivenNames y2
  extract_lets -merge +onlyGivenNames y3
  refine have w4 : Within Ma Na ba s₀ y3 := ?_; ?_
  · refine Within.upd_pipe (hF.any (by decide)) ?_
    assumption
  clear_value y3
  refine Within.ite ?_ ?_
  · assumption
  extract_lets -merge +onlyGivenNames y5
  refine Within.reg .CFG_GW_CTIME 0 0 rfl (hF.may (by decide)) ?_
  refine Within.upd_gw (hF.any (by decide)) ?_
  assumption

theorem State.latchBlock_within {Ma Na ba : Nat} {s₀ : State} {s : State} {src : Src} {base : Nat} {size : Nat}
    (hF : Foot Ma Na ba 0x80 0x0 (0)) (hS : Within Ma Na ba s₀ s) :
    Within Ma Na ba s₀ (State.latchBlock s src base size) := by
  unfold State.latchBlock
  extract_lets -merge +onlyGivenNames y0
  refine Within.upd_pipe (hF.any (by decide)) ?_
  assumption

theorem State.latchRecord_within {Ma Na ba : Nat} {s₀ : State} {s : State} {src : Src} {c : Nat}
    (hF : Foot Ma Na ba 0x80 0x0 (0)) (hS : Within Ma Na ba s₀ s) :
    Within Ma Na ba s₀ (State.latchRecord s src c) := by
  unfold State.latchRecord
  refine State.latchBlock_within (hF.drop (by decide)) ?_
  assumption

theorem State.latchMean_within {Ma Na ba : Nat} {s₀ : State} {s : State} {src : Src} {slot : Nat}
    (hF : Foot Ma Na ba 0x80 0x0 (0)) (hS : Within Ma Na ba s₀ s) :
    Within Ma Na ba s₀ (State.latchMean s src slot) := by
  unfold State.latchMean
  refine State.latchBlock_within (hF.drop (by decide)) ?_
  assumption

theorem execLineRelease_within {Ma Na ba : Nat} {s₀ : State} {t : Nat} {ctx : Fin 3072} {line : Nat} {reads : LineReads} {s : State}
    (hF : Foot Ma Na ba 0x3003000000000000000000000380 0x0 (0)) (hS : Within Ma Na ba s₀ (s.advance t)) :
    Ends Ma Na ba s₀ (execLineRelease t ctx line reads s) := by
  unfold execLineRelease
  refine Ends.mk ?_
  refine State.onStripes_within (hF.drop (by decide)) ?_ ?_
  · intro t0 w1
    refine State.releaseLine_within (hF.drop (by decide)) ?_
    refine State.upset_within (hF.drop (by decide)) ?_
    assumption
  assumption

theorem execLineEnterLanding_within {Ma Na ba : Nat} {s₀ : State} {t : Nat} {s : State}
    (hF : Foot Ma Na ba 0x400000000000000021000401000080000000000000000001f80 0x0 (0)) (hS : Within Ma Na ba s₀ (s.advance t)) :
    Ends Ma Na ba s₀ (execLineEnterLanding t s) := by
  unfold execLineEnterLanding
  refine Ends.mk ?_
  refine State.onStripes_within (hF.drop (by decide)) ?_ ?_
  · intro t0 w1
    refine State.enterLanding_within (hF.drop (by decide)) ?_
    assumption
  assumption

theorem execSeamWaitTimeout_within {Ma Na ba : Nat} {s₀ : State} {t : Nat} {s : State}
    (hF : Foot Ma Na ba 0x3003000000000000000000000380 0x0 (0)) (hS : Within Ma Na ba s₀ (s.advance t)) :
    Ends Ma Na ba s₀ (execSeamWaitTimeout t s) := by
  unfold execSeamWaitTimeout
  refine Ends.mk ?_
  refine State.onStripes_within (hF.drop (by decide)) ?_ ?_
  · intro t0 w1
    refine State.seamTimeout_within (hF.drop (by decide)) ?_
    assumption
  assumption

theorem execStatsSnapshot_within {Ma Na ba : Nat} {s₀ : State} {t : Nat} {s : State}
    (hF : Foot Ma Na ba 0x10000000000000000000000000000070c000000000000000000000484 0x0 (0)) (hS : Within Ma Na ba s₀ (s.advance t)) :
    Ends Ma Na ba s₀ (execStatsSnapshot t s) := by
  unfold execStatsSnapshot
  refine Ends.mk ?_
  refine State.onStripes_within (hF.drop (by decide)) ?_ ?_
  · intro t0 w1
    refine State.snapshot_within (hF.drop (by decide)) ?_
    assumption
  assumption

theorem execMapDerivationDone_within {Ma Na ba : Nat} {s₀ : State} {t : Nat} {s : State}
    (hF : Foot Ma Na ba 0x400000000000000000000000000000000000000000000000000200082 0x0 (0)) (hS : Within Ma Na ba s₀ (s.advance t)) :
    Ends Ma Na ba s₀ (execMapDerivationDone t s) := by
  unfold execMapDerivationDone
  refine Ends.mk ?_
  refine State.deriveMap_within (hF.drop (by decide)) ?_
  assumption

theorem execStatsRecordLatch_within {Ma Na ba : Nat} {s₀ : State} {t : Nat} {src : Src} {ctx : Fin 3072} {s : State}
    (hF : Foot Ma Na ba 0x80 0x0 (0)) (hS : Within Ma Na ba s₀ (s.advance t)) :
    Ends Ma Na ba s₀ (execStatsRecordLatch t src ctx s) := by
  unfold execStatsRecordLatch
  refine Ends.mk ?_
  refine State.managed_within (hF.drop (by decide)) ?_ ?_
  · intro t0 w1
    refine State.latchRecord_within (hF.drop (by decide)) ?_
    assumption
  assumption

theorem execMeanMapLatch_within {Ma Na ba : Nat} {s₀ : State} {t : Nat} {src : Src} {slot : Fin 2} {s : State}
    (hF : Foot Ma Na ba 0x80 0x0 (0)) (hS : Within Ma Na ba s₀ (s.advance t)) :
    Ends Ma Na ba s₀ (execMeanMapLatch t src slot s) := by
  unfold execMeanMapLatch
  refine Ends.mk ?_
  refine State.managed_within (hF.drop (by decide)) ?_ ?_
  · intro t0 w1
    refine State.latchMean_within (hF.drop (by decide)) ?_
    assumption
  assumption

end Sys2Proof.Machine
end

