-- ==== Sys2Proof/Laws/FrameStore.lean ====
section
/-! SUPPORT. What the functions of the frame store, the ferries and the egress bundles can change: one lemma for each function and each meaning, in the relation `Within`. -/

namespace Sys2Proof.Machine

/-! ## Store -/

theorem State.readPart_within {Ma Na ba : Nat} {s₀ : State} {s : State} {o : Occupant} {base : Packet} {idx : Nat} {col : Nat} {pix : Nat}
    (hF : Foot Ma Na ba 0x3000000000000000000000000000 0x0 (0)) (hS : Within Ma Na ba s₀ s) :
    Within1 Ma Na ba s₀ (State.readPart s o base idx col pix) := by
  unfold State.readPart
  extract_lets -merge +onlyGivenNames y0
  extract_lets -merge +onlyGivenNames y1
  refine Within1.mk ?_
  refine State.countEcc_within (hF.drop (by decide)) ?_
  assumption

theorem State.nextPiece_within {Ma Na ba : Nat} {s₀ : State} {s : State} {o : Occupant} {b : Nat}
    (hF : Foot Ma Na ba 0x3000000000000000000000000000 0x0 (0)) (hS : Within Ma Na ba s₀ s) :
    Within1 Ma Na ba s₀ (State.nextPiece s o b) := by
  unfold State.nextPiece
  extract_lets -merge +onlyGivenNames y0
  refine Within1.ite ?_ ?_
  · refine Within1.mk ?_
    assumption
  split
  · extract_lets -merge +onlyGivenNames y1
    refine State.readPart_within (hF.drop (by decide)) ?_
    assumption
  refine Within1.mk ?_
  assumption

theorem State.settleSent_within {Ma Na ba : Nat} {s₀ : State} {s : State} {o : Occupant}
    (hF : Foot Ma Na ba 0x400000000000000000000000000100 0x80000000000000000000000 (o.ctx)) (hS : Within Ma Na ba s₀ s) :
    Within Ma Na ba s₀ (State.settleSent s o) := by
  unfold State.settleSent
  extract_lets -merge +onlyGivenNames y0
  refine have w1 : Within Ma Na ba s₀ y0 := ?_; ?_
  · refine State.setOcc_within (hF.drop (by decide)) ?_
    assumption
  clear_value y0
  extract_lets -merge +onlyGivenNames y2
  refine have w3 : Within Ma Na ba s₀ y2 := ?_; ?_
  · refine Within.ite ?_ ?_
    · refine Within.addF .CTX_ST1 _ 0 rfl (hF.mayOwn (by decide)) ?_
      assumption
    assumption
  clear_value y2
  refine State.settleBerth_within (hF.drop (by decide)) ?_
  assumption

theorem State.served_within {Ma Na ba : Nat} {s₀ : State} {s : State} {b : Nat} {cls : Nat} {c : Nat}
    (hF : Foot Ma Na ba 0x100 0x0 (0)) (hS : Within Ma Na ba s₀ s) :
    Within Ma Na ba s₀ (State.served s b cls c) := by
  unfold State.served
  refine Within.upd_fs (hF.any (by decide)) ?_
  assumption

theorem State.unloadOcc_within {Ma Na ba : Nat} {s₀ : State} {s : State} {b : Nat} {o : Occupant}
    (hF : Foot Ma Na ba 0x403000080000000000000000000100 0x800 (b)) (hS : Within Ma Na ba s₀ s) :
    Within Ma Na ba s₀ (State.unloadOcc s b o) := by
  unfold State.unloadOcc
  extract_lets -merge +onlyGivenNames y0
  refine have w1 : Within1 Ma Na ba s₀ y0 := ?_; ?_
  · refine State.nextPiece_within (hF.drop (by decide)) ?_
    assumption
  clear_value y0
  refine State.settleSent_within (hF.drop (by decide)) ?_
  refine State.toLandings_within (hF.sub (by decide) (by decide)) ?_
  refine Within.fst ?_
  assumption

theorem State.unload_within {Ma Na ba : Nat} {s₀ : State} {s : State} {b : Nat} {cls : Nat} {c : Nat}
    (hF : Foot Ma Na ba 0x403000080000000000000000000100 0x800 (b)) (hS : Within Ma Na ba s₀ s) :
    Within Ma Na ba s₀ (State.unload s b cls c) := by
  unfold State.unload
  extract_lets -merge +onlyGivenNames y0
  refine have w1 : Within Ma Na ba s₀ y0 := ?_; ?_
  · refine State.served_within (hF.drop (by decide)) ?_
    assumption
  clear_value y0
  split
  · assumption
  · refine State.unloadOcc_within (hF.sub (by decide) (by decide)) ?_
    assumption
  refine Within.ite ?_ ?_
  · refine State.toLanding_within (hF.sub (by decide) (by decide)) ?_
    refine Within.upd_fs (hF.any (by decide)) ?_
    assumption
  split
  · refine State.unloadOcc_within (hF.sub (by decide) (by decide)) ?_
    assumption
  assumption

theorem State.unloaderSend_within {Ma Na ba : Nat} {s₀ : State} {s : State} {b : Nat}
    (hF : Foot Ma Na ba 0x403000080000000000000000000100 0x800 (b)) (hS : Within Ma Na ba s₀ s) :
    Within Ma Na ba s₀ (State.unloaderSend s b) := by
  unfold State.unloaderSend
  split
  · refine State.unload_within (hF.sub (by decide) (by decide)) ?_
    assumption
  split
  · refine State.unload_within (hF.sub (by decide) (by decide)) ?_
    assumption
  assumption

theorem State.mirrorSkip_within {Ma Na ba : Nat} {s₀ : State} {s : State} {n : Nat}
    (hF : Foot Ma Na ba 0x3000000000000000000000000100 0x400000000000000000000000000000 (n)) (hS : Within Ma Na ba s₀ s) :
    Within Ma Na ba s₀ (State.mirrorSkip s n) := by
  unfold State.mirrorSkip
  split
  · assumption
  rename_i o ho
  have hn : o.berth = n := by
    unfold State.occAt at ho
    have hp := List.find?_some ho
    exact eq_of_beq hp
  subst hn
  refine Within.ite ?_ ?_
  · refine Within.satF .FS_CNT 0 0 rfl (hF.may (by decide)) ?_
    refine Within.setB .FS_STATUS 0 0 rfl (hF.may (by decide)) ?_
    refine State.dropBerth_within (hF.sub (by decide) (by decide)) ?_
    assumption
  assumption

theorem State.berthWrite_within {Ma Na ba : Nat} {s₀ : State} {s : State} {n : Nat} {v : Word}
    (hF : Foot Ma Na ba 0x1000000000000000000000000000 0x200000000000000000000000000000 (n)) (hS : Within Ma Na ba s₀ s) :
    Within Ma Na ba s₀ (State.berthWrite s n v) := by
  unfold State.berthWrite
  refine Within.ite ?_ ?_
  · refine Within.storeAt .FS_BERTH _ 0 rfl (hF.mayOwn (by decide)) ?_
    assumption
  refine Within.setB .FS_STATUS 0 0 rfl (hF.may (by decide)) ?_
  assumption

theorem State.recallGo_within {Ma Na ba : Nat} {s₀ : State} {s : State} {src : Src}
    (hF : Foot Ma Na ba 0x1000000000000000000000000100 0x0 (0)) (hS : Within Ma Na ba s₀ s) :
    Within Ma Na ba s₀ (State.recallGo s src) := by
  unfold State.recallGo
  refine Within.ite ?_ ?_
  · refine Within.setB .FS_STATUS 0 0 rfl (hF.may (by decide)) ?_
    assumption
  extract_lets -merge +onlyGivenNames y0
  extract_lets -merge +onlyGivenNames y1
  extract_lets -merge +onlyGivenNames y2
  extract_lets -merge +onlyGivenNames y3
  refine Within.upd_fs (hF.any (by decide)) ?_
  assumption

theorem State.recallEnd_within {Ma Na ba : Nat} {s₀ : State} {s : State} {r : Recall} {code : Nat}
    (hF : Foot Ma Na ba 0x400000000000000000000000000100 0x0 (0)) (hS : Within Ma Na ba s₀ s) :
    Within Ma Na ba s₀ (State.recallEnd s r code) := by
  unfold State.recallEnd
  extract_lets -merge +onlyGivenNames y0
  extract_lets -merge +onlyGivenNames y1
  extract_lets -merge +onlyGivenNames y2
  refine have w3 : Within Ma Na ba s₀ y2 := ?_; ?_
  · refine Within.upd_fs (hF.any (by decide)) ?_
    assumption
  clear_value y2
  split
  · assumption
  extract_lets -merge +onlyGivenNames y4
  refine have w5 : Within Ma Na ba s₀ y4 := ?_; ?_
  · refine Within.setB .FS_BSTATE _ 0 rfl (hF.may (by decide)) ?_
    assumption
  clear_value y4
  split
  · refine Within.ite ?_ ?_
    · refine State.freeBerth_within (hF.drop (by decide)) ?_
      assumption
    assumption
  assumption

theorem State.recallBegin_within {Ma Na ba : Nat} {s₀ : State} {s : State} {r : Recall}
    (hF : Foot Ma Na ba 0x400000000000000000000000000100 0x0 (0)) (hS : Within Ma Na ba s₀ s) :
    Within Ma Na ba s₀ (State.recallBegin s r) := by
  unfold State.recallBegin
  split
  · refine State.recallEnd_within (hF.drop (by decide)) ?_
    assumption
  extract_lets -merge +onlyGivenNames y0
  refine Within.ite ?_ ?_
  · refine State.recallEnd_within (hF.drop (by decide)) ?_
    assumption
  refine Within.ite ?_ ?_
  · refine State.recallEnd_within (hF.drop (by decide)) ?_
    assumption
  extract_lets -merge +onlyGivenNames y1
  refine have w2 : Within Ma Na ba s₀ y1 := ?_; ?_
  · refine Within.setB .FS_BSTATE _ 0 rfl (hF.may (by decide)) ?_
    assumption
  clear_value y1
  refine Within.upd_fs (hF.any (by decide)) ?_
  assumption

theorem State.recallLine_within {Ma Na ba : Nat} {s₀ : State} {s : State} {r : Recall} {n : Nat}
    (hF : Foot Ma Na ba 0x403000000000000000000000000100 0x800 (r.bundle)) (hS : Within Ma Na ba s₀ s) :
    Within Ma Na ba s₀ (State.recallLine s r n) := by
  unfold State.recallLine
  split
  · refine State.recallEnd_within (hF.drop (by decide)) ?_
    assumption
  extract_lets -merge +onlyGivenNames y0
  refine Within.ite ?_ ?_
  · refine State.recallEnd_within (hF.drop (by decide)) ?_
    assumption
  extract_lets -merge +onlyGivenNames y1
  extract_lets -merge +onlyGivenNames y2
  refine Within.ite ?_ ?_
  · dsimp -zeta only [y2]
    refine Within.upd_fs (hF.any (by decide)) ?_
    assumption
  extract_lets -merge +onlyGivenNames y3
  extract_lets -merge +onlyGivenNames y4
  refine have w5 : Within1 Ma Na ba s₀ y4 := ?_; ?_
  · refine State.readPart_within (hF.drop (by decide)) ?_
    assumption
  clear_value y4
  refine Within.ite ?_ ?_
  · dsimp -zeta only [y2]
    refine Within.upd_fs (hF.any (by decide)) ?_
    refine State.toLandings_within (hF.sub (by decide) (by decide)) ?_
    refine Within.fst ?_
    assumption
  assumption

theorem State.recallRun_within {Ma Na ba : Nat} {s₀ : State} {s : State}
    (hF : Foot Ma Na ba 0x403000000000000000000000000900 0x0 (0)) (hS : Within Ma Na ba s₀ s) :
    Within Ma Na ba s₀ (State.recallRun s) := by
  unfold State.recallRun
  split
  · assumption
  split
  · refine State.recallBegin_within (hF.drop (by decide)) ?_
    assumption
  refine State.recallLine_within (hF.drop (by decide)) ?_
  assumption

theorem State.recallPop_within {Ma Na ba : Nat} {s₀ : State} {s : State}
    (hF : Foot Ma Na ba 0x100 0x0 (0)) (hS : Within Ma Na ba s₀ s) :
    Within Ma Na ba s₀ (State.recallPop s) := by
  unfold State.recallPop
  refine Within.upd_fs (hF.any (by decide)) ?_
  assumption

theorem execUnloaderSend_within {Ma Na ba : Nat} {s₀ : State} {t : Nat} {turn : UnloaderTurn} {s : State}
    (hF : Foot Ma Na ba 0x403000080000000000000000000100 0x800 (↑turn.bundle)) (hS : Within Ma Na ba s₀ (s.advance t)) :
    Ends Ma Na ba s₀ (execUnloaderSend t turn s) := by
  unfold execUnloaderSend
  refine Ends.mk ?_
  refine State.onStripes_within (hF.drop (by decide)) ?_ ?_
  · intro t0 w1
    refine State.unloaderSend_within (hF.sub (by decide) (by decide)) ?_
    refine State.upset_within (hF.drop (by decide)) ?_
    assumption
  assumption

theorem execMirrorWriteTimeout_within {Ma Na ba : Nat} {s₀ : State} {t : Nat} {berth : Fin 1024} {s : State}
    (hF : Foot Ma Na ba 0x3000000000000000000000000100 0x400000000000000000000000000000 (berth.val)) (hS : Within Ma Na ba s₀ (s.advance t)) :
    Ends Ma Na ba s₀ (execMirrorWriteTimeout t berth s) := by
  unfold execMirrorWriteTimeout
  refine Ends.mk ?_
  refine State.onStripes_within (hF.drop (by decide)) ?_ ?_
  · intro t0 w1
    refine State.mirrorSkip_within (hF.sub (by decide) (by decide)) ?_
    assumption
  assumption

theorem execBerthTableWrite_within {Ma Na ba : Nat} {s₀ : State} {t : Nat} {src : Src} {berth : Fin 1024} {val : Word} {s : State}
    (hF : Foot Ma Na ba 0x1000000000000000000000000000 0x200000000000000000000000000000 (berth.val)) (hS : Within Ma Na ba s₀ (s.advance t)) :
    Ends Ma Na ba s₀ (execBerthTableWrite t src berth val s) := by
  unfold execBerthTableWrite
  refine Ends.mk ?_
  refine State.managed_within (hF.drop (by decide)) ?_ ?_
  · intro t0 w1
    refine State.berthWrite_within (hF.sub (by decide) (by decide)) ?_
    assumption
  assumption

theorem execRecallGo_within {Ma Na ba : Nat} {s₀ : State} {t : Nat} {src : Src} {s : State}
    (hF : Foot Ma Na ba 0x1000000000000000000000000100 0x0 (0)) (hS : Within Ma Na ba s₀ (s.advance t)) :
    Ends Ma Na ba s₀ (execRecallGo t src s) := by
  unfold execRecallGo
  refine Ends.mk ?_
  refine State.managed_within (hF.drop (by decide)) ?_ ?_
  · intro t0 w1
    refine State.recallGo_within (hF.drop (by decide)) ?_
    assumption
  assumption

theorem execRecallRun_within {Ma Na ba : Nat} {s₀ : State} {turn : RecallTurn} {s : State}
    (hF : Foot Ma Na ba 0x403000000000000000000000000900 0x0 (0)) (hS : Within Ma Na ba s₀ (s.advance turn.t)) :
    Ends Ma Na ba s₀ (execRecallRun turn s) := by
  unfold execRecallRun
  refine Ends.mk ?_
  refine State.onStripes_within (hF.drop (by decide)) ?_ ?_
  · intro t0 w1
    refine State.recallRun_within (hF.drop (by decide)) ?_
    refine State.upset_within (hF.drop (by decide)) ?_
    assumption
  assumption

theorem execRecallPop_within {Ma Na ba : Nat} {s₀ : State} {t : Nat} {src : Src} {s : State}
    (hF : Foot Ma Na ba 0x100 0x0 (0)) (hS : Within Ma Na ba s₀ (s.advance t)) :
    Ends Ma Na ba s₀ (execRecallPop t src s) := by
  unfold execRecallPop
  refine Ends.mk ?_
  refine State.managed_within (hF.drop (by decide)) ?_ ?_
  · intro t0 w1
    refine State.recallPop_within (hF.drop (by decide)) ?_
    assumption
  assumption

/-! ## Ferries -/

theorem State.setFy_within {Ma Na ba : Nat} {s₀ : State} {s : State} {f : Nat} {n : Nat}
    (hF : Foot Ma Na ba 0x0 0x10000000000000000000000000000000 (f)) (hS : Within Ma Na ba s₀ s) :
    Within Ma Na ba s₀ (State.setFy s f n) := by
  unfold State.setFy
  refine Within.setF .FY_STAT _ 0 rfl (hF.mayOwn (by decide)) ?_
  assumption

theorem State.fyIdle_within {Ma Na ba : Nat} {s₀ : State} {s : State} {f : Nat}
    (hF : Foot Ma Na ba 0x0 0x10000000000000000000000000000400 (f)) (hS : Within Ma Na ba s₀ s) :
    Within Ma Na ba s₀ (State.fyIdle s f) := by
  unfold State.fyIdle
  extract_lets -merge +onlyGivenNames y0
  refine have w1 : Within Ma Na ba s₀ y0 := ?_; ?_
  · refine Within.modFerry (hF.mayOwn (by decide)) ?_
    assumption
  clear_value y0
  refine Within.ite ?_ ?_
  · refine State.setFy_within (hF.sub (by decide) (by decide)) ?_
    refine Within.setB .FY_STAT _ 0 rfl (hF.mayOwn (by decide)) ?_
    assumption
  refine State.setFy_within (hF.sub (by decide) (by decide)) ?_
  assumption

theorem State.openWait_within {Ma Na ba : Nat} {s₀ : State} {s : State} {f : Nat}
    (hF : Foot Ma Na ba 0x0 0x10000000000000000000000000000400 (f)) (hS : Within Ma Na ba s₀ s) :
    Within Ma Na ba s₀ (State.openWait s f) := by
  unfold State.openWait
  extract_lets -merge +onlyGivenNames y0
  extract_lets -merge +onlyGivenNames y1
  extract_lets -merge +onlyGivenNames y2
  refine State.setFy_within (hF.sub (by decide) (by decide)) ?_
  refine Within.modFerry (hF.mayOwn (by decide)) ?_
  assumption

theorem State.endWait_within {Ma Na ba : Nat} {s₀ : State} {s : State} {f : Nat}
    (hF : Foot Ma Na ba 0x0 0x10000000000000000000000000000400 (f)) (hS : Within Ma Na ba s₀ s) :
    Within Ma Na ba s₀ (State.endWait s f) := by
  unfold State.endWait
  refine Within.ite ?_ ?_
  · refine State.setFy_within (hF.sub (by decide) (by decide)) ?_
    refine Within.modFerry (hF.mayOwn (by decide)) ?_
    assumption
  assumption

theorem State.beginDesc_within {Ma Na ba : Nat} {s₀ : State} {s : State} {f : Nat} {d : List Word}
    (hF : Foot Ma Na ba 0x0 0x10000000000000000000000000000400 (f)) (hS : Within Ma Na ba s₀ s) :
    Within Ma Na ba s₀ (State.beginDesc s f d) := by
  unfold State.beginDesc
  extract_lets -merge +onlyGivenNames y0
  refine have w1 : Within Ma Na ba s₀ y0 := ?_; ?_
  · refine Within.setF .FY_STAT _ 0 rfl (hF.mayOwn (by decide)) ?_
    refine Within.modFerry (hF.mayOwn (by decide)) ?_
    assumption
  clear_value y0
  extract_lets -merge +onlyGivenNames y2
  refine Within.ite ?_ ?_
  · refine State.setFy_within (hF.sub (by decide) (by decide)) ?_
    refine Within.modFerry (hF.mayOwn (by decide)) ?_
    assumption
  split
  · refine State.setFy_within (hF.sub (by decide) (by decide)) ?_
    refine Within.modFerry (hF.mayOwn (by decide)) ?_
    assumption
  refine Within.ite ?_ ?_
  · refine State.setFy_within (hF.sub (by decide) (by decide)) ?_
    assumption
  refine State.openWait_within (hF.sub (by decide) (by decide)) ?_
  assumption

theorem State.fetchDesc_within {Ma Na ba : Nat} {s₀ : State} {s : State} {f : Nat}
    (hF : Foot Ma Na ba 0x0 0x90000000000000000000000000000400 (f)) (hS : Within Ma Na ba s₀ s) :
    Within Ma Na ba s₀ (State.fetchDesc s f) := by
  unfold State.fetchDesc
  extract_lets -merge +onlyGivenNames y0
  refine Within.ite ?_ ?_
  · assumption
  refine Within.ite ?_ ?_
  · refine State.fyIdle_within (hF.sub (by decide) (by decide)) ?_
    assumption
  refine Within.ite ?_ ?_
  · refine State.setFy_within (hF.sub (by decide) (by decide)) ?_
    assumption
  extract_lets -merge +onlyGivenNames y1
  refine Within.ite ?_ ?_
  · refine State.beginDesc_within (hF.sub (by decide) (by decide)) ?_
    assumption
  refine Within.ite ?_ ?_
  · extract_lets -merge +onlyGivenNames y2
    refine State.setFy_within (hF.sub (by decide) (by decide)) ?_
    refine Within.modFerry (hF.mayOwn (by decide)) ?_
    refine Within.satF .FY_CNT _ 0 rfl (hF.mayOwn (by decide)) ?_
    assumption
  refine State.fyIdle_within (hF.sub (by decide) (by decide)) ?_
  assumption

theorem State.scatter_within {Ma Na ba : Nat} {s₀ : State} {s : State} {base : Nat} {len : Nat} {stride : Nat} {p : Nat} {bs : List Byte}
    (hF : Foot Ma Na ba 0x300 0x0 (0)) (hS : Within Ma Na ba s₀ s) :
    Within Ma Na ba s₀ (State.scatter s base len stride p bs) := by
  unfold State.scatter
  refine Within.foldl ?_ ?_
  · intro t0 x1 w2
    extract_lets -merge +onlyGivenNames y3
    extract_lets -merge +onlyGivenNames y4
    extract_lets -merge +onlyGivenNames y5
    refine Within.setBytes (hF.any (by decide)) (hF.any (by decide)) ?_
    assumption
  assumption

theorem State.lineWritten_within {Ma Na ba : Nat} {s₀ : State} {s : State} {f : Nat}
    (hF : Foot Ma Na ba 0x0 0x10000000000000000000000000000400 (f)) (hS : Within Ma Na ba s₀ s) :
    Within Ma Na ba s₀ (State.lineWritten s f) := by
  unfold State.lineWritten
  extract_lets -merge +onlyGivenNames y0
  refine have w1 : Within Ma Na ba s₀ y0 := ?_; ?_
  · refine Within.modFerry (hF.mayOwn (by decide)) ?_
    assumption
  clear_value y0
  extract_lets -merge +onlyGivenNames y2
  extract_lets -merge +onlyGivenNames y3
  extract_lets -merge +onlyGivenNames y4
  refine have w5 : Within Ma Na ba s₀ y4 := ?_; ?_
  · refine Within.setF .FY_STAT _ 0 rfl (hF.mayOwn (by decide)) ?_
    assumption
  clear_value y4
  refine Within.ite ?_ ?_
  · refine State.setFy_within (hF.sub (by decide) (by decide)) ?_
    refine Within.modFerry (hF.mayOwn (by decide)) ?_
    assumption
  refine Within.ite ?_ ?_
  · refine State.openWait_within (hF.sub (by decide) (by decide)) ?_
    assumption
  refine State.setFy_within (hF.sub (by decide) (by decide)) ?_
  assumption

theorem State.endDesc_within {Ma Na ba : Nat} {s₀ : State} {s : State} {f : Nat} {code : Nat}
    (hF : Foot Ma Na ba 0x0 0x10000000000000000000000000000400 (f)) (hS : Within Ma Na ba s₀ s) :
    Within Ma Na ba s₀ (State.endDesc s f code) := by
  unfold State.endDesc
  refine State.setFy_within (hF.sub (by decide) (by decide)) ?_
  refine Within.modFerry (hF.mayOwn (by decide)) ?_
  assumption

theorem State.writeLine_within {Ma Na ba : Nat} {s₀ : State} {s : State} {f : Nat} {bs : List Byte}
    (hF : Foot Ma Na ba 0x400000000000000000000000000000000000000000000001b00 0x10000000000000000000000000000400 (f)) (hS : Within Ma Na ba s₀ s) :
    Within Ma Na ba s₀ (State.writeLine s f bs) := by
  unfold State.writeLine
  extract_lets -merge +onlyGivenNames y0
  extract_lets -merge +onlyGivenNames y1
  split
  · refine Within.ite ?_ ?_
    · refine State.endDesc_within (hF.sub (by decide) (by decide)) ?_
      assumption
    extract_lets -merge +onlyGivenNames y2
    extract_lets -merge +onlyGivenNames y3
    refine Within.ite ?_ ?_
    · extract_lets -merge +onlyGivenNames y4
      refine have w5 : Within Ma Na ba s₀ y4 := ?_; ?_
      · refine State.toLandings_within (hF.drop (by decide)) ?_
        assumption
      clear_value y4
      refine State.lineWritten_within (hF.sub (by decide) (by decide)) ?_
      refine Within.modFerry (hF.mayOwn (by decide)) ?_
      assumption
    refine State.setFy_within (hF.sub (by decide) (by decide)) ?_
    refine Within.modFerry (hF.mayOwn (by decide)) ?_
    assumption
  · extract_lets -merge +onlyGivenNames y6
    refine Within.ite ?_ ?_
    · refine State.lineWritten_within (hF.sub (by decide) (by decide)) ?_
      refine State.showPreview_within (hF.drop (by decide)) ?_
      refine Within.upd_prev (hF.any (by decide)) ?_
      assumption
    refine State.setFy_within (hF.sub (by decide) (by decide)) ?_
    refine Within.modFerry (hF.mayOwn (by decide)) ?_
    assumption
  refine State.lineWritten_within (hF.sub (by decide) (by decide)) ?_
  refine State.scatter_within (hF.drop (by decide)) ?_
  assumption

theorem State.readLine_within {Ma Na ba : Nat} {s₀ : State} {s : State} {f : Nat}
    (hF : Foot Ma Na ba 0x400000000000000000000003000000000000000000000001b00 0x10000000000000000000000000000400 (f)) (hS : Within Ma Na ba s₀ s) :
    Within Ma Na ba s₀ (State.readLine s f) := by
  unfold State.readLine
  extract_lets -merge +onlyGivenNames y0
  extract_lets -merge +onlyGivenNames y1
  extract_lets -merge +onlyGivenNames y2
  extract_lets -merge +onlyGivenNames y3
  extract_lets -merge +onlyGivenNames y4
  extract_lets -merge +onlyGivenNames y5
  refine Within.ite ?_ ?_
  · refine State.endDesc_within (hF.sub (by decide) (by decide)) ?_
    assumption
  extract_lets -merge +onlyGivenNames y6
  refine have w7 : Within Ma Na ba s₀ y6 := ?_; ?_
  · refine Within.modFerry (hF.mayOwn (by decide)) ?_
    assumption
  clear_value y6
  refine Within.ite ?_ ?_
  · extract_lets -merge +onlyGivenNames y8
    extract_lets -merge +onlyGivenNames y9
    refine have w10 : Within Ma Na ba s₀ y9 := ?_; ?_
    · refine State.countEcc_within (hF.drop (by decide)) ?_
      assumption
    clear_value y9
    refine Within.ite ?_ ?_
    · refine State.endDesc_within (hF.sub (by decide) (by decide)) ?_
      assumption
    refine State.writeLine_within (hF.sub (by decide) (by decide)) ?_
    assumption
  refine State.writeLine_within (hF.sub (by decide) (by decide)) ?_
  assumption

theorem State.moveLine_within {Ma Na ba : Nat} {s₀ : State} {s : State} {f : Nat}
    (hF : Foot Ma Na ba 0x400000000000000000000003000000000000000000000001b00 0x10000000000000000000000000000400 (f)) (hS : Within Ma Na ba s₀ s) :
    Within Ma Na ba s₀ (State.moveLine s f) := by
  unfold State.moveLine
  extract_lets -merge +onlyGivenNames y0
  refine Within.ite ?_ ?_
  · assumption
  refine Within.ite ?_ ?_
  · refine State.readLine_within (hF.sub (by decide) (by decide)) ?_
    assumption
  refine Within.ite ?_ ?_
  · refine State.writeLine_within (hF.sub (by decide) (by decide)) ?_
    assumption
  assumption

theorem State.showAwaiting_within {Ma Na ba : Nat} {s₀ : State} {s : State} {f : Nat}
    (hF : Foot Ma Na ba 0x0 0x100000000000000000000000000000000 (f)) (hS : Within Ma Na ba s₀ s) :
    Within Ma Na ba s₀ (State.showAwaiting s f) := by
  unfold State.showAwaiting
  refine Within.setF .FY_DLV _ 0 rfl (hF.mayOwn (by decide)) ?_
  assumption

theorem State.writeBackWords_within {Ma Na ba : Nat} {s₀ : State} {s : State} {f : Nat} {pos : Nat} {status : Nat}
    (hF : Foot Ma Na ba 0x0 0x400000000000000000000000000000000 (pos)) (hS : Within Ma Na ba s₀ s) :
    Within Ma Na ba s₀ (State.writeBackWords s f pos status) := by
  unfold State.writeBackWords
  extract_lets -merge +onlyGivenNames y0
  extract_lets -merge +onlyGivenNames y1
  extract_lets -merge +onlyGivenNames y2
  extract_lets -merge +onlyGivenNames y3
  refine have w4 : Within Ma Na ba s₀ y3 := ?_; ?_
  · dsimp -zeta only [y3]
    split
    · refine Within.reg .FY_DESC _ _ rfl (hF.mayOwn (by decide)) ?_
      assumption
    assumption
  clear_value y3
  extract_lets -merge +onlyGivenNames y5
  refine have w6 : Within Ma Na ba s₀ y5 := ?_; ?_
  · refine Within.reg .FY_DESC _ _ rfl (hF.mayOwn (by decide)) ?_
    assumption
  clear_value y5
  refine Within.reg .FY_DESC _ _ rfl (hF.mayOwn (by decide)) ?_
  assumption

theorem State.noteWriteBack_within {Ma Na ba : Nat} {s₀ : State} {s : State} {f : Nat} {pos : Nat} {status : Nat}
    (hF : Foot Ma Na ba 0x1800000000000000000000000000404 0x1e0000000000000000000000000000000 (f)) (hS : Within Ma Na ba s₀ s) :
    Within Ma Na ba s₀ (State.noteWriteBack s f pos status) := by
  unfold State.noteWriteBack
  extract_lets -merge +onlyGivenNames y0
  extract_lets -merge +onlyGivenNames y1
  extract_lets -merge +onlyGivenNames y2
  refine have w3 : Within Ma Na ba s₀ y2 := ?_; ?_
  · refine Within.reg .FY_LAST _ 0 rfl (hF.mayOwn (by decide)) ?_
    assumption
  clear_value y2
  extract_lets -merge +onlyGivenNames y4
  refine have w5 : Within Ma Na ba s₀ y4 := ?_; ?_
  · refine Within.reg .FY_TIME _ 0 rfl (hF.mayOwn (by decide)) ?_
    assumption
  clear_value y4
  extract_lets -merge +onlyGivenNames y6
  refine have w7 : Within Ma Na ba s₀ y6 := ?_; ?_
  · refine Within.addF .FY_CNT _ 0 rfl (hF.mayOwn (by decide)) ?_
    assumption
  clear_value y6
  extract_lets -merge +onlyGivenNames y8
  refine have w9 : Within Ma Na ba s₀ y8 := ?_; ?_
  · refine Within.ite ?_ ?_
    · refine Within.setBit .FY_DONE 0 0 rfl (hF.may (by decide)) ?_
      assumption
    assumption
  clear_value y8
  extract_lets -merge +onlyGivenNames y10
  refine have w11 : Within Ma Na ba s₀ y10 := ?_; ?_
  · refine Within.ite ?_ ?_
    · refine Within.satF .FY_CNT _ 0 rfl (hF.mayOwn (by decide)) ?_
      refine Within.setBit .FY_ERR 0 0 rfl (hF.may (by decide)) ?_
      assumption
    assumption
  clear_value y10
  extract_lets -merge +onlyGivenNames y12
  refine have w13 : Within Ma Na ba s₀ y12 := ?_; ?_
  · refine Within.modFerry (hF.mayOwn (by decide)) ?_
    assumption
  clear_value y12
  refine State.showAwaiting_within (hF.sub (by decide) (by decide)) ?_
  refine State.paceEvent_within (hF.drop (by decide)) ?_
  assumption

theorem State.endRun_within {Ma Na ba : Nat} {s₀ : State} {s : State} {f : Nat} {next : Nat}
    (hF : Foot Ma Na ba 0x400000080000000000000000000900 0x400 (f)) (hS : Within Ma Na ba s₀ s) :
    Within Ma Na ba s₀ (State.endRun s f next) := by
  unfold State.endRun
  extract_lets -merge +onlyGivenNames y0
  extract_lets -merge +onlyGivenNames y1
  extract_lets -merge +onlyGivenNames y2
  refine have w3 : Within Ma Na ba s₀ y2 := ?_; ?_
  · refine Within.modFerry (hF.mayOwn (by decide)) ?_
    assumption
  clear_value y2
  clear_value y1
  split
  · assumption
  refine Within.ite ?_ ?_
  · refine State.dropBerth_within (hF.drop (by decide)) ?_
    assumption
  refine State.settleSent_within (hF.drop (by decide)) ?_
  refine Within.foldl ?_ ?_
  · intro t4 x5 w6
    refine State.toLanding_within (hF.drop (by decide)) ?_
    assumption
  assumption

theorem State.writeBack_within {Ma Na ba : Nat} {s₀ : State} {s : State} {f : Nat}
    (hF : Foot Ma Na ba 0x401c00000080000000000000000000d04 0x1f0000000000000000000000000000000 (f)) (hS : Within Ma Na ba s₀ s) :
    Within Ma Na ba s₀ (State.writeBack s f) := by
  unfold State.writeBack
  extract_lets -merge +onlyGivenNames y0
  extract_lets -merge +onlyGivenNames y1
  extract_lets -merge +onlyGivenNames y2
  split
  · assumption
  refine Within.ite ?_ ?_
  · assumption
  extract_lets -merge +onlyGivenNames y3
  extract_lets -merge +onlyGivenNames y4
  extract_lets -merge +onlyGivenNames y5
  refine have w6 : Within Ma Na ba s₀ y5 := ?_; ?_
  · refine State.noteWriteBack_within (hF.sub (by decide) (by decide)) ?_
    refine State.writeBackWords_within (hF.drop (by decide)) ?_
    assumption
  clear_value y5
  extract_lets -merge +onlyGivenNames y7
  refine have w8 : Within Ma Na ba s₀ y7 := ?_; ?_
  · refine Within.setF .FY_STAT _ 0 rfl (hF.mayOwn (by decide)) ?_
    assumption
  clear_value y7
  extract_lets -merge +onlyGivenNames y9
  extract_lets -merge +onlyGivenNames y10
  extract_lets -merge +onlyGivenNames y11
  refine have w12 : Within Ma Na ba s₀ y11 := ?_; ?_
  · refine Within.modFerry (hF.mayOwn (by decide)) ?_
    assumption
  clear_value y11
  extract_lets -merge +onlyGivenNames y13
  refine have w14 : Within Ma Na ba s₀ y13 := ?_; ?_
  · refine Within.ite ?_ ?_
    · refine State.endRun_within (hF.sub (by decide) (by decide)) ?_
      assumption
    assumption
  clear_value y13
  refine Within.ite ?_ ?_
  · refine Within.ite ?_ ?_
    · refine State.fyIdle_within (hF.sub (by decide) (by decide)) ?_
      assumption
    refine State.setFy_within (hF.sub (by decide) (by decide)) ?_
    assumption
  refine Within.ite ?_ ?_
  · refine State.setFy_within (hF.sub (by decide) (by decide)) ?_
    assumption
  refine Within.ite ?_ ?_
  · refine State.fyIdle_within (hF.sub (by decide) (by decide)) ?_
    assumption
  refine State.setFy_within (hF.sub (by decide) (by decide)) ?_
  assumption

theorem State.report_within {Ma Na ba : Nat} {s₀ : State} {s : State} {f : Nat}
    (hF : Foot Ma Na ba 0x0 0x300000000000000000000000000000400 (f)) (hS : Within Ma Na ba s₀ s) :
    Within Ma Na ba s₀ (State.report s f) := by
  unfold State.report
  split
  · assumption
  refine Within.ite ?_ ?_
  · assumption
  extract_lets -merge +onlyGivenNames y0
  refine have w1 : Within Ma Na ba s₀ y0 := ?_; ?_
  · refine Within.modFerry (hF.mayOwn (by decide)) ?_
    assumption
  clear_value y0
  extract_lets -merge +onlyGivenNames y2
  refine have w3 : Within Ma Na ba s₀ y2 := ?_; ?_
  · refine Within.addF .FY_DLV _ 0 rfl (hF.mayOwn (by decide)) ?_
    assumption
  clear_value y2
  extract_lets -merge +onlyGivenNames y4
  refine have w5 : Within Ma Na ba s₀ y4 := ?_; ?_
  · refine Within.setF .FY_DLV _ 0 rfl (hF.mayOwn (by decide)) ?_
    assumption
  clear_value y4
  extract_lets -merge +onlyGivenNames y6
  refine have w7 : Within Ma Na ba s₀ y6 := ?_; ?_
  · refine Within.setB .FY_DLV _ 0 rfl (hF.mayOwn (by decide)) ?_
    assumption
  clear_value y6
  extract_lets -merge +onlyGivenNames y8
  refine have w9 : Within Ma Na ba s₀ y8 := ?_; ?_
  · refine Within.setB .FY_DLV _ 0 rfl (hF.mayOwn (by decide)) ?_
    assumption
  clear_value y8
  refine State.showAwaiting_within (hF.sub (by decide) (by decide)) ?_
  refine Within.reg .FY_DLVT _ 0 rfl (hF.mayOwn (by decide)) ?_
  assumption

theorem State.kick_within {Ma Na ba : Nat} {s₀ : State} {s : State} {f : Nat} {index : Nat} {setPos : Bool}
    (hF : Foot Ma Na ba 0x0 0x10000000000000000000000000000000 (f)) (hS : Within Ma Na ba s₀ s) :
    Within Ma Na ba s₀ (State.kick s f index setPos) := by
  unfold State.kick
  refine Within.ite ?_ ?_
  · refine Within.setB .FY_STAT _ 0 rfl (hF.mayOwn (by decide)) ?_
    assumption
  refine Within.ite ?_ ?_
  · refine Within.ite ?_ ?_
    · refine Within.setB .FY_STAT _ 0 rfl (hF.mayOwn (by decide)) ?_
      assumption
    refine Within.setB .FY_STAT _ 0 rfl (hF.mayOwn (by decide)) ?_
    assumption
  refine State.setFy_within (hF.sub (by decide) (by decide)) ?_
  refine Within.ite ?_ ?_
  · refine Within.setF .FY_STAT _ 0 rfl (hF.mayOwn (by decide)) ?_
    assumption
  assumption

theorem State.abortRun_within {Ma Na ba : Nat} {s₀ : State} {s : State} {f : Nat}
    (hF : Foot Ma Na ba 0x900 0x10000000000000000000000000000400 (f)) (hS : Within Ma Na ba s₀ s) :
    Within Ma Na ba s₀ (State.abortRun s f) := by
  unfold State.abortRun
  extract_lets -merge +onlyGivenNames y0
  refine Within.ite ?_ ?_
  · assumption
  extract_lets -merge +onlyGivenNames y1
  refine have w2 : Within Ma Na ba s₀ y1 := ?_; ?_
  · dsimp -zeta only [y1]
    split
    · refine State.sendGaps_within (hF.drop (by decide)) ?_
      assumption
    assumption
  clear_value y1
  extract_lets -merge +onlyGivenNames y3
  refine have w4 : Within Ma Na ba s₀ y3 := ?_; ?_
  · refine Within.modFerry (hF.mayOwn (by decide)) ?_
    assumption
  clear_value y3
  refine Within.ite ?_ ?_
  · refine State.setFy_within (hF.sub (by decide) (by decide)) ?_
    assumption
  refine State.setFy_within (hF.sub (by decide) (by decide)) ?_
  assumption

theorem State.stopFerry_within {Ma Na ba : Nat} {s₀ : State} {s : State} {f : Nat}
    (hF : Foot Ma Na ba 0x400000080000000000000000000d80 0x14000000000000000000000000000000 (f)) (hS : Within Ma Na ba s₀ s) :
    Within Ma Na ba s₀ (State.stopFerry s f) := by
  unfold State.stopFerry
  extract_lets -merge +onlyGivenNames y0
  refine have w1 : Within Ma Na ba s₀ y0 := ?_; ?_
  · refine Within.setB .FY_CTL _ 0 rfl (hF.mayOwn (by decide)) ?_
    assumption
  clear_value y0
  extract_lets -merge +onlyGivenNames y2
  split
  · refine State.abortRun_within (hF.sub (by decide) (by decide)) ?_
    refine Within.modFerry (hF.mayOwn (by decide)) ?_
    refine State.dropFrame_within (hF.drop (by decide)) ?_
    assumption
  refine Within.ite ?_ ?_
  · refine State.setFy_within (hF.sub (by decide) (by decide)) ?_
    assumption
  extract_lets -merge +onlyGivenNames y3
  refine have w4 : Within Ma Na ba s₀ y3 := ?_; ?_
  · refine Within.modFerry (hF.mayOwn (by decide)) ?_
    assumption
  clear_value y3
  refine Within.ite ?_ ?_
  · assumption
  refine State.endDesc_within (hF.sub (by decide) (by decide)) ?_
  assumption

theorem State.enableFerry_within {Ma Na ba : Nat} {s₀ : State} {s : State} {f : Nat}
    (hF : Foot Ma Na ba 0x0 0x14000000000000000000000000000400 (f)) (hS : Within Ma Na ba s₀ s) :
    Within Ma Na ba s₀ (State.enableFerry s f) := by
  unfold State.enableFerry
  extract_lets -merge +onlyGivenNames y0
  refine have w1 : Within Ma Na ba s₀ y0 := ?_; ?_
  · refine Within.setB .FY_CTL _ 0 rfl (hF.mayOwn (by decide)) ?_
    assumption
  clear_value y0
  refine Within.ite ?_ ?_
  · refine State.fyIdle_within (hF.sub (by decide) (by decide)) ?_
    assumption
  assumption

theorem State.pollFerry_within {Ma Na ba : Nat} {s₀ : State} {s : State} {f : Nat}
    (hF : Foot Ma Na ba 0x0 0x10000000000000000000000000000000 (f)) (hS : Within Ma Na ba s₀ s) :
    Within Ma Na ba s₀ (State.pollFerry s f) := by
  unfold State.pollFerry
  extract_lets -merge +onlyGivenNames y0
  extract_lets -merge +onlyGivenNames y1
  refine Within.ite ?_ ?_
  · refine State.setFy_within (hF.sub (by decide) (by decide)) ?_
    assumption
  assumption

theorem State.handOver_within {Ma Na ba : Nat} {s₀ : State} {s : State} {f : Nat}
    (hF : Foot Ma Na ba 0x100 0x10000000000000000000000000000400 (f)) (hS : Within Ma Na ba s₀ s) :
    Within Ma Na ba s₀ (State.handOver s f) := by
  unfold State.handOver
  refine Within.ite ?_ ?_
  · assumption
  split
  · assumption
  extract_lets -merge +onlyGivenNames y0
  extract_lets -merge +onlyGivenNames y1
  extract_lets -merge +onlyGivenNames y2
  refine have w3 : Within Ma Na ba s₀ y2 := ?_; ?_
  · refine Within.setF .FY_STAT _ 0 rfl (hF.mayOwn (by decide)) ?_
    refine State.setOcc_within (hF.drop (by decide)) ?_
    assumption
  clear_value y2
  refine State.setFy_within (hF.sub (by decide) (by decide)) ?_
  refine Within.modFerry (hF.mayOwn (by decide)) ?_
  assumption

theorem State.chainAbort_within {Ma Na ba : Nat} {s₀ : State} {s : State} {f : Nat}
    (hF : Foot Ma Na ba 0x900 0x10000000000000000000000000000400 (f)) (hS : Within Ma Na ba s₀ s) :
    Within Ma Na ba s₀ (State.chainAbort s f) := by
  unfold State.chainAbort
  extract_lets -merge +onlyGivenNames y0
  refine Within.ite ?_ ?_
  · refine State.abortRun_within (hF.sub (by decide) (by decide)) ?_
    assumption
  assumption

theorem execFerryKick_within {Ma Na ba : Nat} {s₀ : State} {t : Nat} {src : Src} {ferry : Fin 32} {index : Fin 16384} {setPos : Bool} {s : State}
    (hF : Foot Ma Na ba 0x0 0x10000000000000000000000000000000 (ferry.val)) (hS : Within Ma Na ba s₀ (s.advance t)) :
    Ends Ma Na ba s₀ (execFerryKick t src ferry index setPos s) := by
  unfold execFerryKick
  refine Ends.mk ?_
  refine State.managed_within (hF.drop (by decide)) ?_ ?_
  · intro t0 w1
    refine State.kick_within (hF.sub (by decide) (by decide)) ?_
    assumption
  assumption

theorem execFerryStop_within {Ma Na ba : Nat} {s₀ : State} {t : Nat} {src : Src} {ferry : Fin 32} {s : State}
    (hF : Foot Ma Na ba 0x400000080000000000000000000d80 0x14000000000000000000000000000000 (ferry.val)) (hS : Within Ma Na ba s₀ (s.advance t)) :
    Ends Ma Na ba s₀ (execFerryStop t src ferry s) := by
  unfold execFerryStop
  refine Ends.mk ?_
  refine State.managed_within (hF.drop (by decide)) ?_ ?_
  · intro t0 w1
    refine State.stopFerry_within (hF.sub (by decide) (by decide)) ?_
    assumption
  assumption

theorem execFerryEnable_within {Ma Na ba : Nat} {s₀ : State} {t : Nat} {src : Src} {ferry : Fin 32} {s : State}
    (hF : Foot Ma Na ba 0x0 0x14000000000000000000000000000400 (ferry.val)) (hS : Within Ma Na ba s₀ (s.advance t)) :
    Ends Ma Na ba s₀ (execFerryEnable t src ferry s) := by
  unfold execFerryEnable
  refine Ends.mk ?_
  refine State.managed_within (hF.drop (by decide)) ?_ ?_
  · intro t0 w1
    refine State.enableFerry_within (hF.sub (by decide) (by decide)) ?_
    assumption
  assumption

theorem execDescriptorFetch_within {Ma Na ba : Nat} {s₀ : State} {t : Nat} {ferry : Fin 32} {s : State}
    (hF : Foot Ma Na ba 0x0 0x90000000000000000000000000000400 (ferry.val)) (hS : Within Ma Na ba s₀ (s.advance t)) :
    Ends Ma Na ba s₀ (execDescriptorFetch t ferry s) := by
  unfold execDescriptorFetch
  refine Ends.mk ?_
  refine State.onStripes_within (hF.drop (by decide)) ?_ ?_
  · intro t0 w1
    refine State.fetchDesc_within (hF.sub (by decide) (by decide)) ?_
    assumption
  assumption

theorem execPacingWaitEnd_within {Ma Na ba : Nat} {s₀ : State} {t : Nat} {ferry : Fin 32} {s : State}
    (hF : Foot Ma Na ba 0x0 0x10000000000000000000000000000400 (ferry.val)) (hS : Within Ma Na ba s₀ (s.advance t)) :
    Ends Ma Na ba s₀ (execPacingWaitEnd t ferry s) := by
  unfold execPacingWaitEnd
  refine Ends.mk ?_
  refine State.onStripes_within (hF.drop (by decide)) ?_ ?_
  · intro t0 w1
    refine State.endWait_within (hF.sub (by decide) (by decide)) ?_
    assumption
  assumption

theorem execSourceLineMove_within {Ma Na ba : Nat} {s₀ : State} {t : Nat} {turn : FerryTurn} {s : State}
    (hF : Foot Ma Na ba 0x400000000000000000000003000000000000000000000001b00 0x10000000000000000000000000000400 (↑turn.ferry)) (hS : Within Ma Na ba s₀ (s.advance t)) :
    Ends Ma Na ba s₀ (execSourceLineMove t turn s) := by
  unfold execSourceLineMove
  refine Ends.mk ?_
  refine State.onStripes_within (hF.drop (by decide)) ?_ ?_
  · intro t0 w1
    refine State.moveLine_within (hF.sub (by decide) (by decide)) ?_
    refine State.upset_within (hF.drop (by decide)) ?_
    assumption
  assumption

theorem execDescriptorWriteback_within {Ma Na ba : Nat} {s₀ : State} {t : Nat} {ferry : Fin 32} {s : State}
    (hF : Foot Ma Na ba 0x401c00000080000000000000000000d04 0x1f0000000000000000000000000000000 (ferry.val)) (hS : Within Ma Na ba s₀ (s.advance t)) :
    Ends Ma Na ba s₀ (execDescriptorWriteback t ferry s) := by
  unfold execDescriptorWriteback
  refine Ends.mk ?_
  refine State.onStripes_within (hF.drop (by decide)) ?_ ?_
  · intro t0 w1
    refine State.writeBack_within (hF.sub (by decide) (by decide)) ?_
    assumption
  assumption

theorem execDeliveryReport_within {Ma Na ba : Nat} {s₀ : State} {t : Nat} {ferry : Fin 32} {s : State}
    (hF : Foot Ma Na ba 0x0 0x300000000000000000000000000000400 (ferry.val)) (hS : Within Ma Na ba s₀ (s.advance t)) :
    Ends Ma Na ba s₀ (execDeliveryReport t ferry s) := by
  unfold execDeliveryReport
  refine Ends.mk ?_
  refine State.onStripes_within (hF.drop (by decide)) ?_ ?_
  · intro t0 w1
    refine State.report_within (hF.sub (by decide) (by decide)) ?_
    assumption
  assumption

theorem execFerryPoll_within {Ma Na ba : Nat} {s₀ : State} {t : Nat} {ferry : Fin 32} {s : State}
    (hF : Foot Ma Na ba 0x0 0x10000000000000000000000000000000 (ferry.val)) (hS : Within Ma Na ba s₀ (s.advance t)) :
    Ends Ma Na ba s₀ (execFerryPoll t ferry s) := by
  unfold execFerryPoll
  refine Ends.mk ?_
  refine State.onStripes_within (hF.drop (by decide)) ?_ ?_
  · intro t0 w1
    refine State.pollFerry_within (hF.sub (by decide) (by decide)) ?_
    assumption
  assumption

theorem execChainHandover_within {Ma Na ba : Nat} {s₀ : State} {t : Nat} {ferry : Fin 32} {s : State}
    (hF : Foot Ma Na ba 0x100 0x10000000000000000000000000000400 (ferry.val)) (hS : Within Ma Na ba s₀ (s.advance t)) :
    Ends Ma Na ba s₀ (execChainHandover t ferry s) := by
  unfold execChainHandover
  refine Ends.mk ?_
  refine State.onStripes_within (hF.drop (by decide)) ?_ ?_
  · intro t0 w1
    refine State.handOver_within (hF.sub (by decide) (by decide)) ?_
    assumption
  assumption

theorem execChainRunAbort_within {Ma Na ba : Nat} {s₀ : State} {t : Nat} {ferry : Fin 32} {s : State}
    (hF : Foot Ma Na ba 0x900 0x10000000000000000000000000000400 (ferry.val)) (hS : Within Ma Na ba s₀ (s.advance t)) :
    Ends Ma Na ba s₀ (execChainRunAbort t ferry s) := by
  unfold execChainRunAbort
  refine Ends.mk ?_
  refine State.onStripes_within (hF.drop (by decide)) ?_ ?_
  · intro t0 w1
    refine State.chainAbort_within (hF.sub (by decide) (by decide)) ?_
    assumption
  assumption

/-! ## Bundles -/

theorem State.refill_within {Ma Na ba : Nat} {s₀ : State} {s : State} {b : Nat}
    (hF : Foot Ma Na ba 0x0 0x800 (b)) (hS : Within Ma Na ba s₀ s) :
    Within Ma Na ba s₀ (State.refill s b) := by
  unfold State.refill
  extract_lets -merge +onlyGivenNames y0
  extract_lets -merge +onlyGivenNames y1
  extract_lets -merge +onlyGivenNames y2
  refine Within.modBun (hF.mayOwn (by decide)) ?_
  assumption

theorem State.setLink_within {Ma Na ba : Nat} {s₀ : State} {s : State} {b : Nat} {st : Nat} {mask : Nat}
    (hF : Foot Ma Na ba 0x1000000000000000000000000000000000 0x84000000000000000000000000000000800 (b)) (hS : Within Ma Na ba s₀ s) :
    Within Ma Na ba s₀ (State.setLink s b st mask) := by
  unfold State.setLink
  refine Within.ite ?_ ?_
  · assumption
  extract_lets -merge +onlyGivenNames y0
  refine have w1 : Within Ma Na ba s₀ y0 := ?_; ?_
  · refine State.refill_within (hF.sub (by decide) (by decide)) ?_
    assumption
  clear_value y0
  extract_lets -merge +onlyGivenNames y2
  refine have w3 : Within Ma Na ba s₀ y2 := ?_; ?_
  · refine Within.setF .EG_BSTAT _ 0 rfl (hF.mayOwn (by decide)) ?_
    refine Within.setF .EG_BSTAT _ 0 rfl (hF.mayOwn (by decide)) ?_
    assumption
  clear_value y2
  extract_lets -merge +onlyGivenNames y4
  refine have w5 : Within Ma Na ba s₀ y4 := ?_; ?_
  · refine Within.reg .EG_BTIME _ 0 rfl (hF.mayOwn (by decide)) ?_
    assumption
  clear_value y4
  extract_lets -merge +onlyGivenNames y6
  refine Within.ite ?_ ?_
  · refine Within.setBit .EG_STATUS 0 0 rfl (hF.may (by decide)) ?_
    refine Within.ite ?_ ?_
    · refine Within.setBit .EG_STATUS 0 0 rfl (hF.may (by decide)) ?_
      assumption
    refine Within.clrBit .EG_STATUS 0 0 rfl (hF.may (by decide)) ?_
    assumption
  refine Within.clrBit .EG_STATUS 0 0 rfl (hF.may (by decide)) ?_
  refine Within.ite ?_ ?_
  · refine Within.setBit .EG_STATUS 0 0 rfl (hF.may (by decide)) ?_
    assumption
  refine Within.clrBit .EG_STATUS 0 0 rfl (hF.may (by decide)) ?_
  assumption

theorem State.setLanes_within {Ma Na ba : Nat} {s₀ : State} {s : State} {b : Nat} {st : Nat} {ls : List Nat}
    (hF : Foot Ma Na ba 0x200000000000000000000000000000000000 0x2000000000000000000000000000000000000 (b)) (hS : Within Ma Na ba s₀ s) :
    Within Ma Na ba s₀ (State.setLanes s b st ls) := by
  unfold State.setLanes
  extract_lets -merge +onlyGivenNames y0
  refine have w1 : Within Ma Na ba s₀ y0 := ?_; ?_
  · refine Within.foldl ?_ ?_
    · intro t2 x3 w4
      refine Within.setF .LN_LSTAT _ _ rfl (hF.mayOwn (by decide)) ?_
      assumption
    assumption
  clear_value y0
  refine Within.ite ?_ ?_
  · refine Within.setBit .LN_STATUS 0 0 rfl (hF.may (by decide)) ?_
    assumption
  refine Within.clrBit .LN_STATUS 0 0 rfl (hF.may (by decide)) ?_
  assumption

theorem State.modLane_within {Ma Na ba : Nat} {s₀ : State} {s : State} {b : Nat} {l : Nat} {f : LaneAux → LaneAux}
    (hF : Foot Ma Na ba 0x0 0x800 (b)) (hS : Within Ma Na ba s₀ s) :
    Within Ma Na ba s₀ (State.modLane s b l f) := by
  unfold State.modLane
  refine Within.modBun (hF.mayOwn (by decide)) ?_
  assumption

theorem State.laneSend_within {Ma Na ba : Nat} {s₀ : State} {s : State} {b : Nat} {l : Nat} {k : Block} {trim : Nat}
    (hF : Foot Ma Na ba 0x0 0x800 (b)) (hS : Within Ma Na ba s₀ s) :
    Within Ma Na ba s₀ (State.laneSend s b l k trim) := by
  unfold State.laneSend
  refine State.modLane_within (hF.sub (by decide) (by decide)) ?_
  assumption

theorem State.idleOn_within {Ma Na ba : Nat} {s₀ : State} {s : State} {b : Nat} {ls : List Nat}
    (hF : Foot Ma Na ba 0x0 0x800 (b)) (hS : Within Ma Na ba s₀ s) :
    Within Ma Na ba s₀ (State.idleOn s b ls) := by
  unfold State.idleOn
  refine Within.foldl ?_ ?_
  · intro t0 x1 w2
    refine State.laneSend_within (hF.sub (by decide) (by decide)) ?_
    assumption
  assumption

theorem State.laneFrame_within {Ma Na ba : Nat} {s₀ : State} {s : State} {b : Nat} {l : Nat} {field : Nat}
    (hF : Foot Ma Na ba 0x0 0x800 (b)) (hS : Within Ma Na ba s₀ s) :
    Within Ma Na ba s₀ (State.laneFrame s b l field) := by
  unfold State.laneFrame
  refine State.modLane_within (hF.sub (by decide) (by decide)) ?_
  assumption

theorem State.patternFollow_within {Ma Na ba : Nat} {s₀ : State} {s : State} {b : Nat} {l : Nat}
    (hF : Foot Ma Na ba 0x0 0x800 (b)) (hS : Within Ma Na ba s₀ s) :
    Within Ma Na ba s₀ (State.patternFollow s b l) := by
  unfold State.patternFollow
  extract_lets -merge +onlyGivenNames y0
  extract_lets -merge +onlyGivenNames y1
  refine State.modLane_within (hF.sub (by decide) (by decide)) ?_
  assumption

theorem State.patternsFollow_within {Ma Na ba : Nat} {s₀ : State} {s : State} {b : Nat}
    (hF : Foot Ma Na ba 0x0 0x800 (b)) (hS : Within Ma Na ba s₀ s) :
    Within Ma Na ba s₀ (State.patternsFollow s b) := by
  unfold State.patternsFollow
  refine Within.foldl ?_ ?_
  · intro t0 x1 w2
    refine State.patternFollow_within (hF.sub (by decide) (by decide)) ?_
    assumption
  assumption

theorem State.dealBlock_within {Ma Na ba : Nat} {s₀ : State} {s : State} {b : Nat} {k : Block}
    (hF : Foot Ma Na ba 0x0 0x800 (b)) (hS : Within Ma Na ba s₀ s) :
    Within Ma Na ba s₀ (State.dealBlock s b k) := by
  unfold State.dealBlock
  extract_lets -merge +onlyGivenNames y0
  extract_lets -merge +onlyGivenNames y1
  extract_lets -merge +onlyGivenNames y2
  refine have w3 : Within Ma Na ba s₀ y2 := ?_; ?_
  · refine Within.ite ?_ ?_
    · refine State.idleOn_within (hF.sub (by decide) (by decide)) ?_
      assumption
    assumption
  clear_value y2
  refine Within.modBun (hF.mayOwn (by decide)) ?_
  refine State.laneSend_within (hF.sub (by decide) (by decide)) ?_
  assumption

theorem State.deal_within {Ma Na ba : Nat} {s₀ : State} {s : State} {b : Nat} {l : List Block}
    (hF : Foot Ma Na ba 0x0 0x800 (b)) (hS : Within Ma Na ba s₀ s) :
    Within Ma Na ba s₀ (s.deal b l) := by
  induction l generalizing s with
  | nil => exact Within.modBun (hF.mayOwn (by decide)) hS
  | cons k r ih =>
    unfold State.deal
    exact Within.ite (Within.modBun (hF.mayOwn (by decide)) hS) (ih (State.dealBlock_within (hF.sub (by decide) (by decide)) hS))

theorem State.runStream_within {Ma Na ba : Nat} {s₀ : State} {s : State} {b : Nat}
    (hF : Foot Ma Na ba 0x0 0x800 (b)) (hS : Within Ma Na ba s₀ s) :
    Within Ma Na ba s₀ (State.runStream s b) := by
  unfold State.runStream
  refine State.deal_within (hF.sub (by decide) (by decide)) ?_
  assumption

theorem State.closeRound_within {Ma Na ba : Nat} {s₀ : State} {s : State} {b : Nat}
    (hF : Foot Ma Na ba 0x0 0x800 (b)) (hS : Within Ma Na ba s₀ s) :
    Within Ma Na ba s₀ (State.closeRound s b) := by
  unfold State.closeRound
  extract_lets -merge +onlyGivenNames y0
  refine Within.ite ?_ ?_
  · assumption
  refine Within.modBun (hF.mayOwn (by decide)) ?_
  refine State.idleOn_within (hF.sub (by decide) (by decide)) ?_
  assumption

theorem State.catchUp_within {Ma Na ba : Nat} {s₀ : State} {s : State} {b : Nat} {at' : Nat}
    (hF : Foot Ma Na ba 0x0 0x800 (b)) (hS : Within Ma Na ba s₀ s) :
    Within Ma Na ba s₀ (State.catchUp s b at') := by
  unfold State.catchUp
  extract_lets -merge +onlyGivenNames y0
  extract_lets -merge +onlyGivenNames y1
  refine Within.ite ?_ ?_
  · refine Within.modBun (hF.mayOwn (by decide)) ?_
    refine State.closeRound_within (hF.sub (by decide) (by decide)) ?_
    assumption
  assumption

theorem State.ownRound_within {Ma Na ba : Nat} {s₀ : State} {s : State} {b : Nat} {ls : List Nat} {idle : List Nat} {blk : Nat → Block}
    (hF : Foot Ma Na ba 0x0 0x800 (b)) (hS : Within Ma Na ba s₀ s) :
    Within Ma Na ba s₀ (State.ownRound s b ls idle blk) := by
  unfold State.ownRound
  extract_lets -merge +onlyGivenNames y0
  refine have w1 : Within Ma Na ba s₀ y0 := ?_; ?_
  · refine Within.foldl ?_ ?_
    · intro t2 x3 w4
      refine State.laneSend_within (hF.sub (by decide) (by decide)) ?_
      assumption
    refine State.idleOn_within (hF.sub (by decide) (by decide)) ?_
    refine State.closeRound_within (hF.sub (by decide) (by decide)) ?_
    assumption
  clear_value y0
  refine Within.modBun (hF.mayOwn (by decide)) ?_
  assumption

theorem State.laneOut_within {Ma Na ba : Nat} {s₀ : State} {s : State} {b : Nat} {l : Nat}
    (hF : Foot Ma Na ba 0x200000000000000000000000000000000000 0x2000000000000000000000000000000000800 (b)) (hS : Within Ma Na ba s₀ s) :
    Within Ma Na ba s₀ (State.laneOut s b l) := by
  unfold State.laneOut
  refine State.modLane_within (hF.sub (by decide) (by decide)) ?_
  refine State.setLanes_within (hF.sub (by decide) (by decide)) ?_
  assumption

theorem State.freeze_within {Ma Na ba : Nat} {s₀ : State} {s : State} {b : Nat} {v : Bool}
    (hF : Foot Ma Na ba 0x0 0x2000000000000000000000000000000000000 (b)) (hS : Within Ma Na ba s₀ s) :
    Within Ma Na ba s₀ (State.freeze s b v) := by
  unfold State.freeze
  refine Within.setB .LN_LSTAT _ _ rfl (hF.mayOwn (by decide)) ?_
  assumption

theorem State.dropLocks_within {Ma Na ba : Nat} {s₀ : State} {s : State} {b : Nat}
    (hF : Foot Ma Na ba 0x0 0x2000000000000000000000000000000000800 (b)) (hS : Within Ma Na ba s₀ s) :
    Within Ma Na ba s₀ (State.dropLocks s b) := by
  unfold State.dropLocks
  extract_lets -merge +onlyGivenNames y0
  extract_lets -merge +onlyGivenNames y1
  refine have w2 : Within Ma Na ba s₀ y1 := ?_; ?_
  · refine Within.setB .LN_LSTAT _ _ rfl (hF.mayOwn (by decide)) ?_
    refine Within.modBun (hF.mayOwn (by decide)) ?_
    assumption
  clear_value y1
  refine Within.ite ?_ ?_
  · refine State.freeze_within (hF.sub (by decide) (by decide)) ?_
    assumption
  assumption

theorem State.enterTrain_within {Ma Na ba : Nat} {s₀ : State} {s : State} {b : Nat} {ls : List Nat}
    (hF : Foot Ma Na ba 0x201000000000000000000000000000000000 0x2884000000000000000000000000000000800 (b)) (hS : Within Ma Na ba s₀ s) :
    Within Ma Na ba s₀ (State.enterTrain s b ls) := by
  unfold State.enterTrain
  extract_lets -merge +onlyGivenNames y0
  refine have w1 : Within Ma Na ba s₀ y0 := ?_; ?_
  · refine Within.foldl ?_ ?_
    · intro t2 x3 w4
      refine State.modLane_within (hF.sub (by decide) (by decide)) ?_
      assumption
    refine State.setLanes_within (hF.sub (by decide) (by decide)) ?_
    assumption
  clear_value y0
  extract_lets -merge +onlyGivenNames y5
  refine have w6 : Within Ma Na ba s₀ y5 := ?_; ?_
  · refine Within.modBun (hF.mayOwn (by decide)) ?_
    refine State.dropLocks_within (hF.sub (by decide) (by decide)) ?_
    assumption
  clear_value y5
  refine Within.satF .LN_BSTAT _ 0 rfl (hF.mayOwn (by decide)) ?_
  refine State.setLink_within (hF.sub (by decide) (by decide)) ?_
  assumption

theorem State.detectCheck_within {Ma Na ba : Nat} {s₀ : State} {s : State} {b : Nat}
    (hF : Foot Ma Na ba 0x201000000000000000000000000000000000 0x2884000000000000000000000000000000800 (b)) (hS : Within Ma Na ba s₀ s) :
    Within Ma Na ba s₀ (State.detectCheck s b) := by
  unfold State.detectCheck
  extract_lets -merge +onlyGivenNames y0
  extract_lets -merge +onlyGivenNames y1
  refine Within.ite ?_ ?_
  · refine State.enterTrain_within (hF.sub (by decide) (by decide)) ?_
    assumption
  refine Within.ite ?_ ?_
  · refine Within.foldl ?_ ?_
    · intro t2 x3 w4
      refine State.laneOut_within (hF.sub (by decide) (by decide)) ?_
      assumption
    assumption
  assumption

theorem State.enterDetect_within {Ma Na ba : Nat} {s₀ : State} {s : State} {b : Nat}
    (hF : Foot Ma Na ba 0x201000000000000000000000000000000000 0x2884000000000000000000000000000000800 (b)) (hS : Within Ma Na ba s₀ s) :
    Within Ma Na ba s₀ (State.enterDetect s b) := by
  unfold State.enterDetect
  extract_lets -merge +onlyGivenNames y0
  refine have w1 : Within Ma Na ba s₀ y0 := ?_; ?_
  · refine State.setLanes_within (hF.sub (by decide) (by decide)) ?_
    assumption
  clear_value y0
  extract_lets -merge +onlyGivenNames y2
  refine have w3 : Within Ma Na ba s₀ y2 := ?_; ?_
  · refine Within.modBun (hF.mayOwn (by decide)) ?_
    refine State.dropLocks_within (hF.sub (by decide) (by decide)) ?_
    assumption
  clear_value y2
  refine State.detectCheck_within (hF.sub (by decide) (by decide)) ?_
  refine State.setLink_within (hF.sub (by decide) (by decide)) ?_
  assumption

theorem State.bringUpTimeout_within {Ma Na ba : Nat} {s₀ : State} {s : State} {b : Nat} {f : Field}
    (hF : Foot Ma Na ba 0x201000000000000000000000000000000000 0x2884000000000000000000000000000000800 (b)) (hS : Within Ma Na ba s₀ s) :
    Within Ma Na ba s₀ (State.bringUpTimeout s b f) := by
  unfold State.bringUpTimeout
  refine State.enterDetect_within (hF.sub (by decide) (by decide)) ?_
  refine Within.satF .LN_BSTAT _ 0 rfl (hF.mayOwn (by decide)) ?_
  refine Within.setB .LN_STATUS 0 0 rfl (hF.may (by decide)) ?_
  assumption

theorem State.retrain_within {Ma Na ba : Nat} {s₀ : State} {s : State} {b : Nat}
    (hF : Foot Ma Na ba 0x201000000000000000000000000000000000 0x2884000000000000000000000000000000800 (b)) (hS : Within Ma Na ba s₀ s) :
    Within Ma Na ba s₀ (State.retrain s b) := by
  unfold State.retrain
  refine State.enterTrain_within (hF.sub (by decide) (by decide)) ?_
  assumption

theorem State.laneFollow_within {Ma Na ba : Nat} {s₀ : State} {s : State} {b : Nat}
    (hF : Foot Ma Na ba 0x201000000000000000000000000000000000 0x2884000000000000000000000000000000800 (b)) (hS : Within Ma Na ba s₀ s) :
    Within Ma Na ba s₀ (State.laneFollow s b) := by
  unfold State.laneFollow
  refine Within.ite ?_ ?_
  · assumption
  refine Within.ite ?_ ?_
  · refine Within.ite ?_ ?_
    · refine State.patternsFollow_within (hF.sub (by decide) (by decide)) ?_
      refine State.enterDetect_within (hF.sub (by decide) (by decide)) ?_
      assumption
    assumption
  refine Within.ite ?_ ?_
  · refine Within.ite ?_ ?_
    · assumption
    refine State.patternsFollow_within (hF.sub (by decide) (by decide)) ?_
    refine State.setLink_within (hF.sub (by decide) (by decide)) ?_
    refine State.setLanes_within (hF.sub (by decide) (by decide)) ?_
    assumption
  refine Within.ite ?_ ?_
  · refine State.patternsFollow_within (hF.sub (by decide) (by decide)) ?_
    refine State.setLanes_within (hF.sub (by decide) (by decide)) ?_
    assumption
  assumption

theorem State.showReplay_within {Ma Na ba : Nat} {s₀ : State} {s : State} {b : Nat}
    (hF : Foot Ma Na ba 0x0 0x4000000000000000000000000000000000 (b)) (hS : Within Ma Na ba s₀ s) :
    Within Ma Na ba s₀ (State.showReplay s b) := by
  unfold State.showReplay
  refine Within.setF .EG_BSTAT _ 0 rfl (hF.mayOwn (by decide)) ?_
  assumption

theorem State.becomeBlind_within {Ma Na ba : Nat} {s₀ : State} {s : State} {b : Nat}
    (hF : Foot Ma Na ba 0x1000000000000000000000000000000000 0xa4000000000000000000000000000000800 (b)) (hS : Within Ma Na ba s₀ s) :
    Within Ma Na ba s₀ (State.becomeBlind s b) := by
  unfold State.becomeBlind
  extract_lets -merge +onlyGivenNames y0
  extract_lets -merge +onlyGivenNames y1
  refine have w2 : Within Ma Na ba s₀ y1 := ?_; ?_
  · refine State.setLink_within (hF.sub (by decide) (by decide)) ?_
    assumption
  clear_value y1
  extract_lets -merge +onlyGivenNames y3
  refine have w4 : Within Ma Na ba s₀ y3 := ?_; ?_
  · refine Within.modBun (hF.mayOwn (by decide)) ?_
    assumption
  clear_value y3
  refine State.showReplay_within (hF.sub (by decide) (by decide)) ?_
  refine Within.satF .EG_BCNT1 _ 0 rfl (hF.mayOwn (by decide)) ?_
  refine Within.setB .EG_STATUS 0 0 rfl (hF.may (by decide)) ?_
  assumption

theorem State.noteLost_within {Ma Na ba : Nat} {s₀ : State} {s : State} {ids : List (Nat × Nat)}
    (hF : Foot Ma Na ba 0x400 0x0 (0)) (hS : Within Ma Na ba s₀ s) :
    Within Ma Na ba s₀ (State.noteLost s ids) := by
  unfold State.noteLost
  refine Within.upd_fy (hF.any (by decide)) ((List.length_map _).trans (numbered_length _ _)) ?_
  assumption

theorem State.stopNow_within {Ma Na ba : Nat} {s₀ : State} {s : State} {b : Nat}
    (hF : Foot Ma Na ba 0x1000400000080000000000000000000d80 0x84000000000000000000000000000000000 (b)) (hS : Within Ma Na ba s₀ s) :
    Within Ma Na ba s₀ (State.stopNow s b) := by
  unfold State.stopNow
  extract_lets -merge +onlyGivenNames y0
  extract_lets -merge +onlyGivenNames y1
  extract_lets -merge +onlyGivenNames y2
  refine have w3 : Within Ma Na ba s₀ y2 := ?_; ?_
  · refine State.setLink_within (hF.sub (by decide) (by decide)) ?_
    refine State.closeRound_within (hF.sub (by decide) (by decide)) ?_
    assumption
  clear_value y2
  extract_lets -merge +onlyGivenNames y4
  refine have w5 : Within Ma Na ba s₀ y4 := ?_; ?_
  · refine Within.modBun (hF.mayOwn (by decide)) ?_
    assumption
  clear_value y4
  extract_lets -merge +onlyGivenNames y6
  refine have w7 : Within Ma Na ba s₀ y6 := ?_; ?_
  · refine State.showReplay_within (hF.sub (by decide) (by decide)) ?_
    assumption
  clear_value y6
  extract_lets -merge +onlyGivenNames y8
  refine have w9 : Within Ma Na ba s₀ y8 := ?_; ?_
  · refine State.noteLost_within (hF.drop (by decide)) ?_
    assumption
  clear_value y8
  refine Within.foldl ?_ ?_
  · intro t10 x11 w12
    extract_lets -merge +onlyGivenNames y13
    refine have w14 : Within Ma Na ba s₀ y13 := ?_; ?_
    · refine Within.modBun (hF.mayOwn (by decide)) ?_
      assumption
    clear_value y13
    refine State.dropFrame_within (hF.drop (by decide)) ?_
    assumption
  assumption

/-! ## Egress -/

theorem State.stallCheck_within {Ma Na ba : Nat} {s₀ : State} {s : State} {b : Nat}
    (hF : Foot Ma Na ba 0x0 0x800 (b)) (hS : Within Ma Na ba s₀ s) :
    Within Ma Na ba s₀ (State.stallCheck s b) := by
  unfold State.stallCheck
  extract_lets -merge +onlyGivenNames y0
  extract_lets -merge +onlyGivenNames y1
  refine Within.modBun (hF.mayOwn (by decide)) ?_
  assumption

theorem State.creditStall_within {Ma Na ba : Nat} {s₀ : State} {s : State} {b : Nat} {isB : Bool}
    (hF : Foot Ma Na ba 0x1000000000000000000000000000000000 0x800 (b)) (hS : Within Ma Na ba s₀ s) :
    Within Ma Na ba s₀ (State.creditStall s b isB) := by
  unfold State.creditStall
  extract_lets -merge +onlyGivenNames y0
  refine have w1 : Within Ma Na ba s₀ y0 := ?_; ?_
  · refine State.stallCheck_within (hF.sub (by decide) (by decide)) ?_
    assumption
  clear_value y0
  split
  · refine Within.ite ?_ ?_
    · refine Within.setB .EG_STATUS 0 0 rfl (hF.may (by decide)) ?_
      assumption
    assumption
  assumption

theorem State.sendPacket_within {Ma Na ba : Nat} {s₀ : State} {s : State} {b : Nat} {p : Packet}
    (hF : Foot Ma Na ba 0x100000 0x800 (b)) (hS : Within Ma Na ba s₀ s) :
    Within Ma Na ba s₀ (State.sendPacket s b p) := by
  unfold State.sendPacket
  refine State.deal_within (hF.sub (by decide) (by decide)) ?_
  refine Within.emit (hF.any (by decide)) ?_
  assumption

theorem State.sendIdle_within {Ma Na ba : Nat} {s₀ : State} {s : State} {b : Nat}
    (hF : Foot Ma Na ba 0x100000 0x800 (b)) (hS : Within Ma Na ba s₀ s) :
    Within Ma Na ba s₀ (State.sendIdle s b) := by
  unfold State.sendIdle
  refine State.deal_within (hF.sub (by decide) (by decide)) ?_
  refine Within.emit (hF.any (by decide)) ?_
  assumption

theorem State.feSent_within {Ma Na ba : Nat} {s₀ : State} {s : State} {b : Nat} {p : Packet}
    (hF : Foot Ma Na ba 0x0 0x800 (b)) (hS : Within Ma Na ba s₀ s) :
    Within Ma Na ba s₀ (State.feSent s b p) := by
  unfold State.feSent
  refine Within.ite ?_ ?_
  · refine Within.modBun (hF.mayOwn (by decide)) ?_
    assumption
  assumption

theorem State.sendP_within {Ma Na ba : Nat} {s₀ : State} {s : State} {b : Nat} {p : Packet}
    (hF : Foot Ma Na ba 0x100000 0x800 (b)) (hS : Within Ma Na ba s₀ s) :
    Within Ma Na ba s₀ (State.sendP s b p) := by
  unfold State.sendP
  extract_lets -merge +onlyGivenNames y0
  extract_lets -merge +onlyGivenNames y1
  refine have w2 : Within Ma Na ba s₀ y1 := ?_; ?_
  · refine Within.modBun (hF.mayOwn (by decide)) ?_
    assumption
  clear_value y1
  refine State.feSent_within (hF.sub (by decide) (by decide)) ?_
  refine State.sendPacket_within (hF.sub (by decide) (by decide)) ?_
  assumption

theorem State.sendReplay_within {Ma Na ba : Nat} {s₀ : State} {s : State} {b : Nat} {p : Packet}
    (hF : Foot Ma Na ba 0x100000 0x10000000000000000000000000000000800 (b)) (hS : Within Ma Na ba s₀ s) :
    Within Ma Na ba s₀ (State.sendReplay s b p) := by
  unfold State.sendReplay
  extract_lets -merge +onlyGivenNames y0
  refine have w1 : Within Ma Na ba s₀ y0 := ?_; ?_
  · refine Within.modBun (hF.mayOwn (by decide)) ?_
    assumption
  clear_value y0
  refine State.sendPacket_within (hF.sub (by decide) (by decide)) ?_
  refine Within.addF .EG_BCNT0 _ 0 rfl (hF.mayOwn (by decide)) ?_
  assumption

theorem State.sendNew_within {Ma Na ba : Nat} {s₀ : State} {s : State} {b : Nat} {p : Packet} {contested : Bool}
    (hF : Foot Ma Na ba 0x100000 0x4000000000000000000000000000000800 (b)) (hS : Within Ma Na ba s₀ s) :
    Within Ma Na ba s₀ (State.sendNew s b p contested) := by
  unfold State.sendNew
  extract_lets -merge +onlyGivenNames y0
  extract_lets -merge +onlyGivenNames y1
  extract_lets -merge +onlyGivenNames y2
  extract_lets -merge +onlyGivenNames y3
  extract_lets -merge +onlyGivenNames y4
  refine have w5 : Within Ma Na ba s₀ y4 := ?_; ?_
  · refine Within.setF .EG_BSTAT _ 0 rfl (hF.mayOwn (by decide)) ?_
    assumption
  clear_value y4
  extract_lets -merge +onlyGivenNames y6
  refine have w7 : Within Ma Na ba s₀ y6 := ?_; ?_
  · refine Within.modBun (hF.mayOwn (by decide)) ?_
    assumption
  clear_value y6
  refine State.showReplay_within (hF.sub (by decide) (by decide)) ?_
  refine State.feSent_within (hF.sub (by decide) (by decide)) ?_
  refine State.sendPacket_within (hF.sub (by decide) (by decide)) ?_
  assumption

theorem State.sendClass_within {Ma Na ba : Nat} {s₀ : State} {s : State} {b : Nat}
    (hF : Foot Ma Na ba 0x100000 0x4000000000000000000000000000000800 (b)) (hS : Within Ma Na ba s₀ s) :
    Within Ma Na ba s₀ (State.sendClass s b) := by
  unfold State.sendClass
  split
  · refine State.sendNew_within (hF.sub (by decide) (by decide)) ?_
    assumption
  · refine State.sendNew_within (hF.sub (by decide) (by decide)) ?_
    assumption
  · refine State.sendNew_within (hF.sub (by decide) (by decide)) ?_
    assumption
  refine State.sendIdle_within (hF.sub (by decide) (by decide)) ?_
  assumption

theorem State.sendNext_within {Ma Na ba : Nat} {s₀ : State} {s : State} {b : Nat}
    (hF : Foot Ma Na ba 0x100000 0x14000000000000000000000000000000800 (b)) (hS : Within Ma Na ba s₀ s) :
    Within Ma Na ba s₀ (State.sendNext s b) := by
  unfold State.sendNext
  split
  · refine State.sendP_within (hF.sub (by decide) (by decide)) ?_
    assumption
  split
  · refine State.sendReplay_within (hF.sub (by decide) (by decide)) ?_
    assumption
  refine State.sendClass_within (hF.sub (by decide) (by decide)) ?_
  assumption

theorem State.lockIdle_within {Ma Na ba : Nat} {s₀ : State} {s : State} {b : Nat}
    (hF : Foot Ma Na ba 0x100000 0x800 (b)) (hS : Within Ma Na ba s₀ s) :
    Within Ma Na ba s₀ (State.lockIdle s b) := by
  unfold State.lockIdle
  extract_lets -merge +onlyGivenNames y0
  extract_lets -merge +onlyGivenNames y1
  refine have w2 : Within Ma Na ba s₀ y1 := ?_; ?_
  · refine State.idleOn_within (hF.sub (by decide) (by decide)) ?_
    refine Within.emit (hF.any (by decide)) ?_
    assumption
  clear_value y1
  refine Within.modBun (hF.mayOwn (by decide)) ?_
  assumption

theorem State.transmit_within {Ma Na ba : Nat} {s₀ : State} {s : State} {b : Nat}
    (hF : Foot Ma Na ba 0x1000400000080000000000000000100d80 0x94000000000000000000000000000000000 (b)) (hS : Within Ma Na ba s₀ s) :
    Within Ma Na ba s₀ (State.transmit s b) := by
  unfold State.transmit
  extract_lets -merge +onlyGivenNames y0
  refine have w1 : Within Ma Na ba s₀ y0 := ?_; ?_
  · refine State.runStream_within (hF.sub (by decide) (by decide)) ?_
    assumption
  clear_value y0
  refine Within.ite ?_ ?_
  · refine Within.ite ?_ ?_
    · refine Within.ite ?_ ?_
      · refine State.lockIdle_within (hF.sub (by decide) (by decide)) ?_
        assumption
      assumption
    refine Within.ite ?_ ?_
    · refine Within.ite ?_ ?_
      · refine State.stopNow_within (hF.sub (by decide) (by decide)) ?_
        assumption
      refine State.stallCheck_within (hF.sub (by decide) (by decide)) ?_
      refine State.sendNext_within (hF.sub (by decide) (by decide)) ?_
      refine State.refill_within (hF.sub (by decide) (by decide)) ?_
      refine State.catchUp_within (hF.sub (by decide) (by decide)) ?_
      assumption
    refine Within.ite ?_ ?_
    · refine State.sendIdle_within (hF.sub (by decide) (by decide)) ?_
      refine State.catchUp_within (hF.sub (by decide) (by decide)) ?_
      assumption
    assumption
  assumption

theorem State.alignLane_within {Ma Na ba : Nat} {s₀ : State} {s : State} {b : Nat} {mask : Nat} {round : Nat} {l : Nat}
    (hF : Foot Ma Na ba 0x0 0x800 (b)) (hS : Within Ma Na ba s₀ s) :
    Within Ma Na ba s₀ (State.alignLane s b mask round l) := by
  unfold State.alignLane
  extract_lets -merge +onlyGivenNames y0
  refine State.laneSend_within (hF.sub (by decide) (by decide)) ?_
  refine State.modLane_within (hF.sub (by decide) (by decide)) ?_
  assumption

theorem State.alignRound_within {Ma Na ba : Nat} {s₀ : State} {s : State} {b : Nat} {stuffed : List Nat}
    (hF : Foot Ma Na ba 0x100000 0x800 (b)) (hS : Within Ma Na ba s₀ s) :
    Within Ma Na ba s₀ (State.alignRound s b stuffed) := by
  unfold State.alignRound
  extract_lets -merge +onlyGivenNames y0
  refine Within.ite ?_ ?_
  · extract_lets -merge +onlyGivenNames y1
    extract_lets -merge +onlyGivenNames y2
    extract_lets -merge +onlyGivenNames y3
    refine have w4 : Within Ma Na ba s₀ y3 := ?_; ?_
    · refine State.closeRound_within (hF.sub (by decide) (by decide)) ?_
      refine State.runStream_within (hF.sub (by decide) (by decide)) ?_
      assumption
    clear_value y3
    extract_lets -merge +onlyGivenNames y5
    refine have w6 : Within Ma Na ba s₀ y5 := ?_; ?_
    · refine Within.foldl ?_ ?_
      · intro t7 x8 w9
        refine State.modLane_within (hF.sub (by decide) (by decide)) ?_
        assumption
      assumption
    clear_value y5
    extract_lets -merge +onlyGivenNames y10
    refine have w11 : Within Ma Na ba s₀ y10 := ?_; ?_
    · refine Within.emit (hF.any (by decide)) ?_
      assumption
    clear_value y10
    extract_lets -merge +onlyGivenNames y12
    refine have w13 : Within Ma Na ba s₀ y12 := ?_; ?_
    · refine Within.foldl ?_ ?_
      · intro t14 x15 w16
        refine State.alignLane_within (hF.sub (by decide) (by decide)) ?_
        assumption
      assumption
    clear_value y12
    refine State.runStream_within (hF.sub (by decide) (by decide)) ?_
    refine Within.modBun (hF.mayOwn (by decide)) ?_
    assumption
  assumption

theorem State.replayFrom_within {Ma Na ba : Nat} {s₀ : State} {s : State} {b : Nat} {x : Nat}
    (hF : Foot Ma Na ba 0x1000000000000000000000000000000000 0x10000000000000000000000000000000800 (b)) (hS : Within Ma Na ba s₀ s) :
    Within Ma Na ba s₀ (State.replayFrom s b x) := by
  unfold State.replayFrom
  extract_lets -merge +onlyGivenNames y0
  refine have w1 : Within Ma Na ba s₀ y0 := ?_; ?_
  · refine Within.modBun (hF.mayOwn (by decide)) ?_
    assumption
  clear_value y0
  refine Within.setB .EG_STATUS 0 0 rfl (hF.may (by decide)) ?_
  refine Within.addF .EG_BCNT0 _ 0 rfl (hF.mayOwn (by decide)) ?_
  assumption

theorem State.release_within {Ma Na ba : Nat} {s₀ : State} {s : State} {b : Nat} {x : Nat}
    (hF : Foot Ma Na ba 0x0 0x4000000000000000000000000000000800 (b)) (hS : Within Ma Na ba s₀ s) :
    Within Ma Na ba s₀ (State.release s b x) := by
  unfold State.release
  extract_lets -merge +onlyGivenNames y0
  extract_lets -merge +onlyGivenNames y1
  refine State.showReplay_within (hF.sub (by decide) (by decide)) ?_
  refine Within.modBun (hF.mayOwn (by decide)) ?_
  assumption

theorem State.nak_within {Ma Na ba : Nat} {s₀ : State} {s : State} {b : Nat} {x : Nat}
    (hF : Foot Ma Na ba 0x1000000000000000000000000000000000 0x10000000000000000000000000000000800 (b)) (hS : Within Ma Na ba s₀ s) :
    Within Ma Na ba s₀ (State.nak s b x) := by
  unfold State.nak
  extract_lets -merge +onlyGivenNames y0
  refine Within.ite ?_ ?_
  · assumption
  refine State.replayFrom_within (hF.sub (by decide) (by decide)) ?_
  assumption

theorem State.ackTimeout_within {Ma Na ba : Nat} {s₀ : State} {s : State} {b : Nat}
    (hF : Foot Ma Na ba 0x1000000000000000000000000000000000 0x10000000000000000000000000000000800 (b)) (hS : Within Ma Na ba s₀ s) :
    Within Ma Na ba s₀ (State.ackTimeout s b) := by
  unfold State.ackTimeout
  split
  · assumption
  refine Within.ite ?_ ?_
  · refine State.replayFrom_within (hF.sub (by decide) (by decide)) ?_
    assumption
  assumption

theorem State.askShed_within {Ma Na ba : Nat} {s₀ : State} {s : State} {b : Nat} {l : Nat}
    (hF : Foot Ma Na ba 0x0 0x800 (b)) (hS : Within Ma Na ba s₀ s) :
    Within Ma Na ba s₀ (State.askShed s b l) := by
  unfold State.askShed
  refine Within.ite ?_ ?_
  · refine Within.modBun (hF.mayOwn (by decide)) ?_
    assumption
  assumption

theorem State.askRejoin_within {Ma Na ba : Nat} {s₀ : State} {s : State} {b : Nat} {l : Nat}
    (hF : Foot Ma Na ba 0x0 0x800 (b)) (hS : Within Ma Na ba s₀ s) :
    Within Ma Na ba s₀ (State.askRejoin s b l) := by
  unfold State.askRejoin
  refine Within.ite ?_ ?_
  · refine Within.modBun (hF.mayOwn (by decide)) ?_
    assumption
  assumption

theorem State.noteLanes_within {Ma Na ba : Nat} {s₀ : State} {s : State} {b : Nat} {ok : Nat}
    (hF : Foot Ma Na ba 0x0 0x800 (b)) (hS : Within Ma Na ba s₀ s) :
    Within Ma Na ba s₀ (State.noteLanes s b ok) := by
  unfold State.noteLanes
  extract_lets -merge +onlyGivenNames y0
  extract_lets -merge +onlyGivenNames y1
  extract_lets -merge +onlyGivenNames y2
  extract_lets -merge +onlyGivenNames y3
  refine have w4 : Within Ma Na ba s₀ y3 := ?_; ?_
  · refine Within.modBun (hF.mayOwn (by decide)) ?_
    assumption
  clear_value y3
  refine Within.foldl ?_ ?_
  · intro t5 x6 w7
    refine State.askShed_within (hF.sub (by decide) (by decide)) ?_
    assumption
  assumption

theorem State.returnRx_within {Ma Na ba : Nat} {s₀ : State} {s : State} {b : Nat} {m : ReturnMsg}
    (hF : Foot Ma Na ba 0x201000000000000000000000000000000000 0x2894000000000000000000000000000000800 (b)) (hS : Within Ma Na ba s₀ s) :
    Within Ma Na ba s₀ (State.returnRx s b m) := by
  unfold State.returnRx
  refine Within.ite ?_ ?_
  · assumption
  extract_lets -merge +onlyGivenNames y0
  extract_lets -merge +onlyGivenNames y1
  refine have w2 : Within Ma Na ba s₀ y1 := ?_; ?_
  · refine Within.setF .EG_BSTAT _ 0 rfl (hF.mayOwn (by decide)) ?_
    assumption
  clear_value y1
  extract_lets -merge +onlyGivenNames y3
  refine have w4 : Within Ma Na ba s₀ y3 := ?_; ?_
  · refine Within.modBun (hF.mayOwn (by decide)) ?_
    assumption
  clear_value y3
  refine Within.ite ?_ ?_
  · refine State.stallCheck_within (hF.sub (by decide) (by decide)) ?_
    refine Within.modBun (hF.mayOwn (by decide)) ?_
    assumption
  refine Within.ite ?_ ?_
  · refine State.retrain_within (hF.sub (by decide) (by decide)) ?_
    refine Within.setB .EG_STATUS 0 0 rfl (hF.may (by decide)) ?_
    assumption
  extract_lets -merge +onlyGivenNames y5
  refine have w6 : Within Ma Na ba s₀ y5 := ?_; ?_
  · refine State.release_within (hF.sub (by decide) (by decide)) ?_
    assumption
  clear_value y5
  extract_lets -merge +onlyGivenNames y7
  refine have w8 : Within Ma Na ba s₀ y7 := ?_; ?_
  · refine Within.ite ?_ ?_
    · refine State.nak_within (hF.sub (by decide) (by decide)) ?_
      assumption
    assumption
  clear_value y7
  extract_lets -merge +onlyGivenNames y9
  refine have w10 : Within Ma Na ba s₀ y9 := ?_; ?_
  · refine State.noteLanes_within (hF.sub (by decide) (by decide)) ?_
    assumption
  clear_value y9
  extract_lets -merge +onlyGivenNames y11
  refine have w12 : Within Ma Na ba s₀ y11 := ?_; ?_
  · refine Within.ite ?_ ?_
    · refine State.askShed_within (hF.sub (by decide) (by decide)) ?_
      assumption
    refine Within.ite ?_ ?_
    · refine State.askRejoin_within (hF.sub (by decide) (by decide)) ?_
      assumption
    assumption
  clear_value y11
  refine State.stallCheck_within (hF.sub (by decide) (by decide)) ?_
  assumption

theorem State.hear_within {Ma Na ba : Nat} {s₀ : State} {s : State} {b : Nat} {bits : List Bool}
    (hF : Foot Ma Na ba 0x0 0x80000000000000000000000000000000000800 (b)) (hS : Within Ma Na ba s₀ s) :
    Within Ma Na ba s₀ (State.hear s b bits) := by
  unfold State.hear
  extract_lets -merge +onlyGivenNames y0
  extract_lets -merge +onlyGivenNames y1
  refine have w2 : Within Ma Na ba s₀ y1 := ?_; ?_
  · refine State.modLane_within (hF.sub (by decide) (by decide)) ?_
    assumption
  clear_value y1
  extract_lets -merge +onlyGivenNames y3
  refine have w4 : Within Ma Na ba s₀ y3 := ?_; ?_
  · refine Within.ite ?_ ?_
    · assumption
    refine Within.satF .LN_LCNT _ _ rfl (hF.mayOwn (by decide)) ?_
    assumption
  clear_value y3
  extract_lets -merge +onlyGivenNames y5
  refine have w6 : Within Ma Na ba s₀ y5 := ?_; ?_
  · refine Within.ite ?_ ?_
    · assumption
    refine Within.satF .LN_LCNT _ _ rfl (hF.mayOwn (by decide)) ?_
    assumption
  clear_value y5
  refine Within.ite ?_ ?_
  · refine Within.satF .LN_LCNT _ _ rfl (hF.mayOwn (by decide)) ?_
    assumption
  assumption

theorem State.markerRound_within {Ma Na ba : Nat} {s₀ : State} {s : State} {b : Nat} {type : Nat} {mask : Nat} {round : Nat}
    (hF : Foot Ma Na ba 0x100000 0x800 (b)) (hS : Within Ma Na ba s₀ s) :
    Within Ma Na ba s₀ (State.markerRound s b type mask round) := by
  unfold State.markerRound
  extract_lets -merge +onlyGivenNames y0
  extract_lets -merge +onlyGivenNames y1
  refine have w2 : Within Ma Na ba s₀ y1 := ?_; ?_
  · refine Within.emit (hF.any (by decide)) ?_
    assumption
  clear_value y1
  refine State.ownRound_within (hF.sub (by decide) (by decide)) ?_
  assumption

theorem State.shedRound_within {Ma Na ba : Nat} {s₀ : State} {s : State} {b : Nat}
    (hF : Foot Ma Na ba 0x201000000000000000000000000000100000 0x28a4000000000000000000000000000000800 (b)) (hS : Within Ma Na ba s₀ s) :
    Within Ma Na ba s₀ (State.shedRound s b) := by
  unfold State.shedRound
  extract_lets -merge +onlyGivenNames y0
  refine have w1 : Within Ma Na ba s₀ y0 := ?_; ?_
  · refine State.runStream_within (hF.sub (by decide) (by decide)) ?_
    assumption
  clear_value y0
  extract_lets -merge +onlyGivenNames y2
  refine Within.ite ?_ ?_
  · extract_lets -merge +onlyGivenNames y3
    extract_lets -merge +onlyGivenNames y4
    extract_lets -merge +onlyGivenNames y5
    refine have w6 : Within Ma Na ba s₀ y5 := ?_; ?_
    · refine Within.modBun (hF.mayOwn (by decide)) ?_
      assumption
    clear_value y5
    extract_lets -merge +onlyGivenNames y7
    refine have w8 : Within Ma Na ba s₀ y7 := ?_; ?_
    · refine Within.setB .EG_STATUS 0 0 rfl (hF.may (by decide)) ?_
      refine Within.satF .EG_BCNT1 _ 0 rfl (hF.mayOwn (by decide)) ?_
      assumption
    clear_value y7
    refine Within.ite ?_ ?_
    · refine State.retrain_within (hF.sub (by decide) (by decide)) ?_
      refine Within.foldl ?_ ?_
      · intro t9 x10 w11
        refine State.laneOut_within (hF.sub (by decide) (by decide)) ?_
        assumption
      assumption
    extract_lets -merge +onlyGivenNames y12
    refine have w13 : Within Ma Na ba s₀ y12 := ?_; ?_
    · refine State.catchUp_within (hF.sub (by decide) (by decide)) ?_
      refine State.closeRound_within (hF.sub (by decide) (by decide)) ?_
      assumption
    clear_value y12
    extract_lets -merge +onlyGivenNames y14
    refine have w15 : Within Ma Na ba s₀ y14 := ?_; ?_
    · refine State.setLink_within (hF.sub (by decide) (by decide)) ?_
      refine Within.foldl ?_ ?_
      · intro t16 x17 w18
        refine State.laneOut_within (hF.sub (by decide) (by decide)) ?_
        assumption
      assumption
    clear_value y14
    refine State.runStream_within (hF.sub (by decide) (by decide)) ?_
    refine State.markerRound_within (hF.sub (by decide) (by decide)) ?_
    assumption
  assumption

theorem State.rejoinRound_within {Ma Na ba : Nat} {s₀ : State} {s : State} {b : Nat}
    (hF : Foot Ma Na ba 0x201000000000000000000000000000100000 0x20a4000000000000000000000000000000800 (b)) (hS : Within Ma Na ba s₀ s) :
    Within Ma Na ba s₀ (State.rejoinRound s b) := by
  unfold State.rejoinRound
  extract_lets -merge +onlyGivenNames y0
  refine have w1 : Within Ma Na ba s₀ y0 := ?_; ?_
  · refine State.runStream_within (hF.sub (by decide) (by decide)) ?_
    assumption
  clear_value y0
  extract_lets -merge +onlyGivenNames y2
  refine Within.ite ?_ ?_
  · extract_lets -merge +onlyGivenNames y3
    extract_lets -merge +onlyGivenNames y4
    refine have w5 : Within Ma Na ba s₀ y4 := ?_; ?_
    · refine Within.modBun (hF.mayOwn (by decide)) ?_
      assumption
    clear_value y4
    extract_lets -merge +onlyGivenNames y6
    refine Within.ite ?_ ?_
    · assumption
    extract_lets -merge +onlyGivenNames y7
    extract_lets -merge +onlyGivenNames y8
    refine have w9 : Within Ma Na ba s₀ y8 := ?_; ?_
    · refine Within.setB .EG_STATUS 0 0 rfl (hF.may (by decide)) ?_
      refine Within.satF .EG_BCNT1 _ 0 rfl (hF.mayOwn (by decide)) ?_
      assumption
    clear_value y8
    extract_lets -merge +onlyGivenNames y10
    refine have w11 : Within Ma Na ba s₀ y10 := ?_; ?_
    · refine State.catchUp_within (hF.sub (by decide) (by decide)) ?_
      refine State.closeRound_within (hF.sub (by decide) (by decide)) ?_
      assumption
    clear_value y10
    extract_lets -merge +onlyGivenNames y12
    refine have w13 : Within Ma Na ba s₀ y12 := ?_; ?_
    · refine Within.foldl ?_ ?_
      · intro t14 x15 w16
        refine State.modLane_within (hF.sub (by decide) (by decide)) ?_
        assumption
      refine State.setLanes_within (hF.sub (by decide) (by decide)) ?_
      assumption
    clear_value y12
    refine State.runStream_within (hF.sub (by decide) (by decide)) ?_
    refine State.markerRound_within (hF.sub (by decide) (by decide)) ?_
    refine State.setLink_within (hF.sub (by decide) (by decide)) ?_
    assumption
  assumption

theorem State.rejoinCmd_within {Ma Na ba : Nat} {s₀ : State} {s : State} {b : Nat} {l : Nat}
    (hF : Foot Ma Na ba 0x0 0x800 (b)) (hS : Within Ma Na ba s₀ s) :
    Within Ma Na ba s₀ (State.rejoinCmd s b l) := by
  unfold State.rejoinCmd
  refine Within.ite ?_ ?_
  · refine State.askRejoin_within (hF.sub (by decide) (by decide)) ?_
    assumption
  assumption

theorem State.capSend_within {Ma Na ba : Nat} {s₀ : State} {s : State} {b : Nat}
    (hF : Foot Ma Na ba 0x100000 0x800 (b)) (hS : Within Ma Na ba s₀ s) :
    Within Ma Na ba s₀ (State.capSend s b) := by
  unfold State.capSend
  refine Within.ite ?_ ?_
  · extract_lets -merge +onlyGivenNames y0
    extract_lets -merge +onlyGivenNames y1
    extract_lets -merge +onlyGivenNames y2
    extract_lets -merge +onlyGivenNames y3
    extract_lets -merge +onlyGivenNames y4
    refine have w5 : Within Ma Na ba s₀ y4 := ?_; ?_
    · refine Within.ite ?_ ?_
      · refine State.catchUp_within (hF.sub (by decide) (by decide)) ?_
        refine State.runStream_within (hF.sub (by decide) (by decide)) ?_
        assumption
      refine Within.modBun (hF.mayOwn (by decide)) ?_
      assumption
    clear_value y4
    extract_lets -merge +onlyGivenNames y6
    refine have w7 : Within Ma Na ba s₀ y6 := ?_; ?_
    · refine State.ownRound_within (hF.sub (by decide) (by decide)) ?_
      refine Within.emit (hF.any (by decide)) ?_
      assumption
    clear_value y6
    refine Within.modBun (hF.mayOwn (by decide)) ?_
    assumption
  assumption

theorem State.emptyFord_within {Ma Na ba : Nat} {s₀ : State} {s : State} {b : Nat}
    (hF : Foot Ma Na ba 0x1000000000000000000000000000000000 0x20000000000000000000000000000000800 (b)) (hS : Within Ma Na ba s₀ s) :
    Within Ma Na ba s₀ (State.emptyFord s b) := by
  unfold State.emptyFord
  refine Within.ite ?_ ?_
  · assumption
  refine Within.modBun (hF.mayOwn (by decide)) ?_
  refine State.discardP_within (hF.sub (by decide) (by decide)) ?_
  assumption

theorem State.takeCap_within {Ma Na ba : Nat} {s₀ : State} {s : State} {b : Nat} {m : CapMsg}
    (hF : Foot Ma Na ba 0x1000000000000000000000000000000000 0x2c000000000000000000000000000000800 (b)) (hS : Within Ma Na ba s₀ s) :
    Within Ma Na ba s₀ (State.takeCap s b m) := by
  unfold State.takeCap
  extract_lets -merge +onlyGivenNames y0
  extract_lets -merge +onlyGivenNames y1
  refine have w2 : Within Ma Na ba s₀ y1 := ?_; ?_
  · refine State.emptyFord_within (hF.sub (by decide) (by decide)) ?_
    refine Within.setB .EG_BSTAT _ 0 rfl (hF.mayOwn (by decide)) ?_
    refine Within.reg .EG_BCAP _ 0 rfl (hF.mayOwn (by decide)) ?_
    assumption
  clear_value y1
  extract_lets -merge +onlyGivenNames y3
  refine have w4 : Within Ma Na ba s₀ y3 := ?_; ?_
  · dsimp -zeta only [y3]
    split
    · refine Within.setF .EG_BSTAT _ 0 rfl (hF.mayOwn (by decide)) ?_
      assumption
    assumption
  clear_value y3
  refine Within.modBun (hF.mayOwn (by decide)) ?_
  assumption

theorem State.activate_within {Ma Na ba : Nat} {s₀ : State} {s : State} {b : Nat}
    (hF : Foot Ma Na ba 0x201000400000080000000000000000000d80 0x2884000000000000000000000000000000000 (b)) (hS : Within Ma Na ba s₀ s) :
    Within Ma Na ba s₀ (State.activate s b) := by
  unfold State.activate
  extract_lets -merge +onlyGivenNames y0
  refine Within.ite ?_ ?_
  · refine State.retrain_within (hF.sub (by decide) (by decide)) ?_
    assumption
  extract_lets -merge +onlyGivenNames y1
  extract_lets -merge +onlyGivenNames y2
  extract_lets -merge +onlyGivenNames y3
  refine have w4 : Within Ma Na ba s₀ y3 := ?_; ?_
  · refine State.setLanes_within (hF.sub (by decide) (by decide)) ?_
    assumption
  clear_value y3
  extract_lets -merge +onlyGivenNames y5
  refine have w6 : Within Ma Na ba s₀ y5 := ?_; ?_
  · refine Within.modBun (hF.mayOwn (by decide)) ?_
    assumption
  clear_value y5
  extract_lets -merge +onlyGivenNames y7
  refine have w8 : Within Ma Na ba s₀ y7 := ?_; ?_
  · refine Within.foldl ?_ ?_
    · intro t9 x10 w11
      refine State.laneOut_within (hF.sub (by decide) (by decide)) ?_
      assumption
    assumption
  clear_value y7
  extract_lets -merge +onlyGivenNames y12
  refine have w13 : Within Ma Na ba s₀ y12 := ?_; ?_
  · refine Within.foldl ?_ ?_
    · intro t14 x15 w16
      refine State.modLane_within (hF.sub (by decide) (by decide)) ?_
      assumption
    assumption
  clear_value y12
  refine Within.ite ?_ ?_
  · refine State.setLink_within (hF.sub (by decide) (by decide)) ?_
    refine State.stopNow_within (hF.sub (by decide) (by decide)) ?_
    assumption
  refine State.setLink_within (hF.sub (by decide) (by decide)) ?_
  assumption

theorem State.capRx_within {Ma Na ba : Nat} {s₀ : State} {s : State} {b : Nat} {m : CapMsg}
    (hF : Foot Ma Na ba 0x201000400000080000000000000000000d80 0x28ac000000000000000000000000000000000 (b)) (hS : Within Ma Na ba s₀ s) :
    Within Ma Na ba s₀ (State.capRx s b m) := by
  unfold State.capRx
  refine Within.ite ?_ ?_
  · assumption
  refine Within.ite ?_ ?_
  · refine Within.setB .EG_STATUS 0 0 rfl (hF.may (by decide)) ?_
    assumption
  refine Within.ite ?_ ?_
  · extract_lets -merge +onlyGivenNames y0
    refine have w1 : Within Ma Na ba s₀ y0 := ?_; ?_
    · refine State.takeCap_within (hF.sub (by decide) (by decide)) ?_
      assumption
    clear_value y0
    refine State.setLink_within (hF.sub (by decide) (by decide)) ?_
    assumption
  refine State.activate_within (hF.sub (by decide) (by decide)) ?_
  refine State.takeCap_within (hF.sub (by decide) (by decide)) ?_
  assumption

theorem State.blindTimeout_within {Ma Na ba : Nat} {s₀ : State} {s : State} {b : Nat}
    (hF : Foot Ma Na ba 0x1000000000000000000000000000000000 0xa4000000000000000000000000000000800 (b)) (hS : Within Ma Na ba s₀ s) :
    Within Ma Na ba s₀ (State.blindTimeout s b) := by
  unfold State.blindTimeout
  refine Within.ite ?_ ?_
  · refine State.becomeBlind_within (hF.sub (by decide) (by decide)) ?_
    assumption
  assumption

theorem State.bunStop_within {Ma Na ba : Nat} {s₀ : State} {s : State} {b : Nat}
    (hF : Foot Ma Na ba 0x1000400000080000000000000000000d80 0x86000000000000000000000000000000000 (b)) (hS : Within Ma Na ba s₀ s) :
    Within Ma Na ba s₀ (State.bunStop s b) := by
  unfold State.bunStop
  extract_lets -merge +onlyGivenNames y0
  refine have w1 : Within Ma Na ba s₀ y0 := ?_; ?_
  · refine State.runStream_within (hF.sub (by decide) (by decide)) ?_
    refine Within.setB .EG_BCTL _ 0 rfl (hF.mayOwn (by decide)) ?_
    assumption
  clear_value y0
  refine Within.ite ?_ ?_
  · refine State.stopNow_within (hF.sub (by decide) (by decide)) ?_
    assumption
  assumption

theorem State.exitCause_within {Ma Na ba : Nat} {s₀ : State} {s : State} {b : Nat}
    (hF : Foot Ma Na ba 0x1000000000000000000000000000000000 0x84000000000000000000000000000000800 (b)) (hS : Within Ma Na ba s₀ s) :
    Within Ma Na ba s₀ (State.exitCause s b) := by
  unfold State.exitCause
  refine State.setLink_within (hF.sub (by decide) (by decide)) ?_
  refine Within.modBun (hF.mayOwn (by decide)) ?_
  assumption

theorem State.bunGo_within {Ma Na ba : Nat} {s₀ : State} {s : State} {b : Nat}
    (hF : Foot Ma Na ba 0x1000000000000000000000000000000000 0xa6000000000000000000000000000000800 (b)) (hS : Within Ma Na ba s₀ s) :
    Within Ma Na ba s₀ (State.bunGo s b) := by
  unfold State.bunGo
  extract_lets -merge +onlyGivenNames y0
  refine have w1 : Within Ma Na ba s₀ y0 := ?_; ?_
  · refine Within.setB .EG_BCTL _ 0 rfl (hF.mayOwn (by decide)) ?_
    assumption
  clear_value y0
  refine Within.ite ?_ ?_
  · assumption
  refine Within.ite ?_ ?_
  · refine State.exitCause_within (hF.sub (by decide) (by decide)) ?_
    assumption
  extract_lets -merge +onlyGivenNames y2
  refine have w3 : Within Ma Na ba s₀ y2 := ?_; ?_
  · refine State.setLink_within (hF.sub (by decide) (by decide)) ?_
    refine Within.modBun (hF.mayOwn (by decide)) ?_
    assumption
  clear_value y2
  refine Within.ite ?_ ?_
  · assumption
  refine State.becomeBlind_within (hF.sub (by decide) (by decide)) ?_
  assumption

theorem execPacketTransmit_within {Ma Na ba : Nat} {s₀ : State} {t : Nat} {bundle : Fin 8} {s : State}
    (hF : Foot Ma Na ba 0x1000400000080000000000000000100d80 0x94000000000000000000000000000000000 (bundle.val)) (hS : Within Ma Na ba s₀ (s.advance t)) :
    Ends Ma Na ba s₀ (execPacketTransmit t bundle s) := by
  unfold execPacketTransmit
  refine Ends.mk ?_
  refine State.transmit_within (hF.sub (by decide) (by decide)) ?_
  assumption

theorem execAlignRound_within {Ma Na ba : Nat} {s₀ : State} {t : Nat} {bundle : Fin 8} {stuffed : List Nat} {s : State}
    (hF : Foot Ma Na ba 0x100000 0x800 (bundle.val)) (hS : Within Ma Na ba s₀ (s.advance t)) :
    Ends Ma Na ba s₀ (execAlignRound t bundle stuffed s) := by
  unfold execAlignRound
  refine Ends.mk ?_
  refine State.alignRound_within (hF.sub (by decide) (by decide)) ?_
  assumption

theorem execReturnRx_within {Ma Na ba : Nat} {s₀ : State} {t : Nat} {bundle : Fin 8} {bits : List Bool} {s : State}
    (hF : Foot Ma Na ba 0x201000000000000000000000000000000000 0x82894000000000000000000000000000000800 (↑bundle)) (hS : Within Ma Na ba s₀ (s.advance t)) :
    Ends Ma Na ba s₀ (execReturnRx t bundle bits s) := by
  unfold execReturnRx
  extract_lets -merge +onlyGivenNames y0
  refine have w1 : Within Ma Na ba s₀ y0 := ?_; ?_
  · assumption
  clear_value y0
  refine Ends.mk ?_
  split
  · refine State.returnRx_within (hF.sub (by decide) (by decide)) ?_
    refine State.hear_within (hF.sub (by decide) (by decide)) ?_
    assumption
  refine State.hear_within (hF.sub (by decide) (by decide)) ?_
  assumption

theorem execAckTimeout_within {Ma Na ba : Nat} {s₀ : State} {t : Nat} {bundle : Fin 8} {s : State}
    (hF : Foot Ma Na ba 0x1000000000000000000000000000000000 0x10000000000000000000000000000000800 (bundle.val)) (hS : Within Ma Na ba s₀ (s.advance t)) :
    Ends Ma Na ba s₀ (execAckTimeout t bundle s) := by
  unfold execAckTimeout
  refine Ends.mk ?_
  refine State.ackTimeout_within (hF.sub (by decide) (by decide)) ?_
  assumption

theorem execCapSend_within {Ma Na ba : Nat} {s₀ : State} {t : Nat} {bundle : Fin 8} {s : State}
    (hF : Foot Ma Na ba 0x100000 0x800 (bundle.val)) (hS : Within Ma Na ba s₀ (s.advance t)) :
    Ends Ma Na ba s₀ (execCapSend t bundle s) := by
  unfold execCapSend
  refine Ends.mk ?_
  refine State.capSend_within (hF.sub (by decide) (by decide)) ?_
  assumption

theorem execCapRx_within {Ma Na ba : Nat} {s₀ : State} {t : Nat} {bundle : Fin 8} {bits : List Bool} {s : State}
    (hF : Foot Ma Na ba 0x201000400000080000000000000000000d80 0x828ac000000000000000000000000000000000 (↑bundle)) (hS : Within Ma Na ba s₀ (s.advance t)) :
    Ends Ma Na ba s₀ (execCapRx t bundle bits s) := by
  unfold execCapRx
  extract_lets -merge +onlyGivenNames y0
  refine have w1 : Within Ma Na ba s₀ y0 := ?_; ?_
  · assumption
  clear_value y0
  refine Ends.mk ?_
  split
  · refine State.capRx_within (hF.sub (by decide) (by decide)) ?_
    refine State.hear_within (hF.sub (by decide) (by decide)) ?_
    assumption
  refine State.hear_within (hF.sub (by decide) (by decide)) ?_
  assumption

theorem execShedRound_within {Ma Na ba : Nat} {s₀ : State} {t : Nat} {bundle : Fin 8} {s : State}
    (hF : Foot Ma Na ba 0x201000000000000000000000000000100000 0x28a4000000000000000000000000000000800 (bundle.val)) (hS : Within Ma Na ba s₀ (s.advance t)) :
    Ends Ma Na ba s₀ (execShedRound t bundle s) := by
  unfold execShedRound
  refine Ends.mk ?_
  refine State.shedRound_within (hF.sub (by decide) (by decide)) ?_
  assumption

theorem execBundleShedCmd_within {Ma Na ba : Nat} {s₀ : State} {t : Nat} {src : Src} {bundle : Fin 8} {lane : Fin 8} {s : State}
    (hF : Foot Ma Na ba 0x0 0x2000000000000000000000000000000800 (bundle.val)) (hS : Within Ma Na ba s₀ (s.advance t)) :
    Ends Ma Na ba s₀ (execBundleShedCmd t src bundle lane s) := by
  unfold execBundleShedCmd
  refine Ends.mk ?_
  refine State.managed_within (hF.drop (by decide)) ?_ ?_
  · intro t0 w1
    refine State.askShed_within (hF.sub (by decide) (by decide)) ?_
    refine Within.setF .EG_BCTL _ 0 rfl (hF.mayOwn (by decide)) ?_
    assumption
  assumption

theorem execRejoinRound_within {Ma Na ba : Nat} {s₀ : State} {t : Nat} {bundle : Fin 8} {s : State}
    (hF : Foot Ma Na ba 0x201000000000000000000000000000100000 0x20a4000000000000000000000000000000800 (bundle.val)) (hS : Within Ma Na ba s₀ (s.advance t)) :
    Ends Ma Na ba s₀ (execRejoinRound t bundle s) := by
  unfold execRejoinRound
  refine Ends.mk ?_
  refine State.rejoinRound_within (hF.sub (by decide) (by decide)) ?_
  assumption

theorem execBundleRejoinCmd_within {Ma Na ba : Nat} {s₀ : State} {t : Nat} {src : Src} {bundle : Fin 8} {lane : Fin 8} {s : State}
    (hF : Foot Ma Na ba 0x0 0x2000000000000000000000000000000800 (bundle.val)) (hS : Within Ma Na ba s₀ (s.advance t)) :
    Ends Ma Na ba s₀ (execBundleRejoinCmd t src bundle lane s) := by
  unfold execBundleRejoinCmd
  refine Ends.mk ?_
  refine State.managed_within (hF.drop (by decide)) ?_ ?_
  · intro t0 w1
    refine State.rejoinCmd_within (hF.sub (by decide) (by decide)) ?_
    refine Within.setF .EG_BCTL _ 0 rfl (hF.mayOwn (by decide)) ?_
    assumption
  assumption

theorem execBlindTimeout_within {Ma Na ba : Nat} {s₀ : State} {t : Nat} {bundle : Fin 8} {s : State}
    (hF : Foot Ma Na ba 0x1000000000000000000000000000000000 0xa4000000000000000000000000000000800 (bundle.val)) (hS : Within Ma Na ba s₀ (s.advance t)) :
    Ends Ma Na ba s₀ (execBlindTimeout t bundle s) := by
  unfold execBlindTimeout
  refine Ends.mk ?_
  refine State.blindTimeout_within (hF.sub (by decide) (by decide)) ?_
  assumption

theorem execCreditStallTimeout_within {Ma Na ba : Nat} {s₀ : State} {t : Nat} {bundle : Fin 8} {isB : Bool} {s : State}
    (hF : Foot Ma Na ba 0x1000000000000000000000000000000000 0x800 (bundle.val)) (hS : Within Ma Na ba s₀ (s.advance t)) :
    Ends Ma Na ba s₀ (execCreditStallTimeout t bundle isB s) := by
  unfold execCreditStallTimeout
  refine Ends.mk ?_
  refine State.creditStall_within (hF.sub (by decide) (by decide)) ?_
  assumption

theorem execBundleStop_within {Ma Na ba : Nat} {s₀ : State} {t : Nat} {src : Src} {bundle : Fin 8} {s : State}
    (hF : Foot Ma Na ba 0x1000400000080000000000000000000d80 0x86000000000000000000000000000000000 (bundle.val)) (hS : Within Ma Na ba s₀ (s.advance t)) :
    Ends Ma Na ba s₀ (execBundleStop t src bundle s) := by
  unfold execBundleStop
  refine Ends.mk ?_
  refine State.managed_within (hF.drop (by decide)) ?_ ?_
  · intro t0 w1
    refine State.bunStop_within (hF.sub (by decide) (by decide)) ?_
    assumption
  assumption

theorem execBundleStopClear_within {Ma Na ba : Nat} {s₀ : State} {t : Nat} {src : Src} {bundle : Fin 8} {s : State}
    (hF : Foot Ma Na ba 0x1000000000000000000000000000000000 0xa6000000000000000000000000000000800 (bundle.val)) (hS : Within Ma Na ba s₀ (s.advance t)) :
    Ends Ma Na ba s₀ (execBundleStopClear t src bundle s) := by
  unfold execBundleStopClear
  refine Ends.mk ?_
  refine State.managed_within (hF.drop (by decide)) ?_ ?_
  · intro t0 w1
    refine State.bunGo_within (hF.sub (by decide) (by decide)) ?_
    assumption
  assumption

end Sys2Proof.Machine
end

