-- ==== Sys2Proof/Laws/FrameFabric.lean ====
section
/-! SUPPORT. What the functions of lanes, ports, the fabric and the clocks can change: one lemma for each function and each meaning, in the relation `Within`. -/

namespace Sys2Proof.Machine

/-! ## Topology -/

theorem State.modPort_within {Ma Na ba : Nat} {s₀ : State} {s : State} {p : Nat} {f : FabPort → FabPort}
    (hF : Foot Ma Na ba 0x4000 0x0 (0)) (hS : Within Ma Na ba s₀ s) :
    Within Ma Na ba s₀ (State.modPort s p f) := by
  unfold State.modPort
  refine Within.upd_kf (hF.any (by decide)) ?_
  assumption

theorem State.sendFabric_within {Ma Na ba : Nat} {s₀ : State} {s : State} {ports : List Nat} {words : List Nat}
    (hF : Foot Ma Na ba 0x100000 0x0 (0)) (hS : Within Ma Na ba s₀ s) :
    Within Ma Na ba s₀ (State.sendFabric s ports words) := by
  unfold State.sendFabric
  refine Within.emits (hF.any (by decide)) ?_
  assumption

theorem State.showAddr_within {Ma Na ba : Nat} {s₀ : State} {s : State}
    (hF : Foot Ma Na ba 0x200000000000000000000000000000000000000 0x0 (0)) (hS : Within Ma Na ba s₀ s) :
    Within Ma Na ba s₀ (State.showAddr s) := by
  unfold State.showAddr
  split
  · refine Within.setB .FB_STATUS 0 0 rfl (hF.may (by decide)) ?_
    refine Within.setF .FB_STATUS 0 0 rfl (hF.may (by decide)) ?_
    assumption
  refine Within.setB .FB_STATUS 0 0 rfl (hF.may (by decide)) ?_
  refine Within.setF .FB_STATUS 0 0 rfl (hF.may (by decide)) ?_
  assumption

theorem State.coast_within {Ma Na ba : Nat} {s₀ : State} {s : State}
    (hF : Foot Ma Na ba 0x1000000000000000000000000000000000004000 0x0 (0)) (hS : Within Ma Na ba s₀ s) :
    Within Ma Na ba s₀ (State.coast s) := by
  unfold State.coast
  extract_lets -merge +onlyGivenNames y0
  extract_lets -merge +onlyGivenNames y1
  extract_lets -merge +onlyGivenNames y2
  refine have w3 : Within Ma Na ba s₀ y2 := ?_; ?_
  · refine Within.upd_kf (hF.any (by decide)) ?_
    assumption
  clear_value y2
  refine Within.ite ?_ ?_
  · refine Within.setF .FB_TSTAT 0 0 rfl (hF.may (by decide)) ?_
    assumption
  assumption

theorem State.correctTime_within {Ma Na ba : Nat} {s₀ : State} {s : State} {o : ℤ}
    (hF : Foot Ma Na ba 0x2000000000100000000000000000000000800000000001c005 0x0 (0)) (hS : Within Ma Na ba s₀ s) :
    Within Ma Na ba s₀ (State.correctTime s o) := by
  unfold State.correctTime
  extract_lets -merge +onlyGivenNames y0
  refine Within.ite ?_ ?_
  · extract_lets -merge +onlyGivenNames y1
    extract_lets -merge +onlyGivenNames y2
    extract_lets -merge +onlyGivenNames y3
    extract_lets -merge +onlyGivenNames y4
    refine have w5 : Within Ma Na ba s₀ y4 := ?_; ?_
    · refine Within.setF .FB_TSTAT 0 0 rfl (hF.may (by decide)) ?_
      assumption
    clear_value y4
    refine Within.upd_clock_kf (hF.any (by decide)) (hF.any (by decide)) rfl ?_
    assumption
  extract_lets -merge +onlyGivenNames y6
  refine have w7 : Within Ma Na ba s₀ y6 := ?_; ?_
  · refine Within.setF .FB_TSTAT 0 0 rfl (hF.may (by decide)) ?_
    assumption
  clear_value y6
  extract_lets -merge +onlyGivenNames y8
  extract_lets -merge +onlyGivenNames y9
  extract_lets -merge +onlyGivenNames y10
  refine have w11 : Within Ma Na ba s₀ y10 := ?_; ?_
  · refine Within.upd_clock_kf (hF.any (by decide)) (hF.any (by decide)) rfl ?_
    assumption
  clear_value y10
  refine Within.ite ?_ ?_
  · assumption
  refine Within.fst ?_
  refine State.applyStep_within (hF.drop (by decide)) ?_
  assumption

theorem State.trimDb_within {Ma Na ba : Nat} {s₀ : State} {s : State}
    (hF : Foot Ma Na ba 0x200000000000000000000000000000000004000 0x0 (0)) (hS : Within Ma Na ba s₀ s) :
    Within Ma Na ba s₀ (State.trimDb s) := by
  unfold State.trimDb
  extract_lets -merge +onlyGivenNames y0
  refine Within.ite ?_ ?_
  · extract_lets -merge +onlyGivenNames y1
    refine Within.setB .FB_STATUS 0 0 rfl (hF.may (by decide)) ?_
    refine Within.upd_kf (hF.any (by decide)) ?_
    assumption
  assumption

theorem State.showNodes_within {Ma Na ba : Nat} {s₀ : State} {s : State}
    (hF : Foot Ma Na ba 0x18000000000000000000000000000000000000000000 0x0 (0)) (hS : Within Ma Na ba s₀ s) :
    Within Ma Na ba s₀ (State.showNodes s) := by
  unfold State.showNodes
  extract_lets -merge +onlyGivenNames y0
  extract_lets -merge +onlyGivenNames y1
  extract_lets -merge +onlyGivenNames y2
  extract_lets -merge +onlyGivenNames y3
  refine Within.block_FB_NODE_ID (hF.any (by decide)) (hF.any (by decide)) (nodes_length _ _ (List.length_take_le _ _)) ?_
  assumption

theorem State.topo_within {Ma Na ba : Nat} {s₀ : State} {s : State}
    (hF : Foot Ma Na ba 0x20000018101600000000000000000000000000000000014000 0x0 (0)) (hS : Within Ma Na ba s₀ s) :
    Within Ma Na ba s₀ (State.topo s) := by
  unfold State.topo
  extract_lets -merge +onlyGivenNames y0
  refine have w1 : Within Ma Na ba s₀ y0 := ?_; ?_
  · refine State.trimDb_within (hF.drop (by decide)) ?_
    assumption
  clear_value y0
  extract_lets -merge +onlyGivenNames y2
  extract_lets -merge +onlyGivenNames y3
  extract_lets -merge +onlyGivenNames y4
  extract_lets -merge +onlyGivenNames y5
  extract_lets -merge +onlyGivenNames y6
  refine have w7 : Within Ma Na ba s₀ y6 := ?_; ?_
  · refine Within.ite ?_ ?_
    · refine Within.setB .FB_STATUS 0 0 rfl (hF.may (by decide)) ?_
      assumption
    assumption
  clear_value y6
  extract_lets -merge +onlyGivenNames y8
  extract_lets -merge +onlyGivenNames y9
  extract_lets -merge +onlyGivenNames y10
  extract_lets -merge +onlyGivenNames y11
  extract_lets -merge +onlyGivenNames y12
  extract_lets -merge +onlyGivenNames y13
  refine have w14 : Within Ma Na ba s₀ y13 := ?_; ?_
  · refine Within.setB .FB_STATUS 0 0 rfl (hF.may (by decide)) ?_
    refine Within.reg .FB_ROOT 0 0 rfl (hF.may (by decide)) ?_
    assumption
  clear_value y13
  extract_lets -merge +onlyGivenNames y15
  extract_lets -merge +onlyGivenNames y16
  extract_lets -merge +onlyGivenNames y17
  refine have w18 : Within Ma Na ba s₀ y17 := ?_; ?_
  · refine Within.ite ?_ ?_
    · refine Within.setF .ETH_PTP_STAT 0 0 rfl (hF.may (by decide)) ?_
      refine Within.upd_eth (hF.any (by decide)) ?_
      assumption
    assumption
  clear_value y17
  extract_lets -merge +onlyGivenNames y19
  refine have w20 : Within Ma Na ba s₀ y19 := ?_; ?_
  · refine Within.setF .FB_STATUS 0 0 rfl (hF.may (by decide)) ?_
    assumption
  clear_value y19
  extract_lets -merge +onlyGivenNames y21
  refine have w22 : Within Ma Na ba s₀ y21 := ?_; ?_
  · refine Within.setF .FB_TSTAT 0 0 rfl (hF.may (by decide)) ?_
    refine Within.setB .FB_TSTAT 0 0 rfl (hF.may (by decide)) ?_
    assumption
  clear_value y21
  extract_lets -merge +onlyGivenNames y23
  refine have w24 : Within Ma Na ba s₀ y23 := ?_; ?_
  · refine Within.setF .FB_TSTAT 0 0 rfl (hF.may (by decide)) ?_
    assumption
  clear_value y23
  extract_lets -merge +onlyGivenNames y25
  refine have w26 : Within Ma Na ba s₀ y25 := ?_; ?_
  · refine Within.setB .ETH_PTP_STAT 0 0 rfl (hF.may (by decide)) ?_
    assumption
  clear_value y25
  extract_lets -merge +onlyGivenNames y27
  refine have w28 : Within Ma Na ba s₀ y27 := ?_; ?_
  · refine Within.setB .FB_TSTAT 0 0 rfl (hF.may (by decide)) ?_
    assumption
  clear_value y27
  extract_lets -merge +onlyGivenNames y29
  refine have w30 : Within Ma Na ba s₀ y29 := ?_; ?_
  · refine Within.ite ?_ ?_
    · refine State.coast_within (hF.drop (by decide)) ?_
      assumption
    assumption
  clear_value y29
  extract_lets -merge +onlyGivenNames y31
  extract_lets -merge +onlyGivenNames y32
  refine have w33 : Within Ma Na ba s₀ y32 := ?_; ?_
  · refine Within.foldl ?_ ?_
    · intro t34 x35 w36
      refine Within.setB .FB_PSTAT _ 0 rfl (hF.may (by decide)) ?_
      assumption
    assumption
  clear_value y32
  extract_lets -merge +onlyGivenNames y37
  extract_lets -merge +onlyGivenNames y38
  refine have w39 : Within Ma Na ba s₀ y38 := ?_; ?_
  · refine Within.ite ?_ ?_
    · refine Within.setB .FB_STATUS 0 0 rfl (hF.may (by decide)) ?_
      assumption
    assumption
  clear_value y38
  extract_lets -merge +onlyGivenNames y40
  extract_lets -merge +onlyGivenNames y41
  refine State.showNodes_within (hF.drop (by decide)) ?_
  refine Within.upd_kf (hF.any (by decide)) ?_
  assumption

theorem State.setAdj_within {Ma Na ba : Nat} {s₀ : State} {s : State} {p : Nat} {v : Bool}
    (hF : Foot Ma Na ba 0x20000018101600000000000000000000000000000000014000 0x0 (0)) (hS : Within Ma Na ba s₀ s) :
    Within Ma Na ba s₀ (State.setAdj s p v) := by
  unfold State.setAdj
  refine Within.ite ?_ ?_
  · assumption
  extract_lets -merge +onlyGivenNames y0
  refine have w1 : Within Ma Na ba s₀ y0 := ?_; ?_
  · refine Within.setB .FB_STATUS 0 0 rfl (hF.may (by decide)) ?_
    refine Within.setB .FB_PSTAT _ 0 rfl (hF.may (by decide)) ?_
    assumption
  clear_value y0
  refine State.topo_within (hF.drop (by decide)) ?_
  refine Within.upd_kf (hF.any (by decide)) ?_
  assumption

/-! ## Ports -/

theorem State.portInto_within {Ma Na ba : Nat} {s₀ : State} {s : State} {p : Nat} {st : Nat}
    (hF : Foot Ma Na ba 0x20000018101600000000000000000000000000000000014000 0x0 (0)) (hS : Within Ma Na ba s₀ s) :
    Within Ma Na ba s₀ (State.portInto s p st) := by
  unfold State.portInto
  extract_lets -merge +onlyGivenNames y0
  refine have w1 : Within Ma Na ba s₀ y0 := ?_; ?_
  · refine Within.setF .FB_PSTAT _ 0 rfl (hF.may (by decide)) ?_
    refine State.setAdj_within (hF.drop (by decide)) ?_
    assumption
  clear_value y0
  refine State.modPort_within (hF.drop (by decide)) ?_
  assumption

theorem State.portTrain_within {Ma Na ba : Nat} {s₀ : State} {s : State} {p : Nat}
    (hF : Foot Ma Na ba 0x20000018101600000000000000000000000000000000014000 0x400000000000000000000000000000000000000000 (p)) (hS : Within Ma Na ba s₀ s) :
    Within Ma Na ba s₀ (State.portTrain s p) := by
  unfold State.portTrain
  refine Within.satF .FB_PCNT _ 0 rfl (hF.mayOwn (by decide)) ?_
  refine State.portInto_within (hF.drop (by decide)) ?_
  assumption

theorem State.portCheck_within {Ma Na ba : Nat} {s₀ : State} {s : State} {p : Nat}
    (hF : Foot Ma Na ba 0x20000018101600000000000000000000000000000000014000 0x400000000000000000000000000000000000000000 (p)) (hS : Within Ma Na ba s₀ s) :
    Within Ma Na ba s₀ (State.portCheck s p) := by
  unfold State.portCheck
  refine Within.ite ?_ ?_
  · refine State.portTrain_within (hF.sub (by decide) (by decide)) ?_
    assumption
  assumption

theorem State.portDetect_within {Ma Na ba : Nat} {s₀ : State} {s : State} {p : Nat}
    (hF : Foot Ma Na ba 0x20000018101600000000000000000000000000000000014000 0x400000000000000000000000000000000000000000 (p)) (hS : Within Ma Na ba s₀ s) :
    Within Ma Na ba s₀ (State.portDetect s p) := by
  unfold State.portDetect
  refine State.portCheck_within (hF.sub (by decide) (by decide)) ?_
  refine State.portInto_within (hF.drop (by decide)) ?_
  assumption

theorem State.portUpCheck_within {Ma Na ba : Nat} {s₀ : State} {s : State} {p : Nat}
    (hF : Foot Ma Na ba 0x4000 0x100000000000000000000000000000000000000000 (p)) (hS : Within Ma Na ba s₀ s) :
    Within Ma Na ba s₀ (State.portUpCheck s p) := by
  unfold State.portUpCheck
  refine Within.ite ?_ ?_
  · refine State.modPort_within (hF.drop (by decide)) ?_
    refine Within.setF .FB_PSTAT _ 0 rfl (hF.mayOwn (by decide)) ?_
    assumption
  assumption

theorem State.portPattern_within {Ma Na ba : Nat} {s₀ : State} {s : State} {p : Nat}
    (hF : Foot Ma Na ba 0x4000 0x0 (0)) (hS : Within Ma Na ba s₀ s) :
    Within Ma Na ba s₀ (State.portPattern s p) := by
  unfold State.portPattern
  extract_lets -merge +onlyGivenNames y0
  extract_lets -merge +onlyGivenNames y1
  refine State.modPort_within (hF.drop (by decide)) ?_
  assumption

theorem State.portFollow_within {Ma Na ba : Nat} {s₀ : State} {s : State} {p : Nat}
    (hF : Foot Ma Na ba 0x20000018101600000000000000000000000000000000014000 0x400000000000000000000000000000000000000000 (p)) (hS : Within Ma Na ba s₀ s) :
    Within Ma Na ba s₀ (State.portFollow s p) := by
  unfold State.portFollow
  refine Within.ite ?_ ?_
  · assumption
  refine Within.ite ?_ ?_
  · refine Within.ite ?_ ?_
    · refine State.portPattern_within (hF.drop (by decide)) ?_
      refine State.portDetect_within (hF.sub (by decide) (by decide)) ?_
      assumption
    assumption
  refine Within.ite ?_ ?_
  · refine Within.ite ?_ ?_
    · assumption
    refine State.portPattern_within (hF.drop (by decide)) ?_
    refine State.portInto_within (hF.drop (by decide)) ?_
    assumption
  refine Within.ite ?_ ?_
  · assumption
  refine State.portPattern_within (hF.drop (by decide)) ?_
  refine State.portInto_within (hF.drop (by decide)) ?_
  assumption

theorem State.portStep_within {Ma Na ba : Nat} {s₀ : State} {s : State} {p : Nat} {present : Bool}
    (hF : Foot Ma Na ba 0x20000018101600000000000000000000000000000000114000 0x400000000000000000000000000000000000000000 (p)) (hS : Within Ma Na ba s₀ s) :
    Within Ma Na ba s₀ (State.portStep s p present) := by
  unfold State.portStep
  refine Within.ite ?_ ?_
  · extract_lets -merge +onlyGivenNames y0
    refine have w1 : Within Ma Na ba s₀ y0 := ?_; ?_
    · refine Within.emit (hF.any (by decide)) ?_
      assumption
    clear_value y0
    refine State.portCheck_within (hF.sub (by decide) (by decide)) ?_
    refine State.modPort_within (hF.drop (by decide)) ?_
    assumption
  assumption

theorem State.portRequest_within {Ma Na ba : Nat} {s₀ : State} {s : State} {p : Nat} {isPre : Bool} {req : Nat}
    (hF : Foot Ma Na ba 0x200000000000000000000000000000004000 0x100000000000000000000000000000000000000000 (p)) (hS : Within Ma Na ba s₀ s) :
    Within Ma Na ba s₀ (State.portRequest s p isPre req) := by
  unfold State.portRequest
  extract_lets -merge +onlyGivenNames y0
  extract_lets -merge +onlyGivenNames y1
  extract_lets -merge +onlyGivenNames y2
  refine Within.ite ?_ ?_
  · refine State.modPort_within (hF.drop (by decide)) ?_
    assumption
  refine Within.ite ?_ ?_
  · assumption
  split
  · refine State.modPort_within (hF.drop (by decide)) ?_
    refine Within.setF .FB_PSTAT _ 0 rfl (hF.mayOwn (by decide)) ?_
    refine Within.setF .FB_PSTAT _ 0 rfl (hF.mayOwn (by decide)) ?_
    assumption
  refine State.modPort_within (hF.drop (by decide)) ?_
  refine Within.setB .LN_STATUS 0 0 rfl (hF.may (by decide)) ?_
  assumption

theorem State.portFrame_within {Ma Na ba : Nat} {s₀ : State} {s : State} {p : Nat}
    (hF : Foot Ma Na ba 0x304000 0x0 (0)) (hS : Within Ma Na ba s₀ s) :
    Within Ma Na ba s₀ (State.portFrame s p) := by
  unfold State.portFrame
  extract_lets -merge +onlyGivenNames y0
  extract_lets -merge +onlyGivenNames y1
  extract_lets -merge +onlyGivenNames y2
  refine State.modPort_within (hF.drop (by decide)) ?_
  refine Within.emit (hF.any (by decide)) ?_
  refine Within.ite ?_ ?_
  · assumption
  refine Within.used (hF.any (by decide)) ?_
  assumption

theorem State.portTrainRx_within {Ma Na ba : Nat} {s₀ : State} {s : State} {p : Nat} {m : TrainMsg}
    (hF : Foot Ma Na ba 0x200000000000000000000000000000304000 0x100000000000000000000000000000000000000000 (p)) (hS : Within Ma Na ba s₀ s) :
    Within Ma Na ba s₀ (State.portTrainRx s p m) := by
  unfold State.portTrainRx
  refine Within.ite ?_ ?_
  · extract_lets -merge +onlyGivenNames y0
    refine have w1 : Within Ma Na ba s₀ y0 := ?_; ?_
    · refine Within.setF .FB_PSTAT _ 0 rfl (hF.mayOwn (by decide)) ?_
      assumption
    clear_value y0
    extract_lets -merge +onlyGivenNames y2
    refine have w3 : Within Ma Na ba s₀ y2 := ?_; ?_
    · refine State.portRequest_within (hF.sub (by decide) (by decide)) ?_
      assumption
    clear_value y2
    extract_lets -merge +onlyGivenNames y4
    refine have w5 : Within Ma Na ba s₀ y4 := ?_; ?_
    · refine State.portRequest_within (hF.sub (by decide) (by decide)) ?_
      assumption
    clear_value y4
    extract_lets -merge +onlyGivenNames y6
    extract_lets -merge +onlyGivenNames y7
    refine have w8 : Within Ma Na ba s₀ y7 := ?_; ?_
    · refine State.modPort_within (hF.drop (by decide)) ?_
      assumption
    clear_value y7
    refine State.portFrame_within (hF.drop (by decide)) ?_
    assumption
  assumption

theorem State.portCountdown_within {Ma Na ba : Nat} {s₀ : State} {s : State} {p : Nat}
    (hF : Foot Ma Na ba 0x4000 0x100000000000000000000000000000000000000000 (p)) (hS : Within Ma Na ba s₀ s) :
    Within Ma Na ba s₀ (State.portCountdown s p) := by
  unfold State.portCountdown
  split
  · refine Within.ite ?_ ?_
    · refine State.modPort_within (hF.drop (by decide)) ?_
      refine Within.setF .FB_PSTAT _ 0 rfl (hF.mayOwn (by decide)) ?_
      assumption
    assumption
  assumption

theorem State.portTimeout_within {Ma Na ba : Nat} {s₀ : State} {s : State} {p : Nat} {st : Nat} {ns : Nat}
    (hF : Foot Ma Na ba 0x20000018101600000000000000000000000000000000014000 0x400000000000000000000000000000000000000000 (p)) (hS : Within Ma Na ba s₀ s) :
    Within Ma Na ba s₀ (State.portTimeout s p st ns) := by
  unfold State.portTimeout
  refine Within.ite ?_ ?_
  · refine State.portDetect_within (hF.sub (by decide) (by decide)) ?_
    assumption
  assumption

theorem State.portLock_within {Ma Na ba : Nat} {s₀ : State} {s : State} {p : Nat}
    (hF : Foot Ma Na ba 0x4000 0x100000000000000000000000000000000000000000 (p)) (hS : Within Ma Na ba s₀ s) :
    Within Ma Na ba s₀ (State.portLock s p) := by
  unfold State.portLock
  refine Within.ite ?_ ?_
  · refine State.portUpCheck_within (hF.sub (by decide) (by decide)) ?_
    refine State.modPort_within (hF.drop (by decide)) ?_
    assumption
  assumption

theorem State.portUnlock_within {Ma Na ba : Nat} {s₀ : State} {s : State} {p : Nat}
    (hF : Foot Ma Na ba 0x20000018101600000000000000000000000000000000014000 0x400000000000000000000000000000000000000000 (p)) (hS : Within Ma Na ba s₀ s) :
    Within Ma Na ba s₀ (State.portUnlock s p) := by
  unfold State.portUnlock
  refine Within.ite ?_ ?_
  · extract_lets -merge +onlyGivenNames y0
    refine have w1 : Within Ma Na ba s₀ y0 := ?_; ?_
    · refine State.modPort_within (hF.drop (by decide)) ?_
      refine Within.satF .FB_PCNT _ 0 rfl (hF.mayOwn (by decide)) ?_
      assumption
    clear_value y0
    refine Within.ite ?_ ?_
    · refine State.portDetect_within (hF.sub (by decide) (by decide)) ?_
      assumption
    assumption
  assumption

theorem execPortTrainingFrameRx_within {Ma Na ba : Nat} {s₀ : State} {t : Nat} {port : Fin 8} {msg : TrainMsg} {s : State}
    (hF : Foot Ma Na ba 0x200000000000000000000000000000304000 0x100000000000000000000000000000000000000000 (port.val)) (hS : Within Ma Na ba s₀ (s.advance t)) :
    Ends Ma Na ba s₀ (execPortTrainingFrameRx t port msg s) := by
  unfold execPortTrainingFrameRx
  refine Ends.mk ?_
  refine State.portTrainRx_within (hF.sub (by decide) (by decide)) ?_
  assumption

theorem execPortTrainTimeout_within {Ma Na ba : Nat} {s₀ : State} {t : Nat} {port : Fin 8} {s : State}
    (hF : Foot Ma Na ba 0x20000018101600000000000000000000000000000000014000 0x400000000000000000000000000000000000000000 (port.val)) (hS : Within Ma Na ba s₀ (s.advance t)) :
    Ends Ma Na ba s₀ (execPortTrainTimeout t port s) := by
  unfold execPortTrainTimeout
  refine Ends.mk ?_
  refine State.portTimeout_within (hF.sub (by decide) (by decide)) ?_
  assumption

theorem execPortLockTimeout_within {Ma Na ba : Nat} {s₀ : State} {t : Nat} {port : Fin 8} {s : State}
    (hF : Foot Ma Na ba 0x20000018101600000000000000000000000000000000014000 0x400000000000000000000000000000000000000000 (port.val)) (hS : Within Ma Na ba s₀ (s.advance t)) :
    Ends Ma Na ba s₀ (execPortLockTimeout t port s) := by
  unfold execPortLockTimeout
  refine Ends.mk ?_
  refine State.portTimeout_within (hF.sub (by decide) (by decide)) ?_
  assumption

/-! ## Lanes -/

theorem testReg_cov {M N b : Nat} {k : LaneId} (h1 : M.testBit 147 = true) (h2 : M.testBit 167 = true) : Cov M N b (testReg k) := by
  cases k
  · exact Cov.at (p := .LN_LTEST) rfl (.inl h1)
  · exact Cov.at (p := .FB_PTEST) (j := 0) rfl (.inl h2)

theorem perrReg_cov {M N b : Nat} {k : LaneId} (h1 : M.testBit 149 = true) (h2 : M.testBit 169 = true) : Cov M N b (perrReg k) := by
  cases k
  · exact Cov.at (p := .LN_LPERR) rfl (.inl h1)
  · exact Cov.at (p := .FB_PPERR) (j := 0) rfl (.inl h2)

theorem pbitsReg_cov {M N b : Nat} {k : LaneId} (h1 : M.testBit 150 = true) (h2 : M.testBit 170 = true) : Cov M N b (pbitsReg k) := by
  cases k
  · exact Cov.at (p := .LN_LPBITS) rfl (.inl h1)
  · exact Cov.at (p := .FB_PPBITS) (j := 0) rfl (.inl h2)

theorem testReg_ge (k : LaneId) : 16 ≤ testReg k := by cases k <;> simp only [testReg, Reg.LN_LTEST, Reg.FB_PTEST] <;> omega

theorem perrReg_ge (k : LaneId) : 16 ≤ perrReg k := by cases k <;> simp only [perrReg, Reg.LN_LPERR, Reg.FB_PPERR] <;> omega

theorem pbitsReg_ge (k : LaneId) : 16 ≤ pbitsReg k := by cases k <;> simp only [pbitsReg, Reg.LN_LPBITS, Reg.FB_PPBITS] <;> omega

theorem State.bunEnable_within {Ma Na ba : Nat} {s₀ : State} {s : State} {b : Nat}
    (hF : Foot Ma Na ba 0x201000000000000000000000000000000000 0x2886000000000000000000000000000000800 (b)) (hS : Within Ma Na ba s₀ s) :
    Within Ma Na ba s₀ (State.bunEnable s b) := by
  unfold State.bunEnable
  extract_lets -merge +onlyGivenNames y0
  refine have w1 : Within Ma Na ba s₀ y0 := ?_; ?_
  · refine Within.setB .EG_BCTL _ 0 rfl (hF.mayOwn (by decide)) ?_
    assumption
  clear_value y0
  refine Within.ite ?_ ?_
  · refine State.exitCause_within (hF.sub (by decide) (by decide)) ?_
    assumption
  refine State.laneFollow_within (hF.sub (by decide) (by decide)) ?_
  assumption

theorem State.bunDisable_within {Ma Na ba : Nat} {s₀ : State} {s : State} {b : Nat}
    (hF : Foot Ma Na ba 0x201000000000000000000000000000000000 0x2886000000000000000000000000000000800 (b)) (hS : Within Ma Na ba s₀ s) :
    Within Ma Na ba s₀ (State.bunDisable s b) := by
  unfold State.bunDisable
  extract_lets -merge +onlyGivenNames y0
  refine have w1 : Within Ma Na ba s₀ y0 := ?_; ?_
  · refine Within.setB .EG_BCTL _ 0 rfl (hF.mayOwn (by decide)) ?_
    assumption
  clear_value y0
  refine Within.ite ?_ ?_
  · refine State.laneFollow_within (hF.sub (by decide) (by decide)) ?_
    assumption
  extract_lets -merge +onlyGivenNames y2
  extract_lets -merge +onlyGivenNames y3
  extract_lets -merge +onlyGivenNames y4
  refine have w5 : Within Ma Na ba s₀ y4 := ?_; ?_
  · refine State.setLanes_within (hF.sub (by decide) (by decide)) ?_
    assumption
  clear_value y4
  extract_lets -merge +onlyGivenNames y6
  refine have w7 : Within Ma Na ba s₀ y6 := ?_; ?_
  · refine Within.modBun (hF.mayOwn (by decide)) ?_
    assumption
  clear_value y6
  extract_lets -merge +onlyGivenNames y8
  refine have w9 : Within Ma Na ba s₀ y8 := ?_; ?_
  · refine Within.ite ?_ ?_
    · refine State.freeze_within (hF.sub (by decide) (by decide)) ?_
      assumption
    refine State.dropLocks_within (hF.sub (by decide) (by decide)) ?_
    assumption
  clear_value y8
  refine State.laneFollow_within (hF.sub (by decide) (by decide)) ?_
  refine State.setLink_within (hF.sub (by decide) (by decide)) ?_
  assumption

theorem State.laneStep_within {Ma Na ba : Nat} {s₀ : State} {s : State} {b : Nat} {l : Nat} {present : Bool}
    (hF : Foot Ma Na ba 0x201000000000000000000000000000100000 0x2884000000000000000000000000000000800 (b)) (hS : Within Ma Na ba s₀ s) :
    Within Ma Na ba s₀ (State.laneStep s b l present) := by
  unfold State.laneStep
  refine Within.ite ?_ ?_
  · extract_lets -merge +onlyGivenNames y0
    refine have w1 : Within Ma Na ba s₀ y0 := ?_; ?_
    · refine Within.emit (hF.any (by decide)) ?_
      assumption
    clear_value y0
    extract_lets -merge +onlyGivenNames y2
    refine have w3 : Within Ma Na ba s₀ y2 := ?_; ?_
    · refine Within.setB .LN_LSTAT _ _ rfl (hF.mayOwn (by decide)) ?_
      assumption
    clear_value y2
    refine State.detectCheck_within (hF.sub (by decide) (by decide)) ?_
    refine State.modLane_within (hF.sub (by decide) (by decide)) ?_
    assumption
  assumption

theorem State.laneRequest_within {Ma Na ba : Nat} {s₀ : State} {s : State} {b : Nat} {l : Nat} {isPre : Bool} {req : Nat}
    (hF : Foot Ma Na ba 0x200000000000000000000000000000000000 0x4000000000000000000000000000000000800 (b)) (hS : Within Ma Na ba s₀ s) :
    Within Ma Na ba s₀ (State.laneRequest s b l isPre req) := by
  unfold State.laneRequest
  extract_lets -merge +onlyGivenNames y0
  extract_lets -merge +onlyGivenNames y1
  extract_lets -merge +onlyGivenNames y2
  extract_lets -merge +onlyGivenNames y3
  refine Within.ite ?_ ?_
  · assumption
  refine Within.ite ?_ ?_
  · dsimp -zeta only [y3]
    refine State.modLane_within (hF.sub (by decide) (by decide)) ?_
    assumption
  refine Within.ite ?_ ?_
  · assumption
  split
  · dsimp -zeta only [y3]
    refine State.modLane_within (hF.sub (by decide) (by decide)) ?_
    refine Within.setF .LN_LTXEQ _ _ rfl (hF.mayOwn (by decide)) ?_
    refine Within.setF .LN_LTXEQ _ _ rfl (hF.mayOwn (by decide)) ?_
    assumption
  dsimp -zeta only [y3]
  refine State.modLane_within (hF.sub (by decide) (by decide)) ?_
  refine Within.setB .LN_STATUS 0 0 rfl (hF.may (by decide)) ?_
  assumption

theorem State.trainClose_within {Ma Na ba : Nat} {s₀ : State} {s : State} {b : Nat} {ready : Nat} {close : Bool}
    (hF : Foot Ma Na ba 0x0 0x2000000000000000000000000000000000800 (b)) (hS : Within Ma Na ba s₀ s) :
    Within Ma Na ba s₀ (State.trainClose s b ready close) := by
  unfold State.trainClose
  extract_lets -merge +onlyGivenNames y0
  extract_lets -merge +onlyGivenNames y1
  refine have w2 : Within Ma Na ba s₀ y1 := ?_; ?_
  · refine Within.modBun (hF.mayOwn (by decide)) ?_
    assumption
  clear_value y1
  refine Within.ite ?_ ?_
  · extract_lets -merge +onlyGivenNames y3
    refine have w4 : Within Ma Na ba s₀ y3 := ?_; ?_
    · refine Within.foldl ?_ ?_
      · intro t5 x6 w7
        refine Within.setB .LN_LSTAT _ _ rfl (hF.mayOwn (by decide)) ?_
        assumption
      assumption
    clear_value y3
    refine Within.modBun (hF.mayOwn (by decide)) ?_
    assumption
  assumption

theorem State.trainRx_within {Ma Na ba : Nat} {s₀ : State} {s : State} {b : Nat} {m : TrainMsg}
    (hF : Foot Ma Na ba 0x200000000000000000000000000000100000 0x6000000000000000000000000000000000800 (b)) (hS : Within Ma Na ba s₀ s) :
    Within Ma Na ba s₀ (State.trainRx s b m) := by
  unfold State.trainRx
  refine Within.ite ?_ ?_
  · extract_lets -merge +onlyGivenNames y0
    extract_lets -merge +onlyGivenNames y1
    refine have w2 : Within Ma Na ba s₀ y1 := ?_; ?_
    · refine Within.ite ?_ ?_
      · refine State.laneRequest_within (hF.sub (by decide) (by decide)) ?_
        refine State.laneRequest_within (hF.sub (by decide) (by decide)) ?_
        assumption
      assumption
    clear_value y1
    extract_lets -merge +onlyGivenNames y3
    refine have w4 : Within Ma Na ba s₀ y3 := ?_; ?_
    · refine State.trainClose_within (hF.sub (by decide) (by decide)) ?_
      assumption
    clear_value y3
    extract_lets -merge +onlyGivenNames y5
    refine have w6 : Within Ma Na ba s₀ y5 := ?_; ?_
    · refine Within.emits (hF.any (by decide)) ?_
      assumption
    clear_value y5
    refine Within.foldl ?_ ?_
    · intro t7 x8 w9
      refine State.laneFrame_within (hF.sub (by decide) (by decide)) ?_
      assumption
    assumption
  assumption

theorem State.bunCountdown_within {Ma Na ba : Nat} {s₀ : State} {s : State} {b : Nat}
    (hF : Foot Ma Na ba 0x200000000000000000000000000000000000 0x2000000000000000000000000000000000800 (b)) (hS : Within Ma Na ba s₀ s) :
    Within Ma Na ba s₀ (State.bunCountdown s b) := by
  unfold State.bunCountdown
  split
  · refine Within.ite ?_ ?_
    · refine Within.modBun (hF.mayOwn (by decide)) ?_
      refine State.dropLocks_within (hF.sub (by decide) (by decide)) ?_
      refine State.setLanes_within (hF.sub (by decide) (by decide)) ?_
      assumption
    assumption
  assumption

theorem State.trainTimeout_within {Ma Na ba : Nat} {s₀ : State} {s : State} {b : Nat}
    (hF : Foot Ma Na ba 0x201000000000000000000000000000000000 0x2884000000000000000000000000000000800 (b)) (hS : Within Ma Na ba s₀ s) :
    Within Ma Na ba s₀ (State.trainTimeout s b) := by
  unfold State.trainTimeout
  refine Within.ite ?_ ?_
  · refine State.bringUpTimeout_within (hF.sub (by decide) (by decide)) ?_
    assumption
  assumption

theorem State.lockTimeout_within {Ma Na ba : Nat} {s₀ : State} {s : State} {b : Nat}
    (hF : Foot Ma Na ba 0x201000000000000000000000000000000000 0x2884000000000000000000000000000000800 (b)) (hS : Within Ma Na ba s₀ s) :
    Within Ma Na ba s₀ (State.lockTimeout s b) := by
  unfold State.lockTimeout
  refine Within.ite ?_ ?_
  · refine State.bringUpTimeout_within (hF.sub (by decide) (by decide)) ?_
    assumption
  assumption

theorem State.capTimeout_within {Ma Na ba : Nat} {s₀ : State} {s : State} {b : Nat}
    (hF : Foot Ma Na ba 0x201000000000000000000000000000000000 0x2884000000000000000000000000000000800 (b)) (hS : Within Ma Na ba s₀ s) :
    Within Ma Na ba s₀ (State.capTimeout s b) := by
  unfold State.capTimeout
  split
  · refine Within.ite ?_ ?_
    · refine State.bringUpTimeout_within (hF.sub (by decide) (by decide)) ?_
      assumption
    assumption
  assumption

theorem State.frameLock_within {Ma Na ba : Nat} {s₀ : State} {s : State} {k : LaneId} {v : Bool}
    (hF : Foot Ma Na ba 0x2000000000000000000000000000000004800 0x0 (0)) (hS : Within Ma Na ba s₀ s) :
    Within Ma Na ba s₀ (State.frameLock s k v) := by
  unfold State.frameLock
  split
  · refine Within.ite ?_ ?_
    · refine State.freeze_within (hF.drop (by decide)) ?_
      refine Within.modBun (hF.may (by decide)) ?_
      assumption
    assumption
  refine Within.ite ?_ ?_
  · refine State.modPort_within (hF.drop (by decide)) ?_
    assumption
  assumption

theorem State.returnLock_within {Ma Na ba : Nat} {s₀ : State} {s : State} {b : Nat}
    (hF : Foot Ma Na ba 0x0 0x2000000000000000000000000000000000800 (b)) (hS : Within Ma Na ba s₀ s) :
    Within Ma Na ba s₀ (State.returnLock s b) := by
  unfold State.returnLock
  extract_lets -merge +onlyGivenNames y0
  refine Within.ite ?_ ?_
  · assumption
  extract_lets -merge +onlyGivenNames y1
  refine have w2 : Within Ma Na ba s₀ y1 := ?_; ?_
  · refine Within.setB .LN_LSTAT _ _ rfl (hF.mayOwn (by decide)) ?_
    assumption
  clear_value y1
  extract_lets -merge +onlyGivenNames y3
  refine have w4 : Within Ma Na ba s₀ y3 := ?_; ?_
  · refine Within.ite ?_ ?_
    · refine State.freeze_within (hF.sub (by decide) (by decide)) ?_
      assumption
    assumption
  clear_value y3
  extract_lets -merge +onlyGivenNames y5
  refine have w6 : Within Ma Na ba s₀ y5 := ?_; ?_
  · refine Within.ite ?_ ?_
    · refine Within.modBun (hF.mayOwn (by decide)) ?_
      assumption
    assumption
  clear_value y5
  refine Within.ite ?_ ?_
  · refine Within.modBun (hF.mayOwn (by decide)) ?_
    assumption
  assumption

theorem State.returnLoss_within {Ma Na ba : Nat} {s₀ : State} {s : State} {b : Nat}
    (hF : Foot Ma Na ba 0x201000000000000000000000000000000000 0x820a4000000000000000000000000000000800 (b)) (hS : Within Ma Na ba s₀ s) :
    Within Ma Na ba s₀ (State.returnLoss s b) := by
  unfold State.returnLoss
  refine Within.ite ?_ ?_
  · extract_lets -merge +onlyGivenNames y0
    refine have w1 : Within Ma Na ba s₀ y0 := ?_; ?_
    · refine State.freeze_within (hF.sub (by decide) (by decide)) ?_
      refine Within.setB .LN_LSTAT _ _ rfl (hF.mayOwn (by decide)) ?_
      assumption
    clear_value y0
    extract_lets -merge +onlyGivenNames y2
    refine have w3 : Within Ma Na ba s₀ y2 := ?_; ?_
    · refine Within.setB .LN_STATUS 0 0 rfl (hF.may (by decide)) ?_
      refine Within.satF .LN_LCNT _ _ rfl (hF.mayOwn (by decide)) ?_
      assumption
    clear_value y2
    extract_lets -merge +onlyGivenNames y4
    refine have w5 : Within Ma Na ba s₀ y4 := ?_; ?_
    · refine Within.modBun (hF.mayOwn (by decide)) ?_
      assumption
    clear_value y4
    refine Within.ite ?_ ?_
    · refine State.becomeBlind_within (hF.sub (by decide) (by decide)) ?_
      assumption
    assumption
  assumption

theorem State.blockLock_within {Ma Na ba : Nat} {s₀ : State} {s : State} {k : LaneId}
    (hF : Foot Ma Na ba 0x100002000000000000000000000000000000004800 0x0 (0)) (hS : Within Ma Na ba s₀ s) :
    Within Ma Na ba s₀ (State.blockLock s k) := by
  unfold State.blockLock
  split
  · refine Within.ite ?_ ?_
    · refine State.returnLock_within (hF.drop (by decide)) ?_
      assumption
    assumption
  refine State.portLock_within (hF.drop (by decide)) ?_
  assumption

theorem State.blockLoss_within {Ma Na ba : Nat} {s₀ : State} {s : State} {k : LaneId}
    (hF : Foot Ma Na ba 0x200000185016822a5000000000000000000000000000014800 0x0 (0)) (hS : Within Ma Na ba s₀ s) :
    Within Ma Na ba s₀ (State.blockLoss s k) := by
  unfold State.blockLoss
  split
  · refine Within.ite ?_ ?_
    · refine State.returnLoss_within (hF.drop (by decide)) ?_
      assumption
    assumption
  refine State.portUnlock_within (hF.drop (by decide)) ?_
  assumption

theorem State.beginBurst_within {Ma Na ba : Nat} {s₀ : State} {s : State} {b : Nat} {l : Nat}
    (hF : Foot Ma Na ba 0x200000000000000000000000000000100000 0x2000000000000000000000000000000000800 (b)) (hS : Within Ma Na ba s₀ s) :
    Within Ma Na ba s₀ (State.beginBurst s b l) := by
  unfold State.beginBurst
  extract_lets -merge +onlyGivenNames y0
  refine have w1 : Within Ma Na ba s₀ y0 := ?_; ?_
  · refine Within.emit (hF.any (by decide)) ?_
    assumption
  clear_value y0
  extract_lets -merge +onlyGivenNames y2
  refine have w3 : Within Ma Na ba s₀ y2 := ?_; ?_
  · refine Within.foldl ?_ ?_
    · intro t4 x5 w6
      refine State.laneFrame_within (hF.sub (by decide) (by decide)) ?_
      assumption
    assumption
  clear_value y2
  refine State.modLane_within (hF.sub (by decide) (by decide)) ?_
  refine State.setLanes_within (hF.sub (by decide) (by decide)) ?_
  assumption

theorem State.retrainBurst_within {Ma Na ba : Nat} {s₀ : State} {s : State} {b : Nat} {l : Nat}
    (hF : Foot Ma Na ba 0x200000000000000000000000000000100000 0x2000000000000000000000000000000000800 (b)) (hS : Within Ma Na ba s₀ s) :
    Within Ma Na ba s₀ (State.retrainBurst s b l) := by
  unfold State.retrainBurst
  split
  · refine Within.ite ?_ ?_
    · refine Within.satF .LN_LSTAT _ _ rfl (hF.mayOwn (by decide)) ?_
      refine State.beginBurst_within (hF.sub (by decide) (by decide)) ?_
      assumption
    assumption
  assumption

theorem State.rejoinRetry_within {Ma Na ba : Nat} {s₀ : State} {s : State} {b : Nat} {l : Nat}
    (hF : Foot Ma Na ba 0x0 0x800 (b)) (hS : Within Ma Na ba s₀ s) :
    Within Ma Na ba s₀ (State.rejoinRetry s b l) := by
  unfold State.rejoinRetry
  split
  · refine Within.ite ?_ ?_
    · refine State.modLane_within (hF.sub (by decide) (by decide)) ?_
      assumption
    assumption
  assumption

theorem State.laneMoor_within {Ma Na ba : Nat} {s₀ : State} {s : State} {b : Nat}
    (hF : Foot Ma Na ba 0x200000000000000000000000000000000000 0x2000000000000000000000000000000000800 (b)) (hS : Within Ma Na ba s₀ s) :
    Within Ma Na ba s₀ (State.laneMoor s b) := by
  unfold State.laneMoor
  extract_lets -merge +onlyGivenNames y0
  extract_lets -merge +onlyGivenNames y1
  refine Within.ite ?_ ?_
  · extract_lets -merge +onlyGivenNames y2
    refine have w3 : Within Ma Na ba s₀ y2 := ?_; ?_
    · refine State.setLanes_within (hF.sub (by decide) (by decide)) ?_
      assumption
    clear_value y2
    refine State.freeze_within (hF.sub (by decide) (by decide)) ?_
    refine Within.modBun (hF.mayOwn (by decide)) ?_
    assumption
  extract_lets -merge +onlyGivenNames y4
  refine Within.foldl ?_ ?_
  · intro t5 x6 w7
    refine State.modLane_within (hF.sub (by decide) (by decide)) ?_
    assumption
  refine State.setLanes_within (hF.sub (by decide) (by decide)) ?_
  assumption

theorem State.moorExit_within {Ma Na ba : Nat} {s₀ : State} {s : State} {b : Nat}
    (hF : Foot Ma Na ba 0x201000000000000000000000000000100000 0x2884000000000000000000000000000000800 (b)) (hS : Within Ma Na ba s₀ s) :
    Within Ma Na ba s₀ (State.moorExit s b) := by
  unfold State.moorExit
  refine Within.ite ?_ ?_
  · extract_lets -merge +onlyGivenNames y0
    refine have w1 : Within Ma Na ba s₀ y0 := ?_; ?_
    · refine Within.foldl ?_ ?_
      · intro t2 x3 w4
        refine State.beginBurst_within (hF.sub (by decide) (by decide)) ?_
        assumption
      assumption
    clear_value y0
    extract_lets -merge +onlyGivenNames y5
    refine have w6 : Within Ma Na ba s₀ y5 := ?_; ?_
    · refine Within.satF .LN_BSTAT _ 0 rfl (hF.mayOwn (by decide)) ?_
      refine State.setLink_within (hF.sub (by decide) (by decide)) ?_
      assumption
    clear_value y5
    refine Within.modBun (hF.mayOwn (by decide)) ?_
    assumption
  refine Within.ite ?_ ?_
  · extract_lets -merge +onlyGivenNames y7
    refine Within.foldl ?_ ?_
    · intro t8 x9 w10
      extract_lets -merge +onlyGivenNames y11
      refine Within.ite ?_ ?_
      · refine Within.satF .LN_LSTAT _ _ rfl (hF.mayOwn (by decide)) ?_
        refine State.beginBurst_within (hF.sub (by decide) (by decide)) ?_
        assumption
      refine State.modLane_within (hF.sub (by decide) (by decide)) ?_
      assumption
    assumption
  assumption

theorem State.burstDone_within {Ma Na ba : Nat} {s₀ : State} {s : State} {b : Nat}
    (hF : Foot Ma Na ba 0x200000000000000000000000000000000000 0x2000000000000000000000000000000000800 (b)) (hS : Within Ma Na ba s₀ s) :
    Within Ma Na ba s₀ (State.burstDone s b) := by
  unfold State.burstDone
  extract_lets -merge +onlyGivenNames y0
  refine Within.ite ?_ ?_
  · assumption
  extract_lets -merge +onlyGivenNames y1
  refine have w2 : Within Ma Na ba s₀ y1 := ?_; ?_
  · refine Within.foldl ?_ ?_
    · intro t3 x4 w5
      refine State.modLane_within (hF.sub (by decide) (by decide)) ?_
      assumption
    assumption
  clear_value y1
  refine Within.ite ?_ ?_
  · extract_lets -merge +onlyGivenNames y6
    refine Within.modBun (hF.mayOwn (by decide)) ?_
    refine State.freeze_within (hF.sub (by decide) (by decide)) ?_
    refine State.setLanes_within (hF.sub (by decide) (by decide)) ?_
    assumption
  extract_lets -merge +onlyGivenNames y7
  refine Within.foldl ?_ ?_
  · intro t8 x9 w10
    refine State.modLane_within (hF.sub (by decide) (by decide)) ?_
    assumption
  refine State.setLanes_within (hF.sub (by decide) (by decide)) ?_
  assumption

theorem State.txeqWrite_within {Ma Na ba : Nat} {s₀ : State} {s : State} {b : Nat} {l : Nat} {v : Word}
    (hF : Foot Ma Na ba 0x200000000000000000000000000000000000 0x4000000000000000000000000000000000000 (b)) (hS : Within Ma Na ba s₀ s) :
    Within Ma Na ba s₀ (State.txeqWrite s b l v) := by
  unfold State.txeqWrite
  extract_lets -merge +onlyGivenNames y0
  extract_lets -merge +onlyGivenNames y1
  extract_lets -merge +onlyGivenNames y2
  refine have w3 : Within Ma Na ba s₀ y2 := ?_; ?_
  · refine Within.storeAt .LN_LTXEQ _ _ rfl (hF.mayOwn (by decide)) ?_
    assumption
  clear_value y2
  refine Within.ite ?_ ?_
  · refine Within.setB .LN_STATUS 0 0 rfl (hF.may (by decide)) ?_
    refine Within.setF .LN_LTXEQ _ _ rfl (hF.mayOwn (by decide)) ?_
    refine Within.setF .LN_LTXEQ _ _ rfl (hF.mayOwn (by decide)) ?_
    assumption
  assumption

theorem State.setChk_within {Ma Na ba : Nat} {s₀ : State} {s : State} {k : LaneId} {v : Option Nat}
    (hF : Foot Ma Na ba 0x4800 0x0 (0)) (hS : Within Ma Na ba s₀ s) :
    Within Ma Na ba s₀ (State.setChk s k v) := by
  unfold State.setChk
  split
  · refine State.modLane_within (hF.drop (by decide)) ?_
    assumption
  refine State.modPort_within (hF.drop (by decide)) ?_
  assumption

theorem State.chkStop_within {Ma Na ba : Nat} {s₀ : State} {s : State} {k : LaneId}
    (hF : Foot Ma Na ba 0x6000060000000000000000000000000000000004800 0x0 (0)) (hS : Within Ma Na ba s₀ s) :
    Within Ma Na ba s₀ (State.chkStop s k) := by
  unfold State.chkStop
  refine Within.noteSet (Within.setReg (perrReg_cov (hF.any (by decide)) (hF.any (by decide))) (perrReg_ge _) ?_)
  refine State.setChk_within (hF.drop (by decide)) ?_
  refine Within.setReg (pbitsReg_cov (hF.any (by decide)) (hF.any (by decide))) (pbitsReg_ge _) ?_
  assumption

theorem State.chkLock_within {Ma Na ba : Nat} {s₀ : State} {s : State} {k : LaneId}
    (hF : Foot Ma Na ba 0x2000020000000000000000000000000000000004800 0x0 (0)) (hS : Within Ma Na ba s₀ s) :
    Within Ma Na ba s₀ (State.chkLock s k) := by
  unfold State.chkLock
  refine Within.ite ?_ ?_
  · refine State.setChk_within (hF.drop (by decide)) ?_
    refine Within.noteSet (Within.setReg (perrReg_cov (hF.any (by decide)) (hF.any (by decide))) (perrReg_ge _) ?_)
    assumption
  assumption

theorem State.chkErrors_within {Ma Na ba : Nat} {s₀ : State} {s : State} {k : LaneId} {n : Nat}
    (hF : Foot Ma Na ba 0x2000020200000000000000000000000000000000000 0x0 (0)) (hS : Within Ma Na ba s₀ s) :
    Within Ma Na ba s₀ (State.chkErrors s k n) := by
  unfold State.chkErrors
  refine Within.ite ?_ ?_
  · assumption
  refine Within.setB .LN_STATUS 0 0 rfl (hF.may (by decide)) ?_
  refine Within.noteSet (Within.setReg (perrReg_cov (hF.any (by decide)) (hF.any (by decide))) (perrReg_ge _) ?_)
  assumption

theorem State.chkLoss_within {Ma Na ba : Nat} {s₀ : State} {s : State} {k : LaneId} {errors : Nat}
    (hF : Foot Ma Na ba 0x6000060200000000000000000000000000000004800 0x0 (0)) (hS : Within Ma Na ba s₀ s) :
    Within Ma Na ba s₀ (State.chkLoss s k errors) := by
  unfold State.chkLoss
  refine Within.ite ?_ ?_
  · refine State.chkStop_within (hF.drop (by decide)) ?_
    refine State.chkErrors_within (hF.drop (by decide)) ?_
    assumption
  assumption

theorem State.modTx_within {Ma Na ba : Nat} {s₀ : State} {s : State} {k : LaneId} {f : LaneTx → LaneTx}
    (hF : Foot Ma Na ba 0x4800 0x0 (0)) (hS : Within Ma Na ba s₀ s) :
    Within Ma Na ba s₀ (State.modTx s k f) := by
  unfold State.modTx
  split
  · refine State.modLane_within (hF.drop (by decide)) ?_
    assumption
  refine State.modPort_within (hF.drop (by decide)) ?_
  assumption

theorem State.patternWrite_within {Ma Na ba : Nat} {s₀ : State} {s : State} {k : LaneId} {was : Word}
    (hF : Foot Ma Na ba 0x4800 0x0 (0)) (hS : Within Ma Na ba s₀ s) :
    Within Ma Na ba s₀ (State.patternWrite s k was) := by
  unfold State.patternWrite
  extract_lets -merge +onlyGivenNames y0
  refine Within.ite ?_ ?_
  · assumption
  split
  · refine State.patternFollow_within (hF.drop (by decide)) ?_
    assumption
  refine State.portPattern_within (hF.drop (by decide)) ?_
  assumption

theorem State.testWrite_within {Ma Na ba : Nat} {s₀ : State} {s : State} {k : LaneId} {v : Word}
    (hF : Foot Ma Na ba 0x6800068000000000000000000000000000000004800 0x0 (0)) (hS : Within Ma Na ba s₀ s) :
    Within Ma Na ba s₀ (State.testWrite s k v) := by
  unfold State.testWrite
  extract_lets -merge +onlyGivenNames y0
  extract_lets -merge +onlyGivenNames y1
  extract_lets -merge +onlyGivenNames y2
  refine have w3 : Within Ma Na ba s₀ y2 := ?_; ?_
  · refine State.patternWrite_within (hF.drop (by decide)) ?_
    refine Within.storeCov (testReg_cov (hF.any (by decide)) (hF.any (by decide))) (testReg_ge _) ?_
    assumption
  clear_value y2
  extract_lets -merge +onlyGivenNames y4
  refine Within.ite ?_ ?_
  · refine State.setChk_within (hF.drop (by decide)) ?_
    refine Within.setReg (pbitsReg_cov (hF.any (by decide)) (hF.any (by decide))) (pbitsReg_ge _) ?_
    refine Within.setReg (perrReg_cov (hF.any (by decide)) (hF.any (by decide))) (perrReg_ge _) ?_
    assumption
  refine Within.ite ?_ ?_
  · refine State.chkStop_within (hF.drop (by decide)) ?_
    assumption
  assumption

theorem State.injectLane_within {Ma Na ba : Nat} {s₀ : State} {s : State} {k : LaneId} {v : Word}
    (hF : Foot Ma Na ba 0x2000020200000000000000000000000000000104800 0x0 (0)) (hS : Within Ma Na ba s₀ s) :
    Within Ma Na ba s₀ (State.injectLane s k v) := by
  unfold State.injectLane
  extract_lets -merge +onlyGivenNames y0
  extract_lets -merge +onlyGivenNames y1
  refine Within.ite ?_ ?_
  · extract_lets -merge +onlyGivenNames y2
    refine have w3 : Within Ma Na ba s₀ y2 := ?_; ?_
    · refine Within.emit (hF.any (by decide)) ?_
      assumption
    clear_value y2
    extract_lets -merge +onlyGivenNames y4
    refine have w5 : Within Ma Na ba s₀ y4 := ?_; ?_
    · refine State.modTx_within (hF.drop (by decide)) ?_
      assumption
    clear_value y4
    refine Within.ite ?_ ?_
    · refine State.chkErrors_within (hF.drop (by decide)) ?_
      assumption
    assumption
  assumption

theorem execBundleEnable_within {Ma Na ba : Nat} {s₀ : State} {t : Nat} {src : Src} {bundle : Fin 8} {s : State}
    (hF : Foot Ma Na ba 0x201000000000000000000000000000000000 0x2886000000000000000000000000000000800 (bundle.val)) (hS : Within Ma Na ba s₀ (s.advance t)) :
    Ends Ma Na ba s₀ (execBundleEnable t src bundle s) := by
  unfold execBundleEnable
  refine Ends.mk ?_
  refine State.managed_within (hF.drop (by decide)) ?_ ?_
  · intro t0 w1
    refine State.bunEnable_within (hF.sub (by decide) (by decide)) ?_
    assumption
  assumption

theorem execBundleDisable_within {Ma Na ba : Nat} {s₀ : State} {t : Nat} {src : Src} {bundle : Fin 8} {s : State}
    (hF : Foot Ma Na ba 0x201000000000000000000000000000000000 0x2886000000000000000000000000000000800 (bundle.val)) (hS : Within Ma Na ba s₀ (s.advance t)) :
    Ends Ma Na ba s₀ (execBundleDisable t src bundle s) := by
  unfold execBundleDisable
  refine Ends.mk ?_
  refine State.managed_within (hF.drop (by decide)) ?_ ?_
  · intro t0 w1
    refine State.bunDisable_within (hF.sub (by decide) (by decide)) ?_
    assumption
  assumption

theorem execDetectStep_within {Ma Na ba : Nat} {s₀ : State} {t : Nat} {lane : LaneId} {present : Bool} {s : State}
    (hF : Foot Ma Na ba 0x20000018501602a85000000000000000000000000000114800 0x0 (0)) (hS : Within Ma Na ba s₀ (s.advance t)) :
    Ends Ma Na ba s₀ (execDetectStep t lane present s) := by
  unfold execDetectStep
  refine Ends.mk ?_
  split
  · refine State.laneStep_within (hF.drop (by decide)) ?_
    assumption
  refine State.portStep_within (hF.drop (by decide)) ?_
  assumption

theorem execTrainingFrameRx_within {Ma Na ba : Nat} {s₀ : State} {t : Nat} {bundle : Fin 8} {msg : TrainMsg} {s : State}
    (hF : Foot Ma Na ba 0x200000000000000000000000000000100000 0x6000000000000000000000000000000000800 (bundle.val)) (hS : Within Ma Na ba s₀ (s.advance t)) :
    Ends Ma Na ba s₀ (execTrainingFrameRx t bundle msg s) := by
  unfold execTrainingFrameRx
  refine Ends.mk ?_
  refine State.trainRx_within (hF.sub (by decide) (by decide)) ?_
  assumption

theorem execCountdownEnd_within {Ma Na ba : Nat} {s₀ : State} {t : Nat} {group : GroupId} {s : State}
    (hF : Foot Ma Na ba 0x100002200000000000000000000000000000004800 0x0 (0)) (hS : Within Ma Na ba s₀ (s.advance t)) :
    Ends Ma Na ba s₀ (execCountdownEnd t group s) := by
  unfold execCountdownEnd
  refine Ends.mk ?_
  split
  · refine State.bunCountdown_within (hF.drop (by decide)) ?_
    assumption
  refine State.portCountdown_within (hF.drop (by decide)) ?_
  assumption

theorem execTrainTimeout_within {Ma Na ba : Nat} {s₀ : State} {t : Nat} {bundle : Fin 8} {s : State}
    (hF : Foot Ma Na ba 0x201000000000000000000000000000000000 0x2884000000000000000000000000000000800 (bundle.val)) (hS : Within Ma Na ba s₀ (s.advance t)) :
    Ends Ma Na ba s₀ (execTrainTimeout t bundle s) := by
  unfold execTrainTimeout
  refine Ends.mk ?_
  refine State.trainTimeout_within (hF.sub (by decide) (by decide)) ?_
  assumption

theorem execLockTimeout_within {Ma Na ba : Nat} {s₀ : State} {t : Nat} {bundle : Fin 8} {s : State}
    (hF : Foot Ma Na ba 0x201000000000000000000000000000000000 0x2884000000000000000000000000000000800 (bundle.val)) (hS : Within Ma Na ba s₀ (s.advance t)) :
    Ends Ma Na ba s₀ (execLockTimeout t bundle s) := by
  unfold execLockTimeout
  refine Ends.mk ?_
  refine State.lockTimeout_within (hF.sub (by decide) (by decide)) ?_
  assumption

theorem execCapTimeout_within {Ma Na ba : Nat} {s₀ : State} {t : Nat} {bundle : Fin 8} {s : State}
    (hF : Foot Ma Na ba 0x201000000000000000000000000000000000 0x2884000000000000000000000000000000800 (bundle.val)) (hS : Within Ma Na ba s₀ (s.advance t)) :
    Ends Ma Na ba s₀ (execCapTimeout t bundle s) := by
  unfold execCapTimeout
  refine Ends.mk ?_
  refine State.capTimeout_within (hF.sub (by decide) (by decide)) ?_
  assumption

theorem execFrameLockGain_within {Ma Na ba : Nat} {s₀ : State} {t : Nat} {lane : LaneId} {s : State}
    (hF : Foot Ma Na ba 0x2000000000000000000000000000000004800 0x0 (0)) (hS : Within Ma Na ba s₀ (s.advance t)) :
    Ends Ma Na ba s₀ (execFrameLockGain t lane s) := by
  unfold execFrameLockGain
  refine Ends.mk ?_
  refine State.frameLock_within (hF.drop (by decide)) ?_
  assumption

theorem execFrameLockLoss_within {Ma Na ba : Nat} {s₀ : State} {t : Nat} {lane : LaneId} {s : State}
    (hF : Foot Ma Na ba 0x2000000000000000000000000000000004800 0x0 (0)) (hS : Within Ma Na ba s₀ (s.advance t)) :
    Ends Ma Na ba s₀ (execFrameLockLoss t lane s) := by
  unfold execFrameLockLoss
  refine Ends.mk ?_
  refine State.frameLock_within (hF.drop (by decide)) ?_
  assumption

theorem execBlockLockGain_within {Ma Na ba : Nat} {s₀ : State} {t : Nat} {lane : LaneId} {s : State}
    (hF : Foot Ma Na ba 0x100002000000000000000000000000000000004800 0x0 (0)) (hS : Within Ma Na ba s₀ (s.advance t)) :
    Ends Ma Na ba s₀ (execBlockLockGain t lane s) := by
  unfold execBlockLockGain
  refine Ends.mk ?_
  refine State.blockLock_within (hF.drop (by decide)) ?_
  assumption

theorem execBlockLockLoss_within {Ma Na ba : Nat} {s₀ : State} {t : Nat} {lane : LaneId} {s : State}
    (hF : Foot Ma Na ba 0x200000185016822a5000000000000000000000000000014800 0x0 (0)) (hS : Within Ma Na ba s₀ (s.advance t)) :
    Ends Ma Na ba s₀ (execBlockLockLoss t lane s) := by
  unfold execBlockLockLoss
  refine Ends.mk ?_
  refine State.blockLoss_within (hF.drop (by decide)) ?_
  assumption

theorem execRetrainBurst_within {Ma Na ba : Nat} {s₀ : State} {t : Nat} {bundle : Fin 8} {lane : Fin 7} {s : State}
    (hF : Foot Ma Na ba 0x200000000000000000000000000000100000 0x2000000000000000000000000000000000800 (bundle.val)) (hS : Within Ma Na ba s₀ (s.advance t)) :
    Ends Ma Na ba s₀ (execRetrainBurst t bundle lane s) := by
  unfold execRetrainBurst
  refine Ends.mk ?_
  refine State.retrainBurst_within (hF.sub (by decide) (by decide)) ?_
  assumption

theorem execRejoinRetryTimeout_within {Ma Na ba : Nat} {s₀ : State} {t : Nat} {bundle : Fin 8} {lane : Fin 7} {s : State}
    (hF : Foot Ma Na ba 0x0 0x800 (bundle.val)) (hS : Within Ma Na ba s₀ (s.advance t)) :
    Ends Ma Na ba s₀ (execRejoinRetryTimeout t bundle lane s) := by
  unfold execRejoinRetryTimeout
  refine Ends.mk ?_
  refine State.rejoinRetry_within (hF.sub (by decide) (by decide)) ?_
  assumption

theorem execLaneMoor_within {Ma Na ba : Nat} {s₀ : State} {t : Nat} {bundle : Fin 8} {s : State}
    (hF : Foot Ma Na ba 0x200000000000000000000000000000000000 0x2000000000000000000000000000000000800 (bundle.val)) (hS : Within Ma Na ba s₀ (s.advance t)) :
    Ends Ma Na ba s₀ (execLaneMoor t bundle s) := by
  unfold execLaneMoor
  refine Ends.mk ?_
  refine State.laneMoor_within (hF.sub (by decide) (by decide)) ?_
  assumption

theorem execMoorExit_within {Ma Na ba : Nat} {s₀ : State} {t : Nat} {bundle : Fin 8} {s : State}
    (hF : Foot Ma Na ba 0x201000000000000000000000000000100000 0x2884000000000000000000000000000000800 (bundle.val)) (hS : Within Ma Na ba s₀ (s.advance t)) :
    Ends Ma Na ba s₀ (execMoorExit t bundle s) := by
  unfold execMoorExit
  refine Ends.mk ?_
  refine State.moorExit_within (hF.sub (by decide) (by decide)) ?_
  assumption

theorem execBurstEnd_within {Ma Na ba : Nat} {s₀ : State} {t : Nat} {bundle : Fin 8} {s : State}
    (hF : Foot Ma Na ba 0x200000000000000000000000000000000000 0x2000000000000000000000000000000000800 (bundle.val)) (hS : Within Ma Na ba s₀ (s.advance t)) :
    Ends Ma Na ba s₀ (execBurstEnd t bundle s) := by
  unfold execBurstEnd
  refine Ends.mk ?_
  refine State.burstDone_within (hF.sub (by decide) (by decide)) ?_
  assumption

theorem execTxeqWrite_within {Ma Na ba : Nat} {s₀ : State} {t : Nat} {src : Src} {bundle : Fin 8} {lane : Fin 7} {val : Word} {s : State}
    (hF : Foot Ma Na ba 0x200000000000000000000000000000000000 0x4000000000000000000000000000000000000 (bundle.val)) (hS : Within Ma Na ba s₀ (s.advance t)) :
    Ends Ma Na ba s₀ (execTxeqWrite t src bundle lane val s) := by
  unfold execTxeqWrite
  refine Ends.mk ?_
  refine State.managed_within (hF.drop (by decide)) ?_ ?_
  · intro t0 w1
    refine State.txeqWrite_within (hF.sub (by decide) (by decide)) ?_
    assumption
  assumption

theorem execErrorInject_within {Ma Na ba : Nat} {s₀ : State} {t : Nat} {src : Src} {lane : LaneId} {val : Word} {s : State}
    (hF : Foot Ma Na ba 0x2000020200000000000000000000000000000104800 0x0 (0)) (hS : Within Ma Na ba s₀ (s.advance t)) :
    Ends Ma Na ba s₀ (execErrorInject t src lane val s) := by
  unfold execErrorInject
  refine Ends.mk ?_
  refine State.managed_within (hF.drop (by decide)) ?_ ?_
  · intro t0 w1
    refine State.injectLane_within (hF.drop (by decide)) ?_
    assumption
  assumption

theorem execCheckerLock_within {Ma Na ba : Nat} {s₀ : State} {t : Nat} {lane : LaneId} {s : State}
    (hF : Foot Ma Na ba 0x2000020000000000000000000000000000000004800 0x0 (0)) (hS : Within Ma Na ba s₀ (s.advance t)) :
    Ends Ma Na ba s₀ (execCheckerLock t lane s) := by
  unfold execCheckerLock
  refine Ends.mk ?_
  refine State.chkLock_within (hF.drop (by decide)) ?_
  assumption

theorem execCheckerLockLoss_within {Ma Na ba : Nat} {s₀ : State} {t : Nat} {lane : LaneId} {errors : Nat} {s : State}
    (hF : Foot Ma Na ba 0x6000060200000000000000000000000000000004800 0x0 (0)) (hS : Within Ma Na ba s₀ (s.advance t)) :
    Ends Ma Na ba s₀ (execCheckerLockLoss t lane errors s) := by
  unfold execCheckerLockLoss
  refine Ends.mk ?_
  refine State.chkLoss_within (hF.drop (by decide)) ?_
  assumption

/-! ## Fabric -/

theorem State.crcBad_within {Ma Na ba : Nat} {s₀ : State} {s : State} {p : Nat}
    (hF : Foot Ma Na ba 0x0 0x400000000000000000000000000000000000000000 (p)) (hS : Within Ma Na ba s₀ s) :
    Within Ma Na ba s₀ (State.crcBad s p) := by
  unfold State.crcBad
  refine Within.satF .FB_PCNT _ 0 rfl (hF.mayOwn (by decide)) ?_
  assumption

theorem State.onUp_within {Ma Na ba : Nat} {s₀ : State} {s : State} {p : Nat} {crcOk : Bool} {f : State → State} (hF : Foot Ma Na ba 0x0 0x400000000000000000000000000000000000000000 (p))
    (hf : ∀ s, Within Ma Na ba s₀ s → Within Ma Na ba s₀ (f s)) (hS : Within Ma Na ba s₀ s) : Within Ma Na ba s₀ (s.onUp p crcOk f) := by
  unfold State.onUp
  exact Within.ite hS (Within.ite (hf _ hS) (State.crcBad_within (hF.sub (by decide) (by decide)) hS))

theorem State.helloSend_within {Ma Na ba : Nat} {s₀ : State} {s : State} {p : Nat}
    (hF : Foot Ma Na ba 0x104000 0x0 (0)) (hS : Within Ma Na ba s₀ s) :
    Within Ma Na ba s₀ (State.helloSend s p) := by
  unfold State.helloSend
  refine Within.ite ?_ ?_
  · refine State.modPort_within (hF.drop (by decide)) ?_
    refine Within.emit (hF.any (by decide)) ?_
    assumption
  assumption

theorem State.judgeAdj_within {Ma Na ba : Nat} {s₀ : State} {s : State} {p : Nat} {adj : Bool}
    (hF : Foot Ma Na ba 0x20000018101600000000000000000000000000000000014000 0x0 (0)) (hS : Within Ma Na ba s₀ s) :
    Within Ma Na ba s₀ (State.judgeAdj s p adj) := by
  unfold State.judgeAdj
  refine Within.ite ?_ ?_
  · refine Within.ite ?_ ?_
    · refine State.setAdj_within (hF.drop (by decide)) ?_
      assumption
    refine Within.ite ?_ ?_
    · refine State.setAdj_within (hF.drop (by decide)) ?_
      assumption
    assumption
  assumption

theorem State.helloRx_within {Ma Na ba : Nat} {s₀ : State} {s : State} {p : Nat} {m : HelloMsg}
    (hF : Foot Ma Na ba 0x20000018101600000000000000000000000000000000014000 0x400000000000000000000000000000000000000000 (p)) (hS : Within Ma Na ba s₀ s) :
    Within Ma Na ba s₀ (State.helloRx s p m) := by
  unfold State.helloRx
  refine Within.ite ?_ ?_
  · refine Within.ite ?_ ?_
    · refine State.crcBad_within (hF.sub (by decide) (by decide)) ?_
      assumption
    extract_lets -merge +onlyGivenNames y0
    refine have w1 : Within Ma Na ba s₀ y0 := ?_; ?_
    · refine Within.setF .FB_PSTAT _ 0 rfl (hF.may (by decide)) ?_
      assumption
    clear_value y0
    extract_lets -merge +onlyGivenNames y2
    refine have w3 : Within Ma Na ba s₀ y2 := ?_; ?_
    · refine State.modPort_within (hF.drop (by decide)) ?_
      assumption
    clear_value y2
    refine State.judgeAdj_within (hF.drop (by decide)) ?_
    refine State.portUpCheck_within (hF.sub (by decide) (by decide)) ?_
    assumption
  assumption

theorem State.adjTimeout_within {Ma Na ba : Nat} {s₀ : State} {s : State} {p : Nat}
    (hF : Foot Ma Na ba 0x20000018101600000000000000000000000000000000014000 0x0 (0)) (hS : Within Ma Na ba s₀ s) :
    Within Ma Na ba s₀ (State.adjTimeout s p) := by
  unfold State.adjTimeout
  split
  · refine Within.ite ?_ ?_
    · refine State.setAdj_within (hF.drop (by decide)) ?_
      assumption
    assumption
  refine State.setAdj_within (hF.drop (by decide)) ?_
  assumption

theorem State.floodLsa_within {Ma Na ba : Nat} {s₀ : State} {s : State} {ports : List Nat} {m : LsaMsg}
    (hF : Foot Ma Na ba 0x100000 0x0 (0)) (hS : Within Ma Na ba s₀ s) :
    Within Ma Na ba s₀ (State.floodLsa s ports m) := by
  unfold State.floodLsa
  refine State.sendFabric_within (hF.drop (by decide)) ?_
  assumption

theorem State.lsaSend_within {Ma Na ba : Nat} {s₀ : State} {s : State}
    (hF : Foot Ma Na ba 0x20000018101600000000000000000000000000000000114000 0x0 (0)) (hS : Within Ma Na ba s₀ s) :
    Within Ma Na ba s₀ (State.lsaSend s) := by
  unfold State.lsaSend
  refine Within.ite ?_ ?_
  · extract_lets -merge +onlyGivenNames y0
    extract_lets -merge +onlyGivenNames y1
    refine have w2 : Within Ma Na ba s₀ y1 := ?_; ?_
    · refine Within.upd_kf (hF.any (by decide)) ?_
      assumption
    clear_value y1
    refine State.topo_within (hF.drop (by decide)) ?_
    refine State.floodLsa_within (hF.drop (by decide)) ?_
    assumption
  assumption

theorem State.lsaRx_within {Ma Na ba : Nat} {s₀ : State} {s : State} {p : Nat} {m : LsaMsg}
    (hF : Foot Ma Na ba 0x20000018101600000000000000000000000000000000114000 0x0 (0)) (hS : Within Ma Na ba s₀ s) :
    Within Ma Na ba s₀ (State.lsaRx s p m) := by
  unfold State.lsaRx
  refine Within.ite ?_ ?_
  · extract_lets -merge +onlyGivenNames y0
    extract_lets -merge +onlyGivenNames y1
    refine have w2 : Within Ma Na ba s₀ y1 := ?_; ?_
    · refine Within.upd_kf (hF.any (by decide)) ?_
      assumption
    clear_value y1
    extract_lets -merge +onlyGivenNames y3
    refine have w4 : Within Ma Na ba s₀ y3 := ?_; ?_
    · refine Within.ite ?_ ?_
      · refine State.floodLsa_within (hF.drop (by decide)) ?_
        assumption
      assumption
    clear_value y3
    refine State.topo_within (hF.drop (by decide)) ?_
    assumption
  assumption

theorem State.lsaExpire_within {Ma Na ba : Nat} {s₀ : State} {s : State} {d : Word}
    (hF : Foot Ma Na ba 0x20000018101600000000000000000000000000000000014000 0x0 (0)) (hS : Within Ma Na ba s₀ s) :
    Within Ma Na ba s₀ (State.lsaExpire s d) := by
  unfold State.lsaExpire
  refine Within.ite ?_ ?_
  · refine State.topo_within (hF.drop (by decide)) ?_
    refine Within.upd_kf (hF.any (by decide)) ?_
    assumption
  assumption

theorem State.sendAssign_within {Ma Na ba : Nat} {s₀ : State} {s : State} {ports : List Nat} {src : Nat} {seq : Nat} {hops : Nat} {entries : List (Word × Nat)}
    (hF : Foot Ma Na ba 0x100000 0x0 (0)) (hS : Within Ma Na ba s₀ s) :
    Within Ma Na ba s₀ (State.sendAssign s ports src seq hops entries) := by
  unfold State.sendAssign
  refine State.sendFabric_within (hF.drop (by decide)) ?_
  assumption

theorem State.takeAddrs_within {Ma Na ba : Nat} {s₀ : State} {s : State} {entries : List (Word × Nat)}
    (hF : Foot Ma Na ba 0x18000200000000000000000000000000000000004000 0x0 (0)) (hS : Within Ma Na ba s₀ s) :
    Within Ma Na ba s₀ (State.takeAddrs s entries) := by
  unfold State.takeAddrs
  refine State.showNodes_within (hF.drop (by decide)) ?_
  refine State.showAddr_within (hF.drop (by decide)) ?_
  refine Within.upd_kf (hF.any (by decide)) ?_
  assumption

theorem State.assignSend_within {Ma Na ba : Nat} {s₀ : State} {s : State}
    (hF : Foot Ma Na ba 0x18000200000000000000000000000000000000104000 0x0 (0)) (hS : Within Ma Na ba s₀ s) :
    Within Ma Na ba s₀ (State.assignSend s) := by
  unfold State.assignSend
  refine Within.ite ?_ ?_
  · extract_lets -merge +onlyGivenNames y0
    extract_lets -merge +onlyGivenNames y1
    extract_lets -merge +onlyGivenNames y2
    extract_lets -merge +onlyGivenNames y3
    refine have w4 : Within Ma Na ba s₀ y3 := ?_; ?_
    · refine Within.upd_kf (hF.any (by decide)) ?_
      assumption
    clear_value y3
    extract_lets -merge +onlyGivenNames y5
    refine have w6 : Within Ma Na ba s₀ y5 := ?_; ?_
    · refine State.takeAddrs_within (hF.drop (by decide)) ?_
      assumption
    clear_value y5
    refine State.sendAssign_within (hF.drop (by decide)) ?_
    assumption
  assumption

theorem State.assignRx_within {Ma Na ba : Nat} {s₀ : State} {s : State} {p : Nat} {m : AssignMsg}
    (hF : Foot Ma Na ba 0x18000200000000000000000000000000000000104000 0x0 (0)) (hS : Within Ma Na ba s₀ s) :
    Within Ma Na ba s₀ (State.assignRx s p m) := by
  unfold State.assignRx
  refine Within.ite ?_ ?_
  · extract_lets -merge +onlyGivenNames y0
    extract_lets -merge +onlyGivenNames y1
    refine have w2 : Within Ma Na ba s₀ y1 := ?_; ?_
    · refine Within.upd_kf (hF.any (by decide)) ?_
      assumption
    clear_value y1
    extract_lets -merge +onlyGivenNames y3
    refine have w4 : Within Ma Na ba s₀ y3 := ?_; ?_
    · refine State.takeAddrs_within (hF.drop (by decide)) ?_
      assumption
    clear_value y3
    refine Within.ite ?_ ?_
    · refine State.sendAssign_within (hF.drop (by decide)) ?_
      assumption
    assumption
  assumption

theorem State.timeSend_within {Ma Na ba : Nat} {s₀ : State} {s : State} {p : Nat}
    (hF : Foot Ma Na ba 0x304000 0x0 (0)) (hS : Within Ma Na ba s₀ s) :
    Within Ma Na ba s₀ (State.timeSend s p) := by
  unfold State.timeSend
  extract_lets -merge +onlyGivenNames y0
  refine Within.ite ?_ ?_
  · extract_lets -merge +onlyGivenNames y1
    extract_lets -merge +onlyGivenNames y2
    refine have w3 : Within Ma Na ba s₀ y2 := ?_; ?_
    · refine Within.ite ?_ ?_
      · assumption
      refine Within.used (hF.any (by decide)) ?_
      refine Within.used (hF.any (by decide)) ?_
      assumption
    clear_value y2
    refine State.modPort_within (hF.drop (by decide)) ?_
    refine Within.emit (hF.any (by decide)) ?_
    assumption
  assumption

theorem State.timeRx_within {Ma Na ba : Nat} {s₀ : State} {s : State} {p : Nat} {m : TimeMsg}
    (hF : Foot Ma Na ba 0x2000000000100000000000000000000000800000000001c005 0x200000000000000000000000000000000000000000 (p)) (hS : Within Ma Na ba s₀ s) :
    Within Ma Na ba s₀ (State.timeRx s p m) := by
  unfold State.timeRx
  extract_lets -merge +onlyGivenNames y0
  extract_lets -merge +onlyGivenNames y1
  refine have w2 : Within Ma Na ba s₀ y1 := ?_; ?_
  · refine State.modPort_within (hF.drop (by decide)) ?_
    assumption
  clear_value y1
  split
  · assumption
  extract_lets -merge +onlyGivenNames y3
  extract_lets -merge +onlyGivenNames y4
  refine have w5 : Within Ma Na ba s₀ y4 := ?_; ?_
  · refine Within.setF .FB_PDELAY _ 0 rfl (hF.mayOwn (by decide)) ?_
    assumption
  clear_value y4
  refine Within.ite ?_ ?_
  · refine State.correctTime_within (hF.drop (by decide)) ?_
    refine Within.setF .FB_TSTAT 0 0 rfl (hF.may (by decide)) ?_
    assumption
  assumption

theorem State.trigRx_within {Ma Na ba : Nat} {s₀ : State} {s : State} {p : Nat} {m : TrigMsg}
    (hF : Foot Ma Na ba 0x4000000000000000000000000000000000104000 0x0 (0)) (hS : Within Ma Na ba s₀ s) :
    Within Ma Na ba s₀ (State.trigRx s p m) := by
  unfold State.trigRx
  extract_lets -merge +onlyGivenNames y0
  extract_lets -merge +onlyGivenNames y1
  refine Within.ite ?_ ?_
  · refine Within.addF .FB_TRIG_CNT 0 0 rfl (hF.may (by decide)) ?_
    assumption
  extract_lets -merge +onlyGivenNames y2
  extract_lets -merge +onlyGivenNames y3
  extract_lets -merge +onlyGivenNames y4
  refine have w5 : Within Ma Na ba s₀ y4 := ?_; ?_
  · refine Within.upd_kf (hF.any (by decide)) ?_
    assumption
  clear_value y4
  extract_lets -merge +onlyGivenNames y6
  refine have w7 : Within Ma Na ba s₀ y6 := ?_; ?_
  · refine Within.addF .FB_TRIG_CNT 0 0 rfl (hF.may (by decide)) ?_
    assumption
  clear_value y6
  refine Within.ite ?_ ?_
  · refine State.sendTrig_within (hF.drop (by decide)) ?_
    assumption
  assumption

theorem State.sendShare_within {Ma Na ba : Nat} {s₀ : State} {s : State} {ports : List Nat} {src : Nat} {hops : Nat} {k : Nat} {c : Word} {words : List Word}
    (hF : Foot Ma Na ba 0x100000 0x0 (0)) (hS : Within Ma Na ba s₀ s) :
    Within Ma Na ba s₀ (State.sendShare s ports src hops k c words) := by
  unfold State.sendShare
  refine State.sendFabric_within (hF.drop (by decide)) ?_
  assumption

theorem State.keepShare_within {Ma Na ba : Nat} {s₀ : State} {s : State} {x : Share}
    (hF : Foot Ma Na ba 0x4000 0x0 (0)) (hS : Within Ma Na ba s₀ s) :
    Within Ma Na ba s₀ (State.keepShare s x) := by
  unfold State.keepShare
  refine Within.upd_kf (hF.any (by decide)) ?_
  assumption

theorem State.shareSend_within {Ma Na ba : Nat} {s₀ : State} {s : State}
    (hF : Foot Ma Na ba 0x500000000000000020000000000000000000001202c01f00000104002 0x0 (0)) (hS : Within Ma Na ba s₀ s) :
    Within Ma Na ba s₀ (State.shareSend s) := by
  unfold State.shareSend
  refine Within.ite ?_ ?_
  · extract_lets -merge +onlyGivenNames y0
    extract_lets -merge +onlyGivenNames y1
    extract_lets -merge +onlyGivenNames y2
    extract_lets -merge +onlyGivenNames y3
    refine have w4 : Within Ma Na ba s₀ y3 := ?_; ?_
    · refine Within.setF .FB_TTS_STAT 0 0 rfl (hF.may (by decide)) ?_
      assumption
    clear_value y3
    extract_lets -merge +onlyGivenNames y5
    refine have w6 : Within Ma Na ba s₀ y5 := ?_; ?_
    · refine State.sendShare_within (hF.drop (by decide)) ?_
      assumption
    clear_value y5
    extract_lets -merge +onlyGivenNames y7
    extract_lets -merge +onlyGivenNames y8
    refine have w9 : Within Ma Na ba s₀ y8 := ?_; ?_
    · refine Within.ite ?_ ?_
      · refine Within.upd_kf (hF.any (by decide)) ?_
        assumption
      assumption
    clear_value y8
    refine Within.ite ?_ ?_
    · extract_lets -merge +onlyGivenNames y10
      extract_lets -merge +onlyGivenNames y11
      refine have w12 : Within Ma Na ba s₀ y11 := ?_; ?_
      · refine State.keepShare_within (hF.drop (by decide)) ?_
        assumption
      clear_value y11
      refine Within.ite ?_ ?_
      · refine State.installShare_within (hF.drop (by decide)) ?_
        assumption
      assumption
    assumption
  assumption

theorem State.shareRx_within {Ma Na ba : Nat} {s₀ : State} {s : State} {p : Nat} {m : ShareMsg}
    (hF : Foot Ma Na ba 0x500000000000000020000000000000000000001202c01f00000104002 0x0 (0)) (hS : Within Ma Na ba s₀ s) :
    Within Ma Na ba s₀ (State.shareRx s p m) := by
  unfold State.shareRx
  extract_lets -merge +onlyGivenNames y0
  refine have w1 : Within Ma Na ba s₀ y0 := ?_; ?_
  · refine Within.ite ?_ ?_
    · refine State.sendShare_within (hF.drop (by decide)) ?_
      assumption
    assumption
  clear_value y0
  refine Within.ite ?_ ?_
  · extract_lets -merge +onlyGivenNames y2
    extract_lets -merge +onlyGivenNames y3
    refine have w4 : Within Ma Na ba s₀ y3 := ?_; ?_
    · refine State.keepShare_within (hF.drop (by decide)) ?_
      assumption
    clear_value y3
    refine Within.ite ?_ ?_
    · refine State.installShare_within (hF.drop (by decide)) ?_
      assumption
    assumption
  assumption

theorem State.seamSend_within {Ma Na ba : Nat} {s₀ : State} {s : State} {right : Bool} {slot : Nat} {q : Nat} {half : Nat}
    (hF : Foot Ma Na ba 0x100004 0x0 (0)) (hS : Within Ma Na ba s₀ s) :
    Within Ma Na ba s₀ (State.seamSend s right slot q half) := by
  unfold State.seamSend
  extract_lets -merge +onlyGivenNames y0
  extract_lets -merge +onlyGivenNames y1
  extract_lets -merge +onlyGivenNames y2
  refine Within.ite ?_ ?_
  · split
    · assumption
    extract_lets -merge +onlyGivenNames y3
    extract_lets -merge +onlyGivenNames y4
    refine State.sendFabric_within (hF.drop (by decide)) ?_
    refine State.setPass_within (hF.drop (by decide)) ?_
    assumption
  assumption

theorem State.seamRx_within {Ma Na ba : Nat} {s₀ : State} {s : State} {m : SeamMsg}
    (hF : Foot Ma Na ba 0x200000000000000000000000000000000000080 0x0 (0)) (hS : Within Ma Na ba s₀ s) :
    Within Ma Na ba s₀ (State.seamRx s m) := by
  unfold State.seamRx
  extract_lets -merge +onlyGivenNames y0
  extract_lets -merge +onlyGivenNames y1
  refine Within.ite ?_ ?_
  · refine Within.setB .FB_STATUS 0 0 rfl (hF.may (by decide)) ?_
    assumption
  extract_lets -merge +onlyGivenNames y2
  extract_lets -merge +onlyGivenNames y3
  extract_lets -merge +onlyGivenNames y4
  refine Within.upd_pipe (hF.any (by decide)) ?_
  assumption

theorem State.tunDrop_within {Ma Na ba : Nat} {s₀ : State} {s : State}
    (hF : Foot Ma Na ba 0x40200000000000000000000000000000000000000 0x0 (0)) (hS : Within Ma Na ba s₀ s) :
    Within Ma Na ba s₀ (State.tunDrop s) := by
  unfold State.tunDrop
  refine Within.setB .FB_STATUS 0 0 rfl (hF.may (by decide)) ?_
  refine Within.satF .FB_TUN_CNT 0 0 rfl (hF.may (by decide)) ?_
  assumption

theorem State.sendMgmt_within {Ma Na ba : Nat} {s₀ : State} {s : State} {src : Nat} {dst : Nat} {hops : Nat} {handle : Nat} {req : Option WitrigMsg} {resp : Option WitrigResp}
    (hF : Foot Ma Na ba 0x40200000000000000000000000000000000100000 0x0 (0)) (hS : Within Ma Na ba s₀ s) :
    Within Ma Na ba s₀ (State.sendMgmt s src dst hops handle req resp) := by
  unfold State.sendMgmt
  split
  · refine Within.addF .FB_TUN_CNT 0 0 rfl (hF.may (by decide)) ?_
    refine Within.emit (hF.any (by decide)) ?_
    assumption
  refine State.tunDrop_within (hF.drop (by decide)) ?_
  assumption

theorem State.ethSend_within {Ma Na ba : Nat} {s₀ : State} {s : State} {x : EthTx}
    (hF : Foot Ma Na ba 0x10000 0x0 (0)) (hS : Within Ma Na ba s₀ s) :
    Within Ma Na ba s₀ (State.ethSend s x) := by
  unfold State.ethSend
  refine Within.upd_eth (hF.any (by decide)) ?_
  assumption

theorem State.sendResp_within {Ma Na ba : Nat} {s₀ : State} {s : State} {ip : Nat} {port : Nat} {r : WitrigResp}
    (hF : Foot Ma Na ba 0x1000000000000000000000000000000000000000000000010000 0x0 (0)) (hS : Within Ma Na ba s₀ s) :
    Within Ma Na ba s₀ (State.sendResp s ip port r) := by
  unfold State.sendResp
  extract_lets -merge +onlyGivenNames y0
  refine have w1 : Within Ma Na ba s₀ y0 := ?_; ?_
  · refine Within.ite ?_ ?_
    · assumption
    refine Within.satF .ETH_WT_CNT 0 0 rfl (hF.may (by decide)) ?_
    assumption
  clear_value y0
  refine State.ethSend_within (hF.drop (by decide)) ?_
  assumption

theorem State.showFlights_within {Ma Na ba : Nat} {s₀ : State} {s : State}
    (hF : Foot Ma Na ba 0x40000000000000000000000000000000000000000 0x0 (0)) (hS : Within Ma Na ba s₀ s) :
    Within Ma Na ba s₀ (State.showFlights s) := by
  unfold State.showFlights
  refine Within.setF .FB_TUN_CNT 0 0 rfl (hF.may (by decide)) ?_
  assumption

theorem State.landResponse_within {Ma Na ba : Nat} {s₀ : State} {s : State} {handle : Nat} {r : WitrigResp}
    (hF : Foot Ma Na ba 0x1000000000040000000000000000000000000000000000014000 0x0 (0)) (hS : Within Ma Na ba s₀ s) :
    Within Ma Na ba s₀ (State.landResponse s handle r) := by
  unfold State.landResponse
  split
  · assumption
  refine State.sendResp_within (hF.drop (by decide)) ?_
  refine State.showFlights_within (hF.drop (by decide)) ?_
  refine Within.upd_kf (hF.any (by decide)) ?_
  assumption

theorem State.mgmtRx_within {Ma Na ba : Nat} {s₀ : State} {s : State} {m : MgmtMsg}
    (hF : Foot Ma Na ba 0x1000000000040200000000000000000000000000000000114000 0x0 (0)) (hS : Within Ma Na ba s₀ s) :
    Within Ma Na ba s₀ (State.mgmtRx s m) := by
  unfold State.mgmtRx
  refine Within.ite ?_ ?_
  · split
    · refine State.landResponse_within (hF.drop (by decide)) ?_
      assumption
    · refine Within.ite ?_ ?_
      · refine State.sendMgmt_within (hF.drop (by decide)) ?_
        assumption
      refine Within.upd_kf (hF.any (by decide)) ?_
      assumption
    assumption
  refine Within.ite ?_ ?_
  · refine State.sendMgmt_within (hF.drop (by decide)) ?_
    assumption
  assumption

theorem execHelloSend_within {Ma Na ba : Nat} {s₀ : State} {t : Nat} {port : Fin 8} {s : State}
    (hF : Foot Ma Na ba 0x104000 0x0 (0)) (hS : Within Ma Na ba s₀ (s.advance t)) :
    Ends Ma Na ba s₀ (execHelloSend t port s) := by
  unfold execHelloSend
  refine Ends.mk ?_
  refine State.helloSend_within (hF.drop (by decide)) ?_
  assumption

theorem execHelloRx_within {Ma Na ba : Nat} {s₀ : State} {t : Nat} {port : Fin 8} {msg : HelloMsg} {s : State}
    (hF : Foot Ma Na ba 0x20000018101600000000000000000000000000000000014000 0x400000000000000000000000000000000000000000 (port.val)) (hS : Within Ma Na ba s₀ (s.advance t)) :
    Ends Ma Na ba s₀ (execHelloRx t port msg s) := by
  unfold execHelloRx
  refine Ends.mk ?_
  refine State.helloRx_within (hF.sub (by decide) (by decide)) ?_
  assumption

theorem execAdjacencyTimeout_within {Ma Na ba : Nat} {s₀ : State} {t : Nat} {port : Fin 8} {s : State}
    (hF : Foot Ma Na ba 0x20000018101600000000000000000000000000000000014000 0x0 (0)) (hS : Within Ma Na ba s₀ (s.advance t)) :
    Ends Ma Na ba s₀ (execAdjacencyTimeout t port s) := by
  unfold execAdjacencyTimeout
  refine Ends.mk ?_
  refine State.adjTimeout_within (hF.drop (by decide)) ?_
  assumption

theorem execLsaSend_within {Ma Na ba : Nat} {s₀ : State} {t : Nat} {s : State}
    (hF : Foot Ma Na ba 0x20000018101600000000000000000000000000000000114000 0x0 (0)) (hS : Within Ma Na ba s₀ (s.advance t)) :
    Ends Ma Na ba s₀ (execLsaSend t s) := by
  unfold execLsaSend
  refine Ends.mk ?_
  refine State.lsaSend_within (hF.drop (by decide)) ?_
  assumption

theorem execLsaRx_within {Ma Na ba : Nat} {s₀ : State} {t : Nat} {port : Fin 8} {msg : LsaMsg} {s : State}
    (hF : Foot Ma Na ba 0x20000018101600000000000000000000000000000000114000 0x400000000000000000000000000000000000000000 (port.val)) (hS : Within Ma Na ba s₀ (s.advance t)) :
    Ends Ma Na ba s₀ (execLsaRx t port msg s) := by
  unfold execLsaRx
  refine Ends.mk ?_
  refine State.onUp_within (hF.sub (by decide) (by decide)) ?_ ?_
  · intro t0 w1
    refine State.lsaRx_within (hF.drop (by decide)) ?_
    assumption
  assumption

theorem execLsaExpiry_within {Ma Na ba : Nat} {s₀ : State} {t : Nat} {devid : Word} {s : State}
    (hF : Foot Ma Na ba 0x20000018101600000000000000000000000000000000014000 0x0 (0)) (hS : Within Ma Na ba s₀ (s.advance t)) :
    Ends Ma Na ba s₀ (execLsaExpiry t devid s) := by
  unfold execLsaExpiry
  refine Ends.mk ?_
  refine State.lsaExpire_within (hF.drop (by decide)) ?_
  assumption

theorem execAssignSend_within {Ma Na ba : Nat} {s₀ : State} {t : Nat} {s : State}
    (hF : Foot Ma Na ba 0x18000200000000000000000000000000000000104000 0x0 (0)) (hS : Within Ma Na ba s₀ (s.advance t)) :
    Ends Ma Na ba s₀ (execAssignSend t s) := by
  unfold execAssignSend
  refine Ends.mk ?_
  refine State.assignSend_within (hF.drop (by decide)) ?_
  assumption

theorem execAssignRx_within {Ma Na ba : Nat} {s₀ : State} {t : Nat} {port : Fin 8} {msg : AssignMsg} {s : State}
    (hF : Foot Ma Na ba 0x18000200000000000000000000000000000000104000 0x400000000000000000000000000000000000000000 (port.val)) (hS : Within Ma Na ba s₀ (s.advance t)) :
    Ends Ma Na ba s₀ (execAssignRx t port msg s) := by
  unfold execAssignRx
  refine Ends.mk ?_
  refine State.onUp_within (hF.sub (by decide) (by decide)) ?_ ?_
  · intro t0 w1
    refine State.assignRx_within (hF.drop (by decide)) ?_
    assumption
  assumption

theorem execTimeSend_within {Ma Na ba : Nat} {s₀ : State} {t : Nat} {port : Fin 8} {s : State}
    (hF : Foot Ma Na ba 0x304000 0x0 (0)) (hS : Within Ma Na ba s₀ (s.advance t)) :
    Ends Ma Na ba s₀ (execTimeSend t port s) := by
  unfold execTimeSend
  refine Ends.mk ?_
  refine State.timeSend_within (hF.drop (by decide)) ?_
  assumption

theorem execTimeRx_within {Ma Na ba : Nat} {s₀ : State} {t : Nat} {port : Fin 8} {msg : TimeMsg} {s : State}
    (hF : Foot Ma Na ba 0x2000000000100000000000000000000000800000000001c005 0x600000000000000000000000000000000000000000 (port.val)) (hS : Within Ma Na ba s₀ (s.advance t)) :
    Ends Ma Na ba s₀ (execTimeRx t port msg s) := by
  unfold execTimeRx
  refine Ends.mk ?_
  refine State.onUp_within (hF.sub (by decide) (by decide)) ?_ ?_
  · intro t0 w1
    refine State.timeRx_within (hF.sub (by decide) (by decide)) ?_
    assumption
  assumption

theorem execTrigRx_within {Ma Na ba : Nat} {s₀ : State} {t : Nat} {port : Fin 8} {msg : TrigMsg} {s : State}
    (hF : Foot Ma Na ba 0x4000000000000000000000000000000000104000 0x400000000000000000000000000000000000000000 (port.val)) (hS : Within Ma Na ba s₀ (s.advance t)) :
    Ends Ma Na ba s₀ (execTrigRx t port msg s) := by
  unfold execTrigRx
  refine Ends.mk ?_
  refine State.onUp_within (hF.sub (by decide) (by decide)) ?_ ?_
  · intro t0 w1
    refine State.trigRx_within (hF.drop (by decide)) ?_
    assumption
  assumption

theorem execShareSend_within {Ma Na ba : Nat} {s₀ : State} {t : Nat} {src : Src} {s : State}
    (hF : Foot Ma Na ba 0x500000000000000020000000000000000000001202c01f00000104002 0x0 (0)) (hS : Within Ma Na ba s₀ (s.advance t)) :
    Ends Ma Na ba s₀ (execShareSend t src s) := by
  unfold execShareSend
  refine Ends.mk ?_
  refine State.managed_within (hF.drop (by decide)) ?_ ?_
  · intro t0 w1
    refine State.shareSend_within (hF.drop (by decide)) ?_
    assumption
  assumption

theorem execShareRx_within {Ma Na ba : Nat} {s₀ : State} {t : Nat} {port : Fin 8} {msg : ShareMsg} {s : State}
    (hF : Foot Ma Na ba 0x500000000000000020000000000000000000001202c01f00000104002 0x400000000000000000000000000000000000000000 (port.val)) (hS : Within Ma Na ba s₀ (s.advance t)) :
    Ends Ma Na ba s₀ (execShareRx t port msg s) := by
  unfold execShareRx
  refine Ends.mk ?_
  refine State.onUp_within (hF.sub (by decide) (by decide)) ?_ ?_
  · intro t0 w1
    refine State.shareRx_within (hF.drop (by decide)) ?_
    assumption
  assumption

theorem execSeamSend_within {Ma Na ba : Nat} {s₀ : State} {t : Nat} {right : Bool} {slot : Fin 2} {rslot : Fin 64} {half : Fin 2} {s : State}
    (hF : Foot Ma Na ba 0x100004 0x0 (0)) (hS : Within Ma Na ba s₀ (s.advance t)) :
    Ends Ma Na ba s₀ (execSeamSend t right slot rslot half s) := by
  unfold execSeamSend
  refine Ends.mk ?_
  refine State.seamSend_within (hF.drop (by decide)) ?_
  assumption

theorem execSeamRx_within {Ma Na ba : Nat} {s₀ : State} {t : Nat} {msg : SeamMsg} {s : State}
    (hF : Foot Ma Na ba 0x400200000000000000000000000000000000000080 0x0 (0)) (hS : Within Ma Na ba s₀ (s.advance t)) :
    Ends Ma Na ba s₀ (execSeamRx t msg s) := by
  unfold execSeamRx
  refine Ends.mk ?_
  refine State.onUp_within (hF.drop (by decide)) ?_ ?_
  · intro t0 w1
    refine State.seamRx_within (hF.drop (by decide)) ?_
    assumption
  assumption

theorem execMgmtRx_within {Ma Na ba : Nat} {s₀ : State} {t : Nat} {port : Fin 8} {msg : MgmtMsg} {s : State}
    (hF : Foot Ma Na ba 0x1000000000040200000000000000000000000000000000114000 0x400000000000000000000000000000000000000000 (port.val)) (hS : Within Ma Na ba s₀ (s.advance t)) :
    Ends Ma Na ba s₀ (execMgmtRx t port msg s) := by
  unfold execMgmtRx
  refine Ends.mk ?_
  refine State.onUp_within (hF.sub (by decide) (by decide)) ?_ ?_
  · intro t0 w1
    refine State.mgmtRx_within (hF.drop (by decide)) ?_
    assumption
  assumption

/-! ## Clocks -/

theorem State.modLoop_within {Ma Na ba : Nat} {s₀ : State} {s : State} {k : Nat} {f : Loop → Loop}
    (hF : Foot Ma Na ba 0x8000 0x0 (0)) (hS : Within Ma Na ba s₀ s) :
    Within Ma Na ba s₀ (State.modLoop s k f) := by
  unfold State.modLoop
  refine Within.upd_ck (hF.any (by decide)) ?_
  assumption

theorem State.putLocked_within {Ma Na ba : Nat} {s₀ : State} {s : State} {k : Nat} {v : Bool}
    (hF : Foot Ma Na ba 0x800008000 0x20000000000 (k)) (hS : Within Ma Na ba s₀ s) :
    Within Ma Na ba s₀ (State.putLocked s k v) := by
  unfold State.putLocked
  extract_lets -merge +onlyGivenNames y0
  refine have w1 : Within Ma Na ba s₀ y0 := ?_; ?_
  · refine Within.ite ?_ ?_
    · refine Within.setBit .CK_STATUS 0 0 rfl (hF.may (by decide)) ?_
      refine Within.setB .CK_PSTAT _ 0 rfl (hF.mayOwn (by decide)) ?_
      assumption
    refine Within.clrBit .CK_STATUS 0 0 rfl (hF.may (by decide)) ?_
    refine Within.setB .CK_PSTAT _ 0 rfl (hF.mayOwn (by decide)) ?_
    assumption
  clear_value y0
  refine State.modLoop_within (hF.drop (by decide)) ?_
  assumption

theorem State.lockFall_within {Ma Na ba : Nat} {s₀ : State} {s : State} {k : Nat}
    (hF : Foot Ma Na ba 0x800008000 0x20000000000 (k)) (hS : Within Ma Na ba s₀ s) :
    Within Ma Na ba s₀ (State.lockFall s k) := by
  unfold State.lockFall
  refine Within.ite ?_ ?_
  · extract_lets -merge +onlyGivenNames y0
    refine have w1 : Within Ma Na ba s₀ y0 := ?_; ?_
    · refine Within.satF .CK_PSTAT _ 0 rfl (hF.mayOwn (by decide)) ?_
      refine State.putLocked_within (hF.sub (by decide) (by decide)) ?_
      assumption
    clear_value y0
    refine State.modLoop_within (hF.drop (by decide)) ?_
    refine Within.setBit .CK_STATUS 0 0 rfl (hF.may (by decide)) ?_
    assumption
  assumption

theorem State.lockRise_within {Ma Na ba : Nat} {s₀ : State} {s : State} {k : Nat}
    (hF : Foot Ma Na ba 0x800008000 0x20000000000 (k)) (hS : Within Ma Na ba s₀ s) :
    Within Ma Na ba s₀ (State.lockRise s k) := by
  unfold State.lockRise
  refine Within.ite ?_ ?_
  · assumption
  refine State.modLoop_within (hF.drop (by decide)) ?_
  refine State.putLocked_within (hF.sub (by decide) (by decide)) ?_
  assumption

theorem State.loopStop_within {Ma Na ba : Nat} {s₀ : State} {s : State} {k : Nat}
    (hF : Foot Ma Na ba 0x20000018101602285000000000000000000000000000014801 0x0 (0)) (hS : Within Ma Na ba s₀ s) :
    Within Ma Na ba s₀ (State.loopStop s k) := by
  unfold State.loopStop
  refine Within.ite ?_ ?_
  · refine Within.upd_clock (hF.any (by decide)) rfl ?_
    assumption
  refine Within.ite ?_ ?_
  · extract_lets -merge +onlyGivenNames y0
    extract_lets -merge +onlyGivenNames y1
    refine have w2 : Within Ma Na ba s₀ y1 := ?_; ?_
    · refine Within.modBun (hF.may (by decide)) ?_
      refine State.patternsFollow_within (hF.drop (by decide)) ?_
      refine State.setLanes_within (hF.drop (by decide)) ?_
      assumption
    clear_value y1
    refine State.setLink_within (hF.drop (by decide)) ?_
    refine State.dropLocks_within (hF.drop (by decide)) ?_
    assumption
  refine Within.ite ?_ ?_
  · refine Within.foldl ?_ ?_
    · intro t3 x4 w5
      refine State.portInto_within (hF.drop (by decide)) ?_
      assumption
    assumption
  assumption

theorem State.loopGo_within {Ma Na ba : Nat} {s₀ : State} {s : State} {k : Nat}
    (hF : Foot Ma Na ba 0x20000018501600201000000000000000000000000000014081 0x2884000000000000000000000000000000800 (k - 2)) (hS : Within Ma Na ba s₀ s) :
    Within Ma Na ba s₀ (State.loopGo s k) := by
  unfold State.loopGo
  refine Within.ite ?_ ?_
  · refine Within.upd_clock (hF.any (by decide)) rfl ?_
    assumption
  refine Within.ite ?_ ?_
  · refine State.laneFollow_within (hF.sub (by decide) (by decide)) ?_
    assumption
  refine Within.ite ?_ ?_
  · refine Within.foldl ?_ ?_
    · intro t0 x1 w2
      refine State.portFollow_within (hF.drop (by decide)) ?_
      assumption
    assumption
  refine Within.ite ?_ ?_
  · refine Within.upd_pipe (hF.any (by decide)) ?_
    assumption
  assumption

theorem State.loopAcquire_within {Ma Na ba : Nat} {s₀ : State} {s : State} {k : Nat}
    (hF : Foot Ma Na ba 0x2000001810160228500000000000000000000000000001c881 0x20000000000 (k)) (hS : Within Ma Na ba s₀ s) :
    Within Ma Na ba s₀ (State.loopAcquire s k) := by
  unfold State.loopAcquire
  extract_lets -merge +onlyGivenNames y0
  refine have w1 : Within Ma Na ba s₀ y0 := ?_; ?_
  · refine Within.ite ?_ ?_
    · refine State.settleBack_within (hF.drop (by decide)) ?_
      assumption
    assumption
  clear_value y0
  extract_lets -merge +onlyGivenNames y2
  refine have w3 : Within Ma Na ba s₀ y2 := ?_; ?_
  · refine Within.satF .CK_PSTAT _ 0 rfl (hF.mayOwn (by decide)) ?_
    refine Within.setB .CK_PSTAT _ 0 rfl (hF.mayOwn (by decide)) ?_
    assumption
  clear_value y2
  extract_lets -merge +onlyGivenNames y4
  refine have w5 : Within Ma Na ba s₀ y4 := ?_; ?_
  · refine State.modLoop_within (hF.drop (by decide)) ?_
    assumption
  clear_value y4
  refine State.loopStop_within (hF.drop (by decide)) ?_
  assumption

theorem State.loopRestart_within {Ma Na ba : Nat} {s₀ : State} {s : State} {k : Nat}
    (hF : Foot Ma Na ba 0x2000001810160228500000000000000000000000080001c881 0x20000000000 (k)) (hS : Within Ma Na ba s₀ s) :
    Within Ma Na ba s₀ (State.loopRestart s k) := by
  unfold State.loopRestart
  refine Within.ite ?_ ?_
  · extract_lets -merge +onlyGivenNames y0
    extract_lets -merge +onlyGivenNames y1
    refine have w2 : Within Ma Na ba s₀ y1 := ?_; ?_
    · refine Within.setBit .CK_STATUS 0 0 rfl (hF.may (by decide)) ?_
      refine State.lockFall_within (hF.sub (by decide) (by decide)) ?_
      assumption
    clear_value y1
    refine State.loopAcquire_within (hF.sub (by decide) (by decide)) ?_
    refine State.modLoop_within (hF.drop (by decide)) ?_
    assumption
  assumption

theorem State.pllWrite_within {Ma Na ba : Nat} {s₀ : State} {s : State} {k : Nat} {v : Word}
    (hF : Foot Ma Na ba 0x2000001810160228500000000000000000000000080001c881 0x30000000000 (k)) (hS : Within Ma Na ba s₀ s) :
    Within Ma Na ba s₀ (State.pllWrite s k v) := by
  unfold State.pllWrite
  split
  · assumption
  refine State.loopRestart_within (hF.sub (by decide) (by decide)) ?_
  refine Within.reg .CK_PLL _ 0 rfl (hF.mayOwn (by decide)) ?_
  assumption

theorem State.bandsChanged_within {Ma Na ba : Nat} {s₀ : State} {s : State}
    (hF : Foot Ma Na ba 0x8000 0x0 (0)) (hS : Within Ma Na ba s₀ s) :
    Within Ma Na ba s₀ (State.bandsChanged s) := by
  unfold State.bandsChanged
  refine Within.foldl ?_ ?_
  · intro t0 x1 w2
    refine Within.ite ?_ ?_
    · refine State.modLoop_within (hF.drop (by decide)) ?_
      assumption
    assumption
  assumption

theorem State.bandTimeout_within {Ma Na ba : Nat} {s₀ : State} {s : State} {k : Nat}
    (hF : Foot Ma Na ba 0x8000 0x0 (0)) (hS : Within Ma Na ba s₀ s) :
    Within Ma Na ba s₀ (State.bandTimeout s k) := by
  unfold State.bandTimeout
  split
  · assumption
  refine Within.ite ?_ ?_
  · refine State.modLoop_within (hF.drop (by decide)) ?_
    assumption
  assumption

theorem State.acqPass_within {Ma Na ba : Nat} {s₀ : State} {s : State} {k : Nat} {d : Nat}
    (hF : Foot Ma Na ba 0x20000018501602a8500000000000000000000000080001c881 0x20000000000 (k)) (hS : Within Ma Na ba s₀ s) :
    Within Ma Na ba s₀ (State.acqPass s k d) := by
  unfold State.acqPass
  split
  · assumption
  extract_lets -merge +onlyGivenNames y0
  refine Within.ite ?_ ?_
  · extract_lets -merge +onlyGivenNames y1
    refine have w2 : Within Ma Na ba s₀ y1 := ?_; ?_
    · refine Within.setF .CK_PSTAT _ 0 rfl (hF.mayOwn (by decide)) ?_
      refine Within.setF .CK_PSTAT _ 0 rfl (hF.mayOwn (by decide)) ?_
      refine Within.setB .CK_PSTAT _ 0 rfl (hF.mayOwn (by decide)) ?_
      assumption
    clear_value y1
    extract_lets -merge +onlyGivenNames y3
    refine have w4 : Within Ma Na ba s₀ y3 := ?_; ?_
    · refine State.modLoop_within (hF.drop (by decide)) ?_
      assumption
    clear_value y3
    extract_lets -merge +onlyGivenNames y5
    refine have w6 : Within Ma Na ba s₀ y5 := ?_; ?_
    · refine Within.ite ?_ ?_
      · assumption
      refine State.lockRise_within (hF.sub (by decide) (by decide)) ?_
      assumption
    clear_value y5
    refine State.loopGo_within (hF.drop (by decide)) ?_
    assumption
  assumption

theorem State.windowEnd_within {Ma Na ba : Nat} {s₀ : State} {s : State} {k : Nat} {d : Nat}
    (hF : Foot Ma Na ba 0x800008000 0x20000000000 (k)) (hS : Within Ma Na ba s₀ s) :
    Within Ma Na ba s₀ (State.windowEnd s k d) := by
  unfold State.windowEnd
  extract_lets -merge +onlyGivenNames y0
  extract_lets -merge +onlyGivenNames y1
  refine Within.ite ?_ ?_
  · extract_lets -merge +onlyGivenNames y2
    refine have w3 : Within Ma Na ba s₀ y2 := ?_; ?_
    · refine State.modLoop_within (hF.drop (by decide)) ?_
      refine Within.setF .CK_PSTAT _ 0 rfl (hF.mayOwn (by decide)) ?_
      assumption
    clear_value y2
    refine Within.ite ?_ ?_
    · extract_lets -merge +onlyGivenNames y4
      refine have w5 : Within Ma Na ba s₀ y4 := ?_; ?_
      · refine State.modLoop_within (hF.drop (by decide)) ?_
        assumption
      clear_value y4
      refine Within.ite ?_ ?_
      · refine State.lockRise_within (hF.sub (by decide) (by decide)) ?_
        assumption
      assumption
    refine State.modLoop_within (hF.drop (by decide)) ?_
    refine State.lockFall_within (hF.sub (by decide) (by decide)) ?_
    assumption
  assumption

theorem State.landCross_within {Ma Na ba : Nat} {s₀ : State} {s : State} {high : Bool}
    (hF : Foot Ma Na ba 0x20800008000 0x0 (0)) (hS : Within Ma Na ba s₀ s) :
    Within Ma Na ba s₀ (State.landCross s high) := by
  unfold State.landCross
  extract_lets -merge +onlyGivenNames y0
  extract_lets -merge +onlyGivenNames y1
  refine have w2 : Within Ma Na ba s₀ y1 := ?_; ?_
  · refine Within.upd_ck (hF.any (by decide)) ?_
    assumption
  clear_value y1
  refine Within.ite ?_ ?_
  · refine Within.ite ?_ ?_
    · refine State.lockFall_within (hF.drop (by decide)) ?_
      assumption
    refine Within.ite ?_ ?_
    · assumption
    refine State.lockRise_within (hF.drop (by decide)) ?_
    assumption
  assumption

theorem State.loseRef_within {Ma Na ba : Nat} {s₀ : State} {s : State} {lane : Bool}
    (hF : Foot Ma Na ba 0x20800008000 0x0 (0)) (hS : Within Ma Na ba s₀ s) :
    Within Ma Na ba s₀ (State.loseRef s lane) := by
  unfold State.loseRef
  refine Within.ite ?_ ?_
  · assumption
  extract_lets -merge +onlyGivenNames y0
  refine have w1 : Within Ma Na ba s₀ y0 := ?_; ?_
  · refine Within.ite ?_ ?_
    · refine Within.setB .CK_STATUS 0 0 rfl (hF.may (by decide)) ?_
      refine Within.setB .CK_STATUS 0 0 rfl (hF.may (by decide)) ?_
      assumption
    refine Within.setB .CK_STATUS 0 0 rfl (hF.may (by decide)) ?_
    refine Within.setB .CK_STATUS 0 0 rfl (hF.may (by decide)) ?_
    assumption
  clear_value y0
  extract_lets -merge +onlyGivenNames y2
  extract_lets -merge +onlyGivenNames y3
  extract_lets -merge +onlyGivenNames y4
  refine have w5 : Within Ma Na ba s₀ y4 := ?_; ?_
  · refine Within.ite ?_ ?_
    · refine Within.upd_ck (hF.any (by decide)) ?_
      assumption
    refine Within.upd_ck (hF.any (by decide)) ?_
    assumption
  clear_value y4
  refine Within.foldl ?_ ?_
  · intro t6 x7 w8
    refine State.lockFall_within (hF.drop (by decide)) ?_
    assumption
  assumption

theorem State.findRef_within {Ma Na ba : Nat} {s₀ : State} {s : State} {lane : Bool}
    (hF : Foot Ma Na ba 0x800008000 0x0 (0)) (hS : Within Ma Na ba s₀ s) :
    Within Ma Na ba s₀ (State.findRef s lane) := by
  unfold State.findRef
  extract_lets -merge +onlyGivenNames y0
  refine have w1 : Within Ma Na ba s₀ y0 := ?_; ?_
  · refine Within.setB .CK_STATUS 0 0 rfl (hF.may (by decide)) ?_
    assumption
  clear_value y0
  extract_lets -merge +onlyGivenNames y2
  extract_lets -merge +onlyGivenNames y3
  extract_lets -merge +onlyGivenNames y4
  refine have w5 : Within Ma Na ba s₀ y4 := ?_; ?_
  · refine Within.ite ?_ ?_
    · refine Within.upd_ck (hF.any (by decide)) ?_
      assumption
    refine Within.upd_ck (hF.any (by decide)) ?_
    assumption
  clear_value y4
  refine Within.foldl ?_ ?_
  · intro t6 x7 w8
    refine State.modLoop_within (hF.drop (by decide)) ?_
    assumption
  assumption

theorem State.autoClear_within {Ma Na ba : Nat} {s₀ : State} {s : State} {k : Nat}
    (hF : Foot Ma Na ba 0x800000000 0x0 (0)) (hS : Within Ma Na ba s₀ s) :
    Within Ma Na ba s₀ (State.autoClear s k) := by
  unfold State.autoClear
  refine Within.ite ?_ ?_
  · refine Within.clrBit .CK_STATUS 0 0 rfl (hF.may (by decide)) ?_
    assumption
  assumption

theorem State.refClear_within {Ma Na ba : Nat} {s₀ : State} {s : State} {lane : Bool}
    (hF : Foot Ma Na ba 0x800000000 0x0 (0)) (hS : Within Ma Na ba s₀ s) :
    Within Ma Na ba s₀ (State.refClear s lane) := by
  unfold State.refClear
  extract_lets -merge +onlyGivenNames y0
  refine Within.ite ?_ ?_
  · refine Within.setB .CK_STATUS 0 0 rfl (hF.may (by decide)) ?_
    assumption
  assumption

theorem State.autoRestart_within {Ma Na ba : Nat} {s₀ : State} {s : State} {k : Nat}
    (hF : Foot Ma Na ba 0x2000001810160228500000000000000000000000180001c881 0x20000000000 (k)) (hS : Within Ma Na ba s₀ s) :
    Within Ma Na ba s₀ (State.autoRestart s k) := by
  unfold State.autoRestart
  refine Within.ite ?_ ?_
  · refine Within.ite ?_ ?_
    · refine State.loopRestart_within (hF.sub (by decide) (by decide)) ?_
      refine State.modLoop_within (hF.drop (by decide)) ?_
      assumption
    refine Within.setBit .CK_POLICY 0 0 rfl (hF.may (by decide)) ?_
    assumption
  assumption

theorem State.outWrite_within {Ma Na ba : Nat} {s₀ : State} {s : State} {j : Nat} {v : Word}
    (hF : Foot Ma Na ba 0x800108000 0x80000000000 (j)) (hS : Within Ma Na ba s₀ s) :
    Within Ma Na ba s₀ (State.outWrite s j v) := by
  unfold State.outWrite
  split
  · assumption
  extract_lets -merge +onlyGivenNames y0
  extract_lets -merge +onlyGivenNames y1
  extract_lets -merge +onlyGivenNames y2
  extract_lets -merge +onlyGivenNames y3
  refine have w4 : Within Ma Na ba s₀ y3 := ?_; ?_
  · refine Within.emits (hF.any (by decide)) ?_
    refine Within.reg .CK_OUT _ 0 rfl (hF.mayOwn (by decide)) ?_
    assumption
  clear_value y3
  extract_lets -merge +onlyGivenNames y5
  extract_lets -merge +onlyGivenNames y6
  refine have w7 : Within Ma Na ba s₀ y6 := ?_; ?_
  · refine Within.upd_ck (hF.any (by decide)) ?_
    assumption
  clear_value y6
  refine Within.ite ?_ ?_
  · refine Within.setB .CK_STATUS 0 0 rfl (hF.may (by decide)) ?_
    assumption
  assumption

theorem State.outSync_within {Ma Na ba : Nat} {s₀ : State} {s : State} {x : Nat} {j : Nat}
    (hF : Foot Ma Na ba 0x108000 0x0 (0)) (hS : Within Ma Na ba s₀ s) :
    Within Ma Na ba s₀ (State.outSync s x j) := by
  unfold State.outSync
  extract_lets -merge +onlyGivenNames y0
  refine Within.ite ?_ ?_
  · extract_lets -merge +onlyGivenNames y1
    extract_lets -merge +onlyGivenNames y2
    extract_lets -merge +onlyGivenNames y3
    refine Within.emit (hF.any (by decide)) ?_
    refine Within.upd_ck (hF.any (by decide)) ?_
    assumption
  assumption

theorem State.syncAt_within {Ma Na ba : Nat} {s₀ : State} {s : State} {a : Nat}
    (hF : Foot Ma Na ba 0x800010a000 0x0 (0)) (hS : Within Ma Na ba s₀ s) :
    Within Ma Na ba s₀ (State.syncAt s a) := by
  unfold State.syncAt
  extract_lets -merge +onlyGivenNames y0
  extract_lets -merge +onlyGivenNames y1
  refine have w2 : Within Ma Na ba s₀ y1 := ?_; ?_
  · refine Within.foldl ?_ ?_
    · intro t3 x4 w5
      refine State.outSync_within (hF.drop (by decide)) ?_
      assumption
    assumption
  clear_value y1
  refine State.pioEvent_within (hF.drop (by decide)) ?_
  refine Within.setB .CK_SYNC_TIME 0 0 rfl (hF.may (by decide)) ?_
  refine Within.setF .CK_SYNC_TIME 0 0 rfl (hF.may (by decide)) ?_
  assumption

theorem State.armSync_within {Ma Na ba : Nat} {s₀ : State} {s : State}
    (hF : Foot Ma Na ba 0x8000008000 0x0 (0)) (hS : Within Ma Na ba s₀ s) :
    Within Ma Na ba s₀ (State.armSync s) := by
  unfold State.armSync
  extract_lets -merge +onlyGivenNames y0
  extract_lets -merge +onlyGivenNames y1
  refine have w2 : Within Ma Na ba s₀ y1 := ?_; ?_
  · refine Within.setB .CK_SYNC_TIME 0 0 rfl (hF.may (by decide)) ?_
    assumption
  clear_value y1
  refine Within.upd_ck (hF.any (by decide)) ?_
  assumption

theorem State.fireSync_within {Ma Na ba : Nat} {s₀ : State} {s : State}
    (hF : Foot Ma Na ba 0x800010a000 0x0 (0)) (hS : Within Ma Na ba s₀ s) :
    Within Ma Na ba s₀ (State.fireSync s) := by
  unfold State.fireSync
  extract_lets -merge +onlyGivenNames y0
  refine Within.ite ?_ ?_
  · refine State.syncAt_within (hF.drop (by decide)) ?_
    refine Within.setB .CK_SYNC_TIME 0 0 rfl (hF.may (by decide)) ?_
    assumption
  assumption

theorem execReferenceLoss_within {Ma Na ba : Nat} {s₀ : State} {t : Nat} {lane : Bool} {s : State}
    (hF : Foot Ma Na ba 0x20800008000 0x0 (0)) (hS : Within Ma Na ba s₀ (s.advance t)) :
    Ends Ma Na ba s₀ (execReferenceLoss t lane s) := by
  unfold execReferenceLoss
  refine Ends.mk ?_
  refine State.loseRef_within (hF.drop (by decide)) ?_
  assumption

theorem execReferenceReturn_within {Ma Na ba : Nat} {s₀ : State} {t : Nat} {lane : Bool} {s : State}
    (hF : Foot Ma Na ba 0x800008000 0x0 (0)) (hS : Within Ma Na ba s₀ (s.advance t)) :
    Ends Ma Na ba s₀ (execReferenceReturn t lane s) := by
  unfold execReferenceReturn
  refine Ends.mk ?_
  refine State.findRef_within (hF.drop (by decide)) ?_
  assumption

theorem execPllConfigWrite_within {Ma Na ba : Nat} {s₀ : State} {t : Nat} {src : Src} {loop : Fin 12} {val : Word} {s : State}
    (hF : Foot Ma Na ba 0x2000001810160228500000000000000000000000080001c881 0x30000000000 (loop.val)) (hS : Within Ma Na ba s₀ (s.advance t)) :
    Ends Ma Na ba s₀ (execPllConfigWrite t src loop val s) := by
  unfold execPllConfigWrite
  refine Ends.mk ?_
  refine State.managed_within (hF.drop (by decide)) ?_ ?_
  · intro t0 w1
    refine State.pllWrite_within (hF.sub (by decide) (by decide)) ?_
    assumption
  assumption

theorem execBandTryTimeout_within {Ma Na ba : Nat} {s₀ : State} {t : Nat} {loop : Fin 12} {s : State}
    (hF : Foot Ma Na ba 0x8000 0x0 (0)) (hS : Within Ma Na ba s₀ (s.advance t)) :
    Ends Ma Na ba s₀ (execBandTryTimeout t loop s) := by
  unfold execBandTryTimeout
  refine Ends.mk ?_
  refine State.bandTimeout_within (hF.drop (by decide)) ?_
  assumption

theorem execAcquisitionCheckPass_within {Ma Na ba : Nat} {s₀ : State} {t : Nat} {loop : Fin 12} {diff : Fin 65536} {s : State}
    (hF : Foot Ma Na ba 0x20000018501602a8500000000000000000000000080001c881 0x20000000000 (loop.val)) (hS : Within Ma Na ba s₀ (s.advance t)) :
    Ends Ma Na ba s₀ (execAcquisitionCheckPass t loop diff s) := by
  unfold execAcquisitionCheckPass
  refine Ends.mk ?_
  refine State.acqPass_within (hF.sub (by decide) (by decide)) ?_
  assumption

theorem execLockWindowEnd_within {Ma Na ba : Nat} {s₀ : State} {t : Nat} {loop : Fin 12} {diff : Fin 65536} {s : State}
    (hF : Foot Ma Na ba 0x800008000 0x20000000000 (loop.val)) (hS : Within Ma Na ba s₀ (s.advance t)) :
    Ends Ma Na ba s₀ (execLockWindowEnd t loop diff s) := by
  unfold execLockWindowEnd
  refine Ends.mk ?_
  refine State.windowEnd_within (hF.sub (by decide) (by decide)) ?_
  assumption

theorem execLockdetCrossing_within {Ma Na ba : Nat} {s₀ : State} {t : Nat} {high : Bool} {s : State}
    (hF : Foot Ma Na ba 0x20800008000 0x0 (0)) (hS : Within Ma Na ba s₀ (s.advance t)) :
    Ends Ma Na ba s₀ (execLockdetCrossing t high s) := by
  unfold execLockdetCrossing
  refine Ends.mk ?_
  refine State.landCross_within (hF.drop (by decide)) ?_
  assumption

theorem execPllFlagAutoClear_within {Ma Na ba : Nat} {s₀ : State} {t : Nat} {loop : Fin 12} {s : State}
    (hF : Foot Ma Na ba 0x800000000 0x0 (0)) (hS : Within Ma Na ba s₀ (s.advance t)) :
    Ends Ma Na ba s₀ (execPllFlagAutoClear t loop s) := by
  unfold execPllFlagAutoClear
  refine Ends.mk ?_
  refine State.autoClear_within (hF.drop (by decide)) ?_
  assumption

theorem execRefFlagAutoClear_within {Ma Na ba : Nat} {s₀ : State} {t : Nat} {lane : Bool} {s : State}
    (hF : Foot Ma Na ba 0x800000000 0x0 (0)) (hS : Within Ma Na ba s₀ (s.advance t)) :
    Ends Ma Na ba s₀ (execRefFlagAutoClear t lane s) := by
  unfold execRefFlagAutoClear
  refine Ends.mk ?_
  refine State.refClear_within (hF.drop (by decide)) ?_
  assumption

theorem execPllAutoRestart_within {Ma Na ba : Nat} {s₀ : State} {t : Nat} {loop : Fin 12} {s : State}
    (hF : Foot Ma Na ba 0x2000001810160228500000000000000000000000180001c881 0x20000000000 (loop.val)) (hS : Within Ma Na ba s₀ (s.advance t)) :
    Ends Ma Na ba s₀ (execPllAutoRestart t loop s) := by
  unfold execPllAutoRestart
  refine Ends.mk ?_
  refine State.autoRestart_within (hF.sub (by decide) (by decide)) ?_
  assumption

theorem execClockOutputWrite_within {Ma Na ba : Nat} {s₀ : State} {t : Nat} {src : Src} {out : Fin 6} {val : Word} {s : State}
    (hF : Foot Ma Na ba 0x800108000 0x80000000000 (out.val)) (hS : Within Ma Na ba s₀ (s.advance t)) :
    Ends Ma Na ba s₀ (execClockOutputWrite t src out val s) := by
  unfold execClockOutputWrite
  refine Ends.mk ?_
  refine State.managed_within (hF.drop (by decide)) ?_ ?_
  · intro t0 w1
    refine State.outWrite_within (hF.sub (by decide) (by decide)) ?_
    assumption
  assumption

theorem execSyncinEdge_within {Ma Na ba : Nat} {s₀ : State} {t : Nat} {s : State}
    (hF : Foot Ma Na ba 0x800010a000 0x0 (0)) (hS : Within Ma Na ba s₀ (s.advance t)) :
    Ends Ma Na ba s₀ (execSyncinEdge t s) := by
  unfold execSyncinEdge
  extract_lets -merge +onlyGivenNames y0
  refine have w1 : Within Ma Na ba s₀ y0 := ?_; ?_
  · exact hS
  clear_value y0
  refine Ends.mk ?_
  refine State.syncAt_within (hF.drop (by decide)) ?_
  assumption

theorem execCkSync_within {Ma Na ba : Nat} {s₀ : State} {t : Nat} {src : Src} {s : State}
    (hF : Foot Ma Na ba 0x800010a000 0x0 (0)) (hS : Within Ma Na ba s₀ (s.advance t)) :
    Ends Ma Na ba s₀ (execCkSync t src s) := by
  unfold execCkSync
  refine Ends.mk ?_
  refine State.managed_within (hF.drop (by decide)) ?_ ?_
  · intro t0 w1
    refine State.syncAt_within (hF.drop (by decide)) ?_
    assumption
  assumption

theorem execCkArm_within {Ma Na ba : Nat} {s₀ : State} {t : Nat} {src : Src} {s : State}
    (hF : Foot Ma Na ba 0x8000008000 0x0 (0)) (hS : Within Ma Na ba s₀ (s.advance t)) :
    Ends Ma Na ba s₀ (execCkArm t src s) := by
  unfold execCkArm
  refine Ends.mk ?_
  refine State.managed_within (hF.drop (by decide)) ?_ ?_
  · intro t0 w1
    refine State.armSync_within (hF.drop (by decide)) ?_
    assumption
  assumption

theorem execArmedSyncFire_within {Ma Na ba : Nat} {s₀ : State} {t : Nat} {s : State}
    (hF : Foot Ma Na ba 0x800010a000 0x0 (0)) (hS : Within Ma Na ba s₀ (s.advance t)) :
    Ends Ma Na ba s₀ (execArmedSyncFire t s) := by
  unfold execArmedSyncFire
  refine Ends.mk ?_
  refine State.fireSync_within (hF.drop (by decide)) ?_
  assumption

end Sys2Proof.Machine
end

