-- ==== Sys2Proof/Laws/FrameNet.lean ====
section
/-! SUPPORT. What the functions of the Ethernet port and IEEE 1588 can change: one lemma for each function and each meaning, in the relation `Within`. -/

namespace Sys2Proof.Machine

/-! ## Net -/

theorem State.putArp_within {Ma Na ba : Nat} {s₀ : State} {s : State} {e : ArpEntry}
    (hF : Foot Ma Na ba 0x10000 0x0 (0)) (hS : Within Ma Na ba s₀ s) :
    Within Ma Na ba s₀ (State.putArp s e) := by
  unfold State.putArp
  extract_lets -merge +onlyGivenNames y0
  refine Within.upd_eth (hF.any (by decide)) ?_
  assumption

theorem State.askArp_within {Ma Na ba : Nat} {s₀ : State} {s : State} {ip : Nat}
    (hF : Foot Ma Na ba 0x10000 0x0 (0)) (hS : Within Ma Na ba s₀ s) :
    Within Ma Na ba s₀ (State.askArp s ip) := by
  unfold State.askArp
  refine State.ethSend_within (hF.drop (by decide)) ?_
  assumption

theorem State.resolve_within {Ma Na ba : Nat} {s₀ : State} {s : State} {hop : Nat}
    (hF : Foot Ma Na ba 0x10000 0x0 (0)) (hS : Within Ma Na ba s₀ s) :
    Within Ma Na ba s₀ (State.resolve s hop) := by
  unfold State.resolve
  refine Within.ite ?_ ?_
  · assumption
  refine State.askArp_within (hF.drop (by decide)) ?_
  refine State.putArp_within (hF.drop (by decide)) ?_
  assumption

theorem State.resolveFor_within {Ma Na ba : Nat} {s₀ : State} {s : State} {ip : Nat}
    (hF : Foot Ma Na ba 0x10000 0x0 (0)) (hS : Within Ma Na ba s₀ s) :
    Within Ma Na ba s₀ (State.resolveFor s ip) := by
  unfold State.resolveFor
  split
  · refine State.resolve_within (hF.drop (by decide)) ?_
    assumption
  assumption

theorem State.announce_within {Ma Na ba : Nat} {s₀ : State} {s : State}
    (hF : Foot Ma Na ba 0x10000 0x0 (0)) (hS : Within Ma Na ba s₀ s) :
    Within Ma Na ba s₀ (State.announce s) := by
  unfold State.announce
  refine Within.upd_eth (hF.any (by decide)) ?_
  assumption

theorem State.takeIp_within {Ma Na ba : Nat} {s₀ : State} {s : State} {ip : Nat} {pre : Nat} {dhcp : Bool}
    (hF : Foot Ma Na ba 0x8800000000000000000000000000000000000000000010000 0x0 (0)) (hS : Within Ma Na ba s₀ s) :
    Within Ma Na ba s₀ (State.takeIp s ip pre dhcp) := by
  unfold State.takeIp
  extract_lets -merge +onlyGivenNames y0
  extract_lets -merge +onlyGivenNames y1
  refine have w2 : Within Ma Na ba s₀ y1 := ?_; ?_
  · refine Within.setF .ETH_IP_ACT 0 0 rfl (hF.may (by decide)) ?_
    refine Within.setF .ETH_IP_ACT 0 0 rfl (hF.may (by decide)) ?_
    assumption
  clear_value y1
  extract_lets -merge +onlyGivenNames y3
  refine have w4 : Within Ma Na ba s₀ y3 := ?_; ?_
  · refine Within.setB .ETH_STATUS 0 0 rfl (hF.may (by decide)) ?_
    refine Within.setB .ETH_STATUS 0 0 rfl (hF.may (by decide)) ?_
    assumption
  clear_value y3
  refine Within.ite ?_ ?_
  · assumption
  refine State.announce_within (hF.drop (by decide)) ?_
  assumption

theorem State.dropIp_within {Ma Na ba : Nat} {s₀ : State} {s : State}
    (hF : Foot Ma Na ba 0x8800000000000000000000000000000000000000000010000 0x0 (0)) (hS : Within Ma Na ba s₀ s) :
    Within Ma Na ba s₀ (State.dropIp s) := by
  unfold State.dropIp
  refine State.takeIp_within (hF.drop (by decide)) ?_
  assumption

theorem State.takeStatic_within {Ma Na ba : Nat} {s₀ : State} {s : State}
    (hF : Foot Ma Na ba 0x8800000000000000000000000000000000000000000010000 0x0 (0)) (hS : Within Ma Na ba s₀ s) :
    Within Ma Na ba s₀ (State.takeStatic s) := by
  unfold State.takeStatic
  refine State.takeIp_within (hF.drop (by decide)) ?_
  assumption

theorem State.modDhcp_within {Ma Na ba : Nat} {s₀ : State} {s : State} {f : Dhcp → Dhcp}
    (hF : Foot Ma Na ba 0x10000 0x0 (0)) (hS : Within Ma Na ba s₀ s) :
    Within Ma Na ba s₀ (State.modDhcp s f) := by
  unfold State.modDhcp
  refine Within.upd_eth (hF.any (by decide)) ?_
  assumption

theorem State.dhcpMsg_within {Ma Na ba : Nat} {s₀ : State} {s : State} {kind : Nat} {ip : Nat}
    (hF : Foot Ma Na ba 0x10000 0x0 (0)) (hS : Within Ma Na ba s₀ s) :
    Within Ma Na ba s₀ (State.dhcpMsg s kind ip) := by
  unfold State.dhcpMsg
  refine State.ethSend_within (hF.drop (by decide)) ?_
  assumption

theorem State.dhcpStart_within {Ma Na ba : Nat} {s₀ : State} {s : State}
    (hF : Foot Ma Na ba 0x210000 0x0 (0)) (hS : Within Ma Na ba s₀ s) :
    Within Ma Na ba s₀ (State.dhcpStart s) := by
  unfold State.dhcpStart
  extract_lets -merge +onlyGivenNames y0
  refine have w1 : Within Ma Na ba s₀ y0 := ?_; ?_
  · refine State.modDhcp_within (hF.drop (by decide)) ?_
    assumption
  clear_value y0
  extract_lets -merge +onlyGivenNames y2
  refine have w3 : Within Ma Na ba s₀ y2 := ?_; ?_
  · refine State.dhcpMsg_within (hF.drop (by decide)) ?_
    refine Within.used (hF.any (by decide)) ?_
    assumption
  clear_value y2
  refine Within.used (hF.any (by decide)) ?_
  refine State.modDhcp_within (hF.drop (by decide)) ?_
  assumption

theorem State.chooseIp_within {Ma Na ba : Nat} {s₀ : State} {s : State}
    (hF : Foot Ma Na ba 0x8800000000000000000000000000000000000000000010000 0x0 (0)) (hS : Within Ma Na ba s₀ s) :
    Within Ma Na ba s₀ (State.chooseIp s) := by
  unfold State.chooseIp
  extract_lets -merge +onlyGivenNames y0
  refine Within.ite ?_ ?_
  · refine State.takeStatic_within (hF.drop (by decide)) ?_
    assumption
  refine Within.ite ?_ ?_
  · refine State.takeIp_within (hF.drop (by decide)) ?_
    assumption
  refine Within.ite ?_ ?_
  · refine State.takeStatic_within (hF.drop (by decide)) ?_
    assumption
  refine State.dropIp_within (hF.drop (by decide)) ?_
  assumption

theorem State.netStart_within {Ma Na ba : Nat} {s₀ : State} {s : State}
    (hF : Foot Ma Na ba 0x8800000000000000000000000000000000000000000210000 0x0 (0)) (hS : Within Ma Na ba s₀ s) :
    Within Ma Na ba s₀ (State.netStart s) := by
  unfold State.netStart
  refine Within.ite ?_ ?_
  · extract_lets -merge +onlyGivenNames y0
    refine have w1 : Within Ma Na ba s₀ y0 := ?_; ?_
    · refine Within.ite ?_ ?_
      · refine State.modDhcp_within (hF.drop (by decide)) ?_
        assumption
      refine Within.ite ?_ ?_
      · refine State.dhcpStart_within (hF.drop (by decide)) ?_
        assumption
      assumption
    clear_value y0
    refine State.chooseIp_within (hF.drop (by decide)) ?_
    assumption
  assumption

theorem State.dhcpBind_within {Ma Na ba : Nat} {s₀ : State} {s : State} {m : DhcpMsg}
    (hF : Foot Ma Na ba 0x8800000000000000000000000000000000000000000010000 0x0 (0)) (hS : Within Ma Na ba s₀ s) :
    Within Ma Na ba s₀ (State.dhcpBind s m) := by
  unfold State.dhcpBind
  extract_lets -merge +onlyGivenNames y0
  refine have w1 : Within Ma Na ba s₀ y0 := ?_; ?_
  · refine State.modDhcp_within (hF.drop (by decide)) ?_
    assumption
  clear_value y0
  extract_lets -merge +onlyGivenNames y2
  refine have w3 : Within Ma Na ba s₀ y2 := ?_; ?_
  · refine State.modDhcp_within (hF.drop (by decide)) ?_
    assumption
  clear_value y2
  refine State.chooseIp_within (hF.drop (by decide)) ?_
  assumption

theorem State.dhcpRx_within {Ma Na ba : Nat} {s₀ : State} {s : State} {m : DhcpMsg}
    (hF : Foot Ma Na ba 0x8800000000000000000000000000000000000000000210000 0x0 (0)) (hS : Within Ma Na ba s₀ s) :
    Within Ma Na ba s₀ (State.dhcpRx s m) := by
  unfold State.dhcpRx
  extract_lets -merge +onlyGivenNames y0
  refine Within.ite ?_ ?_
  · assumption
  split
  · refine Within.ite ?_ ?_
    · extract_lets -merge +onlyGivenNames y1
      refine have w2 : Within Ma Na ba s₀ y1 := ?_; ?_
      · refine State.dhcpMsg_within (hF.drop (by decide)) ?_
        refine State.modDhcp_within (hF.drop (by decide)) ?_
        assumption
      clear_value y1
      refine Within.used (hF.any (by decide)) ?_
      refine State.modDhcp_within (hF.drop (by decide)) ?_
      assumption
    assumption
  · refine Within.ite ?_ ?_
    · refine State.dhcpBind_within (hF.drop (by decide)) ?_
      assumption
    assumption
  · refine Within.ite ?_ ?_
    · refine State.chooseIp_within (hF.drop (by decide)) ?_
      refine State.dhcpStart_within (hF.drop (by decide)) ?_
      assumption
    assumption
  assumption

theorem State.dhcpAsk_within {Ma Na ba : Nat} {s₀ : State} {s : State} {state : Nat} {ip : Nat} {until' : Nat}
    (hF : Foot Ma Na ba 0x10000 0x0 (0)) (hS : Within Ma Na ba s₀ s) :
    Within Ma Na ba s₀ (State.dhcpAsk s state ip until') := by
  unfold State.dhcpAsk
  extract_lets -merge +onlyGivenNames y0
  refine have w1 : Within Ma Na ba s₀ y0 := ?_; ?_
  · refine State.dhcpMsg_within (hF.drop (by decide)) ?_
    refine State.modDhcp_within (hF.drop (by decide)) ?_
    assumption
  clear_value y0
  refine State.modDhcp_within (hF.drop (by decide)) ?_
  assumption

theorem State.dhcpTimer_within {Ma Na ba : Nat} {s₀ : State} {s : State}
    (hF : Foot Ma Na ba 0x210000 0x0 (0)) (hS : Within Ma Na ba s₀ s) :
    Within Ma Na ba s₀ (State.dhcpTimer s) := by
  unfold State.dhcpTimer
  extract_lets -merge +onlyGivenNames y0
  extract_lets -merge +onlyGivenNames y1
  extract_lets -merge +onlyGivenNames y2
  refine Within.ite ?_ ?_
  · assumption
  split
  · assumption
  · extract_lets -merge +onlyGivenNames y3
    refine have w4 : Within Ma Na ba s₀ y3 := ?_; ?_
    · refine State.dhcpMsg_within (hF.drop (by decide)) ?_
      assumption
    clear_value y3
    refine Within.used (hF.any (by decide)) ?_
    refine State.modDhcp_within (hF.drop (by decide)) ?_
    assumption
  · refine Within.ite ?_ ?_
    · refine State.dhcpStart_within (hF.drop (by decide)) ?_
      assumption
    extract_lets -merge +onlyGivenNames y5
    refine have w6 : Within Ma Na ba s₀ y5 := ?_; ?_
    · refine State.dhcpMsg_within (hF.drop (by decide)) ?_
      assumption
    clear_value y5
    refine Within.used (hF.any (by decide)) ?_
    refine State.modDhcp_within (hF.drop (by decide)) ?_
    assumption
  · refine State.dhcpAsk_within (hF.drop (by decide)) ?_
    refine Within.used (hF.any (by decide)) ?_
    refine State.modDhcp_within (hF.drop (by decide)) ?_
    assumption
  · refine Within.ite ?_ ?_
    · refine State.dhcpAsk_within (hF.drop (by decide)) ?_
      assumption
    refine State.dhcpAsk_within (hF.drop (by decide)) ?_
    assumption
  refine State.dhcpAsk_within (hF.drop (by decide)) ?_
  assumption

theorem State.dhcpFallback_within {Ma Na ba : Nat} {s₀ : State} {s : State}
    (hF : Foot Ma Na ba 0x8800000000000000000000000000000000000000000010000 0x0 (0)) (hS : Within Ma Na ba s₀ s) :
    Within Ma Na ba s₀ (State.dhcpFallback s) := by
  unfold State.dhcpFallback
  extract_lets -merge +onlyGivenNames y0
  refine Within.ite ?_ ?_
  · refine State.chooseIp_within (hF.drop (by decide)) ?_
    refine Within.setB .ETH_STATUS 0 0 rfl (hF.may (by decide)) ?_
    refine Within.upd_eth (hF.any (by decide)) ?_
    assumption
  assumption

theorem State.dhcpExpire_within {Ma Na ba : Nat} {s₀ : State} {s : State}
    (hF : Foot Ma Na ba 0x8800000000000000000000000000000000000000000210000 0x0 (0)) (hS : Within Ma Na ba s₀ s) :
    Within Ma Na ba s₀ (State.dhcpExpire s) := by
  unfold State.dhcpExpire
  extract_lets -merge +onlyGivenNames y0
  refine Within.ite ?_ ?_
  · refine State.dhcpStart_within (hF.drop (by decide)) ?_
    refine State.dropIp_within (hF.drop (by decide)) ?_
    refine Within.setB .ETH_STATUS 0 0 rfl (hF.may (by decide)) ?_
    assumption
  assumption

theorem State.showModule_within {Ma Na ba : Nat} {s₀ : State} {s : State} {modAbs : Bool} {rxLos : Bool} {txFault : Bool}
    (hF : Foot Ma Na ba 0x800000000000000000000000000000000000000000000000 0x0 (0)) (hS : Within Ma Na ba s₀ s) :
    Within Ma Na ba s₀ (State.showModule s modAbs rxLos txFault) := by
  unfold State.showModule
  refine Within.setB .ETH_STATUS 0 0 rfl (hF.may (by decide)) ?_
  refine Within.setB .ETH_STATUS 0 0 rfl (hF.may (by decide)) ?_
  refine Within.setB .ETH_STATUS 0 0 rfl (hF.may (by decide)) ?_
  assumption

theorem State.linkUp_within {Ma Na ba : Nat} {s₀ : State} {s : State} {modAbs : Bool} {rxLos : Bool} {txFault : Bool}
    (hF : Foot Ma Na ba 0x8800000000000000000000000000000000000000000210000 0x0 (0)) (hS : Within Ma Na ba s₀ s) :
    Within Ma Na ba s₀ (State.linkUp s modAbs rxLos txFault) := by
  unfold State.linkUp
  extract_lets -merge +onlyGivenNames y0
  refine have w1 : Within Ma Na ba s₀ y0 := ?_; ?_
  · refine State.showModule_within (hF.drop (by decide)) ?_
    assumption
  clear_value y0
  refine Within.ite ?_ ?_
  · assumption
  extract_lets -merge +onlyGivenNames y2
  refine have w3 : Within Ma Na ba s₀ y2 := ?_; ?_
  · refine Within.setB .ETH_STATUS 0 0 rfl (hF.may (by decide)) ?_
    assumption
  clear_value y2
  refine State.netStart_within (hF.drop (by decide)) ?_
  refine Within.upd_eth (hF.any (by decide)) ?_
  assumption

theorem State.linkDown_within {Ma Na ba : Nat} {s₀ : State} {s : State} {modAbs : Bool} {rxLos : Bool} {txFault : Bool}
    (hF : Foot Ma Na ba 0xc00800000000000000000000000000000000000000000001000 0x0 (0)) (hS : Within Ma Na ba s₀ s) :
    Within Ma Na ba s₀ (State.linkDown s modAbs rxLos txFault) := by
  unfold State.linkDown
  extract_lets -merge +onlyGivenNames y0
  refine have w1 : Within Ma Na ba s₀ y0 := ?_; ?_
  · refine State.showModule_within (hF.drop (by decide)) ?_
    assumption
  clear_value y0
  refine Within.ite ?_ ?_
  · extract_lets -merge +onlyGivenNames y2
    refine have w3 : Within Ma Na ba s₀ y2 := ?_; ?_
    · refine Within.setB .ETH_STATUS 0 0 rfl (hF.may (by decide)) ?_
      refine Within.setB .ETH_STATUS 0 0 rfl (hF.may (by decide)) ?_
      assumption
    clear_value y2
    extract_lets -merge +onlyGivenNames y4
    extract_lets -merge +onlyGivenNames y5
    extract_lets -merge +onlyGivenNames y6
    refine have w7 : Within Ma Na ba s₀ y6 := ?_; ?_
    · refine Within.upd_prev (hF.any (by decide)) ?_
      assumption
    clear_value y6
    refine State.showPreview_within (hF.drop (by decide)) ?_
    refine Within.satF .ETH_PREV_CNT 0 0 rfl (hF.may (by decide)) ?_
    assumption
  assumption

theorem State.arpRx_within {Ma Na ba : Nat} {s₀ : State} {s : State} {m : ArpMsg}
    (hF : Foot Ma Na ba 0x800000000000000000000000000000000000000000010000 0x0 (0)) (hS : Within Ma Na ba s₀ s) :
    Within Ma Na ba s₀ (State.arpRx s m) := by
  unfold State.arpRx
  refine Within.ite ?_ ?_
  · assumption
  extract_lets -merge +onlyGivenNames y0
  extract_lets -merge +onlyGivenNames y1
  extract_lets -merge +onlyGivenNames y2
  extract_lets -merge +onlyGivenNames y3
  refine have w4 : Within Ma Na ba s₀ y3 := ?_; ?_
  · refine Within.ite ?_ ?_
    · refine Within.setB .ETH_STATUS 0 0 rfl (hF.may (by decide)) ?_
      assumption
    assumption
  clear_value y3
  extract_lets -merge +onlyGivenNames y5
  refine have w6 : Within Ma Na ba s₀ y5 := ?_; ?_
  · refine Within.ite ?_ ?_
    · refine State.putArp_within (hF.drop (by decide)) ?_
      assumption
    assumption
  clear_value y5
  refine Within.ite ?_ ?_
  · refine State.ethSend_within (hF.drop (by decide)) ?_
    assumption
  assumption

theorem State.arpRetry_within {Ma Na ba : Nat} {s₀ : State} {s : State} {ip : Nat}
    (hF : Foot Ma Na ba 0x10000 0x0 (0)) (hS : Within Ma Na ba s₀ s) :
    Within Ma Na ba s₀ (State.arpRetry s ip) := by
  unfold State.arpRetry
  split
  · assumption
  refine Within.ite ?_ ?_
  · refine Within.ite ?_ ?_
    · refine State.askArp_within (hF.drop (by decide)) ?_
      refine State.putArp_within (hF.drop (by decide)) ?_
      assumption
    refine Within.upd_eth (hF.any (by decide)) ?_
    assumption
  assumption

theorem State.arpAnnounce_within {Ma Na ba : Nat} {s₀ : State} {s : State}
    (hF : Foot Ma Na ba 0x10000 0x0 (0)) (hS : Within Ma Na ba s₀ s) :
    Within Ma Na ba s₀ (State.arpAnnounce s) := by
  unfold State.arpAnnounce
  refine Within.ite ?_ ?_
  · extract_lets -merge +onlyGivenNames y0
    extract_lets -merge +onlyGivenNames y1
    refine have w2 : Within Ma Na ba s₀ y1 := ?_; ?_
    · refine Within.upd_eth (hF.any (by decide)) ?_
      assumption
    clear_value y1
    refine State.ethSend_within (hF.drop (by decide)) ?_
    assumption
  assumption

theorem State.arpAge_within {Ma Na ba : Nat} {s₀ : State} {s : State} {ip : Nat}
    (hF : Foot Ma Na ba 0x10000 0x0 (0)) (hS : Within Ma Na ba s₀ s) :
    Within Ma Na ba s₀ (State.arpAge s ip) := by
  unfold State.arpAge
  refine Within.upd_eth (hF.any (by decide)) ?_
  assumption

theorem State.icmpRx_within {Ma Na ba : Nat} {s₀ : State} {s : State} {m : IcmpMsg}
    (hF : Foot Ma Na ba 0x10000 0x0 (0)) (hS : Within Ma Na ba s₀ s) :
    Within Ma Na ba s₀ (State.icmpRx s m) := by
  unfold State.icmpRx
  refine Within.ite ?_ ?_
  · refine State.resolveFor_within (hF.drop (by decide)) ?_
    refine State.ethSend_within (hF.drop (by decide)) ?_
    assumption
  assumption

theorem State.stampReq_within {Ma Na ba : Nat} {s₀ : State} {s : State} {x : EthTx}
    (hF : Foot Ma Na ba 0x10000 0x0 (0)) (hS : Within Ma Na ba s₀ s) :
    Within Ma Na ba s₀ (State.stampReq s x) := by
  unfold State.stampReq
  refine Within.ite ?_ ?_
  · refine Within.upd_eth (hF.any (by decide)) ?_
    assumption
  assumption

theorem State.routeQueue_within {Ma Na ba : Nat} {s₀ : State} {s : State}
    (hF : Foot Ma Na ba 0x10000 0x0 (0)) (hS : Within Ma Na ba s₀ s) :
    Within Ma Na ba s₀ (State.routeQueue s) := by
  unfold State.routeQueue
  extract_lets -merge +onlyGivenNames y0
  extract_lets -merge +onlyGivenNames y1
  refine have w2 : Within Ma Na ba s₀ y1 := ?_; ?_
  · refine Within.upd_eth (hF.any (by decide)) ?_
    assumption
  clear_value y1
  refine Within.ite ?_ ?_
  · refine Within.foldl ?_ ?_
    · intro t3 x4 w5
      refine State.resolveFor_within (hF.drop (by decide)) ?_
      assumption
    assumption
  assumption

theorem State.previewSend_within {Ma Na ba : Nat} {s₀ : State} {s : State}
    (hF : Foot Ma Na ba 0xc00000000000000000000000000000000000000000000111400 0x0 (0)) (hS : Within Ma Na ba s₀ s) :
    Within Ma Na ba s₀ (State.previewSend s) := by
  unfold State.previewSend
  split
  · assumption
  refine Within.ite ?_ ?_
  · extract_lets -merge +onlyGivenNames y0
    extract_lets -merge +onlyGivenNames y1
    extract_lets -merge +onlyGivenNames y2
    refine have w3 : Within Ma Na ba s₀ y2 := ?_; ?_
    · refine Within.upd_prev (hF.any (by decide)) ?_
      assumption
    clear_value y2
    extract_lets -merge +onlyGivenNames y4
    refine have w5 : Within Ma Na ba s₀ y4 := ?_; ?_
    · refine State.noteLost_within (hF.drop (by decide)) ?_
      assumption
    clear_value y4
    split
    · refine State.showPreview_within (hF.drop (by decide)) ?_
      assumption
    refine Within.ite ?_ ?_
    · extract_lets -merge +onlyGivenNames y6
      refine have w7 : Within Ma Na ba s₀ y6 := ?_; ?_
      · refine Within.emit (hF.any (by decide)) ?_
        assumption
      clear_value y6
      extract_lets -merge +onlyGivenNames y8
      extract_lets -merge +onlyGivenNames y9
      refine have w10 : Within Ma Na ba s₀ y9 := ?_; ?_
      · refine Within.upd_prev (hF.any (by decide)) ?_
        assumption
      clear_value y9
      refine State.showPreview_within (hF.drop (by decide)) ?_
      refine Within.ite ?_ ?_
      · refine Within.addF .ETH_PREV_STAT 0 0 rfl (hF.may (by decide)) ?_
        assumption
      assumption
    refine State.showPreview_within (hF.drop (by decide)) ?_
    refine Within.satF .ETH_PREV_CNT 0 0 rfl (hF.may (by decide)) ?_
    refine State.resolve_within (hF.drop (by decide)) ?_
    assumption
  assumption

theorem State.ethTransmit_within {Ma Na ba : Nat} {s₀ : State} {s : State}
    (hF : Foot Ma Na ba 0xc00000000000000000000000000000000000000000000111400 0x0 (0)) (hS : Within Ma Na ba s₀ s) :
    Within Ma Na ba s₀ (State.ethTransmit s) := by
  unfold State.ethTransmit
  refine Within.ite ?_ ?_
  · extract_lets -merge +onlyGivenNames y0
    refine have w1 : Within Ma Na ba s₀ y0 := ?_; ?_
    · refine State.routeQueue_within (hF.drop (by decide)) ?_
      assumption
    clear_value y0
    split
    · refine State.stampReq_within (hF.drop (by decide)) ?_
      refine Within.emit (hF.any (by decide)) ?_
      refine Within.upd_eth (hF.any (by decide)) ?_
      assumption
    refine State.previewSend_within (hF.drop (by decide)) ?_
    assumption
  assumption

theorem State.previewTurn_within {Ma Na ba : Nat} {s₀ : State} {s : State}
    (hF : Foot Ma Na ba 0xc00000000000000000000000000000000000000000000111400 0x0 (0)) (hS : Within Ma Na ba s₀ s) :
    Within Ma Na ba s₀ (State.previewTurn s) := by
  unfold State.previewTurn
  extract_lets -merge +onlyGivenNames y0
  refine have w1 : Within Ma Na ba s₀ y0 := ?_; ?_
  · refine State.routeQueue_within (hF.drop (by decide)) ?_
    assumption
  clear_value y0
  split
  · assumption
  refine State.previewSend_within (hF.drop (by decide)) ?_
  assumption

theorem execLinkUp_within {Ma Na ba : Nat} {s₀ : State} {t : Nat} {modAbs : Bool} {rxLos : Bool} {txFault : Bool} {s : State}
    (hF : Foot Ma Na ba 0x8800000000000000000000000000000000000000000210000 0x0 (0)) (hS : Within Ma Na ba s₀ (s.advance t)) :
    Ends Ma Na ba s₀ (execLinkUp t modAbs rxLos txFault s) := by
  unfold execLinkUp
  refine Ends.mk ?_
  refine State.linkUp_within (hF.drop (by decide)) ?_
  assumption

theorem execLinkDown_within {Ma Na ba : Nat} {s₀ : State} {t : Nat} {modAbs : Bool} {rxLos : Bool} {txFault : Bool} {s : State}
    (hF : Foot Ma Na ba 0xc00800000000000000000000000000000000000000000001000 0x0 (0)) (hS : Within Ma Na ba s₀ (s.advance t)) :
    Ends Ma Na ba s₀ (execLinkDown t modAbs rxLos txFault s) := by
  unfold execLinkDown
  refine Ends.mk ?_
  refine State.linkDown_within (hF.drop (by decide)) ?_
  assumption

theorem execDhcpRx_within {Ma Na ba : Nat} {s₀ : State} {t : Nat} {msg : DhcpMsg} {s : State}
    (hF : Foot Ma Na ba 0x8800000000000000000000000000000000000000000210000 0x0 (0)) (hS : Within Ma Na ba s₀ (s.advance t)) :
    Ends Ma Na ba s₀ (execDhcpRx t msg s) := by
  unfold execDhcpRx
  refine Ends.mk ?_
  refine State.dhcpRx_within (hF.drop (by decide)) ?_
  assumption

theorem execDhcpFallbackTimeout_within {Ma Na ba : Nat} {s₀ : State} {t : Nat} {s : State}
    (hF : Foot Ma Na ba 0x8800000000000000000000000000000000000000000010000 0x0 (0)) (hS : Within Ma Na ba s₀ (s.advance t)) :
    Ends Ma Na ba s₀ (execDhcpFallbackTimeout t s) := by
  unfold execDhcpFallbackTimeout
  refine Ends.mk ?_
  refine State.dhcpFallback_within (hF.drop (by decide)) ?_
  assumption

theorem execDhcpLeaseExpiry_within {Ma Na ba : Nat} {s₀ : State} {t : Nat} {s : State}
    (hF : Foot Ma Na ba 0x8800000000000000000000000000000000000000000210000 0x0 (0)) (hS : Within Ma Na ba s₀ (s.advance t)) :
    Ends Ma Na ba s₀ (execDhcpLeaseExpiry t s) := by
  unfold execDhcpLeaseExpiry
  refine Ends.mk ?_
  refine State.dhcpExpire_within (hF.drop (by decide)) ?_
  assumption

theorem execDhcpClientTimer_within {Ma Na ba : Nat} {s₀ : State} {t : Nat} {s : State}
    (hF : Foot Ma Na ba 0x210000 0x0 (0)) (hS : Within Ma Na ba s₀ (s.advance t)) :
    Ends Ma Na ba s₀ (execDhcpClientTimer t s) := by
  unfold execDhcpClientTimer
  refine Ends.mk ?_
  refine State.dhcpTimer_within (hF.drop (by decide)) ?_
  assumption

theorem execArpRx_within {Ma Na ba : Nat} {s₀ : State} {t : Nat} {msg : ArpMsg} {s : State}
    (hF : Foot Ma Na ba 0x800000000000000000000000000000000000000000010000 0x0 (0)) (hS : Within Ma Na ba s₀ (s.advance t)) :
    Ends Ma Na ba s₀ (execArpRx t msg s) := by
  unfold execArpRx
  refine Ends.mk ?_
  refine State.arpRx_within (hF.drop (by decide)) ?_
  assumption

theorem execArpRetryTimeout_within {Ma Na ba : Nat} {s₀ : State} {t : Nat} {ip : Nat} {s : State}
    (hF : Foot Ma Na ba 0x10000 0x0 (0)) (hS : Within Ma Na ba s₀ (s.advance t)) :
    Ends Ma Na ba s₀ (execArpRetryTimeout t ip s) := by
  unfold execArpRetryTimeout
  refine Ends.mk ?_
  refine State.arpRetry_within (hF.drop (by decide)) ?_
  assumption

theorem execArpAnnounce_within {Ma Na ba : Nat} {s₀ : State} {t : Nat} {s : State}
    (hF : Foot Ma Na ba 0x10000 0x0 (0)) (hS : Within Ma Na ba s₀ (s.advance t)) :
    Ends Ma Na ba s₀ (execArpAnnounce t s) := by
  unfold execArpAnnounce
  refine Ends.mk ?_
  refine State.arpAnnounce_within (hF.drop (by decide)) ?_
  assumption

theorem execArpEntryAgeout_within {Ma Na ba : Nat} {s₀ : State} {t : Nat} {ip : Nat} {s : State}
    (hF : Foot Ma Na ba 0x10000 0x0 (0)) (hS : Within Ma Na ba s₀ (s.advance t)) :
    Ends Ma Na ba s₀ (execArpEntryAgeout t ip s) := by
  unfold execArpEntryAgeout
  refine Ends.mk ?_
  refine State.arpAge_within (hF.drop (by decide)) ?_
  assumption

theorem execIcmpEchoRequest_within {Ma Na ba : Nat} {s₀ : State} {t : Nat} {msg : IcmpMsg} {s : State}
    (hF : Foot Ma Na ba 0x10000 0x0 (0)) (hS : Within Ma Na ba s₀ (s.advance t)) :
    Ends Ma Na ba s₀ (execIcmpEchoRequest t msg s) := by
  unfold execIcmpEchoRequest
  refine Ends.mk ?_
  refine State.icmpRx_within (hF.drop (by decide)) ?_
  assumption

theorem execEthFrameTransmit_within {Ma Na ba : Nat} {s₀ : State} {t : Nat} {s : State}
    (hF : Foot Ma Na ba 0xc00000000000000000000000000000000000000000000111400 0x0 (0)) (hS : Within Ma Na ba s₀ (s.advance t)) :
    Ends Ma Na ba s₀ (execEthFrameTransmit t s) := by
  unfold execEthFrameTransmit
  refine Ends.mk ?_
  refine State.ethTransmit_within (hF.drop (by decide)) ?_
  assumption

theorem execPreviewDatagramSend_within {Ma Na ba : Nat} {s₀ : State} {t : Nat} {s : State}
    (hF : Foot Ma Na ba 0xc00000000000000000000000000000000000000000000111400 0x0 (0)) (hS : Within Ma Na ba s₀ (s.advance t)) :
    Ends Ma Na ba s₀ (execPreviewDatagramSend t s) := by
  unfold execPreviewDatagramSend
  refine Ends.mk ?_
  refine State.previewTurn_within (hF.drop (by decide)) ?_
  assumption

/-! ## Ptp -/

theorem State.modPtp_within {Ma Na ba : Nat} {s₀ : State} {s : State} {f : Ptp → Ptp}
    (hF : Foot Ma Na ba 0x10000 0x0 (0)) (hS : Within Ma Na ba s₀ s) :
    Within Ma Na ba s₀ (State.modPtp s f) := by
  unfold State.modPtp
  refine Within.upd_eth (hF.any (by decide)) ?_
  assumption

theorem State.ptpShow_within {Ma Na ba : Nat} {s₀ : State} {s : State} {m : PtpMsg}
    (hF : Foot Ma Na ba 0x60000000000000000000000000000000000000000000000000 0x0 (0)) (hS : Within Ma Na ba s₀ s) :
    Within Ma Na ba s₀ (State.ptpShow s m) := by
  unfold State.ptpShow
  refine Within.setB .ETH_PTP_STAT 0 0 rfl (hF.may (by decide)) ?_
  refine Within.setF .ETH_PTP_STAT 0 0 rfl (hF.may (by decide)) ?_
  refine Within.reg .ETH_PTP_GM 0 0 rfl (hF.may (by decide)) ?_
  assumption

theorem State.ptpChange_within {Ma Na ba : Nat} {s₀ : State} {s : State} {m : Option PtpMsg}
    (hF : Foot Ma Na ba 0x60000000001000000000000000000000000000000000014000 0x0 (0)) (hS : Within Ma Na ba s₀ s) :
    Within Ma Na ba s₀ (State.ptpChange s m) := by
  unfold State.ptpChange
  extract_lets -merge +onlyGivenNames y0
  refine have w1 : Within Ma Na ba s₀ y0 := ?_; ?_
  · refine State.ptpUnlock_within (hF.drop (by decide)) ?_
    assumption
  clear_value y0
  extract_lets -merge +onlyGivenNames y2
  refine have w3 : Within Ma Na ba s₀ y2 := ?_; ?_
  · refine State.modPtp_within (hF.drop (by decide)) ?_
    assumption
  clear_value y2
  split
  · refine Within.setB .ETH_PTP_STAT 0 0 rfl (hF.may (by decide)) ?_
    refine Within.setF .ETH_PTP_STAT 0 0 rfl (hF.may (by decide)) ?_
    refine Within.setB .ETH_PTP_STAT 0 0 rfl (hF.may (by decide)) ?_
    refine Within.setF .ETH_PTP_STAT 0 0 rfl (hF.may (by decide)) ?_
    refine Within.reg .ETH_PTP_GM 0 0 rfl (hF.may (by decide)) ?_
    assumption
  refine State.ptpShow_within (hF.drop (by decide)) ?_
  refine Within.setB .ETH_PTP_STAT 0 0 rfl (hF.may (by decide)) ?_
  refine Within.setF .ETH_PTP_STAT 0 0 rfl (hF.may (by decide)) ?_
  assumption

theorem State.ptpSelect_within {Ma Na ba : Nat} {s₀ : State} {s : State}
    (hF : Foot Ma Na ba 0x60000000001000000000000000000000000000000000014000 0x0 (0)) (hS : Within Ma Na ba s₀ s) :
    Within Ma Na ba s₀ (State.ptpSelect s) := by
  unfold State.ptpSelect
  split
  · assumption
  · refine Within.ite ?_ ?_
    · refine State.ptpShow_within (hF.drop (by decide)) ?_
      refine State.modPtp_within (hF.drop (by decide)) ?_
      assumption
    refine State.ptpChange_within (hF.drop (by decide)) ?_
    assumption
  refine State.ptpChange_within (hF.drop (by decide)) ?_
  assumption

theorem State.ptpAnnounce_within {Ma Na ba : Nat} {s₀ : State} {s : State} {m : PtpMsg}
    (hF : Foot Ma Na ba 0x60000000001000000000000000000000000000000000014000 0x0 (0)) (hS : Within Ma Na ba s₀ s) :
    Within Ma Na ba s₀ (State.ptpAnnounce s m) := by
  unfold State.ptpAnnounce
  refine Within.ite ?_ ?_
  · extract_lets -merge +onlyGivenNames y0
    refine State.ptpSelect_within (hF.drop (by decide)) ?_
    refine State.modPtp_within (hF.drop (by decide)) ?_
    assumption
  assumption

theorem State.ptpSync_within {Ma Na ba : Nat} {s₀ : State} {s : State} {m : PtpMsg}
    (hF : Foot Ma Na ba 0x20000000000000000000000000000000000000000000010000 0x0 (0)) (hS : Within Ma Na ba s₀ s) :
    Within Ma Na ba s₀ (State.ptpSync s m) := by
  unfold State.ptpSync
  refine Within.ite ?_ ?_
  · assumption
  refine Within.ite ?_ ?_
  · refine Within.satF .ETH_PTP_STAT 0 0 rfl (hF.may (by decide)) ?_
    assumption
  refine Within.ite ?_ ?_
  · refine State.modPtp_within (hF.drop (by decide)) ?_
    assumption
  assumption

theorem State.ptpApply_within {Ma Na ba : Nat} {s₀ : State} {s : State} {o : ℤ}
    (hF : Foot Ma Na ba 0x2000000000100000000000000000000000800000000001c005 0x0 (0)) (hS : Within Ma Na ba s₀ s) :
    Within Ma Na ba s₀ (State.ptpApply s o) := by
  unfold State.ptpApply
  extract_lets -merge +onlyGivenNames y0
  extract_lets -merge +onlyGivenNames y1
  refine have w2 : Within Ma Na ba s₀ y1 := ?_; ?_
  · refine State.modPtp_within (hF.drop (by decide)) ?_
    assumption
  clear_value y1
  extract_lets -merge +onlyGivenNames y3
  refine have w4 : Within Ma Na ba s₀ y3 := ?_; ?_
  · refine Within.setB .FB_TSTAT 0 0 rfl (hF.may (by decide)) ?_
    refine Within.setF .ETH_PTP_STAT 0 0 rfl (hF.may (by decide)) ?_
    assumption
  clear_value y3
  extract_lets -merge +onlyGivenNames y5
  extract_lets -merge +onlyGivenNames y6
  refine have w7 : Within Ma Na ba s₀ y6 := ?_; ?_
  · refine Within.ite ?_ ?_
    · refine Within.upd_kf (hF.any (by decide)) ?_
      assumption
    assumption
  clear_value y6
  extract_lets -merge +onlyGivenNames y8
  extract_lets -merge +onlyGivenNames y9
  refine have w10 : Within Ma Na ba s₀ y9 := ?_; ?_
  · refine State.correctTime_within (hF.drop (by decide)) ?_
    assumption
  clear_value y9
  refine Within.ite ?_ ?_
  · assumption
  refine Within.setF .FB_TSTAT 0 0 rfl (hF.may (by decide)) ?_
  assumption

theorem State.ptpFollow_within {Ma Na ba : Nat} {s₀ : State} {s : State} {m : PtpMsg}
    (hF : Foot Ma Na ba 0xa000000000100000000000000000000000800000000001c005 0x0 (0)) (hS : Within Ma Na ba s₀ s) :
    Within Ma Na ba s₀ (State.ptpFollow s m) := by
  unfold State.ptpFollow
  split
  · assumption
  refine Within.ite ?_ ?_
  · extract_lets -merge +onlyGivenNames y0
    extract_lets -merge +onlyGivenNames y1
    refine have w2 : Within Ma Na ba s₀ y1 := ?_; ?_
    · refine State.modPtp_within (hF.drop (by decide)) ?_
      assumption
    clear_value y1
    extract_lets -merge +onlyGivenNames y3
    extract_lets -merge +onlyGivenNames y4
    refine have w5 : Within Ma Na ba s₀ y4 := ?_; ?_
    · refine Within.setF .ETH_PTP_OFS 0 0 rfl (hF.may (by decide)) ?_
      assumption
    clear_value y4
    refine Within.ite ?_ ?_
    · refine State.ptpApply_within (hF.drop (by decide)) ?_
      assumption
    assumption
  assumption

theorem State.ptpDelayReq_within {Ma Na ba : Nat} {s₀ : State} {s : State}
    (hF : Foot Ma Na ba 0x210000 0x0 (0)) (hS : Within Ma Na ba s₀ s) :
    Within Ma Na ba s₀ (State.ptpDelayReq s) := by
  unfold State.ptpDelayReq
  extract_lets -merge +onlyGivenNames y0
  refine Within.ite ?_ ?_
  · extract_lets -merge +onlyGivenNames y1
    refine have w2 : Within Ma Na ba s₀ y1 := ?_; ?_
    · refine State.ethSend_within (hF.drop (by decide)) ?_
      assumption
    clear_value y1
    refine Within.used (hF.any (by decide)) ?_
    refine State.modPtp_within (hF.drop (by decide)) ?_
    assumption
  assumption

theorem State.ptpDelayResp_within {Ma Na ba : Nat} {s₀ : State} {s : State} {m : PtpMsg}
    (hF : Foot Ma Na ba 0x80000000000000000000000000000000000000000000010000 0x0 (0)) (hS : Within Ma Na ba s₀ s) :
    Within Ma Na ba s₀ (State.ptpDelayResp s m) := by
  unfold State.ptpDelayResp
  split
  · refine Within.ite ?_ ?_
    · extract_lets -merge +onlyGivenNames y0
      extract_lets -merge +onlyGivenNames y1
      refine have w2 : Within Ma Na ba s₀ y1 := ?_; ?_
      · refine State.modPtp_within (hF.drop (by decide)) ?_
        assumption
      clear_value y1
      refine Within.setF .ETH_PTP_OFS 0 0 rfl (hF.may (by decide)) ?_
      assumption
    assumption
  assumption

theorem State.ptpTimeout_within {Ma Na ba : Nat} {s₀ : State} {s : State}
    (hF : Foot Ma Na ba 0x60000000001000000000000000000000000000000000014000 0x0 (0)) (hS : Within Ma Na ba s₀ s) :
    Within Ma Na ba s₀ (State.ptpTimeout s) := by
  unfold State.ptpTimeout
  split
  · assumption
  extract_lets -merge +onlyGivenNames y0
  refine State.ptpSelect_within (hF.drop (by decide)) ?_
  refine Within.ite ?_ ?_
  · refine State.ptpUnlock_within (hF.drop (by decide)) ?_
    assumption
  assumption

theorem State.ptpRestart_within {Ma Na ba : Nat} {s₀ : State} {s : State}
    (hF : Foot Ma Na ba 0x60000000001000000000000000000000000000000000014000 0x0 (0)) (hS : Within Ma Na ba s₀ s) :
    Within Ma Na ba s₀ (State.ptpRestart s) := by
  unfold State.ptpRestart
  refine State.ptpChange_within (hF.drop (by decide)) ?_
  refine State.modPtp_within (hF.drop (by decide)) ?_
  assumption

theorem execPtpAnnounceRx_within {Ma Na ba : Nat} {s₀ : State} {t : Nat} {msg : PtpMsg} {s : State}
    (hF : Foot Ma Na ba 0x60000000001000000000000000000000000000000000014000 0x0 (0)) (hS : Within Ma Na ba s₀ (s.advance t)) :
    Ends Ma Na ba s₀ (execPtpAnnounceRx t msg s) := by
  unfold execPtpAnnounceRx
  refine Ends.mk ?_
  refine State.ptpAnnounce_within (hF.drop (by decide)) ?_
  assumption

theorem execPtpSyncRx_within {Ma Na ba : Nat} {s₀ : State} {t : Nat} {msg : PtpMsg} {s : State}
    (hF : Foot Ma Na ba 0x20000000000000000000000000000000000000000000010000 0x0 (0)) (hS : Within Ma Na ba s₀ (s.advance t)) :
    Ends Ma Na ba s₀ (execPtpSyncRx t msg s) := by
  unfold execPtpSyncRx
  refine Ends.mk ?_
  refine State.ptpSync_within (hF.drop (by decide)) ?_
  assumption

theorem execPtpFollowUpRx_within {Ma Na ba : Nat} {s₀ : State} {t : Nat} {msg : PtpMsg} {s : State}
    (hF : Foot Ma Na ba 0xa000000000100000000000000000000000800000000001c005 0x0 (0)) (hS : Within Ma Na ba s₀ (s.advance t)) :
    Ends Ma Na ba s₀ (execPtpFollowUpRx t msg s) := by
  unfold execPtpFollowUpRx
  refine Ends.mk ?_
  refine State.ptpFollow_within (hF.drop (by decide)) ?_
  assumption

theorem execPtpDelayReqSend_within {Ma Na ba : Nat} {s₀ : State} {t : Nat} {s : State}
    (hF : Foot Ma Na ba 0x210000 0x0 (0)) (hS : Within Ma Na ba s₀ (s.advance t)) :
    Ends Ma Na ba s₀ (execPtpDelayReqSend t s) := by
  unfold execPtpDelayReqSend
  refine Ends.mk ?_
  refine State.ptpDelayReq_within (hF.drop (by decide)) ?_
  assumption

theorem execPtpDelayRespRx_within {Ma Na ba : Nat} {s₀ : State} {t : Nat} {msg : PtpMsg} {s : State}
    (hF : Foot Ma Na ba 0x80000000000000000000000000000000000000000000010000 0x0 (0)) (hS : Within Ma Na ba s₀ (s.advance t)) :
    Ends Ma Na ba s₀ (execPtpDelayRespRx t msg s) := by
  unfold execPtpDelayRespRx
  refine Ends.mk ?_
  refine State.ptpDelayResp_within (hF.drop (by decide)) ?_
  assumption

theorem execPtpAnnounceTimeout_within {Ma Na ba : Nat} {s₀ : State} {t : Nat} {s : State}
    (hF : Foot Ma Na ba 0x60000000001000000000000000000000000000000000014000 0x0 (0)) (hS : Within Ma Na ba s₀ (s.advance t)) :
    Ends Ma Na ba s₀ (execPtpAnnounceTimeout t s) := by
  unfold execPtpAnnounceTimeout
  refine Ends.mk ?_
  refine State.ptpTimeout_within (hF.drop (by decide)) ?_
  assumption

end Sys2Proof.Machine
end

