-- ==== Sys2Proof/Laws/Fused.lean ====
section
/-! SUPPORT. Laws of the registers that come from fuses and one-time-programmable memory: loading them gives a canonical register file in which ID_PART and ID_DEVID hold what is fused; the state after reset is sound. -/

namespace Sys2Proof.Machine

/-- Keys strictly rising, within a range. -/
def Rising (lo hi : Nat) (l : RegFile) : Prop := l.Pairwise (fun p q => p.1 < q.1) ∧ ∀ p ∈ l, lo ≤ p.1 ∧ p.1 < hi

theorem Rising.nil (lo hi : Nat) : Rising lo hi [] := ⟨.nil, fun _ h => nomatch h⟩

theorem Rising.append {lo mid hi : Nat} {l r : RegFile} (hl : Rising lo mid l) (hr : Rising mid hi r) (h1 : lo ≤ mid) (h2 : mid ≤ hi) :
    Rising lo hi (l ++ r) := by
  refine ⟨List.pairwise_append.mpr ⟨hl.1, hr.1, fun p hp q hq => ?_⟩, fun p hp => ?_⟩
  · have := hl.2 p hp; have := hr.2 q hq; omega
  · rcases List.mem_append.mp hp with hp | hp
    · have := hl.2 p hp; omega
    · have := hr.2 p hp; omega

theorem Rising.cons {a lo hi : Nat} {v : Word} {r : RegFile} (hr : Rising lo hi r) (ha : a < lo) (hi' : lo ≤ hi) : Rising a hi ((a, v) :: r) := by
  refine ⟨List.pairwise_cons.mpr ⟨fun q hq => ?_, hr.1⟩, fun p hp => ?_⟩
  · have := hr.2 q hq; simp only; omega
  · rcases List.mem_cons.mp hp with rfl | hp
    · simp only; omega
    · have := hr.2 p hp; omega

theorem Rising.mono {lo hi lo' hi' : Nat} {l : RegFile} (h : Rising lo hi l) (h1 : lo' ≤ lo) (h2 : hi ≤ hi') : Rising lo' hi' l :=
  ⟨h.1, fun p hp => by have := h.2 p hp; omega⟩

theorem wordsAt_rising (a : Nat) (l : List Word) : Rising a (a + 8 * l.length) (wordsAt a l) := by
  induction l generalizing a with
  | nil => exact Rising.nil ..
  | cons w r ih =>
    refine Rising.cons (lo := a + 8) ((ih (a + 8)).mono (Nat.le_refl _) ?_) (by omega) ?_ <;> simp only [List.length_cons] <;> omega

theorem keyRegs_rising (l : List OtpKey) (k : Nat) (hk : k + l.length ≤ 4) (h : ∀ e ∈ l, e.hash.length = 4) :
    Rising (0x9002000 + 0x40 * k) (0x9002000 + 0x40 * (k + l.length)) (keyRegs k l) := by
  induction l generalizing k with
  | nil => exact Rising.nil ..
  | cons e r ih =>
    rw [List.length_cons] at hk ⊢
    have hr := ih (k + 1) (by omega) fun e he => h e (List.mem_cons_of_mem _ he)
    have he := h e (List.mem_cons_self ..)
    have hw := wordsAt_rising (Reg.SEC_KEY k 0) e.hash
    have h1 : Reg.SEC_KEY k 0 = 0x9002000 + 0x40 * k := by simp only [Reg.SEC_KEY]; omega
    have h2 : Reg.SEC_KEY_ST k = 0x9002020 + 0x40 * k := by simp only [Reg.SEC_KEY_ST]; omega
    rw [h1, he] at hw
    unfold keyRegs
    rw [h1, h2]
    refine Rising.append (mid := 0x9002020 + 0x40 * k) (hw.mono (by omega) (by omega)) ?_ (by omega) (by omega)
    refine Rising.cons (lo := 0x9002000 + 0x40 * (k + 1)) (hr.mono (by omega) (by omega)) (by omega) (by omega)

/-- Reading through the filter that drops defaults. -/
theorem Sparse.get_drop_defaults (d : Nat → Word) (m : RegFile) (h : m.Pairwise (fun p q => p.1 < q.1)) (k : Nat) :
    Sparse.get d (m.filter fun p => decide (p.2 ≠ d p.1)) k = Sparse.get d m k := by
  induction m with
  | nil => rfl
  | cons p r ih =>
    obtain ⟨a, v⟩ := p
    obtain ⟨h1, h2⟩ := List.pairwise_cons.mp h
    by_cases hv : v = d a
    · rw [List.filter_cons_of_neg (by simp [hv]), ih h2]
      by_cases ha : a = k
      · subst ha
        have : Sparse.look r a = none := Sparse.look_none _ _ fun q hq => by have := h1 q hq; simp only at this; omega
        simp [Sparse.get, Sparse.look, this, hv]
      · simp [Sparse.get, Sparse.look, ha]
    · rw [List.filter_cons_of_pos (by simpa using hv)]
      by_cases ha : a = k
      · simp [Sparse.get, Sparse.look, ha]
      · have := ih h2
        simp only [Sparse.get] at this
        simp only [Sparse.get, Sparse.look, if_neg ha, this]

/-- The fused registers before defaults are dropped. -/
theorem otpRegs_rising {o : Otp} (h : o.wf) :
    Rising 0 0x9003508 ((Reg.ID_PART, BitVec.ofNat 64 (0x4C53134200000100 + o.variant * 2 ^ 24)) :: (Reg.ID_DEVID, o.devid) ::
      wordsAt (Reg.CK_BAND 0) o.bands ++ [(Reg.FB_ROOT, o.devid), (Reg.ETH_MAC, BitVec.ofNat 64 o.mac)] ++ keyRegs 0 o.keys ++
      wordsAt (Reg.SEC_ID_PUB 0) o.pub ++ (Reg.SEC_ID_CERT_LEN, BitVec.ofNat 64 o.certLen) :: wordsAt (Reg.SEC_ID_CERT 0) o.cert) := by
  obtain ⟨h1, h2, h3, h4, h5⟩ := h
  have hb := wordsAt_rising (Reg.CK_BAND 0) o.bands
  have hk := keyRegs_rising o.keys 0 (by omega) h3
  have hp := wordsAt_rising (Reg.SEC_ID_PUB 0) o.pub
  have hc := wordsAt_rising (Reg.SEC_ID_CERT 0) o.cert
  rw [h1] at hb
  rw [h2] at hk
  rw [h4] at hp
  rw [h5] at hc
  have hb' : Rising 0x20400 0x6000010 (wordsAt (Reg.CK_BAND 0) o.bands) := hb.mono (by decide) (by decide)
  have hk' : Rising 0x9002000 0x9003000 (keyRegs 0 o.keys) := hk.mono (by decide) (by decide)
  have hp' : Rising 0x9003000 0x9003100 (wordsAt (Reg.SEC_ID_PUB 0) o.pub) := hp.mono (by decide) (by decide)
  have hc' : Rising 0x9003108 0x9003508 (wordsAt (Reg.SEC_ID_CERT 0) o.cert) := hc.mono (by decide) (by decide)
  have hm : Rising 0x6000010 0x9002000 [(Reg.FB_ROOT, o.devid), (Reg.ETH_MAC, BitVec.ofNat 64 o.mac)] :=
    Rising.cons (lo := 0x8000010) (Rising.cons (lo := 0x9002000) (Rising.nil ..) (by decide) (by decide)) (by decide) (by decide)
  refine Rising.append (mid := 0x9003100) (Rising.append (mid := 0x9003000) (Rising.append (mid := 0x9002000) (Rising.append (mid := 0x6000010)
    ?_ hm (by decide) (by decide)) hk' (by decide) (by decide)) hp' (by decide) (by decide)) (Rising.cons hc' (by decide) (by decide)) (by decide) (by decide)
  exact Rising.cons (lo := 8) (Rising.cons (lo := 0x20400) hb' (by decide) (by decide)) (by decide) (by decide)

theorem otpRegs_wf {o : Otp} (h : o.wf) : Sparse.wf resetWord (otpRegs o) = true := by
  rw [Sparse.wf_iff]
  refine ⟨(otpRegs_rising h).1.filter _, fun p hp => ?_⟩
  have := (List.mem_filter.mp hp).2
  simpa using this

theorem otpRegs_part {o : Otp} (h : o.wf) : Sparse.get resetWord (otpRegs o) Reg.ID_PART = BitVec.ofNat 64 (0x4C53134200000100 + o.variant * 2 ^ 24) :=
  (Sparse.get_drop_defaults resetWord _ (otpRegs_rising h).1 _).trans rfl

theorem otpRegs_devid {o : Otp} (h : o.wf) : Sparse.get resetWord (otpRegs o) Reg.ID_DEVID = o.devid :=
  (Sparse.get_drop_defaults resetWord _ (otpRegs_rising h).1 _).trans rfl

theorem Otp.factory_wf : Otp.factory.wf := by
  refine ⟨by decide, by decide, ?_, by decide, by decide⟩
  decide

end Sys2Proof.Machine
end

