-- ==== Sys2Proof/Laws/FrameBoot.lean ====
section
/-! SUPPORT. What the functions of boot, flash, keys, housekeeping, management accesses and Witrig can change: one lemma for each function and each meaning, in the relation `Within`. -/

namespace Sys2Proof.Machine

/-! ## Boot -/

theorem State.tearBlock_within {Ma Na ba : Nat} {s₀ : State} {s : State} {a : Nat} {n : Nat}
    (hF : Foot Ma Na ba 0x280000 0x0 (0)) (hS : Within Ma Na ba s₀ s) :
    Within Ma Na ba s₀ (State.tearBlock s a n) := by
  unfold State.tearBlock
  refine Within.putBlock (hF.any (by decide)) ?_
  refine Within.upd_free (hF.any (by decide)) (Nat.le_add_right _ _) ?_
  assumption

theorem State.putMark_within {Ma Na ba : Nat} {s₀ : State} {s : State} {i : Nat} {off : Nat}
    (hF : Foot Ma Na ba 0x80000 0x0 (0)) (hS : Within Ma Na ba s₀ s) :
    Within Ma Na ba s₀ (State.putMark s i off) := by
  unfold State.putMark
  refine Within.putFlash (hF.any (by decide)) ?_
  assumption

theorem State.showMarks_within {Ma Na ba : Nat} {s₀ : State} {s : State} {i : Nat}
    (hF : Foot Ma Na ba 0x0 0x8000000000000000000000000000000000000000000000000000 (i)) (hS : Within Ma Na ba s₀ s) :
    Within Ma Na ba s₀ (State.showMarks s i) := by
  unfold State.showMarks
  refine Within.setB .CFG_SLOT _ 0 rfl (hF.mayOwn (by decide)) ?_
  refine Within.setB .CFG_SLOT _ 0 rfl (hF.mayOwn (by decide)) ?_
  refine Within.setF .CFG_SLOT _ 0 rfl (hF.mayOwn (by decide)) ?_
  assumption

theorem State.checkSlot_within {Ma Na ba : Nat} {s₀ : State} {s : State} {i : Nat} {v : SlotVerdict}
    (hF : Foot Ma Na ba 0x0 0x8000000000000000000000000000000000000000000000000000 (i)) (hS : Within Ma Na ba s₀ s) :
    Within Ma Na ba s₀ (State.checkSlot s i v) := by
  unfold State.checkSlot
  extract_lets -merge +onlyGivenNames y0
  extract_lets -merge +onlyGivenNames y1
  refine have w2 : Within Ma Na ba s₀ y1 := ?_; ?_
  · refine Within.setF .CFG_SLOT _ 0 rfl (hF.mayOwn (by decide)) ?_
    refine Within.setF .CFG_SLOT _ 0 rfl (hF.mayOwn (by decide)) ?_
    assumption
  clear_value y1
  refine State.showMarks_within (hF.sub (by decide) (by decide)) ?_
  refine Within.setF .CFG_SLOT _ 0 rfl (hF.mayOwn (by decide)) ?_
  refine Within.setB .CFG_SLOT _ 0 rfl (hF.mayOwn (by decide)) ?_
  assumption

theorem State.modKey_within {Ma Na ba : Nat} {s₀ : State} {s : State} {k : Nat} {f : OtpKey → OtpKey} (hF : Foot Ma Na ba 0x40000 0x0 (0))
    (hf : ∀ e, e.hash.length = 4 → (f e).hash.length = 4)
    (hg : ∀ e, (e.programmed = true → (f e).programmed = true) ∧ (e.revoked = true → (f e).revoked = true)) (hS : Within Ma Na ba s₀ s) : Within Ma Na ba s₀ (s.modKey k f) := by
  refine Within.upd_otp (hF.any (by decide)) rfl ?_ ?_ hS
  · show keysKept s.otp.keys (modifyAt f k s.otp.keys)
    generalize s.otp.keys = l
    induction l generalizing k with
    | nil => cases k <;> exact keysKept.refl _
    | cons a r ih =>
      cases k with
      | zero =>
        intro i e he
        cases i with
        | zero => cases he; exact ⟨_, rfl, hg a⟩
        | succ i => exact ⟨e, he, id, id⟩
      | succ k =>
        intro i e he
        cases i with
        | zero => exact ⟨e, he, id, id⟩
        | succ i => exact ih i e he
  intro ⟨h1, h2, h3, h4, h5⟩
  refine ⟨h1, (length_modifyAt _ _ _).trans h2, ?_, h4, h5⟩
  have : ∀ (l : List OtpKey) (k : Nat), (∀ e ∈ l, e.hash.length = 4) → ∀ e ∈ modifyAt f k l, e.hash.length = 4 := by
    intro l
    induction l with
    | nil => intro k h; cases k <;> exact h
    | cons a r ih =>
      intro k h
      cases k with
      | zero =>
        intro e he
        rcases List.mem_cons.mp he with rfl | he
        · exact hf a (h a (List.mem_cons_self ..))
        · exact h e (List.mem_cons_of_mem _ he)
      | succ k =>
        intro e he
        rcases List.mem_cons.mp he with rfl | he
        · exact h _ (List.mem_cons_self ..)
        · exact ih k (fun e he => h e (List.mem_cons_of_mem _ he)) e he
  exact this _ _ h3

theorem State.interrupt_within {Ma Na ba : Nat} {s₀ : State} {s : State}
    (hF : Foot Ma Na ba 0x2c0000 0x0 (0)) (hS : Within Ma Na ba s₀ s) :
    Within Ma Na ba s₀ (State.interrupt s) := by
  unfold State.interrupt
  extract_lets -merge +onlyGivenNames y0
  refine have w1 : Within Ma Na ba s₀ y0 := ?_; ?_
  · dsimp -zeta only [y0]
    split
    · refine Within.ite ?_ ?_
      · refine State.tearBlock_within (hF.drop (by decide)) ?_
        assumption
      refine Within.ite ?_ ?_
      · refine State.tearBlock_within (hF.drop (by decide)) ?_
        assumption
      assumption
    assumption
  clear_value y0
  split
  · refine Within.ite ?_ ?_
    · assumption
    extract_lets -merge +onlyGivenNames y2
    refine Within.used (hF.any (by decide)) ?_
    refine State.modKey_within (hF.drop (by decide)) (fun _ he => by split; exacts [rfl, he]) (fun _ => by split; exacts [⟨fun _ => rfl, id⟩, ⟨id, id⟩]) ?_
    assumption
  assumption

theorem State.deviceReset_within {Ma Na ba : Nat} {s₀ : State} {s : State} {cause : Nat} (hF : Foot Ma Na ba 0x16fffff 0x0 (0)) (hS : Within Ma Na ba s₀ s) : Within Ma Na ba s₀ (s.deviceReset cause) := by
  have h := State.interrupt_within (hF.drop (by decide)) hS
  have any : ∀ a, Cov Ma Na ba a := fun a => by
    by_cases ha : 16 ≤ a
    · exact .inl ⟨ha, .inr (.inl (hF.any (by decide)))⟩
    · exact .inr ⟨hF.any (by decide), by omega⟩
  unfold State.deviceReset
  dsimp only
  refine Within.noteSet (Within.setReg (a := Reg.PWR_STAT) (any _) (by decide) ?_)
  refine { pending := h.pending, now := h.now, fused := h.fused, keys := h.keys, driven := h.driven, counted := h.counted, fresh := h.fresh,
           regs := fun a _ ha => absurd (any a) ha, wire := h.wire, sound := fun k0 => ?_,
           clock := fun e => (nomatch e.symm.trans (hF.any (by decide))), gw := fun e => (nomatch e.symm.trans (hF.any (by decide))), tt := fun e => (nomatch e.symm.trans (hF.any (by decide))), px := fun e => (nomatch e.symm.trans (hF.any (by decide))), cc := fun e => (nomatch e.symm.trans (hF.any (by decide))), cal := fun e => (nomatch e.symm.trans (hF.any (by decide))), hk := fun e => (nomatch e.symm.trans (hF.any (by decide))), pipe := fun e => (nomatch e.symm.trans (hF.any (by decide))), fs := fun e => (nomatch e.symm.trans (hF.any (by decide))), dram := fun e => (nomatch e.symm.trans (hF.any (by decide))), fy := fun e _ => (nomatch e.symm.trans (hF.any (by decide))), eg := fun e _ => (nomatch e.symm.trans (hF.any (by decide))), prev := fun e => (nomatch e.symm.trans (hF.any (by decide))), pio := fun e => (nomatch e.symm.trans (hF.any (by decide))), kf := fun e => (nomatch e.symm.trans (hF.any (by decide))), ck := fun e => (nomatch e.symm.trans (hF.any (by decide))), eth := fun e => (nomatch e.symm.trans (hF.any (by decide))), boot := fun e => (nomatch e.symm.trans (hF.any (by decide))), otp := fun e => (nomatch e.symm.trans (hF.any (by decide))), flash := fun e => (nomatch e.symm.trans (hF.any (by decide))), free := fun e => (nomatch e.symm.trans (hF.any (by decide))),
           bundle := fun e => (nomatch e.symm.trans (hF.any (by decide))), ferry := fun e => (nomatch e.symm.trans (hF.any (by decide))) }
  have k := h.sound k0
  exact ⟨otpRegs_wf k.otp, rfl, k.flash, k.otp, rfl, rfl, otpRegs_part k.otp, otpRegs_devid k.otp⟩

theorem State.leaveReset_within {Ma Na ba : Nat} {s₀ : State} {s : State}
    (hF : Foot Ma Na ba 0x20000 0x0 (0)) (hS : Within Ma Na ba s₀ s) :
    Within Ma Na ba s₀ (State.leaveReset s) := by
  unfold State.leaveReset
  refine Within.ite ?_ ?_
  · assumption
  refine Within.upd_boot (hF.any (by decide)) ?_
  assumption

theorem State.powerOn_within {Ma Na ba : Nat} {s₀ : State} {s : State}
    (hF : Foot Ma Na ba 0x20000 0x0 (0)) (hS : Within Ma Na ba s₀ s) :
    Within Ma Na ba s₀ (State.powerOn s) := by
  unfold State.powerOn
  refine Within.ite ?_ ?_
  · refine State.leaveReset_within (hF.drop (by decide)) ?_
    refine Within.upd_boot (hF.any (by decide)) ?_
    assumption
  assumption

theorem State.brownOut_within {Ma Na ba : Nat} {s₀ : State} {s : State}
    (hF : Foot Ma Na ba 0x16fffff 0x0 (0)) (hS : Within Ma Na ba s₀ s) :
    Within Ma Na ba s₀ (State.brownOut s) := by
  unfold State.brownOut
  refine Within.ite ?_ ?_
  · assumption
  refine State.deviceReset_within (hF.drop (by decide)) ?_
  refine Within.upd_boot (hF.any (by decide)) ?_
  assumption

theorem State.resetPin_within {Ma Na ba : Nat} {s₀ : State} {s : State} {held : Nat}
    (hF : Foot Ma Na ba 0x16fffff 0x0 (0)) (hS : Within Ma Na ba s₀ s) :
    Within Ma Na ba s₀ (State.resetPin s held) := by
  unfold State.resetPin
  refine Within.ite ?_ ?_
  · assumption
  refine Within.ite ?_ ?_
  · refine Within.ite ?_ ?_
    · refine State.deviceReset_within (hF.drop (by decide)) ?_
      refine Within.used (hF.any (by decide)) ?_
      assumption
    refine Within.used (hF.any (by decide)) ?_
    assumption
  refine State.deviceReset_within (hF.drop (by decide)) ?_
  assumption

theorem State.askReset_within {Ma Na ba : Nat} {s₀ : State} {s : State} {cause : Nat}
    (hF : Foot Ma Na ba 0x16fffff 0x0 (0)) (hS : Within Ma Na ba s₀ s) :
    Within Ma Na ba s₀ (State.askReset s cause) := by
  unfold State.askReset
  refine Within.ite ?_ ?_
  · refine Within.upd_boot (hF.any (by decide)) ?_
    assumption
  refine State.deviceReset_within (hF.drop (by decide)) ?_
  assumption

theorem State.resetIfFree_within {Ma Na ba : Nat} {s₀ : State} {s : State}
    (hF : Foot Ma Na ba 0x16fffff 0x0 (0)) (hS : Within Ma Na ba s₀ s) :
    Within Ma Na ba s₀ (State.resetIfFree s) := by
  unfold State.resetIfFree
  split
  · refine Within.ite ?_ ?_
    · assumption
    refine State.deviceReset_within (hF.drop (by decide)) ?_
    assumption
  assumption

theorem State.setStage_within {Ma Na ba : Nat} {s₀ : State} {s : State} {n : Nat}
    (hF : Foot Ma Na ba 0x4000000 0x0 (0)) (hS : Within Ma Na ba s₀ s) :
    Within Ma Na ba s₀ (State.setStage s n) := by
  unfold State.setStage
  refine Within.setF .PWR_STAT 0 0 rfl (hF.may (by decide)) ?_
  assumption

theorem State.romStage_within {Ma Na ba : Nat} {s₀ : State} {s : State}
    (hF : Foot Ma Na ba 0x2000001810160228500000000000000000000002000481c883 0x0 (0)) (hS : Within Ma Na ba s₀ s) :
    Within Ma Na ba s₀ (State.romStage s) := by
  unfold State.romStage
  refine Within.ite ?_ ?_
  · extract_lets -merge +onlyGivenNames y0
    refine have w1 : Within Ma Na ba s₀ y0 := ?_; ?_
    · refine Within.foldl ?_ ?_
      · intro t2 x3 w4
        refine State.shadowWrite_within (hF.drop (by decide)) ?_
        assumption
      assumption
    clear_value y0
    refine State.setStage_within (hF.drop (by decide)) ?_
    refine State.loopAcquire_within (hF.drop (by decide)) ?_
    refine State.loopAcquire_within (hF.drop (by decide)) ?_
    assumption
  assumption

theorem State.readSfdp_within {Ma Na ba : Nat} {s₀ : State} {s : State} {sfdpOk : Bool} {density : Nat} {mhz : Nat}
    (hF : Foot Ma Na ba 0x10000000000000000000000000000000000000000000000000000 0x0 (0)) (hS : Within Ma Na ba s₀ s) :
    Within Ma Na ba s₀ (State.readSfdp s sfdpOk density mhz) := by
  unfold State.readSfdp
  extract_lets -merge +onlyGivenNames y0
  extract_lets -merge +onlyGivenNames y1
  refine have w2 : Within Ma Na ba s₀ y1 := ?_; ?_
  · refine Within.setF .CFG_FL_INFO 0 0 rfl (hF.may (by decide)) ?_
    refine Within.setB .CFG_FL_INFO 0 0 rfl (hF.may (by decide)) ?_
    assumption
  clear_value y1
  refine Within.setF .CFG_FL_INFO 0 0 rfl (hF.may (by decide)) ?_
  refine Within.setF .CFG_FL_INFO 0 0 rfl (hF.may (by decide)) ?_
  assumption

theorem State.bootSlot_within {Ma Na ba : Nat} {s₀ : State} {s : State} {i : Nat}
    (hF : Foot Ma Na ba 0x20000000000000000000000000000000000000000000000a0000 0x8000000000000000000000000000000000000000000000000000 (i)) (hS : Within Ma Na ba s₀ s) :
    Within Ma Na ba s₀ (State.bootSlot s i) := by
  unfold State.bootSlot
  extract_lets -merge +onlyGivenNames y0
  extract_lets -merge +onlyGivenNames y1
  refine have w2 : Within Ma Na ba s₀ y1 := ?_; ?_
  · refine Within.upd_boot (hF.any (by decide)) ?_
    assumption
  clear_value y1
  extract_lets -merge +onlyGivenNames y3
  refine have w4 : Within Ma Na ba s₀ y3 := ?_; ?_
  · refine Within.setF .CFG_BOOT_STAT 0 0 rfl (hF.may (by decide)) ?_
    refine Within.setF .CFG_BOOT_STAT 0 0 rfl (hF.may (by decide)) ?_
    assumption
  clear_value y3
  refine Within.ite ?_ ?_
  · assumption
  split
  · refine State.showMarks_within (hF.sub (by decide) (by decide)) ?_
    refine State.putMark_within (hF.drop (by decide)) ?_
    assumption
  assumption

theorem State.selectImage_within {Ma Na ba : Nat} {s₀ : State} {s : State} {sfdpOk : Bool} {density : Nat} {mhz : Nat} {vs : List SlotVerdict}
    (hF : Foot Ma Na ba 0x1a0000000000000000000000000000000000000000000040a0000 0x0 (0)) (hS : Within Ma Na ba s₀ s) :
    Within Ma Na ba s₀ (State.selectImage s sfdpOk density mhz vs) := by
  unfold State.selectImage
  refine Within.ite ?_ ?_
  · extract_lets -merge +onlyGivenNames y0
    refine have w1 : Within Ma Na ba s₀ y0 := ?_; ?_
    · refine State.readSfdp_within (hF.drop (by decide)) ?_
      assumption
    clear_value y0
    extract_lets -merge +onlyGivenNames y2
    refine have w3 : Within Ma Na ba s₀ y2 := ?_; ?_
    · refine Within.ite ?_ ?_
      · refine Within.foldl ?_ ?_
        · intro t4 x5 w6
          refine State.checkSlot_within (hF.drop (by decide)) ?_
          assumption
        assumption
      assumption
    clear_value y2
    extract_lets -merge +onlyGivenNames y7
    refine have w8 : Within Ma Na ba s₀ y7 := ?_; ?_
    · dsimp -zeta only [y7]
      split
      · refine State.bootSlot_within (hF.drop (by decide)) ?_
        assumption
      refine Within.setB .CFG_BOOT_STAT 0 0 rfl (hF.may (by decide)) ?_
      assumption
    clear_value y7
    refine State.setStage_within (hF.drop (by decide)) ?_
    refine Within.upd_boot (hF.any (by decide)) ?_
    assumption
  assumption

theorem State.stagedStep_within {Ma Na ba : Nat} {s₀ : State} {s : State}
    (hF : Foot Ma Na ba 0x2000001810160228500000000000000000000002000403c8b1 0x0 (0)) (hS : Within Ma Na ba s₀ s) :
    Within Ma Na ba s₀ (State.stagedStep s) := by
  unfold State.stagedStep
  extract_lets -merge +onlyGivenNames y0
  refine Within.ite ?_ ?_
  · extract_lets -merge +onlyGivenNames y1
    extract_lets -merge +onlyGivenNames y2
    refine have w3 : Within Ma Na ba s₀ y2 := ?_; ?_
    · refine Within.upd_boot (hF.any (by decide)) ?_
      assumption
    clear_value y2
    refine Within.ite ?_ ?_
    · refine Within.upd_clock_boot (hF.any (by decide)) (hF.any (by decide)) rfl ?_
      assumption
    refine Within.ite ?_ ?_
    · extract_lets -merge +onlyGivenNames y4
      extract_lets -merge +onlyGivenNames y5
      refine have w6 : Within Ma Na ba s₀ y5 := ?_; ?_
      · refine Within.ite ?_ ?_
        · refine Within.upd_cc (hF.any (by decide)) ?_
          assumption
        assumption
      clear_value y5
      refine State.restartBands_within (hF.drop (by decide)) ?_
      assumption
    refine Within.ite ?_ ?_
    · refine State.loopAcquire_within (hF.drop (by decide)) ?_
      assumption
    refine Within.ite ?_ ?_
    · refine State.setStage_within (hF.drop (by decide)) ?_
      assumption
    assumption
  assumption

theorem State.releasePorts_within {Ma Na ba : Nat} {s₀ : State} {s : State}
    (hF : Foot Ma Na ba 0x20000018501602a85000000000000000000000000000034800 0x0 (0)) (hS : Within Ma Na ba s₀ s) :
    Within Ma Na ba s₀ (State.releasePorts s) := by
  unfold State.releasePorts
  extract_lets -merge +onlyGivenNames y0
  refine Within.ite ?_ ?_
  · extract_lets -merge +onlyGivenNames y1
    extract_lets -merge +onlyGivenNames y2
    refine have w3 : Within Ma Na ba s₀ y2 := ?_; ?_
    · refine Within.upd_boot (hF.any (by decide)) ?_
      assumption
    clear_value y2
    refine Within.ite ?_ ?_
    · refine State.laneFollow_within (hF.drop (by decide)) ?_
      assumption
    refine Within.foldl ?_ ?_
    · intro t4 x5 w6
      refine State.portFollow_within (hF.drop (by decide)) ?_
      assumption
    assumption
  assumption

theorem State.confirmBoot_within {Ma Na ba : Nat} {s₀ : State} {s : State}
    (hF : Foot Ma Na ba 0xa000000000000000000000000000000000000000000000080000 0x0 (0)) (hS : Within Ma Na ba s₀ s) :
    Within Ma Na ba s₀ (State.confirmBoot s) := by
  unfold State.confirmBoot
  split
  · refine Within.setB .CFG_BOOT_STAT 0 0 rfl (hF.may (by decide)) ?_
    refine State.showMarks_within (hF.drop (by decide)) ?_
    refine State.putMark_within (hF.drop (by decide)) ?_
    assumption
  assumption

theorem State.confirm_within {Ma Na ba : Nat} {s₀ : State} {s : State}
    (hF : Foot Ma Na ba 0xa000000000000000000000000000000000000000000000080000 0x0 (0)) (hS : Within Ma Na ba s₀ s) :
    Within Ma Na ba s₀ (State.confirm s) := by
  unfold State.confirm
  refine Within.ite ?_ ?_
  · refine State.confirmBoot_within (hF.drop (by decide)) ?_
    assumption
  assumption

theorem State.confirmTimeout_within {Ma Na ba : Nat} {s₀ : State} {s : State}
    (hF : Foot Ma Na ba 0x16fffff 0x0 (0)) (hS : Within Ma Na ba s₀ s) :
    Within Ma Na ba s₀ (State.confirmTimeout s) := by
  unfold State.confirmTimeout
  refine Within.ite ?_ ?_
  · refine State.deviceReset_within (hF.drop (by decide)) ?_
    assumption
  assumption

theorem State.rollback_within {Ma Na ba : Nat} {s₀ : State} {s : State}
    (hF : Foot Ma Na ba 0xa0000000000000000000000000000000000000000000016fffff 0x0 (0)) (hS : Within Ma Na ba s₀ s) :
    Within Ma Na ba s₀ (State.rollback s) := by
  unfold State.rollback
  split
  · refine Within.ite ?_ ?_
    · refine State.askReset_within (hF.drop (by decide)) ?_
      refine State.showMarks_within (hF.drop (by decide)) ?_
      refine State.putMark_within (hF.drop (by decide)) ?_
      assumption
    refine Within.setB .CFG_BOOT_STAT 0 0 rfl (hF.may (by decide)) ?_
    assumption
  refine Within.setB .CFG_BOOT_STAT 0 0 rfl (hF.may (by decide)) ?_
  assumption

theorem State.flashErr_within {Ma Na ba : Nat} {s₀ : State} {s : State} {e : Nat}
    (hF : Foot Ma Na ba 0x80000000000000000000000000000000000000000000000000000 0x0 (0)) (hS : Within Ma Na ba s₀ s) :
    Within Ma Na ba s₀ (State.flashErr s e) := by
  unfold State.flashErr
  extract_lets -merge +onlyGivenNames y0
  refine have w1 : Within Ma Na ba s₀ y0 := ?_; ?_
  · refine Within.setF .CFG_FL_STAT 0 0 rfl (hF.may (by decide)) ?_
    assumption
  clear_value y0
  refine Within.ite ?_ ?_
  · assumption
  refine Within.setB .CFG_FL_STAT 0 0 rfl (hF.may (by decide)) ?_
  assumption

theorem State.startFlash_within {Ma Na ba : Nat} {s₀ : State} {s : State} {f : FlashOp}
    (hF : Foot Ma Na ba 0x80000000000000000000000000000000000000000000000020000 0x0 (0)) (hS : Within Ma Na ba s₀ s) :
    Within Ma Na ba s₀ (State.startFlash s f) := by
  unfold State.startFlash
  refine Within.setB .CFG_FL_STAT 0 0 rfl (hF.may (by decide)) ?_
  refine Within.upd_boot (hF.any (by decide)) ?_
  assumption

theorem State.flashCommand_within {Ma Na ba : Nat} {s₀ : State} {s : State} {op : Nat} {size : Nat}
    (hF : Foot Ma Na ba 0x88000000000000000000000000000000000000000000000020000 0x0 (0)) (hS : Within Ma Na ba s₀ s) :
    Within Ma Na ba s₀ (State.flashCommand s op size) := by
  unfold State.flashCommand
  extract_lets -merge +onlyGivenNames y0
  extract_lets -merge +onlyGivenNames y1
  split
  · extract_lets -merge +onlyGivenNames y2
    extract_lets -merge +onlyGivenNames y3
    refine have w4 : Within Ma Na ba s₀ y3 := ?_; ?_
    · refine Within.ite ?_ ?_
      · refine Within.setB .CFG_SLOT _ 0 rfl (hF.may (by decide)) ?_
        assumption
      assumption
    clear_value y3
    refine State.startFlash_within (hF.drop (by decide)) ?_
    assumption
  refine State.flashErr_within (hF.drop (by decide)) ?_
  assumption

theorem State.flashCheck_within {Ma Na ba : Nat} {s₀ : State} {s : State} {i : Nat} {v : SlotVerdict}
    (hF : Foot Ma Na ba 0x80000000000000000000000000000000000000000000000020000 0x0 (0)) (hS : Within Ma Na ba s₀ s) :
    Within Ma Na ba s₀ (State.flashCheck s i v) := by
  unfold State.flashCheck
  refine Within.ite ?_ ?_
  · refine State.flashErr_within (hF.drop (by decide)) ?_
    assumption
  refine State.startFlash_within (hF.drop (by decide)) ?_
  assumption

theorem State.flashEffect_within {Ma Na ba : Nat} {s₀ : State} {s : State} {f : FlashOp}
    (hF : Foot Ma Na ba 0x108000000000000000000000000000000000000000000000080000 0x0 (0)) (hS : Within Ma Na ba s₀ s) :
    Within Ma Na ba s₀ (State.flashEffect s f) := by
  unfold State.flashEffect
  split
  · refine Within.putBlock (hF.any (by decide)) ?_
    assumption
  · refine Within.putBlock (hF.any (by decide)) ?_
    assumption
  · refine Within.block_CFG_FL_BUF (hF.any (by decide)) (Nat.le_of_eq (bytesWords_length _ _)) ?_
    assumption
  refine State.checkSlot_within (hF.drop (by decide)) ?_
  assumption

theorem State.flashFailure_within {Ma Na ba : Nat} {s₀ : State} {s : State} {f : FlashOp}
    (hF : Foot Ma Na ba 0x100000000000000000000000000000000000000000000000280000 0x0 (0)) (hS : Within Ma Na ba s₀ s) :
    Within Ma Na ba s₀ (State.flashFailure s f) := by
  unfold State.flashFailure
  split
  · refine State.tearBlock_within (hF.drop (by decide)) ?_
    assumption
  · refine State.tearBlock_within (hF.drop (by decide)) ?_
    assumption
  · refine Within.block_CFG_FL_BUF (hF.any (by decide)) (by rw [List.length_map, List.length_range]) ?_
    refine Within.upd_free (hF.any (by decide)) (Nat.le_add_right _ _) ?_
    assumption
  assumption

theorem State.flashDone_within {Ma Na ba : Nat} {s₀ : State} {s : State} {failed : Bool}
    (hF : Foot Ma Na ba 0x1880000000000000000000000000000000000000000000016fffff 0x0 (0)) (hS : Within Ma Na ba s₀ s) :
    Within Ma Na ba s₀ (State.flashDone s failed) := by
  unfold State.flashDone
  split
  · assumption
  extract_lets -merge +onlyGivenNames y0
  refine have w1 : Within Ma Na ba s₀ y0 := ?_; ?_
  · refine Within.ite ?_ ?_
    · refine State.flashErr_within (hF.drop (by decide)) ?_
      refine State.flashFailure_within (hF.drop (by decide)) ?_
      assumption
    refine State.flashErr_within (hF.drop (by decide)) ?_
    refine State.flashEffect_within (hF.drop (by decide)) ?_
    assumption
  clear_value y0
  extract_lets -merge +onlyGivenNames y2
  refine have w3 : Within Ma Na ba s₀ y2 := ?_; ?_
  · refine Within.foldl ?_ ?_
    · intro t4 x5 w6
      refine Within.reg .CFG_FL_BUF _ 0 rfl (hF.may (by decide)) ?_
      assumption
    refine Within.setB .CFG_FL_STAT 0 0 rfl (hF.may (by decide)) ?_
    assumption
  clear_value y2
  refine State.resetIfFree_within (hF.drop (by decide)) ?_
  refine Within.upd_boot (hF.any (by decide)) ?_
  assumption

theorem State.bufWrite_within {Ma Na ba : Nat} {s₀ : State} {s : State} {i : Nat} {v : Word}
    (hF : Foot Ma Na ba 0x20000 0x100000000000000000000000000000000000000000000000000000 (i)) (hS : Within Ma Na ba s₀ s) :
    Within Ma Na ba s₀ (State.bufWrite s i v) := by
  unfold State.bufWrite
  refine Within.ite ?_ ?_
  · refine Within.upd_boot (hF.any (by decide)) ?_
    assumption
  refine Within.reg .CFG_FL_BUF _ 0 rfl (hF.mayOwn (by decide)) ?_
  assumption

theorem State.startOtp_within {Ma Na ba : Nat} {s₀ : State} {s : State} {k : Nat} {h : List Word}
    (hF : Foot Ma Na ba 0x2000000000000000000000000000000000000000000000000020000 0x0 (0)) (hS : Within Ma Na ba s₀ s) :
    Within Ma Na ba s₀ (State.startOtp s k h) := by
  unfold State.startOtp
  refine Within.setB .SEC_KEY_STAT 0 0 rfl (hF.may (by decide)) ?_
  refine Within.upd_boot (hF.any (by decide)) ?_
  assumption

theorem State.keyAdd_within {Ma Na ba : Nat} {s₀ : State} {s : State}
    (hF : Foot Ma Na ba 0x2000000000000000000000000000000000000000000000000020000 0x0 (0)) (hS : Within Ma Na ba s₀ s) :
    Within Ma Na ba s₀ (State.keyAdd s) := by
  unfold State.keyAdd
  refine Within.ite ?_ ?_
  · assumption
  split
  · refine State.startOtp_within (hF.drop (by decide)) ?_
    assumption
  refine Within.setB .SEC_KEY_STAT 0 0 rfl (hF.may (by decide)) ?_
  assumption

theorem State.closeSession_within {Ma Na ba : Nat} {s₀ : State} {s : State} {i : Nat}
    (hF : Foot Ma Na ba 0x20000 0x60000000000000000000000000000000000000000000000000000000 (i)) (hS : Within Ma Na ba s₀ s) :
    Within Ma Na ba s₀ (State.closeSession s i) := by
  unfold State.closeSession
  extract_lets -merge +onlyGivenNames y0
  refine have w1 : Within Ma Na ba s₀ y0 := ?_; ?_
  · refine Within.reg .SEC_SESS_CTR _ 0 rfl (hF.mayOwn (by decide)) ?_
    refine Within.reg .SEC_SESS _ 0 rfl (hF.mayOwn (by decide)) ?_
    assumption
  clear_value y0
  refine Within.upd_boot (hF.any (by decide)) ?_
  assumption

theorem State.closeKey_within {Ma Na ba : Nat} {s₀ : State} {s : State} {k : Nat}
    (hF : Foot Ma Na ba 0x60000000000000000000000000000000000000000000000000020000 0x0 (0)) (hS : Within Ma Na ba s₀ s) :
    Within Ma Na ba s₀ (State.closeKey s k) := by
  unfold State.closeKey
  refine Within.foldl ?_ ?_
  · intro t0 x1 w2
    refine Within.ite ?_ ?_
    · refine State.closeSession_within (hF.drop (by decide)) ?_
      assumption
    assumption
  assumption

theorem State.keyRevoke_within {Ma Na ba : Nat} {s₀ : State} {s : State} {k : Nat}
    (hF : Foot Ma Na ba 0x62000000000000000000000000000000000000000000000000060000 0x400000000000000000000000000000000000000000000000000000 (k)) (hS : Within Ma Na ba s₀ s) :
    Within Ma Na ba s₀ (State.keyRevoke s k) := by
  unfold State.keyRevoke
  refine Within.ite ?_ ?_
  · assumption
  extract_lets -merge +onlyGivenNames y0
  refine Within.ite ?_ ?_
  · refine Within.setB .SEC_KEY_STAT 0 0 rfl (hF.may (by decide)) ?_
    assumption
  extract_lets -merge +onlyGivenNames y1
  refine have w2 : Within Ma Na ba s₀ y1 := ?_; ?_
  · refine State.modKey_within (hF.drop (by decide)) (fun _ he => he) (fun _ => ⟨id, fun _ => rfl⟩) ?_
    assumption
  clear_value y1
  refine State.startOtp_within (hF.drop (by decide)) ?_
  refine State.closeKey_within (hF.drop (by decide)) ?_
  refine Within.setB .SEC_KEY_ST _ 0 rfl (hF.mayOwn (by decide)) ?_
  assumption

theorem State.otpDone_within {Ma Na ba : Nat} {s₀ : State} {s : State}
    (hF : Foot Ma Na ba 0x26000000000000000000000000000000000000000000000016fffff 0x0 (0)) (hS : Within Ma Na ba s₀ s) :
    Within Ma Na ba s₀ (State.otpDone s) := by
  unfold State.otpDone
  split
  · assumption
  extract_lets -merge +onlyGivenNames y0
  refine have w1 : Within Ma Na ba s₀ y0 := ?_; ?_
  · refine State.modKey_within (hF.drop (by decide)) (fun _ _ => rfl) (fun _ => ⟨fun _ => rfl, id⟩) ?_
    assumption
  clear_value y0
  extract_lets -merge +onlyGivenNames y2
  refine have w3 : Within Ma Na ba s₀ y2 := ?_; ?_
  · refine Within.ite ?_ ?_
    · assumption
    refine Within.setB .SEC_KEY_ST _ 0 rfl (hF.may (by decide)) ?_
    refine Within.block_SEC_KEY (hF.may (by decide)) (Nat.le_refl 4) ?_
    assumption
  clear_value y2
  extract_lets -merge +onlyGivenNames y4
  refine have w5 : Within Ma Na ba s₀ y4 := ?_; ?_
  · refine Within.setB .SEC_KEY_STAT 0 0 rfl (hF.may (by decide)) ?_
    assumption
  clear_value y4
  refine State.resetIfFree_within (hF.drop (by decide)) ?_
  refine Within.upd_boot (hF.any (by decide)) ?_
  assumption

theorem State.tapSelect_within {Ma Na ba : Nat} {s₀ : State} {s : State} {ir : Nat} {data : List Bool}
    (hF : Foot Ma Na ba 0x120000 0x0 (0)) (hS : Within Ma Na ba s₀ s) :
    Within Ma Na ba s₀ (State.tapSelect s ir data) := by
  unfold State.tapSelect
  refine State.leaveReset_within (hF.drop (by decide)) ?_
  refine Within.emit (hF.any (by decide)) ?_
  refine Within.upd_boot (hF.any (by decide)) ?_
  assumption

theorem State.tapHold_within {Ma Na ba : Nat} {s₀ : State} {s : State} {ir : Nat} {resetLow : Bool}
    (hF : Foot Ma Na ba 0x120000 0x0 (0)) (hS : Within Ma Na ba s₀ s) :
    Within Ma Na ba s₀ (State.tapHold s ir resetLow) := by
  unfold State.tapHold
  refine Within.ite ?_ ?_
  · refine Within.emit (hF.any (by decide)) ?_
    refine Within.upd_boot (hF.any (by decide)) ?_
    assumption
  refine State.tapSelect_within (hF.drop (by decide)) ?_
  assumption

theorem execPowerOn_within {Ma Na ba : Nat} {s₀ : State} {t : Nat} {s : State}
    (hF : Foot Ma Na ba 0x20000 0x0 (0)) (hS : Within Ma Na ba s₀ (s.advance t)) :
    Ends Ma Na ba s₀ (execPowerOn t s) := by
  unfold execPowerOn
  refine Ends.mk ?_
  refine State.powerOn_within (hF.drop (by decide)) ?_
  assumption

theorem execBrownOut_within {Ma Na ba : Nat} {s₀ : State} {t : Nat} {s : State}
    (hF : Foot Ma Na ba 0x16fffff 0x0 (0)) (hS : Within Ma Na ba s₀ (s.advance t)) :
    Ends Ma Na ba s₀ (execBrownOut t s) := by
  unfold execBrownOut
  refine Ends.mk ?_
  refine State.brownOut_within (hF.drop (by decide)) ?_
  assumption

theorem execResetNLow_within {Ma Na ba : Nat} {s₀ : State} {t : Nat} {held : Nat} {s : State}
    (hF : Foot Ma Na ba 0x16fffff 0x0 (0)) (hS : Within Ma Na ba s₀ (s.advance t)) :
    Ends Ma Na ba s₀ (execResetNLow t held s) := by
  unfold execResetNLow
  refine Ends.mk ?_
  refine State.resetPin_within (hF.drop (by decide)) ?_
  assumption

theorem execWatchdogTimeout_within {Ma Na ba : Nat} {s₀ : State} {t : Nat} {s : State}
    (hF : Foot Ma Na ba 0x16fffff 0x0 (0)) (hS : Within Ma Na ba s₀ (s.advance t)) :
    Ends Ma Na ba s₀ (execWatchdogTimeout t s) := by
  unfold execWatchdogTimeout
  refine Ends.mk ?_
  refine State.deviceReset_within (hF.drop (by decide)) ?_
  assumption

theorem execRomStage_within {Ma Na ba : Nat} {s₀ : State} {t : Nat} {s : State}
    (hF : Foot Ma Na ba 0x2000001810160228500000000000000000000002000481c883 0x0 (0)) (hS : Within Ma Na ba s₀ (s.advance t)) :
    Ends Ma Na ba s₀ (execRomStage t s) := by
  unfold execRomStage
  refine Ends.mk ?_
  refine State.romStage_within (hF.drop (by decide)) ?_
  assumption

theorem execImageSelection_within {Ma Na ba : Nat} {s₀ : State} {t : Nat} {sfdpOk : Bool} {density : Nat} {mhz : Nat} {verdicts : List SlotVerdict} {s : State}
    (hF : Foot Ma Na ba 0x1a0000000000000000000000000000000000000000000040a0000 0x0 (0)) (hS : Within Ma Na ba s₀ (s.advance t)) :
    Ends Ma Na ba s₀ (execImageSelection t sfdpOk density mhz verdicts s) := by
  unfold execImageSelection
  refine Ends.mk ?_
  refine State.selectImage_within (hF.drop (by decide)) ?_
  assumption

theorem execStagedStartEvent_within {Ma Na ba : Nat} {s₀ : State} {t : Nat} {s : State}
    (hF : Foot Ma Na ba 0x2000001810160228500000000000000000000002000403c8b1 0x0 (0)) (hS : Within Ma Na ba s₀ (s.advance t)) :
    Ends Ma Na ba s₀ (execStagedStartEvent t s) := by
  unfold execStagedStartEvent
  refine Ends.mk ?_
  refine State.stagedStep_within (hF.drop (by decide)) ?_
  assumption

theorem execPortRelease_within {Ma Na ba : Nat} {s₀ : State} {t : Nat} {s : State}
    (hF : Foot Ma Na ba 0x20000018501602a85000000000000000000000000000034800 0x0 (0)) (hS : Within Ma Na ba s₀ (s.advance t)) :
    Ends Ma Na ba s₀ (execPortRelease t s) := by
  unfold execPortRelease
  refine Ends.mk ?_
  refine State.releasePorts_within (hF.drop (by decide)) ?_
  assumption

theorem execResetCmd_within {Ma Na ba : Nat} {s₀ : State} {t : Nat} {src : Src} {s : State}
    (hF : Foot Ma Na ba 0x16fffff 0x0 (0)) (hS : Within Ma Na ba s₀ (s.advance t)) :
    Ends Ma Na ba s₀ (execResetCmd t src s) := by
  unfold execResetCmd
  refine Ends.mk ?_
  refine State.managed_within (hF.drop (by decide)) ?_ ?_
  · intro t0 w1
    refine State.askReset_within (hF.drop (by decide)) ?_
    assumption
  assumption

theorem execRollback_within {Ma Na ba : Nat} {s₀ : State} {t : Nat} {src : Src} {s : State}
    (hF : Foot Ma Na ba 0xa0000000000000000000000000000000000000000000016fffff 0x0 (0)) (hS : Within Ma Na ba s₀ (s.advance t)) :
    Ends Ma Na ba s₀ (execRollback t src s) := by
  unfold execRollback
  refine Ends.mk ?_
  refine State.managed_within (hF.drop (by decide)) ?_ ?_
  · intro t0 w1
    refine State.rollback_within (hF.drop (by decide)) ?_
    assumption
  assumption

theorem execConfirm_within {Ma Na ba : Nat} {s₀ : State} {t : Nat} {src : Src} {s : State}
    (hF : Foot Ma Na ba 0xa000000000000000000000000000000000000000000000080000 0x0 (0)) (hS : Within Ma Na ba s₀ (s.advance t)) :
    Ends Ma Na ba s₀ (execConfirm t src s) := by
  unfold execConfirm
  refine Ends.mk ?_
  refine State.managed_within (hF.drop (by decide)) ?_ ?_
  · intro t0 w1
    refine State.confirm_within (hF.drop (by decide)) ?_
    assumption
  assumption

theorem execConfirmTimeout_within {Ma Na ba : Nat} {s₀ : State} {t : Nat} {s : State}
    (hF : Foot Ma Na ba 0x16fffff 0x0 (0)) (hS : Within Ma Na ba s₀ (s.advance t)) :
    Ends Ma Na ba s₀ (execConfirmTimeout t s) := by
  unfold execConfirmTimeout
  refine Ends.mk ?_
  refine State.confirmTimeout_within (hF.drop (by decide)) ?_
  assumption

theorem execThermalRecoveryBoot_within {Ma Na ba : Nat} {s₀ : State} {t : Nat} {s : State}
    (hF : Foot Ma Na ba 0x20000 0x0 (0)) (hS : Within Ma Na ba s₀ (s.advance t)) :
    Ends Ma Na ba s₀ (execThermalRecoveryBoot t s) := by
  unfold execThermalRecoveryBoot
  extract_lets -merge +onlyGivenNames y0
  refine have w1 : Within Ma Na ba s₀ y0 := ?_; ?_
  · exact hS
  clear_value y0
  refine Ends.mk ?_
  refine Within.ite ?_ ?_
  · refine Within.upd_boot (hF.any (by decide)) ?_
    assumption
  assumption

theorem execFlashErase_within {Ma Na ba : Nat} {s₀ : State} {t : Nat} {src : Src} {s : State}
    (hF : Foot Ma Na ba 0x88000000000000000000000000000000000000000000000020000 0x0 (0)) (hS : Within Ma Na ba s₀ (s.advance t)) :
    Ends Ma Na ba s₀ (execFlashErase t src s) := by
  unfold execFlashErase
  refine Ends.mk ?_
  refine State.managed_within (hF.drop (by decide)) ?_ ?_
  · intro t0 w1
    refine State.flashCommand_within (hF.drop (by decide)) ?_
    assumption
  assumption

theorem execFlashProgram_within {Ma Na ba : Nat} {s₀ : State} {t : Nat} {src : Src} {s : State}
    (hF : Foot Ma Na ba 0x88000000000000000000000000000000000000000000000020000 0x0 (0)) (hS : Within Ma Na ba s₀ (s.advance t)) :
    Ends Ma Na ba s₀ (execFlashProgram t src s) := by
  unfold execFlashProgram
  refine Ends.mk ?_
  refine State.managed_within (hF.drop (by decide)) ?_ ?_
  · intro t0 w1
    refine State.flashCommand_within (hF.drop (by decide)) ?_
    assumption
  assumption

theorem execFlashRead_within {Ma Na ba : Nat} {s₀ : State} {t : Nat} {src : Src} {s : State}
    (hF : Foot Ma Na ba 0x88000000000000000000000000000000000000000000000020000 0x0 (0)) (hS : Within Ma Na ba s₀ (s.advance t)) :
    Ends Ma Na ba s₀ (execFlashRead t src s) := by
  unfold execFlashRead
  refine Ends.mk ?_
  refine State.managed_within (hF.drop (by decide)) ?_ ?_
  · intro t0 w1
    refine State.flashCommand_within (hF.drop (by decide)) ?_
    assumption
  assumption

theorem execFlashCheck_within {Ma Na ba : Nat} {s₀ : State} {t : Nat} {src : Src} {slot : Fin 4} {verdict : SlotVerdict} {s : State}
    (hF : Foot Ma Na ba 0x80000000000000000000000000000000000000000000000020000 0x0 (0)) (hS : Within Ma Na ba s₀ (s.advance t)) :
    Ends Ma Na ba s₀ (execFlashCheck t src slot verdict s) := by
  unfold execFlashCheck
  refine Ends.mk ?_
  refine State.managed_within (hF.drop (by decide)) ?_ ?_
  · intro t0 w1
    refine State.flashCheck_within (hF.drop (by decide)) ?_
    assumption
  assumption

theorem execFlashCommandDone_within {Ma Na ba : Nat} {s₀ : State} {t : Nat} {failed : Bool} {s : State}
    (hF : Foot Ma Na ba 0x1880000000000000000000000000000000000000000000016fffff 0x0 (0)) (hS : Within Ma Na ba s₀ (s.advance t)) :
    Ends Ma Na ba s₀ (execFlashCommandDone t failed s) := by
  unfold execFlashCommandDone
  refine Ends.mk ?_
  refine State.flashDone_within (hF.drop (by decide)) ?_
  assumption

theorem execKeyAdd_within {Ma Na ba : Nat} {s₀ : State} {t : Nat} {src : Src} {s : State}
    (hF : Foot Ma Na ba 0x2000000000000000000000000000000000000000000000000020000 0x0 (0)) (hS : Within Ma Na ba s₀ (s.advance t)) :
    Ends Ma Na ba s₀ (execKeyAdd t src s) := by
  unfold execKeyAdd
  refine Ends.mk ?_
  refine State.managed_within (hF.drop (by decide)) ?_ ?_
  · intro t0 w1
    refine State.keyAdd_within (hF.drop (by decide)) ?_
    assumption
  assumption

theorem execKeyRevoke_within {Ma Na ba : Nat} {s₀ : State} {t : Nat} {src : Src} {entry : Fin 4} {s : State}
    (hF : Foot Ma Na ba 0x62000000000000000000000000000000000000000000000000060000 0x400000000000000000000000000000000000000000000000000000 (entry.val)) (hS : Within Ma Na ba s₀ (s.advance t)) :
    Ends Ma Na ba s₀ (execKeyRevoke t src entry s) := by
  unfold execKeyRevoke
  refine Ends.mk ?_
  refine State.managed_within (hF.drop (by decide)) ?_ ?_
  · intro t0 w1
    refine State.keyRevoke_within (hF.sub (by decide) (by decide)) ?_
    assumption
  assumption

theorem execOtpProgramDone_within {Ma Na ba : Nat} {s₀ : State} {t : Nat} {s : State}
    (hF : Foot Ma Na ba 0x26000000000000000000000000000000000000000000000016fffff 0x0 (0)) (hS : Within Ma Na ba s₀ (s.advance t)) :
    Ends Ma Na ba s₀ (execOtpProgramDone t s) := by
  unfold execOtpProgramDone
  refine Ends.mk ?_
  refine State.otpDone_within (hF.drop (by decide)) ?_
  assumption

theorem execExtest_within {Ma Na ba : Nat} {s₀ : State} {t : Nat} {resetLow : Bool} {s : State}
    (hF : Foot Ma Na ba 0x120000 0x0 (0)) (hS : Within Ma Na ba s₀ (s.advance t)) :
    Ends Ma Na ba s₀ (execExtest t resetLow s) := by
  unfold execExtest
  refine Ends.mk ?_
  refine State.tapHold_within (hF.drop (by decide)) ?_
  assumption

theorem execIdcode_within {Ma Na ba : Nat} {s₀ : State} {t : Nat} {s : State}
    (hF : Foot Ma Na ba 0x120000 0x0 (0)) (hS : Within Ma Na ba s₀ (s.advance t)) :
    Ends Ma Na ba s₀ (execIdcode t s) := by
  unfold execIdcode
  refine Ends.mk ?_
  refine State.tapSelect_within (hF.drop (by decide)) ?_
  assumption

theorem execSamplePreload_within {Ma Na ba : Nat} {s₀ : State} {t : Nat} {bsr : List Bool} {s : State}
    (hF : Foot Ma Na ba 0x120000 0x0 (0)) (hS : Within Ma Na ba s₀ (s.advance t)) :
    Ends Ma Na ba s₀ (execSamplePreload t bsr s) := by
  unfold execSamplePreload
  extract_lets -merge +onlyGivenNames y0
  refine have w1 : Within Ma Na ba s₀ y0 := ?_; ?_
  · exact hS
  clear_value y0
  refine Ends.mk ?_
  refine State.tapSelect_within (hF.drop (by decide)) ?_
  refine Within.upd_boot (hF.any (by decide)) ?_
  assumption

theorem execClamp_within {Ma Na ba : Nat} {s₀ : State} {t : Nat} {resetLow : Bool} {s : State}
    (hF : Foot Ma Na ba 0x120000 0x0 (0)) (hS : Within Ma Na ba s₀ (s.advance t)) :
    Ends Ma Na ba s₀ (execClamp t resetLow s) := by
  unfold execClamp
  refine Ends.mk ?_
  refine State.tapHold_within (hF.drop (by decide)) ?_
  assumption

theorem execHighz_within {Ma Na ba : Nat} {s₀ : State} {t : Nat} {resetLow : Bool} {s : State}
    (hF : Foot Ma Na ba 0x120000 0x0 (0)) (hS : Within Ma Na ba s₀ (s.advance t)) :
    Ends Ma Na ba s₀ (execHighz t resetLow s) := by
  unfold execHighz
  refine Ends.mk ?_
  refine State.tapHold_within (hF.drop (by decide)) ?_
  assumption

theorem execBypass_within {Ma Na ba : Nat} {s₀ : State} {t : Nat} {s : State}
    (hF : Foot Ma Na ba 0x120000 0x0 (0)) (hS : Within Ma Na ba s₀ (s.advance t)) :
    Ends Ma Na ba s₀ (execBypass t s) := by
  unfold execBypass
  refine Ends.mk ?_
  refine State.tapSelect_within (hF.drop (by decide)) ?_
  assumption

theorem execTestLogicReset_within {Ma Na ba : Nat} {s₀ : State} {t : Nat} {s : State}
    (hF : Foot Ma Na ba 0x120000 0x0 (0)) (hS : Within Ma Na ba s₀ (s.advance t)) :
    Ends Ma Na ba s₀ (execTestLogicReset t s) := by
  unfold execTestLogicReset
  refine Ends.mk ?_
  refine State.tapSelect_within (hF.drop (by decide)) ?_
  assumption

/-! ## Housekeeping -/

theorem State.modHk_within {Ma Na ba : Nat} {s₀ : State} {s : State} {f : Housekeeping → Housekeeping}
    (hF : Foot Ma Na ba 0x40 0x0 (0)) (hS : Within Ma Na ba s₀ s) :
    Within Ma Na ba s₀ (State.modHk s f) := by
  unfold State.modHk
  refine Within.upd_hk (hF.any (by decide)) ?_
  assumption

theorem State.hkPass_within {Ma Na ba : Nat} {s₀ : State} {s : State} {x : Nat}
    (hF : Foot Ma Na ba 0x40 0x0 (0)) (hS : Within Ma Na ba s₀ s) :
    Within Ma Na ba s₀ (State.hkPass s x) := by
  unfold State.hkPass
  refine State.modHk_within (hF.drop (by decide)) ?_
  assumption

theorem State.hkSettings_within {Ma Na ba : Nat} {s₀ : State} {s : State}
    (hF : Foot Ma Na ba 0x40 0x0 (0)) (hS : Within Ma Na ba s₀ s) :
    Within Ma Na ba s₀ (State.hkSettings s) := by
  unfold State.hkSettings
  refine Within.ite ?_ ?_
  · refine State.hkPass_within (hF.drop (by decide)) ?_
    assumption
  assumption

theorem State.supervise_within {Ma Na ba : Nat} {s₀ : State} {s : State} {c : Nat} {v : Nat}
    (hF : Foot Ma Na ba 0x56fffff 0x0 (0)) (hS : Within Ma Na ba s₀ s) :
    Within Ma Na ba s₀ (State.supervise s c v) := by
  unfold State.supervise
  extract_lets -merge +onlyGivenNames y0
  extract_lets -merge +onlyGivenNames y1
  refine have w2 : Within Ma Na ba s₀ y1 := ?_; ?_
  · refine Within.ite ?_ ?_
    · refine Within.setBit .PWR_STAT 0 0 rfl (hF.may (by decide)) ?_
      assumption
    refine Within.clrBit .PWR_STAT 0 0 rfl (hF.may (by decide)) ?_
    assumption
  clear_value y1
  extract_lets -merge +onlyGivenNames y3
  refine have w4 : Within Ma Na ba s₀ y3 := ?_; ?_
  · refine Within.ite ?_ ?_
    · refine Within.setBit .PWR_STAT 0 0 rfl (hF.may (by decide)) ?_
      assumption
    assumption
  clear_value y3
  refine Within.ite ?_ ?_
  · refine State.deviceReset_within (hF.drop (by decide)) ?_
    assumption
  assumption

theorem State.hkEntry_within {Ma Na ba : Nat} {s₀ : State} {s : State} {v : Nat}
    (hF : Foot Ma Na ba 0x4056fffff 0x0 (0)) (hS : Within Ma Na ba s₀ s) :
    Within Ma Na ba s₀ (State.hkEntry s v) := by
  unfold State.hkEntry
  extract_lets -merge +onlyGivenNames y0
  refine Within.ite ?_ ?_
  · extract_lets -merge +onlyGivenNames y1
    extract_lets -merge +onlyGivenNames y2
    extract_lets -merge +onlyGivenNames y3
    refine have w4 : Within Ma Na ba s₀ y3 := ?_; ?_
    · refine Within.addF .HK_RES _ 0 rfl (hF.may (by decide)) ?_
      refine Within.setB .HK_RES _ 0 rfl (hF.may (by decide)) ?_
      refine Within.setF .HK_RES _ 0 rfl (hF.may (by decide)) ?_
      assumption
    clear_value y3
    extract_lets -merge +onlyGivenNames y5
    refine have w6 : Within Ma Na ba s₀ y5 := ?_; ?_
    · refine Within.ite ?_ ?_
      · refine State.modHk_within (hF.drop (by decide)) ?_
        assumption
      assumption
    clear_value y5
    extract_lets -merge +onlyGivenNames y7
    refine have w8 : Within Ma Na ba s₀ y7 := ?_; ?_
    · refine Within.ite ?_ ?_
      · refine State.modHk_within (hF.drop (by decide)) ?_
        assumption
      refine State.hkPass_within (hF.drop (by decide)) ?_
      assumption
    clear_value y7
    refine State.supervise_within (hF.drop (by decide)) ?_
    assumption
  assumption

theorem State.hkInject_within {Ma Na ba : Nat} {s₀ : State} {s : State} {c : Nat} {tag : Nat}
    (hF : Foot Ma Na ba 0x100000040 0x0 (0)) (hS : Within Ma Na ba s₀ s) :
    Within Ma Na ba s₀ (State.hkInject s c tag) := by
  unfold State.hkInject
  refine Within.ite ?_ ?_
  · refine Within.setB .HK_STATUS 0 0 rfl (hF.may (by decide)) ?_
    assumption
  refine Within.setBit .HK_STATUS 0 0 rfl (hF.may (by decide)) ?_
  refine State.modHk_within (hF.drop (by decide)) ?_
  assumption

theorem State.hkInjDone_within {Ma Na ba : Nat} {s₀ : State} {s : State} {code : Nat}
    (hF : Foot Ma Na ba 0x300000040 0x0 (0)) (hS : Within Ma Na ba s₀ s) :
    Within Ma Na ba s₀ (State.hkInjDone s code) := by
  unfold State.hkInjDone
  split
  · assumption
  refine Within.ite ?_ ?_
  · extract_lets -merge +onlyGivenNames y0
    extract_lets -merge +onlyGivenNames y1
    refine have w2 : Within Ma Na ba s₀ y1 := ?_; ?_
    · refine Within.setB .HK_INJ_RES _ 0 rfl (hF.may (by decide)) ?_
      refine Within.setF .HK_INJ_RES _ 0 rfl (hF.may (by decide)) ?_
      refine Within.setF .HK_INJ_RES _ 0 rfl (hF.may (by decide)) ?_
      assumption
    clear_value y1
    extract_lets -merge +onlyGivenNames y3
    refine have w4 : Within Ma Na ba s₀ y3 := ?_; ?_
    · refine Within.clrBit .HK_STATUS 0 0 rfl (hF.may (by decide)) ?_
      refine Within.setBit .HK_STATUS 0 0 rfl (hF.may (by decide)) ?_
      assumption
    clear_value y3
    refine State.modHk_within (hF.drop (by decide)) ?_
    assumption
  assumption

theorem State.hkCalibrate_within {Ma Na ba : Nat} {s₀ : State} {s : State} {ok : Bool}
    (hF : Foot Ma Na ba 0x100000040 0x0 (0)) (hS : Within Ma Na ba s₀ s) :
    Within Ma Na ba s₀ (State.hkCalibrate s ok) := by
  unfold State.hkCalibrate
  extract_lets -merge +onlyGivenNames y0
  refine Within.ite ?_ ?_
  · extract_lets -merge +onlyGivenNames y1
    refine have w2 : Within Ma Na ba s₀ y1 := ?_; ?_
    · refine State.modHk_within (hF.drop (by decide)) ?_
      assumption
    clear_value y1
    refine Within.ite ?_ ?_
    · assumption
    refine Within.setB .HK_STATUS 0 0 rfl (hF.may (by decide)) ?_
    assumption
  assumption

theorem execHkEntryDone_within {Ma Na ba : Nat} {s₀ : State} {t : Nat} {value : Fin 65536} {s : State}
    (hF : Foot Ma Na ba 0x4056fffff 0x0 (0)) (hS : Within Ma Na ba s₀ (s.advance t)) :
    Ends Ma Na ba s₀ (execHkEntryDone t value s) := by
  unfold execHkEntryDone
  refine Ends.mk ?_
  refine State.hkEntry_within (hF.drop (by decide)) ?_
  assumption

theorem execHkInj_within {Ma Na ba : Nat} {s₀ : State} {t : Nat} {src : Src} {channel : Fin 16} {tag : Fin 4} {s : State}
    (hF : Foot Ma Na ba 0x100000040 0x0 (0)) (hS : Within Ma Na ba s₀ (s.advance t)) :
    Ends Ma Na ba s₀ (execHkInj t src channel tag s) := by
  unfold execHkInj
  refine Ends.mk ?_
  refine State.managed_within (hF.drop (by decide)) ?_ ?_
  · intro t0 w1
    refine State.hkInject_within (hF.drop (by decide)) ?_
    assumption
  assumption

theorem execHkInjDone_within {Ma Na ba : Nat} {s₀ : State} {t : Nat} {code : Fin 4096} {s : State}
    (hF : Foot Ma Na ba 0x300000040 0x0 (0)) (hS : Within Ma Na ba s₀ (s.advance t)) :
    Ends Ma Na ba s₀ (execHkInjDone t code s) := by
  unfold execHkInjDone
  refine Ends.mk ?_
  refine State.hkInjDone_within (hF.drop (by decide)) ?_
  assumption

theorem execHkCalibration_within {Ma Na ba : Nat} {s₀ : State} {t : Nat} {ok : Bool} {s : State}
    (hF : Foot Ma Na ba 0x100000040 0x0 (0)) (hS : Within Ma Na ba s₀ (s.advance t)) :
    Ends Ma Na ba s₀ (execHkCalibration t ok s) := by
  unfold execHkCalibration
  refine Ends.mk ?_
  refine State.hkCalibrate_within (hF.drop (by decide)) ?_
  assumption

/-! ## Mgmt -/

theorem State.readEffect_within {Ma Na ba : Nat} {s₀ : State} {s : State} {src : Src} {d : RegDef} {a : Nat}
    (hF : Foot Ma Na ba 0x80 0x0 (0)) (hS : Within Ma Na ba s₀ s) :
    Within Ma Na ba s₀ (State.readEffect s src d a) := by
  unfold State.readEffect
  refine Within.ite ?_ ?_
  · refine State.latchRecord_within (hF.drop (by decide)) ?_
    assumption
  refine Within.ite ?_ ?_
  · refine State.latchMean_within (hF.drop (by decide)) ?_
    assumption
  assumption

theorem State.mgmtRead_within {Ma Na ba : Nat} {s₀ : State} {s : State} {src : Src} {a : Nat}
    (hF : Foot Ma Na ba 0x9000000000000000000000000000000000000000002080 0x0 (0)) (hS : Within Ma Na ba s₀ s) :
    Within1 Ma Na ba s₀ (State.mgmtRead s src a) := by
  unfold State.mgmtRead
  split
  · split
    · refine Within1.mk ?_
      assumption
    extract_lets -merge +onlyGivenNames y0
    refine have w1 : Within Ma Na ba s₀ y0 := ?_; ?_
    · refine State.readEffect_within (hF.drop (by decide)) ?_
      refine Within.ite ?_ ?_
      · assumption
      refine State.pioSettle_within (hF.drop (by decide)) ?_
      assumption
    clear_value y0
    refine Within1.mk ?_
    assumption
  refine Within1.mk ?_
  assumption

theorem State.storeBut_within {Ma Na ba : Nat} {s₀ : State} {s : State} {a : Nat} {f : Field} {v : Word}
    (hF : Foot Ma Na ba 0x0 0x800000 (a)) (hS : Within Ma Na ba s₀ s) :
    Within Ma Na ba s₀ (State.storeBut s a f v) := by
  unfold State.storeBut
  refine Within.storeReg (hF.mayOwn (by decide)) ?_
  assumption

theorem State.writeHk_within {Ma Na ba : Nat} {s₀ : State} {s : State} {a : Nat} {v : Word}
    (hF : Foot Ma Na ba 0x100000040 0x800000 (a)) (hS : Within Ma Na ba s₀ s) :
    Within Ma Na ba s₀ (State.writeHk s a v) := by
  unfold State.writeHk
  refine Within.ite ?_ ?_
  · refine State.hkSettings_within (hF.drop (by decide)) ?_
    refine Within.storeReg (hF.mayOwn (by decide)) ?_
    assumption
  refine Within.ite ?_ ?_
  · refine State.hkSettings_within (hF.drop (by decide)) ?_
    refine Within.storeReg (hF.mayOwn (by decide)) ?_
    assumption
  refine Within.ite ?_ ?_
  · refine State.hkInject_within (hF.drop (by decide)) ?_
    assumption
  refine Within.storeReg (hF.mayOwn (by decide)) ?_
  assumption

theorem State.writeCk_within {Ma Na ba : Nat} {s₀ : State} {s : State} {d : RegDef} {a : Nat} {v : Word}
    (hF : Foot Ma Na ba 0x200000181016022850000000000000000000000b880011e881 0x800000 (a)) (hS : Within Ma Na ba s₀ s) :
    Within Ma Na ba s₀ (State.writeCk s d a v) := by
  unfold State.writeCk
  extract_lets -merge +onlyGivenNames y0
  refine Within.ite ?_ ?_
  · extract_lets -merge +onlyGivenNames y1
    refine Within.foldl ?_ ?_
    · intro t2 x3 w4
      refine State.modLoop_within (hF.drop (by decide)) ?_
      assumption
    refine Within.storeReg (hF.mayOwn (by decide)) ?_
    assumption
  refine Within.ite ?_ ?_
  · extract_lets -merge +onlyGivenNames y5
    refine have w6 : Within Ma Na ba s₀ y5 := ?_; ?_
    · refine Within.ite ?_ ?_
      · refine State.syncAt_within (hF.drop (by decide)) ?_
        assumption
      assumption
    clear_value y5
    refine Within.ite ?_ ?_
    · refine State.armSync_within (hF.drop (by decide)) ?_
      assumption
    assumption
  refine Within.ite ?_ ?_
  · refine State.pllWrite_within (hF.drop (by decide)) ?_
    assumption
  refine Within.ite ?_ ?_
  · refine State.bandsChanged_within (hF.drop (by decide)) ?_
    refine Within.storeReg (hF.mayOwn (by decide)) ?_
    assumption
  refine Within.ite ?_ ?_
  · refine State.outWrite_within (hF.drop (by decide)) ?_
    assumption
  refine Within.storeReg (hF.mayOwn (by decide)) ?_
  assumption

theorem State.writeTt_within {Ma Na ba : Nat} {s₀ : State} {s : State} {a : Nat} {v : Word}
    (hF : Foot Ma Na ba 0x1000000000000000000000000004000010000300181a0000000002514 0x800000 (a)) (hS : Within Ma Na ba s₀ s) :
    Within Ma Na ba s₀ (State.writeTt s a v) := by
  unfold State.writeTt
  refine Within.ite ?_ ?_
  · refine Within.ite ?_ ?_
    · refine State.trigger_within (hF.drop (by decide)) ?_
      assumption
    assumption
  refine Within.ite ?_ ?_
  · refine Within.ite ?_ ?_
    · refine State.armSched_within (hF.drop (by decide)) ?_
      assumption
    refine Within.setB .TT_SCHED_CTL 0 0 rfl (hF.may (by decide)) ?_
    assumption
  refine Within.ite ?_ ?_
  · refine Within.ite ?_ ?_
    · refine State.encZero_within (hF.drop (by decide)) ?_
      assumption
    assumption
  refine Within.ite ?_ ?_
  · refine Within.ite ?_ ?_
    · refine State.evlogPop_within (hF.drop (by decide)) ?_
      assumption
    assumption
  refine Within.ite ?_ ?_
  · refine State.requestBands_within (hF.drop (by decide)) ?_
    assumption
  refine Within.storeReg (hF.mayOwn (by decide)) ?_
  assumption

theorem State.setRecall_within {Ma Na ba : Nat} {s₀ : State} {s : State} {src : Src} {i : Nat} {d : RegDef} {v : Word}
    (hF : Foot Ma Na ba 0x100 0x0 (0)) (hS : Within Ma Na ba s₀ s) :
    Within Ma Na ba s₀ (State.setRecall s src i d v) := by
  unfold State.setRecall
  refine Within.upd_fs (hF.any (by decide)) ?_
  assumption

theorem State.writeFs_within {Ma Na ba : Nat} {s₀ : State} {s : State} {src : Src} {d : RegDef} {a : Nat} {v : Word}
    (hF : Foot Ma Na ba 0x201000000000000000000000000100 0x800000 (a)) (hS : Within Ma Na ba s₀ s) :
    Within Ma Na ba s₀ (State.writeFs s src d a v) := by
  unfold State.writeFs
  refine Within.ite ?_ ?_
  · refine Within.upd_fs (hF.any (by decide)) ?_
    assumption
  refine Within.ite ?_ ?_
  · refine Within.upd_fs (hF.any (by decide)) ?_
    assumption
  refine Within.ite ?_ ?_
  · refine Within.upd_fs (hF.any (by decide)) ?_
    assumption
  refine Within.ite ?_ ?_
  · refine Within.ite ?_ ?_
    · refine State.recallGo_within (hF.drop (by decide)) ?_
      assumption
    assumption
  refine Within.ite ?_ ?_
  · refine Within.ite ?_ ?_
    · refine State.recallPop_within (hF.drop (by decide)) ?_
      assumption
    assumption
  refine Within.ite ?_ ?_
  · refine State.berthWrite_within (hF.drop (by decide)) ?_
    assumption
  refine Within.storeReg (hF.mayOwn (by decide)) ?_
  assumption

theorem State.writeFy_within {Ma Na ba : Nat} {s₀ : State} {s : State} {d : RegDef} {a : Nat} {v : Word}
    (hF : Foot Ma Na ba 0x14400000080000000000000000000d80 0x800000 (a)) (hS : Within Ma Na ba s₀ s) :
    Within Ma Na ba s₀ (State.writeFy s d a v) := by
  unfold State.writeFy
  extract_lets -merge +onlyGivenNames y0
  refine Within.ite ?_ ?_
  · extract_lets -merge +onlyGivenNames y1
    extract_lets -merge +onlyGivenNames y2
    refine have w3 : Within Ma Na ba s₀ y2 := ?_; ?_
    · refine State.storeBut_within (hF.sub (by decide) (by decide)) ?_
      assumption
    clear_value y2
    refine Within.ite ?_ ?_
    · refine Within.ite ?_ ?_
      · assumption
      refine State.enableFerry_within (hF.drop (by decide)) ?_
      assumption
    refine Within.ite ?_ ?_
    · refine State.stopFerry_within (hF.drop (by decide)) ?_
      assumption
    assumption
  refine Within.ite ?_ ?_
  · refine State.kick_within (hF.drop (by decide)) ?_
    assumption
  refine Within.storeReg (hF.mayOwn (by decide)) ?_
  assumption

theorem State.writeBctl_within {Ma Na ba : Nat} {s₀ : State} {s : State} {b : Nat} {v : Word}
    (hF : Foot Ma Na ba 0x201000400000080000000000000000000d80 0x28a6000000000000000000000000000000000 (b)) (hS : Within Ma Na ba s₀ s) :
    Within Ma Na ba s₀ (State.writeBctl s b v) := by
  unfold State.writeBctl
  extract_lets -merge +onlyGivenNames y0
  extract_lets -merge +onlyGivenNames y1
  extract_lets -merge +onlyGivenNames y2
  extract_lets -merge +onlyGivenNames y3
  extract_lets -merge +onlyGivenNames y4
  extract_lets -merge +onlyGivenNames y5
  extract_lets -merge +onlyGivenNames y6
  refine have w7 : Within Ma Na ba s₀ y6 := ?_; ?_
  · refine Within.setF .EG_BCTL _ 0 rfl (hF.mayOwn (by decide)) ?_
    assumption
  clear_value y6
  extract_lets -merge +onlyGivenNames y8
  refine have w9 : Within Ma Na ba s₀ y8 := ?_; ?_
  · refine Within.ite ?_ ?_
    · refine State.bunEnable_within (hF.sub (by decide) (by decide)) ?_
      assumption
    refine Within.ite ?_ ?_
    · refine State.bunDisable_within (hF.sub (by decide) (by decide)) ?_
      assumption
    assumption
  clear_value y8
  extract_lets -merge +onlyGivenNames y10
  refine have w11 : Within Ma Na ba s₀ y10 := ?_; ?_
  · refine Within.ite ?_ ?_
    · refine State.bunStop_within (hF.sub (by decide) (by decide)) ?_
      assumption
    refine Within.ite ?_ ?_
    · refine State.bunGo_within (hF.sub (by decide) (by decide)) ?_
      assumption
    assumption
  clear_value y10
  extract_lets -merge +onlyGivenNames y12
  refine have w13 : Within Ma Na ba s₀ y12 := ?_; ?_
  · refine Within.ite ?_ ?_
    · refine State.askShed_within (hF.sub (by decide) (by decide)) ?_
      assumption
    assumption
  clear_value y12
  refine Within.ite ?_ ?_
  · refine State.rejoinCmd_within (hF.sub (by decide) (by decide)) ?_
    assumption
  assumption

theorem State.writeLnBctl_within {Ma Na ba : Nat} {s₀ : State} {s : State} {b : Nat} {v : Word}
    (hF : Foot Ma Na ba 0x201000000000000000000000000000000000 0x2c84000000000000000000000000000000800 (b)) (hS : Within Ma Na ba s₀ s) :
    Within Ma Na ba s₀ (State.writeLnBctl s b v) := by
  unfold State.writeLnBctl
  extract_lets -merge +onlyGivenNames y0
  extract_lets -merge +onlyGivenNames y1
  extract_lets -merge +onlyGivenNames y2
  refine have w3 : Within Ma Na ba s₀ y2 := ?_; ?_
  · refine Within.storeAt .LN_BCTL _ 0 rfl (hF.mayOwn (by decide)) ?_
    assumption
  clear_value y2
  extract_lets -merge +onlyGivenNames y4
  extract_lets -merge +onlyGivenNames y5
  refine have w6 : Within Ma Na ba s₀ y5 := ?_; ?_
  · refine Within.ite ?_ ?_
    · refine Within.ite ?_ ?_
      · refine Within.modBun (hF.mayOwn (by decide)) ?_
        assumption
      refine Within.ite ?_ ?_
      · refine Within.ite ?_ ?_
        · refine State.exitCause_within (hF.sub (by decide) (by decide)) ?_
          assumption
        refine Within.modBun (hF.mayOwn (by decide)) ?_
        assumption
      assumption
    assumption
  clear_value y5
  refine State.laneFollow_within (hF.sub (by decide) (by decide)) ?_
  assumption

theorem State.writeLctl_within {Ma Na ba : Nat} {s₀ : State} {s : State} {b : Nat} {l : Nat} {v : Word}
    (hF : Foot Ma Na ba 0x201000000000000000000000000000000000 0x3884000000000000000000000000000000800 (b)) (hS : Within Ma Na ba s₀ s) :
    Within Ma Na ba s₀ (State.writeLctl s b l v) := by
  unfold State.writeLctl
  extract_lets -merge +onlyGivenNames y0
  extract_lets -merge +onlyGivenNames y1
  extract_lets -merge +onlyGivenNames y2
  refine have w3 : Within Ma Na ba s₀ y2 := ?_; ?_
  · refine Within.storeAt .LN_LCTL _ _ rfl (hF.mayOwn (by decide)) ?_
    assumption
  clear_value y2
  extract_lets -merge +onlyGivenNames y4
  refine have w5 : Within Ma Na ba s₀ y4 := ?_; ?_
  · refine Within.ite ?_ ?_
    · refine State.modLane_within (hF.sub (by decide) (by decide)) ?_
      assumption
    assumption
  clear_value y4
  refine State.detectCheck_within (hF.sub (by decide) (by decide)) ?_
  assumption

theorem State.writeEg_within {Ma Na ba : Nat} {s₀ : State} {s : State} {d : RegDef} {a : Nat} {v : Word}
    (hF : Foot Ma Na ba 0x680006fea7000400000080000000000000000104d80 0x800000 (a)) (hS : Within Ma Na ba s₀ s) :
    Within Ma Na ba s₀ (State.writeEg s d a v) := by
  unfold State.writeEg
  extract_lets -merge +onlyGivenNames y0
  extract_lets -merge +onlyGivenNames y1
  refine Within.ite ?_ ?_
  · refine Within.storeReg (hF.mayOwn (by decide)) ?_
    refine Within.foldl ?_ ?_
    · intro t2 x3 w4
      refine State.refill_within (hF.drop (by decide)) ?_
      assumption
    assumption
  refine Within.ite ?_ ?_
  · refine State.writeBctl_within (hF.drop (by decide)) ?_
    assumption
  refine Within.ite ?_ ?_
  · refine State.writeLnBctl_within (hF.drop (by decide)) ?_
    assumption
  refine Within.ite ?_ ?_
  · refine State.writeLctl_within (hF.drop (by decide)) ?_
    assumption
  refine Within.ite ?_ ?_
  · refine State.txeqWrite_within (hF.drop (by decide)) ?_
    assumption
  refine Within.ite ?_ ?_
  · refine State.testWrite_within (hF.drop (by decide)) ?_
    assumption
  refine Within.ite ?_ ?_
  · refine State.injectLane_within (hF.drop (by decide)) ?_
    assumption
  refine Within.storeReg (hF.mayOwn (by decide)) ?_
  assumption

theorem State.writeFb_within {Ma Na ba : Nat} {s₀ : State} {s : State} {d : RegDef} {a : Nat} {v : Word}
    (hF : Foot Ma Na ba 0x50000002000001ed25668200000000000000001202c01f00000114802 0x800000 (a)) (hS : Within Ma Na ba s₀ s) :
    Within Ma Na ba s₀ (State.writeFb s d a v) := by
  unfold State.writeFb
  extract_lets -merge +onlyGivenNames y0
  refine Within.ite ?_ ?_
  · refine Within.foldl ?_ ?_
    · intro t1 x2 w3
      refine State.portFollow_within (hF.drop (by decide)) ?_
      assumption
    refine Within.storeReg (hF.mayOwn (by decide)) ?_
    assumption
  refine Within.ite ?_ ?_
  · extract_lets -merge +onlyGivenNames y4
    refine have w5 : Within Ma Na ba s₀ y4 := ?_; ?_
    · refine Within.ite ?_ ?_
      · refine State.broadcast_within (hF.drop (by decide)) ?_
        assumption
      assumption
    clear_value y4
    refine Within.ite ?_ ?_
    · refine State.shareSend_within (hF.drop (by decide)) ?_
      assumption
    assumption
  refine Within.ite ?_ ?_
  · refine State.portCheck_within (hF.drop (by decide)) ?_
    refine State.portFollow_within (hF.drop (by decide)) ?_
    refine Within.storeReg (hF.mayOwn (by decide)) ?_
    assumption
  refine Within.ite ?_ ?_
  · refine State.testWrite_within (hF.drop (by decide)) ?_
    assumption
  refine Within.ite ?_ ?_
  · refine State.injectLane_within (hF.drop (by decide)) ?_
    assumption
  refine Within.storeReg (hF.mayOwn (by decide)) ?_
  assumption

theorem State.writeEcmd_within {Ma Na ba : Nat} {s₀ : State} {s : State} {e : Nat} {v : Word}
    (hF : Foot Ma Na ba 0x1000000000000000000000000000000000000000002004 0x38000000000000000000000000000000000000000000000 (e)) (hS : Within Ma Na ba s₀ s) :
    Within Ma Na ba s₀ (State.writeEcmd s e v) := by
  unfold State.writeEcmd
  extract_lets -merge +onlyGivenNames y0
  refine have w1 : Within Ma Na ba s₀ y0 := ?_; ?_
  · refine Within.ite ?_ ?_
    · refine State.engineRestart_within (hF.sub (by decide) (by decide)) ?_
      assumption
    assumption
  clear_value y0
  extract_lets -merge +onlyGivenNames y2
  refine have w3 : Within Ma Na ba s₀ y2 := ?_; ?_
  · refine Within.ite ?_ ?_
    · refine State.raiseEvent_within (hF.drop (by decide)) ?_
      assumption
    assumption
  clear_value y2
  extract_lets -merge +onlyGivenNames y4
  refine have w5 : Within Ma Na ba s₀ y4 := ?_; ?_
  · refine Within.ite ?_ ?_
    · refine Within.setB .PIO_ESTAT _ 0 rfl (hF.mayOwn (by decide)) ?_
      assumption
    assumption
  clear_value y4
  refine Within.ite ?_ ?_
  · refine Within.setB .PIO_ESTAT _ 0 rfl (hF.mayOwn (by decide)) ?_
    assumption
  assumption

theorem State.writePio_within {Ma Na ba : Nat} {s₀ : State} {s : State} {d : RegDef} {a : Nat} {v : Word}
    (hF : Foot Ma Na ba 0x7b100000000000000000000000000000000000000002004 0x800000 (a)) (hS : Within Ma Na ba s₀ s) :
    Within Ma Na ba s₀ (State.writePio s d a v) := by
  unfold State.writePio
  extract_lets -merge +onlyGivenNames y0
  refine have w1 : Within Ma Na ba s₀ y0 := ?_; ?_
  · refine State.pioSettle_within (hF.drop (by decide)) ?_
    assumption
  clear_value y0
  extract_lets -merge +onlyGivenNames y2
  refine Within.ite ?_ ?_
  · refine State.setFlags_within (hF.drop (by decide)) ?_
    assumption
  refine Within.ite ?_ ?_
  · refine State.clearFlags_within (hF.drop (by decide)) ?_
    assumption
  refine Within.ite ?_ ?_
  · extract_lets -merge +onlyGivenNames y3
    extract_lets -merge +onlyGivenNames y4
    refine have w5 : Within Ma Na ba s₀ y4 := ?_; ?_
    · refine State.storeBut_within (hF.sub (by decide) (by decide)) ?_
      assumption
    clear_value y4
    refine Within.ite ?_ ?_
    · refine State.engineRun_within (hF.drop (by decide)) ?_
      assumption
    refine Within.ite ?_ ?_
    · refine State.engineStop_within (hF.drop (by decide)) ?_
      assumption
    assumption
  refine Within.ite ?_ ?_
  · refine State.writeEcmd_within (hF.drop (by decide)) ?_
    assumption
  refine Within.ite ?_ ?_
  · refine State.dinWrite_within (hF.drop (by decide)) ?_
    assumption
  refine Within.ite ?_ ?_
  · refine State.offer_within (hF.drop (by decide)) ?_
    assumption
  refine Within.storeReg (hF.mayOwn (by decide)) ?_
  assumption

theorem State.addressWrite_within {Ma Na ba : Nat} {s₀ : State} {s : State} {a : Nat} {v : Word}
    (hF : Foot Ma Na ba 0x8800000000000000000000000000000000000000000210000 0x800000 (a)) (hS : Within Ma Na ba s₀ s) :
    Within Ma Na ba s₀ (State.addressWrite s a v) := by
  unfold State.addressWrite
  extract_lets -merge +onlyGivenNames y0
  refine have w1 : Within Ma Na ba s₀ y0 := ?_; ?_
  · refine Within.storeReg (hF.mayOwn (by decide)) ?_
    assumption
  clear_value y0
  refine State.announce_within (hF.drop (by decide)) ?_
  refine State.netStart_within (hF.drop (by decide)) ?_
  refine Within.upd_eth (hF.any (by decide)) ?_
  assumption

theorem State.writeEth_within {Ma Na ba : Nat} {s₀ : State} {s : State} {a : Nat} {v : Word}
    (hF : Foot Ma Na ba 0x68800000001000000000000000000000000000000000214000 0x800000 (a)) (hS : Within Ma Na ba s₀ s) :
    Within Ma Na ba s₀ (State.writeEth s a v) := by
  unfold State.writeEth
  refine Within.ite ?_ ?_
  · refine State.addressWrite_within (hF.sub (by decide) (by decide)) ?_
    assumption
  refine Within.ite ?_ ?_
  · extract_lets -merge +onlyGivenNames y0
    extract_lets -merge +onlyGivenNames y1
    refine have w2 : Within Ma Na ba s₀ y1 := ?_; ?_
    · refine Within.storeReg (hF.mayOwn (by decide)) ?_
      assumption
    clear_value y1
    refine Within.ite ?_ ?_
    · assumption
    refine State.ptpRestart_within (hF.drop (by decide)) ?_
    assumption
  refine Within.storeReg (hF.mayOwn (by decide)) ?_
  assumption

theorem State.flCmd_within {Ma Na ba : Nat} {s₀ : State} {s : State} {v : Word}
    (hF : Foot Ma Na ba 0x88000000000000000000000000000000000000000000000220000 0x0 (0)) (hS : Within Ma Na ba s₀ s) :
    Within Ma Na ba s₀ (State.flCmd s v) := by
  unfold State.flCmd
  split
  · refine State.flashCommand_within (hF.drop (by decide)) ?_
    assumption
  · refine State.flashCommand_within (hF.drop (by decide)) ?_
    assumption
  · refine State.flashCommand_within (hF.drop (by decide)) ?_
    assumption
  · extract_lets -merge +onlyGivenNames y0
    refine State.flashCheck_within (hF.drop (by decide)) ?_
    refine Within.upd_free (hF.any (by decide)) (Nat.le_add_right _ _) ?_
    assumption
  assumption

theorem State.writeCfg_within {Ma Na ba : Nat} {s₀ : State} {s : State} {src : Src} {d : RegDef} {a : Nat} {v : Word}
    (hF : Foot Ma Na ba 0x56258a0000000000000000000000000000000000000000000016fffff 0x800000 (a)) (hS : Within Ma Na ba s₀ s) :
    Within Ma Na ba s₀ (State.writeCfg s src d a v) := by
  unfold State.writeCfg
  refine Within.ite ?_ ?_
  · refine Within.ite ?_ ?_
    · refine State.rollback_within (hF.drop (by decide)) ?_
      assumption
    refine Within.ite ?_ ?_
    · refine State.askReset_within (hF.drop (by decide)) ?_
      assumption
    refine Within.ite ?_ ?_
    · refine State.confirm_within (hF.drop (by decide)) ?_
      assumption
    assumption
  refine Within.ite ?_ ?_
  · refine State.flCmd_within (hF.drop (by decide)) ?_
    assumption
  refine Within.ite ?_ ?_
  · refine State.bufWrite_within (hF.drop (by decide)) ?_
    assumption
  refine Within.ite ?_ ?_
  · extract_lets -merge +onlyGivenNames y0
    refine have w1 : Within Ma Na ba s₀ y0 := ?_; ?_
    · refine Within.ite ?_ ?_
      · refine State.keyAdd_within (hF.drop (by decide)) ?_
        assumption
      assumption
    clear_value y0
    refine Within.ite ?_ ?_
    · refine State.keyRevoke_within (hF.drop (by decide)) ?_
      assumption
    assumption
  refine Within.ite ?_ ?_
  · refine Within.ite ?_ ?_
    · refine State.addCommit_within (hF.drop (by decide)) ?_
      assumption
    refine Within.ite ?_ ?_
    · refine State.addCommit_within (hF.drop (by decide)) ?_
      assumption
    assumption
  refine Within.storeReg (hF.mayOwn (by decide)) ?_
  assumption

theorem State.regWrite_within {Ma Na ba : Nat} {s₀ : State} {s : State} {src : Src} {d : RegDef} {a : Nat} {v : Word}
    (hF : Foot Ma Na ba 0x56258a06887b11ed2566fea701460100108093121ada1fb89017fffff 0x800000 (a)) (hS : Within Ma Na ba s₀ s) :
    Within Ma Na ba s₀ (State.regWrite s src d a v) := by
  unfold State.regWrite
  refine Within.ite ?_ ?_
  · refine State.writeShadow_within (hF.sub (by decide) (by decide)) ?_
    assumption
  refine Within.ite ?_ ?_
  · refine State.writeHk_within (hF.sub (by decide) (by decide)) ?_
    assumption
  refine Within.ite ?_ ?_
  · refine State.writeCk_within (hF.sub (by decide) (by decide)) ?_
    assumption
  refine Within.ite ?_ ?_
  · refine State.writeTt_within (hF.sub (by decide) (by decide)) ?_
    assumption
  refine Within.ite ?_ ?_
  · refine State.writeFs_within (hF.sub (by decide) (by decide)) ?_
    assumption
  refine Within.ite ?_ ?_
  · refine State.writeFy_within (hF.sub (by decide) (by decide)) ?_
    assumption
  refine Within.ite ?_ ?_
  · refine State.writeEg_within (hF.sub (by decide) (by decide)) ?_
    assumption
  refine Within.ite ?_ ?_
  · refine State.writeFb_within (hF.sub (by decide) (by decide)) ?_
    assumption
  refine Within.ite ?_ ?_
  · refine State.writePio_within (hF.sub (by decide) (by decide)) ?_
    assumption
  refine Within.ite ?_ ?_
  · refine State.writeEth_within (hF.sub (by decide) (by decide)) ?_
    assumption
  refine State.writeCfg_within (hF.sub (by decide) (by decide)) ?_
  assumption

theorem State.mgmtWrite_within {Ma Na ba : Nat} {s₀ : State} {s : State} {src : Src} {a : Nat} {v : Word}
    (hF : Foot Ma Na ba 0x56258a06887b11ed2566fea701460100108093121ada1fb89017fffff 0x800000 (a)) (hS : Within Ma Na ba s₀ s) :
    Within1 Ma Na ba s₀ (State.mgmtWrite s src a v) := by
  unfold State.mgmtWrite
  split
  · split
    · refine Within1.mk ?_
      assumption
    refine Within1.ite ?_ ?_
    · refine Within1.mk ?_
      assumption
    refine Within1.mk ?_
    refine State.regWrite_within (hF.sub (by decide) (by decide)) ?_
    assumption
  refine Within1.mk ?_
  assumption

theorem execRegisterWrite_within {Ma Na ba : Nat} {s₀ : State} {t : Nat} {src : Src} {addr : Nat} {val : Word} {s : State}
    (hF : Foot Ma Na ba 0x56258a06887b11ed2566fea701460100108093121ada1fb89017fffff 0x800000 (addr)) (hS : Within Ma Na ba s₀ (s.advance t)) :
    Ends Ma Na ba s₀ (execRegisterWrite t src addr val s) := by
  unfold execRegisterWrite
  refine Ends.mk ?_
  refine State.managed_within (hF.drop (by decide)) ?_ ?_
  · intro t0 w1
    refine Within.fst ?_
    refine State.mgmtWrite_within (hF.sub (by decide) (by decide)) ?_
    assumption
  assumption

theorem execEthAddressWrite_within {Ma Na ba : Nat} {s₀ : State} {t : Nat} {src : Src} {addr : Nat} {val : Word} {s : State}
    (hF : Foot Ma Na ba 0x8800000000000000000000000000000000000000000210000 0x800000 (addr)) (hS : Within Ma Na ba s₀ (s.advance t)) :
    Ends Ma Na ba s₀ (execEthAddressWrite t src addr val s) := by
  unfold execEthAddressWrite
  refine Ends.mk ?_
  refine State.managed_within (hF.drop (by decide)) ?_ ?_
  · intro t0 w1
    refine Within.ite ?_ ?_
    · refine State.addressWrite_within (hF.sub (by decide) (by decide)) ?_
      assumption
    assumption
  assumption

/-! ## Image -/

theorem State.applyEntries_within {Ma Na ba : Nat} {s₀ : State} {i n pos : Nat} {s : State} (hF : Foot Ma Na ba 0x56258a06887b11ed2566fea701460100108093121ada1fb8901ffffff 0x0 (0))
    (hS : Within Ma Na ba s₀ s) : WithinO Ma Na ba s₀ (State.applyEntries i n pos s) := by
  induction n generalizing s pos with
  | zero => exact WithinO.mk hS
  | succ n ih =>
    have h := State.mgmtWrite_within (src := .purser) (a := s.bodyNat i pos 4) (v := BitVec.ofNat 64 (s.bodyNat i (pos + 8) 8)) (hF.drop (by decide)) hS
    unfold State.applyEntries
    split
    · rename_i hq
      exact WithinO.ite (ih (Within1.take hq h)) (WithinO.mk (Within1.take hq h))
    · exact WithinO.none

theorem State.applyBlock_within {Ma Na ba : Nat} {s₀ : State} {i n pos a : Nat} {s : State} (hF : Foot Ma Na ba 0x56258a06887b11ed2566fea701460100108093121ada1fb8901ffffff 0x0 (0))
    (hS : Within Ma Na ba s₀ s) : WithinO Ma Na ba s₀ (State.applyBlock i n pos a s) := by
  induction n generalizing s pos a with
  | zero => exact WithinO.mk hS
  | succ n ih =>
    have h := State.mgmtWrite_within (src := .purser) (a := a) (v := BitVec.ofNat 64 (s.bodyNat i pos 8)) (hF.drop (by decide)) hS
    unfold State.applyBlock
    split
    · rename_i hq
      exact WithinO.ite (ih (Within1.take hq h)) (WithinO.mk (Within1.take hq h))
    · exact WithinO.none

theorem State.applyRecords_within {Ma Na ba : Nat} {s₀ : State} {i len fuel pos : Nat} {s : State} (hF : Foot Ma Na ba 0x56258a06887b11ed2566fea701460100108093121ada1fb8901ffffff 0x0 (0))
    (hS : Within Ma Na ba s₀ s) : WithinO Ma Na ba s₀ (State.applyRecords i len fuel pos s) := by
  induction fuel generalizing s pos with
  | zero => exact WithinO.none
  | succ n ih =>
    unfold State.applyRecords
    dsimp only
    refine WithinO.ite (WithinO.mk hS) (WithinO.ite WithinO.none (WithinO.ite (WithinO.ite WithinO.none (ih hS)) (WithinO.ite (WithinO.ite WithinO.none ?_)
      (WithinO.ite (WithinO.ite WithinO.none ?_) (WithinO.ite (WithinO.ite (WithinO.mk hS) WithinO.none) WithinO.none)))))
    · split
      · rename_i hq
        exact ih (State.applyEntries_within (hF.drop (by decide)) hS _ hq)
      · exact WithinO.none
    · split
      · rename_i hq
        exact ih (State.applyBlock_within (hF.drop (by decide)) hS _ hq)
      · exact WithinO.none

theorem State.loadError_within {Ma Na ba : Nat} {s₀ : State} {s : State} {i : Nat}
    (hF : Foot Ma Na ba 0x16fffff 0x0 (0)) (hS : Within Ma Na ba s₀ s) :
    Within Ma Na ba s₀ (State.loadError s i) := by
  unfold State.loadError
  refine State.deviceReset_within (hF.drop (by decide)) ?_
  refine Within.foldl ?_ ?_
  · intro t0 x1 w2
    refine Within.ite ?_ ?_
    · assumption
    refine State.putMark_within (hF.drop (by decide)) ?_
    assumption
  assumption

theorem State.bootCommit_within {Ma Na ba : Nat} {s₀ : State} {s : State}
    (hF : Foot Ma Na ba 0x3f000004200000000010000210104010010c1b0000c10000000001ffb7 0x0 (0)) (hS : Within Ma Na ba s₀ s) :
    WithinO Ma Na ba s₀ (State.bootCommit s) := by
  unfold State.bootCommit
  extract_lets -merge +onlyGivenNames y0
  refine have w1 : Within Ma Na ba s₀ y0 := ?_; ?_
  · refine State.addCommit_within (hF.drop (by decide)) ?_
    assumption
  clear_value y0
  refine WithinO.ite ?_ ?_
  · exact WithinO.none
  refine WithinO.mk ?_
  refine State.idleAt_within (hF.drop (by decide)) ?_
  assumption

theorem State.lockBoot_within {Ma Na ba : Nat} {s₀ : State} {s : State}
    (hF : Foot Ma Na ba 0x2008800000000000000000000000000000000000000004230000 0x0 (0)) (hS : Within Ma Na ba s₀ s) :
    Within Ma Na ba s₀ (State.lockBoot s) := by
  unfold State.lockBoot
  extract_lets -merge +onlyGivenNames y0
  refine have w1 : Within Ma Na ba s₀ y0 := ?_; ?_
  · refine State.setStage_within (hF.drop (by decide)) ?_
    refine Within.setB .CFG_BOOT_STAT 0 0 rfl (hF.may (by decide)) ?_
    assumption
  clear_value y0
  refine State.netStart_within (hF.drop (by decide)) ?_
  refine Within.upd_boot (hF.any (by decide)) ?_
  assumption

theorem State.awaitConfirm_within {Ma Na ba : Nat} {s₀ : State} {s : State} {i : Nat}
    (hF : Foot Ma Na ba 0xa0000000000000000000000000000000000000000000000a0000 0x0 (0)) (hS : Within Ma Na ba s₀ s) :
    Within Ma Na ba s₀ (State.awaitConfirm s i) := by
  unfold State.awaitConfirm
  refine Within.ite ?_ ?_
  · assumption
  refine Within.ite ?_ ?_
  · refine State.confirmBoot_within (hF.drop (by decide)) ?_
    assumption
  extract_lets -merge +onlyGivenNames y0
  refine Within.setB .CFG_BOOT_STAT 0 0 rfl (hF.may (by decide)) ?_
  refine Within.upd_boot (hF.any (by decide)) ?_
  assumption

theorem State.recoveryWrites_within {Ma Na ba : Nat} {s₀ : State} {s : State}
    (hF : Foot Ma Na ba 0x2000000000100002000000000000000000000000000000000 0x0 (0)) (hS : Within Ma Na ba s₀ s) :
    Within Ma Na ba s₀ (State.recoveryWrites s) := by
  unfold State.recoveryWrites
  extract_lets -merge +onlyGivenNames y0
  refine have w1 : Within Ma Na ba s₀ y0 := ?_; ?_
  · refine Within.setF .ETH_IP 0 0 rfl (hF.may (by decide)) ?_
    refine Within.setF .ETH_IP 0 0 rfl (hF.may (by decide)) ?_
    assumption
  clear_value y0
  extract_lets -merge +onlyGivenNames y2
  refine have w3 : Within Ma Na ba s₀ y2 := ?_; ?_
  · refine Within.foldl ?_ ?_
    · intro t4 x5 w6
      refine Within.setB .EG_BCTL _ 0 rfl (hF.may (by decide)) ?_
      assumption
    assumption
  clear_value y2
  refine Within.setF .FB_CFG 0 0 rfl (hF.may (by decide)) ?_
  assumption

theorem State.applyImage_within {Ma Na ba : Nat} {s₀ : State} {s : State} {secondOk : Bool}
    (hF : Foot Ma Na ba 0x3f6258a46a87b11ed2576fea70146010010c1b3121eda1fb8905ffffff 0x0 (0)) (hS : Within Ma Na ba s₀ s) :
    Within Ma Na ba s₀ (State.applyImage s secondOk) := by
  unfold State.applyImage
  refine Within.ite ?_ ?_
  · split
    · split
      · rename_i z0 z1 z2
        refine have w3 : Within Ma Na ba s₀ z1 := WithinO.take z2 ?_; ?_
        · refine State.bootCommit_within (hF.drop (by decide)) ?_
          refine State.recoveryWrites_within (hF.drop (by decide)) ?_
          assumption
        refine State.lockBoot_within (hF.drop (by decide)) ?_
        assumption
      rename_i z4 z5
      assumption
    extract_lets -merge +onlyGivenNames y6
    split
    · rename_i z7 z8
      refine State.loadError_within (hF.drop (by decide)) ?_
      assumption
    rename_i z9 z10 z11
    refine have w12 : Within Ma Na ba s₀ z10 := WithinO.take z11 ?_; ?_
    · refine WithinO.ite ?_ ?_
      · refine State.applyRecords_within (hF.drop (by decide)) ?_
        assumption
      exact WithinO.none
    refine Within.ite ?_ ?_
    · split
      · rename_i z13 z14 z15
        refine have w16 : Within Ma Na ba s₀ z14 := WithinO.take z15 ?_; ?_
        · refine State.bootCommit_within (hF.drop (by decide)) ?_
          assumption
        refine State.awaitConfirm_within (hF.drop (by decide)) ?_
        refine State.lockBoot_within (hF.drop (by decide)) ?_
        assumption
      rename_i z17 z18
      refine State.loadError_within (hF.drop (by decide)) ?_
      assumption
    assumption
  assumption

theorem execApplyImage_within {Ma Na ba : Nat} {s₀ : State} {t : Nat} {secondOk : Bool} {s : State}
    (hF : Foot Ma Na ba 0x3f6258a46a87b11ed2576fea70146010010c1b3121eda1fb8905ffffff 0x0 (0)) (hS : Within Ma Na ba s₀ (s.advance t)) :
    Ends Ma Na ba s₀ (execApplyImage t secondOk s) := by
  unfold execApplyImage
  refine Ends.mk ?_
  refine State.applyImage_within (hF.drop (by decide)) ?_
  assumption

/-! ## Witrig -/

theorem State.countReq_within {Ma Na ba : Nat} {s₀ : State} {s : State}
    (hF : Foot Ma Na ba 0x1000000000000000000000000000000000000000000000000000 0x0 (0)) (hS : Within Ma Na ba s₀ s) :
    Within Ma Na ba s₀ (State.countReq s) := by
  unfold State.countReq
  refine Within.addF .ETH_WT_CNT 0 0 rfl (hF.may (by decide)) ?_
  assumption

theorem State.tunnel_within {Ma Na ba : Nat} {s₀ : State} {s : State} {m : WitrigMsg} {dst : Nat}
    (hF : Foot Ma Na ba 0x40200000000000000000000000000000000104000 0x0 (0)) (hS : Within Ma Na ba s₀ s) :
    Within Ma Na ba s₀ (State.tunnel s m dst) := by
  unfold State.tunnel
  refine Within.ite ?_ ?_
  · refine State.tunDrop_within (hF.drop (by decide)) ?_
    assumption
  extract_lets -merge +onlyGivenNames y0
  extract_lets -merge +onlyGivenNames y1
  extract_lets -merge +onlyGivenNames y2
  refine have w3 : Within Ma Na ba s₀ y2 := ?_; ?_
  · refine Within.upd_kf (hF.any (by decide)) ?_
    assumption
  clear_value y2
  refine State.sendMgmt_within (hF.drop (by decide)) ?_
  refine State.showFlights_within (hF.drop (by decide)) ?_
  assumption

theorem State.takeLocal_within {Ma Na ba : Nat} {s₀ : State} {s : State} {m : WitrigMsg}
    (hF : Foot Ma Na ba 0x1000000000000000000000000000000000000000000000010000 0x0 (0)) (hS : Within Ma Na ba s₀ s) :
    Within Ma Na ba s₀ (State.takeLocal s m) := by
  unfold State.takeLocal
  refine Within.ite ?_ ?_
  · refine State.sendResp_within (hF.drop (by decide)) ?_
    refine State.countReq_within (hF.drop (by decide)) ?_
    assumption
  refine Within.upd_eth (hF.any (by decide)) ?_
  assumption

theorem State.witrigRx_within {Ma Na ba : Nat} {s₀ : State} {s : State} {m : WitrigMsg} {short : Bool}
    (hF : Foot Ma Na ba 0x1000800000040200000000000000000000000000000000114000 0x0 (0)) (hS : Within Ma Na ba s₀ s) :
    Within Ma Na ba s₀ (State.witrigRx s m short) := by
  unfold State.witrigRx
  refine Within.ite ?_ ?_
  · assumption
  refine Within.ite ?_ ?_
  · refine Within.setB .ETH_STATUS 0 0 rfl (hF.may (by decide)) ?_
    refine Within.satF .ETH_WT_CNT 0 0 rfl (hF.may (by decide)) ?_
    assumption
  refine Within.ite ?_ ?_
  · refine State.sendResp_within (hF.drop (by decide)) ?_
    refine State.countReq_within (hF.drop (by decide)) ?_
    assumption
  refine Within.ite ?_ ?_
  · refine State.takeLocal_within (hF.drop (by decide)) ?_
    assumption
  extract_lets -merge +onlyGivenNames y0
  split
  · refine State.sendResp_within (hF.drop (by decide)) ?_
    refine State.countReq_within (hF.drop (by decide)) ?_
    assumption
  refine Within.ite ?_ ?_
  · refine State.takeLocal_within (hF.drop (by decide)) ?_
    assumption
  refine State.tunnel_within (hF.drop (by decide)) ?_
  refine State.countReq_within (hF.drop (by decide)) ?_
  assumption

theorem State.answer_within {Ma Na ba : Nat} {s₀ : State} {s : State} {src : Src} {r : WitrigResp}
    (hF : Foot Ma Na ba 0x1000000000040200000000000000000000000000000000114000 0x0 (0)) (hS : Within Ma Na ba s₀ s) :
    Within Ma Na ba s₀ (State.answer s src r) := by
  unfold State.answer
  split
  · assumption
  · split
    · assumption
    refine State.sendResp_within (hF.drop (by decide)) ?_
    refine State.countReq_within (hF.drop (by decide)) ?_
    refine Within.upd_eth (hF.any (by decide)) ?_
    assumption
  split
  · assumption
  refine State.sendMgmt_within (hF.drop (by decide)) ?_
  refine Within.upd_kf (hF.any (by decide)) ?_
  assumption

theorem State.serve_within {Ma Na ba : Nat} {s₀ : State} {s : State} {src : Src} {op sub : Nat} {f : State → WitrigMsg → State × WitrigResp} (hF : Foot Ma Na ba 0x1000000000040200000000000000000000000000000000114000 0x0 (0))
    (hf : ∀ s m, Within Ma Na ba s₀ s → Within1 Ma Na ba s₀ (f s m)) (hS : Within Ma Na ba s₀ s) : Within Ma Na ba s₀ (s.serve src op sub f) := by
  unfold State.serve
  split
  · exact hS
  · refine Within.ite (Within.ite (State.answer_within (hF.drop (by decide)) hS) ?_) hS
    exact State.answer_within (hF.drop (by decide)) (hf _ _ hS)

theorem State.witReads_within {Ma Na ba : Nat} {s₀ : State} {src : Src} {n a : Nat} {s : State} {vs : List Word} (hF : Foot Ma Na ba 0x9000000000000000000000000000000000000000002080 0x0 (0))
    (hS : Within Ma Na ba s₀ s) : Within1 Ma Na ba s₀ (State.witReads src n a s vs) := by
  induction n generalizing s a vs with
  | zero => exact hS
  | succ n ih =>
    have h := State.mgmtRead_within (src := src) (a := a) (hF.drop (by decide)) hS
    unfold State.witReads
    split
    · rename_i hq
      exact ih (Within1.take hq h)
    · rename_i hq
      exact Within1.mk (Within1.take hq h)

theorem State.witRead_within {Ma Na ba : Nat} {s₀ : State} {s : State} {src : Src} {m : WitrigMsg}
    (hF : Foot Ma Na ba 0x9000000000000000000000000000000000000000002080 0x0 (0)) (hS : Within Ma Na ba s₀ s) :
    Within1 Ma Na ba s₀ (State.witRead s src m) := by
  unfold State.witRead
  extract_lets -merge +onlyGivenNames y0
  refine have w1 : Within1 Ma Na ba s₀ y0 := ?_; ?_
  · refine State.witReads_within (hF.drop (by decide)) ?_
    assumption
  clear_value y0
  refine Within1.mk ?_
  refine Within.fst ?_
  assumption

theorem State.witNodes_within {Ma Na ba : Nat} {s₀ : State} {s : State} {m : WitrigMsg}
    (hF : Foot Ma Na ba 0x0 0x0 (0)) (hS : Within Ma Na ba s₀ s) :
    Within1 Ma Na ba s₀ (State.witNodes s m) := by
  unfold State.witNodes
  extract_lets -merge +onlyGivenNames y0
  extract_lets -merge +onlyGivenNames y1
  refine Within1.mk ?_
  assumption

theorem State.modSession_within {Ma Na ba : Nat} {s₀ : State} {s : State} {i : Nat} {f : Session → Session}
    (hF : Foot Ma Na ba 0x20000 0x0 (0)) (hS : Within Ma Na ba s₀ s) :
    Within Ma Na ba s₀ (State.modSession s i f) := by
  unfold State.modSession
  refine Within.upd_boot (hF.any (by decide)) ?_
  assumption

theorem State.authentic_within {Ma Na ba : Nat} {s₀ : State} {s : State} {m : WitrigMsg} {f : State → State × WitrigResp} (hF : Foot Ma Na ba 0x60000000000000000000000000000000000000000000000000020000 0x0 (0))
    (hf : ∀ s, Within Ma Na ba s₀ s → Within1 Ma Na ba s₀ (f s)) (hS : Within Ma Na ba s₀ s) : Within1 Ma Na ba s₀ (s.authentic m f) := by
  unfold State.authentic
  split
  · exact hS
  · rename_i i hi
    dsimp only
    refine Within1.ite hS (Within1.ite ?_ ?_)
    · have h1 : Within Ma Na ba s₀ ((s.setReg (Reg.SEC_SESS_CTR i) m.ctr).modSession i fun x =>
          { x with lastAt := s.clock.now, lastReq := some (witBytes m), lastResp := none }) :=
        State.modSession_within (hF.drop (by decide)) (Within.reg .SEC_SESS_CTR _ 0 rfl (hF.may (by decide)) hS)
      have h2 : ∀ r : State × WitrigResp, Within1 Ma Na ba s₀ r → Within Ma Na ba s₀ (r.1.modSession i fun x => { x with lastResp := some r.2 }) :=
        fun r hr => State.modSession_within (hF.drop (by decide)) hr
      exact Within1.mk (Within.ite (State.closeSession_within (hF.drop (by decide)) (h2 _ (hf _ h1))) (h2 _ (hf _ h1)))
    · split
      · split
        · exact Within1.ite hS hS
        · exact hS
      · exact hS

theorem State.witWrites_within {Ma Na ba : Nat} {s₀ : State} {src : Src} {m : WitrigMsg} {n k : Nat} {s : State} (hF : Foot Ma Na ba 0x56258a06887b11ed2566fea701460100108093121ada1fb8901ffffff 0x0 (0))
    (hS : Within Ma Na ba s₀ s) : Within1 Ma Na ba s₀ (State.witWrites src m n k s) := by
  induction n generalizing s k with
  | zero => exact hS
  | succ n ih =>
    have h := State.mgmtWrite_within (src := src) (a := witAt m (4 + 16 * k) 4) (v := BitVec.ofNat 64 (witAt m (12 + 16 * k) 8)) (hF.drop (by decide)) hS
    unfold State.witWrites
    split
    · rename_i hq
      exact Within1.ite (ih (Within1.take hq h)) (Within1.mk (Within1.take hq h))
    · rename_i hq
      exact Within1.mk (Within1.take hq h)

theorem State.witWrite_within {Ma Na ba : Nat} {s₀ : State} {s : State} {src : Src} {m : WitrigMsg}
    (hF : Foot Ma Na ba 0x56258a06887b11ed2566fea701460100108093121ada1fb8901ffffff 0x0 (0)) (hS : Within Ma Na ba s₀ s) :
    Within1 Ma Na ba s₀ (State.witWrite s src m) := by
  unfold State.witWrite
  refine State.authentic_within (hF.drop (by decide)) ?_ ?_
  · intro t0 w1
    extract_lets -merge +onlyGivenNames y2
    refine have w3 : Within1 Ma Na ba s₀ y2 := ?_; ?_
    · refine State.witWrites_within (hF.drop (by decide)) ?_
      assumption
    clear_value y2
    refine Within1.mk ?_
    refine Within.fst ?_
    assumption
  assumption

theorem State.witChallenge_within {Ma Na ba : Nat} {s₀ : State} {s : State} {m : WitrigMsg}
    (hF : Foot Ma Na ba 0x220000 0x0 (0)) (hS : Within Ma Na ba s₀ s) :
    Within1 Ma Na ba s₀ (State.witChallenge s m) := by
  unfold State.witChallenge
  extract_lets -merge +onlyGivenNames y0
  extract_lets -merge +onlyGivenNames y1
  extract_lets -merge +onlyGivenNames y2
  extract_lets -merge +onlyGivenNames y3
  extract_lets -merge +onlyGivenNames y4
  refine have w5 : Within Ma Na ba s₀ y4 := ?_; ?_
  · refine Within.upd_boot_free (hF.any (by decide)) (hF.any (by decide)) (Nat.le_add_right _ _) ?_
    assumption
  clear_value y4
  refine Within1.mk ?_
  assumption

theorem State.witOpen_within {Ma Na ba : Nat} {s₀ : State} {s : State} {m : WitrigMsg}
    (hF : Foot Ma Na ba 0x60000000000000000000000000000000000000000000000000220000 0x0 (0)) (hS : Within Ma Na ba s₀ s) :
    Within1 Ma Na ba s₀ (State.witOpen s m) := by
  unfold State.witOpen
  extract_lets -merge +onlyGivenNames y0
  extract_lets -merge +onlyGivenNames y1
  extract_lets -merge +onlyGivenNames y2
  extract_lets -merge +onlyGivenNames y3
  extract_lets -merge +onlyGivenNames y4
  refine have w5 : Within Ma Na ba s₀ y4 := ?_; ?_
  · refine Within.upd_boot (hF.any (by decide)) ?_
    assumption
  clear_value y4
  extract_lets -merge +onlyGivenNames y6
  refine Within1.ite ?_ ?_
  · extract_lets -merge +onlyGivenNames y7
    extract_lets -merge +onlyGivenNames y8
    refine have w9 : Within Ma Na ba s₀ y8 := ?_; ?_
    · refine State.closeSession_within (hF.drop (by decide)) ?_
      assumption
    clear_value y8
    extract_lets -merge +onlyGivenNames y10
    extract_lets -merge +onlyGivenNames y11
    extract_lets -merge +onlyGivenNames y12
    refine have w13 : Within Ma Na ba s₀ y12 := ?_; ?_
    · refine Within.reg .SEC_SESS_CTR _ 0 rfl (hF.may (by decide)) ?_
      refine Within.reg .SEC_SESS _ 0 rfl (hF.may (by decide)) ?_
      refine Within.used (hF.any (by decide)) ?_
      assumption
    clear_value y12
    extract_lets -merge +onlyGivenNames y14
    extract_lets -merge +onlyGivenNames y15
    refine have w16 : Within Ma Na ba s₀ y15 := ?_; ?_
    · refine Within.upd_boot_free (hF.any (by decide)) (hF.any (by decide)) (Nat.le_add_right _ _) ?_
      assumption
    clear_value y15
    refine Within1.mk ?_
    assumption
  refine Within1.mk ?_
  assumption

theorem State.witClose_within {Ma Na ba : Nat} {s₀ : State} {s : State} {m : WitrigMsg}
    (hF : Foot Ma Na ba 0x60000000000000000000000000000000000000000000000000020000 0x0 (0)) (hS : Within Ma Na ba s₀ s) :
    Within1 Ma Na ba s₀ (State.witClose s m) := by
  unfold State.witClose
  refine State.authentic_within (hF.drop (by decide)) ?_ ?_
  · intro t0 w1
    refine Within1.mk ?_
    split
    · refine State.closeSession_within (hF.drop (by decide)) ?_
      assumption
    assumption
  assumption

theorem State.witAttest_within {Ma Na ba : Nat} {s₀ : State} {s : State} {m : WitrigMsg}
    (hF : Foot Ma Na ba 0x200000 0x0 (0)) (hS : Within Ma Na ba s₀ s) :
    Within1 Ma Na ba s₀ (State.witAttest s m) := by
  unfold State.witAttest
  extract_lets -merge +onlyGivenNames y0
  extract_lets -merge +onlyGivenNames y1
  refine have w2 : Within Ma Na ba s₀ y1 := ?_; ?_
  · refine Within.upd_free (hF.any (by decide)) (Nat.le_add_right _ _) ?_
    assumption
  clear_value y1
  extract_lets -merge +onlyGivenNames y3
  extract_lets -merge +onlyGivenNames y4
  extract_lets -merge +onlyGivenNames y5
  refine Within1.mk ?_
  assumption

theorem State.sessionIdle_within {Ma Na ba : Nat} {s₀ : State} {s : State} {i : Nat}
    (hF : Foot Ma Na ba 0x20000 0x60000000000000000000000000000000000000000000000000000000 (i)) (hS : Within Ma Na ba s₀ s) :
    Within Ma Na ba s₀ (State.sessionIdle s i) := by
  unfold State.sessionIdle
  split
  · assumption
  refine Within.ite ?_ ?_
  · refine State.closeSession_within (hF.sub (by decide) (by decide)) ?_
    assumption
  assumption

theorem execWitrigRequestRx_within {Ma Na ba : Nat} {s₀ : State} {t : Nat} {msg : WitrigMsg} {short : Bool} {s : State}
    (hF : Foot Ma Na ba 0x1000800000040200000000000000000000000000000000114000 0x0 (0)) (hS : Within Ma Na ba s₀ (s.advance t)) :
    Ends Ma Na ba s₀ (execWitrigRequestRx t msg short s) := by
  unfold execWitrigRequestRx
  refine Ends.mk ?_
  refine State.witrigRx_within (hF.drop (by decide)) ?_
  assumption

theorem execRead_within {Ma Na ba : Nat} {s₀ : State} {t : Nat} {src : Src} {lands : BitVec 64} {s : State}
    (hF : Foot Ma Na ba 0x1000009000040200000000000000000000000000000000116080 0x0 (0)) (hS : Within Ma Na ba s₀ (s.advance t)) :
    Ends Ma Na ba s₀ (execRead t src lands s) := by
  unfold execRead
  refine Ends.mk ?_
  refine State.serve_within (hF.drop (by decide)) ?_ ?_
  · intro t0 x1 w2
    refine State.witRead_within (hF.drop (by decide)) ?_
    assumption
  refine State.seeLands_within (hF.drop (by decide)) ?_
  assumption

theorem execWrite_within {Ma Na ba : Nat} {s₀ : State} {t : Nat} {src : Src} {s : State}
    (hF : Foot Ma Na ba 0x56258b06887b11ed6566fea701460100108093121ada1fb8901ffffff 0x0 (0)) (hS : Within Ma Na ba s₀ (s.advance t)) :
    Ends Ma Na ba s₀ (execWrite t src s) := by
  unfold execWrite
  refine Ends.mk ?_
  refine State.serve_within (hF.drop (by decide)) ?_ ?_
  · intro t0 x1 w2
    refine State.witWrite_within (hF.drop (by decide)) ?_
    assumption
  assumption

theorem execNodes_within {Ma Na ba : Nat} {s₀ : State} {t : Nat} {src : Src} {s : State}
    (hF : Foot Ma Na ba 0x1000000000040200000000000000000000000000000000114000 0x0 (0)) (hS : Within Ma Na ba s₀ (s.advance t)) :
    Ends Ma Na ba s₀ (execNodes t src s) := by
  unfold execNodes
  refine Ends.mk ?_
  refine State.serve_within (hF.drop (by decide)) ?_ ?_
  · intro t0 x1 w2
    refine State.witNodes_within (hF.drop (by decide)) ?_
    assumption
  assumption

theorem execChallenge_within {Ma Na ba : Nat} {s₀ : State} {t : Nat} {src : Src} {s : State}
    (hF : Foot Ma Na ba 0x1000000000040200000000000000000000000000000000334000 0x0 (0)) (hS : Within Ma Na ba s₀ (s.advance t)) :
    Ends Ma Na ba s₀ (execChallenge t src s) := by
  unfold execChallenge
  refine Ends.mk ?_
  refine State.serve_within (hF.drop (by decide)) ?_ ?_
  · intro t0 x1 w2
    refine State.witChallenge_within (hF.drop (by decide)) ?_
    assumption
  assumption

theorem execOpenSession_within {Ma Na ba : Nat} {s₀ : State} {t : Nat} {src : Src} {s : State}
    (hF : Foot Ma Na ba 0x60001000000000040200000000000000000000000000000000334000 0x0 (0)) (hS : Within Ma Na ba s₀ (s.advance t)) :
    Ends Ma Na ba s₀ (execOpenSession t src s) := by
  unfold execOpenSession
  refine Ends.mk ?_
  refine State.serve_within (hF.drop (by decide)) ?_ ?_
  · intro t0 x1 w2
    refine State.witOpen_within (hF.drop (by decide)) ?_
    assumption
  assumption

theorem execCloseSession_within {Ma Na ba : Nat} {s₀ : State} {t : Nat} {src : Src} {s : State}
    (hF : Foot Ma Na ba 0x60001000000000040200000000000000000000000000000000134000 0x0 (0)) (hS : Within Ma Na ba s₀ (s.advance t)) :
    Ends Ma Na ba s₀ (execCloseSession t src s) := by
  unfold execCloseSession
  refine Ends.mk ?_
  refine State.serve_within (hF.drop (by decide)) ?_ ?_
  · intro t0 x1 w2
    refine State.witClose_within (hF.drop (by decide)) ?_
    assumption
  assumption

theorem execAttest_within {Ma Na ba : Nat} {s₀ : State} {t : Nat} {src : Src} {s : State}
    (hF : Foot Ma Na ba 0x1000000000040200000000000000000000000000000000314000 0x0 (0)) (hS : Within Ma Na ba s₀ (s.advance t)) :
    Ends Ma Na ba s₀ (execAttest t src s) := by
  unfold execAttest
  refine Ends.mk ?_
  refine State.serve_within (hF.drop (by decide)) ?_ ?_
  · intro t0 x1 w2
    refine State.witAttest_within (hF.drop (by decide)) ?_
    assumption
  assumption

theorem execSessionIdleTimeout_within {Ma Na ba : Nat} {s₀ : State} {t : Nat} {session : Fin 4} {s : State}
    (hF : Foot Ma Na ba 0x20000 0x60000000000000000000000000000000000000000000000000000000 (session.val)) (hS : Within Ma Na ba s₀ (s.advance t)) :
    Ends Ma Na ba s₀ (execSessionIdleTimeout t session s) := by
  unfold execSessionIdleTimeout
  refine Ends.mk ?_
  refine State.sessionIdle_within (hF.sub (by decide) (by decide)) ?_
  assumption

end Sys2Proof.Machine
end

