-- ==== Sys2Proof/Laws/Keep.lean ====
section
/-! SUPPORT. From masks to footprints: a state within the masks of a footprint keeps to the footprint. -/

namespace Sys2Proof.Machine

theorem Part.ctorIdx_inj {p q : Part} (h : p.ctorIdx = q.ctorIdx) : p = q := by
  rw [← Part.ofNat_ctorIdx p, ← Part.ofNat_ctorIdx q, h]

/-- A part is in a list exactly if its bit is in the list's mask. -/
theorem testBit_maskOf (l : List Part) (p : Part) : (maskOf l).testBit p.ctorIdx = true ↔ p ∈ l := by
  induction l with
  | nil => simp [maskOf]
  | cons q r ih =>
    have : maskOf (q :: r) = (1 <<< q.ctorIdx ||| maskOf r) := rfl
    rw [this, Nat.testBit_or, Bool.or_eq_true, ih, List.mem_cons, Nat.one_shiftLeft, Nat.testBit_two_pow]
    refine or_congr ?_ Iff.rfl
    rw [decide_eq_true_eq]
    exact ⟨fun h => (Part.ctorIdx_inj h).symm, fun h => h ▸ rfl⟩

theorem testBit_maskOf_false {l : List Part} {p : Part} (h : p ∉ l) : (maskOf l).testBit p.ctorIdx = false := by
  rw [← Bool.not_eq_true, testBit_maskOf]
  exact h

/-- A state within a footprint's masks keeps to the footprint. -/
theorem Within.keeps {F : Footprint} {s t : State} (h : Within (maskOf F.any) (maskOf F.own) F.idx s t) : Keeps F s t where
  pending := h.pending
  now := h.now
  fused := h.fused
  keys := h.keys
  driven := h.driven
  counted := h.counted
  fresh := h.fresh
  bundle := fun e => h.bundle (testBit_maskOf_false e)
  ferry := fun e => h.ferry (testBit_maskOf_false e)
  regs := fun a h8 ha => h.regs a h8 fun hc => ha (by
    rcases hc with ⟨h16, ⟨p, i, j, hp, hm⟩ | hm | ⟨hm, hd⟩⟩ | ⟨hm, h16⟩
    · rcases hm with hm | ⟨hm, rfl⟩
      · exact .inl ⟨p, (testBit_maskOf _ _).mp hm, i, j, hp⟩
      · exact .inr (.inl ⟨p, (testBit_maskOf _ _).mp hm, j, hp⟩)
    · exact .inr (.inr (.inl ⟨(testBit_maskOf _ .anyReg).mp hm, h16⟩))
    · refine .inr (.inr (.inr (.inl ⟨?_, h16, hd⟩)))
      rcases hm with hm | ⟨hm, rfl⟩
      · exact .inl ((testBit_maskOf _ .stored).mp hm)
      · exact .inr ⟨(testBit_maskOf _ .stored).mp hm, rfl⟩
    · exact .inr (.inr (.inr (.inr ⟨(testBit_maskOf _ .ids).mp hm, h16⟩))))
  clock := fun e => h.clock (testBit_maskOf_false e)
  gw := fun e => h.gw (testBit_maskOf_false e)
  tt := fun e => h.tt (testBit_maskOf_false e)
  px := fun e => h.px (testBit_maskOf_false e)
  cc := fun e => h.cc (testBit_maskOf_false e)
  cal := fun e => h.cal (testBit_maskOf_false e)
  hk := fun e => h.hk (testBit_maskOf_false e)
  pipe := fun e => h.pipe (testBit_maskOf_false e)
  fs := fun e => h.fs (testBit_maskOf_false e)
  dram := fun e => h.dram (testBit_maskOf_false e)
  fy := fun e e' => h.fy (testBit_maskOf_false e) (testBit_maskOf_false e')
  eg := fun e e' => h.eg (testBit_maskOf_false e) (testBit_maskOf_false e')
  prev := fun e => h.prev (testBit_maskOf_false e)
  pio := fun e => h.pio (testBit_maskOf_false e)
  kf := fun e => h.kf (testBit_maskOf_false e)
  ck := fun e => h.ck (testBit_maskOf_false e)
  eth := fun e => h.eth (testBit_maskOf_false e)
  boot := fun e => h.boot (testBit_maskOf_false e)
  otp := fun e => h.otp (testBit_maskOf_false e)
  flash := fun e => h.flash (testBit_maskOf_false e)
  wire := fun e => h.wire (testBit_maskOf_false e)
  free := fun e => h.free (testBit_maskOf_false e)

/-- Where every register may change, the masks of registers do not matter. -/
theorem Within.absorb {M N b M' N' b' : Nat} {s t : State} (h : Within M N b s t) (ha : M'.testBit 22 = true) (hi : M'.testBit 24 = true)
    (hc : (M ||| N) &&& 0x3fffff ||| M' = M') : Within M' N' b' s t := by
  have low : ∀ k, k < 22 → M'.testBit k = false → M.testBit k = false ∧ N.testBit k = false := by
    intro k hk hf
    have h1 : ((M ||| N) &&& 0x3fffff).testBit k = false := by
      rw [← hc, Nat.testBit_or, Bool.or_eq_false_iff] at hf
      exact hf.1
    have h2 : (0x3fffff : Nat).testBit k = true := by
      have : ∀ k, k < 22 → (0x3fffff : Nat).testBit k = true := by decide
      exact this k hk
    rw [Nat.testBit_and, h2, Bool.and_true, Nat.testBit_or, Bool.or_eq_false_iff] at h1
    exact h1
  exact {
    pending := h.pending, now := h.now, fused := h.fused, keys := h.keys, driven := h.driven, counted := h.counted, fresh := h.fresh, sound := h.sound
    regs := fun a _ hx => by
      refine absurd ?_ hx
      by_cases h16 : 16 ≤ a
      · exact .inl ⟨h16, .inr (.inl ha)⟩
      · exact .inr ⟨hi, by omega⟩
    bundle := fun e i _ => by rw [h.eg (low _ (by decide) e).1 (low _ (by decide) e).2]
    ferry := fun e i _ => by rw [h.fy (low _ (by decide) e).1 (low _ (by decide) e).2]
    clock := fun e => h.clock (low _ (by decide) e).1
    gw := fun e => h.gw (low _ (by decide) e).1
    tt := fun e => h.tt (low _ (by decide) e).1
    px := fun e => h.px (low _ (by decide) e).1
    cc := fun e => h.cc (low _ (by decide) e).1
    cal := fun e => h.cal (low _ (by decide) e).1
    hk := fun e => h.hk (low _ (by decide) e).1
    pipe := fun e => h.pipe (low _ (by decide) e).1
    fs := fun e => h.fs (low _ (by decide) e).1
    dram := fun e => h.dram (low _ (by decide) e).1
    fy := fun e _ => h.fy (low _ (by decide) e).1 (low _ (by decide) e).2
    eg := fun e _ => h.eg (low _ (by decide) e).1 (low _ (by decide) e).2
    prev := fun e => h.prev (low _ (by decide) e).1
    pio := fun e => h.pio (low _ (by decide) e).1
    kf := fun e => h.kf (low _ (by decide) e).1
    ck := fun e => h.ck (low _ (by decide) e).1
    eth := fun e => h.eth (low _ (by decide) e).1
    boot := fun e => h.boot (low _ (by decide) e).1
    otp := fun e => h.otp (low _ (by decide) e).1
    flash := fun e => h.flash (low _ (by decide) e).1
    wire := fun e => h.wire (low _ (by decide) e).1
    free := fun e => h.free (low _ (by decide) e).1 }

/-- A meaning within masks, for a command whose footprint has the same masks. -/
theorem Ends.keeps {F : Footprint} {s t : State} {r : Result} (h : Ends (maskOf F.any) (maskOf F.own) F.idx s r) (hr : r = .next t) : Keeps F s t :=
  (h t hr).keeps

end Sys2Proof.Machine
end

