-- ==== Sys2Proof/Laws/Span.lean ====
section
/-! SUPPORT. Where the registers of a block lie, and which blocks do not meet: what a command's suffix leaves of a register. -/

namespace Sys2Proof.Machine

/-- Where a block's registers lie: from `lo` to below `hi`, and at two moduli in windows of the residues. -/
structure Span where
  lo : Nat
  hi : Nat
  m : Nat
  r : Nat
  w : Nat
  m' : Nat
  r' : Nat
  w' : Nat

/-- An address in a span. -/
def Span.has (s : Span) (a : Nat) : Prop :=
  s.lo ≤ a ∧ a < s.hi ∧ s.r ≤ a % s.m ∧ a % s.m < s.r + s.w ∧ s.r' ≤ a % s.m' ∧ a % s.m' < s.r' + s.w'

/-- Two spans that share no address, by their ranges or by their residues. -/
def Span.apart (s t : Span) : Bool :=
  Nat.ble s.hi t.lo || Nat.ble t.hi s.lo || (Nat.beq s.m t.m && (Nat.ble (s.r + s.w) t.r || Nat.ble (t.r + t.w) s.r)) ||
    (Nat.beq s.m' t.m' && (Nat.ble (s.r' + s.w') t.r' || Nat.ble (t.r' + t.w') s.r'))

theorem Span.apart_ne {s t : Span} {a : Nat} (h : s.apart t = true) (hs : s.has a) : ¬ t.has a := by
  rintro ⟨h1, h2, h3, h4, h5, h6⟩
  obtain ⟨g1, g2, g3, g4, g5, g6⟩ := hs
  simp only [Span.apart, Bool.or_eq_true, Bool.and_eq_true, Nat.ble_eq, Nat.beq_eq] at h
  rcases h with ((h | h) | ⟨e, h | h⟩) | ⟨e, h | h⟩
  · omega
  · omega
  · rw [e] at g3 g4; omega
  · rw [e] at g3 g4; omega
  · rw [e] at g5 g6; omega
  · rw [e] at g5 g6; omega

/-- The span of a block of registers; parts that are no block get an empty one. -/
def Part.span (p : Part) : Span :=
  match p with
  | .clock | .gw | .tt | .px | .cc | .cal | .hk | .pipe | .fs | .dram | .fy | .eg | .prev | .pio | .kf | .ck | .eth | .boot | .otp | .flash | .wire | .free | .anyReg | .stored | .ids => ⟨0, 0, 1, 0, 1, 1, 0, 1⟩
  | .ID_SCRATCH => ⟨0x10, 0x18, 0x1, 0x0, 0x1, 0x1, 0x0, 0x1⟩
  | .PWR_STAT => ⟨0x10000, 0x10008, 0x1, 0x0, 0x1, 0x1, 0x0, 0x1⟩
  | .PWR_SUP => ⟨0x10008, 0x10010, 0x1, 0x0, 0x1, 0x1, 0x0, 0x1⟩
  | .PWR_LIM => ⟨0x10100, 0x10180, 0x8, 0x0, 0x8, 0x1, 0x0, 0x1⟩
  | .HK_CFG => ⟨0x18000, 0x18008, 0x1, 0x0, 0x1, 0x1, 0x0, 0x1⟩
  | .HK_SEQ => ⟨0x18008, 0x18010, 0x1, 0x0, 0x1, 0x1, 0x0, 0x1⟩
  | .HK_INJ => ⟨0x18010, 0x18018, 0x1, 0x0, 0x1, 0x1, 0x0, 0x1⟩
  | .HK_STATUS => ⟨0x18018, 0x18020, 0x1, 0x0, 0x1, 0x1, 0x0, 0x1⟩
  | .HK_INJ_RES => ⟨0x18020, 0x18040, 0x8, 0x0, 0x8, 0x1, 0x0, 0x1⟩
  | .HK_RES => ⟨0x18040, 0x180c0, 0x8, 0x0, 0x8, 0x1, 0x0, 0x1⟩
  | .CK_STATUS => ⟨0x20000, 0x20008, 0x1, 0x0, 0x1, 0x1, 0x0, 0x1⟩
  | .CK_POLICY => ⟨0x20008, 0x20010, 0x1, 0x0, 0x1, 0x1, 0x0, 0x1⟩
  | .CK_GO => ⟨0x20010, 0x20018, 0x1, 0x0, 0x1, 0x1, 0x0, 0x1⟩
  | .CK_SYNC_AT => ⟨0x20018, 0x20020, 0x1, 0x0, 0x1, 0x1, 0x0, 0x1⟩
  | .CK_SYNC_TIME => ⟨0x20020, 0x20028, 0x1, 0x0, 0x1, 0x1, 0x0, 0x1⟩
  | .CK_PLL => ⟨0x20100, 0x201b8, 0x10, 0x0, 0x8, 0x1, 0x0, 0x1⟩
  | .CK_PSTAT => ⟨0x20108, 0x201c0, 0x10, 0x8, 0x8, 0x1, 0x0, 0x1⟩
  | .CK_BAND => ⟨0x20400, 0x20600, 0x8, 0x0, 0x8, 0x1, 0x0, 0x1⟩
  | .CK_OUT => ⟨0x20800, 0x20830, 0x8, 0x0, 0x8, 0x1, 0x0, 0x1⟩
  | .TT_MODE => ⟨0x40000, 0x40008, 0x1, 0x0, 0x1, 0x1, 0x0, 0x1⟩
  | .TT_EXP_A => ⟨0x40008, 0x40010, 0x1, 0x0, 0x1, 0x1, 0x0, 0x1⟩
  | .TT_EXP_B => ⟨0x40010, 0x40018, 0x1, 0x0, 0x1, 0x1, 0x0, 0x1⟩
  | .TT_PERIOD => ⟨0x40018, 0x40020, 0x1, 0x0, 0x1, 0x1, 0x0, 0x1⟩
  | .TT_ANCHOR => ⟨0x40020, 0x40028, 0x1, 0x0, 0x1, 0x1, 0x0, 0x1⟩
  | .TT_TRIG_CFG => ⟨0x40028, 0x40030, 0x1, 0x0, 0x1, 0x1, 0x0, 0x1⟩
  | .TT_TRIG_DELAY => ⟨0x40030, 0x40038, 0x1, 0x0, 0x1, 0x1, 0x0, 0x1⟩
  | .TT_SW_TRIG => ⟨0x40038, 0x40040, 0x1, 0x0, 0x1, 0x1, 0x0, 0x1⟩
  | .TT_SCHED_TIME => ⟨0x40040, 0x40048, 0x1, 0x0, 0x1, 0x1, 0x0, 0x1⟩
  | .TT_SCHED_CTL => ⟨0x40048, 0x40050, 0x1, 0x0, 0x1, 0x1, 0x0, 0x1⟩
  | .TT_ENC_CFG => ⟨0x40050, 0x40058, 0x1, 0x0, 0x1, 0x1, 0x0, 0x1⟩
  | .TT_ENC_POS => ⟨0x40058, 0x40060, 0x1, 0x0, 0x1, 0x1, 0x0, 0x1⟩
  | .TT_ENC_NEXT => ⟨0x40060, 0x40068, 0x1, 0x0, 0x1, 0x1, 0x0, 0x1⟩
  | .TT_ENC_CTL => ⟨0x40068, 0x40070, 0x1, 0x0, 0x1, 0x1, 0x0, 0x1⟩
  | .TT_ACCUM => ⟨0x40070, 0x40078, 0x1, 0x0, 0x1, 0x1, 0x0, 0x1⟩
  | .TT_BURST => ⟨0x40078, 0x40080, 0x1, 0x0, 0x1, 0x1, 0x0, 0x1⟩
  | .TT_STRIP => ⟨0x40080, 0x40088, 0x1, 0x0, 0x1, 0x1, 0x0, 0x1⟩
  | .TT_MAP_CFG => ⟨0x40088, 0x40090, 0x1, 0x0, 0x1, 0x1, 0x0, 0x1⟩
  | .TT_MAP_SRC => ⟨0x40090, 0x40098, 0x1, 0x0, 0x1, 0x1, 0x0, 0x1⟩
  | .TT_STATUS => ⟨0x40098, 0x400a0, 0x1, 0x0, 0x1, 0x1, 0x0, 0x1⟩
  | .TT_CNT_TRIG => ⟨0x400a0, 0x400a8, 0x1, 0x0, 0x1, 0x1, 0x0, 0x1⟩
  | .TT_CNT_FRAME => ⟨0x400a8, 0x400b0, 0x1, 0x0, 0x1, 0x1, 0x0, 0x1⟩
  | .TT_EVLOG_TIME => ⟨0x400b0, 0x400b8, 0x1, 0x0, 0x1, 0x1, 0x0, 0x1⟩
  | .TT_EVLOG_INFO => ⟨0x400b8, 0x400c0, 0x1, 0x0, 0x1, 0x1, 0x0, 0x1⟩
  | .TT_EVLOG_POP => ⟨0x400c0, 0x400c8, 0x1, 0x0, 0x1, 0x1, 0x0, 0x1⟩
  | .TT_PIX_CFG => ⟨0x70000, 0x70008, 0x1, 0x0, 0x1, 0x1, 0x0, 0x1⟩
  | .TT_MAP => ⟨0x80000, 0x90000, 0x8, 0x0, 0x8, 0x1, 0x0, 0x1⟩
  | .TT_MAP_USE => ⟨0x90000, 0xa0000, 0x8, 0x0, 0x8, 0x1, 0x0, 0x1⟩
  | .CC_CFG => ⟨0x100000, 0x100008, 0x1, 0x0, 0x1, 0x1, 0x0, 0x1⟩
  | .CC_ROT_CFG => ⟨0x100008, 0x100010, 0x1, 0x0, 0x1, 0x1, 0x0, 0x1⟩
  | .CC_INJ_CFG => ⟨0x100010, 0x100018, 0x1, 0x0, 0x1, 0x1, 0x0, 0x1⟩
  | .CC_INJ_REQ => ⟨0x100018, 0x100020, 0x1, 0x0, 0x1, 0x1, 0x0, 0x1⟩
  | .CC_STATUS => ⟨0x100020, 0x100028, 0x1, 0x0, 0x1, 0x1, 0x0, 0x1⟩
  | .CC_CNT => ⟨0x100028, 0x100030, 0x1, 0x0, 0x1, 0x1, 0x0, 0x1⟩
  | .CC_CONV => ⟨0x110000, 0x150800, 0x8, 0x0, 0x8, 0x1, 0x0, 0x1⟩
  | .CAL_CFG => ⟨0x200000, 0x200008, 0x1, 0x0, 0x1, 0x1, 0x0, 0x1⟩
  | .CAL_STATUS => ⟨0x200008, 0x200010, 0x1, 0x0, 0x1, 0x1, 0x0, 0x1⟩
  | .CAL_EPOCH => ⟨0x200010, 0x200018, 0x1, 0x0, 0x1, 0x1, 0x0, 0x1⟩
  | .CAL_CNT => ⟨0x200018, 0x200020, 0x1, 0x0, 0x1, 0x1, 0x0, 0x1⟩
  | .CAL_TAP => ⟨0x220000, 0x423fe8, 0x40, 0x0, 0x28, 0x8, 0x0, 0x8⟩
  | .CAL_REC => ⟨0x220028, 0x423ff0, 0x40, 0x28, 0x8, 0x1, 0x0, 0x1⟩
  | .CAL_TIME => ⟨0x220030, 0x423ff8, 0x40, 0x30, 0x8, 0x1, 0x0, 0x1⟩
  | .CTX_CTL => ⟨0x800000, 0x8bff08, 0x100, 0x0, 0x8, 0x1, 0x0, 0x1⟩
  | .CTX_WIN => ⟨0x800008, 0x8bff10, 0x100, 0x8, 0x8, 0x1, 0x0, 0x1⟩
  | .CTX_DEST => ⟨0x800010, 0x8bff18, 0x100, 0x10, 0x8, 0x1, 0x0, 0x1⟩
  | .CTX_CHAIN => ⟨0x800018, 0x8bff20, 0x100, 0x18, 0x8, 0x1, 0x0, 0x1⟩
  | .CTX_ST0 => ⟨0x800080, 0x8bff88, 0x100, 0x80, 0x8, 0x1, 0x0, 0x1⟩
  | .CTX_ST1 => ⟨0x800088, 0x8bff90, 0x100, 0x88, 0x8, 0x1, 0x0, 0x1⟩
  | .PIPE_CFG => ⟨0x1000000, 0x1000008, 0x1, 0x0, 0x1, 0x1, 0x0, 0x1⟩
  | .PIPE_NR => ⟨0x1000008, 0x1000010, 0x1, 0x0, 0x1, 0x1, 0x0, 0x1⟩
  | .PIPE_CLAMP => ⟨0x1000010, 0x1000018, 0x1, 0x0, 0x1, 0x1, 0x0, 0x1⟩
  | .PIPE_HDR => ⟨0x1000018, 0x1000020, 0x1, 0x0, 0x1, 0x1, 0x0, 0x1⟩
  | .PIPE_STATUS => ⟨0x1000020, 0x1000028, 0x1, 0x0, 0x1, 0x1, 0x0, 0x1⟩
  | .PIPE_CNT => ⟨0x1000028, 0x1000030, 0x1, 0x0, 0x1, 0x1, 0x0, 0x1⟩
  | .PIPE_LOAD => ⟨0x1000030, 0x1000038, 0x1, 0x0, 0x1, 0x1, 0x0, 0x1⟩
  | .PIPE_BLACK => ⟨0x1001000, 0x1001200, 0x10, 0x0, 0x10, 0x8, 0x0, 0x8⟩
  | .PIPE_CURVE => ⟨0x1002000, 0x1002708, 0x200, 0x0, 0x108, 0x8, 0x0, 0x8⟩
  | .PIPE_CURVE_OFS => ⟨0x1002108, 0x1002710, 0x200, 0x108, 0x8, 0x1, 0x0, 0x1⟩
  | .PIPE_DEFECT => ⟨0x1004000, 0x100c000, 0x8, 0x0, 0x8, 0x1, 0x0, 0x1⟩
  | .PIPE_FPN => ⟨0x1100000, 0x1140000, 0x8, 0x0, 0x8, 0x1, 0x0, 0x1⟩
  | .PIPE_STATS => ⟨0x1400000, 0x1a00000, 0x800, 0x0, 0x800, 0x8, 0x0, 0x8⟩
  | .PIPE_MEAN_HDR => ⟨0x1a00000, 0x1a00010, 0x8, 0x0, 0x8, 0x1, 0x0, 0x1⟩
  | .PIPE_MEAN => ⟨0x1a10000, 0x1a40200, 0x1, 0x0, 0x1, 0x8, 0x0, 0x8⟩
  | .FS_CFG => ⟨0x2000000, 0x2000008, 0x1, 0x0, 0x1, 0x1, 0x0, 0x1⟩
  | .FS_STATUS => ⟨0x2000008, 0x2000010, 0x1, 0x0, 0x1, 0x1, 0x0, 0x1⟩
  | .FS_CNT => ⟨0x2000010, 0x2000018, 0x1, 0x0, 0x1, 0x1, 0x0, 0x1⟩
  | .FS_MIRROR => ⟨0x2000100, 0x2000280, 0x8, 0x0, 0x8, 0x1, 0x0, 0x1⟩
  | .FS_RC_KEY => ⟨0x2000400, 0x2000408, 0x1, 0x0, 0x1, 0x1, 0x0, 0x1⟩
  | .FS_RC_LINES => ⟨0x2000408, 0x2000410, 0x1, 0x0, 0x1, 0x1, 0x0, 0x1⟩
  | .FS_RC_COLS => ⟨0x2000410, 0x2000418, 0x1, 0x0, 0x1, 0x1, 0x0, 0x1⟩
  | .FS_RC_GO => ⟨0x2000418, 0x2000420, 0x1, 0x0, 0x1, 0x1, 0x0, 0x1⟩
  | .FS_RC_RES => ⟨0x2000420, 0x2000428, 0x1, 0x0, 0x1, 0x1, 0x0, 0x1⟩
  | .FS_RC_POP => ⟨0x2000428, 0x2000430, 0x1, 0x0, 0x1, 0x1, 0x0, 0x1⟩
  | .FS_BERTH => ⟨0x2010000, 0x2013ff8, 0x10, 0x0, 0x8, 0x1, 0x0, 0x1⟩
  | .FS_BSTATE => ⟨0x2010008, 0x2014000, 0x10, 0x8, 0x8, 0x1, 0x0, 0x1⟩
  | .FY_DONE => ⟨0x3000000, 0x3000008, 0x1, 0x0, 0x1, 0x1, 0x0, 0x1⟩
  | .FY_ERR => ⟨0x3000008, 0x3000010, 0x1, 0x0, 0x1, 0x1, 0x0, 0x1⟩
  | .FY_BUSY => ⟨0x3000010, 0x3000018, 0x1, 0x0, 0x1, 0x1, 0x0, 0x1⟩
  | .FY_CTL => ⟨0x3001000, 0x30017c8, 0x40, 0x0, 0x8, 0x1, 0x0, 0x1⟩
  | .FY_KICK => ⟨0x3001008, 0x30017d0, 0x40, 0x8, 0x8, 0x1, 0x0, 0x1⟩
  | .FY_STAT => ⟨0x3001010, 0x30017d8, 0x40, 0x10, 0x8, 0x1, 0x0, 0x1⟩
  | .FY_LAST => ⟨0x3001018, 0x30017e0, 0x40, 0x18, 0x8, 0x1, 0x0, 0x1⟩
  | .FY_TIME => ⟨0x3001020, 0x30017e8, 0x40, 0x20, 0x8, 0x1, 0x0, 0x1⟩
  | .FY_CNT => ⟨0x3001028, 0x30017f0, 0x40, 0x28, 0x8, 0x1, 0x0, 0x1⟩
  | .FY_DLV => ⟨0x3001030, 0x30017f8, 0x40, 0x30, 0x8, 0x1, 0x0, 0x1⟩
  | .FY_DLVT => ⟨0x3001038, 0x3001800, 0x40, 0x38, 0x8, 0x1, 0x0, 0x1⟩
  | .FY_DESC => ⟨0x3100000, 0x3200000, 0x40, 0x0, 0x40, 0x8, 0x0, 0x8⟩
  | .EG_CFG => ⟨0x4000000, 0x4000008, 0x1, 0x0, 0x1, 0x1, 0x0, 0x1⟩
  | .EG_STATUS => ⟨0x4000008, 0x4000010, 0x1, 0x0, 0x1, 0x1, 0x0, 0x1⟩
  | .EG_BCTL => ⟨0x4001000, 0x4001708, 0x100, 0x0, 0x8, 0x1, 0x0, 0x1⟩
  | .EG_BSTAT => ⟨0x4001008, 0x4001710, 0x100, 0x8, 0x8, 0x1, 0x0, 0x1⟩
  | .EG_BCAP => ⟨0x4001010, 0x4001718, 0x100, 0x10, 0x8, 0x1, 0x0, 0x1⟩
  | .EG_BCNT0 => ⟨0x4001018, 0x4001720, 0x100, 0x18, 0x8, 0x1, 0x0, 0x1⟩
  | .EG_BCNT1 => ⟨0x4001020, 0x4001728, 0x100, 0x20, 0x8, 0x1, 0x0, 0x1⟩
  | .EG_BCRED => ⟨0x4001028, 0x4001730, 0x100, 0x28, 0x8, 0x1, 0x0, 0x1⟩
  | .EG_BTIME => ⟨0x4001030, 0x4001738, 0x100, 0x30, 0x8, 0x1, 0x0, 0x1⟩
  | .LN_CFG => ⟨0x5000000, 0x5000008, 0x1, 0x0, 0x1, 0x1, 0x0, 0x1⟩
  | .LN_STATUS => ⟨0x5000008, 0x5000010, 0x1, 0x0, 0x1, 0x1, 0x0, 0x1⟩
  | .LN_BCTL => ⟨0x5001000, 0x5002c08, 0x400, 0x0, 0x8, 0x1, 0x0, 0x1⟩
  | .LN_BSTAT => ⟨0x5001008, 0x5002c10, 0x400, 0x8, 0x8, 0x1, 0x0, 0x1⟩
  | .LN_LCTL => ⟨0x5001100, 0x5002e88, 0x400, 0x100, 0x188, 0x40, 0x0, 0x8⟩
  | .LN_LSTAT => ⟨0x5001108, 0x5002e90, 0x400, 0x108, 0x188, 0x40, 0x8, 0x8⟩
  | .LN_LTXEQ => ⟨0x5001110, 0x5002e98, 0x400, 0x110, 0x188, 0x40, 0x10, 0x8⟩
  | .LN_LTEST => ⟨0x5001118, 0x5002ea0, 0x400, 0x118, 0x188, 0x40, 0x18, 0x8⟩
  | .LN_LINJ => ⟨0x5001120, 0x5002ea8, 0x400, 0x120, 0x188, 0x40, 0x20, 0x8⟩
  | .LN_LPERR => ⟨0x5001128, 0x5002eb0, 0x400, 0x128, 0x188, 0x40, 0x28, 0x8⟩
  | .LN_LPBITS => ⟨0x5001130, 0x5002eb8, 0x400, 0x130, 0x188, 0x40, 0x30, 0x8⟩
  | .LN_LCNT => ⟨0x5001138, 0x5002ec0, 0x400, 0x138, 0x188, 0x40, 0x38, 0x8⟩
  | .FB_CFG => ⟨0x6000000, 0x6000008, 0x1, 0x0, 0x1, 0x1, 0x0, 0x1⟩
  | .FB_STATUS => ⟨0x6000008, 0x6000010, 0x1, 0x0, 0x1, 0x1, 0x0, 0x1⟩
  | .FB_ROOT => ⟨0x6000010, 0x6000018, 0x1, 0x0, 0x1, 0x1, 0x0, 0x1⟩
  | .FB_TIME => ⟨0x6000018, 0x6000020, 0x1, 0x0, 0x1, 0x1, 0x0, 0x1⟩
  | .FB_TSTAT => ⟨0x6000020, 0x6000028, 0x1, 0x0, 0x1, 0x1, 0x0, 0x1⟩
  | .FB_TRIG_CFG => ⟨0x6000028, 0x6000030, 0x1, 0x0, 0x1, 0x1, 0x0, 0x1⟩
  | .FB_TRIG_CNT => ⟨0x6000030, 0x6000038, 0x1, 0x0, 0x1, 0x1, 0x0, 0x1⟩
  | .FB_TTS_CFG => ⟨0x6000038, 0x6000040, 0x1, 0x0, 0x1, 0x1, 0x0, 0x1⟩
  | .FB_GO => ⟨0x6000040, 0x6000048, 0x1, 0x0, 0x1, 0x1, 0x0, 0x1⟩
  | .FB_TTS_STAT => ⟨0x6000048, 0x6000050, 0x1, 0x0, 0x1, 0x1, 0x0, 0x1⟩
  | .FB_TUN_CNT => ⟨0x6000050, 0x6000058, 0x1, 0x0, 0x1, 0x1, 0x0, 0x1⟩
  | .FB_PCTL => ⟨0x6001000, 0x6001388, 0x80, 0x0, 0x8, 0x1, 0x0, 0x1⟩
  | .FB_PSTAT => ⟨0x6001008, 0x6001390, 0x80, 0x8, 0x8, 0x1, 0x0, 0x1⟩
  | .FB_PDELAY => ⟨0x6001010, 0x6001398, 0x80, 0x10, 0x8, 0x1, 0x0, 0x1⟩
  | .FB_PCNT => ⟨0x6001018, 0x60013a0, 0x80, 0x18, 0x8, 0x1, 0x0, 0x1⟩
  | .FB_PTEST => ⟨0x6001020, 0x60013a8, 0x80, 0x20, 0x8, 0x1, 0x0, 0x1⟩
  | .FB_PINJ => ⟨0x6001028, 0x60013b0, 0x80, 0x28, 0x8, 0x1, 0x0, 0x1⟩
  | .FB_PPERR => ⟨0x6001030, 0x60013b8, 0x80, 0x30, 0x8, 0x1, 0x0, 0x1⟩
  | .FB_PPBITS => ⟨0x6001038, 0x60013c0, 0x80, 0x38, 0x8, 0x1, 0x0, 0x1⟩
  | .FB_NODE_ID => ⟨0x6002000, 0x60023f8, 0x10, 0x0, 0x8, 0x1, 0x0, 0x1⟩
  | .FB_NODE_INFO => ⟨0x6002008, 0x6002400, 0x10, 0x8, 0x8, 0x1, 0x0, 0x1⟩
  | .PIO_STATUS => ⟨0x7000000, 0x7000008, 0x1, 0x0, 0x1, 0x1, 0x0, 0x1⟩
  | .PIO_IN => ⟨0x7000008, 0x7000010, 0x1, 0x0, 0x1, 0x1, 0x0, 0x1⟩
  | .PIO_OUT => ⟨0x7000010, 0x7000018, 0x1, 0x0, 0x1, 0x1, 0x0, 0x1⟩
  | .PIO_FLAGS => ⟨0x7000018, 0x7000020, 0x1, 0x0, 0x1, 0x1, 0x0, 0x1⟩
  | .PIO_FLAG_SET => ⟨0x7000020, 0x7000028, 0x1, 0x0, 0x1, 0x1, 0x0, 0x1⟩
  | .PIO_FLAG_CLR => ⟨0x7000028, 0x7000030, 0x1, 0x0, 0x1, 0x1, 0x0, 0x1⟩
  | .PIO_HOSTIRQ => ⟨0x7000030, 0x7000038, 0x1, 0x0, 0x1, 0x1, 0x0, 0x1⟩
  | .PIO_PIN => ⟨0x7001000, 0x7001200, 0x8, 0x0, 0x8, 0x1, 0x0, 0x1⟩
  | .PIO_ECTL => ⟨0x7002000, 0x7003e08, 0x200, 0x0, 0x8, 0x1, 0x0, 0x1⟩
  | .PIO_ECMD => ⟨0x7002008, 0x7003e10, 0x200, 0x8, 0x8, 0x1, 0x0, 0x1⟩
  | .PIO_ESTAT => ⟨0x7002010, 0x7003e18, 0x200, 0x10, 0x8, 0x1, 0x0, 0x1⟩
  | .PIO_ESR => ⟨0x7002018, 0x7003e20, 0x200, 0x18, 0x8, 0x1, 0x0, 0x1⟩
  | .PIO_ELC => ⟨0x7002020, 0x7003e28, 0x200, 0x20, 0x8, 0x1, 0x0, 0x1⟩
  | .PIO_DIN => ⟨0x7002028, 0x7003e30, 0x200, 0x28, 0x8, 0x1, 0x0, 0x1⟩
  | .PIO_DOUT => ⟨0x7002030, 0x7003e38, 0x200, 0x30, 0x8, 0x1, 0x0, 0x1⟩
  | .PIO_INJ => ⟨0x7002038, 0x7003e40, 0x200, 0x38, 0x8, 0x1, 0x0, 0x1⟩
  | .PIO_PROG => ⟨0x7002080, 0x7003f80, 0x200, 0x80, 0x100, 0x8, 0x0, 0x8⟩
  | .ETH_CFG => ⟨0x8000000, 0x8000008, 0x1, 0x0, 0x1, 0x1, 0x0, 0x1⟩
  | .ETH_STATUS => ⟨0x8000008, 0x8000010, 0x1, 0x0, 0x1, 0x1, 0x0, 0x1⟩
  | .ETH_MAC => ⟨0x8000010, 0x8000018, 0x1, 0x0, 0x1, 0x1, 0x0, 0x1⟩
  | .ETH_IP => ⟨0x8000018, 0x8000020, 0x1, 0x0, 0x1, 0x1, 0x0, 0x1⟩
  | .ETH_GW => ⟨0x8000020, 0x8000028, 0x1, 0x0, 0x1, 0x1, 0x0, 0x1⟩
  | .ETH_IP_ACT => ⟨0x8000028, 0x8000030, 0x1, 0x0, 0x1, 0x1, 0x0, 0x1⟩
  | .ETH_PTP_CFG => ⟨0x8000030, 0x8000038, 0x1, 0x0, 0x1, 0x1, 0x0, 0x1⟩
  | .ETH_PTP_STAT => ⟨0x8000038, 0x8000040, 0x1, 0x0, 0x1, 0x1, 0x0, 0x1⟩
  | .ETH_PTP_GM => ⟨0x8000040, 0x8000048, 0x1, 0x0, 0x1, 0x1, 0x0, 0x1⟩
  | .ETH_PTP_OFS => ⟨0x8000048, 0x8000050, 0x1, 0x0, 0x1, 0x1, 0x0, 0x1⟩
  | .ETH_PREV_CFG => ⟨0x8000050, 0x8000058, 0x1, 0x0, 0x1, 0x1, 0x0, 0x1⟩
  | .ETH_PREV_DST => ⟨0x8000058, 0x8000060, 0x1, 0x0, 0x1, 0x1, 0x0, 0x1⟩
  | .ETH_PREV_STAT => ⟨0x8000060, 0x8000068, 0x1, 0x0, 0x1, 0x1, 0x0, 0x1⟩
  | .ETH_PREV_CNT => ⟨0x8000068, 0x8000070, 0x1, 0x0, 0x1, 0x1, 0x0, 0x1⟩
  | .ETH_WT_CNT => ⟨0x8000070, 0x8000078, 0x1, 0x0, 0x1, 0x1, 0x0, 0x1⟩
  | .CFG_BOOT_STAT => ⟨0x9000000, 0x9000008, 0x1, 0x0, 0x1, 0x1, 0x0, 0x1⟩
  | .CFG_BOOT_CTL => ⟨0x9000008, 0x9000010, 0x1, 0x0, 0x1, 0x1, 0x0, 0x1⟩
  | .CFG_SLOT => ⟨0x9000010, 0x9000030, 0x8, 0x0, 0x8, 0x1, 0x0, 0x1⟩
  | .CFG_FL_INFO => ⟨0x9000030, 0x9000038, 0x1, 0x0, 0x1, 0x1, 0x0, 0x1⟩
  | .CFG_FL_ADDR => ⟨0x9000038, 0x9000040, 0x1, 0x0, 0x1, 0x1, 0x0, 0x1⟩
  | .CFG_FL_CMD => ⟨0x9000040, 0x9000048, 0x1, 0x0, 0x1, 0x1, 0x0, 0x1⟩
  | .CFG_FL_STAT => ⟨0x9000048, 0x9000050, 0x1, 0x0, 0x1, 0x1, 0x0, 0x1⟩
  | .CFG_FL_BUF => ⟨0x9001000, 0x9002000, 0x8, 0x0, 0x8, 0x1, 0x0, 0x1⟩
  | .SEC_KEY => ⟨0x9002000, 0x90020e0, 0x40, 0x0, 0x20, 0x8, 0x0, 0x8⟩
  | .SEC_KEY_ST => ⟨0x9002020, 0x90020e8, 0x40, 0x20, 0x8, 0x1, 0x0, 0x1⟩
  | .SEC_KEY_NEW => ⟨0x9002100, 0x9002120, 0x8, 0x0, 0x8, 0x1, 0x0, 0x1⟩
  | .SEC_KEY_CTL => ⟨0x9002120, 0x9002128, 0x1, 0x0, 0x1, 0x1, 0x0, 0x1⟩
  | .SEC_KEY_STAT => ⟨0x9002128, 0x9002130, 0x1, 0x0, 0x1, 0x1, 0x0, 0x1⟩
  | .SEC_ID_PUB => ⟨0x9003000, 0x9003040, 0x8, 0x0, 0x8, 0x1, 0x0, 0x1⟩
  | .SEC_ID_CERT_LEN => ⟨0x9003100, 0x9003108, 0x1, 0x0, 0x1, 0x1, 0x0, 0x1⟩
  | .SEC_ID_CERT => ⟨0x9003108, 0x9003508, 0x8, 0x0, 0x8, 0x1, 0x0, 0x1⟩
  | .SEC_SESS => ⟨0x9004000, 0x9004038, 0x10, 0x0, 0x8, 0x1, 0x0, 0x1⟩
  | .SEC_SESS_CTR => ⟨0x9004008, 0x9004040, 0x10, 0x8, 0x8, 0x1, 0x0, 0x1⟩
  | .CFG_GW_COMMIT => ⟨0x9800000, 0x9800008, 0x1, 0x0, 0x1, 0x1, 0x0, 0x1⟩
  | .CFG_GW_STATUS => ⟨0x9800008, 0x9800010, 0x1, 0x0, 0x1, 0x1, 0x0, 0x1⟩
  | .CFG_GW_GEN => ⟨0x9800010, 0x9800018, 0x1, 0x0, 0x1, 0x1, 0x0, 0x1⟩
  | .CFG_GW_CTIME => ⟨0x9800018, 0x9800020, 0x1, 0x0, 0x1, 0x1, 0x0, 0x1⟩
  | .CFG_GW_ITIME => ⟨0x9800020, 0x9800028, 0x1, 0x0, 0x1, 0x1, 0x0, 0x1⟩
  | .CFG_MAN_HEAD => ⟨0x9800028, 0x9800030, 0x1, 0x0, 0x1, 0x1, 0x0, 0x1⟩
  | .CFG_MAN => ⟨0x9804000, 0x9808000, 0x100, 0x0, 0x100, 0x8, 0x0, 0x8⟩

theorem Part.span_has {p : Part} {i j a : Nat} (h : p.addr i j = some a) : p.span.has a := by
  cases p <;> simp only [Part.addr, Option.some.injEq, reduceCtorEq] at h <;> subst h
  · simp only [Part.span, Span.has, Reg.ID_SCRATCH]; omega
  · simp only [Part.span, Span.has, Reg.PWR_STAT]; omega
  · simp only [Part.span, Span.has, Reg.PWR_SUP]; omega
  · simp only [Part.span, Span.has, Reg.PWR_LIM]; omega
  · simp only [Part.span, Span.has, Reg.HK_CFG]; omega
  · simp only [Part.span, Span.has, Reg.HK_SEQ]; omega
  · simp only [Part.span, Span.has, Reg.HK_INJ]; omega
  · simp only [Part.span, Span.has, Reg.HK_STATUS]; omega
  · simp only [Part.span, Span.has, Reg.HK_INJ_RES]; omega
  · simp only [Part.span, Span.has, Reg.HK_RES]; omega
  · simp only [Part.span, Span.has, Reg.CK_STATUS]; omega
  · simp only [Part.span, Span.has, Reg.CK_POLICY]; omega
  · simp only [Part.span, Span.has, Reg.CK_GO]; omega
  · simp only [Part.span, Span.has, Reg.CK_SYNC_AT]; omega
  · simp only [Part.span, Span.has, Reg.CK_SYNC_TIME]; omega
  · simp only [Part.span, Span.has, Reg.CK_PLL]; omega
  · simp only [Part.span, Span.has, Reg.CK_PSTAT]; omega
  · simp only [Part.span, Span.has, Reg.CK_BAND]; omega
  · simp only [Part.span, Span.has, Reg.CK_OUT]; omega
  · simp only [Part.span, Span.has, Reg.TT_MODE]; omega
  · simp only [Part.span, Span.has, Reg.TT_EXP_A]; omega
  · simp only [Part.span, Span.has, Reg.TT_EXP_B]; omega
  · simp only [Part.span, Span.has, Reg.TT_PERIOD]; omega
  · simp only [Part.span, Span.has, Reg.TT_ANCHOR]; omega
  · simp only [Part.span, Span.has, Reg.TT_TRIG_CFG]; omega
  · simp only [Part.span, Span.has, Reg.TT_TRIG_DELAY]; omega
  · simp only [Part.span, Span.has, Reg.TT_SW_TRIG]; omega
  · simp only [Part.span, Span.has, Reg.TT_SCHED_TIME]; omega
  · simp only [Part.span, Span.has, Reg.TT_SCHED_CTL]; omega
  · simp only [Part.span, Span.has, Reg.TT_ENC_CFG]; omega
  · simp only [Part.span, Span.has, Reg.TT_ENC_POS]; omega
  · simp only [Part.span, Span.has, Reg.TT_ENC_NEXT]; omega
  · simp only [Part.span, Span.has, Reg.TT_ENC_CTL]; omega
  · simp only [Part.span, Span.has, Reg.TT_ACCUM]; omega
  · simp only [Part.span, Span.has, Reg.TT_BURST]; omega
  · simp only [Part.span, Span.has, Reg.TT_STRIP]; omega
  · simp only [Part.span, Span.has, Reg.TT_MAP_CFG]; omega
  · simp only [Part.span, Span.has, Reg.TT_MAP_SRC]; omega
  · simp only [Part.span, Span.has, Reg.TT_STATUS]; omega
  · simp only [Part.span, Span.has, Reg.TT_CNT_TRIG]; omega
  · simp only [Part.span, Span.has, Reg.TT_CNT_FRAME]; omega
  · simp only [Part.span, Span.has, Reg.TT_EVLOG_TIME]; omega
  · simp only [Part.span, Span.has, Reg.TT_EVLOG_INFO]; omega
  · simp only [Part.span, Span.has, Reg.TT_EVLOG_POP]; omega
  · simp only [Part.span, Span.has, Reg.TT_PIX_CFG]; omega
  · simp only [Part.span, Span.has, Reg.TT_MAP]; omega
  · simp only [Part.span, Span.has, Reg.TT_MAP_USE]; omega
  · simp only [Part.span, Span.has, Reg.CC_CFG]; omega
  · simp only [Part.span, Span.has, Reg.CC_ROT_CFG]; omega
  · simp only [Part.span, Span.has, Reg.CC_INJ_CFG]; omega
  · simp only [Part.span, Span.has, Reg.CC_INJ_REQ]; omega
  · simp only [Part.span, Span.has, Reg.CC_STATUS]; omega
  · simp only [Part.span, Span.has, Reg.CC_CNT]; omega
  · simp only [Part.span, Span.has, Reg.CC_CONV]; omega
  · simp only [Part.span, Span.has, Reg.CAL_CFG]; omega
  · simp only [Part.span, Span.has, Reg.CAL_STATUS]; omega
  · simp only [Part.span, Span.has, Reg.CAL_EPOCH]; omega
  · simp only [Part.span, Span.has, Reg.CAL_CNT]; omega
  · simp only [Part.span, Span.has, Reg.CAL_TAP]; omega
  · simp only [Part.span, Span.has, Reg.CAL_REC]; omega
  · simp only [Part.span, Span.has, Reg.CAL_TIME]; omega
  · simp only [Part.span, Span.has, Reg.CTX_CTL]; omega
  · simp only [Part.span, Span.has, Reg.CTX_WIN]; omega
  · simp only [Part.span, Span.has, Reg.CTX_DEST]; omega
  · simp only [Part.span, Span.has, Reg.CTX_CHAIN]; omega
  · simp only [Part.span, Span.has, Reg.CTX_ST0]; omega
  · simp only [Part.span, Span.has, Reg.CTX_ST1]; omega
  · simp only [Part.span, Span.has, Reg.PIPE_CFG]; omega
  · simp only [Part.span, Span.has, Reg.PIPE_NR]; omega
  · simp only [Part.span, Span.has, Reg.PIPE_CLAMP]; omega
  · simp only [Part.span, Span.has, Reg.PIPE_HDR]; omega
  · simp only [Part.span, Span.has, Reg.PIPE_STATUS]; omega
  · simp only [Part.span, Span.has, Reg.PIPE_CNT]; omega
  · simp only [Part.span, Span.has, Reg.PIPE_LOAD]; omega
  · simp only [Part.span, Span.has, Reg.PIPE_BLACK]; omega
  · simp only [Part.span, Span.has, Reg.PIPE_CURVE]; omega
  · simp only [Part.span, Span.has, Reg.PIPE_CURVE_OFS]; omega
  · simp only [Part.span, Span.has, Reg.PIPE_DEFECT]; omega
  · simp only [Part.span, Span.has, Reg.PIPE_FPN]; omega
  · simp only [Part.span, Span.has, Reg.PIPE_STATS]; omega
  · simp only [Part.span, Span.has, Reg.PIPE_MEAN_HDR]; omega
  · simp only [Part.span, Span.has, Reg.PIPE_MEAN]; omega
  · simp only [Part.span, Span.has, Reg.FS_CFG]; omega
  · simp only [Part.span, Span.has, Reg.FS_STATUS]; omega
  · simp only [Part.span, Span.has, Reg.FS_CNT]; omega
  · simp only [Part.span, Span.has, Reg.FS_MIRROR]; omega
  · simp only [Part.span, Span.has, Reg.FS_RC_KEY]; omega
  · simp only [Part.span, Span.has, Reg.FS_RC_LINES]; omega
  · simp only [Part.span, Span.has, Reg.FS_RC_COLS]; omega
  · simp only [Part.span, Span.has, Reg.FS_RC_GO]; omega
  · simp only [Part.span, Span.has, Reg.FS_RC_RES]; omega
  · simp only [Part.span, Span.has, Reg.FS_RC_POP]; omega
  · simp only [Part.span, Span.has, Reg.FS_BERTH]; omega
  · simp only [Part.span, Span.has, Reg.FS_BSTATE]; omega
  · simp only [Part.span, Span.has, Reg.FY_DONE]; omega
  · simp only [Part.span, Span.has, Reg.FY_ERR]; omega
  · simp only [Part.span, Span.has, Reg.FY_BUSY]; omega
  · simp only [Part.span, Span.has, Reg.FY_CTL]; omega
  · simp only [Part.span, Span.has, Reg.FY_KICK]; omega
  · simp only [Part.span, Span.has, Reg.FY_STAT]; omega
  · simp only [Part.span, Span.has, Reg.FY_LAST]; omega
  · simp only [Part.span, Span.has, Reg.FY_TIME]; omega
  · simp only [Part.span, Span.has, Reg.FY_CNT]; omega
  · simp only [Part.span, Span.has, Reg.FY_DLV]; omega
  · simp only [Part.span, Span.has, Reg.FY_DLVT]; omega
  · simp only [Part.span, Span.has, Reg.FY_DESC]; omega
  · simp only [Part.span, Span.has, Reg.EG_CFG]; omega
  · simp only [Part.span, Span.has, Reg.EG_STATUS]; omega
  · simp only [Part.span, Span.has, Reg.EG_BCTL]; omega
  · simp only [Part.span, Span.has, Reg.EG_BSTAT]; omega
  · simp only [Part.span, Span.has, Reg.EG_BCAP]; omega
  · simp only [Part.span, Span.has, Reg.EG_BCNT0]; omega
  · simp only [Part.span, Span.has, Reg.EG_BCNT1]; omega
  · simp only [Part.span, Span.has, Reg.EG_BCRED]; omega
  · simp only [Part.span, Span.has, Reg.EG_BTIME]; omega
  · simp only [Part.span, Span.has, Reg.LN_CFG]; omega
  · simp only [Part.span, Span.has, Reg.LN_STATUS]; omega
  · simp only [Part.span, Span.has, Reg.LN_BCTL]; omega
  · simp only [Part.span, Span.has, Reg.LN_BSTAT]; omega
  · simp only [Part.span, Span.has, Reg.LN_LCTL]; omega
  · simp only [Part.span, Span.has, Reg.LN_LSTAT]; omega
  · simp only [Part.span, Span.has, Reg.LN_LTXEQ]; omega
  · simp only [Part.span, Span.has, Reg.LN_LTEST]; omega
  · simp only [Part.span, Span.has, Reg.LN_LINJ]; omega
  · simp only [Part.span, Span.has, Reg.LN_LPERR]; omega
  · simp only [Part.span, Span.has, Reg.LN_LPBITS]; omega
  · simp only [Part.span, Span.has, Reg.LN_LCNT]; omega
  · simp only [Part.span, Span.has, Reg.FB_CFG]; omega
  · simp only [Part.span, Span.has, Reg.FB_STATUS]; omega
  · simp only [Part.span, Span.has, Reg.FB_ROOT]; omega
  · simp only [Part.span, Span.has, Reg.FB_TIME]; omega
  · simp only [Part.span, Span.has, Reg.FB_TSTAT]; omega
  · simp only [Part.span, Span.has, Reg.FB_TRIG_CFG]; omega
  · simp only [Part.span, Span.has, Reg.FB_TRIG_CNT]; omega
  · simp only [Part.span, Span.has, Reg.FB_TTS_CFG]; omega
  · simp only [Part.span, Span.has, Reg.FB_GO]; omega
  · simp only [Part.span, Span.has, Reg.FB_TTS_STAT]; omega
  · simp only [Part.span, Span.has, Reg.FB_TUN_CNT]; omega
  · simp only [Part.span, Span.has, Reg.FB_PCTL]; omega
  · simp only [Part.span, Span.has, Reg.FB_PSTAT]; omega
  · simp only [Part.span, Span.has, Reg.FB_PDELAY]; omega
  · simp only [Part.span, Span.has, Reg.FB_PCNT]; omega
  · simp only [Part.span, Span.has, Reg.FB_PTEST]; omega
  · simp only [Part.span, Span.has, Reg.FB_PINJ]; omega
  · simp only [Part.span, Span.has, Reg.FB_PPERR]; omega
  · simp only [Part.span, Span.has, Reg.FB_PPBITS]; omega
  · simp only [Part.span, Span.has, Reg.FB_NODE_ID]; omega
  · simp only [Part.span, Span.has, Reg.FB_NODE_INFO]; omega
  · simp only [Part.span, Span.has, Reg.PIO_STATUS]; omega
  · simp only [Part.span, Span.has, Reg.PIO_IN]; omega
  · simp only [Part.span, Span.has, Reg.PIO_OUT]; omega
  · simp only [Part.span, Span.has, Reg.PIO_FLAGS]; omega
  · simp only [Part.span, Span.has, Reg.PIO_FLAG_SET]; omega
  · simp only [Part.span, Span.has, Reg.PIO_FLAG_CLR]; omega
  · simp only [Part.span, Span.has, Reg.PIO_HOSTIRQ]; omega
  · simp only [Part.span, Span.has, Reg.PIO_PIN]; omega
  · simp only [Part.span, Span.has, Reg.PIO_ECTL]; omega
  · simp only [Part.span, Span.has, Reg.PIO_ECMD]; omega
  · simp only [Part.span, Span.has, Reg.PIO_ESTAT]; omega
  · simp only [Part.span, Span.has, Reg.PIO_ESR]; omega
  · simp only [Part.span, Span.has, Reg.PIO_ELC]; omega
  · simp only [Part.span, Span.has, Reg.PIO_DIN]; omega
  · simp only [Part.span, Span.has, Reg.PIO_DOUT]; omega
  · simp only [Part.span, Span.has, Reg.PIO_INJ]; omega
  · simp only [Part.span, Span.has, Reg.PIO_PROG]; omega
  · simp only [Part.span, Span.has, Reg.ETH_CFG]; omega
  · simp only [Part.span, Span.has, Reg.ETH_STATUS]; omega
  · simp only [Part.span, Span.has, Reg.ETH_MAC]; omega
  · simp only [Part.span, Span.has, Reg.ETH_IP]; omega
  · simp only [Part.span, Span.has, Reg.ETH_GW]; omega
  · simp only [Part.span, Span.has, Reg.ETH_IP_ACT]; omega
  · simp only [Part.span, Span.has, Reg.ETH_PTP_CFG]; omega
  · simp only [Part.span, Span.has, Reg.ETH_PTP_STAT]; omega
  · simp only [Part.span, Span.has, Reg.ETH_PTP_GM]; omega
  · simp only [Part.span, Span.has, Reg.ETH_PTP_OFS]; omega
  · simp only [Part.span, Span.has, Reg.ETH_PREV_CFG]; omega
  · simp only [Part.span, Span.has, Reg.ETH_PREV_DST]; omega
  · simp only [Part.span, Span.has, Reg.ETH_PREV_STAT]; omega
  · simp only [Part.span, Span.has, Reg.ETH_PREV_CNT]; omega
  · simp only [Part.span, Span.has, Reg.ETH_WT_CNT]; omega
  · simp only [Part.span, Span.has, Reg.CFG_BOOT_STAT]; omega
  · simp only [Part.span, Span.has, Reg.CFG_BOOT_CTL]; omega
  · simp only [Part.span, Span.has, Reg.CFG_SLOT]; omega
  · simp only [Part.span, Span.has, Reg.CFG_FL_INFO]; omega
  · simp only [Part.span, Span.has, Reg.CFG_FL_ADDR]; omega
  · simp only [Part.span, Span.has, Reg.CFG_FL_CMD]; omega
  · simp only [Part.span, Span.has, Reg.CFG_FL_STAT]; omega
  · simp only [Part.span, Span.has, Reg.CFG_FL_BUF]; omega
  · simp only [Part.span, Span.has, Reg.SEC_KEY]; omega
  · simp only [Part.span, Span.has, Reg.SEC_KEY_ST]; omega
  · simp only [Part.span, Span.has, Reg.SEC_KEY_NEW]; omega
  · simp only [Part.span, Span.has, Reg.SEC_KEY_CTL]; omega
  · simp only [Part.span, Span.has, Reg.SEC_KEY_STAT]; omega
  · simp only [Part.span, Span.has, Reg.SEC_ID_PUB]; omega
  · simp only [Part.span, Span.has, Reg.SEC_ID_CERT_LEN]; omega
  · simp only [Part.span, Span.has, Reg.SEC_ID_CERT]; omega
  · simp only [Part.span, Span.has, Reg.SEC_SESS]; omega
  · simp only [Part.span, Span.has, Reg.SEC_SESS_CTR]; omega
  · simp only [Part.span, Span.has, Reg.CFG_GW_COMMIT]; omega
  · simp only [Part.span, Span.has, Reg.CFG_GW_STATUS]; omega
  · simp only [Part.span, Span.has, Reg.CFG_GW_GEN]; omega
  · simp only [Part.span, Span.has, Reg.CFG_GW_CTIME]; omega
  · simp only [Part.span, Span.has, Reg.CFG_GW_ITIME]; omega
  · simp only [Part.span, Span.has, Reg.CFG_MAN_HEAD]; omega
  · simp only [Part.span, Span.has, Reg.CFG_MAN]; omega

/-- Any two blocks are apart. -/
theorem Part.spans_apart : (List.range 230).all (fun k => (List.range k).all fun l => (Part.ofNat k).span.apart (Part.ofNat l).span || Nat.beq (Part.ofNat l).span.hi 0) = true := by
  decide +kernel

theorem Span.apart_symm {s t : Span} (h : s.apart t = true) : t.apart s = true := by
  simp only [Span.apart, Bool.or_eq_true, Bool.and_eq_true, Nat.ble_eq, Nat.beq_eq] at h ⊢
  rcases h with ((h | h) | ⟨e, h | h⟩) | ⟨e, h | h⟩
  · exact .inl (.inl (.inr h))
  · exact .inl (.inl (.inl h))
  · exact .inl (.inr ⟨e.symm, .inr h⟩)
  · exact .inl (.inr ⟨e.symm, .inl h⟩)
  · exact .inr ⟨e.symm, .inr h⟩
  · exact .inr ⟨e.symm, .inl h⟩

theorem Part.ctorIdx_lt (p : Part) : p.ctorIdx < 230 := by cases p <;> decide

/-- An address belongs to one block. -/
theorem Part.addr_unique {p q : Part} {i j i' j' a : Nat} (hp : p.addr i j = some a) (hq : q.addr i' j' = some a) : q = p := by
  have key : ∀ p q : Part, q.ctorIdx < p.ctorIdx → p.span.has a → q.span.has a → False := by
    intro p q hlt hp hq
    have h := Part.spans_apart
    rw [List.all_eq_true] at h
    have h1 := h p.ctorIdx (List.mem_range.mpr p.ctorIdx_lt)
    rw [List.all_eq_true] at h1
    have h2 := h1 q.ctorIdx (List.mem_range.mpr hlt)
    rw [Part.ofNat_ctorIdx, Part.ofNat_ctorIdx, Bool.or_eq_true, Nat.beq_eq] at h2
    rcases h2 with h2 | h2
    · exact Span.apart_ne h2 hp hq
    · have := hq.2.1; omega
  rcases Nat.lt_trichotomy q.ctorIdx p.ctorIdx with h | h | h
  · exact (key p q h (Part.span_has hp) (Part.span_has hq)).elim
  · exact Part.ctorIdx_inj h
  · exact (key q p h (Part.span_has hq) (Part.span_has hp)).elim

theorem Part.addr_mod {p : Part} {i j a : Nat} (h : p.addr i j = some a) : a % 8 = 0 := by
  cases p <;> simp only [Part.addr, Option.some.injEq, reduceCtorEq] at h <;> subst h
  · rfl
  · rfl
  · rfl
  · simp only [Reg.PWR_LIM]; omega
  · rfl
  · rfl
  · rfl
  · rfl
  · simp only [Reg.HK_INJ_RES]; omega
  · simp only [Reg.HK_RES]; omega
  · rfl
  · rfl
  · rfl
  · rfl
  · rfl
  · simp only [Reg.CK_PLL]; omega
  · simp only [Reg.CK_PSTAT]; omega
  · simp only [Reg.CK_BAND]; omega
  · simp only [Reg.CK_OUT]; omega
  · rfl
  · rfl
  · rfl
  · rfl
  · rfl
  · rfl
  · rfl
  · rfl
  · rfl
  · rfl
  · rfl
  · rfl
  · rfl
  · rfl
  · rfl
  · rfl
  · rfl
  · rfl
  · rfl
  · rfl
  · rfl
  · rfl
  · rfl
  · rfl
  · rfl
  · rfl
  · simp only [Reg.TT_MAP]; omega
  · simp only [Reg.TT_MAP_USE]; omega
  · rfl
  · rfl
  · rfl
  · rfl
  · rfl
  · rfl
  · simp only [Reg.CC_CONV]; omega
  · rfl
  · rfl
  · rfl
  · rfl
  · simp only [Reg.CAL_TAP]; omega
  · simp only [Reg.CAL_REC]; omega
  · simp only [Reg.CAL_TIME]; omega
  · simp only [Reg.CTX_CTL]; omega
  · simp only [Reg.CTX_WIN]; omega
  · simp only [Reg.CTX_DEST]; omega
  · simp only [Reg.CTX_CHAIN]; omega
  · simp only [Reg.CTX_ST0]; omega
  · simp only [Reg.CTX_ST1]; omega
  · rfl
  · rfl
  · rfl
  · rfl
  · rfl
  · rfl
  · rfl
  · simp only [Reg.PIPE_BLACK]; omega
  · simp only [Reg.PIPE_CURVE]; omega
  · simp only [Reg.PIPE_CURVE_OFS]; omega
  · simp only [Reg.PIPE_DEFECT]; omega
  · simp only [Reg.PIPE_FPN]; omega
  · simp only [Reg.PIPE_STATS]; omega
  · simp only [Reg.PIPE_MEAN_HDR]; omega
  · simp only [Reg.PIPE_MEAN]; omega
  · rfl
  · rfl
  · rfl
  · simp only [Reg.FS_MIRROR]; omega
  · rfl
  · rfl
  · rfl
  · rfl
  · rfl
  · rfl
  · simp only [Reg.FS_BERTH]; omega
  · simp only [Reg.FS_BSTATE]; omega
  · rfl
  · rfl
  · rfl
  · simp only [Reg.FY_CTL]; omega
  · simp only [Reg.FY_KICK]; omega
  · simp only [Reg.FY_STAT]; omega
  · simp only [Reg.FY_LAST]; omega
  · simp only [Reg.FY_TIME]; omega
  · simp only [Reg.FY_CNT]; omega
  · simp only [Reg.FY_DLV]; omega
  · simp only [Reg.FY_DLVT]; omega
  · simp only [Reg.FY_DESC]; omega
  · rfl
  · rfl
  · simp only [Reg.EG_BCTL]; omega
  · simp only [Reg.EG_BSTAT]; omega
  · simp only [Reg.EG_BCAP]; omega
  · simp only [Reg.EG_BCNT0]; omega
  · simp only [Reg.EG_BCNT1]; omega
  · simp only [Reg.EG_BCRED]; omega
  · simp only [Reg.EG_BTIME]; omega
  · rfl
  · rfl
  · simp only [Reg.LN_BCTL]; omega
  · simp only [Reg.LN_BSTAT]; omega
  · simp only [Reg.LN_LCTL]; omega
  · simp only [Reg.LN_LSTAT]; omega
  · simp only [Reg.LN_LTXEQ]; omega
  · simp only [Reg.LN_LTEST]; omega
  · simp only [Reg.LN_LINJ]; omega
  · simp only [Reg.LN_LPERR]; omega
  · simp only [Reg.LN_LPBITS]; omega
  · simp only [Reg.LN_LCNT]; omega
  · rfl
  · rfl
  · rfl
  · rfl
  · rfl
  · rfl
  · rfl
  · rfl
  · rfl
  · rfl
  · rfl
  · simp only [Reg.FB_PCTL]; omega
  · simp only [Reg.FB_PSTAT]; omega
  · simp only [Reg.FB_PDELAY]; omega
  · simp only [Reg.FB_PCNT]; omega
  · simp only [Reg.FB_PTEST]; omega
  · simp only [Reg.FB_PINJ]; omega
  · simp only [Reg.FB_PPERR]; omega
  · simp only [Reg.FB_PPBITS]; omega
  · simp only [Reg.FB_NODE_ID]; omega
  · simp only [Reg.FB_NODE_INFO]; omega
  · rfl
  · rfl
  · rfl
  · rfl
  · rfl
  · rfl
  · rfl
  · simp only [Reg.PIO_PIN]; omega
  · simp only [Reg.PIO_ECTL]; omega
  · simp only [Reg.PIO_ECMD]; omega
  · simp only [Reg.PIO_ESTAT]; omega
  · simp only [Reg.PIO_ESR]; omega
  · simp only [Reg.PIO_ELC]; omega
  · simp only [Reg.PIO_DIN]; omega
  · simp only [Reg.PIO_DOUT]; omega
  · simp only [Reg.PIO_INJ]; omega
  · simp only [Reg.PIO_PROG]; omega
  · rfl
  · rfl
  · rfl
  · rfl
  · rfl
  · rfl
  · rfl
  · rfl
  · rfl
  · rfl
  · rfl
  · rfl
  · rfl
  · rfl
  · rfl
  · rfl
  · rfl
  · simp only [Reg.CFG_SLOT]; omega
  · rfl
  · rfl
  · rfl
  · rfl
  · simp only [Reg.CFG_FL_BUF]; omega
  · simp only [Reg.SEC_KEY]; omega
  · simp only [Reg.SEC_KEY_ST]; omega
  · simp only [Reg.SEC_KEY_NEW]; omega
  · rfl
  · rfl
  · simp only [Reg.SEC_ID_PUB]; omega
  · rfl
  · simp only [Reg.SEC_ID_CERT]; omega
  · simp only [Reg.SEC_SESS]; omega
  · simp only [Reg.SEC_SESS_CTR]; omega
  · rfl
  · rfl
  · rfl
  · rfl
  · rfl
  · rfl
  · simp only [Reg.CFG_MAN]; omega

/-- A register of a block that is in neither mask is left as it was. -/
theorem Within.keepReg {M N b : Nat} {s t : State} (h : Within M N b s t) (p : Part) (i j : Nat) {a : Nat} (ha : p.addr i j = some a)
    (hm : (M ||| N) &&& (1 <<< p.ctorIdx ||| 0xc00000) = 0) : t.reg a = s.reg a := by
  have bits : ∀ k, (1 <<< p.ctorIdx ||| 0xc00000).testBit k = true → M.testBit k = false ∧ N.testBit k = false := by
    intro k hk
    have h1 : ((M ||| N) &&& (1 <<< p.ctorIdx ||| 0xc00000)).testBit k = false := by rw [hm, Nat.zero_testBit]
    rwa [Nat.testBit_and, hk, Bool.and_true, Nat.testBit_or, Bool.or_eq_false_iff] at h1
  have hp := bits p.ctorIdx (by rw [Nat.testBit_or, Nat.one_shiftLeft, Nat.testBit_two_pow_self, Bool.true_or])
  have h22 := bits 22 (by rw [Nat.testBit_or, show (0xc00000 : Nat).testBit 22 = true by decide, Bool.or_true])
  have h23 := bits 23 (by rw [Nat.testBit_or, show (0xc00000 : Nat).testBit 23 = true by decide, Bool.or_true])
  refine h.regs a (Part.addr_mod ha) fun hc => ?_
  rcases hc with ⟨_, ⟨q, i', j', hq, hm⟩ | hm | ⟨hm, _⟩⟩ | ⟨_, h16⟩
  · rw [Part.addr_unique ha hq] at hm
    rcases hm with hm | ⟨hm, _⟩
    · rw [hp.1] at hm; cases hm
    · rw [hp.2] at hm; cases hm
  · rw [h22.1] at hm; cases hm
  · rcases hm with hm | ⟨hm, _⟩
    · rw [h23.1] at hm; cases hm
    · rw [h23.2] at hm; cases hm
  · have := Part.addr_ge ha; omega

/-- A field of a register of a block that is in neither mask is left as it was. -/
theorem Within.keepF {M N b : Nat} {s t : State} (h : Within M N b s t) (p : Part) (i j : Nat) {a : Nat} (f : Field) (ha : p.addr i j = some a)
    (hm : (M ||| N) &&& (1 <<< p.ctorIdx ||| 0xc00000) = 0) : t.f a f = s.f a f := by
  simp only [State.f, h.keepReg p i j ha hm]


end Sys2Proof.Machine
end

