-- ==== Sys2Proof/Laws/Access.lean ====
section
/-! SUPPORT. Management accesses and stripe work that take place, what time leaves of them, and fields that a write to another part leaves. -/

namespace Sys2Proof.Machine

variable (s : State)

@[simp] theorem State.mayManage_advance (t : Nat) (src : Src) : (s.advance t).mayManage src = s.mayManage src := by
  simp only [State.mayManage, State.bootLocked, State.advance_boot, State.flag_advance]

/-- What a source that may manage asks for is done. -/
theorem State.managed_of {s : State} {src : Src} (h : s.mayManage src = true) (f : State → State) : s.managed src f = f s := by
  rw [State.managed, if_pos h]

/-- What a source asks for after time has passed is done, if the source may manage. -/
theorem State.managed_advance {s : State} {src : Src} (h : s.mayManage src = true) (t : Nat) (f : State → State) :
    (s.advance t).managed src f = f (s.advance t) := State.managed_of (by rw [State.mayManage_advance, h]) f

/-- The stripes work while loop 1 is not acquiring. -/
theorem State.onStripes_of {s : State} (h : s.flag (Reg.CK_PSTAT 1) Fld.CK_PSTAT_ACQ = false) (f : State → State) : s.onStripes f = f s := by
  rw [State.onStripes, h]; rfl

theorem State.onStripes_advance {s : State} (h : s.flag (Reg.CK_PSTAT 1) Fld.CK_PSTAT_ACQ = false) (t : Nat) (f : State → State) :
    (s.advance t).onStripes f = f (s.advance t) := State.onStripes_of (by rw [State.flag_advance, h]) f

/-! ## Registers and fields that a write leaves -/

variable {s}

theorem State.reg_setF_ne {a b : Nat} (f : Field) (v : Nat) (h : b ≠ a) : (s.setF a f v).reg b = s.reg b := State.reg_setReg_ne s _ h

theorem State.reg_setB_ne {a b : Nat} (f : Field) (v : Bool) (h : b ≠ a) : (s.setB a f v).reg b = s.reg b := State.reg_setReg_ne s _ h

theorem State.reg_addF_ne {a b : Nat} (f : Field) (v : Nat) (h : b ≠ a) : (s.addF a f v).reg b = s.reg b := State.reg_setReg_ne s _ h

theorem State.reg_satF_ne {a b : Nat} (f : Field) (v : Nat) (h : b ≠ a) : (s.satF a f v).reg b = s.reg b := State.reg_setReg_ne s _ h

theorem State.reg_setBit_ne {a b : Nat} (f : Field) (v : Nat) (h : b ≠ a) : (s.setBit a f v).reg b = s.reg b := State.reg_setReg_ne s _ h

@[simp] theorem State.reg_emit (w : Wire) (a : Nat) : (s.emit w).reg a = s.reg a := rfl

@[simp] theorem State.reg_used (a : Nat) : s.used.reg a = s.reg a := rfl

theorem State.f_of_reg {s t : State} {a : Nat} (f : Field) (h : t.reg a = s.reg a) : t.f a f = s.f a f := by simp only [State.f, h]

theorem State.flag_of_reg {s t : State} {a : Nat} (f : Field) (h : t.reg a = s.reg a) : t.flag a f = s.flag a f := by simp only [State.flag, State.f, h]

theorem State.flag_of_f {s t : State} {a : Nat} {f : Field} (h : t.f a f = s.f a f) : t.flag a f = s.flag a f := by simp only [State.flag, h]

theorem State.f_setB_disjoint (a : Nat) (f g : Field) (v : Bool) (h : g.lo + g.width ≤ f.lo ∨ f.lo + f.width ≤ g.lo) :
    (s.setB a f v).f a g = s.f a g := State.f_setF_disjoint s a f g _ h

theorem State.flag_setF_disjoint (a : Nat) (f g : Field) (v : Nat) (h : g.lo + g.width ≤ f.lo ∨ f.lo + f.width ≤ g.lo) :
    (s.setF a f v).flag a g = s.flag a g := State.flag_of_f (State.f_setF_disjoint s a f g _ h)

theorem State.flag_setB_disjoint (a : Nat) (f g : Field) (v : Bool) (h : g.lo + g.width ≤ f.lo ∨ f.lo + f.width ≤ g.lo) :
    (s.setB a f v).flag a g = s.flag a g := State.flag_of_f (State.f_setB_disjoint a f g v h)

/-- A counter that wraps. -/
theorem State.f_addF_self (a : Nat) (f : Field) (n : Nat) (h : f.lo + f.width ≤ 64) : (s.addF a f n).f a f = (s.f a f + n) % 2 ^ f.width :=
  State.f_setF_self s a f _ h

/-- A counter that saturates. -/
theorem State.f_satF_self (a : Nat) (f : Field) (n : Nat) (h : f.lo + f.width ≤ 64) :
    (s.satF a f n).f a f = min (s.f a f + n) (2 ^ f.width - 1) := by
  rw [State.satF, State.f_setF_self s a f _ h]
  exact Nat.mod_eq_of_lt (Nat.lt_of_le_of_lt (Nat.min_le_right _ _) (Nat.sub_lt (Nat.two_pow_pos _) Nat.one_pos))

/-- A bit of a field of bits that was set. -/
theorem State.f_setBit_self (a : Nat) (f : Field) (i : Nat) (h : f.lo + f.width ≤ 64) :
    (s.setBit a f i).f a f = (s.f a f ||| 2 ^ i) % 2 ^ f.width := State.f_setF_self s a f _ h

/-- Registers of different blocks have different addresses. -/
theorem Part.addr_ne {p q : Part} {i j i' j' a b : Nat} (h : q ≠ p) (hp : p.addr i j = some a) (hq : q.addr i' j' = some b) : b ≠ a :=
  fun e => h (Part.addr_unique hp (e ▸ hq))

/-- A command that comes to one function of the state in which its time has come. -/
theorem Runs.of {c : Instr} {H : State → Prop} {P : State → State → Prop} (m : State → State)
    (he : ∀ s : State, exec c s = .next (m (s.advance (cmdTime c)))) (h : ∀ u, H u → P u (m u)) : Runs c H P :=
  fun s hs => ⟨_, he s, h _ hs⟩

/-- The same, with the state after the command under a name. -/
theorem Runs.ofz {c : Instr} {H : State → Prop} {P : State → State → Prop} (m : State → State)
    (he : ∀ s : State, exec c s = .next (m (s.advance (cmdTime c)))) (h : ∀ u z, m u = z → H u → P u z) : Runs c H P :=
  fun s hs => ⟨_, he s, h _ _ rfl hs⟩

end Sys2Proof.Machine
end

