-- ==== Sys2Proof/Tests/Slice0.lean ====
section
/-! SUPPORT. The author's own tests: the well-formedness checks refuse what they should, the step and the word interface, and for every statement with hypotheses states and operands that meet them, clause by clause. A command with the instant 0 finds the state as it stands, so each witness is the state in which the command's time has come. Expected values come from the rules named. -/

open Sys2Proof Sys2Proof.Machine

namespace Sys2Proof.Tests

-- One theorem at a time: evaluation by the kernel waits for every declaration before it, and each theorem that waits holds a thread.
set_option Elab.async false

/-! ## Small states -/

/-- Every register at the reset word of its table. -/
def base : State := { State.reset with regs := [] }

/-- Some fields of the registers, since before the present instant. -/
def shows (s : State) (l : List (Nat × Field × Nat)) : State := { l.foldl (fun s x => s.setF x.1 x.2.1 x.2.2) s with fresh := s.fresh }

/-- Some fields of the settings in use. -/
def inUse (s : State) (l : List (Nat × Field × Nat)) : State :=
  let st := l.foldl (fun (st : RegFile) x => Sparse.put resetWord st x.1 (x.2.1.set (RegFile.word st x.1) x.2.2)) s.use
  { s with gw := { s.gw with banks := s.gw.banks.set s.gw.cur st } }

/-- Time `n` on both clocks. -/
def later (s : State) (n : Nat) : State := { s with clock := { s.clock with now := n, tt := n, running := true } }

/-- After boot lock. -/
def locked : State := shows base [(Reg.CFG_BOOT_STAT, Fld.CFG_BOOT_STAT_BOOT_LOCK, 1)]

/-- The state after a command. -/
def after (c : Instr) (s : State) : State := match exec c s with | .next t => t | _ => s

/-! ## Well-formed commands: every check of WellFormed.lean refuses a term -/

/-- A message whose fields do not matter. -/
def anyReq : WitrigMsg :=
  { magic := 0x5754, version := 1, opcode := 1, flags := 1, target := 0, reqId := 7, session := 0, ctr := 0, expect := 0,
    body := [0, 0, 0, 16, 0, 1, 0, 0], ip := 5, port := 6, tagOk := true, keyOk := true, sigOk := true, pointOk := true }

theorem test_wf_refuses_wide_addresses : Instr.wf (.registerWrite 0 .purser (2 ^ 32) 0) = false ∧ Instr.wf (.shadowWrite 0 .purser (2 ^ 32) 0) = false ∧
    Instr.wf (.ethAddressWrite 0 .purser (2 ^ 32) 0) = false ∧ Instr.wf (.arpRetryTimeout 0 (2 ^ 32)) = false ∧
    Instr.wf (.arpEntryAgeout 0 (2 ^ 32)) = false ∧ Instr.wf (.registerWrite 0 .purser (2 ^ 32 - 1) 0) = true := by decide

theorem test_wf_refuses_pixels_and_codes_out_of_range : Instr.wf (.exposureTransfer 0 0 [(4096, 1)]) = false ∧
    Instr.wf (.exposureTransfer 0 0 [(4095, 1)]) = true ∧ Instr.wf (.injectedResult 0 0 0 [(33024, 0)]) = false ∧
    Instr.wf (.injectedResult 0 0 0 [(0, 4096)]) = false ∧ Instr.wf (.injectedResult 0 0 0 [(33023, 4095)]) = true := by decide

theorem test_wf_refuses_sizes_of_lists : Instr.wf (.alignRound 0 0 (List.replicate 8 0)) = false ∧
    Instr.wf (.inSerial 0 0 (List.replicate 65 true)) = false ∧ Instr.wf (.injectionExecute 0 0 0 (List.replicate 65 true)) = false ∧
    Instr.wf (.imageSelection 0 true 64 100 []) = false ∧ Instr.wf (.returnRx 0 0 (List.replicate 268 true)) = false ∧
    Instr.wf (.capRx 0 0 (List.replicate 268 true)) = false ∧ Instr.wf (.capRx 0 0 (List.replicate 267 true)) = true := by decide +kernel

theorem test_wf_refuses_messages_of_wrong_size :
    (∀ m : SeamMsg, m.recs = [(8192, List.replicate 64 0)] → Instr.wf (.seamRx 0 m) = false) ∧
    (∀ m : SeamMsg, m.recs = [(0, [])] → Instr.wf (.seamRx 0 m) = false) ∧
    (∀ (p : Fin 8) (m : LsaMsg), m.hops = 16 → Instr.wf (.lsaRx 0 p m) = false) ∧
    (∀ (p : Fin 8) (m : LsaMsg), m.seq = 2 ^ 32 → Instr.wf (.lsaRx 0 p m) = false) ∧
    (∀ (p : Fin 8) (m : LsaMsg), 8 < m.links.length → Instr.wf (.lsaRx 0 p m) = false) ∧
    (∀ (p : Fin 8) (m : AssignMsg), m.hops = 16 → Instr.wf (.assignRx 0 p m) = false) ∧
    (∀ (p : Fin 8) (m : AssignMsg), m.entries = [(0, 4096)] → Instr.wf (.assignRx 0 p m) = false) ∧
    (∀ (p : Fin 8) (m : AssignMsg), 64 < m.entries.length → Instr.wf (.assignRx 0 p m) = false) ∧
    (∀ (p : Fin 8) (m : ShareMsg), m.words = [] → Instr.wf (.shareRx 0 p m) = false) ∧
    (∀ (p : Fin 8) (m : ShareMsg), m.hops = 16 → Instr.wf (.shareRx 0 p m) = false) ∧
    (∀ (p : Fin 8) (m : MgmtMsg), m.req = none → m.resp = none → Instr.wf (.mgmtRx 0 p m) = false) := by
  refine ⟨?_, ?_, ?_, ?_, ?_, ?_, ?_, ?_, ?_, ?_, ?_⟩ <;> intros <;> simp_all [Instr.wf]

theorem test_wf_refuses_long_datagrams :
    (∀ m : WitrigMsg, 65475 < m.body.length → Instr.wf (.witrigRequestRx 0 m false) = false) ∧
    (∀ m : IcmpMsg, 65507 < m.payload.length → Instr.wf (.icmpEchoRequest 0 m) = false) := by
  refine ⟨?_, ?_⟩ <;> intros <;> simp [Instr.wf] <;> omega

/-! ## The machine and the registers -/

theorem test_no_word_spells_a_command : decodeTableWord 64 0x1234 = none ∧ (base.withFetchWord 64 0x1234).pending = [] := by decide

theorem witness_machine : base.pending = [] ∧ (step { base with pending := [.evlogPop 0 .purser] } = .next (base.evlogPop)) := by
  refine ⟨rfl, rfl⟩

theorem witness_sound_state : ∃ s t : State, s.Sound ∧ s.pending ≠ [] ∧ step s = .next t :=
  ⟨{ base with regs := [(Reg.ID_PART, 0x4C53134201000100), (Reg.ID_DEVID, 0x0000134200000001)], pending := [.evlogPop 0 .purser] }, _,
    { regs := by decide, dram := by decide, flash := by decide
      otp := ⟨by decide, by decide, by decide, by decide, by decide⟩, ferries := by decide, bundles := by decide, part := by decide, devid := by decide },
    by decide, rfl⟩

theorem witness_time : base.clock.running = false ∧ (later base 10).clock.running = true ∧ ((later base 10).advance 3) = later base 10 := by
  refine ⟨rfl, rfl, rfl⟩

theorem witness_families : family (.registerWrite 0 .purser 0 0) = .registers ∧ family (.commit 0 .purser) = .timetable ∧
    family (.rowSlotStart ⟨0, []⟩) = .converters ∧ family (.lineEnterLanding 0) = .pipeline ∧ family (.recallRun ⟨0, []⟩) = .frameStore ∧
    family (.descriptorFetch 0 0) = .ferries ∧ family (.packetTransmit 0 0) = .egress ∧ family (.laneMoor 0 0) = .lanes ∧
    family (.lsaSend 0) = .fabric ∧ family (.syncinEdge 0) = .clocks ∧ family (.jmp 0 0 0) = .pio ∧ family (.arpAnnounce 0) = .ethernet ∧
    family (.nodes 0 .eth) = .witrig ∧ family (.bypass 0) = .boot := by decide

theorem witness_addresses : (7 : Nat) % 8 ≠ 0 ∧ 0xFFFFFFFF % 8 ≠ 0 ∧ 
    (witAt { anyReq with body := [0, 0, 0, 17, 0, 1, 0, 0] } 0 4 % 8 ≠ 0 ∧ witAt { anyReq with body := [0, 0, 0, 17, 0, 1, 0, 0] } 4 2 = 1 ∧ anyReq.opcode = 1) ∧
    (inWindow 0x18 = true ∧ regAt 0x18 = none) ∧ inWindow 0x031FFFF8 = true ∧
    inWindow 0x03200000 = false ∧ inWindow 0x03FFFFF8 = false ∧ inWindow 0x04000000 = true ∧ inWindow 0x0A000000 = false := by decide

theorem witness_access_types : ((regAt Reg.ETH_MAC).map fun d => (d.locked, inWindow Reg.ETH_MAC)) = some (true, true) ∧ locked.bootLocked = true ∧
    base.mayManage .purser = true ∧ base.mayManage .eth = false ∧ locked.mayManage .tunnel = true ∧ (regAt Reg.ID_SCRATCH).isSome = true ∧
    (regAt Reg.CFG_GW_STATUS).isSome = true := by decide

/-- R9, R11, R14, R358: the status of a write. -/
theorem test_write_status : (locked.mgmtWrite .eth 1 0).2 = 1 ∧ (locked.mgmtWrite .eth 0x0A000000 0).2 = 2 ∧ (locked.mgmtWrite .eth Reg.ETH_MAC 0).2 = 3 ∧
    (locked.mgmtWrite .eth Reg.ID_SCRATCH 0).2 = 0 := by decide

/-- R12: a plain register takes the value, an RO register keeps its own, a 1 clears a W1C bit and a 0 keeps it. -/
theorem test_register_write : (after (.registerWrite 0 .purser Reg.ID_SCRATCH 0x1122334455667788) base).reg Reg.ID_SCRATCH = 0x1122334455667788 ∧
    (after (.registerWrite 0 .purser Reg.ID_DEVID 5) base).reg Reg.ID_DEVID = 0 ∧
    (after (.registerWrite 0 .purser Reg.TT_STATUS (BitVec.ofNat 64 (Fld.TT_STATUS_LATE.mask.toNat)))
      (shows base [(Reg.TT_STATUS, Fld.TT_STATUS_LATE, 1), (Reg.TT_STATUS, Fld.TT_STATUS_OVERRUN, 1)])).f Reg.TT_STATUS Fld.TT_STATUS_LATE = 0 ∧
    (after (.registerWrite 0 .purser Reg.TT_STATUS (BitVec.ofNat 64 (Fld.TT_STATUS_LATE.mask.toNat)))
      (shows base [(Reg.TT_STATUS, Fld.TT_STATUS_LATE, 1), (Reg.TT_STATUS, Fld.TT_STATUS_OVERRUN, 1)])).f Reg.TT_STATUS Fld.TT_STATUS_OVERRUN = 1 := by decide

/-- R13: a bit that the hardware sets at the instant of the write stays. -/
theorem test_register_write_loses_no_event :
    let w := BitVec.ofNat 64 (Fld.TT_STATUS_LATE.mask.toNat)
    (after (.registerWrite 0 .purser Reg.TT_STATUS w) (base.setB Reg.TT_STATUS Fld.TT_STATUS_LATE true)).f Reg.TT_STATUS Fld.TT_STATUS_LATE = 1 ∧
      (after (.registerWrite 1 .purser Reg.TT_STATUS w) (base.setB Reg.TT_STATUS Fld.TT_STATUS_LATE true)).f Reg.TT_STATUS Fld.TT_STATUS_LATE = 0 := by decide

/-! ## The timetable -/

/-- A shot that starts at `s`. -/
def shot (s : Nat) : Shot := { s := s, e := s + 1000, tc := 100, mode := 0 }

/-- A frame scheduled for `s`. -/
def frameAt (s : Nat) : Frame := { close := s - 24000, swapAt := s - 24000, sched := s, shot := shot s }

/-- A state at time `n` with these frames. -/
def framed (n : Nat) (l : List Frame) : State := { later base n with tt := { base.tt with frames := l } }

/-- A commit stamped at tick `n`. -/
def commitAt (n : Nat) (force : Bool) : Commit := { tick := n, stamp := 0, src := .purser, force := force }

/-- A state with commits waiting. -/
def committed (s : State) (l : List Commit) : State := { s with gw := { s.gw with commits := l } }

theorem witness_shadow_writes : ((regAt Reg.TT_EXP_A).map fun d => d.shadowed && !isMap Reg.TT_EXP_A && !isTap Reg.TT_EXP_A) = some true ∧
    ((regAt (Reg.CTX_DEST 3071)).map fun d => d.shadowed && !isMap (Reg.CTX_DEST 3071)) = some true ∧
    (regAt (Reg.TT_MAP 0)).isSome = true ∧ (regAt (Reg.TT_MAP 8191)).isSome = true ∧ (regAt (Reg.CAL_TAP 33023 4)).isSome = true ∧
    base.autoOn = false ∧ (inUse base [(Reg.TT_MAP_CFG, Fld.TT_MAP_CFG_AUTO, 1)]).autoOn = true ∧
    (after (.shadowWrite 0 .purser Reg.TT_EXP_A 1000) base).u Reg.TT_EXP_A Fld.TT_EXP_A_EXP = 50000 := by decide

theorem witness_gangway_swap :
    let s := committed (framed 0 [frameAt 24000]) []
    let c := committed (framed 8 [frameAt 24008]) [commitAt 6 false]
    let bad := { c with gw := { c.gw with writes := [⟨4, Reg.TT_EXP_A, 1⟩] } }
    let full := { c with tt := { c.tt with passes := [1, 2, 3].map fun b =>
      { seq := b, cont := 0, strip := 0, bank := b, store := 0, dual := false, depth := 1, rmax := 1, shot := shot 0 } } }
    let auto := inUse bad [(Reg.TT_MAP_CFG, Fld.TT_MAP_CFG_AUTO, 1)]
    let d : DerivedMap := { tick := 2, stamp := 2, seq := 0, limit := 0, codes := [(Reg.TT_MAP 0, 5)] }
    let both := { auto with gw := { auto.gw with derived := some d } }
    let trig := inUse (framed 8 [{ frameAt 24008 with trig := some 6 }]) [(Reg.TT_MODE, Fld.TT_MODE_RUN, 1)]
    (s.swapDue = some (frameAt 24000)) ∧
      (c.swapDue = some (frameAt 24008) ∧ (c.plan 8 0).host ≠ [] ∧ (c.plan 8 0).refusal = none ∧ c.freeBank = some 1) ∧
      (bad.swapDue = some (frameAt 24008) ∧ (bad.plan 8 0).refusal = some (1, none) ∧ (bad.judged 8 0).derived = none) ∧
      (both.swapDue = some (frameAt 24008) ∧ (both.plan 8 0).refusal = some (1, none) ∧ both.freeBank = some 1 ∧ (both.judged 8 0).derived = some d) ∧
      (full.swapDue = some (frameAt 24008) ∧ (full.plan 8 0).host ≠ [] ∧ (full.plan 8 0).refusal = none ∧ full.freeBank = none) ∧
      trig.swapDue.isSome = true ∧ (trig.plan 8 0).host = [] ∧ trig.gw.derived = none ∧ trig.u Reg.TT_MODE Fld.TT_MODE_RUN = 1 := by
  decide

theorem witness_idle_gangway :
    let s := committed (later base 14) [commitAt 6 false]
    let f := inUse (committed (framed 14 [{ frameAt 24008 with trig := some 6 }]) [commitAt 6 true]) [(Reg.TT_MODE, Fld.TT_MODE_RUN, 1)]
    (s.idleDue = some (commitAt 6 false) ∧ s.u Reg.TT_MODE Fld.TT_MODE_RUN = 0 ∧ (s.plan 14 0).host ≠ [] ∧ (s.plan 14 0).refusal = none ∧
        s.freeBank = some 1 ∧ (s.plan 14 0).next.on Reg.TT_MODE Fld.TT_MODE_RUN = false) ∧
      f.idleDue = some (commitAt 6 true) ∧ f.u Reg.TT_MODE Fld.TT_MODE_RUN = 1 ∧ f.triggerPending = true := by
  decide

/-- R55: the instant is taken exactly 24,000 ns ahead; one at the start of the last frame of a burst is skipped, and one after it waits (R78). -/
theorem witness_grid_instant :
    let s := { later base 6 with tt := { base.tt with grid := some 24006 } }
    let p := { frameAt 24000 with burst := true }
    let skip := { later base 6 with tt := { base.tt with grid := some 24006, frames := [p], burst := some ⟨0, 2, 1, 2000, 0⟩ } }
    let same := { later base 6 with tt := { base.tt with grid := some 24000, frames := [frameAt 24000] } }
    let wait := { skip with tt := { skip.tt with grid := some 34006 } }
    (s.tt.grid.map s.gridNow = some 24006 ∧ 24006 ≤ s.clock.tt + 24000 ∧ s.tt.burst = none ∧ s.openAccum = none ∧ s.lastAhead = none ∧
      s.u Reg.TT_MODE Fld.TT_MODE_FORM ≠ 3 ∧ 0 < s.u Reg.TT_PERIOD Fld.TT_PERIOD_PERIOD) ∧
      (skip.tt.grid.map skip.gridNow = some 24006 ∧ skip.lastAhead = some 28000) ∧ (same.tt.grid.map same.gridNow = some 24000 ∧ same.lastAhead = some 24000) ∧
      (wait.tt.grid.map wait.gridNow = some 34006 ∧ wait.tt.burst = some ⟨0, 2, 1, 2000, 0⟩ ∧ wait.openAccum = none ∧ wait.lastAhead = some 28000) ∧
      (after (.gridInstant 0) s).tt.frames.map (fun f => f.close) = [6] ∧
      (after (.gridInstant 0) { s with clock := { s.clock with tt := 4 } }).tt.frames = [] := by
  decide

/-- A frame past its gangway. -/
def gated (f : Frame) : Frame := { f with gated := true, reserved := true }

theorem witness_exposure_start :
    let s := framed 24000 [gated (frameAt 24000)]
    let l := framed 24002 [gated (frameAt 24000)]
    let d := { gated (frameAt 24000) with held := true }
    let h := framed 24002 [d]
    let e := { gated (frameAt 24000) with held := true, sched := 23990, shot := shot 23990, notBefore := 24000 }
    let r := framed 24002 [e]
    s.startDue = some (gated (frameAt 24000), 24000) ∧ l.startDue = some (gated (frameAt 24000), 24000) ∧
      h.startDue = some (d, 24000) ∧ 24000 ≤ tickCeil d.shot.s ∧ r.startDue = some (e, 24000) ∧ tickCeil e.shot.s < 24000 ∧ h.tt.log.length + 2 ≤ logSize := by
  decide

theorem witness_strips_and_sub_exposures :
    let g : StripFrame := { frame := gated (frameAt 10), strips := 0, cont := 0, first := 10, last := 10, waiting := false }
    let d : StripDue := { shot := shot 10, close := 0, trig := none, bound := false }
    let s := inUse { later base 20 with tt := { base.tt with strips := [d], seg := some g } } [(Reg.TT_STRIP, Fld.TT_STRIP_HEIGHT, 2)]
    let f := { gated (frameAt 10) with started := true, shot := { shot 10 with e := 400010 } }
    let sub := inUse (framed 20 [f]) [(Reg.TT_MODE, Fld.TT_MODE_FORM, 2)]
    let o := { gated (frameAt 10) with started := true, shot := { shot 10 with isOpen := true } }
    let wait := inUse (framed 2000 [o]) [(Reg.TT_ACCUM, Fld.TT_ACCUM_SUB_TIMEOUT, 1)]
    (s.stripDue = some (d, 10) ∧ s.tt.seg = some g ∧ segmentFull (s.bank 0) 1 = false ∧ d.waited = false ∧
        (s.reserve (s.bank 0) 0 false).2 = true) ∧
      (sub.subDue = some (f, 10) ∧ f.gated = true ∧ f.shot.isOpen = false) ∧
      wait.tt.frames.find? (fun f => f.started && f.shot.isOpen) = some o ∧ o.subDue = [] ∧
      (wait.bank 0).fld Reg.TT_ACCUM Fld.TT_ACCUM_SUB_TIMEOUT = 1 ∧ o.lastSub + 1000 ≤ wait.clock.tt := by
  decide

/-- A pass of the frame numbered 0. -/
def passOf (began : Option Nat) (slot : Nat) : Pass :=
  { seq := 0, cont := 0, strip := 0, bank := 0, store := 0, dual := false, depth := 1, rmax := 64, shot := shot 10, began := began, slot := slot }

/-- A state at time `n` with these passes. -/
def passing (n : Nat) (l : List Pass) : State := { later base n with tt := { base.tt with passes := l } }

theorem witness_transfers_and_manifests :
    let s := passing 1000000 [passOf none 0]
    let d := passing 1000000 [{ passOf none 0 with dual := true }]
    let e := { d with px := { d.px with done := [(33023, 400134)] } }
    let f : Frame := { gated (frameAt 10) with started := true, man := manEmpty }
    let m := framed 1138 [f]
    ((s.transferDue 0).map fun x => x.inB) = some false ∧ ((d.transferDue 33023).map fun x => x.inB) = some false ∧
      ((e.transferDue 33023).map fun x => x.inB) = some true ∧ m.completionDue = some f ∧ m.isStrips f = false ∧
      (after (.exposureTransfer 0 0 [(4095, 20000)]) s).px.storeA.get 4095 = 18000 := by
  decide +kernel

/-- Triggered pacing with a source. -/
def triggered (src n : Nat) : State :=
  inUse (later base n) [(Reg.TT_MODE, Fld.TT_MODE_RUN, 1), (Reg.TT_MODE, Fld.TT_MODE_PACE, 1), (Reg.TT_TRIG_CFG, Fld.TT_TRIG_CFG_SRC, src)]

/-- The same while an exposure that has not ended bars the next. -/
def barred (src n : Nat) : State := { triggered src n with tt := { base.tt with chain := { e := n + 5000, k := n + 9000, kPrev := n + 9000, mode := 0, seen := true } } }

theorem witness_triggers :
    let room := fun (s : State) => s.u Reg.TT_MODE Fld.TT_MODE_RUN = 1 ∧ s.u Reg.TT_MODE Fld.TT_MODE_PACE = 1 ∧ s.openAccum = none ∧
      s.burstOn (s.settingsAt (s.tick - 24000) s.tt.nextSeq) = false ∧ s.afterForced s.tick = false
    let start := fun (s : State) => s.tick + 474 + 2 * (s.settingsAt (s.tick - 24000) s.tt.nextSeq).fld Reg.TT_TRIG_DELAY Fld.TT_TRIG_DELAY_DELAY
    let legal := fun (s : State) => s.chainNow.legal52 (storeMode (s.settingsAt (s.tick - 24000) s.tt.nextSeq))
    room (triggered 0 30000) ∧ room (barred 1 30000) ∧ (triggered 0 30000).trigSource 0 = true ∧ (barred 1 30000).trigSource 1 = true ∧
      legal (triggered 0 30000) ≤ start (triggered 0 30000) ∧ start (barred 1 30000) < legal (barred 1 30000) ∧
      (triggered 0 30000).pendingCount < min 16 ((triggered 0 30000).u Reg.TT_TRIG_CFG Fld.TT_TRIG_CFG_QDEPTH + 1) ∧
      ((triggered 0 30000).reserve ((triggered 0 30000).settingsAt ((triggered 0 30000).tick - 24000) 0) (triggered 0 30000).seqAhead false).2 = true ∧
      (barred 1 30000).u Reg.TT_TRIG_CFG Fld.TT_TRIG_CFG_OVR_DEFER = 0 ∧ (barred 1 30000).pinLive 0 = true ∧ (barred 1 30000).trigSel = 0 ∧
      (triggered 0 30000).u Reg.TT_MODE Fld.TT_MODE_FORM ≠ 3 ∧ (triggered 1 30000).u Reg.TT_TRIG_CFG Fld.TT_TRIG_CFG_FILT = 0 ∧
      (triggered 1 30000).u Reg.TT_TRIG_CFG Fld.TT_TRIG_CFG_POL = 0 ∧
      (inUse (triggered 1 30000) [(Reg.TT_TRIG_CFG, Fld.TT_TRIG_CFG_FILT, 5)]).u Reg.TT_TRIG_CFG Fld.TT_TRIG_CFG_FILT = 5 := by
  decide

/-- R61: an edge that has held for FILT + 2 ticks was accepted 4 ns ago, and one that has held for fewer than FILT does nothing. -/
theorem test_pin_filter :
    let s := inUse (triggered 1 30000) [(Reg.TT_TRIG_CFG, Fld.TT_TRIG_CFG_FILT, 5)]
    (after (.triggerPinEdge 0 0 ⟨true, 7⟩ false) s).tt.frames.map (fun f => (f.trig, f.close, f.sched)) = [(some 29996, 5996, 30470)] ∧
      (after (.triggerPinEdge 0 0 ⟨true, 4⟩ false) s).tt.frames = [] := by
  decide

theorem test_software_trigger : ((after (.swTrigFire 0 .purser) (triggered 0 30000)).tt.frames.map fun f => (f.trig, f.close, f.sched)) = [(some 30000, 6000, 30474)] := by
  decide

theorem test_trigger_overrun : (after (.swTrigFire 0 .purser) (barred 0 30000)).f Reg.TT_CNT_TRIG Fld.TT_CNT_TRIG_OVERRUN = 1 ∧
    (after (.swTrigFire 0 .purser) (barred 0 30000)).tt.frames = [] := by decide

theorem witness_scheduled_and_fabric_triggers :
    let s := shows (later base 500) [(Reg.TT_SCHED_TIME, Fld.TT_SCHED_TIME_TARGET, 500), (Reg.TT_SCHED_CTL, Fld.TT_SCHED_CTL_ARM, 1)]
    let e := inUse s [(Reg.TT_TRIG_CFG, Fld.TT_TRIG_CFG_SRC, 3)]
    let x : TrigArrival := ⟨500, 0, 400, none⟩
    let a := { s with kf := { s.kf with arrivals := [x] } }
    let y : TrigArrival := ⟨500, 1, 400, none⟩
    let b := { s with kf := { s.kf with arrivals := [y] } }
    let z : TrigArrival := ⟨500, 0, 2001, none⟩
    let c := { s with kf := { s.kf with arrivals := [z] } }
    (s.flag Reg.TT_SCHED_CTL Fld.TT_SCHED_CTL_ARM = true ∧ s.schedTick = 500 ∧ s.trigSource 3 = false ∧ s.tt.log.length < logSize) ∧
      (e.schedTick = 500 ∧ e.trigSource 3 = true) ∧ notAfter (s.reg Reg.TT_SCHED_TIME) s.stamp = true ∧ notAfter (s.reg Reg.TT_SCHED_TIME) (later base 5).stamp = false ∧
      (a.kf.arrivals.find? (fun y => decide (y.at' ≤ a.clock.tt)) = some x ∧ a.f Reg.FB_TRIG_CFG Fld.FB_TRIG_CFG_RX_CH = x.ch ∧ a.fabBefore x.instant (x.at' + 474) = true) ∧
      (c.kf.arrivals.find? (fun y => decide (y.at' ≤ c.clock.tt)) = some z ∧ c.f Reg.FB_TRIG_CFG Fld.FB_TRIG_CFG_RX_CH = z.ch ∧
        c.fabBefore z.instant (z.at' + 474) = false) ∧
      b.kf.arrivals.find? (fun y => decide (y.at' ≤ b.clock.tt)) = some y ∧ b.f Reg.FB_TRIG_CFG Fld.FB_TRIG_CFG_RX_CH ≠ y.ch := by
  decide

theorem witness_encoder_part_detect_and_log :
    let x : EngineEvent := ⟨20, 15, 2⟩
    let s := { later base 20 with tt := { base.tt with inbox := [x] } }
    let e := inUse s [(Reg.TT_ENC_CFG, Fld.TT_ENC_CFG_ENGINE, 15)]
    (s.inboxDue (fun x => x.engine == 15 && x.index == 2) = some x ∧ s.u Reg.TT_ENC_CFG Fld.TT_ENC_CFG_ENGINE ≠ 15) ∧
      (e.inboxDue (fun x => x.engine == 15 && x.index == 2) = some x ∧ e.u Reg.TT_ENC_CFG Fld.TT_ENC_CFG_ENGINE = 15 ∧ encoderPaced e.use = false) ∧
      (s.u Reg.TT_STRIP Fld.TT_STRIP_PD_ENG = 0 ∧ s.pinLive (s.u Reg.TT_STRIP Fld.TT_STRIP_PD_SEL) = true ∧
        s.stripSettings.fld Reg.TT_STRIP Fld.TT_STRIP_PD_MODE = 0 ∧ s.tt.log.length < logSize) ∧
      (after (.encoderCount 0 15 false) e).f Reg.TT_ENC_POS Fld.TT_ENC_POS_POS = 2 ^ 48 - 1 := by
  decide

/-! ## Converters, calibration and housekeeping -/

theorem witness_conversion_passes :
    let s := passing 1000000 [passOf none 0]
    let r := passing 1000000 [passOf (some 2000) 0]
    let b := passing 1000000 [{ passOf (some 2000) 0 with store := 1 }]
    let e := passing 10000000 [passOf (some 2000) 64]
    let a : Sample := { key := 0, inB := false, depth := 1, code := 4095, seq := 0, cont := 0, strip := 0, at' := 64000000 }
    let l := { shows (later base 1000000) [(Reg.CK_PSTAT 1, Fld.CK_PSTAT_ACQ, 0)] with cc := { base.cc with link := [{ a with at' := 64000001 }, a] } }
    (s.passDue.map fun x => x.1) = some (passOf none 0) ∧ (r.slotDue.map fun x => x.1) = some (passOf (some 2000) 0) ∧
      (b.slotDue.map fun x => x.1.store) = some 1 ∧ (e.endDue.map fun x => x.1) = some (passOf (some 2000) 64) ∧
      l.flag (Reg.CK_PSTAT 1) Fld.CK_PSTAT_ACQ = false ∧ l.cc.link.find? (fun a => decide (a.at' ≤ 64 * l.clock.tt)) = some a := by
  decide

theorem witness_rotation_and_injection :
    let p := passOf (some 2000) 0
    let s := passing 2700 [p]
    let inj := inUse base [(Reg.CC_CFG, Fld.CC_CFG_INJ_EN, 1)]
    let j : Injection := { band := 31, refsel := 2, reqAt := 0, tracker := false, slot := 0, brk := 0 }
    let q := { later inj 100000 with cc := { inj.cc with inj := [j] } }
    let d := { j with startAt := some 16, doneAt := 1600 }
    let g := { later inj 100000 with cc := { inj.cc with inj := [d] } }
    (s.running = some p ∧ p.rotDone = false ∧ p.began.getD 0 + 700 ≤ s.clock.tt ∧ s.cc.rot.length = 32 ∧ s.cc.inj = []) ∧
      (inj.injPending 31 = false ∧ inj.u Reg.CC_CFG Fld.CC_CFG_INJ_EN ≠ 0) ∧ (inUse base [(Reg.CC_CFG, Fld.CC_CFG_INJ_EN, 0)]).u Reg.CC_CFG Fld.CC_CFG_INJ_EN = 0 ∧ q.injPending 31 = true ∧
      (q.cc.inj.find? (fun j => j.band == 31 && j.startAt.isNone) = some j ∧ q.cc.boundary (16 * j.reqAt) ≤ 16 * q.clock.tt) ∧
      g.cc.inj.find? (fun j => j.band == 31 && j.startAt.isSome && !j.got) = some d ∧ 16 + 16 * decisionsEnd 1584 ≤ 16 * g.clock.tt := by
  decide

theorem witness_calibration :
    let s := inUse (later base 1000000) [(Reg.CAL_CFG, Fld.CAL_CFG_EN, 1)]
    let c : CalCycle := { conv := 33023, batch := 5, m0 := 0, cur := ⟨0, 0, 0⟩, first := ⟨0, 0, 0⟩, clamped := false, startAt := 16, lostAt := 0 }
    let l := { s with cal := { s.cal with cycles := [c] } }
    let j := { l with cc := { l.cc with inj := [{ band := 31, refsel := 2, reqAt := 0, tracker := false, slot := 0, brk := 0 }] } }
    let d := fun (mean : Int) => { c.cur with dly := (desiredTap 5 mean c.m0 (l.reg (tapAddr (5 * 33023 + l.spareOf 33023)))).1 }
    (s.u Reg.CAL_CFG Fld.CAL_CFG_EN ≠ 0 ∧ s.batchOver (s.calCycleOf 0) = true ∧ (s.calCycleOf 0).batch = 0) ∧
      (l.u Reg.CAL_CFG Fld.CAL_CFG_EN ≠ 0 ∧ l.calCycleOf 33023 = c ∧ l.batchOver c = true ∧ agrees c.first (d (2048 * 256 + 32 * 64 * 256)) = true ∧
        agrees c.first (d (2048 * 256)) = false) ∧
      j.batchOver (j.calCycleOf 33023) = false ∧ ({ l with clock := { l.clock with tt := 4 } } : State).batchOver c = false := by
  decide +kernel

theorem witness_tap_step :
    let s := inUse (later base 1000000) [(Reg.CAL_CFG, Fld.CAL_CFG_EN, 1)]
    let p := { passOf (some 2000) 0 with rotDone := true }
    let t := { shows (passing 2750 [p]) [(tapAddr 165115, Fld.CAL_TAP_OFS_T, 3)] with cal := s.cal }
    t.running = some p ∧ p.tapDone = false ∧ p.began.getD 0 + 750 ≤ t.clock.tt ∧
      t.cal.imm = [] ∧ t.cal.full = [] ∧ t.listedTaps = [165115] ∧ 165115 % 5 ≠ t.spareOf (165115 / 5) ∧
      tapsOf (t.reg (tapAddr 165115)) ≠ targetsOf (t.reg (tapAddr 165115)) := by
  decide +kernel

/-- R110: with AVG = 6 a batch of 64 conversions is over 64 slice periods after its start, and not one tick before. -/
theorem test_batch_due :
    let s := inUse base [(Reg.CAL_CFG, Fld.CAL_CFG_EN, 1), (Reg.CAL_CFG, Fld.CAL_CFG_AVG, 6)]
    let c : CalCycle := { s.calCycleOf 0 with startAt := 0 }
    let n := ceilDiv (s.batchEnd c) 16
    n ≠ 0 ∧ (later s n).batchOver c = true ∧ (later s (n - 1)).batchOver c = false := by
  decide +kernel

theorem witness_housekeeping :
    let s := shows (later base 1000000) [(Reg.PWR_LIM 0, Fld.PWR_LIM_HIGH, 65535), (Reg.PWR_SUP, Fld.PWR_SUP_TRIP, 4095)]
    let z := { shows s [(Reg.PWR_SUP, Fld.PWR_SUP_TRIP_EN, 1)] with hk := { s.hk with entry := 7 } }
    let i : HkInj := ⟨3, 15, 0⟩
    let p := { shows s [(Reg.HK_STATUS, Fld.HK_STATUS_INJ_PENDING, 8)] with hk := { s.hk with inj := [i] } }
    let c := { s with clock := { s.clock with now := s.hk.calEnd } }
    let mean := fun (s : State) (v : Nat) => hkMean (Fld.HK_CFG_AVG.get s.hk.cfg) v
    (s.boot.inReset = false ∧ s.hk.runs = true ∧ s.hk.entryEnd ≤ s.clock.now ∧ s.hk.entryClear = true ∧
        s.f (Reg.PWR_LIM s.hk.channel) Fld.PWR_LIM_LOW ≤ mean s 100 ∧ mean s 100 ≤ s.f (Reg.PWR_LIM s.hk.channel) Fld.PWR_LIM_HIGH ∧
        mean s 100 / 16 < s.f Reg.PWR_SUP Fld.PWR_SUP_TRIP) ∧
      (z.hk.runs = true ∧ z.hk.entryEnd ≤ z.clock.now ∧ z.hk.entryClear = true ∧ z.flag Reg.PWR_SUP Fld.PWR_SUP_TRIP_EN = true ∧ z.hk.channel = 7 ∧
        z.f Reg.PWR_SUP Fld.PWR_SUP_TRIP ≤ mean z 65535 / 16) ∧
      hasBit (s.f Reg.HK_STATUS Fld.HK_STATUS_INJ_PENDING) 3 = false ∧ hasBit (p.f Reg.HK_STATUS Fld.HK_STATUS_INJ_PENDING) 3 = true ∧
      i.start + 1000 ≤ p.clock.now ∧ c.hk.period ≠ 0 ∧ c.hk.calEnd ≤ c.clock.now ∧ c.hk.inj = [] := by
  decide +kernel

/-! ## Pipeline and frame store -/

/-- A register file of these fields. -/
def settings (l : List (Nat × Field × Nat)) : RegFile :=
  l.foldl (fun (st : RegFile) x => Sparse.put resetWord st x.1 (x.2.1.set (RegFile.word st x.1) x.2.2)) []

/-- A word of these fields. -/
def wordOf (l : List (Field × Nat)) : Word := l.foldl (fun (w : Word) x => x.1.set w x.2) 0

/-- Context 0 with a window of 16 × 16 pixels, on bundle 0. -/
def smallCtx : List (Nat × Field × Nat) :=
  [(Reg.CTX_CTL 0, Fld.CTX_CTL_ACTIVE, 1), (Reg.CTX_CTL 0, Fld.CTX_CTL_SLOT, 0), (Reg.CTX_WIN 0, Fld.CTX_WIN_W, 16), (Reg.CTX_WIN 0, Fld.CTX_WIN_H, 16),
    (Reg.CTX_DEST 0, Fld.CTX_DEST_KIND, 0), (Reg.CTX_DEST 0, Fld.CTX_DEST_SPLIT, 0), (Reg.CTX_DEST 0, Fld.CTX_DEST_BUNDLES, 1)]

/-- The stripes' clocks run, and bundle 0 is active with credit. -/
def working (s : State) : State :=
  shows s [(Reg.CK_PSTAT 1, Fld.CK_PSTAT_ACQ, 0), (Reg.EG_BSTAT 0, Fld.EG_BSTAT_STATE, 3), (Reg.EG_BCAP 0, Fld.EG_BCAP_INIT_N, 100), (Reg.EG_BCAP 0, Fld.EG_BCAP_INIT_B, 100)]

/-- A frame of context 0 on its way through the stages. -/
def flowing (l : List (Nat × Field × Nat)) : State :=
  let s := inUse (working (later base 1000000)) (smallCtx ++ l)
  { s with
    tt := { s.tt with passes := [passOf (some 2000) 64] }
    pipe := { s.pipe with progress := [{ ctx := 0, seq := 0, cont := 0, bank := 0, fixed := settings smallCtx, fsDone := true }] } }

/-- A line of two codes of that frame. -/
def aLine : Line := { ctx := 0, seq := 0, cont := 0, idx := 0, depth := 0, codes := [1, 2], outAt := 0, parts := [(8, 0)] }

theorem witness_lines :
    let s := flowing []
    let p : Progress := { ctx := 0, seq := 0, cont := 0, bank := 0, fixed := settings smallCtx, fsDone := true }
    let q := passOf (some 2000) 64
    let m := flowing [(Reg.CTX_CTL 0, Fld.CTX_CTL_NR_S, 1), (Reg.PIPE_CFG, Fld.PIPE_CFG_SEAM_L, 1)]
    let w : SeamWait := ⟨0, 0, 0, 15, 900000⟩
    let h := { m with pipe := { m.pipe with waits := [w] } }
    (s.stripesWork ∧ s.lineOf 0 0 = some (p, q) ∧ s.lineOf 0 15 = some (p, q) ∧ s.lineOf 0 16 = none ∧
        s.lineReady (s.view q) p 0 ((s.view q).releaseAt 0 0) = true ∧ s.lineReady (s.view q) p 1 ((s.view q).releaseAt 0 1) = false ∧
        (s.view q).seamMissing 0 0 = false) ∧
      (m.stripesWork ∧ m.lineOf 0 0 = some (p, q) ∧ m.lineReady (m.view q) p 0 ((m.view q).releaseAt 0 0) = true ∧ (m.view q).seamMissing 0 0 = true ∧
        m.pipe.waits = []) ∧
      h.stripesWork ∧ h.pipe.waits.find? (fun w => decide (w.at' + 3000 ≤ h.clock.tt)) = some w ∧ h.lineOf w.ctx w.line = some (p, q) := by
  decide +kernel

/-- A history of context 0 in berth 3. -/
def aHistory : History := { ctx := 0, slot := 0, berth := 3, bits := 10, valid := true, settings := settings smallCtx, black := [] }

/-- R162, R187: the last line of a frame stores its history and the history's record, and nothing outside them. -/
theorem witness_history_bytes :
    let s := flowing [(Reg.CTX_CTL 0, Fld.CTX_CTL_NR_T, 1)]
    let p : Progress := { ctx := 0, seq := 0, cont := 0, bank := 0, fixed := settings smallCtx, fsDone := true, released := List.range 15 }
    let h := { s with pipe := { s.pipe with history := [aHistory], progress := [p] } }
    let q := passOf (some 2000) 64
    aHistory ∈ h.pipe.history ∧ aHistory.ctx = p.ctx ∧ aHistory.until' = none ∧ p.released.length + 1 = p.total (h.view q).st ∧
      (h.view q).st.on (Reg.CTX_CTL p.ctx) Fld.CTX_CTL_NR_T = true ∧ h.lineOf 0 15 = some (p, q) ∧
      h.lineReady (h.view q) p 15 ((h.view q).releaseAt 0 15) = true := by
  decide +kernel

theorem witness_landing :
    let s := { flowing [] with pipe := { (flowing []).pipe with lines := [aLine] } }
    let p : Progress := { ctx := 0, seq := 0, cont := 0, bank := 0, fixed := settings smallCtx, fsDone := true }
    let part := partOf p.fixed 0 0
    let packets := linePackets (framePacket p.fixed 0 0 0 0 2) (depthBits aLine.depth) 0 part.1 ((aLine.codes.drop part.1).take part.2)
    let split := { aLine with parts := [(0, 0), (1, 0)] }
    s.stripesWork ∧ s.nextPart = some (aLine, (8, 0)) ∧ aLine.parts.erase (8, 0) = [] ∧ s.pipe.progress = [p] ∧ p.dropped = false ∧ p.cut = false ∧
      p.fixed.fld (Reg.CTX_DEST 0) Fld.CTX_DEST_KIND ≠ 1 ∧ p.fixed.fld (Reg.CTX_CTL 0) Fld.CTX_CTL_CLASS ≠ 1 ∧ maskBundles (frameMask p.fixed 0) = [0] ∧
      0 < s.eg.length ∧ allBerthed p.fixed 0 p.burst = false ∧ s.isDropped 0 0 0 = false ∧ s.spills 0 0 0 0 packets = false ∧ packets ≠ [] ∧
      mirrored p.fixed 0 = false ∧ p.man = [] ∧
      ({ s with pipe := { s.pipe with lines := [split] } } : State).nextPart = some (split, (0, 0)) ∧ split.parts.erase (0, 0) ≠ [] := by
  decide +kernel

theorem witness_statistics :
    let p : Progress := { ctx := 0, seq := 0, cont := 0, bank := 0, fixed := settings smallCtx, fsDone := true, entered := 16 }
    let f : Frame := { gated (frameAt 10) with complete := true }
    let a : StatAcc := { ctx := 0, seq := 0, cont := 0, count := 256, lo := 3, hi := 900, sum := 70000, hist := [(1, 200), (63, 56)] }
    let w := flowing []
    let s := { w with tt := { w.tt with frames := [f], passes := [{ passOf (some 2000) 64 with ended := true }] }, pipe := { w.pipe with progress := [p], stats := [a] } }
    let m := inUse s [(Reg.TT_MAP_CFG, Fld.TT_MAP_CFG_AUTO, 1)]
    let g := { f with mapped := true }
    let o := { s with tt := { s.tt with frames := [g] }, pipe := { s.pipe with progress := [{ p with shown := true }] } }
    (s.stripesWork ∧ p.recorded = true ∧ p.shown = false ∧ s.tt.frames.find? (fun f => f.gated && f.seq == p.seq && f.cont == p.cont) = some f ∧
        s.pipe.stats.find? (fun a => a.ctx == p.ctx && a.seq == p.seq && a.cont == p.cont) = some a) ∧
      (s.tt.frames.filter (fun f => s.mapsDone f && !f.mapped) = [f] ∧ (s.bank f.bank).fld Reg.TT_MAP_CFG Fld.TT_MAP_CFG_AUTO ≠ 1) ∧
      (m.tt.frames.filter (fun f => m.mapsDone f && !f.mapped) = [f] ∧ (m.bank f.bank).fld Reg.TT_MAP_CFG Fld.TT_MAP_CFG_AUTO = 1) ∧
      o.stripesWork ∧ g ∈ o.tt.frames ∧ g.gated = true ∧ o.snapshotOver g = true ∧ ∀ h ∈ o.tt.frames, o.mapsDone h = true → h.mapped = true := by
  decide +kernel

theorem witness_derivation_and_latches :
    let n : Snapshot := ⟨0, [], []⟩
    let s := flowing [(Reg.TT_MAP_CFG, Fld.TT_MAP_CFG_AUTO, 1)]
    let d := { s with pipe := { s.pipe with snapshot := some n } }
    let wanted := fun (s : State) => s.u Reg.TT_MAP_CFG Fld.TT_MAP_CFG_AUTO ≠ 0 ∧ serialGe 32 n.seq s.gw.autoFrom = true
    wanted d ∧ ¬ wanted { d with gw := { d.gw with autoFrom := 1 } } ∧ ¬ wanted (inUse d [(Reg.TT_MAP_CFG, Fld.TT_MAP_CFG_AUTO, 0)]) ∧
      base.mayManage .purser = true ∧ locked.mayManage .eth = true := by
  decide +kernel

theorem witness_seam_rows :
    let p := { passOf (some 2000) 0 with rmax := 1 }
    let s := { shows (later base 16900) [(Reg.FB_CFG, Fld.FB_CFG_SEAM_TX_L, 1), (Reg.FB_CFG, Fld.FB_CFG_SEAM_TX_R, 1), (Reg.FB_PSTAT 0, Fld.FB_PSTAT_STATE, 4),
      (Reg.FB_PSTAT 7, Fld.FB_PSTAT_STATE, 4), (Reg.FB_CFG, Fld.FB_CFG_SEAM_PORT_L, 0), (Reg.FB_CFG, Fld.FB_CFG_SEAM_PORT_R, 7)] with tt := { base.tt with passes := [p] } }
    s.flag Reg.FB_CFG Fld.FB_CFG_SEAM_TX_R = true ∧ s.flag Reg.FB_CFG Fld.FB_CFG_SEAM_TX_L = true ∧ s.portState (s.f Reg.FB_CFG Fld.FB_CFG_SEAM_PORT_R) = 4 ∧
      s.portState (s.f Reg.FB_CFG Fld.FB_CFG_SEAM_PORT_L) = 4 ∧ s.seamPass 0 0 0 = some p ∧ s.seamPass 0 0 257 = some p ∧
      s.f Reg.FB_CFG Fld.FB_CFG_SEAM_PORT_R = 7 ∧ s.f Reg.FB_CFG Fld.FB_CFG_SEAM_PORT_L ≠ 7 := by
  decide +kernel

/-- A frame in a berth, of which bundle 0 still needs the FS. -/
def inBerth (n : Nat) : Occupant := { berth := n, ctx := 0, seq := 0, cont := 0, fixed := settings smallCtx, fsOwed := 1, height := 1, width := 16, ended := true, written := [0] }

/-- A state with these frames in berths. -/
def berthed (l : List Occupant) : State :=
  let s := working (later base 1000000)
  { s with fs := { s.fs with occ := l } }

theorem witness_berthed_line :
    let p : Progress := { ctx := 0, seq := 0, cont := 0, bank := 0, fixed := settings smallCtx, burst := true, fsDone := true }
    let o := { inBerth 3 with ended := false, written := [], fsOwed := 0, height := 0 }
    let f := shows (flowing []) [(Reg.FS_BSTATE 3, Fld.FS_BSTATE_STATE, 1)]
    let s := { f with pipe := { f.pipe with lines := [aLine], progress := [p] }, fs := { f.fs with occ := [o] } }
    let a := s.berthBase 3 + lineOffset o.width (depthBits o.depth) 0
    let u := after (.lineEnterLanding 0) s
    (s.stripesWork ∧ s.nextPart = some (aLine, (8, 0)) ∧ aLine.parts = [(8, 0)] ∧ p.man = [] ∧ o.gone = false ∧ allBerthed p.fixed 0 p.burst = true ∧ mirrored p.fixed 0 = false ∧ maskBundles (frameMask p.fixed 0) = [0] ∧
        s.berthState 3 = 1) ∧
      u.bytes a 2 = packBytes (depthBits o.depth) [1, 2] ∧ (u.fs.occ.map fun x => (x.berth, x.written)) = [(3, [0])] ∧ u.byte (a + 2) = s.byte (a + 2) := by
  decide +kernel

theorem witness_unloaders_and_mirrors :
    let s := berthed [inBerth 0]
    let b := berthed [{ inBerth 1023 with cls := 2 }]
    let read := fun (s : State) => s.upset [(2, false)]
    let o : GapOwed := ⟨0, { ptype := 4, cls := 0, ctx := 0, seq := 0, cont := 0 }⟩
    let g := { berthed [] with fs := { (berthed []).fs with gaps := [o] } }
    let i := { inBerth 1023 with mirror := true, ended := false }
    let m := shows (berthed [i]) [(Reg.FS_BSTATE 1023, Fld.FS_BSTATE_STATE, 1)]
    let l := shows m [(Reg.FS_BSTATE 1023, Fld.FS_BSTATE_LOCK, 1)]
    (s.stripesWork ∧ s.eg.length = 8 ∧ nextAfter (s.lastServed 0 0) ((read s).unloadable 0 0) = some 0 ∧ s.firstOn 0 0 = some (inBerth 0) ∧ s.gapOn 0 0 = none) ∧
      ((read b).unloadable 0 0 = [] ∧ nextAfter (b.lastServed 0 2) ((read b).unloadable 0 2) = some 0 ∧
        b.firstOn 0 0 = some { inBerth 1023 with cls := 2 } ∧ b.gapOn 0 0 = none) ∧
      (g.stripesWork ∧ g.eg.length = 8 ∧ nextAfter (g.lastServed 0 0) ((read g).unloadable 0 0) = some 0 ∧ g.gapOn 0 0 = some o ∧ g.firstOn 0 0 = none) ∧
      (m.stripesWork ∧ m.occAt 1023 = some i ∧ m.berthLocked 1023 = false) ∧ l.stripesWork ∧ l.occAt 1023 = some i ∧ l.berthLocked 1023 = true := by
  decide +kernel

theorem witness_berth_table :
    (regAt (Reg.FS_BERTH 0)).isSome = true ∧ (regAt (Reg.FS_BERTH 1023)).isSome = true ∧ base.berthState 1023 = 0 ∧
      (shows base [(Reg.FS_BSTATE 1023, Fld.FS_BSTATE_STATE, 2)]).berthState 1023 ≠ 0 ∧ base.mayManage .purser = true := by
  decide +kernel

theorem witness_recall :
    let r : Recall := { ctx := 0, seq := 0, cont := 0, first := 0, count := 1, x0 := 0, w := 16, bundle := 0, tag := 255 }
    let o := inBerth 3
    let queue := fun (s : State) (l : List Recall) (n : Nat) => { s with fs := { s.fs with recalls := l, results := List.replicate n 0 } }
    let none' := queue (berthed []) [r] 0
    let found := queue (berthed [o]) [r] 0
    let run := queue (berthed [o]) [{ r with berth := some 3 }] 0
    let base' : Packet := { ptype := 2, cls := 2, ctx := 0, seq := 0, cont := 0, tag := 255, origin := 1, depth := o.depth }
    (queue base [r] 14).fs.recalls.length + (queue base [r] 14).fs.results.length < 16 ∧
      16 ≤ (queue base [r] 15).fs.recalls.length + (queue base [r] 15).fs.results.length ∧ none'.stripesWork ∧ none'.recallFind r = none ∧
      (found.recallFind r = some o ∧ 0 < (r.extent o).1 ∧ 0 < (r.extent o).2 ∧ r.first + (r.extent o).1 ≤ o.lines ∧ r.x0 + (r.extent o).2 ≤ o.width ∧
        r.x0 % 16 = 0 ∧ r.w % 16 = 0 ∧ found.bunActive r.bundle = true) ∧
      run.occAt 3 = some o ∧ r.pos < (r.extent o).1 ∧ (r.first + r.pos) ∈ o.written ∧ r.bundle < run.eg.length ∧
      run.hasCredit r.bundle ((run.upset [(0, true)]).readPart o base' (r.first + r.pos) r.x0 (r.extent o).2).2 = true := by
  decide +kernel

/-! ## Ferries -/

/-- Ferry 31 in a state of FY_STAT. -/
def ferrying (n : Nat) (y : Ferry) : State :=
  let s := shows (working (later base 1000000)) [(Reg.FY_STAT 31, Fld.FY_STAT_STATE, n)]
  { s with fy := s.fy.set 31 y }

/-- A frame with a chain for ferry 31, whole in a berth. -/
def handed : Occupant := { inBerth 5 with chain := some (31, 7) }

theorem witness_ferry_commands :
    let idle := ferrying 0 {}
    let s := fun n => ferrying n {}
    let c := shows idle [(Reg.FY_STAT 31, Fld.FY_STAT_CHAIN, 1)]
    let busy := ferrying 3 { desc := [1] }
    let run := ferrying 3 { run := some (1, 2, 3, 4) }
    let poll := ferrying 0 { cfg := wordOf [(Fld.FY_CTL_POLL_EN, 1)] }
    let wait := ferrying 5 { pollAt := 1000001 }
    let hand := { idle with fs := { idle.fs with occ := [handed] } }
    let abort := ferrying 1 { run := some (1, 2, 3, 4), abortReq := true }
    let halted := ferrying 6 { run := some (1, 2, 3, 4), abortReq := true, desc := [1] }
    (idle.mayManage .purser = true ∧ idle.fyChained 31 = false ∧ idle.fyBusy 31 = false ∧ (s 6).fyBusy 31 = false ∧ idle.fyState 31 ≠ 7) ∧
      ((s 1).fyBusy 31 = true ∧ (s 5).fyBusy 31 = true ∧ (s 5).fyChained 31 = false) ∧ c.fyChained 31 = true ∧ (s 7).fyState 31 = 7 ∧
      ((idle.ferry 31).run = none ∧ (idle.ferry 31).desc = []) ∧
      (busy.fy.length = 32 ∧ (busy.ferry 31).run = none ∧ (busy.ferry 31).desc ≠ [] ∧ (busy.ferry 31).outcome = none) ∧
      (run.fy.length = 32 ∧ (run.ferry 31).run = some (1, 2, 3, 4) ∧ run.isDropped 1 2 3 = false) ∧
      (poll.stripesWork ∧ (poll.ferry 31).pollAt ≤ poll.clock.tt ∧ poll.fyState 31 = 0 ∧ poll.polls 31 = true ∧ poll.fyChained 31 = false) ∧
      (s 5).fyState 31 = 5 ∧ (wait.stripesWork ∧ wait.clock.tt < (wait.ferry 31).pollAt) ∧
      (hand.fyState 31 = 0 ∧ (hand.ferry 31).run = none ∧ hand.handNext 31 = some handed) ∧
      ((abort.ferry 31).abortReq = true ∧ (abort.ferry 31).run.isSome = true ∧ (abort.ferry 31).aborting = false ∧ (abort.ferry 31).outcome = none ∧ (abort.ferry 31).desc = []) ∧
      (halted.ferry 31).abortReq = true ∧ (halted.ferry 31).run.isSome = true ∧ (halted.ferry 31).aborting = false ∧ (halted.ferry 31).outcome = none ∧
      (halted.ferry 31).desc ≠ [] := by
  decide +kernel

/-- A descriptor of one line of 64 bytes from address 0 of the store to address 4,096. -/
def aDesc (l : List (Field × Nat)) : List Word :=
  [1 <<< 63, 0, wordOf [(Fld.DESC2_LEN, 1), (Fld.DESC2_COUNT, 1)], 4096, wordOf [(Fld.DESC2_LEN, 1), (Fld.DESC2_COUNT, 1)], wordOf l, 0, 0]

/-- The words of a descriptor at index 0. -/
def listed (s : State) (d : List Word) : State :=
  d.zipIdx.foldl (fun s x => { s with regs := Sparse.put resetWord s.regs (Reg.FY_DESC 0 x.2) x.1 }) s

theorem witness_descriptor_fetch :
    let d := aDesc []
    let w := aDesc [(Fld.DESC5_PACE_KIND, 2)]
    let bad : List Word := [1 <<< 63, 1, 0, 0, 0, 0, 0, 0]
    let x := listed (ferrying 1 {}) bad
    let s := listed (ferrying 1 {}) d
    let p := listed (ferrying 1 {}) w
    let e := ferrying 1 { run := some (0, 0, 0, 0) }
    let cut := listed (ferrying 1 { run := some (0, 0, 0, 0), aborting := true }) d
    let chained := shows (ferrying 1 {}) [(Reg.FY_STAT 31, Fld.FY_STAT_CHAIN, 1)]
    let full := ferrying 1 { awaiting := List.replicate 64 ⟨0, 0, false⟩ }
    (s.stripesWork ∧ s.fy.length = 32 ∧ s.fyState 31 = 1 ∧ (s.ferry 31).awaiting.length < 64 ∧ s.descWords (s.f (Reg.FY_STAT 31) Fld.FY_STAT_POS) = d ∧ s.fyChained 31 = false) ∧
      (Fld.DESC0_OWN.get (dw d 0) = 1 ∧ (s.ferry 31).aborting = false ∧ s.descCheck 31 (s.ferry 31) d = none ∧ Fld.DESC5_PACE_KIND.get (dw d 5) = 0) ∧
      (x.descWords (x.f (Reg.FY_STAT 31) Fld.FY_STAT_POS) = bad ∧ x.fyChained 31 = false ∧ (x.ferry 31).aborting = false ∧ x.descCheck 31 (x.ferry 31) bad = some 2) ∧ Fld.DESC0_OWN.get (dw bad 0) = 1 ∧
      (p.descWords (p.f (Reg.FY_STAT 31) Fld.FY_STAT_POS) = w ∧ p.descCheck 31 (p.ferry 31) w = none ∧ Fld.DESC5_PACE_KIND.get (dw w 5) ≠ 0) ∧
      (Fld.DESC0_OWN.get (dw (e.descWords 0) 0) = 0 ∧ (e.ferry 31).run.isSome = true) ∧
      (Fld.DESC0_OWN.get (dw ((ferrying 1 {}).descWords 0) 0) = 0 ∧ ((ferrying 1 {}).ferry 31).run = none ∧ (ferrying 1 {}).flag (Reg.FY_STAT 31) Fld.FY_STAT_KICK_HELD = false) ∧
      (cut.descWords (cut.f (Reg.FY_STAT 31) Fld.FY_STAT_POS) = d ∧ (cut.ferry 31).run.isSome = true ∧ (cut.ferry 31).aborting = true) ∧
      (chained.fyState 31 = 1 ∧ chained.fyChained 31 = true ∧ (chained.ferry 31).run = none) ∧
      full.fyState 31 = 1 ∧ full.fyChained 31 = false ∧ 64 ≤ (full.ferry 31).awaiting.length := by
  decide +kernel

theorem witness_movement :
    let d := aDesc []
    let s := ferrying 3 { desc := d }
    let w := ferrying 2 { desc := d, waitFrom := some 0 }
    let l := d.set 3 (BitVec.ofNat 64 (0x100000000000 + 7 * 0x10000000000))
    let o := fun n => shows (ferrying 3 { desc := d, outcome := some n }) [(Reg.FY_CTL 31, Fld.FY_CTL_EN, 1)]
    let a := ferrying 0 { awaiting := [⟨16383, 4, true⟩] }
    (w.fyState 31 = 2 ∧ (w.ferry 31).waitFrom.isSome = true ∧ w.waitOver 31 = true) ∧
      (s.stripesWork ∧ s.fy.length = 32 ∧ (s.ferry 31).desc = d ∧ d ≠ [] ∧ (s.ferry 31).outcome = none ∧ s.fyState 31 = 3 ∧ descFrame d = false) ∧
      (0 < 64 * Fld.DESC2_LEN.get (dw d 2) ∧ Fld.DESC2_LEN.get (dw d 4) = Fld.DESC2_LEN.get (dw d 2) ∧ Fld.DESC_ADDR.get (dw d 1) < storeEnd ∧
        (s.upset [(7, false)]).damagedIn 0 64 = false ∧ (s.upset [(0, true)]).damagedIn 0 64 = true ∧ destRegion (Fld.DESC_ADDR.get (dw d 3)) (destSpan d) = some .store) ∧
      (destRegion (Fld.DESC_ADDR.get (dw l 3)) (destSpan l) = some (.landing 7) ∧ s.bunActive 7 = false ∧ descFrame l = false) ∧
      ((o 15).stripesWork ∧ ((o 15).ferry 31).outcome = some 15 ∧ ((o 0).ferry 31).outcome = some 0 ∧ ((o 0).ferry 31).run = none ∧ ((o 0).ferry 31).aborting = false ∧
        (o 0).flag (Reg.FY_CTL 31) Fld.FY_CTL_EN = true ∧ (o 0).fyChained 31 = false ∧ (o 0).flag (Reg.FY_STAT 31) Fld.FY_STAT_KICK_HELD = false) ∧
      (a.ferry 31).awaiting = [⟨16383, 4, true⟩] ∧ a.undelivered 31 4 = false := by
  decide +kernel

/-! ## The egress link and its lanes -/

/-- Bundle 7 with these fields of its registers. -/
def bundled (x : Bundle) (l : List (Nat × Field × Nat)) : State :=
  let s := shows (later base 100000000) ((Reg.CK_PSTAT 9, Fld.CK_PSTAT_ACQ, 0) :: l)
  { s with eg := s.eg.set 7 x }

/-- Bundle 7 in a state over all lanes, with credit. -/
def carrying (n : Nat) (x : Bundle) : State :=
  bundled x ([(Reg.EG_BSTAT 7, Fld.EG_BSTAT_STATE, n), (Reg.EG_BSTAT 7, Fld.EG_BSTAT_LANES, 127), (Reg.EG_BCAP 7, Fld.EG_BCAP_INIT_N, 3), (Reg.EG_BCAP 7, Fld.EG_BCAP_INIT_B, 3)] ++
    (List.range 7).map fun l => (Reg.LN_LSTAT 7 l, Fld.LN_LSTAT_STATE, 4))

/-- A packet of a class. -/
def packet (cls lsn : Nat) : Packet := { ptype := 2, cls := cls, ctx := 0, seq := 0, cont := 0, lsn := lsn, payload := [1] }

theorem witness_packets :
    let pick := fun (s : State) =>
      match s.nextNew 7 false, s.nextNew 7 true with
      | some n, some w => some (if s.f Reg.EG_CFG Fld.EG_CFG_B_RATIO ≤ (s.bun 7).bTurn then w else n)
      | some n, none => some n
      | none, o => o
    let p := shows (carrying 3 { ford := [packet 1 0] }) [(Reg.EG_BSTAT 7, Fld.EG_BSTAT_P_SINK, 1)]
    let d := carrying 3 { due := [packet 0 1] }
    let n := carrying 3 { landing := [packet 2 0, packet 0 0] }
    let turn := carrying 4 { landing := [packet 2 0, packet 0 0], bTurn := 15 }
    let i := carrying 3 {}
    let stop := carrying 5 {}
    let stops := shows n [(Reg.EG_BCTL 7, Fld.EG_BCTL_STOP, 1)]
    let wait := carrying 3 { freeAt := 1400000001 }
    let open' := fun (s : State) => s.eg.length = 8 ∧ (s.bun 7).stream = [] ∧ (s.bun 7).freeAt ≤ s.clock.now * 14 ∧ s.lanesOf 7 ≠ 0
    let active := fun (s : State) => open' s ∧ s.bunActive 7 = true ∧ s.flag (Reg.EG_BCTL 7) Fld.EG_BCTL_STOP = false
    (active p ∧ (p.refill 7).nextP 7 = some (packet 1 0)) ∧ (active d ∧ (d.refill 7).nextP 7 = none ∧ (d.bun 7).due = [packet 0 1]) ∧
      (active n ∧ (n.bun 7).due = [] ∧ (n.refill 7).nextP 7 = none ∧ pick (n.refill 7) = some (packet 0 0)) ∧
      (active turn ∧ pick (turn.refill 7) = some (packet 2 0) ∧ turn.bunState 7 = 4) ∧
      (active i ∧ (i.bun 7).due = [] ∧ (i.refill 7).nextP 7 = none ∧ pick (i.refill 7) = none) ∧
      (open' stop ∧ stop.bunState 7 = 5 ∧ stop.allMoored 7 = false) ∧
      (open' stops ∧ stops.bunActive 7 = true ∧ stops.flag (Reg.EG_BCTL 7) Fld.EG_BCTL_STOP = true) ∧ wait.clock.now * 14 < (wait.bun 7).freeAt := by
  decide +kernel

/-- Round 0 of a bundle whose last lane waits for its block, a bundle at an ALIGN round, and one whose lanes are in LOCK. -/
theorem witness_rounds :
    let k := ctlBlock 1 2 3 4
    let d := carrying 3 { stream := [k], turn := 6, activeAt := 100000000, freeAt := 1400000000, round := 1024 }
    let a := carrying 3 { activeAt := 100000000, freeAt := 1400000000 }
    let w := carrying 3 { activeAt := 100000000, freeAt := 1400000000, round := 1024 }
    let l := shows (bundled {} ((List.range 7).map fun l => (Reg.LN_LSTAT 7 l, Fld.LN_LSTAT_STATE, 3))) [(Reg.EG_BSTAT 7, Fld.EG_BSTAT_STATE, 1)]
    (d.eg.length = 8 ∧ (d.bun 7).lanes.length = 7 ∧ d.held 7 = false ∧ (d.bun 7).freeAt ≤ d.clock.now * 14 ∧ d.clock.now * 14 < (d.bun 7).freeAt + 65 ∧
        (d.bun 7).turn + 1 = (d.activeLanes 7).length ∧ (d.activeLanes 7)[(d.bun 7).turn]? = some 6 ∧ d.laneState 7 6 ≠ 5) ∧
      (a.bunActive 7 = true ∧ a.roundAt 7 (a.bun 7).round ≤ a.clock.now ∧ (a.bun 7).lanes.length = 7 ∧ (a.bun 7).stream = [] ∧ (a.bun 7).turn = 0) ∧
      w.clock.now < w.roundAt 7 (w.bun 7).round ∧
      l.eg.length = 8 ∧ (l.bun 7).stream = [] ∧ (l.bun 7).freeAt ≤ l.clock.now * 14 ∧ (l.bun 7).lanes.length = 7 ∧ l.lanesOf 7 = 0 ∧ l.bunState 7 = 1 ∧
      l.lanesIn 7 3 ≠ [] := by
  decide +kernel

/-- R235: the check value of CRC-32 over the bytes of "123456789". -/
theorem test_crc : crc32 (bytesBits [0x31, 0x32, 0x33, 0x34, 0x35, 0x36, 0x37, 0x38, 0x39]) = 0xCBF43926 := by decide +kernel

/-- R233: the 40th zero in a row brings a one with it. -/
theorem test_stuffing : stuff false 0 (List.replicate 41 false) = (List.replicate 40 false ++ [true, false], false, 1, 1) := by decide +kernel

/-- R232: with s_(k-23) = 1 in the history a zero goes out as a one. -/
theorem test_scrambling : scramble (2 ^ 22) [false, false] = ([true, false], 2 ^ 24 + 2) := by decide +kernel

theorem witness_lane_coding :
    let x : LaneTx := { scr := 5, runBit := true, runLen := 39 }
    x.injLeft = 0 ∧ x.runLen < 40 ∧ (ctlBlock 1 2 3 4).bits.length = 256 := by
  decide +kernel

/-- R242: one P packet of 512 bits of bucket. -/
theorem test_packet_cost : (packet 1 0).nblk = 1 ∧ (packet 1 0).tokens = 512 ∧ (packet 1 0).cost = 1 := by decide

/-- The bits of a block as a sender whose coding begins with it sends them. -/
def coded (k : Block) : List Bool := (({} : LaneTx).block k 0).sent

/-- A RETURN of R246 with NAK, a request for a shed of lane 6, and EXPECT 0; one with EXPECT 2 alone; and a CAP of R247. -/
def retBlock : Block := ctlBlock (0x96 + 2 ^ 24 + 127 * 2 ^ 25 + 1 * 2 ^ 32 + 6 * 2 ^ 34) (9 + 8 * 2 ^ 32) 0 0
def retFar : Block := ctlBlock (0x96 + 2 * 2 ^ 8 + 127 * 2 ^ 25) (9 + 8 * 2 ^ 32) 0 0
def capBlock (initN deskew : Nat) : Block := ctlBlock (0x5A + 2 ^ 8 + 2 ^ 16 + 2 ^ 17 + deskew * 2 ^ 18 + initN * 2 ^ 32 + 3 * 2 ^ 48) (255 * 2 ^ 8) 0 0

/-- The block with one bit wrong. -/
def damaged (k : Block) : Block := { k with bits := k.bits.set 100 (!k.bits.getD 100 false) }

theorem witness_returns :
    let n := shows (carrying 2 { replay := [packet 0 65535, packet 0 0], lanesOk := 127 }) [(Reg.EG_BSTAT 7, Fld.EG_BSTAT_NEXT_LSN, 1)]
    let m : ReturnMsg := { expect := 0, credN := 9, credB := 8, lanesOk := 127, nak := true, req := 1, reqLane := 6 }
    let far : ReturnMsg := { expect := 2, credN := 9, credB := 8, lanesOk := 127, nak := false, req := 0, reqLane := 0 }
    (n.eg.length = 8 ∧ (n.bun 7).lanes.length = 7 ∧ n.bunState 7 = 2 ∧ n.heardReturn 7 (coded retBlock) = some m ∧
        n.heardReturn 7 (coded (damaged retBlock)) = none ∧ n.heardCap 7 (coded retBlock) = none ∧
        ((n.heard 7 (coded (damaged retBlock))).ofType 0x96 false).isSome = true ∧ ((n.heard 7 (coded (damaged (capBlock 3 8)))).ofType 0x5A false).isSome = true) ∧
      (n.badExpect 7 0 = false ∧ m.nak = true ∧ (n.bun 7).lastReplay = none ∧ ((n.bun 7).replay.any fun p => p.lsn == 0) = true ∧ (n.bun 7).badSince = [] ∧
        ((n.bun 7).shedDue.any fun p => p.1 == 6) = false ∧ hasBit (n.lanesOf 7) 6 = true) ∧
      (n.heardReturn 7 (coded retFar) = some far ∧ n.badExpect 7 2 = true ∧ n.badExpect 7 65535 = false ∧ n.badExpect 7 1 = false ∧ n.badExpect 7 65534 = true) ∧
      (base.eg.length = 8 ∧ base.bunState 7 < 2 ∧ base.heardReturn 7 (coded retBlock) = some m) ∧
      ((carrying 4 {}).bunState 7 = 4 ∧ (carrying 4 {}).heardReturn 7 (coded retBlock) = some m ∧ (carrying 5 {}).bunState 7 = 5 ∧
        (carrying 5 {}).heardReturn 7 (coded retBlock) = some m) ∧
      (n.bun 7).replay = packet 0 65535 :: [packet 0 0] ∧ (n.bun 7).lastAdvance + n.ackNs ≤ n.clock.now := by
  decide +kernel

theorem witness_capabilities :
    let lockd := fun (x : Bundle) => shows (bundled x [(Reg.LN_LSTAT 7 6, Fld.LN_LSTAT_STATE, 3)]) [(Reg.LN_LSTAT 7 6, Fld.LN_LSTAT_RX_LOCK, 1)]
    let c := lockd { initMask := 127 }
    let blind := shows (carrying 4 { capStep := true }) [(Reg.LN_LSTAT 7 6, Fld.LN_LSTAT_RX_LOCK, 1)]
    let m : CapMsg := { dirRx := true, version := 1, pSink := true, deskew := 8, initN := 3, initB := 3, resN := 0, resB := 255 }
    (c.inCapStep 7 = true ∧ (c.bun 7).capAt ≤ c.clock.now) ∧ (c.heardCap 7 (coded (capBlock 3 8)) = some m ∧ capGood m = true) ∧
      (c.heardCap 7 (coded (capBlock 2 8)) = some { m with initN := 2 } ∧ capGood { m with initN := 2 } = false) ∧
      capGood { m with deskew := 7 } = false ∧ capGood { m with version := 2 } = false ∧
      (c.eg.length = 8 ∧ c.bunState 7 ≠ 4 ∧ 0 < (c.bun 7).initMask ∧ (c.bun 7).initMask < 128 ∧ c.flag (Reg.EG_BCTL 7) Fld.EG_BCTL_STOP = false ∧
        c.laneState 7 6 = 3) ∧ (blind.inCapStep 7 = true ∧ blind.bunState 7 = 4 ∧ blind.heardCap 7 (coded (capBlock 3 8)) = some m) ∧
      (carrying 4 {}).inCapStep 7 = false ∧ (carrying 4 {}).heardCap 7 (coded (capBlock 3 8)) = some m := by
  decide +kernel

theorem witness_sheds_rejoins_and_stops :
    let s := carrying 2 { shedDue := [(6, 100000000)] }
    let last := shows s [(Reg.EG_BSTAT 7, Fld.EG_BSTAT_LANES, 64)]
    let out := shows (carrying 3 { rejoinDue := [(6, 0)], lanesOk := 64 }) [(Reg.EG_BSTAT 7, Fld.EG_BSTAT_LANES, 63), (Reg.LN_LSTAT 7 6, Fld.LN_LSTAT_STATE, 5)]
    let back := { out with eg := out.eg.set 7 { lanesOk := 64 } }
    let run := carrying 2 {}
    let busy := carrying 2 { freeAt := 1400000001 }
    let poor := shows (carrying 2 { landing := [packet 0 0], stallN := some 99989999 }) [(Reg.EG_BCAP 7, Fld.EG_BCAP_INIT_N, 0)]
    let moored := (List.range 7).foldl (fun s l => shows s [(Reg.LN_LSTAT 7 l, Fld.LN_LSTAT_STATE, 6)]) (carrying 5 {})
    let less := fun (s : State) => laneMask (sevenLanes.filter fun i => hasBit (s.lanesOf 7) i && i != 6)
    (s.eg.length = 8 ∧ s.bunState 7 = 2 ∧ (s.bun 7).shedDue = [(6, 100000000)] ∧ 100000000 ≤ s.clock.now ∧ less s ≠ 0) ∧ less last = 0 ∧
      (out.bunState 7 = 3 ∧ (out.bun 7).rejoinDue = [(6, 0)] ∧ out.laneState 7 6 = 5) ∧
      (run.mayManage .purser = true ∧ hasBit (run.lanesOf 7) 6 = true ∧ ((run.bun 7).shedDue.any fun p => p.1 == 6) = false ∧ hasBit (out.lanesOf 7) 6 = false) ∧
      (hasBit (back.bun 7).lanesOk 6 = true ∧ back.laneState 7 6 = 5 ∧ hasBit (back.lanesOf 7) 6 = false ∧
        ((back.bun 7).rejoinDue.any fun p => p.1 == 6) = false ∧ hasBit (run.bun 7).lanesOk 6 = false) ∧
      (run.bun 7).lastReturn + max 1 (run.f Reg.EG_CFG Fld.EG_CFG_BLIND_TO) * 100 ≤ run.clock.now ∧
      (poor.waitsCredit 7 false = true ∧ (poor.bun 7).stallN = some 99989999 ∧ 99989999 + 10000 < poor.clock.now ∧ run.waitsCredit 7 true = false) ∧
      (run.bunActive 7 = true ∧ (run.bun 7).stream = [] ∧ (run.bun 7).freeAt ≤ run.clock.now * 14) ∧ busy.clock.now * 14 < (busy.bun 7).freeAt ∧
      (base.bunActive 7 = false ∧ (base.bun 7).stream = []) ∧ run.bunState 7 ≠ 5 ∧ (moored.bunState 7 = 5 ∧ moored.allMoored 7 = true) ∧
      (carrying 5 {}).allMoored 7 = false := by
  decide +kernel

/-- Bundle 7 with all its lanes in a state. -/
def lanesAt (n : Nat) (x : Bundle) : State := bundled x ((List.range 7).map fun l => (Reg.LN_LSTAT 7 l, Fld.LN_LSTAT_STATE, n))

theorem witness_bring_up :
    let s := { lanesAt 0 {} with boot := { base.boot with released := 8 } }
    let t := { lanesAt 8 {} with boot := { base.boot with released := 8 } }
    let m := { lanesAt 6 {} with boot := { base.boot with released := 8 } }
    let d := lanesAt 1 { lanes := (List.replicate 7 {}).set 6 { detCount := 1 } }
    let port := fun (x : FabPort) =>
      let s := shows (later base 100000000) [(Reg.FB_PSTAT 7, Fld.FB_PSTAT_STATE, 1)]
      { s with kf := { s.kf with ports := s.kf.ports.set 7 x } }
    (s.eg.length = 8 ∧ s.mayManage .purser = true ∧ s.bunReleased 7 = true ∧ s.laneState 7 6 = 0 ∧ s.flag (Reg.LN_LCTL 7 6) Fld.LN_LCTL_DET_SKIP = false) ∧
      (t.laneState 7 6 = 8 ∧ t.bunReleased 7 = true) ∧ (shows s [(Reg.LN_LCTL 7 6, Fld.LN_LCTL_DET_SKIP, 1)]).flag (Reg.LN_LCTL 7 6) Fld.LN_LCTL_DET_SKIP = true ∧
      (m.allMoored 7 = true ∧ m.bunState 7 = 0 ∧ m.bunReleased 7 = true) ∧ (lanesAt 0 {}).bunReleased 7 = false ∧
      ((carrying 2 {}).laneState 7 6 ≠ 0 ∧ (carrying 2 {}).laneState 7 6 ≠ 8 ∧ (carrying 2 {}).laneState 7 6 ≠ 6 ∧
        ¬ ((carrying 2 {}).laneState 7 6 = 6 ∧ (carrying 2 {}).bunState 7 = 0) ∧ (carrying 2 {}).flag (Reg.LN_BCTL 7) Fld.LN_BCTL_TEST = false) ∧
      ((s.bun 7).lanes.length = 7 ∧ (shows s [(Reg.LN_BCTL 7, Fld.LN_BCTL_TEST, 1)]).flag (Reg.LN_BCTL 7) Fld.LN_BCTL_TEST = true) ∧
      (d.eg.length = 8 ∧ (d.bun 7).lanes.length = 7 ∧ d.laneState 7 6 = 1 ∧ (d.laneAux 7 6).detAt ≤ d.clock.now ∧ 1 ≤ (d.laneAux 7 6).detCount) ∧
      (port {}).kf.ports.length = 8 ∧ (port {}).portState 7 = 1 ∧ ((port {}).port 7).detAt ≤ (port {}).clock.now ∧
      (port {}).flag (Reg.FB_PCTL 7) Fld.FB_PCTL_DET_SKIP = false ∧ ((port {}).port 7).detCount = 0 ∧ 1 ≤ ((port { detCount := 1 }).port 7).detCount := by
  decide +kernel

/-- A training frame of these bits with its right CHK (R263). -/
def trainFrame (n : Nat) : BitVec 32 := BitVec.ofNat 32 (n + (n % 256 ^^^ n / 256 % 256 ^^^ n / 65536 % 256) * 2 ^ 24)

theorem witness_training :
    let s := lanesAt 2 {}
    let c := lanesAt 2 { closes := 1 }
    let ask := trainFrame (127 + 6 * 2 ^ 7 + 1 * 2 ^ 10)
    let close := trainFrame (127 + 6 * 2 ^ 7 + 2 ^ 14)
    let step := fun (s : State) (m : BitVec 32) => coefStep true (trainBits m 10 2) (s.f (Reg.LN_LTXEQ 7 6) Fld.LN_LTXEQ_PRE)
      (min 23 (s.f (Reg.LN_LTXEQ 7 6) Fld.LN_LTXEQ_POST)) (s.f (Reg.LN_LTXEQ 7 6) Fld.LN_LTXEQ_PRE_PRESET)
      (s.f (Reg.LN_LTXEQ 7 6) Fld.LN_LTXEQ_POST_PRESET)
    let full := shows s [(Reg.LN_LTXEQ 7 6, Fld.LN_LTXEQ_PRE, 5), (Reg.LN_LTXEQ 7 6, Fld.LN_LTXEQ_POST, 23)]
    let lk := lanesAt 3 { lockAt := some 0 }
    (s.eg.length = 8 ∧ (s.bun 7).lanes.length = 7 ∧ s.laneState 7 6 = 2 ∧ trainOk ask = true ∧ trainOk close = true ∧ trainOk 1 = false) ∧
      (trainBits ask 7 3 = 6 ∧ trainBits ask 10 2 ≠ 0 ∧ trainBits ask 12 2 = 0 ∧ s.laneState 7 6 = 2 ∧ (s.laneAux 7 6).preSt = 0 ∧ (step s ask).isSome = true ∧ step full ask = none) ∧
      (trainBits close 14 1 = 1 ∧ trainBits close 0 7 ≠ 0 ∧ 1 ≤ (c.bun 7).closes ∧ (c.bun 7).countEnd = none) ∧ base.laneState 7 6 ≠ 2 ∧
      (shows s [(Reg.LN_LSTAT 7 5, Fld.LN_LSTAT_STATE, 5)]).laneState 7 5 ≠ 2 ∧ trainBits (trainFrame (127 + 5 * 2 ^ 7)) 7 3 = 5 ∧ trainOk (trainFrame (127 + 5 * 2 ^ 7)) = true ∧
      ((lanesAt 2 { countEnd := some 100000000 }).bun 7).countEnd = some 100000000 ∧ 100000000 ≤ (lanesAt 2 {}).clock.now ∧
      (s.flag (Reg.LN_LCTL 7 6) Fld.LN_LCTL_DET_SKIP = false ∧ (s.bun 7).since + max 1 (s.f Reg.LN_CFG Fld.LN_CFG_TRAIN_TO) * 1000000 ≤ s.clock.now) ∧
      (lk.laneState 7 6 = 3 ∧ lk.flag (Reg.LN_LSTAT 7 6) Fld.LN_LSTAT_RX_LOCK = false ∧ (lk.bun 7).since + max 1 (lk.f Reg.LN_CFG Fld.LN_CFG_LOCK_TO) * 10000 ≤ lk.clock.now ∧
        (lk.bun 7).lockAt = some 0 ∧ 0 + max 1 (lk.f Reg.LN_CFG Fld.LN_CFG_CAP_TO) * 1000000 ≤ lk.clock.now) := by
  decide +kernel

theorem witness_locks :
    let p := fun n (x : FabPort) =>
      let s := shows base [(Reg.FB_PSTAT 7, Fld.FB_PSTAT_STATE, n)]
      { s with kf := { s.kf with ports := s.kf.ports.set 7 x } }
    (lanesAt 2 {}).laneState 7 6 = 2 ∧ (lanesAt 3 {}).laneState 7 6 = 3 ∧ (lanesAt 3 {}).flag (Reg.LN_LSTAT 7 6) Fld.LN_LSTAT_RX_LOCK = false ∧
      (carrying 4 {}).laneState 7 6 = 4 ∧ (carrying 4 {}).bunState 7 = 4 ∧ (carrying 4 {}).flag (Reg.LN_LSTAT 7 6) Fld.LN_LSTAT_RX_LOCK = false ∧
      (shows (carrying 2 {}) [(Reg.LN_LSTAT 7 6, Fld.LN_LSTAT_RX_LOCK, 1)]).flag (Reg.LN_LSTAT 7 6) Fld.LN_LSTAT_RX_LOCK = true ∧
      ((p 2 {}).kf.ports.length = 8 ∧ (p 2 {}).portState 7 = 2 ∧ (p 4 {}).portState 7 = 4 ∧ (p 3 { gotHello := true }).portState 7 = 3 ∧
        ((p 3 { gotHello := true }).port 7).gotHello = true ∧ ((p 4 { locked := true }).port 7).locked = true ∧ ((p 4 {}).port 7).locked = false) := by
  decide +kernel

theorem witness_bursts_and_mooring :
    let out := shows (carrying 2 { lanes := (List.replicate 7 {}).set 6 { burstFrom := some 0, retryAt := some 100000000 } }) [(Reg.LN_LSTAT 7 6, Fld.LN_LSTAT_STATE, 5)]
    let whole := shows (carrying 5 { moorRound := some 1023, round := 1024 }) [(Reg.LN_BCTL 7, Fld.LN_BCTL_MOOR_STOP, 1)]
    let held := shows (carrying 2 { lanes := (List.replicate 7 {}).set 6 { burstFrom := some 0 } }) [(Reg.LN_LSTAT 7 6, Fld.LN_LSTAT_STATE, 6), (Reg.LN_LCTL 7 6, Fld.LN_LCTL_HOLD, 0)]
    let whole' := shows (bundled { lanes := List.replicate 7 { burstEnd := some 5 } } ((List.range 7).map fun l => (Reg.LN_LSTAT 7 l, Fld.LN_LSTAT_STATE, 7)))
      [(Reg.EG_BSTAT 7, Fld.EG_BSTAT_STATE, 1)]
    let bursting := shows (carrying 2 { lanes := (List.replicate 7 {}).set 6 { burstEnd := some 100000000 } }) [(Reg.LN_LSTAT 7 6, Fld.LN_LSTAT_STATE, 7)]
    (out.eg.length = 8 ∧ (out.bun 7).lanes.length = 7 ∧ out.laneState 7 6 = 5 ∧ out.streams 7 = true ∧ (out.laneAux 7 6).burstFrom = some 0 ∧
        out.burstStart 7 0 ≤ out.clock.now ∧ (out.laneAux 7 6).retryAt = some 100000000 ∧ 100000000 ≤ out.clock.now ∧ (out.laneAux 7 5).burstFrom = none) ∧
      (whole.bunState 7 = 5 ∧ whole.flag (Reg.LN_BCTL 7) Fld.LN_BCTL_MOOR_STOP = true ∧ (whole.bun 7).moorRound = some 1023 ∧ 1023 < (whole.bun 7).round) ∧
      (carrying 5 {}).flag (Reg.LN_BCTL 7) Fld.LN_BCTL_MOOR_STOP = false ∧ ((lanesAt 6 { exitDue := true }).bun 7).exitDue = true ∧
      ((held.bun 7).exitDue = false ∧ held.streams 7 = true ∧ held.allMoored 7 = false ∧ held.laneState 7 6 = 6 ∧ held.flag (Reg.LN_LCTL 7 6) Fld.LN_LCTL_HOLD = false ∧
        held.burstStart 7 ((held.laneAux 7 6).burstFrom.getD held.clock.now) ≤ held.clock.now) ∧
      (whole'.laneState 7 3 = 7 ∧ (whole'.laneAux 7 3).burstEnd = some 5 ∧ whole'.bunState 7 = 1) ∧
      (bursting.laneState 7 6 = 7 ∧ bursting.bunState 7 ≠ 1 ∧ (bursting.laneAux 7 6).burstEnd = some 100000000) := by
  decide +kernel

theorem witness_coefficients_and_checkers :
    let k : LaneId := .lane 7 6
    let t := lanesAt 8 {}
    let lp := shows t [(testReg k, Fld.LN_LTEST_GEN_EN, 1), (testReg k, Fld.LN_LTEST_CHK_EN, 1), (testReg k, Fld.LN_LTEST_CHK_SRC, 0), (perrReg k, Fld.LN_LPERR_LOCKED, 1)]
    let p := shows base [(Reg.FB_PSTAT 7, Fld.FB_PSTAT_STATE, 5), (testReg (.port 7), Fld.LN_LTEST_CHK_EN, 1)]
    (regAt (Reg.LN_LTXEQ 7 6)).isSome = true ∧
      Fld.LN_LTXEQ_PRE.get (wordOf [(Fld.LN_LTXEQ_PRE, 5), (Fld.LN_LTXEQ_POST, 31)]) + min 23 31 = 28 ∧
      28 < Fld.LN_LTXEQ_PRE.get (wordOf [(Fld.LN_LTXEQ_PRE, 6), (Fld.LN_LTXEQ_POST, 31)]) + min 23 31 ∧
      t.injects k 0 = true ∧ t.injects k 1 = false ∧ (lanesAt 3 {}).injects k 1 = true ∧ (lanesAt 5 {}).injects k 2 = true ∧ (lanesAt 2 {}).injects k 1 = false ∧
      (lp.injects k 0 = true ∧ lp.flag (testReg k) Fld.LN_LTEST_GEN_EN = true ∧ lp.f (testReg k) Fld.LN_LTEST_CHK_SRC = 0 ∧ lp.flag (perrReg k) Fld.LN_LPERR_LOCKED = true) ∧
      ((shows lp [(perrReg k, Fld.LN_LPERR_LOCKED, 0)]).flag (perrReg k) Fld.LN_LPERR_LOCKED = false ∧ lp.flag (testReg k) Fld.LN_LTEST_CHK_EN = true ∧
        lp.eg.length = 8 ∧ (lp.bun 7).lanes.length = 7 ∧ t.flag (testReg k) Fld.LN_LTEST_CHK_EN = false) ∧
      p.kf.ports.length = 8 ∧ p.flag (testReg (.port 7)) Fld.LN_LTEST_CHK_EN = true ∧ p.flag (perrReg (.port 7)) Fld.LN_LPERR_LOCKED = false := by
  decide +kernel

/-! ## The fabric -/

/-- Port 7 in a state, and these fields of the registers. -/
def ported (n : Nat) (x : FabPort) (l : List (Nat × Field × Nat)) : State :=
  let s := shows (later base 100000000) ((Reg.FB_PSTAT 7, Fld.FB_PSTAT_STATE, n) :: l)
  { s with kf := { s.kf with ports := s.kf.ports.set 7 x } }

theorem witness_ports :
    let ask := trainFrame (3 + 2 ^ 20)
    let close := trainFrame (3 + 2 ^ 4)
    let s := ported 2 { closes := 1 } []
    let step := fun (s : State) => coefStep true (trainBits ask 20 2) (s.f (Reg.FB_PSTAT 7) Fld.FB_PSTAT_PRE) (s.f (Reg.FB_PSTAT 7) Fld.FB_PSTAT_POST) 4 12
    let full := ported 2 {} [(Reg.FB_PSTAT 7, Fld.FB_PSTAT_PRE, 5), (Reg.FB_PSTAT 7, Fld.FB_PSTAT_POST, 23)]
    let h := ported 3 { locked := true, hellos := [97000000] } []
    let a := ported 4 { locked := true, hellos := [97000000] } [(Reg.FB_PSTAT 7, Fld.FB_PSTAT_ADJ, 1)]
    (s.kf.ports.length = 8 ∧ s.portState 7 = 2 ∧ trainOk ask = true ∧ trainOk close = true ∧ trainBits close 4 1 = 1 ∧ 1 ≤ (s.port 7).closes ∧
        (s.port 7).countEnd = none) ∧
      (trainBits ask 20 2 ≠ 0 ∧ trainBits ask 22 2 = 0 ∧ (s.port 7).preSt = 0 ∧ (step s).isSome = true ∧ step full = none) ∧ base.portState 7 ≠ 2 ∧
      (s.port 7).since + 50000000 ≤ s.clock.now ∧ base.clock.now < (base.port 7).since + 50000000 ∧
      (h.portState 7 = 3 ∧ (h.port 7).since + 10000000 ≤ h.clock.now ∧ (h.port 7).helloAt ≤ h.clock.now) ∧ (a.portState 7 = 4 ∧ (a.port 7).helloAt ≤ a.clock.now) ∧
      ((h.port 7).locked = true ∧ h.flag (Reg.FB_PSTAT 7) Fld.FB_PSTAT_ADJ = false ∧ (h.port 7).hellos.getLast? = some 97000000 ∧ h.clock.now ≤ 97000000 + 3000000) ∧
      ((a.port 7).locked = true ∧ a.flag (Reg.FB_PSTAT 7) Fld.FB_PSTAT_ADJ = true ∧ (a.port 7).hellos.getLast? = some 97000000 ∧ 97000000 + 3000000 ≤ a.clock.now) ∧
      (base.port 7).locked = false ∧ ((ported 4 { hellos := [97000001] } []).port 7).hellos.getLast? = some 97000001 ∧ a.clock.now < 97000001 + 3000000 := by
  decide +kernel

/-- An LSA of device 2 with a sequence number. -/
def lsa (seq : Nat) (devid : Word) : LsaMsg :=
  { src := 1, devid := devid, seq := seq, ptpLock := false, hintEn := false, hintX := 0, hintY := 0, links := [], hops := 0, crcOk := true }

theorem witness_link_states_and_addresses :
    let s := ported 4 {} []
    let due := { s with kf := { s.kf with lsaAt := 100000001, lsaDue := false } }
    let has := { s with kf := { s.kf with db := [⟨lsa 5 2, 0⟩] } }
    let fresh := { s with kf := { s.kf with db := [⟨lsa 5 2, 100000000⟩] } }
    let old := { later base 400000000 with kf := has.kf }
    let child := shows s [(Reg.FB_STATUS, Fld.FB_STATUS_ROOT, 0)]
    let rooted := { child with regs := Sparse.put resetWord child.regs Reg.FB_ROOT 9 }
    let m : AssignMsg := { src := 3, seq := 4, entries := [(9, 3), (rooted.devid, 7)], hops := 0, crcOk := true }
    let got := { rooted with kf := { rooted.kf with gotAssign := some (9, 4) } }
    s.portState 7 = 4 ∧ s.portState 6 ≠ 4 ∧ (s.boot.inReset = false ∧ s.kf.lsaAt ≤ s.clock.now) ∧ (due.kf.lsaDue = false ∧ due.clock.now < due.kf.lsaAt) ∧
      (has.lsaNewer (lsa 6 2) = true ∧ has.kf.db.length < 63 ∧ has.lsaNewer (lsa 5 2) = false ∧ has.lsaNewer (lsa 4 2) = false ∧ s.lsaNewer (lsa 0 s.devid) = false) ∧
      (old.kf.db.any fun e => e.msg.devid == 2 && decide (e.at' + 400000000 ≤ old.clock.now)) = true ∧
      (fresh.kf.db.any fun e => e.msg.devid == 2 && decide (e.at' + 400000000 ≤ fresh.clock.now)) = false ∧
      (s.isRoot = true ∧ s.kf.assignAt ≤ s.clock.now) ∧ child.isRoot = false ∧
      (rooted.assignNewer m = true ∧ (m.entries.find? fun e => e.1 == rooted.devid) = some (rooted.devid, 7) ∧ got.assignNewer m = false ∧ s.assignNewer m = false) := by
  decide +kernel

/-- R293: with delays of 10 ns both ways and a parent 5 ns ahead; the delay is in ps. -/
theorem test_time_offset : timeOffset 0 (15 * 65536) (16 * 65536) (21 * 65536) 0 = 5 * 65536 ∧ timeDelay 0 (15 * 65536) (16 * 65536) (21 * 65536) = 10000 := by
  decide

theorem witness_time_and_broadcasts :
    let s := ported 4 { lastRx := some (1, 2), sent := [(65535, 0)] } [(Reg.FB_TRIG_CFG, Fld.FB_TRIG_CFG_SRC, 0), (Reg.FB_TRIG_CFG, Fld.FB_TRIG_CFG_ORIGIN, 1)]
    let child := ported 4 { sent := [(65535, 0)] } [(Reg.FB_STATUS, Fld.FB_STATUS_ROOT, 0), (Reg.FB_TSTAT, Fld.FB_TSTAT_PARENT_VALID, 1), (Reg.FB_TSTAT, Fld.FB_TSTAT_PARENT, 7),
      (Reg.TT_STATUS, Fld.TT_STATUS_RUNNING, 1)]
    let match' := fun (s : State) (rx : Nat) => (s.port 7).sent.find? fun e => e.1 == 65535 && decide (centred 80 ((rx : Int) - e.2) ≤ 65536000000)
    let o := fun (t2 t3 t4 : Nat) => (timeOffset 0 t2 t3 t4 (Fld.FB_PDELAY_ASYM.sget (child.reg (Reg.FB_PDELAY 7)))).natAbs
    let known := fun (s : State) (n : Nat) => (s.kf.seen.filter fun e => decide (s.clock.now ≤ e.2.2.2 + 1000000)).any fun e => decide ((e.1, e.2.1, e.2.2.1) = (4095, 3, n))
    let k := { s with kf := { s.kf with seen := [(4095, 3, 65535, 99000000)] } }
    (s.kf.ports.length = 8 ∧ s.portState 7 = 4 ∧ (s.port 7).timeAt ≤ s.clock.now ∧ (s.port 7).lastRx = some (1, 2) ∧ (child.port 7).lastRx = none) ∧
      (match' s 65536000000 = some (65535, 0) ∧ match' s 65536000001 = none) ∧ s.isRoot = true ∧
      (child.isRoot = false ∧ child.flag Reg.FB_TSTAT Fld.FB_TSTAT_PARENT_VALID = true ∧ child.f Reg.FB_TSTAT Fld.FB_TSTAT_PARENT = 7 ∧
        child.flag Reg.TT_STATUS Fld.TT_STATUS_RUNNING = true) ∧
      (o (2000 * 65536) 0 0 = 1000 * 65536 ∧ o (2001 * 65536) 0 0 = 65568768 ∧ 1000 * 65536 < o (2001 * 65536) 0 0) ∧
      (s.mayManage .purser = true ∧ s.bcastSource 0 = true ∧ s.flag Reg.FB_TRIG_CFG Fld.FB_TRIG_CFG_ORIGIN = true ∧ s.kf.shareOut = none) ∧
      base.flag Reg.FB_TRIG_CFG Fld.FB_TRIG_CFG_ORIGIN = false ∧ known k 65535 = true ∧ known k 65534 = false ∧ known s 65535 = false := by
  decide +kernel

theorem witness_shares_and_tunnel :
    let s := ported 4 {} [(Reg.FB_TTS_CFG, Fld.FB_TTS_CFG_SEND, 1), (Reg.FB_TTS_CFG, Fld.FB_TTS_CFG_RECV, 1), (Reg.FB_STATUS, Fld.FB_STATUS_ADDR_VALID, 1), (Reg.FB_STATUS, Fld.FB_STATUS_ADDR, 7),
      (Reg.FB_NODE_INFO 63, Fld.FB_NODE_INFO_VALID, 1), (Reg.FB_NODE_INFO 63, Fld.FB_NODE_INFO_ADDR, 9), (Reg.FB_NODE_INFO 63, Fld.FB_NODE_INFO_PORT, 7)]
    let off := shows s [(Reg.FB_TTS_CFG, Fld.FB_TTS_CFG_SEND, 0), (Reg.FB_TTS_CFG, Fld.FB_TTS_CFG_RECV, 0)]
    let byFabric := inUse s [(Reg.TT_MODE, Fld.TT_MODE_PACE, 3)]
    let x : Share := ⟨1, 100000000, [], false⟩
    let sh := { s with kf := { s.kf with shares := [x] } }
    let fl : Flight := ⟨5, 1, 2⟩
    let f := { s with kf := { s.kf with flights := [fl] } }
    (s.mayManage .purser = true ∧ s.flag Reg.FB_TTS_CFG Fld.FB_TTS_CFG_SEND = true ∧ s.flag Reg.FB_TTS_CFG Fld.FB_TTS_CFG_RECV = true ∧ s.portState 7 = 4) ∧
      off.flag Reg.FB_TTS_CFG Fld.FB_TTS_CFG_SEND = false ∧ off.flag Reg.FB_TTS_CFG Fld.FB_TTS_CFG_RECV = false ∧ s.u Reg.TT_MODE Fld.TT_MODE_PACE ≠ 3 ∧
      byFabric.u Reg.TT_MODE Fld.TT_MODE_PACE = 3 ∧ sh.shareDue = some x ∧ s.shareDue = none ∧
      (s.flag Reg.FB_STATUS Fld.FB_STATUS_ADDR_VALID = true ∧ s.fabAddr = 7 ∧ (f.kf.flights.find? fun g => g.handle == 5) = some fl ∧ witBad anyReq = false ∧
        witBad { anyReq with body := [] } = true ∧ s.routeTo 9 = some 7 ∧ s.routeTo 8 = none) := by
  decide +kernel

/-! ## Clock synthesis -/

/-- Loop 11 and these fields of the registers. -/
def looped (x : Loop) (l : List (Nat × Field × Nat)) : State :=
  let s := shows (later base 100000000) l
  { s with ck := { s.ck with loops := s.ck.loops.set 11 x } }

theorem witness_loops :
    let idle := (Reg.CK_PSTAT 11, Fld.CK_PSTAT_ACQ, 0)
    let s := looped { started := true, entry := some 63, tryAt := 99800000 } []
    let w := looped { started := true, good := 1 } [idle, (Reg.CK_PSTAT 11, Fld.CK_PSTAT_LOCKED, 1)]
    let r := looped { started := true } [idle, (Reg.CK_POLICY, Fld.CK_POLICY_AUTO_RESTART, 1)]
    let g := looped { started := true, tries := 3 } [idle, (Reg.CK_POLICY, Fld.CK_POLICY_AUTO_RESTART, 1)]
    let a := shows base [(Reg.CK_PLL 0, Fld.CK_PLL_LD_MODE, 1), (Reg.CK_PSTAT 0, Fld.CK_PSTAT_ACQ, 0)]
    let c := shows (later base 100000000) ((Reg.CK_STATUS, Fld.CK_STATUS_REF_OK, 1) :: (refLoops false).map fun k => (Reg.CK_PSTAT k, Fld.CK_PSTAT_LOCKED, 1))
    (base.refLost false = false ∧ { base with ck := { base.ck with lrefGone := true } }.refLost true = true ∧ base.ck.loops.length = 12) ∧
      ((regAt (Reg.CK_PLL 11)).isSome = true ∧ s.mayManage .purser = true ∧ (s.loop 11).started = true ∧ (base.loop 11).started = false) ∧
      (s.acquiring 11 = true ∧ (s.loop 11).entry = some 63 ∧ (s.loop 11).tryAt + 200000 ≤ s.clock.now ∧ s.refLost (onLane 11) = false ∧
        2048 * s.pfdPeriod 11 ≤ 7 * (s.clock.now - (s.loop 11).tryAt) ∧ s.clock.now ≤ (s.loop 11).tryAt + 200000 ∧ s.analogLock 11 = false ∧
        (diffOf 1).natAbs ≤ 1 ∧ (diffOf 65535).natAbs ≤ 1 ∧ ¬ (diffOf 2).natAbs ≤ 1) ∧
      (w.acquiring 11 = false ∧ w.analogLock 11 = false ∧ 1024 * 2 ^ w.f (Reg.CK_PLL 11) Fld.CK_PLL_LD_WIN * w.pfdPeriod 11 ≤ 7 * (w.clock.now - (w.loop 11).winAt) ∧
        (diffOf 1).natAbs ≤ max 1 (w.f (Reg.CK_PLL 11) Fld.CK_PLL_LD_TOL) ∧ max 1 (w.f (Reg.CK_PLL 11) Fld.CK_PLL_LD_TOL) < (diffOf 32768).natAbs ∧
        1 ≤ (w.loop 11).good ∧ (r.loop 11).good = 0) ∧
      (w.flag Reg.CK_POLICY Fld.CK_POLICY_AUTO_CLEAR = true ∧ w.locked 11 = true ∧ (w.loop 11).since + 10000000 ≤ w.clock.now) ∧
      (r.restartDue 11 = true ∧ (r.loop 11).tries < 3 ∧ g.restartDue 11 = true ∧ 3 ≤ (g.loop 11).tries ∧ base.restartDue 11 = false) ∧
      (a.analogLock 0 = true ∧ a.acquiring 0 = false ∧ a.refLost false = false ∧ base.analogLock 0 = false) ∧
      (c.flag Reg.CK_POLICY Fld.CK_POLICY_AUTO_CLEAR = true ∧ c.flag Reg.CK_STATUS Fld.CK_STATUS_REF_OK = true ∧ c.refFrom false + 10000000 ≤ c.clock.now ∧
        (refLoops false).all c.locked = true) := by
  decide +kernel

theorem witness_clock_outputs :
    let s := shows (later base 500) [(Reg.CK_SYNC_TIME, Fld.CK_SYNC_TIME_ARMED, 1)]
    let a := { s with regs := Sparse.put resetWord s.regs Reg.CK_SYNC_AT 499 }
    (regAt (Reg.CK_OUT 0)).isSome = true ∧ (regAt (Reg.CK_OUT 5)).isSome = true ∧ base.ck.outs.length = 6 ∧ base.mayManage .purser = true ∧
      outFast (wordOf [(Fld.CK_OUT_SRC, 1), (Fld.CK_OUT_DIV, 2)]) = true ∧ outFast (wordOf [(Fld.CK_OUT_SRC, 1), (Fld.CK_OUT_DIV, 3)]) = false ∧
      (a.flag Reg.CK_SYNC_TIME Fld.CK_SYNC_TIME_ARMED = true ∧ max a.ck.armFrom (tickCeil (a.ttOf (a.reg Reg.CK_SYNC_AT))) ≤ a.clock.tt) ∧
      base.flag Reg.CK_SYNC_TIME Fld.CK_SYNC_TIME_ARMED = false := by
  decide +kernel

/-! ## PIO engines -/

/-- R329: words of the encoding table, written out. -/
theorem test_pio_words : decodePio 0 = .nop 0 ∧ decodePio (255 * 2 ^ 8) = .nop 255 ∧ decodePio (1 + 2 ^ 5 + 15 * 2 ^ 7) = .waitPin true 15 ∧
    decodePio (1 + 3 * 2 ^ 3) = .illegal ∧ decodePio (1 + 2 * 2 ^ 3 + 7 * 2 ^ 7) = .illegal ∧ decodePio (2 + 1 * 2 ^ 3 + 1023 * 2 ^ 6) = .setLc 1023 ∧
    decodePio (2 + (1 + 9 * 2 ^ 6) * 2 ^ 6) = .setPin 9 true ∧ decodePio (3 + 5 * 2 ^ 3 + 31 * 2 ^ 11) = .jmp 5 0 31 ∧ decodePio (3 + 11 * 2 ^ 3) = .illegal ∧
    decodePio (3 + 8 * 2 ^ 3) = .illegal ∧ decodePio 0x640C = .outSerial 32 6 false ∧ decodePio (5 + 17 * 2 ^ 5) = .illegal ∧ decodePio (5 + 2 * 2 ^ 3) = .inDin 64 ∧
    decodePio (6 + 3 * 2 ^ 3 + 5 * 2 ^ 12) = .illegal ∧ decodePio (6 + 2 ^ 10 + 31 * 2 ^ 5 + 15 * 2 ^ 12) = .irqSet 15 (some 31) ∧
    decodePio (7 + 3 * 2 ^ 9 + 2 ^ 11 + 15 * 2 ^ 12) = .pulse 262144 15 true := by
  decide

/-- Engine 15 runs and is ready with a word in the cycle that begins at 20. -/
def engined (w : Nat) (x : Engine) (l : List (Nat × Field × Nat)) : State :=
  let s := shows (later base 20) ((Reg.PIO_ECTL 15, Fld.PIO_ECTL_RUN, 1) :: (Reg.PIO_ESTAT 15, Fld.PIO_ESTAT_STATE, 1) :: l)
  { s with pio := { s.pio with engines := s.pio.engines.set 15 { x with ir := w, latched := true, readyAt := 20 } } }

/-- Engine 15 is ready with an instruction. -/
def readyFor (s : State) (op : PioOp) : Bool :=
  decide (s.pio.engines.length = 16) && s.pioSettle.engReady 15 && decide (decodePio (s.pioSettle.eng 15).ir = op)

theorem witness_engines_wait_and_set :
    let lc := engined (3 + 5 * 2 ^ 3 + 31 * 2 ^ 11) {} [(Reg.PIO_ELC 15, Fld.PIO_ELC_LC, 1)]
    let seen := engined (1 + 2 * 2 ^ 3 + 6 * 2 ^ 7) {} [(Reg.PIO_ESTAT 15, Fld.PIO_ESTAT_LATCH, 64)]
    let flag := engined (1 + 1 * 2 ^ 3 + 2 ^ 5 + 2 ^ 6 + 15 * 2 ^ 7) {} [(Reg.PIO_FLAGS, Fld.PIO_FLAGS_FLAGS, 32768)]
    let none' := engined (1 + 1 * 2 ^ 3 + 2 ^ 5 + 2 ^ 6 + 15 * 2 ^ 7) {} []
    let e := fun w => engined w {} []
    let pin := e (1 + 2 ^ 5)
    readyFor (e (255 * 2 ^ 8)) (.nop 255) = true ∧ base.pioSettle.engReady 15 = false ∧
      (readyFor lc (.jmp 5 0 31) = true ∧ lc.pioSettle.jmpTaken 15 0 5 0 = true ∧ (e (3 + 5 * 2 ^ 3)).pioSettle.jmpTaken 15 0 5 0 = false) ∧
      (readyFor pin (.waitPin true 0) = true ∧ pin.pioSettle.pinLevel 1 (pin.pioSettle.pinOf 15 0) = true ∧ pin.pioSettle.pinLevel 0 (pin.pioSettle.pinOf 15 0) = false) ∧
      (readyFor flag (.waitFlag true true 15) = true ∧ hasBit flag.pioSettle.flagView 15 = true ∧ flag.pioSettle.flagTaken 15 15 = false ∧
        flag.pioSettle.pio.flagCycle ≠ flag.cycle ∧ readyFor none' (.waitFlag true true 15) = true ∧ hasBit none'.pioSettle.flagView 15 = false) ∧
      (readyFor seen (.waitEvent 6) = true ∧ hasBit (seen.pioSettle.f (Reg.PIO_ESTAT 15) Fld.PIO_ESTAT_LATCH) 6 = true ∧
        readyFor (e (1 + 2 * 2 ^ 3)) (.waitEvent 0) = true ∧ hasBit ((e (1 + 2 * 2 ^ 3)).pioSettle.f (Reg.PIO_ESTAT 15) Fld.PIO_ESTAT_LATCH) 0 = false) ∧
      readyFor (e (2 + (1 + 9 * 2 ^ 6) * 2 ^ 6)) (.setPin 9 true) = true ∧ readyFor (e (2 + 1 * 2 ^ 3 + 1023 * 2 ^ 6)) (.setLc 1023) = true ∧
      readyFor (e (2 + 2 * 2 ^ 3)) .setSrClear = true ∧ readyFor (e (2 + 3 * 2 ^ 3 + 127 * 2 ^ 6)) (.setEventClear 127) = true ∧
      readyFor (e (7 + 3 * 2 ^ 9 + 2 ^ 11 + 15 * 2 ^ 12)) (.pulse 262144 15 true) = true := by
  decide +kernel

theorem witness_engines_move_data :
    let e := fun w => engined w {} []
    let w := fun w => engined w { shown := true } []
    let din := engined (5 + 2 * 2 ^ 3) {} [(Reg.PIO_ESTAT 15, Fld.PIO_ESTAT_DIN_FULL, 1)]
    let full := engined (4 + 2 * 2 ^ 3) {} [(Reg.PIO_ESTAT 15, Fld.PIO_ESTAT_DOUT_FULL, 1)]
    let part := engined (5 + 1 * 2 ^ 3 + 2 ^ 11) {} [(Reg.PIO_ESTAT 15, Fld.PIO_ESTAT_BITS_DONE, 63)]
    readyFor (e (5 + 16 * 2 ^ 5)) (.inPins 16 0) = true ∧
      (readyFor din (.inDin 64) = true ∧ din.pioSettle.dinSeen 15 = true ∧ readyFor (e (5 + 2 * 2 ^ 3)) (.inDin 64) = true ∧
        (e (5 + 2 * 2 ^ 3)).pioSettle.dinSeen 15 = false) ∧
      readyFor (e (4 + 1 * 2 ^ 5)) (.outPins 1 0) = true ∧
      (readyFor (e (4 + 2 * 2 ^ 3)) (.outDout 64) = true ∧ (e (4 + 2 * 2 ^ 3)).pioSettle.flag (Reg.PIO_ESTAT 15) Fld.PIO_ESTAT_DOUT_FULL = false ∧
        readyFor full (.outDout 64) = true ∧ full.pioSettle.flag (Reg.PIO_ESTAT 15) Fld.PIO_ESTAT_DOUT_FULL = true) ∧
      readyFor (e (4 + 3 * 2 ^ 3)) (.outLc 64) = true ∧
      (readyFor (e (5 + 1 * 2 ^ 3)) (.inSerial 64 0 false) = true ∧ ((e (5 + 1 * 2 ^ 3)).pioSettle.eng 15).shown = false ∧
        readyFor (w (5 + 1 * 2 ^ 3)) (.inSerial 64 0 false) = true ∧ ((w (5 + 1 * 2 ^ 3)).pioSettle.eng 15).shown = true ∧
        readyFor part (.inSerial 64 0 true) = true ∧ 64 - part.pioSettle.f (Reg.PIO_ESTAT 15) Fld.PIO_ESTAT_BITS_DONE = 1) ∧
      (readyFor (e (4 + 1 * 2 ^ 3)) (.outSerial 64 0 false) = true ∧ ((e (4 + 1 * 2 ^ 3)).pioSettle.eng 15).shown = false ∧
        readyFor (w (4 + 1 * 2 ^ 3)) (.outSerial 64 0 false) = true ∧ readyFor (e (4 + 1 * 2 ^ 3 + 2 ^ 11)) (.outSerial 64 0 true) = true ∧
        readyFor (w (4 + 1 * 2 ^ 3 + 2 ^ 11)) (.outSerial 64 0 true) = true ∧ ((w (4 + 1 * 2 ^ 3 + 2 ^ 11)).pioSettle.eng 15).shown = true ∧
        (w (4 + 1 * 2 ^ 3)).pioSettle.f (Reg.PIO_ESTAT 15) Fld.PIO_ESTAT_BITS_DONE < 127) := by
  decide +kernel

theorem witness_engines_raise :
    let e := fun w => engined w {} []
    let c := e (6 + 1 * 2 ^ 3 + 15 * 2 ^ 12)
    let same := { c with pio := { c.pio with flagCycle := 20, flagSet := 32768 } }
    readyFor (e (6 + 2 ^ 10 + 31 * 2 ^ 5 + 15 * 2 ^ 12)) (.irqSet 15 (some 31)) = true ∧ (readyFor c (.irqClear 15 none) = true ∧ c.pioSettle.pio.flagCycle ≠ c.cycle) ∧
      (readyFor same (.irqClear 15 none) = true ∧ same.pioSettle.pio.flagCycle = same.cycle ∧ hasBit same.pioSettle.pio.flagSet 15 = true) ∧
      readyFor (e (6 + 2 * 2 ^ 3 + 15 * 2 ^ 12)) (.irqHost 15 none) = true ∧ readyFor (e (6 + 3 * 2 ^ 3 + 4 * 2 ^ 12)) (.irqTimetable 4 none) = true ∧
      readyFor (e (6 + 3 * 2 ^ 3)) (.irqTimetable 0 none) = true ∧ readyFor (e (1 + 3 * 2 ^ 3)) .illegal = true ∧ c.pioSettle.mayManage .purser = true := by
  decide +kernel

theorem witness_engines_controlled :
    let s := engined 0 {} []
    let full := engined 0 {} [(Reg.PIO_ESTAT 15, Fld.PIO_ESTAT_DIN_FULL, 1)]
    let inj := fun w => engined 0 { inj := some w } []
    (s.pio.engines.length = 16 ∧ s.pioSettle.mayManage .purser = true ∧ s.pioSettle.flag (Reg.PIO_ESTAT 15) Fld.PIO_ESTAT_DIN_FULL = false ∧
        full.pioSettle.flag (Reg.PIO_ESTAT 15) Fld.PIO_ESTAT_DIN_FULL = true ∧ (s.pioSettle.eng 15).inj = none ∧ ((inj 1).pioSettle.eng 15).inj = some 1) ∧
      ((inj 1).clock.running = true ∧ ((inj 1).pioSettle.eng 15).readyAt ≤ (inj 1).cycle ∧ (inj 1).pioSettle.midBit 15 = false ∧
        (inj 1).pioSettle.injRefused 15 (decodePio 1) = true) ∧ decodePio (2 + 1 * 2 ^ 3) = .setLc 0 ∧ decodePio (5 + 16 * 2 ^ 5 + 15 * 2 ^ 12) = .inPins 16 15 ∧
      decodePio (3 + 31 * 2 ^ 11) = .jmp 0 0 31 ∧
      ((later base 20).pioSettle.flag (Reg.PIO_ECTL 15) Fld.PIO_ECTL_RUN = false ∧ (later base 20).pioSettle.f (Reg.PIO_ESTAT 15) Fld.PIO_ESTAT_STATE ≠ 3 ∧
        s.pioSettle.flag (Reg.PIO_ECTL 15) Fld.PIO_ECTL_RUN = true) := by
  decide +kernel

/-- R330: SET LC in one cycle. -/
theorem test_set_lc : (after (.setLc 0 15) (engined (2 + 1 * 2 ^ 3 + 1023 * 2 ^ 6) {} [])).f (Reg.PIO_ELC 15) Fld.PIO_ELC_LC = 1023 := by decide +kernel

/-- R331: COND 5 with LC = 1 jumps and counts down. -/
theorem test_jmp_lc :
    let s := engined (3 + 5 * 2 ^ 3 + 31 * 2 ^ 11) {} [(Reg.PIO_ELC 15, Fld.PIO_ELC_LC, 1)]
    (after (.jmp 0 15 0) s).f (Reg.PIO_ESTAT 15) Fld.PIO_ESTAT_PC = 31 ∧ (after (.jmp 0 15 0) s).f (Reg.PIO_ELC 15) Fld.PIO_ELC_LC = 0 := by decide +kernel

/-! ## Ethernet and Witrig -/

/-- The link up after boot lock with the address 10.0.0.2/24, and these fields of the registers. -/
def linked (l : List (Nat × Field × Nat)) : State :=
  shows (later locked 1000000000000) ([(Reg.ETH_STATUS, Fld.ETH_STATUS_LINK_UP, 1), (Reg.ETH_STATUS, Fld.ETH_STATUS_IP_VALID, 1), (Reg.ETH_IP_ACT, Fld.ETH_IP_ACT_ADDR, 0x0A000002),
    (Reg.ETH_IP_ACT, Fld.ETH_IP_ACT_PREFIX, 24), (Reg.CK_PSTAT 11, Fld.CK_PSTAT_ACQ, 0)] ++ l)

/-- The DHCP client in a state. -/
def client (s : State) (d : Dhcp) : State := { s with eth := { s.eth with dhcp := d } }

theorem witness_link_and_address :
    let down := shows (later locked 0) [(Reg.CK_PSTAT 11, Fld.CK_PSTAT_ACQ, 0), (Reg.ETH_CFG, Fld.ETH_CFG_IP_MODE, 1)]
    let s := linked [(Reg.ETH_CFG, Fld.ETH_CFG_IP_MODE, 2)]
    let c := fun n => client s { state := n, xid := 7, tries := 4, t2 := 1001 }
    (down.acquiring 11 = false ∧ down.flag Reg.ETH_STATUS Fld.ETH_STATUS_LINK_UP = false ∧ down.bootLocked = true ∧ down.ipMode ≠ 0 ∧ down.eth.dhcp.state = 0) ∧
      (shows down [(Reg.ETH_CFG, Fld.ETH_CFG_IP_MODE, 0)]).ipMode = 0 ∧ base.bootLocked = false ∧ s.flag Reg.ETH_STATUS Fld.ETH_STATUS_LINK_UP = true ∧
      (s.rxOn = true ∧ (c 1).eth.dhcp.state = 1 ∧ (c 1).eth.dhcp.xid = 7 ∧ s.ipMode ≠ 0) ∧
      (s.eth.fellBack = false ∧ s.eth.upAt + 30000000000 ≤ s.clock.now ∧ s.eth.dhcp.state < 3 ∧ s.eth.dhcp.lease = 0) ∧
      (3 ≤ (c 3).eth.dhcp.state ∧ (c 3).eth.dhcp.boundAt + (c 3).eth.dhcp.lease * 1000000000 ≤ (c 3).clock.now) ∧
      ((c 2).eth.dhcp.timerAt ≤ (c 2).clock.now ∧ 4 ≤ (c 2).eth.dhcp.tries ∧ (client s { state := 2 }).eth.dhcp.tries < 4) ∧
      ((c 4).clock.now < (c 4).eth.dhcp.boundAt + (c 4).eth.dhcp.t2 * 1000000000 ∧ (client s { state := 4, t2 := 1000 }).eth.dhcp.t2 * 1000000000 ≤ s.clock.now) ∧
      base.netOn = false ∧ base.rxOn = false ∧ (regAt Reg.ETH_CFG).isSome = true ∧ (regAt Reg.ETH_IP).isSome = true ∧ (regAt Reg.ETH_GW).isSome = true ∧ s.mayManage .eth = true := by
  decide +kernel

/-- A line of a preview frame for 10.0.0.9. -/
def aDatagram : PreviewItem :=
  { kind := 2, ctx := 0, seq := 0, cont := 0, line := 0, col := 0, pix := 1, origin := 0, tag := 0, dst := 0x0A000009, bytes := [1], hold := 1 }

theorem witness_arp_echo_and_transmission :
    let s := linked []
    let e : ArpEntry := ⟨0x0A000009, none, 999000000000, 3⟩
    let known := { s with eth := { s.eth with arp := [{ e with mac := some 5 }], announces := 2 } }
    let asked := { s with eth := { s.eth with arp := [e] } }
    let x : EthTx := { cls := 3, kind := 5, ip := 0x0A000009, words := [] }
    let q := { known with eth := { known.eth with txq := [x] } }
    let p := { known with prev := { known.prev with queue := [aDatagram] } }
    let u := { asked with prev := { asked.prev with queue := [aDatagram] } }
    (s.rxOn = true ∧ s.ipValid = true ∧ s.ownIp = 0x0A000002 ∧ base.rxOn = false) ∧ (known.arpEntry 0x0A000009).isSome = true ∧
      (asked.arpEntry 0x0A000009 = some e ∧ e.mac = none ∧ e.at' + 1000000000 ≤ asked.clock.now ∧ 3 ≤ e.tries) ∧
      (0 < known.eth.announces ∧ known.eth.announceAt ≤ known.clock.now) ∧
      (s.flag Reg.ETH_CFG Fld.ETH_CFG_ICMP_EN = true ∧ 1472 ≤ (if s.flag Reg.ETH_CFG Fld.ETH_CFG_JUMBO then 8972 else 1472) ∧
        s.nextHop 0x0A000009 = some 0x0A000009 ∧ s.nextHop 0x0B000009 = none) ∧
      (q.txOn = true ∧ x ∈ q.routeQueue.eth.txq ∧ q.routeQueue.txReady x = true ∧ base.txOn = false) ∧
      (p.routeQueue.eth.txq = [] ∧ p.txOn = true ∧ p.prev.clearAt ≤ p.clock.now ∧ p.prev.queue.head? = some aDatagram ∧
        p.routeQueue.nextHop (Fld.ETH_PREV_DST_ADDR.get aDatagram.dst) = some 0x0A000009 ∧ p.routeQueue.resolved 0x0A000009 = true) ∧
      (u.routeQueue.eth.txq = [] ∧ u.prev.queue.head? = some aDatagram ∧ u.routeQueue.resolved 0x0A000009 = false) := by
  decide +kernel

/-- A two-step message of port 1 of the clock 9, by default at the first second. -/
def ptp (seq : Nat) (origin : Nat) : PtpMsg :=
  { domain := 0, source := 9, sourcePort := 1, seq := BitVec.ofNat 16 seq, twoStep := true, logInterval := 0, rxFine := 0, origin := origin, correction := 0, forUs := true,
    priority1 := 128, clockClass := 6, accuracy := 0x20, variance := 0, priority2 := 128, gm := 9, steps := 0, utcOffset := 37, utcValid := true }

theorem witness_ptp :
    let with' := fun (s : State) (p : Ptp) => { s with eth := { s.eth with ptp := p } }
    let s := linked [(Reg.TT_STATUS, Fld.TT_STATUS_RUNNING, 1)]
    let f : Foreign := ⟨ptp 0 0, 996000000000, 1⟩
    let one := with' s { foreign := [f] }
    let m := with' s { master := some (ptp 0 0), sync := some (65535, 100 * 65536, 0), good := 15, ms := some 0, req := some (65535, 0), pairAt := 997000000000 }
    let g := with' s { master := some (ptp 0 0), foreign := [⟨ptp 0 0, 999000000000, 2⟩], pairAt := 997000000000 }
    let child := shows m [(Reg.FB_STATUS, Fld.FB_STATUS_ROOT, 0)]
    let locked' := shows g [(Reg.ETH_PTP_STAT, Fld.ETH_PTP_STAT_STATE, 2)]
    (s.ptpOn = true ∧ s.ptpDomain (ptp 0 0) = true ∧ base.ptpOn = false ∧ s.ptpDomain { ptp 0 0 with domain := 1 } = false) ∧
      (one.eth.ptp.foreign = [f] ∧ samePort f.msg (ptp 1 0) = true ∧ one.clock.now ≤ f.at' + 4 * ptpInterval 0 ∧ 1 ≤ f.count ∧ one.eth.ptp.master = none ∧ 0 < ptpInterval 0) ∧
      (m.fromMaster (ptp 1 0) = true ∧ s.fromMaster (ptp 1 0) = false ∧ m.eth.ptp.sync = some (65535, 100 * 65536, 0) ∧ (ptp 65535 0).seq.toNat = 65535) ∧
      (m.isRoot = true ∧ child.isRoot = false ∧ ((centred 80 ((100 * 65536 : Int) - 0 - 0 - 0)) - m.eth.ptp.delay).natAbs ≤ 100 * 65536 ∧ 15 ≤ m.eth.ptp.good ∧
        m.flag Reg.TT_STATUS Fld.TT_STATUS_RUNNING = true) ∧
      (m.eth.ptp.master.isSome = true ∧ m.eth.ptp.ms.isSome = true ∧ m.eth.ptp.reqAt ≤ m.clock.now) ∧ (m.eth.ptp.req = some (65535, 0) ∧ m.eth.ptp.ms = some 0) ∧
      (m.ptpBest = none ∧ g.ptpBest = some (ptp 0 0) ∧ g.eth.ptp.pairAt + ptpReceiptTimeout * ptpInterval 0 ≤ g.clock.now ∧
        locked'.f Reg.ETH_PTP_STAT Fld.ETH_PTP_STAT_STATE = 2) := by
  decide +kernel

/-- A request with an opcode and a body. -/
def request (op : Nat) (body : List Byte) : WitrigMsg := { anyReq with opcode := BitVec.ofNat 8 op, body := body }

/-- A state with this request in front. -/
def asked (s : State) (m : WitrigMsg) : State := { s with eth := { s.eth with reqs := [m] } }

/-- A WRITE of one word 5 to an address under session 7 with a counter. -/
def writing (addr ctr : Nat) : WitrigMsg :=
  { request 2 ([0, 1, 0, 0] ++ beBytes 4 addr ++ [0, 0, 0, 0] ++ beBytes 8 5) with flags := 3, session := 7, ctr := BitVec.ofNat 64 ctr }

theorem witness_witrig :
    let s := linked [(Reg.FB_NODE_INFO 63, Fld.FB_NODE_INFO_VALID, 1), (Reg.FB_NODE_INFO 63, Fld.FB_NODE_INFO_ADDR, 9), (Reg.FB_NODE_INFO 0, Fld.FB_NODE_INFO_VALID, 1),
      (Reg.FB_NODE_INFO 0, Fld.FB_NODE_INFO_ADDR, 7), (Reg.FB_NODE_INFO 0, Fld.FB_NODE_INFO_SELF, 1), (Reg.SEC_SESS 3, Fld.SEC_SESS_OPEN, 1), (Reg.SEC_SESS 3, Fld.SEC_SESS_SESSION, 7)]
    let full := { s with eth := { s.eth with reqs := List.replicate 64 anyReq } }
    let away := { anyReq with flags := 0, target := 9 }
    let own := { anyReq with flags := 0, target := 7 }
    let w := writing Reg.ID_SCRATCH 0
    let r := witFail w 0 true
    let again := { s with boot := { s.boot with sessions := [⟨3, 0, some (witBytes w), some r⟩] } }
    let tun := { s with kf := { s.kf with tunReqs := [⟨9, 0, anyReq⟩] } }
    (s.rxOn = true ∧ s.ipValid = true ∧ s.eth.reqs.length < 64 ∧ 64 ≤ full.eth.reqs.length ∧ anyReq.magic = 0x5754 ∧ anyReq.version = 1 ∧ hasBit anyReq.flags.toNat 0 = true) ∧
      (witBad anyReq = false ∧ witBad (request 5 []) = true ∧ s.nodeOf 7 = some 0 ∧ s.flag (Reg.FB_NODE_INFO 0) Fld.FB_NODE_INFO_SELF = true ∧ hasBit own.flags.toNat 0 = false) ∧
      (s.nodeOf (away.target.toNat % 4096) = some 63 ∧ s.flag (Reg.FB_NODE_INFO 63) Fld.FB_NODE_INFO_SELF = false ∧ s.kf.flights.length < 16 ∧ s.routeTo 9 = some 0 ∧ s.nodeOf 8 = none) ∧
      ((asked s anyReq).eth.reqs.head? = some anyReq ∧ witAt anyReq 0 4 = Reg.ID_SCRATCH ∧ witAt anyReq 4 2 = 1 ∧ (anyReq.expect = 0 ∨ anyReq.expect = s.devid)) ∧
      (tun.kf.tunReqs.head?.isSome = true ∧ tun.routeTo 9 = some 0) ∧ ({ anyReq with expect := 1 }.expect ≠ 0 ∧ (1 : Word) ≠ s.devid) ∧
      (s.sessionOf w = some 3 ∧ s.sessionOf anyReq = none ∧ hasBit w.flags.toNat 1 = true ∧ hasBit anyReq.flags.toNat 1 = false ∧ w.tagOk = true ∧ w.ctr.toNat = (s.reg (Reg.SEC_SESS_CTR 3)).toNat ∧
        (s.reg (Reg.SEC_SESS_CTR 3)).toNat < (writing Reg.ID_SCRATCH 1).ctr.toNat ∧ witAt w 0 2 = 1 ∧ witAt w 4 4 = Reg.ID_SCRATCH ∧ witBad w = false) ∧
      ((again.boot.sessions.find? fun y => y.slot == 3) = some ⟨3, 0, some (witBytes w), some r⟩ ∧ witBytes w ≠ witBytes (writing Reg.ID_DEVID 0)) ∧
      (accessStatus 1 ≠ 0 ∧ accessStatus Reg.ETH_MAC = 0 ∧ s.bootLocked = true) := by
  decide +kernel

/-- R356, R387: an accepted WRITE to ID_SCRATCH writes it and keeps the counter. -/
theorem test_witrig_write :
    let s := asked (linked [(Reg.SEC_SESS 3, Fld.SEC_SESS_OPEN, 1), (Reg.SEC_SESS 3, Fld.SEC_SESS_SESSION, 7)]) (writing Reg.ID_SCRATCH 1)
    (after (.write 0 .eth) s).reg Reg.ID_SCRATCH = 5 ∧ (after (.write 0 .eth) s).reg (Reg.SEC_SESS_CTR 3) = 1 := by decide +kernel

theorem witness_sessions_and_attestation :
    let s := linked [(Reg.SEC_KEY_ST 3, Fld.SEC_KEY_ST_PROGRAMMED, 1)]
    let c := { s with boot := { s.boot with challenges := [⟨5, [1, 2, 3, 4], 990000000000⟩], booted := some 3 } }
    let m := request 4 ([2, 0, 0, 0, 3, 0, 0, 0] ++ beBytes 4 5)
    let x : Session := { slot := 3, lastAt := 700000000000 }
    let o := { s with boot := { s.boot with sessions := [x] } }
    (asked c m).eth.reqs.head? = some m ∧ m.opcode.toNat = 4 ∧ witAt m 0 1 = 2 ∧ witAt m 4 1 = 3 ∧ witAt m 8 4 = 5 ∧
      (c.boot.challenges.find? fun y => y.id == 5) = some ⟨5, [1, 2, 3, 4], 990000000000⟩ ∧ c.clock.now ≤ 990000000000 + 10000000000 ∧ c.keyUsable 3 = true ∧
      m.keyOk = true ∧ m.sigOk = true ∧ m.pointOk = true ∧ c.boot.booted = some 3 ∧ s.boot.booted = none ∧
      (o.boot.sessions.find? fun y => y.slot == 3) = some x ∧ x.lastAt + 300000000000 ≤ o.clock.now ∧ (later o 999999999999).clock.now < x.lastAt + 300000000000 ∧
      base.boot.sessions = [] := by
  decide +kernel

/-! ## Boot, flash, keys and the TAP -/

/-- A stage of the start (R366), with these fields of the registers. -/
def staged (n : Nat) (l : List (Nat × Field × Nat)) : State :=
  shows (later base 1000000000) ([(Reg.PWR_STAT, Fld.PWR_STAT_STAGE, n), (Reg.CFG_FL_INFO, Fld.CFG_FL_INFO_SLOT_MIB, 8), (Reg.SEC_KEY_ST 0, Fld.SEC_KEY_ST_PROGRAMMED, 1)] ++ l)

/-- Slot 3 holds an image with an empty body (R371, R372): a manifest record of 64 bytes and the end record. -/
def imaged (s : State) : State :=
  let b := s.slotBase 3
  [(0, 8, 0x01004746434E524C), (8, 4, 5), (0xC, 2, 0x1342), (0xE, 1, 1), (0xF, 1, 0), (0x10, 8, 0), (0x18, 4, 80), (0x1C, 1, 0), (0x1000, 4, 1), (0x1004, 4, 64),
    (0x1048, 4, 0xFF), (0x104C, 4, 0)].foldl (fun s x => s.putBlock (b + x.1) (natBytes x.2.1 x.2.2)) s

theorem witness_resets :
    let off := { base with boot := { base.boot with powerOff := true } }
    let held := { off with boot := { off.boot with tapHolds := true } }
    let busy := { base with boot := { base.boot with resetWaits := none, keyOp := some (0, []) } }
    let w := shows (later base 5) [(Reg.CFG_BOOT_STAT, Fld.CFG_BOOT_STAT_CONFIRM_WAIT, 1)]
    let hot := { base with boot := { base.boot with thermal := true } }
    let cool := shows hot ((Reg.PWR_SUP, Fld.PWR_SUP_TRIP, 4095) :: [4, 5, 6, 7].map fun c => (Reg.HK_RES c, Fld.HK_RES_VALID, 1))
    (off.boot.powerOff = true ∧ off.boot.tapHolds = false ∧ held.boot.tapHolds = true ∧ base.boot.powerOff = false) ∧
      (base.mayManage .purser = true ∧ base.boot.flashOp = none ∧ base.boot.keyOp = none ∧ busy.boot.keyOp ≠ none ∧ base.mayManage .eth = false) ∧
      (w.flag Reg.CFG_BOOT_STAT Fld.CFG_BOOT_STAT_CONFIRM_WAIT = true ∧ w.boot.confirmBy ≤ w.clock.now) ∧
      (cool.boot.thermal = true ∧ cool.cooled = true ∧ hot.cooled = false) := by
  decide +kernel

theorem witness_start :
    let good : SlotVerdict := ⟨true, true, true, true⟩
    let s := imaged (staged 1 [])
    let fails := fun (s : State) (vs : List SlotVerdict) => (List.range 4).map fun i => (s.readSfdp true 32 100).slotFail i (vs.getD i ⟨false, false, false, false⟩)
    let e := fun n => { staged 2 [] with boot := { base.boot with stagedNext := n } }
    let r := shows (later locked 1000000000) []
    (base.boot.inReset = false ∧ base.boot.thermal = false ∧ base.stage = 0 ∧ base.ck.loops.length = 12) ∧
      (s.boot.inReset = false ∧ s.stage = 1 ∧ fails s (List.replicate 4 good) = [1, 1, 1, 0] ∧ fails s [] = [1, 1, 1, 3] ∧ (staged 1 []).slotValid 3 = false) ∧
      ((s.readSfdp true 32 100).markSet 3 0x803 = false ∧ (s.readSfdp true 32 100).markSet 3 0x800 = false) ∧
      ((e 61).stage = 2 ∧ (e 61).boot.stagedAt + stagedOffset 61 ≤ (e 61).clock.now ∧ (e 0).boot.stagedNext = 0 ∧ stagedOffset 0 = 0 ∧ stagedOffset 2 = 1100000 ∧
        stagedOffset 60 = 6800000 ∧ stagedOffset 61 = 7000000 ∧ (e 51).ck.loops.length = 12) ∧
      (r.bootLocked = true ∧ r.boot.released < 10 ∧ r.boot.lockAt + 200000 * r.boot.released ≤ r.clock.now) := by
  decide +kernel

theorem witness_images :
    let s := { imaged (staged 3 []) with boot := { base.boot with booted := some 3 } }
    let n := { imaged (staged 3 []) with boot := { base.boot with booted := none } }
    let x := State.applyRecords 3 (s.header 3 0x18 4) (s.header 3 0x18 4 / 8 + 1) 0 s
    let b := { s with boot := { s.boot with booted := some 3 } }
    let o := shows b [(Reg.CFG_SLOT 0, Fld.CFG_SLOT_VALID, 1), (Reg.CFG_BOOT_STAT, Fld.CFG_BOOT_STAT_CONFIRM_WAIT, 1)]
    (s.boot.inReset = false ∧ s.stage = 3 ∧ n.boot.booted = none ∧ n.recoveryWrites.bootCommit.isSome = true) ∧
      (x.map fun y => (y.stage, y.bootCommit.map fun z => (z.markSet 3 0x803, z.header 3 0x1C 1, z.boot.booted))) = some (3, some (false, 0, some 3)) ∧
      State.applyRecords 3 80 11 0 { s with flash := [] } = none ∧
      (b.mayManage .purser = true ∧ b.boot.booted = some 3 ∧ o.slotValid 0 = true ∧ o.flag Reg.CFG_BOOT_STAT Fld.CFG_BOOT_STAT_CONFIRM_WAIT = true ∧
        b.slotValid 0 = false ∧ b.slotValid 1 = false ∧ b.slotValid 2 = false ∧ b.boot.flashOp = none ∧ b.boot.keyOp = none ∧
        b.flag Reg.CFG_BOOT_STAT Fld.CFG_BOOT_STAT_CONFIRM_WAIT = false) := by
  decide +kernel

theorem witness_flash_and_keys :
    let s := fun a => { staged 4 [(Reg.CFG_FL_ADDR, Fld.CFG_FL_ADDR_ADDR, a)] with boot := { base.boot with booted := some 3 } }
    let a := fun (s : State) => s.f Reg.CFG_FL_ADDR Fld.CFG_FL_ADDR_ADDR
    let f : FlashOp := ⟨1, 0, 0, ⟨false, false, false, false⟩⟩
    let r := { s 0 with boot := { base.boot with flashOp := some f } }
    let q := { s 0 with boot := { base.boot with flashOp := some f, resetWaits := some 2 } }
    let keys := shows (s 0) [(Reg.SEC_KEY_ST 1, Fld.SEC_KEY_ST_PROGRAMMED, 1)]
    let full := shows keys [(Reg.SEC_KEY_ST 2, Fld.SEC_KEY_ST_PROGRAMMED, 1), (Reg.SEC_KEY_ST 3, Fld.SEC_KEY_ST_PROGRAMMED, 1)]
    let k := { keys with boot := { keys.boot with keyOp := some (1, [1]), booted := none } }
    ((s 0).mayManage .purser = true ∧ (s 0).flashBusy = false ∧ a (s 0x7F0000) % 65536 = 0 ∧ a (s 0x7F0000) + 65536 ≤ 4 * (s 0).slotBytes ∧ a (s 0x7F0000) < (s 0).slotBase 3) ∧
      (a (s 0x1000) % 65536 ≠ 0 ∧ a (s 0x1000) % 4096 = 0 ∧ a (s 0x801) % 4096 ≠ 0) ∧
      ((s 0).boot.booted = some 3 ∧ (s 0).slotBase 3 ≤ a (s 0x1800000) ∧ a (s 0x1800000) < (s 0).slotBase 3 + (s 0).slotBytes) ∧ 4 * (s 0).slotBytes < a (s 0x2000000) + 4096 ∧
      (shows (s 0) [(Reg.CFG_FL_STAT, Fld.CFG_FL_STAT_BUSY, 1)]).flashBusy = true ∧
      (r.boot.flashOp = some f ∧ r.boot.resetWaits = none ∧ r.boot.bufHeld = [] ∧ q.boot.resetWaits = some 2 ∧ q.boot.keyOp = none ∧ base.boot.flashOp = none) ∧
      (keys.otpBusy = false ∧ keys.flag (Reg.SEC_KEY_ST 1) Fld.SEC_KEY_ST_PROGRAMMED = true ∧ keys.flag (Reg.SEC_KEY_ST 0) Fld.SEC_KEY_ST_PROGRAMMED = true ∧
        keys.flag (Reg.SEC_KEY_ST 2) Fld.SEC_KEY_ST_PROGRAMMED = false ∧ full.flag (Reg.SEC_KEY_ST 2) Fld.SEC_KEY_ST_PROGRAMMED = true ∧
        full.flag (Reg.SEC_KEY_ST 3) Fld.SEC_KEY_ST_PROGRAMMED = true) ∧
      (keys.f (Reg.CFG_SLOT 3) Fld.CFG_SLOT_KEY_IDX = 0 ∧ keys.keyUsable 0 = true ∧ keys.keyUsable 1 = true ∧ (s 0).keyUsable 1 = false) ∧
      (k.boot.keyOp = some (1, [1]) ∧ k.boot.resetWaits = none ∧ k.boot.booted = none ∧ base.boot.keyOp = none) ∧
      (shows base [(Reg.SEC_KEY_STAT, Fld.SEC_KEY_STAT_BUSY, 1)]).otpBusy = true := by
  decide +kernel

/-- R408: the identification code leaves bit 0 first. -/
theorem test_idcode : (after (.idcode 0) base).wire.getLast? = some (.tap 0x01 ((List.range 32).map fun i => hasBit 0x01342353 i)) := by decide +kernel

/-- R382: a key is revoked where another stays usable. -/
theorem test_revoke :
    let s := staged 4 [(Reg.SEC_KEY_ST 1, Fld.SEC_KEY_ST_PROGRAMMED, 1)]
    (after (.keyRevoke 0 .purser 1) s).keyUsable 1 = false ∧ (after (.keyRevoke 0 .purser 0) (staged 4 [])).keyUsable 0 = true := by decide +kernel

end Sys2Proof.Tests
end

/-! ## Every command stays within its footprint, and every step keeps the state sound -/

namespace Sys2Proof.Machine

/-- A command whose footprint names every register and block: the masks of single registers do not matter. -/
theorem Ends.toAccess {M N b : Nat} {s : State} {r : Result} (h : Ends M N b s r)
    (hc : (M ||| N) &&& 0x3fffff ||| maskOf accessParts = maskOf accessParts) : Ends (maskOf accessParts) 0 0 s r :=
  fun t ht => (h t ht).absorb (by decide) (by decide) hc

/-- The same for a command that can reset the device. -/
theorem Ends.toReset {M N b : Nat} {s : State} {r : Result} (h : Ends M N b s r)
    (hc : (M ||| N) &&& 0x3fffff ||| maskOf resetParts = maskOf resetParts) : Ends (maskOf resetParts) 0 0 s r :=
  fun t ht => (h t ht).absorb (by decide) (by decide) hc

/-- The one case split over the commands: each meaning stays within the masks of its command's footprint. -/
theorem exec_within (c : Instr) (s : State) :
    Ends (maskOf (footprint c).any) (maskOf (footprint c).own) (footprint c).idx (s.advance (cmdTime c)) (exec c s) := by
  cases c with
  | registerWrite t src addr val => exact (execRegisterWrite_within (Foot.refl _ _ _) (Within.refl _ _ _ _)).toAccess (by decide)
  | shadowWrite t src addr val => exact execShadowWrite_within (Foot.refl _ _ _) (Within.refl _ _ _ _)
  | commit t src => exact execCommit_within (Foot.refl _ _ _) (Within.refl _ _ _ _)
  | force t src => exact execForce_within (Foot.refl _ _ _) (Within.refl _ _ _ _)
  | gangwaySwap t => exact execGangwaySwap_within (Foot.refl _ _ _) (Within.refl _ _ _ _)
  | idleGangway t => exact execIdleGangway_within (Foot.refl _ _ _) (Within.refl _ _ _ _)
  | gridInstant t => exact execGridInstant_within (Foot.refl _ _ _) (Within.refl _ _ _ _)
  | exposureStart t => exact execExposureStart_within (Foot.refl _ _ _) (Within.refl _ _ _ _)
  | exposureTransfer t conv charges => exact execExposureTransfer_within (Foot.refl _ _ _) (Within.refl _ _ _ _)
  | manifestCompletion t => exact execManifestCompletion_within (Foot.refl _ _ _) (Within.refl _ _ _ _)
  | conversionPassStart t => exact execConversionPassStart_within (Foot.refl _ _ _) (Within.refl _ _ _ _)
  | sliceRotation t => exact execSliceRotation_within (Foot.refl _ _ _) (Within.refl _ _ _ _)
  | tapStep t => exact execTapStep_within (Foot.refl _ _ _) (Within.refl _ _ _ _)
  | rowSlotStart slot => exact execRowSlotStart_within (Foot.refl _ _ _) (Within.refl _ _ _ _)
  | sampleDelivery t => exact execSampleDelivery_within (Foot.refl _ _ _) (Within.refl _ _ _ _)
  | conversionEnd t => exact execConversionEnd_within (Foot.refl _ _ _) (Within.refl _ _ _ _)
  | lineRelease t ctx line reads => exact execLineRelease_within (Foot.refl _ _ _) (Within.refl _ _ _ _)
  | lineEnterLanding t => exact execLineEnterLanding_within (Foot.refl _ _ _) (Within.refl _ _ _ _)
  | statsSnapshot t => exact execStatsSnapshot_within (Foot.refl _ _ _) (Within.refl _ _ _ _)
  | mapDerivationDone t => exact execMapDerivationDone_within (Foot.refl _ _ _) (Within.refl _ _ _ _)
  | seamSend t right slot rslot half => exact execSeamSend_within (Foot.refl _ _ _) (Within.refl _ _ _ _)
  | seamRx t msg => exact execSeamRx_within (Foot.refl _ _ _) (Within.refl _ _ _ _)
  | seamWaitTimeout t => exact execSeamWaitTimeout_within (Foot.refl _ _ _) (Within.refl _ _ _ _)
  | swTrigFire t src => exact execSwTrigFire_within (Foot.refl _ _ _) (Within.refl _ _ _ _)
  | triggerPinEdge t pin edge bcast => exact execTriggerPinEdge_within (Foot.refl _ _ _) (Within.refl _ _ _ _)
  | schedArm t src => exact execSchedArm_within (Foot.refl _ _ _) (Within.refl _ _ _ _)
  | scheduledFire t => exact execScheduledFire_within (Foot.refl _ _ _) (Within.refl _ _ _ _)
  | deferredStart t => exact execDeferredStart_within (Foot.refl _ _ _) (Within.refl _ _ _ _)
  | encoderCount t engine up => exact execEncoderCount_within (Foot.refl _ _ _) (Within.refl _ _ _ _)
  | encoderZero t src => exact execEncoderZero_within (Foot.refl _ _ _) (Within.refl _ _ _ _)
  | fabricTriggerArrival t => exact execFabricTriggerArrival_within (Foot.refl _ _ _) (Within.refl _ _ _ _)
  | subExposureStart t => exact execSubExposureStart_within (Foot.refl _ _ _) (Within.refl _ _ _ _)
  | subTimeout t => exact execSubTimeout_within (Foot.refl _ _ _) (Within.refl _ _ _ _)
  | stripStart t => exact execStripStart_within (Foot.refl _ _ _) (Within.refl _ _ _ _)
  | partDetectEdge t level => exact execPartDetectEdge_within (Foot.refl _ _ _) (Within.refl _ _ _ _)
  | evlogPop t src => exact execEvlogPop_within (Foot.refl _ _ _) (Within.refl _ _ _ _)
  | exposureMapWrite t src word val => exact execExposureMapWrite_within (Foot.refl _ _ _) (Within.refl _ _ _ _)
  | injReq t src bands refsel => exact execInjReq_within (Foot.refl _ _ _) (Within.refl _ _ _ _)
  | injectedConversionStart t band => exact execInjectedConversionStart_within (Foot.refl _ _ _) (Within.refl _ _ _ _)
  | injectedResult t band code others => exact execInjectedResult_within (Foot.refl _ _ _) (Within.refl _ _ _ _)
  | hkEntryDone t value => exact (execHkEntryDone_within (Foot.refl _ _ _) (Within.refl _ _ _ _)).toReset (by decide)
  | hkInj t src channel tag => exact execHkInj_within (Foot.refl _ _ _) (Within.refl _ _ _ _)
  | hkInjDone t code => exact execHkInjDone_within (Foot.refl _ _ _) (Within.refl _ _ _ _)
  | hkCalibration t ok => exact execHkCalibration_within (Foot.refl _ _ _) (Within.refl _ _ _ _)
  | calBatchDone t conv mean => exact execCalBatchDone_within (Foot.refl _ _ _) (Within.refl _ _ _ _)
  | calTapWrite t src conv slice val => exact execCalTapWrite_within (Foot.refl _ _ _) (Within.refl _ _ _ _)
  | unloaderSend t turn => exact execUnloaderSend_within (Foot.refl _ _ _) (Within.refl _ _ _ _)
  | mirrorWriteTimeout t berth => exact execMirrorWriteTimeout_within (Foot.refl _ _ _) (Within.refl _ _ _ _)
  | berthTableWrite t src berth val => exact execBerthTableWrite_within (Foot.refl _ _ _) (Within.refl _ _ _ _)
  | recallGo t src => exact execRecallGo_within (Foot.refl _ _ _) (Within.refl _ _ _ _)
  | recallRun turn => exact execRecallRun_within (Foot.refl _ _ _) (Within.refl _ _ _ _)
  | recallPop t src => exact execRecallPop_within (Foot.refl _ _ _) (Within.refl _ _ _ _)
  | statsRecordLatch t src ctx => exact execStatsRecordLatch_within (Foot.refl _ _ _) (Within.refl _ _ _ _)
  | meanMapLatch t src slot => exact execMeanMapLatch_within (Foot.refl _ _ _) (Within.refl _ _ _ _)
  | ferryKick t src ferry index setPos => exact execFerryKick_within (Foot.refl _ _ _) (Within.refl _ _ _ _)
  | ferryStop t src ferry => exact execFerryStop_within (Foot.refl _ _ _) (Within.refl _ _ _ _)
  | ferryEnable t src ferry => exact execFerryEnable_within (Foot.refl _ _ _) (Within.refl _ _ _ _)
  | descriptorFetch t ferry => exact execDescriptorFetch_within (Foot.refl _ _ _) (Within.refl _ _ _ _)
  | pacingWaitEnd t ferry => exact execPacingWaitEnd_within (Foot.refl _ _ _) (Within.refl _ _ _ _)
  | sourceLineMove t turn => exact execSourceLineMove_within (Foot.refl _ _ _) (Within.refl _ _ _ _)
  | descriptorWriteback t ferry => exact execDescriptorWriteback_within (Foot.refl _ _ _) (Within.refl _ _ _ _)
  | deliveryReport t ferry => exact execDeliveryReport_within (Foot.refl _ _ _) (Within.refl _ _ _ _)
  | ferryPoll t ferry => exact execFerryPoll_within (Foot.refl _ _ _) (Within.refl _ _ _ _)
  | chainHandover t ferry => exact execChainHandover_within (Foot.refl _ _ _) (Within.refl _ _ _ _)
  | chainRunAbort t ferry => exact execChainRunAbort_within (Foot.refl _ _ _) (Within.refl _ _ _ _)
  | packetTransmit t bundle => exact execPacketTransmit_within (Foot.refl _ _ _) (Within.refl _ _ _ _)
  | alignRound t bundle stuffed => exact execAlignRound_within (Foot.refl _ _ _) (Within.refl _ _ _ _)
  | returnRx t bundle bits => exact execReturnRx_within (Foot.refl _ _ _) (Within.refl _ _ _ _)
  | ackTimeout t bundle => exact execAckTimeout_within (Foot.refl _ _ _) (Within.refl _ _ _ _)
  | capSend t bundle => exact execCapSend_within (Foot.refl _ _ _) (Within.refl _ _ _ _)
  | capRx t bundle bits => exact execCapRx_within (Foot.refl _ _ _) (Within.refl _ _ _ _)
  | shedRound t bundle => exact execShedRound_within (Foot.refl _ _ _) (Within.refl _ _ _ _)
  | bundleShedCmd t src bundle lane => exact execBundleShedCmd_within (Foot.refl _ _ _) (Within.refl _ _ _ _)
  | rejoinRound t bundle => exact execRejoinRound_within (Foot.refl _ _ _) (Within.refl _ _ _ _)
  | bundleRejoinCmd t src bundle lane => exact execBundleRejoinCmd_within (Foot.refl _ _ _) (Within.refl _ _ _ _)
  | blindTimeout t bundle => exact execBlindTimeout_within (Foot.refl _ _ _) (Within.refl _ _ _ _)
  | creditStallTimeout t bundle isB => exact execCreditStallTimeout_within (Foot.refl _ _ _) (Within.refl _ _ _ _)
  | bundleStop t src bundle => exact execBundleStop_within (Foot.refl _ _ _) (Within.refl _ _ _ _)
  | bundleStopClear t src bundle => exact execBundleStopClear_within (Foot.refl _ _ _) (Within.refl _ _ _ _)
  | bundleEnable t src bundle => exact execBundleEnable_within (Foot.refl _ _ _) (Within.refl _ _ _ _)
  | bundleDisable t src bundle => exact execBundleDisable_within (Foot.refl _ _ _) (Within.refl _ _ _ _)
  | detectStep t lane present => exact execDetectStep_within (Foot.refl _ _ _) (Within.refl _ _ _ _)
  | trainingFrameRx t bundle msg => exact execTrainingFrameRx_within (Foot.refl _ _ _) (Within.refl _ _ _ _)
  | countdownEnd t group => exact execCountdownEnd_within (Foot.refl _ _ _) (Within.refl _ _ _ _)
  | trainTimeout t bundle => exact execTrainTimeout_within (Foot.refl _ _ _) (Within.refl _ _ _ _)
  | lockTimeout t bundle => exact execLockTimeout_within (Foot.refl _ _ _) (Within.refl _ _ _ _)
  | capTimeout t bundle => exact execCapTimeout_within (Foot.refl _ _ _) (Within.refl _ _ _ _)
  | frameLockGain t lane => exact execFrameLockGain_within (Foot.refl _ _ _) (Within.refl _ _ _ _)
  | frameLockLoss t lane => exact execFrameLockLoss_within (Foot.refl _ _ _) (Within.refl _ _ _ _)
  | blockLockGain t lane => exact execBlockLockGain_within (Foot.refl _ _ _) (Within.refl _ _ _ _)
  | blockLockLoss t lane => exact execBlockLockLoss_within (Foot.refl _ _ _) (Within.refl _ _ _ _)
  | retrainBurst t bundle lane => exact execRetrainBurst_within (Foot.refl _ _ _) (Within.refl _ _ _ _)
  | rejoinRetryTimeout t bundle lane => exact execRejoinRetryTimeout_within (Foot.refl _ _ _) (Within.refl _ _ _ _)
  | laneMoor t bundle => exact execLaneMoor_within (Foot.refl _ _ _) (Within.refl _ _ _ _)
  | moorExit t bundle => exact execMoorExit_within (Foot.refl _ _ _) (Within.refl _ _ _ _)
  | burstEnd t bundle => exact execBurstEnd_within (Foot.refl _ _ _) (Within.refl _ _ _ _)
  | txeqWrite t src bundle lane val => exact execTxeqWrite_within (Foot.refl _ _ _) (Within.refl _ _ _ _)
  | errorInject t src lane val => exact execErrorInject_within (Foot.refl _ _ _) (Within.refl _ _ _ _)
  | checkerLock t lane => exact execCheckerLock_within (Foot.refl _ _ _) (Within.refl _ _ _ _)
  | checkerLockLoss t lane errors => exact execCheckerLockLoss_within (Foot.refl _ _ _) (Within.refl _ _ _ _)
  | portTrainingFrameRx t port msg => exact execPortTrainingFrameRx_within (Foot.refl _ _ _) (Within.refl _ _ _ _)
  | portTrainTimeout t port => exact execPortTrainTimeout_within (Foot.refl _ _ _) (Within.refl _ _ _ _)
  | portLockTimeout t port => exact execPortLockTimeout_within (Foot.refl _ _ _) (Within.refl _ _ _ _)
  | helloSend t port => exact execHelloSend_within (Foot.refl _ _ _) (Within.refl _ _ _ _)
  | helloRx t port msg => exact execHelloRx_within (Foot.refl _ _ _) (Within.refl _ _ _ _)
  | adjacencyTimeout t port => exact execAdjacencyTimeout_within (Foot.refl _ _ _) (Within.refl _ _ _ _)
  | lsaSend t => exact execLsaSend_within (Foot.refl _ _ _) (Within.refl _ _ _ _)
  | lsaRx t port msg => exact execLsaRx_within (Foot.refl _ _ _) (Within.refl _ _ _ _)
  | lsaExpiry t devid => exact execLsaExpiry_within (Foot.refl _ _ _) (Within.refl _ _ _ _)
  | assignSend t => exact execAssignSend_within (Foot.refl _ _ _) (Within.refl _ _ _ _)
  | assignRx t port msg => exact execAssignRx_within (Foot.refl _ _ _) (Within.refl _ _ _ _)
  | timeSend t port => exact execTimeSend_within (Foot.refl _ _ _) (Within.refl _ _ _ _)
  | timeRx t port msg => exact execTimeRx_within (Foot.refl _ _ _) (Within.refl _ _ _ _)
  | trigFire t src => exact execTrigFire_within (Foot.refl _ _ _) (Within.refl _ _ _ _)
  | trigRx t port msg => exact execTrigRx_within (Foot.refl _ _ _) (Within.refl _ _ _ _)
  | shareSend t src => exact execShareSend_within (Foot.refl _ _ _) (Within.refl _ _ _ _)
  | shareRx t port msg => exact execShareRx_within (Foot.refl _ _ _) (Within.refl _ _ _ _)
  | shareCommit t => exact execShareCommit_within (Foot.refl _ _ _) (Within.refl _ _ _ _)
  | mgmtRx t port msg => exact execMgmtRx_within (Foot.refl _ _ _) (Within.refl _ _ _ _)
  | referenceLoss t lane => exact execReferenceLoss_within (Foot.refl _ _ _) (Within.refl _ _ _ _)
  | referenceReturn t lane => exact execReferenceReturn_within (Foot.refl _ _ _) (Within.refl _ _ _ _)
  | pllConfigWrite t src loop val => exact execPllConfigWrite_within (Foot.refl _ _ _) (Within.refl _ _ _ _)
  | bandTryTimeout t loop => exact execBandTryTimeout_within (Foot.refl _ _ _) (Within.refl _ _ _ _)
  | acquisitionCheckPass t loop diff => exact execAcquisitionCheckPass_within (Foot.refl _ _ _) (Within.refl _ _ _ _)
  | lockWindowEnd t loop diff => exact execLockWindowEnd_within (Foot.refl _ _ _) (Within.refl _ _ _ _)
  | lockdetCrossing t high => exact execLockdetCrossing_within (Foot.refl _ _ _) (Within.refl _ _ _ _)
  | pllFlagAutoClear t loop => exact execPllFlagAutoClear_within (Foot.refl _ _ _) (Within.refl _ _ _ _)
  | refFlagAutoClear t lane => exact execRefFlagAutoClear_within (Foot.refl _ _ _) (Within.refl _ _ _ _)
  | pllAutoRestart t loop => exact execPllAutoRestart_within (Foot.refl _ _ _) (Within.refl _ _ _ _)
  | clockOutputWrite t src out val => exact execClockOutputWrite_within (Foot.refl _ _ _) (Within.refl _ _ _ _)
  | syncinEdge t => exact execSyncinEdge_within (Foot.refl _ _ _) (Within.refl _ _ _ _)
  | ckSync t src => exact execCkSync_within (Foot.refl _ _ _) (Within.refl _ _ _ _)
  | ckArm t src => exact execCkArm_within (Foot.refl _ _ _) (Within.refl _ _ _ _)
  | armedSyncFire t => exact execArmedSyncFire_within (Foot.refl _ _ _) (Within.refl _ _ _ _)
  | nop t engine => exact execNop_within (Foot.refl _ _ _) (Within.refl _ _ _ _)
  | jmp t engine lands => exact execJmp_within (Foot.refl _ _ _) (Within.refl _ _ _ _)
  | waitPin t engine lands => exact execWaitPin_within (Foot.refl _ _ _) (Within.refl _ _ _ _)
  | waitFlag t engine => exact execWaitFlag_within (Foot.refl _ _ _) (Within.refl _ _ _ _)
  | waitEvent t engine => exact execWaitEvent_within (Foot.refl _ _ _) (Within.refl _ _ _ _)
  | setPin t engine => exact execSetPin_within (Foot.refl _ _ _) (Within.refl _ _ _ _)
  | setLc t engine => exact execSetLc_within (Foot.refl _ _ _) (Within.refl _ _ _ _)
  | setSrClear t engine => exact execSetSrClear_within (Foot.refl _ _ _) (Within.refl _ _ _ _)
  | setEventClear t engine => exact execSetEventClear_within (Foot.refl _ _ _) (Within.refl _ _ _ _)
  | inPins t engine lands => exact execInPins_within (Foot.refl _ _ _) (Within.refl _ _ _ _)
  | inDin t engine => exact execInDin_within (Foot.refl _ _ _) (Within.refl _ _ _ _)
  | inSerial t engine bits => exact execInSerial_within (Foot.refl _ _ _) (Within.refl _ _ _ _)
  | outPins t engine => exact execOutPins_within (Foot.refl _ _ _) (Within.refl _ _ _ _)
  | outDout t engine => exact execOutDout_within (Foot.refl _ _ _) (Within.refl _ _ _ _)
  | outLc t engine => exact execOutLc_within (Foot.refl _ _ _) (Within.refl _ _ _ _)
  | outSerial t engine edges => exact execOutSerial_within (Foot.refl _ _ _) (Within.refl _ _ _ _)
  | pulse t engine => exact execPulse_within (Foot.refl _ _ _) (Within.refl _ _ _ _)
  | irqSetFlag t engine => exact execIrqSetFlag_within (Foot.refl _ _ _) (Within.refl _ _ _ _)
  | irqClearFlag t engine => exact execIrqClearFlag_within (Foot.refl _ _ _) (Within.refl _ _ _ _)
  | irqHost t engine => exact execIrqHost_within (Foot.refl _ _ _) (Within.refl _ _ _ _)
  | irqTimetable t engine => exact execIrqTimetable_within (Foot.refl _ _ _) (Within.refl _ _ _ _)
  | illegalInstruction t engine => exact execIllegalInstruction_within (Foot.refl _ _ _) (Within.refl _ _ _ _)
  | engineRestart t src engine => exact execEngineRestart_within (Foot.refl _ _ _) (Within.refl _ _ _ _)
  | engineKick t src engine => exact execEngineKick_within (Foot.refl _ _ _) (Within.refl _ _ _ _)
  | doutAck t src engine => exact execDoutAck_within (Foot.refl _ _ _) (Within.refl _ _ _ _)
  | dinDrop t src engine => exact execDinDrop_within (Foot.refl _ _ _) (Within.refl _ _ _ _)
  | pioDinWrite t src engine val => exact execPioDinWrite_within (Foot.refl _ _ _) (Within.refl _ _ _ _)
  | pioInjWrite t src engine val => exact execPioInjWrite_within (Foot.refl _ _ _) (Within.refl _ _ _ _)
  | injectionExecute t engine lands bits => exact execInjectionExecute_within (Foot.refl _ _ _) (Within.refl _ _ _ _)
  | flagSet t src val => exact execFlagSet_within (Foot.refl _ _ _) (Within.refl _ _ _ _)
  | flagClr t src val => exact execFlagClr_within (Foot.refl _ _ _) (Within.refl _ _ _ _)
  | engineRun t src engine => exact execEngineRun_within (Foot.refl _ _ _) (Within.refl _ _ _ _)
  | engineStop t src engine => exact execEngineStop_within (Foot.refl _ _ _) (Within.refl _ _ _ _)
  | pioProgWrite t src engine slot val => exact execPioProgWrite_within (Foot.refl _ _ _) (Within.refl _ _ _ _)
  | bankSupplyLoss t bank => exact execBankSupplyLoss_within (Foot.refl _ _ _) (Within.refl _ _ _ _)
  | linkUp t modAbs rxLos txFault => exact execLinkUp_within (Foot.refl _ _ _) (Within.refl _ _ _ _)
  | linkDown t modAbs rxLos txFault => exact execLinkDown_within (Foot.refl _ _ _) (Within.refl _ _ _ _)
  | witrigRequestRx t msg short => exact execWitrigRequestRx_within (Foot.refl _ _ _) (Within.refl _ _ _ _)
  | read t src lands => exact execRead_within (Foot.refl _ _ _) (Within.refl _ _ _ _)
  | write t src => exact (execWrite_within (Foot.refl _ _ _) (Within.refl _ _ _ _)).toAccess (by decide)
  | nodes t src => exact execNodes_within (Foot.refl _ _ _) (Within.refl _ _ _ _)
  | challenge t src => exact execChallenge_within (Foot.refl _ _ _) (Within.refl _ _ _ _)
  | openSession t src => exact execOpenSession_within (Foot.refl _ _ _) (Within.refl _ _ _ _)
  | closeSession t src => exact execCloseSession_within (Foot.refl _ _ _) (Within.refl _ _ _ _)
  | attest t src => exact execAttest_within (Foot.refl _ _ _) (Within.refl _ _ _ _)
  | sessionIdleTimeout t session => exact execSessionIdleTimeout_within (Foot.refl _ _ _) (Within.refl _ _ _ _)
  | dhcpRx t msg => exact execDhcpRx_within (Foot.refl _ _ _) (Within.refl _ _ _ _)
  | dhcpFallbackTimeout t => exact execDhcpFallbackTimeout_within (Foot.refl _ _ _) (Within.refl _ _ _ _)
  | dhcpLeaseExpiry t => exact execDhcpLeaseExpiry_within (Foot.refl _ _ _) (Within.refl _ _ _ _)
  | ethAddressWrite t src addr val => exact execEthAddressWrite_within (Foot.refl _ _ _) (Within.refl _ _ _ _)
  | arpRx t msg => exact execArpRx_within (Foot.refl _ _ _) (Within.refl _ _ _ _)
  | arpRetryTimeout t ip => exact execArpRetryTimeout_within (Foot.refl _ _ _) (Within.refl _ _ _ _)
  | arpAnnounce t => exact execArpAnnounce_within (Foot.refl _ _ _) (Within.refl _ _ _ _)
  | arpEntryAgeout t ip => exact execArpEntryAgeout_within (Foot.refl _ _ _) (Within.refl _ _ _ _)
  | icmpEchoRequest t msg => exact execIcmpEchoRequest_within (Foot.refl _ _ _) (Within.refl _ _ _ _)
  | ptpAnnounceRx t msg => exact execPtpAnnounceRx_within (Foot.refl _ _ _) (Within.refl _ _ _ _)
  | ptpSyncRx t msg => exact execPtpSyncRx_within (Foot.refl _ _ _) (Within.refl _ _ _ _)
  | ptpFollowUpRx t msg => exact execPtpFollowUpRx_within (Foot.refl _ _ _) (Within.refl _ _ _ _)
  | ptpDelayReqSend t => exact execPtpDelayReqSend_within (Foot.refl _ _ _) (Within.refl _ _ _ _)
  | ptpDelayRespRx t msg => exact execPtpDelayRespRx_within (Foot.refl _ _ _) (Within.refl _ _ _ _)
  | ptpAnnounceTimeout t => exact execPtpAnnounceTimeout_within (Foot.refl _ _ _) (Within.refl _ _ _ _)
  | ethFrameTransmit t => exact execEthFrameTransmit_within (Foot.refl _ _ _) (Within.refl _ _ _ _)
  | previewDatagramSend t => exact execPreviewDatagramSend_within (Foot.refl _ _ _) (Within.refl _ _ _ _)
  | powerOn t => exact execPowerOn_within (Foot.refl _ _ _) (Within.refl _ _ _ _)
  | brownOut t => exact execBrownOut_within (Foot.refl _ _ _) (Within.refl _ _ _ _)
  | resetNLow t held => exact execResetNLow_within (Foot.refl _ _ _) (Within.refl _ _ _ _)
  | watchdogTimeout t => exact execWatchdogTimeout_within (Foot.refl _ _ _) (Within.refl _ _ _ _)
  | romStage t => exact execRomStage_within (Foot.refl _ _ _) (Within.refl _ _ _ _)
  | imageSelection t sfdpOk density mhz verdicts => exact execImageSelection_within (Foot.refl _ _ _) (Within.refl _ _ _ _)
  | stagedStartEvent t => exact execStagedStartEvent_within (Foot.refl _ _ _) (Within.refl _ _ _ _)
  | applyImage t secondOk => exact (execApplyImage_within (Foot.refl _ _ _) (Within.refl _ _ _ _)).toAccess (by decide)
  | portRelease t => exact execPortRelease_within (Foot.refl _ _ _) (Within.refl _ _ _ _)
  | resetCmd t src => exact execResetCmd_within (Foot.refl _ _ _) (Within.refl _ _ _ _)
  | rollback t src => exact (execRollback_within (Foot.refl _ _ _) (Within.refl _ _ _ _)).toReset (by decide)
  | confirm t src => exact execConfirm_within (Foot.refl _ _ _) (Within.refl _ _ _ _)
  | confirmTimeout t => exact execConfirmTimeout_within (Foot.refl _ _ _) (Within.refl _ _ _ _)
  | thermalRecoveryBoot t => exact execThermalRecoveryBoot_within (Foot.refl _ _ _) (Within.refl _ _ _ _)
  | flashErase t src => exact execFlashErase_within (Foot.refl _ _ _) (Within.refl _ _ _ _)
  | flashProgram t src => exact execFlashProgram_within (Foot.refl _ _ _) (Within.refl _ _ _ _)
  | flashRead t src => exact execFlashRead_within (Foot.refl _ _ _) (Within.refl _ _ _ _)
  | flashCheck t src slot verdict => exact execFlashCheck_within (Foot.refl _ _ _) (Within.refl _ _ _ _)
  | flashCommandDone t failed => exact (execFlashCommandDone_within (Foot.refl _ _ _) (Within.refl _ _ _ _)).toReset (by decide)
  | keyAdd t src => exact execKeyAdd_within (Foot.refl _ _ _) (Within.refl _ _ _ _)
  | keyRevoke t src entry => exact execKeyRevoke_within (Foot.refl _ _ _) (Within.refl _ _ _ _)
  | otpProgramDone t => exact (execOtpProgramDone_within (Foot.refl _ _ _) (Within.refl _ _ _ _)).toReset (by decide)
  | extest t resetLow => exact execExtest_within (Foot.refl _ _ _) (Within.refl _ _ _ _)
  | idcode t => exact execIdcode_within (Foot.refl _ _ _) (Within.refl _ _ _ _)
  | samplePreload t bsr => exact execSamplePreload_within (Foot.refl _ _ _) (Within.refl _ _ _ _)
  | clamp t resetLow => exact execClamp_within (Foot.refl _ _ _) (Within.refl _ _ _ _)
  | highz t resetLow => exact execHighz_within (Foot.refl _ _ _) (Within.refl _ _ _ _)
  | bypass t => exact execBypass_within (Foot.refl _ _ _) (Within.refl _ _ _ _)
  | bankSupplyReturn t bank => exact execBankSupplyReturn_within (Foot.refl _ _ _) (Within.refl _ _ _ _)
  | dhcpClientTimer t => exact execDhcpClientTimer_within (Foot.refl _ _ _) (Within.refl _ _ _ _)
  | testLogicReset t => exact execTestLogicReset_within (Foot.refl _ _ _) (Within.refl _ _ _ _)

/-- Every command keeps to its footprint. -/
theorem exec_keepsFootprint (c : Instr) : KeepsFootprint c := fun s _ h => (exec_within c s).keeps h

/-- Soundness does not speak of the clocks, which are all that time moves. -/
theorem State.Sound.advance {s : State} (h : s.Sound) (t : Nat) : (s.advance t).Sound where
  regs := by rw [State.regsWf, State.advance_regs]; exact h.regs
  dram := by rw [State.advance_dram]; exact h.dram
  flash := by rw [State.advance_flash]; exact h.flash
  otp := by rw [State.advance_otp]; exact h.otp
  ferries := by rw [State.advance_fy]; exact h.ferries
  bundles := by rw [State.advance_eg]; exact h.bundles
  part := by rw [State.reg_advance, State.advance_otp]; exact h.part
  devid := by rw [State.reg_advance, State.advance_otp]; exact h.devid

/-- Soundness does not speak of the queue. -/
theorem State.Sound.withPending {s : State} (h : s.Sound) (l : List Instr) : State.Sound { s with pending := l } :=
  ⟨h.regs, h.dram, h.flash, h.otp, h.ferries, h.bundles, h.part, h.devid⟩

/-- Every command keeps the state sound. -/
theorem exec_sound {c : Instr} {s t : State} (h : s.Sound) (ht : exec c s = .next t) : t.Sound :=
  (exec_within c s t ht).sound (h.advance (cmdTime c))

/-- Settles O5: a step idles or runs the front command, which keeps a sound state sound. -/
theorem everyStepKeepsTheStateSound : Obligations.EveryStepKeepsTheStateSound := by
  intro s t hs h
  unfold step at h
  split at h
  · cases h; exact hs
  · next c rest _ => exact exec_sound (hs.withPending rest) h

/-- Settles O7: every command keeps to its footprint, those of these three families among them. -/
theorem timetableAndConverterCommandsKeepToTheirFootprint :
    Obligations.TimetableAndConverterCommandsKeepToTheirFootprint := fun c _ => exec_keepsFootprint c

/-- Settles O3, by the case split over the commands: each meaning is `.next` of a state. -/
theorem everyCommandGoesOn : Obligations.EveryCommandGoesOn := by
  intro c s
  cases c <;> exact ⟨_, rfl⟩

end Sys2Proof.Machine

/-! ## Time, and the state after reset -/

namespace Sys2Proof.Machine

/-! ### Time -/

/-- An instant that has come moves nothing. -/
theorem State.advance_of_le {s : State} {t : Nat} (h : t ≤ s.clock.now) : s.advance t = s := by
  rw [State.advance, if_pos h]

/-- While the timetable's island stands still, time moves the model's clock alone. -/
theorem State.advance_stopped {s : State} {t : Nat} (h : ¬ t ≤ s.clock.now) (hr : s.clock.running = false) :
    s.advance t = { s with clock := { s.clock with now := t }, fresh := [] } := by
  simp [State.advance, h, hr]

/-- Whatever time does, it does to the clock, to the present cycle's sets and to the counter of free values. -/
theorem State.advance_eq (s : State) (t : Nat) :
    ∃ (c : Clock) (n : Nat), s.advance t = { s with clock := c, fresh := if t ≤ s.clock.now then s.fresh else [], free := n } := by
  by_cases h : t ≤ s.clock.now
  · exact ⟨s.clock, s.free, by rw [State.advance_of_le h, if_pos h]⟩
  · rw [if_neg h]
    unfold State.advance
    rw [if_neg h]
    dsimp only
    split
    · exact ⟨_, _, rfl⟩
    · exact ⟨_, s.free, rfl⟩

/-- Time leaves a step that awaits the next frame. -/
theorem State.advance_step (s : State) (t : Nat) : (s.advance t).clock.step = s.clock.step := by
  unfold State.advance
  split
  · rfl
  · dsimp only; split <;> rfl

/-- A timetable that runs counts the ns that pass. -/
theorem State.advance_ticks {s : State} (hr : s.clock.running = true) (t : Nat) :
    (s.advance t).clock.tt = s.clock.tt + (t - s.clock.now) := by
  by_cases h : t ≤ s.clock.now
  · rw [State.advance_of_le h, Nat.sub_eq_zero_of_le h, Nat.add_zero]
  · simp [State.advance, h, hr]

/-- A timetable that stands counts nothing. -/
theorem State.advance_stands {s : State} (hr : s.clock.running = false) (t : Nat) : (s.advance t).clock.tt = s.clock.tt := by
  by_cases h : t ≤ s.clock.now
  · rw [State.advance_of_le h]
  · rw [State.advance_stopped h hr]

/-- Settles O6. -/
theorem timeMovesOnlyTheClocks : Obligations.TimeMovesOnlyTheClocks := fun s t =>
  ⟨s.advance_eq t, s.advance_now t, s.advance_step t, fun hr => State.advance_ticks hr t, fun hr => State.advance_stands hr t⟩

/-! ### The state after reset -/

/-- The addresses that a list of words is laid out at. -/
theorem mem_wordsAt {a : Nat} {l : List Word} {q : Nat × Word} (h : q ∈ wordsAt a l) : ∃ i, i < l.length ∧ q.1 = a + 8 * i := by
  induction l generalizing a with
  | nil => cases h
  | cons w r ih =>
    rcases List.mem_cons.mp h with rfl | h
    · exact ⟨0, by simp, rfl⟩
    · obtain ⟨i, hi, hq⟩ := ih h
      exact ⟨i + 1, by simp only [List.length_cons]; omega, by omega⟩

/-- A register that comes from fuses or one-time-programmable memory is ID_PART, ID_DEVID, FB_ROOT, ETH_MAC, one of CK_BAND, or one from SEC_KEY to SEC_ID_CERT (R16, R17, R312, R345, R382, R383). -/
theorem mem_otpRegs {o : Otp} (ho : o.wf) {q : Nat × Word} (h : q ∈ otpRegs o) :
    q.1 ∈ [Reg.ID_PART, Reg.ID_DEVID, Reg.FB_ROOT, Reg.ETH_MAC] ∨ (Reg.CK_BAND 0 ≤ q.1 ∧ q.1 ≤ Reg.CK_BAND 63) ∨
      (Reg.SEC_KEY 0 0 ≤ q.1 ∧ q.1 ≤ Reg.SEC_ID_CERT 127) := by
  obtain ⟨hbands, hkeys, hhash, hpub, hcert⟩ := ho
  have h := (List.mem_filter.mp h).1
  simp only [List.mem_append, List.mem_cons, List.not_mem_nil, or_false] at h ⊢
  rcases h with (((h | rfl | rfl) | hk) | hp) | rfl | hc
  · rcases h with rfl | rfl | hb
    · simp
    · simp
    · obtain ⟨i, hi, hq⟩ := mem_wordsAt hb
      refine .inr (.inl ?_)
      simp only [Reg.CK_BAND] at hq ⊢
      omega
  · simp
  · simp
  · have := (keyRegs_rising o.keys 0 (by omega) hhash).2 q hk
    refine .inr (.inr ?_)
    simp only [Reg.SEC_KEY, Reg.SEC_ID_CERT]
    omega
  · obtain ⟨i, hi, hq⟩ := mem_wordsAt hp
    refine .inr (.inr ?_)
    simp only [Reg.SEC_KEY, Reg.SEC_ID_PUB, Reg.SEC_ID_CERT] at hq ⊢
    omega
  · refine .inr (.inr ?_)
    simp only [Reg.SEC_KEY, Reg.SEC_ID_CERT_LEN, Reg.SEC_ID_CERT]
    omega
  · obtain ⟨i, hi, hq⟩ := mem_wordsAt hc
    refine .inr (.inr ?_)
    simp only [Reg.SEC_KEY, Reg.SEC_ID_CERT] at hq ⊢
    omega

/-- Every other register is at the reset word of its table. -/
theorem otpRegs_default {o : Otp} (ho : o.wf) {a : Nat} (h : a ∉ [Reg.ID_PART, Reg.ID_DEVID, Reg.FB_ROOT, Reg.ETH_MAC])
    (hb : a < Reg.CK_BAND 0 ∨ Reg.CK_BAND 63 < a) (hk : a < Reg.SEC_KEY 0 0 ∨ Reg.SEC_ID_CERT 127 < a) :
    Sparse.get resetWord (otpRegs o) a = resetWord a := by
  have : Sparse.look (otpRegs o) a = none := Sparse.look_none _ _ fun q hq e => by
    subst e
    rcases mem_otpRegs ho hq with h' | h' | h'
    · exact h h'
    · omega
    · omega
  rw [Sparse.get, this]

/-- A state whose register file holds what is fused and nothing else, with its memories canonical, is sound. -/
theorem State.Sound.ofFuses {s : State} (ho : s.otp.wf) (hr : s.regs = otpRegs s.otp) (hd : Memory.wf s.dram = true)
    (hf : Flash.wf s.flash = true) (hy : s.fy.length = 32) (he : s.eg.length = 8) : s.Sound where
  regs := by rw [State.regsWf, hr]; exact otpRegs_wf ho
  dram := hd
  flash := hf
  otp := ho
  ferries := hy
  bundles := he
  part := by rw [State.reg, hr]; exact otpRegs_part ho
  devid := by rw [State.reg, hr]; exact otpRegs_devid ho

theorem State.reset_sound : State.reset.Sound := .ofFuses Otp.factory_wf rfl rfl rfl rfl rfl

/-- Boot lock is open after reset. -/
theorem State.reset_bootLocked : State.reset.bootLocked = false := by
  have h : State.reset.reg Reg.CFG_BOOT_STAT = resetWord Reg.CFG_BOOT_STAT :=
    otpRegs_default Otp.factory_wf (by decide) (.inr (by decide)) (.inl (by decide))
  rw [State.bootLocked, State.flag, State.f, h]
  decide

/-- A monochrome device's ID_PART (R16). -/
theorem State.reset_part : State.reset.reg Reg.ID_PART = 0x4C53134201000100 :=
  State.reset_sound.part.trans (by decide)

/-- The settings in use after reset are the reset settings (R147). -/
theorem State.reset_u (a : Nat) (f : Field) : State.reset.u a f = f.get (resetWord a) := rfl

/-- Settles O4. -/
theorem resetIsSound : Obligations.ResetIsSound := by
  refine ⟨State.reset_sound, rfl, rfl, rfl, State.reset_bootLocked, State.reset_part, ?_, State.reset_u, ?_⟩
  · intro a h hb hk
    exact otpRegs_default Otp.factory_wf h hb hk
  · decide

end Sys2Proof.Machine

/-! ## Registers and management accesses -/

namespace Sys2Proof.Machine

/-! ### The register table -/

theorem regAt_mem {a : Nat} {d : RegDef} (h : regAt a = some d) : d ∈ regTable := List.mem_of_find?_eq_some h

/-- Where a register block is found, the address lies in it. -/
theorem regAt_offset {a : Nat} {d : RegDef} (h : regAt a = some d) : d.base ≤ a ∧ offsetIn d.dims (a - d.base) = true := by
  have := List.find?_some h
  simpa only [Bool.and_eq_true, decide_eq_true_eq] using this

/-- R9: every block starts at a multiple of 8 and its strides are multiples of 8. -/
theorem regTable_aligned : ∀ d ∈ regTable, d.base % 8 = 0 ∧ ∀ p ∈ d.dims, p.2 % 8 = 0 := by decide +kernel

/-- R12: no bit of a register is both one that a write stores and one that a 1 clears. -/
theorem regTable_disjoint : ∀ d ∈ regTable, d.storeMask &&& d.w1c = 0 := by decide +kernel

theorem offsetIn_mod {dims : List (Nat × Nat)} (hd : ∀ p ∈ dims, p.2 % 8 = 0) {off : Nat} (h : offsetIn dims off = true) : off % 8 = 0 := by
  induction dims generalizing off with
  | nil => simp [offsetIn] at h; omega
  | cons p r ih =>
    obtain ⟨n, st⟩ := p
    simp only [offsetIn, Bool.and_eq_true] at h
    have hst : 8 ∣ st := Nat.dvd_of_mod_eq_zero (hd (n, st) (List.mem_cons_self ..))
    rw [← Nat.mod_mod_of_dvd off hst]
    exact ih (fun p hp => hd p (List.mem_cons_of_mem _ hp)) h.2

/-- R9: every register lies at a multiple of 8. -/
theorem regAt_aligned {a : Nat} {d : RegDef} (h : regAt a = some d) : a % 8 = 0 := by
  obtain ⟨hb, hs⟩ := regTable_aligned d (regAt_mem h)
  obtain ⟨hle, ho⟩ := regAt_offset h
  have := offsetIn_mod hs ho
  omega

/-! ### Accesses that fail, and addresses without a register -/

theorem accessStatus_misaligned {a : Nat} (h : a % 8 ≠ 0) : accessStatus a = 1 := by rw [accessStatus, if_pos h]

theorem accessStatus_window {a : Nat} (h : a % 8 = 0) (hw : inWindow a = true) : accessStatus a = 0 := by
  rw [accessStatus, if_neg (not_not.mpr h), if_pos hw]

theorem accessStatus_outside {a : Nat} (h : a % 8 = 0) (hw : inWindow a = false) : accessStatus a = 2 := by
  rw [accessStatus, if_neg (not_not.mpr h), hw]; rfl

variable {s : State} {src : Src} {a : Nat} {v : Word} {d : RegDef}

/-- A failing write changes nothing and has the status of its failure. -/
theorem State.mgmtWrite_fails (h : accessStatus a ≠ 0) : s.mgmtWrite src a v = (s, accessStatus a) := by
  unfold State.mgmtWrite
  split
  · contradiction
  · rfl

/-- A failing read changes nothing and gives no value. -/
theorem State.mgmtRead_fails (h : accessStatus a ≠ 0) : s.mgmtRead src a = (s, accessStatus a, 0) := by
  unfold State.mgmtRead
  split
  · contradiction
  · rfl

/-- R11: an offset without a register ignores writes. -/
theorem State.mgmtWrite_none (h : accessStatus a = 0) (hd : regAt a = none) : s.mgmtWrite src a v = (s, 0) := by
  simp only [State.mgmtWrite, h, hd]

/-- R11: an offset without a register reads 0. -/
theorem State.mgmtRead_none (h : accessStatus a = 0) (hd : regAt a = none) : s.mgmtRead src a = (s, 0, 0) := by
  simp only [State.mgmtRead, h, hd]

/-- R14: a locked register is left alone after boot lock. -/
theorem State.mgmtWrite_locked (h : accessStatus a = 0) (hd : regAt a = some d) (hl : d.locked = true) (hb : s.bootLocked = true) :
    s.mgmtWrite src a v = (s, 3) := by
  simp only [State.mgmtWrite, h, hd, hl, hb, Bool.and_self, if_true]

/-- A register without a lock is written. -/
theorem State.mgmtWrite_unlocked (h : accessStatus a = 0) (hd : regAt a = some d) (hl : d.locked = false) :
    s.mgmtWrite src a v = (s.regWrite src d a v, 0) := by
  simp [State.mgmtWrite, h, hd, hl]

/-- REGISTER_WRITE is the management write of a source that may manage. -/
theorem runs_registerWrite {t : Nat} {H : State → Prop} {P : State → State → Prop}
    (h : ∀ s, H s → P s (s.managed src fun s => (s.mgmtWrite src a v).1)) : Runs (.registerWrite t src a v) H P :=
  Runs.of (fun s => s.managed src fun s => (s.mgmtWrite src a v).1) (fun _ => rfl) h

/-- A management write that changes nothing leaves REGISTER_WRITE without an effect. -/
theorem runs_registerWrite_idle {t n : Nat} {H : State → Prop} (h : ∀ s : State, H s → s.mgmtWrite src a v = (s, n)) :
    Runs (.registerWrite t src a v) H fun s u => u = s :=
  runs_registerWrite fun s hs => by rw [State.managed, h s hs, ite_self]

/-- Settles O13. -/
theorem addressesWithoutARegisterIgnoreWrites : Obligations.AddressesWithoutARegisterIgnoreWrites := by
  refine ⟨fun t src addr val h8 hw hn => ?_, fun t src addr val h8 hw => ?_⟩
  · have hs := accessStatus_window h8 (by simp only [inWindow, Bool.or_eq_true, Bool.and_eq_true, decide_eq_true_eq]; omega)
    exact ⟨runs_registerWrite_idle fun _ _ => State.mgmtWrite_none hs hn, fun s => ⟨State.mgmtWrite_none hs hn, State.mgmtRead_none hs hn⟩⟩
  · have hs : accessStatus addr = 2 := accessStatus_outside h8 (by simp only [inWindow, Bool.or_eq_false_iff, Bool.and_eq_false_iff, decide_eq_false_iff_not]; omega)
    have hwr : ∀ s : State, s.mgmtWrite src addr val = (s, 2) := fun s => by rw [State.mgmtWrite_fails (by simp [hs]), hs]
    refine ⟨runs_registerWrite_idle fun s _ => hwr s, fun s => ⟨hwr s, ?_⟩⟩
    rw [State.mgmtRead_fails (by simp [hs]), hs]

/-! ### What a plain register holds after a write -/

/-- Registers whose write does nothing but store. -/
def plainRegs : List Nat :=
  [Reg.ID_SCRATCH, Reg.PWR_STAT, Reg.PWR_SUP, Reg.HK_STATUS, Reg.CK_STATUS, Reg.CK_SYNC_AT, Reg.TT_SCHED_TIME, Reg.TT_STATUS,
    Reg.CC_ROT_CFG, Reg.CC_STATUS, Reg.CAL_STATUS, Reg.PIPE_STATUS, Reg.FS_CFG, Reg.FS_STATUS, Reg.FY_DONE, Reg.FY_ERR,
    Reg.EG_STATUS, Reg.LN_CFG, Reg.LN_STATUS, Reg.FB_STATUS, Reg.FB_TRIG_CFG, Reg.FB_TTS_CFG,
    Reg.ETH_STATUS, Reg.ETH_PREV_CFG, Reg.ETH_PREV_DST, Reg.CFG_FL_ADDR, Reg.CFG_GW_STATUS]

theorem State.regWrite_plain (ha : a ∈ Reg.ID_PART :: Reg.ID_DEVID :: plainRegs) (hd : regAt a = some d) : s.regWrite src d a v = s.storeReg a v := by
  simp only [plainRegs, List.mem_cons, List.not_mem_nil, or_false] at ha
  rcases ha with rfl | rfl | rfl | rfl | rfl | rfl | rfl | rfl | rfl | rfl | rfl | rfl | rfl | rfl | rfl | rfl | rfl | rfl | rfl | rfl |
    rfl | rfl | rfl | rfl | rfl | rfl | rfl | rfl | rfl <;>
  · obtain rfl := Option.some.inj (hd.symm.trans rfl)
    rfl

theorem State.storeReg_eq (hd : regAt a = some d) : s.storeReg a v = s.setReg a (writtenWord d (s.reg a) (s.keepFresh d a v)) := by
  rw [State.storeReg, hd]

/-- A stored register leaves every other one. -/
theorem State.reg_storeReg_ne {b : Nat} (h : b ≠ a) : (s.storeReg a v).reg b = s.reg b := by
  unfold State.storeReg
  split
  · rfl
  · exact State.reg_setReg_ne s _ h

/-- Masks without a common bit: a clearing mask does not reach the stored bits. -/
theorem masked_write (old v k w f : Word) (h : k &&& w = 0) :
    (v &&& ~~~(f &&& w) &&& k) ||| (old &&& ~~~k &&& ~~~(v &&& ~~~(f &&& w) &&& w)) = (v &&& k) ||| (old &&& ~~~k &&& ~~~(v &&& w &&& ~~~f)) := by
  ext i hi
  have hb : (k[i] && w[i]) = false := by rw [← BitVec.getElem_and, h]; exact BitVec.getElem_zero hi
  simp only [BitVec.getElem_or, BitVec.getElem_and, BitVec.getElem_not]
  cases hk : k[i] <;> cases hw : w[i]
  case true.true => rw [hk, hw] at hb; cases hb
  all_goals simp

/-- R12, R13: the word that a write leaves, where no bit is both stored and cleared: what is written in the stored bits, a W1C bit
cleared by a 1 unless the hardware has set it in the same cycle, the old value elsewhere. -/
theorem writtenWord_keepFresh (old : Word) (h : d.storeMask &&& d.w1c = 0) :
    writtenWord d old (s.keepFresh d a v) = (v &&& BitVec.ofNat 64 d.storeMask) ||| (old &&& ~~~BitVec.ofNat 64 d.storeMask &&&
      ~~~(v &&& BitVec.ofNat 64 d.w1c &&& ~~~BitVec.ofNat 64 (s.freshBits a))) := by
  rw [writtenWord, State.keepFresh, BitVec.ofNat_and]
  exact masked_write _ _ _ _ _ (by rw [← BitVec.ofNat_and, h]; rfl)

/-- The word of a plain register after a write. -/
theorem State.reg_storeReg_self (hd : regAt a = some d) :
    (s.storeReg a v).reg a = (v &&& BitVec.ofNat 64 d.storeMask) ||| (s.reg a &&& ~~~BitVec.ofNat 64 d.storeMask &&&
      ~~~(v &&& BitVec.ofNat 64 d.w1c &&& ~~~BitVec.ofNat 64 (s.freshBits a))) := by
  rw [State.storeReg_eq hd, State.reg_setReg_self, writtenWord_keepFresh _ (regTable_disjoint d (regAt_mem hd))]

/-- A register all of whose bits are RO keeps its value. -/
theorem State.reg_storeReg_readOnly (hd : regAt a = some d) (h : d.storeMask ||| d.w1c = 0) : (s.storeReg a v).reg a = s.reg a := by
  rw [State.storeReg_eq hd, State.reg_setReg_self, writtenWord_same h]

/-- A register all of whose bits are RW takes the value. -/
theorem State.reg_storeReg_full (hd : regAt a = some d) (hs : BitVec.ofNat 64 d.storeMask = BitVec.allOnes 64) : (s.storeReg a v).reg a = v := by
  rw [State.reg_storeReg_self hd, hs, BitVec.and_allOnes, BitVec.not_allOnes, BitVec.and_zero, BitVec.zero_and, BitVec.or_zero]

/-- Plain registers lie in a window and have no lock. -/
theorem plainRegs_open : ∀ a ∈ Reg.ID_PART :: Reg.ID_DEVID :: plainRegs, accessStatus a = 0 ∧ ∀ d, regAt a = some d → d.locked = false := by
  have : ∀ a ∈ Reg.ID_PART :: Reg.ID_DEVID :: plainRegs, accessStatus a = 0 ∧ (regAt a).all (fun d => !d.locked) = true := by decide +kernel
  intro a ha
  refine ⟨(this a ha).1, fun d hd => ?_⟩
  have := (this a ha).2
  rw [hd] at this
  simpa using this

/-- A management write to a plain register stores it. -/
theorem State.mgmtWrite_plain (ha : a ∈ Reg.ID_PART :: Reg.ID_DEVID :: plainRegs) (hd : regAt a = some d) : s.mgmtWrite src a v = (s.storeReg a v, 0) := by
  obtain ⟨hs, hl⟩ := plainRegs_open a ha
  rw [State.mgmtWrite_unlocked hs hd (hl d hd), State.regWrite_plain ha hd]

/-- The block of ID_PART and that of ID_DEVID hold RO fields alone (R16). -/
theorem State.mgmtWrite_ids (ha : a = Reg.ID_PART ∨ a = Reg.ID_DEVID) : (s.mgmtWrite src a v).1.reg a = s.reg a := by
  rcases ha with rfl | rfl
  · rw [State.mgmtWrite_plain (by simp) rfl]
    exact State.reg_storeReg_readOnly rfl rfl
  · rw [State.mgmtWrite_plain (by simp) rfl]
    exact State.reg_storeReg_readOnly rfl rfl

/-- Storing a register leaves the settings in use, what the device has driven, the timetable and the bundles. -/
theorem State.storeReg_rest : (s.storeReg a v).use = s.use ∧ (s.storeReg a v).wire = s.wire ∧ (s.storeReg a v).tt = s.tt ∧ (s.storeReg a v).eg = s.eg := by
  unfold State.storeReg
  split <;> exact ⟨rfl, rfl, rfl, rfl⟩

/-- Settles O14. -/
theorem registerWritesFollowTheAccessTypes : Obligations.RegisterWritesFollowTheAccessTypes := by
  refine ⟨fun t src addr val d h8 hw hd hl => ?_, fun t src addr val ha => ?_, fun t src addr val d ha hd => ?_⟩
  · have hs : ∀ s : State, s.bootLocked = true → s.mgmtWrite src addr val = (s, 3) :=
      fun s => State.mgmtWrite_locked (accessStatus_window h8 hw) hd hl
    exact ⟨runs_registerWrite_idle hs, hs⟩
  · refine runs_registerWrite fun s _ => ?_
    rw [State.managed]
    split
    · exact State.mgmtWrite_ids ha
    · rfl
  · refine runs_registerWrite fun s hm => ?_
    rw [State.managed_of hm, State.mgmtWrite_plain (List.mem_cons_of_mem _ (List.mem_cons_of_mem _ ha)) hd]
    exact ⟨State.reg_storeReg_self hd, fun b hb => State.reg_storeReg_ne hb, State.storeReg_rest⟩

end Sys2Proof.Machine

/-! ## Witrig -/

namespace Sys2Proof.Machine

variable {s t u : State} {m : WitrigMsg} {r : WitrigResp} {src : Src} {op sub : Nat} {f : State → WitrigMsg → State × WitrigResp}

/-! ### Responses -/

/-- The frame that carries a response to the host of its request (R354). -/
def respTx (m : WitrigMsg) (r : WitrigResp) : EthTx :=
  { cls := 3, kind := 8, ip := m.ip.toNat, words := [], resp := some (m.port.toNat, r) }

/-- From `s` to `u` the response `r` to `m` was queued for its host, and the request and its error were counted (R354, R358). -/
def Told (m : WitrigMsg) (r : WitrigResp) (s u : State) : Prop :=
  u.eth.txq = s.eth.txq ++ [respTx m r] ∧
    u.f Reg.ETH_WT_CNT Fld.ETH_WT_CNT_REQUESTS = (s.f Reg.ETH_WT_CNT Fld.ETH_WT_CNT_REQUESTS + 1) % 2 ^ 32 ∧
    u.f Reg.ETH_WT_CNT Fld.ETH_WT_CNT_ERRORS =
      if r.status = 0 then s.f Reg.ETH_WT_CNT Fld.ETH_WT_CNT_ERRORS else min (s.f Reg.ETH_WT_CNT Fld.ETH_WT_CNT_ERRORS + 1) 65535

/-- The request in front was answered and left the queue. -/
def Answered (m : WitrigMsg) (r : WitrigResp) (s u : State) : Prop := Told m r s u ∧ u.eth.reqs = s.eth.reqs.tail

/-- `m` is in front of the Ethernet port's queue, asks for `op` and expects this device. -/
def Front (m : WitrigMsg) (op : Nat) (s : State) : Prop :=
  s.eth.reqs.head? = some m ∧ m.opcode.toNat = op ∧ (m.expect = 0 ∨ m.expect = s.devid)

@[simp] theorem State.sendResp_reqs (ip port : Nat) : (s.sendResp ip port r).eth.reqs = s.eth.reqs := by
  unfold State.sendResp; split <;> rfl

@[simp] theorem State.countReq_eth : s.countReq.eth = s.eth := rfl

theorem State.told_sendResp (s : State) (m : WitrigMsg) (r : WitrigResp) :
    Told m r s (s.countReq.sendResp m.ip.toNat m.port.toNat r) := by
  have hq : s.countReq.f Reg.ETH_WT_CNT Fld.ETH_WT_CNT_REQUESTS = (s.f Reg.ETH_WT_CNT Fld.ETH_WT_CNT_REQUESTS + 1) % 2 ^ 32 :=
    State.f_addF_self _ _ _ (by decide)
  have he : s.countReq.f Reg.ETH_WT_CNT Fld.ETH_WT_CNT_ERRORS = s.f Reg.ETH_WT_CNT Fld.ETH_WT_CNT_ERRORS :=
    State.f_setF_disjoint _ _ _ _ _ (by decide)
  by_cases h : r.status = 0
  · simp only [Told, State.sendResp, if_pos h]
    exact ⟨rfl, hq, he⟩
  · simp only [Told, State.sendResp, if_neg h]
    refine ⟨rfl, (State.f_setF_disjoint _ _ _ _ _ (by decide)).trans hq, ?_⟩
    rw [← he]
    exact State.f_satF_self _ _ _ (by decide)

/-- What is told does not depend on more of the state before than the frames to send and the counters. -/
theorem Told.of_eq (h : Told m r t u) (hq : t.eth.txq = s.eth.txq) (hc : t.reg Reg.ETH_WT_CNT = s.reg Reg.ETH_WT_CNT) : Told m r s u := by
  simpa only [Told, State.f, hq, hc] using h

theorem State.answer_eth (h : s.eth.reqs.head? = some m) :
    s.answer .eth r = ({ s with eth := { s.eth with reqs := s.eth.reqs.tail } } : State).countReq.sendResp m.ip.toNat m.port.toNat r := by
  obtain ⟨rest, hr⟩ := List.head?_eq_some_iff.mp h
  simp only [State.answer, hr, List.tail_cons]

/-- The request in front is answered by a meaning that has left the Ethernet port and its counters alone. -/
theorem State.answered (hq : s.eth.reqs.head? = some m) (he : t.eth = s.eth) (hc : t.reg Reg.ETH_WT_CNT = s.reg Reg.ETH_WT_CNT) :
    Answered m r s (t.answer .eth r) := by
  rw [State.answer_eth (by rw [he]; exact hq)]
  refine ⟨(State.told_sendResp _ m r).of_eq (by rw [he]) hc, ?_⟩
  rw [State.sendResp_reqs, State.countReq_eth, he]

/-- An answer on Ethernet touches the Ethernet port and its counters alone. -/
theorem State.answer_eth_within : Within (Machine.maskOf [.eth, .ETH_WT_CNT]) 0 0 s (s.answer .eth r) := by
  unfold State.answer
  split
  case h_2 =>
    split
    · exact Within.refl _ _ _ _
    · exact State.sendResp_within ⟨by decide, .inl (by decide)⟩
        (State.countReq_within ⟨by decide, .inl (by decide)⟩ (Within.upd_eth (by decide) (Within.refl _ _ _ _)))
  all_goals contradiction

/-! ### Serving the request in front -/

/-- A request for the operation and for this device is served. -/
theorem State.serve_run (hq : s.headReq src = some m) (ho : m.opcode.toNat = op) (hs : op = 4 → witAt m 0 1 = sub)
    (he : m.expect = 0 ∨ m.expect = s.devid) : s.serve src op sub f = (f s m).1.answer src (f s m).2 := by
  have hx : ¬ (m.expect ≠ 0 ∧ m.expect ≠ s.devid) := by tauto
  simp only [State.serve, hq, if_pos (And.intro ho hs), if_neg hx]

/-- One that expects another device is answered with WRONG_DEVICE (R358). -/
theorem State.serve_wrongDevice (hq : s.headReq src = some m) (ho : m.opcode.toNat = op) (hs : op = 4 → witAt m 0 1 = sub)
    (he : m.expect ≠ 0 ∧ m.expect ≠ s.devid) : s.serve src op sub f = s.answer src (witFail m 9 false) := by
  simp only [State.serve, hq, if_pos (And.intro ho hs), if_pos he]

/-- A request for another operation waits. -/
theorem State.serve_other (hq : s.headReq src = some m) (h : m.opcode.toNat ≠ op ∨ op = 4 ∧ witAt m 0 1 ≠ sub) :
    s.serve src op sub f = s := by
  have hx : ¬ (m.opcode.toNat = op ∧ (op = 4 → witAt m 0 1 = sub)) := by tauto
  simp only [State.serve, hq, if_neg hx]

/-- The state with another PIO block. -/
def State.withPio (s : State) (p : Pio) : State := { s with pio := p }

/-- The command `c` serves a request for `op` and `sub` on Ethernet by `f`, after the levels at the PIO lands were noted (READ) or not. -/
def Serves (c : Instr) (op sub : Nat) (f : State → WitrigMsg → State × WitrigResp) : Prop :=
  ∀ s, ∃ p : Pio, exec c s = .next (((s.advance (cmdTime c)).withPio p).serve .eth op sub f)

variable {c : Instr}

theorem Serves.wrongDevice (h : Serves c op sub f) :
    Runs c (fun s => s.eth.reqs.head? = some m ∧ m.opcode.toNat = op ∧ (op = 4 → witAt m 0 1 = sub) ∧ m.expect ≠ 0 ∧ m.expect ≠ s.devid)
      (fun s u => Answered m (witFail m 9 false) s u ∧ u.boot = s.boot) := by
  rintro s ⟨hq, ho, hs, hx, hd⟩
  obtain ⟨p, he⟩ := h s
  refine ⟨_, he, ?_⟩
  rw [State.serve_wrongDevice (s := State.withPio _ p) (src := .eth) hq ho hs ⟨hx, hd⟩]
  exact ⟨State.answered hq rfl rfl, State.answer_eth_within.boot rfl⟩

theorem Serves.other (h : Serves c op sub f) :
    Runs c (fun s => s.eth.reqs.head? = some m ∧ (m.opcode.toNat ≠ op ∨ op = 4 ∧ witAt m 0 1 ≠ sub))
      fun s u => u.eth = s.eth ∧ u.regs = s.regs ∧ u.boot = s.boot := by
  rintro s ⟨hq, ho⟩
  obtain ⟨p, he⟩ := h s
  refine ⟨_, he, ?_⟩
  rw [State.serve_other (s := State.withPio _ p) (src := .eth) hq ho]
  exact ⟨rfl, rfl, rfl⟩

/-- A command that serves without noting the lands, where its request is in front. -/
theorem runs_serve {H : State → Prop} {P : State → State → Prop} (he : ∀ s, exec c s = .next ((s.advance (cmdTime c)).serve .eth op sub f))
    (hs : op = 4 → witAt m 0 1 = sub) (hf : ∀ s, H s → Front m op s) (h : ∀ s, H s → P s ((f s m).1.answer .eth (f s m).2)) : Runs c H P := by
  refine Runs.of (fun s => s.serve .eth op sub f) he fun s hH => ?_
  obtain ⟨hq, ho, hx⟩ := hf s hH
  rw [State.serve_run (s := s) (src := .eth) hq ho hs hx]
  exact h s hH

/-- A weaker conclusion of a run. -/
theorem Runs.imp {H H' : State → Prop} {P Q : State → State → Prop} (h : Runs c H P) (hH : ∀ s, H' s → H s)
    (hq : ∀ s u, H' s → P s u → Q s u) : Runs c H' Q := fun s hs =>
  let ⟨u, he, hp⟩ := h s (hH _ hs)
  ⟨u, he, hq _ u hs hp⟩

/-! ### READ -/

/-- A read of `n` registers stops at a first access that fails. -/
theorem State.witReads_fails {n a : Nat} (hn : 0 < n) (ha : accessStatus a ≠ 0) : State.witReads src n a s [] = (s, accessStatus a, []) := by
  obtain ⟨k, rfl⟩ := Nat.exists_eq_succ_of_ne_zero hn.ne'
  rw [State.witReads, State.mgmtRead_fails ha]
  generalize accessStatus a = e at ha ⊢
  cases e with
  | zero => contradiction
  | succ e => rfl

theorem State.witReads_one {a : Nat} {v : Word} (h : s.mgmtRead src a = (t, 0, v)) : State.witReads src 1 a s [] = (t, 0, [v]) := by
  simp only [State.witReads, h, List.nil_append]

/-- The body of an answer that tells no word. -/
theorem noWords : beBytes 2 0 ++ [0, 0] ++ [] = [0, 0, 0, 0] := by decide

/-- R358: a READ whose first access fails is answered with that failure and no word. -/
theorem State.witRead_fails (hn : 0 < witAt m 4 2) (ha : accessStatus (witAt m 0 4) ≠ 0) :
    s.witRead src m = (s, witResp m (accessStatus (witAt m 0 4)) false [0, 0, 0, 0]) := by
  rw [State.witRead, State.witReads_fails hn ha]
  exact congrArg (fun b => (s, witResp m (accessStatus (witAt m 0 4)) false b)) noWords

/-- A READ of one register tells its word. -/
theorem State.witRead_one {v : Word} (hn : witAt m 4 2 = 1) (h : s.mgmtRead src (witAt m 0 4) = (t, 0, v)) :
    s.witRead src m = (t, witResp m 0 false (beBytes 2 1 ++ [0, 0] ++ [v].flatMap beWord)) := by
  rw [State.witRead, hn, State.witReads_one h]
  rfl

/-- ID_SCRATCH and ID_DEVID read as they stand. -/
theorem State.mgmtRead_id {a : Nat} (h : a = Reg.ID_SCRATCH ∨ a = Reg.ID_DEVID) : s.mgmtRead src a = (s, 0, s.reg a) := by
  rcases h with rfl | rfl <;> rfl

/-- What a READ changes of the state: latches and what the PIO block had due. -/
theorem State.witRead_seen (s : State) (src : Src) (m : WitrigMsg) (lands : BitVec 64) :
    Within (Machine.maskOf [.pipe, .pio, .PIO_PIN, .PIO_ESTAT]) 0 0 s ((s.seeLands lands).witRead src m).1 :=
  State.witRead_within (Foot.refl _ _ _) (State.seeLands_within ⟨by decide, .inl (by decide)⟩ (Within.refl _ _ _ _))

theorem runs_read (t : Nat) (lands : BitVec 64) (m : WitrigMsg) :
    Runs (.read t .eth lands) (Front m 1) fun s u => Answered m ((s.seeLands lands).witRead .eth m).2 s u ∧ u.wire = s.wire := by
  refine Runs.of (fun s => (s.seeLands lands).serve .eth 1 0 fun s m => s.witRead .eth m) (fun _ => rfl) ?_
  rintro s ⟨hq, ho, hx⟩
  rw [State.serve_run (s := s.seeLands lands) (src := .eth) hq ho (by omega) hx]
  have hw := s.witRead_seen .eth m lands
  exact ⟨State.answered hq (hw.eth rfl) (hw.keepReg .ETH_WT_CNT 0 0 rfl rfl), (State.answer_eth_within.wire rfl).trans (hw.wire rfl)⟩

end Sys2Proof.Machine

/-! ## Witrig: reception, the tunnel, sessions and the node table -/

namespace Sys2Proof.Machine

variable {s t u : State} {m : WitrigMsg} {r : WitrigResp} {src : Src} {op sub dst p i : Nat} {c : Instr}

/-! ### Routes and the tunnel -/

/-- Routes are read from the node table alone. -/
theorem State.routeTo_congr (h : ∀ k, t.reg (Reg.FB_NODE_INFO k) = s.reg (Reg.FB_NODE_INFO k)) : t.routeTo dst = s.routeTo dst := by
  simp only [State.routeTo, h]

/-- What leaves the node table leaves the routes. -/
theorem Within.routeTo {M N b : Nat} (h : Within M N b s t) (hm : (M ||| N) &&& (1 <<< Part.FB_NODE_INFO.ctorIdx ||| 0xc00000) = 0) :
    t.routeTo dst = s.routeTo dst :=
  State.routeTo_congr fun k => h.keepReg .FB_NODE_INFO k 0 rfl hm

/-- A tunnelled message leaves by the port of its route (R291, R305). -/
theorem State.sendMgmt_routed {a hops handle : Nat} {q : Option WitrigMsg} {o : Option WitrigResp} (hd : dst ≠ 0xFFF) (hr : s.routeTo dst = some p) :
    s.sendMgmt a dst hops handle q o = (s.emit (.tunnel p a dst hops handle q o)).addF Reg.FB_TUN_CNT Fld.FB_TUN_CNT_FORWARDED 1 := by
  simp only [State.sendMgmt, if_neg hd, hr]

/-- The request `m` is in flight under the next handle (R305). -/
def State.withFlight (s : State) (m : WitrigMsg) : State :=
  { s with kf := { s.kf with handle := (s.kf.handle + 1) % 2 ^ 32, flights := s.kf.flights ++ [⟨s.kf.handle, m.ip.toNat, m.port.toNat⟩] } }

theorem State.tunnel_goes (hn : s.kf.flights.length < 16) (hd : dst ≠ 0xFFF) (hr : s.routeTo dst = some p) :
    s.tunnel m dst = ((s.withFlight m).showFlights.emit (.tunnel p s.fabAddr dst 0 s.kf.handle (some m) none)).addF
      Reg.FB_TUN_CNT Fld.FB_TUN_CNT_FORWARDED 1 := by
  have hx : ¬ (tunnelMax ≤ s.kf.flights.length ∨ s.routeTo dst = none) := by simp only [tunnelMax, hr, reduceCtorEq, or_false]; omega
  have hr' : (s.withFlight m).showFlights.routeTo dst = some p := by
    rw [← hr]
    exact State.routeTo_congr fun k => State.reg_setF_ne _ _ (Part.addr_ne (p := .FB_TUN_CNT) (q := .FB_NODE_INFO) (i := 0) (j := 0) (j' := 0) (by decide) rfl rfl)
  simp only [State.tunnel, if_neg hx]
  exact State.sendMgmt_routed hd hr'

theorem State.tunnel_drops (h : 16 ≤ s.kf.flights.length ∨ s.routeTo dst = none) : s.tunnel m dst = s.tunDrop := by
  rw [State.tunnel, tunnelMax, if_pos h]

/-! ### Reception (R354, R355, R360) -/

theorem State.witrigRx_short : s.witrigRx m true = s := by
  rw [State.witrigRx, if_pos (.inr rfl)]

theorem State.witrigRx_off (h : s.rxOn = false ∨ s.ipValid = false) : s.witrigRx m false = s := by
  rw [State.witrigRx, if_pos (.inl (by rcases h with h | h <;> simp [h]))]

/-- The receiver works, an address is in use and the queue of 64 has room. -/
def State.rxRoom (s : State) : Prop := s.rxOn = true ∧ s.ipValid = true ∧ s.eth.reqs.length < 64

theorem State.witrigRx_full (ho : s.rxOn = true) (hv : s.ipValid = true) (h : 64 ≤ s.eth.reqs.length) :
    s.witrigRx m false = (s.satF Reg.ETH_WT_CNT Fld.ETH_WT_CNT_RX_DROP 1).setB Reg.ETH_STATUS Fld.ETH_STATUS_RX_DROP true := by
  rw [State.witrigRx, if_neg (by simp [ho, hv]), reqQueue, if_pos h]

theorem State.witrigRx_badHeader (h : s.rxRoom) (hh : m.magic ≠ 0x5754 ∨ m.version ≠ 1) :
    s.witrigRx m false = s.countReq.sendResp m.ip.toNat m.port.toNat (witFail m 4 false) := by
  obtain ⟨ho, hv, hq⟩ := h
  rw [State.witrigRx, if_neg (by simp [ho, hv]), reqQueue, if_neg (Nat.not_le.mpr hq), if_pos hh]

/-- A request with a good header finds room. -/
def State.rxGood (s : State) (m : WitrigMsg) : Prop := s.rxRoom ∧ m.magic = 0x5754 ∧ m.version = 1

/-- It is for this device: by its flag, or by the node table. -/
def State.rxLocal (s : State) (m : WitrigMsg) : Prop := s.rxGood m ∧ (hasBit m.flags.toNat 0 = true ∨
  ∃ k, s.nodeOf (m.target.toNat % 4096) = some k ∧ s.flag (Reg.FB_NODE_INFO k) Fld.FB_NODE_INFO_SELF = true)

/-- It is for another device of the node table. -/
def State.rxAway (s : State) (m : WitrigMsg) : Prop := s.rxGood m ∧ hasBit m.flags.toNat 0 = false ∧
  ∃ k, s.nodeOf (m.target.toNat % 4096) = some k ∧ s.flag (Reg.FB_NODE_INFO k) Fld.FB_NODE_INFO_SELF = false

/-- Where there is room and the header is good, the bit that names this device directly and then the node table decide. -/
theorem State.witrigRx_direct (h : s.rxGood m) (hb : hasBit m.flags.toNat 0 = true) :
    s.witrigRx m false = s.takeLocal m := by
  obtain ⟨⟨ho, hv, hq⟩, hm, hn⟩ := h
  rw [State.witrigRx, if_neg (by simp [ho, hv]), reqQueue, if_neg (Nat.not_le.mpr hq), if_neg (by simp [hm, hn]), if_pos hb]

theorem State.witrigRx_unknown (h : s.rxGood m) (hb : hasBit m.flags.toNat 0 = false)
    (hk : s.nodeOf (m.target.toNat % 4096) = none) : s.witrigRx m false = s.countReq.sendResp m.ip.toNat m.port.toNat (witFail m 8 false) := by
  obtain ⟨⟨ho, hv, hq⟩, hm, hn⟩ := h
  rw [State.witrigRx, if_neg (by simp [ho, hv]), reqQueue, if_neg (Nat.not_le.mpr hq), if_neg (by simp [hm, hn]), if_neg (by simp [hb])]
  simp only [hk]

theorem State.witrigRx_node {k : Nat} (h : s.rxGood m) (hb : hasBit m.flags.toNat 0 = false)
    (hk : s.nodeOf (m.target.toNat % 4096) = some k) :
    s.witrigRx m false = if s.flag (Reg.FB_NODE_INFO k) Fld.FB_NODE_INFO_SELF then s.takeLocal m else s.countReq.tunnel m (m.target.toNat % 4096) := by
  obtain ⟨⟨ho, hv, hq⟩, hm, hn⟩ := h
  rw [State.witrigRx, if_neg (by simp [ho, hv]), reqQueue, if_neg (Nat.not_le.mpr hq), if_neg (by simp [hm, hn]), if_neg (by simp [hb])]
  simp only [hk]

/-- No entry of the node table has the address of nobody. -/
theorem State.nodeOf_some {k : Nat} (h : s.nodeOf dst = some k) : dst ≠ 0xFFF := by
  rintro rfl
  rw [State.nodeOf, if_pos rfl] at h
  cases h

theorem State.rxAway.target (h : s.rxAway m) : m.target.toNat % 4096 ≠ 0xFFF :=
  let ⟨_, _, _, hk, _⟩ := h
  State.nodeOf_some hk

theorem State.takeLocal_bad (h : witBad m = true) : s.takeLocal m = s.countReq.sendResp m.ip.toNat m.port.toNat (witFail m 4 false) := by
  rw [State.takeLocal, if_pos h]

theorem State.takeLocal_good (h : witBad m = false) : s.takeLocal m = { s with eth := { s.eth with reqs := s.eth.reqs ++ [m] } } := by
  rw [State.takeLocal, if_neg (by simp [h])]

theorem State.witrigRx_local (h : s.rxLocal m) : s.witrigRx m false = s.takeLocal m := by
  obtain ⟨hg, hu⟩ := h
  cases hb : hasBit m.flags.toNat 0 with
  | true => exact State.witrigRx_direct hg hb
  | false =>
    obtain ⟨k, hk, hself⟩ := hu.resolve_left (by simp [hb])
    rw [State.witrigRx_node hg hb hk, if_pos hself]

theorem State.witrigRx_away (h : s.rxAway m) : s.witrigRx m false = s.countReq.tunnel m (m.target.toNat % 4096) := by
  obtain ⟨hg, hb, k, hk, hself⟩ := h
  rw [State.witrigRx_node hg hb hk, if_neg (by simp [hself])]

/-- A response queued at once leaves the requests that wait. -/
theorem State.told_atOnce (s : State) (m : WitrigMsg) (r : WitrigResp) :
    Told m r s (s.countReq.sendResp m.ip.toNat m.port.toNat r) ∧ (s.countReq.sendResp m.ip.toNat m.port.toNat r).eth.reqs = s.eth.reqs :=
  ⟨s.told_sendResp m r, by rw [State.sendResp_reqs, State.countReq_eth]⟩

theorem runs_witrigRx {t : Nat} {short : Bool} {H : State → Prop} {P : State → State → Prop} (h : ∀ s, H s → P s (s.witrigRx m short)) :
    Runs (.witrigRequestRx t m short) H P := Runs.of (fun s => s.witrigRx m short) (fun _ => rfl) h

/-- A request counted leaves the routes. -/
theorem State.countReq_routeTo : s.countReq.routeTo dst = s.routeTo dst :=
  State.routeTo_congr fun k => State.reg_setF_ne _ _ (Part.addr_ne (p := .ETH_WT_CNT) (q := .FB_NODE_INFO) (i := 0) (j := 0) (j' := 0) (by decide) rfl rfl)

/-- A request goes on its way to another device. -/
theorem State.tunnel_sent (hn : s.kf.flights.length < 16) (hd : dst ≠ 0xFFF) (hr : s.routeTo dst = some p) :
    let u := s.countReq.tunnel m dst
    u.wire = s.wire ++ [.tunnel p s.fabAddr dst 0 s.kf.handle (some m) none] ∧ u.eth = s.eth ∧
      u.kf.flights = s.kf.flights ++ [⟨s.kf.handle, m.ip.toNat, m.port.toNat⟩] ∧ u.kf.handle = (s.kf.handle + 1) % 2 ^ 32 ∧
      u.f Reg.FB_TUN_CNT Fld.FB_TUN_CNT_INFLIGHT = s.kf.flights.length + 1 := by
  have ha : s.countReq.fabAddr = s.fabAddr := State.f_setF_ne _ _ _ _ (by decide)
  intro u
  have hu : u = _ := State.tunnel_goes (s := s.countReq) hn hd (State.countReq_routeTo.trans hr)
  rw [hu, ha]
  refine ⟨rfl, rfl, rfl, rfl, ?_⟩
  rw [State.addF, State.f_setF_disjoint _ _ _ _ _ (by decide)]
  refine (State.f_setF_self _ _ _ _ (by decide)).trans ?_
  show (s.kf.flights ++ [_]).length % 2 ^ 5 = _
  rw [List.length_append, List.length_singleton]
  omega

/-- With 16 in flight, or no route, a request is dropped and counted. -/
theorem State.tunnel_dropped (h : 16 ≤ s.kf.flights.length ∨ s.routeTo dst = none) :
    let u := s.countReq.tunnel m dst
    u.wire = s.wire ∧ u.eth = s.eth ∧ u.kf = s.kf ∧ u.flag Reg.FB_STATUS Fld.FB_STATUS_TUN_DROP = true ∧
      u.f Reg.FB_TUN_CNT Fld.FB_TUN_CNT_DROPPED = min (s.f Reg.FB_TUN_CNT Fld.FB_TUN_CNT_DROPPED + 1) 65535 := by
  intro u
  have hu : u = _ := State.tunnel_drops (s := s.countReq) (by rwa [State.countReq_routeTo])
  rw [hu]
  refine ⟨rfl, rfl, rfl, State.flag_setB_self _ _ _ _ (by decide) rfl, ?_⟩
  rw [State.tunDrop, State.f_of_reg _ (State.reg_setB_ne _ _ (by decide)), State.f_satF_self _ _ _ (by decide)]
  rw [State.countReq, State.f_of_reg _ (State.reg_addF_ne _ _ (by decide))]
  rfl

end Sys2Proof.Machine

/-! ## Witrig: authenticated requests, the node table, and the statements -/

namespace Sys2Proof.Machine

variable {s t u : State} {m : WitrigMsg} {r : WitrigResp} {src : Src} {op sub dst p i : Nat} {c : Instr} {g : State → State × WitrigResp}

/-! ### Authenticated requests (R358, R359, R387, R388) -/

/-- The request carries a tag, and that is good. -/
def Signed (m : WitrigMsg) : Prop := hasBit m.flags.toNat 1 = true ∧ m.tagOk = true

theorem State.authentic_noSession (h : s.sessionOf m = none) : s.authentic m g = (s, witFail m 5 false) := by
  simp only [State.authentic, h]

theorem State.authentic_unsigned (h : s.sessionOf m = some i) (hs : ¬ Signed m) : s.authentic m g = (s, witFail m 6 false) := by
  have hx : (!hasBit m.flags.toNat 1) = true ∨ (!m.tagOk) = true := by
    simp only [Bool.not_eq_true']
    by_contra hc
    rw [not_or, Bool.not_eq_false, Bool.not_eq_false] at hc
    exact hs hc
  simp only [State.authentic, h, if_pos hx]

/-- A signed request passes the check of its tag. -/
theorem Signed.passes (hs : Signed m) : ¬ ((!hasBit m.flags.toNat 1) = true ∨ (!m.tagOk) = true) := by
  simp [hs.1, hs.2]

/-- A signed request with no newer counter is a repeat or refused. -/
theorem State.authentic_stale (h : s.sessionOf m = some i) (hs : Signed m) (hc : m.ctr.toNat ≤ (s.reg (Reg.SEC_SESS_CTR i)).toNat)
    (hr : ∀ x q, (s.boot.sessions.find? fun y => y.slot == i) = some x → x.lastResp = some q →
      ¬ (m.ctr.toNat = (s.reg (Reg.SEC_SESS_CTR i)).toNat ∧ x.lastReq = some (witBytes m))) : s.authentic m g = (s, witFail m 7 true) := by
  simp only [State.authentic, h, if_neg hs.passes, if_neg (Nat.not_lt.mpr hc)]
  split
  · next x hx =>
    split
    · next q hq => exact if_neg (hr x q hx hq)
    · rfl
  · rfl

/-- An exact repeat of the last accepted request is answered again and not executed. -/
theorem State.authentic_repeat {x : Session} (h : s.sessionOf m = some i) (hs : Signed m) (hc : m.ctr.toNat = (s.reg (Reg.SEC_SESS_CTR i)).toNat)
    (hx : (s.boot.sessions.find? fun y => y.slot == i) = some x) (hr : x.lastResp = some r) (hq : x.lastReq = some (witBytes m)) :
    s.authentic m g = (s, r) := by
  simp only [State.authentic, h, if_neg hs.passes, if_neg (Nat.not_lt.mpr hc.le), hx, hr]
  exact if_pos ⟨hc, hq⟩

/-- The state in which an accepted request runs: its counter is recorded, and the session holds it. -/
def State.taken (s : State) (m : WitrigMsg) (i : Nat) : State :=
  (s.setReg (Reg.SEC_SESS_CTR i) m.ctr).modSession i fun x => { x with lastAt := s.clock.now, lastReq := some (witBytes m), lastResp := none }

/-- The response is kept for a repeat. -/
def State.keptResp (s : State) (i : Nat) (r : WitrigResp) : State := s.modSession i fun x => { x with lastResp := some r }

/-- What makes a request in session `i` run: an open session, a good tag and a rising counter that is not the last. -/
def Accepted (m : WitrigMsg) (i : Nat) (s : State) : Prop :=
  s.sessionOf m = some i ∧ hasBit m.flags.toNat 1 = true ∧ m.tagOk = true ∧ (s.reg (Reg.SEC_SESS_CTR i)).toNat < m.ctr.toNat ∧ m.ctr.toNat ≠ 2 ^ 64 - 1

theorem State.authentic_accepted (h : Accepted m i s) (hg : g (s.taken m i) = (t, r)) : s.authentic m g = (t.keptResp i r, r) := by
  obtain ⟨hi, hb, ht, hlt, hmax⟩ := h
  simp only [State.authentic, hi, if_neg (Signed.passes ⟨hb, ht⟩), if_pos hlt, if_neg hmax]
  rw [show g ((s.setReg (Reg.SEC_SESS_CTR i) m.ctr).modSession i fun x =>
    { x with lastAt := s.clock.now, lastReq := some (witBytes m), lastResp := none }) = (t, r) from hg]
  rfl

/-- Accepting a request writes no register but its session's counter. -/
theorem State.reg_taken_ne {a : Nat} (h : a ≠ Reg.SEC_SESS_CTR i) : (s.taken m i).reg a = s.reg a := State.reg_setReg_ne s _ h

theorem State.reg_taken_ctr : (s.taken m i).reg (Reg.SEC_SESS_CTR i) = m.ctr := State.reg_setReg_self s _ _

/-- A register of another block than the counters'. -/
theorem ne_sessCtr {q : Part} {j k a : Nat} (ha : q.addr j k = some a) (h : q ≠ .SEC_SESS_CTR := by decide) : a ≠ Reg.SEC_SESS_CTR i :=
  Part.addr_ne (p := .SEC_SESS_CTR) (i := i) (j := 0) h rfl ha

/-- An accepted request is answered, where its meaning leaves the Ethernet port and its counters alone. -/
theorem Accepted.answered (h : Accepted m i s) (hq : s.eth.reqs.head? = some m) (hg : g (s.taken m i) = (t, r)) (he : t.eth = s.eth)
    (hc : t.reg Reg.ETH_WT_CNT = s.reg Reg.ETH_WT_CNT) : Answered m r s ((s.authentic m g).1.answer .eth (s.authentic m g).2) := by
  rw [State.authentic_accepted h hg]
  exact State.answered hq he hc

/-- Registers of other blocks than the counters of requests are as the meaning of an accepted request has left them. -/
theorem Accepted.reg (h : Accepted m i s) (hg : g (s.taken m i) = (t, r)) (q : Part) (j k : Nat) {a : Nat} (ha : q.addr j k = some a)
    (hm : (maskOf [.eth, .ETH_WT_CNT] ||| 0) &&& (1 <<< q.ctorIdx ||| 0xc00000) = 0) :
    ((s.authentic m g).1.answer .eth (s.authentic m g).2).reg a = t.reg a := by
  rw [State.authentic_accepted h hg]
  exact State.answer_eth_within.keepReg q j k ha hm

/-- A refused request: answered, with boot state and counters as they were. -/
def Refused (m : WitrigMsg) (r : WitrigResp) (s u : State) : Prop :=
  Answered m r s u ∧ u.boot = s.boot ∧ ∀ i : Fin 4, (u.reg (Reg.SEC_SESS_CTR i.val)).toNat = (s.reg (Reg.SEC_SESS_CTR i.val)).toNat

/-- A command that serves its requests by an authenticated meaning. -/
def Authenticates (c : Instr) (op sub : Nat) (g : WitrigMsg → State → State × WitrigResp) : Prop :=
  ∀ s, exec c s = .next ((s.advance (cmdTime c)).serve .eth op sub fun s m => s.authentic m (g m))

theorem Authenticates.refused {g : WitrigMsg → State → State × WitrigResp} (hc : Authenticates c op sub g) (hs : op = 4 → witAt m 0 1 = sub)
    {H : State → Prop} (hf : ∀ s, H s → Front m op s) (hr : ∀ s, H s → s.authentic m (g m) = (s, r)) : Runs c H (Refused m r) := by
  refine runs_serve hc hs hf fun s hH => ?_
  rw [hr s hH]
  refine ⟨State.answered (hf s hH).1 rfl rfl, State.answer_eth_within.boot rfl, fun i => ?_⟩
  rw [State.answer_eth_within.keepReg .SEC_SESS_CTR i.val 0 rfl rfl]

/-- WRITE and CLOSE are authenticated. -/
theorem authenticates_of_mem {t : Nat} {x : Instr × Nat} (hx : x ∈ ([(.write t .eth, 2), (.closeSession t .eth, 4)] : List (Instr × Nat)))
    (hm : x.2 = 4 → witAt m 0 1 = 3) : ∃ sub g, Authenticates x.1 x.2 sub g ∧ (x.2 = 4 → witAt m 0 1 = sub) := by
  simp only [List.mem_cons, List.not_mem_nil, or_false] at hx
  rcases hx with rfl | rfl
  · exact ⟨0, _, fun _ => rfl, by omega⟩
  · exact ⟨3, _, fun _ => rfl, hm⟩

/-- Every Witrig command serves the request in front. -/
theorem serves_of_mem {t : Nat} {lands : BitVec 64} {x : Instr × Nat × Nat}
    (hx : x ∈ ([(.read t .eth lands, 1, 0), (.write t .eth, 2, 0), (.nodes t .eth, 3, 0), (.challenge t .eth, 4, 1), (.openSession t .eth, 4, 2),
      (.closeSession t .eth, 4, 3), (.attest t .eth, 4, 4)] : List (Instr × Nat × Nat))) : ∃ f, Serves x.1 x.2.1 x.2.2 f := by
  simp only [List.mem_cons, List.not_mem_nil, or_false] at hx
  rcases hx with rfl | rfl | rfl | rfl | rfl | rfl | rfl <;> exact ⟨_, fun _ => ⟨_, rfl⟩⟩

/-! ### WRITE -/

/-- What an accepted WRITE does and answers. -/
def writeMeaning (src : Src) (m : WitrigMsg) (s : State) : State × WitrigResp :=
  let r := State.witWrites src m (witAt m 0 2) 0 s
  (r.1, witResp m r.2.2 true (beBytes 2 r.2.1 ++ [0, 0]))

theorem State.witWrite_eq : s.witWrite src m = s.authentic m (writeMeaning src m) := rfl

theorem State.witWrites_one_done (h : s.mgmtWrite src (witAt m 4 4) (BitVec.ofNat 64 (witAt m 12 8)) = (t, 0)) :
    State.witWrites src m 1 0 s = (t, 1, 0) := by
  simp only [State.witWrites, Nat.mul_zero, Nat.add_zero, h, Nat.zero_add, ite_self]

theorem State.witWrites_one_fails {e : Nat} (h : s.mgmtWrite src (witAt m 4 4) (BitVec.ofNat 64 (witAt m 12 8)) = (t, e)) (he : e ≠ 0) :
    State.witWrites src m 1 0 s = (t, 0, e) := by
  cases e with
  | zero => contradiction
  | succ e => simp only [State.witWrites, Nat.mul_zero, Nat.add_zero, h]

/-- A WRITE with one entry that fails is answered with the failure, and its counter is taken. -/
theorem Accepted.write_fails {e : Nat} (h : Accepted m i s) (hq : s.eth.reqs.head? = some m) (h1 : witAt m 0 2 = 1)
    (hw : (s.taken m i).mgmtWrite .eth (witAt m 4 4) (BitVec.ofNat 64 (witAt m 12 8)) = (s.taken m i, e)) (he : e ≠ 0) :
    let u := (s.witWrite .eth m).1.answer .eth (s.witWrite .eth m).2
    Answered m (witResp m e true (beBytes 2 0 ++ [0, 0])) s u ∧ u.reg (Reg.SEC_SESS_CTR i) = m.ctr := by
  have hg : writeMeaning .eth m (s.taken m i) = (s.taken m i, witResp m e true (beBytes 2 0 ++ [0, 0])) := by
    simp only [writeMeaning, h1, State.witWrites_one_fails hw he]
  exact ⟨h.answered hq hg rfl (State.reg_taken_ne (ne_sessCtr (q := .ETH_WT_CNT) (j := 0) (k := 0) rfl)),
    (h.reg hg .SEC_SESS_CTR i 0 rfl (by decide)).trans State.reg_taken_ctr⟩

/-- A WRITE of ID_SCRATCH is performed. -/
theorem Accepted.write_scratch (h : Accepted m i s) (hq : s.eth.reqs.head? = some m) (h1 : witAt m 0 2 = 1) (ha : witAt m 4 4 = Reg.ID_SCRATCH) :
    let u := (s.witWrite .eth m).1.answer .eth (s.witWrite .eth m).2
    Answered m (witResp m 0 true (beBytes 2 1 ++ [0, 0])) s u ∧ u.reg Reg.ID_SCRATCH = BitVec.ofNat 64 (witAt m 12 8) ∧
      u.reg (Reg.SEC_SESS_CTR i) = m.ctr := by
  have hw : (s.taken m i).mgmtWrite .eth (witAt m 4 4) (BitVec.ofNat 64 (witAt m 12 8)) =
      ((s.taken m i).storeReg Reg.ID_SCRATCH (BitVec.ofNat 64 (witAt m 12 8)), 0) := by
    rw [ha]; exact State.mgmtWrite_plain (by decide) rfl
  have hg : writeMeaning .eth m (s.taken m i) = ((s.taken m i).storeReg Reg.ID_SCRATCH (BitVec.ofNat 64 (witAt m 12 8)), witResp m 0 true (beBytes 2 1 ++ [0, 0])) := by
    simp only [writeMeaning, h1, State.witWrites_one_done hw]
  refine ⟨h.answered hq hg rfl ?_, ?_, ?_⟩
  · rw [State.reg_storeReg_ne (by decide)]
    exact State.reg_taken_ne (ne_sessCtr (q := .ETH_WT_CNT) (j := 0) (k := 0) rfl)
  · rw [State.witWrite_eq, h.reg hg .ID_SCRATCH 0 0 rfl (by decide)]
    exact State.reg_storeReg_full rfl rfl
  · rw [State.witWrite_eq, h.reg hg .SEC_SESS_CTR i 0 rfl (by decide), State.reg_storeReg_ne (ne_sessCtr (q := .ID_SCRATCH) (j := 0) (k := 0) rfl).symm]
    exact State.reg_taken_ctr

/-! ### CLOSE -/

/-- What an accepted CLOSE does and answers. -/
def closeMeaning (m : WitrigMsg) (s : State) : State × WitrigResp :=
  (match s.sessionOf m with | some i => s.closeSession i | none => s, witResp m 0 true (subWord 3))

theorem State.witClose_eq : s.witClose m = s.authentic m (closeMeaning m) := rfl

theorem State.sessionOf_congr (h : ∀ k, t.reg (Reg.SEC_SESS k) = s.reg (Reg.SEC_SESS k)) : t.sessionOf m = s.sessionOf m := by
  simp only [State.sessionOf, State.flag, State.f, h]

theorem State.sessionOf_taken : (s.taken m i).sessionOf m = s.sessionOf m :=
  State.sessionOf_congr fun k => State.reg_taken_ne (ne_sessCtr (q := .SEC_SESS) (j := k) (k := 0) rfl)

theorem State.reg_closeSession_self : (s.closeSession i).reg (Reg.SEC_SESS i) = 0 ∧ (s.closeSession i).reg (Reg.SEC_SESS_CTR i) = 0 :=
  ⟨(State.reg_setReg_ne _ _ (ne_sessCtr (q := .SEC_SESS) (j := i) (k := 0) rfl)).trans (State.reg_setReg_self _ _ _), State.reg_setReg_self _ _ _⟩

/-- No session is left in an entry that was closed. -/
theorem State.sessions_closeSession : ∀ x ∈ ((s.closeSession i).keptResp i r).boot.sessions, x.slot ≠ i := by
  intro x hx
  obtain ⟨y, hy, rfl⟩ := List.mem_map.mp hx
  have := (List.mem_filter.mp hy).2
  split <;> simpa using this

/-- CLOSE closes the session of its request. -/
theorem Accepted.close (h : Accepted m i s) (hq : s.eth.reqs.head? = some m) :
    let u := (s.witClose m).1.answer .eth (s.witClose m).2
    Answered m (witResp m 0 true [3, 0, 0, 0]) s u ∧ u.reg (Reg.SEC_SESS i) = 0 ∧ u.reg (Reg.SEC_SESS_CTR i) = 0 ∧
      ∀ x ∈ u.boot.sessions, x.slot ≠ i := by
  have hg : closeMeaning m (s.taken m i) = ((s.taken m i).closeSession i, witResp m 0 true [3, 0, 0, 0]) := by
    simp only [closeMeaning, State.sessionOf_taken, h.1]
    rfl
  refine ⟨h.answered hq hg rfl ?_, ?_, ?_, ?_⟩
  · have := (State.closeSession_within (i := i) (Foot.refl _ _ _) (Within.refl _ _ _ (s.taken m i))).keepReg .ETH_WT_CNT 0 0 rfl rfl
    rw [this]
    exact State.reg_taken_ne (ne_sessCtr (q := .ETH_WT_CNT) (j := 0) (k := 0) rfl)
  · rw [State.witClose_eq, h.reg hg .SEC_SESS i 0 rfl (by decide)]
    exact State.reg_closeSession_self.1
  · rw [State.witClose_eq, h.reg hg .SEC_SESS_CTR i 0 rfl (by decide)]
    exact State.reg_closeSession_self.2
  · rw [State.witClose_eq, State.authentic_accepted h hg, State.answer_eth_within.boot rfl]
    exact State.sessions_closeSession

/-! ### NODES -/

/-- The numbers that have a property, where none has it. -/
theorem filter_range_nil {n : Nat} {q : Nat → Bool} (h : ∀ k : Fin n, ¬ q k.val = true) : (List.range n).filter q = [] :=
  List.filter_eq_nil_iff.mpr fun k hk => h ⟨k, List.mem_range.mp hk⟩

/-- The numbers that have a property, where just one has it. -/
theorem filter_range_one {n : Nat} {q : Nat → Bool} {k : Fin n} (h : ∀ j : Fin n, q j.val = true ↔ j = k) : (List.range n).filter q = [k.val] := by
  have hq : ∀ j ∈ List.range n, q j = (j == k.val) := fun j hj => by
    rw [Bool.eq_iff_iff, h ⟨j, List.mem_range.mp hj⟩, beq_iff_eq, Fin.ext_iff]
  rw [List.filter_congr hq, List.filter_beq, List.count_eq_one_of_mem List.nodup_range (List.mem_range.mpr k.isLt)]
  rfl

/-- NODES changes nothing and tells the valid entries of the node table. -/
theorem State.witNodes_none (h : ∀ k : Fin 64, ¬ s.flag (Reg.FB_NODE_INFO k.val) Fld.FB_NODE_INFO_VALID = true) :
    s.witNodes m = (s, witResp m 0 false [0, 0, 0, 0]) := by
  simp only [State.witNodes, filter_range_nil (q := fun k => s.flag (Reg.FB_NODE_INFO k) Fld.FB_NODE_INFO_VALID) h]
  exact congrArg (fun b => (s, witResp m 0 false b)) noWords

theorem State.witNodes_one {k : Fin 64} (h : ∀ j : Fin 64, s.flag (Reg.FB_NODE_INFO j.val) Fld.FB_NODE_INFO_VALID = true ↔ j = k) :
    s.witNodes m = (s, witResp m 0 false ([0, 1, 0, 0] ++ beWord (s.reg (Reg.FB_NODE_ID k.val)) ++
      beBytes 2 (s.f (Reg.FB_NODE_INFO k.val) Fld.FB_NODE_INFO_ADDR) ++ beBytes 1 (s.f (Reg.FB_NODE_INFO k.val) Fld.FB_NODE_INFO_HOPS) ++
      List.replicate 5 0)) := by
  have hn : beBytes 2 1 = [0, 1] := by decide
  simp only [State.witNodes, filter_range_one (q := fun k => s.flag (Reg.FB_NODE_INFO k) Fld.FB_NODE_INFO_VALID) h, List.length_singleton, hn, List.flatMap_singleton, List.append_assoc, State.f]
  rfl

end Sys2Proof.Machine

/-! ## Misaligned accesses, and the Witrig requests part by part -/

namespace Sys2Proof.Machine

variable {t i : Nat} {m : WitrigMsg} {src : Src} {lands : BitVec 64} {a : Nat}

/-! ### READ of one register -/

/-- R9, R358: a READ whose first access fails is answered with that failure and no word. -/
theorem runs_read_fails (ha : accessStatus (witAt m 0 4) ≠ 0) (hn : 0 < witAt m 4 2) :
    Runs (.read t .eth lands) (Front m 1) (Answered m (witResp m (accessStatus (witAt m 0 4)) false [0, 0, 0, 0])) :=
  (runs_read t lands m).imp (fun _ => id) fun s u _ h => by
    rw [State.witRead_fails hn ha] at h
    exact h.1

/-- A READ of one register that changes nothing is answered with its word. -/
theorem runs_read_word {v : State → Word} (hn : witAt m 4 2 = 1)
    (hv : ∀ s : State, (s.seeLands lands).mgmtRead .eth (witAt m 0 4) = (s.seeLands lands, 0, v s)) :
    Runs (.read t .eth lands) (Front m 1) fun s => Answered m (witResp m 0 false (beBytes 2 1 ++ [0, 0] ++ [v s].flatMap beWord)) s :=
  (runs_read t lands m).imp (fun _ => id) fun s u _ h => by
    rw [State.witRead_one hn (hv s)] at h
    exact h.1

/-- Settles O12: a failing access leaves the state, and a READ stops at it. -/
theorem misalignedAccessesChangeNothing : Obligations.MisalignedAccessesChangeNothing := by
  refine ⟨fun addr d => regAt_aligned, fun t src addr val h8 => ?_, fun src val s _ => ?_, fun t lands m h8 hn => ?_⟩
  · have hs := accessStatus_misaligned h8
    have hw : ∀ s : State, s.mgmtWrite src addr val = (s, 1) := fun s => by rw [State.mgmtWrite_fails (by simp [hs]), hs]
    refine ⟨runs_registerWrite_idle fun s _ => hw s, fun s => ⟨hw s, ?_⟩⟩
    rw [State.mgmtRead_fails (by simp [hs]), hs]
  · rw [State.mgmtRead_id (.inl rfl), State.mgmtWrite_plain (by decide) rfl]
    exact ⟨rfl, State.reg_storeReg_full rfl rfl⟩
  · have hs := accessStatus_misaligned h8
    refine (runs_read_fails (by simp [hs]) hn).imp ?_ fun s u _ h => ?_
    · rintro s ⟨hq, ho, hx⟩
      exact ⟨hq, by rw [ho]; rfl, hx⟩
    · rw [hs] at h
      exact ⟨h.1.1, h.2⟩

/-! ### READ from a tunnel and from the Purser -/

/-- A READ that came by a tunnel is answered by the tunnel (R305, R354). -/
theorem runs_read_tunnel (q : TunReq) (p : Nat) : Runs (.read t .tunnel lands)
    (fun s => s.kf.tunReqs.head? = some q ∧ q.msg.opcode.toNat = 1 ∧ (q.msg.expect = 0 ∨ q.msg.expect = s.devid) ∧ q.entry ≠ 0xFFF ∧ s.routeTo q.entry = some p)
    fun s u => u.kf.tunReqs = s.kf.tunReqs.tail ∧
      u.wire = s.wire ++ [.tunnel p s.fabAddr q.entry 0 q.handle none (some ((s.seeLands lands).witRead .tunnel q.msg).2)] := by
  refine Runs.of (fun s => (s.seeLands lands).serve .tunnel 1 0 fun s m => s.witRead .tunnel m) (fun _ => rfl) ?_
  rintro s ⟨hq, ho, hx, hd, hr⟩
  have hh : (s.seeLands lands).headReq .tunnel = some q.msg := congrArg (Option.map TunReq.msg) hq
  rw [State.serve_run (s := s.seeLands lands) (src := .tunnel) hh ho (by omega) hx]
  have hw := s.witRead_seen .tunnel q.msg lands
  generalize (s.seeLands lands).witRead .tunnel q.msg = x at hw ⊢
  obtain ⟨v, r⟩ := x
  obtain ⟨rest, hrest⟩ := List.head?_eq_some_iff.mp hq
  have hk : v.kf = s.kf := hw.kf rfl
  have ha : v.fabAddr = s.fabAddr := State.f_of_reg _ (hw.keepReg .FB_STATUS 0 0 rfl rfl)
  have hs := State.sendMgmt_routed (s := { v with kf := { v.kf with tunReqs := rest } }) (a := v.fabAddr) (hops := 0) (handle := q.handle)
    (q := none) (o := some r) hd ((hw.routeTo rfl).trans hr)
  simp only [State.answer, hk, hrest, List.tail_cons] at hs ⊢
  rw [hs, ha]
  exact ⟨rfl, congrArg (· ++ _) (hw.wire rfl)⟩

/-! ### The parts of the statement on Witrig -/

/-- A full queue drops the request and counts it. -/
theorem runs_rx_full : Runs (.witrigRequestRx t m false) (fun s => s.rxOn = true ∧ s.ipValid = true ∧ 64 ≤ s.eth.reqs.length) fun s u =>
    u.eth = s.eth ∧ u.flag Reg.ETH_STATUS Fld.ETH_STATUS_RX_DROP = true ∧
      u.f Reg.ETH_WT_CNT Fld.ETH_WT_CNT_RX_DROP = min (s.f Reg.ETH_WT_CNT Fld.ETH_WT_CNT_RX_DROP + 1) 65535 := by
  refine runs_witrigRx fun s ⟨ho, hv, hn⟩ => ?_
  rw [State.witrigRx_full ho hv hn]
  refine ⟨rfl, State.flag_setB_self _ _ _ _ (by decide) rfl, ?_⟩
  rw [State.f_of_reg _ (State.reg_setB_ne _ _ (by decide))]
  exact State.f_satF_self _ _ _ (by decide)

/-- A request refused on reception with error `e` is answered at once, and no request waits more than before. -/
theorem runs_rx_atOnce {H : State → Prop} {e : Nat}
    (h : ∀ s, H s → s.witrigRx m false = s.countReq.sendResp m.ip.toNat m.port.toNat (witFail m e false)) :
    Runs (.witrigRequestRx t m false) H fun s u => Told m (witFail m e false) s u ∧ u.eth.reqs = s.eth.reqs :=
  runs_witrigRx fun s hs => by
    rw [h s hs]
    exact s.told_atOnce m _

/-- What refuses a WRITE or a CLOSE. -/
theorem Authenticates.refusals {c : Instr} {op sub : Nat} {g : WitrigMsg → State → State × WitrigResp} (hc : Authenticates c op sub g)
    (hs : op = 4 → witAt m 0 1 = sub) :
    let last := fun (i : Nat) (s : State) => (s.reg (Reg.SEC_SESS_CTR i)).toNat
    Runs c (fun s => Front m op s ∧ s.sessionOf m = none) (Refused m (witFail m 5 false)) ∧
    ∀ i : Nat,
      Runs c (fun s => Front m op s ∧ s.sessionOf m = some i ∧ ¬ Signed m) (Refused m (witFail m 6 false)) ∧
      Runs c (fun s => Front m op s ∧ s.sessionOf m = some i ∧ Signed m ∧ m.ctr.toNat < last i s) (Refused m (witFail m 7 true)) ∧
      ∀ (x : Session) (r : WitrigResp),
        let kept := fun (s : State) => (s.boot.sessions.find? fun y => y.slot == i) = some x ∧ x.lastResp = some r
        Runs c (fun s => Front m op s ∧ s.sessionOf m = some i ∧ Signed m ∧ m.ctr.toNat = last i s ∧ kept s ∧ x.lastReq = some (witBytes m)) (Refused m r) ∧
        Runs c (fun s => Front m op s ∧ s.sessionOf m = some i ∧ Signed m ∧ m.ctr.toNat = last i s ∧ kept s ∧ x.lastReq ≠ some (witBytes m))
          (Refused m (witFail m 7 true)) := by
  refine ⟨hc.refused hs (fun _ h => h.1) fun s h => State.authentic_noSession h.2, fun i => ⟨?_, ?_, fun x r => ⟨?_, ?_⟩⟩⟩
  · exact hc.refused hs (fun _ h => h.1) fun s ⟨_, hi, hn⟩ => State.authentic_unsigned hi hn
  · refine hc.refused hs (fun _ h => h.1) fun s ⟨_, hi, hg, hlt⟩ => ?_
    exact State.authentic_stale hi hg hlt.le fun _ _ _ _ h => absurd h.1 hlt.ne
  · refine hc.refused hs (fun _ h => h.1) fun s ⟨_, hi, hg, heq, ⟨hx, hr⟩, hq⟩ => ?_
    exact State.authentic_repeat hi hg heq hx hr hq
  · refine hc.refused hs (fun _ h => h.1) fun s ⟨_, hi, hg, heq, ⟨hx, _⟩, hq⟩ => ?_
    refine State.authentic_stale hi hg heq.le fun y q hy _ h => hq ?_
    rw [← Option.some.inj (hy.symm.trans hx)]
    exact h.2

/-- A WRITE of one entry that fails leaves the counter taken. -/
theorem runs_write_fails {H : State → Prop} {e : Nat} (he : e ≠ 0) (h1 : witAt m 0 2 = 1) (hf : ∀ s, H s → Front m 2 s) (ha : ∀ s, H s → Accepted m i s)
    (hw : ∀ s, H s → (s.taken m i).mgmtWrite .eth (witAt m 4 4) (BitVec.ofNat 64 (witAt m 12 8)) = (s.taken m i, e)) :
    Runs (.write t .eth) H fun s u => Answered m (witResp m e true (beBytes 2 0 ++ [0, 0])) s u ∧ u.reg (Reg.SEC_SESS_CTR i) = m.ctr :=
  runs_serve (f := fun s m => s.witWrite .eth m) (fun _ => rfl) (by omega) hf fun s hH => (ha s hH).write_fails (hf s hH).1 h1 (hw s hH) he

/-- Boot lock is as before where a request is accepted. -/
theorem State.bootLocked_taken {s : State} : (s.taken m i).bootLocked = s.bootLocked :=
  State.flag_of_reg _ (State.reg_taken_ne (ne_sessCtr (q := .CFG_BOOT_STAT) (j := 0) (k := 0) rfl))

/-- NODES is answered with what it tells. -/
theorem runs_nodes {H : State → Prop} {r : State → WitrigResp} (hf : ∀ s, H s → Front m 3 s) (hr : ∀ s, H s → s.witNodes m = (s, r s)) :
    Runs (.nodes t .eth) H fun s => Answered m (r s) s :=
  runs_serve (f := fun s m => s.witNodes m) (fun _ => rfl) (by omega) hf fun s hH => by
    rw [hr s hH]
    exact State.answered (hf s hH).1 rfl rfl

/-- Settles O54. -/
theorem witrigRequestsAreServed : Obligations.WitrigRequestsAreServed := by
  refine ⟨fun t m => ?_, fun t lands m => ⟨runs_read t lands m, ?_, ?_, ?_, ?_, runs_read_tunnel, ?_⟩, fun t lands m c hc => ?_, fun t m c hc hs => ?_,
    fun t i m => ⟨fun h1 => ?_, fun a h1 ha => ?_, fun a d h1 ha hd hl => ?_, fun hs => ?_⟩, fun t m => ⟨?_, fun k => ?_⟩⟩
  · refine ⟨runs_witrigRx fun _ _ => State.witrigRx_short, runs_witrigRx fun _ h => State.witrigRx_off h, runs_rx_full,
      runs_rx_atOnce fun _ h => State.witrigRx_badHeader h.1 h.2,
      runs_rx_atOnce fun s h => (State.witrigRx_local h.1).trans (State.takeLocal_bad h.2),
      runs_witrigRx fun s h => (State.witrigRx_local h.1).trans (State.takeLocal_good h.2),
      runs_rx_atOnce fun _ ⟨hg, hb, hk⟩ => State.witrigRx_unknown hg hb hk,
      fun p => runs_witrigRx fun s ⟨ha, hn, hr⟩ => ?_, runs_witrigRx fun s ⟨ha, hd⟩ => ?_⟩
    · rw [State.witrigRx_away ha]
      exact State.tunnel_sent hn (State.rxAway.target ha) hr
    · rw [State.witrigRx_away ha]
      exact State.tunnel_dropped hd
  · rintro a ⟨rfl, hn⟩ ha
    refine runs_read_word hn fun s => ?_
    exact State.mgmtRead_id ha
  · rintro a ⟨rfl, hn⟩ h8
    have hs := accessStatus_misaligned h8
    have := runs_read_fails (t := t) (lands := lands) (m := m) (by simp [hs]) (by omega)
    rwa [hs] at this
  · rintro a ⟨rfl, hn⟩ h8 hw
    have hs := accessStatus_outside h8 hw
    have := runs_read_fails (t := t) (lands := lands) (m := m) (by simp [hs]) (by omega)
    rwa [hs] at this
  · rintro a ⟨rfl, hn⟩ h8 hw hd
    exact runs_read_word hn fun s => State.mgmtRead_none (accessStatus_window h8 hw) hd
  · exact Runs.of (fun s => s.seeLands lands) (fun _ => rfl) fun _ _ => rfl
  · obtain ⟨f, hf⟩ := serves_of_mem hc
    exact ⟨hf.wrongDevice, hf.other⟩
  · obtain ⟨sub, g, hg, hsub⟩ := authenticates_of_mem hc hs
    exact hg.refusals hsub
  · exact runs_serve (f := fun s m => s.witWrite .eth m) (fun _ => rfl) (by omega) (fun _ h => h.1) fun s h =>
      Accepted.write_scratch h.2 h.1.1 h1.1 h1.2
  · obtain ⟨h1, rfl⟩ := h1
    exact runs_write_fails ha h1 (fun _ h => h.1) (fun _ h => h.2) fun _ _ => State.mgmtWrite_fails ha
  · obtain ⟨h1, rfl⟩ := h1
    exact runs_write_fails (by decide) h1 (fun _ h => h.1) (fun _ h => h.2.1) fun s h =>
      State.mgmtWrite_locked ha hd hl (State.bootLocked_taken.trans h.2.2)
  · exact runs_serve (f := fun s m => s.witClose m) (fun _ => rfl) (fun _ => hs) (fun _ h => h.1) fun s h => Accepted.close h.2 h.1.1
  · exact runs_nodes (r := fun _ => _) (fun _ h => h.1) fun s h => State.witNodes_none h.2
  · exact runs_nodes (fun _ h => h.1) fun s h => State.witNodes_one h.2

end Sys2Proof.Machine

/-! ## The bytes of the frame store -/

namespace Sys2Proof.Machine

/-! ### What a write to the frame store leaves, and what it reads back -/

theorem natBytes_length (n v : Nat) : (natBytes n v).length = n := by
  induction n generalizing v with
  | zero => rfl
  | succ n ih => rw [natBytes, List.length_cons, ih]

theorem packBytes_length (n : Nat) (codes : List Nat) : (packBytes n codes).length = ceilDiv (codes.length * n) 8 := natBytes_length _ _

theorem wordBytes_length (w : Word) : (wordBytes w).length = 8 := natBytes_length _ _

/-- Bytes written from `a` on, by their addresses: no other byte changes. -/
theorem Sparse.get_putAll_out {m : List (Nat × Byte)} {bs : List Byte} {a x : Nat} (h : x < a ∨ a + bs.length ≤ x) :
    Sparse.get zeroByte (Sparse.putAll zeroByte m (atAddrs a bs)) x = Sparse.get zeroByte m x := by
  induction bs generalizing a m with
  | nil => rfl
  | cons b r ih =>
    rw [List.length_cons] at h
    exact (ih (by omega)).trans (Sparse.get_put_ne _ _ _ (by omega))

theorem Sparse.get_putAll_in {m : List (Nat × Byte)} {bs : List Byte} {a i : Nat} (h : i < bs.length) :
    Sparse.get zeroByte (Sparse.putAll zeroByte m (atAddrs a bs)) (a + i) = bs[i] := by
  induction bs generalizing a i m with
  | nil => exact absurd h (Nat.not_lt_zero _)
  | cons b r ih =>
    cases i with
    | zero => exact (Sparse.get_putAll_out (.inl (Nat.lt_succ_self a))).trans (Sparse.get_put_self _ _ _ _)
    | succ i =>
      rw [show a + (i + 1) = a + 1 + i by omega]
      exact ih (Nat.lt_of_succ_lt_succ h)

variable {s t : State}

theorem State.byte_congr (h : t.dram = s.dram) (a : Nat) : t.byte a = s.byte a := by rw [State.byte, h, State.byte]

theorem State.byte_setBytes_out {a x : Nat} {bs : List Byte} (h : x < a ∨ a + bs.length ≤ x) : (s.setBytes a bs).byte x = s.byte x :=
  Sparse.get_putAll_out h

theorem State.bytes_setBytes_self (a : Nat) (bs : List Byte) : (s.setBytes a bs).bytes a bs.length = bs := by
  refine List.ext_getElem (by simp [State.bytes]) fun i _ hi => ?_
  simp only [State.bytes, List.getElem_map, List.getElem_range]
  exact Sparse.get_putAll_in hi

theorem State.bytes_congr {a n : Nat} (h : ∀ x, a ≤ x → x < a + n → t.byte x = s.byte x) : t.bytes a n = s.bytes a n :=
  List.map_congr_left fun i hi => h _ (by omega) (by have := List.mem_range.mp hi; omega)

/-! ### Berths -/

theorem State.berthBase_congr {n : Nat} (h : t.reg (Reg.FS_BERTH n) = s.reg (Reg.FS_BERTH n)) : t.berthBase n = s.berthBase n :=
  congrArg (· * 65536) (State.f_of_reg _ h)

/-- A berth's first byte stays where the berth table is in neither mask. -/
theorem Within.berthBase {M N b : Nat} (h : Within M N b s t) (hm : (M ||| N) &&& (1 <<< Part.FS_BERTH.ctorIdx ||| 0xc00000) = 0) (n : Nat) :
    t.berthBase n = s.berthBase n := State.berthBase_congr (h.keepReg .FS_BERTH n 0 rfl hm)

/-- A berth's header is 320 bytes: the manifest's 256 and the record's 64 (R187). -/
theorem State.byte_berthHeader_out {o : Occupant} {done : Bool} {a : Nat} (h : a < s.berthBase o.berth ∨ s.berthBase o.berth + 320 ≤ a) :
    (s.berthHeader o done).byte a = s.byte a := by
  refine State.byte_setBytes_out ?_
  have hm : (((List.range 32).map fun i => wordBytes (o.man.getD i 0)).flatten).length = 256 := by
    simp only [List.length_flatten, List.map_map, Function.comp_def, wordBytes_length]
    rfl
  simpa only [List.length_append, hm, wordBytes_length, List.length_replicate] using h

theorem State.byte_historyHeader_out {h : History} {seq cont lines : Nat} {done : Bool} {a : Nat}
    (ha : a < s.berthBase h.berth ∨ s.berthBase h.berth + 320 ≤ a) : (s.historyHeader h seq cont lines done).byte a = s.byte a := by
  refine State.byte_setBytes_out ?_
  simpa only [List.length_append, wordBytes_length, List.length_replicate] using ha

theorem State.settleBerth_dram (o : Occupant) : (s.settleBerth o).dram = s.dram :=
  (State.settleBerth_within (Foot.refl _ _ _) (Within.refl _ _ _ s)).dram rfl

/-- A line that its berth does not hold yet is stored at its place, besides which the header alone is written (R187). -/
theorem State.berthLine_bytes {o : Occupant} {idx : Nat} {codes bundles : List Nat} (hw : idx ∉ o.written) :
    let bs := packBytes (depthBits o.depth) codes
    let at' := s.berthBase o.berth + lineOffset o.width (depthBits o.depth) idx
    (s.berthLine o idx codes bundles).bytes at' bs.length = bs ∧ ∀ a, a < s.berthBase o.berth ∨ s.berthBase o.berth + 320 ≤ a →
      a < at' ∨ at' + bs.length ≤ a → (s.berthLine o idx codes bundles).byte a = s.byte a := by
  intro bs at'
  have hc : o.written.contains idx = false := by simpa using hw
  have hb : ∀ a, a < s.berthBase o.berth ∨ s.berthBase o.berth + 320 ≤ a →
      (s.berthLine o idx codes bundles).byte a = (s.setBytes at' bs).byte a := fun a ha => by
    simp only [State.berthLine, hc]
    exact (State.byte_congr (State.settleBerth_dram _) a).trans (State.byte_berthHeader_out ha)
  refine ⟨?_, fun a ha ho => (hb a ha).trans (State.byte_setBytes_out ho)⟩
  rw [State.bytes_congr fun x hx _ => hb x (.inr ?_), State.bytes_setBytes_self]
  have : 0x200 ≤ lineOffset o.width (depthBits o.depth) idx := Nat.le_add_right _ _
  omega

/-- The line is noted in its berth, which a frame that has not ended keeps (R196). -/
theorem State.berthLine_occ {o : Occupant} {idx : Nat} {codes bundles : List Nat} (ho : s.fs.occ = [o]) (he : o.ended = false)
    (hw : idx ∉ o.written) : ∃ x ∈ (s.berthLine o idx codes bundles).fs.occ, x.berth = o.berth ∧ idx ∈ x.written := by
  have hc : o.written.contains idx = false := by simpa using hw
  simp only [State.berthLine, hc, State.settleBerth, Occupant.complete, he, Bool.false_and, Bool.false_eq_true, if_false, State.setF_fs]
  simp [State.berthHeader, State.setOcc, State.setBytes, ho]

end Sys2Proof.Machine

/-! ## Lines on their way through the stages -/

namespace Sys2Proof.Machine

variable {s t u : State} {v : View} {p : Progress} {c i seq line : Nat} {late : Bool}

/-! ### What a line's way through the stages keeps -/

/-- Up to the lines that have left the stages, processing a line in state `s` has kept its way to `t`: what waits, who has released what, the places of
the histories and of the berths, a missed seam row once noted, and the bytes at the addresses `A`. -/
structure Stages (A : Nat → Prop) (s t : State) : Prop where
  lines : t.pipe.lines = s.pipe.lines
  waits : t.pipe.waits = s.pipe.waits
  progress : ∀ r ∈ s.pipe.progress, ∃ r' ∈ t.pipe.progress, r'.ctx = r.ctx ∧ r'.seq = r.seq ∧ r'.cont = r.cont ∧ r'.released = r.released
  history : ∀ h ∈ t.pipe.history, ∃ g ∈ s.pipe.history, g.ctx = h.ctx ∧ g.until' = h.until' ∧ g.berth = h.berth ∧ g.bits = h.bits
  bases : ∀ n, t.berthBase n = s.berthBase n
  missed : s.flag Reg.PIPE_STATUS Fld.PIPE_STATUS_SEAM_MISS = true → t.flag Reg.PIPE_STATUS Fld.PIPE_STATUS_SEAM_MISS = true
  bytes : ∀ a, A a → t.byte a = s.byte a

variable {A : Nat → Prop}

theorem Stages.refl (A : Nat → Prop) (s : State) : Stages A s s where
  lines := rfl
  waits := rfl
  progress := fun r hr => ⟨r, hr, rfl, rfl, rfl, rfl⟩
  history := fun h hh => ⟨h, hh, rfl, rfl, rfl, rfl⟩
  bases := fun _ => rfl
  missed := id
  bytes := fun _ _ => rfl

theorem Stages.trans (h : Stages A s t) (k : Stages A t u) : Stages A s u where
  lines := k.lines.trans h.lines
  waits := k.waits.trans h.waits
  progress := fun r hr => by
    obtain ⟨r1, h1, c1, q1, n1, l1⟩ := h.progress r hr
    obtain ⟨r2, h2, c2, q2, n2, l2⟩ := k.progress r1 h1
    exact ⟨r2, h2, c2.trans c1, q2.trans q1, n2.trans n1, l2.trans l1⟩
  history := fun g hg => by
    obtain ⟨g1, h1, c1, u1, b1, n1⟩ := k.history g hg
    obtain ⟨g2, h2, c2, u2, b2, n2⟩ := h.history g1 h1
    exact ⟨g2, h2, c2.trans c1, u2.trans u1, b2.trans b1, n2.trans n1⟩
  bases := fun n => (k.bases n).trans (h.bases n)
  missed := fun m => k.missed (h.missed m)
  bytes := fun a ha => (k.bytes a ha).trans (h.bytes a ha)

theorem Stages.foldl {α : Type} {f : State → α → State} {l : List α} (h : Stages A s t)
    (hf : ∀ t, Stages A s t → ∀ x ∈ l, Stages A s (f t x)) : Stages A s (l.foldl f t) :=
  List.foldlRecOn l f h hf

/-- A step that leaves the pipeline and the frame store alone, and the pipeline's flags but for what they have noted. -/
theorem Stages.of_registers (hp : t.pipe = s.pipe) (hd : t.dram = s.dram) (hb : ∀ n, t.berthBase n = s.berthBase n)
    (hm : s.flag Reg.PIPE_STATUS Fld.PIPE_STATUS_SEAM_MISS = true → t.flag Reg.PIPE_STATUS Fld.PIPE_STATUS_SEAM_MISS = true) : Stages A s t where
  lines := congrArg _ hp
  waits := congrArg _ hp
  progress := fun r hr => ⟨r, hp ▸ hr, rfl, rfl, rfl, rfl⟩
  history := fun h hh => ⟨h, hp ▸ hh, rfl, rfl, rfl, rfl⟩
  bases := hb
  missed := hm
  bytes := fun a _ => State.byte_congr hd a

/-- A step that notes a fact in a frame's progress. -/
theorem Stages.modProgress {f : Progress → Progress}
    (hf : ∀ q, (f q).ctx = q.ctx ∧ (f q).seq = q.seq ∧ (f q).cont = q.cont ∧ (f q).released = q.released) : Stages A s (s.modProgress p f) :=
  { Stages.refl A s with
    progress := fun r hr => by
      refine ⟨_, List.mem_map_of_mem hr, ?_⟩
      split
      · exact hf r
      · exact ⟨rfl, rfl, rfl, rfl⟩ }

/-! ### The counts and flags of a line -/

theorem histEcc_stages (slot : Nat) : Stages A s (s.histEcc v c i seq slot late) := by
  have w : Within 0x3000000000000000000000000000 0 0 s (s.histEcc v c i seq slot late) :=
    State.histEcc_within (Foot.refl _ _ _) (Within.refl _ _ _ s)
  exact .of_registers (w.pipe rfl) (w.dram rfl) (w.berthBase rfl) fun h => (State.flag_of_reg _ (w.keepReg .PIPE_STATUS 0 0 rfl rfl)).trans h

/-- Flags and counts of the pipeline other than SEAM_MISS. -/
theorem noteFlag_stages {f g : Field} {n : Nat} (hf : Fld.PIPE_STATUS_SEAM_MISS.lo + Fld.PIPE_STATUS_SEAM_MISS.width ≤ f.lo ∨
    f.lo + f.width ≤ Fld.PIPE_STATUS_SEAM_MISS.lo) : Stages A s ((s.setB Reg.PIPE_STATUS f true).satF Reg.PIPE_CNT g n) := by
  refine .of_registers rfl rfl (fun k => State.berthBase_congr ?_) fun h => ?_
  · rw [State.reg_satF_ne _ _ (Part.addr_ne (p := .PIPE_CNT) (q := .FS_BERTH) (i := 0) (j := 0) (i' := k) (j' := 0) (by decide) rfl rfl),
      State.reg_setB_ne _ _ (Part.addr_ne (p := .PIPE_STATUS) (q := .FS_BERTH) (i := 0) (j := 0) (i' := k) (j' := 0) (by decide) rfl rfl)]
  · rw [State.flag_of_reg _ (State.reg_satF_ne _ _ (by decide)), State.flag_setB_disjoint _ _ _ _ hf, h]

theorem noteHistMiss_stages (miss : Bool) : Stages A s (s.noteHistMiss p miss) := by
  unfold State.noteHistMiss
  split
  · exact (noteFlag_stages (by decide)).trans (.modProgress fun _ => ⟨rfl, rfl, rfl, rfl⟩)
  · exact .refl _ _

theorem noteUnrepaired_stages (n : Nat) : Stages A s (s.noteUnrepaired n) := by
  unfold State.noteUnrepaired
  split
  · exact .refl _ _
  · exact noteFlag_stages (by decide)

/-- R178: a missing seam row sets the flag. -/
theorem noteSeamMiss_flag : (s.noteSeamMiss p).flag Reg.PIPE_STATUS Fld.PIPE_STATUS_SEAM_MISS = true := by
  have hset : (s.setB Reg.PIPE_STATUS Fld.PIPE_STATUS_SEAM_MISS true).flag Reg.PIPE_STATUS Fld.PIPE_STATUS_SEAM_MISS = true :=
    State.flag_setB_self _ _ _ _ (by decide) rfl
  unfold State.noteSeamMiss
  dsimp only
  split
  · exact hset
  · exact (State.flag_of_reg _ (State.reg_satF_ne _ _ (by decide))).trans hset

/-- R178: a missing seam row marks the frame's progress. -/
theorem noteSeamMiss_pipe : (s.noteSeamMiss p).pipe = (s.modProgress p fun q => { q with seamMiss := true }).pipe := by
  unfold State.noteSeamMiss
  dsimp only
  split <;> rfl

theorem noteSeamMiss_stages : Stages A s (s.noteSeamMiss p) := by
  have w : Within 0x3000000000000000000000080 0 0 s (s.noteSeamMiss p) := State.noteSeamMiss_within (Foot.refl _ _ _) (Within.refl _ _ _ s)
  have marked : Stages A s (s.modProgress p fun q => { q with seamMiss := true }) := .modProgress fun _ => ⟨rfl, rfl, rfl, rfl⟩
  exact marked.trans (.of_registers noteSeamMiss_pipe (w.dram rfl) (w.berthBase rfl) fun _ => noteSeamMiss_flag)

/-! ### The history that a line leaves -/

/-- `a` lies outside the bytes that line `i` stores: its rows' histories, and with the frame's last line the records of the histories (R162, R187). -/
def OutsideHistory (v : View) (p : Progress) (i : Nat) (s : State) (a : Nat) : Prop :=
  ∀ h ∈ s.pipe.history, h.ctx = p.ctx → h.until' = none →
    (p.released.length + 1 = p.total v.st → a < s.berthBase h.berth ∨ s.berthBase h.berth + 320 ≤ a) ∧
      (v.st.on (Reg.CTX_CTL p.ctx) Fld.CTX_CTL_NR_T = true → ∀ y ∈ lineRows v.st v.colour p.ctx i,
        a < s.berthBase h.berth + lineOffset (ctxWin v.st h.ctx).w h.bits (y - (ctxWin v.st h.ctx).y0) ∨
          s.berthBase h.berth + lineOffset (ctxWin v.st h.ctx).w h.bits (y - (ctxWin v.st h.ctx).y0) +
            ceilDiv ((ctxWin v.st h.ctx).w * h.bits) 8 ≤ a)

/-- The stages move no history. -/
theorem Stages.outside {a : Nat} (h : Stages A s t) (ha : OutsideHistory v p i s a) : OutsideHistory v p i t a := by
  intro g hg hc hu
  obtain ⟨g', hg', ec, eu, eb, en⟩ := h.history g hg
  have := ha g' hg' (ec.trans hc) (eu.trans hu)
  rwa [← h.bases, eb, ec, en] at this

theorem newHistory_length {slot y : Nat} {hs : HistOf} : (v.newHistory c slot y hs).length = (ctxWin v.st c).w := by
  simp only [View.newHistory, List.length_map, List.length_range]

/-- Storing a row's history changes its bytes alone. -/
theorem writeHistory_stages {h : History} {y : Nat} {codes : List Nat} (hl : codes.length = (ctxWin v.st h.ctx).w)
    (hA : ∀ a, A a → a < s.berthBase h.berth + lineOffset (ctxWin v.st h.ctx).w h.bits (y - (ctxWin v.st h.ctx).y0) ∨
      s.berthBase h.berth + lineOffset (ctxWin v.st h.ctx).w h.bits (y - (ctxWin v.st h.ctx).y0) + ceilDiv ((ctxWin v.st h.ctx).w * h.bits) 8 ≤ a) :
    Stages A s (s.writeHistory v h y codes) :=
  { Stages.refl A s with
    history := fun g hg => by
      obtain ⟨g', hg', rfl⟩ := List.mem_map.mp hg
      refine ⟨g', hg', ?_⟩
      split <;> exact ⟨rfl, rfl, rfl, rfl⟩
    bytes := fun a ha => State.byte_setBytes_out (by rw [packBytes_length, hl]; exact hA a ha) }

/-- The history that a frame reads is one of its context. -/
theorem historyOf_mem {slot : Nat} {h : History} (hh : s.historyOf c slot seq = some h) : h ∈ s.pipe.history ∧ h.ctx = c := by
  obtain ⟨hm, hp⟩ := List.mem_filter.mp (List.mem_of_getLast? hh)
  simp only [Bool.and_eq_true, beq_iff_eq] at hp
  exact ⟨hm, hp.1.1.1⟩

theorem noteHistory_stages {hist : Nat → HistOf} (hA : ∀ a, A a → OutsideHistory v p i s a) :
    Stages A s (s.noteHistory v p.ctx i seq hist) := by
  unfold State.noteHistory
  split
  case isFalse => exact .refl _ _
  case isTrue hn =>
  refine (Stages.refl A s).foldl fun t ht slot _ => ?_
  split
  case h_2 => exact ht
  case h_1 h hh =>
  obtain ⟨hm, hc⟩ := historyOf_mem hh
  split
  case isFalse => exact ht
  case isTrue hu =>
  refine ht.foldl fun u hsu y hy => hsu.trans (writeHistory_stages (by rw [hc]; exact newHistory_length) fun a ha => ?_)
  obtain ⟨_, hrows⟩ := ht.outside (hA a ha) h hm hc (Option.isNone_iff_eq_none.mp hu)
  rw [hsu.bases, ← ht.bases]
  exact hrows hn y hy

/-- With the last line of a frame the records of its context's histories are written (R187). -/
theorem commitHistory_stages
    (hA : ∀ a, A a → ∀ h ∈ s.pipe.history, h.ctx = c → h.until' = none → a < s.berthBase h.berth ∨ s.berthBase h.berth + 320 ≤ a) :
    Stages A s (s.commitHistory v c) := by
  have headers : ∀ l : List History, (∀ h ∈ l, h ∈ s.pipe.history ∧ h.ctx = c ∧ h.until' = none) →
      Stages A s (l.foldl (fun s h => s.historyHeader h v.pass.seq v.pass.cont (ctxWin v.st c).h true) s) := fun l hl => by
    refine (Stages.refl A s).foldl fun t ht h hh => ht.trans { Stages.refl A t with bytes := fun a ha => ?_ }
    obtain ⟨hm, hc, hu⟩ := hl h hh
    refine State.byte_historyHeader_out ?_
    rw [ht.bases]
    exact hA a ha h hm hc hu
  refine (headers _ fun h hh => ?_).trans { Stages.refl A _ with history := fun g hg => ?_ }
  · obtain ⟨hm, hp⟩ := List.mem_filter.mp hh
    simp only [Bool.and_eq_true, beq_iff_eq, Option.isNone_iff_eq_none] at hp
    exact ⟨hm, hp.1.1, hp.2⟩
  · obtain ⟨g', hg', rfl⟩ := List.mem_map.mp hg
    refine ⟨g', hg', ?_⟩
    split <;> exact ⟨rfl, rfl, rfl, rfl⟩

/-! ### A whole line -/

/-- What a line's way through the stages notes before it is queued: counts, flags and histories. -/
def State.lineNoted (s : State) (v : View) (p : Progress) (line : Nat) (late : Bool) : State :=
  let i := line % max 1 (outHeight v.st p.ctx)
  let miss := late && v.st.on (Reg.CTX_CTL p.ctx) Fld.CTX_CTL_NR_T && [0, 1].any fun k => (s.historyOf p.ctx k p.seq).any (·.valid)
  let hist := fun slot => s.histFor v p.ctx i p.seq slot late
  let out := v.outLine p.ctx i (hist 0) (hist 1)
  ((([0, 1].foldl (fun s k => s.histEcc v p.ctx i p.seq k late) s).noteHistMiss p miss).noteUnrepaired out.2).noteHistory v p.ctx i p.seq hist

/-- The line as it leaves the stages. -/
def State.lineOut (s : State) (v : View) (p : Progress) (line : Nat) (late : Bool) : Line :=
  let i := line % max 1 (outHeight v.st p.ctx)
  { ctx := p.ctx, seq := p.seq, cont := p.cont, idx := line, depth := v.st.fld (Reg.CTX_CTL p.ctx) Fld.CTX_CTL_DEPTH,
    codes := (v.outLine p.ctx i (s.histFor v p.ctx i p.seq 0 late) (s.histFor v p.ctx i p.seq 1 late)).1,
    parts := (lineParts v.st p.ctx).map fun k => (k, v.partReady p.ctx i (v.releaseAt p.ctx line) k), outAt := v.releaseAt p.ctx line }

/-- A line leaves the stages: it is released, no longer waits, and counts in the statistics. -/
def State.lineQueued (s : State) (v : View) (p : Progress) (l : Line) (restart : Bool) : State :=
  let s := s.modProgress p fun q => { q with released := q.released ++ [l.idx], restart := q.restart || restart }
  { s with
    pipe := { s.pipe with
      waits := s.pipe.waits.filter fun w => !(w.ctx == p.ctx && w.seq == p.seq && w.cont == p.cont && w.line == l.idx)
      lines := s.pipe.lines ++ [l]
      stats := s.pipe.stats.map fun a => if a.ctx == p.ctx && a.seq == p.seq && a.cont == p.cont then a.addCodes (outBits v.st p.ctx) l.codes else a } }

theorem State.processLine_eq (s : State) (v : View) (p : Progress) (line : Nat) (late : Bool) :
    s.processLine v p line late =
      let t := (s.lineNoted v p line late).lineQueued v p (s.lineOut v p line late) (s.histRestarts v p)
      if p.released.length + 1 = p.total v.st then t.commitHistory v p.ctx else t := rfl

theorem lineNoted_stages (hA : ∀ a, A a → OutsideHistory v p (line % max 1 (outHeight v.st p.ctx)) s a) :
    Stages A s (s.lineNoted v p line late) := by
  refine have h : Stages A s _ := ?_; h.trans (noteHistory_stages fun a ha => h.outside (hA a ha))
  refine Stages.trans (Stages.trans ?_ (noteHistMiss_stages _)) (noteUnrepaired_stages _)
  exact (Stages.refl A s).foldl fun t ht k _ => ht.trans (histEcc_stages k)

/-- R27, R155, R175: a processed line is queued and counts as released; its history and the last line's records are all that it stores. -/
structure Released (A : Nat → Prop) (p : Progress) (l : Line) (s u : State) : Prop where
  lines : u.pipe.lines = s.pipe.lines ++ [l]
  waits : ∀ w ∈ u.pipe.waits, w ∈ s.pipe.waits
  progress : ∀ q ∈ s.pipe.progress, q.ctx = p.ctx → q.seq = p.seq → q.cont = p.cont →
    ∃ r ∈ u.pipe.progress, r.ctx = p.ctx ∧ r.seq = p.seq ∧ r.cont = p.cont ∧ l.idx ∈ r.released
  missed : s.flag Reg.PIPE_STATUS Fld.PIPE_STATUS_SEAM_MISS = true → u.flag Reg.PIPE_STATUS Fld.PIPE_STATUS_SEAM_MISS = true
  bytes : ∀ a, A a → u.byte a = s.byte a

variable {l : Line}

theorem lineQueued_released (l : Line) (restart : Bool) : Released A p l s (s.lineQueued v p l restart) where
  lines := rfl
  waits := fun _ hw => (List.mem_filter.mp hw).1
  progress := fun q hq hc hs hn => ⟨_, List.mem_map_of_mem hq, by simp [hc, hs, hn]⟩
  missed := id
  bytes := fun _ _ => rfl

theorem Stages.released (h : Stages A s t) (k : Released A p l t u) : Released A p l s u where
  lines := by rw [k.lines, h.lines]
  waits := fun w hw => h.waits ▸ k.waits w hw
  progress := fun q hq hc hs hn => by
    obtain ⟨r, hr, rc, rs, rn, -⟩ := h.progress q hq
    exact k.progress r hr (rc.trans hc) (rs.trans hs) (rn.trans hn)
  missed := fun m => k.missed (h.missed m)
  bytes := fun a ha => (k.bytes a ha).trans (h.bytes a ha)

theorem Released.stages (k : Released A p l s t) (h : Stages A t u) : Released A p l s u where
  lines := by rw [h.lines, k.lines]
  waits := fun w hw => k.waits w (h.waits ▸ hw)
  progress := fun q hq hc hs hn => by
    obtain ⟨r, hr, rc, rs, rn, hl⟩ := k.progress q hq hc hs hn
    obtain ⟨r', hr', ec, es, en, el⟩ := h.progress r hr
    exact ⟨r', hr', ec.trans rc, es.trans rs, en.trans rn, el ▸ hl⟩
  missed := fun m => h.missed (k.missed m)
  bytes := fun a ha => (h.bytes a ha).trans (k.bytes a ha)

theorem processLine_released (hA : ∀ a, A a → OutsideHistory v p (line % max 1 (outHeight v.st p.ctx)) s a) :
    Released A p (s.lineOut v p line late) s (s.processLine v p line late) := by
  have noted := lineNoted_stages (late := late) hA
  have queued := noted.released (lineQueued_released (v := v) (p := p) (s.lineOut v p line late) (s.histRestarts v p))
  rw [State.processLine_eq]
  dsimp only
  split
  case isFalse => exact queued
  case isTrue hlast => exact queued.stages (commitHistory_stages fun a ha h hm hc hu => (noted.outside (hA a ha) h hm hc hu).1 hlast)

/-! ### LINE_RELEASE and SEAM_WAIT_TIMEOUT -/

/-- The frame whose line is to release is under way in that context (R27). -/
theorem lineOf_progress {q : Pass} (h : s.lineOf c line = some (p, q)) : p ∈ s.pipe.progress ∧ p.ctx = c := by
  unfold State.lineOf at h
  split at h
  · cases h
  next p' hp =>
    split at h
    · cases h
    · obtain ⟨q', -, he⟩ := Option.map_eq_some_iff.mp h
      cases he
      have := List.find?_some hp
      simp only [Bool.and_eq_true, beq_iff_eq] at this
      exact ⟨List.mem_of_find?_eq_some hp, this.1.1.1⟩

/-- R139: a line that is due is processed, where no seam row that it needs is missing. -/
theorem releaseLine_due {q : Pass} (h : s.lineOf c line = some (p, q)) (hr : s.lineReady (s.view q) p line ((s.view q).releaseAt c line) = true)
    (hm : (s.view q).seamMissing c (line % max 1 (outHeight (s.view q).st c)) = false) :
    s.releaseLine c line late = s.processLine (s.view q) p line late := by
  simp only [State.releaseLine, h, hr, hm, Bool.not_true, Bool.false_eq_true, if_false]

/-- R304: a line that is due waits for the seam rows that are missing. -/
theorem releaseLine_missing {q : Pass} (h : s.lineOf c line = some (p, q))
    (hr : s.lineReady (s.view q) p line ((s.view q).releaseAt c line) = true)
    (hm : (s.view q).seamMissing c (line % max 1 (outHeight (s.view q).st c)) = true) (hw : s.pipe.waits = []) :
    s.releaseLine c line late = { s with pipe := { s.pipe with waits := [⟨c, p.seq, p.cont, line, (s.view q).releaseAt c line⟩] } } := by
  simp only [State.releaseLine, h, hr, hm, hw, Bool.not_true, Bool.false_eq_true, if_false, if_true, List.any_nil, List.nil_append]

/-- The errors that words of the frame store have taken change neither its bytes nor what the stages make of a line. -/
theorem upset_stages (ws : List (Nat × Bool)) : Stages A s (s.upset ws) := { Stages.refl A s with }

theorem lineOut_upset (ws : List (Nat × Bool)) : (s.upset ws).lineOut v p line late = s.lineOut v p line late := rfl

theorem OutsideHistory.upset {a : Nat} (ws : List (Nat × Bool)) (h : OutsideHistory v p i s a) : OutsideHistory v p i (s.upset ws) a := h

/-- A command that comes to one function of the stripes and the frame store, which work. -/
theorem Runs.onStripes {x : Instr} {H : State → Prop} {P : State → State → Prop} (m : State → State)
    (he : ∀ s : State, exec x s = .next ((s.advance (cmdTime x)).onStripes m)) (h : ∀ s, H s → s.stripesWork ∧ P s (m s)) : Runs x H P :=
  Runs.of (fun s => s.onStripes m) he fun s hs => by
    rw [State.onStripes_of (h s hs).1]
    exact (h s hs).2

/-- What LINE_RELEASE does with a line that is due and misses no seam row. -/
theorem lineRelease_released {q : Pass} (ws : List (Nat × Bool)) (h : s.lineOf c line = some (p, q))
    (hr : s.lineReady (s.view q) p line ((s.view q).releaseAt c line) = true)
    (hm : (s.view q).seamMissing c (line % max 1 (outHeight (s.view q).st c)) = false) :
    Released (OutsideHistory (s.view q) p (line % max 1 (outHeight (s.view q).st c)) s) p (s.lineOut (s.view q) p line late) s
      ((s.upset ws).releaseLine c line late) := by
  obtain ⟨-, rfl⟩ := lineOf_progress h
  rw [releaseLine_due (s := s.upset ws) h hr hm, ← lineOut_upset ws]
  exact (upset_stages ws).released (processLine_released fun a ha => ha.upset ws)

/-- A line no longer waits for its seam rows. -/
def State.waitEnded (s : State) (w : SeamWait) : State :=
  { s with pipe := { s.pipe with waits := s.pipe.waits.filter fun y => !(decide (y = w)) } }

theorem waitEnded_gone (w : SeamWait) : w ∉ (s.waitEnded w).pipe.waits := by simp [State.waitEnded]

/-- R304: the line that has waited for 3,000 ns goes on; where a seam row still is missing, that is noted first. -/
theorem seamTimeout_due {w : SeamWait} {q : Pass} (hf : s.pipe.waits.find? (fun w => decide (w.at' + 3000 ≤ s.clock.tt)) = some w)
    (h : s.lineOf w.ctx w.line = some (p, q)) :
    ∃ x, s.seamTimeout = x.processLine (s.view q) p w.line false ∧ (∀ A, Stages A (s.waitEnded w) x) ∧
      ((s.view q).seamMissing w.ctx (w.line % max 1 (outHeight (s.view q).st w.ctx)) = true →
        x.flag Reg.PIPE_STATUS Fld.PIPE_STATUS_SEAM_MISS = true) := by
  have hl : (s.waitEnded w).lineOf w.ctx w.line = some (p, q) := h
  unfold State.waitEnded at hl
  simp only [State.seamTimeout, hf, hl]
  split
  case isTrue => exact ⟨(s.waitEnded w).noteSeamMiss p, rfl, fun _ => noteSeamMiss_stages, fun _ => noteSeamMiss_flag⟩
  case isFalse hm => exact ⟨s.waitEnded w, rfl, fun _ => .refl _ _, fun e => absurd e hm⟩

/-- What SEAM_WAIT_TIMEOUT does with the line that has waited for 3,000 ns. -/
theorem seamTimeout_released {w : SeamWait} {q : Pass} (hf : s.pipe.waits.find? (fun w => decide (w.at' + 3000 ≤ s.clock.tt)) = some w)
    (h : s.lineOf w.ctx w.line = some (p, q)) :
    w ∉ s.seamTimeout.pipe.waits ∧
      (∃ l : Line, s.seamTimeout.pipe.lines = s.pipe.lines ++ [l] ∧ l.ctx = w.ctx ∧ l.idx = w.line) ∧
      ((s.view q).seamMissing w.ctx (w.line % max 1 (outHeight (s.view q).st w.ctx)) = true →
        s.seamTimeout.flag Reg.PIPE_STATUS Fld.PIPE_STATUS_SEAM_MISS = true) ∧
      ∀ a, OutsideHistory (s.view q) p (w.line % max 1 (outHeight (s.view q).st w.ctx)) s a → s.seamTimeout.byte a = s.byte a := by
  obtain ⟨-, hc⟩ := lineOf_progress h
  obtain ⟨x, hx, noted, hmiss⟩ := seamTimeout_due hf h
  rw [hx, ← hc]
  have processed : Released (OutsideHistory (s.view q) p (w.line % max 1 (outHeight (s.view q).st p.ctx)) s) p _ x _ :=
    processLine_released (late := false) fun a ha => (noted fun _ => False).outside ha
  have released := (noted _).released processed
  exact ⟨fun hw => waitEnded_gone w (released.waits w hw), ⟨_, released.lines, rfl, rfl⟩,
    fun hm => processed.missed (hmiss (hc ▸ hm)), released.bytes⟩

end Sys2Proof.Machine

/-! ## Lines on their way out of the stripes -/

namespace Sys2Proof.Machine

variable {s t u : State} {b : Nat}

/-! ### Bundles -/

theorem getElem?_modifyAt {α : Type} (f : α → α) (n : Nat) (l : List α) : (modifyAt f n l)[n]? = l[n]?.map f := by
  induction l generalizing n with
  | nil => cases n <;> rfl
  | cons a r ih => cases n with
    | zero => rfl
    | succ n => exact ih n

theorem State.bun_modBun_self (f : Bundle → Bundle) (h : b < s.eg.length) : (s.modBun b f).bun b = f (s.bun b) := by
  simp only [State.bun, State.modBun, List.getD_eq_getElem?_getD, getElem?_modifyAt, List.getElem?_eq_getElem h, Option.map_some, Option.getD_some]

/-- A bundle is changed, or as before. -/
theorem State.bun_modBun_or (f : Bundle → Bundle) (b c : Nat) : (s.modBun b f).bun c = s.bun c ∨ (s.modBun b f).bun c = f (s.bun c) := by
  by_cases hc : c = b ∧ b < s.eg.length
  · obtain ⟨rfl, hb⟩ := hc
    exact .inr (State.bun_modBun_self f hb)
  · left
    simp only [State.bun, State.modBun, List.getD_eq_getElem?_getD]
    by_cases h : c = b
    · have hb : s.eg[c]? = none := List.getElem?_eq_none (by omega)
      rw [← h, getElem?_modifyAt, hb, Option.map_none]
    · rw [get_modifyAt_ne f _ h]

/-! ### What the framing of a frame keeps -/

/-- From `s` to `t` no line has entered or left the stripes, and what stood in a landing still stands there in front. -/
structure Forward (s t : State) : Prop where
  lines : t.pipe.lines = s.pipe.lines
  landing : ∀ b, (s.bun b).landing <+: (t.bun b).landing

theorem Forward.refl (s : State) : Forward s s := ⟨rfl, fun _ => List.prefix_rfl⟩

/-- A step that leaves the lines and the bundles alone. -/
theorem Forward.keep (h : Forward s t) (hp : u.pipe.lines = t.pipe.lines) (he : u.eg = t.eg) : Forward s u :=
  ⟨hp.trans h.lines, fun b => by
    have hb : u.bun b = t.bun b := by rw [State.bun, he, State.bun]
    rw [hb]
    exact h.landing b⟩

theorem Forward.within {M N i : Nat} (h : Forward s t) (w : Within M N i t u) (h7 : M.testBit 7 = false := by rfl)
    (h11 : (M ||| N).testBit 11 = false := by rfl) : Forward s u := by
  rw [Nat.testBit_or, Bool.or_eq_false_iff] at h11
  exact h.keep (congrArg _ (w.pipe h7)) (w.eg h11.1 h11.2)

theorem Forward.ite {p : Prop} [Decidable p] (h : Forward s t) (k : Forward s u) : Forward s (if p then t else u) := by split <;> assumption

theorem Forward.foldl {α : Type} {f : State → α → State} {l : List α} (h : Forward s t) (hf : ∀ t x, Forward s t → Forward s (f t x)) :
    Forward s (l.foldl f t) := List.foldlRecOn l f h fun t ht x _ => hf t x ht

/-- A bundle changes, and its landing at most grows at its end. -/
theorem Forward.modBun {f : Bundle → Bundle} (h : Forward s t) (hf : ∀ x, x.landing <+: (f x).landing) : Forward s (t.modBun b f) where
  lines := h.lines
  landing := fun c => (h.landing c).trans (by
    rcases State.bun_modBun_or (s := t) f b c with e | e
    · rw [e]
    · rw [e]; exact hf _)

variable {p : Progress} {q : Packet} {ps : List Packet} {st : RegFile} {c seq cont reason mask : Nat} {burst : Bool} {man : List Word}

/-! ### Packets and gap notices -/

theorem Forward.toLanding (h : Forward s t) : Forward s (t.toLanding b q) := h.modBun fun _ => List.prefix_append _ _

theorem Forward.toLandings (h : Forward s t) : Forward s (t.toLandings b ps) := h.foldl fun _ _ => .toLanding

theorem Forward.toFord (h : Forward s t) : Forward s (t.toFord b q) := .ite (h.modBun fun _ => List.prefix_rfl) h

theorem Forward.fordLine (h : Forward s t) : Forward s (t.fordLine b ps) :=
  .ite (h.foldl fun _ _ => .toFord) (h.within (State.discardP_within (Foot.refl _ _ _) (Within.refl _ _ _ _)))

theorem Forward.stallFor (h : Forward s t) : Forward s (t.stallFor b ps) := by
  unfold State.stallFor State.noteStall
  refine .ite h (.ite (h.modBun fun x => ?_) h)
  split <;> exact List.prefix_rfl

theorem Forward.sendGap (h : Forward s t) : Forward s (t.sendGap st c seq cont reason b) :=
  .ite h (.ite (.ite (h.modBun fun _ => List.prefix_rfl) h) (.ite (h.keep rfl rfl) h.toLanding))

theorem Forward.sendGaps (h : Forward s t) : Forward s (t.sendGaps st c seq cont reason mask) := h.foldl fun _ _ => .sendGap

/-! ### Drops and claims -/

theorem Forward.dropBerth {o : Occupant} (h : Forward s t) : Forward s (t.dropBerth o) :=
  h.within (State.dropBerth_within (Foot.refl _ _ _) (Within.refl _ _ _ _))

theorem Forward.dropFrame (h : Forward s t) : Forward s (t.dropFrame st c seq cont reason) := by
  unfold State.dropFrame
  refine .ite h ?_
  dsimp only
  split
  · exact Forward.sendGaps (.foldl (h.keep rfl rfl) fun _ _ => .dropBerth)
  · refine .ite (Forward.sendGaps (.foldl (h.keep rfl rfl) fun _ _ => .dropBerth)) (.foldl (h.keep rfl rfl) fun _ _ k => k.keep rfl rfl)

theorem Forward.dropOldest (h : Forward s t) (hd : t.dropOldest c seq cont = some u) : Forward s u := by
  unfold State.dropOldest at hd
  split at hd
  · cases hd
  · split at hd
    · cases hd
      exact h.within (State.freeBerth_within (Foot.refl _ _ _) (Within.refl _ _ _ _))
    · cases hd
      exact h.dropFrame

theorem Forward.takeBerth {o : Occupant} {n : Nat} (h : Forward s t) : Forward s (t.takeBerth o n) :=
  h.within (State.takeBerth_within (Foot.refl _ _ _) (Within.refl _ _ _ _))

theorem Forward.claimNew (n : Nat) (h : Forward s t) : Forward s (t.claimNew st c seq cont burst man n).1 := by
  induction n generalizing t with
  | zero => exact h.dropFrame
  | succ n ih =>
    have hc : Forward s (t.setB Reg.FS_STATUS Fld.FS_STATUS_CLAIM_FAIL true) := h.keep rfl rfl
    unfold State.claimNew
    split
    · exact h.takeBerth
    · dsimp only
      split
      · split
        · exact hc.dropFrame
        · next hd => exact ih (hc.dropOldest hd)
      · exact hc.dropFrame

theorem Forward.claim (h : Forward s t) : Forward s (t.claim st c seq cont burst man).1 := by
  unfold State.claim
  split
  · split
    · exact h.keep rfl rfl
    · exact h
  · exact h.claimNew _

theorem Forward.claimed {x : Bool} (h : Forward s t) (e : t.claim st c seq cont burst man = (u, x)) : Forward s u := by
  have hc := h.claim (st := st) (c := c) (seq := seq) (cont := cont) (burst := burst) (man := man)
  rwa [e] at hc

theorem Forward.claimMirror (h : Forward s t) : Forward s (t.claimMirror p) := by
  unfold State.claimMirror
  dsimp only
  split
  · exact Forward.takeBerth (h.keep rfl rfl)
  · exact h.keep rfl rfl

/-! ### Lines and framing packets -/

variable {l : Line} {o : Occupant} {idx : Nat} {codes bundles : List Nat} {f : Occupant → Occupant}

theorem Forward.berthLine (h : Forward s t) : Forward s (t.berthLine o idx codes bundles) :=
  h.within (State.berthLine_within (Foot.refl _ _ _) (Within.refl _ _ _ _))

/-- The berth of an occupant takes note of it: its entry, its header and its state. -/
theorem Forward.settled {done : Bool} (h : Forward s t) : Forward s (((t.setOcc o).berthHeader o done).settleBerth o) :=
  Forward.within (t := (t.setOcc o).berthHeader o done) (h.keep rfl rfl) (State.settleBerth_within (Foot.refl _ _ _) (Within.refl _ _ _ _))

theorem Forward.owe (h : Forward s t) : Forward s (t.owe p b man f) := by
  unfold State.owe
  split
  · next e => exact h.claimed e
  · next e =>
    split
    · exact h.claimed e
    · exact (h.claimed e).settled

theorem Forward.queueFs (h : Forward s t) : Forward s (t.queueFs p b) := .ite h (.ite h.toFord (.ite h.stallFor.owe h.toLanding))

theorem Forward.queueFe (h : Forward s t) : Forward s (t.queueFe p man b) := .ite h (.ite h.toFord (.ite h.stallFor.owe h.toLanding))

theorem Forward.placePart (h : Forward s t) : Forward s (t.placePart p l b) := by
  unfold State.placePart
  refine .ite h (.ite h.fordLine (.ite ?_ h.toLandings))
  split
  · next e => exact h.stallFor.claimed e
  · next e =>
    split
    · exact h.stallFor.claimed e
    · exact (h.stallFor.claimed e).berthLine

theorem Forward.placeLine {k : Nat} (h : Forward s t) : Forward s (t.placeLine p l k) :=
  .ite (h.within (State.previewLine_within (Foot.refl _ _ _) (Within.refl _ _ _ _))) (h.foldl fun _ _ => .placePart)

theorem Forward.mirrorLine (h : Forward s t) : Forward s (t.mirrorLine p l) := by
  unfold State.mirrorLine
  refine .ite ?_ h
  dsimp only
  split
  · exact .ite h h.claimMirror
  · exact Forward.berthLine (.ite h h.claimMirror)

/-! ### The end of a frame -/

theorem Forward.endBerths (h : Forward s t) : Forward s (t.endBerths p man) := h.foldl fun _ _ => .settled

theorem Forward.modProgress {g : Progress → Progress} (h : Forward s t) : Forward s (t.modProgress p g) := h.keep rfl rfl

theorem Forward.previewEnd (h : Forward s t) : Forward s (t.previewEnd p man) :=
  h.within (State.previewEnd_within (Foot.refl _ _ _) (Within.refl _ _ _ _))

theorem Forward.endContext (h : Forward s t) : Forward s (t.endContext p) := by
  have marked : Forward s (t.modProgress p fun q => { q with ended := true }) := h.modProgress
  have queued := Forward.endBerths (p := p) (man := p.man)
    (marked.foldl (l := maskBundles (frameMask p.fixed p.ctx)) (f := fun s b => s.queueFe p p.man b) fun _ _ => .queueFe)
  exact .ite marked.previewEnd.endBerths (.ite (queued.keep rfl rfl) queued)

theorem Forward.queueStarts (h : Forward s t) : Forward s t.queueStarts :=
  h.foldl fun _ _ k => Forward.foldl (k.keep rfl rfl) fun _ _ => .queueFs

theorem Forward.endDone (h : Forward s t) : Forward s t.endDone := by
  unfold State.endDone
  refine Forward.keep (Forward.foldl h.queueStarts fun t p k => ?_) rfl rfl
  split
  · exact .ite k.endContext.queueStarts k
  · exact k

end Sys2Proof.Machine

/-! ## Lines into landings and berths -/

namespace Sys2Proof.Machine

variable {s t : State} {l : Line} {k : Nat × Nat} {p : Progress} {o : Occupant} {b : Nat} {ps : List Packet}

/-! ### The part that leaves -/

/-- A part of a line leaves its stripes; with its last part the line has left (R159). -/
def State.partLeft (s : State) (l : Line) (k : Nat × Nat) : State :=
  let l' : Line := { l with parts := l.parts.erase k }
  { s with
    pipe := { s.pipe with
      lines := if l'.parts.isEmpty then s.pipe.lines.erase l else s.pipe.lines.map fun m => if decide (m = l) then l' else m } }

/-- What follows once a line's last part has left: its mirror copy, and the end of its frame if it was the last line (R158, R189). -/
def State.lineThrough (s : State) (p : Progress) (l : Line) : State :=
  ((s.mirrorLine p l).modProgress p fun q => { q with entered := q.entered + 1 }).endDone

/-- The one frame under way is that of the line `l`; it is neither dropped nor cut, and goes to bundles (R133, R238). -/
structure Flows (s : State) (l : Line) (p : Progress) : Prop where
  progress : s.pipe.progress = [p]
  ctx : p.ctx = l.ctx
  seq : p.seq = l.seq
  cont : p.cont = l.cont
  dropped : p.dropped = false
  cut : p.cut = false
  kind : p.fixed.fld (Reg.CTX_DEST l.ctx) Fld.CTX_DEST_KIND ≠ 1

theorem progressOf_self (hp : s.pipe.progress = [p]) : s.progressOf p.ctx p.seq p.cont = some p := by
  simp [State.progressOf, hp]

theorem Flows.progressOf (h : Flows s l p) : s.progressOf l.ctx l.seq l.cont = some p := by
  rw [← h.ctx, ← h.seq, ← h.cont]
  exact progressOf_self h.progress

theorem canEnter_of_nextPart (h : s.nextPart = some (l, k)) : s.canEnter l k = true := by
  obtain ⟨m, -, hm⟩ := List.exists_of_findSome?_eq_some h
  obtain ⟨j, hj, he⟩ := Option.map_eq_some_iff.mp hm
  cases he
  exact List.find?_some hj

/-- R238: no line of a frame leaves before its FS is queued. -/
theorem Flows.fsDone (h : Flows s l p) (hn : s.nextPart = some (l, k)) : p.fsDone = true := by
  have hc := canEnter_of_nextPart hn
  have hk : (p.fixed.fld (Reg.CTX_DEST l.ctx) Fld.CTX_DEST_KIND == 1) = false := by simpa using h.kind
  simp only [State.canEnter, h.progressOf, h.dropped, h.cut, hk, Bool.or_false, Bool.false_or, Bool.and_eq_true] at hc
  exact hc.2.1

theorem enterLanding_none (hn : s.nextPart = some (l, k)) (hp : s.progressOf l.ctx l.seq l.cont = none) : s.enterLanding = s.partLeft l k := by
  have h : (s.partLeft l k).progressOf l.ctx l.seq l.cont = none := hp
  unfold State.partLeft at h ⊢
  simp only [State.enterLanding, hn, h]

theorem enterLanding_some (hn : s.nextPart = some (l, k)) (hp : s.progressOf l.ctx l.seq l.cont = some p) :
    s.enterLanding =
      let t := if p.dropped || p.cut then s.partLeft l k else (s.partLeft l k).placeLine p l k.1
      if (l.parts.erase k).isEmpty then t.lineThrough p l else t := by
  have h : (s.partLeft l k).progressOf l.ctx l.seq l.cont = some p := hp
  unfold State.partLeft at h ⊢
  simp only [State.enterLanding, State.lineThrough, hn, h]

theorem enterLanding_forward (hn : s.nextPart = some (l, k)) : Forward (s.partLeft l k) s.enterLanding := by
  have start := Forward.refl (s.partLeft l k)
  cases hp : s.progressOf l.ctx l.seq l.cont with
  | none => rwa [enterLanding_none hn hp]
  | some p =>
    have placed := start.ite (p := (p.dropped || p.cut) = true) (start.placeLine (p := p) (l := l) (k := k.1))
    rw [enterLanding_some hn hp]
    exact .ite placed.mirrorLine.modProgress.endDone placed

theorem Flows.enterLanding (h : Flows s l p) (hn : s.nextPart = some (l, k)) :
    s.enterLanding = let t := (s.partLeft l k).placeLine p l k.1; if (l.parts.erase k).isEmpty then t.lineThrough p l else t := by
  rw [enterLanding_some hn h.progressOf]
  simp only [h.dropped, h.cut, Bool.or_self, Bool.false_eq_true, if_false]

/-! ### A line with nothing after it -/

/-- Where the only frame has its FS behind it and waits for its manifest, no frame ends and none starts. -/
theorem endDone_idle (hp : s.pipe.progress = [p]) (hf : p.fsDone = true) (hm : p.man = []) : s.endDone = s.pruneProgress := by
  have hs : s.queueStarts = s := by simp [State.queueStarts, State.fsReady, hp, hf]
  have ht : p.through = false := by simp [Progress.through, hm]
  simp only [State.endDone, hs, hp, List.foldl_cons, List.foldl_nil, progressOf_self hp, ht, Bool.false_eq_true, if_false]

/-- The last part of a line of a frame that is not mirrored and has no manifest yet changes nothing but its count (R176). -/
theorem lineThrough_idle (hp : s.pipe.progress = [p]) (hf : p.fsDone = true) (hm : p.man = []) (hx : mirrored p.fixed l.ctx = false) :
    (s.lineThrough p l).fs = s.fs ∧ (s.lineThrough p l).dram = s.dram := by
  have hl : s.mirrorLine p l = s := by simp [State.mirrorLine, hx]
  have hq : (s.modProgress p fun q => { q with entered := q.entered + 1 }).pipe.progress = [{ p with entered := p.entered + 1 }] := by
    simp [State.modProgress, hp]
  rw [State.lineThrough, hl, endDone_idle hq hf hm]
  exact ⟨rfl, rfl⟩

/-! ### Where the part goes -/

/-- The packets of a line's part on bundle `b`. -/
def partPackets (p : Progress) (l : Line) (b : Nat) : List Packet :=
  linePackets (framePacket p.fixed l.ctx l.seq l.cont b 2) (depthBits l.depth) l.idx (partOf p.fixed l.ctx b).1
    ((l.codes.drop (partOf p.fixed l.ctx b).1).take (partOf p.fixed l.ctx b).2)

/-- A frame of which one bundle carries every line, and which has no mirror copy (R133, R189). -/
structure OneBundle (p : Progress) (l : Line) (b : Nat) : Prop where
  cls : p.fixed.fld (Reg.CTX_CTL l.ctx) Fld.CTX_CTL_CLASS ≠ 1
  bundles : maskBundles (frameMask p.fixed l.ctx) = [b]
  mirror : mirrored p.fixed l.ctx = false

/-- The one berth in use is that of a line's frame, still fills, and does not hold the line yet (R187, R192). -/
structure OpenBerth (s : State) (l : Line) (o : Occupant) : Prop where
  occ : s.fs.occ = [o]
  ctx : o.ctx = l.ctx
  seq : o.seq = l.seq
  cont : o.cont = l.cont
  mirror : o.mirror = false
  ended : o.ended = false
  gone : o.gone = false
  fills : s.berthState o.berth = 1
  unwritten : l.idx ∉ o.written

theorem Flows.partLeft (h : Flows s l p) : Flows (s.partLeft l k) l p := { h with }

theorem OpenBerth.partLeft (h : OpenBerth s l o) : OpenBerth (s.partLeft l k) l o := { h with }

/-- A whole line of a frame that one bundle carries goes to that bundle. -/
theorem Flows.placeLine (h : Flows s l p) (hb : OneBundle p l b) : s.placeLine p l 8 = s.placePart p l b := by
  simp only [State.placeLine, h.ctx, h.kind, if_false, if_true, hb.bundles, List.foldl_cons, List.foldl_nil]

/-- R189: a line with credit and nothing berthed before it goes into the landing. -/
theorem Flows.placeLine_landing (h : Flows s l p) (hb : OneBundle p l b) (hd : s.isDropped l.ctx l.seq l.cont = false)
    (ha : allBerthed p.fixed l.ctx p.burst = false) (hs : s.spills l.ctx l.seq l.cont b (partPackets p l b) = false) :
    s.placeLine p l 8 = s.toLandings b (partPackets p l b) := by
  have hn : (allBerthed p.fixed l.ctx p.burst || s.spills l.ctx l.seq l.cont b (partPackets p l b)) = false := by rw [ha, hs]; rfl
  rw [h.placeLine hb]
  unfold partPackets at hn ⊢
  simp only [State.placePart, hd, hb.cls, hn, Bool.false_eq_true, if_false]

theorem Flows.not_dropped (h : Flows s l p) (ho : OpenBerth s l o) : s.isDropped l.ctx l.seq l.cont = false := by
  simp [State.isDropped, h.progress, h.dropped, ho.occ, ho.gone]

/-- The frame's claim finds the berth that it has (R192). -/
theorem OpenBerth.claim (h : OpenBerth s l o) (st : RegFile) (burst : Bool) (man : List Word) :
    s.ownBerth l.ctx l.seq l.cont = some o ∧ s.claim st l.ctx l.seq l.cont burst man = (s, true) := by
  have ho : s.ownBerth l.ctx l.seq l.cont = some o := by simp [State.ownBerth, h.occ, h.ctx, h.seq, h.cont, h.mirror]
  have hf : s.berthState o.berth ≠ 5 := by rw [h.fills]; decide
  exact ⟨ho, by simp only [State.claim, ho, hf, if_false]⟩

/-- What a bundle notes leaves such a berth as it is. -/
theorem OpenBerth.within {M N i : Nat} (h : OpenBerth s l o) (w : Within M N i s t) (h8 : M.testBit 8 = false)
    (hm : (M ||| N) &&& (1 <<< Part.FS_BSTATE.ctorIdx ||| 0xc00000) = 0) : OpenBerth t l o :=
  { h with
    occ := (congrArg _ (w.fs h8)).trans h.occ
    fills := (w.keepF .FS_BSTATE o.berth 0 _ rfl hm).trans h.fills }

/-- R189: a line of a frame that is berthed whole goes into the berth that the frame has, after no more than a note on the bundle. -/
theorem Flows.placeLine_berth (h : Flows s l p) (hb : OneBundle p l b) (ho : OpenBerth s l o) (ha : allBerthed p.fixed l.ctx p.burst = true) :
    ∃ w bundles, Within 0 0x800 b s w ∧ OpenBerth w l o ∧ s.placeLine p l 8 = w.berthLine o l.idx l.codes bundles := by
  have stalled : Within 0 0x800 b s (s.stallFor b (partPackets p l b)) := State.stallFor_within (Foot.refl _ _ _) (Within.refl _ _ _ s)
  have hopen := ho.within stalled rfl rfl
  obtain ⟨hown, hclaim⟩ := hopen.claim p.fixed p.burst p.fsMan
  refine ⟨_, if o.chain.isSome then [] else [b], stalled, hopen, ?_⟩
  rw [h.placeLine hb]
  unfold partPackets at hown hclaim ⊢
  simp only [State.placePart, h.not_dropped ho, hb.cls, ha, Bool.true_or, Bool.false_eq_true, if_false, if_true, hclaim, hown]

theorem toLandings_landing (hb : b < s.eg.length) : ((s.toLandings b ps).bun b).landing = (s.bun b).landing ++ ps := by
  unfold State.toLandings
  induction ps generalizing s with
  | nil => exact (List.append_nil _).symm
  | cons q r ih =>
    rw [List.foldl_cons, ih (s := s.toLanding b q) (by rw [State.toLanding, State.modBun, length_modifyAt]; exact hb), State.toLanding,
      State.bun_modBun_self _ hb, List.append_assoc, List.singleton_append]

/-! ### LINE_ENTER_LANDING -/

theorem enterLanding_lines (hn : s.nextPart = some (l, k)) :
    s.enterLanding.pipe.lines = if l.parts.erase k = [] then s.pipe.lines.erase l
      else s.pipe.lines.map fun m => if m = l then { l with parts := l.parts.erase k } else m := by
  rw [(enterLanding_forward hn).lines]
  simp only [State.partLeft, List.isEmpty_iff, decide_eq_true_eq]

/-- R187, R189: a whole line of a frame that is berthed goes into its berth, and besides it the header alone is written. -/
theorem Flows.enterLanding_berth (h : Flows s l p) (hn : s.nextPart = some (l, (8, r))) (hl : l.parts = [(8, r)]) (hm : p.man = [])
    (hb : OneBundle p l b) (ho : OpenBerth s l o) (ha : allBerthed p.fixed l.ctx p.burst = true) :
    let bs := packBytes (depthBits o.depth) l.codes
    let at' := s.berthBase o.berth + lineOffset o.width (depthBits o.depth) l.idx
    s.enterLanding.bytes at' bs.length = bs ∧ (∃ x ∈ s.enterLanding.fs.occ, x.berth = o.berth ∧ l.idx ∈ x.written) ∧
      ∀ a, a < s.berthBase o.berth ∨ s.berthBase o.berth + 320 ≤ a → a < at' ∨ at' + bs.length ≤ a → s.enterLanding.byte a = s.byte a := by
  intro bs at'
  obtain ⟨w, bundles, stalled, hopen, hplace⟩ := (h.partLeft (k := (8, r))).placeLine_berth hb ho.partLeft ha
  have berthed : Within 0x400000000000000000000000000300 0 0 w (w.berthLine o l.idx l.codes bundles) :=
    State.berthLine_within (Foot.refl _ _ _) (Within.refl _ _ _ w)
  have hp : (w.berthLine o l.idx l.codes bundles).pipe.progress = [p] := by
    rw [berthed.pipe rfl, stalled.pipe rfl]
    exact h.progress
  have he : s.enterLanding = (w.berthLine o l.idx l.codes bundles).lineThrough p l := by
    simp only [h.enterLanding hn, hl, List.erase_cons_head, List.isEmpty_nil, if_true, hplace]
  obtain ⟨hfs, hdram⟩ := lineThrough_idle hp (h.fsDone hn) hm hb.mirror
  have hbase : w.berthBase o.berth = s.berthBase o.berth := stalled.berthBase rfl o.berth
  obtain ⟨hself, hout⟩ := State.berthLine_bytes (s := w) (codes := l.codes) (bundles := bundles) ho.unwritten
  rw [hbase] at hself hout
  rw [he]
  refine ⟨(State.bytes_congr fun x _ _ => State.byte_congr hdram x).trans hself, ?_, fun a hh hl => ?_⟩
  · rw [hfs]
    exact State.berthLine_occ hopen.occ ho.ended ho.unwritten
  · exact (State.byte_congr hdram a).trans ((hout a hh hl).trans (State.byte_congr (stalled.dram rfl) a))

/-- R159, R189: a line that one bundle carries, with credit and nothing berthed before it, enters that bundle's landing; before the frame's manifest
nothing is stored. -/
theorem Flows.enterLanding_landing (h : Flows s l p) (hn : s.nextPart = some (l, (8, r))) (hb : OneBundle p l b) (hlt : b < s.eg.length)
    (ha : allBerthed p.fixed l.ctx p.burst = false) (hd : s.isDropped l.ctx l.seq l.cont = false)
    (hs : s.spills l.ctx l.seq l.cont b (partPackets p l b) = false) :
    (∃ rest, (s.enterLanding.bun b).landing = (s.bun b).landing ++ partPackets p l b ++ rest) ∧ (p.man = [] → s.enterLanding.dram = s.dram) := by
  have he := h.enterLanding hn
  simp only [(h.partLeft (k := (8, r))).placeLine_landing hb hd ha hs] at he
  have hz : (((s.partLeft l (8, r)).toLandings b (partPackets p l b)).bun b).landing = (s.bun b).landing ++ partPackets p l b :=
    toLandings_landing (s := s.partLeft l (8, r)) hlt
  have landed : Within 0 0x800 b (s.partLeft l (8, r)) ((s.partLeft l (8, r)).toLandings b (partPackets p l b)) :=
    State.toLandings_within (Foot.refl _ _ _) (Within.refl _ _ _ _)
  generalize (s.partLeft l (8, r)).toLandings b (partPackets p l b) = z at he hz landed
  have hdram : z.dram = s.dram := landed.dram rfl
  have hp : z.pipe.progress = [p] := (congrArg _ (landed.pipe rfl)).trans h.progress
  have forward : Forward z s.enterLanding := he ▸ .ite (Forward.refl z).mirrorLine.modProgress.endDone (.refl z)
  refine ⟨?_, fun hm => ?_⟩
  · obtain ⟨rest, hrest⟩ := forward.landing b
    exact ⟨rest, by rw [← hrest, hz]⟩
  · rw [he]
    split
    · exact (lineThrough_idle hp (h.fsDone hn) hm hb.mirror).2.trans hdram
    · exact hdram

/-- Settles O27: a line's way through the stages (`Released`), its wait for seam rows, and its way out of the stripes into a landing or a berth. -/
theorem linesAreReleasedAndLand : Obligations.LinesAreReleasedAndLand := by
  refine ⟨fun t ctx line reads p q => ⟨?_, ?_⟩, fun t w p q => ?_, fun t l k => ?_, fun t b r l p o => ?_, fun t b r l p => ?_⟩
  · refine Runs.onStripes (fun s => (s.upset reads.upsets).releaseLine ctx.val line reads.late) (fun _ => rfl)
      fun s ⟨⟨hw, hl, hr⟩, hm⟩ => ⟨hw, ?_⟩
    obtain ⟨hp, hc⟩ := lineOf_progress hl
    have released := lineRelease_released (late := reads.late) reads.upsets hl hr hm
    refine ⟨⟨_, released.lines, hc, rfl, rfl, rfl, by rw [← hc]; rfl⟩, ?_, released.bytes⟩
    obtain ⟨x, hx, xc, xs, xn, xl⟩ := released.progress p hp rfl rfl rfl
    exact ⟨x, hx, xc.trans hc, xs, xn, xl⟩
  · refine Runs.onStripes (fun s => (s.upset reads.upsets).releaseLine ctx.val line reads.late) (fun _ => rfl)
      fun s ⟨⟨hw, hl, hr⟩, hm, he⟩ => ⟨hw, ?_⟩
    rw [releaseLine_missing (s := s.upset reads.upsets) hl hr hm he]
    exact ⟨rfl, rfl, rfl⟩
  · exact Runs.onStripes (fun s => s.seamTimeout) (fun _ => rfl) fun s ⟨hw, hf, hl⟩ => ⟨hw, seamTimeout_released hf hl⟩
  · exact Runs.onStripes (fun s => s.enterLanding) (fun _ => rfl) fun s ⟨hw, hn⟩ => ⟨hw, enterLanding_lines hn⟩
  · refine Runs.onStripes (fun s => s.enterLanding) (fun _ => rfl) fun s h => ?_
    obtain ⟨hw, hn, hl, hp, hc, hs, hk, hd, hu, hm, hkind, hcls, hb, ha, hx, hocc, hoc, hos, hok, hom, hoe, hog, hst, hi⟩ := h
    exact ⟨hw, Flows.enterLanding_berth ⟨hp, hc, hs, hk, hd, hu, hkind⟩ hn hl hm ⟨hcls, hb, hx⟩ ⟨hocc, hoc, hos, hok, hom, hoe, hog, hst, hi⟩ ha⟩
  · refine Runs.onStripes (fun s => s.enterLanding) (fun _ => rfl) fun s h => ?_
    obtain ⟨hw, hn, hp, hc, hs, hk, hd, hu, hkind, hcls, hb, hlt, ha, hdrop, hspill, hx⟩ := h
    exact ⟨hw, Flows.enterLanding_landing ⟨hp, hc, hs, hk, hd, hu, hkind⟩ hn ⟨hcls, hb, hx⟩ hlt ha hdrop hspill⟩

end Sys2Proof.Machine

/-! ## Exposure: charge moves into its store, and a completed manifest into the ring -/

namespace Sys2Proof.Machine

/-! ### Blocks of registers read back -/

theorem Sparse.look_number {α : Type} {stride lo i : Nat} {vs : List α} (hs : 0 < stride) (hi : i < vs.length) :
    Sparse.look (Sparse.number stride lo vs) (lo + stride * i) = some vs[i] := by
  induction vs generalizing lo i with
  | nil => exact absurd hi (Nat.not_lt_zero _)
  | cons v r ih =>
    cases i with
    | zero => exact if_pos rfl
    | succ i =>
      have step : lo + stride * (i + 1) = lo + stride + stride * i := by rw [Nat.mul_succ]; omega
      rw [step, Sparse.number, Sparse.look, if_neg (by omega)]
      exact ih (Nat.lt_of_succ_lt_succ hi)

/-- A block of words reads back at each of its keys. -/
theorem Sparse.get_splice_in (d : Nat → Word) (m : RegFile) {lo stride i : Nat} {vs : List Word} (hs : 0 < stride) (hi : i < vs.length) :
    Sparse.get d (Sparse.splice d m lo stride vs) (lo + stride * i) = vs[i] := by
  have before : Sparse.look (m.filter fun p => decide (p.1 < lo)) (lo + stride * i) = none :=
    Sparse.look_none _ _ fun q hq e => by
      have := of_decide_eq_true (List.mem_filter.mp hq).2
      omega
  have behind : Sparse.look (m.filter fun p => decide (lo + stride * vs.length ≤ p.1)) (lo + stride * i) = none :=
    Sparse.look_none _ _ fun q hq e => by
      have := of_decide_eq_true (List.mem_filter.mp hq).2
      have : stride * i < stride * vs.length := Nat.mul_lt_mul_of_pos_left hi hs
      omega
  have block : Sparse.look (Sparse.splice d m lo stride vs) (lo + stride * i) =
      Sparse.look ((Sparse.number stride lo vs).filter fun p => decide (p.2 ≠ d p.1)) (lo + stride * i) := by
    rw [Sparse.splice, Sparse.look_append, behind, Sparse.look_append, before]
    cases Sparse.look ((Sparse.number stride lo vs).filter fun p => decide (p.2 ≠ d p.1)) (lo + stride * i) <;> rfl
  rw [Sparse.get, block, ← Sparse.get, Sparse.get_drop_defaults d _ (Sparse.number_sorted hs vs), Sparse.get, Sparse.look_number hs hi]

theorem State.reg_setBlock_in {s : State} {a i : Nat} {vs : List Word} (hi : i < vs.length) : (s.setBlock a vs).reg (a + 8 * i) = vs[i] :=
  Sparse.get_splice_in resetWord s.regs (by decide) hi

theorem NatMap.get_put_self (m : NatMap) (k v : Nat) : (m.put k v).get k = v := Sparse.get_put_self zeroNat m k v

theorem NatMap.get_put_ne (m : NatMap) {k j : Nat} (v : Nat) (h : j ≠ k) : (m.put k v).get j = m.get j := Sparse.get_put_ne zeroNat m v h

/-! ### EXPOSURE_TRANSFER -/

variable {s : State} {i : Nat} {x : Transfer} {charges : List (Nat × Nat)}

/-- The transfer `x` of converter `i` has moved its charge into its store. -/
def State.filled (s : State) (i : Nat) (x : Transfer) (charges : List (Nat × Nat)) : State :=
  { s with
    px :=
      { storeA := if x.inB then s.px.storeA else addCharges i s.px.storeA charges
        storeB := if x.inB then addCharges i s.px.storeB charges else s.px.storeB
        done := s.px.done.put i x.at' } }

theorem State.transfer_due (h : s.transferDue i = some x) : s.transfer i charges =
    if clusterClamped (s.bank x.pass.bank) i x.second x.inB then (s.filled i x charges).noteClamp x.pass.seq x.pass.cont i
    else s.filled i x charges := by
  simp only [State.transfer, h]
  rfl

/-- R37: the transfer that is due changes the stores as its charge does. -/
theorem State.transfer_px (h : s.transferDue i = some x) : (s.transfer i charges).px = (s.filled i x charges).px := by
  rw [State.transfer_due h]
  split <;> rfl

/-- R71: a transfer of a clamped cluster sets MAP_CLAMP. -/
theorem State.transfer_clamp (h : s.transferDue i = some x) (hc : clusterClamped (s.bank x.pass.bank) i x.second x.inB = true) :
    (s.transfer i charges).flag Reg.TT_STATUS Fld.TT_STATUS_MAP_CLAMP = true := by
  rw [State.transfer_due h, if_pos hc]
  exact State.flag_setB_self _ _ _ _ (by decide) rfl

/-- R39: a charge is added to its pixel, up to the capacity of the store, and to no other. -/
theorem addCharges_one (m : NatMap) {pix charge : Nat} (h : pix < 4096) :
    (addCharges i m [(pix, charge)]).get (i * 4096 + pix) = min 18000 (m.get (i * 4096 + pix) + charge) ∧
      ∀ k, k ≠ i * 4096 + pix → (addCharges i m [(pix, charge)]).get k = m.get k := by
  have put : addCharges i m [(pix, charge)] = m.put (i * 4096 + pix) (min storeFull (m.get (i * 4096 + pix) + charge)) := if_pos h
  rw [put]
  exact ⟨NatMap.get_put_self _ _ _, fun k hk => NatMap.get_put_ne _ _ hk⟩

/-! ### MANIFEST_COMPLETION -/

/-- R153: the ring slot COUNT mod 64 holds the manifest that is entered. -/
theorem State.reg_ringEntry (s : State) (m : List Word) {w : Nat} (hw : w < 32) :
    (s.ringEntry m).reg (Reg.CFG_MAN (s.f Reg.CFG_MAN_HEAD Fld.CFG_MAN_HEAD_COUNT % 64) w) = m.getD w 0 := by
  have head : ∀ k j, Reg.CFG_MAN k j ≠ Reg.CFG_MAN_HEAD := fun k j => by simp only [Reg.CFG_MAN, Reg.CFG_MAN_HEAD]; omega
  have word : ∀ k, Reg.CFG_MAN k w = Reg.CFG_MAN k 0 + 8 * w := fun k => by simp only [Reg.CFG_MAN]; omega
  rw [State.ringEntry, State.reg_addF_ne _ _ (head _ _), word, State.reg_setBlock_in (by simpa using hw)]
  simp

/-- R153: COUNT rises by 1. -/
theorem State.f_ringEntry (s : State) (m : List Word) : (s.ringEntry m).f Reg.CFG_MAN_HEAD Fld.CFG_MAN_HEAD_COUNT =
    (s.f Reg.CFG_MAN_HEAD Fld.CFG_MAN_HEAD_COUNT + 1) % 2 ^ 32 := by
  have kept (k : Nat) (vs : List Word) : (s.setBlock (Reg.CFG_MAN k 0) vs).reg Reg.CFG_MAN_HEAD = s.reg Reg.CFG_MAN_HEAD :=
    Sparse.get_splice_out _ _ _ (.inl (by simp only [Reg.CFG_MAN, Reg.CFG_MAN_HEAD]; omega))
  refine (State.f_addF_self _ _ _ (by decide)).trans ?_
  rw [State.f_of_reg _ (kept _ _)]
  rfl

/-- R151: what follows the ring entry of a completed frame leaves the ring. -/
theorem State.completeFrame_ring {f : Frame} (h : s.isStrips f = false) :
    ∃ t : State, t.f Reg.CFG_MAN_HEAD Fld.CFG_MAN_HEAD_COUNT = s.f Reg.CFG_MAN_HEAD Fld.CFG_MAN_HEAD_COUNT ∧
      Within 0xc00000000000000000000401000080000000000000000001f84 0 0
        (t.ringEntry (s.manComplete f.man f.shot.s f.shot.e f.late f.bound (!f.clamped.isEmpty) f.subs)) (s.completeFrame f) := by
  unfold State.completeFrame
  extract_lets -merge m s₁ g s₂ s₃ s₄ s₅
  have ring : s₄ = s₃.ringEntry m := if_neg (Bool.eq_false_iff.mp h)
  have noted : s₅ = s₄.noteManifest g.seq g.cont m := if_neg (by rw [ring]; exact Bool.eq_false_iff.mp h)
  refine ⟨s₃, State.f_of_reg _ (State.reg_setF_ne _ _ (by decide)), ?_⟩
  rw [noted, ring]
  exact State.ferryEvent_within ⟨by decide, .inl (by decide)⟩ (State.endDone_within ⟨by decide, .inl (by decide)⟩
    (State.sendStarts_within ⟨by decide, .inl (by decide)⟩ (State.noteManifest_within ⟨by decide, .inl (by decide)⟩ (Within.refl _ _ _ _))))

/-- Settles O19: a transfer puts its charge into one store, and a completion enters its manifest in the ring, which the rest of the command leaves. -/
theorem chargeTransfersAndManifestsComplete : Obligations.ChargeTransfersAndManifestsComplete := by
  refine ⟨fun t conv pix charge x hp => ?_, fun t f => ?_⟩
  · refine Runs.of (fun s => s.transfer conv.val [(pix, charge)]) (fun _ => rfl) fun s h => ?_
    rw [State.transfer_px h]
    refine ⟨NatMap.get_put_self _ _ _, fun hb => ?_, fun hb => ?_, State.transfer_clamp h⟩ <;> rw [State.filled, hb]
    · exact ⟨rfl, addCharges_one s.px.storeA hp⟩
    · exact ⟨rfl, addCharges_one s.px.storeB hp⟩
  · refine Runs.of (fun s => s.completion) (fun _ => rfl) fun s ⟨hd, hs⟩ => ?_
    obtain ⟨u, hc, hu⟩ := State.completeFrame_ring hs
    have he : s.completion = s.completeFrame f := by simp only [State.completion, hd]
    rw [he, ← hc]
    refine ⟨(hu.keepF .CFG_MAN_HEAD 0 0 _ rfl rfl).trans (u.f_ringEntry _), fun w hw => ?_⟩
    exact (hu.keepReg .CFG_MAN _ _ rfl rfl).trans (u.reg_ringEntry _ hw)

end Sys2Proof.Machine

/-! ## Conversion: a pass begins, reads its rows and ends, and its samples reach the stripes -/

namespace Sys2Proof.Machine

variable {s t : State} {p : Pass} {v : View} {x q slot : Nat} {light : List (Nat × Nat)} {f : Pass → Pass}

/-! ### The running pass -/

theorem State.running_congr (h : t.tt = s.tt) : t.running = s.running := by rw [State.running, h, State.running]

/-- The running pass as it was changed is among the passes. -/
theorem State.modRunning_mem (h : s.running = some p) (f : Pass → Pass) : f p ∈ (s.modRunning f).tt.passes :=
  List.mem_map.mpr ⟨p, List.mem_of_find?_eq_some h, if_pos (List.find?_some h)⟩

theorem State.slotDue_running (h : s.slotDue = some (p, x)) : s.running = some p := by
  unfold State.slotDue at h
  split at h
  case h_1 => contradiction
  case h_2 r hr =>
  dsimp only at h
  split at h
  · cases h; exact hr
  · contradiction

theorem State.endDue_running (h : s.endDue = some (p, x)) : s.running = some p := by
  unfold State.endDue at h
  split at h
  case h_1 => contradiction
  case h_2 r hr =>
  dsimp only at h
  split at h
  · cases h; exact hr
  · contradiction

/-- The pass that is due to begin is among the passes. -/
theorem State.passDue_mem (h : s.passDue = some (p, x)) : p ∈ s.tt.passes := by
  unfold State.passDue at h
  split at h
  · contradiction
  split at h
  case h_1 => contradiction
  case h_2 r hr =>
  dsimp only at h
  split at h
  · contradiction
  · cases h; exact List.mem_of_find?_eq_some hr

/-! ### CONVERSION_PASS_START -/

theorem rowSlotNs_lt (n : Nat) : rowSlotNs n < 2 ^ 14 := by
  unfold rowSlotNs
  split
  · decide
  · split <;> decide

/-- R88, R90: what CC_STATUS shows of a pass that begins, and the pass itself. -/
theorem State.beginPass_begun (hm : p ∈ s.tt.passes) (hp : p.depth < 4) :
    (s.beginPass p x).flag Reg.CC_STATUS Fld.CC_STATUS_BUSY = true ∧
      (s.beginPass p x).f Reg.CC_STATUS Fld.CC_STATUS_DEPTH_ACT = p.depth ∧
      (s.beginPass p x).f Reg.CC_STATUS Fld.CC_STATUS_ROW_SLOT_NS = rowSlotNs p.depth ∧
      ∃ q ∈ (s.beginPass p x).tt.passes, q.seq = p.seq ∧ q.cont = p.cont ∧ q.strip = p.strip ∧ q.began = some x := by
  unfold State.beginPass
  extract_lets moved s₁ s₂ s₃ s₄ v black keys s₅
  have kept : s₁.tt = s.tt := by
    have w : Within 0x1900000000000000000032 0 0 s s₁ :=
      .ite (State.rerunBatches_within ⟨by decide, .inl (by decide)⟩ (State.releaseSteps_within ⟨by decide, .inl (by decide)⟩ (.refl _ _ _ _)))
        (.refl _ _ _ _)
    exact w.tt rfl
  have depth : s₄.f Reg.CC_STATUS Fld.CC_STATUS_DEPTH_ACT = p.depth :=
    calc s₄.f Reg.CC_STATUS Fld.CC_STATUS_DEPTH_ACT
        = s₃.f Reg.CC_STATUS Fld.CC_STATUS_DEPTH_ACT := State.f_setB_disjoint _ _ _ _ (by decide)
      _ = s₂.f Reg.CC_STATUS Fld.CC_STATUS_DEPTH_ACT := State.f_setF_disjoint _ _ _ _ _ (by decide)
      _ = p.depth % 2 ^ 2 := State.f_setF_self _ _ _ _ (by decide)
      _ = p.depth := Nat.mod_eq_of_lt hp
  have length : s₄.f Reg.CC_STATUS Fld.CC_STATUS_ROW_SLOT_NS = rowSlotNs p.depth :=
    calc s₄.f Reg.CC_STATUS Fld.CC_STATUS_ROW_SLOT_NS
        = s₃.f Reg.CC_STATUS Fld.CC_STATUS_ROW_SLOT_NS := State.f_setB_disjoint _ _ _ _ (by decide)
      _ = rowSlotNs p.depth % 2 ^ 14 := State.f_setF_self _ _ _ _ (by decide)
      _ = rowSlotNs p.depth := Nat.mod_eq_of_lt (rowSlotNs_lt _)
  refine ⟨State.flag_setB_self s₃ _ _ _ (by decide) rfl, depth, length, { p with began := some x, black := black }, ?_, rfl, rfl, rfl, rfl⟩
  exact List.mem_map.mpr ⟨p, kept ▸ hm, if_pos (by simp)⟩

/-! ### ROW_SLOT_START -/

theorem Sparse.mem_of_look {α : Type} {m : List (Nat × α)} {k : Nat} (h : (Sparse.look m k).isSome = true) : k ∈ m.map (·.1) := by
  by_contra hn
  rw [Sparse.look_none m k fun e he hk => hn (hk ▸ List.mem_map_of_mem he)] at h
  contradiction

/-- From `s` to `t` the stores and the bridge are as they were. -/
def KeepsCharge (s t : State) : Prop := t.px = s.px ∧ t.cc.link = s.cc.link

theorem KeepsCharge.trans {u : State} (h : KeepsCharge s t) (k : KeepsCharge t u) : KeepsCharge s u := ⟨k.1.trans h.1, k.2.trans h.2⟩

theorem Within.keepsCharge {M N b : Nat} (w : Within M N b s t) (hp : M.testBit 3 = false) (hc : M.testBit 4 = false) : KeepsCharge s t :=
  ⟨w.px hp, congrArg _ (w.cc hc)⟩

/-- R86: the restart of the grid keeps charge and samples. -/
theorem State.firstRow_keepsCharge : KeepsCharge s (s.firstRow v x) := by
  unfold State.firstRow
  extract_lets n s₁
  have w : Within 0x20 0 0 s s₁ :=
    .ite (.foldl (fun t b => State.calLose_within ⟨by decide, .inl (by decide)⟩) (.refl _ _ _ _)) (.refl _ _ _ _)
  exact ⟨w.px rfl, congrArg (·.link) (w.cc rfl)⟩

theorem State.requestInj_keepsCharge {b refsel n : Nat} {tracker : Bool} : KeepsCharge s (s.requestInj b refsel x tracker n) := by
  unfold State.requestInj
  split
  · exact (State.rejectInj_within (Foot.refl _ _ _) (Within.refl _ _ _ s)).keepsCharge rfl rfl
  · exact ⟨rfl, rfl⟩

/-- R165: the tracker's requests keep charge and samples. -/
theorem State.track_keepsCharge : KeepsCharge s (s.track v q x) := by
  unfold State.track
  split
  · exact List.foldlRecOn _ _ (motive := KeepsCharge s) ⟨rfl, rfl⟩ fun t ht b _ => ht.trans State.requestInj_keepsCharge
  · exact ⟨rfl, rfl⟩

theorem State.loadSlot_keepsCharge {n : Nat} : KeepsCharge s (s.loadSlot v q x n) :=
  (State.loadSlot_within (Foot.refl _ _ _) (Within.refl _ _ _ s)).keepsCharge rfl rfl

/-- A pass with the frame, segment and strip of `p` has come to row slot `n`. -/
def State.AtSlot (s : State) (p : Pass) (n : Nat) : Prop :=
  ∃ r ∈ s.tt.passes, r.seq = p.seq ∧ r.cont = p.cont ∧ r.strip = p.strip ∧ r.slot = n

theorem State.AtSlot.congr {n : Nat} (h : s.AtSlot p n) (ht : t.tt = s.tt) : t.AtSlot p n := by rwa [State.AtSlot, ht]

/-- What a stripe's load notes of the running pass keeps its place. -/
theorem State.AtSlot.modRunning {n : Nat} (h : s.AtSlot p n)
    (hf : ∀ r, (f r).seq = r.seq ∧ (f r).cont = r.cont ∧ (f r).strip = r.strip ∧ (f r).slot = r.slot) : (s.modRunning f).AtSlot p n := by
  obtain ⟨r, hr, hs, hc, ht, hn⟩ := h
  refine ⟨_, List.mem_map_of_mem hr, ?_⟩
  split
  · obtain ⟨es, ec, et, en⟩ := hf r
    exact ⟨es.trans hs, ec.trans hc, et.trans ht, en.trans hn⟩
  · exact ⟨hs, hc, ht, hn⟩

theorem State.AtSlot.loadStripe {n tRow stripe : Nat} (h : s.AtSlot p n) : (s.loadStripe v q x tRow stripe).AtSlot p n := by
  unfold State.loadStripe
  extract_lets live s₁ m pipe s₂ s₃ b
  have w : Within 0x400000000000000021000401003080000000000000000001f80 0 0 s s₃ :=
    State.cutTo_within (s := s₂) (Foot.refl _ _ _) (State.serveFor_within ⟨by decide, .inl (by decide)⟩ (Within.upd_pipe (s := s₁) (by decide)
      (State.serveFor_within (s := s) ⟨by decide, .inl (by decide)⟩ (.refl _ _ _ _))))
  refine (h.congr (w.tt rfl)).modRunning fun r => ?_
  split <;> exact ⟨rfl, rfl, rfl, rfl⟩

theorem State.AtSlot.loadSlot {n tRow : Nat} (h : s.AtSlot p n) : (s.loadSlot v q x tRow).AtSlot p n := by
  have loaded : ((List.range 16).foldl (fun s k => s.loadStripe v q x tRow k) s).AtSlot p n :=
    List.foldlRecOn _ _ (motive := fun s : State => s.AtSlot p n) h fun t ht k _ => ht.loadStripe
  exact loaded.modRunning fun r => ⟨rfl, rfl, rfl, rfl⟩

/-- The samples of row slot `q` that a read of a slot's row at `x` puts on the bridge (R89, R92). -/
def State.rowSamples (s : State) (v : View) (q x : Nat) (light : List (Nat × Nat)) (slot : Nat) : List Sample :=
  let m := s.slotStore v slot
  ((chargedKeys m light (v.inB slot)).filter (v.convertsIn q)).map fun k =>
    { key := k, inB := v.inB slot, depth := v.pass.depth,
      code := sampleFine v.n (v.gain slot) (v.st.fld Reg.CC_CFG Fld.CC_CFG_PEDESTAL) (heldCharge m light (v.inB slot) k),
      seq := v.pass.seq, cont := v.pass.cont, strip := v.pass.strip, at' := v.decided x (v.inB slot) (k % 64) }

/-- A read puts its samples on the bridge and takes the charge of its rows out of the store that it reads (R38, R89, R92). -/
theorem State.readRow_eq : s.readRow v q x light slot =
    { s with
      cc := { s.cc with link := s.cc.link ++ s.rowSamples v q x light slot }
      px := { s.px with
        storeA := if v.inB slot then s.px.storeA else s.px.storeA.filter fun e => !v.convertsIn q e.1
        storeB := if v.inB slot then s.px.storeB.filter fun e => !v.convertsIn q e.1 else s.px.storeB } } := by
  cases h : v.inB slot <;> simp only [State.readRow, State.rowSamples, State.slotStore, h] <;> rfl

/-- Every pixel that holds charge and converts has a sample of that charge. -/
theorem State.rowSamples_mem {k : Nat} (hk : (Sparse.look (s.slotStore v slot) k).isSome = true) (hc : v.convertsIn q k = true) :
    ∃ a ∈ s.rowSamples v q x light slot, a.key = k ∧ a.inB = v.inB slot ∧ a.depth = v.pass.depth ∧
      a.seq = v.pass.seq ∧ a.cont = v.pass.cont ∧ a.strip = v.pass.strip ∧
      a.code = sampleFine v.n (v.gain slot) (v.st.fld Reg.CC_CFG Fld.CC_CFG_PEDESTAL) (heldCharge (s.slotStore v slot) light (v.inB slot) k) :=
  ⟨_, List.mem_map_of_mem (List.mem_filter.mpr ⟨List.mem_append_left _ (Sparse.mem_of_look hk), hc⟩), rfl, rfl, rfl, rfl, rfl, rfl, rfl⟩

/-- A read does the same to the same charge and samples. -/
theorem KeepsCharge.readRow (h : KeepsCharge s t) : KeepsCharge (s.readRow v q x light slot) (t.readRow v q x light slot) := by
  obtain ⟨hp, hl⟩ := h
  rw [KeepsCharge, State.readRow_eq, State.readRow_eq]
  simp only [State.rowSamples, State.slotStore, hp, hl, and_self]

/-- R38, R91: the row slot that is due, of a pass with one slot, reads its rows and does nothing else to charge and samples; the slot counts. -/
theorem State.rowSlot_due (h : s.slotDue = some (p, x)) (hd : p.dual = false) :
    KeepsCharge (s.readRow (s.view p) p.slot x light 0) (s.rowSlot light) ∧ (s.rowSlot light).AtSlot p (p.slot + 1) := by
  unfold State.rowSlot
  rw [h]
  dsimp -zeta only
  extract_lets v₀ s₁ s₂ s₃
  have read : s₂ = s₁.readRow v₀ p.slot x light 0 := by
    dsimp only [s₂]
    rw [passSlots, hd]
    rfl
  obtain ⟨charge, ht⟩ : KeepsCharge s s₁ ∧ s₁.tt = s.tt := by
    refine ⟨?_, (Within.ite (State.firstRow_within (Foot.refl _ _ _) (.refl _ _ _ s)) (.refl _ _ _ s)).tt rfl⟩
    dsimp only [s₁]
    split
    · exact State.firstRow_keepsCharge
    · exact ⟨rfl, rfl⟩
  have tracked : KeepsCharge s₂ (s₃.track v₀ p.slot x) ∧ (s₃.track v₀ p.slot x).tt = s₃.tt :=
    ⟨State.track_keepsCharge (s := s₃), (State.track_within (Foot.refl _ _ _) (.refl _ _ _ s₃)).tt rfl⟩
  constructor
  · refine KeepsCharge.trans ?_ (tracked.1.trans State.loadSlot_keepsCharge)
    rw [read]
    exact charge.readRow
  · refine State.AtSlot.loadSlot (State.AtSlot.congr ?_ tracked.2)
    have run : s₂.running = some p := by
      rw [read]
      exact (State.running_congr ht).trans (State.slotDue_running h)
    exact ⟨_, State.modRunning_mem run _, rfl, rfl, rfl, rfl⟩

/-! ### SAMPLE_DELIVERY -/

/-- `y` collects the samples of the pass of `a`. -/
def Sample.goesTo (a : Sample) (y : PassSamples) : Bool := y.seq == a.seq && y.cont == a.cont && y.strip == a.strip

/-- What the stripes hold of the pass of `a`. -/
def Sample.valsIn (a : Sample) (l : List PassSamples) : NatMap := ((l.find? a.goesTo).map (·.vals)).getD []

theorem addSample_eq (a : Sample) (l : List PassSamples) : addSample a l =
    (if l.any a.goesTo then l else l ++ [⟨a.seq, a.cont, a.strip, []⟩]).map fun y =>
      if a.goesTo y then { y with vals := y.vals.put (2 * a.key + (if a.inB then 1 else 0)) (a.code + 1) } else y := rfl

theorem addSample_vals (a : Sample) (l : List PassSamples) :
    a.valsIn (addSample a l) = (a.valsIn l).put (2 * a.key + if a.inB then 1 else 0) (a.code + 1) := by
  have own : a.goesTo ⟨a.seq, a.cont, a.strip, []⟩ = true := by simp [Sample.goesTo]
  have goes : (a.goesTo ∘ fun y : PassSamples =>
      if a.goesTo y then { y with vals := y.vals.put (2 * a.key + (if a.inB then 1 else 0)) (a.code + 1) } else y) = a.goesTo := by
    funext y
    simp only [Function.comp]
    split <;> rfl
  rw [Sample.valsIn, addSample_eq, List.find?_map, goes]
  cases hl : l.find? a.goesTo with
  | some y =>
    have hy := List.find?_some hl
    have some : l.any a.goesTo = true := List.any_eq_true.mpr ⟨y, List.mem_of_find?_eq_some hl, hy⟩
    simp [Sample.valsIn, hl, some, hy]
  | none =>
    have none : l.any a.goesTo = false := by simpa using hl
    simp [Sample.valsIn, List.find?_append, hl, none, own]

theorem addSample_others {a : Sample} {l : List PassSamples} {y : PassSamples} (hy : y ∈ l) (h : a.goesTo y = false) : y ∈ addSample a l := by
  rw [addSample_eq]
  refine List.mem_map.mpr ⟨y, ?_, by rw [h]; rfl⟩
  split
  · exact hy
  · exact List.mem_append_left _ hy

/-! ### CONVERSION_END -/

theorem State.log_passes (time : Word) (ty : LogType) (seq source detail : Nat) (bound : Bool) :
    (s.log time ty seq source detail bound).tt.passes = s.tt.passes := by
  unfold State.log
  split <;> rfl

/-- R51: the pass whose last row slot is over ends, and the converters are idle. -/
theorem State.passEnd_due (h : s.endDue = some (p, x)) :
    s.passEnd.flag Reg.CC_STATUS Fld.CC_STATUS_BUSY = false ∧ s.passEnd.cc.lastEnd = x ∧ { p with ended := true } ∈ s.passEnd.tt.passes := by
  unfold State.passEnd
  rw [h]
  dsimp -zeta only
  extract_lets v tt cc s₁ s₂ s₃ last s₄
  have noted : Within 0x100000000000000000000000000000000000000008000000000002404 0 0 s₃ s₄ :=
    .ite (State.frameEnd_within ⟨by decide, .inl (by decide)⟩ (.refl _ _ _ _)) (.refl _ _ _ _)
  have w : Within 0x100000000000000000000000000000000000000008000000000002404 0 0 s₃ ((s₄.pioEvent 2 x).ferryEvent 2 x).showBanks :=
    State.showBanks_within ⟨by decide, .inl (by decide)⟩ (State.ferryEvent_within ⟨by decide, .inl (by decide)⟩
      (State.pioEvent_within ⟨by decide, .inl (by decide)⟩ noted))
  have passes : ((s₄.pioEvent 2 x).ferryEvent 2 x).showBanks.tt.passes = s₂.tt.passes := by
    show s₄.tt.passes = s₃.tt.passes
    dsimp only [s₄]
    split
    · exact State.log_passes _ _ _ _ _ _
    · rfl
  refine ⟨?_, congrArg (·.lastEnd) (w.cc rfl), ?_⟩
  · exact (State.flag_of_reg _ (w.keepReg .CC_STATUS 0 0 rfl rfl)).trans (State.flag_setB_self s₂ _ _ _ (by decide) rfl)
  · rw [passes]
    exact State.modRunning_mem (State.endDue_running h) _

/-- Settles O23: a pass begins (`beginPass_begun`), a row slot reads its rows (`rowSlot_due`, `readRow_eq`), a sample joins those of its pass
(`addSample_vals`), and the pass ends (`passEnd_due`). -/
theorem conversionPassesRunTheirRowSlots : Obligations.ConversionPassesRunTheirRowSlots := by
  refine ⟨fun t x p => ?_, fun t x light p => ?_, fun t a => ?_, fun t k p => ?_⟩
  · refine Runs.of (fun s => s.passStart) (fun _ => rfl) fun s ⟨hd, hp⟩ => ?_
    simp only [State.passStart, hd]
    exact State.beginPass_begun (State.passDue_mem hd) hp
  · refine Runs.of (fun s => s.rowSlot light) (fun _ => rfl) fun s ⟨hd, hp⟩ => ?_
    obtain ⟨⟨hpx, hlink⟩, hslot⟩ := State.rowSlot_due (light := light) hd hp
    have store : (s.view p).inB 0 = (p.store == 1) := by simp [State.view, View.inB, hp]
    have left (m : NatMap) (e : Nat × Nat) : e ∈ m.filter (fun e => !(s.view p).convertsIn p.slot e.1) ↔
        e ∈ m ∧ (s.view p).convertsIn p.slot e.1 = false := by simp
    refine ⟨hslot, fun h0 => ?_, fun h1 => ?_⟩
    · have hb : (s.view p).inB 0 = false := by rw [store, h0]; rfl
      have hm : s.slotStore (s.view p) 0 = s.px.storeA := by rw [State.slotStore, hb]; rfl
      rw [hpx, State.readRow_eq, hb]
      refine ⟨rfl, left _, _, hlink.trans (by rw [State.readRow_eq]), fun k hk hc => ?_⟩
      rw [← hm, ← hb]
      exact State.rowSamples_mem (hm ▸ hk) hc
    · have hb : (s.view p).inB 0 = true := by rw [store, h1]; rfl
      have hm : s.slotStore (s.view p) 0 = s.px.storeB := by rw [State.slotStore, hb]; rfl
      rw [hpx, State.readRow_eq, hb]
      refine ⟨rfl, left _, _, hlink.trans (by rw [State.readRow_eq]), fun k hk hc => ?_⟩
      rw [← hm, ← hb]
      exact State.rowSamples_mem (hm ▸ hk) hc
  · refine Runs.onStripes (fun s => s.deliver) (fun _ => rfl) fun s ⟨hw, hd⟩ => ⟨hw, ?_⟩
    simp only [State.deliver, hd]
    exact ⟨trivial, addSample_vals a s.pipe.samples, fun y hy h => addSample_others hy h⟩
  · refine Runs.of (fun s => s.passEnd) (fun _ => rfl) fun s h => ?_
    obtain ⟨busy, last, ended⟩ := State.passEnd_due h
    exact ⟨busy, last, _, ended, rfl, rfl, rfl, rfl⟩

end Sys2Proof.Machine

/-! ## The start sequence: clock loops, the ROM stage, the choice of an image, staged start and the release of the ports -/

namespace Sys2Proof.Machine

variable {s t : State} {a i j k n : Nat} {v : SlotVerdict}

/-! ### Acquisition of a clock loop -/

/-- R313: stopping a loop's outputs leaves CK_PSTAT and the loops. -/
theorem State.loopStop_loops : (∀ j, (s.loopStop k).reg (Reg.CK_PSTAT j) = s.reg (Reg.CK_PSTAT j)) ∧ (s.loopStop k).ck = s.ck := by
  have w : Within 0x20000018101602285000000000000000000000000000014801 0 0 s (s.loopStop k) :=
    State.loopStop_within (Foot.refl _ _ _) (.refl _ _ _ _)
  exact ⟨fun j => w.keepReg .CK_PSTAT j 0 rfl rfl, w.ck rfl⟩

theorem State.loopAcquire_acquiring (s : State) (k : Nat) : (s.loopAcquire k).acquiring k = true := by
  unfold State.loopAcquire
  extract_lets s₁ s₂ s₃
  refine (State.flag_of_reg _ (State.loopStop_loops.1 k)).trans ?_
  exact (State.flag_setF_disjoint _ _ _ _ (by decide)).trans (State.flag_setB_self s₁ _ _ _ (by decide) rfl)

/-- R312: the acquisition of one loop leaves the ACQ of the others. -/
theorem State.loopAcquire_others (h : Reg.CK_PSTAT j ≠ Reg.CK_PSTAT k) : (s.loopAcquire k).acquiring j = s.acquiring j := by
  unfold State.loopAcquire
  extract_lets s₁ s₂ s₃
  have settled : s₁.reg (Reg.CK_PSTAT j) = s.reg (Reg.CK_PSTAT j) := by
    have w : Within 0x80 0 0 s s₁ := .ite (State.settleBack_within (Foot.refl _ _ _) (.refl _ _ _ _)) (.refl _ _ _ _)
    exact w.keepReg .CK_PSTAT j 0 rfl rfl
  refine State.flag_of_reg _ ((State.loopStop_loops.1 j).trans ?_)
  exact (State.reg_satF_ne (s := s₁.setB _ _ true) _ _ h).trans ((State.reg_setB_ne _ _ h).trans settled)

/-- R312: the acquisition of a loop marks it as started and leaves the others. -/
theorem State.loopAcquire_loops (s : State) (k : Nat) :
    ∃ g : Loop → Loop, (∀ x, (g x).started = true) ∧ (s.loopAcquire k).ck.loops = modifyAt g k s.ck.loops := by
  unfold State.loopAcquire
  extract_lets s₁ s₂ s₃
  have settled : s₁.ck = s.ck := by
    have w : Within 0x80 0 0 s s₁ := .ite (State.settleBack_within (Foot.refl _ _ _) (.refl _ _ _ _)) (.refl _ _ _ _)
    exact w.ck rfl
  rw [State.loopStop_loops.2, ← settled]
  exact ⟨fun x => { x with started := true, entry := s₂.bandFirst k, tryAt := s₂.clock.now, good := 0 }, fun _ => rfl, rfl⟩

theorem State.loopAcquire_length (s : State) (k : Nat) : (s.loopAcquire k).ck.loops.length = s.ck.loops.length := by
  obtain ⟨g, _, hl⟩ := s.loopAcquire_loops k
  rw [hl, length_modifyAt]

theorem State.loopAcquire_started (h : k < s.ck.loops.length) : ((s.loopAcquire k).loop k).started = true := by
  obtain ⟨g, hg, hl⟩ := s.loopAcquire_loops k
  rw [State.loop, hl, List.getD_eq_getElem?_getD, getElem?_modifyAt, List.getElem?_eq_getElem h]
  exact hg _

theorem State.loopAcquire_loop (h : j ≠ k) : (s.loopAcquire k).loop j = s.loop j := by
  obtain ⟨g, _, hl⟩ := s.loopAcquire_loops k
  rw [State.loop, hl, List.getD_eq_getElem?_getD, get_modifyAt_ne _ _ h, ← List.getD_eq_getElem?_getD, State.loop]

/-- The stage that is entered is the one shown. -/
theorem State.stage_setStage (s : State) (n : Nat) : (s.setStage n).stage = n % 8 := State.f_setF_self _ _ _ _ (by decide)

/-- Entering a stage leaves every other register. -/
theorem State.reg_setStage (h : a ≠ Reg.PWR_STAT) : (s.setStage n).reg a = s.reg a := State.reg_setF_ne _ _ h

/-! ### ROM_STAGE -/

theorem State.reg_shadowWrite_self {d : RegDef} (s : State) (hd : regAt a = some d) (v : Word) :
    (s.shadowWrite a v).reg a = writtenWord d (s.reg a) v := by
  simp only [State.shadowWrite, State.shadowAt, hd]
  exact State.reg_setReg_self _ _ _

theorem State.reg_shadowWrite_ne {b : Nat} (h : b ≠ a) (v : Word) : (s.shadowWrite a v).reg b = s.reg b := by
  unfold State.shadowWrite State.shadowAt
  split
  · rfl
  · exact State.reg_setReg_ne _ _ h

/-- Factory defects are written to the defect table from entry `n` on, each with FACTORY set (R43, R168). -/
def State.loadDefects (s : State) (n : Nat) (l : List Word) : State :=
  (numbered n l).foldl (fun s p => s.shadowWrite (Reg.PIPE_DEFECT p.1) (Fld.PIPE_DEFECT_FACTORY.set p.2 1)) s

theorem State.loadDefects_cons {w : Word} {r : List Word} : s.loadDefects n (w :: r) =
    (s.shadowWrite (Reg.PIPE_DEFECT n) (Fld.PIPE_DEFECT_FACTORY.set w 1)).loadDefects (n + 1) r := rfl

theorem defectAddr_ne (hi : i < 4096) (hn : n < 4096) (h : i ≠ n) : Reg.PIPE_DEFECT i ≠ Reg.PIPE_DEFECT n := by
  simp only [Reg.PIPE_DEFECT, Nat.mod_eq_of_lt hi, Nat.mod_eq_of_lt hn]
  omega

theorem State.loadDefects_before {l : List Word} (hl : n + l.length ≤ 4096) (hi : i < n) :
    (s.loadDefects n l).reg (Reg.PIPE_DEFECT i) = s.reg (Reg.PIPE_DEFECT i) := by
  induction l generalizing n s with
  | nil => rfl
  | cons w r ih =>
    rw [List.length_cons] at hl
    rw [State.loadDefects_cons, ih (by omega) (by omega), State.reg_shadowWrite_ne (defectAddr_ne (by omega) (by omega) (by omega))]

theorem State.loadDefects_reg {l : List Word} {w : Word} {d : RegDef} (hl : n + l.length ≤ 4096) (hj : n + i = j) (hw : l[i]? = some w)
    (hd : regAt (Reg.PIPE_DEFECT j) = some d) : (s.loadDefects n l).reg (Reg.PIPE_DEFECT j) =
      writtenWord d (s.reg (Reg.PIPE_DEFECT j)) (Fld.PIPE_DEFECT_FACTORY.set w 1) := by
  induction l generalizing n s i with
  | nil => contradiction
  | cons x r ih =>
    rw [List.length_cons] at hl
    rw [State.loadDefects_cons]
    cases i with
    | zero =>
      obtain rfl : x = w := Option.some.inj hw
      obtain rfl : n = j := hj
      rw [State.loadDefects_before (by omega) (by omega), State.reg_shadowWrite_self s hd]
    | succ i =>
      have hw : r[i]? = some w := hw
      have : i < r.length := (List.getElem?_eq_some_iff.mp hw).1
      rw [ih (by omega) (by omega) hw, State.reg_shadowWrite_ne (defectAddr_ne (by omega) (by omega) (by omega))]

/-- R367: the ROM stage loads the factory defects and starts loops 0 and 1. -/
theorem State.romStage_eq (h : s.boot.inReset = false ∧ s.boot.thermal = false ∧ s.stage = 0) :
    s.romStage = (((s.loadDefects 0 (s.otp.defects.take 4096)).loopAcquire 0).loopAcquire 1).setStage 1 := if_pos (by simpa using h)

theorem State.romStage_idle (h : ¬ (s.boot.inReset = false ∧ s.boot.thermal = false ∧ s.stage = 0)) : s.romStage = s := if_neg (by simpa using h)

theorem State.loadDefects_within (s : State) (n : Nat) (l : List Word) : Within 0x800002 0 0 s (s.loadDefects n l) :=
  Within.foldl (fun _ _ => State.shadowWrite_within ⟨by decide, .inl (by decide)⟩) (.refl _ _ _ _)

/-- What follows the factory defects in the ROM stage leaves them. -/
theorem State.startLoops_within (s : State) : Within 0x2000001810160228500000000000000000000002000401c881 0 0 s (((s.loopAcquire 0).loopAcquire 1).setStage 1) :=
  State.setStage_within ⟨by decide, .inl (by decide)⟩ (State.loopAcquire_within ⟨by decide, .inl (by decide)⟩
    (State.loopAcquire_within ⟨by decide, .inl (by decide)⟩ (.refl _ _ _ _)))

/-- R367: the loops 0 and 1 are in acquisition when the ROM stage ends. -/
theorem State.startLoops_starts (hl : s.ck.loops.length = 12) :
    let u := ((s.loopAcquire 0).loopAcquire 1).setStage 1
    u.stage = 1 ∧ u.acquiring 0 = true ∧ u.acquiring 1 = true ∧ (u.loop 0).started = true ∧ (u.loop 1).started = true := by
  have acquiring (u : State) (j : Nat) : (u.setStage 1).acquiring j = u.acquiring j :=
    State.flag_of_reg _ (State.reg_setStage (by simp only [Reg.CK_PSTAT, Reg.PWR_STAT]; omega))
  have loop (u : State) (j : Nat) : (u.setStage 1).loop j = u.loop j := rfl
  refine ⟨State.stage_setStage _ 1, ?_, ?_, ?_, ?_⟩
  · exact (acquiring _ 0).trans ((State.loopAcquire_others (by decide)).trans (State.loopAcquire_acquiring s 0))
  · exact (acquiring _ 1).trans (State.loopAcquire_acquiring _ 1)
  · rw [loop, State.loopAcquire_loop (by decide)]
    exact State.loopAcquire_started (by omega)
  · rw [loop]
    exact State.loopAcquire_started (by rw [State.loopAcquire_length]; omega)

theorem State.romStage_starts (h : s.boot.inReset = false ∧ s.boot.thermal = false ∧ s.stage = 0) (hl : s.ck.loops.length = 12) :
    s.romStage.stage = 1 ∧ s.romStage.acquiring 0 = true ∧ s.romStage.acquiring 1 = true ∧
      (s.romStage.loop 0).started = true ∧ (s.romStage.loop 1).started = true := by
  have ck (l : List Word) : (s.loadDefects 0 l).ck = s.ck := (s.loadDefects_within 0 l).ck rfl
  rw [State.romStage_eq h]
  exact State.startLoops_starts (by rw [ck, hl])

/-- R43, R168: the factory defects stand in the defect table after the ROM stage, marked as such. -/
theorem State.romStage_defects (h : s.boot.inReset = false ∧ s.boot.thermal = false ∧ s.stage = 0) {w : Word} {d : RegDef} (hi : i < 4096)
    (hw : s.otp.defects[i]? = some w) (hd : regAt (Reg.PIPE_DEFECT i) = some d) : s.romStage.reg (Reg.PIPE_DEFECT i) =
      writtenWord d (s.reg (Reg.PIPE_DEFECT i)) (Fld.PIPE_DEFECT_FACTORY.set w 1) := by
  have taken : (s.otp.defects.take 4096)[i]? = some w := by rw [List.getElem?_take, if_pos hi, hw]
  have bound : 0 + (s.otp.defects.take 4096).length ≤ 4096 := by rw [Nat.zero_add]; exact List.length_take_le _ _
  rw [State.romStage_eq h, (State.startLoops_within _).keepReg .PIPE_DEFECT i 0 rfl rfl]
  exact State.loadDefects_reg bound (Nat.zero_add i) taken hd

/-! ### IMAGE_SELECTION: the checks of the slots -/

theorem bytesNat_lt (l : List Byte) : bytesNat l < 256 ^ l.length := by
  induction l with
  | nil => exact Nat.one_pos
  | cons b r ih =>
    have : b.toNat < 256 := b.isLt
    rw [bytesNat, List.length_cons, Nat.pow_succ]
    omega

/-- A slot's VERSION has four bytes (R371). -/
theorem State.version_lt (s : State) (i : Nat) : s.header i 8 4 < 2 ^ 32 := by
  have h := bytesNat_lt (s.flashBytes (s.slotBase i + 8) 4)
  rwa [State.flashBytes, List.length_map, List.length_range] at h

/-- From `s` to `t` no register but those that show the slots has changed, and the flash has not. -/
def SameFlash (s t : State) : Prop := t.flash = s.flash ∧ ∀ a, (∀ i, a ≠ Reg.CFG_SLOT i) → t.reg a = s.reg a

theorem SameFlash.trans {u : State} (h : SameFlash s t) (k : SameFlash t u) : SameFlash s u :=
  ⟨k.1.trans h.1, fun a ha => (k.2 a ha).trans (h.2 a ha)⟩

/-- What the checks read of the flash is the same where flash and slot size are. -/
theorem State.flash_congr (hf : t.flash = s.flash) (hi : t.reg Reg.CFG_FL_INFO = s.reg Reg.CFG_FL_INFO) :
    t.header = s.header ∧ t.markSet = s.markSet ∧ t.slotBytes = s.slotBytes := by
  have bytes : t.slotBytes = s.slotBytes := congrArg (· * 1048576) (State.f_of_reg _ hi)
  have byte : t.flashByte = s.flashByte := by funext a; rw [State.flashByte, hf, State.flashByte]
  have base : t.slotBase = s.slotBase := by funext i; rw [State.slotBase, bytes, State.slotBase]
  refine ⟨?_, ?_, bytes⟩
  · funext i off n
    simp only [State.header, State.flashBytes, byte, base]
  · funext i off
    simp only [State.markSet, byte, base]

theorem slotAddr_ne (h : a < 0x9000010 ∨ 0x9000030 ≤ a) (i : Nat) : a ≠ Reg.CFG_SLOT i := by
  simp only [Reg.CFG_SLOT]
  omega

theorem SameFlash.header (h : SameFlash s t) : t.header = s.header ∧ t.markSet = s.markSet ∧ t.slotBytes = s.slotBytes :=
  State.flash_congr h.1 (h.2 Reg.CFG_FL_INFO (slotAddr_ne (by decide)))

/-- R373: the result of a slot's check does not depend on what is shown of the slots. -/
theorem SameFlash.slotFail (h : SameFlash s t) (i : Nat) (v : SlotVerdict) : t.slotFail i v = s.slotFail i v := by
  obtain ⟨hh, hm, hb⟩ := h.header
  have part : t.f Reg.ID_PART = s.f Reg.ID_PART := by
    funext f
    exact State.f_of_reg f (h.2 _ (slotAddr_ne (by decide)))
  have devid : t.devid = s.devid := h.2 _ (slotAddr_ne (by decide))
  have keys : t.keyUsable = s.keyUsable := by
    funext k
    have hk : t.reg (Reg.SEC_KEY_ST k) = s.reg (Reg.SEC_KEY_ST k) := h.2 _ (slotAddr_ne (.inr (by simp only [Reg.SEC_KEY_ST]; omega)))
    simp only [State.keyUsable, State.flag_of_reg _ hk]
  have fits : t.headerFits i = s.headerFits i := by rw [State.headerFits, State.headerFits, hb, hh, part, devid]
  have tries : t.attempts i = s.attempts i := by rw [State.attempts, State.attempts, hm]
  rw [State.slotFail, State.slotFail, hh, hm, fits, tries, keys]

theorem State.slotFail_lt (s : State) (i : Nat) (v : SlotVerdict) : s.slotFail i v < 16 := by
  unfold State.slotFail
  repeat' split
  all_goals decide

/-- A field is left by a write to a field that shares no bit with it, in its register or in another. -/
theorem State.f_setF_apart {b : Nat} {f g : Field} (v : Nat) (h : g.lo + g.width ≤ f.lo ∨ f.lo + f.width ≤ g.lo) :
    (s.setF a f v).f b g = s.f b g := by
  by_cases e : b = a
  · subst e
    exact State.f_setF_disjoint s b f g v h
  · exact State.f_setF_ne s f g v e

/-- Showing a slot's marks leaves every field of the slots' registers below and above the marks. -/
theorem State.f_showMarks {b : Nat} {g : Field} (h : g.lo + g.width ≤ 35 ∨ 39 ≤ g.lo) : (s.showMarks i).f b g = s.f b g := by
  have apart (f : Field) (hf : 35 ≤ f.lo ∧ f.lo + f.width ≤ 39) : g.lo + g.width ≤ f.lo ∨ f.lo + f.width ≤ g.lo := by omega
  exact (State.f_setF_apart _ (apart _ (by decide))).trans ((State.f_setF_apart _ (apart _ (by decide))).trans (State.f_setF_apart _ (apart _ (by decide))))

/-- R373, R391: what a slot's register shows after its check. -/
def ShowsCheck (s t : State) (i : Nat) (v : SlotVerdict) : Prop :=
  t.slotValid i = (s.slotFail i v == 0) ∧ t.f (Reg.CFG_SLOT i) Fld.CFG_SLOT_FAIL = s.slotFail i v ∧
    t.f (Reg.CFG_SLOT i) Fld.CFG_SLOT_VERSION = s.header i 8 4

theorem State.checkSlot_shows (s : State) (i : Nat) (v : SlotVerdict) : ShowsCheck s (s.checkSlot i v) i v := by
  unfold State.checkSlot
  extract_lets n s₁
  refine ⟨?_, ?_, ?_⟩
  · refine (State.flag_of_f (State.f_showMarks (by decide))).trans ?_
    exact (State.flag_setF_disjoint _ _ _ _ (by decide)).trans (State.flag_setB_self s₁ _ _ _ (by decide) rfl)
  · refine (State.f_showMarks (by decide)).trans ((State.f_setF_self _ _ _ _ (by decide)).trans ?_)
    exact Nat.mod_eq_of_lt (s.slotFail_lt i v)
  · refine (State.f_showMarks (by decide)).trans ?_
    refine (State.f_setF_apart _ (by decide)).trans ((State.f_setF_apart _ (by decide)).trans ((State.f_setF_apart _ (by decide)).trans ?_))
    exact (State.f_setF_self _ _ _ _ (by decide)).trans (Nat.mod_eq_of_lt (s.version_lt i))

/-- The check of a slot leaves every register but the slot's. -/
theorem State.reg_checkSlot (h : a ≠ Reg.CFG_SLOT i) : (s.checkSlot i v).reg a = s.reg a := by
  simp only [State.checkSlot, State.showMarks, State.reg_setB_ne _ _ h, State.reg_setF_ne _ _ h]

theorem State.checkSlot_same : SameFlash s (s.checkSlot i v) := ⟨rfl, fun _ h => State.reg_checkSlot (h i)⟩

theorem ShowsCheck.congr {u : State} (h : ShowsCheck s t i v) (hr : u.reg (Reg.CFG_SLOT i) = t.reg (Reg.CFG_SLOT i)) : ShowsCheck s u i v := by
  simpa only [ShowsCheck, State.slotValid, State.flag, State.f, hr] using h

/-- What a check of `t` shows is what one of `s` would, where they differ in what is shown of the slots alone. -/
theorem ShowsCheck.before {u : State} (h : ShowsCheck t u i v) (k : SameFlash s t) : ShowsCheck s u i v := by
  rwa [ShowsCheck, k.slotFail, k.header.1] at h

/-- The slots of a list are checked one after the other. -/
def State.checkSlots (s : State) (vs : List SlotVerdict) (l : List Nat) : State :=
  l.foldl (fun s i => s.checkSlot i (vs.getD i ⟨false, false, false, false⟩)) s

variable {vs : List SlotVerdict} {l : List Nat}

theorem State.checkSlots_same : SameFlash s (s.checkSlots vs l) :=
  List.foldlRecOn l _ (motive := SameFlash s) ⟨rfl, fun _ _ => rfl⟩ fun _ h _ _ => h.trans State.checkSlot_same

theorem State.reg_checkSlots (h : ∀ i ∈ l, a ≠ Reg.CFG_SLOT i) : (s.checkSlots vs l).reg a = s.reg a :=
  List.foldlRecOn l _ (motive := fun t : State => t.reg a = s.reg a) rfl fun _ ht i hi => (State.reg_checkSlot (h i hi)).trans ht

/-- R373: after the checks every slot shows its own, which the other slots' checks neither change nor decide. -/
theorem State.checkSlots_shows (hl : l.Nodup) (h4 : ∀ i ∈ l, i < 4) (hi : i ∈ l) :
    ShowsCheck s (s.checkSlots vs l) i (vs.getD i ⟨false, false, false, false⟩) := by
  have apart {i j : Nat} (hi : i < 4) (hj : j < 4) (h : i ≠ j) : Reg.CFG_SLOT i ≠ Reg.CFG_SLOT j := by
    simp only [Reg.CFG_SLOT]
    omega
  induction l generalizing s with
  | nil => contradiction
  | cons j r ih =>
    obtain ⟨hj, hr⟩ := List.nodup_cons.mp hl
    rcases List.mem_cons.mp hi with rfl | hi'
    · refine (State.checkSlot_shows s i _).congr (State.reg_checkSlots fun k hk => apart (h4 i hi) (h4 k (List.mem_cons_of_mem _ hk)) ?_)
      exact fun e => hj (e ▸ hk)
    · exact (ih hr (fun k hk => h4 k (List.mem_cons_of_mem _ hk)) hi').before State.checkSlot_same

/-! ### IMAGE_SELECTION: the choice -/

/-- `acc` is the valid slot below `n` with the highest VERSION, the lowest on a tie (R374). -/
def State.BestBelow (s : State) (n : Nat) : Option Nat → Prop
  | none => ∀ i < n, s.slotValid i = false
  | some k => k < n ∧ s.slotValid k = true ∧ ∀ i < n, s.slotValid i = true →
      s.f (Reg.CFG_SLOT i) Fld.CFG_SLOT_VERSION < s.f (Reg.CFG_SLOT k) Fld.CFG_SLOT_VERSION ∨
        s.f (Reg.CFG_SLOT i) Fld.CFG_SLOT_VERSION = s.f (Reg.CFG_SLOT k) Fld.CFG_SLOT_VERSION ∧ k ≤ i

/-- One slot more is considered. -/
def State.better (s : State) (acc : Option Nat) (i : Nat) : Option Nat :=
  if !s.slotValid i then acc
  else
    match acc with
    | none => some i
    | some j => if s.f (Reg.CFG_SLOT j) Fld.CFG_SLOT_VERSION < s.f (Reg.CFG_SLOT i) Fld.CFG_SLOT_VERSION then some i else some j

theorem State.chooseSlot_eq (s : State) : s.chooseSlot = s.better (s.better (s.better (s.better none 0) 1) 2) 3 := rfl

theorem State.BestBelow.better {acc : Option Nat} (h : s.BestBelow n acc) : s.BestBelow (n + 1) (s.better acc n) := by
  have below {i : Nat} (hi : i < n + 1) : i < n ∨ i = n := by omega
  unfold State.better
  cases hv : s.slotValid n with
  | false =>
    cases acc with
    | none => exact fun i hi => (below hi).elim (h i) fun e => e ▸ hv
    | some k =>
      obtain ⟨hk, hkv, best⟩ := h
      exact ⟨by omega, hkv, fun i hi hiv => (below hi).elim (fun hi => best i hi hiv) fun e => by rw [e, hv] at hiv; contradiction⟩
  | true =>
    cases acc with
    | none =>
      refine ⟨Nat.lt_succ_self n, hv, fun i hi hiv => ?_⟩
      rcases below hi with hi | rfl
      · rw [h i hi] at hiv; contradiction
      · exact .inr ⟨rfl, Nat.le_refl i⟩
    | some k =>
      obtain ⟨hk, hkv, best⟩ := h
      simp only [Bool.not_true, Bool.false_eq_true, if_false]
      split
      case isTrue higher =>
        refine ⟨Nat.lt_succ_self n, hv, fun i hi hiv => ?_⟩
        rcases below hi with hi | rfl
        · have := best i hi hiv
          omega
        · exact .inr ⟨rfl, Nat.le_refl i⟩
      case isFalse =>
        refine ⟨by omega, hkv, fun i hi hiv => ?_⟩
        rcases below hi with hi | rfl
        · exact best i hi hiv
        · omega

theorem State.chooseSlot_best (s : State) : s.BestBelow 4 s.chooseSlot := by
  have none : s.BestBelow 0 none := fun i hi => absurd hi (Nat.not_lt_zero i)
  rw [State.chooseSlot_eq]
  exact none.better.better.better.better

/-- Without a valid slot none is chosen. -/
theorem State.chooseSlot_none (h : ∀ i < 4, s.slotValid i = false) : s.chooseSlot = none := by
  have best := s.chooseSlot_best
  cases hc : s.chooseSlot with
  | none => rfl
  | some k =>
    rw [hc] at best
    obtain ⟨hk, valid, _⟩ := best
    rw [h k hk] at valid
    contradiction

/-! ### IMAGE_SELECTION: the boot -/

/-- The checked slots, or those shown before where the flash's geometry cannot be read (R370, R374). -/
def State.slotsRead (s : State) (vs : List SlotVerdict) : State :=
  if s.flag Reg.CFG_FL_INFO Fld.CFG_FL_INFO_SFDP_OK then s.checkSlots vs [0, 1, 2, 3] else s

/-- The chosen slot is booted, or recovery begins (R374, R377). -/
def State.bootChosen (s : State) : State :=
  match s.chooseSlot with
  | some i => s.bootSlot i
  | none => s.setB Reg.CFG_BOOT_STAT Fld.CFG_BOOT_STAT_RECOVERY true

/-- Staged start begins (R368). -/
def State.beginStaged (s : State) : State :=
  ({ s with boot := { s.boot with stagedAt := s.clock.now, stagedNext := 0 } } : State).setStage 2

variable {sfdpOk : Bool} {density mhz : Nat}

theorem State.selectImage_eq (h : s.boot.inReset = false ∧ s.stage = 1) :
    s.selectImage sfdpOk density mhz vs = ((s.readSfdp sfdpOk density mhz).slotsRead vs).bootChosen.beginStaged := if_pos (by simpa using h)

theorem State.selectImage_idle (h : ¬ (s.boot.inReset = false ∧ s.stage = 1)) : s.selectImage sfdpOk density mhz vs = s := if_neg (by simpa using h)

/-- R368: after the selection staged start is to begin. -/
theorem State.selectImage_next (h : s.boot.inReset = false ∧ s.stage = 1) :
    (s.selectImage sfdpOk density mhz vs).stage = 2 ∧ (s.selectImage sfdpOk density mhz vs).boot.stagedAt = s.clock.now ∧
      (s.selectImage sfdpOk density mhz vs).boot.stagedNext = 0 := by
  have now := (State.selectImage_within (sfdpOk := sfdpOk) (density := density) (mhz := mhz) (vs := vs) (Foot.refl _ _ _) (.refl _ _ _ s)).now
  rw [State.selectImage_eq h] at now ⊢
  exact ⟨State.stage_setStage _ 2, now, rfl⟩

/-- R370: SFDP_OK says whether the flash's geometry could be read and is large enough. -/
theorem State.readSfdp_ok (s : State) : (s.readSfdp sfdpOk density mhz).flag Reg.CFG_FL_INFO Fld.CFG_FL_INFO_SFDP_OK = (sfdpOk && decide (32 ≤ density)) := by
  unfold State.readSfdp
  extract_lets ok s₁
  refine (State.flag_setF_disjoint _ _ _ _ (by decide)).trans ((State.flag_setF_disjoint _ _ _ _ (by decide)).trans ?_)
  exact (State.flag_setF_disjoint _ _ _ _ (by decide)).trans (State.flag_setB_self _ _ _ _ (by decide) rfl)

theorem State.slotsRead_checks (hs : sfdpOk = true) (hd : 32 ≤ density) : (s.readSfdp sfdpOk density mhz).slotsRead vs =
    (s.readSfdp sfdpOk density mhz).checkSlots vs [0, 1, 2, 3] := if_pos (by rw [State.readSfdp_ok]; simp [hs, hd])

theorem State.slotsRead_none (h : sfdpOk = false ∨ density < 32) : (s.readSfdp sfdpOk density mhz).slotsRead vs = s.readSfdp sfdpOk density mhz :=
  if_neg (by rw [State.readSfdp_ok]; rcases h with h | h <;> simp [h])

/-- R373, R374: after the selection's checks every slot shows its own. -/
theorem State.slotsRead_shows (hs : sfdpOk = true) (hd : 32 ≤ density) (hi : i < 4) :
    ShowsCheck (s.readSfdp sfdpOk density mhz) ((s.readSfdp sfdpOk density mhz).slotsRead vs) i (vs.getD i ⟨false, false, false, false⟩) := by
  rw [State.slotsRead_checks hs hd]
  exact State.checkSlots_shows (by decide) (by decide) (by simp only [List.mem_cons, List.not_mem_nil, or_false]; omega)

/-- The flash and the boot state stand while the slots are read. -/
theorem State.slotsRead_within (s : State) : Within 0x18000000000000000000000000000000000000000000000000000 0 0 s ((s.readSfdp sfdpOk density mhz).slotsRead vs) := by
  have read : Within 0x18000000000000000000000000000000000000000000000000000 0 0 s (s.readSfdp sfdpOk density mhz) :=
    State.readSfdp_within ⟨by decide, .inl (by decide)⟩ (.refl _ _ _ _)
  exact .ite (.foldl (fun _ _ => State.checkSlot_within ⟨by decide, .inl (by decide)⟩) read) read

/-- R374, R377: without a valid slot the device starts in recovery, and the flash stands. -/
theorem State.selectImage_recovers (h : s.boot.inReset = false ∧ s.stage = 1)
    (none : ∀ i < 4, ((s.readSfdp sfdpOk density mhz).slotsRead vs).slotValid i = false) :
    (s.selectImage sfdpOk density mhz vs).flag Reg.CFG_BOOT_STAT Fld.CFG_BOOT_STAT_RECOVERY = true ∧
      (s.selectImage sfdpOk density mhz vs).flash = s.flash ∧ (s.selectImage sfdpOk density mhz vs).boot.booted = s.boot.booted := by
  have w := s.slotsRead_within (sfdpOk := sfdpOk) (density := density) (mhz := mhz) (vs := vs)
  rw [State.selectImage_eq h, State.bootChosen, State.chooseSlot_none none]
  refine ⟨?_, w.flash rfl, congrArg (·.booted) (w.boot rfl)⟩
  exact (State.flag_of_reg _ (State.reg_setStage (by decide))).trans (State.flag_setB_self _ _ _ _ (by decide) rfl)

/-- The chosen slot is noted (R374). -/
def State.bootNoted (s : State) (i : Nat) : State :=
  (({ s with boot := { s.boot with booted := some i } } : State).setF Reg.CFG_BOOT_STAT Fld.CFG_BOOT_STAT_SLOT i).setF Reg.CFG_BOOT_STAT
    Fld.CFG_BOOT_STAT_VERSION (s.f (Reg.CFG_SLOT i) Fld.CFG_SLOT_VERSION)

theorem State.bootNoted_flash : (s.bootNoted i).markSet = s.markSet ∧ (s.bootNoted i).slotBytes = s.slotBytes :=
  (State.flash_congr (t := s.bootNoted i) (s := s) rfl ((State.reg_setF_ne _ _ (by decide)).trans (State.reg_setF_ne _ _ (by decide)))).2

/-- R375: a slot that is not confirmed has the first of its ATTEMPT marks that is erased programmed. -/
theorem State.bootSlot_eq (s : State) (i : Nat) : s.bootSlot i =
    if s.markSet i 0x803 then s.bootNoted i
    else
      match [0x800, 0x801, 0x802].find? fun o => !s.markSet i o with
      | some o => ((s.bootNoted i).putMark i o).showMarks i
      | none => s.bootNoted i := by
  rw [← State.bootNoted_flash.1]
  rfl

theorem State.bootSlot_marks (s : State) (i : Nat) :
    s.bootSlot i = s.bootNoted i ∨ ∃ o, s.bootSlot i = ((s.bootNoted i).putMark i o).showMarks i := by
  rw [State.bootSlot_eq]
  split
  · exact .inl rfl
  · split
    · exact .inr ⟨_, rfl⟩
    · exact .inl rfl

theorem State.bootSlot_booted (s : State) (i : Nat) : (s.bootSlot i).boot.booted = some i := by
  rcases s.bootSlot_marks i with h | ⟨o, h⟩ <;> rw [h] <;> rfl

/-- The slot that is booted and its VERSION are shown (R391). -/
theorem State.bootSlot_stat (s : State) (hi : i < 4) :
    (s.bootSlot i).f Reg.CFG_BOOT_STAT Fld.CFG_BOOT_STAT_SLOT = i ∧
      (s.bootSlot i).f Reg.CFG_BOOT_STAT Fld.CFG_BOOT_STAT_VERSION = s.f (Reg.CFG_SLOT i) Fld.CFG_SLOT_VERSION := by
  have stat : (s.bootSlot i).reg Reg.CFG_BOOT_STAT = (s.bootNoted i).reg Reg.CFG_BOOT_STAT := by
    have off : Reg.CFG_BOOT_STAT ≠ Reg.CFG_SLOT i := slotAddr_ne (by decide) i
    rcases s.bootSlot_marks i with h | ⟨o, h⟩
    · rw [h]
    · rw [h, State.showMarks, State.reg_setB_ne _ _ off, State.reg_setB_ne _ _ off, State.reg_setF_ne _ _ off]
      rfl
  rw [State.f_of_reg _ stat, State.f_of_reg _ stat]
  refine ⟨?_, ?_⟩
  · exact (State.f_setF_disjoint _ _ _ _ _ (by decide)).trans ((State.f_setF_self _ _ _ _ (by decide)).trans (Nat.mod_eq_of_lt hi))
  · exact (State.f_setF_self _ _ _ _ (by decide)).trans (Nat.mod_eq_of_lt (Nat.mod_lt _ (Nat.two_pow_pos _)))

/-- The boot changes the marks alone of what is shown of the slots. -/
theorem State.bootSlot_slots {g : Field} (h : g.lo + g.width ≤ 35 ∨ 39 ≤ g.lo) : (s.bootSlot i).f (Reg.CFG_SLOT j) g = s.f (Reg.CFG_SLOT j) g := by
  have off : Reg.CFG_SLOT j ≠ Reg.CFG_BOOT_STAT := (slotAddr_ne (by decide) j).symm
  have noted : (s.bootNoted i).f (Reg.CFG_SLOT j) g = s.f (Reg.CFG_SLOT j) g :=
    State.f_of_reg _ ((State.reg_setF_ne _ _ off).trans (State.reg_setF_ne _ _ off))
  rcases s.bootSlot_marks i with e | ⟨o, e⟩
  · rw [e, noted]
  · rw [e, State.f_showMarks h]
    exact noted

theorem State.bootSlot_confirmed (h : s.markSet i 0x803 = true) : (s.bootSlot i).flash = s.flash := by
  rw [State.bootSlot_eq, if_pos h]
  rfl

theorem State.putMark_congr {o : Nat} (hf : t.flash = s.flash) (hb : t.slotBytes = s.slotBytes) : (t.putMark i o).flash = (s.putMark i o).flash := by
  rw [State.putMark, State.putMark, State.slotBase, hb, ← State.slotBase, State.putFlash, State.putFlash, hf]

theorem State.bootSlot_attempts (h : s.markSet i 0x803 = false) (h0 : s.markSet i 0x800 = false) : (s.bootSlot i).flash = (s.putMark i 0x800).flash := by
  rw [State.bootSlot_eq, if_neg (by simp [h]), List.find?_cons_of_pos (by simp [h0])]
  exact State.putMark_congr (s := s) (t := s.bootNoted i) rfl State.bootNoted_flash.2

/-- The choice shows in CFG_SLOT no more than the boot does: VALID, FAIL and VERSION of every slot stand. -/
theorem State.bootChosen_slots {g : Field} (h : g.lo + g.width ≤ 35 ∨ 39 ≤ g.lo) (s : State) (j : Nat) :
    s.bootChosen.f (Reg.CFG_SLOT j) g = s.f (Reg.CFG_SLOT j) g := by
  unfold State.bootChosen
  split
  · exact State.bootSlot_slots h
  · exact State.f_of_reg _ (State.reg_setF_ne _ _ (slotAddr_ne (by decide) j).symm)

/-- With a valid slot the best one is booted. -/
theorem State.bootChosen_best (s : State) (valid : ∃ i < 4, s.slotValid i = true) : ∃ k, s.bootChosen = s.bootSlot k ∧ s.BestBelow 4 (some k) := by
  have best := s.chooseSlot_best
  unfold State.bootChosen
  split
  case h_1 k hk => exact ⟨k, rfl, hk ▸ best⟩
  case h_2 none =>
    rw [none] at best
    obtain ⟨i, hi, valid⟩ := valid
    rw [best i hi] at valid
    contradiction

/-- `u` has booted slot `k` of those that `r` holds, whose checks have the verdicts `v` (R374, R375). -/
def Boots (r u : State) (v : Nat → SlotVerdict) (k : Fin 4) : Prop :=
  r.slotFail k.val (v k.val) = 0 ∧ u.boot.booted = some k.val ∧
    u.f Reg.CFG_BOOT_STAT Fld.CFG_BOOT_STAT_SLOT = k.val ∧ u.f Reg.CFG_BOOT_STAT Fld.CFG_BOOT_STAT_VERSION = r.header k.val 8 4 ∧
    (∀ i : Fin 4, r.slotFail i.val (v i.val) = 0 → r.header i.val 8 4 < r.header k.val 8 4 ∨ r.header i.val 8 4 = r.header k.val 8 4 ∧ k ≤ i) ∧
    (r.markSet k.val 0x803 = true → u.flash = r.flash) ∧
    (r.markSet k.val 0x803 = false → r.markSet k.val 0x800 = false → u.flash = (r.putMark k.val 0x800).flash)

theorem State.bootSlot_boots {r c : State} {v : Nat → SlotVerdict} (same : SameFlash r c) (shows : ∀ i < 4, ShowsCheck r c i (v i))
    {k : Nat} (best : c.BestBelow 4 (some k)) : ∃ h : k < 4, Boots r (c.bootSlot k) v ⟨k, h⟩ := by
  obtain ⟨hk, valid, best⟩ := best
  have passes {i : Nat} (hi : i < 4) : c.slotValid i = true ↔ r.slotFail i (v i) = 0 := by
    rw [(shows i hi).1, beq_iff_eq]
  have version {i : Nat} (hi : i < 4) : c.f (Reg.CFG_SLOT i) Fld.CFG_SLOT_VERSION = r.header i 8 4 := (shows i hi).2.2
  obtain ⟨_, marks, bytes⟩ := same.header
  obtain ⟨slot, stat⟩ := c.bootSlot_stat hk
  refine ⟨hk, (passes hk).mp valid, c.bootSlot_booted k, slot, stat.trans (version hk), ?_, ?_, ?_⟩
  · intro i hi
    have := best i.val i.isLt ((passes i.isLt).mpr hi)
    rwa [version i.isLt, version hk] at this
  · intro confirmed
    rw [← marks] at confirmed
    exact (State.bootSlot_confirmed confirmed).trans same.1
  · intro unconfirmed first
    rw [← marks] at unconfirmed first
    exact (State.bootSlot_attempts unconfirmed first).trans (State.putMark_congr same.1 bytes)

/-- R374, R375: the valid slot with the highest VERSION, the lowest on a tie, is booted, and an attempt is marked where it is not confirmed. -/
theorem State.bootChosen_boots {r c : State} {v : Nat → SlotVerdict} (same : SameFlash r c) (shows : ∀ i < 4, ShowsCheck r c i (v i))
    (valid : ∃ i : Fin 4, r.slotFail i.val (v i.val) = 0) : ∃ k, Boots r c.bootChosen v k := by
  obtain ⟨i, hi⟩ := valid
  have valid : c.slotValid i.val = true := by rw [(shows i.val i.isLt).1, hi]; rfl
  obtain ⟨k, booted, best⟩ := c.bootChosen_best ⟨i.val, i.isLt, valid⟩
  obtain ⟨hk, boots⟩ := State.bootSlot_boots same shows best
  exact ⟨⟨k, hk⟩, booted ▸ boots⟩

/-- The start of staged start leaves the boot as it is. -/
theorem Boots.beginStaged {r u : State} {v : Nat → SlotVerdict} {k : Fin 4} (h : Boots r u v k) : Boots r u.beginStaged v k := by
  have stat (g : Field) : u.beginStaged.f Reg.CFG_BOOT_STAT g = u.f Reg.CFG_BOOT_STAT g := State.f_of_reg g (State.reg_setStage (by decide))
  obtain ⟨passes, booted, slot, version, best, confirmed, unconfirmed⟩ := h
  exact ⟨passes, booted, (stat _).trans slot, (stat _).trans version, best, confirmed, unconfirmed⟩

theorem State.selectImage_boots (h : s.boot.inReset = false ∧ s.stage = 1) (hs : sfdpOk = true) (hd : 32 ≤ density)
    (valid : ∃ i : Fin 4, (s.readSfdp sfdpOk density mhz).slotFail i.val (vs.getD i.val ⟨false, false, false, false⟩) = 0) :
    ∃ k, Boots (s.readSfdp sfdpOk density mhz) (s.selectImage sfdpOk density mhz vs) (fun i => vs.getD i ⟨false, false, false, false⟩) k := by
  have same : SameFlash (s.readSfdp sfdpOk density mhz) ((s.readSfdp sfdpOk density mhz).slotsRead vs) := by
    rw [State.slotsRead_checks hs hd]
    exact State.checkSlots_same
  obtain ⟨k, boots⟩ := State.bootChosen_boots same (fun _ hi => State.slotsRead_shows (vs := vs) hs hd hi) valid
  rw [State.selectImage_eq h]
  exact ⟨k, boots.beginStaged⟩

/-- R373: VALID, FAIL and VERSION of every slot are what its check gave. -/
theorem State.selectImage_slots {g : Field} (hg : g.lo + g.width ≤ 35 ∨ 39 ≤ g.lo) (h : s.boot.inReset = false ∧ s.stage = 1) (j : Nat) :
    (s.selectImage sfdpOk density mhz vs).f (Reg.CFG_SLOT j) g = ((s.readSfdp sfdpOk density mhz).slotsRead vs).f (Reg.CFG_SLOT j) g := by
  rw [State.selectImage_eq h]
  exact (State.f_of_reg g (State.reg_setStage (slotAddr_ne (by decide) j).symm)).trans (State.bootChosen_slots hg _ j)

/-- R373, R374: after the selection every slot shows the result of its check. -/
theorem State.selectImage_shows (h : s.boot.inReset = false ∧ s.stage = 1) (hs : sfdpOk = true) (hd : 32 ≤ density) (hi : i < 4) :
    ShowsCheck (s.readSfdp sfdpOk density mhz) (s.selectImage sfdpOk density mhz vs) i (vs.getD i ⟨false, false, false, false⟩) := by
  obtain ⟨valid, fail, version⟩ := State.slotsRead_shows (s := s) (mhz := mhz) (vs := vs) hs hd hi
  exact ⟨(State.flag_of_f (State.selectImage_slots (by decide) h i)).trans valid, (State.selectImage_slots (by decide) h i).trans fail,
    (State.selectImage_slots (by decide) h i).trans version⟩

/-- No slot that fails its check is valid. -/
theorem State.slotsRead_fails (hs : sfdpOk = true) (hd : 32 ≤ density)
    (fails : ∀ i : Fin 4, (s.readSfdp sfdpOk density mhz).slotFail i.val (vs.getD i.val ⟨false, false, false, false⟩) ≠ 0) :
    ∀ i < 4, ((s.readSfdp sfdpOk density mhz).slotsRead vs).slotValid i = false := by
  intro i hi
  rw [(State.slotsRead_shows hs hd hi).1]
  exact beq_false_of_ne (fails ⟨i, hi⟩)

/-- R370, R374: where the flash's geometry cannot be read, the slots are what they were. -/
theorem State.slotsRead_unread (h : sfdpOk = false ∨ density < 32) (j : Nat) :
    ((s.readSfdp sfdpOk density mhz).slotsRead vs).slotValid j = s.slotValid j := by
  have read : Within 0x10000000000000000000000000000000000000000000000000000 0 0 s (s.readSfdp sfdpOk density mhz) :=
    State.readSfdp_within ⟨by decide, .inl (by decide)⟩ (.refl _ _ _ _)
  rw [State.slotsRead_none h]
  exact State.flag_of_reg _ (read.keepReg .CFG_SLOT j 0 rfl rfl)

/-! ### STAGED_START_EVENT -/

/-- An event of staged start has come (R368). -/
def State.StagedDue (s : State) : Prop := s.stage = 2 ∧ s.boot.stagedAt + stagedOffset s.boot.stagedNext ≤ s.clock.now

/-- The next event is counted. -/
def State.stagedCounted (s : State) : State := { s with boot := { s.boot with stagedNext := s.boot.stagedNext + 1 } }

theorem State.stagedStep_idle (h : ¬ s.StagedDue) : s.stagedStep = s := if_neg h

theorem State.stagedStep_timetable (h : s.StagedDue) (hn : s.boot.stagedNext = 0) : s.stagedStep =
    { s.stagedCounted with boot := { s.stagedCounted.boot with ttOn := true }, clock := { s.clock with running := !s.acquiring 0 } } := by
  refine (if_pos h).trans ?_
  dsimp only
  exact if_pos hn

theorem State.stagedStep_band (h : s.StagedDue) (hn : 2 ≤ s.boot.stagedNext ∧ s.boot.stagedNext < 34) : s.stagedStep =
    (if s.boot.stagedNext = 2 then { s.stagedCounted with cc := { s.cc with gridAt := 16 * s.clock.tt } } else s.stagedCounted).restartBands
      (fun b => b == s.boot.stagedNext - 2) (16 * s.clock.tt) := by
  refine (if_pos h).trans ?_
  dsimp only
  rw [if_neg (by omega), if_pos hn]
  split <;> rfl

theorem State.stagedStep_loop (h : s.StagedDue) (hn : 51 ≤ s.boot.stagedNext ∧ s.boot.stagedNext ≤ 60) :
    s.stagedStep = s.stagedCounted.loopAcquire (s.boot.stagedNext - 49) := by
  refine (if_pos h).trans ?_
  dsimp only
  rw [if_neg (by omega), if_neg (by omega), if_pos hn]
  rfl

theorem State.stagedStep_end (h : s.StagedDue) (hn : s.boot.stagedNext = 61) : s.stagedStep = s.stagedCounted.setStage 3 := by
  refine (if_pos h).trans ?_
  dsimp only
  rw [if_neg (by omega), if_neg (by omega), if_neg (by omega), if_pos hn]
  rfl

/-- The acquisition of a loop leaves the boot state and the stage. -/
theorem State.loopAcquire_boot (s : State) (k : Nat) : (s.loopAcquire k).boot = s.boot ∧ (s.loopAcquire k).stage = s.stage := by
  have w : Within 0x2000001810160228500000000000000000000002000001c881 0 0 s (s.loopAcquire k) :=
    State.loopAcquire_within ⟨by decide, .inl (by decide)⟩ (.refl _ _ _ _)
  exact ⟨w.boot rfl, w.keepF .PWR_STAT 0 0 _ rfl rfl⟩

/-- R368: each event of staged start is followed by the next. -/
theorem State.stagedStep_next (h : s.StagedDue) : s.stagedStep.boot.stagedNext = s.boot.stagedNext + 1 := by
  refine (congrArg (fun u : State => u.boot.stagedNext) (if_pos h)).trans ?_
  dsimp only
  split
  · rfl
  · split
    · split <;> rfl
    · split
      · rw [(State.loopAcquire_boot _ _).1]
      · split <;> rfl

/-- R368: the converter grid starts with the first band. -/
theorem State.stagedStep_grid (h : s.StagedDue) (hn : s.boot.stagedNext = 2) : s.stagedStep.cc.gridAt = 16 * s.clock.tt := by
  rw [State.stagedStep_band h (by omega), if_pos hn]
  rfl

/-- R368: the events 51 to 60 start the loops 2 to 11. -/
theorem State.stagedStep_starts (h : s.StagedDue) (hn : 51 ≤ s.boot.stagedNext ∧ s.boot.stagedNext ≤ 60) (hl : s.ck.loops.length = 12) :
    s.stagedStep.acquiring (s.boot.stagedNext - 49) = true ∧ (s.stagedStep.loop (s.boot.stagedNext - 49)).started = true ∧ s.stagedStep.stage = 2 := by
  have inside : s.boot.stagedNext - 49 < s.stagedCounted.ck.loops.length := by
    rw [show s.stagedCounted.ck.loops.length = 12 from hl]
    omega
  rw [State.stagedStep_loop h hn]
  exact ⟨State.loopAcquire_acquiring _ _, State.loopAcquire_started inside, (State.loopAcquire_boot _ _).2.trans h.1⟩

/-! ### PORT_RELEASE -/

/-- The next group of ports is due (R369). -/
def State.ReleaseDue (s : State) : Prop := s.bootLocked = true ∧ s.boot.released < 10 ∧ s.boot.lockAt + 200000 * s.boot.released ≤ s.clock.now

theorem State.releasePorts_idle (h : ¬ s.ReleaseDue) : s.releasePorts = s := if_neg h

/-- R369: the released group is counted; what its bundle or ports follow with leaves the boot state. -/
theorem State.releasePorts_boot (h : s.ReleaseDue) : s.releasePorts.boot = { s.boot with released := s.boot.released + 1 } := by
  have lane (u : State) (b : Nat) : (u.laneFollow b).boot = u.boot := by
    have w : Within 0x2a85000000000000000000000000000000800 0 0 u (u.laneFollow b) :=
      State.laneFollow_within ⟨by decide, .inl (by decide)⟩ (.refl _ _ _ _)
    exact w.boot rfl
  have ports (u : State) (l : List Nat) : (l.foldl (fun s p => s.portFollow p) u).boot = u.boot := by
    have w : Within 0x20000018501600000000000000000000000000000000014000 0 0 u (l.foldl (fun s p => s.portFollow p) u) :=
      Within.foldl (fun _ _ => State.portFollow_within ⟨by decide, .inl (by decide)⟩) (.refl _ _ _ _)
    exact w.boot rfl
  refine (congrArg State.boot (if_pos h)).trans ?_
  dsimp only
  split
  · exact lane _ _
  · exact ports _ _

/-- Settles O57: the ROM stage (`romStage_starts`, `romStage_defects`), the checks of the slots (`selectImage_shows`), the boot of the best
(`selectImage_boots`) or recovery (`selectImage_recovers`), the events of staged start and the release of the ports (`releasePorts_boot`). -/
theorem theStartSequence : Obligations.TheStartSequence := by
  refine ⟨fun t => ⟨?_, ?_⟩, fun t density mhz sfdpOk vs => ⟨fun hs hd => ⟨?_, ?_, ?_⟩, fun unread => ?_, ?_⟩,
    fun t n => ⟨?_, fun h0 => ?_, fun h2 => ?_, fun h51 h60 => ?_, fun h61 => ?_, ?_, ?_, ?_⟩⟩
  · refine Runs.of (fun s => s.romStage) (fun _ => rfl) fun s ⟨starts, loops⟩ => ?_
    obtain ⟨stage, acq0, acq1, loop0, loop1⟩ := State.romStage_starts starts loops
    exact ⟨stage, acq0, acq1, loop0, loop1, fun i d w hw hd => State.romStage_defects starts i.isLt hw hd⟩
  · exact Runs.of (fun s => s.romStage) (fun _ => rfl) fun s idle => State.romStage_idle idle
  · refine Runs.of (fun s => s.selectImage sfdpOk density mhz vs) (fun _ => rfl) fun s here => ⟨State.selectImage_next here, fun i => ?_⟩
    obtain ⟨valid, fail, _⟩ := State.selectImage_shows (mhz := mhz) (vs := vs) here hs hd i.isLt
    exact ⟨fail, valid⟩
  · refine Runs.of (fun s => s.selectImage sfdpOk density mhz vs) (fun _ => rfl) fun s ⟨here, fails⟩ => ⟨State.selectImage_next here, ?_⟩
    exact State.selectImage_recovers here (State.slotsRead_fails hs hd fails)
  · exact Runs.of (fun s => s.selectImage sfdpOk density mhz vs) (fun _ => rfl) fun s ⟨here, valid⟩ => State.selectImage_boots here hs hd valid
  · refine Runs.of (fun s => s.selectImage sfdpOk density mhz vs) (fun _ => rfl) fun s ⟨here, invalid⟩ => ⟨State.selectImage_next here, ?_⟩
    exact State.selectImage_recovers here fun i hi => (State.slotsRead_unread unread i).trans (invalid ⟨i, hi⟩)
  · exact Runs.of (fun s => s.selectImage sfdpOk density mhz vs) (fun _ => rfl) fun s idle => State.selectImage_idle idle
  · exact Runs.of (fun s => s.stagedStep) (fun _ => rfl) fun s ⟨due, hn⟩ => hn ▸ State.stagedStep_next due
  · refine Runs.of (fun s => s.stagedStep) (fun _ => rfl) fun s ⟨due, hn⟩ => ?_
    rw [State.stagedStep_timetable due (hn.trans h0)]
    exact ⟨rfl, rfl⟩
  · exact Runs.of (fun s => s.stagedStep) (fun _ => rfl) fun s ⟨due, hn⟩ => State.stagedStep_grid due (hn.trans h2)
  · refine Runs.of (fun s => s.stagedStep) (fun _ => rfl) fun s ⟨⟨due, hn⟩, loops⟩ => ?_
    subst hn
    exact State.stagedStep_starts due ⟨h51, h60⟩ loops
  · refine Runs.of (fun s => s.stagedStep) (fun _ => rfl) fun s ⟨due, hn⟩ => ?_
    rw [State.stagedStep_end due (hn.trans h61)]
    exact State.stage_setStage _ 3
  · exact Runs.of (fun s => s.stagedStep) (fun _ => rfl) fun s idle => State.stagedStep_idle idle
  · exact Runs.of (fun s => s.releasePorts) (fun _ => rfl) fun s due => State.releasePorts_boot due
  · exact Runs.of (fun s => s.releasePorts) (fun _ => rfl) fun s idle => State.releasePorts_idle idle

end Sys2Proof.Machine

/-! ## Signed fields and entries in the event log -/

namespace Sys2Proof.Machine

variable {s : State}

/-! ### Two's complement fields -/

theorem Field.get_lt (f : Field) (w : Word) : f.get w < 2 ^ f.width := Nat.mod_lt _ (Nat.two_pow_pos _)

/-- A field read as two's complement agrees with its value modulo the field's range. -/
theorem Field.sget_emod (f : Field) (w : Word) : f.sget w % 2 ^ f.width = f.get w := by
  have value : (f.get w : Int) % 2 ^ f.width = f.get w := Int.emod_eq_of_lt (Int.natCast_nonneg _) (by exact_mod_cast f.get_lt w)
  simp only [Field.sget]
  split
  · exact value
  · rw [Int.sub_emod_right, value]

/-- The pattern of a signed field moved by `i`, where `d` is `i` modulo the field's range. -/
theorem Field.enc_sget_add (f : Field) (w : Word) {i : Int} {d : Nat} (h : i % 2 ^ f.width = (d : Int) % 2 ^ f.width) :
    f.enc (f.sget w + i) = (f.get w + d) % 2 ^ f.width := by
  have moved : (f.sget w + i) % 2 ^ f.width = (((f.get w + d) % 2 ^ f.width : Nat) : Int) := by
    rw [Int.add_emod, Field.sget_emod, h, Int.add_emod_emod]
    push_cast
    rfl
  rw [Field.enc, moved, Int.toNat_natCast]

/-- A signed value that fits its field reads back. -/
theorem Field.sget_set_enc (f : Field) (w : Word) {i : Int} (hf : f.lo + f.width ≤ 64) (hw : 0 < f.width)
    (lo : -2 ^ (f.width - 1) ≤ i) (hi : i < 2 ^ (f.width - 1)) : f.sget (f.set w (f.enc i)) = i := by
  have range : (2 : Int) ^ f.width = 2 * 2 ^ (f.width - 1) := by
    rw [← pow_succ', Nat.sub_add_cancel hw]
  have pattern : ((f.get (f.set w (f.enc i)) : Nat) : Int) = i % 2 ^ f.width := by
    have nonneg : 0 ≤ i % 2 ^ f.width := Int.emod_nonneg _ (by positivity)
    rw [Field.get_set_self f w _ hf, Field.enc, Int.natCast_mod, Int.toNat_of_nonneg nonneg]
    push_cast
    exact Int.emod_emod_of_dvd _ (dvd_refl _)
  have half : (((2 ^ (f.width - 1) : Nat)) : Int) = 2 ^ (f.width - 1) := by push_cast; rfl
  simp only [Field.sget]
  by_cases h : 0 ≤ i
  · have value : i % 2 ^ f.width = i := Int.emod_eq_of_lt h (by omega)
    rw [value] at pattern
    rw [if_pos (by omega), pattern]
  · have value : i % 2 ^ f.width = i + 2 ^ f.width := by
      rw [← Int.add_emod_right, Int.emod_eq_of_lt (by omega) (by omega)]
    rw [value] at pattern
    rw [if_neg (by omega), pattern]
    omega

/-! ### An entry in the event log (R83) -/

/-- Entry `e` was put in an event log with room. -/
def State.logged (s : State) (e : LogEntry) : State := { s with tt := { s.tt with log := s.tt.log ++ [e], logLost := 0 } }

/-- An event log with room takes an entry with the event's time and type. -/
theorem State.log_room (h : s.tt.log.length < logSize) (time : Word) (ty : LogType) (seq source detail : Nat) (bound : Bool) :
    ∃ e : LogEntry, s.log time ty seq source detail bound = s.logged e ∧ e.time = time ∧ Fld.TT_EVLOG_INFO_TYPE.get e.info = ty.code := by
  rw [State.log, if_pos h]
  refine ⟨_, rfl, rfl, ?_⟩
  have code : ty.code < 2 ^ 4 := by cases ty <;> decide
  iterate 5 rw [Field.get_set_disjoint _ _ _ _ (by decide)]
  rw [Field.get_set_self _ _ _ (by decide)]
  exact Nat.mod_eq_of_lt code

section
variable (s) (time : Word) (ty : LogType) (seq source detail : Nat) (bound : Bool)

/-- An entry in the event log changes the timetable's log and its count of lost events alone. -/
theorem State.log_tt : ∃ l n, (s.log time ty seq source detail bound).tt = { s.tt with log := l, logLost := n } := by
  unfold State.log
  split <;> exact ⟨_, _, rfl⟩

@[simp] theorem State.log_gw : (s.log time ty seq source detail bound).gw = s.gw := by unfold State.log; split <;> rfl

@[simp] theorem State.log_clock : (s.log time ty seq source detail bound).clock = s.clock := by unfold State.log; split <;> rfl

theorem State.settingsAt_log (close n : Nat) : (s.log time ty seq source detail bound).settingsAt close n = s.settingsAt close n := by
  unfold State.log
  split <;> rfl

theorem State.eventAt_log (a pace src d : Nat) (enc : Bool) : (s.log time ty seq source detail bound).eventAt a pace src d enc = s.eventAt a pace src d enc := by
  obtain ⟨l, n, tt⟩ := State.log_tt s time ty seq source detail bound
  have next : (s.log time ty seq source detail bound).tt.nextSeq = s.tt.nextSeq := by rw [tt]
  rw [State.eventAt, next, State.settingsAt_log]
  rfl

theorem State.paceNow_log : (s.log time ty seq source detail bound).paceNow = s.paceNow := by
  unfold State.log
  split <;> rfl

theorem State.trigSource_log (k : Nat) : (s.log time ty seq source detail bound).trigSource k = s.trigSource k := by
  simp only [State.trigSource, State.u, State.use, State.bank, State.log_gw]

end

/-- A flag of TT_STATUS other than EVLOG_LOST is left by an entry in the event log. -/
theorem State.flag_log (s : State) (time : Word) (ty : LogType) (n source detail : Nat) (bound : Bool) {f : Field}
    (h : f.lo + f.width ≤ Fld.TT_STATUS_EVLOG_LOST.lo ∨ Fld.TT_STATUS_EVLOG_LOST.lo + Fld.TT_STATUS_EVLOG_LOST.width ≤ f.lo) :
    (s.log time ty n source detail bound).flag Reg.TT_STATUS f = s.flag Reg.TT_STATUS f := by
  unfold State.log
  split
  · rfl
  · exact State.flag_setB_disjoint _ _ _ _ h

theorem State.log_frames (s : State) (time : Word) (ty : LogType) (n source detail : Nat) (bound : Bool) :
    (s.log time ty n source detail bound).tt.frames = s.tt.frames := by
  obtain ⟨_, _, tt⟩ := State.log_tt s time ty n source detail bound
  rw [tt]

end Sys2Proof.Machine

/-! ## Encoder counts, part-detect edges and the event log -/

namespace Sys2Proof.Machine

/-! ### The encoder -/

variable {s t : State} {a x source : Nat} {up level : Bool}

/-- A count outside encoder pacing moves the position alone (R65). -/
theorem State.encCount_unpaced (h : encoderPaced s.use = false) : s.encCount a up =
    s.setF Reg.TT_ENC_POS Fld.TT_ENC_POS_POS (Fld.TT_ENC_POS_POS.enc (Fld.TT_ENC_POS_POS.sget (s.reg Reg.TT_ENC_POS) + if up then 1 else -1)) := by
  unfold State.encCount
  extract_lets pos s₁ forward
  have unpaced : encoderPaced s₁.use = false := h
  rw [unpaced]
  rfl

/-- R65: the position after a count outside encoder pacing, in two's complement of 48 bits. -/
theorem State.encCount_pos (h : encoderPaced s.use = false) : (s.encCount a up).f Reg.TT_ENC_POS Fld.TT_ENC_POS_POS =
    (s.f Reg.TT_ENC_POS Fld.TT_ENC_POS_POS + if up then 1 else 2 ^ 48 - 1) % 2 ^ 48 := by
  have step : (if up then 1 else -1 : Int) % 2 ^ Fld.TT_ENC_POS_POS.width =
      ((if up then 1 else 2 ^ 48 - 1 : Nat) : Int) % 2 ^ Fld.TT_ENC_POS_POS.width := by
    cases up <;> decide
  rw [State.encCount_unpaced h, State.f_setF_self _ _ _ _ (by decide), Field.enc_sget_add _ _ step]
  exact Nat.mod_mod _ _

/-- PITCH has 24 bits. -/
theorem pitchStep_range (st : RegFile) : -2 ^ 24 ≤ pitchStep st ∧ pitchStep st < 2 ^ 24 := by
  have : st.fld Reg.TT_ENC_CFG Fld.TT_ENC_CFG_PITCH < 2 ^ 24 := Field.get_lt _ _
  unfold pitchStep
  dsimp only
  split <;> omega

/-- R66: what ZERO leaves in the encoder's registers and in the others. -/
theorem State.encZero_regs (s : State) : s.encZero.f Reg.TT_ENC_POS Fld.TT_ENC_POS_POS = 0 ∧
    Fld.TT_ENC_NEXT_NEXT.sget (s.encZero.reg Reg.TT_ENC_NEXT) = pitchStep s.use ∧
    ∀ a, a ≠ Reg.TT_ENC_POS → a ≠ Reg.TT_ENC_NEXT → s.encZero.reg a = s.reg a := by
  obtain ⟨lo, hi⟩ := pitchStep_range s.use
  have fits : -2 ^ (Fld.TT_ENC_NEXT_NEXT.width - 1) ≤ pitchStep s.use ∧ pitchStep s.use < 2 ^ (Fld.TT_ENC_NEXT_NEXT.width - 1) := by
    simp only [Fld.TT_ENC_NEXT_NEXT]; omega
  refine ⟨?_, ?_, fun a hp hn => (State.reg_setF_ne _ _ hn).trans (State.reg_setF_ne _ _ hp)⟩
  · exact (State.f_setF_ne _ _ _ _ (by decide)).trans (State.f_setF_self _ _ _ _ (by decide))
  · rw [State.encZero, State.setF, State.reg_noteSet, State.reg_setReg_self]
    exact Field.sget_set_enc _ _ (by decide) (by decide) fits.1 fits.2

/-- An event of an engine is taken out of the inbox, and the timetable counts it where TT_ENC_CFG names the engine (R65). -/
theorem State.encoderArrives_due {e : Nat} {y : EngineEvent} (h : s.inboxDue (fun y => y.engine == e && y.index == (if up then 1 else 2)) = some y) :
    s.encoderArrives e up = if s.u Reg.TT_ENC_CFG Fld.TT_ENC_CFG_ENGINE = e then (s.takeEvent y).encCount y.at' up else s.takeEvent y := by
  simp only [State.encoderArrives, h]
  rfl

/-! ### Part-detect -/

/-- An edge of part-detect that ends no frame is logged, reaches the ferries and governs from then on (R80). -/
theorem State.pdEdge_governs (h : level = true ∨ s.stripSettings.fld Reg.TT_STRIP Fld.TT_STRIP_PD_MODE = 0) (hl : s.tt.log.length < logSize) :
    (s.pdEdge x level source).tt.pd = level ∧
      (if level then (s.pdEdge x level source).tt.pdRise else (s.pdEdge x level source).tt.pdFall) = some x ∧
      (s.pdEdge x level source).tt.seg = s.tt.seg ∧
      ∃ e : LogEntry, (s.pdEdge x level source).tt.log = s.tt.log ++ [e] ∧ e.time = s.fabAt x ∧
        Fld.TT_EVLOG_INFO_TYPE.get e.info = LogType.partDetect.code := by
  obtain ⟨e, logged, time, type⟩ := State.log_room hl (s.fabAt x) .partDetect 0 source 0 false
  cases level with
  | true =>
    rw [State.pdEdge, logged]
    exact ⟨rfl, rfl, rfl, e, rfl, time, type⟩
  | false =>
    have mode : s.stripSettings.fld Reg.TT_STRIP Fld.TT_STRIP_PD_MODE = 0 := h.resolve_left Bool.false_ne_true
    unfold State.pdEdge
    extract_lets t tt st u
    have noted : t = (s.logged e).ferryEvent 6 x := congrArg (fun v : State => v.ferryEvent 6 x) logged
    have free : st.fld Reg.TT_STRIP Fld.TT_STRIP_PD_MODE = 0 := by
      dsimp only [st]
      rw [noted]
      exact mode
    rw [if_neg Bool.false_ne_true, if_pos free]
    exact ⟨rfl, rfl, congrArg (·.tt.seg) noted, e, congrArg (·.tt.log) noted, time, type⟩

/-- An edge of part-detect on a live pin that PD_SEL names (R80). -/
theorem State.partDetect_pin (he : s.u Reg.TT_STRIP Fld.TT_STRIP_PD_ENG = 0) (hp : s.pinLive (s.u Reg.TT_STRIP Fld.TT_STRIP_PD_SEL) = true) :
    s.partDetect level = s.pdEdge s.tick level (s.u Reg.TT_STRIP Fld.TT_STRIP_PD_SEL) := by
  unfold State.partDetect
  extract_lets sel
  rw [if_neg (by omega), if_pos hp]

/-- Settles O22: a count moves POS (`encCount_pos`), ZERO sets both registers (`encZero_regs`), and a part-detect edge is logged and governs (`pdEdge_governs`). -/
theorem encoderPartDetectAndEventLog : Obligations.EncoderPartDetectAndEventLog := by
  refine ⟨fun t engine up x => ?_, fun t engine up x => ?_, fun t src => ?_, fun t level => ?_, fun t src => ?_⟩
  · refine Runs.of (fun s => s.encoderArrives engine.val up) (fun _ => rfl) fun s ⟨due, named, unpaced⟩ => ?_
    have free : encoderPaced (s.takeEvent x).use = false := unpaced
    rw [State.encoderArrives_due due, if_pos named]
    refine ⟨State.encCount_pos free, ?_, ?_, ?_⟩ <;> rw [State.encCount_unpaced free]
    · exact State.reg_setF_ne _ _ (by decide)
    · rfl
    · rfl
  · refine Runs.of (fun s => s.encoderArrives engine.val up) (fun _ => rfl) fun s ⟨due, other⟩ => ?_
    rw [State.encoderArrives_due due, if_neg other]
    rfl
  · refine Runs.of (fun s => s.managed src fun s => s.encZero) (fun _ => rfl) fun s may => ?_
    rw [State.managed_of may]
    exact s.encZero_regs
  · refine Runs.of (fun s => s.partDetect level) (fun _ => rfl) fun s ⟨pin, live, mode, room⟩ => ?_
    rw [State.partDetect_pin pin live]
    exact State.pdEdge_governs mode room
  · exact Runs.of (fun s => s.managed src fun s => s.evlogPop) (fun _ => rfl) fun s may => State.managed_of may _

end Sys2Proof.Machine

/-! ## Scheduled triggers and fabric triggers -/

namespace Sys2Proof.Machine

variable {s : State} {x : StartEvent} {y : TrigArrival}

/-! ### Scheduled triggers (R64) -/

/-- The armed trigger has fired: ARM is clear and the fire is logged with its time. -/
def State.fired (s : State) : State :=
  (s.setB Reg.TT_SCHED_CTL Fld.TT_SCHED_CTL_ARM false).log (s.fabAt s.schedTick) .scheduled 0 0 0 false

/-- The armed trigger whose tick has come fires, and where SRC is 3 it is a start event. -/
theorem State.fireSched_due (armed : s.flag Reg.TT_SCHED_CTL Fld.TT_SCHED_CTL_ARM = true) (due : s.schedTick ≤ s.clock.tt) :
    s.fireSched = if s.trigSource 3 then s.fired.startEvent { s.eventAt s.schedTick 1 0 0 false with quiet := s.paceNow != 1 } else s.fired := by
  have source : s.fired.trigSource 3 = s.trigSource 3 := State.trigSource_log ..
  have event : s.fired.eventAt s.schedTick 1 0 0 false = s.eventAt s.schedTick 1 0 0 false := State.eventAt_log ..
  have pace : s.fired.paceNow = s.paceNow := State.paceNow_log ..
  rw [← source, ← event, ← pace, State.fireSched, armed, decide_eq_true due, Bool.and_self, if_pos rfl]
  rfl

/-- An entry in the event log leaves ARM clear. -/
theorem State.fired_arm (s : State) : s.fired.flag Reg.TT_SCHED_CTL Fld.TT_SCHED_CTL_ARM = false := by
  have logged : Within 0x8000000000000004 0 0 (s.setB Reg.TT_SCHED_CTL Fld.TT_SCHED_CTL_ARM false) s.fired := State.log_within (.refl _ _ _) (.refl _ _ _ _)
  rw [State.flag_of_reg _ (logged.keepReg .TT_SCHED_CTL 0 0 rfl rfl)]
  exact State.flag_setB_self _ _ _ _ (by decide) rfl

/-- What a start event can change. -/
theorem State.startEvent_mask (s : State) (x : StartEvent) :
    Within 0x100000000000000000000000000400000000000018000000000002504 0 0 s (s.startEvent x) :=
  State.startEvent_within (.refl _ _ _) (.refl _ _ _ _)

theorem State.startEvent_arm (s : State) (x : StartEvent) :
    (s.startEvent x).flag Reg.TT_SCHED_CTL Fld.TT_SCHED_CTL_ARM = s.flag Reg.TT_SCHED_CTL Fld.TT_SCHED_CTL_ARM :=
  State.flag_of_reg _ ((s.startEvent_mask x).keepReg .TT_SCHED_CTL 0 0 rfl rfl)

/-- Arming sets ARM, and SCHED_LATE where the target is not in the future. -/
theorem State.armSched_arms (s : State) : s.armSched.flag Reg.TT_SCHED_CTL Fld.TT_SCHED_CTL_ARM = true ∧
    (notAfter (s.reg Reg.TT_SCHED_TIME) s.stamp = false → s.armSched.reg Reg.TT_STATUS = s.reg Reg.TT_STATUS ∧ s.armSched.tt.schedFrom = s.tick) ∧
    (notAfter (s.reg Reg.TT_SCHED_TIME) s.stamp = true →
      s.armSched.flag Reg.TT_STATUS Fld.TT_STATUS_SCHED_LATE = true ∧ s.armSched.tt.schedFrom = s.tick + 2) := by
  have armed : (s.setB Reg.TT_SCHED_CTL Fld.TT_SCHED_CTL_ARM true).flag Reg.TT_SCHED_CTL Fld.TT_SCHED_CTL_ARM = true :=
    State.flag_setB_self _ _ _ _ (by decide) rfl
  unfold State.armSched
  extract_lets late s₁ tt s₂
  cases h : late with
  | false =>
    have from' : s₂.tt.schedFrom = s.tick := by simp only [s₂, h]; rfl
    exact ⟨armed, fun _ => ⟨State.reg_setB_ne _ _ (by decide), from'⟩, fun on => absurd (h.symm.trans on) Bool.false_ne_true⟩
  | true =>
    have from' : s₂.tt.schedFrom = s.tick + 2 := by simp only [s₂, h]; rfl
    refine ⟨(State.flag_of_reg _ (State.reg_setB_ne _ _ (by decide))).trans armed, fun off => absurd (off.symm.trans h) Bool.false_ne_true, fun _ => ⟨?_, from'⟩⟩
    exact State.flag_setB_self _ _ _ _ (by decide) rfl

/-! ### Fabric triggers (R67, R297) -/

/-- The arrival `y` has left the queue. -/
def State.arrived (s : State) (y : TrigArrival) : State := { s with kf := { s.kf with arrivals := s.kf.arrivals.erase y } }

/-- The start event of a broadcast in fabric pacing: on the tick nearest its instant, or 474 ns after its arrival, and late, where the instant is earlier. -/
def State.fabricEvent (s : State) (y : TrigArrival) : StartEvent :=
  let early := s.fabBefore y.instant (y.at' + 474)
  let start := if early then y.at' + 474 else s.tickNear y.instant
  { a := y.at', start := start, sched := if early then s.ttOf y.instant else start, pace := 3, source := 0, detail := 0, enc := false, early := early }

/-- An arrival without a share is a start event on the channel RX_CH and nothing on another. -/
theorem State.fabricArrival_plain (due : s.kf.arrivals.find? (fun z => decide (z.at' ≤ s.clock.tt)) = some y) (plain : y.share = none) :
    s.fabricArrival = if s.f Reg.FB_TRIG_CFG Fld.FB_TRIG_CFG_RX_CH = y.ch then (s.arrived y).startEvent (s.fabricEvent y) else s.arrived y := by
  simp only [State.fabricArrival, due, plain]
  rfl

/-- Settles O21: an armed trigger fires (`fireSched_due`), and an arrival on the device's channel is a start event (`fabricArrival_plain`). -/
theorem scheduledAndFabricTriggersFire : Obligations.ScheduledAndFabricTriggersFire := by
  refine ⟨fun t src => ?_, fun t => ?_, fun t => ?_, fun t y => ⟨?_, ?_⟩⟩
  · refine Runs.of (fun s => s.managed src fun s => s.armSched) (fun _ => rfl) fun s may => ?_
    rw [State.managed_of may]
    exact s.armSched_arms
  · refine Runs.of (fun s => s.fireSched) (fun _ => rfl) fun s ⟨armed, due, other, room⟩ => ?_
    rw [State.fireSched_due armed due, if_neg (Bool.eq_false_iff.mp other)]
    obtain ⟨e, logged, time, type⟩ := State.log_room (s := s.setB Reg.TT_SCHED_CTL Fld.TT_SCHED_CTL_ARM false) room (s.fabAt s.schedTick) .scheduled 0 0 0 false
    have fired : s.fired = State.logged _ e := logged
    exact ⟨s.fired_arm, congrArg (·.tt.frames) fired, e, congrArg (·.tt.log) fired, time, type⟩
  · refine Runs.of (fun s => s.fireSched) (fun _ => rfl) fun s ⟨armed, due, scheduled⟩ => ?_
    rw [State.fireSched_due armed due, if_pos scheduled]
    exact ⟨(State.startEvent_arm _ _).trans s.fired_arm, rfl⟩
  · refine Runs.of (fun s => s.fabricArrival) (fun _ => rfl) fun s ⟨due, plain, channel⟩ => ?_
    rw [State.fabricArrival_plain due plain, if_pos channel]
    refine ⟨congrArg (·.arrivals) (((s.arrived y).startEvent_mask _).kf rfl), fun ahead => ?_, fun early => ?_⟩
    · rw [State.fabricEvent, ahead]; rfl
    · rw [State.fabricEvent, early]; rfl
  · refine Runs.of (fun s => s.fabricArrival) (fun _ => rfl) fun s ⟨due, plain, other⟩ => ?_
    rw [State.fabricArrival_plain due plain, if_neg other]
    rfl

end Sys2Proof.Machine

/-! ## Triggers that are accepted and triggers that overrun -/

namespace Sys2Proof.Machine

variable {s : State} {x : StartEvent} {a k : Nat} {bound : Bool}

/-! ### Overruns (R63) -/

/-- A refused start event is counted and flagged, and opens no frame. -/
def Overran (s u : State) : Prop :=
  u.f Reg.TT_CNT_TRIG Fld.TT_CNT_TRIG_OVERRUN = (s.f Reg.TT_CNT_TRIG Fld.TT_CNT_TRIG_OVERRUN + 1) % 2 ^ 32 ∧
    u.f Reg.TT_CNT_TRIG Fld.TT_CNT_TRIG_ACCEPTED = s.f Reg.TT_CNT_TRIG Fld.TT_CNT_TRIG_ACCEPTED ∧
    u.flag Reg.TT_STATUS Fld.TT_STATUS_OVERRUN = true ∧ u.tt.frames = s.tt.frames

theorem State.overrun_overran (s : State) (n source detail : Nat) (bound : Bool) : Overran s (s.overrun n source detail bound) := by
  unfold State.overrun
  generalize counted : s.addF Reg.TT_CNT_TRIG Fld.TT_CNT_TRIG_OVERRUN 1 = t
  have logged : Within 0x8000000000000004 0 0 t ((t.setB Reg.TT_STATUS Fld.TT_STATUS_OVERRUN true).log (s.fabAt n) .overrun 0 source detail bound) :=
    State.log_within (.refl _ _ _) (Within.setB .TT_STATUS 0 0 rfl ((Foot.refl _ 0 0).may (by decide)) (.refl _ _ _ _))
  refine ⟨?_, ?_, ?_, ?_⟩
  · rw [logged.keepF .TT_CNT_TRIG 0 0 _ rfl rfl, ← counted]
    exact State.f_addF_self _ _ _ (by decide)
  · rw [logged.keepF .TT_CNT_TRIG 0 0 _ rfl rfl, ← counted]
    exact State.f_setF_disjoint _ _ _ _ _ (by decide)
  · rw [State.flag_log _ _ _ _ _ _ _ (by decide)]
    exact State.flag_setB_self _ _ _ _ (by decide) rfl
  · rw [State.log_frames, ← counted]
    rfl

/-- Without OVR_DEFER an overrun that is no encoder trigger's is counted and discarded. -/
theorem State.deferOrDrop_drops (st : RegFile) (h : s.u Reg.TT_TRIG_CFG Fld.TT_TRIG_CFG_OVR_DEFER = 0) (enc : x.enc = false) :
    s.deferOrDrop x st bound = s.overrun x.a x.source x.detail bound := by
  have event : s.overrunEvent x bound = s.overrun x.a x.source x.detail bound := by
    rw [State.overrunEvent, enc]
    rfl
  have settings : (s.overrun x.a x.source x.detail bound).u Reg.TT_TRIG_CFG Fld.TT_TRIG_CFG_OVR_DEFER = 0 := by
    rw [← h, State.u, State.use, State.bank, State.overrun, State.log_gw]
    rfl
  rw [State.deferOrDrop, event, settings]
  rfl

/-! ### Acceptance (R62) -/

/-- The settings that the gangway of a start event accepted at tick `a` would leave. -/
def State.settingsOf (s : State) (a : Nat) : RegFile := s.settingsAt (a - 24000) s.tt.nextSeq

/-- Start events of triggered pacing at acceptance tick `a` are acted on, and neither a burst nor a forced gangway refuses them. -/
def State.Enabled (s : State) (a : Nat) : Prop :=
  s.u Reg.TT_MODE Fld.TT_MODE_RUN = 1 ∧ s.u Reg.TT_MODE Fld.TT_MODE_PACE = 1 ∧ s.openAccum = none ∧
    s.burstOn (s.settingsOf a) = false ∧ s.afterForced a = false

theorem State.paceNow_of_burstOn {st : RegFile} (h : s.burstOn st = false) : s.paceNow = s.u Reg.TT_MODE Fld.TT_MODE_PACE := by
  have none : s.tt.burst = none := Option.not_isSome_iff_eq_none.mp fun some => by simp [State.burstOn, some] at h
  rw [State.paceNow, none]

theorem State.Enabled.trigger (h : s.Enabled a) : s.trigger a k = s.acceptEvent (s.eventAt a 1 k 0 false) := by
  obtain ⟨run, pace, closed, burst, _⟩ := h
  have own : s.paceNow = (s.eventAt a 1 k 0 false).pace := (State.paceNow_of_burstOn burst).trans pace
  rw [State.trigger, State.startEvent, if_neg (not_not.mpr run), closed]
  exact if_pos own

/-- The start of `x` is within one tick of the first legal one (R24). -/
def State.startsNear (s : State) (x : StartEvent) : Bool :=
  s.chainNow.seen && nearBoundary x.start (s.chainNow.legal52 (storeMode (s.settingsOf x.a)))

/-- A start that is not legal overruns. -/
theorem State.acceptEvent_illegal (burst : s.burstOn (s.settingsOf x.a) = false) (forced : s.afterForced x.a = false)
    (illegal : x.start < s.chainNow.legal52 (storeMode (s.settingsOf x.a))) :
    s.acceptEvent x = s.deferOrDrop x (s.settingsOf x.a) (s.startsNear x) := by
  unfold State.acceptEvent
  rw [← State.settingsOf]
  extract_lets st legal bound
  rw [if_neg (Bool.eq_false_iff.mp burst), if_neg (Bool.eq_false_iff.mp forced), if_pos (by simp [st, legal, illegal])]
  rfl

/-- A frame was put at the end of the timetable's list. -/
def State.withFrame (s : State) (f : Frame) : State := { s with tt := { s.tt with frames := s.tt.frames ++ [f] } }

/-- The start event `x` can be accepted: it is legal, the queue of pending triggers takes one more, and the berths are found. -/
def State.Room (s : State) (x : StartEvent) : Prop :=
  s.chainNow.legal52 (storeMode (s.settingsOf x.a)) ≤ x.start ∧
    s.pendingCount < min 16 (s.u Reg.TT_TRIG_CFG Fld.TT_TRIG_CFG_QDEPTH + 1) ∧ s.u Reg.TT_MODE Fld.TT_MODE_FORM ≠ 3 ∧
    (s.reserve (s.settingsOf x.a) s.seqAhead false).2 = true

/-- The frame that an accepted start event schedules. -/
def State.frameOf (s : State) (x : StartEvent) : Frame :=
  { close := x.a - 24000, swapAt := x.a + 2, sched := x.sched, trig := some x.a, bound := s.startsNear x, late := x.early, notBefore := x.start,
    shot := shotAt (s.settingsOf x.a) (depthAct (s.settingsOf x.a) s.tt.lastDepth) x.start }

theorem State.noteAccept_timetable (s : State) (x : StartEvent) (seq : Nat) (bound : Bool) :
    (s.noteAccept x seq bound).tt.frames = s.tt.frames ∧ (s.noteAccept x seq bound).tt.lastDepth = s.tt.lastDepth := by
  unfold State.noteAccept
  extract_lets t u
  obtain ⟨l, n, tt⟩ := State.log_tt t (t.fabAt x.a) (if x.enc then .encoder else .accepted) seq x.source x.detail bound
  have frames : u.tt.frames = t.tt.frames := congrArg (·.frames) tt
  have depth : u.tt.lastDepth = t.tt.lastDepth := congrArg (·.lastDepth) tt
  exact ⟨frames, depth⟩

/-- R62: ACCEPTED counts the trigger. -/
theorem State.noteAccept_count (s : State) (x : StartEvent) (seq : Nat) (bound : Bool) :
    (s.noteAccept x seq bound).f Reg.TT_CNT_TRIG Fld.TT_CNT_TRIG_ACCEPTED = (s.f Reg.TT_CNT_TRIG Fld.TT_CNT_TRIG_ACCEPTED + 1) % 2 ^ 32 := by
  unfold State.noteAccept
  extract_lets t u
  have noticed : Within 0x8000000000002404 0 0 t ((u.pioEvent 4 x.a).ferryEvent 4 x.a) :=
    State.ferryEvent_within ⟨by decide, .inl (by decide)⟩ (State.pioEvent_within ⟨by decide, .inl (by decide)⟩
      (State.log_within ⟨by decide, .inl (by decide)⟩ (.refl _ _ _ _)))
  rw [noticed.keepF .TT_CNT_TRIG 0 0 _ rfl rfl]
  exact State.f_addF_self _ _ _ (by decide)

/-- What reserving berths can change. -/
theorem State.reserve_mask (s : State) (st : RegFile) (seq : Nat) (burst : Bool) :
    Within 0x400000000000008000000000000100 0 0 s (s.reserve st seq burst).1 :=
  State.reserve_within (.refl _ _ _) (.refl _ _ _ _)

/-- A start event with room is counted, and its frame joins the timetable's. -/
theorem State.acceptEvent_accepts (burst : s.burstOn (s.settingsOf x.a) = false) (forced : s.afterForced x.a = false) (room : s.Room x) :
    s.acceptEvent x =
      ((((s.reserve (s.settingsOf x.a) s.seqAhead false).1.noteAccept x s.seqAhead (s.startsNear x)).withFrame (s.frameOf x)).showPending) := by
  obtain ⟨legally, pending, form, berths⟩ := room
  have depth : ((s.reserve (s.settingsOf x.a) s.seqAhead false).1.noteAccept x s.seqAhead (s.startsNear x)).tt.lastDepth = s.tt.lastDepth :=
    (State.noteAccept_timetable _ _ _ _).2.trans (congrArg (·.lastDepth) ((s.reserve_mask _ _ _).tt rfl))
  unfold State.acceptEvent
  rw [← State.settingsOf]
  extract_lets st legal bound
  rw [if_neg (Bool.eq_false_iff.mp burst), if_neg (Bool.eq_false_iff.mp forced),
    if_neg (by simp only [Bool.or_eq_true, decide_eq_true_eq]; exact not_or.mpr ⟨Nat.not_lt.mpr legally, Nat.not_le.mpr pending⟩), if_neg form]
  refine (if_pos berths).trans ?_
  rw [State.withFrame, State.frameOf, ← depth]
  rfl

/-- R62: what an accepted start event leaves. -/
theorem State.acceptEvent_accepted (burst : s.burstOn (s.settingsOf x.a) = false) (forced : s.afterForced x.a = false) (room : s.Room x) :
    (s.acceptEvent x).f Reg.TT_CNT_TRIG Fld.TT_CNT_TRIG_ACCEPTED = (s.f Reg.TT_CNT_TRIG Fld.TT_CNT_TRIG_ACCEPTED + 1) % 2 ^ 32 ∧
      (s.acceptEvent x).tt.frames = s.tt.frames ++ [s.frameOf x] := by
  have reserved := s.reserve_mask (s.settingsOf x.a) s.seqAhead false
  rw [State.acceptEvent_accepts burst forced room]
  generalize noted : (s.reserve (s.settingsOf x.a) s.seqAhead false).1.noteAccept x s.seqAhead (s.startsNear x) = t
  constructor
  · have shown : Within 0x8000000000000004 0 0 t (t.withFrame (s.frameOf x)).showPending :=
      State.showPending_within ⟨by decide, .inl (by decide)⟩ (Within.upd_tt (by decide) (.refl _ _ _ _))
    rw [shown.keepF .TT_CNT_TRIG 0 0 _ rfl rfl, ← noted, State.noteAccept_count, reserved.keepF .TT_CNT_TRIG 0 0 _ rfl rfl]
  · have frames : t.tt.frames = s.tt.frames := by
      rw [← noted, (State.noteAccept_timetable _ _ _ _).1, reserved.tt rfl]
    exact congrArg (· ++ [s.frameOf x]) frames

/-! ### The two paths of a trigger (R59 to R61) -/

/-- A trigger that meets no reason for an overrun is accepted and schedules its frame. -/
theorem State.trigger_accepted (h : s.Enabled a) (room : s.Room (s.eventAt a 1 k 0 false)) :
    (s.trigger a k).f Reg.TT_CNT_TRIG Fld.TT_CNT_TRIG_ACCEPTED = (s.f Reg.TT_CNT_TRIG Fld.TT_CNT_TRIG_ACCEPTED + 1) % 2 ^ 32 ∧
      (s.trigger a k).tt.frames = s.tt.frames ++ [s.frameOf (s.eventAt a 1 k 0 false)] := by
  rw [h.trigger]
  obtain ⟨_, _, _, burst, forced⟩ := h
  exact State.acceptEvent_accepted burst forced room

/-- A trigger whose start is not legal is an overrun, discarded without OVR_DEFER. -/
theorem State.trigger_overran (h : s.Enabled a)
    (illegal : (s.eventAt a 1 k 0 false).start < s.chainNow.legal52 (storeMode (s.settingsOf a)))
    (drop : s.u Reg.TT_TRIG_CFG Fld.TT_TRIG_CFG_OVR_DEFER = 0) : Overran s (s.trigger a k) := by
  rw [h.trigger]
  obtain ⟨_, _, _, burst, forced⟩ := h
  rw [State.acceptEvent_illegal (x := s.eventAt a 1 k 0 false) burst forced illegal, State.deferOrDrop_drops _ drop rfl]
  exact s.overrun_overran _ _ _ _

/-- An edge of the selected pin and polarity that has held for FILT ticks is a trigger (R61). -/
theorem State.pinEdge_taken {pin held : Nat} {rise : Bool} (live : s.pinLive pin = true) (source : s.trigSource 1 = true) (sel : s.trigSel = pin)
    (pol : rise = (s.u Reg.TT_TRIG_CFG Fld.TT_TRIG_CFG_POL == 0)) (filt : s.u Reg.TT_TRIG_CFG Fld.TT_TRIG_CFG_FILT ≤ held) :
    s.pinEdge pin held rise false = s.trigger (s.tick - 2 * (held - s.u Reg.TT_TRIG_CFG Fld.TT_TRIG_CFG_FILT)) pin := by
  simp [State.pinEdge, live, source, sel, pol, filt]

/-- An edge that has held for fewer than FILT ticks does nothing (R61). -/
theorem State.pinEdge_short {pin held : Nat} {rise : Bool} (short : held < s.u Reg.TT_TRIG_CFG Fld.TT_TRIG_CFG_FILT) :
    s.pinEdge pin held rise false = s := by
  simp [State.pinEdge, short]

/-- Settles O20: both paths come to the trigger of their acceptance tick, which is accepted (`trigger_accepted`) or overruns (`trigger_overran`). -/
theorem triggersAreAcceptedOrOverrun : Obligations.TriggersAreAcceptedOrOverrun := by
  unfold Obligations.TriggersAreAcceptedOrOverrun
  intro st enabled start legal room accepted dropped
  refine ⟨fun t src => ⟨?_, ?_⟩, fun t pin e => ?_⟩
  · refine Runs.of (fun s => s.managed src fun s => if s.trigSource 0 then s.trigger s.tick 0 else s) (fun _ => rfl) fun s ⟨may, ⟨source, able⟩, fits⟩ => ?_
    rw [State.managed_of may, if_pos source]
    obtain ⟨count, frames⟩ := State.trigger_accepted (k := 0) able fits
    exact ⟨count, _, frames, rfl, rfl, rfl, rfl, rfl, rfl, rfl, rfl⟩
  · refine Runs.of (fun s => s.managed src fun s => if s.trigSource 0 then s.trigger s.tick 0 else s) (fun _ => rfl)
      fun s ⟨may, ⟨source, able⟩, illegal, drop⟩ => ?_
    rw [State.managed_of may, if_pos source]
    exact State.trigger_overran able illegal drop
  · intro at' taken
    refine ⟨?_, ?_, ?_⟩
    · refine Runs.of (fun s => s.pinEdge pin.val e.held e.rise false) (fun _ => rfl) fun s ⟨⟨live, sel, pol, filt, source, able⟩, fits⟩ => ?_
      rw [State.pinEdge_taken live source sel pol filt]
      obtain ⟨count, frames⟩ := State.trigger_accepted (k := pin.val) able fits
      exact ⟨count, _, frames, rfl, rfl, rfl, rfl, rfl, rfl, rfl, rfl⟩
    · refine Runs.of (fun s => s.pinEdge pin.val e.held e.rise false) (fun _ => rfl)
        fun s ⟨⟨live, sel, pol, filt, source, able⟩, illegal, drop⟩ => ?_
      rw [State.pinEdge_taken live source sel pol filt]
      exact State.trigger_overran able illegal drop
    · exact Runs.of (fun s => s.pinEdge pin.val e.held e.rise false) (fun _ => rfl) fun s short => State.pinEdge_short short

end Sys2Proof.Machine

/-! ## Frames on the grid, their starts, strips and sub-exposures -/

namespace Sys2Proof.Machine

variable {s t u : State} {f : Frame} {x g n : Nat}

/-! ### The free-run grid (R55) -/

theorem State.gridStep_grid (h : 0 < s.u Reg.TT_PERIOD Fld.TT_PERIOD_PERIOD) :
    (s.gridStep g).tt.grid = some (g + 8 * s.u Reg.TT_PERIOD Fld.TT_PERIOD_PERIOD) := by
  have period : max 8 (8 * s.u Reg.TT_PERIOD Fld.TT_PERIOD_PERIOD) = 8 * s.u Reg.TT_PERIOD Fld.TT_PERIOD_PERIOD := by omega
  rw [State.gridStep, period]

/-- A grid instant at or before the start of the last frame that is placed is skipped. -/
theorem State.gridInstant_skips (instant : s.tt.grid.map s.gridNow = some g) (near : g ≤ s.clock.tt + 24000) (placed : s.lastAhead = some x)
    (passed : g ≤ x) : s.gridInstant = s.gridStep g := by
  simp only [State.gridInstant, instant, placed]
  rw [if_neg (Nat.not_lt.mpr near), decide_eq_true passed, Bool.true_or, if_pos rfl]

/-- A grid instant after the start of the last frame that is placed waits while a burst is still to schedule one. -/
theorem State.gridInstant_waits {b : Burst} (instant : s.tt.grid.map s.gridNow = some g) (burst : s.tt.burst = some b) (left : b.left ≠ 0)
    (closed : s.openAccum = none) (ahead : ∀ x, s.lastAhead = some x → x < g) : s.gridInstant = s := by
  have waits : s.gridWaits g = true := by simp [State.gridWaits, burst, left]
  simp only [State.gridInstant, instant, closed]
  by_cases far : s.clock.tt + 24000 < g
  · exact if_pos far
  rw [if_neg far]
  cases placed : s.lastAhead with
  | none => exact (if_neg (by simp)).trans (if_pos waits)
  | some x => exact (if_neg (by simpa using ahead x placed)).trans (if_pos waits)

/-- The frame that a grid instant schedules. -/
def State.gridFrame (s : State) (g : Nat) : Frame :=
  { close := g - 24000, swapAt := g - 24000, sched := g, shot := shotAt s.use s.tt.lastDepth g }

/-- A grid instant that nothing skips and for which nothing waits schedules its frame. -/
theorem State.gridInstant_schedules (instant : s.tt.grid.map s.gridNow = some g) (near : g ≤ s.clock.tt + 24000) (burst : s.tt.burst = none)
    (closed : s.openAccum = none) (ahead : ∀ x, s.lastAhead = some x → x < g) (form : s.u Reg.TT_MODE Fld.TT_MODE_FORM ≠ 3) :
    s.gridInstant = (s.withFrame (s.gridFrame g)).gridStep g := by
  have goes : ¬ s.gridWaits g = true := by simp [State.gridWaits, burst, closed]
  simp only [State.gridInstant, instant, closed]
  rw [if_neg (Nat.not_lt.mpr near)]
  cases placed : s.lastAhead with
  | none => exact (if_neg (by simp)).trans ((if_neg goes).trans (if_neg form))
  | some x => exact (if_neg (by simpa using ahead x placed)).trans ((if_neg goes).trans (if_neg form))

/-! ### What follows a start -/

/-- What has started is kept: the frames, the passes, the last start, the event log and the counts of frames. -/
structure KeepsStarts (s t : State) : Prop where
  frames : s.tt.frames <+: t.tt.frames
  passes : t.tt.passes = s.tt.passes
  last : t.tt.lastStart = s.tt.lastStart
  log : t.tt.log = s.tt.log
  counts : t.reg Reg.TT_CNT_FRAME = s.reg Reg.TT_CNT_FRAME

theorem KeepsStarts.trans (h : KeepsStarts s t) (k : KeepsStarts t u) : KeepsStarts s u :=
  ⟨h.frames.trans k.frames, k.passes.trans h.passes, k.last.trans h.last, k.log.trans h.log, k.counts.trans h.counts⟩

/-- What changes neither the timetable nor the counts of frames keeps what has started. -/
theorem KeepsStarts.of_tt (h : t.tt = s.tt) (counts : t.reg Reg.TT_CNT_FRAME = s.reg Reg.TT_CNT_FRAME) : KeepsStarts s t := by
  refine ⟨?_, ?_, ?_, ?_, counts⟩ <;> rw [h]

theorem KeepsStarts.ferryEvent (s : State) (code x : Nat) : KeepsStarts s (s.ferryEvent code x) := ⟨List.prefix_rfl, rfl, rfl, rfl, rfl⟩

theorem KeepsStarts.shown (s : State) : KeepsStarts s s.showBanks.showPending :=
  .of_tt rfl ((State.reg_setF_ne _ _ (by decide)).trans (State.reg_setF_ne _ _ (by decide)))

theorem KeepsStarts.paceGrid (s : State) (st : RegFile) (first : Nat) : KeepsStarts s (s.paceGrid st first) := by
  unfold State.paceGrid
  split
  · exact ⟨List.prefix_rfl, rfl, rfl, rfl, rfl⟩
  split
  · exact .of_tt rfl rfl
  · exact ⟨List.prefix_rfl, rfl, rfl, rfl, rfl⟩

theorem KeepsStarts.burstOver (s : State) (x : Nat) : KeepsStarts s (s.burstOver x) := by
  unfold State.burstOver
  extract_lets tt t
  have cleared : KeepsStarts s t := ⟨List.prefix_rfl, rfl, rfl, rfl, rfl⟩
  split
  · exact cleared.trans (.paceGrid t t.use (x + 24008))
  · exact cleared

/-- R78: the next frame of a burst joins the timetable's behind the others. -/
theorem KeepsStarts.burstNext (s : State) (f : Frame) (x : Nat) : KeepsStarts s (s.burstNext f x) := by
  have refl : KeepsStarts s s := .of_tt rfl rfl
  unfold State.burstNext
  split
  · exact refl
  split
  · exact refl
  split
  · exact refl
  split
  · exact .burstOver s x
  · exact ⟨List.prefix_append _ _, rfl, rfl, rfl, rfl⟩

/-! ### A frame starts (R51 to R53, R63, R69) -/

/-- A start at tick `x` is late (R53); a held overrun's where it lies after the start that it would have had (R63). -/
def Frame.startsLate (f : Frame) (x : Nat) : Bool :=
  if f.held then decide (tickCeil f.shot.s < x) else f.late || decide (tickCeil f.sched < x)

/-- The frame `f` as it stands once it has started at tick `x` with its first exposure in store `first`. -/
def State.startedFrame (s : State) (f : Frame) (x first : Nat) : Frame :=
  { f with
    started := true, late := f.startsLate x, firstStore := first, shot := f.shot.moveTo x, subs := 1, subStarts := [x],
    lastSub := x + expA (s.bank f.bank), man := manSet f.man Man.FIRST_STORE first }

/-- The start of `f` at tick `x` is counted, if late. -/
def State.startCounted (s : State) (f : Frame) (x first : Nat) : State :=
  if f.startsLate x then (s.setFrame (s.startedFrame f x first)).countLate else s.setFrame (s.startedFrame f x first)

/-- It is logged, as deferred too if it is that of a held overrun and late. -/
def State.startLogged (s : State) (f : Frame) (x : Nat) : State :=
  let s := if f.held && f.startsLate x then s.log (s.fabAt x) .deferred f.seq 0 0 false else s
  s.log (s.fabAt x) .frameStart f.seq 0 0 false

theorem State.setFrame_mem {f' : Frame} (mem : f ∈ s.tt.frames) (gated : f.gated = true) (seq : f'.seq = f.seq) (cont : f'.cont = f.cont) :
    f' ∈ (s.setFrame f').tt.frames :=
  List.mem_map.mpr ⟨f, mem, if_pos (by simp [gated, seq, cont])⟩

theorem State.startCounted_tt (s : State) (f : Frame) (x first : Nat) :
    (s.startCounted f x first).tt = (s.setFrame (s.startedFrame f x first)).tt := by
  unfold State.startCounted
  split <;> rfl

theorem State.startCounted_clock (s : State) (f : Frame) (x first : Nat) : (s.startCounted f x first).clock = s.clock := by
  unfold State.startCounted
  split <;> rfl

/-- R53: a late start counts once. -/
theorem State.startCounted_late (s : State) (f : Frame) (x first : Nat) :
    (s.startCounted f x first).f Reg.TT_CNT_FRAME Fld.TT_CNT_FRAME_LATE =
      (s.f Reg.TT_CNT_FRAME Fld.TT_CNT_FRAME_LATE + if f.startsLate x then 1 else 0) % 2 ^ 32 := by
  unfold State.startCounted
  split
  · exact (State.f_setF_ne _ _ _ _ (by decide)).trans (State.f_addF_self _ _ _ (by decide))
  · exact (Nat.mod_eq_of_lt (Field.get_lt _ _)).symm

/-- Entries in the event log leave the rest of the timetable. -/
theorem State.startLogged_tt (s : State) (f : Frame) (x : Nat) : ∃ l n, (s.startLogged f x).tt = { s.tt with log := l, logLost := n } := by
  unfold State.startLogged
  extract_lets t
  obtain ⟨l, n, tt⟩ := State.log_tt t (t.fabAt x) .frameStart f.seq 0 0 false
  have first : ∃ l n, t.tt = { s.tt with log := l, logLost := n } := by
    dsimp only [t]
    split
    · exact State.log_tt _ _ _ _ _ _ _
    · exact ⟨_, _, rfl⟩
  obtain ⟨_, _, tt'⟩ := first
  exact ⟨l, n, by rw [tt, tt']⟩

theorem State.startLogged_late (s : State) (f : Frame) (x : Nat) :
    (s.startLogged f x).f Reg.TT_CNT_FRAME Fld.TT_CNT_FRAME_LATE = s.f Reg.TT_CNT_FRAME Fld.TT_CNT_FRAME_LATE := by
  have logged : Within 0x8000000000000004 0 0 s (s.startLogged f x) :=
    State.log_within (.refl _ _ _) (.ite (State.log_within (.refl _ _ _) (.refl _ _ _ _)) (.refl _ _ _ _))
  exact logged.keepF .TT_CNT_FRAME 0 0 _ rfl rfl

/-- A start that is no late one of a held overrun makes one entry. -/
theorem State.startLogged_once (plain : (f.held && f.startsLate x) = false) (room : s.tt.log.length + 1 ≤ logSize) :
    ∃ a : LogEntry, (s.startLogged f x).tt.log = s.tt.log ++ [a] ∧ a.time = s.fabAt x ∧
      Fld.TT_EVLOG_INFO_TYPE.get a.info = LogType.frameStart.code := by
  obtain ⟨a, logged, time, type⟩ := State.log_room (s := s) room (s.fabAt x) .frameStart f.seq 0 0 false
  rw [State.startLogged, plain, if_neg Bool.false_ne_true, logged]
  exact ⟨a, rfl, time, type⟩

/-- R63: the late start of a held overrun makes an entry of its own beside the frame's. -/
theorem State.startLogged_deferred (deferred : (f.held && f.startsLate x) = true) (room : s.tt.log.length + 2 ≤ logSize) :
    ∃ a b : LogEntry, (s.startLogged f x).tt.log = s.tt.log ++ [a, b] ∧ a.time = s.fabAt x ∧
      Fld.TT_EVLOG_INFO_TYPE.get a.info = LogType.deferred.code ∧ Fld.TT_EVLOG_INFO_TYPE.get b.info = LogType.frameStart.code := by
  obtain ⟨a, logged, time, type⟩ := State.log_room (s := s) (Nat.lt_of_succ_lt room) (s.fabAt x) .deferred f.seq 0 0 false
  have room' : (s.logged a).tt.log.length < logSize := by simp only [State.logged, List.length_append, List.length_singleton]; omega
  obtain ⟨b, logged', _, type'⟩ := State.log_room room' ((s.logged a).fabAt x) .frameStart f.seq 0 0 false
  rw [State.startLogged, deferred, if_pos rfl, logged, logged']
  exact ⟨a, b, List.append_assoc _ _ _, time, type, type'⟩

/-- What the start of frame `f` at tick `x` leaves. -/
structure Started (f : Frame) (x : Nat) (s u : State) : Prop where
  frame : ∃ g ∈ u.tt.frames, g.seq = f.seq ∧ g.cont = f.cont ∧ g.started = true ∧ g.shot.s = x ∧ g.late = f.startsLate x
  pass : ∃ p : Pass, u.tt.passes = s.tt.passes ++ [p] ∧ p.seq = f.seq ∧ p.bank = f.bank ∧ p.shot.s = x ∧ p.began = none
  last : u.tt.lastStart = some x
  late : u.f Reg.TT_CNT_FRAME Fld.TT_CNT_FRAME_LATE = (s.f Reg.TT_CNT_FRAME Fld.TT_CNT_FRAME_LATE + if f.startsLate x then 1 else 0) % 2 ^ 32
  log : ∃ first, u.tt.log = ((s.startCounted f x first).startLogged f x).tt.log

/-- R69: a frame past its gangway starts. -/
theorem State.startFrame_started (mem : f ∈ s.tt.frames) (gated : f.gated = true) : Started f x s (s.startFrame f x) := by
  unfold State.startFrame
  extract_lets late st first f' s₁ s₂ s₃ s₄ tt s₅ s₆ s₇ s₈
  have logged : s₄ = (s.startCounted f x first).startLogged f x := rfl
  obtain ⟨l, n, tt₄⟩ := State.startLogged_tt (s.startCounted f x first) f x
  rw [← logged, State.startCounted_tt] at tt₄
  have mem₄ : f' ∈ s₄.tt.frames := by
    rw [tt₄]
    exact State.setFrame_mem mem gated rfl rfl
  have mem₅ : f' ∈ s₅.tt.frames := by
    dsimp only [s₅]
    split
    · exact List.mem_filter.mpr ⟨mem₄, by simp [f', gated]⟩
    · exact mem₄
  have ended : KeepsStarts s₆ s₈ := by
    dsimp only [s₈]
    split <;> exact .of_tt rfl rfl
  have progress : KeepsStarts s₅ (s₅.openProgress f'.seq f'.cont f'.bank 1 true f'.burst) := .of_tt rfl rfl
  have kept : KeepsStarts s₅ (s₈.ferryEvent 0 x).showBanks.showPending :=
    progress.trans ((KeepsStarts.burstNext _ f' x).trans (ended.trans ((KeepsStarts.ferryEvent s₈ 0 x).trans (.shown _))))
  refine ⟨⟨f', kept.frames.mem mem₅, rfl, rfl, rfl, rfl, rfl⟩, ⟨_, kept.passes.trans (congrArg (· ++ _) (congrArg (·.passes) tt₄)), rfl, rfl, rfl, rfl⟩,
    kept.last, ?_, first, kept.log⟩
  calc (s₈.ferryEvent 0 x).showBanks.showPending.f Reg.TT_CNT_FRAME Fld.TT_CNT_FRAME_LATE
      = ((s.startCounted f x first).startLogged f x).f Reg.TT_CNT_FRAME Fld.TT_CNT_FRAME_LATE := State.f_of_reg _ kept.counts
    _ = (s.startCounted f x first).f Reg.TT_CNT_FRAME Fld.TT_CNT_FRAME_LATE := State.startLogged_late _ _ _
    _ = (s.f Reg.TT_CNT_FRAME Fld.TT_CNT_FRAME_LATE + if f.startsLate x then 1 else 0) % 2 ^ 32 := State.startCounted_late _ _ _ _

theorem State.fabAt_congr (h : t.clock = s.clock) (x : Nat) : t.fabAt x = s.fabAt x := by
  simp only [State.fabAt, State.fabFine, State.offAt, h]

/-- What the event log of `s` becomes when a start leaves `u`. -/
theorem Started.log_once (h : Started f x s u) (plain : (f.held && f.startsLate x) = false) (room : s.tt.log.length + 1 ≤ logSize) :
    ∃ a : LogEntry, u.tt.log = s.tt.log ++ [a] ∧ a.time = s.fabAt x ∧ Fld.TT_EVLOG_INFO_TYPE.get a.info = LogType.frameStart.code := by
  obtain ⟨first, log⟩ := h.log
  have counted : (s.startCounted f x first).tt.log = s.tt.log := congrArg (·.log) (s.startCounted_tt f x first)
  obtain ⟨a, logged, time, type⟩ := State.startLogged_once (s := s.startCounted f x first) plain (by rw [counted]; exact room)
  exact ⟨a, by rw [log, logged, counted], time.trans (State.fabAt_congr (s.startCounted_clock f x first) x), type⟩

theorem Started.log_deferred (h : Started f x s u) (deferred : (f.held && f.startsLate x) = true) (room : s.tt.log.length + 2 ≤ logSize) :
    ∃ a b : LogEntry, u.tt.log = s.tt.log ++ [a, b] ∧ a.time = s.fabAt x ∧
      Fld.TT_EVLOG_INFO_TYPE.get a.info = LogType.deferred.code ∧ Fld.TT_EVLOG_INFO_TYPE.get b.info = LogType.frameStart.code := by
  obtain ⟨first, log⟩ := h.log
  have counted : (s.startCounted f x first).tt.log = s.tt.log := congrArg (·.log) (s.startCounted_tt f x first)
  obtain ⟨a, b, logged, time, types⟩ := State.startLogged_deferred (s := s.startCounted f x first) deferred (by rw [counted]; exact room)
  exact ⟨a, b, by rw [log, logged, counted], time.trans (State.fabAt_congr (s.startCounted_clock f x first) x), types⟩

/-- The frame whose start is due is past its gangway. -/
theorem State.startDue_gated (h : s.startDue = some (f, x)) : f ∈ s.tt.frames ∧ f.gated = true := by
  unfold State.startDue at h
  split at h
  case h_1 => contradiction
  case h_2 r found =>
  dsimp only at h
  split at h
  · contradiction
  · cases h
    have gated := List.find?_some found
    simp only [Bool.and_eq_true] at gated
    exact ⟨List.mem_of_find?_eq_some found, gated.1⟩

/-- A frame that has its berths, or reserves none at its start, starts at once (R194). -/
theorem State.startOrWait_starts (h : (f.reservesAtStart && !f.reserved) = false) : s.startOrWait f x = s.startFrame f x := by
  rw [State.startOrWait, h]
  rfl

/-- EXPOSURE_START starts the frame that is due, where it is no held overrun and waits for no berth. -/
theorem State.exposureStart_started (due : s.startDue = some (f, x)) (held : f.held = false) (ready : f.trig.isSome = true ∨ f.reserved = true) :
    Started f x s s.exposureStart := by
  have start : s.exposureStart = s.startFrame f x := by
    simp only [State.exposureStart, due, held]
    refine (if_neg Bool.false_ne_true).trans (State.startOrWait_starts ?_)
    rcases ready with trig | reserved
    · simp [Frame.reservesAtStart, held, Option.isSome_iff_ne_none.mp trig]
    · simp [reserved]
  obtain ⟨mem, gated⟩ := State.startDue_gated due
  exact start ▸ State.startFrame_started mem gated

/-- DEFERRED_START starts the held overrun that is due and has its berths. -/
theorem State.deferredStart_started (due : s.startDue = some (f, x)) (held : f.held = true) (reserved : f.reserved = true) :
    Started f x s s.deferredStart := by
  have start : s.deferredStart = s.startFrame f x := by
    simp only [State.deferredStart, due, held]
    exact State.startOrWait_starts (by simp [reserved])
  obtain ⟨mem, gated⟩ := State.startDue_gated due
  exact start ▸ State.startFrame_started mem gated

/-! ### Strips (R80) -/

/-- What a strip of the open segment `g` leaves that starts at tick `x`, late after `sched`. -/
structure StripRan (g : StripFrame) (x sched : Nat) (s u : State) : Prop where
  pass : ∃ p : Pass, u.tt.passes = s.tt.passes ++ [p] ∧ p.seq = g.frame.seq ∧ p.cont = g.cont ∧ p.strip = g.strips ∧ p.shot.s = x
  seg : ∃ h : StripFrame, u.tt.seg = some h ∧ h.strips = g.strips + 1 ∧ h.cont = g.cont
  strips : u.tt.strips = s.tt.strips.filter fun e => e.trig.isSome || decide (x ≤ tickCeil sched) || decide (x < e.shot.s)
  last : u.tt.lastStart = some x
  next : u.tt.nextSeq = s.tt.nextSeq

/-- The passes, the strips that wait and the next sequence number are kept. -/
structure KeepsStrips (s t : State) : Prop where
  passes : t.tt.passes = s.tt.passes
  strips : t.tt.strips = s.tt.strips
  next : t.tt.nextSeq = s.tt.nextSeq

theorem KeepsStrips.log (h : KeepsStrips s t) (time : Word) (ty : LogType) (n source detail : Nat) (bound : Bool) :
    KeepsStrips s (t.log time ty n source detail bound) := by
  obtain ⟨_, _, tt⟩ := State.log_tt t time ty n source detail bound
  obtain ⟨passes, strips, next⟩ := h
  constructor <;> rw [tt] <;> assumption

/-- What keeps the plan before a strip does not show in what the strip leaves. -/
theorem KeepsStrips.ran {g : StripFrame} {sched : Nat} (h : KeepsStrips s t) (ran : StripRan g x sched t u) : StripRan g x sched s u where
  pass := by rw [← h.passes]; exact ran.pass
  seg := ran.seg
  strips := by rw [← h.strips]; exact ran.strips
  last := ran.last
  next := ran.next.trans h.next

/-- A strip that does not fill its segment runs. -/
theorem State.runStrip_ran {g : StripFrame} {sched : Nat} {bound : Bool}
    (room : segmentFull (s.bank g.frame.bank) (g.strips + 1) = false) : StripRan g x sched s (s.runStrip g x sched bound) := by
  unfold State.runStrip
  extract_lets st z shot first late s₁ _ f' _ s₃ s₄ s₅ g' _ _ s₆ s₇
  have start : KeepsStrips s s₁ := by
    dsimp only [s₁]
    split <;> exact ⟨rfl, rfl, rfl⟩
  have kept : KeepsStrips s₁ s₅ := by
    dsimp only [s₅]
    split
    · have entered : KeepsStrips s₁ s₃ := ⟨rfl, rfl, rfl⟩
      exact { entered.log _ _ _ _ _ _ with }
    split
    · have noted : KeepsStrips s₁ s₄ := ⟨rfl, rfl, rfl⟩
      exact noted.log _ _ _ _ _ _
    · exact ⟨rfl, rfl, rfl⟩
  have left : s₇.tt.strips = s₅.tt.strips.filter fun e => e.trig.isSome || decide (x ≤ tickCeil sched) || decide (x < e.shot.s) := by
    show (if late then _ else _) = _
    by_cases after : tickCeil sched < x
    · simp [late, after, Nat.not_le.mpr after]
    · simp [late, after, Nat.not_lt.mp after]
  rw [if_neg (Bool.eq_false_iff.mp room)]
  exact {
    pass := ⟨_, congrArg (· ++ _) (kept.passes.trans start.passes), rfl, rfl, rfl, rfl⟩
    seg := ⟨g', rfl, rfl, rfl⟩
    strips := by rw [left, kept.strips, start.strips]
    last := rfl
    next := kept.next.trans start.next }

/-- The strip that is due runs in the open segment: it has its berths, needs none, or finds them now. -/
theorem State.stripStart_ran {d : StripDue} {g : StripFrame} (due : s.stripDue = some (d, x)) (seg : s.tt.seg = some g) (going : g.waiting = false)
    (room : segmentFull (s.bank g.frame.bank) (g.strips + 1) = false)
    (berths : g.strips ≠ 0 ∨ d.trig.isSome = true ∨ d.waited = false ∧ (s.reserve (s.bank g.frame.bank) g.frame.seq false).2 = true) :
    StripRan g x d.shot.s s.dropStrip s.stripStart := by
  have shown {t : State} (h : StripRan g x d.shot.s s.dropStrip t) : StripRan g x d.shot.s s.dropStrip t.showBanks.showPending := { h with }
  simp only [State.stripStart, due, seg, going]
  refine shown ?_
  rw [if_neg Bool.false_ne_true]
  by_cases opens : g.strips = 0 ∧ d.trig.isNone = true
  · obtain ⟨waited, found⟩ : d.waited = false ∧ (s.reserve (s.bank g.frame.bank) g.frame.seq false).2 = true := by
      simpa [opens.1, Option.isNone_iff_eq_none.mp opens.2] using berths
    have mask := s.reserve_mask (s.bank g.frame.bank) g.frame.seq false
    generalize reserved : (s.reserve (s.bank g.frame.bank) g.frame.seq false).1 = t at mask
    have tt : t.tt = s.tt := mask.tt rfl
    have bank : t.bank g.frame.bank = s.bank g.frame.bank := by rw [State.bank, mask.gw rfl, State.bank]
    have starts : s.reserveStrip d x (s.bank g.frame.bank) g.frame.seq (fun s x => s.runStrip g x d.shot.s (s.pdNear x)) =
        t.dropStrip.runStrip g x d.shot.s (t.dropStrip.pdNear x) := by
      unfold State.reserveStrip
      refine (if_pos found).trans ?_
      rw [reserved, State.afterWait, waited, if_neg Bool.false_ne_true]
    have kept : KeepsStrips s.dropStrip t.dropStrip := by constructor <;> simp only [State.dropStrip, tt]
    rw [if_pos (by simpa using opens), starts]
    exact kept.ran (State.runStrip_ran (by rw [← room, ← bank]; rfl))
  · rw [if_neg (by simpa using opens)]
    exact State.runStrip_ran (s := s.dropStrip) room

/-! ### Sub-exposures (R79) -/

/-- The frame whose sub-exposure is due is among the timetable's. -/
theorem State.subDue_mem (h : s.subDue = some (f, x)) : f ∈ s.tt.frames := by
  obtain ⟨r, mem, found⟩ := List.exists_of_findSome?_eq_some h
  have same : r = f := by
    dsimp only at found
    split at found
    case isTrue => contradiction
    split at found
    case isTrue =>
      split at found
      case h_1 =>
        split at found
        case isTrue => exact congrArg Prod.fst (Option.some.inj found)
        case isFalse => contradiction
      case h_2 => contradiction
    case isFalse =>
      split at found
      case isTrue => exact congrArg Prod.fst (Option.some.inj found)
      case isFalse => contradiction
  exact same ▸ mem

/-- A timed sub-exposure is added to its frame. -/
theorem State.subStart_timed (due : s.subDue = some (f, x)) (timed : f.shot.isOpen = false) :
    s.subStart = s.setFrame { f with subs := f.subs + 1, lastSub := x + expA (s.bank f.bank), subStarts := f.subStarts ++ [x] } := by
  simp only [State.subStart, due, timed]
  rfl

/-- The open frame, which no sub-trigger has reached within SUB_TIMEOUT of its last transfer, closes. -/
theorem State.subTimeout_closes (h : s.tt.frames.find? (fun f => f.started && f.shot.isOpen) = some f) (quiet : f.subDue = [])
    (timeout : 0 < (s.bank f.bank).fld Reg.TT_ACCUM Fld.TT_ACCUM_SUB_TIMEOUT)
    (late : f.lastSub + 1000 * (s.bank f.bank).fld Reg.TT_ACCUM Fld.TT_ACCUM_SUB_TIMEOUT ≤ s.clock.tt) :
    s.subTimeout = s.closeAccum (f.lastSub + 1000 * (s.bank f.bank).fld Reg.TT_ACCUM Fld.TT_ACCUM_SUB_TIMEOUT) := by
  simp only [State.subTimeout, h]
  exact if_pos ⟨by omega, by rw [quiet]; rfl, late⟩

/-- An open accumulation closes at `n` with the sub-exposures it holds. -/
theorem State.closeAccum_closed (h : s.tt.frames.find? (fun f => f.started && f.shot.isOpen) = some f) :
    ∃ g ∈ (s.closeAccum n).tt.frames, g.seq = f.seq ∧ g.cont = f.cont ∧ g.shot.isOpen = false ∧ g.shot.e = f.lastSub ∧ g.subs = f.subs ∧
      g.shot.closed = n := by
  simp only [State.closeAccum, h]
  refine ⟨{ f with shot := { f.shot with e := f.lastSub, closed := n, isOpen := false }, subDue := [] }, ?_, rfl, rfl, rfl, rfl, rfl, rfl⟩
  exact List.mem_map.mpr ⟨f, List.mem_of_find?_eq_some h, if_pos (by simp)⟩

/-- Settles O18: a grid instant schedules, is skipped or waits (`gridInstant_schedules`, `gridInstant_skips`, `gridInstant_waits`), a frame starts
(`startFrame_started`), a strip runs (`stripStart_ran`), and an accumulation takes a sub-exposure or closes (`subStart_timed`, `closeAccum_closed`). -/
theorem framesAreScheduledAndStart : Obligations.FramesAreScheduledAndStart := by
  refine ⟨fun t g => ?_, fun t g x => ?_, fun t g b => ?_, fun t x f => ?_, fun t x f => ?_, fun t x d g => ?_, fun t x f => ?_, fun t f => ?_⟩
  · refine Runs.of (fun s => s.gridInstant) (fun _ => rfl) fun s ⟨instant, near, burst, closed, ahead, form, period⟩ => ?_
    rw [State.gridInstant_schedules instant near burst closed ahead form]
    exact ⟨⟨s.gridFrame g, rfl, rfl, rfl, rfl, rfl, rfl, rfl, rfl⟩, State.gridStep_grid period, rfl⟩
  · refine Runs.of (fun s => s.gridInstant) (fun _ => rfl) fun s ⟨instant, near, placed, passed, period⟩ => ?_
    rw [State.gridInstant_skips instant near placed passed]
    exact ⟨rfl, rfl, rfl, State.gridStep_grid period⟩
  · exact Runs.of (fun s => s.gridInstant) (fun _ => rfl) fun s ⟨instant, burst, left, closed, ahead⟩ =>
      State.gridInstant_waits instant burst left closed ahead
  · refine Runs.of (fun s => s.exposureStart) (fun _ => rfl) fun s ⟨due, held, ready⟩ => ?_
    have start := State.exposureStart_started due held ready
    have late : f.startsLate x = (f.late || decide (tickCeil f.sched < x)) := by rw [Frame.startsLate, held]; rfl
    obtain ⟨g, mem, seq, cont, started, shot, isLate⟩ := start.frame
    refine ⟨⟨g, mem, seq, cont, started, shot, isLate.trans late⟩, start.pass, start.last, ?_⟩
    simpa only [late, Bool.or_eq_true, decide_eq_true_eq] using start.late
  · refine Runs.of (fun s => s.deferredStart) (fun _ => rfl) fun s ⟨due, held, reserved⟩ => ?_
    have start := State.deferredStart_started due held reserved
    have late : f.startsLate x = decide (tickCeil f.shot.s < x) := by rw [Frame.startsLate, held]; rfl
    obtain ⟨g, mem, seq, cont, started, shot, _⟩ := start.frame
    obtain ⟨p, passes, pseq, _, pshot, began⟩ := start.pass
    refine ⟨⟨g, mem, seq, cont, started, shot⟩, ⟨p, passes, pseq, pshot, began⟩, start.last, ?_, fun after room => ?_, fun onTime room => ?_⟩
    · simpa only [late, decide_eq_true_eq] using start.late
    · exact start.log_deferred (by rw [held, late, decide_eq_true after]; rfl) room
    · exact start.log_once (by rw [held, late, decide_eq_false (Nat.not_lt.mpr onTime)]; rfl) room
  · refine Runs.of (fun s => s.stripStart) (fun _ => rfl) fun s ⟨due, seg, going, room, berths⟩ => ?_
    obtain ⟨pass, seg, strips, last, next⟩ := State.stripStart_ran due seg going room berths
    exact ⟨pass, seg, strips, last, next⟩
  · refine Runs.of (fun s => s.subStart) (fun _ => rfl) fun s ⟨due, gated, timed⟩ => ?_
    rw [State.subStart_timed due timed]
    exact ⟨_, State.setFrame_mem (State.subDue_mem due) gated rfl rfl, rfl, rfl, rfl, rfl, rfl⟩
  · refine Runs.of (fun s => s.subTimeout) (fun _ => rfl) fun s ⟨found, quiet, timeout, late⟩ => ?_
    rw [State.subTimeout_closes found quiet timeout late]
    exact State.closeAccum_closed found

end Sys2Proof.Machine

/-! ## Slice rotation and injected conversions -/

namespace Sys2Proof.Machine

/-! ### Bits of a number -/

theorem hasBit_eq_testBit (n i : Nat) : hasBit n i = n.testBit i := Nat.testBit_eq_decide_div_mod_eq.symm

theorem hasBit_two_pow (n i : Nat) : hasBit (2 ^ n) i = true ↔ i = n := by
  rw [hasBit_eq_testBit, Nat.testBit_two_pow, decide_eq_true_eq, eq_comm]

variable {s t : State} {b x band refsel slot : Nat} {j : Injection} {r : InjResult} {p : Pass}

/-! ### SLICE_ROTATION -/

/-- What a pass makes of the rotations and passes that band `b` counts, with no injected conversion on its spares (R93, R94). -/
def State.rotNext (s : State) (b : Nat) : Nat × Nat :=
  let r := s.cc.rot.getD b (0, 0)
  if s.flag Reg.CC_ROT_CFG Fld.CC_ROT_CFG_ROT_EN = true ∧ max 1 (s.f Reg.CC_ROT_CFG Fld.CC_ROT_CFG_FRAMES) ≤ r.2 + 1 then (r.1 + 1, 0)
  else (r.1, r.2 + 1)

theorem State.rotNext_congr (rot : t.cc.rot[b]? = s.cc.rot[b]?) (cfg : t.reg Reg.CC_ROT_CFG = s.reg Reg.CC_ROT_CFG) :
    t.rotNext b = s.rotNext b := by
  simp only [State.rotNext, State.flag, State.f, cfg, List.getD_eq_getElem?_getD, rot]

theorem State.clearRejRun_cc (s : State) (b : Nat) : (s.clearRejRun b).cc = s.cc :=
  (State.clearRejRun_within (Foot.refl _ _ _) (.refl _ _ _ s)).cc rfl

/-- With no injection under way a band's pass counts, or its due rotation takes place (R94). -/
theorem State.rotateBand_rot (idle : s.cc.inj = []) :
    (s.rotateBand b x).1.cc.rot = s.cc.rot.set b (s.rotNext b) ∧ (s.rotateBand b x).1.cc.inj = [] := by
  have clear : s.injOccupied b (x + 700) = false := by rw [State.injOccupied, idle]; rfl
  unfold State.rotateBand
  extract_lets +onlyGivenNames r due
  cases hdue : due with
  | false =>
    have next : s.rotNext b = (r.1, r.2 + 1) := if_neg (by simpa [due, r] using hdue)
    rw [next]
    exact ⟨rfl, idle⟩
  | true =>
    have next : s.rotNext b = (r.1 + 1, 0) := if_pos (by simpa [due, r] using hdue)
    rw [if_neg (by simp), if_neg (by simp [clear]), next]
    extract_lets s₁ s₂ cc s₃
    have released : Within 0x1d00000000000000000022 0 0 s s₂ :=
      have steps := State.releaseSteps_within ⟨by decide, .inl (by decide)⟩ (.refl _ _ _ s)
      .ite (.satF .CAL_CNT 0 0 rfl (.inl (by decide)) steps) steps
    rw [State.clearRejRun_cc]
    simp only [State.restartBands, s₃, cc, released.cc rfl, idle, List.map_nil, and_self]

theorem State.rotateBand_cfg (s : State) (b x : Nat) : (s.rotateBand b x).1.reg Reg.CC_ROT_CFG = s.reg Reg.CC_ROT_CFG :=
  (State.rotateBand_within (Foot.refl _ _ _) (.refl _ _ _ s)).keepReg .CC_ROT_CFG 0 0 rfl rfl

/-- The bands below `n` have had the rotation instant of a pass, and those from `n` on have not. -/
structure State.RotatedTo (s : State) (n : Nat) (t : State) : Prop where
  idle : t.cc.inj = []
  cfg : t.reg Reg.CC_ROT_CFG = s.reg Reg.CC_ROT_CFG
  length : t.cc.rot.length = s.cc.rot.length
  rot : ∀ b, b < s.cc.rot.length → t.cc.rot[b]? = if b < n then some (s.rotNext b) else s.cc.rot[b]?

theorem State.RotatedTo.zero (idle : s.cc.inj = []) : s.RotatedTo 0 s := ⟨idle, rfl, rfl, fun _ _ => rfl⟩

theorem State.RotatedTo.step {n : Nat} (h : s.RotatedTo n t) (hn : n < s.cc.rot.length) : s.RotatedTo (n + 1) (t.rotateBand n x).1 := by
  obtain ⟨rot, idle⟩ := t.rotateBand_rot (b := n) (x := x) h.idle
  have next : t.rotNext n = s.rotNext n := State.rotNext_congr ((h.rot n hn).trans (if_neg (Nat.lt_irrefl n))) h.cfg
  refine ⟨idle, (t.rotateBand_cfg n x).trans h.cfg, by rw [rot, List.length_set, h.length], fun b hb => ?_⟩
  rw [rot, next, List.getElem?_set, h.length, h.rot b hb]
  rcases Nat.lt_trichotomy b n with lt | rfl | gt
  · rw [if_neg (by omega), if_pos lt, if_pos (by omega)]
  · rw [if_pos rfl, if_pos hb, if_pos (by omega)]
  · rw [if_neg (by omega), if_neg (by omega), if_neg (by omega)]

/-- The rotation instant takes the bands in turn (R94). -/
theorem State.rotateAt_rot (idle : s.cc.inj = []) (bands : s.cc.rot.length = 32) (hb : b < 32) :
    (s.rotateAt x).cc.rot[b]? = some (s.rotNext b) := by
  have turn (n : Nat) (hn : n ≤ 32) : s.RotatedTo n ((List.range n).foldl (fun (y : State × Bool) b =>
      let z := y.1.rotateBand b x; (z.1, y.2 || z.2)) (s, false)).1 := by
    induction n with
    | zero => exact .zero idle
    | succ n ih =>
      rw [List.range_succ, List.foldl_append]
      exact (ih (by omega)).step (by omega)
  have all := ((turn 32 (Nat.le_refl _)).rot b (by omega)).trans (if_pos hb)
  unfold State.rotateAt
  dsimp only
  split <;> exact all

/-- The rotation instant of the running pass has come (R90, R94). -/
theorem State.rotation_due (running : s.running = some p) (todo : p.rotDone = false) (due : p.began.getD 0 + 700 ≤ s.clock.tt) :
    s.rotation = (s.rotateAt (p.began.getD 0)).modRunning fun p => { p with rotDone := true } := by
  simp only [State.rotation, running]
  exact if_neg (by simp [todo, due])

/-! ### INJ_REQ -/

/-- A request that names one band (R97). -/
theorem State.requestBands_one (hb : band < 32) :
    s.requestBands (BitVec.ofNat 32 (2 ^ band)).toNat refsel = s.requestInj band refsel s.tick false 0 := by
  have value : (BitVec.ofNat 32 (2 ^ band)).toNat = 2 ^ band := Nat.mod_eq_of_lt (Nat.pow_lt_pow_right (by decide) hb)
  have named : (List.range 32).filter (hasBit (2 ^ band)) = [band] :=
    filter_range_one (k := ⟨band, hb⟩) fun i => (hasBit_two_pow band i.val).trans (Fin.ext_iff (b := ⟨band, hb⟩)).symm
  rw [State.requestBands, value, named]
  rfl

/-- A request that can be taken waits for its column step (R97, R98). -/
theorem State.requestInj_accepted (free : s.injPending b = false) (ref : refsel ≠ 3) (on : s.u Reg.CC_CFG Fld.CC_CFG_INJ_EN ≠ 0) :
    (s.requestInj b refsel x false slot).injPending b = true ∧ (s.requestInj b refsel x false slot).regs = s.regs ∧
      ∃ j ∈ (s.requestInj b refsel x false slot).cc.inj, j.band = b ∧ j.refsel = refsel ∧ j.reqAt = x ∧ j.startAt = none ∧ j.tracker = false := by
  rw [State.requestInj, if_neg (by simp [free, ref, on])]
  exact ⟨by simp [State.injPending], rfl, _, List.mem_append_right _ (List.mem_singleton_self _), rfl, rfl, rfl, rfl, rfl⟩

/-- A request that cannot be taken is rejected and counted (R97, R98). -/
theorem State.requestInj_rejected (h : s.injPending b = true ∨ refsel = 3 ∨ s.u Reg.CC_CFG Fld.CC_CFG_INJ_EN = 0) :
    (s.requestInj b refsel x false slot).cc = s.cc ∧
      (s.requestInj b refsel x false slot).flag Reg.CC_STATUS Fld.CC_STATUS_INJ_REJECTED = true ∧
      (s.requestInj b refsel x false slot).f Reg.CC_CNT Fld.CC_CNT_INJ_REJECTED = min (s.f Reg.CC_CNT Fld.CC_CNT_INJ_REJECTED + 1) 65535 := by
  rw [State.requestInj, if_pos (by simpa [or_assoc] using h)]
  have count : (s.setB Reg.CC_STATUS Fld.CC_STATUS_INJ_REJECTED true).f Reg.CC_CNT Fld.CC_CNT_INJ_REJECTED =
      s.f Reg.CC_CNT Fld.CC_CNT_INJ_REJECTED := State.f_of_reg _ (State.reg_setB_ne _ _ (by decide))
  refine ⟨rfl, ?_, ?_⟩
  · exact (State.flag_of_reg _ (State.reg_satF_ne _ _ (by decide))).trans (State.flag_setB_self _ _ _ _ (by decide) rfl)
  · exact (State.f_satF_self _ _ _ (by decide)).trans (by rw [count]; rfl)

/-! ### INJECTED_CONVERSION_START and INJECTED_RESULT -/

/-- The conversion that waits starts on its column step (R97). -/
theorem State.injStart_due (found : s.cc.inj.find? (fun j => j.band == b && j.startAt.isNone) = some j)
    (due : s.cc.boundary (16 * j.reqAt) ≤ 16 * s.clock.tt) :
    ∃ k ∈ (s.injStart b).cc.inj, k.band = b ∧ k.startAt = some (s.cc.boundary (16 * j.reqAt)) ∧
      k.doneAt = s.cc.boundary (16 * j.reqAt) + s.cc.gridStep := by
  have here : j.band = b ∧ j.startAt = none := by simpa using List.find?_some found
  simp only [State.injStart, found, if_pos due]
  exact ⟨_, List.mem_map.mpr ⟨j, List.mem_of_find?_eq_some found, if_pos (beq_iff_eq.mpr here.1)⟩, here.1, rfl, rfl⟩

/-- Once every injection of a band has its result, none is pending there (R98). -/
theorem State.injPending_modInj_got (s : State) (b : Nat) : (s.modInj b fun j => { j with got := true }).injPending b = false := by
  simp only [State.injPending, State.modInj, List.any_map, List.any_eq_false, Function.comp_apply]
  intro j _
  by_cases h : j.band = b <;> simp [h]

/-- The element that takes the place of those that satisfy `q` is the one found. -/
theorem find?_filter_not_append {α : Type} (q : α → Bool) (l : List α) {a : α} (h : q a = true) :
    (l.filter (fun y => !q y) ++ [a]).find? q = some a := by
  have others : (l.filter fun y => !q y).find? q = none := by simp
  rw [List.find?_append, others, Option.none_or, List.find?_cons_of_pos h]

/-- The result whose bit decisions have ended is kept, with the reference of its request, as its band's last one, and answers the request (R97, R98). -/
theorem State.injResult_due (found : s.cc.inj.find? (fun j => j.band == r.band && j.startAt.isSome && !j.got) = some j)
    (ended : j.startAt.getD 0 + 16 * decisionsEnd (j.doneAt - j.startAt.getD 0) ≤ 16 * s.clock.tt) :
    (s.injResult r).injPending r.band = false ∧
      (s.injResult r).cc.lastInj.find? (fun y => y.band == r.band) = some { r with refsel := j.refsel } := by
  simp only [State.injResult, found, if_neg (Nat.not_lt.mpr ended)]
  have last := find?_filter_not_append (fun y : InjResult => y.band == r.band) s.cc.lastInj (a := { r with refsel := j.refsel }) (beq_self_eq_true _)
  split <;> exact ⟨State.injPending_modInj_got _ _, last⟩

/-- Settles O24: the rotation instant counts for every band (`rotateAt_rot`), a request is taken or rejected (`requestInj_accepted`,
`requestInj_rejected`), its conversion starts (`injStart_due`), and its result is kept (`injResult_due`). -/
theorem spareSlicesRotateAndConvertInjections : Obligations.SpareSlicesRotateAndConvertInjections := by
  refine ⟨fun t p b hb => ?_, fun t src band refsel hb => ⟨?_, ?_⟩, fun t band j => ?_, fun t band code j => ?_⟩
  · refine Runs.of (fun s => s.rotation) (fun _ => rfl) fun s ⟨running, todo, due, bands, idle⟩ => ?_
    rw [State.rotation_due running todo due]
    exact State.rotateAt_rot idle bands hb
  · refine Runs.of (fun s => s.managed src fun s => s.requestBands _ refsel.val) (fun _ => rfl) fun s ⟨may, free, ref, on⟩ => ?_
    rw [State.managed_of may, State.requestBands_one hb]
    exact State.requestInj_accepted free ref on
  · refine Runs.of (fun s => s.managed src fun s => s.requestBands _ refsel.val) (fun _ => rfl) fun s ⟨may, refused⟩ => ?_
    rw [State.managed_of may, State.requestBands_one hb]
    exact State.requestInj_rejected refused
  · exact Runs.of (fun s => s.injStart band.val) (fun _ => rfl) fun s ⟨found, due⟩ => State.injStart_due found due
  · exact Runs.of (fun s => s.injResult ⟨band.val, code.val, 0, []⟩) (fun _ => rfl) fun s ⟨found, ended⟩ => State.injResult_due found ended

end Sys2Proof.Machine

/-! ## Housekeeping: entries, injected conversions and calibration -/

namespace Sys2Proof.Machine

variable {s t : State} {a c i tag v cause code : Nat} {f g : Field} {ok : Bool} {x : HkInj} {r : List HkInj}

/-! ### Bits of a field of bits -/

theorem hasBit_setBit_self (hf : f.lo + f.width ≤ 64) (hi : i < f.width) : hasBit ((s.setBit a f i).f a f) i = true := by
  rw [State.f_setBit_self a f i hf, hasBit_eq_testBit, Nat.testBit_mod_two_pow, Nat.testBit_or, Nat.testBit_two_pow_self]
  simp [hi]

/-- A bit that was taken off a field of bits. -/
theorem hasBit_clrBit_self (hf : f.lo + f.width ≤ 64) : hasBit ((s.clrBit a f i).f a f) i = false := by
  rw [State.clrBit]
  split
  case isFalse h => exact Bool.eq_false_iff.mpr h
  case isTrue h =>
    have fits : s.f a f - 2 ^ i < 2 ^ f.width := Nat.lt_of_le_of_lt (Nat.sub_le _ _) (Field.get_lt f _)
    have quotient : (s.f a f - 2 ^ i) / 2 ^ i = s.f a f / 2 ^ i - 1 := by
      simpa using Nat.sub_mul_div (s.f a f) (2 ^ i) 1
    have odd : s.f a f / 2 ^ i % 2 = 1 := beq_iff_eq.mp h
    show hasBit (f.get ((s.setReg a _).reg a)) i = false
    rw [State.reg_setReg_self, Field.get_set_self f _ _ hf, Nat.mod_eq_of_lt fits, hasBit, quotient]
    exact beq_false_of_ne (by omega)

theorem State.reg_clrBit_ne {b : Nat} (h : b ≠ a) : (s.clrBit a f i).reg b = s.reg b := by
  rw [State.clrBit]
  split
  · exact State.reg_setReg_ne s _ h
  · rfl

theorem State.f_clrBit_disjoint (h : g.lo + g.width ≤ f.lo ∨ f.lo + f.width ≤ g.lo) : (s.clrBit a f i).f a g = s.f a g := by
  rw [State.clrBit]
  split
  · show g.get ((s.setReg a _).reg a) = _
    rw [State.reg_setReg_self, Field.get_set_disjoint f g _ _ h]
    rfl
  · rfl

/-! ### HK_ENTRY_DONE -/

theorem hkMean_lt (avg v : Nat) : hkMean avg v < 2 ^ 16 := by
  have : hkMean avg v ≤ min v 65520 := Nat.div_mul_le_self _ _
  omega

/-- An entry's result is stored, shown as valid and counted (R102). -/
def State.hkStored (s : State) (c v : Nat) : State :=
  ((s.setF (Reg.HK_RES c) Fld.HK_RES_VALUE v).setB (Reg.HK_RES c) Fld.HK_RES_VALID true).addF (Reg.HK_RES c) Fld.HK_RES_UPDATES 1

theorem State.hkStored_shows (hv : v < 2 ^ 16) : (s.hkStored c v).f (Reg.HK_RES c) Fld.HK_RES_VALUE = v ∧
    (s.hkStored c v).flag (Reg.HK_RES c) Fld.HK_RES_VALID = true ∧
    (s.hkStored c v).f (Reg.HK_RES c) Fld.HK_RES_UPDATES = (s.f (Reg.HK_RES c) Fld.HK_RES_UPDATES + 1) % 2 ^ 32 := by
  unfold State.hkStored
  refine ⟨?_, ?_, ?_⟩
  · rw [State.addF, State.f_setF_disjoint _ _ _ _ _ (by decide), State.f_setB_disjoint _ _ _ _ (by decide), State.f_setF_self _ _ _ _ (by decide)]
    exact Nat.mod_eq_of_lt hv
  · exact (State.flag_setF_disjoint _ _ _ _ (by decide)).trans (State.flag_setB_self _ _ _ _ (by decide) rfl)
  · rw [State.f_addF_self _ _ _ (by decide), State.f_setB_disjoint _ _ _ _ (by decide), State.f_setF_disjoint _ _ _ _ _ (by decide)]
    rfl

/-- An entry is over, and nothing is left to hold it up (R102 to R104). -/
def State.HkEntryOver (s : State) : Prop :=
  s.boot.inReset = false ∧ s.hk.runs = true ∧ s.hk.entryEnd ≤ s.clock.now ∧ s.hk.entryClear = true

/-- `t` is `s` after its entry was stored as `v` and before `v` is supervised: the result shows, the supervision's registers are as they were,
and the sequence goes on from the entry's end (R102). -/
structure State.HkStoredTo (s : State) (v : Nat) (t : State) : Prop where
  result : t.reg (Reg.HK_RES s.hk.channel) = (s.hkStored s.hk.channel v).reg (Reg.HK_RES s.hk.channel)
  limits : t.reg (Reg.PWR_LIM s.hk.channel) = s.reg (Reg.PWR_LIM s.hk.channel)
  supply : t.reg Reg.PWR_SUP = s.reg Reg.PWR_SUP
  status : t.reg Reg.PWR_STAT = s.reg Reg.PWR_STAT
  boot : t.boot = s.boot
  next : t.hk.entryAt = s.hk.entryEnd

theorem State.HkStoredTo.of_regs (regs : t.regs = (s.hkStored s.hk.channel v).regs) (boot : t.boot = s.boot)
    (next : t.hk.entryAt = s.hk.entryEnd) : s.HkStoredTo v t := by
  have kept : Within (Machine.maskOf [.HK_RES]) 0 0 s (s.hkStored s.hk.channel v) :=
    .addF .HK_RES _ 0 rfl (.inl (by decide)) (.setB .HK_RES _ 0 rfl (.inl (by decide)) (.setF .HK_RES _ 0 rfl (.inl (by decide)) (.refl _ _ _ s)))
  have same (a : Nat) : t.reg a = (s.hkStored s.hk.channel v).reg a := State.reg_congr regs a
  exact ⟨same _, (same _).trans (kept.keepReg .PWR_LIM _ 0 rfl (by decide)), (same _).trans (kept.keepReg .PWR_SUP 0 0 rfl (by decide)),
    (same _).trans (kept.keepReg .PWR_STAT 0 0 rfl (by decide)), boot, next⟩

/-- An entry that is over is stored as the mean of its conversions, which is then supervised (R102, R389). -/
theorem State.hkEntry_over (h : s.HkEntryOver) : ∃ t : State, s.HkStoredTo (hkMean (Fld.HK_CFG_AVG.get s.hk.cfg) v) t ∧
    s.hkEntry v = t.supervise s.hk.channel (hkMean (Fld.HK_CFG_AVG.get s.hk.cfg) v) := by
  obtain ⟨awake, runs, late, clear⟩ := h
  unfold State.hkEntry
  extract_lets h c mean s₁ s₂ s₃
  refine ⟨s₃, .of_regs ?_ ?_ ?_, if_pos ⟨by rw [awake]; rfl, runs, late, clear⟩⟩ <;> dsimp only [s₃, s₂]
  · split <;> split <;> rfl
  · split <;> split <;> rfl
  · split <;> rfl

/-- A result within its limits and below TRIP shows in LIM_NOW alone (R389). -/
theorem State.supervise_within_limits (low : s.f (Reg.PWR_LIM c) Fld.PWR_LIM_LOW ≤ v) (high : v ≤ s.f (Reg.PWR_LIM c) Fld.PWR_LIM_HIGH)
    (cool : v / 16 < s.f Reg.PWR_SUP Fld.PWR_SUP_TRIP) : s.supervise c v = s.clrBit Reg.PWR_STAT Fld.PWR_STAT_LIM_NOW c := by
  have inside : (decide (v < s.f (Reg.PWR_LIM c) Fld.PWR_LIM_LOW) || decide (s.f (Reg.PWR_LIM c) Fld.PWR_LIM_HIGH < v)) = false := by
    simp [low, high]
  have trip : (s.clrBit Reg.PWR_STAT Fld.PWR_STAT_LIM_NOW c).f Reg.PWR_SUP Fld.PWR_SUP_TRIP = s.f Reg.PWR_SUP Fld.PWR_SUP_TRIP :=
    State.f_of_reg _ (State.reg_clrBit_ne (by decide))
  unfold State.supervise
  rw [inside]
  exact if_neg (by simp [State.putBit, trip, cool])

/-- An entry within its limits and below TRIP shows its mean and does no more (R102, R389). -/
theorem State.HkStoredTo.within_limits (h : s.HkStoredTo v t) (hv : v < 2 ^ 16) (low : s.f (Reg.PWR_LIM s.hk.channel) Fld.PWR_LIM_LOW ≤ v)
    (high : v ≤ s.f (Reg.PWR_LIM s.hk.channel) Fld.PWR_LIM_HIGH) (cool : v / 16 < s.f Reg.PWR_SUP Fld.PWR_SUP_TRIP) :
    (t.supervise s.hk.channel v).f (Reg.HK_RES s.hk.channel) Fld.HK_RES_VALUE = v ∧
      (t.supervise s.hk.channel v).flag (Reg.HK_RES s.hk.channel) Fld.HK_RES_VALID = true ∧
      (t.supervise s.hk.channel v).f (Reg.HK_RES s.hk.channel) Fld.HK_RES_UPDATES = (s.f (Reg.HK_RES s.hk.channel) Fld.HK_RES_UPDATES + 1) % 2 ^ 32 ∧
      (t.supervise s.hk.channel v).f Reg.PWR_STAT Fld.PWR_STAT_LIM_HIT = s.f Reg.PWR_STAT Fld.PWR_STAT_LIM_HIT ∧
      (t.supervise s.hk.channel v).boot = s.boot ∧ (t.supervise s.hk.channel v).hk.entryAt = s.hk.entryEnd := by
  rw [State.supervise_within_limits (by rwa [State.f_of_reg _ h.limits]) (by rwa [State.f_of_reg _ h.limits]) (by rwa [State.f_of_reg _ h.supply]),
    State.clrBit_boot, State.clrBit_hk, State.f_clrBit_disjoint (by decide), State.f_of_reg _ h.status]
  have other : Reg.HK_RES s.hk.channel ≠ Reg.PWR_STAT := Part.addr_ne (p := .PWR_STAT) (q := .HK_RES) (i := 0) (j := 0) (j' := 0) (by decide) rfl rfl
  have result := (State.reg_clrBit_ne (s := t) (f := Fld.PWR_STAT_LIM_NOW) (i := s.hk.channel) other).trans h.result
  obtain ⟨value, valid, updates⟩ := State.hkStored_shows (s := s) (c := s.hk.channel) hv
  exact ⟨(State.f_of_reg _ result).trans value, (State.flag_of_reg _ result).trans valid, (State.f_of_reg _ result).trans updates,
    rfl, h.boot, h.next⟩

/-- A temperature at or above TRIP resets the device (R389). -/
theorem State.supervise_trips (on : s.flag Reg.PWR_SUP Fld.PWR_SUP_TRIP_EN = true) (lo : 4 ≤ c) (hi : c ≤ 7)
    (hot : s.f Reg.PWR_SUP Fld.PWR_SUP_TRIP ≤ v / 16) : ∃ t : State, s.supervise c v = t.deviceReset 4 := by
  unfold State.supervise
  extract_lets out s₁ s₂
  have shown : Within (Machine.maskOf [.PWR_STAT]) 0 0 s s₂ :=
    have now : Within (Machine.maskOf [.PWR_STAT]) 0 0 s s₁ :=
      .ite (.setBit .PWR_STAT 0 0 rfl (.inl (by decide)) (.refl _ _ _ s)) (.clrBit .PWR_STAT 0 0 rfl (.inl (by decide)) (.refl _ _ _ s))
    .ite (.setBit .PWR_STAT 0 0 rfl (.inl (by decide)) now) now
  have sup : s₂.reg Reg.PWR_SUP = s.reg Reg.PWR_SUP := shown.keepReg .PWR_SUP 0 0 rfl (by decide)
  exact ⟨s₂, if_pos (by simp [State.flag_of_reg _ sup, State.f_of_reg _ sup, on, lo, hi, hot])⟩

/-- A device reset leaves its cause and no frames or commits (R366). -/
theorem State.deviceReset_clears (s : State) (hc : cause < 8) : (s.deviceReset cause).f Reg.PWR_STAT Fld.PWR_STAT_CAUSE = cause ∧
    (s.deviceReset cause).gw.commits = [] ∧ (s.deviceReset cause).tt.frames = [] :=
  ⟨(State.f_setF_self _ _ _ _ (by decide)).trans (Nat.mod_eq_of_lt hc), rfl, rfl⟩

/-! ### HK_INJ and HK_INJ_DONE -/

/-- A request under a free tag waits behind the pending ones (R103). -/
theorem State.hkInject_free (ht : tag < 4) (free : hasBit (s.f Reg.HK_STATUS Fld.HK_STATUS_INJ_PENDING) tag = false) :
    (s.hkInject c tag).hk.inj = s.hk.inj ++ [{ tag := tag, channel := c, start := s.hkInjStart }] ∧
      hasBit ((s.hkInject c tag).f Reg.HK_STATUS Fld.HK_STATUS_INJ_PENDING) tag = true := by
  rw [State.hkInject, if_neg (by simp [free])]
  exact ⟨rfl, hasBit_setBit_self (by decide) ht⟩

/-- A request under a pending tag is rejected (R103). -/
theorem State.hkInject_pending (pending : hasBit (s.f Reg.HK_STATUS Fld.HK_STATUS_INJ_PENDING) tag = true) :
    (s.hkInject c tag).hk = s.hk ∧ (s.hkInject c tag).flag Reg.HK_STATUS Fld.HK_STATUS_INJ_REJECT = true := by
  rw [State.hkInject, if_pos pending]
  exact ⟨rfl, State.flag_setB_self _ _ _ _ (by decide) rfl⟩

theorem Housekeeping.afterInj_inj (h : Housekeeping) (x : Nat) : (h.afterInj x).inj = h.inj.drop 1 := by
  simp only [Housekeeping.afterInj, apply_ite Housekeeping.inj, ite_self]

/-- The result of an injected conversion under its tag (R103). -/
def State.hkInjStored (s : State) (x : HkInj) (code : Nat) : State :=
  ((s.setF (Reg.HK_INJ_RES x.tag) Fld.HK_INJ_RES_CODE code).setF (Reg.HK_INJ_RES x.tag) Fld.HK_INJ_RES_CHANNEL x.channel).setB
    (Reg.HK_INJ_RES x.tag) Fld.HK_INJ_RES_VALID true

theorem State.hkInjStored_shows (hc : code < 4096) (hx : x.channel < 16) :
    (s.hkInjStored x code).f (Reg.HK_INJ_RES x.tag) Fld.HK_INJ_RES_CODE = code ∧
      (s.hkInjStored x code).f (Reg.HK_INJ_RES x.tag) Fld.HK_INJ_RES_CHANNEL = x.channel ∧
      (s.hkInjStored x code).flag (Reg.HK_INJ_RES x.tag) Fld.HK_INJ_RES_VALID = true := by
  unfold State.hkInjStored
  refine ⟨?_, ?_, State.flag_setB_self _ _ _ _ (by decide) rfl⟩
  · rw [State.f_setB_disjoint _ _ _ _ (by decide), State.f_setF_disjoint _ _ _ _ _ (by decide), State.f_setF_self _ _ _ _ (by decide)]
    exact Nat.mod_eq_of_lt hc
  · rw [State.f_setB_disjoint _ _ _ _ (by decide), State.f_setF_self _ _ _ _ (by decide)]
    exact Nat.mod_eq_of_lt hx

/-- A tag is done and no longer pending (R103). -/
def State.hkTagDone (s : State) (tag : Nat) : State :=
  (s.setBit Reg.HK_STATUS Fld.HK_STATUS_INJ_DONE tag).clrBit Reg.HK_STATUS Fld.HK_STATUS_INJ_PENDING tag

theorem State.hkTagDone_shows (ht : tag < 4) : hasBit ((s.hkTagDone tag).f Reg.HK_STATUS Fld.HK_STATUS_INJ_DONE) tag = true ∧
    hasBit ((s.hkTagDone tag).f Reg.HK_STATUS Fld.HK_STATUS_INJ_PENDING) tag = false := by
  refine ⟨?_, hasBit_clrBit_self (by decide)⟩
  rw [State.hkTagDone, State.f_clrBit_disjoint (by decide)]
  exact hasBit_setBit_self (by decide) ht

/-- A request is answered with its result, and the converter goes on as `m` has it (R103). -/
def State.hkAnswered (s : State) (x : HkInj) (code : Nat) (m : Housekeeping → Housekeeping) : State :=
  ((s.hkInjStored x code).hkTagDone x.tag).modHk m

theorem State.hkAnswered_hk (s : State) (x : HkInj) (code : Nat) (m : Housekeeping → Housekeeping) : (s.hkAnswered x code m).hk = m s.hk :=
  congrArg m (State.clrBit_hk _ _ _ _)

theorem State.hkAnswered_shows (m : Housekeeping → Housekeeping) (hc : code < 4096) (ht : x.tag < 4) (hx : x.channel < 16) :
    (s.hkAnswered x code m).f (Reg.HK_INJ_RES x.tag) Fld.HK_INJ_RES_CODE = code ∧
      (s.hkAnswered x code m).f (Reg.HK_INJ_RES x.tag) Fld.HK_INJ_RES_CHANNEL = x.channel ∧
      (s.hkAnswered x code m).flag (Reg.HK_INJ_RES x.tag) Fld.HK_INJ_RES_VALID = true ∧
      hasBit ((s.hkAnswered x code m).f Reg.HK_STATUS Fld.HK_STATUS_INJ_DONE) x.tag = true ∧
      hasBit ((s.hkAnswered x code m).f Reg.HK_STATUS Fld.HK_STATUS_INJ_PENDING) x.tag = false := by
  have other : Reg.HK_INJ_RES x.tag ≠ Reg.HK_STATUS :=
    Part.addr_ne (p := .HK_STATUS) (q := .HK_INJ_RES) (i := 0) (j := 0) (j' := 0) (by decide) rfl rfl
  have kept : (s.hkAnswered x code m).reg (Reg.HK_INJ_RES x.tag) = (s.hkInjStored x code).reg (Reg.HK_INJ_RES x.tag) :=
    (State.reg_clrBit_ne other).trans (State.reg_setBit_ne _ _ other)
  obtain ⟨value, channel, valid⟩ := State.hkInjStored_shows (s := s) hc hx
  exact ⟨(State.f_of_reg _ kept).trans value, (State.f_of_reg _ kept).trans channel, (State.flag_of_reg _ kept).trans valid, State.hkTagDone_shows ht⟩

/-- The oldest injected conversion is over (R103). -/
theorem State.hkInjDone_due (first : s.hk.inj = x :: r) (due : x.start + 1000 ≤ s.clock.now) :
    s.hkInjDone code = s.hkAnswered x code fun h => h.afterInj x.start := by
  simp only [State.hkInjDone, first]
  exact if_pos due

/-! ### HK_CALIBRATION -/

/-- The next calibration counts from the last whole period (R104). -/
theorem nextPeriod_after {from' period now : Nat} (h : period ≠ 0) : now < from' + period * ((now - from') / period) + period := by
  have := Nat.lt_mul_div_succ (now - from') (Nat.pos_of_ne_zero h)
  rw [Nat.mul_add] at this
  omega

/-- The converter after a calibration whose steps are over: the sequence goes on where it paused (R104). -/
def State.hkResume (s : State) : State := s.modHk fun h => { h with
  calAt := h.calAt + h.period * ((s.clock.now - h.calAt) / h.period), calLate := 0
  entryAt := if h.runs then h.entryAt + 4000 + h.calLate else h.entryAt }

/-- A calibration whose steps are over, with no injection left to hold it up (R104). -/
theorem State.hkCalibrate_over (awake : s.boot.inReset = false) (on : s.hk.period ≠ 0) (late : s.hk.calEnd ≤ s.clock.now)
    (clear : ∀ x ∈ s.hk.inj, s.hk.calEnd ≤ x.start) : (s.hkCalibrate ok).hk = s.hkResume.hk ∧
      (s.hkCalibrate ok).flag Reg.HK_STATUS Fld.HK_STATUS_CAL_FAIL = (s.flag Reg.HK_STATUS Fld.HK_STATUS_CAL_FAIL || !ok) := by
  have resumed : s.hkCalibrate ok = if ok then s.hkResume else s.hkResume.setB Reg.HK_STATUS Fld.HK_STATUS_CAL_FAIL true :=
    if_pos ⟨by rw [awake]; rfl, on, late, by simpa using clear⟩
  rw [resumed]
  cases ok with
  | true => exact ⟨rfl, (Bool.or_false _).symm⟩
  | false => exact ⟨rfl, (State.flag_setB_self _ _ _ _ (by decide) rfl).trans (Bool.or_true _).symm⟩

/-- Settles O26: an entry is stored and supervised (`hkEntry_over`, `HkStoredTo.within_limits`, `supervise_trips`), a request is taken or rejected
(`hkInject_free`, `hkInject_pending`) and completes (`hkInjDone_due`), and a calibration ends (`hkCalibrate_over`). -/
theorem housekeepingConvertsAndCalibrates : Obligations.HousekeepingConvertsAndCalibrates := by
  refine ⟨fun t value => ?_, fun t value => ?_, fun t src channel tag => ⟨?_, ?_⟩, fun t code x r tagged sensed => ?_, fun t ok => ?_⟩
  · refine Runs.of (fun s => s.hkEntry value.val) (fun _ => rfl) fun s ⟨ended, low, high, cool⟩ => ?_
    obtain ⟨t, stored, entry⟩ := State.hkEntry_over (v := value.val) ended
    rw [entry]
    exact stored.within_limits (hkMean_lt _ _) low high cool
  · refine Runs.of (fun s => s.hkEntry value.val) (fun _ => rfl) fun s ⟨ended, on, lo, hi, hot⟩ => ?_
    obtain ⟨t, stored, entry⟩ := State.hkEntry_over (v := value.val) ended
    obtain ⟨z, reset⟩ := State.supervise_trips ((State.flag_of_reg _ stored.supply).trans on) lo hi ((State.f_of_reg _ stored.supply).trans_le hot)
    rw [entry, reset]
    exact z.deviceReset_clears (by decide)
  · refine Runs.of (fun s => s.managed src fun s => s.hkInject channel.val tag.val) (fun _ => rfl) fun s ⟨may, free⟩ => ?_
    rw [State.managed_of may]
    exact State.hkInject_free tag.isLt free
  · refine Runs.of (fun s => s.managed src fun s => s.hkInject channel.val tag.val) (fun _ => rfl) fun s ⟨may, pending⟩ => ?_
    rw [State.managed_of may]
    exact State.hkInject_pending pending
  · refine Runs.of (fun s => s.hkInjDone code.val) (fun _ => rfl) fun s ⟨first, due⟩ => ?_
    obtain ⟨value, channel, valid, done, free⟩ := State.hkAnswered_shows (s := s) (fun h => h.afterInj x.start) code.isLt tagged sensed
    rw [State.hkInjDone_due first due, State.hkAnswered_hk, Housekeeping.afterInj_inj, first]
    exact ⟨value, channel, valid, done, free, rfl, rfl⟩
  · refine Runs.of (fun s => s.hkCalibrate ok) (fun _ => rfl) fun s ⟨awake, on, late, clear⟩ => ?_
    obtain ⟨hk, fail⟩ := State.hkCalibrate_over (ok := ok) awake on late clear
    rw [hk]
    exact ⟨nextPeriod_after on, rfl, fun runs => if_pos runs, fail⟩

end Sys2Proof.Machine

/-! ## Calibration: batches, cycles and the steps of the taps -/

namespace Sys2Proof.Machine

variable {s t : State} {c d : CalCycle} {i n x : Nat} {mean : Int} {a b : Triple} {clamped : Bool} {w : Word} {p : Pass}

/-! ### The cycle listed for a converter -/

/-- Converter `i` has a cycle listed, and what is listed for it satisfies `P`. -/
def State.CycleIs (s : State) (i : Nat) (P : CalCycle → Prop) : Prop :=
  (∃ c ∈ s.cal.cycles, c.conv = i) ∧ ∀ c ∈ s.cal.cycles, c.conv = i → P c

theorem State.CycleIs.congr {P : CalCycle → Prop} (h : s.CycleIs i P) (same : t.cal.cycles = s.cal.cycles) : t.CycleIs i P := by
  rwa [State.CycleIs, same]

/-- The cycle that a converter is given is the only one listed for it. -/
theorem State.mem_setCycle : d ∈ (s.setCycle c).cal.cycles ∧ d.conv = c.conv ↔ d = c := by
  simp only [State.setCycle, List.mem_append, List.mem_filter, List.mem_singleton]
  constructor
  · rintro ⟨⟨-, other⟩ | same, conv⟩
    · simp [conv] at other
    · exact same
  · rintro rfl
    exact ⟨.inr rfl, rfl⟩

theorem State.cycleIs_setCycle {P : CalCycle → Prop} (conv : c.conv = i) (h : P c) : (s.setCycle c).CycleIs i P := by
  subst conv
  exact ⟨⟨c, State.mem_setCycle.mpr rfl⟩, fun d mem same => State.mem_setCycle.mp ⟨mem, same⟩ ▸ h⟩

/-- The cycle of converter `i` bears its number, listed or not. -/
theorem State.calCycleOf_conv (s : State) (i : Nat) : (s.calCycleOf i).conv = i := by
  unfold State.calCycleOf
  cases listed : s.cal.cycles.find? fun c => c.conv == i with
  | none => rfl
  | some c => exact beq_iff_eq.mp (List.find?_some (p := fun c : CalCycle => c.conv == i) listed)

/-! ### CAL_BATCH_DONE -/

/-- The desired tap of the batch in hand of converter `i`, and whether it was clamped (R110, R112). -/
def State.batchTap (s : State) (i : Nat) (mean : Int) : Int × Bool :=
  desiredTap (s.calCycleOf i).batch mean (s.calCycleOf i).m0 (s.reg (tapAddr (5 * i + s.spareOf i)))

/-- The cycle of converter `i` with its batch in hand taken (R110). -/
def State.batchCycle (s : State) (i : Nat) (mean : Int) : CalCycle :=
  (s.calCycleOf i).take mean (s.batchTap i mean).1 (s.batchTap i mean).2 (s.batchEnd (s.calCycleOf i)) (s.calBand (convBand i)).lost

/-- What the end of a batch does before its cycle goes on: a clamped tap shows, and a step held back is taken (R112, R116). -/
def State.batchNoted (s : State) (i : Nat) (mean : Int) : State :=
  (if (s.batchTap i mean).2 then s.setB Reg.CAL_STATUS Fld.CAL_STATUS_RANGE true else s).releaseSteps fun m => m == 5 * i + s.spareOf i

/-- The state in which the result of converter `i`'s last batch is judged: the next cycle follows back to back (R110). -/
def State.cycleEnded (s : State) (i : Nat) (mean : Int) : State :=
  (s.batchNoted i mean).setCycle ((s.batchNoted i mean).newCycle i (s.batchEnd (s.calCycleOf i)))

/-- A batch that is not the last of its cycle is taken (R110). -/
theorem State.batchDone_taken (on : s.u Reg.CAL_CFG Fld.CAL_CFG_EN ≠ 0) (complete : s.batchOver (s.calCycleOf i) = true)
    (more : (s.calCycleOf i).batch < 5) : s.batchDone i mean = (s.batchNoted i mean).setCycle (s.batchCycle i mean) := by
  simp only [State.batchDone]
  rw [if_neg (by simp [on, complete]), if_pos more]
  rfl

/-- The last batch of a cycle is taken and the cycle's result judged (R110, R113, R114). -/
theorem State.batchDone_judged (on : s.u Reg.CAL_CFG Fld.CAL_CFG_EN ≠ 0) (complete : s.batchOver (s.calCycleOf i) = true)
    (last : (s.calCycleOf i).batch = 5) : s.batchDone i mean =
      if agrees (s.batchCycle i mean).first (s.batchCycle i mean).cur then
        (s.cycleEnded i mean).acceptCycle i (s.batchCycle i mean).first (s.batchCycle i mean).cur (s.batchCycle i mean).clamped
      else (s.cycleEnded i mean).rejectCycle i := by
  simp only [State.batchDone]
  rw [if_neg (by simp [on, complete]), if_neg (by omega)]
  rfl

/-- A batch that is not over is not taken (R110, R119). -/
theorem State.batchDone_waits (h : s.batchOver (s.calCycleOf i) = false) : s.batchDone i mean = s :=
  if_pos (by simp [h])

/-- The last batch leaves the first measurement and gives the repeat its desired tap DLY (R110, R113). -/
theorem State.batchCycle_last (last : (s.calCycleOf i).batch = 5) : (s.batchCycle i mean).first = (s.calCycleOf i).first ∧
    (s.batchCycle i mean).cur = { (s.calCycleOf i).cur with
      dly := (desiredTap 5 mean (s.calCycleOf i).m0 (s.reg (tapAddr (5 * i + s.spareOf i)))).1 } := by
  rw [State.batchCycle, State.batchTap, CalCycle.take, last]
  exact ⟨rfl, rfl⟩

/-- The end of a cycle before its result touches taps, records and CAL_STATUS alone (R110, R112, R116). -/
theorem State.cycleEnded_within (s : State) (i : Nat) (mean : Int) :
    Within (Machine.maskOf [.gw, .cal, .CAL_STATUS, .CAL_TAP, .CAL_REC]) 0 0 s (s.cycleEnded i mean) :=
  State.setCycle_within ⟨by decide, .inl (by decide)⟩ (State.releaseSteps_within ⟨by decide, .inl (by decide)⟩
    (.ite (.setB .CAL_STATUS 0 0 rfl (.inl (by decide)) (.refl _ _ _ s)) (.refl _ _ _ s)))

/-- A cycle that ended is followed by one at its first batch (R110). -/
theorem State.cycleEnded_anew (s : State) (i : Nat) (mean : Int) : (s.cycleEnded i mean).CycleIs i fun c => c.batch = 0 :=
  State.cycleIs_setCycle rfl rfl

theorem State.stamp_congr (h : t.clock = s.clock) : t.stamp = s.stamp := by
  rw [State.stamp, State.tick, State.fabAt_congr h, h, State.stamp, State.tick]

/-- An accepted result is counted with its time, and leaves the cycles (R113). -/
theorem State.acceptCycle_shows (s : State) (i : Nat) (a b : Triple) (clamped : Bool) :
    (s.acceptCycle i a b clamped).cal.cycles = s.cal.cycles ∧
      (s.acceptCycle i a b clamped).f Reg.CAL_CNT Fld.CAL_CNT_ACCEPTED = (s.f Reg.CAL_CNT Fld.CAL_CNT_ACCEPTED + 1) % 2 ^ 32 ∧
      (s.acceptCycle i a b clamped).reg (Reg.CAL_TIME i) = s.stamp := by
  unfold State.acceptCycle
  extract_lets sl n w taps s₁ cal s₂ s₃ s₄ s₅ s₆
  have result : Within (Machine.maskOf [.cal, .CAL_TAP, .CAL_REC]) 0 0 s s₅ :=
    .setF .CAL_REC _ 0 rfl (.inl (by decide)) (.setF .CAL_REC _ 0 rfl (.inl (by decide)) (.addF .CAL_REC _ 0 rfl (.inl (by decide))
      (.upd_cal (by decide) (.reg .CAL_TAP _ _ rfl (.inl (by decide)) (.refl _ _ _ s)))))
  have timed : Within (Machine.maskOf [.CAL_TIME]) 0 0 s₅ s₆ := .reg .CAL_TIME _ 0 rfl (.inl (by decide)) (.refl _ _ _ s₅)
  have count : s₆.f Reg.CAL_CNT Fld.CAL_CNT_ACCEPTED = s.f Reg.CAL_CNT Fld.CAL_CNT_ACCEPTED :=
    (timed.keepF .CAL_CNT 0 0 _ rfl (by decide)).trans (result.keepF .CAL_CNT 0 0 _ rfl (by decide))
  have shown (u : State) : Within (Machine.maskOf [.CAL_REC]) 0 0 u (u.showRec i) :=
    State.showRec_within ⟨by decide, .inl (by decide)⟩ (.refl _ _ _ u)
  have counted : Within (Machine.maskOf [.CAL_CNT]) 0 0 s₆ (s₆.addF Reg.CAL_CNT Fld.CAL_CNT_ACCEPTED 1) :=
    .addF .CAL_CNT 0 0 rfl (.inl (by decide)) (.refl _ _ _ s₆)
  refine ⟨rfl, ?_, ?_⟩
  · rw [(shown _).keepF .CAL_CNT 0 0 _ rfl (by decide), State.f_addF_self _ _ _ (by decide), count]
    rfl
  · rw [(shown _).keepReg .CAL_TIME i 0 rfl (by decide), counted.keepReg .CAL_TIME i 0 rfl (by decide)]
    exact State.reg_setReg_self _ _ _

/-- A rejected cycle is counted, and leaves the cycles and the time of the last result (R114). -/
theorem State.rejectCycle_shows (s : State) (i : Nat) : (s.rejectCycle i).cal.cycles = s.cal.cycles ∧
    (s.rejectCycle i).f Reg.CAL_CNT Fld.CAL_CNT_REJECTED = min (s.f Reg.CAL_CNT Fld.CAL_CNT_REJECTED + 1) 65535 ∧
    (s.rejectCycle i).reg (Reg.CAL_TIME i) = s.reg (Reg.CAL_TIME i) := by
  have time := (State.rejectCycle_within (i := i) (Foot.refl _ _ _) (.refl _ _ _ s)).keepReg .CAL_TIME i 0 rfl (by decide)
  have cycles : (s.rejectCycle i).cal.cycles = s.cal.cycles := by
    unfold State.rejectCycle
    dsimp only
    split <;> rfl
  refine ⟨cycles, ?_, time⟩
  unfold State.rejectCycle
  extract_lets s₁ s₂ cal
  have run : Within (Machine.maskOf [.cal, .CAL_REC, .CAL_STATUS]) 0 0 s₁ s₂ := .satF .CAL_REC i 0 rfl (.inl (by decide)) (.refl _ _ _ s₁)
  refine (Within.keepF (.ite ?_ run) .CAL_CNT 0 0 _ rfl (by decide)).trans (State.f_satF_self _ _ _ (by decide))
  exact State.showRec_within ⟨by decide, .inl (by decide)⟩ (.setB .CAL_STATUS 0 0 rfl (.inl (by decide)) (.upd_cal (by decide) run))

/-! ### Taps in their ranges (R107) -/

/-- Each tap of a triple fits its field (R107). -/
structure Triple.Fits (a : Triple) : Prop where
  ofs : -64 ≤ a.ofs ∧ a.ofs < 64
  gain : -64 ≤ a.gain ∧ a.gain < 64
  dly : 0 ≤ a.dly ∧ a.dly < 64

theorem Field.sget_range (f : Field) (w : Word) (hw : 0 < f.width) : -2 ^ (f.width - 1) ≤ f.sget w ∧ f.sget w < 2 ^ (f.width - 1) := by
  have pattern := f.get_lt w
  have range : 2 ^ f.width = 2 * 2 ^ (f.width - 1) := by rw [← pow_succ', Nat.sub_add_cancel hw]
  have signed : (2 : Int) ^ f.width = 2 * 2 ^ (f.width - 1) := by exact_mod_cast range
  have half : ((2 ^ (f.width - 1) : Nat) : Int) = 2 ^ (f.width - 1) := by push_cast; rfl
  simp only [Field.sget]
  split <;> constructor <;> omega

theorem Field.sget_set_disjoint {f g : Field} (w : Word) (v : Nat) (h : g.lo + g.width ≤ f.lo ∨ f.lo + f.width ≤ g.lo) :
    g.sget (f.set w v) = g.sget w := by
  simp only [Field.sget, Field.get_set_disjoint f g w v h]

/-- An unsigned value that fits its field reads back. -/
theorem Field.get_set_enc (f : Field) (w : Word) {i : Int} (hf : f.lo + f.width ≤ 64) (lo : 0 ≤ i) (hi : i < 2 ^ f.width) :
    (f.get (f.set w (f.enc i)) : Int) = i := by
  have value : f.enc i = i.toNat := by rw [Field.enc, Int.emod_eq_of_lt lo hi]
  have fits : i.toNat < 2 ^ f.width := by
    rw [Int.toNat_lt lo]
    exact_mod_cast hi
  rw [Field.get_set_self f w _ hf, value, Nat.mod_eq_of_lt fits, Int.toNat_of_nonneg lo]

theorem tapsOf_fits (w : Word) : (tapsOf w).Fits :=
  ⟨Field.sget_range _ w (by decide), Field.sget_range _ w (by decide), Int.natCast_nonneg _, Int.ofNat_lt.mpr (Field.get_lt Fld.CAL_TAP_DLY w)⟩

theorem targetsOf_fits (w : Word) : (targetsOf w).Fits :=
  ⟨Field.sget_range _ w (by decide), Field.sget_range _ w (by decide), Int.natCast_nonneg _, Int.ofNat_lt.mpr (Field.get_lt Fld.CAL_TAP_DLY_T w)⟩

/-- A step toward a value stays between the two. -/
theorem toward_between (x y : Int) : min x y ≤ toward x y ∧ toward x y ≤ max x y := by
  unfold toward
  split
  · omega
  · split <;> omega

/-- A step keeps the taps in their ranges (R107, R115). -/
theorem Triple.Fits.step (ha : a.Fits) (hb : b.Fits) : (stepTaps a b).Fits := by
  obtain ⟨ofs, gain, dly⟩ := ha
  obtain ⟨ofs', gain', dly'⟩ := hb
  simp only [stepTaps]
  split
  · have := toward_between a.ofs b.ofs
    refine ⟨?_, gain, dly⟩
    dsimp only
    omega
  split
  · have := toward_between a.gain b.gain
    refine ⟨ofs, ?_, dly⟩
    dsimp only
    omega
  · have := toward_between a.dly b.dly
    refine ⟨ofs, gain, ?_⟩
    dsimp only
    omega

/-- Applied taps that fit read back. -/
theorem tapsOf_withTaps (h : a.Fits) : tapsOf (withTaps w a) = a := by
  unfold tapsOf withTaps
  rw [Field.sget_set_disjoint (f := Fld.CAL_TAP_DLY) _ _ (by decide), Field.sget_set_disjoint (f := Fld.CAL_TAP_GAIN) _ _ (by decide),
    Field.sget_set_enc _ _ (by decide) (by decide) h.ofs.1 h.ofs.2,
    Field.sget_set_disjoint (f := Fld.CAL_TAP_DLY) _ _ (by decide), Field.sget_set_enc _ _ (by decide) (by decide) h.gain.1 h.gain.2,
    Field.get_set_enc Fld.CAL_TAP_DLY _ (by decide) h.dly.1 h.dly.2]

/-- New applied taps leave the targets. -/
theorem targetsOf_withTaps (w : Word) (a : Triple) : targetsOf (withTaps w a) = targetsOf w := by
  simp (disch := decide) only [targetsOf, withTaps, Field.sget_set_disjoint, Field.get_set_disjoint]

/-! ### TAP_STEP -/

/-- Keeping CONV current leaves taps and targets (R126). -/
theorem State.taps_setTap (s : State) (x : Nat) (w : Word) :
    tapsOf ((s.setTap x w).reg x) = tapsOf w ∧ targetsOf ((s.setTap x w).reg x) = targetsOf w := by
  rw [State.setTap, State.reg_setReg_self]
  simp (disch := decide) only [tapsOf, targetsOf, Field.sget_set_disjoint, Field.get_set_disjoint, and_self]

/-- A slice with no step in full before it moves one tap by one step (R115). -/
theorem State.stepSlice_steps (h : s.cal.full = []) :
    tapsOf ((s.stepSlice n).reg (tapAddr n)) = stepTaps (tapsOf (s.reg (tapAddr n))) (targetsOf (s.reg (tapAddr n))) ∧
      targetsOf ((s.stepSlice n).reg (tapAddr n)) = targetsOf (s.reg (tapAddr n)) ∧
      ∀ x, x ≠ tapAddr n → (s.stepSlice n).reg x = s.reg x := by
  have single : s.stepSlice n = s.setTap (tapAddr n)
      (withTaps (s.reg (tapAddr n)) (stepTaps (tapsOf (s.reg (tapAddr n))) (targetsOf (s.reg (tapAddr n))))) := if_neg (by simp [h])
  rw [single, (State.taps_setTap s _ _).1, (State.taps_setTap s _ _).2, targetsOf_withTaps,
    tapsOf_withTaps ((tapsOf_fits _).step (targetsOf_fits _))]
  exact ⟨rfl, rfl, fun x other => State.reg_setReg_ne s _ other⟩

/-- Where one slice alone is listed, not the spare and away from its targets, the step instant is its step (R115). -/
theorem State.tapStepAt_one (listed : s.listedTaps = [n]) (used : n % 5 ≠ s.spareOf (n / 5))
    (apart : tapsOf (s.reg (tapAddr n)) ≠ targetsOf (s.reg (tapAddr n))) : s.tapStepAt x = s.stepSlice n := by
  rw [State.tapStepAt, listed, List.foldl_cons, List.foldl_nil]
  dsimp only
  rw [if_neg (by simp [apart]), if_neg (by simp [used])]

/-- With no immediate restore waiting, a frame's pass takes none (R124). -/
theorem State.takeImm_none (h : s.cal.imm = []) (seq : Nat) : s.takeImm seq = s := by
  simp only [State.takeImm, h, List.filter_nil, List.foldl_nil]
  rw [← h]

/-- The step instant of the running pass has come (R90, R115). -/
theorem State.tapInstant_due (running : s.running = some p) (rotated : p.rotDone = true) (todo : p.tapDone = false)
    (due : p.began.getD 0 + 750 ≤ s.clock.tt) :
    s.tapInstant = ((s.takeImm p.seq).tapStepAt (p.began.getD 0)).modRunning fun p => { p with tapDone := true } := by
  simp only [State.tapInstant, running]
  exact if_neg (by simp [rotated, todo, due])

/-- Settles O25: a batch is taken (`batchDone_taken`), the result of a cycle's last one is judged (`batchDone_judged`) and accepted or rejected
(`acceptCycle_shows`, `rejectCycle_shows`), a batch that is not over waits (`batchDone_waits`), and a slice steps (`stepSlice_steps`). -/
theorem calibrationMeasuresAndStepsTheTaps : Obligations.CalibrationMeasuresAndStepsTheTaps := by
  refine ⟨fun t conv mean => ?_, fun t conv mean => ?_, fun t conv mean => ?_, fun t conv mean => ?_, fun t p n _ => ?_⟩
  · refine Runs.of (fun s => s.batchDone conv.val mean) (fun _ => rfl) fun s ⟨⟨on, complete⟩, more⟩ => ?_
    rw [State.batchDone_taken on complete more]
    exact State.cycleIs_setCycle (s.calCycleOf_conv _) ⟨rfl, rfl, fun short => if_pos short⟩
  · refine Runs.of (fun s => s.batchDone conv.val mean) (fun _ => rfl) fun s ⟨⟨on, complete⟩, last, agree⟩ => ?_
    obtain ⟨first, cur⟩ := State.batchCycle_last (mean := mean) last
    rw [State.batchDone_judged on complete last, if_pos (by rw [first, cur]; exact agree)]
    obtain ⟨cycles, count, time⟩ := (s.cycleEnded conv.val mean).acceptCycle_shows conv.val (s.batchCycle conv.val mean).first
      (s.batchCycle conv.val mean).cur (s.batchCycle conv.val mean).clamped
    have ended := s.cycleEnded_within conv.val mean
    exact ⟨(s.cycleEnded_anew conv.val mean).congr cycles, count.trans (by rw [ended.keepF .CAL_CNT 0 0 _ rfl (by decide)]), time.trans (State.stamp_congr (ended.clock rfl))⟩
  · refine Runs.of (fun s => s.batchDone conv.val mean) (fun _ => rfl) fun s ⟨⟨on, complete⟩, last, apart⟩ => ?_
    obtain ⟨first, cur⟩ := State.batchCycle_last (mean := mean) last
    rw [State.batchDone_judged on complete last, if_neg (by rw [first, cur]; exact Bool.eq_false_iff.mp apart)]
    obtain ⟨cycles, count, time⟩ := (s.cycleEnded conv.val mean).rejectCycle_shows conv.val
    have ended := s.cycleEnded_within conv.val mean
    exact ⟨(s.cycleEnded_anew conv.val mean).congr cycles, count.trans (by rw [ended.keepF .CAL_CNT 0 0 _ rfl (by decide)]),
      time.trans (ended.keepReg .CAL_TIME conv.val 0 rfl (by decide))⟩
  · exact Runs.of (fun s => s.batchDone conv.val mean) (fun _ => rfl) fun s waits => State.batchDone_waits waits
  · refine Runs.of (fun s => s.tapInstant) (fun _ => rfl) fun s ⟨running, rotated, todo, due, imm, full, listed, used, apart⟩ => ?_
    rw [State.tapInstant_due running rotated todo due, State.takeImm_none imm, State.tapStepAt_one listed used apart]
    exact State.stepSlice_steps full

end Sys2Proof.Machine

/-! ## Shadow writes, commits and tap writes are stamped and kept -/

namespace Sys2Proof.Machine

/-- What a source that may manage asks for, after time has passed, is done. -/
theorem Runs.managed {c : Instr} {src : Src} {H : State → Prop} {P : State → State → Prop} (m : State → State)
    (meaning : ∀ s : State, exec c s = .next ((s.advance (cmdTime c)).managed src m)) (h : ∀ u, H u → u.mayManage src = true ∧ P u (m u)) :
    Runs c H P :=
  Runs.of (fun s => s.managed src m) meaning fun u hu => by
    obtain ⟨may, post⟩ := h u hu
    rwa [State.managed_of may]

variable {s : State} {d : RegDef} {a : Nat}

/-! ### Writes to the shadow (R142) -/

/-- A shadow write is listed with the current tick behind those that wait; the rest of the gangway's state stays. -/
theorem State.shadowWrite_gw (s : State) (known : regAt a = some d) (v : Word) :
    (s.shadowWrite a v).gw = { s.gw with writes := s.gw.writes ++ [{ tick := s.tick, addr := a, val := writtenWord d (s.reg a) v }] } := by
  simp only [State.shadowWrite, State.shadowAt, known]

/-- A shadow write lands in the shadow under its stamp, and leaves the settings in use. -/
theorem State.shadowWrite_stamped (s : State) (known : regAt a = some d) (v : Word) :
    (s.shadowWrite a v).reg a = writtenWord d (s.reg a) v ∧ (s.shadowWrite a v).use = s.use ∧
      (s.shadowWrite a v).gw.writes = s.gw.writes ++ [{ tick := s.tick, addr := a, val := writtenWord d (s.reg a) v }] := by
  refine ⟨State.reg_shadowWrite_self s known v, ?_, ?_⟩
  · rw [State.use, State.bank, State.shadowWrite_gw s known]
    rfl
  · rw [State.shadowWrite_gw s known]

/-- A register that is neither of the map nor a tap word is written as it is. -/
theorem State.writeShadow_plain (s : State) (map : isMap a = false) (tap : isTap a = false) (v : Word) : s.writeShadow a v = s.shadowWrite a v := by
  simp [State.writeShadow, map, tap]

/-! ### Commits (R142, R143, R154) -/

/-- A commit is listed with its tick and its stamp, the stamp shows in CFG_GW_CTIME, and PENDING is set. -/
theorem State.addCommit_stamped (s : State) (src : Src) (force : Bool) :
    (∃ c : Commit, (s.addCommit src force).gw.commits = s.gw.commits ++ [c] ∧ c.tick = s.tick ∧ c.stamp = s.stamp ∧ c.src = src ∧
      c.force = force) ∧ (s.addCommit src force).reg Reg.CFG_GW_CTIME = s.stamp ∧
      (s.addCommit src force).flag Reg.CFG_GW_STATUS Fld.CFG_GW_STATUS_PENDING = true ∧ (s.addCommit src force).use = s.use := by
  refine ⟨⟨_, rfl, rfl, rfl, rfl, rfl⟩, ?_, State.flag_setB_self _ _ _ _ (by decide) (by decide), rfl⟩
  exact (State.reg_setB_ne _ _ (by decide)).trans (State.reg_setReg_self _ _ _)

/-! ### Tap writes (R123) -/

/-- A tap word's address leads to its slice and back. -/
theorem tapAddr_tapSlice {i k : Nat} (hi : i < numConv) (hk : k < 5) : tapAddr (tapSlice (Reg.CAL_TAP i k)) = Reg.CAL_TAP i k := by
  have range : i < 33024 := hi
  simp only [tapAddr, tapSlice, Reg.CAL_TAP]
  omega

/-- A tap write raises PEND on its word and RESTORE_PEND, and leaves the settings in use. -/
theorem State.tapWrite_pends (s : State) {i k : Nat} (hi : i < numConv) (hk : k < 5) (known : regAt (Reg.CAL_TAP i k) = some d) (v : Word) :
    (s.tapWrite (Reg.CAL_TAP i k) v).flag (Reg.CAL_TAP i k) Fld.CAL_TAP_PEND = true ∧
      (s.tapWrite (Reg.CAL_TAP i k) v).flag Reg.CAL_STATUS Fld.CAL_STATUS_RESTORE_PEND = true ∧
      (s.tapWrite (Reg.CAL_TAP i k) v).reg (Reg.CAL_TAP i k) = Fld.CAL_TAP_PEND.set (writtenWord d (s.reg (Reg.CAL_TAP i k)) v) 1 ∧
      (s.tapWrite (Reg.CAL_TAP i k) v).use = s.use := by
  have apart : Reg.CAL_TAP i k ≠ Reg.CAL_STATUS := Part.addr_ne (p := .CAL_STATUS) (q := .CAL_TAP) (i := 0) (j := 0) (by decide) rfl rfl
  obtain ⟨shadow, use, -⟩ := s.shadowWrite_stamped known v
  have word : (s.tapWrite (Reg.CAL_TAP i k) v).reg (Reg.CAL_TAP i k) = Fld.CAL_TAP_PEND.set (writtenWord d (s.reg (Reg.CAL_TAP i k)) v) 1 := by
    rw [State.tapWrite, tapAddr_tapSlice hi hk, State.reg_setB_ne _ _ apart, State.setB, State.setF, State.reg_noteSet, State.reg_setReg_self, shadow]
    rfl
  refine ⟨?_, State.flag_setB_self _ _ _ _ (by decide) (by decide), word, use⟩
  rw [State.flag, State.f, word, Field.get_set_self _ _ _ (by decide)]
  rfl

/-- Settles O15: a shadow write is stamped (`shadowWrite_stamped`), COMMIT and FORCE add a stamped commit (`addCommit_stamped`), and a tap write
pends (`tapWrite_pends`). -/
theorem shadowWritesAndCommitsAreStamped : Obligations.ShadowWritesAndCommitsAreStamped := by
  refine ⟨fun t src addr val d known shadowed map tap => ?_, fun t src => ?_, fun t src => ?_, fun t src word val d known => ⟨?_, ?_⟩,
    fun t src conv slice val d known => ?_⟩
  · refine Runs.managed _ (fun _ => rfl) fun s may => ⟨may, ?_⟩
    simp only [known, shadowed, if_true, s.writeShadow_plain map tap]
    exact s.shadowWrite_stamped known val
  · exact Runs.managed (fun s => s.addCommit src false) (fun _ => rfl) fun s may => ⟨may, s.addCommit_stamped src false⟩
  · exact Runs.managed (fun s => s.addCommit src s.forceActs) (fun _ => rfl) fun s may => ⟨may, s.addCommit_stamped src s.forceActs⟩
  · refine Runs.managed (fun s => s.mapWrite (Reg.TT_MAP word.val) val) (fun _ => rfl) fun s ⟨may, auto⟩ => ⟨may, ?_⟩
    rw [State.mapWrite, if_pos auto]
    exact ⟨State.flag_setB_self _ _ _ _ (by decide) (by decide), rfl, fun _ other => State.reg_setB_ne _ _ other⟩
  · refine Runs.managed (fun s => s.mapWrite (Reg.TT_MAP word.val) val) (fun _ => rfl) fun s ⟨may, manual⟩ => ⟨may, ?_⟩
    obtain ⟨shadow, use, writes⟩ := s.shadowWrite_stamped known val
    rw [State.mapWrite, if_neg (Bool.eq_false_iff.mp manual)]
    exact ⟨shadow, use, by rw [shadow, writes]⟩
  · exact Runs.managed (fun s => s.tapWrite (Reg.CAL_TAP conv.val slice.val) val) (fun _ => rfl)
      fun s may => ⟨may, s.tapWrite_pends conv.isLt slice.isLt known val⟩

end Sys2Proof.Machine

/-! ## What a gangway's acts leave of one another -/

namespace Sys2Proof.Machine

variable {s t u : State}

/-- What the gangway holds of settings: the bank in use, the banks, and what waits. -/
structure GwAccount where
  cur : Nat
  banks : List RegFile
  commits : List Commit
  writes : List ShadowWrite
  derived : Option DerivedMap

def State.account (s : State) : GwAccount := ⟨s.gw.cur, s.gw.banks, s.gw.commits, s.gw.writes, s.gw.derived⟩

/-- What the registers show of gangways (R84, R154): the generation, a refusal and its code, and a wait for a bank. -/
structure GwShown where
  gen : Word
  refused : Bool
  code : Nat
  wait : Bool

def State.gwShown (s : State) : GwShown :=
  ⟨s.reg Reg.CFG_GW_GEN, s.flag Reg.TT_STATUS Fld.TT_STATUS_COMMIT_REFUSED, s.f Reg.TT_STATUS Fld.TT_STATUS_REFUSE_CODE,
    s.flag Reg.CFG_GW_STATUS Fld.CFG_GW_STATUS_BANK_WAIT⟩

/-- The gangway holds and shows the same. -/
structure KeepsGangway (s t : State) : Prop where
  account : t.account = s.account
  shown : t.gwShown = s.gwShown

/-- The gangway holds and shows the same, and no frame takes a sequence number. -/
structure KeepsGangwaySeq (s t : State) : Prop extends KeepsGangway s t where
  next : t.tt.nextSeq = s.tt.nextSeq

theorem KeepsGangway.trans (h : KeepsGangway s t) (k : KeepsGangway t u) : KeepsGangway s u :=
  ⟨k.account.trans h.account, k.shown.trans h.shown⟩

theorem KeepsGangwaySeq.refl (s : State) : KeepsGangwaySeq s s := ⟨⟨rfl, rfl⟩, rfl⟩

theorem KeepsGangwaySeq.trans (h : KeepsGangwaySeq s t) (k : KeepsGangwaySeq t u) : KeepsGangwaySeq s u :=
  ⟨h.toKeepsGangway.trans k.toKeepsGangway, k.next.trans h.next⟩

theorem KeepsGangwaySeq.ite {c : Prop} [Decidable c] (h : KeepsGangwaySeq s t) (k : KeepsGangwaySeq s u) :
    KeepsGangwaySeq s (if c then t else u) := by split <;> assumption

theorem KeepsGangwaySeq.foldl {α : Type} {f : State → α → State} (kept : ∀ t x, KeepsGangwaySeq t (f t x)) (l : List α) (s : State) :
    KeepsGangwaySeq s (l.foldl f s) := by
  induction l generalizing s with
  | nil => exact .refl s
  | cons x r ih => exact (kept s x).trans (ih _)

/-- What each step of a loop leaves, the loop leaves. -/
theorem State.foldl_leaves {α β : Type} {f : State → α → State} (part : State → β) (left : ∀ t x, part (f t x) = part t) (l : List α) (s : State) :
    part (l.foldl f s) = part s := by
  induction l generalizing s with
  | nil => rfl
  | cons x r ih => exact (ih _).trans (left s x)

theorem State.account_congr (h : t.gw = s.gw) : t.account = s.account := by simp only [State.account, h]

/-- Masks without the three registers leave what the registers show. -/
theorem KeepsGangway.of_within {M : Nat} (w : Within M 0 0 s t) (account : t.account = s.account)
    (gen : (M ||| 0) &&& (1 <<< Part.CFG_GW_GEN.ctorIdx ||| 0xc00000) = 0 := by decide)
    (tt : (M ||| 0) &&& (1 <<< Part.TT_STATUS.ctorIdx ||| 0xc00000) = 0 := by decide)
    (gw : (M ||| 0) &&& (1 <<< Part.CFG_GW_STATUS.ctorIdx ||| 0xc00000) = 0 := by decide) : KeepsGangway s t := by
  refine ⟨account, ?_⟩
  have status := w.keepReg .TT_STATUS 0 0 rfl tt
  simp only [State.gwShown, w.keepReg .CFG_GW_GEN 0 0 rfl gen, State.flag_of_reg _ status, State.f_of_reg _ status,
    State.flag_of_reg _ (w.keepReg .CFG_GW_STATUS 0 0 rfl gw)]

theorem KeepsGangwaySeq.of_within {M : Nat} (w : Within M 0 0 s t) (account : t.account = s.account) (next : t.tt.nextSeq = s.tt.nextSeq)
    (gen : (M ||| 0) &&& (1 <<< Part.CFG_GW_GEN.ctorIdx ||| 0xc00000) = 0 := by decide)
    (tt : (M ||| 0) &&& (1 <<< Part.TT_STATUS.ctorIdx ||| 0xc00000) = 0 := by decide)
    (gw : (M ||| 0) &&& (1 <<< Part.CFG_GW_STATUS.ctorIdx ||| 0xc00000) = 0 := by decide) : KeepsGangwaySeq s t :=
  ⟨.of_within w account gen tt gw, next⟩

/-- Masks without the gangway's state, the timetable and the three registers. -/
theorem KeepsGangwaySeq.outside {M : Nat} (w : Within M 0 0 s t) (hold : M.testBit 1 = false := by decide) (course : M.testBit 2 = false := by decide)
    (gen : (M ||| 0) &&& (1 <<< Part.CFG_GW_GEN.ctorIdx ||| 0xc00000) = 0 := by decide)
    (tt : (M ||| 0) &&& (1 <<< Part.TT_STATUS.ctorIdx ||| 0xc00000) = 0 := by decide)
    (gw : (M ||| 0) &&& (1 <<< Part.CFG_GW_STATUS.ctorIdx ||| 0xc00000) = 0 := by decide) : KeepsGangwaySeq s t :=
  .of_within w (State.account_congr (w.gw hold)) (by rw [w.tt course]) gen tt gw

theorem KeepsGangwaySeq.upd_tt {tt : Timetable} (next : tt.nextSeq = s.tt.nextSeq) : KeepsGangwaySeq s { s with tt := tt } := ⟨⟨rfl, rfl⟩, next⟩

/-! ### The status registers and the event log -/

/-- A field of TT_STATUS other than COMMIT_REFUSED and REFUSE_CODE. -/
theorem KeepsGangwaySeq.ttStatus (s : State) (f : Field) (v : Nat)
    (refused : Fld.TT_STATUS_COMMIT_REFUSED.lo + Fld.TT_STATUS_COMMIT_REFUSED.width ≤ f.lo := by decide)
    (code : Fld.TT_STATUS_REFUSE_CODE.lo + Fld.TT_STATUS_REFUSE_CODE.width ≤ f.lo ∨ f.lo + f.width ≤ Fld.TT_STATUS_REFUSE_CODE.lo := by decide) :
    KeepsGangwaySeq s (s.setF Reg.TT_STATUS f v) := by
  refine ⟨⟨rfl, ?_⟩, rfl⟩
  have gen : (s.setF Reg.TT_STATUS f v).reg Reg.CFG_GW_GEN = s.reg Reg.CFG_GW_GEN := State.reg_setF_ne _ _ (by decide)
  have wait : (s.setF Reg.TT_STATUS f v).reg Reg.CFG_GW_STATUS = s.reg Reg.CFG_GW_STATUS := State.reg_setF_ne _ _ (by decide)
  simp only [State.gwShown, gen, State.flag_of_reg _ wait, State.flag_setF_disjoint _ _ _ _ (.inl refused), State.f_setF_disjoint _ _ _ _ _ code]

/-- A field of CFG_GW_STATUS other than BANK_WAIT. -/
theorem KeepsGangwaySeq.gwStatus (s : State) (f : Field) (v : Nat)
    (wait : Fld.CFG_GW_STATUS_BANK_WAIT.lo + Fld.CFG_GW_STATUS_BANK_WAIT.width ≤ f.lo ∨ f.lo + f.width ≤ Fld.CFG_GW_STATUS_BANK_WAIT.lo := by decide) :
    KeepsGangwaySeq s (s.setF Reg.CFG_GW_STATUS f v) := by
  refine ⟨⟨rfl, ?_⟩, rfl⟩
  have gen : (s.setF Reg.CFG_GW_STATUS f v).reg Reg.CFG_GW_GEN = s.reg Reg.CFG_GW_GEN := State.reg_setF_ne _ _ (by decide)
  have status : (s.setF Reg.CFG_GW_STATUS f v).reg Reg.TT_STATUS = s.reg Reg.TT_STATUS := State.reg_setF_ne _ _ (by decide)
  simp only [State.gwShown, gen, State.flag_of_reg _ status, State.f_of_reg _ status, State.flag_setF_disjoint _ _ _ _ wait]

theorem KeepsGangwaySeq.gwFlag (s : State) (f : Field) (c : Bool)
    (wait : Fld.CFG_GW_STATUS_BANK_WAIT.lo + Fld.CFG_GW_STATUS_BANK_WAIT.width ≤ f.lo ∨ f.lo + f.width ≤ Fld.CFG_GW_STATUS_BANK_WAIT.lo := by decide) :
    KeepsGangwaySeq s (s.setB Reg.CFG_GW_STATUS f c) := .gwStatus s f _ wait

theorem KeepsGangwaySeq.log (s : State) (time : Word) (ty : LogType) (seq source detail : Nat) (bound : Bool) :
    KeepsGangwaySeq s (s.log time ty seq source detail bound) := by
  unfold State.log
  split
  · exact .upd_tt rfl
  · exact (KeepsGangwaySeq.ttStatus s Fld.TT_STATUS_EVLOG_LOST 1).trans (.upd_tt rfl)

theorem KeepsGangwaySeq.logCommits (s : State) (l : List Commit) (close seq code : Nat) (idle : Bool) :
    KeepsGangwaySeq s (s.logCommits l close seq code idle) :=
  .foldl (fun t _ => .log t _ _ _ _ _ _) l s

/-! ### Taps (R117, R123, R124): the gangway's state takes the note of a completed acquisition alone -/

theorem State.account_acquire (s : State) (n : Nat) : (s.acquire n).account = s.account := by
  unfold State.acquire
  dsimp only
  split <;> rfl

theorem State.account_releaseSteps (s : State) (p : Nat → Bool) : (s.releaseSteps p).account = s.account := by
  unfold State.releaseSteps
  refine State.foldl_leaves State.account (fun t n => ?_) _ _
  unfold State.stepSlice
  dsimp only
  split
  · exact State.account_acquire _ _
  · rfl

theorem State.account_restoreTap (s : State) (imm : Bool) (seq x a : Nat) (v : Word) : (s.restoreTap imm seq x a v).account = s.account := by
  unfold State.restoreTap
  extract_lets n released acquired cal restored
  have acquires : acquired.account = s.account := by
    refine (State.account_acquire _ _).trans ?_
    split <;> exact s.account_releaseSteps _
  split <;> exact acquires

theorem KeepsGangwaySeq.restoreTaps (s : State) (close seq x : Nat) (imm : Bool) : KeepsGangwaySeq s (s.restoreTaps close seq x imm).1 := by
  have w := Within.fst (State.restoreTaps_within (close := close) (seq := seq) (x := x) (imm := imm) (Foot.refl _ _ _) (.refl _ _ _ s))
  refine .of_within w ?_ (by rw [w.tt (by decide)])
  unfold State.restoreTaps
  extract_lets ws restored left pended
  have restores : restored.account = s.account := by
    refine State.foldl_leaves State.account ?_ ws s
    exact fun t w => t.account_restoreTap imm seq x w.addr w.val
  have pends : pended.account = restored.account := by
    refine State.foldl_leaves State.account ?_ ws restored
    exact fun _ _ => rfl
  exact pends.trans restores

theorem KeepsGangwaySeq.calEnable (s : State) (on : Bool) (x : Nat) : KeepsGangwaySeq s (s.calEnable on x) := by
  have w := State.calEnable_within (on := on) (x := x) (Foot.refl _ _ _) (.refl _ _ _ s)
  refine .of_within w ?_ (by rw [w.tt (by decide)])
  unfold State.calEnable
  split
  · rfl
  · exact s.account_releaseSteps _

/-! ### The end of open frames (R57, R79 to R81) -/

theorem KeepsGangwaySeq.pioEvent (s : State) (n x : Nat) : KeepsGangwaySeq s (s.pioEvent n x) := ⟨⟨rfl, rfl⟩, rfl⟩

theorem KeepsGangwaySeq.ferryEvent (s : State) (code x : Nat) : KeepsGangwaySeq s (s.ferryEvent code x) := ⟨⟨rfl, rfl⟩, rfl⟩

theorem KeepsGangwaySeq.endAccum (s : State) (c : Nat) : KeepsGangwaySeq s (s.endAccum c) := by
  have closes (s : State) : KeepsGangwaySeq s (s.closeAccum c) := by
    unfold State.closeAccum
    split
    · exact .refl s
    · exact ⟨⟨rfl, rfl⟩, rfl⟩
  have cuts (s : State) : KeepsGangwaySeq s (s.cutAccum c) := by
    unfold State.cutAccum
    split
    · exact .refl s
    dsimp only
    split
    · exact ⟨⟨rfl, rfl⟩, rfl⟩
    · exact .refl s
  exact ((closes s).trans (cuts _)).trans (.upd_tt rfl)

theorem KeepsGangwaySeq.finishSegment (s : State) (g : StripFrame) : KeepsGangwaySeq s (s.finishSegment g) := by
  unfold State.finishSegment
  extract_lets old m tt finished counted
  have finishes : KeepsGangwaySeq s finished := .upd_tt rfl
  have counts : KeepsGangwaySeq finished counted :=
    (KeepsGangwaySeq.outside (State.ringEntry_within (Foot.refl _ _ _) (.refl _ _ _ _))).trans (.ferryEvent _ 7 _)
  exact (finishes.trans counts).trans ((KeepsGangwaySeq.outside (State.noteManifest_within (Foot.refl _ _ _) (.refl _ _ _ _))).trans
    (.outside (State.endDone_within (Foot.refl _ _ _) (.refl _ _ _ _))))

theorem KeepsGangwaySeq.endStrips (s : State) (short more : Bool) : KeepsGangwaySeq s (s.endStrips short more) := by
  unfold State.endStrips
  split
  · exact .refl s
  next g _ =>
  dsimp only
  unfold State.closeSegment
  extract_lets known g' tt pipe closed logged
  have closes : KeepsGangwaySeq s closed := ⟨⟨rfl, rfl⟩, rfl⟩
  have logs : KeepsGangwaySeq closed logged := by
    dsimp -zeta only [logged]
    split
    · exact .ite (.refl _) (.log _ _ _ _ _ _ _)
    · exact .refl _
  exact .ite ((closes.trans logs).trans (.finishSegment _ _)) (closes.trans logs)

/-! ### What an installation starts and stops (R56, R57, R65, R78) -/

theorem KeepsGangwaySeq.paceGrid (s : State) (st : RegFile) (first : Nat) : KeepsGangwaySeq s (s.paceGrid st first) :=
  .ite (.upd_tt rfl) (.ite (.refl s) (.upd_tt rfl))

theorem KeepsGangwaySeq.takePd (s : State) (old new : RegFile) : KeepsGangwaySeq s (s.takePd old new) :=
  .ite (.refl s) (.upd_tt rfl)

theorem KeepsGangwaySeq.applyRun (s : State) (old new : RegFile) (swap first : Nat) : KeepsGangwaySeq s (s.applyRun old new swap first) := by
  unfold State.applyRun
  extract_lets run running encoder ended tt anchored
  have runs : KeepsGangwaySeq s running := .ttStatus s Fld.TT_STATUS_RUNNING _
  have encodes : KeepsGangwaySeq running encoder :=
    .ite (.outside (M := maskOf [.TT_ENC_NEXT]) (.setF .TT_ENC_NEXT 0 0 rfl (.inl (by decide)) (.refl _ _ _ _))) (.refl _)
  have before := runs.trans encodes
  refine .ite (before.trans (((KeepsGangwaySeq.endAccum _ _).trans (.endStrips _ _ _)).trans (.upd_tt rfl))) (before.trans ?_)
  have anchors : KeepsGangwaySeq encoder anchored := .ite (.upd_tt rfl) (.refl _)
  exact .ite anchors (anchors.trans (.paceGrid _ _ _))

/-- An installation of RUN = 0 ends the grid (R57). -/
theorem State.applyRun_stops (s : State) (old : RegFile) {new : RegFile} (swap first : Nat) (stopped : new.on Reg.TT_MODE Fld.TT_MODE_RUN = false) :
    (s.applyRun old new swap first).tt.grid = none := by
  unfold State.applyRun
  dsimp only
  rw [if_pos (by simp [stopped])]

theorem KeepsGangwaySeq.noteInUse (s : State) (old new : RegFile) : KeepsGangwaySeq s (s.noteInUse old new) :=
  .outside (State.noteInUse_within (Foot.refl _ _ _) (.refl _ _ _ s))

theorem KeepsGangwaySeq.moveEpoch (s : State) (seq : Nat) (acq restore enable : Bool) : KeepsGangwaySeq s (s.moveEpoch seq acq restore enable) :=
  .outside (State.moveEpoch_within (Foot.refl _ _ _) (.refl _ _ _ s))

/-! ### A fabric-time step (R58, R294) -/

theorem KeepsGangwaySeq.applyStep (s : State) (seq : Nat) : KeepsGangwaySeq s (s.applyStep seq).1 := by
  unfold State.applyStep
  split
  · exact .refl s
  extract_lets clock moved counted logged tt anchored tt' sched ck synced
  have counts : KeepsGangwaySeq moved counted :=
    (KeepsGangwaySeq.outside (M := maskOf [.FB_TSTAT]) (.satF .FB_TSTAT 0 0 rfl (.inl (by decide)) (.refl _ _ _ _))).trans
      (.outside (State.ptpUnlock_within (Foot.refl _ _ _) (.refl _ _ _ _)))
  have logs : KeepsGangwaySeq counted logged := .log _ _ _ _ _ _ _
  have anchors : KeepsGangwaySeq logged anchored := .upd_tt rfl
  have arms : KeepsGangwaySeq anchored sched := by
    refine .ite (KeepsGangwaySeq.trans ?_ (.ttStatus _ Fld.TT_STATUS_SCHED_LATE 1)) (.refl _)
    exact .upd_tt rfl
  have syncs : KeepsGangwaySeq sched synced := .ite ⟨⟨rfl, rfl⟩, rfl⟩ (.refl _)
  have moves : KeepsGangwaySeq s moved := ⟨⟨rfl, rfl⟩, rfl⟩
  exact moves.trans (counts.trans (logs.trans (anchors.trans (arms.trans syncs))))

/-- A fabric-time step starts no grid (R58). -/
theorem State.applyStep_grid (s : State) (seq : Nat) (idle : s.tt.grid = none) : (s.applyStep seq).1.tt.grid = none := by
  unfold State.applyStep
  split
  · exact idle
  extract_lets clock moved counted logged tt anchored tt' sched ck synced
  have counts : counted.tt = s.tt :=
    (State.ptpUnlock_within (Foot.refl _ _ _) (.refl _ _ _ (moved.satF Reg.FB_TSTAT Fld.FB_TSTAT_STEPS 1))).tt (by decide)
  have logs : logged.tt.grid = s.tt.grid := by
    obtain ⟨_, _, tt⟩ := State.log_tt counted counted.stamp .timeStep seq 0 0 false
    rw [show logged.tt = _ from tt, counts]
  have anchors : anchored.tt.grid = none := by rw [show anchored.tt.grid = logged.tt.grid.map _ from rfl, logs, idle]; rfl
  have arms : sched.tt.grid = none := by
    dsimp -zeta only [sched]
    split <;> exact anchors
  dsimp -zeta only [synced]
  split <;> exact arms

/-! ### A frame opens (R25, R68) -/

theorem KeepsGangwaySeq.showStatus (s : State) : KeepsGangwaySeq s s.showBanks.showPending :=
  (KeepsGangwaySeq.gwStatus s Fld.CFG_GW_STATUS_BANKS_BUSY _).trans (.ttStatus _ Fld.TT_STATUS_PENDING _)

theorem KeepsGangwaySeq.unreserve (s : State) (seq : Nat) : KeepsGangwaySeq s (s.unreserve seq) :=
  .outside (State.unreserve_within (Foot.refl _ _ _) (.refl _ _ _ s))

theorem KeepsGangwaySeq.enterFrame (s : State) (f : Frame) (inBurst : Bool) : KeepsGangwaySeq s (s.enterFrame f inBurst) :=
  .ite (.upd_tt rfl) (.upd_tt rfl)

/-- A frame that opens leaves what the gangway holds and takes the next sequence number. -/
theorem State.gateFrame_keeps (s : State) (f : Frame) (epochMoved tstep inBurst : Bool) :
    KeepsGangway s (s.gateFrame f epochMoved tstep inBurst).1 ∧
      (s.gateFrame f epochMoved tstep inBurst).1.tt.nextSeq = (s.tt.nextSeq + 1) % 2 ^ 32 := by
  unfold State.gateFrame
  extract_lets st seq depth first opens f₁ pace form f₂ gw tt opened
  have used : KeepsGangwaySeq opened (opened.noteFrameUse st seq) := .outside (State.noteFrameUse_within (Foot.refl _ _ _) (.refl _ _ _ _))
  have history := used.trans (.outside (State.gangwayHistory_within (new := st) (burst := opens) (bits := convBits depth) (first := first)
    (seq := seq) (epochMoved := epochMoved) (Foot.refl _ _ _) (.refl _ _ _ _)))
  exact ⟨⟨history.account, history.shown⟩, history.next⟩

theorem State.firstFrame_keeps (s : State) (close : Nat) (epochMoved tstep : Bool) : KeepsGangway s (s.firstFrame close epochMoved tstep) := by
  unfold State.firstFrame
  split
  · exact (KeepsGangwaySeq.refl s).toKeepsGangway
  split
  · extract_lets f opened state tt moved
    have moves : KeepsGangwaySeq opened.1 moved := .upd_tt rfl
    exact (s.gateFrame_keeps f epochMoved tstep false).1.trans (moves.trans (.enterFrame _ _ _)).toKeepsGangway
  · exact (KeepsGangwaySeq.refl s).toKeepsGangway

end Sys2Proof.Machine

/-! ## The installation of a plan -/

namespace Sys2Proof.Machine

variable {s t u : State} {p : GwPlan} {b close seq : Nat} {idle : Bool}

/-- The word of CFG_GW_GEN after `w` with the plan `p` installed (R154). -/
def GwPlan.genWord (p : GwPlan) (w : Word) (seq : Nat) (idle : Bool) : Word :=
  Fld.CFG_GW_GEN_HOST.set (Fld.CFG_GW_GEN_DERIVED.set (Fld.CFG_GW_GEN_IDLE.set (Fld.CFG_GW_GEN_SEQ.set
    (Fld.CFG_GW_GEN_GEN.set w (Fld.CFG_GW_GEN_GEN.get w + 1)) seq) (if idle then 1 else 0)) (if p.derived.isSome then 1 else 0))
    (if p.host.isEmpty then 0 else 1)

theorem GwPlan.genWord_gen (p : GwPlan) (w : Word) (seq : Nat) (idle : Bool) :
    Fld.CFG_GW_GEN_GEN.get (p.genWord w seq idle) = (Fld.CFG_GW_GEN_GEN.get w + 1) % 2 ^ 16 := by
  rw [GwPlan.genWord]
  iterate 4 rw [Field.get_set_disjoint _ _ _ _ (by decide)]
  exact Field.get_set_self _ _ _ (by decide)

theorem GwPlan.genWord_idle (p : GwPlan) (w : Word) (seq : Nat) (idle : Bool) :
    Fld.CFG_GW_GEN_IDLE.get (p.genWord w seq idle) = if idle then 1 else 0 := by
  rw [GwPlan.genWord]
  iterate 2 rw [Field.get_set_disjoint _ _ _ _ (by decide)]
  rw [Field.get_set_self _ _ _ (by decide)]
  cases idle <;> rfl

/-- What the gangway holds once the plan `p` is installed in bank `b` at a gangway with this close (R144). -/
def GwPlan.accountIn (p : GwPlan) (g : GwAccount) (b close : Nat) : GwAccount where
  cur := b
  banks := g.banks.set b p.next
  commits := g.commits.filter fun c => decide (close ≤ c.tick)
  writes := if p.host.isEmpty then g.writes else g.writes.filter fun w => decide (close ≤ w.tick)
  derived := if p.derived.isSome || !p.next.on Reg.TT_MAP_CFG Fld.TT_MAP_CFG_AUTO then none else g.derived

/-- The plan `p` has been installed in bank `b` at a gangway with this close; a refusal that shows still does. -/
structure Installed (s : State) (p : GwPlan) (b close : Nat) (idle : Bool) (t : State) : Prop where
  account : t.account = p.accountIn s.account b close
  gen : t.f Reg.CFG_GW_GEN Fld.CFG_GW_GEN_GEN = (s.f Reg.CFG_GW_GEN Fld.CFG_GW_GEN_GEN + 1) % 2 ^ 16
  idleNoted : t.flag Reg.CFG_GW_GEN Fld.CFG_GW_GEN_IDLE = idle
  refused : t.gwShown.refused = s.gwShown.refused
  code : t.gwShown.code = s.gwShown.code

theorem Installed.keep (h : Installed s p b close idle t) (k : KeepsGangway t u) : Installed s p b close idle u := by
  have gen : u.reg Reg.CFG_GW_GEN = t.reg Reg.CFG_GW_GEN := congrArg GwShown.gen k.shown
  exact ⟨k.account.trans h.account, (State.f_of_reg _ gen).trans h.gen, (State.flag_of_reg _ gen).trans h.idleNoted,
    (congrArg GwShown.refused k.shown).trans h.refused, (congrArg GwShown.code k.shown).trans h.code⟩

/-- A plan that is written to the banks, the account and CFG_GW_GEN is installed. -/
theorem Installed.of_flip (account : t.account = p.accountIn s.account b close)
    (word : t.reg Reg.CFG_GW_GEN = p.genWord (s.reg Reg.CFG_GW_GEN) seq idle)
    (refused : t.gwShown.refused = s.gwShown.refused) (code : t.gwShown.code = s.gwShown.code) : Installed s p b close idle t := by
  refine ⟨account, ?_, ?_, refused, code⟩
  · rw [State.f, word, GwPlan.genWord_gen, State.f]
  · rw [State.flag, State.f, word, GwPlan.genWord_idle]
    cases idle <;> rfl

/-- R144, R147, R154: an installation flips to the bank and reports it; it takes no sequence number, and with RUN = 0 it ends the grid (R57). -/
theorem State.install_installed (s : State) (p : GwPlan) (b close swap seq first : Nat) (idle acq : Bool) :
    Installed s p b close idle (s.install p b close swap seq first idle acq) ∧
      (s.install p b close swap seq first idle acq).tt.nextSeq = s.tt.nextSeq ∧
      (p.next.on Reg.TT_MODE Fld.TT_MODE_RUN = false → (s.install p b close swap seq first idle acq).tt.grid = none) := by
  unfold State.install
  extract_lets old hadMap logged noted enMoved
  split
  next restored taken pair =>
  extract_lets acq' gw flipped g₁ g₂ g₃ g₄ counted timed pending merged mapped moved enabled
  have notes : KeepsGangwaySeq s noted := by
    refine (KeepsGangwaySeq.logCommits s p.host close seq 0 idle).trans ?_
    dsimp -zeta only [noted]
    split
    · exact .log _ _ _ _ _ _ _
    · exact .refl _
  have restores : KeepsGangwaySeq noted restored := by
    rw [show restored = (restored, taken).1 from rfl, ← pair]
    split
    · exact .refl _
    · exact .restoreTaps _ _ _ _ _
  have before := notes.trans restores
  have counts : Installed s p b close idle counted := by
    have shown := before.shown
    have status : counted.reg Reg.TT_STATUS = restored.reg Reg.TT_STATUS := State.reg_setReg_ne _ _ (by decide)
    refine .of_flip (seq := seq) ?_ ?_ ((State.flag_of_reg _ status).trans (congrArg GwShown.refused shown))
      ((State.f_of_reg _ status).trans (congrArg GwShown.code shown))
    · rw [← before.account]
      rfl
    · rw [← show restored.reg Reg.CFG_GW_GEN = s.reg Reg.CFG_GW_GEN from congrArg GwShown.gen shown]
      exact State.reg_setReg_self _ _ _
  have times : KeepsGangwaySeq counted timed := .outside (M := Machine.maskOf [.CFG_GW_ITIME]) (.reg .CFG_GW_ITIME 0 0 rfl (.inl (by decide)) (.refl _ _ _ _))
  have pends : KeepsGangwaySeq timed pending := .gwFlag _ Fld.CFG_GW_STATUS_PENDING _
  have merges : KeepsGangwaySeq pending merged := .ite (.gwFlag _ Fld.CFG_GW_STATUS_MERGED true) (.refl _)
  have maps : KeepsGangwaySeq merged mapped := by
    refine .outside (M := Machine.maskOf [.TT_MAP_SRC]) ?_
    dsimp -zeta only [mapped]
    split
    · exact .setB .TT_MAP_SRC 0 0 rfl (.inl (by decide)) (.setF .TT_MAP_SRC 0 0 rfl (.inl (by decide)) (.refl _ _ _ _))
    · exact .ite (.reg .TT_MAP_SRC 0 0 rfl (.inl (by decide)) (.refl _ _ _ _)) (.refl _ _ _ _)
  have moves : KeepsGangwaySeq mapped moved := .moveEpoch _ _ _ _ _
  have enables : KeepsGangwaySeq moved enabled := .ite (.calEnable _ _ _) (.refl _)
  have after := times.trans (pends.trans (merges.trans (maps.trans (moves.trans (enables.trans
    ((KeepsGangwaySeq.noteInUse enabled old p.next).trans ((KeepsGangwaySeq.takePd _ old p.next).trans (.applyRun _ old p.next swap first))))))))
  exact ⟨counts.keep after.toKeepsGangway, after.next.trans before.next, State.applyRun_stops _ old swap first⟩

end Sys2Proof.Machine

/-! ## The gangway: plans, refusals and installations -/

namespace Sys2Proof.Machine

variable {s t : State} {f : Frame} {p : GwPlan} {b close swap seq first code : Nat} {ctx : Option Nat} {idle acq : Bool} {d : DerivedMap}

/-! ### Plans (R143, R144, R414) -/

/-- The host commits stamped before a close (R143). -/
def State.hostBefore (s : State) (close : Nat) : List Commit := s.gw.commits.filter fun c => decide (c.tick < close)

/-- The settings with the writes of the host commits stamped before a close (R144). -/
def State.settingsBefore (s : State) (close : Nat) : RegFile :=
  if (s.hostBefore close).isEmpty then s.use else applyWrites close s.use s.gw.writes

/-- The derived map that is due at a close over the settings `st` (R414). -/
def mapDue (close seq : Nat) (st : RegFile) (derived : Option DerivedMap) : Option DerivedMap :=
  derived.filter fun d => decide (d.tick < close) && serialGe 32 seq d.limit && st.on Reg.TT_MAP_CFG Fld.TT_MAP_CFG_AUTO

/-- A plan is its host commits, the derived map that is due, and the settings that both leave. -/
theorem State.plan_eq (s : State) (close seq : Nat) : s.plan close seq = {
    host := s.hostBefore close
    derived := mapDue close seq (s.settingsBefore close) s.gw.derived
    next := (mapDue close seq (s.settingsBefore close) s.gw.derived).elim (s.settingsBefore close)
      fun d => Sparse.putAll resetWord (s.settingsBefore close) d.codes } := by
  unfold State.plan
  extract_lets host st auto
  rw [show auto = (s.settingsBefore close).on Reg.TT_MAP_CFG Fld.TT_MAP_CFG_AUTO from rfl, show st = s.settingsBefore close from rfl]
  cases s.gw.derived with
  | none => rfl
  | some d =>
    simp only [mapDue, Option.filter_some]
    split <;> rfl

theorem State.plan_congr (h : t.gw = s.gw) (close seq : Nat) : t.plan close seq = s.plan close seq := by
  have host : t.hostBefore close = s.hostBefore close := by rw [State.hostBefore, h, State.hostBefore]
  have use : t.use = s.use := by rw [State.use, State.bank, h, State.use, State.bank]
  have settings : t.settingsBefore close = s.settingsBefore close := by rw [State.settingsBefore, host, use, h, State.settingsBefore]
  rw [State.plan_eq, State.plan_eq, host, settings, h]

/-- A plan without a host commit that installs a derived map puts its codes over the settings in use (R414). -/
theorem State.plan_codes (host : (s.plan close seq).host = []) (derived : (s.plan close seq).derived = some d) :
    (s.plan close seq).next = Sparse.putAll resetWord s.use d.codes := by
  rw [State.plan_eq] at host derived ⊢
  have use : s.settingsBefore close = s.use := if_pos (by simpa using host)
  simp only at derived ⊢
  rw [derived, use]
  rfl

/-- A plan without a host commit is not judged (R54, R135). -/
theorem GwPlan.refusal_hostless (h : p.host = []) : p.refusal = none := by simp [GwPlan.refusal, h]

theorem State.judged_accepted (h : (s.plan close seq).refusal = none) : s.judged close seq = s.plan close seq := by
  simp [State.judged, h]

/-- The state with the commits stamped before this close refused. -/
def State.withoutCommits (s : State) (close : Nat) : State :=
  { s with gw := { s.gw with commits := s.gw.commits.filter fun c => decide (close ≤ c.tick) } }

theorem State.judged_refused {x : Nat × Option Nat} (h : (s.plan close seq).refusal = some x) :
    s.judged close seq = (s.withoutCommits close).plan close seq := by
  simp only [State.judged, h, Option.isSome_some, if_true]
  rfl

theorem State.withoutCommits_host (s : State) (close seq : Nat) : ((s.withoutCommits close).plan close seq).host = [] := by
  simp only [State.plan_eq, State.hostBefore, State.withoutCommits, List.filter_filter, List.filter_eq_nil_iff]
  intro c _
  simp only [Bool.and_eq_true, decide_eq_true_eq]
  omega

theorem State.judged_host_refused {x : Nat × Option Nat} (h : (s.plan close seq).refusal = some x) : (s.judged close seq).host = [] := by
  rw [State.judged_refused h]
  exact s.withoutCommits_host close seq

/-! ### Before the installation: boundary marks and refusals -/

/-- A stamp at or just after the close lies on the boundary (R24). -/
def closeMarks (close x : Nat) : Bool := decide (close ≤ x) && nearBoundary x close

def Commit.marked (close : Nat) (c : Commit) : Commit := if closeMarks close c.tick then { c with bound := true } else c

def DerivedMap.marked (close : Nat) (d : DerivedMap) : DerivedMap := if closeMarks close d.tick then { d with bound := true } else d

theorem Commit.marked_tick (close : Nat) (c : Commit) : (c.marked close).tick = c.tick := by unfold Commit.marked; split <;> rfl

theorem DerivedMap.marked_tick (close : Nat) (d : DerivedMap) : (d.marked close).tick = d.tick := by unfold DerivedMap.marked; split <;> rfl

/-- A stamp before the close is not on the boundary's far side. -/
theorem closeMarks_before {x : Nat} (before : x < close) : closeMarks close x = false := by
  rw [closeMarks, decide_eq_false (Nat.not_le.mpr before), Bool.false_and]

theorem DerivedMap.marked_before (before : d.tick < close) : d.marked close = d := by
  rw [DerivedMap.marked, closeMarks_before before]
  rfl

theorem Commit.marked_before {c : Commit} (before : c.tick < close) : c.marked close = c := by
  rw [Commit.marked, closeMarks_before before]
  rfl

/-- A gangway marks the stamps on its boundary, notes its close, and takes the note of an acquisition (R24, R121). -/
def State.gangwayNoted (s : State) (close : Nat) : State :=
  { s with gw := { s.gw with
      commits := s.gw.commits.map (Commit.marked close)
      derived := s.gw.derived.map (DerivedMap.marked close)
      lastClose := some close
      acqEvent := false } }

/-- The marks of a gangway change nothing in its plan: they lie at or after the close. -/
theorem State.plan_gangwayNoted (s : State) (close seq : Nat) : (s.gangwayNoted close).plan close seq = s.plan close seq := by
  have host : (s.gangwayNoted close).hostBefore close = s.hostBefore close := by
    have ticks : ((fun c : Commit => decide (c.tick < close)) ∘ Commit.marked close) = fun c => decide (c.tick < close) := by
      funext c
      rw [Function.comp, Commit.marked_tick]
    rw [State.hostBefore, State.gangwayNoted, List.filter_map, ticks, State.hostBefore]
    exact (List.map_congr_left fun c mem => Commit.marked_before (of_decide_eq_true (List.mem_filter.mp mem).2)).trans (List.map_id' _)
  have due (st : RegFile) : mapDue close seq st (s.gangwayNoted close).gw.derived = mapDue close seq st s.gw.derived := by
    show mapDue close seq st (s.gw.derived.map (DerivedMap.marked close)) = _
    cases s.gw.derived with
    | none => rfl
    | some d =>
      by_cases before : d.tick < close
      · rw [Option.map_some, DerivedMap.marked_before before]
      · simp only [mapDue, Option.map_some, Option.filter_some, DerivedMap.marked_tick, before, decide_false, Bool.false_and]
        rfl
  have settings : (s.gangwayNoted close).settingsBefore close = s.settingsBefore close := by
    simp only [State.settingsBefore, host]
    rfl
  rw [State.plan_eq, State.plan_eq, host, settings, due]

/-- The boundary marks and the refusal of the commits stamped before the close do not meet. -/
theorem State.gangwayNoted_withoutCommits (s : State) (close : Nat) :
    (s.gangwayNoted close).withoutCommits close = (s.withoutCommits close).gangwayNoted close := by
  have ticks : ((fun c : Commit => decide (close ≤ c.tick)) ∘ Commit.marked close) = fun c => decide (close ≤ c.tick) := by
    funext c
    rw [Function.comp, Commit.marked_tick]
  simp only [State.withoutCommits, State.gangwayNoted, List.filter_map, ticks]

/-- The state in which a gangway installs: its marks are made, and commits that fail a check are refused (R54, R135). -/
def State.gangwayJudged (s : State) (close seq : Nat) (idle : Bool) : State :=
  match (s.plan close seq).refusal with
  | some x => (s.gangwayNoted close).refuseCommits (s.plan close seq) close seq x.1 x.2 idle
  | none => s.gangwayNoted close

theorem State.logCommits_tt (s : State) (l : List Commit) (close seq code : Nat) (idle : Bool) :
    ∃ log lost, (s.logCommits l close seq code idle).tt = { s.tt with log := log, logLost := lost } := by
  unfold State.logCommits
  induction l generalizing s with
  | nil => exact ⟨_, _, rfl⟩
  | cons c r ih =>
    obtain ⟨log, lost, rest⟩ := ih (s.log c.stamp .commit seq (srcCode c.src) (code + (if idle then 16 else 0)) (c.bound || nearBoundary c.tick close))
    obtain ⟨_, _, first⟩ := State.log_tt s c.stamp .commit seq (srcCode c.src) (code + (if idle then 16 else 0)) (c.bound || nearBoundary c.tick close)
    exact ⟨log, lost, by rw [List.foldl_cons, rest, first]⟩

/-- What a refusal shows and leaves (R54, R84, R135). -/
structure CommitsRefused (s : State) (close code : Nat) (t : State) : Prop where
  gw : t.gw = (s.withoutCommits close).gw
  tt : ∃ log lost, t.tt = { s.tt with log := log, logLost := lost }
  gen : t.reg Reg.CFG_GW_GEN = s.reg Reg.CFG_GW_GEN
  shows : t.flag Reg.TT_STATUS Fld.TT_STATUS_COMMIT_REFUSED = true
  code : t.f Reg.TT_STATUS Fld.TT_STATUS_REFUSE_CODE = code % 16

theorem State.logCommits_gw (s : State) (l : List Commit) (close seq code : Nat) (idle : Bool) : (s.logCommits l close seq code idle).gw = s.gw := by
  unfold State.logCommits
  exact State.foldl_leaves State.gw (fun t _ => t.log_gw _ _ _ _ _ _) l s

theorem State.gwShown_gw (s : State) (gw : Gateway) : ({ s with gw := gw } : State).gwShown = s.gwShown := rfl

theorem State.refuseCommits_refused (s : State) (p : GwPlan) (close seq code : Nat) (ctx : Option Nat) (idle : Bool) :
    CommitsRefused s close code (s.refuseCommits p close seq code ctx idle) := by
  unfold State.refuseCommits
  extract_lets flagged coded named logged gw refused
  have names : Within (Machine.maskOf [.CFG_GW_STATUS]) 0 0 coded named := by
    dsimp -zeta only [named]
    split
    · exact .setB .CFG_GW_STATUS 0 0 rfl (.inl (by decide)) (.refl _ _ _ _)
    · exact .setB .CFG_GW_STATUS 0 0 rfl (.inl (by decide)) (.setF .CFG_GW_STATUS 0 0 rfl (.inl (by decide)) (.refl _ _ _ _))
  have status : named.reg Reg.TT_STATUS = coded.reg Reg.TT_STATUS := names.keepReg .TT_STATUS 0 0 rfl (by decide)
  have shown : (refused.setB Reg.CFG_GW_STATUS Fld.CFG_GW_STATUS_PENDING (!refused.gw.commits.isEmpty)).gwShown = named.gwShown :=
    (KeepsGangwaySeq.gwFlag refused Fld.CFG_GW_STATUS_PENDING _).shown.trans
      ((logged.gwShown_gw _).trans (KeepsGangwaySeq.logCommits named p.host close seq code idle).shown)
  refine ⟨?_, ?_, ?_, ?_, ?_⟩
  · have same : logged.gw = s.gw := (named.logCommits_gw p.host close seq code idle).trans (names.gw (by decide))
    show ({ logged.gw with commits := _ } : Gateway) = _
    rw [same]
    rfl
  · obtain ⟨log, lost, tt⟩ := named.logCommits_tt p.host close seq code idle
    exact ⟨log, lost, tt.trans (by rw [names.tt (by decide)]; rfl)⟩
  · exact (congrArg GwShown.gen shown).trans ((names.keepReg .CFG_GW_GEN 0 0 rfl (by decide)).trans
      ((State.reg_setF_ne _ _ (by decide)).trans (State.reg_setB_ne _ _ (by decide))))
  · exact (congrArg GwShown.refused shown).trans ((State.flag_of_reg _ status).trans
      ((State.flag_setF_disjoint _ _ _ _ (by decide)).trans (State.flag_setB_self _ _ _ _ (by decide) (by decide))))
  · exact (congrArg GwShown.code shown).trans ((State.f_of_reg _ status).trans (State.f_setF_self _ _ _ _ (by decide)))

/-! ### The state in which a gangway installs -/

theorem State.gangwayJudged_accepted (h : (s.plan close seq).refusal = none) : s.gangwayJudged close seq idle = s.gangwayNoted close := by
  rw [State.gangwayJudged, h]

theorem State.gangwayJudged_refused (h : (s.plan close seq).refusal = some (code, ctx)) :
    CommitsRefused (s.gangwayNoted close) close code (s.gangwayJudged close seq idle) := by
  rw [State.gangwayJudged, h]
  exact State.refuseCommits_refused _ _ _ _ _ _ _

/-- Where commits are refused, what is installed in their place is planned without them (R414). -/
theorem State.plan_gangwayJudged (s : State) (close seq : Nat) (idle : Bool) :
    (s.gangwayJudged close seq idle).plan close seq = s.judged close seq := by
  cases h : (s.plan close seq).refusal with
  | none => rw [State.gangwayJudged_accepted h, State.plan_gangwayNoted, State.judged_accepted h]
  | some x =>
    have refused := State.gangwayJudged_refused (idle := idle) h
    rw [State.plan_congr refused.gw, State.gangwayNoted_withoutCommits, State.plan_gangwayNoted, State.judged_refused h]

theorem State.gangwayJudged_tt (s : State) (close seq : Nat) (idle : Bool) :
    ∃ log lost, (s.gangwayJudged close seq idle).tt = { s.tt with log := log, logLost := lost } := by
  cases h : (s.plan close seq).refusal with
  | none => exact ⟨s.tt.log, s.tt.logLost, by rw [State.gangwayJudged_accepted h]; rfl⟩
  | some x => exact (State.gangwayJudged_refused (idle := idle) h).tt

/-- A refusal leaves the banks and the writes that wait, and the generation (R54). -/
theorem State.gangwayJudged_keeps (s : State) (close seq : Nat) (idle : Bool) :
    (s.gangwayJudged close seq idle).gw.cur = s.gw.cur ∧ (s.gangwayJudged close seq idle).gw.banks = s.gw.banks ∧
      (s.gangwayJudged close seq idle).gw.writes = s.gw.writes ∧
      (s.gangwayJudged close seq idle).reg Reg.CFG_GW_GEN = s.reg Reg.CFG_GW_GEN := by
  cases h : (s.plan close seq).refusal with
  | none => rw [State.gangwayJudged_accepted h]; exact ⟨rfl, rfl, rfl, rfl⟩
  | some x =>
    have refused := State.gangwayJudged_refused (idle := idle) h
    rw [refused.gw]
    exact ⟨rfl, rfl, rfl, refused.gen⟩

/-- Which banks are busy does not depend on the event log (R148). -/
theorem State.freeBank_congr (cur : t.gw.cur = s.gw.cur) (tt : ∃ log lost, t.tt = { s.tt with log := log, logLost := lost }) :
    t.freeBank = s.freeBank := by
  obtain ⟨log, lost, tt⟩ := tt
  simp only [State.freeBank, State.busyBanks, cur, tt]

theorem State.freeBank_gangwayJudged (s : State) (close seq : Nat) (idle : Bool) : (s.gangwayJudged close seq idle).freeBank = s.freeBank :=
  State.freeBank_congr (s.gangwayJudged_keeps close seq idle).1 (s.gangwayJudged_tt close seq idle)

/-! ### The installation, if there is one (R148) -/

theorem State.tryInstall_nothing (host : p.host = []) (derived : p.derived = none) :
    s.tryInstall p close swap seq first idle acq = (s.moveEpoch seq acq false false, false) := by
  simp [State.tryInstall, host, derived]

theorem State.tryInstall_installs (due : p.host ≠ [] ∨ p.derived ≠ none) (free : s.freeBank = some b) :
    s.tryInstall p close swap seq first idle acq = (s.install p b close swap seq first idle acq, true) := by
  rw [State.tryInstall, if_neg (by simpa [imp_iff_not_or] using due), free]

/-- Without a free bank the commits stay, and those of an idle gangway wait for another. -/
def State.bankWaits (s : State) (close : Nat) (idle : Bool) : State :=
  ({ s with gw := { s.gw with
      commits := s.gw.commits.map fun c => if idle && decide (c.tick < close) then { c with waits := true } else c
      derived := s.gw.derived.map fun d => if idle && decide (d.tick < close) then { d with waits := true } else d } } : State).setB
    Reg.CFG_GW_STATUS Fld.CFG_GW_STATUS_BANK_WAIT true

theorem State.tryInstall_waits (due : p.host ≠ [] ∨ p.derived ≠ none) (free : s.freeBank = none) :
    s.tryInstall p close swap seq first idle acq = ((s.bankWaits close idle).moveEpoch seq acq false false, false) := by
  rw [State.tryInstall, if_neg (by simpa [imp_iff_not_or] using due), free]
  rfl

/-! ### A whole gangway -/

/-- A gangway judges its plan, installs it if it may, and is told to engines and ferries (R143 to R149, R213, R334). -/
theorem State.gangway_eq (s : State) (close swap seq first : Nat) (idle : Bool) :
    s.gangway close swap seq first idle =
      let r := (s.gangwayJudged close seq idle).tryInstall (s.judged close seq) close swap seq first idle s.gw.acqEvent
      ((r.1.pioEvent 3 swap).ferryEvent 8 swap, r.2) := by
  rw [← s.plan_gangwayJudged close seq idle, State.gangwayJudged, ← s.plan_gangwayNoted]
  rfl

theorem KeepsGangwaySeq.told (s : State) (swap : Nat) : KeepsGangwaySeq s ((s.pioEvent 3 swap).ferryEvent 8 swap) :=
  (KeepsGangwaySeq.pioEvent s 3 swap).trans (.ferryEvent _ 8 swap)

theorem State.gangwayJudged_next (s : State) (close seq : Nat) (idle : Bool) : (s.gangwayJudged close seq idle).tt.nextSeq = s.tt.nextSeq := by
  obtain ⟨_, _, tt⟩ := s.gangwayJudged_tt close seq idle
  rw [tt]

/-- With something to install and a bank for it, a gangway installs its plan there; RUN = 0 ends the grid. -/
theorem State.gangway_installs (due : (s.judged close seq).host ≠ [] ∨ (s.judged close seq).derived ≠ none) (free : s.freeBank = some b)
    (swap first : Nat) (idle : Bool) :
    Installed (s.gangwayJudged close seq idle) (s.judged close seq) b close idle (s.gangway close swap seq first idle).1 ∧
      (s.gangway close swap seq first idle).1.tt.nextSeq = s.tt.nextSeq ∧
      ((s.judged close seq).next.on Reg.TT_MODE Fld.TT_MODE_RUN = false → (s.gangway close swap seq first idle).1.tt.grid = none) := by
  rw [State.gangway_eq, State.tryInstall_installs due ((s.freeBank_gangwayJudged close seq idle).trans free)]
  obtain ⟨installed, next, grid⟩ := (s.gangwayJudged close seq idle).install_installed (s.judged close seq) b close swap seq first idle s.gw.acqEvent
  have told := KeepsGangwaySeq.told ((s.gangwayJudged close seq idle).install (s.judged close seq) b close swap seq first idle s.gw.acqEvent) swap
  exact ⟨installed.keep told.toKeepsGangway, told.next.trans (next.trans (s.gangwayJudged_next close seq idle)), grid⟩

/-- With nothing to install, a gangway leaves what its judgement has left. -/
theorem State.gangway_nothing (host : (s.judged close seq).host = []) (derived : (s.judged close seq).derived = none)
    (swap first : Nat) (idle : Bool) : KeepsGangwaySeq (s.gangwayJudged close seq idle) (s.gangway close swap seq first idle).1 := by
  rw [State.gangway_eq, State.tryInstall_nothing host derived]
  exact (KeepsGangwaySeq.moveEpoch _ _ _ _ _).trans (.told _ _)

/-- Without a bank, a gangway leaves what its judgement has left, and its commits wait. -/
theorem State.gangway_waits (due : (s.judged close seq).host ≠ [] ∨ (s.judged close seq).derived ≠ none) (free : s.freeBank = none)
    (swap first : Nat) (idle : Bool) :
    KeepsGangwaySeq ((s.gangwayJudged close seq idle).bankWaits close idle) (s.gangway close swap seq first idle).1 := by
  rw [State.gangway_eq, State.tryInstall_waits due ((s.freeBank_gangwayJudged close seq idle).trans free)]
  exact (KeepsGangwaySeq.moveEpoch _ _ _ _ _).trans (.told _ _)

/-! ### The gangway of a frame (R68, R147) -/

/-- The state without the frame `f` among the timetable's. -/
def State.withoutFrame (s : State) (f : Frame) : State := { s with tt := { s.tt with frames := s.tt.frames.filter fun g => !(decide (g = f)) } }

/-- A frame whose gangway is to come keeps no bank busy. -/
theorem State.freeBank_withoutFrame (h : f.gated = false) : (s.withoutFrame f).freeBank = s.freeBank := by
  have frames (b : Nat) : (s.withoutFrame f).tt.frames.any (fun g => g.gated && g.bank == b) = s.tt.frames.any fun g => g.gated && g.bank == b := by
    rw [State.withoutFrame, List.any_filter]
    refine congrArg s.tt.frames.any (funext fun g => ?_)
    by_cases same : g = f
    · simp [same, h]
    · simp [same]
  simp only [State.freeBank, State.busyBanks, frames]
  rfl

theorem State.swapDue_ungated (h : s.swapDue = some f) : f.gated = false := by
  have due := List.find?_some (p := fun f : Frame => !f.gated && decide (f.swapAt ≤ s.clock.tt)) h
  simp only [Bool.and_eq_true, Bool.not_eq_true'] at due
  exact due.1

/-- The frame `f` opens at its gangway: RUN = 1 is left, and its pacing or trigger is (R57). -/
def State.frameOpens (s : State) (f : Frame) : Bool :=
  (s.settingsAt f.close s.tt.nextSeq).on Reg.TT_MODE Fld.TT_MODE_RUN &&
    (f.trig.isSome || (f.burst && s.tt.burst.isSome) || (s.settingsAt f.close s.tt.nextSeq).fld Reg.TT_MODE Fld.TT_MODE_PACE == 0)

/-- The gangway of the frame `f`, and whether it installed. -/
def State.frameGangway (s : State) (f : Frame) : State × Bool :=
  (s.withoutFrame f).gangway f.close f.swapAt s.tt.nextSeq (f.swapAt + (if s.frameOpens f then 24008 else 24000)) (!s.frameOpens f)

/-- What comes after a frame's gangway leaves what the gangway holds and shows. -/
theorem State.swapFrame_keeps (s : State) (f : Frame) : KeepsGangway (s.frameGangway f).1 (s.swapFrame f) := by
  unfold State.swapFrame
  extract_lets inBurst next opens tt removed epoch seq r x stepped y
  have steps : KeepsGangwaySeq (s.frameGangway f).1 stepped := .applyStep r.1 seq
  split
  · exact steps.toKeepsGangway.trans
      ((stepped.gateFrame_keeps _ _ _ _).1.trans ((KeepsGangwaySeq.enterFrame y.1 y.2 inBurst).trans (.showStatus _)).toKeepsGangway)
  · exact (steps.trans ((KeepsGangwaySeq.unreserve stepped seq).trans (.showStatus _))).toKeepsGangway

/-- A frame that opens takes the next sequence number (R25). -/
theorem State.swapFrame_next (opens : s.frameOpens f = true) : (s.swapFrame f).tt.nextSeq = ((s.frameGangway f).1.tt.nextSeq + 1) % 2 ^ 32 := by
  unfold State.swapFrame
  extract_lets inBurst next opens' tt removed epoch seq r x stepped y
  have steps : KeepsGangwaySeq (s.frameGangway f).1 stepped := .applyStep r.1 seq
  rw [if_pos (show opens' = true from opens), ((KeepsGangwaySeq.enterFrame y.1 y.2 inBurst).trans (.showStatus _)).next,
    (stepped.gateFrame_keeps _ _ _ _).2, steps.next]

/-- A gangway that is due is that of its frame, and what holds of a gangway with its close holds of it. -/
theorem State.gangwaySwap_due (due : s.swapDue = some f) : s.gangwaySwap = s.swapFrame f := by rw [State.gangwaySwap, due]

end Sys2Proof.Machine

/-! ## The gangway of a frame, and idle gangways -/

namespace Sys2Proof.Machine

variable {s t : State} {f : Frame} {p : GwPlan} {b close seq code : Nat} {ctx : Option Nat} {idle : Bool} {c : Commit} {d : DerivedMap}

/-! ### What an installed plan leaves -/

theorem Installed.bank (h : Installed s p b close idle t) : t.gw.cur = b ∧ t.gw.banks = s.gw.banks.set b p.next :=
  ⟨congrArg GwAccount.cur h.account, congrArg GwAccount.banks h.account⟩

/-- The commits that still wait are stamped at or after the close. -/
theorem Installed.commits (h : Installed s p b close idle t) : ∀ c ∈ t.gw.commits, close ≤ c.tick := by
  rw [show t.gw.commits = _ from congrArg GwAccount.commits h.account]
  exact fun c mem => of_decide_eq_true (List.mem_filter.mp mem).2

/-- With a host commit, so are the writes. -/
theorem Installed.writes (h : Installed s p b close idle t) (host : p.host ≠ []) : ∀ w ∈ t.gw.writes, close ≤ w.tick := by
  have left : t.gw.writes = s.gw.writes.filter fun w => decide (close ≤ w.tick) :=
    (congrArg GwAccount.writes h.account).trans (if_neg (by simpa using host))
  rw [left]
  exact fun w mem => of_decide_eq_true (List.mem_filter.mp mem).2

/-- A derived map alone leaves the writes and is no longer due (R414). -/
theorem Installed.map (h : Installed s p b close idle t) (host : p.host = []) (derived : p.derived = some d) :
    t.gw.writes = s.gw.writes ∧ t.gw.derived = none :=
  ⟨(congrArg GwAccount.writes h.account).trans (if_pos (by simp [host])), (congrArg GwAccount.derived h.account).trans (if_pos (by simp [derived]))⟩

/-- A plan that passes the checks is installed as it is. -/
theorem State.gangway_installs_plan (host : (s.plan close seq).host ≠ []) (passes : (s.plan close seq).refusal = none) (free : s.freeBank = some b)
    (swap first : Nat) (idle : Bool) :
    Installed (s.gangwayNoted close) (s.plan close seq) b close idle (s.gangway close swap seq first idle).1 ∧
      (s.gangway close swap seq first idle).1.tt.nextSeq = s.tt.nextSeq ∧
      ((s.plan close seq).next.on Reg.TT_MODE Fld.TT_MODE_RUN = false → (s.gangway close swap seq first idle).1.tt.grid = none) := by
  have judged := State.judged_accepted passes
  have installed := State.gangway_installs (s := s) (close := close) (seq := seq) (.inl (by rwa [judged])) free swap first idle
  rwa [judged, State.gangwayJudged_accepted passes] at installed

/-! ### GANGWAY_SWAP -/

/-- R143, R144, R147: what passes the checks is installed with one flip. -/
theorem State.swapFrame_installs (due : s.swapDue = some f) (host : (s.plan f.close s.tt.nextSeq).host ≠ [])
    (passes : (s.plan f.close s.tt.nextSeq).refusal = none) (free : s.freeBank = some b) :
    Installed ((s.withoutFrame f).gangwayNoted f.close) (s.plan f.close s.tt.nextSeq) b f.close (!s.frameOpens f) (s.swapFrame f) := by
  have free' := (State.freeBank_withoutFrame (State.swapDue_ungated due)).trans free
  exact (State.gangway_installs_plan (s := s.withoutFrame f) host passes free' _ _ _).1.keep (s.swapFrame_keeps f)

/-- The state in which the gangway of the frame `f` installs. -/
def State.frameJudged (s : State) (f : Frame) : State := (s.withoutFrame f).gangwayJudged f.close s.tt.nextSeq (!s.frameOpens f)

theorem State.frameJudged_keeps (s : State) (f : Frame) : (s.frameJudged f).gw.cur = s.gw.cur ∧ (s.frameJudged f).gw.banks = s.gw.banks ∧
    (s.frameJudged f).gw.writes = s.gw.writes ∧ (s.frameJudged f).reg Reg.CFG_GW_GEN = s.reg Reg.CFG_GW_GEN :=
  (s.withoutFrame f).gangwayJudged_keeps f.close s.tt.nextSeq (!s.frameOpens f)

theorem State.frameJudged_refused (h : (s.plan f.close s.tt.nextSeq).refusal = some (code, ctx)) :
    CommitsRefused ((s.withoutFrame f).gangwayNoted f.close) f.close code (s.frameJudged f) := State.gangwayJudged_refused h

/-- R54, R135: commits that fail a check are refused whole, with the reason. -/
theorem State.swapFrame_refuses (host : (s.judged f.close s.tt.nextSeq).host = []) (derived : (s.judged f.close s.tt.nextSeq).derived = none) :
    KeepsGangway (s.frameJudged f) (s.swapFrame f) :=
  (State.gangway_nothing (s := s.withoutFrame f) host derived f.swapAt _ _).toKeepsGangway.trans (s.swapFrame_keeps f)

/-- R414: a derived map that is due is installed although the commits are refused. -/
theorem State.swapFrame_installs_map (due : s.swapDue = some f) (derived : (s.judged f.close s.tt.nextSeq).derived = some d) (free : s.freeBank = some b) :
    Installed (s.frameJudged f) (s.judged f.close s.tt.nextSeq) b f.close (!s.frameOpens f) (s.swapFrame f) := by
  have free' := (State.freeBank_withoutFrame (State.swapDue_ungated due)).trans free
  have map : ((s.withoutFrame f).judged f.close s.tt.nextSeq).derived ≠ none := Option.ne_none_iff_exists'.mpr ⟨d, derived⟩
  exact (State.gangway_installs (.inr map) free' _ _ _).1.keep (s.swapFrame_keeps f)

/-- R148: without a free bank the commits wait. -/
theorem State.swapFrame_waits (due : s.swapDue = some f) (host : (s.plan f.close s.tt.nextSeq).host ≠ [])
    (passes : (s.plan f.close s.tt.nextSeq).refusal = none) (free : s.freeBank = none) :
    KeepsGangway (((s.withoutFrame f).gangwayNoted f.close).bankWaits f.close (!s.frameOpens f)) (s.swapFrame f) := by
  have free' := (State.freeBank_withoutFrame (State.swapDue_ungated due)).trans free
  have judged : (s.withoutFrame f).judged f.close s.tt.nextSeq = s.plan f.close s.tt.nextSeq := State.judged_accepted passes
  have accepted := State.gangwayJudged_accepted (s := s.withoutFrame f) (idle := !s.frameOpens f) passes
  rw [← accepted]
  exact (State.gangway_waits (.inl (by rwa [judged])) free' _ _ _).toKeepsGangway.trans (s.swapFrame_keeps f)

/-- R25, R143: with nothing pending nothing is installed, and a triggered frame takes the next sequence number. -/
theorem State.swapFrame_nothing (host : (s.plan f.close s.tt.nextSeq).host = []) (derived : s.gw.derived = none) (run : s.u Reg.TT_MODE Fld.TT_MODE_RUN = 1)
    (trig : f.trig.isSome = true) : KeepsGangway (s.frameJudged f) (s.swapFrame f) ∧ (s.swapFrame f).tt.nextSeq = (s.tt.nextSeq + 1) % 2 ^ 32 := by
  have judged := State.judged_accepted (GwPlan.refusal_hostless host)
  have hostless : (s.judged f.close s.tt.nextSeq).host = [] := by rw [judged, host]
  have mapless : (s.judged f.close s.tt.nextSeq).derived = none := by
    rw [judged, State.plan_eq, derived]
    rfl
  have settings : s.settingsAt f.close s.tt.nextSeq = s.use := by simp [State.settingsAt, hostless, mapless]
  have opens : s.frameOpens f = true := by
    have on : s.use.on Reg.TT_MODE Fld.TT_MODE_RUN = true := by rw [RegFile.on, beq_iff_eq]; exact run
    simp [State.frameOpens, settings, on, trig]
  have nothing : KeepsGangwaySeq (s.frameJudged f) (s.frameGangway f).1 := State.gangway_nothing (s := s.withoutFrame f) hostless mapless _ _ _
  refine ⟨nothing.toKeepsGangway.trans (s.swapFrame_keeps f), ?_⟩
  rw [State.swapFrame_next opens, nothing.next, State.frameJudged, State.gangwayJudged_next]
  rfl

/-- Settles O16: a frame's gangway installs what passes the checks (`swapFrame_installs`), refuses commits whole (`swapFrame_refuses`) beside a derived map
that is due (`swapFrame_installs_map`), waits for a bank (`swapFrame_waits`), or finds nothing pending (`swapFrame_nothing`). -/
theorem gangwaySwapInstallsWithOneFlip : Obligations.GangwaySwapInstallsWithOneFlip := by
  refine fun t f => ⟨fun b => ?_, fun code ctx => ?_, fun code b ctx d => ?_, ?_, ?_⟩
  · refine Runs.of (fun s => s.gangwaySwap) (fun _ => rfl) fun s ⟨due, host, passes, free⟩ => ?_
    rw [State.gangwaySwap_due due]
    have installed := State.swapFrame_installs due host passes free
    exact ⟨installed.bank.1, installed.bank.2, installed.gen, installed.commits, installed.writes host⟩
  · refine Runs.of (fun s => s.gangwaySwap) (fun _ => rfl) fun s ⟨due, fails, derived⟩ => ?_
    rw [State.gangwaySwap_due due]
    have kept := State.swapFrame_refuses (State.judged_host_refused fails) derived
    have refused := State.frameJudged_refused fails
    obtain ⟨cur, banks, writes, gen⟩ := s.frameJudged_keeps f
    exact ⟨(congrArg GwAccount.cur kept.account).trans cur, (congrArg GwAccount.banks kept.account).trans banks,
      (congrArg GwShown.refused kept.shown).trans refused.shows, (congrArg GwShown.code kept.shown).trans refused.code,
      State.f_of_reg _ ((congrArg GwShown.gen kept.shown).trans gen), (congrArg GwAccount.writes kept.account).trans writes⟩
  · refine Runs.of (fun s => s.gangwaySwap) (fun _ => rfl) fun s ⟨due, fails, free, derived⟩ => ?_
    rw [State.gangwaySwap_due due]
    have installed := State.swapFrame_installs_map due derived free
    have refused := State.frameJudged_refused fails
    have host := State.judged_host_refused fails
    obtain ⟨cur, banks, writes, gen⟩ := s.frameJudged_keeps f
    have codes : (s.judged f.close s.tt.nextSeq).next = Sparse.putAll resetWord s.use d.codes := by
      rw [State.judged_refused fails] at host derived ⊢
      exact State.plan_codes host derived
    exact ⟨installed.bank.1, by rw [installed.bank.2, banks, codes], (installed.map host derived).2, installed.refused.trans refused.shows,
      installed.code.trans refused.code, by rw [installed.gen, State.f_of_reg _ gen], (installed.map host derived).1.trans writes⟩
  · refine Runs.of (fun s => s.gangwaySwap) (fun _ => rfl) fun s ⟨due, host, passes, free⟩ => ?_
    rw [State.gangwaySwap_due due]
    have kept := State.swapFrame_waits due host passes free
    refine ⟨congrArg GwAccount.cur kept.account, congrArg GwAccount.banks kept.account,
      (congrArg GwShown.wait kept.shown).trans (State.flag_setB_self _ _ _ _ (by decide) (by decide)), ?_⟩
    rw [show (s.swapFrame f).gw.commits = _ from congrArg GwAccount.commits kept.account]
    exact (List.length_map _).trans (List.length_map _)
  · refine Runs.of (fun s => s.gangwaySwap) (fun _ => rfl) fun s ⟨due, host, derived, run, trig⟩ => ?_
    rw [State.gangwaySwap_due due]
    obtain ⟨kept, next⟩ := State.swapFrame_nothing host derived run trig
    obtain ⟨cur, banks, writes, gen⟩ := s.frameJudged_keeps f
    exact ⟨(congrArg GwAccount.cur kept.account).trans cur, (congrArg GwAccount.banks kept.account).trans banks,
      (congrArg GwAccount.writes kept.account).trans writes, State.f_of_reg _ ((congrArg GwShown.gen kept.shown).trans gen), next⟩

/-! ### IDLE_GANGWAY (R145, R146) -/

/-- What comes after an idle gangway leaves what the gangway holds and shows. -/
theorem State.idleAt_keeps (s : State) (close : Nat) (forced : Bool) :
    KeepsGangway (s.gangway close close s.tt.nextSeq (close + 24000) true).1 (s.idleAt close forced) := by
  unfold State.idleAt
  extract_lets seq epoch noGrid r x src gw noted first
  have steps : KeepsGangwaySeq r.1 x.1 := .applyStep r.1 seq
  have notes : KeepsGangwaySeq x.1 noted := .ite ⟨⟨rfl, rfl⟩, rfl⟩ (.refl _)
  have opens : KeepsGangway noted first := by
    dsimp -zeta only [first]
    split
    · exact noted.firstFrame_keeps _ _ _
    · exact (KeepsGangwaySeq.refl _).toKeepsGangway
  exact (steps.trans notes).toKeepsGangway.trans (opens.trans (KeepsGangwaySeq.showStatus first).toKeepsGangway)

/-- An idle gangway that leaves no grid assigns no sequence number (R57, R145). -/
theorem State.idleAt_gridless (forced : Bool) (grid : (s.gangway close close s.tt.nextSeq (close + 24000) true).1.tt.grid = none) :
    (s.idleAt close forced).tt.nextSeq = (s.gangway close close s.tt.nextSeq (close + 24000) true).1.tt.nextSeq := by
  unfold State.idleAt
  extract_lets seq epoch noGrid r x src gw noted first
  have steps : KeepsGangwaySeq r.1 x.1 := .applyStep r.1 seq
  have notes : KeepsGangwaySeq x.1 noted := .ite ⟨⟨rfl, rfl⟩, rfl⟩ (.refl _)
  have stays : noted.tt.grid = none := by
    have left : x.1.tt.grid = none := r.1.applyStep_grid seq grid
    dsimp -zeta only [noted]
    split <;> exact left
  have closed : first = noted := by
    dsimp -zeta only [first]
    rw [State.firstFrame, stays, ite_self]
  rw [(KeepsGangwaySeq.showStatus first).next, closed, notes.next, steps.next]

/-- With RUN = 0 in use, an idle gangway that is due is that of its commit. -/
theorem State.idleGangway_stopped (due : s.idleDue = some c) (stopped : s.u Reg.TT_MODE Fld.TT_MODE_RUN = 0) :
    s.idleGangway = s.idleAt (c.tick + 8) false := by
  simp [State.idleGangway, due, stopped]

/-- A forced idle gangway that finds a trigger pending does not take place, and its commit acts as COMMIT (R146). -/
theorem State.idleGangway_stands_back (due : s.idleDue = some c) (run : s.u Reg.TT_MODE Fld.TT_MODE_RUN = 1) (pending : s.triggerPending = true) :
    s.idleGangway = { s with gw := { s.gw with commits := s.gw.commits.map fun x => if decide (x = c) then { x with force := false } else x } } := by
  simp [State.idleGangway, due, run, pending]

/-- Settles O17: an idle gangway installs what its gangway does (`gangway_installs_plan`, `idleAt_keeps`) and opens no frame without a grid
(`idleAt_gridless`); a forced one stands back for a pending trigger (`idleGangway_stands_back`). -/
theorem idleGangwaysInstallWithoutAFrame : Obligations.IdleGangwaysInstallWithoutAFrame := by
  refine fun t c => ⟨fun b => ?_, ?_⟩
  · refine Runs.of (fun s => s.idleGangway) (fun _ => rfl) fun s ⟨due, stopped, host, passes, free⟩ => ?_
    rw [State.idleGangway_stopped due stopped]
    obtain ⟨gangway, next, grid⟩ := State.gangway_installs_plan host passes free (c.tick + 8) (c.tick + 8 + 24000) true
    have installed := gangway.keep (s.idleAt_keeps (c.tick + 8) false)
    exact ⟨installed.bank.1, installed.bank.2, installed.gen, installed.idleNoted, installed.commits,
      fun stays => (State.idleAt_gridless false (grid stays)).trans next⟩
  · refine Runs.of (fun s => s.idleGangway) (fun _ => rfl) fun s ⟨due, run, pending⟩ => ?_
    rw [State.idleGangway_stands_back due run pending]
    exact ⟨rfl, rfl, rfl, by simp only [decide_eq_true_eq]⟩

end Sys2Proof.Machine

/-! ## The footprints of the pipeline, the frame store and the ferries; statistics snapshots, derived maps and latched reads -/

namespace Sys2Proof.Machine

/-- Settles O8: every command keeps to its footprint, those of these three families among them. -/
theorem pipelineStoreAndFerryCommandsKeepToTheirFootprint :
    Obligations.PipelineStoreAndFerryCommandsKeepToTheirFootprint := fun c _ => exec_keepsFootprint c

variable {s t : State} {f : Frame} {p : Progress}

/-! ### The three stages of a snapshot (R176) -/

/-- The maps that are due are published. -/
def State.publishMapsDue (s : State) : State := (s.tt.frames.filter fun f => s.mapsDone f && !f.mapped).foldl (fun s f => s.publishMaps f) s

/-- The frames of which everything is published leave. -/
def State.retireOver (s : State) : State := (s.tt.frames.filter s.snapshotOver).foldl (fun s f => s.retireFrame f) s

theorem State.snapshot_eq (s : State) : s.snapshot = s.publishRecords.publishMapsDue.retireOver := rfl

/-- Publishing the records writes nothing but them. -/
theorem State.publishRecords_stays (s : State) : Within (Machine.maskOf [.pipe, .PIPE_STATS]) 0 0 s s.publishRecords :=
  State.publishRecords_within ⟨by decide, .inl (by decide)⟩ (Within.refl _ _ _ _)

/-- Publishing the maps leaves the records. -/
theorem State.publishMapsDue_stays (s : State) :
    Within (Machine.maskOf [.tt, .pipe, .PIPE_LOAD, .PIPE_BLACK, .PIPE_MEAN_HDR, .PIPE_MEAN]) 0 0 s s.publishMapsDue :=
  Within.foldl (fun _ _ => State.publishMaps_within ⟨by decide, .inl (by decide)⟩) (Within.refl _ _ _ _)

/-- Frames that leave change no register of the pipeline. -/
theorem State.retireOver_stays (s : State) : Within (Machine.maskOf [.tt, .pipe, .fy, .CFG_GW_STATUS]) 0 0 s s.retireOver :=
  Within.foldl (fun _ _ => State.retireFrame_within ⟨by decide, .inl (by decide)⟩) (Within.refl _ _ _ _)

theorem State.publishRecords_tt (s : State) : s.publishRecords.tt = s.tt := s.publishRecords_stays.tt (by decide)

theorem State.publishRecords_gw (s : State) : s.publishRecords.gw = s.gw := s.publishRecords_stays.gw (by decide)

/-! ### What the stages read -/

theorem State.mapsDone_congr (tt : t.tt = s.tt) (gw : t.gw = s.gw) : t.mapsDone = s.mapsDone := by
  funext f
  simp only [State.mapsDone, State.isStrips, State.bank, tt, gw]

theorem State.loadWord_congr (tt : t.tt = s.tt) : t.loadWord = s.loadWord := by
  funext f
  simp only [State.loadWord, tt]

/-- Publishing the records leaves which maps are due. -/
theorem State.publishRecords_publishMapsDue (s : State) : s.publishRecords.publishMapsDue =
    (s.tt.frames.filter fun f => s.mapsDone f && !f.mapped).foldl (fun s f => s.publishMaps f) s.publishRecords := by
  rw [State.publishMapsDue, s.publishRecords_tt, State.mapsDone_congr s.publishRecords_tt s.publishRecords_gw]

/-! ### Records (R175) -/

/-- A record that is published reads back in its context's words. -/
theorem State.publishStats_record {a : StatAcc} {w : Nat}
    (frame : s.tt.frames.find? (fun f => f.gated && f.seq == p.seq && f.cont == p.cont) = some f)
    (acc : s.pipe.stats.find? (fun a => a.ctx == p.ctx && a.seq == p.seq && a.cont == p.cont) = some a) (hw : w < 256) :
    (s.publishStats p).reg (Reg.PIPE_STATS p.ctx w) = (statWords (s.bank f.bank) a p f.gen).getD w 0 := by
  have at' : Reg.PIPE_STATS p.ctx w = Reg.PIPE_STATS p.ctx 0 + 8 * w := by simp only [Reg.PIPE_STATS]; omega
  have len : w < (statWords (s.bank f.bank) a p f.gen).length := by rwa [statWords_length]
  rw [State.publishStats, frame, acc, at', List.getD_eq_getElem _ _ len]
  exact State.reg_setBlock_in len

/-- Publishing a record leaves a frame of which everything is published so: contexts are only marked as shown. -/
theorem State.publishStats_snapshotOver (p : Progress) (shown : s.snapshotOver f = true) : (s.publishStats p).snapshotOver f = true := by
  unfold State.publishStats
  split
  · simp only [State.snapshotOver, Bool.and_eq_true, List.all_eq_true] at shown ⊢
    obtain ⟨frame, all⟩ := shown
    refine ⟨frame, fun q' mem => ?_⟩
    obtain ⟨q, old, rfl⟩ := List.mem_map.mp mem
    have was := all q old
    split
    · simp
    · exact was
  · exact shown

theorem State.publishRecords_snapshotOver (shown : s.snapshotOver f = true) : s.publishRecords.snapshotOver f = true :=
  List.foldlRecOn _ _ (motive := fun t : State => t.snapshotOver f = true) shown fun _ ht p _ => State.publishStats_snapshotOver p ht

theorem State.publishStats_derivation (s : State) (p : Progress) : (s.publishStats p).pipe.snapshot = s.pipe.snapshot := by
  unfold State.publishStats
  split <;> rfl

theorem State.publishRecords_derivation (s : State) : s.publishRecords.pipe.snapshot = s.pipe.snapshot :=
  List.foldlRecOn _ _ (motive := fun t : State => t.pipe.snapshot = s.pipe.snapshot) rfl fun t ht p _ => (t.publishStats_derivation p).trans ht

/-! ### Mean maps and load (R157, R174) -/

theorem State.publishMean_hdr (s : State) (slot : Nat) (l : List Nat) (h : Word) : (s.publishMean slot l h).reg (Reg.PIPE_MEAN_HDR slot) = h :=
  State.reg_setReg_self _ _ _

/-- A map that is published leaves the registers below its words, but for its header. -/
theorem State.publishMean_below (s : State) {slot a : Nat} (l : List Nat) (h : Word)
    (hdr : a ≠ Reg.PIPE_MEAN_HDR slot) (below : a < Reg.PIPE_MEAN slot 0) :
    (s.publishMean slot l h).reg a = s.reg a :=
  (State.reg_setReg_ne _ h hdr).trans (Sparse.get_splice_out resetWord s.regs _ (.inl below))

theorem State.publishBlack_pipe (s : State) (q : Pass) : (s.publishBlack q).pipe = s.pipe :=
  (State.publishBlack_within (Foot.refl _ _ _) (Within.refl _ _ _ _)).pipe (by decide)

/-- The header of a frame's mean maps. -/
def Frame.meanHdr (f : Frame) : Word := BitVec.ofNat 64 (f.seq + f.gen * 2 ^ 32 + f.cont * 2 ^ 48)

/-- A frame's two maps and its load are published, and the frame is marked. -/
def State.mapsShown (s : State) (f : Frame) (load : Word) : State :=
  (((s.publishMean 0 (meanEntries f.meanA) f.meanHdr).publishMean 1 (meanEntries f.meanB) f.meanHdr).setReg Reg.PIPE_LOAD load).setFrame
    { f with mapped := true }

theorem State.setFrame_reg (s : State) (f : Frame) (a : Nat) : (s.setFrame f).reg a = s.reg a := rfl

theorem State.setFrame_pipe (s : State) (f : Frame) : (s.setFrame f).pipe = s.pipe := rfl

theorem State.publishMean_pipe (s : State) (slot : Nat) (l : List Nat) (h : Word) : (s.publishMean slot l h).pipe = s.pipe := rfl

theorem State.mapsShown_load (s : State) (f : Frame) (load : Word) : (s.mapsShown f load).reg Reg.PIPE_LOAD = load := by
  rw [State.mapsShown, State.setFrame_reg, State.reg_setReg_self]

theorem State.mapsShown_hdr (s : State) (f : Frame) (load : Word) {slot : Nat} (h : slot < 2) :
    (s.mapsShown f load).reg (Reg.PIPE_MEAN_HDR slot) = f.meanHdr := by
  have other : Reg.PIPE_MEAN_HDR slot ≠ Reg.PIPE_LOAD :=
    Part.addr_ne (p := .PIPE_LOAD) (q := .PIPE_MEAN_HDR) (i := 0) (j := 0) (j' := 0) (by decide) rfl rfl
  rw [State.mapsShown, State.setFrame_reg, State.reg_setReg_ne _ _ other]
  match slot, h with
  | 0, _ => rw [State.publishMean_below _ _ _ (by decide) (by decide), State.publishMean_hdr]
  | 1, _ => exact State.publishMean_hdr _ _ _ _

theorem State.mapsShown_pipe (s : State) (f : Frame) (load : Word) : (s.mapsShown f load).pipe = s.pipe := by
  rw [State.mapsShown, State.setFrame_pipe, State.setReg_pipe, State.publishMean_pipe, State.publishMean_pipe]

/-- The derivation that AUTO keeps: the frame, its settings and the map of the slot that SRC_SLOT selects (R75). -/
def State.derivationOf (s : State) (f : Frame) : Snapshot :=
  ⟨f.seq, s.bank f.bank, if (s.bank f.bank).on Reg.TT_MAP_CFG Fld.TT_MAP_CFG_SRC_SLOT then meanEntries f.meanB else meanEntries f.meanA⟩

/-- A derivation is kept in place of any that is. -/
def State.keepDerivation (s : State) (n : Snapshot) : State := { s with pipe := { s.pipe with snapshot := some n } }

theorem State.keepDerivation_reg (s : State) (n : Snapshot) (a : Nat) : (s.keepDerivation n).reg a = s.reg a := rfl

theorem State.keepDerivation_snapshot (s : State) (n : Snapshot) : (s.keepDerivation n).pipe.snapshot = some n := rfl

/-- After the black levels, the maps and the load are published; with AUTO the derivation is kept. (The proof names the state before the derivation
`mapsShown` and forgets its value, or the kernel would compare its registers one write at a time.) -/
theorem State.publishMaps_eq (s : State) (f : Frame) : ∃ t : State, t.pipe = s.pipe ∧ s.publishMaps f =
    if (s.bank f.bank).on Reg.TT_MAP_CFG Fld.TT_MAP_CFG_AUTO then (t.mapsShown f (s.loadWord f)).keepDerivation (s.derivationOf f)
    else t.mapsShown f (s.loadWord f) := by
  unfold State.publishMaps
  extract_lets st hdr a b load black shown
  have maps : shown = black.mapsShown f (s.loadWord f) := rfl
  clear_value shown
  subst maps
  refine ⟨black, ?_, rfl⟩
  dsimp only [black]
  split
  · exact s.publishBlack_pipe _
  · rfl

theorem State.publishMaps_reg (s : State) (f : Frame) : ∃ t : State, ∀ a, (s.publishMaps f).reg a = (t.mapsShown f (s.loadWord f)).reg a := by
  obtain ⟨t, -, maps⟩ := s.publishMaps_eq f
  refine ⟨t, fun a => ?_⟩
  rw [maps]
  split
  · exact State.keepDerivation_reg _ _ a
  · rfl

theorem State.publishMaps_load (s : State) (f : Frame) : (s.publishMaps f).reg Reg.PIPE_LOAD = s.loadWord f := by
  obtain ⟨t, same⟩ := s.publishMaps_reg f
  rw [same, State.mapsShown_load]

theorem State.publishMaps_hdr (s : State) (f : Frame) {slot : Nat} (h : slot < 2) :
    (s.publishMaps f).reg (Reg.PIPE_MEAN_HDR slot) = f.meanHdr := by
  obtain ⟨t, same⟩ := s.publishMaps_reg f
  rw [same, State.mapsShown_hdr _ _ _ h]

/-- With AUTO the frame's map derivation is kept (R75); without, the one that is kept stays. -/
theorem State.publishMaps_derivation (s : State) (f : Frame) :
    ((s.bank f.bank).fld Reg.TT_MAP_CFG Fld.TT_MAP_CFG_AUTO = 1 →
      ∃ n : Snapshot, (s.publishMaps f).pipe.snapshot = some n ∧ n.seq = f.seq ∧ n.st = s.bank f.bank) ∧
    ((s.bank f.bank).fld Reg.TT_MAP_CFG Fld.TT_MAP_CFG_AUTO ≠ 1 → (s.publishMaps f).pipe.snapshot = s.pipe.snapshot) := by
  obtain ⟨t, pipe, maps⟩ := s.publishMaps_eq f
  rw [maps]
  refine ⟨fun auto => ?_, fun off => ?_⟩
  · have on : (s.bank f.bank).on Reg.TT_MAP_CFG Fld.TT_MAP_CFG_AUTO = true := beq_iff_eq.mpr auto
    rw [if_pos on]
    exact ⟨s.derivationOf f, State.keepDerivation_snapshot _ _, rfl, rfl⟩
  · have on : ¬ (s.bank f.bank).on Reg.TT_MAP_CFG Fld.TT_MAP_CFG_AUTO = true := fun on => off (beq_iff_eq.mp on)
    rw [if_neg on, State.mapsShown_pipe, pipe]

/-! ### Frames that leave (R176) -/

/-- Nothing of frame `f` or its segment is left in the timetable, its passes or the statistics under way. -/
def Gone (f : Frame) (s : State) : Prop :=
  (∀ g ∈ s.tt.frames, g.gated = true → ¬ (g.seq = f.seq ∧ g.cont = f.cont)) ∧
    (∀ p ∈ s.tt.passes, ¬ (p.seq = f.seq ∧ p.cont = f.cont)) ∧ ∀ a ∈ s.pipe.stats, ¬ (a.seq = f.seq ∧ a.cont = f.cont)

/-- A frame that leaves is gone. -/
theorem State.retireFrame_gone (s : State) (f : Frame) : Gone f (s.retireFrame f) := by
  refine ⟨fun g mem gated => ?_, fun q mem => ?_, fun a mem => ?_⟩
  · have left := (List.mem_filter.mp mem).2
    simpa [gated, ← not_and_or] using left
  · simpa [← not_and_or] using (List.mem_filter.mp mem).2
  · simpa [← not_and_or] using (List.mem_filter.mp mem).2

/-- Frames that leave bring nothing back. -/
theorem Gone.retireFrame (h : Gone f s) (g : Frame) : Gone f (s.retireFrame g) := by
  obtain ⟨frames, passes, stats⟩ := h
  exact ⟨fun x mem => frames x (List.mem_filter.mp mem).1, fun q mem => passes q (List.mem_filter.mp mem).1,
    fun a mem => stats a (List.mem_filter.mp mem).1⟩

theorem Gone.retireAll {l : List Frame} (mem : f ∈ l) (s : State) : Gone f (l.foldl (fun s f => s.retireFrame f) s) := by
  obtain ⟨before, behind, rfl⟩ := List.append_of_mem mem
  rw [List.foldl_append, List.foldl_cons]
  exact List.foldlRecOn _ _ (State.retireFrame_gone _ f) fun _ gone g _ => gone.retireFrame g

theorem State.retireOver_gone (mem : f ∈ s.tt.frames) (shown : s.snapshotOver f = true) : Gone f s.retireOver :=
  .retireAll (List.mem_filter.mpr ⟨mem, shown⟩) s

theorem State.retireOver_derivation (s : State) : s.retireOver.pipe.snapshot = s.pipe.snapshot :=
  List.foldlRecOn _ _ (motive := fun t : State => t.pipe.snapshot = s.pipe.snapshot) rfl fun _ ht _ _ => ht

/-! ### STATS_SNAPSHOT (R176) -/

/-- The record of the one context that is complete is published, and the rest of the snapshot leaves it. -/
theorem State.snapshot_record {a : StatAcc} {w : Nat} (alone : s.pipe.progress = [p]) (done : p.recorded = true) (new : p.shown = false)
    (frame : s.tt.frames.find? (fun f => f.gated && f.seq == p.seq && f.cont == p.cont) = some f)
    (acc : s.pipe.stats.find? (fun a => a.ctx == p.ctx && a.seq == p.seq && a.cont == p.cont) = some a) (hw : w < 256) :
    s.snapshot.reg (Reg.PIPE_STATS p.ctx w) = (statWords (s.bank f.bank) a p f.gen).getD w 0 := by
  have records : s.publishRecords = s.publishStats p := by simp [State.publishRecords, alone, done, new]
  rw [State.snapshot_eq, (State.retireOver_stays _).keepReg .PIPE_STATS p.ctx w rfl (by decide),
    (State.publishMapsDue_stays _).keepReg .PIPE_STATS p.ctx w rfl (by decide), records]
  exact State.publishStats_record frame acc hw

/-- The maps of the one frame that has its passes behind it are published after the records, and then frames leave. -/
theorem State.snapshot_of_due (due : s.tt.frames.filter (fun f => s.mapsDone f && !f.mapped) = [f]) :
    s.snapshot = (s.publishRecords.publishMaps f).retireOver := by
  rw [State.snapshot_eq, State.publishRecords_publishMapsDue, due, List.foldl_cons, List.foldl_nil]

theorem State.snapshot_load (due : s.tt.frames.filter (fun f => s.mapsDone f && !f.mapped) = [f]) :
    s.snapshot.reg Reg.PIPE_LOAD = s.loadWord f := by
  rw [State.snapshot_of_due due, (State.retireOver_stays _).keepReg .PIPE_LOAD 0 0 rfl (by decide), State.publishMaps_load,
    State.loadWord_congr s.publishRecords_tt]

theorem State.snapshot_hdr (due : s.tt.frames.filter (fun f => s.mapsDone f && !f.mapped) = [f]) {slot : Nat} (h : slot < 2) :
    s.snapshot.reg (Reg.PIPE_MEAN_HDR slot) = f.meanHdr := by
  rw [State.snapshot_of_due due, (State.retireOver_stays _).keepReg .PIPE_MEAN_HDR slot 0 rfl (by decide), State.publishMaps_hdr _ f h]

theorem State.snapshot_derivation (due : s.tt.frames.filter (fun f => s.mapsDone f && !f.mapped) = [f]) :
    ((s.bank f.bank).fld Reg.TT_MAP_CFG Fld.TT_MAP_CFG_AUTO = 1 →
      ∃ n : Snapshot, s.snapshot.pipe.snapshot = some n ∧ n.seq = f.seq ∧ n.st = s.bank f.bank) ∧
    ((s.bank f.bank).fld Reg.TT_MAP_CFG Fld.TT_MAP_CFG_AUTO ≠ 1 → s.snapshot.pipe.snapshot = s.pipe.snapshot) := by
  have same : s.publishRecords.bank f.bank = s.bank f.bank := by rw [State.bank, State.publishRecords_gw, State.bank]
  have maps := s.publishRecords.publishMaps_derivation f
  rwa [same, s.publishRecords_derivation, ← State.retireOver_derivation, ← State.snapshot_of_due due] at maps

/-- Where no maps are due, a frame of which everything is published is gone. -/
theorem State.snapshot_gone (mem : f ∈ s.tt.frames) (shown : s.snapshotOver f = true)
    (mapped : ∀ g ∈ s.tt.frames, s.mapsDone g = true → g.mapped = true) : Gone f s.snapshot := by
  have none : s.tt.frames.filter (fun f => s.mapsDone f && !f.mapped) = [] :=
    List.filter_eq_nil_iff.mpr fun g hg due => by
      rw [Bool.and_eq_true] at due
      simp [mapped g hg due.1] at due
  rw [State.snapshot_eq, State.publishRecords_publishMapsDue, none, List.foldl_nil]
  exact State.retireOver_gone (by rwa [s.publishRecords_tt]) (State.publishRecords_snapshotOver shown)

/-! ### MAP_DERIVATION_DONE (R75, R414) -/

/-- The map derived from a kept snapshot, as the present tick commits it. -/
def State.derivedNow (s : State) (n : Snapshot) : DerivedMap :=
  { tick := s.tick, stamp := s.stamp, seq := n.seq, limit := (n.seq + if storeMode n.st = 0 then 2 else 1) % 2 ^ 32,
    codes := Sparse.number 8 (Reg.TT_MAP 0) (packWords (derivedCodes n)), bound := s.nearClose s.tick }

/-- A derivation is committed where AUTO is on and has stayed on since the frame's gangway. -/
theorem State.deriveMap_commits {n : Snapshot} (kept : s.pipe.snapshot = some n) (auto : s.u Reg.TT_MAP_CFG Fld.TT_MAP_CFG_AUTO ≠ 0)
    (since : serialGe 32 n.seq s.gw.autoFrom = true) :
    s.deriveMap = State.setReg { s with pipe := { s.pipe with snapshot := none }, gw := { s.gw with derived := some (s.derivedNow n) } }
      Reg.CFG_GW_CTIME s.stamp := by
  rw [State.deriveMap, kept]
  dsimp only
  rw [if_neg (by simpa [State.u, State.use, State.bank, since] using auto)]
  rfl

/-- Otherwise it is dropped, and nothing is committed. -/
theorem State.deriveMap_drops {n : Snapshot} (kept : s.pipe.snapshot = some n)
    (unwanted : ¬ (s.u Reg.TT_MAP_CFG Fld.TT_MAP_CFG_AUTO ≠ 0 ∧ serialGe 32 n.seq s.gw.autoFrom = true)) :
    s.deriveMap = { s with pipe := { s.pipe with snapshot := none } } := by
  rw [State.deriveMap, kept]
  dsimp only
  rw [if_pos]
  by_contra wanted
  rw [Bool.or_eq_true, not_or, decide_eq_true_iff, Bool.not_eq_true', Bool.not_eq_false] at wanted
  exact unwanted wanted

/-! ### Latched reads (R177) -/

/-- A latched block holds its registers for its source, and the registers stay. -/
theorem State.latchBlock_holds (s : State) (src : Src) (base size : Nat) :
    (s.latchBlock src base size).regs = s.regs ∧ ∃ l ∈ (s.latchBlock src base size).pipe.latches, l.src = src ∧ l.base = base ∧
      ∀ a, base ≤ a → a < base + size → Sparse.get resetWord l.words a = s.reg a := by
  refine ⟨rfl, _, List.mem_append_right _ (List.mem_singleton_self _), rfl, rfl, fun a lo hi => ?_⟩
  rw [State.reg, Sparse.get, Sparse.get, Sparse.look_filter s.regs a fun k => decide (base ≤ k) && decide (k < base + size)]
  simp [lo, hi]

/-- Settles O28: a snapshot publishes the records (`snapshot_record`), then load, headers and a derivation to come (`snapshot_load`, `snapshot_hdr`,
`snapshot_derivation`), and lets frames go (`snapshot_gone`); a derivation is committed (`deriveMap_commits`) or dropped (`deriveMap_drops`); a read
latches a block (`latchBlock_holds`). -/
theorem statisticsAreSnapshotDerivedAndLatched : Obligations.StatisticsAreSnapshotDerivedAndLatched := by
  refine ⟨fun t p f a => ?_, fun t f => ?_, fun t f => ?_, fun t n => ⟨?_, ?_⟩, fun t src ctx => ?_, fun t src slot => ?_⟩
  · refine Runs.onStripes State.snapshot (fun _ => rfl) fun s ⟨work, alone, done, new, frame, acc⟩ => ⟨work, fun w hw => ?_⟩
    exact State.snapshot_record alone done new frame acc hw
  · refine Runs.onStripes State.snapshot (fun _ => rfl) fun s ⟨work, due⟩ => ⟨work, State.snapshot_load due, fun slot h => ?_, ?_⟩
    · exact State.snapshot_hdr due h
    · exact State.snapshot_derivation due
  · refine Runs.onStripes State.snapshot (fun _ => rfl) fun s ⟨work, mem, _, shown, mapped⟩ => ⟨work, ?_⟩
    exact State.snapshot_gone mem shown mapped
  · refine Runs.of State.deriveMap (fun _ => rfl) fun s ⟨kept, auto, since⟩ => ?_
    rw [State.deriveMap_commits kept auto since]
    exact ⟨rfl, State.reg_setReg_self _ _ _, s.derivedNow n, rfl, rfl, rfl, rfl, rfl⟩
  · refine Runs.of State.deriveMap (fun _ => rfl) fun s ⟨kept, unwanted⟩ => ?_
    rw [State.deriveMap_drops kept unwanted]
    exact ⟨rfl, rfl, rfl⟩
  · refine Runs.managed (fun s => s.latchRecord src ctx.val) (fun _ => rfl) fun s may => ⟨may, ?_⟩
    obtain ⟨regs, l, mem, source, base, words⟩ := s.latchBlock_holds src (Reg.PIPE_STATS ctx.val 0) 0x800
    refine ⟨regs, l, mem, source, base, fun w hw => words _ ?_ ?_⟩ <;> (simp only [Reg.PIPE_STATS]; omega)
  · refine Runs.managed (fun s => s.latchMean src slot.val) (fun _ => rfl) fun s may => ⟨may, ?_⟩
    obtain ⟨regs, l, mem, source, base, words⟩ := s.latchBlock_holds src (Reg.PIPE_MEAN slot.val 0) 0x10200
    refine ⟨regs, l, mem, source, base, fun w hw => words _ ?_ ?_⟩ <;> (simp only [Reg.PIPE_MEAN]; omega)

end Sys2Proof.Machine

/-! ## The berth table and recall -/

namespace Sys2Proof.Machine

variable {s : State} {r : Recall} {rest : List Recall} {o : Occupant} {d : RegDef}

/-! ### The registers of the berth table store what is written (R185) -/

/-- Bytes of addresses from a block's base on in which its registers lie. -/
def RegDef.size (d : RegDef) : Nat :=
  match d.dims with
  | [] => 1
  | (n, stride) :: _ => n * stride

theorem regTable_strides : ∀ d ∈ regTable, ∀ p ∈ d.dims, 0 < p.2 := by decide +kernel

theorem regAt_lt {a : Nat} (known : regAt a = some d) : a < d.base + d.size := by
  have stride := regTable_strides d (regAt_mem known)
  obtain ⟨base, inside⟩ := regAt_offset known
  suffices a - d.base < d.size by omega
  unfold RegDef.size
  cases dims : d.dims with
  | nil =>
    rw [dims, offsetIn, beq_iff_eq] at inside
    exact inside ▸ Nat.one_pos
  | cons p more =>
    rw [dims, offsetIn, Bool.and_eq_true, decide_eq_true_eq] at inside
    exact (Nat.div_lt_iff_lt_mul (stride p (dims ▸ List.mem_cons_self))).mp inside.1

/-- No block that reaches into the addresses of the berth table has a bit that a 1 clears. -/
theorem berthTable_w1c : ∀ d ∈ regTable, d.base < 0x2014000 → 0x2010000 < d.base + d.size → d.w1c = 0 := by decide +kernel

theorem regAt_berth_w1c {n : Nat} (known : regAt (Reg.FS_BERTH n) = some d) : d.w1c = 0 := by
  have above := (regAt_offset known).1
  have below := regAt_lt known
  refine berthTable_w1c d (regAt_mem known) ?_ ?_ <;> (simp only [Reg.FS_BERTH] at above below; omega)

/-- Without W1C bits the hardware holds nothing against a write (R13). -/
theorem State.keepFresh_stored (s : State) (a : Nat) (v : Word) (stored : d.w1c = 0) : s.keepFresh d a v = v := by
  rw [State.keepFresh, stored, Nat.and_zero, BitVec.not_zero, BitVec.and_allOnes]

theorem State.berthWrite_free {n : Nat} (known : regAt (Reg.FS_BERTH n) = some d) (free : s.berthState n = 0) (v : Word) :
    s.berthWrite n v = s.setReg (Reg.FS_BERTH n) (writtenWord d (s.reg (Reg.FS_BERTH n)) v) := by
  rw [State.berthWrite, if_pos free, State.storeReg_eq known, State.keepFresh_stored _ _ _ (regAt_berth_w1c known)]

theorem State.berthWrite_busy {n : Nat} (busy : s.berthState n ≠ 0) (v : Word) :
    s.berthWrite n v = s.setB Reg.FS_STATUS Fld.FS_STATUS_BTAB_BUSY true := if_neg busy

/-! ### Requests and results (R197, R199) -/

/-- The request that a source's copies of the recall registers name. -/
def State.recallAsked (s : State) (src : Src) : Recall where
  ctx := Fld.FS_RC_KEY_CTX.get (s.recallReg src 0)
  seq := Fld.FS_RC_KEY_SEQ.get (s.recallReg src 0)
  cont := Fld.FS_RC_KEY_CONT.get (s.recallReg src 0)
  first := Fld.FS_RC_LINES_FIRST.get (s.recallReg src 1)
  count := Fld.FS_RC_LINES_COUNT.get (s.recallReg src 1)
  x0 := Fld.FS_RC_COLS_X0.get (s.recallReg src 2)
  w := Fld.FS_RC_COLS_W.get (s.recallReg src 2)
  bundle := Fld.FS_RC_COLS_BUNDLE.get (s.recallReg src 2)
  tag := Fld.FS_RC_COLS_TAG.get (s.recallReg src 2)

theorem State.recallGo_room (room : s.fs.recalls.length + s.fs.results.length < 16) (src : Src) :
    s.recallGo src = { s with fs := { s.fs with recalls := s.fs.recalls ++ [s.recallAsked src] } } := if_neg (Nat.not_le.mpr room)

theorem State.recallGo_full (full : 16 ≤ s.fs.recalls.length + s.fs.results.length) (src : Src) :
    s.recallGo src = s.setB Reg.FS_STATUS Fld.FS_STATUS_RC_FULL true := if_pos full

/-- The word of a request's result. -/
def Recall.result (r : Recall) (code : Nat) : Word :=
  Fld.FS_RC_RES_LINES.set (Fld.FS_RC_RES_VALID.set (Fld.FS_RC_RES_CODE.set (Fld.FS_RC_RES_TAG.set 0 r.tag) code) 1) r.sent

theorem Recall.result_shows (r : Recall) (code : Nat) : Fld.FS_RC_RES_CODE.get (r.result code) = code % 8 ∧
    Fld.FS_RC_RES_TAG.get (r.result code) = r.tag % 256 ∧ Fld.FS_RC_RES_VALID.get (r.result code) = 1 := by
  refine ⟨?_, ?_, ?_⟩ <;> simp (disch := decide) only [Recall.result, Field.get_set_disjoint, Field.get_set_self] <;> rfl

/-- A request that holds no berth leaves the queue with its result, and nothing else changes. -/
theorem State.recallEnd_unplaced (unplaced : r.berth = none) (s : State) (code : Nat) :
    s.recallEnd r code = { s with fs := { s.fs with recalls := s.fs.recalls.tail, results := s.fs.results ++ [r.result code] } } := by
  simp only [State.recallEnd, unplaced, Recall.result]

/-! ### The request in front (R198) -/

theorem State.recallRun_begins (front : s.fs.recalls = r :: rest) (unplaced : r.berth = none) : s.recallRun = s.recallBegin r := by
  simp only [State.recallRun, front, unplaced]

theorem State.recallRun_goes_on {n : Nat} (front : s.fs.recalls = r :: rest) (placed : r.berth = some n) : s.recallRun = s.recallLine r n := by
  simp only [State.recallRun, front, placed]

theorem State.recallBegin_lost (lost : s.recallFind r = none) : s.recallBegin r = s.recallEnd r 1 := by
  simp only [State.recallBegin, lost]

/-- The request in front is replaced by what it has become. -/
def State.recallStep (s : State) (r : Recall) : State := { s with fs := { s.fs with recalls := r :: s.fs.recalls.tail } }

/-- A request lies on a frame: some lines and columns that stand, whole blocks of 16 columns, and a bundle that is active (R199). -/
structure Recall.Fits (r : Recall) (s : State) (o : Occupant) : Prop where
  tall : 0 < (r.extent o).1
  wide : 0 < (r.extent o).2
  lines : r.first + (r.extent o).1 ≤ o.lines
  columns : r.x0 + (r.extent o).2 ≤ o.width
  start : r.x0 % 16 = 0
  width : r.w % 16 = 0
  active : s.bunActive r.bundle = true

theorem State.recallBegin_locks (found : s.recallFind r = some o) (fits : r.Fits s o) :
    s.recallBegin r = (s.setB (Reg.FS_BSTATE o.berth) Fld.FS_BSTATE_LOCK true).recallStep { r with berth := some o.berth } := by
  have inside : ¬ (o.lines < r.first + (r.extent o).1 ∨ (r.extent o).1 = 0 ∨ o.width < r.x0 + (r.extent o).2 ∨ (r.extent o).2 = 0) := by
    obtain ⟨tall, wide, lines, columns, -, -, -⟩ := fits
    omega
  have sendable : ¬ (r.x0 % 16 ≠ 0 ∨ r.w % 16 ≠ 0 ∨ (!s.bunActive r.bundle) = true) := by
    simp [fits.start, fits.width, fits.active]
  simp only [State.recallBegin, found, if_neg inside, if_neg sendable]
  rfl

/-! ### A line of the running request (R198) -/

/-- What the LINE packets of a recall carry beside their line: B-class traffic of the recall, with the request's tag. -/
def Recall.packet (r : Recall) (o : Occupant) : Packet :=
  { ptype := 2, cls := 2, ctx := o.ctx, seq := o.seq, cont := o.cont, tag := r.tag, origin := 1, depth := o.depth }

/-- The request's next line read from its berth: the state with ECC events counted, and the packets. -/
def State.recallRead (s : State) (r : Recall) (o : Occupant) : State × List Packet :=
  s.readPart o (r.packet o) (r.first + r.pos) r.x0 (r.extent o).2

theorem State.recallLine_sends {n : Nat} (held : s.occAt n = some o) (more : r.pos < (r.extent o).1) (written : r.first + r.pos ∈ o.written)
    (credit : s.hasCredit r.bundle (s.recallRead r o).2 = true) :
    s.recallLine r n = ((s.recallRead r o).1.toLandings r.bundle (s.recallRead r o).2).recallStep { r with pos := r.pos + 1, sent := r.sent + 1 } := by
  have present : (!o.written.contains (r.first + r.pos)) = false := by simp [written]
  simp only [State.recallLine, held, if_neg (Nat.not_le.mpr more), present, Bool.false_eq_true, if_false]
  exact if_pos credit

/-- Reading a part of a berth counts ECC events in registers alone. -/
theorem State.readPart_keeps (s : State) (o : Occupant) (base : Packet) (idx col pix : Nat) :
    (s.readPart o base idx col pix).1.fs = s.fs ∧ (s.readPart o base idx col pix).1.eg = s.eg :=
  have counted : Within (Machine.maskOf [.FS_STATUS, .FS_CNT]) 0 0 s (s.readPart o base idx col pix).1 :=
    State.countEcc_within ⟨by decide, .inl (by decide)⟩ (Within.refl _ _ _ _)
  ⟨counted.fs (by decide), counted.eg (by decide) (by decide)⟩

theorem State.toLandings_fs (s : State) (b : Nat) (ps : List Packet) : (s.toLandings b ps).fs = s.fs :=
  (State.toLandings_within (Ma := 0) (Na := 0x800) (ba := b) (Foot.refl _ _ _) (Within.refl _ _ _ _)).fs (by decide)

/-- A line that is sent joins its bundle's landing, and the request counts it. -/
theorem State.recallLine_sent {n : Nat} (front : s.fs.recalls = r :: rest) (held : s.occAt n = some o) (more : r.pos < (r.extent o).1)
    (written : r.first + r.pos ∈ o.written) (bundle : r.bundle < s.eg.length) (credit : s.hasCredit r.bundle (s.recallRead r o).2 = true) :
    ((s.recallLine r n).bun r.bundle).landing = (s.bun r.bundle).landing ++ (s.recallRead r o).2 ∧
      (s.recallLine r n).fs.recalls = { r with pos := r.pos + 1, sent := r.sent + 1 } :: rest := by
  obtain ⟨fs, eg⟩ := s.readPart_keeps o (r.packet o) (r.first + r.pos) r.x0 (r.extent o).2
  rw [State.recallLine_sends held more written credit]
  constructor
  · refine (toLandings_landing (s := (s.recallRead r o).1) (eg.symm ▸ bundle)).trans ?_
    rw [State.bun, State.recallRead, eg]
    rfl
  · rw [State.recallStep, State.toLandings_fs, State.recallRead, fs, front, List.tail_cons]

/-! ### The commands -/

/-- Settles O30: a berth's entry is written where the berth is free (`berthWrite_free`, `berthWrite_busy`), a request is queued or refused
(`recallGo_room`, `recallGo_full`), the one in front ends without a berth (`recallEnd_unplaced`), locks its berth (`recallBegin_locks`) or sends a
line (`recallLine_sent`), and a pop is the meaning itself. -/
theorem berthsAndRecall : Obligations.BerthsAndRecall := by
  refine ⟨fun t src berth val d known => ⟨?_, ?_⟩, fun t src => ⟨?_, ?_⟩, fun turn r rest => ⟨?_, fun o => ?_, fun n o => ?_⟩, fun t src => ?_⟩
  · refine Runs.managed (fun s => s.berthWrite berth.val val) (fun _ => rfl) fun s ⟨may, free⟩ => ⟨may, ?_⟩
    rw [State.berthWrite_free known free, State.reg_setReg_self]
  · refine Runs.managed (fun s => s.berthWrite berth.val val) (fun _ => rfl) fun s ⟨may, busy⟩ => ⟨may, ?_⟩
    rw [State.berthWrite_busy busy]
    exact ⟨State.reg_setB_ne _ _ (by simp only [Reg.FS_BERTH, Reg.FS_STATUS]; omega), State.flag_setB_self _ _ _ _ (by decide) rfl⟩
  · refine Runs.managed (fun s => s.recallGo src) (fun _ => rfl) fun s ⟨may, room⟩ => ⟨may, ?_⟩
    rw [State.recallGo_room room]
    exact ⟨s.recallAsked src, rfl, rfl, rfl, rfl, rfl, rfl, rfl, rfl, rfl⟩
  · refine Runs.managed (fun s => s.recallGo src) (fun _ => rfl) fun s ⟨may, full⟩ => ⟨may, ?_⟩
    rw [State.recallGo_full full]
    exact ⟨rfl, State.flag_setB_self _ _ _ _ (by decide) rfl⟩
  · refine Runs.onStripes (fun s => (s.upset turn.upsets).recallRun) (fun _ => rfl) fun s ⟨work, front, unplaced, tag, lost⟩ => ⟨work, ?_⟩
    obtain ⟨code, shown, valid⟩ := r.result_shows 1
    rw [State.recallRun_begins (s := s.upset turn.upsets) front unplaced, State.recallBegin_lost (s := s.upset turn.upsets) lost,
      State.recallEnd_unplaced unplaced]
    exact ⟨congrArg List.tail front, r.result 1, rfl, code, shown.trans (Nat.mod_eq_of_lt tag), valid⟩
  · refine Runs.onStripes (fun s => (s.upset turn.upsets).recallRun) (fun _ => rfl)
      fun s ⟨work, front, unplaced, found, tall, wide, lines, columns, start, width, active⟩ => ⟨work, ?_⟩
    rw [State.recallRun_begins (s := s.upset turn.upsets) front unplaced,
      State.recallBegin_locks (s := s.upset turn.upsets) found ⟨tall, wide, lines, columns, start, width, active⟩]
    exact ⟨congrArg (_ :: List.tail ·) front, State.flag_setB_self _ _ _ _ (by decide) rfl, rfl⟩
  · refine Runs.onStripes (fun s => (s.upset turn.upsets).recallRun) (fun _ => rfl)
      fun s ⟨work, front, placed, held, more, written, bundle, credit⟩ => ⟨work, ?_⟩
    rw [State.recallRun_goes_on (s := s.upset turn.upsets) front placed]
    exact State.recallLine_sent front held more written bundle credit
  · exact Runs.managed State.recallPop (fun _ => rfl) fun _ may => ⟨may, rfl⟩

end Sys2Proof.Machine

/-! ## Ferries: kicks, stops, enables, polls and chain runs -/

namespace Sys2Proof.Machine

variable {s t : State} {f : Nat}

/-! ### One ferry's state -/

theorem State.ferry_congr (same : t.fy = s.fy) (f : Nat) : t.ferry f = s.ferry f := by rw [State.ferry, same, State.ferry]

theorem ferryKnown (many : s.fy.length = 32) (f : Fin 32) : f.val < s.fy.length := many.symm ▸ f.isLt

theorem State.ferry_modFerry_self (g : Ferry → Ferry) (known : f < s.fy.length) : (s.modFerry f g).ferry f = g (s.ferry f) := by
  simp only [State.ferry, State.modFerry, List.getD_eq_getElem?_getD, getElem?_modifyAt, List.getElem?_eq_getElem known, Option.map_some,
    Option.getD_some]

@[simp] theorem State.modFerry_length (s : State) (f : Nat) (g : Ferry → Ferry) : (s.modFerry f g).fy.length = s.fy.length := length_modifyAt _ _ _

@[simp] theorem State.reg_modFerry (s : State) (f : Nat) (g : Ferry → Ferry) (a : Nat) : (s.modFerry f g).reg a = s.reg a := rfl

@[simp] theorem State.f_modFerry (s : State) (f : Nat) (g : Ferry → Ferry) (a : Nat) (x : Field) : (s.modFerry f g).f a x = s.f a x := rfl

@[simp] theorem State.flag_modFerry (s : State) (f : Nat) (g : Ferry → Ferry) (a : Nat) (x : Field) : (s.modFerry f g).flag a x = s.flag a x := rfl

@[simp] theorem State.fyState_modFerry (s : State) (f : Nat) (g : Ferry → Ferry) (i : Nat) : (s.modFerry f g).fyState i = s.fyState i := rfl

@[simp] theorem State.ferry_setF (s : State) (a : Nat) (x : Field) (v i : Nat) : (s.setF a x v).ferry i = s.ferry i := rfl

@[simp] theorem State.ferry_setB (s : State) (a : Nat) (x : Field) (v : Bool) (i : Nat) : (s.setB a x v).ferry i = s.ferry i := rfl

@[simp] theorem State.ferry_setFy (s : State) (f n i : Nat) : (s.setFy f n).ferry i = s.ferry i := rfl

theorem State.fyState_setFy (s : State) (f : Nat) {n : Nat} (code : n < 8) : (s.setFy f n).fyState f = n :=
  (State.f_setF_self s _ _ n (by decide)).trans (Nat.mod_eq_of_lt code)

/-- A ferry's state leaves the other fields of FY_STAT. -/
theorem State.f_setFy (s : State) (f n : Nat) (x : Field) (apart : 3 ≤ x.lo) : (s.setFy f n).f (Reg.FY_STAT f) x = s.f (Reg.FY_STAT f) x :=
  State.f_setF_disjoint s _ Fld.FY_STAT_STATE x n (.inr apart)

theorem State.flag_setFy (s : State) (f n : Nat) (x : Field) (apart : 3 ≤ x.lo) :
    (s.setFy f n).flag (Reg.FY_STAT f) x = s.flag (Reg.FY_STAT f) x := State.flag_of_f (s.f_setFy f n x apart)

theorem State.reg_setFy_ne {a : Nat} (n : Nat) (other : a ≠ Reg.FY_STAT f) : (s.setFy f n).reg a = s.reg a := State.reg_setF_ne _ _ other

/-- Another field of FY_STAT leaves the ferry's state. -/
theorem State.fyState_setF (s : State) (f : Nat) (x : Field) (v : Nat) (apart : 3 ≤ x.lo) : (s.setF (Reg.FY_STAT f) x v).fyState f = s.fyState f :=
  State.f_setF_disjoint s _ x Fld.FY_STAT_STATE v (.inl apart)

theorem State.fyState_setB (s : State) (f : Nat) (x : Field) (v : Bool) (apart : 3 ≤ x.lo) : (s.setB (Reg.FY_STAT f) x v).fyState f = s.fyState f :=
  s.fyState_setF f x _ apart

theorem ferryControl_ne_status (f : Nat) : Reg.FY_CTL f ≠ Reg.FY_STAT f :=
  Part.addr_ne (p := .FY_STAT) (q := .FY_CTL) (i := f) (j := 0) (i' := f) (j' := 0) (by decide) rfl rfl

/-! ### A ferry becomes idle (R219, R223) -/

/-- A ferry without a descriptor, that polls next at `poll`. -/
def Ferry.rest (y : Ferry) (poll : Nat) : Ferry := { y with desc := [], outcome := none, buf := [], waitFrom := none, pollAt := poll }

/-- Ferry `f` has no descriptor any more. -/
def State.rested (s : State) (f : Nat) : State := s.modFerry f fun y => y.rest (s.clock.tt + s.pollNs f)

/-- A kick is held that starts the ferry as it becomes idle: not one of a ferry that runs frames only. -/
def State.kickWaits (s : State) (f : Nat) : Bool := s.flag (Reg.FY_STAT f) Fld.FY_STAT_KICK_HELD && !s.fyChained f

theorem State.fyIdle_starts (waits : s.kickWaits f = true) :
    s.fyIdle f = ((s.rested f).setB (Reg.FY_STAT f) Fld.FY_STAT_KICK_HELD false).setFy f 1 := if_pos waits

theorem State.fyIdle_stays (quiet : s.kickWaits f = false) : s.fyIdle f = (s.rested f).setFy f 0 := if_neg (Bool.eq_false_iff.mp quiet)

theorem State.fyIdle_state (s : State) (f : Nat) : (s.fyIdle f).fyState f = if s.kickWaits f then 1 else 0 := by
  cases waits : s.kickWaits f with
  | true => rw [State.fyIdle_starts waits, State.fyState_setFy _ _ (by decide), if_pos rfl]
  | false => rw [State.fyIdle_stays waits, State.fyState_setFy _ _ (by decide), if_neg Bool.false_ne_true]

theorem State.fyIdle_chained (chained : s.fyChained f = true) : (s.fyIdle f).fyState f = 0 := by
  rw [State.fyIdle_state, State.kickWaits, chained, Bool.not_true, Bool.and_false]
  rfl

theorem State.fyIdle_unheld (unheld : s.flag (Reg.FY_STAT f) Fld.FY_STAT_KICK_HELD = false) : (s.fyIdle f).fyState f = 0 := by
  rw [State.fyIdle_state, State.kickWaits, unheld]
  rfl

/-- A held kick is spent, but in a ferry that runs frames only. -/
theorem State.fyIdle_held (s : State) (f : Nat) : (s.fyIdle f).flag (Reg.FY_STAT f) Fld.FY_STAT_KICK_HELD =
    (s.flag (Reg.FY_STAT f) Fld.FY_STAT_KICK_HELD && s.fyChained f) := by
  cases waits : s.kickWaits f with
  | true =>
    rw [State.fyIdle_starts waits, State.flag_setFy _ _ _ _ (by decide), State.flag_setB_self _ _ _ _ (by decide) rfl]
    rw [State.kickWaits] at waits
    revert waits
    cases s.fyChained f <;> simp
  | false =>
    rw [State.fyIdle_stays waits, State.flag_setFy _ _ _ _ (by decide), State.rested, State.flag_modFerry]
    rw [State.kickWaits] at waits
    revert waits
    cases s.fyChained f <;> simp

theorem State.reg_fyIdle_ne {a : Nat} (other : a ≠ Reg.FY_STAT f) : (s.fyIdle f).reg a = s.reg a := by
  cases waits : s.kickWaits f with
  | true => exact State.fyIdle_starts waits ▸ (State.reg_setFy_ne _ other).trans (State.reg_setB_ne _ _ other)
  | false => exact State.fyIdle_stays waits ▸ State.reg_setFy_ne _ other

/-! ### Kicks (R219, R223) -/

variable {index : Nat} {setPos : Bool}

theorem State.kick_chained (chained : s.fyChained f = true) : s.kick f index setPos = s.setB (Reg.FY_STAT f) Fld.FY_STAT_KICK_IGN true :=
  if_pos chained

/-- What a running ferry notes of a kick. -/
theorem State.kick_busy (unchained : s.fyChained f = false) (busy : s.fyBusy f = true) :
    s.kick f index setPos = s.setB (Reg.FY_STAT f) (if setPos then Fld.FY_STAT_KICK_IGN else Fld.FY_STAT_KICK_HELD) true := by
  cases setPos <;> simp [State.kick, unchained, busy]

theorem State.kick_starts (unchained : s.fyChained f = false) (free : s.fyBusy f = false) (going : s.fyState f ≠ 7) :
    s.kick f index setPos = (if setPos then s.setF (Reg.FY_STAT f) Fld.FY_STAT_POS index else s).setFy f 1 := by
  simp [State.kick, unchained, free, going]

/-! ### A frame is dropped -/

variable {st : RegFile} {c seq cont reason : Nat}

/-- The frame is counted as dropped and marked, and its ferry is told; the ferries stay as many. -/
structure DropNoted (c : Nat) (s t : State) : Prop where
  ferries : t.fy.length = s.fy.length
  rest : Within (Machine.maskOf [.pipe, .fy]) 0 0 (s.countDrop c) t

/-- A frame that drops is noted; after that its berths, its landings and the gap notices alone change. -/
theorem State.dropFrame_noted (fresh : s.isDropped c seq cont = false) : ∃ t, DropNoted c s t ∧
    Within (Machine.maskOf [.fs, .eg, .FS_BSTATE]) 0 0 t (s.dropFrame st c seq cont reason) := by
  have freed (t : State) (l : List Occupant) :
      Within (Machine.maskOf [.fs, .eg, .FS_BSTATE]) 0 0 t (l.foldl (fun s o => s.dropBerth o) t) :=
    Within.foldl (fun _ _ => State.dropBerth_within ⟨by decide, .inl (by decide)⟩) (Within.refl _ _ _ _)
  unfold State.dropFrame
  rw [if_neg (Bool.eq_false_iff.mp fresh)]
  extract_lets -merge +onlyGivenNames mine counted pipeline marked
  have marks : Within (Machine.maskOf [.pipe, .fy]) 0 0 counted marked := Within.upd_pipe (by decide) (Within.refl _ _ _ _)
  split
  case h_1 => exact ⟨marked, ⟨rfl, marks⟩, State.sendGaps_within ⟨by decide, .inl (by decide)⟩ (freed _ _)⟩
  case h_2 =>
    extract_lets -merge +onlyGivenNames told
    refine ⟨told, ⟨List.length_map _, State.modRunners_within ⟨by decide, .inl (by decide)⟩ marks⟩, Within.ite ?_ ?_⟩
    · exact State.sendGaps_within ⟨by decide, .inl (by decide)⟩ (freed _ _)
    · exact Within.foldl (fun _ _ => State.setOcc_within ⟨by decide, .inl (by decide)⟩) (Within.refl _ _ _ _)

/-! ### A run ends early (R227) -/

/-- A run that is being aborted: its descriptor in hand, if any, ends with ABORT unless it has ended already. -/
def Ferry.abort (y : Ferry) : Ferry :=
  { y with
    aborting := true, abortReq := false, waitFrom := none, buf := []
    outcome := if y.desc = [] then none else if y.outcome.isSome then y.outcome else some 6 }

/-- The GAPs of the frame that ferry `f` runs are sent. -/
def State.gapRun (s : State) (f : Nat) : State :=
  match s.runOcc (s.ferry f) with
  | some o => s.sendGaps o.fixed o.ctx o.seq o.cont (s.ferry f).why (s.ferry f).runMask
  | none => s

theorem State.gapRun_stays (s : State) (f : Nat) : Within (Machine.maskOf [.fs, .eg]) 0 0 s (s.gapRun f) := by
  rw [State.gapRun]
  split
  · exact State.sendGaps_within ⟨by decide, .inl (by decide)⟩ (Within.refl _ _ _ _)
  · exact Within.refl _ _ _ _

theorem State.gapRun_fy (s : State) (f : Nat) : (s.gapRun f).fy = s.fy := (s.gapRun_stays f).fy (by decide) (by decide)

/-- Beside the GAPs of its frame, a run that ends early changes its ferry alone. -/
theorem State.abortRun_eq (going : (s.ferry f).aborting = false) :
    s.abortRun f = ((s.gapRun f).modFerry f Ferry.abort).setFy f (if (s.ferry f).desc = [] then 1 else 3) := by
  unfold State.abortRun
  rw [if_neg (Bool.eq_false_iff.mp going)]
  by_cases done : (s.ferry f).desc = []
  · rw [if_pos done, if_pos done]
    rfl
  · rw [if_neg done, if_neg done]
    rfl

theorem State.ferry_abortRun (known : f < s.fy.length) (going : (s.ferry f).aborting = false) : (s.abortRun f).ferry f = (s.ferry f).abort := by
  rw [State.abortRun_eq going, State.ferry_setFy, State.ferry_modFerry_self _ (by rwa [State.gapRun_fy]), State.ferry_congr (s.gapRun_fy f)]

theorem State.abortRun_aborts (known : f < s.fy.length) :
    ((s.abortRun f).ferry f).aborting = true ∧ ((s.abortRun f).ferry f).stopping = (s.ferry f).stopping := by
  by_cases going : (s.ferry f).aborting = true
  · rw [State.abortRun, if_pos going]
    exact ⟨going, rfl⟩
  · rw [State.ferry_abortRun known (Bool.eq_false_iff.mpr going)]
    exact ⟨rfl, rfl⟩

theorem State.abortRun_stays (s : State) (f : Nat) : Within (Machine.maskOf [.fs, .eg, .FY_STAT, .fy]) 0 0 s (s.abortRun f) :=
  State.abortRun_within ⟨by decide, .inl (by decide)⟩ (Within.refl _ _ _ _)

/-! ### Stops (R220, R227) -/

theorem State.flag_stopped (s : State) (f : Nat) : (s.setB (Reg.FY_CTL f) Fld.FY_CTL_EN false).flag (Reg.FY_CTL f) Fld.FY_CTL_EN = false :=
  State.flag_setB_self _ _ _ _ (by decide) rfl

theorem State.stopFerry_idle (free : (s.ferry f).run = none) (done : (s.ferry f).desc = []) :
    s.stopFerry f = (s.setB (Reg.FY_CTL f) Fld.FY_CTL_EN false).setFy f 7 := by
  simp only [State.stopFerry, State.ferry_setB, free, done, if_true]

theorem State.stopFerry_ends (free : (s.ferry f).run = none) (busy : (s.ferry f).desc ≠ []) (open' : (s.ferry f).outcome = none) :
    s.stopFerry f = ((s.setB (Reg.FY_CTL f) Fld.FY_CTL_EN false).modFerry f fun y => { y with stopping := true }).endDesc f 6 := by
  simp only [State.stopFerry, State.ferry_setB, free, busy, open', if_false, Option.isSome_none, Bool.false_eq_true]

/-- A descriptor that ends with a status waits for its write-back. -/
theorem State.endDesc_ended {code : Nat} (known : f < s.fy.length) :
    (s.endDesc f code).fyState f = 3 ∧ (s.endDesc f code).ferry f = { s.ferry f with outcome := some code, buf := [], waitFrom := none } :=
  ⟨State.fyState_setFy _ _ (by decide), State.ferry_modFerry_self _ known⟩

/-- A ferry stopped in a run aborts it and drops its frame. -/
theorem State.stopFerry_run {q k n : Nat} (known : f < s.fy.length) (runs : (s.ferry f).run = some (c, q, k, n))
    (fresh : s.isDropped c q k = false) :
    ((s.stopFerry f).ferry f).aborting = true ∧ ((s.stopFerry f).ferry f).stopping = true ∧
      (s.stopFerry f).flag (Reg.FY_CTL f) Fld.FY_CTL_EN = false ∧
      (s.stopFerry f).f (Reg.CTX_ST1 c) Fld.CTX_ST1_DROPPED = (s.f (Reg.CTX_ST1 c) Fld.CTX_ST1_DROPPED + 1) % 2 ^ 32 := by
  have disabled : (s.setB (Reg.FY_CTL f) Fld.FY_CTL_EN false).isDropped c q k = false := fresh
  have apart : Reg.CTX_ST1 c ≠ Reg.FY_CTL f := Part.addr_ne (p := .FY_CTL) (q := .CTX_ST1) (i := f) (j := 0) (i' := c) (j' := 0) (by decide) rfl rfl
  have stop : s.stopFerry f = (((s.setB (Reg.FY_CTL f) Fld.FY_CTL_EN false).dropFrame
      ((s.setB (Reg.FY_CTL f) Fld.FY_CTL_EN false).runFixed (s.ferry f)) c q k 4).modFerry f fun y => { y with stopping := true }).abortRun f := by
    simp only [State.stopFerry, State.ferry_setB, runs]
  obtain ⟨u, noted, dropped⟩ := State.dropFrame_noted
    (st := (s.setB (Reg.FY_CTL f) Fld.FY_CTL_EN false).runFixed (s.ferry f)) (reason := 4) disabled
  rw [stop]
  generalize (s.setB (Reg.FY_CTL f) Fld.FY_CTL_EN false).dropFrame _ c q k 4 = d at dropped ⊢
  have room : f < d.fy.length := by rw [dropped.fy (by decide) (by decide), noted.ferries]; exact known
  have stays := (d.modFerry f fun y => { y with stopping := true }).abortRun_stays f
  obtain ⟨aborting, stopping⟩ := State.abortRun_aborts (s := d.modFerry f fun y => { y with stopping := true }) (f := f) (by simpa using room)
  refine ⟨aborting, ?_, ?_, ?_⟩
  · rw [stopping, State.ferry_modFerry_self _ room]
  · rw [State.flag_of_reg _ (stays.keepReg .FY_CTL f 0 rfl (by decide)), State.flag_modFerry,
      State.flag_of_reg _ (dropped.keepReg .FY_CTL f 0 rfl (by decide)), State.flag_of_reg _ (noted.rest.keepReg .FY_CTL f 0 rfl (by decide)),
      State.countDrop, State.flag_of_reg _ (State.reg_addF_ne _ _ apart.symm), State.flag_stopped]
  · rw [stays.keepF .CTX_ST1 c 0 _ rfl (by decide), State.f_modFerry, dropped.keepF .CTX_ST1 c 0 _ rfl (by decide),
      noted.rest.keepF .CTX_ST1 c 0 _ rfl (by decide), State.countDrop, State.f_addF_self _ _ _ (by decide),
      State.f_of_reg _ (State.reg_setB_ne _ _ apart)]
    rfl

/-! ### Enables and polls (R219, R220) -/

theorem State.enableFerry_stopped (stopped : s.fyState f = 7) :
    s.enableFerry f = (s.setB (Reg.FY_CTL f) Fld.FY_CTL_EN true).fyIdle f :=
  if_pos ((State.f_of_reg _ (State.reg_setB_ne _ _ (ferryControl_ne_status f).symm)).trans stopped)

theorem State.enableFerry_going (going : s.fyState f ≠ 7) : s.enableFerry f = s.setB (Reg.FY_CTL f) Fld.FY_CTL_EN true :=
  if_neg fun stopped => going ((State.f_of_reg _ (State.reg_setB_ne _ _ (ferryControl_ne_status f).symm)).symm.trans stopped)

theorem State.pollFerry_due (due : (s.ferry f).pollAt ≤ s.clock.tt)
    (asks : (s.fyState f = 0 ∧ s.polls f = true ∧ s.fyChained f = false) ∨ s.fyState f = 5) : s.pollFerry f = s.setFy f 1 := by
  refine if_pos ?_
  rcases asks with ⟨idle, polls, unchained⟩ | starved
  · simp [due, idle, polls, unchained]
  · simp [due, starved]

theorem State.pollFerry_early (early : s.clock.tt < (s.ferry f).pollAt) : s.pollFerry f = s :=
  if_neg (by simp [Nat.not_le.mpr early])

/-! ### Chain runs (R222, R224) -/

variable {o : Occupant}

/-- The ferry begins the run of the frame that is next. -/
theorem State.handOver_begins (known : f < s.fy.length) (idle : s.fyState f = 0) (free : (s.ferry f).run = none) (next : s.handNext f = some o) :
    (s.handOver f).fyState f = 1 ∧ ((s.handOver f).ferry f).run = some (o.ctx, o.seq, o.cont, o.berth) ∧
      (s.handOver f).f (Reg.FY_STAT f) Fld.FY_STAT_POS = s.runFrom f ((o.chain.map (·.2)).getD 0) % 16384 := by
  have stays : ¬ (s.fyState f ≠ 0 ∨ (s.ferry f).run.isSome) := by simp [idle, free]
  rw [State.handOver, if_neg stays, next]
  refine ⟨State.fyState_setFy _ _ (by decide), ?_, ?_⟩
  · rw [State.ferry_setFy, State.ferry_modFerry_self _ (by exact known)]
  · rw [State.f_setFy _ _ _ _ (by decide), State.f_modFerry, State.f_setF_self _ _ _ _ (by decide)]
    rfl

/-- A run whose frame was dropped is aborted. -/
theorem State.chainAbort_aborts (known : f < s.fy.length) (asked : (s.ferry f).abortReq = true) (runs : (s.ferry f).run.isSome = true)
    (going : (s.ferry f).aborting = false) :
    (s.chainAbort f).ferry f = (s.ferry f).abort ∧ (s.chainAbort f).fyState f = if (s.ferry f).desc = [] then 1 else 3 := by
  have asks : ((s.ferry f).abortReq && (s.ferry f).run.isSome) = true := by rw [asked, runs]; rfl
  rw [State.chainAbort, if_pos asks]
  refine ⟨State.ferry_abortRun known going, ?_⟩
  rw [State.abortRun_eq going, State.fyState_setFy _ _ (by split <;> decide)]

/-! ### The commands -/

/-- Settles O31: kicks (`kick_starts`, `kick_busy`, `kick_chained`), stops (`stopFerry_idle`, `stopFerry_ends`, `stopFerry_run`), enables
(`enableFerry_stopped`, `enableFerry_going`), polls (`pollFerry_due`, `pollFerry_early`), and chain runs (`handOver_begins`, `chainAbort_aborts`). -/
theorem ferriesStartStopAndRunChains : Obligations.FerriesStartStopAndRunChains := by
  refine ⟨fun t src f index setPos => ⟨?_, ?_, ?_⟩, fun t src f => ⟨?_, ?_, fun c q k n => ?_, ?_, ?_⟩, fun t f => ⟨?_, ?_⟩,
    fun t f o => ?_, fun t f => ?_⟩
  · refine Runs.managed (fun s => s.kick f.val index.val setPos) (fun _ => rfl) fun s ⟨may, unchained, free, going⟩ => ⟨may, ?_⟩
    rw [State.kick_starts unchained free going, State.fyState_setFy _ _ (by decide), State.f_setFy _ _ _ _ (by decide)]
    refine ⟨rfl, ?_⟩
    split
    · exact (State.f_setF_self s _ _ _ (by decide)).trans (Nat.mod_eq_of_lt index.isLt)
    · rfl
  · refine Runs.managed (fun s => s.kick f.val index.val setPos) (fun _ => rfl) fun s ⟨may, unchained, busy⟩ => ⟨may, ?_⟩
    rw [State.kick_busy unchained busy]
    refine ⟨State.fyState_setB _ _ _ _ ?_, State.f_setB_disjoint _ _ _ _ (.inl ?_), State.flag_setB_self _ _ _ _ ?_ ?_⟩ <;>
      cases setPos <;> decide
  · refine Runs.managed (fun s => s.kick f.val index.val setPos) (fun _ => rfl) fun s ⟨may, chained⟩ => ⟨may, ?_⟩
    rw [State.kick_chained chained]
    exact ⟨State.fyState_setB _ _ _ _ (by decide), State.flag_setB_self _ _ _ _ (by decide) rfl⟩
  · refine Runs.managed (fun s => s.stopFerry f.val) (fun _ => rfl) fun s ⟨may, free, done⟩ => ⟨may, ?_⟩
    rw [State.stopFerry_idle free done, State.flag_of_reg _ (State.reg_setFy_ne _ (ferryControl_ne_status _))]
    exact ⟨State.fyState_setFy _ _ (by decide), s.flag_stopped f.val⟩
  · refine Runs.managed (fun s => s.stopFerry f.val) (fun _ => rfl) fun s ⟨may, many, free, busy, open'⟩ => ⟨may, ?_⟩
    have known : f.val < s.fy.length := ferryKnown many f
    rw [State.stopFerry_ends free busy open']
    obtain ⟨state, ferry⟩ := State.endDesc_ended (s := (s.setB (Reg.FY_CTL f.val) Fld.FY_CTL_EN false).modFerry f.val
      fun y => { y with stopping := true }) (f := f.val) (code := 6) (by simpa using known)
    rw [ferry, State.ferry_modFerry_self _ (by exact known)]
    exact ⟨state, rfl, rfl, (State.flag_of_reg _ (State.reg_setFy_ne _ (ferryControl_ne_status _))).trans (s.flag_stopped f.val)⟩
  · exact Runs.managed (fun s => s.stopFerry f.val) (fun _ => rfl) fun s ⟨may, many, runs, fresh⟩ =>
      ⟨may, State.stopFerry_run (ferryKnown many f) runs fresh⟩
  · refine Runs.managed (fun s => s.enableFerry f.val) (fun _ => rfl) fun s ⟨may, stopped⟩ => ⟨may, ?_⟩
    have status (x : Field) : (s.setB (Reg.FY_CTL f.val) Fld.FY_CTL_EN true).flag (Reg.FY_STAT f.val) x = s.flag (Reg.FY_STAT f.val) x :=
      State.flag_of_reg _ (State.reg_setB_ne _ _ (ferryControl_ne_status _).symm)
    rw [State.enableFerry_stopped stopped, State.fyIdle_held, State.fyIdle_state, State.kickWaits, State.fyChained, status, status,
      State.flag_of_reg _ (State.reg_fyIdle_ne (ferryControl_ne_status _))]
    exact ⟨State.flag_setB_self _ _ _ _ (by decide) rfl, rfl, rfl⟩
  · refine Runs.managed (fun s => s.enableFerry f.val) (fun _ => rfl) fun s ⟨may, going⟩ => ⟨may, ?_⟩
    rw [State.enableFerry_going going]
    exact ⟨State.flag_setB_self _ _ _ _ (by decide) rfl, State.f_of_reg _ (State.reg_setB_ne _ _ (ferryControl_ne_status _).symm)⟩
  · refine Runs.onStripes (fun s => s.pollFerry f.val) (fun _ => rfl) fun s ⟨work, due, asks⟩ => ⟨work, ?_⟩
    rw [State.pollFerry_due due asks]
    exact State.fyState_setFy _ _ (by decide)
  · exact Runs.onStripes (fun s => s.pollFerry f.val) (fun _ => rfl) fun s ⟨work, early⟩ => ⟨work, State.pollFerry_early early⟩
  · exact Runs.onStripes (fun s => s.handOver f.val) (fun _ => rfl) fun s ⟨work, many, idle, free, next⟩ =>
      ⟨work, State.handOver_begins (ferryKnown many f) idle free next⟩
  · refine Runs.onStripes (fun s => s.chainAbort f.val) (fun _ => rfl) fun s ⟨work, many, asked, runs, going, open'⟩ => ⟨work, ?_⟩
    obtain ⟨ferry, state⟩ := State.chainAbort_aborts (ferryKnown many f) asked runs going
    rw [ferry, Ferry.abort, open']
    exact ⟨rfl, rfl, state, rfl⟩

end Sys2Proof.Machine

/-! ## Ferries: fetches, pacing and line moves -/

namespace Sys2Proof.Machine

variable {s t : State} {f code : Nat} {d : List Word}

/-! ### The checks at fetch (R207) -/

theorem State.runOcc_congr {x y : Ferry} (occ : t.fs.occ = s.fs.occ) (run : x.run = y.run) : t.runOcc x = s.runOcc y := by
  simp only [State.runOcc, occ, run]

theorem State.badAddr_congr {x y : Ferry} (occ : t.runOcc x = s.runOcc y) (berths : t.berthBytes = s.berthBytes) :
    t.badAddr x d = s.badAddr y d := by
  rw [State.badAddr, occ, berths, State.badAddr]

theorem State.badFormat_congr {x y : Ferry} (occ : t.runOcc x = s.runOcc y) (run : x.run = y.run) : t.badFormat f x d = s.badFormat f y d := by
  have checked : t.checkedClass x d = s.checkedClass y d := by rw [State.checkedClass, occ, State.checkedClass]
  have carried : t.descClass x d = s.descClass y d := by rw [State.descClass, occ, State.descClass]
  rw [State.badFormat, checked, carried, run, State.badFormat]

/-- The checks look at the descriptor, the frame that is run and the sizes of the berths. -/
theorem State.descCheck_congr {x y : Ferry} (occ : t.fs.occ = s.fs.occ) (run : x.run = y.run)
    (berths : ∀ n, t.reg (Reg.FS_BERTH n) = s.reg (Reg.FS_BERTH n)) : t.descCheck f x d = s.descCheck f y d := by
  have frame := State.runOcc_congr occ run
  have bytes : t.berthBytes = s.berthBytes := funext fun n => congrArg (· * 65536) (State.f_of_reg _ (berths n))
  rw [State.descCheck, State.badAddr_congr frame bytes, State.badFormat_congr frame run, State.descCheck]

/-! ### A descriptor begins (R206, R227) -/

/-- A ferry with descriptor `d` in hand since `tick`. -/
def Ferry.take (y : Ferry) (d : List Word) (tick : Nat) : Ferry :=
  { y with desc := d, id := y.id + 1, outcome := none, srcLine := 0, buf := [], waitFrom := none, fetchAt := tick }

/-- Ferry `f` has descriptor `d` in hand and has moved no line of it. -/
def State.descTaken (s : State) (f : Nat) (d : List Word) : State :=
  (s.modFerry f fun y => y.take d s.tick).setF (Reg.FY_STAT f) Fld.FY_STAT_LINES 0

/-- The descriptor in hand ends with a status. -/
def State.setOutcome (s : State) (f code : Nat) : State := s.modFerry f fun y => { y with outcome := some code }

theorem State.descTaken_length (s : State) (f : Nat) (d : List Word) : (s.descTaken f d).fy.length = s.fy.length := length_modifyAt _ _ _

theorem State.ferry_descTaken (known : f < s.fy.length) : (s.descTaken f d).ferry f = (s.ferry f).take d s.tick :=
  State.ferry_modFerry_self _ known

theorem State.descTaken_lines (s : State) (f : Nat) (d : List Word) : (s.descTaken f d).f (Reg.FY_STAT f) Fld.FY_STAT_LINES = 0 :=
  State.f_setF_self _ _ _ _ (by decide)

theorem State.descCheck_descTaken (known : f < s.fy.length) :
    (s.descTaken f d).descCheck f ((s.descTaken f d).ferry f) d = s.descCheck f (s.ferry f) d := by
  refine State.descCheck_congr rfl (by rw [State.ferry_descTaken known]; rfl) fun n => State.reg_setF_ne _ _ ?_
  exact Part.addr_ne (p := .FY_STAT) (q := .FS_BERTH) (i := f) (j := 0) (i' := n) (j' := 0) (by decide) rfl rfl

/-- The status with which a descriptor ends at once: ABORT in a run that ends early, else that of the check that fails. -/
def State.EndsAtOnce (s : State) (f : Nat) (d : List Word) (code : Nat) : Prop :=
  ((s.ferry f).aborting = true ∧ code = 6) ∨ ((s.ferry f).aborting = false ∧ s.descCheck f (s.ferry f) d = some code)

theorem State.beginDesc_ends (known : f < s.fy.length) (ends : s.EndsAtOnce f d code) :
    s.beginDesc f d = ((s.descTaken f d).setOutcome f code).setFy f 3 := by
  have check := State.descCheck_descTaken (d := d) known
  have aborts : ((s.descTaken f d).ferry f).aborting = (s.ferry f).aborting := by rw [State.ferry_descTaken known]; rfl
  rcases ends with ⟨aborting, rfl⟩ | ⟨going, fails⟩
  · exact if_pos (aborts.trans aborting)
  · rw [fails] at check
    rw [going] at aborts
    unfold State.descTaken Ferry.take at check aborts
    simp only [State.beginDesc, aborts, check]
    rfl

theorem State.beginDesc_ended (known : f < s.fy.length) (ends : s.EndsAtOnce f d code) :
    (((s.beginDesc f d).ferry f).desc = d ∧ (s.beginDesc f d).f (Reg.FY_STAT f) Fld.FY_STAT_LINES = 0) ∧
      (s.beginDesc f d).fyState f = 3 ∧ ((s.beginDesc f d).ferry f).outcome = some code := by
  rw [State.beginDesc_ends known ends, State.f_setFy _ _ _ _ (by decide), State.ferry_setFy, State.setOutcome,
    State.ferry_modFerry_self _ (by rwa [State.descTaken_length]), State.ferry_descTaken known]
  exact ⟨⟨rfl, s.descTaken_lines f d⟩, State.fyState_setFy _ _ (by decide), rfl⟩

/-- A descriptor that passes the checks goes on to its pacing. -/
theorem State.beginDesc_goes_on (known : f < s.fy.length) (going : (s.ferry f).aborting = false) (sound : s.descCheck f (s.ferry f) d = none) :
    s.beginDesc f d =
      if Fld.DESC5_PACE_KIND.get (dw d 5) = 0 then (s.descTaken f d).setFy f 3 else (s.descTaken f d).openWait f := by
  have check := (State.descCheck_descTaken (d := d) known).trans sound
  have aborts : ((s.descTaken f d).ferry f).aborting = false := by rw [State.ferry_descTaken known]; exact going
  unfold State.descTaken Ferry.take at check aborts
  simp only [State.beginDesc, aborts, check]
  rfl

/-- An unpaced descriptor lets lines move. -/
theorem State.beginDesc_moves (known : f < s.fy.length) (going : (s.ferry f).aborting = false) (sound : s.descCheck f (s.ferry f) d = none)
    (unpaced : Fld.DESC5_PACE_KIND.get (dw d 5) = 0) :
    (((s.beginDesc f d).ferry f).desc = d ∧ (s.beginDesc f d).f (Reg.FY_STAT f) Fld.FY_STAT_LINES = 0) ∧
      (s.beginDesc f d).fyState f = 3 ∧ ((s.beginDesc f d).ferry f).outcome = none ∧ ((s.beginDesc f d).ferry f).srcLine = 0 := by
  rw [State.beginDesc_goes_on known going sound, if_pos unpaced, State.f_setFy _ _ _ _ (by decide), State.ferry_setFy, State.ferry_descTaken known]
  exact ⟨⟨rfl, s.descTaken_lines f d⟩, State.fyState_setFy _ _ (by decide), rfl, rfl⟩

/-! ### Pacing (R213, R214) -/

/-- A wait opens on the present tick; the ferry's descriptor and its place in it stay. -/
theorem State.ferry_openWait (known : f < s.fy.length) :
    ∃ n, (s.openWait f).ferry f = { s.ferry f with waitFrom := some s.tick, waitLeft := n } := ⟨_, State.ferry_modFerry_self _ known⟩

theorem State.fyState_openWait (s : State) (f : Nat) : (s.openWait f).fyState f = 2 := State.fyState_setFy _ _ (by decide)

theorem State.beginDesc_waits (known : f < s.fy.length) (going : (s.ferry f).aborting = false) (sound : s.descCheck f (s.ferry f) d = none)
    (paced : Fld.DESC5_PACE_KIND.get (dw d 5) ≠ 0) :
    (((s.beginDesc f d).ferry f).desc = d ∧ (s.beginDesc f d).f (Reg.FY_STAT f) Fld.FY_STAT_LINES = 0) ∧
      (s.beginDesc f d).fyState f = 2 ∧ ((s.beginDesc f d).ferry f).waitFrom = some s.tick := by
  obtain ⟨n, wait⟩ := State.ferry_openWait (s := s.descTaken f d) (f := f) (by rwa [State.descTaken_length])
  rw [State.beginDesc_goes_on known going sound, if_neg paced, wait, State.ferry_descTaken known, State.fyState_openWait]
  exact ⟨⟨rfl, (State.f_setFy _ _ _ _ (by decide)).trans (s.descTaken_lines f d)⟩, rfl, rfl⟩

theorem State.endWait_over (known : f < s.fy.length) (waits : s.fyState f = 2) (opened : (s.ferry f).waitFrom.isSome = true)
    (passed : s.waitOver f = true) : (s.endWait f).fyState f = 3 ∧ ((s.endWait f).ferry f).waitFrom = none := by
  rw [State.endWait, if_pos ⟨waits, opened, passed⟩, State.ferry_setFy, State.ferry_modFerry_self _ known]
  exact ⟨State.fyState_setFy _ _ (by decide), rfl⟩

/-! ### Fetches (R206, R218, R223, R226) -/

/-- Ferry `f` fetches, room for its delivery is left, and `d` is the descriptor at its position; one that runs frames only has a run. -/
structure Fetches (s : State) (f : Nat) (d : List Word) : Prop where
  state : s.fyState f = 1
  room : (s.ferry f).awaiting.length < 64
  words : s.descWords (s.f (Reg.FY_STAT f) Fld.FY_STAT_POS) = d
  runs : s.fyChained f = false ∨ (s.ferry f).run.isSome = true

/-- A ferry has something to fetch for unless it runs frames only and has no run. -/
theorem State.fetches_for (runs : s.fyChained f = false ∨ (s.ferry f).run.isSome = true) :
    (s.fyChained f && (s.ferry f).run.isNone) = false := by
  rcases runs with unchained | runs
  · rw [unchained, Bool.false_and]
  · rw [Option.isNone_eq_false_iff.mpr runs, Bool.and_false]

/-- What a ferry that fetches does with the descriptor at its position. -/
theorem Fetches.fetchDesc (h : Fetches s f d) :
    s.fetchDesc f =
      if Fld.DESC0_OWN.get (dw d 0) = 1 then s.beginDesc f d
      else if (s.ferry f).run.isSome then
        ((s.satF (Reg.FY_CNT f) Fld.FY_CNT_STARVE 1).modFerry f fun y =>
          { y with pollAt := s.clock.tt + if s.polls f then s.pollNs f else 1000 }).setFy f 5
      else s.fyIdle f := by
  have room : ¬ awaitMax ≤ (s.ferry f).awaiting.length := Nat.not_le.mpr h.room
  simp only [State.fetchDesc, h.state, State.fetches_for h.runs, h.words, room]
  rfl

theorem Fetches.begins (h : Fetches s f d) (own : Fld.DESC0_OWN.get (dw d 0) = 1) : s.fetchDesc f = s.beginDesc f d := by
  rw [h.fetchDesc, if_pos own]

/-- A run starves where the descriptor is not the device's. -/
theorem Fetches.starves (h : Fetches s f d) (own : Fld.DESC0_OWN.get (dw d 0) = 0) (runs : (s.ferry f).run.isSome = true) :
    (s.fetchDesc f).fyState f = 5 ∧
      (s.fetchDesc f).f (Reg.FY_CNT f) Fld.FY_CNT_STARVE = min (s.f (Reg.FY_CNT f) Fld.FY_CNT_STARVE + 1) 65535 := by
  have apart : Reg.FY_CNT f ≠ Reg.FY_STAT f := Part.addr_ne (p := .FY_STAT) (q := .FY_CNT) (i := f) (j := 0) (i' := f) (j' := 0) (by decide) rfl rfl
  rw [h.fetchDesc, if_neg (by rw [own]; decide), if_pos runs, State.f_of_reg _ (State.reg_setFy_ne _ apart), State.f_modFerry,
    State.f_satF_self _ _ _ (by decide)]
  exact ⟨State.fyState_setFy _ _ (by decide), rfl⟩

theorem Fetches.idles (h : Fetches s f d) (own : Fld.DESC0_OWN.get (dw d 0) = 0) (free : (s.ferry f).run = none) : s.fetchDesc f = s.fyIdle f := by
  rw [h.fetchDesc, if_neg (by rw [own]; decide), free]
  rfl

/-- R223: a ferry that runs frames only fetches none of its own. -/
theorem State.fetchDesc_chained (fetches : s.fyState f = 1) (chained : s.fyChained f = true) (free : (s.ferry f).run = none) :
    s.fetchDesc f = s.fyIdle f := by simp [State.fetchDesc, fetches, chained, free]

/-- R218: with 64 descriptors waiting for delivery it waits. -/
theorem State.fetchDesc_full (fetches : s.fyState f = 1) (full : 64 ≤ (s.ferry f).awaiting.length)
    (runs : s.fyChained f = false ∨ (s.ferry f).run.isSome = true) : s.fetchDesc f = s.setFy f 4 := by
  simp only [State.fetchDesc, fetches, State.fetches_for runs]
  exact if_pos full

/-! ### A line is read (R182, R209, R215) -/

/-- Ferry `f` has an open descriptor `d` of no frame in hand and moves its lines. -/
structure Moving (s : State) (f : Nat) (d : List Word) : Prop where
  known : f < s.fy.length
  desc : (s.ferry f).desc = d
  nonempty : d ≠ []
  goes : (s.ferry f).outcome = none
  state : s.fyState f = 3
  plain : descFrame d = false

/-- Bytes of a source line. -/
def lineBytes (d : List Word) : Nat := 64 * Fld.DESC2_LEN.get (dw d 2)

/-- Where the next source line of descriptor `d` lies. -/
def State.srcAddr (s : State) (f : Nat) (d : List Word) : Nat :=
  Fld.DESC_ADDR.get (dw d 1) + 64 * (s.ferry f).srcLine * Fld.DESC2_STRIDE.get (dw d 2)

/-- Where a line of the frame store goes that is written in one piece. -/
def State.dstAddr (s : State) (f : Nat) (d : List Word) : Nat :=
  Fld.DESC_ADDR.get (dw d 3) + 64 * (s.ferry f).srcLine * Fld.DESC2_STRIDE.get (dw d 4)

/-- The next source line has been read, its errors counted. -/
def State.lineRead (s : State) (f : Nat) (d : List Word) : State :=
  (s.modFerry f fun y => { y with readAt := s.clock.tt }).countEcc (s.srcAddr f d) (lineBytes d)

/-- Counting the errors of a read writes two registers of the frame store. -/
theorem State.countEcc_stays (s : State) (a n : Nat) : Within (Machine.maskOf [.FS_STATUS, .FS_CNT]) 0 0 s (s.countEcc a n) :=
  State.countEcc_within ⟨by decide, .inl (by decide)⟩ (Within.refl _ _ _ _)

theorem State.lineRead_stays (s : State) (f : Nat) (d : List Word) : Within (Machine.maskOf [.fy, .FS_STATUS, .FS_CNT]) 0 0 s (s.lineRead f d) :=
  State.countEcc_within ⟨by decide, .inl (by decide)⟩ (Within.modFerry (.inl (by decide)) (Within.refl _ _ _ _))

theorem State.lineRead_fy (s : State) (f : Nat) (d : List Word) :
    (s.lineRead f d).fy = (s.modFerry f fun y => { y with readAt := s.clock.tt }).fy := (State.countEcc_stays _ _ _).fy (by decide) (by decide)

theorem State.ferry_lineRead (known : f < s.fy.length) : (s.lineRead f d).ferry f = { s.ferry f with readAt := s.clock.tt } :=
  (State.ferry_congr (s.lineRead_fy f d) f).trans (State.ferry_modFerry_self _ known)

theorem State.lineRead_length (s : State) (f : Nat) (d : List Word) : (s.lineRead f d).fy.length = s.fy.length := by
  rw [State.lineRead_fy, State.modFerry_length]

theorem State.bytes_lineRead (s : State) (f : Nat) (d : List Word) (a n : Nat) : (s.lineRead f d).bytes a n = s.bytes a n :=
  State.bytes_congr fun x _ _ => State.byte_congr ((s.lineRead_stays f d).dram (by decide)) x

theorem Moving.moveLine (h : Moving s f d) (inside : s.srcAddr f d < storeEnd) :
    s.moveLine f = if s.damagedIn (s.srcAddr f d) (lineBytes d) then (s.lineRead f d).endDesc f 5
      else (s.lineRead f d).writeLine f (s.bytes (s.srcAddr f d) (lineBytes d)) := by
  rw [← s.bytes_lineRead f d]
  have moves : s.moveLine f = s.readLine f := by simp [State.moveLine, h.desc, h.nonempty, h.goes, h.state]
  unfold State.srcAddr at inside
  simp only [moves, State.readLine, State.srcBase, h.desc, h.plain, inside, if_true, Bool.false_eq_true, if_false]
  rfl

/-- R182: a word that cannot be read sets ECC_UE. -/
theorem State.countEcc_flag {a n : Nat} (damaged : s.damagedIn a n = true) :
    (s.countEcc a n).flag Reg.FS_STATUS Fld.FS_STATUS_ECC_UE = true := by
  obtain ⟨w, mem, hit⟩ := List.any_eq_true.mp damaged
  have hits : (s.fs.badWords.filter fun w => decide (w < a + n) && decide (a < w + 8)).length ≠ 0 :=
    List.length_pos_iff_exists_mem.mpr ⟨w, List.mem_filter.mpr ⟨mem, hit⟩⟩ |>.ne'
  simp only [State.countEcc, hits, if_false]
  exact State.flag_setB_self _ _ _ _ (by decide) rfl

/-- A descriptor that ends leaves everything but its ferry. -/
theorem State.endDesc_stays (s : State) (f code : Nat) : Within (Machine.maskOf [.fy, .FY_STAT]) 0 0 s (s.endDesc f code) :=
  State.endDesc_within ⟨by decide, .inl (by decide)⟩ (Within.refl _ _ _ _)

/-- The descriptor ends after its line was read, with nothing written. -/
theorem State.lineRead_ends (known : f < s.fy.length) :
    (((s.lineRead f d).endDesc f code).ferry f).outcome = some code ∧ ((s.lineRead f d).endDesc f code).fyState f = 3 ∧
      ((s.lineRead f d).endDesc f code).dram = s.dram ∧ ((s.lineRead f d).endDesc f code).eg = s.eg := by
  have ended := State.endDesc_stays (s.lineRead f d) f code
  have read := s.lineRead_stays f d
  obtain ⟨state, ferry⟩ := State.endDesc_ended (s := s.lineRead f d) (code := code) (by rwa [State.lineRead_length])
  rw [ferry]
  exact ⟨rfl, state, (ended.dram (by decide)).trans (read.dram (by decide)),
    (ended.eg (by decide) (by decide)).trans (read.eg (by decide) (by decide))⟩

/-- R215: a line with a word that cannot be read ends its descriptor. -/
theorem Moving.damaged (h : Moving s f d) (inside : s.srcAddr f d < storeEnd) (damaged : s.damagedIn (s.srcAddr f d) (lineBytes d) = true) :
    ((s.moveLine f).ferry f).outcome = some 5 ∧ (s.moveLine f).fyState f = 3 ∧ (s.moveLine f).dram = s.dram ∧
      (s.moveLine f).flag Reg.FS_STATUS Fld.FS_STATUS_ECC_UE = true := by
  rw [h.moveLine inside, if_pos damaged]
  obtain ⟨outcome, state, dram, -⟩ := State.lineRead_ends (d := d) (code := 5) h.known
  exact ⟨outcome, state, dram, (State.flag_of_reg _ ((State.endDesc_stays _ _ _).keepReg .FS_STATUS 0 0 rfl (by decide))).trans
    (State.countEcc_flag (s := s.modFerry f _) damaged)⟩

/-! ### A line is written (R209, R211) -/

/-- R215: a line to a bundle that is not active ends its descriptor. -/
theorem Moving.inactive {b : Nat} (h : Moving s f d) (inside : s.srcAddr f d < storeEnd)
    (readable : s.damagedIn (s.srcAddr f d) (lineBytes d) = false) (dest : destRegion (Fld.DESC_ADDR.get (dw d 3)) (destSpan d) = some (.landing b))
    (inactive : s.bunActive b = false) :
    ((s.moveLine f).ferry f).outcome = some 5 ∧ (s.moveLine f).fyState f = 3 ∧ (s.moveLine f).dram = s.dram ∧ (s.moveLine f).eg = s.eg := by
  have desc : ((s.lineRead f d).ferry f).desc = d := by rw [State.ferry_lineRead h.known]; exact h.desc
  have still : (s.lineRead f d).bunActive b = false := by
    rw [State.bunActive, State.bunState, (s.lineRead_stays f d).keepF .EG_BSTAT b 0 _ rfl (by decide)]
    exact inactive
  have ends (bs : List Byte) : (s.lineRead f d).writeLine f bs = (s.lineRead f d).endDesc f 5 := by
    simp only [State.writeLine, desc, dest, still]
    rfl
  rw [h.moveLine inside, if_neg (Bool.eq_false_iff.mp readable), ends]
  exact State.lineRead_ends h.known

/-- A whole line of the stream lies in one line of a destination with lines as long (R209). -/
theorem State.scatter_line {base stride n j : Nat} {bs : List Byte} (positive : 0 < n) (length : bs.length = n) :
    s.scatter base n stride (j * n) bs = s.setBytes (base + 64 * j * stride) bs := by
  have one : ceilDiv (n + j * n % n) n = 1 := by
    rw [Nat.mul_mod_left, ceilDiv, show n + 0 + n - 1 = (n - 1) + n by omega, Nat.add_div_right _ positive, Nat.div_eq_of_lt (by omega)]
  have stop : (j + 1) * n = j * n + n := Nat.succ_mul j n
  simp only [State.scatter, length, one, List.range_one, List.foldl_cons, List.foldl_nil, Nat.mul_div_cancel _ positive, Nat.add_zero, stop,
    Nat.max_self, Nat.min_self, Nat.sub_self, List.drop_zero, Nat.add_sub_cancel_left]
  rw [← length, List.take_length]

/-- Ferry `f` has written a line. -/
def State.lineCounted (s : State) (f : Nat) : State := s.modFerry f fun y => { y with srcLine := y.srcLine + 1, buf := [] }

theorem State.ferry_lineCounted (known : f < s.fy.length) :
    (s.lineCounted f).ferry f = { s.ferry f with srcLine := (s.ferry f).srcLine + 1, buf := [] } := State.ferry_modFerry_self _ known

/-- After the last line the descriptor has ended well; before it, the next line moves or waits. -/
theorem State.lineWritten_eq (known : f < s.fy.length) (desc : (s.ferry f).desc = d) : ∃ n,
    s.lineWritten f =
      let t := (s.lineCounted f).setF (Reg.FY_STAT f) Fld.FY_STAT_LINES n
      if Fld.DESC2_COUNT.get (dw d 2) ≤ (s.ferry f).srcLine + 1 then (t.setOutcome f 0).setFy f 3
      else if Fld.DESC5_PACE_UNIT.get (dw d 5) = 1 ∧ Fld.DESC5_PACE_KIND.get (dw d 5) ≠ 0 then t.openWait f else t.setFy f 3 := by
  have counted := State.ferry_lineCounted known
  rw [← desc]
  unfold State.lineCounted at counted ⊢
  simp only [State.lineWritten, counted]
  exact ⟨_, rfl⟩

theorem State.lineWritten_counts (known : f < s.fy.length) (desc : (s.ferry f).desc = d) :
    ((s.lineWritten f).ferry f).srcLine = (s.ferry f).srcLine + 1 ∧
      (Fld.DESC2_COUNT.get (dw d 2) ≤ (s.ferry f).srcLine + 1 →
        ((s.lineWritten f).ferry f).outcome = some 0 ∧ (s.lineWritten f).fyState f = 3) := by
  obtain ⟨n, written⟩ := State.lineWritten_eq known desc
  have length : f < ((s.lineCounted f).setF (Reg.FY_STAT f) Fld.FY_STAT_LINES n).fy.length := by
    simpa [State.lineCounted] using known
  have counted : ((s.lineCounted f).setF (Reg.FY_STAT f) Fld.FY_STAT_LINES n).ferry f = _ := State.ferry_lineCounted known
  rw [written]
  generalize (s.lineCounted f).setF (Reg.FY_STAT f) Fld.FY_STAT_LINES n = t at length counted
  refine ⟨?_, fun last => ?_⟩
  · dsimp only
    split
    case isTrue => rw [State.ferry_setFy, State.setOutcome, State.ferry_modFerry_self _ length, counted]
    case isFalse =>
      split
      case isTrue =>
        obtain ⟨_, wait⟩ := State.ferry_openWait length
        rw [wait, counted]
      case isFalse => rw [State.ferry_setFy, counted]
  · rw [if_pos last, State.ferry_setFy, State.setOutcome, State.ferry_modFerry_self _ length]
    exact ⟨rfl, State.fyState_setFy _ _ (by decide)⟩

theorem State.lineWritten_dram (s : State) (f : Nat) : (s.lineWritten f).dram = s.dram :=
  (State.lineWritten_within (Ma := Machine.maskOf [.fy, .FY_STAT]) (Na := 0) (ba := 0) ⟨by decide, .inl (by decide)⟩ (Within.refl _ _ _ s)).dram
    (by decide)

/-- A line for the frame store as long as those of its destination is written in one piece. -/
theorem State.writeLine_store {bs : List Byte} (desc : (s.ferry f).desc = d) (positive : 0 < lineBytes d) (length : bs.length = lineBytes d)
    (alike : Fld.DESC2_LEN.get (dw d 4) = Fld.DESC2_LEN.get (dw d 2))
    (dest : destRegion (Fld.DESC_ADDR.get (dw d 3)) (destSpan d) = some .store) :
    s.writeLine f bs = (s.setBytes (s.dstAddr f d) bs).lineWritten f := by
  rw [State.dstAddr, ← State.scatter_line positive length]
  simp only [State.writeLine, desc, dest, alike]
  rfl

theorem State.writeLine_stored {bs : List Byte} (known : f < s.fy.length) (desc : (s.ferry f).desc = d) (positive : 0 < lineBytes d)
    (length : bs.length = lineBytes d) (alike : Fld.DESC2_LEN.get (dw d 4) = Fld.DESC2_LEN.get (dw d 2))
    (dest : destRegion (Fld.DESC_ADDR.get (dw d 3)) (destSpan d) = some .store) :
    (s.writeLine f bs).bytes (s.dstAddr f d) (lineBytes d) = bs ∧ ((s.writeLine f bs).ferry f).srcLine = (s.ferry f).srcLine + 1 ∧
      (∀ a, a < s.dstAddr f d ∨ s.dstAddr f d + lineBytes d ≤ a → (s.writeLine f bs).byte a = s.byte a) ∧
      (Fld.DESC2_COUNT.get (dw d 2) ≤ (s.ferry f).srcLine + 1 →
        ((s.writeLine f bs).ferry f).outcome = some 0 ∧ (s.writeLine f bs).fyState f = 3) := by
  rw [State.writeLine_store desc positive length alike dest, ← length]
  obtain ⟨counts, ends⟩ := State.lineWritten_counts (s := s.setBytes (s.dstAddr f d) bs) known desc
  have stored := State.byte_congr (State.lineWritten_dram (s.setBytes (s.dstAddr f d) bs) f)
  exact ⟨(State.bytes_congr fun x _ _ => stored x).trans (State.bytes_setBytes_self _ _), counts,
    fun a out => (stored a).trans (State.byte_setBytes_out out), ends⟩

/-- R209: a line moves from the frame store to the frame store, and counts. -/
theorem Moving.stored (h : Moving s f d) (positive : 0 < lineBytes d) (alike : Fld.DESC2_LEN.get (dw d 4) = Fld.DESC2_LEN.get (dw d 2))
    (inside : s.srcAddr f d < storeEnd) (readable : s.damagedIn (s.srcAddr f d) (lineBytes d) = false)
    (dest : destRegion (Fld.DESC_ADDR.get (dw d 3)) (destSpan d) = some .store) :
    (s.moveLine f).bytes (s.dstAddr f d) (lineBytes d) = s.bytes (s.srcAddr f d) (lineBytes d) ∧
      ((s.moveLine f).ferry f).srcLine = (s.ferry f).srcLine + 1 ∧
      (∀ a, a < s.dstAddr f d ∨ s.dstAddr f d + lineBytes d ≤ a → (s.moveLine f).byte a = s.byte a) ∧
      (Fld.DESC2_COUNT.get (dw d 2) ≤ (s.ferry f).srcLine + 1 → ((s.moveLine f).ferry f).outcome = some 0 ∧ (s.moveLine f).fyState f = 3) := by
  have ferry := State.ferry_lineRead (d := d) h.known
  have line : ((s.lineRead f d).ferry f).srcLine = (s.ferry f).srcLine := by rw [ferry]
  have dst : (s.lineRead f d).dstAddr f d = s.dstAddr f d := by rw [State.dstAddr, line, State.dstAddr]
  obtain ⟨bytes, counts, out, ends⟩ := State.writeLine_stored (s := s.lineRead f d) (bs := s.bytes (s.srcAddr f d) (lineBytes d))
    (by rw [State.lineRead_length]; exact h.known) (by rw [ferry]; exact h.desc) positive (by simp [State.bytes]) alike dest
  rw [dst] at bytes out
  rw [line] at counts ends
  rw [h.moveLine inside, if_neg (Bool.eq_false_iff.mp readable)]
  exact ⟨bytes, counts, fun a outside => (out a outside).trans (State.byte_congr ((s.lineRead_stays f d).dram (by decide)) a), ends⟩

end Sys2Proof.Machine

/-! ## Ferries: write-backs and delivery reports -/

namespace Sys2Proof.Machine

variable {s t u : State} {f pos status : Nat} {d : List Word}

/-! ### The words of the descriptor (R216) -/

theorem descWord_ne (pos : Nat) {i j : Nat} (hi : i < 8) (hj : j < 8) (other : i ≠ j) : Reg.FY_DESC pos i ≠ Reg.FY_DESC pos j := by
  simp only [Reg.FY_DESC]
  omega

/-- The write-back clears OWN and writes the lines and the status with the stamp. -/
theorem State.writeBackWords_shows (s : State) (pos status : Nat) (desc : (s.ferry f).desc = d) (plain : descFrame d = false) :
    (s.writeBackWords f pos status).reg (Reg.FY_DESC pos 0) = Fld.DESC0_OWN.set (dw d 0) 0 ∧
      (s.writeBackWords f pos status).reg (Reg.FY_DESC pos 7) =
        BitVec.ofNat 64 (s.f (Reg.FY_STAT f) Fld.FY_STAT_LINES + status * 2 ^ 24 + s.stamp.toNat % 2 ^ 32 * 2 ^ 32) := by
  simp only [State.writeBackWords, desc, plain]
  exact ⟨State.reg_setReg_self _ _ _,
    (State.reg_setReg_ne _ _ (descWord_ne pos (by decide) (by decide) (by decide))).trans (State.reg_setReg_self _ _ _)⟩

theorem State.writeBackWords_stays (s : State) (f pos status : Nat) :
    Within (Machine.maskOf [.FY_DESC]) 0 0 s (s.writeBackWords f pos status) :=
  State.writeBackWords_within ⟨by decide, .inl (by decide)⟩ (Within.refl _ _ _ _)

/-! ### What the ferry's registers note of a write-back (R216, R218) -/

/-- The write-back is listed as the ferry's last. -/
def State.listLast (s : State) (f pos status : Nat) : State :=
  s.setReg (Reg.FY_LAST f) (BitVec.ofNat 64 (pos + status * 2 ^ 14 + s.f (Reg.FY_STAT f) Fld.FY_STAT_LINES * 2 ^ 18 + 2 ^ 42))

/-- The write-back is listed with its time, and counted. -/
def State.listWriteBack (s : State) (f pos status : Nat) : State :=
  ((s.listLast f pos status).setReg (Reg.FY_TIME f) (s.listLast f pos status).stamp).addF (Reg.FY_CNT f) Fld.FY_CNT_DESC 1

/-- DONE is marked for a descriptor that asks for it. -/
def State.markDone (s : State) (f : Nat) (d : List Word) : State :=
  if Fld.DESC0_NOTIFY.get (dw d 0) = 1 then s.setBit Reg.FY_DONE Fld.FY_DONE_DONE f else s

/-- ERR is marked for a status that is an error. -/
def State.markErr (s : State) (f status : Nat) : State :=
  if 2 ≤ status then (s.setBit Reg.FY_ERR Fld.FY_ERR_ERR f).satF (Reg.FY_CNT f) Fld.FY_CNT_ERR 1 else s

/-- A ferry whose descriptor from `pos` waits for its delivery, where it asks for a report and has moved lines. -/
def Ferry.await (y : Ferry) (pos lines : Nat) : Ferry :=
  { y with awaiting := if descDelivers y.desc && lines != 0 then y.awaiting ++ [⟨pos, y.id, decide (y.lost = y.id)⟩] else y.awaiting }

/-- The registers of ferry `f` alone have noted the write-back. -/
def State.markWriteBack (s : State) (f pos status : Nat) : State :=
  ((s.listWriteBack f pos status).markDone f (s.ferry f).desc).markErr f status

/-- The ferry waits for the delivery. -/
def State.awaitDelivery (s : State) (f pos lines : Nat) : State := s.modFerry f fun y => y.await pos lines

theorem State.noteWriteBack_eq (s : State) (f pos status : Nat) :
    s.noteWriteBack f pos status =
      let t := (s.markWriteBack f pos status).awaitDelivery f pos (s.f (Reg.FY_STAT f) Fld.FY_STAT_LINES)
      (t.paceEvent 3 f t.tick).showAwaiting f := rfl

theorem State.markDone_stays (s : State) (f : Nat) (d : List Word) : Within (Machine.maskOf [.FY_DONE]) 0 0 s (s.markDone f d) :=
  Within.ite (Within.setBit .FY_DONE 0 0 rfl (.inl (by decide)) (Within.refl _ _ _ _)) (Within.refl _ _ _ _)

theorem State.markErr_stays (s : State) (f status : Nat) : Within (Machine.maskOf [.FY_ERR, .FY_CNT]) 0 0 s (s.markErr f status) :=
  Within.ite (Within.satF .FY_CNT f 0 rfl (.inl (by decide)) (Within.setBit .FY_ERR 0 0 rfl (.inl (by decide)) (Within.refl _ _ _ _)))
    (Within.refl _ _ _ _)

/-- The wait for the delivery and the pacing event of the write-back change no other register. -/
theorem State.noteWriteBack_stays (s : State) (f pos status : Nat) :
    Within (Machine.maskOf [.tt, .fy, .FY_DLV]) 0 0 (s.markWriteBack f pos status) (s.noteWriteBack f pos status) := by
  rw [State.noteWriteBack_eq]
  refine State.showAwaiting_within ⟨by decide, .inl (by decide)⟩ (State.paceEvent_within ⟨by decide, .inl (by decide)⟩ ?_)
  exact Within.modFerry (.inl (by decide)) (Within.refl _ _ _ _)

theorem State.markDone_bit (known : f < 32) (notify : Fld.DESC0_NOTIFY.get (dw d 0) = 1) :
    hasBit ((s.markDone f d).f Reg.FY_DONE Fld.FY_DONE_DONE) f = true := by
  rw [State.markDone, if_pos notify]
  exact hasBit_setBit_self (by decide) known

theorem ferryCount_ne_err (f : Nat) : Reg.FY_ERR ≠ Reg.FY_CNT f :=
  Part.addr_ne (p := .FY_CNT) (q := .FY_ERR) (i := f) (j := 0) (i' := 0) (j' := 0) (by decide) rfl rfl

theorem State.markErr_bit (known : f < 32) (fails : 2 ≤ status) : hasBit ((s.markErr f status).f Reg.FY_ERR Fld.FY_ERR_ERR) f = true := by
  rw [State.markErr, if_pos fails, State.f_of_reg _ (State.reg_satF_ne _ _ (ferryCount_ne_err f))]
  exact hasBit_setBit_self (by decide) known

/-- An error is counted beside the descriptors. -/
theorem State.markErr_count (s : State) (f status : Nat) :
    (s.markErr f status).f (Reg.FY_CNT f) Fld.FY_CNT_DESC = s.f (Reg.FY_CNT f) Fld.FY_CNT_DESC := by
  rw [State.markErr]
  split
  case isTrue =>
    exact (State.f_setF_disjoint _ _ _ _ _ (by decide)).trans (State.f_of_reg _ (State.reg_setBit_ne _ _ (ferryCount_ne_err f).symm))
  case isFalse => rfl

theorem State.listLast_stamp (s : State) (f pos status : Nat) : (s.listLast f pos status).stamp = s.stamp :=
  State.stamp_congr (s.setReg_clock _ _)

theorem State.listWriteBack_shows (s : State) (f pos status : Nat) : (s.listWriteBack f pos status).reg (Reg.FY_TIME f) = s.stamp ∧
    (s.listWriteBack f pos status).f (Reg.FY_CNT f) Fld.FY_CNT_DESC = (s.f (Reg.FY_CNT f) Fld.FY_CNT_DESC + 1) % 2 ^ 32 := by
  have apart : Reg.FY_TIME f ≠ Reg.FY_CNT f :=
    Part.addr_ne (p := .FY_CNT) (q := .FY_TIME) (i := f) (j := 0) (i' := f) (j' := 0) (by decide) rfl rfl
  have other : Reg.FY_CNT f ≠ Reg.FY_LAST f :=
    Part.addr_ne (p := .FY_LAST) (q := .FY_CNT) (i := f) (j := 0) (i' := f) (j' := 0) (by decide) rfl rfl
  constructor
  · rw [State.listWriteBack, State.reg_addF_ne _ _ apart, State.reg_setReg_self, State.listLast_stamp]
  · rw [State.listWriteBack, State.f_addF_self _ _ _ (by decide), State.f_of_reg _ (State.reg_setReg_ne _ _ apart.symm), State.listLast,
      State.f_of_reg _ (State.reg_setReg_ne _ _ other)]
    rfl

/-- The ferry's registers show the time and the count, and DONE and ERR where they are due. -/
theorem State.markWriteBack_shows (known : f < 32) (desc : (s.ferry f).desc = d) : (s.markWriteBack f pos status).reg (Reg.FY_TIME f) = s.stamp ∧
    (s.markWriteBack f pos status).f (Reg.FY_CNT f) Fld.FY_CNT_DESC = (s.f (Reg.FY_CNT f) Fld.FY_CNT_DESC + 1) % 2 ^ 32 ∧
    (Fld.DESC0_NOTIFY.get (dw d 0) = 1 → hasBit ((s.markWriteBack f pos status).f Reg.FY_DONE Fld.FY_DONE_DONE) f = true) ∧
    (2 ≤ status → hasBit ((s.markWriteBack f pos status).f Reg.FY_ERR Fld.FY_ERR_ERR) f = true) := by
  obtain ⟨time, count⟩ := s.listWriteBack_shows f pos status
  have done := (s.listWriteBack f pos status).markDone_stays f d
  have err := ((s.listWriteBack f pos status).markDone f d).markErr_stays f status
  rw [State.markWriteBack, desc]
  refine ⟨?_, ?_, fun notify => ?_, State.markErr_bit known⟩
  · rw [err.keepReg .FY_TIME f 0 rfl (by decide), done.keepReg .FY_TIME f 0 rfl (by decide), time]
  · rw [State.markErr_count, done.keepF .FY_CNT f 0 _ rfl (by decide), count]
  · rw [err.keepF .FY_DONE 0 0 _ rfl (by decide)]
    exact State.markDone_bit known notify

theorem State.markWriteBack_stays (s : State) (f pos status : Nat) :
    Within (Machine.maskOf [.FY_LAST, .FY_TIME, .FY_CNT, .FY_DONE, .FY_ERR]) 0 0 s (s.markWriteBack f pos status) := by
  have counted : Within (Machine.maskOf [.FY_LAST, .FY_TIME, .FY_CNT, .FY_DONE, .FY_ERR]) 0 0 s (s.listWriteBack f pos status) :=
    Within.addF .FY_CNT f 0 rfl (.inl (by decide))
      (Within.reg .FY_TIME f 0 rfl (.inl (by decide)) (Within.reg .FY_LAST f 0 rfl (.inl (by decide)) (Within.refl _ _ _ _)))
  rw [State.markWriteBack]
  generalize s.listWriteBack f pos status = t at counted ⊢
  have done : Within _ 0 0 s (t.markDone f (s.ferry f).desc) := Within.ite (Within.setBit .FY_DONE 0 0 rfl (.inl (by decide)) counted) counted
  exact Within.ite (Within.satF .FY_CNT f 0 rfl (.inl (by decide)) (Within.setBit .FY_ERR 0 0 rfl (.inl (by decide)) done)) done

/-! ### The ferry itself -/

theorem State.ferry_paceEvent (s : State) (kind sel x f : Nat) : (s.paceEvent kind sel x).ferry f = (s.ferry f).see kind sel x := by
  simp only [State.ferry, State.paceEvent, List.getD_eq_getElem?_getD, List.getElem?_map]
  cases s.fy[f]? <;> rfl

theorem Ferry.see_stopping (y : Ferry) (kind sel x : Nat) : (y.see kind sel x).stopping = y.stopping := by
  rw [Ferry.see]
  split
  · rfl
  · dsimp only
    split <;> rfl

/-- Noting a write-back leaves as many ferries, and whether the ferry is to stop. -/
theorem State.noteWriteBack_ferry (s : State) (pos status : Nat) (known : f < s.fy.length) :
    (s.noteWriteBack f pos status).fy.length = s.fy.length ∧ ((s.noteWriteBack f pos status).ferry f).stopping = (s.ferry f).stopping := by
  have fy := (s.markWriteBack_stays f pos status).fy (by decide) (by decide)
  rw [State.noteWriteBack_eq]
  constructor
  · exact (List.length_map _).trans ((State.modFerry_length _ _ _).trans (congrArg List.length fy))
  · rw [State.showAwaiting, State.ferry_setF, State.ferry_paceEvent, Ferry.see_stopping, State.awaitDelivery,
      State.ferry_modFerry_self _ (by rwa [fy]), State.ferry_congr fy]
    rfl

/-! ### The registers after a write-back -/

/-- What the registers other than FY_STAT show of the write-back of ferry `f`'s descriptor `d` to index `pos`. -/
structure WroteBack (s : State) (f pos : Nat) (d : List Word) (status : Nat) (t : State) : Prop where
  own : t.reg (Reg.FY_DESC pos 0) = Fld.DESC0_OWN.set (dw d 0) 0
  result : t.reg (Reg.FY_DESC pos 7) =
    BitVec.ofNat 64 (s.f (Reg.FY_STAT f) Fld.FY_STAT_LINES + status * 2 ^ 24 + s.stamp.toNat % 2 ^ 32 * 2 ^ 32)
  time : t.reg (Reg.FY_TIME f) = s.stamp
  count : t.f (Reg.FY_CNT f) Fld.FY_CNT_DESC = (s.f (Reg.FY_CNT f) Fld.FY_CNT_DESC + 1) % 2 ^ 32
  done : Fld.DESC0_NOTIFY.get (dw d 0) = 1 → hasBit (t.f Reg.FY_DONE Fld.FY_DONE_DONE) f = true
  err : 2 ≤ status → hasBit (t.f Reg.FY_ERR Fld.FY_ERR_ERR) f = true

/-- Later changes of FY_STAT leave them. -/
theorem WroteBack.congr (h : WroteBack s f pos d status t) (kept : ∀ a, a ≠ Reg.FY_STAT f → u.reg a = t.reg a) :
    WroteBack s f pos d status u := by
  have ne {p : Part} {i j a : Nat} (other : p ≠ .FY_STAT) (at' : p.addr i j = some a) : u.reg a = t.reg a :=
    kept a (Part.addr_ne (p := .FY_STAT) (q := p) (i := f) (j := 0) other rfl at')
  obtain ⟨own, result, time, count, done, err⟩ := h
  refine ⟨(ne (p := .FY_DESC) (j := 0) (by decide) rfl).trans own, (ne (p := .FY_DESC) (j := 7) (by decide) rfl).trans result,
    (ne (p := .FY_TIME) (j := 0) (by decide) rfl).trans time,
    (State.f_of_reg _ (ne (p := .FY_CNT) (j := 0) (by decide) rfl)).trans count, fun notify => ?_, fun fails => ?_⟩
  · rw [State.f_of_reg _ (ne (p := .FY_DONE) (i := 0) (j := 0) (by decide) rfl)]
    exact done notify
  · rw [State.f_of_reg _ (ne (p := .FY_ERR) (i := 0) (j := 0) (by decide) rfl)]
    exact err fails

/-- The write-back into the descriptor at `pos`, noted in the ferry's own registers. -/
def State.wroteBack (s : State) (f pos status : Nat) : State :=
  (s.writeBackWords f pos status).noteWriteBack f pos status

theorem State.wroteBack_shows (known : f < 32) (desc : (s.ferry f).desc = d) (plain : descFrame d = false) :
    WroteBack s f pos d status (s.wroteBack f pos status) := by
  have words := s.writeBackWords_stays f pos status
  have marks := (s.writeBackWords f pos status).markWriteBack_stays f pos status
  have waits := (s.writeBackWords f pos status).noteWriteBack_stays f pos status
  obtain ⟨own, result⟩ := s.writeBackWords_shows pos status desc plain
  obtain ⟨time, count, done, err⟩ := State.markWriteBack_shows (s := s.writeBackWords f pos status) (pos := pos) (status := status) known
    ((congrArg Ferry.desc (State.ferry_congr (words.fy (by decide) (by decide)) f)).trans desc)
  rw [State.wroteBack]
  refine ⟨?_, ?_, ?_, ?_, fun notify => ?_, fun fails => ?_⟩
  · exact (waits.keepReg .FY_DESC pos 0 rfl (by decide)).trans ((marks.keepReg .FY_DESC pos 0 rfl (by decide)).trans own)
  · exact (waits.keepReg .FY_DESC pos 7 rfl (by decide)).trans ((marks.keepReg .FY_DESC pos 7 rfl (by decide)).trans result)
  · exact (waits.keepReg .FY_TIME f 0 rfl (by decide)).trans (time.trans (State.stamp_congr (words.clock (by decide))))
  · exact (waits.keepF .FY_CNT f 0 _ rfl (by decide)).trans (count.trans (by rw [words.keepF .FY_CNT f 0 _ rfl (by decide)]))
  · exact (congrArg (hasBit · f) (waits.keepF .FY_DONE 0 0 _ rfl (by decide))).trans (done notify)
  · exact (congrArg (hasBit · f) (waits.keepF .FY_ERR 0 0 _ rfl (by decide))).trans (err fails)

/-- Writing back leaves FY_CTL and FY_STAT, as many ferries, and whether the ferry is to stop. -/
theorem State.wroteBack_keeps (known : f < s.fy.length) :
    (s.wroteBack f pos status).reg (Reg.FY_CTL f) = s.reg (Reg.FY_CTL f) ∧
      (s.wroteBack f pos status).reg (Reg.FY_STAT f) = s.reg (Reg.FY_STAT f) ∧ f < (s.wroteBack f pos status).fy.length ∧
      ((s.wroteBack f pos status).ferry f).stopping = (s.ferry f).stopping := by
  have words := s.writeBackWords_stays f pos status
  have marks := (s.writeBackWords f pos status).markWriteBack_stays f pos status
  have waits := (s.writeBackWords f pos status).noteWriteBack_stays f pos status
  have fy := words.fy (by decide) (by decide)
  obtain ⟨length, stopping⟩ := (s.writeBackWords f pos status).noteWriteBack_ferry pos status (fy ▸ known)
  refine ⟨?_, ?_, ?_, stopping.trans (congrArg Ferry.stopping (State.ferry_congr fy f))⟩
  · exact (waits.keepReg .FY_CTL f 0 rfl (by decide)).trans
      ((marks.keepReg .FY_CTL f 0 rfl (by decide)).trans (words.keepReg .FY_CTL f 0 rfl (by decide)))
  · exact (waits.keepReg .FY_STAT f 0 rfl (by decide)).trans
      ((marks.keepReg .FY_STAT f 0 rfl (by decide)).trans (words.keepReg .FY_STAT f 0 rfl (by decide)))
  · rw [State.wroteBack, length, fy]
    exact known

/-! ### What follows a write-back (R216, R220) -/

/-- A ferry without a descriptor, whose new settings take effect; one that was to stop, stops. -/
def Ferry.close (y : Ferry) (ctl : Word) (stops : Bool) : Ferry :=
  { y with desc := [], outcome := none, buf := [], waitFrom := none, cfg := ctl, stopping := y.stopping && !stops }

/-- The ferry stands at NEXT of the descriptor that it has written back. -/
def State.atNext (s : State) (f status : Nat) : State :=
  (s.wroteBack f (s.f (Reg.FY_STAT f) Fld.FY_STAT_POS) status).setF (Reg.FY_STAT f) Fld.FY_STAT_POS (Fld.DESC5_NEXT.get (dw (s.ferry f).desc 5))

/-- The descriptor is written back, and the ferry has none. -/
def State.descClosed (s : State) (f status : Nat) : State :=
  (s.atNext f status).modFerry f fun y => y.close ((s.atNext f status).reg (Reg.FY_CTL f)) (s.ferry f).stopping

theorem State.reg_descClosed (s : State) (f status a : Nat) : (s.descClosed f status).reg a = (s.atNext f status).reg a :=
  State.reg_modFerry _ _ _ _

theorem State.reg_descClosed_ne {a : Nat} (other : a ≠ Reg.FY_STAT f) :
    (s.descClosed f status).reg a = (s.wroteBack f (s.f (Reg.FY_STAT f) Fld.FY_STAT_POS) status).reg a :=
  (s.reg_descClosed f status a).trans (State.reg_setF_ne _ _ other)

theorem State.pos_descClosed (desc : (s.ferry f).desc = d) :
    (s.descClosed f status).f (Reg.FY_STAT f) Fld.FY_STAT_POS = Fld.DESC5_NEXT.get (dw d 5) := by
  rw [State.f_of_reg _ (s.reg_descClosed f status _), State.atNext, State.f_setF_self _ _ _ _ (by decide), desc]
  exact Nat.mod_eq_of_lt (Field.get_lt Fld.DESC5_NEXT _)

/-- Writing back changes no flag of FY_STAT. -/
theorem State.flag_descClosed (known : f < s.fy.length) (x : Field) (apart : 17 ≤ x.lo) :
    (s.descClosed f status).flag (Reg.FY_STAT f) x = s.flag (Reg.FY_STAT f) x := by
  obtain ⟨-, stat, -⟩ := State.wroteBack_keeps (pos := s.f (Reg.FY_STAT f) Fld.FY_STAT_POS) (status := status) known
  rw [State.flag_of_reg _ (s.reg_descClosed f status _), State.atNext, State.flag_setF_disjoint _ Fld.FY_STAT_POS x _ (.inr apart),
    State.flag_of_reg x stat]

theorem State.kickWaits_descClosed (known : f < s.fy.length) : (s.descClosed f status).kickWaits f = s.kickWaits f := by
  rw [State.kickWaits, State.fyChained, State.flag_descClosed known _ (by decide), State.flag_descClosed known _ (by decide), State.kickWaits,
    State.fyChained]

theorem State.descClosed_length (known : f < s.fy.length) : f < (s.descClosed f status).fy.length := by
  obtain ⟨-, -, room, -⟩ := State.wroteBack_keeps (pos := s.f (Reg.FY_STAT f) Fld.FY_STAT_POS) (status := status) known
  rwa [State.descClosed, State.modFerry_length, State.atNext, State.setF_fy]

/-- The ferry's settings take effect, and it is no longer to stop. -/
theorem State.ferry_descClosed (known : f < s.fy.length) : ((s.descClosed f status).ferry f).outcome = none ∧
    ((s.descClosed f status).ferry f).cfg = s.reg (Reg.FY_CTL f) ∧ ((s.descClosed f status).ferry f).stopping = false := by
  obtain ⟨ctl, -, room, stopping⟩ := State.wroteBack_keeps (pos := s.f (Reg.FY_STAT f) Fld.FY_STAT_POS) (status := status) known
  rw [State.descClosed, State.ferry_modFerry_self _ (by rwa [State.atNext, State.setF_fy]), State.atNext,
    State.reg_setF_ne _ _ (ferryControl_ne_status f), ctl, State.ferry_setF, Ferry.close, stopping]
  exact ⟨rfl, rfl, Bool.and_not_self _⟩

/-- Ferry `f` comes to state `n` without a descriptor, and beside FY_STAT no register changes. -/
structure Rests (f n : Nat) (s t : State) : Prop where
  state : t.fyState f = n
  regs : ∀ a, a ≠ Reg.FY_STAT f → t.reg a = s.reg a
  pos : t.f (Reg.FY_STAT f) Fld.FY_STAT_POS = s.f (Reg.FY_STAT f) Fld.FY_STAT_POS
  outcome : (t.ferry f).outcome = none
  cfg : (t.ferry f).cfg = (s.ferry f).cfg
  stopping : (t.ferry f).stopping = (s.ferry f).stopping

theorem State.setFy_rests {n : Nat} (code : n < 8) (done : (s.ferry f).outcome = none) : Rests f n s (s.setFy f n) :=
  ⟨State.fyState_setFy _ _ code, fun _ other => State.reg_setFy_ne _ other, State.f_setFy _ _ _ _ (by decide), done, rfl, rfl⟩

theorem State.fyIdle_rests (known : f < s.fy.length) (quiet : s.kickWaits f = false) : Rests f 0 s (s.fyIdle f) := by
  have rested : (s.rested f).ferry f = _ := State.ferry_modFerry_self _ known
  obtain ⟨state, regs, pos, outcome, cfg, stopping⟩ := State.setFy_rests (s := s.rested f) (f := f) (n := 0) (by decide) (by rw [rested]; rfl)
  rw [rested] at cfg stopping
  exact State.fyIdle_stays quiet ▸ ⟨state, regs, pos, outcome, cfg, stopping⟩

/-- The state of a ferry after the write-back of a descriptor of its own (R216, R220). -/
def State.stateAfter (s : State) (f : Nat) (d : List Word) (status : Nat) : Nat :=
  if (s.ferry f).stopping = true then (if s.flag (Reg.FY_CTL f) Fld.FY_CTL_EN = true then 0 else 7)
  else if 2 ≤ status ∧ s.flag (Reg.FY_CTL f) Fld.FY_CTL_HALT_ON_ERR = true then 6
  else if Fld.DESC0_LAST.get (dw d 0) = 1 then 0 else 1

/-- The end of a descriptor that is no run's (R216, R220): the ferry stops, halts, becomes idle or fetches at NEXT. -/
theorem State.writeBack_eq (free : (s.ferry f).run = none) (ended : (s.ferry f).outcome = some status) (going : (s.ferry f).aborting = false) :
    s.writeBack f =
      if (s.ferry f).stopping then
        if Fld.FY_CTL_EN.get ((s.atNext f status).reg (Reg.FY_CTL f)) = 1 then (s.descClosed f status).fyIdle f else (s.descClosed f status).setFy f 7
      else if decide (2 ≤ status) && Fld.FY_CTL_HALT_ON_ERR.get ((s.atNext f status).reg (Reg.FY_CTL f)) == 1 then
        (s.descClosed f status).setFy f 6
      else if Fld.DESC0_LAST.get (dw (s.ferry f).desc 0) == 1 || (s.descClosed f status).fyChained f then (s.descClosed f status).fyIdle f
      else (s.descClosed f status).setFy f 1 := by
  simp only [State.writeBack, ended, free, going, Option.isSome_none, Option.isNone_none, Bool.and_false, Bool.false_and, Bool.not_false,
    Bool.true_or, Bool.and_true, Bool.false_eq_true, if_false]
  rfl

theorem State.writeBack_rests (known : f < s.fy.length) (free : (s.ferry f).run = none) (desc : (s.ferry f).desc = d)
    (ended : (s.ferry f).outcome = some status) (going : (s.ferry f).aborting = false) (unchained : s.fyChained f = false)
    (unheld : s.flag (Reg.FY_STAT f) Fld.FY_STAT_KICK_HELD = false) :
    Rests f (s.stateAfter f d status) (s.descClosed f status) (s.writeBack f) := by
  obtain ⟨ctl, -⟩ := State.wroteBack_keeps (pos := s.f (Reg.FY_STAT f) Fld.FY_STAT_POS) (status := status) known
  obtain ⟨done, -⟩ := State.ferry_descClosed (status := status) known
  have settings : (s.atNext f status).reg (Reg.FY_CTL f) = s.reg (Reg.FY_CTL f) := (State.reg_setF_ne _ _ (ferryControl_ne_status f)).trans ctl
  have chain : (s.descClosed f status).fyChained f = false := (State.flag_descClosed known _ (by decide)).trans unchained
  have quiet : (s.descClosed f status).kickWaits f = false := by rw [State.kickWaits_descClosed known, State.kickWaits, unheld, Bool.false_and]
  have idle := State.fyIdle_rests (State.descClosed_length (status := status) known) quiet
  have rests {n : Nat} (code : n < 8) := State.setFy_rests (s := s.descClosed f status) code done
  rw [State.writeBack_eq free ended going, settings, chain, desc, Bool.or_false]
  simp only [State.stateAfter, State.flag, State.f, beq_iff_eq, Bool.and_eq_true, decide_eq_true_eq]
  split
  · split
    · exact idle
    · exact rests (by decide)
  · split
    · exact rests (by decide)
    · split
      · exact idle
      · exact rests (by decide)

/-! ### Delivery reports (R218) -/

/-- What FY_DLV shows of the delivery of `a`. -/
def State.delivered (s : State) (f : Nat) (a : Awaiting) : State :=
  (((s.addF (Reg.FY_DLV f) Fld.FY_DLV_COUNT 1).setF (Reg.FY_DLV f) Fld.FY_DLV_INDEX a.index).setB (Reg.FY_DLV f) Fld.FY_DLV_DISCARDED
    a.discarded).setB (Reg.FY_DLV f) Fld.FY_DLV_VALID true

/-- The delivery of a descriptor is counted, with its index and whether it was discarded. -/
theorem State.delivered_shows (s : State) (f : Nat) (a : Awaiting) :
    (s.delivered f a).f (Reg.FY_DLV f) Fld.FY_DLV_COUNT = (s.f (Reg.FY_DLV f) Fld.FY_DLV_COUNT + 1) % 2 ^ 32 ∧
      (s.delivered f a).f (Reg.FY_DLV f) Fld.FY_DLV_INDEX = a.index % 16384 ∧
      (s.delivered f a).flag (Reg.FY_DLV f) Fld.FY_DLV_DISCARDED = a.discarded ∧
      (s.delivered f a).flag (Reg.FY_DLV f) Fld.FY_DLV_VALID = true := by
  refine ⟨?_, ?_, ?_, State.flag_setB_self _ _ _ _ (by decide) rfl⟩
  · rw [State.delivered, State.f_setB_disjoint _ _ _ _ (by decide), State.f_setB_disjoint _ _ _ _ (by decide),
      State.f_setF_disjoint _ _ _ _ _ (by decide), State.f_addF_self _ _ _ (by decide)]
    rfl
  · rw [State.delivered, State.f_setB_disjoint _ _ _ _ (by decide), State.f_setB_disjoint _ _ _ _ (by decide),
      State.f_setF_self _ _ _ _ (by decide)]
    rfl
  · rw [State.delivered, State.flag_setB_disjoint _ _ _ _ (by decide), State.flag_setB_self _ _ _ _ (by decide) rfl]

theorem State.delivered_fy (s : State) (f : Nat) (a : Awaiting) : (s.delivered f a).fy = s.fy := rfl

theorem State.delivered_clock (s : State) (f : Nat) (a : Awaiting) : (s.delivered f a).clock = s.clock := rfl

variable {a : Awaiting} {r : List Awaiting}

theorem State.report_eq (waits : (s.ferry f).awaiting = a :: r) (through : s.undelivered f a.id = false) :
    s.report f =
      let t := (s.modFerry f fun y => { y with awaiting := r }).delivered f a
      (t.setReg (Reg.FY_DLVT f) t.stamp).showAwaiting f := by
  simp only [State.report, waits, through, Bool.false_eq_true, if_false]
  rfl

/-- Showing how many descriptors wait leaves the other fields of FY_DLV. -/
theorem State.f_showAwaiting (s : State) (f : Nat) (x : Field) (apart : x.lo + x.width ≤ 48) :
    (s.showAwaiting f).f (Reg.FY_DLV f) x = s.f (Reg.FY_DLV f) x := State.f_setF_disjoint _ _ Fld.FY_DLV_PENDING x _ (.inl apart)

theorem State.report_reports (known : f < s.fy.length) (waits : (s.ferry f).awaiting = a :: r) (through : s.undelivered f a.id = false) :
    ((s.report f).ferry f).awaiting = r ∧
      (s.report f).f (Reg.FY_DLV f) Fld.FY_DLV_COUNT = (s.f (Reg.FY_DLV f) Fld.FY_DLV_COUNT + 1) % 2 ^ 32 ∧
      (s.report f).f (Reg.FY_DLV f) Fld.FY_DLV_INDEX = a.index % 16384 ∧
      (s.report f).flag (Reg.FY_DLV f) Fld.FY_DLV_DISCARDED = a.discarded ∧ (s.report f).flag (Reg.FY_DLV f) Fld.FY_DLV_VALID = true ∧
      (s.report f).reg (Reg.FY_DLVT f) = s.stamp := by
  have apart : Reg.FY_DLVT f ≠ Reg.FY_DLV f := Part.addr_ne (p := .FY_DLV) (q := .FY_DLVT) (i := f) (j := 0) (i' := f) (j' := 0) (by decide) rfl rfl
  have word : ((s.modFerry f fun y => { y with awaiting := r }).delivered f a).ferry f = { s.ferry f with awaiting := r } :=
    (State.ferry_congr (State.delivered_fy _ f a) f).trans (State.ferry_modFerry_self _ known)
  have stamp : ((s.modFerry f fun y => { y with awaiting := r }).delivered f a).stamp = s.stamp := State.stamp_congr (State.delivered_clock _ f a)
  obtain ⟨count, index, discarded, valid⟩ := (s.modFerry f fun y => { y with awaiting := r }).delivered_shows f a
  rw [State.f_modFerry] at count
  rw [State.report_eq waits through]
  dsimp only
  generalize (s.modFerry f fun y => { y with awaiting := r }).delivered f a = t at *
  have shown (x : Field) (low : x.lo + x.width ≤ 48) :
      ((t.setReg (Reg.FY_DLVT f) t.stamp).showAwaiting f).f (Reg.FY_DLV f) x = t.f (Reg.FY_DLV f) x :=
    (State.f_showAwaiting _ f x low).trans (State.f_of_reg x (State.reg_setReg_ne _ _ apart.symm))
  refine ⟨?_, (shown _ (by decide)).trans count, (shown _ (by decide)).trans index,
    (State.flag_of_f (shown _ (by decide))).trans discarded, (State.flag_of_f (shown _ (by decide))).trans valid, ?_⟩
  · rw [State.showAwaiting, State.ferry_setF, State.ferry_congr (t.setReg_fy _ _), word]
  · rw [State.showAwaiting, State.reg_setF_ne _ _ apart, State.reg_setReg_self, stamp]

/-! ### The commands -/

/-- Settles O32: fetches (`beginDesc_ended`, `beginDesc_moves`, `beginDesc_waits`, `Fetches.starves`, `Fetches.idles`, `fetchDesc_chained`,
`fetchDesc_full`), the end of a wait (`endWait_over`), line moves (`Moving.stored`, `Moving.damaged`, `Moving.inactive`), write-backs
(`wroteBack_shows`, `writeBack_rests`) and delivery reports (`report_reports`). -/
theorem ferriesFetchMoveAndReport : Obligations.FerriesFetchMoveAndReport := by
  refine ⟨fun t f d => ⟨fun c => ?_, ?_, ?_, ?_, ?_, ?_, ?_, ?_⟩, fun t f => ?_, fun t f ups d => ⟨?_, ?_, fun b => ?_⟩,
    fun t f d status small => ?_, fun t f a r => ?_⟩
  · refine Runs.onStripes (fun s => s.fetchDesc f.val) (fun _ => rfl)
      fun s ⟨⟨work, many, state, room, words, runs⟩, own, going, fails⟩ => ⟨work, ?_⟩
    rw [Fetches.begins ⟨state, room, words, runs⟩ own]
    exact State.beginDesc_ended (ferryKnown many f) (.inr ⟨going, fails⟩)
  · refine Runs.onStripes (fun s => s.fetchDesc f.val) (fun _ => rfl)
      fun s ⟨⟨work, many, state, room, words, runs⟩, own, going, sound, unpaced⟩ => ⟨work, ?_⟩
    rw [Fetches.begins ⟨state, room, words, runs⟩ own]
    exact State.beginDesc_moves (ferryKnown many f) going sound unpaced
  · refine Runs.onStripes (fun s => s.fetchDesc f.val) (fun _ => rfl)
      fun s ⟨⟨work, many, state, room, words, runs⟩, own, going, sound, paced⟩ => ⟨work, ?_⟩
    rw [Fetches.begins ⟨state, room, words, runs⟩ own]
    exact State.beginDesc_waits (ferryKnown many f) going sound paced
  · exact Runs.onStripes (fun s => s.fetchDesc f.val) (fun _ => rfl)
      fun s ⟨⟨work, _, state, room, words, runs⟩, own, frame⟩ => ⟨work, Fetches.starves ⟨state, room, words, runs⟩ own frame⟩
  · refine Runs.onStripes (fun s => s.fetchDesc f.val) (fun _ => rfl)
      fun s ⟨⟨work, _, state, room, words, runs⟩, own, free, unheld⟩ => ⟨work, ?_⟩
    rw [Fetches.idles ⟨state, room, words, runs⟩ own free]
    exact State.fyIdle_unheld unheld
  · refine Runs.onStripes (fun s => s.fetchDesc f.val) (fun _ => rfl)
      fun s ⟨⟨work, many, state, room, words, runs⟩, own, aborting⟩ => ⟨work, ?_⟩
    rw [Fetches.begins ⟨state, room, words, runs⟩ own]
    exact State.beginDesc_ended (ferryKnown many f) (.inl ⟨aborting, rfl⟩)
  · refine Runs.onStripes (fun s => s.fetchDesc f.val) (fun _ => rfl) fun s ⟨work, state, chained, free⟩ => ⟨work, ?_⟩
    rw [State.fetchDesc_chained state chained free]
    exact State.fyIdle_chained chained
  · refine Runs.onStripes (fun s => s.fetchDesc f.val) (fun _ => rfl) fun s ⟨work, state, full, runs⟩ => ⟨work, ?_⟩
    rw [State.fetchDesc_full state full runs]
    exact State.fyState_setFy _ _ (by decide)
  · exact Runs.onStripes (fun s => s.endWait f.val) (fun _ => rfl) fun s ⟨work, many, state, opened, passed⟩ =>
      ⟨work, State.endWait_over (ferryKnown many f) state opened passed⟩
  · exact Runs.onStripes (fun s => (s.upset ups).moveLine f.val) (fun _ => rfl)
      fun s ⟨⟨work, many, desc, nonempty, goes, state, plain⟩, positive, alike, inside, readable, dest⟩ => ⟨work,
        Moving.stored (s := s.upset ups) ⟨ferryKnown many f, desc, nonempty, goes, state, plain⟩ positive alike inside readable dest⟩
  · exact Runs.onStripes (fun s => (s.upset ups).moveLine f.val) (fun _ => rfl)
      fun s ⟨⟨work, many, desc, nonempty, goes, state, plain⟩, inside, damaged⟩ => ⟨work,
        Moving.damaged (s := s.upset ups) ⟨ferryKnown many f, desc, nonempty, goes, state, plain⟩ inside damaged⟩
  · exact Runs.onStripes (fun s => (s.upset ups).moveLine f.val) (fun _ => rfl)
      fun s ⟨⟨work, many, desc, nonempty, goes, state, plain⟩, inside, readable, dest, inactive⟩ => ⟨work,
        Moving.inactive (s := s.upset ups) ⟨ferryKnown many f, desc, nonempty, goes, state, plain⟩ inside readable dest inactive⟩
  · refine Runs.onStripes (fun s => s.writeBack f.val) (fun _ => rfl)
      fun s ⟨work, many, desc, plain, ended, free, going, unchained, unheld⟩ => ⟨work, ?_⟩
    have known := ferryKnown many f
    have rests := State.writeBack_rests known free desc ended going unchained unheld
    obtain ⟨-, cfg, stopping⟩ := State.ferry_descClosed (status := status) known
    have written := State.wroteBack_shows (pos := s.f (Reg.FY_STAT f.val) Fld.FY_STAT_POS) (status := status) f.isLt desc plain
    obtain ⟨own, result, time, count, done, err⟩ := written.congr fun a other => (rests.regs a other).trans (State.reg_descClosed_ne other)
    exact ⟨own, result, time, count, done, err, rests.pos.trans (State.pos_descClosed desc), rests.outcome, rests.cfg.trans cfg,
      rests.stopping.trans stopping, rests.state⟩
  · exact Runs.onStripes (fun s => s.report f.val) (fun _ => rfl) fun s ⟨work, many, waits, through⟩ =>
      ⟨work, State.report_reports (ferryKnown many f) waits through⟩

end Sys2Proof.Machine

/-! ## Bundles: what changes on one bundle, and what the dealing of its blocks moves -/

namespace Sys2Proof.Machine

variable {s t u : State} {b l i n : Nat}

/-! ### One bundle's state -/

theorem modifyAt_modifyAt {α : Type} (f g : α → α) (n : Nat) (l : List α) : modifyAt g n (modifyAt f n l) = modifyAt (fun x => g (f x)) n l := by
  induction l generalizing n with
  | nil => cases n <;> rfl
  | cons a r ih => cases n with
    | zero => rfl
    | succ n => exact congrArg (a :: ·) (ih n)

theorem modifyAt_congr {α : Type} {f g : α → α} {d : α} {n : Nat} {l : List α} (same : f (l.getD n d) = g (l.getD n d)) :
    modifyAt f n l = modifyAt g n l := by
  induction l generalizing n with
  | nil => cases n <;> rfl
  | cons a r ih => cases n with
    | zero => exact congrArg (· :: r) same
    | succ n => exact congrArg (a :: ·) (ih same)

theorem modifyAt_id {α : Type} (n : Nat) (l : List α) : modifyAt id n l = l := by
  induction l generalizing n with
  | nil => cases n <;> rfl
  | cons a r ih => cases n with
    | zero => rfl
    | succ n => exact congrArg (a :: ·) (ih n)

theorem State.modBun_modBun (s : State) (b : Nat) (f g : Bundle → Bundle) : (s.modBun b f).modBun b g = s.modBun b fun x => g (f x) := by
  simp only [State.modBun, modifyAt_modifyAt]

/-- Two changes that agree on the bundle are one. -/
theorem State.modBun_congr {f g : Bundle → Bundle} (same : f (s.bun b) = g (s.bun b)) : s.modBun b f = s.modBun b g := by
  simp only [State.modBun, modifyAt_congr (d := ({} : Bundle)) same]

theorem State.modBun_self {f : Bundle → Bundle} (same : f (s.bun b) = s.bun b) : s.modBun b f = s := by
  rw [State.modBun_congr (g := id) same, State.modBun, modifyAt_id]

theorem State.bun_congr (same : t.eg = s.eg) (b : Nat) : t.bun b = s.bun b := by rw [State.bun, same, State.bun]

theorem State.laneAux_congr (same : t.eg = s.eg) (b l : Nat) : t.laneAux b l = s.laneAux b l := by
  rw [State.laneAux, State.bun_congr same, State.laneAux]

theorem bundleKnown (many : s.eg.length = 8) (b : Fin 8) : b.val < s.eg.length := many.symm ▸ b.isLt

@[simp] theorem State.modBun_length (s : State) (b : Nat) (f : Bundle → Bundle) : (s.modBun b f).eg.length = s.eg.length := length_modifyAt _ _ _

@[simp] theorem State.modBun_regs (s : State) (b : Nat) (f : Bundle → Bundle) : (s.modBun b f).regs = s.regs := rfl

@[simp] theorem State.modBun_clock (s : State) (b : Nat) (f : Bundle → Bundle) : (s.modBun b f).clock = s.clock := rfl

@[simp] theorem State.modBun_wire (s : State) (b : Nat) (f : Bundle → Bundle) : (s.modBun b f).wire = s.wire := rfl

@[simp] theorem State.modBun_fs (s : State) (b : Nat) (f : Bundle → Bundle) : (s.modBun b f).fs = s.fs := rfl

@[simp] theorem State.reg_modBun (s : State) (b : Nat) (f : Bundle → Bundle) (a : Nat) : (s.modBun b f).reg a = s.reg a := rfl

@[simp] theorem State.f_modBun (s : State) (b : Nat) (f : Bundle → Bundle) (a : Nat) (x : Field) : (s.modBun b f).f a x = s.f a x := rfl

@[simp] theorem State.flag_modBun (s : State) (b : Nat) (f : Bundle → Bundle) (a : Nat) (x : Field) : (s.modBun b f).flag a x = s.flag a x := rfl

@[simp] theorem State.bunState_modBun (s : State) (b : Nat) (f : Bundle → Bundle) (i : Nat) : (s.modBun b f).bunState i = s.bunState i := rfl

@[simp] theorem State.lanesOf_modBun (s : State) (b : Nat) (f : Bundle → Bundle) (i : Nat) : (s.modBun b f).lanesOf i = s.lanesOf i := rfl

@[simp] theorem State.laneState_modBun (s : State) (b : Nat) (f : Bundle → Bundle) (i l : Nat) : (s.modBun b f).laneState i l = s.laneState i l := rfl

@[simp] theorem State.bunActive_modBun (s : State) (b : Nat) (f : Bundle → Bundle) (i : Nat) : (s.modBun b f).bunActive i = s.bunActive i := rfl

/-- A field of a bundle that a change of it leaves. -/
theorem State.bun_modBun_keep {α : Type} (g : Bundle → α) {f : Bundle → Bundle} (keeps : ∀ x, g (f x) = g x) : g ((s.modBun b f).bun b) = g (s.bun b) := by
  rcases State.bun_modBun_or (s := s) f b b with e | e <;> rw [e]
  exact keeps _

/-! ### One lane's state -/

theorem State.modLane_modLane (s : State) (b l : Nat) (f g : LaneAux → LaneAux) : (s.modLane b l f).modLane b l g = s.modLane b l fun x => g (f x) := by
  simp only [State.modLane, State.modBun_modBun, modifyAt_modifyAt]

theorem State.modLane_congr {f g : LaneAux → LaneAux} (same : f (s.laneAux b l) = g (s.laneAux b l)) : s.modLane b l f = s.modLane b l g :=
  State.modBun_congr (congrArg (fun y => { s.bun b with lanes := y }) (modifyAt_congr (d := ({} : LaneAux)) same))

theorem State.laneAux_modLane_self (f : LaneAux → LaneAux) (known : b < s.eg.length) (seven : l < (s.bun b).lanes.length) :
    (s.modLane b l f).laneAux b l = f (s.laneAux b l) := by
  rw [State.laneAux, State.modLane, State.bun_modBun_self _ known]
  simp only [State.laneAux, List.getD_eq_getElem?_getD, getElem?_modifyAt, List.getElem?_eq_getElem seven, Option.map_some, Option.getD_some]

theorem State.laneAux_modLane_ne (f : LaneAux → LaneAux) (other : i ≠ l) : (s.modLane b l f).laneAux b i = s.laneAux b i := by
  refine State.bun_modBun_keep (fun x => x.lanes.getD i {}) fun x => ?_
  simp only [List.getD_eq_getElem?_getD, get_modifyAt_ne f x.lanes other]

theorem State.modLane_lanes (s : State) (b l : Nat) (f : LaneAux → LaneAux) : ((s.modLane b l f).bun b).lanes.length = (s.bun b).lanes.length :=
  State.bun_modBun_keep (fun x => x.lanes.length) fun _ => length_modifyAt _ _ _

/-- Each lane of a list changes once. -/
theorem State.laneAux_foldl_modLane (g : Nat → LaneAux → LaneAux) {ls : List Nat} (once : ls.Nodup) (known : b < s.eg.length)
    (seven : i < (s.bun b).lanes.length) :
    (ls.foldl (fun s l => s.modLane b l (g l)) s).laneAux b i = if i ∈ ls then g i (s.laneAux b i) else s.laneAux b i := by
  induction ls generalizing s with
  | nil => rfl
  | cons l r ih =>
    obtain ⟨fresh, once⟩ := List.nodup_cons.mp once
    rw [List.foldl_cons, ih once (by simpa [State.modLane] using known) (by rwa [State.modLane_lanes])]
    by_cases here : i = l
    · subst here
      rw [if_neg fresh, if_pos List.mem_cons_self, State.laneAux_modLane_self _ known seven]
    · simp only [State.laneAux_modLane_ne _ here, List.mem_cons, here, false_or]

/-! ### Dealing (R230) -/

/-- What the dealing of blocks moves on a bundle: its lanes, its place in the rounds, and the blocks that wait. -/
structure Dealing where
  lanes : List LaneAux
  turn : Nat
  freeAt : Nat
  stream : List Block

/-- The bundle with another place in its rounds. -/
def Bundle.withDealing (x : Bundle) (d : Dealing) : Bundle := { x with lanes := d.lanes, turn := d.turn, freeAt := d.freeAt, stream := d.stream }

/-- Blocks have at most been dealt on bundle `b`. -/
def Dealt (b : Nat) (s t : State) : Prop := ∃ d : Dealing, t = s.modBun b fun x => x.withDealing d

theorem Dealt.modBun {f : Bundle → Bundle} {d : Dealing} (same : f (s.bun b) = (s.bun b).withDealing d) : Dealt b s (s.modBun b f) :=
  ⟨d, State.modBun_congr same⟩

theorem Dealt.refl (b : Nat) (s : State) : Dealt b s s :=
  ⟨⟨(s.bun b).lanes, (s.bun b).turn, (s.bun b).freeAt, (s.bun b).stream⟩, (State.modBun_self rfl).symm⟩

theorem Dealt.trans (h : Dealt b s t) (k : Dealt b t u) : Dealt b s u := by
  obtain ⟨d, rfl⟩ := h
  obtain ⟨e, rfl⟩ := k
  exact ⟨e, State.modBun_modBun _ _ _ _⟩

theorem Dealt.foldl {α : Type} {f : State → α → State} {ls : List α} (step : ∀ s x, Dealt b s (f s x)) (s : State) : Dealt b s (ls.foldl f s) :=
  List.foldlRecOn ls f (Dealt.refl b s) fun _ h x _ => h.trans (step _ x)

theorem Dealt.modLane (f : LaneAux → LaneAux) : Dealt b s (s.modLane b l f) :=
  Dealt.modBun (d := ⟨modifyAt f l (s.bun b).lanes, (s.bun b).turn, (s.bun b).freeAt, (s.bun b).stream⟩) rfl

theorem State.laneSend_dealt (s : State) (b l : Nat) (k : Block) (trim : Nat) : Dealt b s (s.laneSend b l k trim) := Dealt.modLane _

theorem State.idleOn_dealt (s : State) (b : Nat) (ls : List Nat) : Dealt b s (s.idleOn b ls) := Dealt.foldl (fun _ _ => Dealt.modLane _) s

/-- The stream begins at another block, or its next block goes in another round. -/
theorem Dealt.place (s : State) (b turn freeAt : Nat) : Dealt b s (s.modBun b fun x => { x with turn := turn, freeAt := x.freeAt + freeAt }) :=
  Dealt.modBun (d := ⟨(s.bun b).lanes, turn, (s.bun b).freeAt + freeAt, (s.bun b).stream⟩) rfl

theorem Dealt.stream (s : State) (b : Nat) (ks : List Block) : Dealt b s (s.modBun b fun x => { x with stream := ks }) :=
  Dealt.modBun (d := ⟨(s.bun b).lanes, (s.bun b).turn, (s.bun b).freeAt, ks⟩) rfl

theorem State.dealBlock_dealt (s : State) (b : Nat) (k : Block) : Dealt b s (s.dealBlock b k) := by
  unfold State.dealBlock
  extract_lets ls n begun
  have idle : Dealt b s begun := by
    unfold begun
    split
    · exact s.idleOn_dealt b _
    · exact Dealt.refl b s
  refine (idle.trans (begun.laneSend_dealt b (ls.getD n 0) k 0)).trans ?_
  by_cases more : n + 1 < ls.length
  · simp only [if_pos more]
    exact Dealt.place _ b (n + 1) 0
  · simp only [if_neg more]
    exact Dealt.place _ b 0 65

theorem State.deal_dealt (s : State) (b : Nat) (ks : List Block) : Dealt b s (s.deal b ks) := by
  induction ks generalizing s with
  | nil => exact Dealt.stream s b []
  | cons k r ih =>
    unfold State.deal
    split
    · exact Dealt.stream s b _
    · exact (s.dealBlock_dealt b k).trans (ih _)

theorem State.runStream_dealt (s : State) (b : Nat) : Dealt b s (s.runStream b) := s.deal_dealt b _

theorem State.closeRound_dealt (s : State) (b : Nat) : Dealt b s (s.closeRound b) := by
  unfold State.closeRound
  extract_lets n
  split
  · exact Dealt.refl b s
  · exact (s.idleOn_dealt b _).trans (Dealt.place _ b 0 65)

theorem State.catchUp_dealt (s : State) (b at' : Nat) : Dealt b s (s.catchUp b at') := by
  unfold State.catchUp
  extract_lets x r
  split
  · exact (s.closeRound_dealt b).trans (Dealt.modBun
      (d := ⟨((s.closeRound b).bun b).lanes, ((s.closeRound b).bun b).turn, r, ((s.closeRound b).bun b).stream⟩) rfl)
  · exact Dealt.refl b s

theorem State.ownRound_dealt (s : State) (b : Nat) (ls idle : List Nat) (blk : Nat → Block) : Dealt b s (s.ownRound b ls idle blk) := by
  unfold State.ownRound
  extract_lets sent
  have dealt : Dealt b s sent :=
    ((s.closeRound_dealt b).trans (State.idleOn_dealt _ b idle)).trans (Dealt.foldl (fun s l => s.laneSend_dealt b l (blk l) 0) _)
  refine dealt.trans ?_
  exact Dealt.modBun (d := ⟨(sent.bun b).lanes, (sent.bun b).turn, (sent.bun b).freeAt + 65, (sent.bun b).stream⟩) rfl

/-- Dealing leaves what is not part of it. -/
theorem Dealt.bun {α : Type} (h : Dealt b s t) (g : Bundle → α) (keeps : ∀ x d, g (Bundle.withDealing x d) = g x) : g (t.bun b) = g (s.bun b) := by
  obtain ⟨d, rfl⟩ := h
  exact State.bun_modBun_keep g fun x => keeps x d

theorem Dealt.rest {α : Type} (h : Dealt b s t) (g : State → α) (keeps : ∀ s d, g (State.modBun s b fun x => x.withDealing d) = g s) : g t = g s := by
  obtain ⟨d, rfl⟩ := h
  exact keeps s d

theorem Dealt.length (h : Dealt b s t) : t.eg.length = s.eg.length := h.rest (fun s => s.eg.length) fun _ _ => State.modBun_length _ _ _

theorem Dealt.regs (h : Dealt b s t) : t.regs = s.regs := h.rest State.regs fun _ _ => rfl

theorem Dealt.wire (h : Dealt b s t) : t.wire = s.wire := h.rest State.wire fun _ _ => rfl

theorem Dealt.clock (h : Dealt b s t) : t.clock = s.clock := h.rest State.clock fun _ _ => rfl

theorem Dealt.f (h : Dealt b s t) (a : Nat) (x : Field) : t.f a x = s.f a x := h.rest (fun s => s.f a x) fun _ _ => rfl

theorem Dealt.flag (h : Dealt b s t) (a : Nat) (x : Field) : t.flag a x = s.flag a x := h.rest (fun s => s.flag a x) fun _ _ => rfl

theorem Dealt.bunState (h : Dealt b s t) (i : Nat) : t.bunState i = s.bunState i := h.f _ _

theorem Dealt.lanesOf (h : Dealt b s t) (i : Nat) : t.lanesOf i = s.lanesOf i := h.f _ _

theorem Dealt.laneState (h : Dealt b s t) (i l : Nat) : t.laneState i l = s.laneState i l := h.f _ _

/-- What waits of the blocks that are dealt is their end. -/
theorem State.deal_stream (ks : List Block) (known : b < s.eg.length) : ∃ k, ((s.deal b ks).bun b).stream = ks.drop k := by
  induction ks generalizing s with
  | nil => exact ⟨0, congrArg Bundle.stream (State.bun_modBun_self _ known)⟩
  | cons k r ih =>
    unfold State.deal
    split
    · exact ⟨0, congrArg Bundle.stream (State.bun_modBun_self _ known)⟩
    · obtain ⟨n, h⟩ := ih (s := s.dealBlock b k) (by rwa [(s.dealBlock_dealt b k).length])
      exact ⟨n + 1, h⟩

theorem State.runStream_empty (quiet : (s.bun b).stream = []) : s.runStream b = s := by
  rw [State.runStream, quiet]
  exact State.modBun_self (by rw [← quiet])

/-- Before the next block's round has come the stream waits. -/
theorem State.runStream_early (early : s.clock.now * 14 < (s.bun b).freeAt) : s.runStream b = s := by
  cases stream : (s.bun b).stream with
  | nil => exact State.runStream_empty stream
  | cons k r =>
    rw [State.runStream, stream, State.deal, if_pos (by simp [early])]
    exact State.modBun_self (by rw [← stream])

theorem State.closeRound_begun (fresh : (s.bun b).turn = 0) : s.closeRound b = s := if_pos fresh

theorem sevenLanes_nodup : sevenLanes.Nodup := List.nodup_range

theorem mem_sevenLanes : l ∈ sevenLanes ↔ l < 7 := List.mem_range

end Sys2Proof.Machine

/-! ## The link, the lanes' states, and block lock -/

namespace Sys2Proof.Machine

variable {s t u : State} {b l i a st mask : Nat}

/-! ### A bit of a field of bits -/

theorem State.clrBit_reg (s : State) (a i : Nat) (f : Field) : (s.clrBit a f i).reg a = s.reg a ∨ ∃ v, (s.clrBit a f i).reg a = f.set (s.reg a) v := by
  unfold State.clrBit
  split
  · exact .inr ⟨_, State.reg_setReg_self _ _ _⟩
  · exact .inl rfl

theorem State.reg_putBit_ne {c : Nat} (f : Field) (v : Bool) (other : c ≠ a) : (s.putBit a f i v).reg c = s.reg c := by
  cases v with
  | true => exact State.reg_setBit_ne f i other
  | false =>
    rw [State.putBit, if_neg Bool.false_ne_true, State.clrBit]
    split
    · exact State.reg_setReg_ne _ _ other
    · rfl

theorem State.f_putBit_disjoint (f g : Field) (v : Bool) (apart : g.lo + g.width ≤ f.lo ∨ f.lo + f.width ≤ g.lo) :
    (s.putBit a f i v).f a g = s.f a g := by
  cases v with
  | true => exact State.f_setF_disjoint s a f g _ apart
  | false =>
    rw [State.putBit, if_neg Bool.false_ne_true, State.f]
    rcases s.clrBit_reg a i f with e | ⟨w, e⟩
    · rw [e, State.f]
    · rw [e, Field.get_set_disjoint f g _ _ apart, State.f]

@[simp] theorem State.putBit_eg (s : State) (a : Nat) (f : Field) (i : Nat) (v : Bool) : (s.putBit a f i v).eg = s.eg := by
  cases v with
  | true => rfl
  | false => exact State.clrBit_eg _ _ _ _

/-! ### STATE and lanes of a bundle (R255, R258) -/

/-- What a new STATE or new lanes of a bundle write first. -/
def State.linked (s : State) (b st mask : Nat) : State :=
  ((s.refill b).setF (Reg.EG_BSTAT b) Fld.EG_BSTAT_STATE st).setF (Reg.EG_BSTAT b) Fld.EG_BSTAT_LANES mask

/-- The stamp of the change, and the bundle's bits among those of all bundles. -/
def State.linkShown (s : State) (b : Nat) (active degraded : Bool) : State :=
  ((s.setReg (Reg.EG_BTIME b) s.fab).putBit Reg.EG_STATUS Fld.EG_STATUS_ACTIVE b active).putBit Reg.EG_STATUS Fld.EG_STATUS_DEGRADED b degraded

theorem State.setLink_changes (other : ¬ (s.bunState b = st ∧ s.lanesOf b = mask)) :
    s.setLink b st mask = (s.linked b st mask).linkShown b (decide (2 ≤ st) && decide (st ≤ 4)) (decide (2 ≤ st) && mask != 127) := if_neg other

theorem State.setLink_same (same : s.bunState b = st ∧ s.lanesOf b = mask) : s.setLink b st mask = s := if_pos same

theorem linkTime_ne_state (b : Nat) : Reg.EG_BSTAT b ≠ Reg.EG_BTIME b :=
  Part.addr_ne (p := .EG_BTIME) (q := .EG_BSTAT) (i := b) (j := 0) (i' := b) (j' := 0) (by decide) rfl rfl

theorem linkStatus_ne_state (b : Nat) : Reg.EG_BSTAT b ≠ Reg.EG_STATUS :=
  Part.addr_ne (p := .EG_STATUS) (q := .EG_BSTAT) (i := 0) (j := 0) (i' := b) (j' := 0) (by decide) rfl rfl

theorem linkStatus_ne_time (b : Nat) : Reg.EG_STATUS ≠ Reg.EG_BTIME b :=
  Part.addr_ne (p := .EG_BTIME) (q := .EG_STATUS) (i := b) (j := 0) (i' := 0) (j' := 0) (by decide) rfl rfl

theorem State.reg_linkShown (s : State) (b : Nat) (x y : Bool) : (s.linkShown b x y).reg (Reg.EG_BSTAT b) = s.reg (Reg.EG_BSTAT b) := by
  rw [State.linkShown, State.reg_putBit_ne _ _ (linkStatus_ne_state b), State.reg_putBit_ne _ _ (linkStatus_ne_state b),
    State.reg_setReg_ne _ _ (linkTime_ne_state b)]

theorem State.bunState_setLink (s : State) (b : Nat) {st : Nat} (mask : Nat) (code : st < 8) : (s.setLink b st mask).bunState b = st := by
  by_cases same : s.bunState b = st ∧ s.lanesOf b = mask
  · rw [State.setLink_same same, same.1]
  · rw [State.setLink_changes same, State.bunState, State.f_of_reg _ (State.reg_linkShown _ _ _ _), State.linked,
      State.f_setF_disjoint _ _ _ _ _ (by decide), State.f_setF_self _ _ _ _ (by decide)]
    exact Nat.mod_eq_of_lt code

theorem State.lanesOf_setLink (s : State) (b st : Nat) {mask : Nat} (lanes : mask < 128) : (s.setLink b st mask).lanesOf b = mask := by
  by_cases same : s.bunState b = st ∧ s.lanesOf b = mask
  · rw [State.setLink_same same, same.2]
  · rw [State.setLink_changes same, State.lanesOf, State.f_of_reg _ (State.reg_linkShown _ _ _ _), State.linked,
      State.f_setF_self _ _ _ _ (by decide)]
    exact Nat.mod_eq_of_lt lanes

/-- The other fields of EG_BSTAT stay. -/
theorem State.f_setLink (s : State) (b st mask : Nat) (x : Field) (above : 10 ≤ x.lo) : (s.setLink b st mask).f (Reg.EG_BSTAT b) x = s.f (Reg.EG_BSTAT b) x := by
  by_cases same : s.bunState b = st ∧ s.lanesOf b = mask
  · rw [State.setLink_same same]
  · rw [State.setLink_changes same, State.f_of_reg _ (State.reg_linkShown _ _ _ _), State.linked,
      State.f_setF_disjoint _ _ Fld.EG_BSTAT_LANES x _ (.inr above),
      State.f_setF_disjoint _ _ Fld.EG_BSTAT_STATE x _ (.inr (Nat.le_trans (by decide) above))]
    rfl

/-- The flags of EG_STATUS stay. -/
theorem State.flag_setLink (s : State) (b st mask : Nat) (x : Field) (below : x.lo + x.width ≤ 16) :
    (s.setLink b st mask).flag Reg.EG_STATUS x = s.flag Reg.EG_STATUS x := by
  by_cases same : s.bunState b = st ∧ s.lanesOf b = mask
  · rw [State.setLink_same same]
  · refine State.flag_of_f ?_
    rw [State.setLink_changes same, State.linkShown, State.f_putBit_disjoint _ _ _ (.inl (Nat.le_trans below (by decide))),
      State.f_putBit_disjoint _ _ _ (.inl below), State.f_of_reg _ (State.reg_setReg_ne _ _ (linkStatus_ne_time b)), State.linked,
      State.f_setF_ne _ _ _ _ (linkStatus_ne_state b).symm, State.f_setF_ne _ _ _ _ (linkStatus_ne_state b).symm]
    rfl

theorem State.setLink_stays (s : State) (b st mask : Nat) :
    Within (Machine.maskOf [.EG_STATUS]) (Machine.maskOf [.eg, .EG_BSTAT, .EG_BTIME]) b s (s.setLink b st mask) :=
  State.setLink_within ⟨by decide, .inr ⟨rfl, by decide⟩⟩ (Within.refl _ _ _ _)

theorem State.refill_bun {α : Type} (s : State) (b : Nat) (g : Bundle → α) (keeps : ∀ x n m, g { x with tokens := n, tokensAt := m } = g x) :
    g ((s.refill b).bun b) = g (s.bun b) := State.bun_modBun_keep g fun x => keeps x _ _

/-- Of a bundle's queues and lanes a new STATE changes the P bucket alone. -/
theorem State.setLink_bun {α : Type} (s : State) (b st mask : Nat) (g : Bundle → α) (keeps : ∀ x n m, g { x with tokens := n, tokensAt := m } = g x) :
    g ((s.setLink b st mask).bun b) = g (s.bun b) := by
  by_cases same : s.bunState b = st ∧ s.lanesOf b = mask
  · rw [State.setLink_same same]
  · have e : (s.setLink b st mask).eg = (s.refill b).eg := by
      rw [State.setLink_changes same, State.linkShown, State.putBit_eg, State.putBit_eg, State.setReg_eg, State.linked, State.setF_eg, State.setF_eg]
    rw [State.bun_congr e, State.refill_bun s b g keeps]

theorem State.setLink_length (s : State) (b st mask : Nat) : (s.setLink b st mask).eg.length = s.eg.length := by
  by_cases same : s.bunState b = st ∧ s.lanesOf b = mask
  · rw [State.setLink_same same]
  · rw [State.setLink_changes same, State.linkShown, State.putBit_eg, State.putBit_eg, State.setReg_eg, State.linked, State.setF_eg, State.setF_eg]
    exact State.modBun_length _ _ _

theorem runState_lt (mask : Nat) : runState mask < 8 := by
  unfold runState
  split <;> decide

theorem State.lanesOf_lt (s : State) (b : Nat) : s.lanesOf b < 128 := Nat.mod_lt _ (by decide)

/-! ### A bundle becomes blind (R254) -/

/-- What a blind bundle forgets. -/
def Bundle.blinded (x : Bundle) : Bundle := { x with replay := [], due := [], shedDue := [], rejoinDue := [], capStep := false, feBlind := true }

theorem State.becomeBlind_eq (s : State) (b : Nat) : s.becomeBlind b =
    (((((s.setLink b 4 (s.lanesOf b)).modBun b Bundle.blinded).setB Reg.EG_STATUS Fld.EG_STATUS_BLIND true).satF (Reg.EG_BCNT1 b)
      Fld.EG_BCNT1_BLINDS_REL (s.bun b).replay.length).showReplay b) := rfl

theorem linkCount_ne_state (b : Nat) : Reg.EG_BSTAT b ≠ Reg.EG_BCNT1 b :=
  Part.addr_ne (p := .EG_BCNT1) (q := .EG_BSTAT) (i := b) (j := 0) (i' := b) (j' := 0) (by decide) rfl rfl

theorem linkCount_ne_status (b : Nat) : Reg.EG_BCNT1 b ≠ Reg.EG_STATUS :=
  Part.addr_ne (p := .EG_STATUS) (q := .EG_BCNT1) (i := 0) (j := 0) (i' := b) (j' := 0) (by decide) rfl rfl

/-- REPLAY leaves the other fields of EG_BSTAT. -/
theorem State.f_showReplay (s : State) (b : Nat) (x : Field) (apart : x.lo + x.width ≤ 11 ∨ 23 ≤ x.lo) :
    (s.showReplay b).f (Reg.EG_BSTAT b) x = s.f (Reg.EG_BSTAT b) x := State.f_setF_disjoint s _ _ x _ apart

theorem State.reg_showReplay_ne (other : a ≠ Reg.EG_BSTAT b) : (s.showReplay b).reg a = s.reg a := State.reg_setF_ne _ _ other

@[simp] theorem State.showReplay_eg (s : State) (b : Nat) : (s.showReplay b).eg = s.eg := rfl

/-- STATE and lanes are those that the link is given. -/
theorem State.f_becomeBlind (s : State) (b : Nat) (x : Field) (apart : x.lo + x.width ≤ 11 ∨ 23 ≤ x.lo) :
    (s.becomeBlind b).f (Reg.EG_BSTAT b) x = (s.setLink b 4 (s.lanesOf b)).f (Reg.EG_BSTAT b) x := by
  rw [State.becomeBlind_eq, State.f_showReplay _ _ _ apart, State.f_of_reg _ (State.reg_satF_ne _ _ (linkCount_ne_state b)),
    State.f_of_reg _ (State.reg_setB_ne _ _ (linkStatus_ne_state b)), State.f_modBun]

theorem State.bunState_becomeBlind (s : State) (b : Nat) : (s.becomeBlind b).bunState b = 4 :=
  (s.f_becomeBlind b _ (by decide)).trans (s.bunState_setLink b _ (by decide))

theorem State.lanesOf_becomeBlind (s : State) (b : Nat) : (s.becomeBlind b).lanesOf b = s.lanesOf b :=
  (s.f_becomeBlind b _ (by decide)).trans (s.lanesOf_setLink b 4 (s.lanesOf_lt b))

theorem State.becomeBlind_bun {α : Type} (s : State) (b : Nat) (g : Bundle → α) (keeps : ∀ x n m, g { x with tokens := n, tokensAt := m } = g x)
    (known : b < s.eg.length) : g ((s.becomeBlind b).bun b) = g (s.bun b).blinded := by
  have e : (s.becomeBlind b).bun b = (((s.setLink b 4 (s.lanesOf b)).modBun b Bundle.blinded).bun b) := rfl
  rw [e, State.bun_modBun_self _ (by rwa [State.setLink_length])]
  exact State.setLink_bun s b 4 _ (fun x => g x.blinded) fun x n m => keeps x.blinded n m

theorem State.becomeBlind_stays (s : State) (b : Nat) :
    Within (Machine.maskOf [.EG_STATUS]) (Machine.maskOf [.eg, .EG_BSTAT, .EG_BTIME, .EG_BCNT1]) b s (s.becomeBlind b) :=
  State.becomeBlind_within ⟨by decide, .inr ⟨rfl, by decide⟩⟩ (Within.refl _ _ _ _)

end Sys2Proof.Machine

/-! ## Frame lock and block lock, of returns and of ports -/

namespace Sys2Proof.Machine

variable {s t : State} {b p i : Nat} {v : Bool}

/-- Settles O9: every command keeps to its footprint, those of these two families among them. -/
theorem egressAndLaneCommandsKeepToTheirFootprint : Obligations.EgressAndLaneCommandsKeepToTheirFootprint := fun c _ => exec_keepsFootprint c

/-! ### The lock of a return (R254, R261, R266 to R268) -/

theorem State.freeze_frozen (s : State) (b : Nat) (v : Bool) : (s.freeze b v).flag (Reg.LN_LSTAT b 6) Fld.LN_LSTAT_FROZEN = v :=
  State.flag_setB_self _ _ _ _ (by decide) rfl

theorem State.freeze_lock (s : State) (b : Nat) (v : Bool) :
    (s.freeze b v).flag (Reg.LN_LSTAT b 6) Fld.LN_LSTAT_RX_LOCK = s.flag (Reg.LN_LSTAT b 6) Fld.LN_LSTAT_RX_LOCK :=
  State.flag_setB_disjoint _ _ _ _ (by decide)

@[simp] theorem State.bun_freeze (s : State) (b : Nat) (v : Bool) (i : Nat) : (s.freeze b v).bun i = s.bun i := rfl

@[simp] theorem State.freeze_clock (s : State) (b : Nat) (v : Bool) : (s.freeze b v).clock = s.clock := rfl

@[simp] theorem State.freeze_eg (s : State) (b : Nat) (v : Bool) : (s.freeze b v).eg = s.eg := rfl

/-- Frame lock of a training return is kept, and without it the receiver is frozen. -/
theorem State.frameLock_return {l : Fin 7} {b : Fin 8} (six : l = 6) (known : b.val < s.eg.length) (training : s.laneState b.val 6 = 2) :
    ((s.frameLock (.lane b l) v).bun b.val).frameLock = v ∧
      (s.frameLock (.lane b l) v).flag (Reg.LN_LSTAT b.val 6) Fld.LN_LSTAT_FROZEN = !v := by
  subst six
  have eq : s.frameLock (.lane b 6) v = (s.modBun b.val fun x => { x with frameLock := v }).freeze b.val (!v) := if_pos ⟨rfl, training⟩
  rw [eq, State.freeze_frozen, State.bun_freeze, State.bun_modBun_self _ known]
  exact ⟨rfl, rfl⟩

/-- What block lock brings to a bundle by the states of its return and its link: the capability step of a return in LOCK, and that of a blind
bundle anew. -/
def Bundle.lockGained (x : Bundle) (now lane link : Nat) : Bundle :=
  { x with
    lockAt := if lane = 3 then some now else x.lockAt
    capAt := if lane = 3 ∨ link = 4 then now else x.capAt
    capStep := if link = 4 then true else x.capStep }

theorem lockState_ne_link (b : Nat) : Reg.EG_BSTAT b ≠ Reg.LN_LSTAT b 6 :=
  Part.addr_ne (p := .LN_LSTAT) (q := .EG_BSTAT) (i := b) (j := 6) (i' := b) (j' := 0) (by decide) rfl rfl

theorem State.returnLock_eq (open' : s.flag (Reg.LN_LSTAT b 6) Fld.LN_LSTAT_RX_LOCK = false) (low : 3 ≤ s.laneState b 6)
    (high : s.laneState b 6 ≤ 5) :
    s.returnLock b = ((s.setB (Reg.LN_LSTAT b 6) Fld.LN_LSTAT_RX_LOCK true).freeze b false).modBun b
      fun x => x.lockGained s.clock.now (s.laneState b 6) (s.bunState b) := by
  have shown : ((s.setB (Reg.LN_LSTAT b 6) Fld.LN_LSTAT_RX_LOCK true).freeze b false).bunState b = s.bunState b :=
    State.f_of_reg _ ((State.reg_setB_ne _ _ (lockState_ne_link b)).trans (State.reg_setB_ne _ _ (lockState_ne_link b)))
  have goes : ¬ (s.laneState b 6 < 3 ∨ s.laneState b 6 = 8) := by omega
  simp only [State.returnLock, open', Bool.false_eq_true, false_or, goes, if_false, low, high, and_self, if_true]
  by_cases inLock : s.laneState b 6 = 3
  · by_cases blind : s.bunState b = 4 <;> simp [inLock, blind, shown, State.modBun_modBun, Bundle.lockGained]
  · by_cases blind : s.bunState b = 4
    · simp [inLock, blind, shown, Bundle.lockGained]
    · simpa [inLock, blind, shown, Bundle.lockGained] using (State.modBun_self rfl).symm

/-- A return that gains block lock is locked, and its receiver thawed. -/
theorem State.returnLock_shown (open' : s.flag (Reg.LN_LSTAT b 6) Fld.LN_LSTAT_RX_LOCK = false) (low : 3 ≤ s.laneState b 6)
    (high : s.laneState b 6 ≤ 5) :
    (s.returnLock b).flag (Reg.LN_LSTAT b 6) Fld.LN_LSTAT_RX_LOCK = true ∧
      (s.returnLock b).flag (Reg.LN_LSTAT b 6) Fld.LN_LSTAT_FROZEN = false := by
  rw [State.returnLock_eq open' low high, State.flag_modBun, State.flag_modBun, State.freeze_lock, State.freeze_frozen]
  exact ⟨State.flag_setB_self _ _ _ _ (by decide) rfl, rfl⟩

theorem State.returnLock_bun (open' : s.flag (Reg.LN_LSTAT b 6) Fld.LN_LSTAT_RX_LOCK = false) (low : 3 ≤ s.laneState b 6)
    (high : s.laneState b 6 ≤ 5) (known : b < s.eg.length) :
    (s.returnLock b).bun b = (s.bun b).lockGained s.clock.now (s.laneState b 6) (s.bunState b) := by
  rw [State.returnLock_eq open' low high, State.bun_modBun_self _ (by exact known)]
  rfl

/-! ### The loss of a return's lock (R254, R266 to R268) -/

/-- What a lost block lock shows: no lock, a frozen receiver, and the count and the flag of the loss. -/
def State.lockLost (s : State) (b : Nat) : State :=
  ((((s.setB (Reg.LN_LSTAT b 6) Fld.LN_LSTAT_RX_LOCK false).freeze b true).satF (Reg.LN_LCNT b 6) Fld.LN_LCNT_LOCK_LOSS 1).setB Reg.LN_STATUS
    Fld.LN_STATUS_LOCK_LOSS true).modBun b fun x => { x with lockAt := none, capStep := false }

theorem State.returnLoss_eq (held : s.flag (Reg.LN_LSTAT b 6) Fld.LN_LSTAT_RX_LOCK = true) :
    s.returnLoss b = if (s.lockLost b).bunState b = 2 ∨ (s.lockLost b).bunState b = 3 then (s.lockLost b).becomeBlind b else s.lockLost b :=
  if_pos held

theorem State.lockLost_stays (s : State) (b : Nat) : Within (Machine.maskOf [.eg, .LN_LSTAT, .LN_LCNT, .LN_STATUS]) 0 0 s (s.lockLost b) :=
  Within.modBun (.inl (by decide)) (.setB .LN_STATUS 0 0 rfl (.inl (by decide)) (.satF .LN_LCNT b 6 rfl (.inl (by decide))
    (.setB .LN_LSTAT b 6 rfl (.inl (by decide)) (.setB .LN_LSTAT b 6 rfl (.inl (by decide)) (Within.refl _ _ _ _)))))

/-- A running bundle becomes blind where its return's lock is lost, and that leaves the lanes' registers. -/
theorem State.returnLoss_reg (held : s.flag (Reg.LN_LSTAT b 6) Fld.LN_LSTAT_RX_LOCK = true) (q : Part) (j k : Nat) {a : Nat}
    (ha : q.addr j k = some a) (lanes : q ∈ [Part.LN_LSTAT, .LN_LCNT, .LN_STATUS]) : (s.returnLoss b).reg a = (s.lockLost b).reg a := by
  rw [State.returnLoss_eq held]
  split
  · refine ((s.lockLost b).becomeBlind_stays b).keepReg q j k ha ?_
    simp only [List.mem_cons, List.not_mem_nil, or_false] at lanes
    rcases lanes with rfl | rfl | rfl <;> decide
  · rfl

theorem State.returnLoss_bun (held : s.flag (Reg.LN_LSTAT b 6) Fld.LN_LSTAT_RX_LOCK = true) (known : b < s.eg.length) :
    ((s.returnLoss b).bun b).lockAt = none := by
  have lost : ((s.lockLost b).bun b).lockAt = none := congrArg Bundle.lockAt (State.bun_modBun_self _ (by exact known))
  rw [State.returnLoss_eq held]
  split
  · rw [State.becomeBlind_bun _ _ Bundle.lockAt (fun _ _ _ => rfl) (by simpa [State.lockLost] using known)]
    exact lost
  · exact lost

theorem State.bunState_returnLoss (held : s.flag (Reg.LN_LSTAT b 6) Fld.LN_LSTAT_RX_LOCK = true) :
    (s.returnLoss b).bunState b = if s.bunState b = 2 ∨ s.bunState b = 3 then 4 else s.bunState b := by
  have link : (s.lockLost b).bunState b = s.bunState b := (s.lockLost_stays b).keepF .EG_BSTAT b 0 _ rfl (by decide)
  rw [State.returnLoss_eq held, link]
  split
  · exact State.bunState_becomeBlind _ _
  · exact link

/-- What the loss of a return's lock shows. -/
theorem State.returnLoss_shown (held : s.flag (Reg.LN_LSTAT b 6) Fld.LN_LSTAT_RX_LOCK = true) :
    (s.returnLoss b).flag (Reg.LN_LSTAT b 6) Fld.LN_LSTAT_RX_LOCK = false ∧ (s.returnLoss b).flag (Reg.LN_LSTAT b 6) Fld.LN_LSTAT_FROZEN = true ∧
      (s.returnLoss b).flag Reg.LN_STATUS Fld.LN_STATUS_LOCK_LOSS = true ∧
      (s.returnLoss b).f (Reg.LN_LCNT b 6) Fld.LN_LCNT_LOCK_LOSS = min (s.f (Reg.LN_LCNT b 6) Fld.LN_LCNT_LOCK_LOSS + 1) 65535 := by
  have lane : Reg.LN_LSTAT b 6 ≠ Reg.LN_STATUS :=
    Part.addr_ne (p := .LN_STATUS) (q := .LN_LSTAT) (i := 0) (j := 0) (i' := b) (j' := 6) (by decide) rfl rfl
  have count : Reg.LN_LCNT b 6 ≠ Reg.LN_STATUS :=
    Part.addr_ne (p := .LN_STATUS) (q := .LN_LCNT) (i := 0) (j := 0) (i' := b) (j' := 6) (by decide) rfl rfl
  have apart : Reg.LN_LSTAT b 6 ≠ Reg.LN_LCNT b 6 :=
    Part.addr_ne (p := .LN_LCNT) (q := .LN_LSTAT) (i := b) (j := 6) (i' := b) (j' := 6) (by decide) rfl rfl
  have shown (x : Field) : (s.lockLost b).flag (Reg.LN_LSTAT b 6) x =
      ((s.setB (Reg.LN_LSTAT b 6) Fld.LN_LSTAT_RX_LOCK false).freeze b true).flag (Reg.LN_LSTAT b 6) x :=
    State.flag_of_reg _ ((State.reg_setB_ne _ _ lane).trans (State.reg_satF_ne _ _ apart))
  rw [State.flag_of_reg _ (State.returnLoss_reg held .LN_LSTAT b 6 rfl (by decide)), State.flag_of_reg _ (State.returnLoss_reg held .LN_LSTAT b 6 rfl (by decide)),
    State.flag_of_reg _ (State.returnLoss_reg held .LN_STATUS 0 0 rfl (by decide)), State.f_of_reg _ (State.returnLoss_reg held .LN_LCNT b 6 rfl (by decide)),
    shown, shown, State.freeze_frozen, State.freeze_lock]
  refine ⟨State.flag_setB_self _ _ _ _ (by decide) rfl, rfl, State.flag_setB_self _ _ _ _ (by decide) rfl, ?_⟩
  rw [State.lockLost, State.f_modBun, State.f_of_reg _ (State.reg_setB_ne _ _ count), State.f_satF_self _ _ _ (by decide), State.freeze,
    State.f_of_reg _ (State.reg_setB_ne _ _ apart.symm), State.f_of_reg _ (State.reg_setB_ne _ _ apart.symm)]
  rfl

/-! ### The lock of a port (R261, R266, R282) -/

theorem State.port_congr (same : t.kf.ports = s.kf.ports) (p : Nat) : t.port p = s.port p := by rw [State.port, same, State.port]

theorem State.port_modPort_self {f : FabPort → FabPort} (known : p < s.kf.ports.length) : (s.modPort p f).port p = f (s.port p) := by
  simp only [State.port, State.modPort, List.getD_eq_getElem?_getD, getElem?_modifyAt, List.getElem?_eq_getElem known, Option.map_some,
    Option.getD_some]

@[simp] theorem State.modPort_length (s : State) (p : Nat) (f : FabPort → FabPort) : (s.modPort p f).kf.ports.length = s.kf.ports.length :=
  length_modifyAt _ _ _

@[simp] theorem State.f_modPort (s : State) (p : Nat) (f : FabPort → FabPort) (a : Nat) (x : Field) : (s.modPort p f).f a x = s.f a x := rfl

@[simp] theorem State.flag_modPort (s : State) (p : Nat) (f : FabPort → FabPort) (a : Nat) (x : Field) : (s.modPort p f).flag a x = s.flag a x := rfl

@[simp] theorem State.portState_modPort (s : State) (p : Nat) (f : FabPort → FabPort) (i : Nat) : (s.modPort p f).portState i = s.portState i := rfl

/-- Frame lock of a training port is kept. -/
theorem State.frameLock_port {p : Fin 8} (known : p.val < s.kf.ports.length) (training : s.portState p.val = 2) :
    ((s.frameLock (.port p) v).port p.val).frameLock = v ∧ (s.frameLock (.port p) v).regs = s.regs := by
  have eq : s.frameLock (.port p) v = s.modPort p.val fun x => { x with frameLock := v } := if_pos training
  rw [eq, State.port_modPort_self known]
  exact ⟨rfl, rfl⟩

/-- A port with block lock and a HELLO enters UP; in any other case it stays where it is, with its lock. -/
theorem State.portLock_locks (known : p < s.kf.ports.length) (low : 2 ≤ s.portState p) (high : s.portState p ≤ 4) :
    ((s.portLock p).port p).locked = true ∧
      (s.portLock p).portState p = if s.portState p = 3 ∧ (s.port p).gotHello = true then 4 else s.portState p := by
  have locked : (s.modPort p fun x => { x with locked := true }).port p = { s.port p with locked := true } := State.port_modPort_self known
  rw [State.portLock, if_pos ⟨low, high⟩, State.portUpCheck, locked]
  by_cases up : s.portState p = 3 ∧ (s.port p).gotHello = true
  · have goes : (s.modPort p fun x => { x with locked := true }).portState p = 3 ∧ True ∧ (s.port p).gotHello = true := ⟨up.1, trivial, up.2⟩
    rw [if_pos up, if_pos (by simpa using up), State.port_modPort_self (by simpa using known)]
    refine ⟨congrArg FabPort.locked locked, State.f_setF_self _ _ _ _ (by decide)⟩
  · rw [if_neg up, if_neg (by simpa using up), locked]
    exact ⟨rfl, rfl⟩

/-! ### The topology leaves the ports -/

/-- The ports' records are as they were. -/
def SamePorts (s t : State) : Prop := t.kf.ports = s.kf.ports

theorem SamePorts.refl (s : State) : SamePorts s s := rfl

theorem SamePorts.setReg {a : Nat} {w : Word} (h : SamePorts s t) : SamePorts s (t.setReg a w) := h

theorem SamePorts.setF {a n : Nat} {f : Field} (h : SamePorts s t) : SamePorts s (t.setF a f n) := h

theorem SamePorts.setB {a : Nat} {f : Field} (h : SamePorts s t) : SamePorts s (t.setB a f v) := h

theorem SamePorts.ite {c : Prop} [Decidable c] {u : State} (h : SamePorts s t) (k : SamePorts s u) : SamePorts s (if c then t else u) := by
  split <;> assumption

theorem SamePorts.eth {e : Ethernet} (h : SamePorts s t) : SamePorts s { t with eth := e } := h

theorem SamePorts.kf {k : Fabric} (h : SamePorts s t) (same : k.ports = t.kf.ports) : SamePorts s { t with kf := k } := same.trans h

theorem SamePorts.showNodes (h : SamePorts s t) : SamePorts s t.showNodes := h

theorem SamePorts.coast (h : SamePorts s t) : SamePorts s t.coast := .ite (.setF (.kf h rfl)) (.kf h rfl)

theorem SamePorts.trimDb (h : SamePorts s t) : SamePorts s t.trimDb := .ite (.setB (.kf h rfl)) h

theorem SamePorts.topo (h : SamePorts s t) : SamePorts s t.topo := by
  unfold State.topo
  extract_lets -merge +onlyGivenNames trimmed
  have h0 : SamePorts s trimmed := h.trimDb
  clear_value trimmed
  extract_lets -merge +onlyGivenNames all own far root diameter
  have h1 : SamePorts s diameter := .ite h0.setB h0
  clear_value diameter
  extract_lets -merge +onlyGivenNames hops me parent had lost rooted
  have h2 : SamePorts s rooted := h1.setReg.setB
  clear_value rooted
  extract_lets -merge +onlyGivenNames eth ptp demoted
  have h3 : SamePorts s demoted := .ite h2.eth.setF h2
  clear_value demoted
  extract_lets -merge +onlyGivenNames counted turned distant applied locked
  have h4 : SamePorts s locked := h3.setF.setB.setF.setF.setB.setB
  clear_value locked
  extract_lets -merge +onlyGivenNames timed
  have h5 : SamePorts s timed := .ite h4.coast h4
  clear_value timed
  extract_lets -merge +onlyGivenNames tree treed
  have h6 : SamePorts s treed := List.foldlRecOn (motive := SamePorts s) _ _ h5 fun _ h _ _ => h.setB
  clear_value treed
  extract_lets -merge +onlyGivenNames mine hinted near due
  have h7 : SamePorts s hinted := .ite h6.setB h6
  exact SamePorts.showNodes (.kf h7 rfl)

theorem State.setAdj_ports (s : State) (p : Nat) (v : Bool) : (s.setAdj p v).kf.ports = s.kf.ports :=
  SamePorts.ite (.refl s) (.topo (.kf (.setB (.setB (.refl s))) rfl))

/-! ### A port goes back to DETECT (R282) -/

/-- A port that enters a state without a link stands in it, with a new record. -/
theorem State.portInto_stands {st : Nat} (known : p < s.kf.ports.length) (code : st < 8) :
    (s.portInto p st).portState p = st ∧ (s.portInto p st).port p = (s.port p).anew s.clock.now ∧
      (s.portInto p st).kf.ports.length = s.kf.ports.length := by
  have adj : Within (Machine.maskOf [.kf, .eth, .FB_STATUS, .FB_ROOT, .FB_TSTAT, .FB_PSTAT, .FB_NODE_ID, .FB_NODE_INFO, .ETH_PTP_STAT]) 0 0 s
      (s.setAdj p false) := State.setAdj_within ⟨by decide, .inl (by decide)⟩ (Within.refl _ _ _ _)
  have room : p < ((s.setAdj p false).setF (Reg.FB_PSTAT p) Fld.FB_PSTAT_STATE st).kf.ports.length := by
    rw [State.setF_kf, State.setAdj_ports]; exact known
  unfold State.portInto
  extract_lets placed
  refine ⟨(State.f_setF_self _ _ _ _ (by decide)).trans (Nat.mod_eq_of_lt code), ?_, ?_⟩
  · rw [State.port_modPort_self room, State.port_congr (t := placed) (s := s) (State.setAdj_ports s p false)]
    exact congrArg (fun c => (s.port p).anew c) adj.now
  · rw [State.modPort_length]
    exact congrArg List.length (State.setAdj_ports s p false)

theorem State.portInto_stays (s : State) (p st : Nat) : Within (Machine.maskOf
    [.kf, .eth, .FB_STATUS, .FB_ROOT, .FB_TSTAT, .FB_PSTAT, .FB_NODE_ID, .FB_NODE_INFO, .ETH_PTP_STAT]) 0 0 s (s.portInto p st) :=
  State.portInto_within ⟨by decide, .inl (by decide)⟩ (Within.refl _ _ _ _)

/-- A port that goes back to DETECT stays there for detection, or trains at once where detection is left out. -/
theorem State.portDetect_stands (known : p < s.kf.ports.length) :
    (s.portDetect p).portState p = (if s.flag (Reg.FB_PCTL p) Fld.FB_PCTL_DET_SKIP = true then 2 else 1) ∧
      ((s.portDetect p).port p).locked = false ∧
      (s.portDetect p).f (Reg.FB_PCNT p) Fld.FB_PCNT_LOCK_LOSS = s.f (Reg.FB_PCNT p) Fld.FB_PCNT_LOCK_LOSS := by
  obtain ⟨state, port, many⟩ := State.portInto_stands (st := 1) known (by decide)
  have stays := s.portInto_stays p 1
  have skip : (s.portInto p 1).flag (Reg.FB_PCTL p) Fld.FB_PCTL_DET_SKIP = s.flag (Reg.FB_PCTL p) Fld.FB_PCTL_DET_SKIP :=
    State.flag_of_reg _ (stays.keepReg .FB_PCTL p 0 rfl (by decide))
  have losses := stays.keepF .FB_PCNT p 0 Fld.FB_PCNT_LOCK_LOSS rfl (by decide)
  rw [State.portDetect, State.portCheck, state, skip, port]
  by_cases skips : s.flag (Reg.FB_PCTL p) Fld.FB_PCTL_DET_SKIP = true
  · obtain ⟨trains, again, -⟩ := State.portInto_stands (s := s.portInto p 1) (p := p) (st := 2) (by rwa [many]) (by decide)
    have other : Reg.FB_PSTAT p ≠ Reg.FB_PCNT p :=
      Part.addr_ne (p := .FB_PCNT) (q := .FB_PSTAT) (i := p) (j := 0) (i' := p) (j' := 0) (by decide) rfl rfl
    rw [if_pos ⟨rfl, .inl skips⟩, if_pos skips, State.portTrain]
    refine ⟨(State.f_of_reg _ (State.reg_satF_ne _ _ other)).trans trains, (congrArg FabPort.locked (State.port_congr (by rw [State.satF_kf]) p)).trans (congrArg FabPort.locked again), ?_⟩
    rw [State.satF, State.f_setF_disjoint _ _ _ _ _ (by decide), ((s.portInto p 1).portInto_stays p 2).keepF .FB_PCNT p 0 _ rfl (by decide), losses]
  · rw [if_neg (by rintro ⟨-, h | h⟩; exacts [skips h, Nat.not_succ_le_zero _ h]), if_neg skips]
    exact ⟨state, congrArg FabPort.locked port, losses⟩

/-- The loss of a port's lock is counted, and a port that was UP goes back. -/
theorem State.portUnlock_loses (known : p < s.kf.ports.length) (locked : (s.port p).locked = true) :
    ((s.portUnlock p).port p).locked = false ∧
      (s.portUnlock p).f (Reg.FB_PCNT p) Fld.FB_PCNT_LOCK_LOSS = min (s.f (Reg.FB_PCNT p) Fld.FB_PCNT_LOCK_LOSS + 1) 65535 ∧
      (s.portUnlock p).portState p = if s.portState p = 4 then (if s.flag (Reg.FB_PCTL p) Fld.FB_PCTL_DET_SKIP = true then 2 else 1)
        else s.portState p := by
  have state : Reg.FB_PSTAT p ≠ Reg.FB_PCNT p :=
    Part.addr_ne (p := .FB_PCNT) (q := .FB_PSTAT) (i := p) (j := 0) (i' := p) (j' := 0) (by decide) rfl rfl
  have control : Reg.FB_PCTL p ≠ Reg.FB_PCNT p :=
    Part.addr_ne (p := .FB_PCNT) (q := .FB_PCTL) (i := p) (j := 0) (i' := p) (j' := 0) (by decide) rfl rfl
  rw [State.portUnlock, if_pos locked]
  extract_lets lost
  have port : (lost.port p).locked = false := congrArg FabPort.locked (State.port_modPort_self (by exact known))
  have stands : lost.portState p = s.portState p := State.f_of_reg _ (State.reg_satF_ne _ _ state)
  have skip : lost.flag (Reg.FB_PCTL p) Fld.FB_PCTL_DET_SKIP = s.flag (Reg.FB_PCTL p) Fld.FB_PCTL_DET_SKIP :=
    State.flag_of_reg _ (State.reg_satF_ne _ _ control)
  have losses : lost.f (Reg.FB_PCNT p) Fld.FB_PCNT_LOCK_LOSS = min (s.f (Reg.FB_PCNT p) Fld.FB_PCNT_LOCK_LOSS + 1) 65535 :=
    State.f_satF_self _ _ _ (by decide)
  rw [stands]
  split
  · obtain ⟨at', open', count⟩ := State.portDetect_stands (s := lost) (p := p) (by rw [State.modPort_length]; exact known)
    rw [at', open', count, skip]
    exact ⟨rfl, losses, rfl⟩
  · exact ⟨port, losses, stands⟩

/-! ### The commands -/

/-- Settles O38: the device sees the lock of its returns alone; frame lock (`frameLock_return`), block lock gained (`returnLock_shown`,
`returnLock_bun`) and lost (`returnLoss_shown`, `returnLoss_bun`, `bunState_returnLoss`) of a return, and those of a port (`frameLock_port`,
`portLock_locks`, `portUnlock_loses`). -/
theorem locksAreGainedAndLost : Obligations.LocksAreGainedAndLost := by
  refine ⟨fun t b l other => ?_, fun t b => ?_, fun t p => ?_⟩
  · have out : l.val ≠ 6 := fun e => other (Fin.ext e)
    exact ⟨Runs.of (fun s => s.frameLock (.lane b l) true) (fun _ => rfl) fun s _ => if_neg fun h => out h.1,
      Runs.of (fun s => s.frameLock (.lane b l) false) (fun _ => rfl) fun s _ => if_neg fun h => out h.1,
      Runs.of (fun s => s.blockLock (.lane b l)) (fun _ => rfl) fun s _ => if_neg out,
      Runs.of (fun s => s.blockLoss (.lane b l)) (fun _ => rfl) fun s _ => if_neg out⟩
  · refine ⟨?_, ?_, ?_, ?_, ?_, ?_⟩
    · exact Runs.of (fun s => s.frameLock (.lane b 6) true) (fun _ => rfl) fun s ⟨many, trains⟩ =>
        State.frameLock_return rfl (bundleKnown many b) trains
    · exact Runs.of (fun s => s.frameLock (.lane b 6) false) (fun _ => rfl) fun s ⟨many, trains⟩ =>
        State.frameLock_return rfl (bundleKnown many b) trains
    · refine Runs.of (fun s => s.returnLock b.val) (fun _ => rfl) fun s ⟨many, open', inLock⟩ => ?_
      obtain ⟨locked, thawed⟩ := State.returnLock_shown open' (by omega) (by omega)
      rw [State.returnLock_bun open' (by omega) (by omega) (bundleKnown many b), inLock]
      exact ⟨locked, thawed, rfl, rfl⟩
    · refine Runs.of (fun s => s.returnLock b.val) (fun _ => rfl) fun s ⟨many, open', active, blind⟩ => ?_
      obtain ⟨locked, thawed⟩ := State.returnLock_shown open' (by omega) (by omega)
      rw [State.returnLock_bun open' (by omega) (by omega) (bundleKnown many b), blind]
      exact ⟨locked, thawed, rfl, if_pos (Or.inr rfl)⟩
    · refine Runs.of (fun s => s.returnLoss b.val) (fun _ => rfl) fun s ⟨many, locked⟩ => ?_
      obtain ⟨open', frozen, flag, count⟩ := State.returnLoss_shown locked
      exact ⟨open', frozen, State.returnLoss_bun locked (bundleKnown many b), flag, count, State.bunState_returnLoss locked⟩
    · exact Runs.of (fun s => s.returnLoss b.val) (fun _ => rfl) fun s open' => if_neg (Bool.eq_false_iff.mp open')
  · have known {s : State} (many : s.kf.ports.length = 8) : p.val < s.kf.ports.length := many.symm ▸ p.isLt
    refine ⟨?_, ?_, ?_, ?_, ?_⟩
    · exact Runs.of (fun s => s.frameLock (.port p) true) (fun _ => rfl) fun s ⟨many, trains⟩ => State.frameLock_port (known many) trains
    · exact Runs.of (fun s => s.frameLock (.port p) false) (fun _ => rfl) fun s ⟨many, trains⟩ => State.frameLock_port (known many) trains
    · exact Runs.of (fun s => s.portLock p.val) (fun _ => rfl) fun s ⟨many, low, high⟩ => State.portLock_locks (known many) low high
    · exact Runs.of (fun s => s.portUnlock p.val) (fun _ => rfl) fun s ⟨many, locked⟩ => State.portUnlock_loses (known many) locked
    · exact Runs.of (fun s => s.portUnlock p.val) (fun _ => rfl) fun s open' => if_neg (Bool.eq_false_iff.mp open')

end Sys2Proof.Machine

/-! ## The coding of blocks -/

namespace Sys2Proof.Machine

/-! ### Bits of numbers (R231) -/

@[simp] theorem length_bitsLow (w v : Nat) : (bitsLow w v).length = w := by simp [bitsLow]

theorem bitsLow_succ (w v : Nat) : bitsLow (w + 1) v = v.testBit 0 :: bitsLow w (v / 2) := by
  simp only [bitsLow, List.range_succ_eq_map, List.map_cons, List.map_map]
  refine congrArg (_ :: ·) (List.map_congr_left fun i _ => ?_)
  exact Nat.testBit_succ v i

/-- The number that the low bits of a number spell. -/
theorem ofBits_bitsLow (w v : Nat) : ofBits (bitsLow w v) = v % 2 ^ w := by
  induction w generalizing v with
  | zero => simp [bitsLow, ofBits, Nat.mod_one]
  | succ w ih =>
    rw [bitsLow_succ, ofBits, ih, Nat.pow_succ, Nat.mul_comm (2 ^ w) 2, Nat.mod_mul, Nat.testBit_zero]
    rcases Nat.mod_two_eq_zero_or_one v with h | h <;> simp [h]

/-! ### CRC-32 (R235) -/

theorem crcStep_lt {c : Nat} (x : Bool) (h : c < 2 ^ 32) : crcStep c x < 2 ^ 32 := by
  refine Nat.xor_lt_two_pow (Nat.lt_of_le_of_lt (Nat.div_le_self c 2) h) ?_
  split <;> decide

theorem crc32_lt (bits : List Bool) : crc32 bits < 2 ^ 32 :=
  Nat.xor_lt_two_pow (List.foldlRecOn (motive := (· < 2 ^ 32)) bits crcStep (by decide) fun _ h x _ => crcStep_lt x h) (by decide)

/-! ### Control blocks (R235) -/

/-- The bits of a control block before its CRC. -/
def ctlHead (w0 w1 w2 w3 : Nat) : List Bool := bitsLow 64 w0 ++ bitsLow 64 w1 ++ bitsLow 64 w2 ++ bitsLow 32 w3

theorem length_ctlHead (w0 w1 w2 w3 : Nat) : (ctlHead w0 w1 w2 w3).length = 224 := by simp [ctlHead]

theorem ctlBlock_bits (w0 w1 w2 w3 : Nat) :
    (ctlBlock w0 w1 w2 w3).bits = ctlHead w0 w1 w2 w3 ++ bitsLow 32 (crc32 (ctlHead w0 w1 w2 w3)) := rfl

theorem ctlBlock_length (w0 w1 w2 w3 : Nat) : (ctlBlock w0 w1 w2 w3).bits.length = 256 := by
  rw [ctlBlock_bits, List.length_append, length_ctlHead, length_bitsLow]

theorem ctlBlock_crcGood (w0 w1 w2 w3 : Nat) : crcGood (ctlBlock w0 w1 w2 w3).bits = true := by
  rw [crcGood, ctlBlock_bits, List.drop_left' (length_ctlHead ..), List.take_left' (length_ctlHead ..), ofBits_bitsLow,
    Nat.mod_eq_of_lt (crc32_lt _), beq_self_eq_true]

theorem bitsLow_take (w v : Nat) {n : Nat} (h : n ≤ w) : (bitsLow w v).take n = bitsLow n v := by
  rw [bitsLow, ← List.map_take, List.take_range, Nat.min_eq_left h, bitsLow]

theorem ctlBlock_type (w0 w1 w2 w3 : Nat) : blockType (ctlBlock w0 w1 w2 w3).bits = w0 % 256 := by
  have first : (ctlBlock w0 w1 w2 w3).bits.take 8 = (bitsLow 64 w0).take 8 := by
    simp only [ctlBlock_bits, ctlHead, List.append_assoc]
    exact List.take_append_of_le_length (by simp)
  rw [blockType, first, bitsLow_take 64 w0 (by decide)]
  exact ofBits_bitsLow 8 w0

/-! ### Stuffing and scrambling undone (R232, R233) -/

/-- A receiver takes out what stuffing put in, and finds no wrong bit. -/
theorem unstuff_stuff (x : Bool) (n : Nat) (l : List Bool) (short : n < 40) :
    unstuff x n (stuff x n l).1 = (l, (stuff x n l).2.1, (stuff x n l).2.2.1, 0) := by
  induction l generalizing x n with
  | nil => rfl
  | cons y r ih =>
    have room : n ≠ 40 := Nat.ne_of_lt short
    have grows : nextRun x n y ≤ 40 := by
      unfold nextRun
      split <;> omega
    by_cases full : nextRun x n y = 40
    · simp [stuff, unstuff, full, room, ih (!y) 1 (by decide)]
    · simp [stuff, unstuff, full, room, ih y (nextRun x n y) (by omega)]

/-- The descrambler, from the history that the scrambler began with, gives back its bits. -/
theorem descramble_scramble (h : Nat) (l : List Bool) : descramble h (scramble h l).1 = (l, (scramble h l).2) := by
  induction l generalizing h with
  | nil => rfl
  | cons d r ih => simp [scramble, descramble, ih]

theorem length_headerBits (data bad : Bool) : (headerBits data bad).length = 4 := by
  cases bad <;> cases data <;> rfl

/-- What a lane sends of a block without trim and without an injection under way. -/
theorem LaneTx.block_plain (x : LaneTx) (k : Block) (free : x.injLeft = 0) :
    x.block k 0 =
      let q := scramble x.scr k.bits
      let r := stuff x.runBit x.runLen (headerBits k.data false ++ q.1)
      { x with scr := q.2, sent := x.sent ++ r.1, runBit := r.2.1, runLen := r.2.2.1, stuffed := x.stuffed + r.2.2.2, injLeft := 0 } := by
  simp [LaneTx.block, free]

/-- A receiver in the sender's state gets a block back. -/
theorem LaneRx.take_block (x : LaneTx) (k : Block) (free : x.injLeft = 0) (short : x.runLen < 40) (whole : k.bits.length = 256) :
    ({ scr := x.scr, runBit := x.runBit, runLen := x.runLen } : LaneRx).take ((x.block k 0).sent.drop x.sent.length) =
      { rx := { scr := (x.block k 0).scr, runBit := (x.block k 0).runBit, runLen := (x.block k 0).runLen }, stuffErr := 0, header := true
        payload := if k.data then none else some k.bits } := by
  have head (l : List Bool) : (headerBits k.data false ++ l).take 4 = headerBits k.data false := List.take_left' (length_headerBits _ _)
  have rest (l : List Bool) : (headerBits k.data false ++ l).drop 4 = l := List.drop_left' (length_headerBits _ _)
  rw [LaneTx.block_plain x k free]
  simp only [List.drop_left, LaneRx.take, unstuff_stuff _ _ _ short, head, rest, descramble_scramble, whole]
  cases k.data <;> rfl

end Sys2Proof.Machine

/-! ## What a bundle sends at a packet boundary -/

namespace Sys2Proof.Machine

variable {s t u : State} {b l : Nat} {p q : Packet} {w : Wire} {ks : List Block} {isB : Bool}

/-! ### The choice does not look at the dealing (R241, R248) -/

theorem Dealt.bun_eq (h : Dealt b s t) : ∃ d, t.bun b = (s.bun b).withDealing d := by
  obtain ⟨d, rfl⟩ := h
  rcases State.bun_modBun_or (s := s) (fun x => x.withDealing d) b b with e | e
  · exact ⟨⟨(s.bun b).lanes, (s.bun b).turn, (s.bun b).freeAt, (s.bun b).stream⟩, e⟩
  · exact ⟨d, e⟩

theorem Dealt.refill (h : Dealt b s t) : Dealt b (s.refill b) (t.refill b) := by
  obtain ⟨d, rfl⟩ := h
  refine ⟨d, ?_⟩
  simp only [State.refill, State.modBun_modBun]
  rfl

theorem Dealt.nextP (h : Dealt b s t) : t.nextP b = s.nextP b := by
  obtain ⟨d, e⟩ := h.bun_eq
  rw [State.nextP, e, h.flag, h.bunState]
  rfl

theorem Dealt.avail (h : Dealt b s t) (isB : Bool) : t.avail b isB = s.avail b isB := by
  obtain ⟨d, e⟩ := h.bun_eq
  simp only [State.avail, e, h.bunState, h.f]
  rfl

theorem Dealt.nextNew (h : Dealt b s t) (isB : Bool) : t.nextNew b isB = s.nextNew b isB := by
  obtain ⟨d, e⟩ := h.bun_eq
  rw [State.nextNew, e, h.avail, h.bunState]
  rfl

/-- The new packet that goes next, if one is ready: where both classes are, B takes its turn (R241). -/
def State.pick (s : State) (b : Nat) : Option Packet :=
  match s.nextNew b false, s.nextNew b true with
  | some n, some w => some (if s.f Reg.EG_CFG Fld.EG_CFG_B_RATIO ≤ (s.bun b).bTurn then w else n)
  | some n, none => some n
  | none, o => o

theorem Dealt.pick (h : Dealt b s t) : t.pick b = s.pick b := by
  rw [State.pick, h.nextNew, h.nextNew, h.f, h.bun Bundle.bTurn fun _ _ => rfl]
  rfl

theorem State.sendClass_picked (picked : s.pick b = some p) : ∃ contested, s.sendClass b = s.sendNew b p contested := by
  unfold State.pick at picked
  unfold State.sendClass
  cases n : s.nextNew b false <;> cases w : s.nextNew b true <;> simp only [n, w, Option.some.injEq, reduceCtorEq] at picked <;> subst picked
  · exact ⟨false, rfl⟩
  · exact ⟨false, rfl⟩
  · exact ⟨true, rfl⟩

theorem State.sendClass_idle (none' : s.pick b = none) : s.sendClass b = s.sendIdle b := by
  unfold State.pick at none'
  unfold State.sendClass
  cases n : s.nextNew b false <;> cases w : s.nextNew b true <;> simp only [n, w, reduceCtorEq] at none'
  rfl

/-! ### A packet goes out (R230, R236) -/

/-- From `s` to `t` one item has gone out on bundle `b`, as these blocks, and the rest of the bundle has at most noted its waiting for credit, the
FE it owes and its replay buffer. -/
structure Sends (b : Nat) (w : Wire) (ks : List Block) (s t : State) : Prop where
  wire : t.wire = s.wire ++ [w]
  stream : ∃ k, (t.bun b).stream = ks.drop k
  regs : ∀ a, a ≠ Reg.EG_BSTAT b → t.reg a = s.reg a
  link : ∀ x : Field, x.lo + x.width ≤ 11 ∨ 23 ≤ x.lo → t.f (Reg.EG_BSTAT b) x = s.f (Reg.EG_BSTAT b) x
  bun : ∀ {α : Type} (g : Bundle → α), (∀ x d owed n m, g { Bundle.withDealing x d with feBlind := owed, stallN := n, stallB := m } = g x) →
    g (t.bun b) = g (s.bun b)

/-- What follows a packet changes only what `Sends` leaves open. -/
theorem Sends.modBun {f : Bundle → Bundle} (h : Sends b w ks s t) (stream : ∀ x, (f x).stream = x.stream)
    (open' : ∀ x, ∃ d owed n m, f x = { Bundle.withDealing x d with feBlind := owed, stallN := n, stallB := m }) : Sends b w ks s (t.modBun b f) where
  wire := h.wire
  stream := by
    rw [State.bun_modBun_keep Bundle.stream stream]
    exact h.stream
  regs := h.regs
  link := h.link
  bun g keeps := by
    rw [State.bun_modBun_keep g fun x => ?_, h.bun g keeps]
    obtain ⟨d, owed, n, m, e⟩ := open' x
    rw [e, keeps]

theorem Sends.stallCheck (h : Sends b w ks s t) : Sends b w ks s (t.stallCheck b) :=
  h.modBun (fun _ => rfl) fun x => ⟨⟨x.lanes, x.turn, x.freeAt, x.stream⟩, x.feBlind, _, _, rfl⟩

theorem Sends.feSent (h : Sends b w ks s t) : Sends b w ks s (t.feSent b q) := by
  unfold State.feSent
  split
  · exact h.modBun (fun _ => rfl) fun x => ⟨⟨x.lanes, x.turn, x.freeAt, x.stream⟩, false, x.stallN, x.stallB, rfl⟩
  · exact h

theorem Sends.showReplay (h : Sends b w ks s t) : Sends b w ks s (t.showReplay b) where
  wire := h.wire
  stream := h.stream
  regs a other := (State.reg_showReplay_ne other).trans (h.regs a other)
  link x apart := (State.f_showReplay t b x apart).trans (h.link x apart)
  bun := h.bun

/-- An item that is put on the wire and dealt. -/
theorem State.emit_deal_sends (s : State) (w : Wire) (ks : List Block) (known : b < s.eg.length) : Sends b w ks s ((s.emit w).deal b ks) where
  wire := ((s.emit w).deal_dealt b ks).wire
  stream := State.deal_stream ks known
  regs a _ := State.reg_congr ((s.emit w).deal_dealt b ks).regs a
  link _ _ := ((s.emit w).deal_dealt b ks).f _ _
  bun g keeps := ((s.emit w).deal_dealt b ks).bun g fun x d => keeps x d x.feBlind x.stallN x.stallB

/-! ### The packets of an active bundle (R241) -/

/-- What a P packet takes along from its queue. -/
def Bundle.tookP (x : Bundle) (p : Packet) : Bundle := { x with ford := x.ford.drop 1, tokens := x.tokens - p.tokens * 17920 }

theorem State.sendP_sends (known : b < s.eg.length) :
    Sends b (.packet b (p.atSend (s.bunState b == 4) (s.bun b).feBlind)) ((p.atSend (s.bunState b == 4) (s.bun b).feBlind).blocks b)
      (s.modBun b fun x => x.tookP p) (s.sendP b p) :=
  (State.emit_deal_sends _ _ _ (by simpa using known)).feSent

theorem State.sendReplay_sends (known : b < s.eg.length) :
    Sends b (.packet b p) (p.blocks b) ((s.modBun b fun x => { x with due := x.due.drop 1 }).addF (Reg.EG_BCNT0 b) Fld.EG_BCNT0_PKTS_RESENT 1)
      (s.sendReplay b p) :=
  State.emit_deal_sends _ _ _ (by simpa using known)

/-- What a new packet takes and leaves on its bundle: its place in the landing, its credits, and a place in the replay buffer (R248, R249). -/
def Bundle.tookNew (x : Bundle) (p q : Packet) (blind contested : Bool) (now : Nat) : Bundle :=
  { x with
    landing := x.landing.erase p
    replay := if blind then x.replay else x.replay ++ [q]
    lastAdvance := if x.replay.isEmpty then now else x.lastAdvance
    consN := if p.cls = 2 then x.consN else x.consN + p.cost
    consB := if p.cls = 2 then x.consB + p.cost else x.consB
    bTurn := if contested then (if p.cls = 2 then 0 else x.bTurn + 1) else x.bTurn }

/-- A new packet as it is sent: with the next LSN. -/
def State.numbered (s : State) (b : Nat) (p : Packet) : Packet :=
  { p.atSend (s.bunState b == 4) (s.bun b).feBlind with lsn := s.f (Reg.EG_BSTAT b) Fld.EG_BSTAT_NEXT_LSN }

theorem State.sendNew_sends (contested : Bool) (known : b < s.eg.length) :
    Sends b (.packet b (s.numbered b p)) ((s.numbered b p).blocks b)
      ((s.setF (Reg.EG_BSTAT b) Fld.EG_BSTAT_NEXT_LSN (s.f (Reg.EG_BSTAT b) Fld.EG_BSTAT_NEXT_LSN + 1)).modBun b
        fun x => x.tookNew p (s.numbered b p) (s.bunState b == 4) contested s.clock.now)
      (s.sendNew b p contested) :=
  (State.emit_deal_sends _ _ _ (by simpa using known)).feSent.showReplay

theorem State.sendIdle_sends (known : b < s.eg.length) : Sends b (.block b 0 (s.lanesOf b) []) [idleBlock] s (s.sendIdle b) :=
  State.emit_deal_sends _ _ _ known

end Sys2Proof.Machine

/-! ## PACKET_TRANSMIT -/

namespace Sys2Proof.Machine

variable {s t u : State} {b l : Nat} {p q : Packet} {r : List Packet}

/-! ### The packet boundary (R241) -/

/-- Bundle `b` at a packet boundary, its stream in the round of now and its bucket filled. -/
def State.ready (s : State) (b : Nat) : State := (s.catchUp b (s.clock.now * 14)).refill b

theorem State.ready_dealt (s : State) (b : Nat) : Dealt b (s.refill b) (s.ready b) := (s.catchUp_dealt b _).refill

theorem State.ready_length (s : State) (b : Nat) : (s.ready b).eg.length = s.eg.length := (s.ready_dealt b).length.trans (State.modBun_length _ _ _)

theorem State.ready_wire (s : State) (b : Nat) : (s.ready b).wire = s.wire := (s.ready_dealt b).wire

theorem State.ready_clock (s : State) (b : Nat) : (s.ready b).clock = s.clock := (s.ready_dealt b).clock

theorem State.ready_f (s : State) (b a : Nat) (x : Field) : (s.ready b).f a x = s.f a x := (s.ready_dealt b).f a x

theorem State.ready_lanesOf (s : State) (b : Nat) : (s.ready b).lanesOf b = s.lanesOf b := (s.ready_dealt b).lanesOf b

theorem State.ready_bunState (s : State) (b : Nat) : (s.ready b).bunState b = s.bunState b := (s.ready_dealt b).bunState b

theorem State.ready_bun {α : Type} (s : State) (b : Nat) (g : Bundle → α)
    (keeps : ∀ x d n m, g { Bundle.withDealing x d with tokens := n, tokensAt := m } = g x) : g ((s.ready b).bun b) = g (s.bun b) := by
  refine ((s.ready_dealt b).bun g fun x d => keeps x d x.tokens x.tokensAt).trans (s.refill_bun b g fun x n m => ?_)
  exact keeps x ⟨x.lanes, x.turn, x.freeAt, x.stream⟩ n m

theorem State.ready_atSend (s : State) (b : Nat) (p : Packet) :
    p.atSend ((s.ready b).bunState b == 4) ((s.ready b).bun b).feBlind = p.atSend (s.bunState b == 4) (s.bun b).feBlind := by
  rw [s.ready_bunState, s.ready_bun b Bundle.feBlind fun _ _ _ _ => rfl]

/-- At a packet boundary the stream is empty, and the round of its next block has come. -/
structure State.Free (s : State) (b : Nat) : Prop where
  many : b < s.eg.length
  quiet : (s.bun b).stream = []
  due : (s.bun b).freeAt ≤ s.clock.now * 14

/-- An active bundle that is not stopped, at a packet boundary. -/
structure State.Sending (s : State) (b : Nat) : Prop extends s.Free b where
  lanes : s.lanesOf b ≠ 0
  active : s.bunActive b = true
  goes : s.flag (Reg.EG_BCTL b) Fld.EG_BCTL_STOP = false

theorem State.Free.boundary (h : s.Free b) : s.atBoundary b = true := by
  rw [State.atBoundary, h.quiet, List.isEmpty_nil, Bool.true_and, decide_eq_true h.due]

theorem State.Sending.transmit (h : s.Sending b) : s.transmit b = ((s.ready b).sendNext b).stallCheck b := by
  simp only [State.transmit, State.runStream_empty h.quiet, h.boundary, h.lanes, h.active, h.goes, if_true, if_false, Bool.false_eq_true]
  rfl

/-- A P packet that the bucket can pay goes first. -/
theorem State.Sending.sendsP (h : s.Sending b) (next : (s.refill b).nextP b = some p) :
    Sends b (.packet b (p.atSend (s.bunState b == 4) (s.bun b).feBlind)) ((p.atSend (s.bunState b == 4) (s.bun b).feBlind).blocks b)
      ((s.ready b).modBun b fun x => x.tookP p) (s.transmit b) := by
  have goes : (s.ready b).sendNext b = (s.ready b).sendP b p := by rw [State.sendNext, (s.ready_dealt b).nextP, next]
  rw [h.transmit, goes, ← s.ready_atSend]
  exact (State.sendP_sends (by rw [s.ready_length]; exact h.many)).stallCheck

/-- Without one, the next packet that is due for replay. -/
theorem State.Sending.sendsReplay (h : s.Sending b) (noP : (s.refill b).nextP b = none) (next : (s.bun b).due = p :: r) :
    Sends b (.packet b p) (p.blocks b)
      (((s.ready b).modBun b fun x => { x with due := x.due.drop 1 }).addF (Reg.EG_BCNT0 b) Fld.EG_BCNT0_PKTS_RESENT 1) (s.transmit b) := by
  have goes : (s.ready b).sendNext b = (s.ready b).sendReplay b p := by
    rw [State.sendNext, (s.ready_dealt b).nextP, noP, s.ready_bun b Bundle.due fun _ _ _ _ => rfl, next]
  rw [h.transmit, goes]
  exact (State.sendReplay_sends (by rw [s.ready_length]; exact h.many)).stallCheck

theorem State.ready_sendNext (noP : (s.refill b).nextP b = none) (noDue : (s.bun b).due = []) : (s.ready b).sendNext b = (s.ready b).sendClass b := by
  rw [State.sendNext, (s.ready_dealt b).nextP, noP, s.ready_bun b Bundle.due fun _ _ _ _ => rfl, noDue]

theorem State.ready_numbered (s : State) (b : Nat) (p : Packet) : (s.ready b).numbered b p = s.numbered b p := by
  rw [State.numbered, s.ready_atSend, s.ready_f, State.numbered]

/-- Without that, the new packet whose turn it is, with the next LSN. -/
theorem State.Sending.sendsNew (h : s.Sending b) (noP : (s.refill b).nextP b = none) (noDue : (s.bun b).due = [])
    (next : (s.refill b).pick b = some p) : ∃ contested,
    Sends b (.packet b (s.numbered b p)) ((s.numbered b p).blocks b)
      (((s.ready b).setF (Reg.EG_BSTAT b) Fld.EG_BSTAT_NEXT_LSN (s.f (Reg.EG_BSTAT b) Fld.EG_BSTAT_NEXT_LSN + 1)).modBun b
        fun x => x.tookNew p (s.numbered b p) (s.bunState b == 4) contested s.clock.now) (s.transmit b) := by
  obtain ⟨contested, goes⟩ := State.sendClass_picked ((s.ready_dealt b).pick.trans next)
  refine ⟨contested, ?_⟩
  have sends := State.sendNew_sends (s := s.ready b) (b := b) (p := p) contested (by rw [s.ready_length]; exact h.many)
  rw [s.ready_numbered, s.ready_bunState, s.ready_f, s.ready_clock] at sends
  rw [h.transmit, State.ready_sendNext noP noDue, goes]
  exact sends.stallCheck

/-- And where nothing is ready, IDLE. -/
theorem State.Sending.sendsIdle (h : s.Sending b) (noP : (s.refill b).nextP b = none) (noDue : (s.bun b).due = [])
    (none' : (s.refill b).pick b = none) : Sends b (.block b 0 (s.lanesOf b) []) [idleBlock] (s.ready b) (s.transmit b) := by
  have sends := State.sendIdle_sends (s := s.ready b) (b := b) (by rw [s.ready_length]; exact h.many)
  rw [h.transmit, State.ready_sendNext noP noDue, State.sendClass_idle ((s.ready_dealt b).pick.trans none'), ← s.ready_lanesOf]
  exact sends.stallCheck

/-- A stopped bundle sends IDLE. -/
theorem State.Free.sendsIdle (h : s.Free b) (lanes : s.lanesOf b ≠ 0) (stopped : s.bunState b = 5) (sails : s.allMoored b = false) :
    Sends b (.block b 0 (s.lanesOf b) []) [idleBlock] (s.catchUp b (s.clock.now * 14)) (s.transmit b) := by
  have idle : s.bunActive b = false := by rw [State.bunActive, stopped]; rfl
  have eq : s.transmit b = (s.catchUp b (s.clock.now * 14)).sendIdle b := by
    simp only [State.transmit, State.runStream_empty h.quiet, h.boundary, lanes, idle, stopped, sails, if_true, if_false, Bool.false_eq_true,
      Bool.not_false, and_self]
  have caught := s.catchUp_dealt b (s.clock.now * 14)
  rw [eq, ← caught.lanesOf b]
  exact State.sendIdle_sends (by rw [caught.length]; exact h.many)

/-- A bundle in LOCK sends IDLE on the lanes in LOCK. -/
theorem State.Free.lockIdle (h : s.Free b) (none' : s.lanesOf b = 0) (training : s.bunState b = 1) (some' : s.lanesIn b 3 ≠ []) :
    s.transmit b = s.lockIdle b := by
  simp only [State.transmit, State.runStream_empty h.quiet, h.boundary, none', training, some', if_true, ne_eq, not_false_eq_true, and_self]

theorem State.Free.stops (h : s.Free b) (lanes : s.lanesOf b ≠ 0) (active : s.bunActive b = true)
    (stop : s.flag (Reg.EG_BCTL b) Fld.EG_BCTL_STOP = true) : s.transmit b = s.stopNow b := by
  simp only [State.transmit, State.runStream_empty h.quiet, h.boundary, lanes, active, stop, if_true, if_false]

/-- Before the round of the next block nothing happens. -/
theorem State.transmit_early (early : s.clock.now * 14 < (s.bun b).freeAt) : s.transmit b = s := by
  have busy : s.atBoundary b = false := by rw [State.atBoundary, decide_eq_false (by omega), Bool.and_false]
  simp only [State.transmit, State.runStream_early early, busy, if_false, Bool.false_eq_true]

/-! ### The round of a bundle in LOCK, and the last block of a round -/

theorem State.laneAux_idleOn {ls : List Nat} {i : Nat} (once : ls.Nodup) (known : b < s.eg.length) (seven : i < (s.bun b).lanes.length) :
    ((s.idleOn b ls).laneAux b i).tx = if i ∈ ls then (s.laneAux b i).tx.block idleBlock 0 else (s.laneAux b i).tx := by
  rw [State.idleOn, show (fun (s : State) l => s.laneSend b l idleBlock 0) =
    fun s l => s.modLane b l ((fun _ x => { x with tx := x.tx.block idleBlock 0 }) l) from rfl, State.laneAux_foldl_modLane _ once known seven]
  split <;> rfl

theorem State.idleOn_lanes (s : State) (b : Nat) (ls : List Nat) : ((s.idleOn b ls).bun b).lanes.length = (s.bun b).lanes.length :=
  List.foldlRecOn (motive := fun t : State => (t.bun b).lanes.length = (s.bun b).lanes.length) _ _ rfl fun _ h _ _ =>
    (State.modLane_lanes _ _ _ _).trans h

theorem lanesIn_nodup (s : State) (b st : Nat) : (s.lanesIn b st).Nodup := sevenLanes_nodup.filter _

theorem mem_lanesIn {st : Nat} : l ∈ s.lanesIn b st ↔ l < 7 ∧ s.laneState b l = st := by
  rw [State.lanesIn, List.mem_filter, mem_sevenLanes, beq_iff_eq]

theorem State.modLane_bun {α : Type} (s : State) (b l : Nat) (f : LaneAux → LaneAux) (g : Bundle → α)
    (keeps : ∀ x ls, g { x with lanes := ls } = g x) : g ((s.modLane b l f).bun b) = g (s.bun b) :=
  State.bun_modBun_keep g fun x => keeps x _

theorem State.idleOn_bun {α : Type} (s : State) (b : Nat) (ls : List Nat) (g : Bundle → α) (keeps : ∀ x ls, g { x with lanes := ls } = g x) :
    g ((s.idleOn b ls).bun b) = g (s.bun b) :=
  List.foldlRecOn (motive := fun t : State => g (t.bun b) = g (s.bun b)) _ _ rfl fun _ h _ _ => (State.modLane_bun _ _ _ _ g keeps).trans h

/-- A round begins with IDLE on the lanes that are out. -/
def State.roundBegun (s : State) (b : Nat) : State := if (s.bun b).turn = 0 then s.idleOn b (s.lanesIn b 5) else s

/-- A lane that is not out, and the place in the rounds, do not change by that. -/
theorem State.roundBegun_leaves (known : b < s.eg.length) (seven : l < (s.bun b).lanes.length) (carries : s.laneState b l ≠ 5) :
    ((s.roundBegun b).laneAux b l).tx = (s.laneAux b l).tx ∧ ((s.roundBegun b).bun b).freeAt = (s.bun b).freeAt ∧
      ((s.roundBegun b).bun b).lanes.length = (s.bun b).lanes.length ∧ (s.roundBegun b).eg.length = s.eg.length ∧
      (s.roundBegun b).wire = s.wire ∧ (s.roundBegun b).clock = s.clock := by
  have idle := s.idleOn_dealt b (s.lanesIn b 5)
  have not' : l ∉ s.lanesIn b 5 := fun h => carries (mem_lanesIn.mp h).2
  unfold State.roundBegun
  split
  · exact ⟨(State.laneAux_idleOn (lanesIn_nodup s b 5) known seven).trans (if_neg not'), s.idleOn_bun b _ Bundle.freeAt fun _ _ => rfl,
      s.idleOn_lanes b _, idle.length, idle.wire, idle.clock⟩
  · exact ⟨rfl, rfl, rfl, rfl, rfl, rfl⟩

/-- The last block of a stream goes to the last lane of its round, and ends the round. -/
theorem State.transmit_last {k : Block} (known : b < s.eg.length) (seven : (s.bun b).lanes.length = 7) (stream : (s.bun b).stream = [k])
    (open' : s.held b = false) (due : (s.bun b).freeAt ≤ s.clock.now * 14) (busy : s.clock.now * 14 < (s.bun b).freeAt + 65)
    (last : (s.bun b).turn + 1 = (s.activeLanes b).length) (lane : (s.activeLanes b)[(s.bun b).turn]? = some l) (carries : s.laneState b l ≠ 5) :
    ((s.transmit b).laneAux b l).tx = (s.laneAux b l).tx.block k 0 ∧ ((s.transmit b).bun b).stream = [] ∧ ((s.transmit b).bun b).turn = 0 ∧
      ((s.transmit b).bun b).freeAt = (s.bun b).freeAt + 65 ∧ (s.transmit b).wire = s.wire := by
  have below : l < (s.bun b).lanes.length :=
    seven ▸ mem_sevenLanes.mp (List.mem_filter.mp (List.mem_of_getElem? lane)).1
  obtain ⟨tx, free, lanes, many, wire, clock⟩ := State.roundBegun_leaves known below carries
  have next : (s.activeLanes b).getD (s.bun b).turn 0 = l := by rw [List.getD_eq_getElem?_getD, lane, Option.getD_some]
  have ends : s.runStream b = ((s.roundBegun b).laneSend b l k 0).modBun b fun x => { x with turn := 0, freeAt := x.freeAt + 65, stream := [] } := by
    rw [State.runStream, stream, State.deal, if_neg (by simp [open', due]), State.deal, State.dealBlock, next]
    simp only [last, Nat.lt_irrefl, if_false, State.modBun_modBun]
    rfl
  have room : b < ((s.roundBegun b).laneSend b l k 0).eg.length := by rw [(State.laneSend_dealt _ b l k 0).length, many]; exact known
  have bun := State.bun_modBun_self (s := (s.roundBegun b).laneSend b l k 0) (fun x => { x with turn := 0, freeAt := x.freeAt + 65, stream := [] }) room
  have at' : (((s.roundBegun b).laneSend b l k 0).bun b).freeAt = (s.bun b).freeAt := (State.modLane_bun _ b l _ Bundle.freeAt fun _ _ => rfl).trans free
  rw [← ends] at bun
  have ended : s.transmit b = s.runStream b := by
    have waits : (s.runStream b).atBoundary b = false := by
      rw [State.atBoundary, bun, (s.runStream_dealt b).clock]
      simp only [at', decide_eq_false (show ¬ (s.bun b).freeAt + 65 ≤ s.clock.now * 14 by omega), Bool.and_false]
    simp only [State.transmit, waits, if_false, Bool.false_eq_true]
  rw [ended, bun, (s.runStream_dealt b).wire]
  refine ⟨?_, rfl, rfl, congrArg (· + 65) at', rfl⟩
  rw [State.laneAux, bun]
  exact (congrArg LaneAux.tx (State.laneAux_modLane_self _ (many ▸ known) (lanes ▸ below))).trans (congrArg (·.block k 0) tx)

end Sys2Proof.Machine

/-! ## The stop of a bundle -/

namespace Sys2Proof.Machine

variable {s t u : State} {b : Nat} {q : Packet}

/-! ### A dropped frame queues gap notices alone (R193, R238) -/

/-- The queues of bundle `b` hold what they held, and gap notices. -/
structure OnlyGaps (b : Nat) (s t : State) : Prop where
  landing : ∀ p ∈ (t.bun b).landing, p ∈ (s.bun b).landing ∨ p.ptype = 4
  ford : ∀ p ∈ (t.bun b).ford, p ∈ (s.bun b).ford ∨ p.ptype = 4
  replay : (t.bun b).replay = (s.bun b).replay
  due : (t.bun b).due = (s.bun b).due

theorem OnlyGaps.refl (b : Nat) (s : State) : OnlyGaps b s s := ⟨fun _ => .inl, fun _ => .inl, rfl, rfl⟩

theorem OnlyGaps.keep (h : OnlyGaps b s t) (same : u.eg = t.eg) : OnlyGaps b s u := by
  have e := State.bun_congr same b
  exact ⟨e ▸ h.landing, e ▸ h.ford, e ▸ h.replay, e ▸ h.due⟩

theorem OnlyGaps.ite {c : Prop} [Decidable c] (h : OnlyGaps b s t) (k : OnlyGaps b s u) : OnlyGaps b s (if c then t else u) := by
  split <;> assumption

theorem OnlyGaps.foldl {α : Type} {f : State → α → State} {l : List α} (h : OnlyGaps b s t) (step : ∀ t x, OnlyGaps b s t → OnlyGaps b s (f t x)) :
    OnlyGaps b s (l.foldl f t) := List.foldlRecOn l f h fun t ht x _ => step t x ht

theorem OnlyGaps.modBun {c : Nat} {f : Bundle → Bundle} (h : OnlyGaps b s t) (landing : ∀ x, ∀ p ∈ (f x).landing, p ∈ x.landing ∨ p.ptype = 4)
    (ford : ∀ x, ∀ p ∈ (f x).ford, p ∈ x.ford ∨ p.ptype = 4) (replay : ∀ x, (f x).replay = x.replay) (due : ∀ x, (f x).due = x.due) :
    OnlyGaps b s (t.modBun c f) := by
  rcases State.bun_modBun_or (s := t) f c b with e | e
  · exact ⟨e ▸ h.landing, e ▸ h.ford, e ▸ h.replay, e ▸ h.due⟩
  · refine ⟨fun p hp => ?_, fun p hp => ?_, e ▸ (replay _).trans h.replay, e ▸ (due _).trans h.due⟩
    · exact (landing _ p (e ▸ hp)).elim (h.landing p) .inr
    · exact (ford _ p (e ▸ hp)).elim (h.ford p) .inr

variable {st : RegFile} {c seq cont reason mask : Nat}

/-- A queue with one packet more. -/
theorem mem_queued {l : List Packet} (gap : q.ptype = 4) : ∀ p ∈ l ++ [q], p ∈ l ∨ p.ptype = 4 := fun p hp => by
  rcases List.mem_append.mp hp with hp | hp
  · exact .inl hp
  · exact .inr (List.mem_singleton.mp hp ▸ gap)

theorem OnlyGaps.sendGap {i : Nat} (h : OnlyGaps b s t) : OnlyGaps b s (t.sendGap st c seq cont reason i) :=
  .ite h (.ite (.ite (h.modBun (fun _ _ => .inl) (fun _ => mem_queued rfl) (fun _ => rfl) fun _ => rfl) h)
    (.ite (h.keep rfl) (h.modBun (fun _ => mem_queued rfl) (fun _ _ => .inl) (fun _ => rfl) fun _ => rfl)))

theorem OnlyGaps.sendGaps (h : OnlyGaps b s t) : OnlyGaps b s (t.sendGaps st c seq cont reason mask) := h.foldl fun _ _ => .sendGap

theorem OnlyGaps.dropBerth {o : Occupant} (h : OnlyGaps b s t) : OnlyGaps b s (t.dropBerth o) :=
  h.keep ((State.dropBerth_within (Foot.refl _ _ _) (Within.refl _ _ _ _)).eg (by decide) (by decide))

theorem OnlyGaps.dropFrame (h : OnlyGaps b s t) : OnlyGaps b s (t.dropFrame st c seq cont reason) := by
  unfold State.dropFrame
  refine .ite h ?_
  dsimp only
  split
  · exact OnlyGaps.sendGaps (.foldl (h.keep rfl) fun _ _ => .dropBerth)
  · exact .ite (OnlyGaps.sendGaps (.foldl (h.keep rfl) fun _ _ => .dropBerth)) (.foldl (h.keep rfl) fun _ _ k => k.keep rfl)

/-! ### A stop at a packet boundary (R256) -/

/-- A bundle without its queues but for gap notices, that moors with the next ALIGN round if `moors`. -/
def Bundle.emptied (x : Bundle) (moors : Bool) : Bundle :=
  { x with
    landing := x.landing.filter (fun p => p.ptype == 4), ford := x.ford.filter (fun p => p.ptype == 4), replay := [], due := []
    frames := x.frames.map (unsent (x.landing ++ x.ford)), shedDue := [], rejoinDue := [], stallN := none, stallB := none
    moorRound := if moors then some x.round else none }

/-- A bundle that stops keeps the gap notices that were queued, and nothing else. -/
theorem State.stopNow_stops (known : b < s.eg.length) :
    (s.stopNow b).bunState b = 5 ∧ (∀ p ∈ ((s.stopNow b).bun b).landing, p.ptype = 4) ∧ (∀ p ∈ ((s.stopNow b).bun b).ford, p.ptype = 4) ∧
      ((s.stopNow b).bun b).replay = [] ∧ ((s.stopNow b).bun b).due = [] := by
  unfold State.stopNow
  extract_lets x gone linked emptied shown told
  generalize dropped : (lostFrames gone).foldl _ told = v
  have state : told.bunState b = 5 :=
    (State.f_showReplay emptied b _ (by decide)).trans ((s.closeRound b).bunState_setLink b (s.lanesOf b) (by decide))
  have room : b < linked.eg.length := by rw [State.setLink_length, (s.closeRound_dealt b).length]; exact known
  have queues : told.bun b = (linked.bun b).emptied (linked.flag (Reg.LN_BCTL b) Fld.LN_BCTL_MOOR_STOP) := State.bun_modBun_self _ room
  have gaps : OnlyGaps b told v := by
    rw [← dropped]
    refine (OnlyGaps.refl b told).foldl fun t k h => OnlyGaps.dropFrame ?_
    exact h.modBun (fun _ _ => .inl) (fun _ _ => .inl) (fun _ => rfl) fun _ => rfl
  have stays : Within (Machine.maskOf [.fs, .eg, .pipe, .fy, .FS_BSTATE, .CTX_ST1]) 0 0 told v := by
    rw [← dropped]
    refine Within.foldl (fun t k h => State.dropFrame_within ⟨by decide, .inl (by decide)⟩ ?_) (Within.refl _ _ _ _)
    exact Within.modBun (.inl (by decide)) h
  refine ⟨(stays.keepF .EG_BSTAT b 0 _ rfl (by decide)).trans state, fun p hp => ?_, fun p hp => ?_, ?_, ?_⟩
  · refine (gaps.landing p hp).elim (fun old => ?_) id
    rw [queues] at old
    exact beq_iff_eq.mp (List.mem_filter.mp old).2
  · refine (gaps.ford p hp).elim (fun old => ?_) id
    rw [queues] at old
    exact beq_iff_eq.mp (List.mem_filter.mp old).2
  · rw [gaps.replay, queues, Bundle.emptied]
  · rw [gaps.due, queues, Bundle.emptied]

theorem State.flag_stopNow (s : State) (b : Nat) (x : Field) : (s.stopNow b).flag (Reg.EG_BCTL b) x = s.flag (Reg.EG_BCTL b) x :=
  State.flag_of_reg _ ((State.stopNow_within (Foot.refl _ _ _) (Within.refl _ _ _ _)).keepReg .EG_BCTL b 0 rfl (by decide))

end Sys2Proof.Machine

/-! ## ALIGN rounds, and the statement on packets and ALIGN blocks -/

namespace Sys2Proof.Machine

variable {s t : State} {b l r mask : Nat} {stuffed : List Nat}

/-! ### The steps of an ALIGN round (R234) -/

/-- Bits stuffed in rounds that are left out count on their lanes. -/
def LaneTx.stuffMore (x : LaneTx) (n : Nat) : LaneTx := { x with stuffed := x.stuffed + n }

/-- A lane's ALIGN block, with what is trimmed taken off. -/
def LaneTx.align (x : LaneTx) (l mask r : Nat) : LaneTx :=
  ({ x with stuffed := x.stuffed - x.trim } : LaneTx).block (roundBlock 0x2D l mask x.trim r) x.trim

/-- The lanes of an ALIGN round before their blocks. -/
def State.alignFrom (s : State) (b : Nat) (stuffed : List Nat) : State :=
  (s.alignLanes b).foldl (fun t l => t.modLane b l fun x => { x with tx := x.tx.stuffMore (stuffed.getD l 0) }) ((s.runStream b).closeRound b)

/-- An ALIGN round's block on the wire. -/
def State.alignWire (s : State) (b : Nat) (stuffed : List Nat) : Wire :=
  .block b 0x2D (laneMask (s.alignLanes b))
    (s.lanesOf b :: (s.bun b).round % 2 ^ 48 :: (s.alignLanes b).map fun l => ((s.alignFrom b stuffed).laneAux b l).tx.trim)

/-- The lanes of an ALIGN round after their blocks. -/
def State.alignSent (s : State) (b : Nat) (stuffed : List Nat) : State :=
  (s.alignLanes b).foldl (fun t l => t.alignLane b (s.lanesOf b) (s.bun b).round l) ((s.alignFrom b stuffed).emit (s.alignWire b stuffed))

/-- The next ALIGN round is 1,024 rounds later, and the stream goes on after this one. -/
def Bundle.aligned (x : Bundle) (r : Nat) : Bundle := { x with round := r + 1024, freeAt := max x.freeAt (x.roundStart r) + 65 }

/-- Bundle `b` sends rounds: it is active, or stopped and not moored. -/
def State.rounds (s : State) (b : Nat) : Prop := s.bunActive b = true ∨ s.bunState b = 5 ∧ s.allMoored b = false

theorem State.alignRound_eq (rounds : s.rounds b) (due : s.roundAt b (s.bun b).round ≤ s.clock.now) :
    s.alignRound b stuffed = ((s.alignSent b stuffed).modBun b fun x => x.aligned (s.bun b).round).runStream b := by
  refine if_pos ⟨?_, due⟩
  rcases rounds with active | ⟨stopped, sails⟩
  · simp [active]
  · simp [stopped, sails]

theorem State.alignRound_early (early : s.clock.now < s.roundAt b (s.bun b).round) : s.alignRound b stuffed = s := if_neg fun h => by omega

theorem State.alignFrom_dealt (s : State) (b : Nat) (stuffed : List Nat) : Dealt b s (s.alignFrom b stuffed) :=
  ((s.runStream_dealt b).trans (State.closeRound_dealt _ b)).trans (Dealt.foldl (fun _ _ => Dealt.modLane _) _)

theorem State.alignLane_eq (s : State) (b mask r l : Nat) :
    s.alignLane b mask r l = s.modLane b l fun x => { x with tx := x.tx.align l mask r } := by
  simp only [State.alignLane, State.laneSend, State.modLane_modLane]
  exact State.modLane_congr rfl

theorem State.alignSent_dealt (s : State) (b : Nat) (stuffed : List Nat) :
    Dealt b ((s.alignFrom b stuffed).emit (s.alignWire b stuffed)) (s.alignSent b stuffed) :=
  Dealt.foldl (fun t l => by rw [State.alignLane_eq]; exact Dealt.modLane _) _

/-- What an ALIGN round puts on the wire, and the next one. -/
theorem State.alignRound_sends (known : b < s.eg.length) (rounds : s.rounds b) (due : s.roundAt b (s.bun b).round ≤ s.clock.now) :
    ((s.alignRound b stuffed).bun b).round = (s.bun b).round + 1024 ∧ (s.alignRound b stuffed).wire = s.wire ++ [s.alignWire b stuffed] := by
  have dealt := ((s.alignSent b stuffed).modBun b fun x => x.aligned (s.bun b).round).runStream_dealt b
  have sent := s.alignSent_dealt b stuffed
  have room : b < (s.alignSent b stuffed).eg.length := by
    rw [sent.length, State.emit_eg, (s.alignFrom_dealt b stuffed).length]; exact known
  rw [State.alignRound_eq rounds due, dealt.bun Bundle.round fun _ _ => rfl, State.bun_modBun_self _ room, dealt.wire, State.modBun_wire, sent.wire,
    State.emit_wire, (s.alignFrom_dealt b stuffed).wire]
  exact ⟨rfl, rfl⟩

/-! ### An ALIGN round at a packet's end -/

theorem State.foldl_modLane_bun {α : Type} (ls : List Nat) (f : Nat → LaneAux → LaneAux) (g : Bundle → α)
    (keeps : ∀ x ls, g { x with lanes := ls } = g x) (s : State) : g ((ls.foldl (fun s l => s.modLane b l (f l)) s).bun b) = g (s.bun b) :=
  List.foldlRecOn (motive := fun t : State => g (t.bun b) = g (s.bun b)) _ _ rfl fun _ h _ _ => (State.modLane_bun _ _ _ _ g keeps).trans h

theorem State.foldl_modLane_lanes (ls : List Nat) (f : Nat → LaneAux → LaneAux) (s : State) :
    ((ls.foldl (fun s l => s.modLane b l (f l)) s).bun b).lanes.length = (s.bun b).lanes.length :=
  List.foldlRecOn (motive := fun t : State => (t.bun b).lanes.length = (s.bun b).lanes.length) _ _ rfl fun _ h _ _ =>
    (State.modLane_lanes _ _ _ _).trans h

theorem alignLanes_nodup (s : State) (b : Nat) : (s.alignLanes b).Nodup := sevenLanes_nodup.filter _

theorem lt_of_mem_alignLanes (h : l ∈ s.alignLanes b) : l < 7 := mem_sevenLanes.mp (List.mem_filter.mp h).1

/-- An ALIGN round of a bundle whose stream is empty, at the beginning of a round. -/
structure State.Resting (s : State) (b : Nat) : Prop where
  known : b < s.eg.length
  seven : (s.bun b).lanes.length = 7
  quiet : (s.bun b).stream = []
  fresh : (s.bun b).turn = 0

theorem State.Resting.alignFrom (h : s.Resting b) : s.alignFrom b stuffed =
    (s.alignLanes b).foldl (fun t l => t.modLane b l ((fun l x => { x with tx := x.tx.stuffMore (stuffed.getD l 0) }) l)) s := by
  rw [State.alignFrom, State.runStream_empty h.quiet, State.closeRound_begun h.fresh]

theorem State.Resting.alignFrom_tx (h : s.Resting b) (mem : l ∈ s.alignLanes b) :
    ((s.alignFrom b stuffed).laneAux b l).tx = (s.laneAux b l).tx.stuffMore (stuffed.getD l 0) := by
  rw [h.alignFrom, State.laneAux_foldl_modLane _ (alignLanes_nodup s b) h.known (h.seven ▸ lt_of_mem_alignLanes mem), if_pos mem]

theorem State.alignSent_eq (s : State) (b : Nat) (stuffed : List Nat) : s.alignSent b stuffed = (s.alignLanes b).foldl
    (fun t l => t.modLane b l ((fun l x => { x with tx := x.tx.align l (s.lanesOf b) (s.bun b).round }) l))
      ((s.alignFrom b stuffed).emit (s.alignWire b stuffed)) := by
  simp only [State.alignSent, State.alignLane_eq]

theorem State.Resting.alignSent_tx (h : s.Resting b) (mem : l ∈ s.alignLanes b) :
    ((s.alignSent b stuffed).laneAux b l).tx = ((s.laneAux b l).tx.stuffMore (stuffed.getD l 0)).align l (s.lanesOf b) (s.bun b).round := by
  have known : b < ((s.alignFrom b stuffed).emit (s.alignWire b stuffed)).eg.length := by
    rw [State.emit_eg, (s.alignFrom_dealt b stuffed).length]; exact h.known
  have seven : (((s.alignFrom b stuffed).emit (s.alignWire b stuffed)).bun b).lanes.length = 7 := by
    rw [State.bun_congr (State.emit_eg ..), h.alignFrom, State.foldl_modLane_lanes, h.seven]
  rw [State.alignSent_eq, State.laneAux_foldl_modLane _ (alignLanes_nodup s b) known (seven ▸ lt_of_mem_alignLanes mem), if_pos mem,
    State.laneAux_congr (State.emit_eg ..), h.alignFrom_tx mem]

theorem State.Resting.alignSent_bun {α : Type} (h : s.Resting b) (g : Bundle → α) (keeps : ∀ x ls, g { x with lanes := ls } = g x) :
    g ((s.alignSent b stuffed).bun b) = g (s.bun b) := by
  rw [State.alignSent_eq, State.foldl_modLane_bun _ _ g keeps, State.bun_congr (State.emit_eg ..), h.alignFrom, State.foldl_modLane_bun _ _ g keeps]

/-- The trims on the wire, and each lane's block. -/
theorem State.Resting.alignRound (h : s.Resting b) (rounds : s.rounds b) (due : s.roundAt b (s.bun b).round ≤ s.clock.now) :
    s.alignWire b stuffed = .block b 0x2D (laneMask (s.alignLanes b)) (s.lanesOf b :: (s.bun b).round % 2 ^ 48 ::
        (s.alignLanes b).map fun l => ((s.laneAux b l).tx.stuffMore (stuffed.getD l 0)).trim) ∧
      ((s.alignRound b stuffed).bun b).freeAt = max (s.bun b).freeAt ((s.bun b).roundStart (s.bun b).round) + 65 ∧
      ∀ l ∈ s.alignLanes b, ((s.alignRound b stuffed).laneAux b l).tx =
        ((s.laneAux b l).tx.stuffMore (stuffed.getD l 0)).align l (s.lanesOf b) (s.bun b).round := by
  have room : b < (s.alignSent b stuffed).eg.length := by
    rw [(s.alignSent_dealt b stuffed).length, State.emit_eg, (s.alignFrom_dealt b stuffed).length]; exact h.known
  have quiet : ((s.alignSent b stuffed).bun b).stream = [] := (h.alignSent_bun Bundle.stream fun _ _ => rfl).trans h.quiet
  have bun : ((s.alignRound b stuffed).bun b) = ((s.alignSent b stuffed).bun b).aligned (s.bun b).round := by
    rw [State.alignRound_eq rounds due, State.runStream_empty, State.bun_modBun_self _ room]
    rw [State.bun_modBun_self _ room]
    exact quiet
  refine ⟨?_, ?_, fun l mem => ?_⟩
  · have trims : ((s.alignLanes b).map fun l => ((s.alignFrom b stuffed).laneAux b l).tx.trim) =
        (s.alignLanes b).map fun l => ((s.laneAux b l).tx.stuffMore (stuffed.getD l 0)).trim :=
      List.map_congr_left fun l mem => congrArg LaneTx.trim (h.alignFrom_tx mem)
    rw [State.alignWire, trims]
  · rw [bun]
    exact h.alignSent_bun (fun x => max x.freeAt (x.roundStart (s.bun b).round) + 65) fun _ _ => rfl
  · rw [State.laneAux, bun]
    exact h.alignSent_tx mem

/-! ### What a packet leaves on its bundle -/

variable {p : Packet} {rest : List Packet}

theorem State.ready_known (h : s.Free b) : b < (s.ready b).eg.length := by rw [s.ready_length]; exact h.many

/-- After a P packet (R241, R242). -/
theorem State.Sending.after_p (h : s.Sending b) (next : (s.refill b).nextP b = some p) :
    ((s.transmit b).bun b).ford = (s.bun b).ford.drop 1 ∧
      ((s.transmit b).bun b).tokens = ((s.refill b).bun b).tokens - p.tokens * 17920 ∧
      ((s.transmit b).bun b).landing = (s.bun b).landing ∧ ((s.transmit b).bun b).due = (s.bun b).due := by
  have sends := h.sendsP next
  rw [sends.bun Bundle.ford fun _ _ _ _ _ => rfl, sends.bun Bundle.tokens fun _ _ _ _ _ => rfl, sends.bun Bundle.landing fun _ _ _ _ _ => rfl,
    sends.bun Bundle.due fun _ _ _ _ _ => rfl, State.bun_modBun_self _ (State.ready_known h.toFree),
    ← (s.ready_dealt b).bun Bundle.tokens fun _ _ => rfl]
  exact ⟨s.ready_bun b (fun x => x.ford.drop 1) fun _ _ _ _ => rfl, rfl, s.ready_bun b Bundle.landing fun _ _ _ _ => rfl,
    s.ready_bun b Bundle.due fun _ _ _ _ => rfl⟩

theorem resentCount_ne_link (b : Nat) : Reg.EG_BCNT0 b ≠ Reg.EG_BSTAT b :=
  Part.addr_ne (p := .EG_BSTAT) (q := .EG_BCNT0) (i := b) (j := 0) (i' := b) (j' := 0) (by decide) rfl rfl

/-- After a packet that was due for replay (R251). -/
theorem State.Sending.after_replay (h : s.Sending b) (noP : (s.refill b).nextP b = none) (next : (s.bun b).due = p :: rest) :
    ((s.transmit b).bun b).due = rest ∧ ((s.transmit b).bun b).replay = (s.bun b).replay ∧
      (s.transmit b).f (Reg.EG_BCNT0 b) Fld.EG_BCNT0_PKTS_RESENT = (s.f (Reg.EG_BCNT0 b) Fld.EG_BCNT0_PKTS_RESENT + 1) % 2 ^ 32 := by
  have sends := h.sendsReplay noP next
  have bun : (((s.ready b).modBun b fun x => { x with due := x.due.drop 1 }).addF (Reg.EG_BCNT0 b) Fld.EG_BCNT0_PKTS_RESENT 1).bun b =
      { (s.ready b).bun b with due := ((s.ready b).bun b).due.drop 1 } := State.bun_modBun_self _ (State.ready_known h.toFree)
  rw [sends.bun Bundle.due fun _ _ _ _ _ => rfl, sends.bun Bundle.replay fun _ _ _ _ _ => rfl, bun,
    State.f_of_reg _ (sends.regs _ (resentCount_ne_link b)), State.f_addF_self _ _ _ (by decide), State.f_modBun, s.ready_f]
  refine ⟨?_, s.ready_bun b Bundle.replay fun _ _ _ _ => rfl, rfl⟩
  exact (s.ready_bun b (fun x => x.due.drop 1) fun _ _ _ _ => rfl).trans (by rw [next, List.drop_one, List.tail_cons])

/-- After a new packet (R248, R249, R254). -/
theorem State.Sending.after_new (h : s.Sending b) (noP : (s.refill b).nextP b = none) (noDue : (s.bun b).due = [])
    (next : (s.refill b).pick b = some p) :
    (s.transmit b).wire = s.wire ++ [.packet b (s.numbered b p)] ∧ ((s.transmit b).bun b).landing = (s.bun b).landing.erase p ∧
      (s.transmit b).f (Reg.EG_BSTAT b) Fld.EG_BSTAT_NEXT_LSN = (s.f (Reg.EG_BSTAT b) Fld.EG_BSTAT_NEXT_LSN + 1) % 2 ^ 16 ∧
      ((s.transmit b).bun b).replay = (if s.bunState b = 4 then (s.bun b).replay else (s.bun b).replay ++ [s.numbered b p]) ∧
      ((s.transmit b).bun b).consN = (if p.cls = 2 then (s.bun b).consN else (s.bun b).consN + p.cost) ∧
      ((s.transmit b).bun b).consB = (if p.cls = 2 then (s.bun b).consB + p.cost else (s.bun b).consB) ∧
      ∃ k, ((s.transmit b).bun b).stream = ((s.numbered b p).blocks b).drop k := by
  obtain ⟨contested, sends⟩ := h.sendsNew noP noDue next
  have bun := State.bun_modBun_self (s := (s.ready b).setF (Reg.EG_BSTAT b) Fld.EG_BSTAT_NEXT_LSN (s.f (Reg.EG_BSTAT b) Fld.EG_BSTAT_NEXT_LSN + 1))
    (fun x => x.tookNew p (s.numbered b p) (s.bunState b == 4) contested s.clock.now) (State.ready_known h.toFree)
  rw [sends.wire, sends.bun Bundle.landing fun _ _ _ _ _ => rfl, sends.link _ (by decide), sends.bun Bundle.replay fun _ _ _ _ _ => rfl,
    sends.bun Bundle.consN fun _ _ _ _ _ => rfl, sends.bun Bundle.consB fun _ _ _ _ _ => rfl, bun, State.f_modBun,
    State.f_setF_self _ _ _ _ (by decide)]
  have keep {α : Type} (g : Bundle → α) (keeps : ∀ x d n m, g { Bundle.withDealing x d with tokens := n, tokensAt := m } = g x) :
      g (((s.ready b).setF (Reg.EG_BSTAT b) Fld.EG_BSTAT_NEXT_LSN (s.f (Reg.EG_BSTAT b) Fld.EG_BSTAT_NEXT_LSN + 1)).bun b) = g (s.bun b) :=
    s.ready_bun b g keeps
  refine ⟨congrArg (· ++ _) (s.ready_wire b), keep (fun x => x.landing.erase p) fun _ _ _ _ => rfl, rfl, ?_,
    keep (fun x => if p.cls = 2 then x.consN else x.consN + p.cost) fun _ _ _ _ => rfl,
    keep (fun x => if p.cls = 2 then x.consB + p.cost else x.consB) fun _ _ _ _ => rfl, sends.stream⟩
  by_cases blind : s.bunState b = 4
  · rw [if_pos blind, Bundle.tookNew, blind]
    exact keep Bundle.replay fun _ _ _ _ => rfl
  · rw [if_neg blind, Bundle.tookNew, beq_eq_false_iff_ne.mpr blind]
    exact keep (fun x => x.replay ++ [s.numbered b p]) fun _ _ _ _ => rfl

/-- The round of a bundle in LOCK (R247, R267). -/
theorem State.Free.after_lockIdle (h : s.Free b) (seven : (s.bun b).lanes.length = 7) :
    (s.lockIdle b).wire = s.wire ++ [.block b 0 (laneMask (s.lanesIn b 3)) []] ∧ ((s.lockIdle b).bun b).freeAt = s.clock.now * 14 + 65 ∧
      (s.lockIdle b).regs = s.regs ∧ ∀ l < 7, ((s.lockIdle b).laneAux b l).tx =
        if s.laneState b l = 3 then (s.laneAux b l).tx.block idleBlock 0 else (s.laneAux b l).tx := by
  have idle := (s.emit (.block b 0 (laneMask (s.lanesIn b 3)) [])).idleOn_dealt b (s.lanesIn b 3)
  have bun := State.bun_modBun_self (s := (s.emit (.block b 0 (laneMask (s.lanesIn b 3)) [])).idleOn b (s.lanesIn b 3))
    (fun x => { x with freeAt := max x.freeAt (s.clock.now * 14) + 65 }) (by rw [idle.length]; exact h.many)
  have eq : s.lockIdle b = ((s.emit (.block b 0 (laneMask (s.lanesIn b 3)) [])).idleOn b (s.lanesIn b 3)).modBun b
      fun x => { x with freeAt := max x.freeAt (s.clock.now * 14) + 65 } :=
    State.modBun_congr (by rw [idle.clock]; rfl)
  refine ⟨by rw [eq]; exact idle.wire, ?_, by rw [eq]; exact idle.regs, fun l below => ?_⟩
  · rw [eq, bun]
    have at' : (((s.emit (.block b 0 (laneMask (s.lanesIn b 3)) [])).idleOn b (s.lanesIn b 3)).bun b).freeAt = (s.bun b).freeAt :=
      State.idleOn_bun _ b _ Bundle.freeAt fun _ _ => rfl
    simp only [at', Nat.max_eq_right h.due]
  · rw [eq, State.laneAux, bun]
    have tx := State.laneAux_idleOn (s := s.emit (.block b 0 (laneMask (s.lanesIn b 3)) [])) (lanesIn_nodup s b 3) h.many (i := l) (seven ▸ below)
    rw [if_congr (mem_lanesIn.trans (and_iff_right below)) rfl rfl] at tx
    exact tx

/-! ### The commands -/

/-- Settles O33: the coding of a block (`LaneRx.take_block`) and control blocks (`ctlBlock_length`, `ctlBlock_type`, `ctlBlock_crcGood`); at a packet
boundary P (`Sending.sendsP`), replay (`Sending.sendsReplay`), a new packet (`Sending.after_new`), IDLE (`Sending.sendsIdle`, `Free.sendsIdle`,
`Free.lockIdle`) or the stop (`Free.stops`, `stopNow_stops`); the dealing of the last block of a round (`transmit_last`); and ALIGN rounds
(`alignRound_sends`, `Resting.alignRound`). -/
theorem packetsAndAlignBlocksAreSent : Obligations.PacketsAndAlignBlocksAreSent := by
  refine ⟨fun x k free short whole => LaneRx.take_block x k free short whole,
    fun w0 w1 w2 w3 => ⟨rfl, ctlBlock_length .., ctlBlock_type .., ctlBlock_crcGood ..⟩,
    fun t b => ⟨fun p => ?_, fun p r => ?_, fun p => ?_, ?_, ?_, ?_, ?_, ?_, fun k l => ?_, fun stuffed => ⟨?_, ?_, ?_⟩⟩⟩
  · refine Runs.of (fun s => s.transmit b.val) (fun _ => rfl) fun s ⟨⟨⟨⟨many, quiet, due⟩, lanes⟩, active, goes⟩, next⟩ => ?_
    have at' : s.Sending b.val := ⟨⟨bundleKnown many b, quiet, due⟩, lanes, active, goes⟩
    have sends := at'.sendsP next
    obtain ⟨ford, tokens, landing, later⟩ := at'.after_p next
    exact ⟨sends.wire.trans (congrArg (· ++ _) (s.ready_wire _)), ford, tokens, sends.stream, landing, later⟩
  · refine Runs.of (fun s => s.transmit b.val) (fun _ => rfl) fun s ⟨⟨⟨⟨many, quiet, due⟩, lanes⟩, active, goes⟩, noP, next⟩ => ?_
    have at' : s.Sending b.val := ⟨⟨bundleKnown many b, quiet, due⟩, lanes, active, goes⟩
    have sends := at'.sendsReplay noP next
    obtain ⟨later, replay, resent⟩ := at'.after_replay noP next
    exact ⟨sends.wire.trans (congrArg (· ++ _) (s.ready_wire _)), later, replay, sends.stream, resent⟩
  · refine Runs.of (fun s => s.transmit b.val) (fun _ => rfl) fun s ⟨⟨⟨⟨many, quiet, due⟩, lanes⟩, active, goes⟩, noP, noDue, next⟩ => ?_
    have at' : s.Sending b.val := ⟨⟨bundleKnown many b, quiet, due⟩, lanes, active, goes⟩
    exact at'.after_new noP noDue next
  · refine Runs.of (fun s => s.transmit b.val) (fun _ => rfl) fun s ⟨⟨⟨⟨many, quiet, due⟩, lanes⟩, active, goes⟩, noP, noDue, none'⟩ => ?_
    have at' : s.Sending b.val := ⟨⟨bundleKnown many b, quiet, due⟩, lanes, active, goes⟩
    have sends := at'.sendsIdle noP noDue none'
    exact ⟨sends.wire.trans (congrArg (· ++ _) (s.ready_wire _)), (sends.bun Bundle.landing fun _ _ _ _ _ => rfl).trans
      (s.ready_bun _ Bundle.landing fun _ _ _ _ => rfl), sends.stream⟩
  · refine Runs.of (fun s => s.transmit b.val) (fun _ => rfl) fun s ⟨⟨⟨many, quiet, due⟩, lanes⟩, stopped, sails⟩ => ?_
    have sends := State.Free.sendsIdle ⟨bundleKnown many b, quiet, due⟩ lanes stopped sails
    exact ⟨sends.wire.trans (congrArg (· ++ _) (s.catchUp_dealt _ _).wire), sends.stream⟩
  · refine Runs.of (fun s => s.transmit b.val) (fun _ => rfl) fun s ⟨⟨⟨many, quiet, due⟩, lanes⟩, active, stop⟩ => ?_
    have free : s.Free b.val := ⟨bundleKnown many b, quiet, due⟩
    obtain ⟨state, landing, -, replay, -⟩ := State.stopNow_stops free.many
    rw [free.stops lanes active stop]
    exact ⟨state, landing, replay⟩
  · refine Runs.of (fun s => s.transmit b.val) (fun _ => rfl) fun s ⟨⟨many, quiet, due⟩, seven, none', training, some'⟩ => ?_
    have free : s.Free b.val := ⟨bundleKnown many b, quiet, due⟩
    obtain ⟨wire, at', regs, lanes⟩ := free.after_lockIdle seven
    rw [free.lockIdle none' training some']
    exact ⟨wire, at', regs, fun l => lanes l.val l.isLt⟩
  · exact Runs.of (fun s => s.transmit b.val) (fun _ => rfl) fun s early => State.transmit_early early
  · exact Runs.of (fun s => s.transmit b.val) (fun _ => rfl) fun s ⟨many, seven, stream, open', due, busy, last, lane, carries⟩ =>
      State.transmit_last (bundleKnown many b) seven stream open' due busy last lane carries
  · refine Runs.of (fun s => s.alignRound b.val stuffed) (fun _ => rfl) fun s ⟨many, rounds, due⟩ => ?_
    obtain ⟨next, wire⟩ := State.alignRound_sends (stuffed := stuffed) (bundleKnown many b) rounds due
    refine ⟨next, _, List.length_map _, fun n mem => ?_, wire⟩
    obtain ⟨l, -, rfl⟩ := List.mem_map.mp mem
    exact Nat.min_le_right _ _
  · refine Runs.of (fun s => s.alignRound b.val stuffed) (fun _ => rfl) fun s ⟨⟨many, rounds, due⟩, seven, quiet, fresh⟩ => ?_
    obtain ⟨-, wire⟩ := State.alignRound_sends (stuffed := stuffed) (bundleKnown many b) rounds due
    obtain ⟨row, free, lanes⟩ := State.Resting.alignRound (stuffed := stuffed) ⟨bundleKnown many b, seven, quiet, fresh⟩ rounds due
    exact ⟨wire.trans (by rw [row]; rfl), free, lanes⟩
  · exact Runs.of (fun s => s.alignRound b.val stuffed) (fun _ => rfl) fun s early => State.alignRound_early early

end Sys2Proof.Machine

/-! ## The receiver of a return, and bundles that train -/

namespace Sys2Proof.Machine

variable {s t u : State} {b l i a n : Nat} {f x : Field} {bits : List Bool}

/-! ### A saturating counter that may stay -/

/-- A saturating counter takes what has come. -/
def State.tally (s : State) (a : Nat) (f : Field) (n : Nat) : State := if n = 0 then s else s.satF a f n

theorem State.f_lt (s : State) (a : Nat) (f : Field) : s.f a f < 2 ^ f.width := Nat.mod_lt _ (Nat.two_pow_pos _)

theorem State.f_tally_self (s : State) (a n : Nat) (h : f.lo + f.width ≤ 64) : (s.tally a f n).f a f = min (s.f a f + n) (2 ^ f.width - 1) := by
  unfold State.tally
  split
  · next none' =>
    have := s.f_lt a f
    rw [none', Nat.add_zero, Nat.min_eq_left (by omega)]
  · exact State.f_satF_self a f n h

theorem State.f_tally_disjoint (s : State) (a n : Nat) (apart : x.lo + x.width ≤ f.lo ∨ f.lo + f.width ≤ x.lo) :
    (s.tally a f n).f a x = s.f a x := by
  unfold State.tally
  split
  · rfl
  · exact State.f_setF_disjoint s a f x _ apart

theorem State.reg_tally_ne {c : Nat} (other : c ≠ a) : (s.tally a f n).reg c = s.reg c := by
  unfold State.tally
  split
  · rfl
  · exact State.reg_satF_ne f n other

theorem State.tally_eg (s : State) (a n : Nat) (f : Field) : (s.tally a f n).eg = s.eg := by
  unfold State.tally
  split <;> rfl

/-! ### What the receiver takes (R231 to R233, R235, R280) -/

/-- A RETURN or a CAP with a wrong CRC has come. -/
def Received.bad (r : Received) : Bool := (r.ofType 0x96 false).isSome || (r.ofType 0x5A false).isSome

/-- The receiver's state after the bits of a block. -/
def State.listened (s : State) (b : Nat) (bits : List Bool) : State := s.modLane b 6 fun x => { x with rx := (s.heard b bits).rx }

theorem State.hear_eq (s : State) (b : Nat) (bits : List Bool) : s.hear b bits =
    (((s.listened b bits).tally (Reg.LN_LCNT b 6) Fld.LN_LCNT_STUFF_ERR (s.heard b bits).stuffErr).tally (Reg.LN_LCNT b 6) Fld.LN_LCNT_INVALID_HDR
      (if (s.heard b bits).header then 0 else 1)).tally (Reg.LN_LCNT b 6) Fld.LN_LCNT_CRC_ERR (if (s.heard b bits).bad then 1 else 0) := by
  unfold State.hear
  extract_lets r took stuffed headed
  have first : stuffed = (s.listened b bits).tally (Reg.LN_LCNT b 6) Fld.LN_LCNT_STUFF_ERR r.stuffErr := rfl
  have second : headed = stuffed.tally (Reg.LN_LCNT b 6) Fld.LN_LCNT_INVALID_HDR (if r.header then 0 else 1) := by
    unfold headed State.tally
    cases r.header <;> rfl
  rw [← first, ← second, State.tally, ← Received.bad]
  cases r.bad <;> rfl

theorem State.hear_eg (s : State) (b : Nat) (bits : List Bool) : (s.hear b bits).eg = (s.listened b bits).eg := by
  rw [State.hear_eq, State.tally_eg, State.tally_eg, State.tally_eg]

theorem State.reg_hear_ne (s : State) (b : Nat) (bits : List Bool) (other : a ≠ Reg.LN_LCNT b 6) : (s.hear b bits).reg a = s.reg a := by
  rw [State.hear_eq, State.reg_tally_ne other, State.reg_tally_ne other, State.reg_tally_ne other]
  rfl

theorem State.f_listened (s : State) (b : Nat) (bits : List Bool) (a : Nat) (f : Field) : (s.listened b bits).f a f = s.f a f := rfl

theorem State.hear_counts (s : State) (b : Nat) (bits : List Bool) :
    (s.hear b bits).f (Reg.LN_LCNT b 6) Fld.LN_LCNT_STUFF_ERR =
        min (s.f (Reg.LN_LCNT b 6) Fld.LN_LCNT_STUFF_ERR + (s.heard b bits).stuffErr) 65535 ∧
      (s.hear b bits).f (Reg.LN_LCNT b 6) Fld.LN_LCNT_INVALID_HDR =
        min (s.f (Reg.LN_LCNT b 6) Fld.LN_LCNT_INVALID_HDR + if (s.heard b bits).header then 0 else 1) 65535 ∧
      (s.hear b bits).f (Reg.LN_LCNT b 6) Fld.LN_LCNT_CRC_ERR =
        min (s.f (Reg.LN_LCNT b 6) Fld.LN_LCNT_CRC_ERR + if (s.heard b bits).bad then 1 else 0) 65535 := by
  rw [State.hear_eq]
  refine ⟨?_, ?_, ?_⟩
  · rw [State.f_tally_disjoint _ _ _ (by decide), State.f_tally_disjoint _ _ _ (by decide), State.f_tally_self _ _ _ (by decide), State.f_listened]
    rfl
  · rw [State.f_tally_disjoint _ _ _ (by decide), State.f_tally_self _ _ _ (by decide), State.f_tally_disjoint _ _ _ (by decide), State.f_listened]
    rfl
  · rw [State.f_tally_self _ _ _ (by decide), State.f_tally_disjoint _ _ _ (by decide), State.f_tally_disjoint _ _ _ (by decide), State.f_listened]
    rfl

/-- Of a bundle the receiver changes its own state alone. -/
theorem State.hear_bun {α : Type} (s : State) (b : Nat) (bits : List Bool) (g : Bundle → α) (keeps : ∀ x ls, g { x with lanes := ls } = g x) :
    g ((s.hear b bits).bun b) = g (s.bun b) := by
  rw [State.bun_congr (s.hear_eg b bits)]
  exact State.modLane_bun _ _ _ _ g keeps

theorem State.hear_length (s : State) (b : Nat) (bits : List Bool) : (s.hear b bits).eg.length = s.eg.length := by
  rw [State.hear_eg]
  exact State.modBun_length _ _ _

theorem State.hear_stays (s : State) (b : Nat) (bits : List Bool) : Within 0 (Machine.maskOf [.eg, .LN_LCNT]) b s (s.hear b bits) :=
  State.hear_within ⟨by decide, .inr ⟨rfl, by decide⟩⟩ (Within.refl _ _ _ _)

theorem State.hear_clock (s : State) (b : Nat) (bits : List Bool) : (s.hear b bits).clock = s.clock := (s.hear_stays b bits).clock (by decide)

theorem linkState_ne_count (b l : Nat) : Reg.EG_BSTAT b ≠ Reg.LN_LCNT b l :=
  Part.addr_ne (p := .LN_LCNT) (q := .EG_BSTAT) (i := b) (j := l) (i' := b) (j' := 0) (by decide) rfl rfl

theorem State.hear_link (s : State) (b : Nat) (bits : List Bool) (x : Field) : (s.hear b bits).f (Reg.EG_BSTAT b) x = s.f (Reg.EG_BSTAT b) x :=
  State.f_of_reg _ (s.reg_hear_ne b bits (linkState_ne_count b 6))

theorem State.hear_lane (s : State) (b : Nat) (bits : List Bool) (l : Nat) (x : Field) :
    (s.hear b bits).f (Reg.LN_LSTAT b l) x = s.f (Reg.LN_LSTAT b l) x :=
  State.f_of_reg _ (s.reg_hear_ne b bits
    (Part.addr_ne (p := .LN_LCNT) (q := .LN_LSTAT) (i := b) (j := 6) (i' := b) (j' := l) (by decide) rfl rfl))

/-- A block with a right CRC is not one with a wrong one. -/
theorem Received.ofType_good {r : Received} {type : Nat} (bad : (r.ofType type false).isSome = true) : r.ofType type true = none := by
  unfold Received.ofType at bad ⊢
  cases payload : r.payload with
  | none => rfl
  | some p =>
    rw [payload] at bad
    simp only [Option.isSome_filter, Option.any_some, Bool.and_eq_true, beq_iff_eq] at bad
    simp [Option.filter, bad.2]

/-! ### A bundle trains (R259, R261) -/

theorem State.enterTrain_eq (s : State) (b : Nat) (ls : List Nat) : ∃ t : State,
    Within (Machine.maskOf [.eg, .LN_STATUS, .LN_LSTAT]) 0 0 s t ∧ s.enterTrain b ls = (t.setLink b 1 0).satF (Reg.LN_BSTAT b) Fld.LN_BSTAT_TRAINS 1 := by
  unfold State.enterTrain
  extract_lets trained unlinked
  refine ⟨unlinked, ?_, rfl⟩
  refine Within.modBun (.inl (by decide)) (State.dropLocks_within ⟨by decide, .inl (by decide)⟩ (Within.foldl (fun t l h => ?_) ?_))
  · exact State.modLane_within ⟨by decide, .inl (by decide)⟩ h
  · exact State.setLanes_within ⟨by decide, .inl (by decide)⟩ (Within.refl _ _ _ _)

/-- A bundle that retrains is in TRAINING without lanes, and its flags in EG_STATUS stay. -/
theorem State.retrain_trains (s : State) (b : Nat) : (s.retrain b).bunState b = 1 ∧ (s.retrain b).lanesOf b = 0 ∧
    ∀ x : Field, x.lo + x.width ≤ 16 → (s.retrain b).flag Reg.EG_STATUS x = s.flag Reg.EG_STATUS x := by
  obtain ⟨t, stays, eq⟩ := s.enterTrain_eq b (sevenLanes.filter fun l => l == 6 || (2 ≤ s.laneState b l && s.laneState b l != 6))
  have link : Reg.EG_BSTAT b ≠ Reg.LN_BSTAT b :=
    Part.addr_ne (p := .LN_BSTAT) (q := .EG_BSTAT) (i := b) (j := 0) (i' := b) (j' := 0) (by decide) rfl rfl
  have status : Reg.EG_STATUS ≠ Reg.LN_BSTAT b :=
    Part.addr_ne (p := .LN_BSTAT) (q := .EG_STATUS) (i := b) (j := 0) (i' := 0) (j' := 0) (by decide) rfl rfl
  rw [State.retrain, eq]
  refine ⟨(State.f_of_reg _ (State.reg_satF_ne _ _ link)).trans (t.bunState_setLink b 0 (by decide)),
    (State.f_of_reg _ (State.reg_satF_ne _ _ link)).trans (t.lanesOf_setLink b 1 (by decide)), fun x below => ?_⟩
  rw [State.flag_of_reg _ (State.reg_satF_ne _ _ status), State.flag_setLink _ _ _ _ _ below,
    State.flag_of_reg _ (stays.keepReg .EG_STATUS 0 0 rfl (by decide))]

end Sys2Proof.Machine

/-! ## RETURN: credits, releases, replays and requests -/

namespace Sys2Proof.Machine

variable {s t u : State} {b l i a n : Nat} {m : ReturnMsg}

/-! ### Lanes that are asked for (R246, R252, R253) -/

/-- The bundle with other lists of lanes to leave and to join. -/
def Bundle.asked (x : Bundle) (shed rejoin : List (Nat × Nat)) : Bundle := { x with shedDue := shed, rejoinDue := rejoin }

/-- Lanes have at most been asked for on bundle `b`. -/
def Asked (b : Nat) (s t : State) : Prop := ∃ d e, t = s.modBun b fun x => x.asked d e

theorem Asked.refl (b : Nat) (s : State) : Asked b s s := ⟨(s.bun b).shedDue, (s.bun b).rejoinDue, (State.modBun_self rfl).symm⟩

theorem Asked.trans (h : Asked b s t) (k : Asked b t u) : Asked b s u := by
  obtain ⟨d, e, rfl⟩ := h
  obtain ⟨d', e', rfl⟩ := k
  exact ⟨d', e', State.modBun_modBun _ _ _ _⟩

theorem State.askShed_asked (s : State) (b l : Nat) : Asked b s (s.askShed b l) := by
  unfold State.askShed
  split
  · exact ⟨(s.bun b).shedDue ++ [(l, s.clock.now + 100)], (s.bun b).rejoinDue, State.modBun_congr rfl⟩
  · exact Asked.refl b s

theorem State.askRejoin_asked (s : State) (b l : Nat) : Asked b s (s.askRejoin b l) := by
  unfold State.askRejoin
  split
  · exact ⟨(s.bun b).shedDue, (s.bun b).rejoinDue ++ [(l, s.clock.now + 100)], State.modBun_congr rfl⟩
  · exact Asked.refl b s

/-- A lane of a running bundle's stream that is not yet asked for. -/
theorem State.askShed_asks (below : l < 7) (carries : hasBit (s.lanesOf b) l = true) (runs : s.bunState b = 2 ∨ s.bunState b = 3)
    (fresh : ((s.bun b).shedDue.any fun p => p.1 == l) = false) :
    s.askShed b l = s.modBun b fun x => { x with shedDue := x.shedDue ++ [(l, s.clock.now + 100)] } := if_pos ⟨below, carries, runs, fresh⟩

theorem State.askRejoin_asks (below : l < 7) (out : s.laneState b l = 5) (gone : hasBit (s.lanesOf b) l = false)
    (runs : s.bunState b = 2 ∨ s.bunState b = 3) (fresh : ((s.bun b).rejoinDue.any fun p => p.1 == l) = false) :
    s.askRejoin b l = s.modBun b fun x => { x with rejoinDue := x.rejoinDue ++ [(l, s.clock.now + 100)] } :=
  if_pos ⟨below, out, by rw [gone]; rfl, runs, fresh⟩

/-! ### The steps of a RETURN (R246, R248, R249, R251) -/

/-- What a RETURN brings to any bundle that has a link: EXPECT and the credits. -/
def State.credited (s : State) (b : Nat) (m : ReturnMsg) : State :=
  (s.setF (Reg.EG_BSTAT b) Fld.EG_BSTAT_EXPECT m.expect.toNat).modBun b fun x =>
    { x with credN := m.credN.toNat, credB := m.credB.toNat, lastReturn := s.clock.now }

/-- What a good RETURN does to the replay buffer. -/
def State.acknowledged (s : State) (b : Nat) (m : ReturnMsg) : State :=
  if m.nak then (s.release b m.expect.toNat).nak b m.expect.toNat else s.release b m.expect.toNat

/-- What a RETURN says of the lanes, and what it asks for. -/
def State.requested (s : State) (b : Nat) (m : ReturnMsg) : State :=
  if m.req.val = 1 then (s.noteLanes b m.lanesOk.toNat).askShed b m.reqLane.val
  else if m.req.val = 2 then (s.noteLanes b m.lanesOk.toNat).askRejoin b m.reqLane.val
  else s.noteLanes b m.lanesOk.toNat

theorem State.credited_link (s : State) (b : Nat) (m : ReturnMsg) (x : Field) (apart : x.lo + x.width ≤ 39 ∨ 55 ≤ x.lo) :
    (s.credited b m).f (Reg.EG_BSTAT b) x = s.f (Reg.EG_BSTAT b) x := State.f_setF_disjoint s _ Fld.EG_BSTAT_EXPECT x _ apart

theorem State.credited_expect (s : State) (b : Nat) (m : ReturnMsg) :
    (s.credited b m).f (Reg.EG_BSTAT b) Fld.EG_BSTAT_EXPECT = m.expect.toNat :=
  (State.f_setF_self s _ _ _ (by decide)).trans (Nat.mod_eq_of_lt m.expect.isLt)

theorem State.credited_bunState (s : State) (b : Nat) (m : ReturnMsg) : (s.credited b m).bunState b = s.bunState b :=
  s.credited_link b m _ (by decide)

theorem State.credited_bun (m : ReturnMsg) (known : b < s.eg.length) : (s.credited b m).bun b =
    { s.bun b with credN := m.credN.toNat, credB := m.credB.toNat, lastReturn := s.clock.now } := State.bun_modBun_self _ (by exact known)

theorem State.credited_keep {α : Type} (s : State) (b : Nat) (m : ReturnMsg) (g : Bundle → α)
    (keeps : ∀ x c d r, g { x with credN := c, credB := d, lastReturn := r } = g x) : g ((s.credited b m).bun b) = g (s.bun b) :=
  State.bun_modBun_keep (s := s.setF (Reg.EG_BSTAT b) Fld.EG_BSTAT_EXPECT m.expect.toNat) g fun x => keeps x _ _ _

theorem State.credited_badExpect (s : State) (b : Nat) (m : ReturnMsg) (n : Nat) : (s.credited b m).badExpect b n = s.badExpect b n := by
  rw [State.badExpect, s.credited_link b m _ (by decide), s.credited_keep b m Bundle.replay fun _ _ _ _ => rfl]
  rfl

theorem State.returnRx_unlinked (low : s.bunState b < 2) : s.returnRx b m = s := if_pos low

/-- A blind or stopped bundle takes the lanes' state beside EXPECT and the credits. -/
theorem State.returnRx_blind (blind : s.bunState b = 4 ∨ s.bunState b = 5) :
    s.returnRx b m = ((s.credited b m).modBun b fun x => { x with lanesOk := m.lanesOk.toNat }).stallCheck b := by
  have linked : ¬ s.bunState b < 2 := by omega
  have credited : (s.credited b m).bunState b = 4 ∨ (s.credited b m).bunState b = 5 := by rwa [s.credited_bunState b m]
  unfold State.returnRx
  rw [if_neg linked]
  exact if_pos credited

/-- An EXPECT outside the buffer retrains the bundle. -/
theorem State.returnRx_far (runs : s.bunState b = 2 ∨ s.bunState b = 3) (far : s.badExpect b m.expect.toNat = true) :
    s.returnRx b m = ((s.credited b m).setB Reg.EG_STATUS Fld.EG_STATUS_CAP_BAD true).retrain b := by
  have linked : ¬ s.bunState b < 2 := by omega
  have credited : ¬ ((s.credited b m).bunState b = 4 ∨ (s.credited b m).bunState b = 5) := by rw [s.credited_bunState b m]; omega
  unfold State.returnRx
  rw [if_neg linked]
  exact (if_neg credited).trans (if_pos ((s.credited_badExpect b m _).trans far))

/-- A good RETURN on a running bundle. -/
theorem State.returnRx_good (runs : s.bunState b = 2 ∨ s.bunState b = 3) (good : s.badExpect b m.expect.toNat = false) :
    s.returnRx b m = (((s.credited b m).acknowledged b m).requested b m).stallCheck b := by
  have linked : ¬ s.bunState b < 2 := by omega
  have credited : ¬ ((s.credited b m).bunState b = 4 ∨ (s.credited b m).bunState b = 5) := by rw [s.credited_bunState b m]; omega
  have near : ¬ (s.credited b m).badExpect b m.expect.toNat = true := by rw [s.credited_badExpect, good]; exact Bool.false_ne_true
  unfold State.returnRx
  rw [if_neg linked]
  exact (if_neg credited).trans (if_neg near)

/-! ### Releases and replays (R249, R251) -/

/-- The replay buffer from an LSN on. -/
def fromLsn (ps : List Packet) (x : Nat) : List Packet := ps.filter fun p => serialGe 16 p.lsn x

theorem fromLsn_fromLsn (ps : List Packet) (x : Nat) : fromLsn (fromLsn ps x) x = fromLsn ps x := by
  simp only [fromLsn, List.filter_filter, Bool.and_self]

theorem serialGe_self (x : Nat) : serialGe 16 x x = true := by
  have e : x + 2 ^ 16 - x = 2 ^ 16 := by omega
  rw [serialGe, e]
  decide

/-- The packet that a NAK names stays in the buffer. -/
theorem any_fromLsn {ps : List Packet} {x : Nat} (named : (ps.any fun p => p.lsn == x) = true) :
    ((fromLsn ps x).any fun p => p.lsn == x) = true := by
  obtain ⟨p, mem, lsn⟩ := List.any_eq_true.mp named
  refine List.any_eq_true.mpr ⟨p, List.mem_filter.mpr ⟨mem, ?_⟩, lsn⟩
  rw [beq_iff_eq.mp lsn, serialGe_self x]

/-- What is released leaves the buffer and what is due. -/
theorem State.release_bun (known : b < s.eg.length) (x : Nat) : ∃ at', (s.release b x).bun b =
    { s.bun b with replay := fromLsn (s.bun b).replay x, due := fromLsn (s.bun b).due x, lastAdvance := at' } :=
  ⟨_, State.bun_modBun_self _ known⟩

theorem State.release_link (s : State) (b n : Nat) (x : Field) (apart : x.lo + x.width ≤ 11 ∨ 23 ≤ x.lo) :
    (s.release b n).f (Reg.EG_BSTAT b) x = s.f (Reg.EG_BSTAT b) x := State.f_showReplay _ b x apart

theorem State.reg_release_ne (s : State) (b n : Nat) (other : a ≠ Reg.EG_BSTAT b) : (s.release b n).reg a = s.reg a :=
  State.reg_showReplay_ne other

@[simp] theorem State.release_length (s : State) (b n : Nat) : (s.release b n).eg.length = s.eg.length := State.modBun_length _ _ _

/-- A replay makes everything from an LSN on due again, and is counted and shown. -/
theorem State.replayFrom_bun (known : b < s.eg.length) (x : Nat) : (s.replayFrom b x).bun b =
    { s.bun b with due := fromLsn (s.bun b).replay x, lastReplay := some (x, s.clock.now), lastAdvance := s.clock.now } :=
  State.bun_modBun_self _ known

theorem replayCount_ne_status (b : Nat) : Reg.EG_BCNT0 b ≠ Reg.EG_STATUS :=
  Part.addr_ne (p := .EG_STATUS) (q := .EG_BCNT0) (i := 0) (j := 0) (i' := b) (j' := 0) (by decide) rfl rfl

theorem State.replayFrom_shows (s : State) (b x : Nat) : (s.replayFrom b x).flag Reg.EG_STATUS Fld.EG_STATUS_NAK = true ∧
    (s.replayFrom b x).f (Reg.EG_BCNT0 b) Fld.EG_BCNT0_REPLAYS = (s.f (Reg.EG_BCNT0 b) Fld.EG_BCNT0_REPLAYS + 1) % 2 ^ 32 := by
  refine ⟨State.flag_setB_self _ _ _ _ (by decide) rfl, ?_⟩
  rw [State.replayFrom, State.f_of_reg _ (State.reg_setB_ne _ _ (replayCount_ne_status b)), State.f_addF_self _ _ _ (by decide), State.f_modBun]
  rfl

theorem State.nak_or (s : State) (b x : Nat) : s.nak b x = s ∨ s.nak b x = s.replayFrom b x := by
  unfold State.nak
  extract_lets recent
  split
  · exact .inl rfl
  · exact .inr rfl

/-- A NAK of a packet in the buffer, where no replay has started, starts one. -/
theorem State.nak_replays {x : Nat} (first : (s.bun b).lastReplay = none) (named : ((s.bun b).replay.any fun p => p.lsn == x) = true) :
    s.nak b x = s.replayFrom b x := by simp [State.nak, first, named]

theorem State.replayFrom_stays (s : State) (b x : Nat) : Within (Machine.maskOf [.eg, .EG_BCNT0, .EG_STATUS]) 0 0 s (s.replayFrom b x) :=
  State.replayFrom_within ⟨by decide, .inl (by decide)⟩ (Within.refl _ _ _ _)

/-- After a good RETURN the buffer holds what follows EXPECT. -/
theorem State.acknowledged_bun {α : Type} (known : b < s.eg.length) (g : Bundle → α)
    (keeps : ∀ x d r c, g { x with due := d, lastReplay := r, lastAdvance := c } = g x) :
    g ((s.acknowledged b m).bun b) = g { s.bun b with replay := fromLsn (s.bun b).replay m.expect.toNat } := by
  obtain ⟨at', released⟩ := State.release_bun known m.expect.toNat
  have kept : g ((s.release b m.expect.toNat).bun b) = g { s.bun b with replay := fromLsn (s.bun b).replay m.expect.toNat } := by
    rw [released]
    exact keeps { s.bun b with replay := fromLsn (s.bun b).replay m.expect.toNat } _ (s.bun b).lastReplay at'
  unfold State.acknowledged
  split
  · rcases (s.release b m.expect.toNat).nak_or b m.expect.toNat with e | e
    · rw [e, kept]
    · rw [e, State.replayFrom_bun (by simpa using known), ← kept]
      exact keeps _ _ _ _
  · exact kept

theorem State.acknowledged_link (s : State) (b : Nat) (m : ReturnMsg) (x : Field) (apart : x.lo + x.width ≤ 11 ∨ 23 ≤ x.lo) :
    (s.acknowledged b m).f (Reg.EG_BSTAT b) x = s.f (Reg.EG_BSTAT b) x := by
  unfold State.acknowledged
  split
  · rcases (s.release b m.expect.toNat).nak_or b m.expect.toNat with e | e
    · rw [e, State.release_link _ _ _ _ apart]
    · rw [e, ((s.release b m.expect.toNat).replayFrom_stays b _).keepF .EG_BSTAT b 0 x rfl (by decide), State.release_link _ _ _ _ apart]
  · exact State.release_link _ _ _ _ apart

theorem State.acknowledged_length (s : State) (b : Nat) (m : ReturnMsg) : (s.acknowledged b m).eg.length = s.eg.length := by
  unfold State.acknowledged
  split
  · rcases (s.release b m.expect.toNat).nak_or b m.expect.toNat with e | e
    · rw [e, State.release_length]
    · rw [e]
      exact (State.modBun_length _ _ _).trans (State.release_length _ _ _)
  · exact State.release_length _ _ _

/-! ### Requests (R252, R253) -/

/-- The bundle with what a RETURN says of its lanes. -/
def Bundle.told (x : Bundle) (ok : Nat) (bad shed rejoin : List (Nat × Nat)) : Bundle :=
  { x with lanesOk := ok, badSince := bad, shedDue := shed, rejoinDue := rejoin }

theorem State.noteLanes_told (s : State) (b ok : Nat) : ∃ bad d e, s.noteLanes b ok = s.modBun b fun x => x.told ok bad d e := by
  unfold State.noteLanes
  extract_lets now bad old noted
  obtain ⟨d, e, asked⟩ : Asked b noted ((old.filter fun p => bad.contains p.1 && decide (p.2 + 1000 ≤ now)).foldl (fun s p => s.askShed b p.1) noted) :=
    List.foldlRecOn (motive := Asked b noted) _ _ (Asked.refl b noted) fun _ h p _ => h.trans (State.askShed_asked _ _ _)
  rw [asked, State.modBun_modBun]
  exact ⟨_, d, e, rfl⟩

/-- A RETURN where no lane has been shown bad asks for none by that. -/
theorem State.noteLanes_good (s : State) (b ok : Nat) (good : (s.bun b).badSince = []) : ∃ bad, s.noteLanes b ok =
    s.modBun b fun x => { x with lanesOk := ok, badSince := bad } := by
  unfold State.noteLanes
  extract_lets now bad old noted
  have none' : old = [] := good
  simp only [none', List.filter_nil, List.foldl_nil]
  exact ⟨_, rfl⟩

theorem State.requested_told (s : State) (b : Nat) (m : ReturnMsg) : ∃ bad d e, s.requested b m = s.modBun b fun x => x.told m.lanesOk.toNat bad d e := by
  obtain ⟨bad, d, e, told⟩ := s.noteLanes_told b m.lanesOk.toNat
  have after {t : State} (asked : Asked b (s.noteLanes b m.lanesOk.toNat) t) : ∃ bad d e, t = s.modBun b fun x => x.told m.lanesOk.toNat bad d e := by
    obtain ⟨d', e', rfl⟩ := asked
    rw [told, State.modBun_modBun]
    exact ⟨bad, d', e', rfl⟩
  unfold State.requested
  split
  · exact after (State.askShed_asked _ _ _)
  · split
    · exact after (State.askRejoin_asked _ _ _)
    · exact after (Asked.refl _ _)

theorem State.stallCheck_keep {α : Type} (s : State) (b : Nat) (g : Bundle → α) (keeps : ∀ x n w, g { x with stallN := n, stallB := w } = g x) :
    g ((s.stallCheck b).bun b) = g (s.bun b) := State.bun_modBun_keep g fun x => keeps x _ _

/-- Beside its lists of lanes, a good RETURN leaves the bundle with what it brought, the rest of its buffer, and the lanes' state. -/
theorem State.returnRx_good_bun {α : Type} (known : b < s.eg.length) (runs : s.bunState b = 2 ∨ s.bunState b = 3)
    (good : s.badExpect b m.expect.toNat = false) (g : Bundle → α) (stall : ∀ x n w, g { x with stallN := n, stallB := w } = g x)
    (told : ∀ x bad d e, g (Bundle.told x m.lanesOk.toNat bad d e) = g { x with lanesOk := m.lanesOk.toNat })
    (replay : ∀ x d r c, g { x with due := d, lastReplay := r, lastAdvance := c } = g x) :
    g ((s.returnRx b m).bun b) = g { s.bun b with
      credN := m.credN.toNat, credB := m.credB.toNat, lastReturn := s.clock.now, replay := fromLsn (s.bun b).replay m.expect.toNat
      lanesOk := m.lanesOk.toNat } := by
  have room : b < (s.credited b m).eg.length := by simpa [State.credited] using known
  obtain ⟨bad, d, e, eq⟩ := ((s.credited b m).acknowledged b m).requested_told b m
  rw [State.returnRx_good runs good, State.stallCheck_keep _ _ g stall, eq,
    State.bun_modBun_self _ (by rwa [State.acknowledged_length]), told]
  refine (State.acknowledged_bun room (fun x => g { x with lanesOk := m.lanesOk.toNat }) fun x d r c => replay { x with lanesOk := m.lanesOk.toNat } d r c).trans ?_
  rw [State.credited_bun m known]

end Sys2Proof.Machine

/-! ## What a RETURN leaves, and ACK timeouts -/

namespace Sys2Proof.Machine

variable {s : State} {b l n : Nat} {m : ReturnMsg} {bits : List Bool} {x : Field}

/-! ### The receiver's block -/

/-- RETURN_RX on a state whose time has come. -/
def State.takeReturn (s : State) (b : Nat) (bits : List Bool) : State :=
  match s.heardReturn b bits with
  | some m => (s.hear b bits).returnRx b m
  | none => s.hear b bits

theorem State.takeReturn_some (got : s.heardReturn b bits = some m) : s.takeReturn b bits = (s.hear b bits).returnRx b m := by
  simp only [State.takeReturn, got]

theorem State.takeReturn_none (got : s.heardReturn b bits = none) : s.takeReturn b bits = s.hear b bits := by
  simp only [State.takeReturn, got]

theorem State.hear_rx (known : b < s.eg.length) (seven : (s.bun b).lanes.length = 7) : ((s.hear b bits).laneAux b 6).rx = (s.heard b bits).rx := by
  rw [State.laneAux_congr (s.hear_eg b bits), State.listened, State.laneAux_modLane_self _ known (by omega)]

/-- A block with a wrong CRC is counted, and does nothing else. -/
theorem State.hear_bad (bad : (s.heard b bits).bad = true) :
    (s.hear b bits).f (Reg.LN_LCNT b 6) Fld.LN_LCNT_CRC_ERR = min (s.f (Reg.LN_LCNT b 6) Fld.LN_LCNT_CRC_ERR + 1) 65535 ∧
      (s.hear b bits).eg = (s.modLane b 6 fun x => { x with rx := (s.heard b bits).rx }).eg ∧
      ∀ a, a ≠ Reg.LN_LCNT b 6 → (s.hear b bits).reg a = s.reg a := by
  obtain ⟨-, -, crc⟩ := s.hear_counts b bits
  exact ⟨by rw [crc, if_pos bad], s.hear_eg b bits, fun a other => s.reg_hear_ne b bits other⟩

theorem State.hear_bunState (s : State) (b : Nat) (bits : List Bool) : (s.hear b bits).bunState b = s.bunState b := s.hear_link b bits _

theorem State.hear_badExpect (s : State) (b : Nat) (bits : List Bool) (n : Nat) : (s.hear b bits).badExpect b n = s.badExpect b n := by
  rw [State.badExpect, s.hear_link b bits, s.hear_bun b bits Bundle.replay fun _ _ => rfl]
  rfl

/-! ### After a good RETURN -/

theorem State.acknowledged_clock (s : State) (b : Nat) (m : ReturnMsg) : (s.acknowledged b m).clock = s.clock := by
  unfold State.acknowledged
  split
  · rcases (s.release b m.expect.toNat).nak_or b m.expect.toNat with e | e <;> rw [e]
    · rfl
    · exact ((s.release b m.expect.toNat).replayFrom_stays b _).clock (by decide)
  · rfl

/-- After the requests of a good RETURN the registers are those of its acknowledgement. -/
theorem State.returnRx_good_reg (runs : s.bunState b = 2 ∨ s.bunState b = 3) (good : s.badExpect b m.expect.toNat = false) (a : Nat) :
    (s.returnRx b m).reg a = ((s.credited b m).acknowledged b m).reg a := by
  obtain ⟨bad, d, e, told⟩ := ((s.credited b m).acknowledged b m).requested_told b m
  rw [State.returnRx_good runs good, told]
  rfl

theorem State.returnRx_good_expect (runs : s.bunState b = 2 ∨ s.bunState b = 3) (good : s.badExpect b m.expect.toNat = false) :
    (s.returnRx b m).f (Reg.EG_BSTAT b) Fld.EG_BSTAT_EXPECT = m.expect.toNat := by
  rw [State.f_of_reg _ (State.returnRx_good_reg runs good _), State.acknowledged_link _ _ _ _ (by decide), State.credited_expect]

/-- A NAK of a packet in the buffer, where no replay has started, replays from it on. -/
theorem State.acknowledged_replays (nak : m.nak = true) (known : b < s.eg.length) (first : (s.bun b).lastReplay = none)
    (named : ((s.bun b).replay.any fun p => p.lsn == m.expect.toNat) = true) :
    s.acknowledged b m = (s.release b m.expect.toNat).replayFrom b m.expect.toNat := by
  obtain ⟨at', released⟩ := State.release_bun known m.expect.toNat
  rw [State.acknowledged, if_pos nak]
  exact State.nak_replays (by rw [released]; exact first) (by rw [released]; exact any_fromLsn named)

theorem State.returnRx_good_replays (known : b < s.eg.length) (runs : s.bunState b = 2 ∨ s.bunState b = 3)
    (good : s.badExpect b m.expect.toNat = false) (nak : m.nak = true) (first : (s.bun b).lastReplay = none)
    (named : ((s.bun b).replay.any fun p => p.lsn == m.expect.toNat) = true) :
    ((s.returnRx b m).bun b).due = fromLsn (s.bun b).replay m.expect.toNat ∧
      ((s.returnRx b m).bun b).lastReplay = some (m.expect.toNat, s.clock.now) ∧
      (s.returnRx b m).flag Reg.EG_STATUS Fld.EG_STATUS_NAK = true ∧
      (s.returnRx b m).f (Reg.EG_BCNT0 b) Fld.EG_BCNT0_REPLAYS = (s.f (Reg.EG_BCNT0 b) Fld.EG_BCNT0_REPLAYS + 1) % 2 ^ 32 := by
  have room : b < (s.credited b m).eg.length := by simpa [State.credited] using known
  have bun := s.credited_bun m known
  have replays := State.acknowledged_replays nak room (by rw [bun]; exact first) (by rw [bun]; exact named)
  have before : (((s.credited b m).release b m.expect.toNat).bun b).replay = fromLsn (s.bun b).replay m.expect.toNat := by
    obtain ⟨at', released⟩ := State.release_bun room m.expect.toNat
    rw [released, bun]
  have after {α : Type} (g : Bundle → α) (stall : ∀ x n w, g { x with stallN := n, stallB := w } = g x)
      (told : ∀ x bad d e, g (Bundle.told x m.lanesOk.toNat bad d e) = g x) :
      g ((s.returnRx b m).bun b) = g ((((s.credited b m).release b m.expect.toNat).replayFrom b m.expect.toNat).bun b) := by
    obtain ⟨bad, d, e, eq⟩ := ((s.credited b m).acknowledged b m).requested_told b m
    rw [State.returnRx_good runs good, State.stallCheck_keep _ _ g stall, eq, State.bun_modBun_keep g fun x => told x bad d e, replays]
  obtain ⟨shown, counted⟩ := ((s.credited b m).release b m.expect.toNat).replayFrom_shows b m.expect.toNat
  have counts : ((s.credited b m).release b m.expect.toNat).f (Reg.EG_BCNT0 b) Fld.EG_BCNT0_REPLAYS = s.f (Reg.EG_BCNT0 b) Fld.EG_BCNT0_REPLAYS := by
    rw [State.f_of_reg _ (State.reg_release_ne _ _ _ (resentCount_ne_link b)), State.credited, State.f_modBun,
      State.f_setF_ne _ _ _ _ (resentCount_ne_link b)]
  refine ⟨?_, ?_, ?_, ?_⟩
  · rw [after Bundle.due (fun _ _ _ => rfl) fun _ _ _ _ => rfl, State.replayFrom_bun (by simpa using room), before, fromLsn_fromLsn]
  · rw [after Bundle.lastReplay (fun _ _ _ => rfl) fun _ _ _ _ => rfl, State.replayFrom_bun (by simpa using room)]
    rfl
  · rw [State.flag_of_reg _ (State.returnRx_good_reg runs good _), replays, shown]
  · rw [State.f_of_reg _ (State.returnRx_good_reg runs good _), replays, counted, counts]

/-- A lane of the stream that a good RETURN asks for is to be shed. -/
theorem State.returnRx_good_sheds (known : b < s.eg.length) (runs : s.bunState b = 2 ∨ s.bunState b = 3)
    (good : s.badExpect b m.expect.toNat = false) (fine : (s.bun b).badSince = [])
    (fresh : ((s.bun b).shedDue.any fun p => p.1 == m.reqLane.val) = false) (asks : m.req.val = 1) (below : m.reqLane.val < 7)
    (carries : hasBit (s.lanesOf b) m.reqLane.val = true) :
    ((s.returnRx b m).bun b).shedDue = (s.bun b).shedDue ++ [(m.reqLane.val, s.clock.now + 100)] := by
  have room : b < (s.credited b m).eg.length := by simpa [State.credited] using known
  have link (x : Field) (apart : x.lo + x.width ≤ 11) :
      ((s.credited b m).acknowledged b m).f (Reg.EG_BSTAT b) x = s.f (Reg.EG_BSTAT b) x := by
    rw [State.acknowledged_link _ _ _ _ (.inl apart), s.credited_link b m _ (.inl (by omega))]
  have due : (((s.credited b m).acknowledged b m).bun b).shedDue = (s.bun b).shedDue := by
    rw [State.acknowledged_bun room Bundle.shedDue fun _ _ _ _ => rfl, s.credited_bun m known]
  have bad : (((s.credited b m).acknowledged b m).bun b).badSince = [] := by
    rw [State.acknowledged_bun room Bundle.badSince fun _ _ _ _ => rfl, s.credited_bun m known, fine]
  have now : ((s.credited b m).acknowledged b m).clock = s.clock := (State.acknowledged_clock _ _ _).trans rfl
  obtain ⟨since, noted⟩ := State.noteLanes_good _ b m.lanesOk.toNat bad
  have still := State.bun_modBun_self (s := (s.credited b m).acknowledged b m) (fun x => { x with lanesOk := m.lanesOk.toNat, badSince := since })
    (by rwa [State.acknowledged_length])
  have asked : ((s.credited b m).acknowledged b m).requested b m = _ := if_pos asks
  rw [State.returnRx_good runs good, State.stallCheck_keep _ _ Bundle.shedDue fun _ _ _ => rfl, asked, noted, State.askShed_asks below,
    State.bun_modBun_self _ (by rw [State.modBun_length, State.acknowledged_length]; exact room), still, due, State.modBun_clock, now]
  · exact (congrArg (hasBit · _) (link _ (by decide))).trans carries
  · exact runs.imp (link _ (by decide)).trans (link _ (by decide)).trans
  · rw [still, due, fresh]

/-! ### After a RETURN to a bundle that is blind or stopped -/

theorem State.returnRx_blind_bun {α : Type} (known : b < s.eg.length) (blind : s.bunState b = 4 ∨ s.bunState b = 5) (g : Bundle → α)
    (stall : ∀ x n w, g { x with stallN := n, stallB := w } = g x) : g ((s.returnRx b m).bun b) = g { s.bun b with
      credN := m.credN.toNat, credB := m.credB.toNat, lastReturn := s.clock.now, lanesOk := m.lanesOk.toNat } := by
  rw [State.returnRx_blind blind, State.stallCheck_keep _ _ g stall, State.bun_modBun_self _ (by simpa [State.credited] using known),
    s.credited_bun m known]

theorem State.returnRx_blind_expect (blind : s.bunState b = 4 ∨ s.bunState b = 5) :
    (s.returnRx b m).f (Reg.EG_BSTAT b) Fld.EG_BSTAT_EXPECT = m.expect.toNat := by
  rw [State.returnRx_blind blind]
  exact s.credited_expect b m

/-! ### After an EXPECT outside the buffer -/

theorem State.returnRx_far_retrains (runs : s.bunState b = 2 ∨ s.bunState b = 3) (far : s.badExpect b m.expect.toNat = true) :
    (s.returnRx b m).flag Reg.EG_STATUS Fld.EG_STATUS_CAP_BAD = true ∧ (s.returnRx b m).bunState b = 1 := by
  rw [State.returnRx_far runs far]
  obtain ⟨state, -, flags⟩ := ((s.credited b m).setB Reg.EG_STATUS Fld.EG_STATUS_CAP_BAD true).retrain_trains b
  exact ⟨(flags _ (by decide)).trans (State.flag_setB_self _ _ _ _ (by decide) rfl), state⟩

end Sys2Proof.Machine

/-! ## The lanes' states, ACK timeouts and CAPs that are sent -/

namespace Sys2Proof.Machine

variable {s t : State} {b l i n st : Nat} {ls : List Nat} {p : Packet} {r : List Packet}

/-! ### The state that lanes are put into (R259) -/

theorem laneStat_ne (b : Nat) (below : l < 7) (seven : i < 7) (other : l ≠ i) : Reg.LN_LSTAT b l ≠ Reg.LN_LSTAT b i := by
  unfold Reg.LN_LSTAT
  omega

theorem laneStat_ne_moored (b l : Nat) : Reg.LN_LSTAT b l ≠ Reg.LN_STATUS :=
  Part.addr_ne (p := .LN_STATUS) (q := .LN_LSTAT) (i := 0) (j := 0) (i' := b) (j' := l) (by decide) rfl rfl

/-- The lanes of a list are put into a state, each by its own register. -/
theorem State.laneState_foldl_setF (s : State) (b : Nat) {st : Nat} (code : st < 16) (below : ∀ i ∈ ls, i < 7) (seven : l < 7) :
    (ls.foldl (fun s i => s.setF (Reg.LN_LSTAT b i) Fld.LN_LSTAT_STATE st) s).laneState b l = if l ∈ ls then st else s.laneState b l := by
  induction ls generalizing s with
  | nil => rfl
  | cons i r ih =>
    rw [List.foldl_cons, ih _ fun j mem => below j (List.mem_cons_of_mem _ mem)]
    by_cases here : l = i
    · subst here
      have set : (s.setF (Reg.LN_LSTAT b l) Fld.LN_LSTAT_STATE st).laneState b l = st :=
        (State.f_setF_self _ _ _ _ (by decide)).trans (Nat.mod_eq_of_lt code)
      rw [set, ite_self, if_pos List.mem_cons_self]
    · have other : (s.setF (Reg.LN_LSTAT b i) Fld.LN_LSTAT_STATE st).laneState b l = s.laneState b l :=
        State.f_setF_ne _ _ _ _ (laneStat_ne b seven (below i List.mem_cons_self) here)
      simp only [other, List.mem_cons, here, false_or]

theorem State.laneState_setLanes (s : State) (b : Nat) {st : Nat} (code : st < 16) (below : ∀ i ∈ ls, i < 7) (seven : l < 7) :
    (s.setLanes b st ls).laneState b l = if l ∈ ls then st else s.laneState b l :=
  (State.f_of_reg _ (State.reg_putBit_ne _ _ (laneStat_ne_moored b l))).trans (s.laneState_foldl_setF b code below seven)

@[simp] theorem State.setLanes_eg (s : State) (b st : Nat) (ls : List Nat) : (s.setLanes b st ls).eg = s.eg := by
  rw [State.setLanes, State.putBit_eg]
  exact List.foldlRecOn (motive := fun t : State => t.eg = s.eg) ls _ rfl fun _ h _ _ => h

theorem State.laneState_laneOut (s : State) (b : Nat) (below : i < 7) (seven : l < 7) :
    (s.laneOut b i).laneState b l = if l = i then 5 else s.laneState b l := by
  have set := s.laneState_setLanes b (st := 5) (ls := [i]) (by decide) (fun _ mem => List.mem_singleton.mp mem ▸ below) seven
  rwa [if_congr List.mem_singleton rfl rfl] at set

theorem State.laneState_foldl_laneOut (s : State) (b : Nat) (below : ∀ i ∈ ls, i < 7) (seven : l < 7) :
    (ls.foldl (fun s i => s.laneOut b i) s).laneState b l = if l ∈ ls then 5 else s.laneState b l := by
  induction ls generalizing s with
  | nil => rfl
  | cons i r ih =>
    rw [List.foldl_cons, ih _ fun j mem => below j (List.mem_cons_of_mem _ mem), State.laneState_laneOut _ _ (below i List.mem_cons_self) seven]
    simp only [List.mem_cons]
    by_cases here : l = i <;> simp [here]

theorem State.laneOut_bun {α : Type} (s : State) (b l : Nat) (g : Bundle → α) (keeps : ∀ x ls, g { x with lanes := ls } = g x) :
    g ((s.laneOut b l).bun b) = g (s.bun b) := by
  rw [State.laneOut, State.modLane_bun _ _ _ _ g keeps, State.bun_congr (State.setLanes_eg _ _ _ _)]

theorem State.foldl_laneOut_bun {α : Type} (s : State) (b : Nat) (ls : List Nat) (g : Bundle → α) (keeps : ∀ x ls, g { x with lanes := ls } = g x) :
    g ((ls.foldl (fun s i => s.laneOut b i) s).bun b) = g (s.bun b) :=
  List.foldlRecOn (motive := fun t : State => g (t.bun b) = g (s.bun b)) ls _ rfl fun t h i _ => (t.laneOut_bun b i g keeps).trans h

/-! ### ACK timeouts (R251) -/

theorem State.ackTimeout_replays (buffer : (s.bun b).replay = p :: r) (runs : s.bunState b = 2 ∨ s.bunState b = 3)
    (late : (s.bun b).lastAdvance + s.ackNs ≤ s.clock.now) : s.ackTimeout b = s.replayFrom b p.lsn := by
  simp only [State.ackTimeout, buffer]
  exact if_pos ⟨runs, late⟩

/-! ### CAPs that are sent (R247) -/

/-- Before a CAP the bundle has come to the present. -/
theorem State.capFrom_dealt (s : State) (b : Nat) : Dealt b s
    (if s.bunState b = 4 then (s.runStream b).catchUp b (s.clock.now * 14) else s.modBun b fun x => { x with freeAt := max x.freeAt (s.clock.now * 14) }) := by
  split
  · exact (s.runStream_dealt b).trans (State.catchUp_dealt _ _ _)
  · exact Dealt.modBun (d := ⟨(s.bun b).lanes, (s.bun b).turn, max (s.bun b).freeAt (s.clock.now * 14), (s.bun b).stream⟩) rfl

theorem State.capSend_sends (known : b < s.eg.length) (step : s.inCapStep b = true) (due : (s.bun b).capAt ≤ s.clock.now) :
    (s.capSend b).wire = s.wire ++ [.block b 0x5A 64 [0x15A + b * 2 ^ 17 + s.f Reg.FB_STATUS Fld.FB_STATUS_ADDR * 2 ^ 20 +
        s.f (Reg.EG_BSTAT b) Fld.EG_BSTAT_NEXT_LSN * 2 ^ 32 + s.capMask b * 2 ^ 48, (s.reg Reg.ID_DEVID).toNat]] ∧
      ((s.capSend b).bun b).capAt = s.clock.now + 1000 ∧
      ((s.capSend b).bun b).capLsn = some (s.f (Reg.EG_BSTAT b) Fld.EG_BSTAT_NEXT_LSN) := by
  unfold State.capSend
  rw [if_pos ⟨step, due⟩]
  extract_lets next w0 w1 others now sent
  have before : Dealt b s now := s.capFrom_dealt b
  have after : Dealt b (now.emit (.block b 0x5A 64 [w0, w1])) sent := State.ownRound_dealt _ _ _ _ _
  have room : b < sent.eg.length := by rw [after.length, State.emit_eg, before.length]; exact known
  refine ⟨?_, ?_, ?_⟩
  · rw [State.modBun_wire, after.wire, State.emit_wire, before.wire]
    rfl
  · rw [State.bun_modBun_self _ room, after.clock, State.emit_clock, before.clock]
  · rw [State.bun_modBun_self _ room]

end Sys2Proof.Machine

/-! ## The capability step: an accepted CAP, and the bundle that becomes active -/

namespace Sys2Proof.Machine

variable {s t : State} {b l n : Nat} {m : CapMsg} {bits : List Bool} {x : Field}

/-! ### The values of a CAP (R247, R258) -/

/-- EG_BCAP with the values of a CAP. -/
def capWord (m : CapMsg) : Word :=
  [(Fld.EG_BCAP_INIT_N, m.initN.toNat), (Fld.EG_BCAP_INIT_B, m.initB.toNat), (Fld.EG_BCAP_RES_N, m.resN.toNat),
    (Fld.EG_BCAP_RES_B, m.resB.toNat), (Fld.EG_BCAP_DESKEW, m.deskew.val), (Fld.EG_BCAP_VALID, 1)].foldl
    (fun (w : Word) (p : Field × Nat) => p.1.set w p.2) 0

/-- EG_BCAP and P_SINK as the CAP has them. -/
def State.capShown (s : State) (b : Nat) (m : CapMsg) : State := (s.setReg (Reg.EG_BCAP b) (capWord m)).setB (Reg.EG_BSTAT b) Fld.EG_BSTAT_P_SINK m.pSink

/-- The LSN of the last CAP sent is the next one. -/
def State.lsnRestarts (s : State) (b : Nat) : State :=
  match (s.bun b).capLsn with
  | some n => s.setF (Reg.EG_BSTAT b) Fld.EG_BSTAT_NEXT_LSN n
  | none => s

/-- The bundle after an accepted CAP: credit and LSN state restart. -/
def Bundle.restarted (x : Bundle) (now : Nat) : Bundle :=
  { x with
    credN := 0, credB := 0, consN := 0, consB := 0, due := [], lastReplay := none, lastReturn := now, lastAdvance := now
    capStep := false, capLsn := none, stallN := none, stallB := none }

theorem capWord_fields (m : CapMsg) :
    Fld.EG_BCAP_INIT_N.get (capWord m) = m.initN.toNat ∧ Fld.EG_BCAP_INIT_B.get (capWord m) = m.initB.toNat ∧ Fld.EG_BCAP_RES_N.get (capWord m) = m.resN.toNat ∧
      Fld.EG_BCAP_RES_B.get (capWord m) = m.resB.toNat ∧ Fld.EG_BCAP_DESKEW.get (capWord m) = m.deskew.val ∧ Fld.EG_BCAP_VALID.get (capWord m) = 1 := by
  have deskew : m.deskew.val < 2 ^ 5 := m.deskew.isLt
  simp only [capWord, List.foldl_cons, List.foldl_nil]
  refine ⟨?_, ?_, ?_, ?_, ?_, ?_⟩
  · iterate 5 rw [Field.get_set_disjoint _ _ _ _ (by decide)]
    exact (Field.get_set_self _ _ _ (by decide)).trans (Nat.mod_eq_of_lt m.initN.isLt)
  · iterate 4 rw [Field.get_set_disjoint _ _ _ _ (by decide)]
    exact (Field.get_set_self _ _ _ (by decide)).trans (Nat.mod_eq_of_lt m.initB.isLt)
  · iterate 3 rw [Field.get_set_disjoint _ _ _ _ (by decide)]
    exact (Field.get_set_self _ _ _ (by decide)).trans (Nat.mod_eq_of_lt m.resN.isLt)
  · iterate 2 rw [Field.get_set_disjoint _ _ _ _ (by decide)]
    exact (Field.get_set_self _ _ _ (by decide)).trans (Nat.mod_eq_of_lt m.resB.isLt)
  · rw [Field.get_set_disjoint _ _ _ _ (by decide)]
    exact (Field.get_set_self _ _ _ (by decide)).trans (Nat.mod_eq_of_lt deskew)
  · exact Field.get_set_self _ _ _ (by decide)

/-! ### What the parts of an accepted CAP leave -/

theorem linkCap_ne_state (b : Nat) : Reg.EG_BCAP b ≠ Reg.EG_BSTAT b :=
  Part.addr_ne (p := .EG_BSTAT) (q := .EG_BCAP) (i := b) (j := 0) (i' := b) (j' := 0) (by decide) rfl rfl

/-- Emptying the ford leaves the registers but the count of discarded lines and its flag. -/
theorem State.emptyFord_stays (s : State) (b : Nat) : Within (Machine.maskOf [.EG_STATUS]) (Machine.maskOf [.eg, .EG_BCNT1]) b s (s.emptyFord b) :=
  State.emptyFord_within ⟨by decide, .inr ⟨rfl, by decide⟩⟩ (Within.refl _ _ _ _)

/-- Where the receiver sinks no P the ford is empty. -/
theorem State.emptyFord_bun (known : b < s.eg.length) : (s.emptyFord b).bun b =
    { s.bun b with ford := if s.flag (Reg.EG_BSTAT b) Fld.EG_BSTAT_P_SINK then (s.bun b).ford else [] } := by
  have eg : (s.discardP b (linesOf (s.bun b).ford)).eg = s.eg := by unfold State.discardP; split <;> rfl
  unfold State.emptyFord
  split
  · rfl
  · rw [State.bun_modBun_self _ (by rw [eg]; exact known), State.bun_congr eg]

theorem State.emptyFord_length (s : State) (b : Nat) : (s.emptyFord b).eg.length = s.eg.length := by
  have eg : (s.discardP b (linesOf (s.bun b).ford)).eg = s.eg := by unfold State.discardP; split <;> rfl
  unfold State.emptyFord
  split
  · rfl
  · rw [State.modBun_length, eg]

theorem State.lsnRestarts_eg (s : State) (b : Nat) : (s.lsnRestarts b).eg = s.eg := by
  unfold State.lsnRestarts
  split <;> rfl

theorem State.reg_lsnRestarts_ne {a : Nat} (other : a ≠ Reg.EG_BSTAT b) : (s.lsnRestarts b).reg a = s.reg a := by
  unfold State.lsnRestarts
  split
  · exact State.reg_setF_ne _ _ other
  · rfl

theorem State.f_lsnRestarts (s : State) (b : Nat) (x : Field) (below : x.lo + x.width ≤ 23) :
    (s.lsnRestarts b).f (Reg.EG_BSTAT b) x = s.f (Reg.EG_BSTAT b) x := by
  unfold State.lsnRestarts
  split
  · exact State.f_setF_disjoint _ _ _ _ _ (.inl below)
  · rfl

/-! ### After an accepted CAP -/

/-- The ford and the credit of a bundle. -/
def Bundle.purse (x : Bundle) : List Packet × Nat × Nat × Nat × Nat := (x.ford, x.credN, x.credB, x.consN, x.consB)

/-- EG_BCAP and P_SINK show a CAP, and the bundle's ford and credit are as it leaves them. -/
structure CapTaken (b : Nat) (m : CapMsg) (u : State) : Prop where
  word : u.reg (Reg.EG_BCAP b) = capWord m
  sinks : u.flag (Reg.EG_BSTAT b) Fld.EG_BSTAT_P_SINK = m.pSink
  purse : ∃ ford, (u.bun b).purse = (ford, 0, 0, 0, 0) ∧ (m.pSink = false → ford = [])

/-- A change that leaves EG_BCAP, P_SINK, the ford and the credit leaves a CAP taken. -/
theorem CapTaken.keep (h : CapTaken b m s) (word : t.reg (Reg.EG_BCAP b) = s.reg (Reg.EG_BCAP b))
    (sinks : t.f (Reg.EG_BSTAT b) Fld.EG_BSTAT_P_SINK = s.f (Reg.EG_BSTAT b) Fld.EG_BSTAT_P_SINK)
    (purse : (t.bun b).purse = (s.bun b).purse) : CapTaken b m t where
  word := word.trans h.word
  sinks := (State.flag_of_f sinks).trans h.sinks
  purse := purse ▸ h.purse

/-- What the statement says of a CAP that is taken. -/
theorem CapTaken.shows (h : CapTaken b m s) :
    s.f (Reg.EG_BCAP b) Fld.EG_BCAP_INIT_N = m.initN.toNat ∧ s.f (Reg.EG_BCAP b) Fld.EG_BCAP_INIT_B = m.initB.toNat ∧
      s.f (Reg.EG_BCAP b) Fld.EG_BCAP_RES_N = m.resN.toNat ∧ s.f (Reg.EG_BCAP b) Fld.EG_BCAP_RES_B = m.resB.toNat ∧
      s.f (Reg.EG_BCAP b) Fld.EG_BCAP_DESKEW = m.deskew.val ∧ s.flag (Reg.EG_BCAP b) Fld.EG_BCAP_VALID = true ∧
      s.flag (Reg.EG_BSTAT b) Fld.EG_BSTAT_P_SINK = m.pSink ∧ (m.pSink = false → (s.bun b).ford = []) ∧
      (s.bun b).credN = 0 ∧ (s.bun b).credB = 0 ∧ (s.bun b).consN = 0 ∧ (s.bun b).consB = 0 := by
  obtain ⟨initN, initB, resN, resB, deskew, valid⟩ := capWord_fields m
  obtain ⟨ford, purse, empty⟩ := h.purse
  simp only [Bundle.purse, Prod.mk.injEq] at purse
  obtain ⟨ford', credit⟩ := purse
  simp only [State.flag, State.f, h.word]
  exact ⟨initN, initB, resN, resB, deskew, by rw [valid]; rfl, h.sinks, fun no => ford'.trans (empty no), credit⟩

/-- Before the credit restarts, the CAP's values stand. -/
def State.capStands (s : State) (b : Nat) (m : CapMsg) : State := ((s.capShown b m).emptyFord b).lsnRestarts b

theorem State.takeCap_eq (s : State) (b : Nat) (m : CapMsg) :
    s.takeCap b m = (s.capStands b m).modBun b fun x => x.restarted (s.capStands b m).clock.now := by
  unfold State.takeCap
  rfl

theorem State.capStands_length (s : State) (b : Nat) (m : CapMsg) : (s.capStands b m).eg.length = s.eg.length := by
  rw [State.capStands, State.lsnRestarts_eg, State.emptyFord_length]
  rfl

theorem State.takeCap_length (s : State) (b : Nat) (m : CapMsg) : (s.takeCap b m).eg.length = s.eg.length := by
  rw [State.takeCap_eq, State.modBun_length, State.capStands_length]

theorem State.takeCap_bun {α : Type} (known : b < s.eg.length) (m : CapMsg) (g : Bundle → α) (keeps : ∀ x f n, g (Bundle.restarted { x with ford := f } n) = g x) :
    g ((s.takeCap b m).bun b) = g (s.bun b) := by
  rw [State.takeCap_eq, State.bun_modBun_self _ (by rwa [State.capStands_length]), State.capStands, State.bun_congr (State.lsnRestarts_eg _ _),
    State.emptyFord_bun (by exact known)]
  exact keeps _ _ _

theorem State.takeCap_stays (s : State) (b : Nat) (m : CapMsg) :
    Within (Machine.maskOf [.EG_STATUS]) (Machine.maskOf [.eg, .EG_BSTAT, .EG_BCAP, .EG_BCNT1]) b s (s.takeCap b m) :=
  State.takeCap_within ⟨by decide, .inr ⟨rfl, by decide⟩⟩ (Within.refl _ _ _ _)

/-- Below NEXT_LSN an accepted CAP changes P_SINK alone in EG_BSTAT. -/
theorem State.f_takeCap (s : State) (b : Nat) (m : CapMsg) (x : Field) (below : x.lo + x.width ≤ 23) :
    (s.takeCap b m).f (Reg.EG_BSTAT b) x = (s.capShown b m).f (Reg.EG_BSTAT b) x := by
  rw [State.takeCap_eq, State.f_modBun, State.capStands, State.f_lsnRestarts _ _ _ below]
  exact State.f_of_reg _ ((State.emptyFord_stays _ b).keepReg .EG_BSTAT b 0 rfl (by decide))

theorem State.takeCap_link (s : State) (b : Nat) (m : CapMsg) (x : Field) (below : x.lo + x.width ≤ 10) :
    (s.takeCap b m).f (Reg.EG_BSTAT b) x = s.f (Reg.EG_BSTAT b) x := by
  rw [s.f_takeCap b m x (by omega), State.capShown, State.f_setB_disjoint _ _ _ _ (.inl below)]
  exact State.f_of_reg _ (State.reg_setReg_ne _ _ (linkCap_ne_state b).symm)

theorem State.takeCap_taken (known : b < s.eg.length) (m : CapMsg) : CapTaken b m (s.takeCap b m) where
  word := by
    rw [State.takeCap_eq, State.reg_modBun, State.capStands, State.reg_lsnRestarts_ne (linkCap_ne_state b),
      (State.emptyFord_stays _ b).keepReg .EG_BCAP b 0 rfl (by decide), State.capShown, State.reg_setB_ne _ _ (linkCap_ne_state b),
      State.reg_setReg_self]
  sinks := (State.flag_of_f (s.f_takeCap b m _ (by decide))).trans (State.flag_setB_self _ _ _ _ (by decide) rfl)
  purse := by
    have sinks : (s.capShown b m).flag (Reg.EG_BSTAT b) Fld.EG_BSTAT_P_SINK = m.pSink := State.flag_setB_self _ _ _ _ (by decide) rfl
    rw [State.takeCap_eq, State.bun_modBun_self _ (by rwa [State.capStands_length]), State.capStands, State.bun_congr (State.lsnRestarts_eg _ _),
      State.emptyFord_bun (by exact known), sinks]
    exact ⟨_, rfl, fun no => by rw [no]; rfl⟩

/-! ### The bundle becomes active (R242, R247, R259) -/

/-- A bundle whose round 0 begins. -/
def Bundle.begun (x : Bundle) (now depth : Nat) : Bundle :=
  { x with
    activeAt := now, round := 0, freeAt := now * 14, turn := 0, stream := [], bTurn := 0, badSince := [], lanesOk := 0, moorRound := none
    tokens := depth, tokensAt := now }

/-- The lanes of the initial mask carry the stream from round 0 on. -/
def State.carrying (s : State) (b : Nat) : State :=
  let t := s.setLanes b 4 ((s.lanesIn b 3).filter fun l => hasBit (s.bun b).initMask l)
  t.modBun b fun x => x.begun s.clock.now (max 1 (t.f Reg.EG_CFG Fld.EG_CFG_PDEPTH) * 1048576 * 17920)

/-- The other lanes are out. -/
def State.parted (s : State) (b : Nat) : State :=
  ((s.lanesIn b 3).filter fun l => !hasBit (s.bun b).initMask l).foldl (fun s l => s.laneOut b l) (s.carrying b)

/-- Lanes that are out want a burst. -/
def State.burstsWanted (s : State) (b now : Nat) : State := (s.lanesIn b 5).foldl (fun s l => s.modLane b l fun x => { x with burstFrom := some now }) s

theorem State.activate_eq (some' : (s.bun b).initMask ≠ 0) (goes : ((s.parted b).burstsWanted b s.clock.now).flag (Reg.EG_BCTL b) Fld.EG_BCTL_STOP = false) :
    s.activate b = ((s.parted b).burstsWanted b s.clock.now).setLink b (runState (s.bun b).initMask) (s.bun b).initMask := by
  have runs : ¬ ((s.parted b).burstsWanted b s.clock.now).flag (Reg.EG_BCTL b) Fld.EG_BCTL_STOP = true := by rw [goes]; exact Bool.false_ne_true
  unfold State.activate
  rw [if_neg some']
  exact if_neg runs

theorem State.carrying_stays (s : State) (b : Nat) : Within (Machine.maskOf [.eg, .LN_STATUS, .LN_LSTAT]) 0 0 s (s.carrying b) :=
  Within.modBun (.inl (by decide)) (State.setLanes_within ⟨by decide, .inl (by decide)⟩ (Within.refl _ _ _ _))

theorem State.parted_stays (s : State) (b : Nat) : Within (Machine.maskOf [.eg, .LN_STATUS, .LN_LSTAT]) 0 0 s (s.parted b) :=
  Within.foldl (fun _ _ h => State.laneOut_within ⟨by decide, .inl (by decide)⟩ h) (s.carrying_stays b)

theorem State.foldl_modLane_regs (s : State) (b : Nat) (g : Nat → LaneAux → LaneAux) (ls : List Nat) :
    (ls.foldl (fun s l => s.modLane b l (g l)) s).regs = s.regs :=
  List.foldlRecOn (motive := fun t : State => t.regs = s.regs) ls _ rfl fun _ h _ _ => h

/-- The bundle's place in time begins at round 0; its queues stay. -/
theorem State.parted_bun {α : Type} (known : b < s.eg.length) (g : Bundle → α)
    (keeps : ∀ x ls n m, g { x with lanes := ls, tokens := n, tokensAt := m } = g x) :
    g ((s.parted b).bun b) = g ((s.bun b).begun s.clock.now 0) := by
  rw [State.parted, State.foldl_laneOut_bun _ _ _ g fun x ls => keeps x ls x.tokens x.tokensAt, State.carrying,
    State.bun_modBun_self _ (by rwa [State.setLanes_eg]), State.bun_congr (State.setLanes_eg _ _ _ _)]
  exact keeps ((s.bun b).begun s.clock.now 0) (s.bun b).lanes _ s.clock.now

/-- A lane in LOCK carries the stream or is out. -/
theorem State.parted_laneState (below : l < 7) (locked : s.laneState b l = 3) :
    (s.parted b).laneState b l = if hasBit (s.bun b).initMask l then 4 else 5 := by
  have seven {i : Nat} {q : Nat → Bool} (mem : i ∈ (s.lanesIn b 3).filter q) : i < 7 := (mem_lanesIn.mp (List.mem_filter.mp mem).1).1
  have here : l ∈ s.lanesIn b 3 := mem_lanesIn.mpr ⟨below, locked⟩
  have carried : (s.carrying b).laneState b l = if hasBit (s.bun b).initMask l then 4 else 3 := by
    rw [State.carrying, State.laneState_modBun, State.laneState_setLanes _ _ (by decide) (fun i mem => seven mem) below, locked]
    simp [List.mem_filter, here]
  rw [State.parted, State.laneState_foldl_laneOut _ _ (fun i mem => seven mem) below, carried]
  cases bit : hasBit (s.bun b).initMask l <;> simp [List.mem_filter, here, bit]

/-- An accepted CAP makes a bundle active over its initial mask. -/
structure Activated (b : Nat) (s u : State) : Prop where
  state : u.bunState b = runState (s.bun b).initMask
  carries : u.lanesOf b = (s.bun b).initMask
  bun : ∀ {α : Type} (g : Bundle → α), (∀ x ls n m, g { x with lanes := ls, tokens := n, tokensAt := m } = g x) →
    g (u.bun b) = g ((s.bun b).begun s.clock.now 0)
  lanes : ∀ l < 7, s.laneState b l = 3 → u.laneState b l = if hasBit (s.bun b).initMask l then 4 else 5
  link : ∀ x : Field, 10 ≤ x.lo → u.f (Reg.EG_BSTAT b) x = s.f (Reg.EG_BSTAT b) x
  cap : u.reg (Reg.EG_BCAP b) = s.reg (Reg.EG_BCAP b)

theorem State.activate_activated (known : b < s.eg.length) (some' : (s.bun b).initMask ≠ 0) (short : (s.bun b).initMask < 128)
    (goes : s.flag (Reg.EG_BCTL b) Fld.EG_BCTL_STOP = false) : Activated b s (s.activate b) := by
  have regs : ((s.parted b).burstsWanted b s.clock.now).regs = (s.parted b).regs := State.foldl_modLane_regs _ _ _ _
  have reg (a : Nat) : ((s.parted b).burstsWanted b s.clock.now).reg a = (s.parted b).reg a := by rw [State.reg, regs, State.reg]
  have stop : ((s.parted b).burstsWanted b s.clock.now).flag (Reg.EG_BCTL b) Fld.EG_BCTL_STOP = false := by
    rw [State.flag_of_reg _ ((reg _).trans ((s.parted_stays b).keepReg .EG_BCTL b 0 rfl (by decide))), goes]
  have link := ((s.parted b).burstsWanted b s.clock.now).setLink_stays b (runState (s.bun b).initMask) (s.bun b).initMask
  rw [State.activate_eq some' stop]
  exact {
    state := State.bunState_setLink _ b _ (runState_lt _)
    carries := State.lanesOf_setLink _ b _ short
    bun := fun g keeps => by
      rw [State.setLink_bun _ b _ _ g fun x n m => keeps x x.lanes n m, State.burstsWanted,
        State.foldl_modLane_bun _ _ g fun x ls => keeps x ls x.tokens x.tokensAt, State.parted_bun known g keeps]
    lanes := fun l below locked => by
      have kept := link.keepF .LN_LSTAT b l Fld.LN_LSTAT_STATE rfl (by decide)
      exact kept.trans ((State.f_of_reg _ (reg _)).trans (State.parted_laneState below locked))
    link := fun x above => by
      rw [State.f_setLink _ _ _ _ x above, State.f_of_reg _ (reg _), (s.parted_stays b).keepF .EG_BSTAT b 0 x rfl (by decide)]
    cap := (link.keepReg .EG_BCAP b 0 rfl (by decide)).trans ((reg _).trans ((s.parted_stays b).keepReg .EG_BCAP b 0 rfl (by decide))) }

end Sys2Proof.Machine

/-! ## A CAP that is received, and the statement on returns, replays and capabilities -/

namespace Sys2Proof.Machine

variable {s t : State} {b l n : Nat} {m : CapMsg} {bits : List Bool}

/-! ### CAP_RX (R247, R254) -/

/-- CAP_RX on a state whose time has come. -/
def State.receiveCap (s : State) (b : Nat) (bits : List Bool) : State :=
  match s.heardCap b bits with
  | some m => (s.hear b bits).capRx b m
  | none => s.hear b bits

theorem State.receiveCap_some (got : s.heardCap b bits = some m) : s.receiveCap b bits = (s.hear b bits).capRx b m := by
  simp only [State.receiveCap, got]

theorem State.receiveCap_none (got : s.heardCap b bits = none) : s.receiveCap b bits = s.hear b bits := by
  simp only [State.receiveCap, got]

theorem State.hear_inCapStep (s : State) (b : Nat) (bits : List Bool) : (s.hear b bits).inCapStep b = s.inCapStep b := by
  have lane : (s.hear b bits).laneState b 6 = s.laneState b 6 := s.hear_lane b bits 6 _
  rw [State.inCapStep, State.flag_of_f (s.hear_lane b bits 6 _), lane, s.hear_bunState b bits, s.hear_bun b bits Bundle.capStep fun _ _ => rfl]
  rfl

theorem State.capRx_idle (idle : s.inCapStep b = false) : s.capRx b m = s := by
  rw [State.capRx, idle]
  rfl

theorem State.capRx_refuses (step : s.inCapStep b = true) (wrong : capGood m = false) :
    s.capRx b m = s.setB Reg.EG_STATUS Fld.EG_STATUS_CAP_BAD true := by
  rw [State.capRx, step, wrong]
  rfl

theorem State.capRx_activates (step : s.inCapStep b = true) (good : capGood m = true) (seeing : s.bunState b ≠ 4) :
    s.capRx b m = (s.takeCap b m).activate b := by
  rw [State.capRx, step, good]
  exact if_neg seeing

theorem State.capRx_goesOn (step : s.inCapStep b = true) (good : capGood m = true) (blind : s.bunState b = 4) :
    s.capRx b m = (s.takeCap b m).setLink b (runState ((s.takeCap b m).lanesOf b)) ((s.takeCap b m).lanesOf b) := by
  rw [State.capRx, step, good]
  exact if_pos blind

/-- A bundle that becomes active keeps the CAP that it took. -/
theorem CapTaken.activated (h : CapTaken b m s) (active : Activated b s t) : CapTaken b m t :=
  h.keep active.cap (active.link _ (by decide)) (active.bun Bundle.purse fun _ _ _ _ => rfl)

/-- A bundle whose STATE changes keeps the CAP that it took. -/
theorem CapTaken.linked (h : CapTaken b m s) (st mask : Nat) : CapTaken b m (s.setLink b st mask) :=
  h.keep ((s.setLink_stays b st mask).keepReg .EG_BCAP b 0 rfl (by decide)) (s.f_setLink b st mask _ (by decide))
    (s.setLink_bun b st mask Bundle.purse fun _ _ _ => rfl)

/-- After a good CAP a bundle that is not blind is active. -/
theorem State.takeCap_activated (known : b < s.eg.length) (m : CapMsg) (some' : (s.bun b).initMask ≠ 0) (short : (s.bun b).initMask < 128)
    (goes : s.flag (Reg.EG_BCTL b) Fld.EG_BCTL_STOP = false) : Activated b (s.takeCap b m) ((s.takeCap b m).activate b) := by
  have mask : ((s.takeCap b m).bun b).initMask = (s.bun b).initMask := State.takeCap_bun known m Bundle.initMask fun _ _ _ => rfl
  refine State.activate_activated (by rwa [State.takeCap_length]) (mask ▸ some') (mask ▸ short) ?_
  rw [State.flag_of_reg _ ((s.takeCap_stays b m).keepReg .EG_BCTL b 0 rfl (by decide)), goes]

theorem replayCount_ne_lane (b l : Nat) : Reg.EG_BCNT0 b ≠ Reg.LN_LCNT b l :=
  Part.addr_ne (p := .LN_LCNT) (q := .EG_BCNT0) (i := b) (j := l) (i' := b) (j' := 0) (by decide) rfl rfl

theorem linkControl_ne_count (b l : Nat) : Reg.EG_BCTL b ≠ Reg.LN_LCNT b l :=
  Part.addr_ne (p := .LN_LCNT) (q := .EG_BCTL) (i := b) (j := l) (i' := b) (j' := 0) (by decide) rfl rfl

/-! ### The commands -/

/-- Settles O34: the receiver's counts (`hear_counts`, `hear_bad`, `hear_rx`); RETURN (`returnRx_good_bun`, `returnRx_good_expect`,
`returnRx_good_replays`, `returnRx_far_retrains`, `returnRx_good_sheds`, `returnRx_blind_bun`); ACK timeouts (`ackTimeout_replays`); CAPs that are sent
(`capSend_sends`); and CAPs that are received (`capRx_refuses`, `takeCap_taken`, `takeCap_activated`). -/
theorem returnsReplaysAndCapabilities : Obligations.ReturnsReplaysAndCapabilities := by
  refine fun t b => ⟨fun bits => ⟨?_, ?_, ?_, ?_⟩, fun bits m => ⟨?_, ?_, ?_, ?_, ?_, ?_⟩, fun p r => ?_, ?_, fun bits m => ⟨?_, ?_, ?_, ?_⟩⟩
  · refine Runs.of (fun s => s.takeReturn b.val bits) (fun _ => rfl) fun s got => ?_
    obtain ⟨stuffed, headers, -⟩ := s.hear_counts b.val bits
    rw [State.takeReturn_none got]
    exact ⟨fun many seven => State.hear_rx (bundleKnown many b) seven, stuffed, headers⟩
  · refine Runs.of (fun s => s.receiveCap b.val bits) (fun _ => rfl) fun s got => ?_
    obtain ⟨stuffed, headers, -⟩ := s.hear_counts b.val bits
    rw [State.receiveCap_none got]
    exact ⟨fun many seven => State.hear_rx (bundleKnown many b) seven, stuffed, headers⟩
  · refine Runs.of (fun s => s.takeReturn b.val bits) (fun _ => rfl) fun s wrong => ?_
    rw [State.takeReturn_none (by rw [State.heardReturn, Received.ofType_good wrong]; rfl)]
    exact State.hear_bad (by rw [Received.bad, wrong]; rfl)
  · refine Runs.of (fun s => s.receiveCap b.val bits) (fun _ => rfl) fun s wrong => ?_
    rw [State.receiveCap_none (by rw [State.heardCap, Received.ofType_good wrong]; rfl)]
    exact State.hear_bad (by rw [Received.bad, wrong, Bool.or_true])
  · refine Runs.of (fun s => s.takeReturn b.val bits) (fun _ => rfl) fun s ⟨⟨_, got⟩, low⟩ => ?_
    rw [State.takeReturn_some got, State.returnRx_unlinked (by rwa [s.hear_bunState])]
  · refine Runs.of (fun s => s.takeReturn b.val bits) (fun _ => rfl) fun s ⟨⟨⟨many, got⟩, runs⟩, good⟩ => ?_
    rw [← s.hear_bunState b.val bits] at runs
    rw [← s.hear_badExpect b.val bits] at good
    have known : b.val < (s.hear b.val bits).eg.length := by rw [s.hear_length]; exact bundleKnown many b
    have bun {α : Type} := State.returnRx_good_bun (α := α) known runs good
    rw [State.takeReturn_some got]
    refine ⟨bun Bundle.credN (fun _ _ _ => rfl) (fun _ _ _ _ => rfl) fun _ _ _ _ => rfl,
      bun Bundle.credB (fun _ _ _ => rfl) (fun _ _ _ _ => rfl) fun _ _ _ _ => rfl,
      (bun Bundle.lastReturn (fun _ _ _ => rfl) (fun _ _ _ _ => rfl) fun _ _ _ _ => rfl).trans ?_, State.returnRx_good_expect runs good,
      bun Bundle.lanesOk (fun _ _ _ => rfl) (fun _ _ _ _ => rfl) fun _ _ _ _ => rfl,
      (bun Bundle.replay (fun _ _ _ => rfl) (fun _ _ _ _ => rfl) fun _ _ _ _ => rfl).trans ?_⟩
    · exact congrArg Clock.now (s.hear_clock b.val bits)
    · exact congrArg (fromLsn · m.expect.toNat) (s.hear_bun b.val bits Bundle.replay fun _ _ => rfl)
  · refine Runs.of (fun s => s.takeReturn b.val bits) (fun _ => rfl) fun s ⟨⟨⟨many, got⟩, runs⟩, good, nak, first, named⟩ => ?_
    have replay := s.hear_bun b.val bits Bundle.replay fun _ _ => rfl
    rw [← s.hear_bunState b.val bits] at runs
    rw [← s.hear_badExpect b.val bits] at good
    rw [← s.hear_bun b.val bits Bundle.lastReplay fun _ _ => rfl] at first
    rw [← replay] at named
    have known : b.val < (s.hear b.val bits).eg.length := by rw [s.hear_length]; exact bundleKnown many b
    obtain ⟨due, last, shown, counted⟩ := State.returnRx_good_replays known runs good nak first named
    rw [replay] at due
    rw [s.hear_clock] at last
    rw [State.f_of_reg _ (s.reg_hear_ne b.val bits (replayCount_ne_lane b.val 6))] at counted
    rw [State.takeReturn_some got]
    exact ⟨due, last, shown, counted⟩
  · refine Runs.of (fun s => s.takeReturn b.val bits) (fun _ => rfl) fun s ⟨⟨⟨_, got⟩, runs⟩, far⟩ => ?_
    rw [← s.hear_bunState b.val bits] at runs
    rw [← s.hear_badExpect b.val bits] at far
    rw [State.takeReturn_some got]
    exact State.returnRx_far_retrains runs far
  · refine Runs.of (fun s => s.takeReturn b.val bits) (fun _ => rfl)
      fun s ⟨⟨⟨many, got⟩, runs⟩, good, fine, fresh, asks, below, carries⟩ => ?_
    have shed := s.hear_bun b.val bits Bundle.shedDue fun _ _ => rfl
    rw [← s.hear_bunState b.val bits] at runs
    rw [← s.hear_badExpect b.val bits] at good
    rw [← s.hear_bun b.val bits Bundle.badSince fun _ _ => rfl] at fine
    have known : b.val < (s.hear b.val bits).eg.length := by rw [s.hear_length]; exact bundleKnown many b
    have lanes : (s.hear b.val bits).lanesOf b.val = s.lanesOf b.val := s.hear_link b.val bits _
    rw [State.takeReturn_some got, State.returnRx_good_sheds known runs good fine (by rw [shed, fresh]) asks below (by rw [lanes, carries]), shed,
      s.hear_clock]
  · refine Runs.of (fun s => s.takeReturn b.val bits) (fun _ => rfl) fun s ⟨⟨many, got⟩, blind⟩ => ?_
    rw [← s.hear_bunState b.val bits] at blind
    have known : b.val < (s.hear b.val bits).eg.length := by rw [s.hear_length]; exact bundleKnown many b
    have bun {α : Type} := State.returnRx_blind_bun (α := α) (m := m) known blind
    rw [State.takeReturn_some got]
    exact ⟨bun Bundle.credN fun _ _ _ => rfl, bun Bundle.credB fun _ _ _ => rfl,
      (bun Bundle.lastReturn fun _ _ _ => rfl).trans (congrArg Clock.now (s.hear_clock b.val bits)), bun Bundle.lanesOk fun _ _ _ => rfl,
      State.returnRx_blind_expect blind⟩
  · refine Runs.of (fun s => s.ackTimeout b.val) (fun _ => rfl) fun s ⟨many, buffer, runs, late⟩ => ?_
    obtain ⟨shown, counted⟩ := s.replayFrom_shows b.val p.lsn
    rw [State.ackTimeout_replays buffer runs late, State.replayFrom_bun (bundleKnown many b), buffer]
    exact ⟨rfl, rfl, rfl, shown, counted⟩
  · exact Runs.of (fun s => s.capSend b.val) (fun _ => rfl) fun s ⟨many, step, due⟩ => State.capSend_sends (bundleKnown many b) step due
  · refine Runs.of (fun s => s.receiveCap b.val bits) (fun _ => rfl) fun s ⟨⟨_, got, step⟩, wrong⟩ => ?_
    rw [State.receiveCap_some got, State.capRx_refuses (by rwa [s.hear_inCapStep]) wrong]
    exact ⟨State.flag_setB_self _ _ _ _ (by decide) rfl, State.setB_eg .., fun a other => State.reg_setB_ne _ _ other⟩
  · refine Runs.of (fun s => s.receiveCap b.val bits) (fun _ => rfl) fun s ⟨got, idle⟩ => ?_
    rw [State.receiveCap_some got, State.capRx_idle (by rwa [s.hear_inCapStep])]
  · refine Runs.of (fun s => s.receiveCap b.val bits) (fun _ => rfl) fun s ⟨⟨many, got, step⟩, good, seeing, some', short, goes⟩ => ?_
    have mask := s.hear_bun b.val bits Bundle.initMask fun _ _ => rfl
    have known : b.val < (s.hear b.val bits).eg.length := by rw [s.hear_length]; exact bundleKnown many b
    have stays := (s.hear b.val bits).takeCap_stays b.val m
    have kept : (((s.hear b.val bits).takeCap b.val m).bun b.val).initMask = (s.bun b.val).initMask :=
      (State.takeCap_bun known m Bundle.initMask fun _ _ _ => rfl).trans mask
    have now : ((s.hear b.val bits).takeCap b.val m).clock = s.clock := (stays.clock (by decide)).trans (s.hear_clock b.val bits)
    have active := State.takeCap_activated known m (by omega) (by omega)
      ((State.flag_of_reg _ (s.reg_hear_ne b.val bits (linkControl_ne_count b.val 6))).trans goes)
    rw [State.receiveCap_some got, State.capRx_activates (by rwa [s.hear_inCapStep]) good (by rwa [s.hear_bunState])]
    refine ⟨((State.takeCap_taken known m).activated active).shows, active.state.trans (by rw [kept]), active.carries.trans kept,
      (active.bun Bundle.activeAt fun _ _ _ _ => rfl).trans (congrArg Clock.now now), active.bun Bundle.round fun _ _ _ _ => rfl,
      active.bun Bundle.lanesOk fun _ _ _ _ => rfl, active.bun Bundle.stream fun _ _ _ _ => rfl, fun l locked => ?_⟩
    have lane : ((s.hear b.val bits).takeCap b.val m).laneState b.val l.val = s.laneState b.val l.val :=
      (stays.keepF .LN_LSTAT b.val l.val _ rfl (by decide)).trans (s.hear_lane b.val bits l.val _)
    exact (active.lanes l.val l.isLt (lane.trans locked)).trans (by rw [kept])
  · refine Runs.of (fun s => s.receiveCap b.val bits) (fun _ => rfl) fun s ⟨⟨many, got, step⟩, good, blind⟩ => ?_
    have known : b.val < (s.hear b.val bits).eg.length := by rw [s.hear_length]; exact bundleKnown many b
    have lanes : ((s.hear b.val bits).takeCap b.val m).lanesOf b.val = s.lanesOf b.val :=
      (State.takeCap_link _ b.val m _ (by decide)).trans (s.hear_link b.val bits _)
    rw [State.receiveCap_some got, State.capRx_goesOn (by rwa [s.hear_inCapStep]) good (by rwa [s.hear_bunState]), lanes]
    exact ⟨((State.takeCap_taken known m).linked _ _).shows, State.bunState_setLink _ _ _ (runState_lt _),
      State.lanesOf_setLink _ _ _ (s.lanesOf_lt b.val)⟩

end Sys2Proof.Machine

/-! ## Lanes that leave the stream and that join it -/

namespace Sys2Proof.Machine

variable {s t u w : State} {b l i n mask at' type : Nat} {ls : List Nat}

/-! ### Masks of lanes -/

theorem laneMask_range_lt (p : Nat → Bool) (n : Nat) : laneMask ((List.range n).filter p) < 2 ^ n := by
  induction n with
  | zero => exact Nat.zero_lt_one
  | succ n ih =>
    rw [List.range_succ, List.filter_append, laneMask, List.foldl_append, ← laneMask, Nat.pow_succ]
    by_cases carries : p n = true
    · rw [List.filter_singleton, carries]
      exact (by omega : laneMask ((List.range n).filter p) + 2 ^ n < 2 ^ n * 2)
    · rw [List.filter_singleton, Bool.eq_false_iff.mpr carries]
      exact (by omega : laneMask ((List.range n).filter p) < 2 ^ n * 2)

theorem laneMask_lt (p : Nat → Bool) : laneMask (sevenLanes.filter p) < 128 := laneMask_range_lt p 7

/-- The only lane asked for is due at its time. -/
theorem dueLanes_one {now : Nat} (due : at' ≤ now) : dueLanes now [(l, at')] = [l] := by simp [dueLanes, due]

theorem State.roundFrom_congr (begins : (t.bun b).activeAt = (s.bun b).activeAt) (at' : Nat) : t.roundFrom b at' = s.roundFrom b at' := by
  rw [State.roundFrom, begins, State.roundFrom]

/-! ### The markers of a new mask (R252, R253) -/

/-- The markers of a new mask go out, and the stream goes on. -/
def State.marked (s : State) (b type mask round : Nat) : State := (s.markerRound b type mask round).runStream b

theorem State.marked_dealt (s : State) (b type mask round : Nat) :
    Dealt b (s.emit (.block b type mask [mask, round % 2 ^ 48])) (s.marked b type mask round) :=
  (State.ownRound_dealt _ _ _ _ _).trans (State.runStream_dealt _ _)

/-- The new mask stands from the round of its markers on; the lanes' states, the requests and the flags stay. -/
structure Remasked (b type mask round : Nat) (s u : State) : Prop where
  wire : u.wire = s.wire ++ [.block b type mask [mask, round % 2 ^ 48]]
  state : u.bunState b = runState mask
  carries : u.lanesOf b = mask
  lanes : ∀ l, u.laneState b l = s.laneState b l
  bun : ∀ {α : Type} (g : Bundle → α), (∀ x d n m, g { Bundle.withDealing x d with tokens := n, tokensAt := m } = g x) → g (u.bun b) = g (s.bun b)
  flags : ∀ x : Field, x.lo + x.width ≤ 16 → u.flag Reg.EG_STATUS x = s.flag Reg.EG_STATUS x
  counts : u.reg (Reg.EG_BCNT1 b) = s.reg (Reg.EG_BCNT1 b)

/-- The bundle runs over the lanes of a mask. -/
def State.relinked (s : State) (b mask : Nat) : State := s.setLink b (runState mask) mask

theorem State.relinked_roundFrom (s : State) (b mask at' : Nat) : (s.relinked b mask).roundFrom b at' = s.roundFrom b at' :=
  State.roundFrom_congr (s.setLink_bun b _ mask Bundle.activeAt fun _ _ _ => rfl) at'

theorem State.remasked (s : State) (b type round : Nat) (short : mask < 128) :
    Remasked b type mask round s ((s.relinked b mask).marked b type mask round) := by
  have link := s.setLink_stays b (runState mask) mask
  have dealt := (s.relinked b mask).marked_dealt b type mask round
  exact {
    wire := by rw [dealt.wire, State.emit_wire, State.relinked, link.wire (by decide)]
    state := (dealt.bunState b).trans (s.bunState_setLink b mask (runState_lt mask))
    carries := (dealt.lanesOf b).trans (s.lanesOf_setLink b _ short)
    lanes := fun l => (dealt.laneState b l).trans (link.keepF .LN_LSTAT b l _ rfl (by decide))
    bun := fun g keeps => by
      rw [dealt.bun g fun x d => keeps x d x.tokens x.tokensAt, State.bun_congr (State.emit_eg ..)]
      exact s.setLink_bun b _ mask g fun x n m => keeps x ⟨x.lanes, x.turn, x.freeAt, x.stream⟩ n m
    flags := fun x below => (dealt.flag _ x).trans (s.flag_setLink b _ mask x below)
    counts := by
      rw [State.reg, dealt.regs]
      exact link.keepReg .EG_BCNT1 b 0 rfl (by decide) }

/-! ### SHED_ROUND (R252) -/

/-- The bundle without the requests for lanes that leave. -/
def Bundle.shedFrom (x : Bundle) (ls : List Nat) : Bundle :=
  { x with shedDue := x.shedDue.filter fun p => !ls.contains p.1, badSince := x.badSince.filter fun p => !ls.contains p.1 }

/-- A shed is counted and shown. -/
def State.shedNoted (s : State) (b : Nat) (ls : List Nat) : State :=
  ((s.modBun b fun x => x.shedFrom ls).satF (Reg.EG_BCNT1 b) Fld.EG_BCNT1_SHEDS ls.length).setB Reg.EG_STATUS Fld.EG_STATUS_SHED true

/-- A bundle's stream has come to the round of instant `at'`. -/
def State.caughtUp (s : State) (b at' : Nat) : State := (s.closeRound b).catchUp b ((s.bun b).roundStart (s.roundFrom b at'))

theorem State.caughtUp_dealt (s : State) (b at' : Nat) : Dealt b s (s.caughtUp b at') := (s.closeRound_dealt b).trans (State.catchUp_dealt _ _ _)

/-- The lanes that stay where those of a list leave. -/
def State.lessLanes (s : State) (b : Nat) (ls : List Nat) : Nat := laneMask (sevenLanes.filter fun i => hasBit (s.lanesOf b) i && !ls.contains i)

theorem State.lessLanes_lt (s : State) (b : Nat) (ls : List Nat) : s.lessLanes b ls < 128 := laneMask_lt _

/-- The lane is out before the markers of its shed. -/
def State.departed (s : State) (b l at' : Nat) : State := (((s.runStream b).shedNoted b [l]).caughtUp b at').laneOut b l

/-- Where the only request is due, its lane leaves. -/
theorem State.shedRound_eq (runs : s.bunState b = 2 ∨ s.bunState b = 3) (asked : (s.bun b).shedDue = [(l, at')]) (due : at' ≤ s.clock.now) :
    s.shedRound b =
      if s.lessLanes b [l] = 0 then (((s.runStream b).shedNoted b [l]).laneOut b l).retrain b
      else ((s.departed b l at').relinked b (s.lessLanes b [l])).marked b 0x33 (s.lessLanes b [l])
        (((s.departed b l at').relinked b (s.lessLanes b [l])).roundFrom b at') := by
  have dealt := s.runStream_dealt b
  have asked' : ((s.runStream b).bun b).shedDue = [(l, at')] := (dealt.bun Bundle.shedDue fun _ _ => rfl).trans asked
  have lanes : dueLanes (s.runStream b).clock.now ((s.runStream b).bun b).shedDue = [l] := by rw [asked', dealt.clock, dueLanes_one due]
  have first : (((s.runStream b).bun b).shedDue.map (·.2)).foldl min (s.runStream b).clock.now = at' := by
    rw [asked', dealt.clock]
    exact Nat.min_eq_right due
  have less : (s.runStream b).lessLanes b [l] = s.lessLanes b [l] := by rw [State.lessLanes, dealt.lanesOf, State.lessLanes]
  have runs' : (s.runStream b).bunState b = 2 ∨ (s.runStream b).bunState b = 3 := by rwa [dealt.bunState]
  rw [← less]
  unfold State.shedRound
  simp only [lanes, first]
  exact if_pos ⟨List.cons_ne_nil l [], runs'⟩

theorem State.shedNoted_counts (s : State) (b : Nat) (ls : List Nat) : (s.shedNoted b ls).flag Reg.EG_STATUS Fld.EG_STATUS_SHED = true ∧
    (s.shedNoted b ls).f (Reg.EG_BCNT1 b) Fld.EG_BCNT1_SHEDS = min (s.f (Reg.EG_BCNT1 b) Fld.EG_BCNT1_SHEDS + ls.length) 65535 := by
  refine ⟨State.flag_setB_self _ _ _ _ (by decide) rfl, ?_⟩
  rw [State.shedNoted, State.f_of_reg _ (State.reg_setB_ne _ _ (linkCount_ne_status b)), State.f_satF_self _ _ _ (by decide), State.f_modBun]
  rfl

theorem State.laneOut_stays (s : State) (b l : Nat) : Within (Machine.maskOf [.eg, .LN_STATUS, .LN_LSTAT]) 0 0 s (s.laneOut b l) :=
  State.laneOut_within ⟨by decide, .inl (by decide)⟩ (Within.refl _ _ _ _)

/-- The lane's markers go out with the mask that is left, and the shed is counted. -/
theorem State.shedRound_sheds (known : b < s.eg.length) (below : l < 7) (runs : s.bunState b = 2 ∨ s.bunState b = 3)
    (asked : (s.bun b).shedDue = [(l, at')]) (due : at' ≤ s.clock.now) (some' : s.lessLanes b [l] ≠ 0) :
    (s.shedRound b).wire = s.wire ++ [.block b 0x33 (s.lessLanes b [l]) [s.lessLanes b [l], s.roundFrom b at' % 2 ^ 48]] ∧
      (s.shedRound b).lanesOf b = s.lessLanes b [l] ∧ (s.shedRound b).bunState b = runState (s.lessLanes b [l]) ∧
      (s.shedRound b).laneState b l = 5 ∧ ((s.shedRound b).bun b).shedDue = [] ∧ (s.shedRound b).flag Reg.EG_STATUS Fld.EG_STATUS_SHED = true ∧
      (s.shedRound b).f (Reg.EG_BCNT1 b) Fld.EG_BCNT1_SHEDS = min (s.f (Reg.EG_BCNT1 b) Fld.EG_BCNT1_SHEDS + 1) 65535 := by
  have begun := s.runStream_dealt b
  have caught := ((s.runStream b).shedNoted b [l]).caughtUp_dealt b at'
  have out : Within _ _ _ _ (s.departed b l at') := (((s.runStream b).shedNoted b [l]).caughtUp b at').laneOut_stays b l
  obtain ⟨shown, counted⟩ := (s.runStream b).shedNoted_counts b [l]
  have bun {α : Type} (g : Bundle → α) (keeps : ∀ x d, g (Bundle.withDealing x d) = g x) :
      g ((s.departed b l at').bun b) = g ((s.bun b).shedFrom [l]) := by
    rw [State.departed, State.laneOut_bun _ _ _ g fun x ls => keeps x ⟨ls, x.turn, x.freeAt, x.stream⟩, caught.bun g keeps]
    refine (congrArg g (State.bun_modBun_self (s := s.runStream b) (fun x => x.shedFrom [l]) (by rwa [begun.length]))).trans ?_
    exact begun.bun (fun x => g (x.shedFrom [l])) fun x d => keeps (x.shedFrom [l]) d
  have wire : (s.departed b l at').wire = s.wire := by
    rw [out.wire (by decide), caught.wire]
    exact begun.wire
  have round : (s.departed b l at').roundFrom b at' = s.roundFrom b at' :=
    State.roundFrom_congr (bun Bundle.activeAt fun _ _ => rfl) at'
  have done := (s.departed b l at').remasked b 0x33 (s.roundFrom b at') (s.lessLanes_lt b [l])
  rw [State.shedRound_eq runs asked due, if_neg some', State.relinked_roundFrom, round]
  refine ⟨by rw [done.wire, wire], done.carries, done.state, ?_, ?_, ?_, ?_⟩
  · rw [done.lanes, State.departed, State.laneState_laneOut _ _ below below, if_pos rfl]
  · rw [done.bun Bundle.shedDue fun _ _ _ _ => rfl, bun Bundle.shedDue fun _ _ => rfl, Bundle.shedFrom, asked]
    simp
  · rw [done.flags _ (by decide), State.flag_of_reg _ (out.keepReg .EG_STATUS 0 0 rfl (by decide)), caught.flag, shown]
  · rw [State.f_of_reg _ done.counts, State.f_of_reg _ (out.keepReg .EG_BCNT1 b 0 rfl (by decide)), caught.f, counted, begun.f]
    rfl

/-- Where no lane is left the bundle trains. -/
theorem State.shedRound_retrains (runs : s.bunState b = 2 ∨ s.bunState b = 3) (asked : (s.bun b).shedDue = [(l, at')]) (due : at' ≤ s.clock.now)
    (none' : s.lessLanes b [l] = 0) : (s.shedRound b).bunState b = 1 ∧ (s.shedRound b).lanesOf b = 0 := by
  obtain ⟨state, lanes, -⟩ := (((s.runStream b).shedNoted b [l]).laneOut b l).retrain_trains b
  rw [State.shedRound_eq runs asked due, if_pos none']
  exact ⟨state, lanes⟩

/-! ### REJOIN_ROUND (R253) -/

/-- The bundle without the requests for lanes that join. -/
def Bundle.rejoinedBy (x : Bundle) (ls : List Nat) : Bundle := { x with rejoinDue := x.rejoinDue.filter fun p => !ls.contains p.1 }

/-- A rejoin is counted and shown. -/
def State.rejoinNoted (s : State) (b : Nat) (ls : List Nat) : State :=
  ((s.modBun b fun x => x.rejoinedBy ls).satF (Reg.EG_BCNT1 b) Fld.EG_BCNT1_REJOINS ls.length).setB Reg.EG_STATUS Fld.EG_STATUS_REJOIN true

/-- The lanes of a list carry the stream. -/
def State.lanesBack (s : State) (b : Nat) (ls : List Nat) : State :=
  ls.foldl (fun s l => s.modLane b l fun x => { x with burstFrom := none, retryAt := none }) (s.setLanes b 4 ls)

/-- The lanes with those of a list. -/
def State.moreLanes (s : State) (b : Nat) (ls : List Nat) : Nat := laneMask (sevenLanes.filter fun i => hasBit (s.lanesOf b) i || ls.contains i)

theorem State.moreLanes_lt (s : State) (b : Nat) (ls : List Nat) : s.moreLanes b ls < 128 := laneMask_lt _

/-- The lane carries the stream before the markers of its rejoin. -/
def State.returned (s : State) (b l at' : Nat) : State := (((s.runStream b).rejoinNoted b [l]).caughtUp b at').lanesBack b [l]

/-- Where the only request is due and its lane is out, the lane joins. -/
theorem State.rejoinRound_eq (runs : s.bunState b = 2 ∨ s.bunState b = 3) (asked : (s.bun b).rejoinDue = [(l, at')]) (due : at' ≤ s.clock.now)
    (out : s.laneState b l = 5) : s.rejoinRound b =
      ((s.returned b l at').relinked b (s.moreLanes b [l])).marked b 0x4B (s.moreLanes b [l]) ((s.returned b l at').roundFrom b at') := by
  have dealt := s.runStream_dealt b
  have asked' : ((s.runStream b).bun b).rejoinDue = [(l, at')] := (dealt.bun Bundle.rejoinDue fun _ _ => rfl).trans asked
  have lanes : dueLanes (s.runStream b).clock.now ((s.runStream b).bun b).rejoinDue = [l] := by rw [asked', dealt.clock, dueLanes_one due]
  have first : (((s.runStream b).bun b).rejoinDue.map (·.2)).foldl min (s.runStream b).clock.now = at' := by
    rw [asked', dealt.clock]
    exact Nat.min_eq_right due
  have more : (s.runStream b).moreLanes b [l] = s.moreLanes b [l] := by rw [State.moreLanes, dealt.lanesOf, State.moreLanes]
  have runs' : (s.runStream b).bunState b = 2 ∨ (s.runStream b).bunState b = 3 := by rwa [dealt.bunState]
  have ok : [l].filter (fun i => (s.runStream b).laneState b i == 5) = [l] := by simp [dealt.laneState, out]
  rw [← more]
  unfold State.rejoinRound
  simp only [lanes, first, State.laneState_modBun, ok]
  rw [if_pos ⟨List.cons_ne_nil l [], runs'⟩, if_neg (List.cons_ne_nil l [])]
  rfl

theorem State.rejoinNoted_counts (s : State) (b : Nat) (ls : List Nat) : (s.rejoinNoted b ls).flag Reg.EG_STATUS Fld.EG_STATUS_REJOIN = true ∧
    (s.rejoinNoted b ls).f (Reg.EG_BCNT1 b) Fld.EG_BCNT1_REJOINS = min (s.f (Reg.EG_BCNT1 b) Fld.EG_BCNT1_REJOINS + ls.length) 65535 := by
  refine ⟨State.flag_setB_self _ _ _ _ (by decide) rfl, ?_⟩
  rw [State.rejoinNoted, State.f_of_reg _ (State.reg_setB_ne _ _ (linkCount_ne_status b)), State.f_satF_self _ _ _ (by decide), State.f_modBun]
  rfl

theorem State.lanesBack_stays (s : State) (b : Nat) (ls : List Nat) : Within (Machine.maskOf [.eg, .LN_STATUS, .LN_LSTAT]) 0 0 s (s.lanesBack b ls) :=
  Within.foldl (fun _ _ h => State.modLane_within ⟨by decide, .inl (by decide)⟩ h)
    (State.setLanes_within ⟨by decide, .inl (by decide)⟩ (Within.refl _ _ _ _))

theorem State.lanesBack_bun {α : Type} (s : State) (b : Nat) (ls : List Nat) (g : Bundle → α) (keeps : ∀ x ls, g { x with lanes := ls } = g x) :
    g ((s.lanesBack b ls).bun b) = g (s.bun b) := by
  rw [State.lanesBack, State.foldl_modLane_bun _ _ g keeps, State.bun_congr (State.setLanes_eg _ _ _ _)]

theorem State.laneState_lanesBack (s : State) (b : Nat) (below : l < 7) : (s.lanesBack b [l]).laneState b l = 4 := by
  have set := s.laneState_setLanes b (st := 4) (ls := [l]) (by decide) (fun _ mem => List.mem_singleton.mp mem ▸ below) below
  rwa [if_pos List.mem_cons_self] at set

/-- The lane's markers go out with the mask that it joins, and the rejoin is counted. -/
theorem State.rejoinRound_joins (known : b < s.eg.length) (below : l < 7) (runs : s.bunState b = 2 ∨ s.bunState b = 3)
    (asked : (s.bun b).rejoinDue = [(l, at')]) (due : at' ≤ s.clock.now) (out : s.laneState b l = 5) :
    (s.rejoinRound b).wire = s.wire ++ [.block b 0x4B (s.moreLanes b [l]) [s.moreLanes b [l], s.roundFrom b at' % 2 ^ 48]] ∧
      (s.rejoinRound b).lanesOf b = s.moreLanes b [l] ∧ (s.rejoinRound b).bunState b = runState (s.moreLanes b [l]) ∧
      (s.rejoinRound b).laneState b l = 4 ∧ ((s.rejoinRound b).bun b).rejoinDue = [] ∧
      (s.rejoinRound b).flag Reg.EG_STATUS Fld.EG_STATUS_REJOIN = true ∧
      (s.rejoinRound b).f (Reg.EG_BCNT1 b) Fld.EG_BCNT1_REJOINS = min (s.f (Reg.EG_BCNT1 b) Fld.EG_BCNT1_REJOINS + 1) 65535 := by
  have begun := s.runStream_dealt b
  have caught := ((s.runStream b).rejoinNoted b [l]).caughtUp_dealt b at'
  have back : Within _ _ _ _ (s.returned b l at') := (((s.runStream b).rejoinNoted b [l]).caughtUp b at').lanesBack_stays b [l]
  obtain ⟨shown, counted⟩ := (s.runStream b).rejoinNoted_counts b [l]
  have bun {α : Type} (g : Bundle → α) (keeps : ∀ x d, g (Bundle.withDealing x d) = g x) :
      g ((s.returned b l at').bun b) = g ((s.bun b).rejoinedBy [l]) := by
    rw [State.returned, State.lanesBack_bun _ _ _ g fun x ls => keeps x ⟨ls, x.turn, x.freeAt, x.stream⟩, caught.bun g keeps]
    refine (congrArg g (State.bun_modBun_self (s := s.runStream b) (fun x => x.rejoinedBy [l]) (by rwa [begun.length]))).trans ?_
    exact begun.bun (fun x => g (x.rejoinedBy [l])) fun x d => keeps (x.rejoinedBy [l]) d
  have wire : (s.returned b l at').wire = s.wire := by
    rw [back.wire (by decide), caught.wire]
    exact begun.wire
  have round : (s.returned b l at').roundFrom b at' = s.roundFrom b at' :=
    State.roundFrom_congr (bun Bundle.activeAt fun _ _ => rfl) at'
  have done := (s.returned b l at').remasked b 0x4B (s.roundFrom b at') (s.moreLanes_lt b [l])
  rw [State.rejoinRound_eq runs asked due out, round]
  refine ⟨by rw [done.wire, wire], done.carries, done.state, ?_, ?_, ?_, ?_⟩
  · rw [done.lanes, State.returned, State.laneState_lanesBack _ _ below]
  · rw [done.bun Bundle.rejoinDue fun _ _ _ _ => rfl, bun Bundle.rejoinDue fun _ _ => rfl, Bundle.rejoinedBy, asked]
    simp
  · rw [done.flags _ (by decide), State.flag_of_reg _ (back.keepReg .EG_STATUS 0 0 rfl (by decide)), caught.flag, shown]
  · rw [State.f_of_reg _ done.counts, State.f_of_reg _ (back.keepReg .EG_BCNT1 b 0 rfl (by decide)), caught.f, counted, begun.f]
    rfl

end Sys2Proof.Machine

/-! ## Requests for lanes, blindness, credit stalls and stops -/

namespace Sys2Proof.Machine

variable {s t u : State} {b l i n mask at' since : Nat} {isB : Bool} {x : Field}

/-! ### EG_BCTL -/

theorem linkState_ne_control (b : Nat) : Reg.EG_BSTAT b ≠ Reg.EG_BCTL b :=
  Part.addr_ne (p := .EG_BCTL) (q := .EG_BSTAT) (i := b) (j := 0) (i' := b) (j' := 0) (by decide) rfl rfl

theorem laneStat_ne_control (b l : Nat) : Reg.LN_LSTAT b l ≠ Reg.EG_BCTL b :=
  Part.addr_ne (p := .EG_BCTL) (q := .LN_LSTAT) (i := b) (j := 0) (i' := b) (j' := l) (by decide) rfl rfl

theorem State.link_setControl (s : State) (b : Nat) (f : Field) (v : Nat) (x : Field) :
    (s.setF (Reg.EG_BCTL b) f v).f (Reg.EG_BSTAT b) x = s.f (Reg.EG_BSTAT b) x := State.f_of_reg _ (State.reg_setF_ne _ _ (linkState_ne_control b))

theorem State.lane_setControl (s : State) (b : Nat) (f : Field) (v l : Nat) (x : Field) :
    (s.setF (Reg.EG_BCTL b) f v).f (Reg.LN_LSTAT b l) x = s.f (Reg.LN_LSTAT b l) x :=
  State.f_of_reg _ (State.reg_setF_ne _ _ (laneStat_ne_control b l))

/-! ### Requests of the control computer (R252, R253) -/

/-- LANE is written with the command. -/
def State.laneNamed (s : State) (b l : Nat) : State := s.setF (Reg.EG_BCTL b) Fld.EG_BCTL_LANE l

theorem State.laneNamed_lane (s : State) (b : Nat) {l : Nat} (lane : l < 8) : (s.laneNamed b l).f (Reg.EG_BCTL b) Fld.EG_BCTL_LANE = l :=
  (State.f_setF_self _ _ _ _ (by decide)).trans (Nat.mod_eq_of_lt lane)

theorem State.laneNamed_bun (s : State) (b l : Nat) : (s.laneNamed b l).bun b = s.bun b := State.bun_congr (State.setF_eg _ _ _ _) b

theorem State.laneNamed_bunState (s : State) (b l : Nat) : (s.laneNamed b l).bunState b = s.bunState b := s.link_setControl b _ _ _

theorem State.laneNamed_lanesOf (s : State) (b l : Nat) : (s.laneNamed b l).lanesOf b = s.lanesOf b := s.link_setControl b _ _ _

theorem State.laneNamed_laneState (s : State) (b l : Nat) : (s.laneNamed b l).laneState b i = s.laneState b i := s.lane_setControl b _ _ _ _

theorem State.askShed_refuses (no : l = 7 ∨ hasBit (s.lanesOf b) l = false) : s.askShed b l = s :=
  if_neg fun ⟨below, carries, _⟩ => no.elim (by omega) fun clear => Bool.false_ne_true (clear.symm.trans carries)

/-- A lane of the stream that the command names is to be shed. -/
theorem State.laneNamed_sheds (known : b < s.eg.length) (runs : s.bunState b = 2 ∨ s.bunState b = 3) (below : l < 7)
    (carries : hasBit (s.lanesOf b) l = true) (fresh : ((s.bun b).shedDue.any fun p => p.1 == l) = false) :
    (((s.laneNamed b l).askShed b l).bun b).shedDue = (s.bun b).shedDue ++ [(l, s.clock.now + 100)] ∧
      ((s.laneNamed b l).askShed b l).f (Reg.EG_BCTL b) Fld.EG_BCTL_LANE = l := by
  rw [State.askShed_asks below (by rwa [s.laneNamed_lanesOf]) (by rwa [s.laneNamed_bunState]) (by rwa [s.laneNamed_bun])]
  refine ⟨?_, s.laneNamed_lane b (by omega)⟩
  rw [State.bun_modBun_self _ (by exact known), s.laneNamed_bun]
  rfl

/-- A lane that is out and that the command names is to join. -/
theorem State.laneNamed_rejoins (known : b < s.eg.length) (runs : s.bunState b = 2 ∨ s.bunState b = 3) (below : l < 7)
    (locked : hasBit (s.bun b).lanesOk l = true) (out : s.laneState b l = 5) (gone : hasBit (s.lanesOf b) l = false)
    (fresh : ((s.bun b).rejoinDue.any fun p => p.1 == l) = false) :
    (((s.laneNamed b l).rejoinCmd b l).bun b).rejoinDue = (s.bun b).rejoinDue ++ [(l, s.clock.now + 100)] ∧
      ((s.laneNamed b l).rejoinCmd b l).f (Reg.EG_BCTL b) Fld.EG_BCTL_LANE = l := by
  have asks : (s.laneNamed b l).rejoinCmd b l = (s.laneNamed b l).askRejoin b l := if_pos (by rwa [s.laneNamed_bun])
  rw [asks, State.askRejoin_asks below (by rwa [s.laneNamed_laneState]) (by rwa [s.laneNamed_lanesOf]) (by rwa [s.laneNamed_bunState])
    (by rwa [s.laneNamed_bun])]
  refine ⟨?_, s.laneNamed_lane b (by omega)⟩
  rw [State.bun_modBun_self _ (by exact known), s.laneNamed_bun]
  rfl

/-- A lane that the last RETURN does not show locked is not asked for. -/
theorem State.laneNamed_refuses (unlocked : hasBit (s.bun b).lanesOk l = false) : (s.laneNamed b l).rejoinCmd b l = s.laneNamed b l :=
  if_neg (by rw [s.laneNamed_bun, unlocked]; exact Bool.false_ne_true)

/-! ### Blindness (R254) -/

theorem State.becomeBlind_shows (known : b < s.eg.length) : (s.becomeBlind b).flag Reg.EG_STATUS Fld.EG_STATUS_BLIND = true ∧
    (s.becomeBlind b).f (Reg.EG_BSTAT b) Fld.EG_BSTAT_REPLAY = 0 ∧
    (s.becomeBlind b).f (Reg.EG_BCNT1 b) Fld.EG_BCNT1_BLINDS_REL =
      min (s.f (Reg.EG_BCNT1 b) Fld.EG_BCNT1_BLINDS_REL + (s.bun b).replay.length) 65535 := by
  have released : ((s.becomeBlind b).bun b).replay = [] := s.becomeBlind_bun b Bundle.replay (fun _ _ _ => rfl) known
  rw [State.becomeBlind_eq, State.bun_congr (State.showReplay_eg _ _)] at released
  rw [State.becomeBlind_eq]
  refine ⟨?_, ?_, ?_⟩
  · rw [State.flag_of_reg _ (State.reg_showReplay_ne (linkStatus_ne_state b).symm), State.flag_of_reg _ (State.reg_satF_ne _ _ (linkCount_ne_status b).symm)]
    exact State.flag_setB_self _ _ _ _ (by decide) rfl
  · rw [State.showReplay, State.f_setF_self _ _ _ _ (by decide), released]
    rfl
  · rw [State.f_of_reg _ (State.reg_showReplay_ne (linkCount_ne_state b).symm), State.f_satF_self _ _ _ (by decide),
      State.f_of_reg _ (State.reg_setB_ne _ _ (linkCount_ne_status b)), State.f_modBun,
      (s.setLink_stays b 4 _).keepF .EG_BCNT1 b 0 _ rfl (by decide)]
    rfl

/-! ### Credit stalls (R248, R258) -/

/-- The instant since which a class has waited for credit. -/
def Bundle.stalled (x : Bundle) (isB : Bool) : Option Nat := if isB then x.stallB else x.stallN

theorem State.stallCheck_stalled (known : b < s.eg.length) (isB : Bool) : ((s.stallCheck b).bun b).stalled isB =
    if s.waitsCredit b isB then some (((s.bun b).stalled isB).getD s.clock.now) else none := by
  unfold State.stallCheck
  extract_lets n w
  rw [State.bun_modBun_self _ known]
  cases isB <;> rfl

theorem State.creditStall_shows (known : b < s.eg.length) (waits : s.waitsCredit b isB = true) (from' : (s.bun b).stalled isB = some since)
    (long : since + 10000 < s.clock.now) : (s.creditStall b isB).flag Reg.EG_STATUS Fld.EG_STATUS_CREDIT_STALL = true := by
  have stalled := State.stallCheck_stalled known isB
  rw [if_pos waits, from', Option.getD_some, Bundle.stalled] at stalled
  have shown : s.creditStall b isB = (s.stallCheck b).setB Reg.EG_STATUS Fld.EG_STATUS_CREDIT_STALL true := by
    unfold State.creditStall
    simp only [stalled]
    exact if_pos long
  rw [shown]
  exact State.flag_setB_self _ _ _ _ (by decide) rfl

theorem State.creditStall_ends (known : b < s.eg.length) (free : s.waitsCredit b isB = false) :
    (s.creditStall b isB).regs = s.regs ∧ ((s.creditStall b isB).bun b).stalled isB = none := by
  have stalled := State.stallCheck_stalled known isB
  rw [free, if_neg Bool.false_ne_true] at stalled
  have quiet : s.creditStall b isB = s.stallCheck b := by
    rw [Bundle.stalled] at stalled
    unfold State.creditStall
    simp only [stalled]
  rw [quiet]
  exact ⟨rfl, stalled⟩

/-! ### Stops (R256, R271) -/

/-- STOP is written. -/
def State.stopSet (s : State) (b : Nat) (v : Bool) : State := s.setB (Reg.EG_BCTL b) Fld.EG_BCTL_STOP v

theorem State.stopSet_flag (s : State) (b : Nat) (v : Bool) : (s.stopSet b v).flag (Reg.EG_BCTL b) Fld.EG_BCTL_STOP = v :=
  State.flag_setB_self _ _ _ _ (by decide) rfl

theorem State.stopSet_bun (s : State) (b : Nat) (v : Bool) : (s.stopSet b v).bun b = s.bun b := State.bun_congr (State.setB_eg _ _ _ _) b

theorem State.stopSet_link (s : State) (b : Nat) (v : Bool) (x : Field) : (s.stopSet b v).f (Reg.EG_BSTAT b) x = s.f (Reg.EG_BSTAT b) x :=
  State.f_of_reg _ (State.reg_setB_ne _ _ (linkState_ne_control b))

theorem State.stopSet_lane (s : State) (b : Nat) (v : Bool) (l : Nat) (x : Field) :
    (s.stopSet b v).f (Reg.LN_LSTAT b l) x = s.f (Reg.LN_LSTAT b l) x := State.f_of_reg _ (State.reg_setB_ne _ _ (laneStat_ne_control b l))

theorem State.stopSet_bunState (s : State) (b : Nat) (v : Bool) : (s.stopSet b v).bunState b = s.bunState b := s.stopSet_link b v _

theorem State.stopSet_bunActive (s : State) (b : Nat) (v : Bool) : (s.stopSet b v).bunActive b = s.bunActive b := by
  rw [State.bunActive, s.stopSet_bunState, State.bunActive]

theorem State.stopSet_allMoored (s : State) (b : Nat) (v : Bool) : (s.stopSet b v).allMoored b = s.allMoored b :=
  congrArg (sevenLanes.all ·) (funext fun l => congrArg (· == 6) (s.stopSet_lane b v l _))

/-- At a packet boundary an active bundle stops. -/
theorem State.bunStop_stops (active : s.bunActive b = true) (quiet : (s.bun b).stream = []) (due : (s.bun b).freeAt ≤ s.clock.now * 14) :
    s.bunStop b = (s.stopSet b true).stopNow b := by
  have still : (s.stopSet b true).runStream b = s.stopSet b true := State.runStream_empty (by rwa [s.stopSet_bun])
  have boundary : (s.stopSet b true).atBoundary b = true := by
    rw [State.atBoundary, s.stopSet_bun, quiet]
    exact decide_eq_true due
  rw [State.bunStop, ← State.stopSet, still, s.stopSet_bunActive, active, boundary]
  rfl

/-- Before the boundary, or with no stream, a stop waits. -/
theorem State.bunStop_waits (waits : s.clock.now * 14 < (s.bun b).freeAt ∨ s.bunActive b = false ∧ (s.bun b).stream = []) :
    s.bunStop b = s.stopSet b true := by
  have still : (s.stopSet b true).runStream b = s.stopSet b true := waits.elim
    (fun early => State.runStream_early (by rwa [s.stopSet_bun])) fun ⟨_, quiet⟩ => State.runStream_empty (by rwa [s.stopSet_bun])
  have stays : ¬ ((s.stopSet b true).bunActive b && (s.stopSet b true).atBoundary b) = true := by
    rw [s.stopSet_bunActive, State.atBoundary, s.stopSet_bun]
    rcases waits with early | ⟨idle, -⟩
    · have late : ¬ (s.bun b).freeAt ≤ (s.stopSet b true).clock.now * 14 := Nat.not_le.mpr early
      simp [late]
    · simp [idle]
  rw [State.bunStop, ← State.stopSet, still, if_neg stays]

theorem State.bunGo_idle (other : s.bunState b ≠ 5) : s.bunGo b = s.stopSet b false := by
  rw [← s.stopSet_bunState b false] at other
  exact if_pos other

theorem State.bunGo_moored (stopped : s.bunState b = 5) (moored : s.allMoored b = true) : s.bunGo b = (s.stopSet b false).exitCause b := by
  rw [← s.stopSet_bunState b false] at stopped
  rw [← s.stopSet_allMoored b false] at moored
  exact (if_neg (not_not.mpr stopped)).trans (if_pos moored)

/-- The end of the stop on a bundle whose lanes carry its stream. -/
def State.goneOn (s : State) (b : Nat) : State :=
  ((s.stopSet b false).modBun b fun x => { x with lastReturn := s.clock.now, moorRound := none }).relinked b (s.lanesOf b)

theorem State.bunGo_goes (stopped : s.bunState b = 5) (sails : s.allMoored b = false) :
    s.bunGo b = if (s.goneOn b).flag (Reg.LN_LSTAT b 6) Fld.LN_LSTAT_RX_LOCK then s.goneOn b else (s.goneOn b).becomeBlind b := by
  have lanes : (s.stopSet b false).lanesOf b = s.lanesOf b := s.stopSet_link b false _
  rw [← s.stopSet_bunState b false] at stopped
  rw [← s.stopSet_allMoored b false] at sails
  rw [State.goneOn, ← lanes]
  exact (if_neg (not_not.mpr stopped)).trans (if_neg (ne_of_eq_of_ne sails Bool.false_ne_true))

theorem State.exitCause_exits (known : b < s.eg.length) : ((s.exitCause b).bun b).exitDue = true ∧ (s.exitCause b).bunState b = 1 ∧
    ∀ x : Field, (s.exitCause b).flag (Reg.EG_BCTL b) x = s.flag (Reg.EG_BCTL b) x := by
  refine ⟨?_, State.bunState_setLink _ b 0 (by decide), fun x => ?_⟩
  · rw [State.exitCause, State.setLink_bun _ b 1 0 Bundle.exitDue fun _ _ _ => rfl, State.bun_modBun_self _ known]
  · exact State.flag_of_reg _ ((State.setLink_stays _ b 1 0).keepReg .EG_BCTL b 0 rfl (by decide))

theorem State.goneOn_link (s : State) (b : Nat) : (s.goneOn b).bunState b = runState (s.lanesOf b) ∧ (s.goneOn b).lanesOf b = s.lanesOf b :=
  ⟨State.bunState_setLink _ b _ (runState_lt _), State.lanesOf_setLink _ b _ (s.lanesOf_lt b)⟩

theorem State.goneOn_bun (known : b < s.eg.length) : ((s.goneOn b).bun b).lastReturn = s.clock.now := by
  rw [State.goneOn, State.relinked, State.setLink_bun _ b _ _ Bundle.lastReturn fun _ _ _ => rfl, State.bun_modBun_self _ (by exact known)]

theorem State.goneOn_length (s : State) (b : Nat) : (s.goneOn b).eg.length = s.eg.length := by
  rw [State.goneOn, State.relinked, State.setLink_length]
  exact State.modBun_length _ _ _

theorem State.goneOn_stop (s : State) (b : Nat) : (s.goneOn b).flag (Reg.EG_BCTL b) Fld.EG_BCTL_STOP = false := by
  rw [State.goneOn, State.relinked, State.flag_of_reg _ ((State.setLink_stays _ b _ _).keepReg .EG_BCTL b 0 rfl (by decide))]
  exact s.stopSet_flag b false

theorem State.goneOn_lock (s : State) (b : Nat) (x : Field) : (s.goneOn b).flag (Reg.LN_LSTAT b 6) x = s.flag (Reg.LN_LSTAT b 6) x := by
  rw [State.goneOn, State.relinked, State.flag_of_reg _ ((State.setLink_stays _ b _ _).keepReg .LN_LSTAT b 6 rfl (by decide))]
  exact State.flag_of_f (s.stopSet_lane b false 6 x)

/-- After its stop a bundle is active over its lanes, or blind where the return has no lock. -/
theorem State.bunGo_runs (known : b < s.eg.length) (stopped : s.bunState b = 5) (sails : s.allMoored b = false) :
    (s.bunGo b).flag (Reg.EG_BCTL b) Fld.EG_BCTL_STOP = false ∧ (s.bunGo b).lanesOf b = s.lanesOf b ∧ ((s.bunGo b).bun b).lastReturn = s.clock.now ∧
      (s.bunGo b).bunState b = if s.flag (Reg.LN_LSTAT b 6) Fld.LN_LSTAT_RX_LOCK = true then runState (s.lanesOf b) else 4 := by
  obtain ⟨state, lanes⟩ := s.goneOn_link b
  rw [State.bunGo_goes stopped sails, s.goneOn_lock]
  split
  · exact ⟨s.goneOn_stop b, lanes, State.goneOn_bun known, state⟩
  · refine ⟨?_, (State.lanesOf_becomeBlind _ b).trans lanes, ?_, State.bunState_becomeBlind _ b⟩
    · rw [State.flag_of_reg _ ((State.becomeBlind_stays _ b).keepReg .EG_BCTL b 0 rfl (by decide)), s.goneOn_stop]
    · rw [State.becomeBlind_bun _ b Bundle.lastReturn (fun _ _ _ => rfl) (by rwa [s.goneOn_length])]
      exact State.goneOn_bun known

/-! ### The commands -/

theorem lessLanes_eq (s : State) (b l : Nat) : s.lessLanes b [l] = laneMask (sevenLanes.filter fun i => hasBit (s.lanesOf b) i && i != l) := by
  simp only [State.lessLanes, List.contains_cons, List.contains_nil, Bool.or_false]
  rfl

theorem moreLanes_eq (s : State) (b l : Nat) : s.moreLanes b [l] = laneMask (sevenLanes.filter fun i => hasBit (s.lanesOf b) i || i == l) := by
  simp only [State.moreLanes, List.contains_cons, List.contains_nil, Bool.or_false]

/-- Settles O35: rounds of sheds and rejoins (`shedRound_sheds`, `shedRound_retrains`, `rejoinRound_joins`), their commands (`laneNamed_sheds`,
`laneNamed_rejoins`), blindness (`becomeBlind_bun`, `becomeBlind_shows`), credit stalls (`creditStall_shows`, `creditStall_ends`), stops
(`bunStop_stops`, `stopNow_stops`, `bunStop_waits`) and their ends (`bunGo_idle`, `bunGo_moored`, `bunGo_runs`). -/
theorem lanesAreShedAndRejoinAndBundlesStop : Obligations.LanesAreShedAndRejoinAndBundlesStop := by
  refine fun t b => ⟨fun l at' => ⟨?_, ?_, ?_⟩, fun src l => ⟨?_, ?_, ?_, ?_⟩, ?_, fun isB since => ⟨?_, ?_⟩, fun src => ⟨?_, ?_, ?_, ?_, ?_⟩⟩
  · refine Runs.of (fun s => s.shedRound b.val) (fun _ => rfl) fun s ⟨⟨many, runs⟩, asked, due, some'⟩ => ?_
    have sheds := State.shedRound_sheds (bundleKnown many b) l.isLt runs asked due (by rwa [lessLanes_eq])
    rwa [lessLanes_eq] at sheds
  · refine Runs.of (fun s => s.shedRound b.val) (fun _ => rfl) fun s ⟨⟨_, runs⟩, asked, due, none'⟩ => ?_
    exact State.shedRound_retrains runs asked due (by rwa [lessLanes_eq])
  · refine Runs.of (fun s => s.rejoinRound b.val) (fun _ => rfl) fun s ⟨⟨many, runs⟩, asked, due, out⟩ => ?_
    have joins := State.rejoinRound_joins (bundleKnown many b) l.isLt runs asked due out
    rwa [moreLanes_eq] at joins
  · refine Runs.managed (fun s => (s.laneNamed b.val l.val).askShed b.val l.val) (fun _ => rfl)
      fun s ⟨⟨many, runs⟩, may, below, carries, fresh⟩ => ⟨may, ?_⟩
    exact State.laneNamed_sheds (bundleKnown many b) runs below carries fresh
  · refine Runs.managed (fun s => (s.laneNamed b.val l.val).askShed b.val l.val) (fun _ => rfl) fun s ⟨may, no⟩ => ⟨may, ?_⟩
    rw [State.askShed_refuses (by rwa [s.laneNamed_lanesOf])]
    exact ⟨State.setF_eg _ _ _ _, s.laneNamed_lane b.val l.isLt⟩
  · refine Runs.managed (fun s => (s.laneNamed b.val l.val).rejoinCmd b.val l.val) (fun _ => rfl)
      fun s ⟨⟨many, runs⟩, may, below, locked, out, gone, fresh⟩ => ⟨may, ?_⟩
    exact State.laneNamed_rejoins (bundleKnown many b) runs below locked out gone fresh
  · refine Runs.managed (fun s => (s.laneNamed b.val l.val).rejoinCmd b.val l.val) (fun _ => rfl) fun s ⟨may, unlocked⟩ => ⟨may, ?_⟩
    rw [State.laneNamed_refuses unlocked]
    exact ⟨State.setF_eg _ _ _ _, s.laneNamed_lane b.val l.isLt⟩
  · refine Runs.of (fun s => s.blindTimeout b.val) (fun _ => rfl) fun s ⟨⟨many, runs⟩, silent⟩ => ?_
    have blind : s.blindTimeout b.val = s.becomeBlind b.val := if_pos ⟨runs, silent⟩
    have known := bundleKnown many b
    obtain ⟨shown, replay, counted⟩ := State.becomeBlind_shows known
    rw [blind]
    exact ⟨s.bunState_becomeBlind _, s.lanesOf_becomeBlind _, s.becomeBlind_bun b.val Bundle.replay (fun _ _ _ => rfl) known,
      s.becomeBlind_bun b.val Bundle.due (fun _ _ _ => rfl) known, s.becomeBlind_bun b.val Bundle.feBlind (fun _ _ _ => rfl) known,
      shown, replay, counted⟩
  · exact Runs.of (fun s => s.creditStall b.val isB) (fun _ => rfl) fun s ⟨many, waits, from', long⟩ =>
      State.creditStall_shows (bundleKnown many b) waits from' long
  · exact Runs.of (fun s => s.creditStall b.val isB) (fun _ => rfl) fun s ⟨many, free⟩ => State.creditStall_ends (bundleKnown many b) free
  · refine Runs.managed (fun s => s.bunStop b.val) (fun _ => rfl) fun s ⟨many, may, active, quiet, due⟩ => ⟨may, ?_⟩
    rw [State.bunStop_stops active quiet due]
    exact ⟨(State.flag_stopNow _ _ _).trans (s.stopSet_flag _ _), State.stopNow_stops (bundleKnown many b)⟩
  · refine Runs.managed (fun s => s.bunStop b.val) (fun _ => rfl) fun s ⟨may, waits⟩ => ⟨may, ?_⟩
    rw [State.bunStop_waits waits]
    exact ⟨s.stopSet_flag _ _, State.setB_eg _ _ _ _, s.stopSet_bunState _ _⟩
  · refine Runs.managed (fun s => s.bunGo b.val) (fun _ => rfl) fun s ⟨may, other⟩ => ⟨may, ?_⟩
    rw [State.bunGo_idle other]
    exact ⟨s.stopSet_flag _ _, State.setB_eg _ _ _ _⟩
  · refine Runs.managed (fun s => s.bunGo b.val) (fun _ => rfl) fun s ⟨many, may, stopped, moored⟩ => ⟨may, ?_⟩
    obtain ⟨exits, state, flags⟩ := State.exitCause_exits (s := s.stopSet b.val false) (bundleKnown many b)
    rw [State.bunGo_moored stopped moored]
    exact ⟨(flags _).trans (s.stopSet_flag _ _), exits, state⟩
  · exact Runs.managed (fun s => s.bunGo b.val) (fun _ => rfl) fun s ⟨many, may, stopped, sails⟩ =>
      ⟨may, State.bunGo_runs (bundleKnown many b) stopped sails⟩

end Sys2Proof.Machine
